-- ==== Sys2Proof/Word.lean ====
section
/-! DEFINITION. The words of the part (00 R7: bytes, 16-, 32- and 64-bit words, little-endian) and the operand types of
the commands: what the environment hands the block with a command. -/

namespace Sys2Proof

abbrev Byte := BitVec 8
abbrev W16 := BitVec 16
abbrev W32 := BitVec 32
abbrev W64 := BitVec 64
abbrev Bytes := List Byte

/-- A docent register number (05 R153: G0 to G31). -/
abbrev R5 := BitVec 5

/-- A PCIe function: 0 is PF0, n is VF n, 1 to 255 (14 R434). -/
abbrev Fn := Fin 256
/-- A hub die, H0 or H1 (01 R18). -/
abbrev Hub := Fin 2
/-- A wing, 0 to 15 (02 R39). -/
abbrev WingIx := Fin 16
/-- A cell, 0 to 7 (01 R18). -/
abbrev Cell := Fin 8
/-- A memory stack, 0 to 7 (11 R340). -/
abbrev StackIx := Fin 8
/-- A half-cell, 0 to 15: half-cell h is half h mod 2 of cell h / 2 (02 R39). -/
abbrev HcIx := Fin 16
/-- A docent: cell × 5 + position, position 4 being the spare D4 (01 R34). -/
abbrev DocIx := Fin 40
/-- A device queue slot (04 R110). -/
abbrev QueIx := Fin 4096
/-- A catalogue of a wing (06 R169). -/
abbrev CatIx := Fin 8
/-- A table record, by its device-wide number (06 R172). -/
abbrev TabIx := Fin 65536
/-- A stream engine: half-cell × 8 + engine (10 R313). -/
abbrev EngIx := Fin 128
/-- A memory extent of 1 GiB (02 R39). -/
abbrev ExtIx := Fin 384
/-- A network flow (14 R453). -/
abbrev FlowIx := Fin 16384

/-- What host memory answers to the reads that one command makes: address and byte; an address not listed answers 0.
Host memory is outside the part (DESIGN CHOICE, log entry 6). -/
abbrev HostMem := List (Nat × Byte)

/-- An arbiter among docents (05 R166): a matrix unit (08 R275), a vector engine or a reduction unit of a cell (09 R280,
R304), a stream engine (10 R313), or one wing's share of a gather engine's input port (06 R191). A round ends a burst: with it
comes how far the burst brought the granted work, which is the rows a vector or reduction descriptor has walked in it, or the
lines a stream has moved, with what host memory answered to it (DESIGN CHOICE, log entry 73). -/
inductive ArbIx where
  | mu (u : Fin 40)
  | ve (c : Cell) (rows : Nat)
  | ru (c : Cell) (rows : Nat)
  | strm (e : EngIx) (lines : Nat) (hm : HostMem)
  | gpe (g : Fin 16) (w : WingIx)
  deriving DecidableEq, Repr

/-- An access of a hub to the plinth: which hub, and whether it succeeds (03 R103). -/
structure PlinthUse where
  hub : Hub
  ok : Bool
  deriving DecidableEq, Repr

/-- What an SRAM answers (12 R372): a clean granule, one that is corrected, or one that cannot be. The number is the granule
(12 R373); where a structure of a unit is not named by the event, it counts through the unit's structures. -/
inductive Sram where
  | clean
  | corrected
  | bad (granule : Nat)
  deriving DecidableEq, Repr

/-- What the SRAMs of a docent answer to its load and to the execution that follows (05 R144): the load's own answer, and for a
word of the program what the docent's SRAMs answer when it comes to execute it (DESIGN CHOICE, log entry 74). -/
structure DocSram where
  load : Sram
  upsets : List (Nat × Sram)
  deriving DecidableEq, Repr

/-- What the read of a row meets (12 R372): nothing; a corrected error; a line of the row that cannot be read, with the cache
granule; a directory entry that one copy, or neither, holds right; or the buffers of the gather engine. -/
inductive RowSram where
  | clean
  | corrected
  | line (granule : Nat)
  | dirOne (granule : Nat)
  | dirBoth (granule : Nat)
  | gpe (granule : Nat)
  deriving DecidableEq, Repr

/-- How a contribution arrives at its receiver (12 R387): as its producer formed it, or with these payload bytes and this digest. -/
inductive Carried where
  | intact
  | altered (data : Bytes) (digest : W64)
  deriving DecidableEq, Repr

/-- What the checking unit makes of a pass (12 R372, R378): the pass product that the origin's operands give, another one, or
none, since its check accumulator cannot be read. -/
inductive CheckRun where
  | agrees
  | product (b : Bytes)
  | bad (granule : Nat)
  deriving DecidableEq, Repr

/-- A hub whose firmware starts again (03 R103, 12 R372): by its watchdog, or since its memory cannot be read. -/
structure CuratorStop where
  hub : Hub
  mem : Sram
  deriving DecidableEq, Repr

/-- What a fabric packet carries beside its fields: whether a Curator sent it (03 R99), and what the port's buffer made of its
flits (12 R372). -/
structure PacketMark where
  curator : Bool
  flit : Sram
  deriving DecidableEq, Repr

/-- Who made the access to host memory that the host or its translation answers (11 R363): the submission ring of a queue
(04 R118), the image of a request (05 R148), a stream engine (10 R320), an update engine (07 R226), a docent's LDA
(05 R154), or the slots of a flow (14 R454, R455). -/
inductive HostReader where
  | queue (q : QueIx)
  | image (req : Nat)
  | strm (e : EngIx)
  | update (w : WingIx) (c : CatIx)
  | docent (d : DocIx)
  | flow (f : FlowIx)
  deriving DecidableEq, Repr

/-- A field of PCIe configuration space that a configuration write sets (14 R435, R444, 11 R361, R364). -/
inductive PcieField where
  | memSpace | busMaster | vfEnable | vfMse | numVfs | msixEnable | functionMask | ats | pasid | pri
  deriving DecidableEq, Repr

/-- The header of a Ranri frame, as far as the receiver uses it (13 R397): its sequence number, the last frame that it acknowledges, and
a frame that the partner asks for again. -/
structure FrameHead where
  seq : W32
  ack : Option W32
  again : Option W32
  deriving DecidableEq, Repr

/-- One fiber of a link die in one direction (13 R397): transmitting, or `receive`. -/
structure LaneFiber where
  receive : Bool
  fiber : Fin 34
  deriving DecidableEq, Repr

/-- What a message about the lease says (13 R415, R420): who holds it (2 for none), that the partner asks to acquire it, or that the
partner refuses that since a catalogue is COMMITTING. -/
inductive LeaseSays where
  | holds (pos : Fin 3)
  | asks
  | refuses
  deriving DecidableEq, Repr

/-- The bags of a partner's lookups, and the SEQ of its request (13 R409, 12 R387). -/
structure RemoteBags where
  count : Nat
  seq : W64
  deriving DecidableEq, Repr

/-- What a partner reports of one paired catalogue at step 5 of training (13 R425). -/
structure PeerCat where
  wing : WingIx
  cat : CatIx
  v : W32
  termOfV : W32
  isOpen : Bool
  /-- the partner, as holder, committed its V under R423 -/
  declared : Bool
  deriving DecidableEq, Repr

/-- The answer to a translation request: the page asked for, and the page that the host translates it to (11 R362, R363). -/
structure AtsPage where
  page : W64
  dest : W64
  deriving DecidableEq, Repr

/-- The scope of an ATS invalidation: every address or a range, of one PASID or of requests without one (11 R362). -/
structure AtsScope where
  all : Bool
  pasid : Option (BitVec 20)
  deriving DecidableEq, Repr

/-- What training finds and the partner reports (13 R400 steps 2, 3 and 5). -/
structure PeerInfo where
  major : Nat
  pairId : W32
  pos : Bool
  /-- the partner's entry list: wing, catalogue, mode (13 R394) -/
  entries : List (Nat × Nat × Nat)
  /-- link dies trained -/
  up0 : Bool
  up1 : Bool
  /-- failed lanes found by training: die, fiber, wavelength (13 R398) -/
  badLanes : List (Hub × LaneFiber × Fin 8)
  /-- the time offset that step 4 measures: position 1 minus position 0 (13 R403) -/
  ofs : Int
  term : W32
  /-- holder position at that term; 2 for none -/
  holder : Fin 3
  expiry : W64
  cats : List PeerCat
  deriving DecidableEq, Repr

/-- The kinds of received Ethernet frame that 14 R450 to R453 tell apart. -/
inductive EthBody where
  | arp (ip : BitVec 128)
  | neighborSolicit (ip : BitVec 128)
  /-- a priority flow control frame: XOFF (true) or XON of one priority -/
  | pause (prio : Fin 8) (xoff : Bool)
  /-- a RoCEv2 operation other than the SENDs, acknowledgments and CNPs that have rows of their own -/
  | roceOther (qpn : BitVec 24) (ce : Bool)
  /-- UDP to LOCAL_IP:LOCAL_UDP from the witness (13 R416) -/
  | witness (payload : Bytes)
  | other
  deriving DecidableEq, Repr

/-- A received frame: its length, its priority, and what it is. `free` is how many bytes of the priority's buffer
have been consumed since the previous frame of that priority. -/
structure EthFrame where
  len : Nat
  prio : Fin 8
  free : Nat
  body : EthBody
  deriving DecidableEq, Repr

/-- A vent record on its way to the primary (17 R525): the fields its producer fills. -/
structure VentRec where
  time : W64
  kind : W16
  sev : Byte
  resent : Bool
  wing : Byte
  die : Byte
  island : Byte
  code : Byte
  d0 : W64
  d1 : W64
  d2 : W64
  d3 : W64
  deriving DecidableEq, Repr

end Sys2Proof
end

