-- ==== Sys2Proof/Syntax.lean ====
section
/-! DEFINITION. The commands of the block: one constructor per row of spec/opcode_table.json, with its operands.
The operands of an SCP command are the function and the hub of its mailbox, its TAG, the WING field of its header and its
payload (03 R83); those of an Ozol instruction are the docent that executes it and the fields of its word (05 R154). -/

namespace Sys2Proof

inductive Instr where
  -- Registers (file Registers)
  /-- REGISTER_WRITE (R9) -/
  | registerWrite (fn : Fn) (off : BitVec 24) (wide : Bool) (val : W64) (tee : Bool)
  /-- BAR0_READ (R63) -/
  | bar0Read (fn : Fn) (off : BitVec 24) (wide tee : Bool)
  -- Fabric
  /-- FABRIC_PACKET_RECEIVE (R25) -/
  | fabricPacketReceive (port : Fin 62) (cls kind : Fin 5) (index : Fin 16384) (gen : W16) (src : Fin 20) (mark : PacketMark) (term : W32) (req : Nat)
  /-- STALE_BINDING_REPLY (R58) -/
  | staleBindingReply (wing : WingIx) (req : Nat)
  /-- LANE_FAULT (R26) -/
  | laneFault (link : Fin 31) (lane : Fin 2048)
  /-- SPARE_SUBSTITUTION (R34) -/
  | spareSubstitution (cell : Cell) (docent : Bool) (pos : Fin 4)
  -- Wings
  /-- WING_REBIND (R46) -/
  | wingRebind (fn : Fn) (hub : Hub) (tag : W32) (wing : Byte) (payload : Bytes)
  /-- REBIND_DRAIN_DONE (R50) -/
  | rebindDrainDone (fn : Fn) (hub : Hub) (bad : List HcIx)
  /-- DRAIN_TIMEOUT (R52) -/
  | drainTimeout (fn : Fn) (hub : Hub) (wing : Option WingIx)
  /-- WING_GRANT (R48) -/
  | wingGrant (fn : Fn) (hub : Hub) (tag : W32) (wing : Byte) (payload : Bytes)
  /-- WING_QUERY (R49) -/
  | wingQuery (fn : Fn) (hub : Hub) (tag : W32) (wing : Byte) (payload : Bytes)
  /-- VIOLATION_SUMMARY (R65) -/
  | violationSummary (wing : Fin 17) (kind : Fin 7)
  /-- WING_ENABLE (R69) -/
  | wingEnable (fn : Fn) (wing : WingIx)
  /-- WING_APPLY (R70) -/
  | wingApply (fn : Fn) (wing : WingIx)
  /-- WING_DISABLE (R71) -/
  | wingDisable (fn : Fn) (wing : WingIx)
  /-- WING_DRAIN_DONE (R71) -/
  | wingDrainDone (wing : WingIx)
  /-- WING_CHECK_DONE (R69) -/
  | wingCheckDone (wing : WingIx)
  -- Curator
  /-- MBX_GO (R87) -/
  | mbxGo (fn : Fn) (hub : Hub)
  /-- COMMAND_TIMEOUT (R90) -/
  | commandTimeout (fn : Fn) (hub : Hub)
  /-- HELLO (R85) -/
  | hello (fn : Fn) (hub : Hub) (tag : W32) (wing : Byte) (payload : Bytes)
  /-- AUTH_QUERY (R107) -/
  | authQuery (fn : Fn) (hub : Hub) (tag : W32) (wing : Byte) (payload : Bytes)
  /-- AUTH_HANDOVER (R106) -/
  | authHandover (fn : Fn) (hub : Hub) (tag : W32) (wing : Byte) (payload : Bytes)
  /-- HEARTBEAT_TIMER (R103) -/
  | heartbeatTimer (hub : Hub) (ok : Bool)
  /-- HEARTBEAT_RECEIVE (R103) -/
  | heartbeatReceive (hub : Hub) (term : W32)
  /-- HEARTBEAT_SLOT (R103) -/
  | heartbeatSlot (use : PlinthUse)
  /-- BEAT_CONFIRM_TIMER (R103) -/
  | beatConfirmTimer (hub : Hub) (ok : Bool)
  /-- TERM_ADVANCE_ACK (R100) -/
  | termAdvanceAck (port : Fin 62)
  /-- TERM_ADVANCE_TIMEOUT (R104) -/
  | termAdvanceTimeout (port : Fin 62)
  /-- REBUILD_DONE (R105) -/
  | rebuildDone (hub : Hub)
  /-- TERM_STALE_REPLY (R103) -/
  | termStaleReply (hub : Hub) (term : W32)
  /-- FENCE_DONE (R103) -/
  | fenceDone (use : PlinthUse)
  /-- NO_AUTHORITY_TIMEOUT (R108) -/
  | noAuthorityTimeout
  -- Queues
  /-- QUE_SQ_DB (R116) -/
  | queSqDb (fn : Fn) (slot : QueIx) (tail : W16)
  /-- QUE_CQ_DB (R123) -/
  | queCqDb (fn : Fn) (slot : QueIx) (head : W16)
  /-- QUE_SEL_WRITE (R112) -/
  | queSelWrite (fn : Fn) (slot : QueIx)
  /-- QUEUE_ENABLE (R114) -/
  | queueEnable (fn : Fn)
  /-- QUEUE_DISABLE (R115) -/
  | queueDisable (fn : Fn)
  /-- QUEUE_DRAIN_DONE (R115) -/
  | queueDrainDone (que : QueIx)
  /-- QUEUE_RESUME (R126) -/
  | queueResume (fn : Fn)
  /-- QUEUE_ENABLE_EVAL_DONE (R114) -/
  | queueEnableEvalDone (que : QueIx) (xlat : Bool)
  /-- ENTRY_FETCH (R120) -/
  | entryFetch (que : QueIx) (entry : Bytes) (hm : HostMem)
  /-- IMAGE_VALIDATED (R149) -/
  | imageValidated (req : Nat) (hm : HostMem)
  /-- REQUEST_DISPATCH (R131) -/
  | requestDispatch (wing : WingIx)
  /-- REQUEST_END (R159) -/
  | requestEnd (req : Nat)
  /-- COMPLETION_WRITE (R134) -/
  | completionWrite (que : QueIx)
  /-- IRQ_COALESCE_TIMEOUT (R127) -/
  | irqCoalesceTimeout (que : QueIx)
  /-- REPLY_READ_RETURN (R136) -/
  | replyReadReturn (que : QueIx) (hm : HostMem)
  /-- FENCE_TIMEOUT (R138) -/
  | fenceTimeout (req : Nat)
  -- Ozol
  /-- DOCENT_LOAD_DONE (R143) -/
  | docentLoadDone (doc : DocIx) (sram : DocSram)
  /-- NOP (R154) -/
  | ozNop (doc : DocIx)
  /-- END (R154) -/
  | ozEnd (doc : DocIx)
  /-- SYNC (R326) -/
  | ozSync (doc : DocIx) (point : BitVec 12)
  /-- BARRIER (R158) -/
  | ozBarrier (doc : DocIx) (n : BitVec 8)
  /-- PRIO (R165) -/
  | ozPrio (doc : DocIx) (p : BitVec 3)
  /-- ADD (R154) -/
  | ozAdd (doc : DocIx) (rd ra rb : R5)
  /-- SUB (R154) -/
  | ozSub (doc : DocIx) (rd ra rb : R5)
  /-- AND (R154) -/
  | ozAnd (doc : DocIx) (rd ra rb : R5)
  /-- OR (R154) -/
  | ozOr (doc : DocIx) (rd ra rb : R5)
  /-- XOR (R154) -/
  | ozXor (doc : DocIx) (rd ra rb : R5)
  /-- SHL (R154) -/
  | ozShl (doc : DocIx) (rd ra rb : R5)
  /-- SHR (R154) -/
  | ozShr (doc : DocIx) (rd ra rb : R5)
  /-- SAR (R154) -/
  | ozSar (doc : DocIx) (rd ra rb : R5)
  /-- MUL (R154) -/
  | ozMul (doc : DocIx) (rd ra rb : R5)
  /-- MINU (R154) -/
  | ozMinu (doc : DocIx) (rd ra rb : R5)
  /-- MAXU (R154) -/
  | ozMaxu (doc : DocIx) (rd ra rb : R5)
  /-- SLTU (R154) -/
  | ozSltu (doc : DocIx) (rd ra rb : R5)
  /-- SLT (R154) -/
  | ozSlt (doc : DocIx) (rd ra rb : R5)
  /-- ADDI (R154) -/
  | ozAddi (doc : DocIx) (rd ra : R5) (imm : W32)
  /-- ANDI (R154) -/
  | ozAndi (doc : DocIx) (rd ra : R5) (imm : W32)
  /-- ORI (R154) -/
  | ozOri (doc : DocIx) (rd ra : R5) (imm : W32)
  /-- XORI (R154) -/
  | ozXori (doc : DocIx) (rd ra : R5) (imm : W32)
  /-- SHLI (R154) -/
  | ozShli (doc : DocIx) (rd ra : R5) (sh : BitVec 6)
  /-- SHRI (R154) -/
  | ozShri (doc : DocIx) (rd ra : R5) (sh : BitVec 6)
  /-- SARI (R154) -/
  | ozSari (doc : DocIx) (rd ra : R5) (sh : BitVec 6)
  /-- MOVHI (R154) -/
  | ozMovhi (doc : DocIx) (rd ra : R5) (imm : W32)
  /-- MOVI (R154) -/
  | ozMovi (doc : DocIx) (rd : R5) (imm : W32)
  /-- JMP (R154) -/
  | ozJmp (doc : DocIx) (target : BitVec 14)
  /-- BEQ (R154) -/
  | ozBeq (doc : DocIx) (ra rb : R5) (target : BitVec 14)
  /-- BNE (R154) -/
  | ozBne (doc : DocIx) (ra rb : R5) (target : BitVec 14)
  /-- BLTU (R154) -/
  | ozBltu (doc : DocIx) (ra rb : R5) (target : BitVec 14)
  /-- BGEU (R154) -/
  | ozBgeu (doc : DocIx) (ra rb : R5) (target : BitVec 14)
  /-- BLT (R154) -/
  | ozBlt (doc : DocIx) (ra rb : R5) (target : BitVec 14)
  /-- BGE (R154) -/
  | ozBge (doc : DocIx) (ra rb : R5) (target : BitVec 14)
  /-- LOOP (R154) -/
  | ozLoop (doc : DocIx) (ra : R5) (target : BitVec 14)
  /-- CALL (R154) -/
  | ozCall (doc : DocIx) (target : BitVec 14)
  /-- RET (R154) -/
  | ozRet (doc : DocIx)
  /-- JR (R160) -/
  | ozJr (doc : DocIx) (ra : R5)
  /-- LDA (R154) -/
  | ozLda (doc : DocIx) (rd ra : R5) (imm : W32)
  /-- LDA_DATA_RETURN (R154) -/
  | ldaDataReturn (doc : DocIx) (hm : HostMem)
  /-- LDC (R154) -/
  | ozLdc (doc : DocIx) (rd ra : R5) (imm : W32)
  /-- LDS (R154) -/
  | ozLds (doc : DocIx) (rd ra : R5) (imm : W32)
  /-- STS (R154) -/
  | ozSts (doc : DocIx) (ra rb : R5) (imm : W32)
  /-- RDSR (R153) -/
  | ozRdsr (doc : DocIx) (rd : R5) (sel : BitVec 4)
  /-- DLD (R154) -/
  | ozDld (doc : DocIx) (slot : BitVec 3) (cindex : W16)
  /-- DSET (R154) -/
  | ozDset (doc : DocIx) (ra : R5) (slot word : BitVec 3)
  /-- MMUL (R257) -/
  | ozMmul (doc : DocIx) (rd : R5) (slot unit : BitVec 3)
  /-- VEC (R293) -/
  | ozVec (doc : DocIx) (rd : R5) (slot unit : BitVec 3)
  /-- RED (R298) -/
  | ozRed (doc : DocIx) (rd : R5) (slot unit : BitVec 3)
  /-- STRM (R316) -/
  | ozStrm (doc : DocIx) (rd : R5) (slot unit : BitVec 3)
  /-- GPEB (R186) -/
  | ozGpeb (doc : DocIx) (rd : R5) (slot unit : BitVec 3)
  /-- WAIT (R154) -/
  | ozWait (doc : DocIx) (ra : R5)
  /-- WAITALL (R154) -/
  | ozWaitall (doc : DocIx)
  /-- POLL (R154) -/
  | ozPoll (doc : DocIx) (rd ra : R5)
  /-- DOCENT_FAULT_REPORT (R161) -/
  | docentFaultReport (doc : DocIx)
  /-- WATCHDOG_EXPIRY (R163) -/
  | watchdogExpiry (doc : DocIx)
  /-- ARBITER_ROUND (R166) -/
  | arbiterRound (arb : ArbIx)
  -- Catalogues
  /-- CAT_TABLE_CREATE (R173) -/
  | catTableCreate (fn : Fn) (hub : Hub) (tag : W32) (wing : Byte) (payload : Bytes)
  /-- TABLE_CREATE_CLEAR_DONE (R173) -/
  | tableCreateClearDone (table : TabIx)
  /-- CAT_TABLE_DELETE (R177) -/
  | catTableDelete (fn : Fn) (hub : Hub) (tag : W32) (wing : Byte) (payload : Bytes)
  /-- TABLE_STORAGE_CLEAR (R176) -/
  | tableStorageClear (table : TabIx)
  /-- TABLE_STORAGE_CLEAR_DONE (R176) -/
  | tableStorageClearDone (table : TabIx)
  /-- CAT_PIN (R199) -/
  | catPin (fn : Fn) (hub : Hub) (tag : W32) (wing : Byte) (payload : Bytes)
  /-- CAT_UNPIN (R199) -/
  | catUnpin (fn : Fn) (hub : Hub) (tag : W32) (wing : Byte) (payload : Bytes)
  /-- GPE_ROW_READ_DONE (R193) -/
  | gpeRowReadDone (doc : DocIx) (ticket : W16) (lookup : W32) (err : RowSram)
  /-- PARTIAL_RECEIVE (R189) -/
  | partialReceive (doc : DocIx) (ticket : W16) (bag : Fin 65536) (gpos : Fin 16) (remote : Bytes) (digestOk : Carried)
  /-- GPE_BATCH_DONE (R189) -/
  | gpeBatchDone (doc : DocIx) (ticket : W16) (digestOk : List (Nat × Carried))
  -- Updates
  /-- CAT_UPD_ENABLE (R221) -/
  | catUpdEnable (fn : Fn) (wing : WingIx) (cat : CatIx) (xlat : Bool)
  /-- CAT_UPD_DISABLE (R221) -/
  | catUpdDisable (fn : Fn) (wing : WingIx) (cat : CatIx)
  /-- CAT_UPD_RESUME (R226) -/
  | catUpdResume (fn : Fn) (wing : WingIx) (cat : CatIx)
  /-- CAT_UPD_TAIL (R222) -/
  | catUpdTail (fn : Fn) (wing : WingIx) (cat : CatIx) (count : W64)
  /-- UPDATE_RECORD_APPLY (R225) -/
  | updateRecordApply (wing : WingIx) (cat : CatIx) (hm : HostMem) (sram : Sram)
  /-- UPDATE_RECORD_DONE (R223) -/
  | updateRecordDone (wing : WingIx) (cat : CatIx)
  /-- VERSION_RECLAIM (R216) -/
  | versionReclaim (table : TabIx) (row : W32)
  /-- EPOCH_OPEN (R228) -/
  | epochOpen (fn : Fn) (hub : Hub) (tag : W32) (wing : Byte) (payload : Bytes)
  /-- EPOCH_COMMIT (R230) -/
  | epochCommit (fn : Fn) (hub : Hub) (tag : W32) (wing : Byte) (payload : Bytes)
  /-- EPOCH_COMMIT_TIMEOUT (R230) -/
  | epochCommitTimeout (wing : WingIx) (cat : CatIx)
  /-- EPOCH_RETIRE (R235) -/
  | epochRetire (fn : Fn) (hub : Hub) (tag : W32) (wing : Byte) (payload : Bytes)
  /-- EPOCH_RETIRE_TIMEOUT (R236) -/
  | epochRetireTimeout (wing : WingIx) (cat : CatIx)
  /-- DISCARD_RESTORE_DONE (R234) -/
  | discardRestoreDone (wing : WingIx) (cat : CatIx)
  /-- STALL_FORCED_RETIRE (R238) -/
  | stallForcedRetire (wing : WingIx) (cat : CatIx)
  /-- PAIR_RECORD_RECEIVE (R241) -/
  | pairRecordReceive (wing : WingIx) (cat : CatIx) (epoch : W32) (head : W64) (record : Bytes) (digestOk : Carried)
  /-- PAIR_RECORD_ACK (R243) -/
  | pairRecordAck (wing : WingIx) (cat : CatIx) (head : W64) (ok : Bool)
  /-- PARTNER_COMMIT_REQUEST (R244) -/
  | partnerCommitRequest (wing : WingIx) (cat : CatIx) (epoch : W32) (discard : Bool) (term : W32)
  /-- PARTNER_COMMIT_REPLY (R244) -/
  | partnerCommitReply (wing : WingIx) (cat : CatIx) (epoch : W32) (visTs : W64) (oldest : W32)
  -- Matrix
  /-- MATRIX_DESCRIPTOR_DONE (R250) -/
  | matrixDescriptorDone (unit : Fin 40) (err : Sram) (bad : Sram)
  /-- DUPLICATE_VERDICT (R381) -/
  | duplicateVerdict (unit : Fin 40) (verdict : CheckRun)
  /-- MISMATCH_DECAY (R383) -/
  | mismatchDecay (unit : Fin 40)
  -- Vector
  /-- VECTOR_DESCRIPTOR_DONE (R297) -/
  | vectorDescriptorDone (cell : Cell) (err : Sram) (bad : Sram)
  /-- REDUCTION_DESCRIPTOR_DONE (R301) -/
  | reductionDescriptorDone (cell : Cell) (err : Sram) (bad : Sram)
  -- Streams
  /-- TILE_DELIVERED (R321) -/
  | tileDelivered (eng : EngIx) (hm : HostMem)
  /-- STREAM_DESCRIPTOR_DONE (R318) -/
  | streamDescriptorDone (eng : EngIx)
  /-- STREAM_PAGE_FAULT (R331) -/
  | streamPageFault (eng : EngIx) (hm : HostMem)
  /-- SCHEDULE_INTERVAL_EXPIRY (R327) -/
  | scheduleIntervalExpiry (doc : DocIx)
  /-- WCET_EXPIRY (R327) -/
  | wcetExpiry (req : Nat)
  /-- BUBBLE_STARTUP_TIMEOUT (R329) -/
  | bubbleStartupTimeout (wing : WingIx)
  /-- CHECKPOINT_STOP_TIMEOUT (R335) -/
  | checkpointStopTimeout (req : Nat)
  /-- CHECKPOINT_COPY_DONE (R335) -/
  | checkpointCopyDone (req : Nat)
  /-- CHECKPOINT_RESUME (R337) -/
  | checkpointResume (wing : WingIx)
  -- Memory
  /-- DRAM_TEMP_SAMPLE (R343) -/
  | dramTempSample (stack : StackIx) (temps : List Nat)
  /-- BANK_REFRESH (R343) -/
  | bankRefresh (stack : StackIx) (pc : Fin 32) (bank : Fin 64)
  /-- DRAM_LINE_READ (R348) -/
  | dramLineRead (addr : BitVec 39) (errs : Fin 3) (tagOk : Bool)
  /-- DRAM_LINE_WRITE (R347) -/
  | dramLineWrite (addr : BitVec 39) (data : Bytes) (errs : Fin 3)
  /-- ROLLOVER_KEY_LOADED (R347) -/
  | rolloverKeyLoaded (ext : ExtIx)
  /-- ROLLOVER_KEY_TIMEOUT (R347) -/
  | rolloverKeyTimeout (ext : ExtIx)
  /-- ROLLOVER_SWEEP_DONE (R347) -/
  | rolloverSweepDone (ext : ExtIx)
  /-- PATROL_SCRUB (R349) -/
  | patrolScrub (addr : BitVec 39) (errs : Fin 3)
  /-- TRANSLATION_SYNC (R358) -/
  | translationSync (fn : Fn) (hub : Hub) (tag : W32) (wing : Byte) (payload : Bytes)
  /-- WALK_COMPLETE (R354) -/
  | walkComplete (loc : Fin 10) (wing : WingIx) (va : BitVec 48) (write : Bool)
  /-- ATS_INVALIDATE (R362) -/
  | atsInvalidate (fn : Fn) (addr bytes : W64) (global : AtsScope)
  /-- ATS_TRANSLATION_COMPLETION (R363) -/
  | atsTranslationCompletion (fn : Fn) (page : AtsPage) (rd wr need : Bool) (who : HostReader)
  /-- HOST_ERROR_COMPLETION (R363) -/
  | hostErrorCompletion (who : HostReader) (poisoned : Bool)
  /-- PRI_RESPONSE (R364) -/
  | priResponse (fn : Fn) (page : BitVec 48) (code : Fin 3)
  /-- PRI_TIMEOUT (R364) -/
  | priTimeout (fn : Fn) (page : BitVec 48)
  /-- BAR2_ACCESS (R366) -/
  | bar2Access (fn : Fn) (write : Bool) (off : BitVec 39) (len : Fin 65) (data : Bytes) (tee : Bool)
  -- Integrity
  /-- SPARE_SWAP (R385) -/
  | spareSwap (fn : Fn) (hub : Hub) (tag : W32) (wing : Byte) (payload : Bytes)
  /-- QUARANTINE_CLEAR (R385) -/
  | quarantineClear (fn : Fn) (hub : Hub) (tag : W32) (wing : Byte) (payload : Bytes)
  -- Pair
  /-- PAIR_CONFIGURE (R395) -/
  | pairConfigure (fn : Fn) (hub : Hub) (tag : W32) (wing : Byte) (payload : Bytes)
  /-- PAIR_LEASE (R415) -/
  | pairLease (fn : Fn) (hub : Hub) (tag : W32) (wing : Byte) (payload : Bytes)
  /-- PAIR_STATUS (R429) -/
  | pairStatus (fn : Fn) (hub : Hub) (tag : W32) (wing : Byte) (payload : Bytes)
  /-- PAIR_RESYNC (R426) -/
  | pairResync (fn : Fn) (hub : Hub) (tag : W32) (wing : Byte) (payload : Bytes)
  /-- PAIR_RESET (R430) -/
  | pairReset (fn : Fn) (hub : Hub) (tag : W32) (wing : Byte) (payload : Bytes)
  /-- PAIR_RESET_RECEIVE (R430) -/
  | pairResetReceive (level : Fin 8)
  /-- RANRI_FRAME_RECEIVE (R397) -/
  | ranriFrameReceive (die : Hub) (seq : FrameHead) (ok : Bool)
  /-- KEEPALIVE_TICK (R399) -/
  | keepaliveTick (die : Hub)
  /-- LANE_FAILURE (R398) -/
  | laneFailure (die : Hub) (fiber : LaneFiber) (lambda : Fin 8)
  /-- LINK_DIE_DOWN (R399) -/
  | linkDieDown (die : Hub)
  /-- TRAINING_RETRY_TIMER (R399) -/
  | trainingRetryTimer
  /-- LINK_TRAINED (R400) -/
  | linkTrained (peer : PeerInfo)
  /-- TIME_OFFSET_MEASURE (R403) -/
  | timeOffsetMeasure (ofs : Int)
  /-- EPOCH_REPORT_TICK (R408) -/
  | epochReportTick
  /-- EPOCH_REPORT_RECEIVE (R408) -/
  | epochReportReceive (wing : WingIx) (cat : CatIx) (oldest : W32)
  /-- PARTNER_LOOKUP_RECEIVE (R409) -/
  | partnerLookupReceive (wing : WingIx) (table : TabIx) (epoch : W32) (bags : RemoteBags) (weighted max : Bool) (lookups : List (Nat × Nat × W32))
  /-- REMOTE_BATCH_TIMEOUT (R411) -/
  | remoteBatchTimeout (doc : DocIx) (ticket : W16)
  /-- LEASE_MESSAGE_RECEIVE (R420) -/
  | leaseMessageReceive (term : W32) (holder : LeaseSays) (expiry : W64)
  /-- LEASE_EXPIRY (R420) -/
  | leaseExpiry
  /-- WITNESS_RENEW_TIMER (R414) -/
  | witnessRenewTimer
  /-- CLAIM_DELAY_EXPIRY (R418) -/
  | claimDelayExpiry
  /-- CLAIM_TIMER (R418) -/
  | claimTimer
  /-- GRANT (R414) -/
  | witnessGrant (term : W32) (nonce : W64) (macOk : Bool)
  /-- REFUSE (R420) -/
  | witnessRefuse (term : W32) (nonce : W64) (macOk : Bool)
  /-- PARTNER_TABLE_REQUEST (R406) -/
  | partnerTableRequest (wing : WingIx) (delete : Bool) (table : TabIx) (desc : Bytes)
  /-- PARTNER_TABLE_REPLY (R406) -/
  | partnerTableReply (fn : Fn) (hub : Hub) (code : Byte)
  /-- RESYNC_ROW_RECEIVE (R428) -/
  | resyncRowReceive (wing : WingIx) (cat : CatIx) (table : TabIx) (row epoch : W32) (data : Bytes)
  /-- RESYNC_DONE (R427) -/
  | resyncDone (wing : WingIx) (cat : CatIx) (v term : W32)
  -- Host
  /-- HOST_PORT_MOVE (R447) -/
  | hostPortMove (fn : Fn) (hub : Hub) (tag : W32) (wing : Byte) (payload : Bytes)
  /-- HOST_PORT_MOVE_DRAINED (R448) -/
  | hostPortMoveDrained
  /-- HOST_LINK_DOWN (R449) -/
  | hostLinkDown (port : Hub)
  /-- HOST_LINK_UP (R449) -/
  | hostLinkUp (port : Hub)
  /-- STANDBY_PORT_RESET (R446) -/
  | standbyPortReset
  /-- MSIX_UNMASK (R444) -/
  | msixUnmask (fn : Fn) (vec : Fin 2048)
  /-- PCIE_CONFIG_WRITE (R435) -/
  | pcieConfigWrite (fn : Fn) (port : Hub) (field : PcieField) (val : W16)
  /-- DOE_DISCOVERY (R445) -/
  | doeDiscovery (fn : Fn) (index : Byte)
  /-- DOE_ABORT (R445) -/
  | doeAbort (fn : Fn)
  /-- DOE_UNSUPPORTED_OBJECT (R445) -/
  | doeUnsupportedObject (fn : Fn)
  /-- ETH_FRAME_RECEIVE (R450) -/
  | ethFrameReceive (port : Fin 2) (frame : EthFrame)
  /-- ROCE_SEND_RECEIVE (R454) -/
  | roceSendReceive (flow : FlowIx) (ce : Bool) (data : Bytes) (hm : HostMem)
  /-- ROCE_ACK_RECEIVE (R455) -/
  | roceAckReceive (flow : FlowIx) (seq : W64)
  /-- ROCE_RETRY_TIMEOUT (R456) -/
  | roceRetryTimeout (flow : FlowIx)
  /-- CNP_RECEIVE (R452) -/
  | cnpReceive (flow : FlowIx)
  /-- RATE_INCREASE_TIMER (R452) -/
  | rateIncreaseTimer (flow : FlowIx)
  /-- FLOW_MODIFY_INIT (R458) -/
  | flowModifyInit (fn : Fn)
  /-- FLOW_MODIFY_RTR (R458) -/
  | flowModifyRtr (fn : Fn)
  /-- FLOW_MODIFY_RTS (R458) -/
  | flowModifyRts (fn : Fn)
  /-- FLOW_MODIFY_RESET (R458) -/
  | flowModifyReset (fn : Fn)
  /-- FLOW_MODIFY_ERROR (R458) -/
  | flowModifyError (fn : Fn)
  /-- ETH_PCS_LOCK_CHANGE (R457) -/
  | ethPcsLockChange (port : Fin 2) (up : Bool)
  -- Security
  /-- GET_VERSION (R475) -/
  | getVersion (fn : Fn)
  /-- GET_CAPABILITIES (R475) -/
  | getCapabilities (fn : Fn)
  /-- NEGOTIATE_ALGORITHMS (R475) -/
  | negotiateAlgorithms (fn : Fn)
  /-- GET_DIGESTS (R475) -/
  | getDigests (fn : Fn)
  /-- GET_CERTIFICATE (R475) -/
  | getCertificate (fn : Fn) (slot : Fin 8)
  /-- CHALLENGE (R475) -/
  | challenge (fn : Fn) (slot : Fin 8) (nonce : Bytes)
  /-- GET_MEASUREMENTS (R476) -/
  | getMeasurements (fn : Fn) (index : Byte) (nonce : Bytes)
  /-- KEY_EXCHANGE (R475) -/
  | keyExchange (fn : Fn) (sid : W32) (anchor : BitVec 384) (both : Bool)
  /-- FINISH (R475) -/
  | finish (fn : Fn) (sid : W32) (ok : Bool)
  /-- HEARTBEAT (R475) -/
  | spdmHeartbeat (fn : Fn) (sid : W32)
  /-- KEY_UPDATE (R475) -/
  | keyUpdate (fn : Fn) (sid : W32)
  /-- END_SESSION (R475) -/
  | endSession (fn : Fn) (sid : W32)
  /-- IDE_KEY_PROGRAM (R478) -/
  | ideKeyProgram (fn : Fn) (stream : Fin 9) (keySet : Fin 2) (sub : Fin 6) (vf : Fn)
  /-- K_SET_GO (R478) -/
  | kSetGo (fn : Fn) (stream : Fin 9) (keySet : Fin 2)
  /-- IDE_INTEGRITY_FAILURE (R478) -/
  | ideIntegrityFailure (stream : Fin 9)
  /-- LOCK_INTERFACE (R479) -/
  | lockInterface (fn : Fn) (stream : Fin 8)
  /-- START_INTERFACE (R480) -/
  | startInterface (fn : Fn)
  /-- STOP_INTERFACE (R481) -/
  | stopInterface (fn : Fn)
  /-- GET_DEVICE_INTERFACE_REPORT (R479) -/
  | getDeviceInterfaceReport (fn : Fn)
  /-- VAULT_STATUS (R468) -/
  | vaultStatus (fn : Fn) (hub : Hub) (tag : W32) (wing : Byte) (payload : Bytes)
  /-- VAULT_SELFTEST (R482) -/
  | vaultSelftest (fn : Fn) (hub : Hub) (tag : W32) (wing : Byte) (payload : Bytes)
  /-- VAULT_KEY_IMPORT (R473) -/
  | vaultKeyImport (fn : Fn) (hub : Hub) (tag : W32) (wing : Byte) (payload : Bytes)
  /-- VAULT_ZEROIZE (R484) -/
  | vaultZeroize (fn : Fn) (hub : Hub) (tag : W32) (wing : Byte) (payload : Bytes)
  /-- LOG_READ (R488) -/
  | logRead (fn : Fn) (hub : Hub) (tag : W32) (wing : Byte) (payload : Bytes)
  /-- LOG_EXPORT (R489) -/
  | logExport (fn : Fn) (hub : Hub) (tag : W32) (wing : Byte) (payload : Bytes)
  /-- LOG_ACK (R490) -/
  | logAck (fn : Fn) (hub : Hub) (tag : W32) (wing : Byte) (payload : Bytes)
  /-- MODE_REQ_NON_APPROVED (R467) -/
  | modeReqNonApproved (fn : Fn)
  /-- MODE_REQ_APPROVED (R467) -/
  | modeReqApproved (fn : Fn) (fails : Byte)
  /-- VAULT_LINK_RESTORE (R463) -/
  | vaultLinkRestore
  /-- VAULT_LINK_LOSS (R463) -/
  | vaultLinkLoss
  /-- TAMPER_TRIP (R486) -/
  | tamperTrip (sensor : Fin 4)
  /-- TAMPER_CLEAR (R486) -/
  | tamperClear (fn : Fn) (bits : BitVec 5)
  /-- ENTROPY_HEALTH_FAIL (R482) -/
  | entropyHealthFail
  -- Reset
  /-- POWER_ON (R576) -/
  | powerOn (straps : BitVec 4)
  /-- PERST (R493) -/
  | perst
  /-- HOT_RESET (R493) -/
  | hotReset
  /-- FLR_PF0 (R493) -/
  | flrPf0
  /-- FLR_VF (R496) -/
  | flrVf (fn : Fn)
  /-- WING_RESET (R501) -/
  | wingReset (fn : Fn) (hub : Hub) (tag : W32) (wing : Byte) (payload : Bytes)
  /-- RESET_REQUEST (R499) -/
  | resetRequest (fn : Fn) (hub : Hub) (tag : W32) (wing : Byte) (payload : Bytes)
  /-- CURATOR_WDOG (R497) -/
  | curatorWdog (hub : CuratorStop)
  /-- DEVICE_WDOG (R497) -/
  | deviceWdog
  /-- BLOCK_RESET_IDLE (R500) -/
  | blockResetIdle (fn : Fn) (hub : Hub) (bad : List HcIx)
  /-- BLOCK_RESET_IDLE_TIMEOUT (R500) -/
  | blockResetIdleTimeout (fn : Fn) (hub : Hub)
  /-- RESET_RELEASE (R503) -/
  | resetRelease (imageOk archiveOk : Bool) (linksBad : List (Fin 31))
  /-- BOOT_COMPLETE (R547) -/
  | bootComplete (hub : Hub) (plinthOk : Bool) (selftest : Byte) (ventOk : Bool)
  /-- RST_MAP_WRITE (R494) -/
  | rstMapWrite (fn : Fn) (src : Fin 16) (val : W32)
  /-- CLOCK_MONITOR_TRIP (R508) -/
  | clockMonitorTrip (island : Fin 128)
  /-- TIMESTAMP_SYNC_TICK (R509) -/
  | timestampSyncTick
  /-- POWER_MONITOR_TICK (R513) -/
  | powerMonitorTick (pkg : Nat) (dies : List Nat)
  /-- EXCURSION_TIMEOUT (R513) -/
  | excursionTimeout
  /-- THERMAL_SAMPLE (R517) -/
  | thermalSample (temps : List (Nat × Nat))
  /-- CELL_IDLE_GATE (R515) -/
  | cellIdleGate (cell : Cell)
  /-- PF0_D3HOT_ENTRY (R514) -/
  | pf0D3hotEntry
  /-- PF0_D0_RETURN (R514) -/
  | pf0D0Return
  /-- VF_D3HOT_ENTRY (R514) -/
  | vfD3hotEntry (fn : Fn)
  /-- VF_D0_RETURN (R514) -/
  | vfD0Return (fn : Fn)
  /-- PWR_OK_FALL (R577) -/
  | pwrOkFall
  /-- RAIL_FAULT (R577) -/
  | railFault
  /-- EMBER_POWER_LOSS (R520) -/
  | emberPowerLoss
  -- Vents
  /-- VENT_RECORD_RECEIVE (R530) -/
  | ventRecordReceive (rec : VentRec) (producer : Nat)
  /-- ALARM_CREDIT_RETURN (R527) -/
  | alarmCreditReturn
  /-- STORM_ACCUMULATOR_CLOSE (R531) -/
  | stormAccumulatorClose (acc : Fin 64)
  /-- VENT_CONFIGURE (R535) -/
  | ventConfigure (fn : Fn) (hub : Hub) (tag : W32) (wing : Byte) (payload : Bytes)
  /-- VENT_STATUS (R536) -/
  | ventStatus (fn : Fn) (hub : Hub) (tag : W32) (wing : Byte) (payload : Bytes)
  /-- VENT_TRACE_WINDOW (R532) -/
  | ventTraceWindow (fn : Fn) (hub : Hub) (tag : W32) (wing : Byte) (payload : Bytes)
  /-- TRACE_WINDOW_START (R532) -/
  | traceWindowStart (win : W32)
  /-- TRACE_WINDOW_END (R533) -/
  | traceWindowEnd (win : W32) (recs : List Bytes) (lost : Bool)
  /-- VNT_RING_HEAD_WRITE (R536) -/
  | vntRingHeadWrite (fn : Fn) (vent : Fin 3) (head : W64)
  /-- VENT_MEMORY_FAIL (R537) -/
  | ventMemoryFail (cause : Fin 4)
  /-- ALARM_UNACKED_TIMEOUT (R541) -/
  | alarmUnackedTimeout
  /-- LW_CLEAR (R542) -/
  | lwClear (fn : Fn)
  /-- VENT_WRITE_ACCEPTED (R536) -/
  | ventWriteAccepted (vent : Fin 3)
  -- Firmware
  /-- FIRMWARE_LOAD (R549) -/
  | firmwareLoad (fn : Fn) (hub : Hub) (tag : W32) (wing : Byte) (payload : Bytes)
  /-- FIRMWARE_ACTIVATE (R550) -/
  | firmwareActivate (fn : Fn) (hub : Hub) (tag : W32) (wing : Byte) (payload : Bytes)
  /-- FIRMWARE_COMMIT (R555) -/
  | firmwareCommit (fn : Fn) (hub : Hub) (tag : W32) (wing : Byte) (payload : Bytes)
  /-- ROLLBACK (R556) -/
  | rollback (fn : Fn) (hub : Hub) (tag : W32) (wing : Byte) (payload : Bytes)
  /-- ARCHIVE_WRITE (R554) -/
  | archiveWrite
  /-- MARGIN_RUN (R558) -/
  | marginRun (fn : Fn) (hub : Hub) (tag : W32) (wing : Byte) (payload : Bytes)
  /-- MARGIN_APPLY (R559) -/
  | marginApply (fn : Fn) (hub : Hub) (tag : W32) (wing : Byte) (payload : Bytes)
  /-- REPAIR_QUERY (R561) -/
  | repairQuery (fn : Fn) (hub : Hub) (tag : W32) (wing : Byte) (payload : Bytes)
  /-- REPAIR_ROW (R562) -/
  | repairRow (fn : Fn) (hub : Hub) (tag : W32) (wing : Byte) (payload : Bytes)
  /-- REPAIR_LANE (R563) -/
  | repairLane (fn : Fn) (hub : Hub) (tag : W32) (wing : Byte) (payload : Bytes)
  /-- TEST_UNLOCK (R565) -/
  | testUnlock (fn : Fn)
  /-- TEST_LOCK (R565) -/
  | testLock (fn : Fn)
  /-- PATTERN_TEST (R566) -/
  | patternTest (fn : Fn)
  /-- PATTERN_TEST_DONE (R565) -/
  | patternTestDone (bad : List (BitVec 39))
  /-- MBIST (R566) -/
  | mbist (fn : Fn)
  /-- MBIST_DONE (R565) -/
  | mbistDone (bad : List (Fin 112 × Nat))
  /-- JTAG_BYPASS (R564) -/
  | jtagBypass (tdi : Bool)
  /-- JTAG_IDCODE (R564) -/
  | jtagIdcode
  /-- JTAG_SAMPLE_PRELOAD (R564) -/
  | jtagSamplePreload (preload : List Bool)
  /-- JTAG_EXTEST (R564) -/
  | jtagExtest
  /-- JTAG_CLAMP (R564) -/
  | jtagClamp
  /-- JTAG_HIGHZ (R564) -/
  | jtagHighz
  -- Package
  /-- SIDEBAND_READ (R582) -/
  | sidebandRead (index : Byte)
  /-- SIDEBAND_WRITE (R582) -/
  | sidebandWrite (index : Byte)
  /-- LASER_PROBE (R584) -/
  | laserProbe (die : Hub) (fiber : Fin 34) (locked : Bool)
  deriving DecidableEq, Repr

end Sys2Proof
end

