-- ==== Sys2Proof/Decode.lean ====
section
/-! DEFINITION. Two decoders. `decodeTableWord` reads a command from the bits that spec/opcode_table.json gives its row: it gives
none to any row. `ozDecode` reads an Ozol instruction from its 64-bit word (05 R154 to R156), with the encoder beside it and
the checks that 05 R151 and R160 make of a word. -/

namespace Sys2Proof

/-- The table gives no row any bits (spec/98_reader.md: no row has fixed bits or fields), so no word spells a command. -/
def decodeTableWord (_nbits _w : Nat) : Option Instr := none

/-! ### Fields of an Ozol word -/

def ozOp (w : W64) : BitVec 8 := w.extractLsb' 56 8
def ozRd (w : W64) : R5 := w.extractLsb' 51 5
def ozRa (w : W64) : R5 := w.extractLsb' 46 5
def ozRb (w : W64) : R5 := w.extractLsb' 41 5
def ozImm (w : W64) : W32 := w.extractLsb' 0 32

/-- The word with these fields and zero in [40:32]. -/
def ozWord (op : BitVec 8) (rd ra rb : R5) (imm : W32) : W64 :=
  op ++ rd ++ ra ++ rb ++ (0#9) ++ imm

/-- Format R: [40:0] reserved. -/
def ozMaskR : W64 := 0x000001FFFFFFFFFF#64
/-- Format I: [45:32] reserved. -/
def ozMaskI : W64 := 0x00003FFF00000000#64
/-- Format S: [55:51] and [40:32] reserved. -/
def ozMaskS : W64 := 0x00F801FF00000000#64
def ozMaskRd : W64 := 0x00F8000000000000#64
def ozMaskRa : W64 := 0x0007C00000000000#64
def ozMaskRb : W64 := 0x00003E0000000000#64
/-- IMM[31:lo]. -/
def ozMaskImm (lo : Nat) : W64 := BitVec.ofNat 64 (2 ^ 32 - 2 ^ lo)

/-- The bits that must be zero for an opcode (05 R154); none for an undefined opcode (05 R155). -/
def ozReserved (op : Nat) : Option W64 :=
  match op with
  | 0x01 | 0x02 => some (ozMaskI ||| ozMaskRd ||| ozMaskRa ||| ozMaskImm 0)
  | 0x04 => some (ozMaskI ||| ozMaskRd ||| ozMaskRa ||| ozMaskImm 12)
  | 0x05 => some (ozMaskI ||| ozMaskRd ||| ozMaskRa ||| ozMaskImm 8)
  | 0x06 => some (ozMaskI ||| ozMaskRd ||| ozMaskRa ||| ozMaskImm 3)
  | 0x10 | 0x11 | 0x12 | 0x13 | 0x14 | 0x15 | 0x16 | 0x17 | 0x18 | 0x19 | 0x1A | 0x1B | 0x1C => some ozMaskR
  | 0x20 | 0x22 | 0x23 | 0x24 | 0x28 => some ozMaskI
  | 0x25 | 0x26 | 0x27 => some (ozMaskI ||| ozMaskImm 6)
  | 0x29 => some (ozMaskI ||| ozMaskRa)
  | 0x30 | 0x38 => some (ozMaskS ||| ozMaskRa ||| ozMaskRb ||| ozMaskImm 14)
  | 0x31 | 0x32 | 0x33 | 0x34 | 0x35 | 0x36 => some (ozMaskS ||| ozMaskImm 14)
  | 0x37 => some (ozMaskS ||| ozMaskRb ||| ozMaskImm 14)
  | 0x39 => some (ozMaskS ||| ozMaskRa ||| ozMaskRb ||| ozMaskImm 0)
  | 0x3A => some (ozMaskS ||| ozMaskRb ||| ozMaskImm 0)
  | 0x40 | 0x41 | 0x42 => some ozMaskI
  | 0x43 => some ozMaskS
  | 0x44 => some (ozMaskI ||| ozMaskRa)
  | 0x48 => some (ozMaskI ||| ozMaskRd ||| ozMaskRa ||| ozMaskImm 19)
  | 0x49 => some (ozMaskI ||| ozMaskRd ||| ozMaskImm 19 ||| 0xFFF8#64)
  | 0x50 | 0x51 | 0x52 | 0x53 | 0x54 => some (ozMaskI ||| ozMaskRa ||| ozMaskImm 11 ||| 0xF8#64)
  | 0x58 => some (ozMaskS ||| ozMaskRb ||| ozMaskImm 0)
  | 0x59 => some (ozMaskS ||| ozMaskRa ||| ozMaskRb ||| ozMaskImm 0)
  | 0x5A => some (ozMaskI ||| ozMaskImm 0)
  | _ => none

/-- A reserved encoding value (05 R156). -/
def ozReservedValue (w : W64) (reduced : Bool) : Bool :=
  let unit := (ozImm w).extractLsb' 8 3
  match (ozOp w).toNat with
  | 0x44 => decide ((ozImm w).toNat ≥ 11)
  | 0x50 => decide (unit.toNat ≥ 2) || (decide (unit.toNat = 1) && reduced)
  | 0x51 | 0x52 | 0x54 => decide (unit.toNat ≥ 1)
  | 0x37 => decide (ozRa w = 0)
  | _ => false

/-- The word after it is not reached from it: JMP, JR, RET, END (05 R151). -/
def ozNoNext (w : W64) : Bool :=
  match (ozOp w).toNat with
  | 0x30 | 0x3A | 0x39 | 0x02 => true
  | _ => false

/-- The target of a JMP, conditional branch, LOOP or CALL (05 R151). -/
def ozTarget (w : W64) : Option Nat :=
  match (ozOp w).toNat with
  | 0x30 | 0x31 | 0x32 | 0x33 | 0x34 | 0x35 | 0x36 | 0x37 | 0x38 => some ((ozImm w).toNat % 16384)
  | _ => none

/-- A static bound of 05 R151 order 4 is exceeded by the word at index `i`. -/
def ozStaticBound (w : W64) (i codeWords constWords schedPts : Nat) : Bool :=
  (match ozTarget w with | some t => decide (t ≥ codeWords) | none => false) ||
  (match (ozOp w).toNat with
    | 0x41 => decide (ozRa w = 0) && decide ((ozImm w).toNat ≥ constWords)
    | 0x48 => decide ((ozImm w).toNat % 65536 + 8 > constWords)
    | 0x04 => decide ((ozImm w).toNat % 4096 ≥ schedPts)
    | _ => false) ||
  (decide (i + 1 = codeWords) && !ozNoNext w)

/-- The checks of 05 R151 of the word at index `i`, in order; none where it passes. -/
def ozCheck (w : W64) (i codeWords constWords schedPts : Nat) (reduced : Bool) : Option (BitVec 8) :=
  match ozReserved (ozOp w).toNat with
  | none => some 0xA0
  | some m =>
    if w &&& m ≠ 0 then some 0xA1
    else if ozReservedValue w reduced then some 0xF0
    else if ozStaticBound w i codeWords constWords schedPts then some 0xA2
    else none

/-- The words reached from those in `work`, each index once (05 R151). -/
def ozReach (code : List W64) : Nat → List Nat → List Nat → List Nat
  | 0, _, seen => seen
  | _ + 1, [], seen => seen
  | fuel + 1, i :: work, seen =>
    if seen.contains i then ozReach code fuel work seen
    else
      match code[i]? with
      | none => ozReach code fuel work seen
      | some w =>
        let next := if ozNoNext w then [] else [i + 1]
        let tgt := (ozTarget w).toList
        ozReach code fuel (next ++ tgt ++ work) (i :: seen)

/-- The static reach of a program, rising. -/
def ozStaticReach (code : List W64) : List Nat :=
  let seen := ozReach code (3 * code.length + 2) [0] []
  (List.range code.length).filter fun i => seen.contains i

/-- The first word of the static reach that fails a check of 05 R151: its index and its code. -/
def ozAdmit (code : List W64) (constWords schedPts : Nat) (reduced : Bool) : Option (Nat × BitVec 8) :=
  (ozStaticReach code).findSome? fun i =>
    match code[i]? with
    | none => none
    | some w => (ozCheck w i code.length constWords schedPts reduced).map fun c => (i, c)

/-! ### The instruction of a word -/

/-- The Ozol instruction that a word spells for docent `doc`; none for an undefined opcode or a non-zero reserved bit. -/
def ozDecode (doc : DocIx) (w : W64) : Option Instr :=
  let rd := ozRd w
  let ra := ozRa w
  let rb := ozRb w
  let imm := ozImm w
  let sh : BitVec 6 := imm.extractLsb' 0 6
  let tgt : BitVec 14 := imm.extractLsb' 0 14
  let slot : BitVec 3 := imm.extractLsb' 0 3
  let unit : BitVec 3 := imm.extractLsb' 8 3
  match ozReserved (ozOp w).toNat with
  | none => none
  | some m =>
    if w &&& m ≠ 0 then none
    else
      match (ozOp w).toNat with
      | 0x01 => some (.ozNop doc)
      | 0x02 => some (.ozEnd doc)
      | 0x04 => some (.ozSync doc (imm.extractLsb' 0 12))
      | 0x05 => some (.ozBarrier doc (imm.extractLsb' 0 8))
      | 0x06 => some (.ozPrio doc (imm.extractLsb' 0 3))
      | 0x10 => some (.ozAdd doc rd ra rb)
      | 0x11 => some (.ozSub doc rd ra rb)
      | 0x12 => some (.ozAnd doc rd ra rb)
      | 0x13 => some (.ozOr doc rd ra rb)
      | 0x14 => some (.ozXor doc rd ra rb)
      | 0x15 => some (.ozShl doc rd ra rb)
      | 0x16 => some (.ozShr doc rd ra rb)
      | 0x17 => some (.ozSar doc rd ra rb)
      | 0x18 => some (.ozMul doc rd ra rb)
      | 0x19 => some (.ozMinu doc rd ra rb)
      | 0x1A => some (.ozMaxu doc rd ra rb)
      | 0x1B => some (.ozSltu doc rd ra rb)
      | 0x1C => some (.ozSlt doc rd ra rb)
      | 0x20 => some (.ozAddi doc rd ra imm)
      | 0x22 => some (.ozAndi doc rd ra imm)
      | 0x23 => some (.ozOri doc rd ra imm)
      | 0x24 => some (.ozXori doc rd ra imm)
      | 0x25 => some (.ozShli doc rd ra sh)
      | 0x26 => some (.ozShri doc rd ra sh)
      | 0x27 => some (.ozSari doc rd ra sh)
      | 0x28 => some (.ozMovhi doc rd ra imm)
      | 0x29 => some (.ozMovi doc rd imm)
      | 0x30 => some (.ozJmp doc tgt)
      | 0x31 => some (.ozBeq doc ra rb tgt)
      | 0x32 => some (.ozBne doc ra rb tgt)
      | 0x33 => some (.ozBltu doc ra rb tgt)
      | 0x34 => some (.ozBgeu doc ra rb tgt)
      | 0x35 => some (.ozBlt doc ra rb tgt)
      | 0x36 => some (.ozBge doc ra rb tgt)
      | 0x37 => some (.ozLoop doc ra tgt)
      | 0x38 => some (.ozCall doc tgt)
      | 0x39 => some (.ozRet doc)
      | 0x3A => some (.ozJr doc ra)
      | 0x40 => some (.ozLda doc rd ra imm)
      | 0x41 => some (.ozLdc doc rd ra imm)
      | 0x42 => some (.ozLds doc rd ra imm)
      | 0x43 => some (.ozSts doc ra rb imm)
      | 0x44 => if imm.toNat < 16 then some (.ozRdsr doc rd (imm.extractLsb' 0 4)) else none
      | 0x48 => some (.ozDld doc (imm.extractLsb' 16 3) (imm.extractLsb' 0 16))
      | 0x49 => some (.ozDset doc ra (imm.extractLsb' 16 3) (imm.extractLsb' 0 3))
      | 0x50 => some (.ozMmul doc rd slot unit)
      | 0x51 => some (.ozVec doc rd slot unit)
      | 0x52 => some (.ozRed doc rd slot unit)
      | 0x53 => some (.ozStrm doc rd slot unit)
      | 0x54 => some (.ozGpeb doc rd slot unit)
      | 0x58 => some (.ozWait doc ra)
      | 0x59 => some (.ozWaitall doc)
      | 0x5A => some (.ozPoll doc rd ra)
      | _ => none

/-- IMM of a launch: SLOT in [2:0], UNIT in [10:8]. -/
def ozLaunchImm (slot unit : BitVec 3) : W32 := (0#21) ++ unit ++ (0#5) ++ slot

/-- The word of an Ozol instruction (05 R154); none for a command that is no Ozol instruction. -/
def ozEncode (i : Instr) : Option W64 :=
  match i with
  | .ozNop _ => some (ozWord 0x01 0 0 0 0)
  | .ozEnd _ => some (ozWord 0x02 0 0 0 0)
  | .ozSync _ p => some (ozWord 0x04 0 0 0 (p.setWidth 32))
  | .ozBarrier _ n => some (ozWord 0x05 0 0 0 (n.setWidth 32))
  | .ozPrio _ p => some (ozWord 0x06 0 0 0 (p.setWidth 32))
  | .ozAdd _ rd ra rb => some (ozWord 0x10 rd ra rb 0)
  | .ozSub _ rd ra rb => some (ozWord 0x11 rd ra rb 0)
  | .ozAnd _ rd ra rb => some (ozWord 0x12 rd ra rb 0)
  | .ozOr _ rd ra rb => some (ozWord 0x13 rd ra rb 0)
  | .ozXor _ rd ra rb => some (ozWord 0x14 rd ra rb 0)
  | .ozShl _ rd ra rb => some (ozWord 0x15 rd ra rb 0)
  | .ozShr _ rd ra rb => some (ozWord 0x16 rd ra rb 0)
  | .ozSar _ rd ra rb => some (ozWord 0x17 rd ra rb 0)
  | .ozMul _ rd ra rb => some (ozWord 0x18 rd ra rb 0)
  | .ozMinu _ rd ra rb => some (ozWord 0x19 rd ra rb 0)
  | .ozMaxu _ rd ra rb => some (ozWord 0x1A rd ra rb 0)
  | .ozSltu _ rd ra rb => some (ozWord 0x1B rd ra rb 0)
  | .ozSlt _ rd ra rb => some (ozWord 0x1C rd ra rb 0)
  | .ozAddi _ rd ra imm => some (ozWord 0x20 rd ra 0 imm)
  | .ozAndi _ rd ra imm => some (ozWord 0x22 rd ra 0 imm)
  | .ozOri _ rd ra imm => some (ozWord 0x23 rd ra 0 imm)
  | .ozXori _ rd ra imm => some (ozWord 0x24 rd ra 0 imm)
  | .ozShli _ rd ra sh => some (ozWord 0x25 rd ra 0 (sh.setWidth 32))
  | .ozShri _ rd ra sh => some (ozWord 0x26 rd ra 0 (sh.setWidth 32))
  | .ozSari _ rd ra sh => some (ozWord 0x27 rd ra 0 (sh.setWidth 32))
  | .ozMovhi _ rd ra imm => some (ozWord 0x28 rd ra 0 imm)
  | .ozMovi _ rd imm => some (ozWord 0x29 rd 0 0 imm)
  | .ozJmp _ t => some (ozWord 0x30 0 0 0 (t.setWidth 32))
  | .ozBeq _ ra rb t => some (ozWord 0x31 0 ra rb (t.setWidth 32))
  | .ozBne _ ra rb t => some (ozWord 0x32 0 ra rb (t.setWidth 32))
  | .ozBltu _ ra rb t => some (ozWord 0x33 0 ra rb (t.setWidth 32))
  | .ozBgeu _ ra rb t => some (ozWord 0x34 0 ra rb (t.setWidth 32))
  | .ozBlt _ ra rb t => some (ozWord 0x35 0 ra rb (t.setWidth 32))
  | .ozBge _ ra rb t => some (ozWord 0x36 0 ra rb (t.setWidth 32))
  | .ozLoop _ ra t => some (ozWord 0x37 0 ra 0 (t.setWidth 32))
  | .ozCall _ t => some (ozWord 0x38 0 0 0 (t.setWidth 32))
  | .ozRet _ => some (ozWord 0x39 0 0 0 0)
  | .ozJr _ ra => some (ozWord 0x3A 0 ra 0 0)
  | .ozLda _ rd ra imm => some (ozWord 0x40 rd ra 0 imm)
  | .ozLdc _ rd ra imm => some (ozWord 0x41 rd ra 0 imm)
  | .ozLds _ rd ra imm => some (ozWord 0x42 rd ra 0 imm)
  | .ozSts _ ra rb imm => some (ozWord 0x43 0 ra rb imm)
  | .ozRdsr _ rd sel => some (ozWord 0x44 rd 0 0 (sel.setWidth 32))
  | .ozDld _ slot ci => some (ozWord 0x48 0 0 0 ((0#13) ++ slot ++ ci))
  | .ozDset _ ra slot word => some (ozWord 0x49 0 ra 0 ((0#13) ++ slot ++ (0#13) ++ word))
  | .ozMmul _ rd slot unit => some (ozWord 0x50 rd 0 0 (ozLaunchImm slot unit))
  | .ozVec _ rd slot unit => some (ozWord 0x51 rd 0 0 (ozLaunchImm slot unit))
  | .ozRed _ rd slot unit => some (ozWord 0x52 rd 0 0 (ozLaunchImm slot unit))
  | .ozStrm _ rd slot unit => some (ozWord 0x53 rd 0 0 (ozLaunchImm slot unit))
  | .ozGpeb _ rd slot unit => some (ozWord 0x54 rd 0 0 (ozLaunchImm slot unit))
  | .ozWait _ ra => some (ozWord 0x58 0 ra 0 0)
  | .ozWaitall _ => some (ozWord 0x59 0 0 0 0)
  | .ozPoll _ rd ra => some (ozWord 0x5A rd ra 0 0)
  | _ => none

/-- The docent of an Ozol instruction. -/
def ozDoc (i : Instr) : Option DocIx :=
  match i with
  | .ozNop d | .ozEnd d | .ozSync d _ | .ozBarrier d _ | .ozPrio d _ => some d
  | .ozAdd d _ _ _ | .ozSub d _ _ _ | .ozAnd d _ _ _ | .ozOr d _ _ _ | .ozXor d _ _ _ | .ozShl d _ _ _ => some d
  | .ozShr d _ _ _ | .ozSar d _ _ _ | .ozMul d _ _ _ | .ozMinu d _ _ _ | .ozMaxu d _ _ _ => some d
  | .ozSltu d _ _ _ | .ozSlt d _ _ _ => some d
  | .ozAddi d _ _ _ | .ozAndi d _ _ _ | .ozOri d _ _ _ | .ozXori d _ _ _ | .ozMovhi d _ _ _ => some d
  | .ozShli d _ _ _ | .ozShri d _ _ _ | .ozSari d _ _ _ | .ozMovi d _ _ => some d
  | .ozJmp d _ | .ozLoop d _ _ | .ozCall d _ | .ozRet d | .ozJr d _ => some d
  | .ozBeq d _ _ _ | .ozBne d _ _ _ | .ozBltu d _ _ _ | .ozBgeu d _ _ _ | .ozBlt d _ _ _ | .ozBge d _ _ _ => some d
  | .ozLda d _ _ _ | .ozLdc d _ _ _ | .ozLds d _ _ _ | .ozSts d _ _ _ | .ozRdsr d _ _ => some d
  | .ozDld d _ _ | .ozDset d _ _ _ => some d
  | .ozMmul d _ _ _ | .ozVec d _ _ _ | .ozRed d _ _ _ | .ozStrm d _ _ _ | .ozGpeb d _ _ _ => some d
  | .ozWait d _ | .ozWaitall d | .ozPoll d _ _ => some d
  | _ => none

end Sys2Proof
end

