-- ==== Sys2Proof/Config.lean ====
section
/-! DEFINITION. What an implementation fixes and the values the spec leaves open: constants without a body, so that no proof
can rest on a value of them. -/

namespace Sys2Proof

/-- Byte `i` of the `n`th free value: what the entropy source and the DRBG of the Vault give (15 R465, R469, DESIGN CHOICE, log entry 10), and
what the spec calls undefined (08 R260, 09 R296). -/
opaque Config.freeByte : Nat → Nat → Byte

/-- SHA-384 of the device identity key's public key (15 R487). -/
opaque Config.dikHash : Bytes

/-- AES-256-GCM sealing: key, IV, associated data, plaintext to ciphertext and tag (15 R466; DESIGN CHOICE, log entry 8). -/
opaque Config.seal : Bytes → Bytes → Bytes → Bytes → Bytes

/-- The three check symbols of a line's Reed-Solomon code over the codeword's other 74 bytes (11 R345, which gives no generator;
DESIGN CHOICE, log entry 77). -/
opaque Config.lineCheck : Bytes → Bytes

/-- AES-256 key unwrapping of a tenant key: the wrapped bytes to the key, or none where the wrap does not verify
(15 R473; DESIGN CHOICE, log entry 11). -/
opaque Config.unwrap : Bytes → Option Bytes

/-- The ECDSA P-384 signature of the alias key over a byte string (15 R469; DESIGN CHOICE, log entry 11). -/
opaque Config.sign : Bytes → Bytes

/-- The ML-DSA-87 signature of the alias key over a byte string (15 R469; DESIGN CHOICE, log entry 11). -/
opaque Config.signPq : Bytes → Bytes

/-- SHA-384 of the component of a type of the factory image (18 R545, R546; DESIGN CHOICE, log entry 4). -/
opaque Config.factoryDigest : Nat → Bytes

/-- Whether a firmware image's signatures verify under the fused keys (18 R546; DESIGN CHOICE, log entry 11). -/
opaque Config.imageSigned : Bytes → Bool

/-- The certificate chain of a slot, without the measurement that the chain of slot 1 carries (15 R475; PRESUMED, log entry 31). -/
opaque Config.certChain : Nat → Bytes

/-- The bits of a transcendental result whose rounding no enclosure of the model decides (09 R289; DEDUCED, log entry 12). -/
opaque Config.undecided : Nat → Nat

end Sys2Proof
end

