-- ==== Sys2Proof/Machine/State.lean ====
section
/-! DEFINITION. The state of the block as plain data: every register, store, queue, mode and pin the spec gives the part
(INVENTORY.md lists them with the rule that names each), the queue of waiting commands, and the model's own outbox and
free-value counter. -/

namespace Sys2Proof.Machine

/-- A sparse table: keys strictly rising, no entry equal to what an unlisted key reads as (`Tbl.wf`). -/
abbrev Tbl (α : Type) := List (Nat × α)

/-- Memory: one byte per address; a byte not listed reads 0 (02 R56 for DRAM; DESIGN CHOICE, log entry 5 for the scratchpad). -/
abbrev Mem := List Host.Cell

/-! ### Time and authority -/

/-- The timestamp units of the 20 dies, in ns (00 R14, 16 R509), and what alignment to the partner still owes (13 R403). -/
structure Clk where
  units : List W64
  master : Hub
  slew : Int
  deriving DecidableEq, Repr

/-- The plinth (03 R96). -/
structure Plinth where
  term : W32
  beat : W16
  holder : Hub
  deriving DecidableEq, Repr

/-- Authority states of a hub (03 R103); the codes of MBX_AUTH.STATE are the order below. -/
inductive Auth where
  | booting | shadow | suspect | claiming | holder | fencing | isolated | failed
  deriving DecidableEq, Repr

structure HubSt where
  auth : Auth
  /-- the plinth as last read (MBX_AUTH) -/
  authTerm : W32
  authHolder : Hub
  authBeat : W16
  /-- slots passed without a heartbeat (03 R102) -/
  slots : Nat
  lastBeat : Option Nat
  /-- BEAT at the first of the two reads of 03 R103 -/
  beatRead : Option W16
  ready : Bool
  mains : Bool
  rebuilding : Bool
  deriving DecidableEq, Repr

structure Port where
  term : W32
  acked : Bool
  unreachable : Bool
  deriving DecidableEq, Repr

structure Link where
  /-- lanes known to have a fault, coded direction × 1024 + lane (01 R26) -/
  badLanes : List Nat
  /-- groups whose spare is in use, coded direction × 32 + group -/
  spares : List Nat
  /-- lanes that REPAIR_LANE moves to their spare at every later training (18 R563) -/
  repairs : List Nat
  failed : Bool
  deriving DecidableEq, Repr

/-! ### Mailboxes and functions -/

/-- A command accepted and not yet answered (03 R82): its opcode, header fields and payload, its class start, whether its
commit point has passed, and what its later steps still need. -/
structure Run where
  op : W16
  minor : Byte
  tag : W32
  wing : Byte
  payload : Bytes
  start : Nat
  committed : Bool
  data : List Nat
  deriving DecidableEq, Repr

structure Mbx where
  irqEn : Bool
  collide : Bool
  done : Bool
  result : Byte
  run : Option Run
  cmd : Mem
  rsp : Bytes
  deriving DecidableEq, Repr

/-- The part of the SPDM negotiation a function has completed (15 R475). -/
inductive SpdmPhase where
  | none | version | capabilities | negotiated
  deriving DecidableEq, Repr

structure FnSt where
  minor : Byte
  queSel : BitVec 12
  netSel : BitVec 14
  netVector : BitVec 11
  mbxVector : BitVec 11
  memSpace : Bool
  busMaster : Bool
  ats : Bool
  pasid : Bool
  pri : Bool
  priStopped : Bool
  d3 : Bool
  msixEn : Bool
  fnMask : Bool
  doeError : Bool
  doeRsp : Bytes
  spdm : SpdmPhase
  deriving DecidableEq, Repr

structure Msix where
  addr : W64
  data : W32
  mask : Bool
  pend : Bool
  deriving DecidableEq, Repr

/-- A page request waiting for its answer (11 R364): function, page address, who waits, and refusals so far. -/
structure PriReq where
  fn : Fn
  page : W64
  who : HostReader
  tries : Nat
  /-- sent to the host; further requests wait for a free place (11 R364) -/
  issued : Bool
  /-- answered with Success; the page is being translated again -/
  again : Bool
  at_ : Nat
  deriving DecidableEq, Repr

/-- What a host request carries beside its address: the PASID of its wing, and whether the address is a translated one (11 R361). -/
structure HostTag where
  pasid : Option Nat
  translated : Bool
  deriving DecidableEq, Repr

/-- A write the host port has accepted and holds (14 R449). -/
structure HeldWrite where
  fn : Fn
  addr : W64
  data : Bytes
  tag : HostTag
  deriving DecidableEq, Repr

/-- A function's configuration space at the standby port (14 R446): what a move brings into force. -/
structure CfgSpace where
  memSpace : Bool
  busMaster : Bool
  ats : Bool
  pasid : Bool
  pri : Bool
  msixEn : Bool
  fnMask : Bool
  deriving DecidableEq, Repr

structure Pcie where
  vfEnable : Bool
  vfMse : Bool
  numVfs : W16
  activeHub : Hub
  moving : Bool
  moveBy : Option (Fn × Hub × Hub)
  dlActive0 : Bool
  dlActive1 : Bool
  standby : Tbl CfgSpace
  /-- SR-IOV at the standby port -/
  standbyVfEnable : Bool
  standbyVfMse : Bool
  standbyNumVfs : W16
  held : List HeldWrite
  deriving DecidableEq, Repr

/-- A re-binding whose hub's firmware has started again: no response is owed, and the next holder finishes it (02 R53). -/
structure Move where
  fn : Fn
  payload : Bytes
  deriving DecidableEq, Repr

structure Peer where
  base : W64
  limit : W64
  wings : W16
  deriving DecidableEq, Repr

/-! ### Units and bindings -/

structure HalfCell where
  owner : Option WingIx
  gen : W16
  scrubBad : Bool
  clockBad : Bool
  /-- named by a re-binding or a reset in progress (02 R46 check 4) -/
  held : Bool
  unavailable : Bool
  /-- the request dispatched to it, until its completion is written (10 R328) -/
  req : Option Nat
  deriving DecidableEq, Repr

/-- Whether a cell's clocks or its power are gated (16 R515). -/
inductive CellGate where
  | running | clock | power
  deriving DecidableEq, Repr

structure CellSt where
  gate : CellGate
  step : Nat
  tempStep : Nat
  powStep : Nat
  underSince : Option Nat
  coolSince : Option Nat
  lastStep : Nat
  deriving DecidableEq, Repr

structure Extent where
  owner : Option WingIx
  gen : W16
  held : Bool
  unavailable : Bool
  phase : Bool
  key0 : Option Bytes
  key1 : Option Bytes
  keySeq : W64
  roll : W32
  clearPending : Bool
  rolling : Bool
  /-- the rollover's new key is loaded (11 R347) -/
  keyLoaded : Bool
  keyLate : Bool
  deriving DecidableEq, Repr

structure Vf where
  owner : Option WingIx
  gen : W16
  deriving DecidableEq, Repr

/-- A processing unit, numbered as 12 R392. -/
structure UnitSt where
  quarantined : Bool
  /-- cleared of its quarantine, and waiting for the end of its half-cell's request (12 R385) -/
  returning : Bool
  mismatches : Nat
  replaced : Bool
  /-- direction of the swap waited for: true in, false out -/
  swapPending : Option Bool
  subPos : Option Nat
  credit : Nat
  deriving DecidableEq, Repr

/-! ### Wings -/

inductive WingPhase where
  | disabled | checking | enabled | draining
  deriving DecidableEq, Repr

/-- The shadow registers of a wing (02 R73). -/
structure Shadow where
  policy : W32
  weight : W32
  floor : W32
  ptRoot : W64
  deriving DecidableEq, Repr

structure Wing where
  state : WingPhase
  reason : Byte
  check : Nat
  enableReq : Bool
  lent : Bool
  netOwning : Bool
  tenant : Bool
  shadow : Shadow
  live : Shadow
  snap : Option Shadow
  applyNext : Option Shadow
  tsyncGen : W32
  staleCnt : W64
  viol : Tbl W64
  violSince : Tbl Nat
  violAt : Tbl Nat
  classes : Tbl W32
  cacheCtl : W32
  dirCtl : W32
  lookups : W64
  hits : W64
  skipped : W64
  pasid : W32
  walks : W64
  atsMisses : W64
  pageReqs : W64
  malformed : W64
  bubTest : Bool
  /-- completions left in the start-up window (10 R329) -/
  bubStart : Nat
  bubRecover : Bool
  halts : W64
  overruns : W64
  ckpts : W64
  dupPasses : W64
  dupMismatch : W64
  digestFail : W64
  nonTee : W64
  lastSeq : W64
  lastChain : Bytes
  wr : Bytes
  tk : Option Bytes
  stopAdmit : Bool
  deriving DecidableEq, Repr

/-! ### Queues, requests, docents -/

inductive QuePhase where
  | disabled | enabled | halted | draining | error
  deriving DecidableEq, Repr

/-- QUE_CFG, QUE_COALESCE, QUE_SQ_BASE, QUE_CQ_BASE (04 R112). -/
structure QueRegs where
  cfg : W32
  coalesce : W32
  sqBase : W64
  cqBase : W64
  deriving DecidableEq, Repr

structure Que where
  owner : Option WingIx
  wqi : Nat
  gen : W16
  regs : QueRegs
  run : QueRegs
  state : QuePhase
  reason : Byte
  check : Nat
  dbDropped : Bool
  evaluating : Bool
  disableAfter : Bool
  tail : W16
  sqHead : W16
  cqTail : W16
  cqHead : W16
  phase : Bool
  fetched : Nat
  lastSeq : W64
  seen : Bool
  refSeq : Option W64
  failSeq : W64
  failCode : Byte
  failCount : W32
  halting : Bool
  unsig : Nat
  unsigAt : Option Nat
  /-- replies that wait for their read (04 R136): flow, slot, completion entry -/
  awaitRead : List (FlowIx × Nat × Bytes)
  deriving DecidableEq, Repr

/-- Where an entry stands between its fetch and its completion. -/
inductive ReqPhase where
  /-- its image is being read and validated (05 R149) -/
  | validating
  /-- admitted and waiting for dispatch, or a fence that waits -/
  | admitted
  | running
  /-- halted by a page fault (10 R332) -/
  | halted
  /-- checkpointed (10 R335) -/
  | suspended
  /-- being stopped under 05 R161 -/
  | aborting
  /-- finished, its completion not yet visible -/
  | finished
  deriving DecidableEq, Repr

inductive EntryKind where
  | request | fence | nop
  deriving DecidableEq, Repr

/-- One fetched submission entry (04 R119) until its completion is visible. -/
structure Req where
  id : Nat
  que : QueIx
  wing : WingIx
  kind : EntryKind
  cls : Nat
  irqSup : Bool
  replySup : Bool
  cat : Option CatIx
  seq : W64
  /-- the queue's reference SEQ before its fetch (04 R120) -/
  refBefore : Option W64
  program : W64
  args : W64
  argsLen : Nat
  userTag : W64
  timeoutUs : Nat
  /-- BOUND_US of its class at its fetch (04 R113, R128) -/
  boundUs : Nat
  /-- used targets of a fence: queue and SEQ -/
  targets : List (Nat × W64)
  fetchTs : Nat
  admitTs : Nat
  startTs : Nat
  endTs : Nat
  sqHead : W16
  phase : ReqPhase
  result : Byte
  detail : W32
  faultPc : W32
  epoch : Option W32
  imageId : W64
  needHalf : Nat
  reduced : Bool
  wcet : Nat
  /-- the worst-case end it adds to the horizon of its half-cells (04 R129, R130) -/
  wEnd : Nat
  /-- SYNC_GAP_US, the watchdog limit of its docents (05 R163): the expiry is an event -/
  gapUs : Nat
  scratch : Nat
  overlapSafe : Bool
  reserved : List HcIx
  halves : List HcIx
  docs : List DocIx
  term : W32
  dispTs : Nat
  ranNs : Nat
  /-- a verdict agreed, and none differed; and one differed (12 R380) -/
  dup : Bool
  dupBad : Bool
  later : Nat
  ckptReq : Bool
  oldTerm : Bool
  resumed : Bool
  flow : Option (FlowIx × Nat)
  /-- when its first stream halted (10 R332) -/
  haltAt : Nat
  /-- the request whose last drain it overlaps, until that one's completion is written (10 R330) -/
  behind : Option Nat
  /-- its kind 3 clock begins when its loading ends, since the request it overlapped ended earlier (10 R330) -/
  lateClock : Bool
  /-- every docent has executed END -/
  ended : Bool
  /-- an OUT stream of it has started (13 R410) -/
  outStarted : Bool
  /-- it has been dispatched (04 R131) -/
  dispatched : Bool
  /-- half-cells that ran part of it, as a mask (04 R124) -/
  ranOn : Nat
  deriving DecidableEq, Repr

/-- A validated image in the program store (05 R146), with its schedule table (10 R325). -/
structure Image where
  wing : WingIx
  program : W64
  imageId : W64
  header : Bytes
  code : List W64
  consts : List W64
  sched : List Bytes
  lastAdmit : Nat
  /-- its slot of the program store (02 R41) -/
  slot : Nat
  deriving DecidableEq, Repr

inductive DocPhase where
  | idle | loading | running | halted | quarantined
  deriving DecidableEq, Repr

/-- What a running docent waits for (05 R142). -/
inductive Stall where
  | none
  | sync (point : Nat)
  | barrier (n : Nat)
  | wait (ticket : W16)
  | waitall
  | launch
  | lda (rd : R5) (offset : Nat)
  | ending
  | ended
  | faulted
  deriving DecidableEq, Repr

/-- What a docent reports when it stops at a word (05 R161, R162). -/
structure DocFault where
  code : Byte
  pc : W32
  detail : W32
  time : Nat
  deriving DecidableEq, Repr

structure Docent where
  state : DocPhase
  req : Option Nat
  rank : Nat
  g : Tbl W64
  pc : Nat
  calls : List Nat
  slots : Mem
  ticket : W16
  prio : Nat
  ages : Tbl Nat
  code : List W64
  consts : List W64
  sched : List Bytes
  stall : Stall
  openT : List W16
  issued : Nat
  delivered : Tbl W32
  consumed : Tbl W32
  /-- per stream engine, the tiles that passed gates have counted (10 R323) -/
  gated : Tbl W32
  /-- what its SRAMs will answer at words not executed yet (05 R144) -/
  upsets : List (Nat × Sram)
  intervalStart : Nat
  dogStart : Nat
  stopped : Bool
  fault : Option DocFault
  deriving DecidableEq, Repr

inductive Engine where
  | mu (u : Nat)
  | ve (c : Nat)
  | ru (c : Nat)
  | strm (e : Nat)
  | gpe
  deriving DecidableEq, Repr

/-- A launched descriptor until its ticket completes (05 R157). -/
structure Launch where
  doc : DocIx
  ticket : W16
  req : Nat
  eng : Engine
  desc : Bytes
  /-- byte offset of the launching word in the image -/
  pcOff : W32
  after_ : W16
  /-- a stream's next tile and next byte within the descriptor (10 R331) -/
  tile : Nat
  byte_ : Nat
  halted : Bool
  /-- its engine has started it (05 R166) -/
  begun : Bool
  /-- a vector or reduction descriptor's next row, planes outermost, and the flags raised so far (05 R166, 09 R292) -/
  rows : Nat
  flags : Nat
  /-- a region of it was written by other work before its ticket completed, or its input was not complete (08 R260, 10 R323) -/
  dirty : Bool
  deriving DecidableEq, Repr

/-- A matrix unit's memories (08 R247, R248): its two weight buffers, each a tile of B row by row, and the two halves of its
accumulator store, each a block of at most 512 rows × 512 columns of 32 bits, row by row. -/
structure MuSt where
  weights0 : List Nat
  weights1 : List Nat
  acc0 : List W32
  acc1 : List W32
  deriving DecidableEq, Repr

/-- The local buffers of a docent position in its cell's vector engine and reduction unit (09 R279, R286, R302): a plane's row vector in
the compute type, and the running state of a plane's columns. The spec gives that state no layout: it is held as the elements that
each row has given (DESIGN CHOICE, log entry 73). -/
structure LaneBuf where
  bcast : List Nat
  cols : List (List Nat)
  deriving DecidableEq, Repr

/-- A pass selected for duplication whose verdict has not arrived (12 R378): the two units, the request, and what a mismatch
reports. -/
structure Dup where
  origin : Nat
  checker : Nat
  req : Nat
  wing : WingIx
  seq : W64
  pcOff : W32
  detail : W32
  /-- the pass digest that the origin formed (12 R379) -/
  digest : W64
  deriving DecidableEq, Repr

structure Arb where
  last : Nat
  grant : Option Nat
  deriving DecidableEq, Repr

/-- One stack's partial of a bag: its global stripe position, its binary32 elements and its count (06 R189, R193, 13 R405). -/
structure Part where
  bag : Nat
  gpos : Nat
  vec : List W32
  n : Nat
  deriving DecidableEq, Repr

/-- A GPE batch in progress (06 R189): the launch it belongs to, its lookups, what each gave, those sent to the partner, the
partials received, since when the partner has been unreachable, and the failure met. -/
structure Batch where
  doc : DocIx
  ticket : W16
  req : Nat
  wing : WingIx
  table : TabIx
  epoch : W32
  /-- lookups that are not skipped, in index-list order: bag, row, weight -/
  lookups : List (Nat × W32 × W32)
  /-- entries of the index list (06 R185) -/
  total : Nat
  /-- lookups that a GPE has accepted and not read yet (06 R191) -/
  taken : List Nat
  /-- lookup to its row's terms, once read (06 R193 steps 1 to 3) -/
  rows : Tbl (Option (List W32))
  remote : List Nat
  parts : List Part
  since : Nat
  failed : Option (Byte × W32)
  deriving DecidableEq, Repr

/-- A checkpoint slot in use (10 R336): the half-cell's scratchpad bytes and the docents' state. -/
structure Ckpt where
  req : Nat
  index : Nat
  /-- its slot of the checkpoint store (02 R41) -/
  slot : Nat
  mem : Mem
  docs : List Docent
  /-- queued launches: their docent is a rank and their engine a role in its half-cell -/
  queued : List Launch
  /-- the wing root and tenant key its key was derived from (15 R469, R492) -/
  root : Bytes
  deriving DecidableEq, Repr

/-! ### Catalogues -/

/-- A run of contiguous 64 KiB granules on a stack: first granule and count (06 R175). -/
structure Gran where
  stack : Nat
  first : Nat
  count : Nat
  deriving DecidableEq, Repr

inductive TabPhase where
  | creating | ready | deleted | clearing
  deriving DecidableEq, Repr

/-- A table record (06 R172, R173). -/
structure Table where
  wing : WingIx
  cat : CatIx
  id : Nat
  desc : Bytes
  rows : Nat
  dim : Nat
  elem : Nat
  stripe : Nat
  spare : Nat
  slotBytes : Nat
  onStacks : List Nat
  runs : List Gran
  phase : TabPhase
  /-- commit points of the creation and of the deletion (06 R176) -/
  createdTs : Nat
  deletedTs : Nat
  pins : List (Nat × Nat)
  /-- spare slots taken: stack and local slot (07 R210) -/
  used : List (Nat × Nat)
  deriving DecidableEq, Repr

/-- An epoch commit in progress (07 R230). -/
structure Commit where
  fn : Fn
  hub : Hub
  epoch : W32
  /-- the step of 07 R230 it stands at: 2 or 3 -/
  step : Nat
  upto : W64
  deriving DecidableEq, Repr

/-- A record that the holder of a pair sent and that stalls at the follower: its epoch, the holder's HEAD and its bytes (07 R241). -/
structure HeldRec where
  epoch : W32
  head : W64
  record : Bytes
  deriving DecidableEq, Repr

inductive RingPhase where
  | disabled | enabled | error
  deriving DecidableEq, Repr

/-- A catalogue: its epochs, its update ring and its pairing (07 R204 to R246, 13 R394 to R429). -/
structure Cat where
  vis : W32
  openEp : W32
  isOpen : Bool
  limit : W64
  cfg : W32
  base : W64
  runCfg : W32
  runBase : W64
  tail : W64
  head : W64
  state : RingPhase
  reason : Byte
  check : Nat
  /-- STALL, since when, and the row that stalls: stack, table, row (07 R227) -/
  stall : Nat
  stallAt : Option Nat
  stallRow : Option (Nat × Nat × Nat)
  dbDropped : Bool
  /-- the record at HEAD whose writes have begun, or that the partner has been sent, and whether it is applied here -/
  busy : Option Bytes
  applied : Bool
  disableAfter : Bool
  /-- the holder's record that stalls at this unit, which is its follower (07 R241) -/
  follow : Option HeldRec
  /-- COMMITTING while there is one -/
  commit : Option Commit
  /-- DISCARDING while there is one: the discarded epoch -/
  discardEp : Option W32
  /-- a discard that the partner has not been told, since the link was out (07 R244) -/
  discardOwed : Option W32
  /-- 0 not paired, 1 mirrored, 2 striped (13 R394) -/
  mode : Nat
  /-- 0 IN_SYNC, 1 STALE, 2 COPYING, 3 MISMATCH, 4 FROZEN (13 R429) -/
  sync : Nat
  termOfV : W32
  orphans : W32
  partnerOldest : Option W32
  /-- the latest F that this unit retired by force in a striped catalogue (13 R432) -/
  forcedTo : Option W32
  resends : Nat
  pairHead : W64
  resyncBase : Option W32
  /-- rows that no longer await their copy while the catalogue is copied (13 R427, R428): table, row -/
  settled : List (Nat × Nat)
  lost : Bool
  /-- V when the link was last lost (13 R424) -/
  lossV : Option W32
  deriving DecidableEq, Repr

/-- A version of a row that is not at home or has older versions (07 R209 to R211): the table, the row, and the slots
that hold its versions, newest first, each with its epoch. -/
structure DirEntry where
  stack : Nat
  table : TabIx
  row : W32
  versions : List (W32 × Nat)
  deriving DecidableEq, Repr

/-- A line held in a hot-row cache (06 R195): its tag, which is its address, its wing and its extent's binding generation, whether it
is pinned, and its last use. -/
structure CacheLine where
  stack : Nat
  line : Nat
  wing : WingIx
  gen : W16
  pinned : Bool
  used : Nat
  deriving DecidableEq, Repr

/-! ### Memory -/

inductive LineState where
  | good | poison | uncorrectable
  deriving DecidableEq, Repr

/-- What is stored with a 64 B line (11 R345). The data is kept as plaintext (DESIGN CHOICE, log entry 8). -/
structure LineMeta where
  gen : W16
  phase : Bool
  count : Nat
  bad : LineState
  deriving DecidableEq, Repr

structure Stack where
  temp : Nat
  hotLayer : Nat
  failed : Bool
  throttle : Bool
  refresh : Nat
  /-- since when the hottest layer is at or below 82 °C, and at or below 92 °C (11 R343) -/
  coolAt : Option Nat
  coolAt2 : Option Nat
  throttleCoolAt : Option Nat
  /-- the extents of the stack that are under a rollover, by their number in it, oldest first (11 R347, R368) -/
  rolls : List Nat
  refreshed : Tbl Nat
  train : Tbl W32
  softRows : List (Nat × Nat × Nat)
  hardRows : List (Nat × Nat × Nat)
  laneGroups : List Nat
  dramCe : W64
  dramUe : W64
  lastUe : W64
  deriving DecidableEq, Repr

/-- A cached leaf translation (11 R352, R359): the place that holds it (cells 0 to 7, hubs 8 and 9), wing, virtual page, page
size, what the entry said, the binding generation of the extent it resolves to, and that of the half-cell or hub path that used it. -/
structure TlbEntry where
  loc : Nat
  wing : WingIx
  page : Nat
  size : Nat
  host : Bool
  target : Nat
  writable : Bool
  gen : W16
  tag : W16
  deriving DecidableEq, Repr

/-- A cached upper-level entry: the table that a walk of `level` reads for the addresses of one prefix (11 R359). -/
structure PtwEntry where
  loc : Nat
  wing : WingIx
  tag : W16
  level : Nat
  prefix_ : Nat
  base : Nat
  deriving DecidableEq, Repr

/-- A translation from the host: the function, PASID and untranslated 4 KiB page it is for, the translated page, and what it permits
(11 R362). -/
structure AtsEntry where
  fn : Fn
  pasid : Option Nat
  page : Nat
  dest : Nat
  rd : Bool
  wr : Bool
  deriving DecidableEq, Repr

structure Die where
  sramCe : W64
  sramUe : W64
  digestRx : W64
  power : Nat
  temp : Nat
  sensor : Nat
  hot : Bool
  deriving DecidableEq, Repr

/-! ### Accession log -/

structure Log where
  /-- the records held, oldest first, 192 B each (02 R76) -/
  recs : List Bytes
  next : W64
  oldest : W64
  chain : Bytes
  /-- CHAIN before the oldest record held (15 R489) -/
  base : Bytes
  /-- ranges exported since the last reset (15 R490) -/
  exported : List (Nat × Nat)
  /-- per function: the second it counts in, and the records appended in it (02 R78) -/
  rate : Tbl (Nat × Nat)
  deriving DecidableEq, Repr

/-! ### Pair -/

inductive PairLink where
  | disabled | training | up | degraded | down | mismatch
  deriving DecidableEq, Repr

inductive LeaseState where
  | unpaired | holder | follower | lapsed | claiming
  deriving DecidableEq, Repr

/-- Messages to the partner over the pair link (13). -/
inductive PairMsg where
  | record | recordAck | commitRequest | commitReply | lookup | contribution | epochReport | lease | tableRequest
  | leaseAsk | leaseRefuse | exchange
  | tableReply | resyncRow | resyncDone | reset | trained | frameAck | frameRepeat | keepalive | timeProbe
  deriving DecidableEq, Repr

/-- A frame in a replay buffer, with the message it carries (13 R397; a message is one frame, log entry 76). -/
structure Frame where
  seq : W32
  msg : PairMsg
  args : List Nat
  data : Bytes
  deriving DecidableEq, Repr

structure LinkDie where
  up : Bool
  active : Nat
  spareUsed : Nat
  /-- failed lanes, replaced or not: receiving or not, fiber, wavelength -/
  failed : List (Bool × Nat × Nat)
  rxSeq : W32
  /-- the sequence number of the next frame sent, and the frames that are not acknowledged (13 R397, R401) -/
  txSeq : W32
  replay : List Frame
  lasersOff : List Nat
  idle : Nat
  deriving DecidableEq, Repr

/-- A datagram sent to the witness and not yet answered (13 R416). -/
structure Asked where
  claim : Bool
  nonce : W64
  time : Nat
  afterLoss : Bool
  deriving DecidableEq, Repr

/-- A table command waiting for the partner (13 R406). -/
structure TableWait where
  fn : Fn
  hub : Hub
  wing : WingIx
  delete : Bool
  table : Nat
  desc : Bytes
  deriving DecidableEq, Repr

structure Par where
  enable : Bool
  position : Bool
  netPort : Bool
  pairId : W32
  witnessIp : Bytes
  localIp : Bytes
  witnessUdp : W16
  localUdp : W16
  entries : List (Nat × Nat × Nat)
  link : PairLink
  declared : Bool
  aligned : Bool
  lease : LeaseState
  holderPos : Bool
  term : W32
  expiry : Nat
  timeOfs : Int
  die0 : LinkDie
  die1 : LinkDie
  /-- position 1 has not aligned since training: step 4 of 13 R400 -/
  stepDue : Bool
  repeats : W64
  declarations : W64
  witnessBad : W64
  orphaned : W64
  lostAt : Option Nat
  asked : List Asked
  pk : Option Bytes
  linkKeys : Option Bytes
  /-- table commands waiting for the partner: mailbox, wing, delete, table, descriptor (13 R406) -/
  tableWait : List TableWait
  compareDue : List PeerCat
  deriving DecidableEq, Repr

/-! ### Network -/

structure EthPort where
  pfc : Byte
  linkUp : Bool
  mac : BitVec 48
  ip : BitVec 128
  drops : W64
  /-- bytes held in each priority's receive buffer (14 R451) -/
  rx : Tbl Nat
  xoff : List Nat
  paused : List Nat
  deriving DecidableEq, Repr

inductive FlowPhase where
  | reset | init | rtr | rts | error
  deriving DecidableEq, Repr

structure Flow where
  owner : Option WingIx
  wfi : Nat
  gen : W16
  state : FlowPhase
  reason : Byte
  cfg : W32
  queue : BitVec 10
  destQpn : BitVec 24
  sqPsn : BitVec 24
  rqPsn : BitVec 24
  dgid : BitVec 128
  l2 : W64
  slotBase : W64
  slotCfg : W32
  /-- slots that hold a message: slot, SEQ, the completion entry of its posted reply (14 R454, R455) -/
  slots : List (Nat × W64 × Option Bytes)
  /-- send rate, bit/s -/
  rate : Nat
  lastCut : Option Nat
  lastCnp : Option Nat
  deriving DecidableEq, Repr

/-! ### Vault -/

inductive VaultMode where
  | approved | nonApproved | selfTest | error | zeroizing
  deriving DecidableEq, Repr

inductive TdiState where
  | unlocked | locked | run | error
  deriving DecidableEq, Repr

structure Session where
  fn : Fn
  sid : W32
  finished : Bool
  officer : Bool
  seqNo : Nat
  /-- the export master secret, a free value (15 R473; log entry 10) -/
  secret : Bytes
  deriving DecidableEq, Repr

/-- An IDE stream (15 R478): the sub-streams whose keys are loaded, per key set, the set in use, secure or not, and the
VF it serves. -/
structure IdeStream where
  keys0 : List Nat
  keys1 : List Nat
  cur : Option Bool
  secure : Bool
  vf : Option Fn
  deriving DecidableEq, Repr

structure Tdi where
  state : TdiState
  stream : Option Nat
  deriving DecidableEq, Repr

structure Vlt where
  mode : VaultMode
  selftestFail : Byte
  sync : Bool
  /-- the hub whose Vault holds the current copy of the key state (15 R463) -/
  copy : Hub
  linkUp : Bool
  modeReq : Bool
  tamper : W32
  anchor : BitVec 384
  dk : Bytes
  lastTest : Nat
  pqRequired : Bool
  sessions : List Session
  streams : Tbl IdeStream
  deriving DecidableEq, Repr

/-! ### Reset, power, thermal -/

/-- A reset of level 0 to 2 in progress (16 R500). -/
structure BlockReset where
  fn : Fn
  hub : Hub
  level : Nat
  target : Nat
  source : Nat
  since : Nat
  deriving DecidableEq, Repr

structure RstMap where
  en : Bool
  value : Nat
  deriving DecidableEq, Repr

structure Rst where
  /-- the device reset in progress: 3, 4 or 5 -/
  level : Option Nat
  source : Nat
  pwrOk : Bool
  perst : Bool
  railLatch : Bool
  straps : BitVec 4
  idleTimeout : Nat
  last : W32
  boot : W64
  map : Tbl RstMap
  count : Tbl W32
  servStep : Nat
  excursion : Bool
  thermtrip : Bool
  excAt : Option Nat
  overAt : Option Nat
  packageW : Nat
  excursions : W64
  overTrip : List Nat
  blocks : List BlockReset
  deriving DecidableEq, Repr

/-! ### Firmware -/

inductive SlotPhase where
  | empty | loading | valid | trial | committed
  deriving DecidableEq, Repr

structure Slot where
  state : SlotPhase
  schema : Byte
  readMajors : Byte
  svn : W16
  /-- bytes loaded so far, in order (18 R549) -/
  data : Bytes
  deriving DecidableEq, Repr

/-- A copy of the settings archive (18 R551): its schema, its GENERATION, the header and component table of the image that its
COMMIT_TAG digests, and its entries: type and value. -/
structure ArchCopy where
  schema : Byte
  gen : W64
  tag : Bytes
  entries : List (Nat × Bytes)
  deriving DecidableEq, Repr

structure Fw where
  fails : Nat
  autoFallback : Bool
  quarantine : Bool
  recovery : Bool
  running : Bool
  schema : Byte
  booted : Bool
  slotA : Slot
  slotB : Slot
  svnMin : W16
  archA : ArchCopy
  archB : ArchCopy
  /-- a change to an archived setting is not written yet (18 R554) -/
  archDirty : Bool
  unlock : Bool
  debugLog : Bool
  mbistDone : Bool
  mbistFail : Bool
  mbistRun : Bool
  patternDone : Bool
  patternFail : Bool
  patternRun : Bool
  deviceFault : Bool
  deriving DecidableEq, Repr

/-! ### Vents -/

/-- A record in a vent store (17 R525): what its producer filled, and what the primary adds. -/
structure VSlot where
  r : VentRec
  vseq : W64
  fallback : Bool
  rep : W32
  deriving DecidableEq, Repr

structure Latch where
  producer : Nat
  r : VentRec
  rep : W32
  deriving DecidableEq, Repr

structure Accum where
  kind : W16
  sev : Byte
  wing : Byte
  count : W32
  first : W64
  last : W64
  /-- it has closed, and its summary waits for a slot (17 R531) -/
  due : Bool
  deriving DecidableEq, Repr

structure TraceWin where
  id : W32
  die : Nat
  cls : Nat
  start : Nat
  /-- µs -/
  len : Nat
  running : Bool
  deriving DecidableEq, Repr

/-- A host ring of a vent (17 R535, R536). -/
structure Ring where
  head : W64
  tail : W64
  addr : W64
  sizeLog2 : Nat
  mask : Nat
  deriving DecidableEq, Repr

structure Vnt where
  irqEn : BitVec 3
  alertEn : Bool
  alertDelay : Byte
  alert : BitVec 7
  fallback : Bool
  bothFailed : Bool
  vectors : W64
  rings : Tbl Ring
  coalesced : W64
  logDrops : Tbl W64
  filtered : W64
  traceDrops : W64
  lost : W64
  alarms : List VSlot
  /-- alarms written to the ring whose credit has not returned -/
  alarmsOut : Nat
  latches : List Latch
  summaries : List VSlot
  logs : List VSlot
  logsOut : Nat
  traces : List Bytes
  ring64 : List VSlot
  accs : Tbl Accum
  windows : List TraceWin
  nextWin : W32
  vseqA : W64
  vseqL : W64
  lastword : Bytes
  /-- alarms delivered and not yet consumed by the host: ring position after the record, and time -/
  delivered : List (Nat × Nat)
  deriving DecidableEq, Repr

/-! ### Test access port -/

inductive JtagIr where
  | bypass | idcode | samplePreload | extest | clamp | highz
  deriving DecidableEq, Repr

structure Tap where
  ir : JtagIr
  bypassBit : Bool
  preload : List Bool
  deriving DecidableEq, Repr

/-! ### Outputs -/

/-- RoCE packets and link frames sent (14). -/
inductive NetMsg where
  | ack | nakInvalid | nakRemoteOp | rnrNak | cnp | reply | arpReply | neighborAdvert | xoff | xon
  deriving DecidableEq, Repr

/-- What the part has put on its ports, oldest first (DESIGN CHOICE, log entry 7). -/
inductive Out where
  | hostWrite (fn : Fn) (addr : W64) (data : Bytes) (tag : HostTag)
  | msix (fn : Fn) (addr : W64) (data : W32)
  | readReturn (fn : Fn) (val : W64)
  | unsupported (fn : Fn)
  | bar2Return (fn : Fn) (data : Bytes) (poison : Bool)
  | dramLine (addr : Nat) (data : Option Bytes)
  | replyRead (que : QueIx)
  | stale (port : Fin 62) (req : Nat)
  | termStale (hub : Hub) (term : W32)
  | heartbeat (hub : Hub) (term : W32)
  | termAdvance (hub : Hub) (term : W32)
  /-- a dispatch packet to a docent, with the binding generation of its half-cell and the sender's term (01 R25) -/
  | dispatch (doc : DocIx) (gen : W16) (term : W32)
  | witness (data : Bytes)
  | pair (die : Hub) (msg : PairMsg) (args : List Nat) (data : Bytes)
  | net (flow : FlowIx) (msg : NetMsg) (data : Bytes)
  | eth (port : Fin 2) (msg : NetMsg) (arg : Nat)
  | pri (fn : Fn) (pasid : Option Nat) (page : W64)
  | atsRequest (fn : Fn) (pasid : Option Nat) (page : W64)
  | atsInvalidated (fn : Fn)
  | doe (fn : Fn) (data : Bytes)
  | linkReset (hub : Hub)
  | sideband (data : Bytes)
  | tdo (bits : List Bool)
  | pins (drive : List (Option Bool))
  deriving DecidableEq, Repr

/-! ### The whole state -/

structure State where
  pending : List Instr
  out : List Out
  freeCtr : Nat
  clk : Clk
  plinth : Plinth
  hubs : Tbl HubSt
  hubLinkUp : Bool
  ports : Tbl Port
  links : Tbl Link
  noAuthority : Bool
  /-- when a holder last dispatched (17 R526, 0x0107) -/
  lastDispatch : Nat
  mbx : Tbl Mbx
  fns : Tbl FnSt
  msix : Tbl Msix
  pcie : Pcie
  peers : Tbl Peer
  /-- re-bindings that a restart of their hub left to the next holder (02 R53) -/
  moves : List Move
  halfCells : Tbl HalfCell
  cells : Tbl CellSt
  extents : Tbl Extent
  vfs : Tbl Vf
  units : Tbl UnitSt
  wings : Tbl Wing
  noWing : Tbl W64
  noWingSince : Tbl Nat
  noWingAt : Tbl Nat
  queues : Tbl Que
  reqs : List Req
  nextReq : Nat
  images : List Image
  docents : Tbl Docent
  launches : List Launch
  arbs : Tbl Arb
  /-- the memories of the matrix units, by unit (08 R247, R248) -/
  mus : Tbl MuSt
  /-- the local buffers of the docent positions, by cell × 4 + position (09 R279) -/
  lanes : Tbl LaneBuf
  batches : List Batch
  dups : List Dup
  sp : Mem
  spBad : List Nat
  ckpts : List Ckpt
  ckptCount : W64
  tables : Tbl (Option Table)
  cats : Tbl Cat
  dir : List DirEntry
  cache : List CacheLine
  dram : Mem
  lines : Tbl LineMeta
  dramStacks : Tbl Stack
  patrolHours : Byte
  priTimeout : W16
  /-- times of the corrected reads of a row within 24 hours (12 R375) -/
  rowErrs : Tbl (List Nat)
  tlb : List TlbEntry
  ptw : List PtwEntry
  /-- the prefetch buffers of the stream engines (11 R360) -/
  ahead : Tbl (List TlbEntry)
  /-- line writes that wait for a rollover key: address and data (11 R347) -/
  lineWaits : List (Nat × Bytes)
  /-- BAR2 writes among them: function and extent. The function's later reads and register writes wait for them (11 R367) -/
  bar2Waits : List (Fn × Nat)
  ats : List AtsEntry
  /-- translation requests sent and not answered: function, 4 KiB page, who waits (11 R361) -/
  atsReqs : List (Fn × Nat × HostReader)
  priReqs : List PriReq
  dies : Tbl Die
  digestPairs : List (Nat × Nat × Nat)
  log : Log
  par : Par
  ethPorts : Tbl EthPort
  flows : Tbl Flow
  vlt : Vlt
  tdis : Tbl Tdi
  rst : Rst
  fw : Fw
  vnt : Vnt
  tap : Tap
  deriving DecidableEq, Repr

/-- The model's stops. -/
inductive Fault where
  /-- A line command names a device address at or above 384 GiB, where the spec says there is no DRAM (11 R340). Raised by
  the line commands only. Safe: the machine stops where the spec gives nothing. -/
  | noDram
  deriving DecidableEq, Repr

inductive Refusal where
  /-- A command without a meaning yet. Raised by no meaning. Safe. -/
  | notModelled (mnemonic : String)
  deriving DecidableEq, Repr

/-! ### Reset values

Each indexed part reads its `init` where nothing is listed; `State.reset` lists nothing, save where noted. -/

def HubSt.init : HubSt :=
  { auth := .booting, authTerm := 0, authHolder := 0, authBeat := 0, slots := 0, lastBeat := none, beatRead := none,
    ready := false, mains := true, rebuilding := false }

def Port.init : Port := { term := 0, acked := false, unreachable := false }

def Link.init : Link := { badLanes := [], spares := [], repairs := [], failed := false }

def Mbx.init : Mbx :=
  { irqEn := false, collide := false, done := false, result := 0, run := none, cmd := [], rsp := [] }

def FnSt.init : FnSt :=
  { minor := 0, queSel := 0, netSel := 0, netVector := 0, mbxVector := 0, memSpace := false, busMaster := false,
    ats := false, pasid := false, pri := false, priStopped := false, d3 := false, msixEn := false, fnMask := false,
    doeError := false, doeRsp := [], spdm := .none }

def Msix.init : Msix := { addr := 0, data := 0, mask := true, pend := false }

def CfgSpace.init : CfgSpace :=
  { memSpace := false, busMaster := false, ats := false, pasid := false, pri := false, msixEn := false, fnMask := false }

def Pcie.init : Pcie :=
  { vfEnable := false, vfMse := false, numVfs := 0, activeHub := 0, moving := false, moveBy := none, dlActive0 := true,
    dlActive1 := false, standby := [], standbyVfEnable := false, standbyVfMse := false, standbyNumVfs := 0, held := [] }

def Peer.init : Peer := { base := 0, limit := 0, wings := 0 }

def HalfCell.init : HalfCell :=
  { owner := none, gen := 0, scrubBad := false, clockBad := false, held := false, unavailable := false, req := none }

def CellSt.init : CellSt :=
  { gate := .running, step := 0, tempStep := 0, powStep := 0, underSince := none, coolSince := none, lastStep := 0 }

def Extent.init : Extent :=
  { owner := none, gen := 0, held := false, unavailable := false, phase := false, key0 := none, key1 := none, keySeq := 0,
    roll := 0, clearPending := false, rolling := false, keyLoaded := false, keyLate := false }

def Vf.init : Vf := { owner := none, gen := 0 }

def UnitSt.init : UnitSt :=
  { quarantined := false, returning := false, mismatches := 0, replaced := false, swapPending := none, subPos := none, credit := 0 }

def Shadow.init : Shadow := { policy := 0, weight := 0x00010101#32, floor := 0, ptRoot := 0 }

def Wing.init : Wing :=
  { state := .disabled, reason := 0, check := 0, enableReq := false, lent := false, netOwning := false, tenant := false,
    shadow := Shadow.init, live := Shadow.init, snap := none, applyNext := none, tsyncGen := 0, staleCnt := 0, viol := [],
    violSince := [], violAt := [], classes := [], cacheCtl := 0x00800000#32, dirCtl := 16384#32, lookups := 0, hits := 0,
    skipped := 0, pasid := 0, walks := 0, atsMisses := 0, pageReqs := 0, malformed := 0, bubTest := false, bubStart := 0,
    bubRecover := false, halts := 0, overruns := 0, ckpts := 0, dupPasses := 0, dupMismatch := 0, digestFail := 0,
    nonTee := 0, lastSeq := 0, lastChain := [], wr := [], tk := none, stopAdmit := false }

def QueRegs.init : QueRegs := { cfg := 0, coalesce := 0, sqBase := 0, cqBase := 0 }

def Que.init : Que :=
  { owner := none, wqi := 0, gen := 0, regs := QueRegs.init, run := QueRegs.init, state := .disabled, reason := 0,
    check := 0, dbDropped := false, evaluating := false, disableAfter := false, tail := 0, sqHead := 0, cqTail := 0,
    cqHead := 0, phase := false, fetched := 0, lastSeq := 0, seen := false, refSeq := none, failSeq := 0, failCode := 0,
    failCount := 0, halting := false, unsig := 0, unsigAt := none, awaitRead := [] }

def Docent.init : Docent :=
  { state := .idle, req := none, rank := 0, g := [], pc := 0, calls := [], slots := [], ticket := 0, prio := 0, ages := [],
    code := [], consts := [], sched := [], stall := .none, openT := [], issued := 0, delivered := [], consumed := [],
    gated := [], upsets := [], intervalStart := 0, dogStart := 0, stopped := false, fault := none }

/-- The last winner is the last place of every round, so that the first round of equals goes to place 0 (DESIGN CHOICE, log entry 4). -/
def Arb.init : Arb := { last := 31, grant := none }

/-- Empty memories: the spec gives them no reset value (DESIGN CHOICE, log entry 4). -/
def MuSt.init : MuSt := { weights0 := [], weights1 := [], acc0 := [], acc1 := [] }

def LaneBuf.init : LaneBuf := { bcast := [], cols := [] }

def Cat.init : Cat :=
  { vis := 0, openEp := 0, isOpen := false, limit := BitVec.allOnes 64, cfg := 0,
    base := 0, runCfg := 0, runBase := 0, tail := 0, head := 0, state := .disabled, reason := 0, check := 0, stall := 0,
    stallAt := none, stallRow := none, dbDropped := false, busy := none, applied := false, disableAfter := false, follow := none,
    commit := none, discardEp := none, discardOwed := none, mode := 0, sync := 0, termOfV := 0, orphans := 0, partnerOldest := none, forcedTo := none, resends := 0,
    pairHead := 0, resyncBase := none, settled := [], lost := false, lossV := none }

def LineMeta.init : LineMeta := { gen := 0, phase := false, count := 0, bad := .good }

def Stack.init : Stack :=
  { temp := 0, hotLayer := 0, failed := false, throttle := false, refresh := 0, coolAt := none, coolAt2 := none, throttleCoolAt := none,
    rolls := [], refreshed := [], train := [], softRows := [], hardRows := [], laneGroups := [],
    dramCe := 0, dramUe := 0, lastUe := 0 }

def Die.init : Die :=
  { sramCe := 0, sramUe := 0, digestRx := 0, power := 0, temp := 0, sensor := 0, hot := false }

def Log.init : Log := { recs := [], next := 0, oldest := 0, chain := [], base := [], exported := [], rate := [] }

def LinkDie.init : LinkDie :=
  { up := false, active := 0, spareUsed := 0, failed := [], rxSeq := 0, txSeq := 0, replay := [], lasersOff := [], idle := 0 }

def Par.init : Par :=
  { enable := false, position := false, netPort := false, pairId := 0, witnessIp := [], localIp := [], witnessUdp := 0,
    localUdp := 0, entries := [], link := .disabled, declared := false, aligned := false, lease := .unpaired,
    holderPos := false, term := 0, expiry := 0, timeOfs := 0, die0 := LinkDie.init, die1 := LinkDie.init, stepDue := false, repeats := 0,
    declarations := 0, witnessBad := 0, orphaned := 0, lostAt := none, asked := [], pk := none, linkKeys := none,
    tableWait := [], compareDue := [] }

def EthPort.init : EthPort :=
  { pfc := 0, linkUp := false, mac := 0, ip := 0, drops := 0, rx := [], xoff := [], paused := [] }

/-- The rate starts at line rate (14 R452). -/
def Flow.init : Flow :=
  { owner := none, wfi := 0, gen := 0, state := .reset, reason := 0, cfg := 0, queue := 0, destQpn := 0, sqPsn := 0,
    rqPsn := 0, dgid := 0, l2 := 0, slotBase := 0, slotCfg := 0, slots := [], rate := 800000000000, lastCut := none,
    lastCnp := none }

def IdeStream.init : IdeStream := { keys0 := [], keys1 := [], cur := none, secure := false, vf := none }

def Tdi.init : Tdi := { state := .unlocked, stream := none }

/-- Mode SELF_TEST (15 R491). -/
def Vlt.init : Vlt :=
  { mode := .selfTest, selftestFail := 0, sync := false, copy := 0, linkUp := true, modeReq := false, tamper := 0, anchor := 0,
    dk := [], lastTest := 0, pqRequired := false, sessions := [], streams := [] }

def RstMap.init : RstMap := { en := false, value := 0 }

/-- Power is good and the level 5 of POWER_ON, source 0, is in progress (16 R493, R494; DESIGN CHOICE, log entry 3). -/
def Rst.init : Rst :=
  { level := some 5, source := 0, pwrOk := true, perst := true, railLatch := false, straps := 0, idleTimeout := 1000,
    last := 0x00000500#32, boot := 0, map := [], count := [(0, 1#32)], servStep := 0, excursion := false,
    thermtrip := false, excAt := none, overAt := none, packageW := 0, excursions := 0, overTrip := [], blocks := [] }

def Slot.init : Slot := { state := .empty, schema := 0, readMajors := 0, svn := 0, data := [] }

/-- A new part's archive: a readable copy of schema 1.0 without entries (DESIGN CHOICE, log entry 4). -/
def ArchCopy.init : ArchCopy := { schema := 0x10, gen := 0, tag := [], entries := [] }

/-- Slot A holds the committed factory image (18 R545). -/
def Fw.init : Fw :=
  { fails := 0, autoFallback := false, quarantine := false, recovery := false, running := false, schema := 0,
    booted := false, slotA := { Slot.init with state := .committed, schema := 0x10 }, slotB := Slot.init, svnMin := 0,
    archA := ArchCopy.init, archB := ArchCopy.init, archDirty := false, unlock := false, debugLog := false, mbistDone := false, mbistFail := false,
    mbistRun := false, patternDone := false, patternFail := false, patternRun := false, deviceFault := false }

def Ring.init : Ring := { head := 0, tail := 0, addr := 0, sizeLog2 := 0, mask := 0 }

def Accum.init : Accum := { kind := 0, sev := 0, wing := 0, count := 0, first := 0, last := 0, due := false }

/-- The log ring's SEV_MASK is 0xF, ALERT_DELAY_MS 10, ALERT_ALARM_EN 1 (17 R542). -/
def Vnt.init : Vnt :=
  { irqEn := 0, alertEn := true, alertDelay := 10, alert := 0, fallback := false, bothFailed := false, vectors := 0,
    rings := [(1, { Ring.init with mask := 15 })], coalesced := 0, logDrops := [], filtered := 0, traceDrops := 0,
    lost := 0, alarms := [], alarmsOut := 0, latches := [], summaries := [], logs := [], logsOut := 0, traces := [],
    ring64 := [], accs := [], windows := [], nextWin := 0, vseqA := 0, vseqL := 0, lastword := [], delivered := [] }

/-- IDCODE, as IEEE 1149.1 has it after Test-Logic-Reset (PRESUMED, log entry 16). -/
def Tap.init : Tap := { ir := .idcode, bypassBit := false, preload := [] }

/-- The part with power good and its power-on reset in progress: RESET_RELEASE is the event that ends it (DESIGN CHOICE, log entry 3). -/
def State.reset : State :=
  { pending := [], out := [], freeCtr := 0, clk := { units := List.replicate 20 0, master := 0, slew := 0 },
    plinth := { term := 0, beat := 0, holder := 0 }, hubs := [], hubLinkUp := true, ports := [], links := [],
    noAuthority := false, lastDispatch := 0, mbx := [], fns := [], msix := [], pcie := Pcie.init, peers := [], moves := [], halfCells := [], cells := [],
    extents := [], vfs := [], units := [], wings := [], noWing := [], noWingSince := [], noWingAt := [], queues := [],
    reqs := [], nextReq := 0, images := [], docents := [], launches := [], arbs := [], mus := [], lanes := [], batches := [], dups := [], sp := [], spBad := [],
    ckpts := [], ckptCount := 0, tables := [], cats := [], dir := [], cache := [], dram := [], lines := [],
    dramStacks := [], patrolHours := 24, priTimeout := 100, rowErrs := [], tlb := [], ptw := [], ahead := [], lineWaits := [], bar2Waits := [], ats := [], atsReqs := [], priReqs := [], dies := [],
    digestPairs := [], log := Log.init, par := Par.init, ethPorts := [], flows := [], vlt := Vlt.init, tdis := [],
    rst := Rst.init, fw := Fw.init, vnt := Vnt.init, tap := Tap.init }

end Sys2Proof.Machine
end

