-- ==== Sys2Proof/Machine/Ops.lean ====
section
/-! DEFINITION. The named operations that every family uses: sparse tables, byte strings and bit fields, memory, the parts
of the state by index, the free values, and time. -/

namespace Sys2Proof.Machine

/-! ### Sparse tables -/

/-- What a table holds at a key; `d` where it lists nothing. -/
def Tbl.get {α : Type} (d : α) : Tbl α → Nat → α
  | [], _ => d
  | (k', v) :: t, k => if k' = k then v else Tbl.get d t k

/-- Lists a value at a key, before the first higher key. -/
def Tbl.put {α : Type} : Tbl α → Nat → α → Tbl α
  | [], k, v => [(k, v)]
  | (k', v') :: t, k, v =>
    if k' = k then (k, v) :: t else if k < k' then (k, v) :: (k', v') :: t else (k', v') :: Tbl.put t k v

/-- Writes a key, keeping the keys rising and listing no entry equal to `d`. -/
def Tbl.set {α : Type} [DecidableEq α] (d : α) (t : Tbl α) (k : Nat) (v : α) : Tbl α :=
  if v = d then t.filter fun e => e.1 != k else Tbl.put t k v

/-- The canonical form: keys strictly rising, no entry equal to `d`. -/
def Tbl.wf {α : Type} [DecidableEq α] (d : α) : Tbl α → Bool
  | [] => true
  | [(_, v)] => decide (v ≠ d)
  | (k, v) :: (k', v') :: t => decide (v ≠ d) && decide (k < k') && Tbl.wf d ((k', v') :: t)

/-! ### Numbers, bytes, fields -/

/-- The bit field of width `w` at bit `lo` of a number (00 R6). -/
def fld (v lo w : Nat) : Nat := v / 2 ^ lo % 2 ^ w

/-- One bit of a number. -/
def bit (v i : Nat) : Bool := decide (v / 2 ^ i % 2 = 1)

def b2n (b : Bool) : Nat := if b then 1 else 0

/-- A bit mask from the positions that hold, below `n`. -/
def maskOf (n : Nat) (p : Nat → Bool) : Nat :=
  (List.range n).foldl (fun a i => if p i then a + 2 ^ i else a) 0

/-- `n` bytes of a number, least significant first (00 R7). -/
def leBytes : Nat → Nat → Bytes
  | 0, _ => []
  | n + 1, v => BitVec.ofNat 8 v :: leBytes n (v / 256)

/-- A number from its bytes, least significant first. -/
def fromLE (b : Bytes) : Nat := b.foldr (fun x a => x.toNat + 256 * a) 0

/-- `n` bytes of a byte string from `off`, padded with zeros where it ends. -/
def slice (b : Bytes) (off n : Nat) : Bytes :=
  let t := (b.drop off).take n
  t ++ List.replicate (n - t.length) 0#8

/-- The little-endian number of `n` bytes at `off`. -/
def leAt (b : Bytes) (off n : Nat) : Nat := fromLE (slice b off n)

/-- A byte string cut or padded with zeros to `n` bytes. -/
def fitTo (n : Nat) (b : Bytes) : Bytes := slice b 0 n

/-- Every byte is zero. -/
def allZero (b : Bytes) : Bool := b.all (· == 0#8)

/-- The bytes of `b` from `off` for `n` are zero. -/
def zeroAt (b : Bytes) (off n : Nat) : Bool := allZero (slice b off n)

/-- A number as a two's-complement integer of width `w`. -/
def signed (w v : Nat) : Int := if v % 2 ^ w < 2 ^ (w - 1) then (v % 2 ^ w : Nat) else (v % 2 ^ w : Nat) - (2 ^ w : Nat)

/-- An integer modulo 2 ^ w. -/
def wrapTo (w : Nat) (i : Int) : Nat := (i % (2 ^ w : Nat)).toNat

def ceilDiv (a b : Nat) : Nat := (a + b - 1) / b

/-- One more, saturating (02 R73, R74 and every counter block). -/
def satInc {w : Nat} (v : BitVec w) : BitVec w := if v = BitVec.allOnes w then v else v + 1#w

def satAdd {w : Nat} (v : BitVec w) (n : Nat) : BitVec w :=
  if v.toNat + n ≥ 2 ^ w then BitVec.allOnes w else v + BitVec.ofNat w n

/-- The first failing check of a list of (failure condition, code). -/
def firstFail (l : List (Bool × Byte)) : Option Byte := (l.find? (·.1)).map (·.2)

/-- As `firstFail`, with the number of the check, from 1. -/
def firstFailAt (l : List (Bool × Byte)) : Option (Nat × Byte) :=
  ((l.zipIdx.find? (fun x => x.1.1)).map fun x => (x.2 + 1, x.1.2))

/-! ### Result codes (03 R94) -/

def rOK : Byte := 0x00
def rBUSY : Byte := 0x01
def rBUSY_REDIRECT : Byte := 0x02
def rUNKNOWN_COMMAND : Byte := 0x03
def rVERSION_UNSUPPORTED : Byte := 0x04
def rNOT_PERMITTED : Byte := 0x05
def rRES_UNAVAILABLE : Byte := 0x10
def rRES_OVERLAP : Byte := 0x11
def rRES_INSUFFICIENT : Byte := 0x12
def rQUEUE_LIMIT : Byte := 0x13
def rADDR_ALIGN : Byte := 0x20
def rADDR_RANGE : Byte := 0x21
def rTRANSLATION_MISSING : Byte := 0x22
def rPAGE_FAULT_PINNED : Byte := 0x23
def rFORMAT_UNSUPPORTED : Byte := 0x30
def rSCALE_INVALID : Byte := 0x31
def rSHAPE_INVALID : Byte := 0x32
def rKEY_MISSING : Byte := 0x40
def rATTESTATION_STALE : Byte := 0x41
def rNOT_APPROVED_MODE : Byte := 0x42
def rSTALE_BINDING : Byte := 0x50
def rEPOCH_RETIRED : Byte := 0x51
def rPARTNER_LOST : Byte := 0x52
def rPAIR_FENCED : Byte := 0x53
def rDEADLINE_MISSED : Byte := 0x60
def rDUPLICATE_MISMATCH : Byte := 0x61
def rDIGEST_MISMATCH : Byte := 0x62
def rUNCORRECTABLE_MEMORY : Byte := 0x63
def rOPCODE_UNDEFINED : Byte := 0xA0
def rRESERVED_FIELD_SET : Byte := 0xA1
def rPROGRAM_BOUNDS : Byte := 0xA2
def rWATCHDOG : Byte := 0xA3
def rSETTINGS_UNREADABLE : Byte := 0xE0
def rIMAGE_INVALID : Byte := 0xE1
def rRESERVED_VALUE : Byte := 0xF0
def rINTERNAL : Byte := 0xFF

/-! ### Memory -/

/-- `n` bytes of memory from `a`. -/
def Mem.read (m : Mem) (a n : Nat) : Bytes := (List.range n).map fun i => Tbl.get 0#8 m (a + i)

/-- Writes bytes from `a` upward. -/
def Mem.write (m : Mem) (a : Nat) : Bytes → Mem
  | [] => m
  | b :: bs => Mem.write (Tbl.set 0#8 m a b) (a + 1) bs

/-- The little-endian number of `n` bytes at `a`. -/
def Mem.le (m : Mem) (a n : Nat) : Nat := fromLE (Mem.read m a n)

/-- Zero in every byte of `[a, a + n)`: their cells are removed. -/
def Mem.clear (m : Mem) (a n : Nat) : Mem := m.filter fun c => decide (c.1 < a) || decide (a + n ≤ c.1)

def Mem.wf (m : Mem) : Bool := Tbl.wf 0#8 m

/-- What host memory answered (DESIGN CHOICE, log entry 6): unlisted bytes read 0. -/
def hostBytes (hm : HostMem) (a n : Nat) : Bytes :=
  (List.range n).map fun i => ((hm.find? (fun c => c.1 == a + i)).map (·.2)).getD 0#8

/-! ### The parts of the state -/

def State.hub (s : State) (k : Nat) : HubSt := Tbl.get HubSt.init s.hubs k
def State.setHub (s : State) (k : Nat) (v : HubSt) : State := { s with hubs := Tbl.set HubSt.init s.hubs k v }
def State.updHub (s : State) (k : Nat) (f : HubSt → HubSt) : State := s.setHub k (f (s.hub k))

def State.port (s : State) (k : Nat) : Port := Tbl.get Port.init s.ports k
def State.setPort (s : State) (k : Nat) (v : Port) : State := { s with ports := Tbl.set Port.init s.ports k v }
def State.updPort (s : State) (k : Nat) (f : Port → Port) : State := s.setPort k (f (s.port k))

def State.link (s : State) (k : Nat) : Link := Tbl.get Link.init s.links k
def State.setLink (s : State) (k : Nat) (v : Link) : State := { s with links := Tbl.set Link.init s.links k v }
def State.updLink (s : State) (k : Nat) (f : Link → Link) : State := s.setLink k (f (s.link k))

def State.mbox (s : State) (k : Nat) : Mbx := Tbl.get Mbx.init s.mbx k
def State.setMbox (s : State) (k : Nat) (v : Mbx) : State := { s with mbx := Tbl.set Mbx.init s.mbx k v }
def State.updMbox (s : State) (k : Nat) (f : Mbx → Mbx) : State := s.setMbox k (f (s.mbox k))

def State.fnSt (s : State) (k : Nat) : FnSt := Tbl.get FnSt.init s.fns k
def State.setFnSt (s : State) (k : Nat) (v : FnSt) : State := { s with fns := Tbl.set FnSt.init s.fns k v }
def State.updFnSt (s : State) (k : Nat) (f : FnSt → FnSt) : State := s.setFnSt k (f (s.fnSt k))

def State.msixEnt (s : State) (k : Nat) : Msix := Tbl.get Msix.init s.msix k
def State.setMsixEnt (s : State) (k : Nat) (v : Msix) : State := { s with msix := Tbl.set Msix.init s.msix k v }
def State.updMsixEnt (s : State) (k : Nat) (f : Msix → Msix) : State := s.setMsixEnt k (f (s.msixEnt k))

def State.peer (s : State) (k : Nat) : Peer := Tbl.get Peer.init s.peers k
def State.setPeer (s : State) (k : Nat) (v : Peer) : State := { s with peers := Tbl.set Peer.init s.peers k v }
def State.updPeer (s : State) (k : Nat) (f : Peer → Peer) : State := s.setPeer k (f (s.peer k))

def State.half (s : State) (k : Nat) : HalfCell := Tbl.get HalfCell.init s.halfCells k
def State.setHalf (s : State) (k : Nat) (v : HalfCell) : State := { s with halfCells := Tbl.set HalfCell.init s.halfCells k v }
def State.updHalf (s : State) (k : Nat) (f : HalfCell → HalfCell) : State := s.setHalf k (f (s.half k))

def State.cell (s : State) (k : Nat) : CellSt := Tbl.get CellSt.init s.cells k
def State.setCell (s : State) (k : Nat) (v : CellSt) : State := { s with cells := Tbl.set CellSt.init s.cells k v }
def State.updCell (s : State) (k : Nat) (f : CellSt → CellSt) : State := s.setCell k (f (s.cell k))

def State.ext (s : State) (k : Nat) : Extent := Tbl.get Extent.init s.extents k
def State.setExt (s : State) (k : Nat) (v : Extent) : State := { s with extents := Tbl.set Extent.init s.extents k v }
def State.updExt (s : State) (k : Nat) (f : Extent → Extent) : State := s.setExt k (f (s.ext k))

def State.vf (s : State) (k : Nat) : Vf := Tbl.get Vf.init s.vfs k
def State.setVf (s : State) (k : Nat) (v : Vf) : State := { s with vfs := Tbl.set Vf.init s.vfs k v }
def State.updVf (s : State) (k : Nat) (f : Vf → Vf) : State := s.setVf k (f (s.vf k))

def State.unit (s : State) (k : Nat) : UnitSt := Tbl.get UnitSt.init s.units k
def State.setUnit (s : State) (k : Nat) (v : UnitSt) : State := { s with units := Tbl.set UnitSt.init s.units k v }
def State.updUnit (s : State) (k : Nat) (f : UnitSt → UnitSt) : State := s.setUnit k (f (s.unit k))

def State.wing (s : State) (k : Nat) : Wing := Tbl.get Wing.init s.wings k
def State.setWing (s : State) (k : Nat) (v : Wing) : State := { s with wings := Tbl.set Wing.init s.wings k v }
def State.updWing (s : State) (k : Nat) (f : Wing → Wing) : State := s.setWing k (f (s.wing k))

def State.que (s : State) (k : Nat) : Que := Tbl.get Que.init s.queues k
def State.setQue (s : State) (k : Nat) (v : Que) : State := { s with queues := Tbl.set Que.init s.queues k v }
def State.updQue (s : State) (k : Nat) (f : Que → Que) : State := s.setQue k (f (s.que k))

def State.doc (s : State) (k : Nat) : Docent := Tbl.get Docent.init s.docents k
def State.setDoc (s : State) (k : Nat) (v : Docent) : State := { s with docents := Tbl.set Docent.init s.docents k v }
def State.updDoc (s : State) (k : Nat) (f : Docent → Docent) : State := s.setDoc k (f (s.doc k))

def State.arb (s : State) (k : Nat) : Arb := Tbl.get Arb.init s.arbs k
def State.setArb (s : State) (k : Nat) (v : Arb) : State := { s with arbs := Tbl.set Arb.init s.arbs k v }
def State.updArb (s : State) (k : Nat) (f : Arb → Arb) : State := s.setArb k (f (s.arb k))

def State.mu (s : State) (k : Nat) : MuSt := Tbl.get MuSt.init s.mus k
def State.setMu (s : State) (k : Nat) (v : MuSt) : State := { s with mus := Tbl.set MuSt.init s.mus k v }
def State.updMu (s : State) (k : Nat) (f : MuSt → MuSt) : State := s.setMu k (f (s.mu k))

def State.lane (s : State) (k : Nat) : LaneBuf := Tbl.get LaneBuf.init s.lanes k
def State.setLane (s : State) (k : Nat) (v : LaneBuf) : State := { s with lanes := Tbl.set LaneBuf.init s.lanes k v }
def State.updLane (s : State) (k : Nat) (f : LaneBuf → LaneBuf) : State := s.setLane k (f (s.lane k))

def State.table (s : State) (k : Nat) : Option Table := Tbl.get (none : Option Table) s.tables k
def State.setTable (s : State) (k : Nat) (v : Option Table) : State := { s with tables := Tbl.set none s.tables k v }
def State.updTable (s : State) (k : Nat) (f : Option Table → Option Table) : State := s.setTable k (f (s.table k))

def State.cat (s : State) (k : Nat) : Cat := Tbl.get Cat.init s.cats k
def State.setCat (s : State) (k : Nat) (v : Cat) : State := { s with cats := Tbl.set Cat.init s.cats k v }
def State.updCat (s : State) (k : Nat) (f : Cat → Cat) : State := s.setCat k (f (s.cat k))

def State.line (s : State) (k : Nat) : LineMeta := Tbl.get LineMeta.init s.lines k
def State.setLine (s : State) (k : Nat) (v : LineMeta) : State := { s with lines := Tbl.set LineMeta.init s.lines k v }
def State.updLine (s : State) (k : Nat) (f : LineMeta → LineMeta) : State := s.setLine k (f (s.line k))

def State.stack (s : State) (k : Nat) : Stack := Tbl.get Stack.init s.dramStacks k
def State.setStack (s : State) (k : Nat) (v : Stack) : State := { s with dramStacks := Tbl.set Stack.init s.dramStacks k v }
def State.updStack (s : State) (k : Nat) (f : Stack → Stack) : State := s.setStack k (f (s.stack k))

def State.die (s : State) (k : Nat) : Die := Tbl.get Die.init s.dies k
def State.setDie (s : State) (k : Nat) (v : Die) : State := { s with dies := Tbl.set Die.init s.dies k v }
def State.updDie (s : State) (k : Nat) (f : Die → Die) : State := s.setDie k (f (s.die k))

def State.eth (s : State) (k : Nat) : EthPort := Tbl.get EthPort.init s.ethPorts k
def State.setEth (s : State) (k : Nat) (v : EthPort) : State := { s with ethPorts := Tbl.set EthPort.init s.ethPorts k v }
def State.updEth (s : State) (k : Nat) (f : EthPort → EthPort) : State := s.setEth k (f (s.eth k))

def State.flow (s : State) (k : Nat) : Flow := Tbl.get Flow.init s.flows k
def State.setFlow (s : State) (k : Nat) (v : Flow) : State := { s with flows := Tbl.set Flow.init s.flows k v }
def State.updFlow (s : State) (k : Nat) (f : Flow → Flow) : State := s.setFlow k (f (s.flow k))

def State.tdi (s : State) (k : Nat) : Tdi := Tbl.get Tdi.init s.tdis k
def State.setTdi (s : State) (k : Nat) (v : Tdi) : State := { s with tdis := Tbl.set Tdi.init s.tdis k v }
def State.updTdi (s : State) (k : Nat) (f : Tdi → Tdi) : State := s.setTdi k (f (s.tdi k))
/-- The mailbox of a function at a hub (03 R79). -/
def mbxKey (fn : Fn) (hub : Hub) : Nat := fn.val * 2 + hub.val

/-- Catalogue `c` of wing `w`. -/
def catKey (w c : Nat) : Nat := w * 8 + c

/-- An entry of a function's MSI-X table (14 R443). -/
def msixKey (fn : Fn) (v : Nat) : Nat := fn.val * 2048 + v

def arbKey : ArbIx → Nat
  | .mu u => u.val
  | .ve c _ => 40 + c.val
  | .ru c _ => 48 + c.val
  | .strm e _ _ => 56 + e.val
  | .gpe g w => 184 + g.val * 16 + w.val

/-- The global timestamp, as the master unit holds it (00 R14, 16 R509). -/
def State.now (s : State) : Nat := (s.clk.units.getD (16 + s.clk.master.val) 0).toNat

/-- Puts an output on a port. -/
def State.emit (s : State) (o : Out) : State := { s with out := s.out ++ [o] }

/-- The next free byte string of `n` bytes, and the state with the counter advanced (DESIGN CHOICE, log entry 10). -/
def State.free (s : State) (n : Nat) : Bytes × State :=
  ((List.range n).map fun i => Config.freeByte s.freeCtr i, { s with freeCtr := s.freeCtr + 1 })

/-- The wing a function is bound to; PF0 is bound to none (02 R75). -/
def State.fnWing (s : State) (fn : Nat) : Option WingIx := if fn = 0 then none else (s.vf fn).owner

/-- A function takes part: PF0 always; VF n while VF Enable is set and NumVFs ≥ n (14 R435). -/
def State.fnEnabled (s : State) (fn : Nat) : Bool :=
  decide (fn = 0) || (s.pcie.vfEnable && decide (fn ≤ s.pcie.numVfs.toNat))

def State.dlActive (s : State) : Bool := if s.pcie.activeHub = 0 then s.pcie.dlActive0 else s.pcie.dlActive1

/-- Whether the holder of authority is this hub: it is in HOLDER (03 R87 check 2). -/
def State.isHolder (s : State) (h : Nat) : Bool := decide ((s.hub h).auth = .holder)

/-- The hub that acts as holder, if one is in HOLDER: the one that the plinth names, or else the other, which a Claim has
superseded without its knowledge (03 R103, R109). -/
def State.holderHub (s : State) : Option Nat :=
  let h := s.plinth.holder.val
  if s.isHolder h then some h else if s.isHolder (1 - h) then some (1 - h) else none

/-- The wing's half-cells, rising. -/
def State.wingHalves (s : State) (w : Nat) : List Nat :=
  (List.range 16).filter fun h => decide (((s.half h).owner.map (·.val)) = some w)

def State.wingExtents (s : State) (w : Nat) : List Nat :=
  (List.range 384).filter fun e => decide (((s.ext e).owner.map (·.val)) = some w)

def State.wingVfs (s : State) (w : Nat) : List Nat :=
  (s.vfs.filter fun e => decide ((e.2.owner.map (·.val)) = some w)).map (·.1)

def State.wingQueues (s : State) (w : Nat) : List Nat :=
  (s.queues.filter fun e => decide ((e.2.owner.map (·.val)) = some w)).map (·.1)

def State.wingFlows (s : State) (w : Nat) : List Nat :=
  (s.flows.filter fun e => decide ((e.2.owner.map (·.val)) = some w)).map (·.1)

/-- The host function of a wing: PF0 for a platform-owner wing, the lowest VF for a tenant wing (04 R127, 11 R361). -/
def State.hostFn (s : State) (w : Nat) : Option Nat :=
  if (s.wing w).tenant then (s.wingVfs w).head? else some 0

/-- The requests of a wing. -/
def State.findReq (s : State) (id : Nat) : Option Req := s.reqs.find? (fun r => r.id == id)

def State.updReq (s : State) (id : Nat) (f : Req → Req) : State :=
  { s with reqs := s.reqs.map fun r => if r.id = id then f r else r }

/-- The Curator has authority to act: some hub is HOLDER and admission is not stopped by 03 R108. -/
def State.curatorActs (s : State) : Bool := s.holderHub.isSome

/-- The device answers: power is good and no device reset is in progress (16 R503, R505). -/
def State.alive (s : State) : Bool := s.rst.pwrOk && s.rst.level.isNone && !s.rst.railLatch

/-- The stack and the address inside it (11 R340). -/
def stackOf (a : Nat) : Nat := a / (48 * 2 ^ 30)
/-- The extent of a device address (02 R40). -/
def extOf (a : Nat) : Nat := a / 2 ^ 30
/-- The number of the 64 B line. -/
def lineOf (a : Nat) : Nat := a / 64
/-- The bytes of DRAM: 384 GiB. -/
def dramSize : Nat := 384 * 2 ^ 30
/-- The bytes of a half-cell's scratchpad: 48 MiB (10 R307). -/
def spSize : Nat := 0x3000000
/-- Where half-cell `h`'s scratchpad begins in `State.sp`. -/
def spBase (h : Nat) : Nat := h * spSize

/-- Extent 47 of a stack is never bound (02 R40). -/
def isExt47 (e : Nat) : Bool := e % 48 == 47

end Sys2Proof.Machine
end

