-- ==== Sys2Proof/Machine/Crc.lean ====
section
/-! DEFINITION. The CRC-64 of contributions and of pass products, and how a contribution is checked (12 R379, R386, R387). -/

namespace Sys2Proof.Machine

/-- One bit of the division: the polynomial 0x42F0_E1EB_A9EA_3693 of 12 R386, reflected. -/
def crcBit (c : W64) : W64 := if c.getLsbD 0 then (c >>> 1) ^^^ 0xC96C5795D7870F42#64 else c >>> 1

/-- One byte, its least significant bit first. -/
def crcByte (c : W64) (b : Byte) : W64 := (List.range 8).foldl (fun c _ => crcBit c) (c ^^^ b.setWidth 64)

/-- CRC-64 with initial value and final XOR of all ones (12 R386). -/
def crc64 (b : Bytes) : W64 := b.foldl crcByte (BitVec.allOnes 64) ^^^ BitVec.allOnes 64

/-- The header of a partial or of a pooled vector: table, source die, bag and request SEQ (12 R387). -/
def partHeader (table die bag seq : Nat) : Bytes := leBytes 2 table ++ leBytes 1 die ++ [0#8] ++ leBytes 4 bag ++ leBytes 8 seq

/-- The header of an update record: catalogue, epoch O and the HEAD of the record (12 R387). -/
def recHeader (cat epoch head : Nat) : Bytes := leBytes 1 cat ++ [0#8, 0#8, 0#8] ++ leBytes 4 epoch ++ leBytes 8 head

/-- The digest of a contribution, over its header and its payload (12 R387). -/
def digestOf (header payload : Bytes) : W64 := crc64 (header ++ payload)

/-- What a receiver takes of a contribution: it recomputes the digest from the header that it expects and the bytes that it received,
and takes nothing where the digests differ (12 R387). -/
def takeCarried (c : Carried) (header payload : Bytes) : Option Bytes :=
  match c with
  | .intact => some payload
  | .altered data digest => if digestOf header data = digest then some data else none

end Sys2Proof.Machine
end

