-- ==== Sys2Proof/Machine/Routes.lean ====
section
/-! DEFINITION. The die-to-die fabric as a graph (01 R18 to R22): its links and ports, the fixed route between two dies, and the
flits of a transfer; and the term check that the ports on a route make of a Curator's class 0 packet (01 R25, 03 R99). -/

namespace Sys2Proof.Machine

/-! ### Links and ports -/

/-- The dies at the ends of a link (01 R20, 18 R560), by the index of 12 R371: cells 0 to 7, stacks 8 to 15, hubs 16 and 17, link
dies 18 and 19. Port 2n is at the first die, 2n + 1 at the second (DESIGN CHOICE, log entry 26). -/
def linkDies (n : Nat) : Nat × Nat :=
  if n < 3 then (n, n + 1)
  else if n < 6 then (n + 1, n + 2)
  else if n < 10 then (n - 6, n - 2)
  else if n < 18 then (n - 10, n - 2)
  else if n < 20 then (18, 3)
  else if n < 22 then (19, 7)
  else if n < 26 then (16, n - 22)
  else if n < 30 then (17, n - 22)
  else (16, 17)

def portDie (p : Nat) : Nat := if p % 2 = 0 then (linkDies (p / 2)).1 else (linkDies (p / 2)).2

/-- The port at die `b` of the link that joins `a` and `b`. Of the two links between a link die and its cell it is the first
(DESIGN CHOICE, log entry 68). -/
def portInto (a b : Nat) : Option Nat :=
  (List.range 62).find? fun p => decide (portDie p = b) &&
    decide ((if p % 2 = 0 then (linkDies (p / 2)).2 else (linkDies (p / 2)).1) = a)

/-! ### Routes (01 R21, R22, R29) -/

/-- The one cell at which a stack's or a link die's traffic enters the mesh (01 R21); a cell is its own. -/
def homeCell (d : Nat) : Nat :=
  if d < 8 then d else if d < 16 then d - 8 else if d = 18 then 3 else 7

/-- The cell at which die `d` joins the route to or from `other`: a hub, which four cells of a row attach to, joins in the column
of the other end (DEDUCED, log entry 68). -/
def meshCell (d other : Nat) : Nat :=
  if d = 16 ∨ d = 17 then (d - 16) * 4 + homeCell other % 4 else homeCell d

/-- The cells of row `r` from column `a` to column `b`, both included. -/
def rowCells (r a b : Nat) : List Nat :=
  if a ≤ b then (List.range (b - a + 1)).map fun i => 4 * r + a + i else (List.range (a - b + 1)).map fun i => 4 * r + a - i

/-- Through the mesh: along the row to the destination column, then between rows (01 R22). -/
def meshPath (a b : Nat) : List Nat :=
  rowCells (a / 4) (a % 4) (b % 4) ++ (if a / 4 = b / 4 then [] else [b])

/-- The dies that a packet from die `a` to die `b` passes, both included: the only path it takes (01 R22), and the only dies that
the data moves between (01 R29). -/
def route (a b : Nat) : List Nat :=
  if a = b then [a]
  else if (a = 16 ∨ a = 17) ∧ (b = 16 ∨ b = 17) then [a, b]
  else (if a < 8 then [] else [a]) ++ meshPath (meshCell a b) (meshCell b a) ++ (if b < 8 then [] else [b])

/-- The ports that receive the packet along its route, in order. -/
def routePorts (a b : Nat) : List Nat :=
  let r := route a b
  (r.zip r.tail).filterMap fun x => portInto x.1 x.2

/-- The 64 B flits that a transfer of `n` bytes occupies (01 R21). -/
def flits (n : Nat) : Nat := ceilDiv n 64

/-! ### Crossings (01 R31, 16 R507) -/

/-- An asynchronous crossing between two islands: the flits in its FIFO, oldest first. A transfer crosses within the command that makes
it, so every crossing is empty when a command begins (DESIGN CHOICE, log entry 13). -/
structure Crossing where
  fifo : List Bytes
  deriving DecidableEq, Repr

def Crossing.empty : Crossing := { fifo := [] }

/-- The handshake takes a flit while fewer than 8 are held. -/
def Crossing.put (x : Crossing) (flit : Bytes) : Option Crossing := if x.fifo.length < 8 then some { fifo := x.fifo ++ [flit] } else none

/-- The other side takes the oldest flit. -/
def Crossing.take (x : Crossing) : Option (Bytes × Crossing) :=
  match x.fifo with
  | [] => none
  | f :: rest => some (f, { fifo := rest })

/-- A reset of one side empties the FIFO, and the other side sees no entry of it (16 R507). -/
def Crossing.resetSide (_ : Crossing) : Crossing := Crossing.empty

/-! ### The term check of class 0 (01 R25, 03 R99) -/

/-- The die of a hub. -/
def hubDie (h : Nat) : Nat := 16 + h

/-- The ports that a hub's class 0 packets to the dies pass. -/
def sendPorts (h : Nat) (dies : List Nat) : List Nat := dies.flatMap (routePorts (hubDie h))

/-- The first port on the way that refuses the hub's term. -/
def refusingPort (s : State) (h : Nat) (dies : List Nat) : Option Nat :=
  (sendPorts h dies).find? fun p => decide ((s.hub h).authTerm < (s.port p).term)

/-- Every port on the way accepts the hub's term. -/
def portsAccept (s : State) (h : Nat) (dies : List Nat) : Bool := (refusingPort s h dies).isNone

/-- The ports on the way keep a higher term (03 R99). -/
def raiseTerms (s : State) (h : Nat) (dies : List Nat) : State :=
  (sendPorts h dies).foldl (fun s p =>
    if (s.port p).term < (s.hub h).authTerm then s.updPort p fun x => { x with term := (s.hub h).authTerm } else s) s

/-- The dies that hold the in-flight table and its copy, S0 and S4 (02 R41, 03 R101). Whatever a hub does as holder is first
recorded there. -/
def recordDies : List Nat := [8, 12]

/-- The hub acts as holder: the ports on the way to the in-flight table and its copy accept its term. One that they refuse has been
superseded (03 R109). -/
def hubCurrent (s : State) (h : Nat) : Bool := portsAccept s h recordDies

/-- A hub's packet is refused on the way to the dies: the first refusing port answers term-stale with its PORT_TERM (03 R99). -/
def staleSend (s : State) (h : Nat) (dies : List Nat) : State :=
  match refusingPort s h dies with
  | some p => s.emit (.termStale (Fin.ofNat 2 h) (s.port p).term)
  | none => s

end Sys2Proof.Machine
end

