-- ==== Sys2Proof/Machine/Flags.lean ====
section
/-! DEFINITION. The codes that status registers, responses and records give the machine's modes: the FLAGS of a block. -/

namespace Sys2Proof.Machine

/-- MBX_AUTH.STATE (03 R81). -/
def authCode : Auth → Nat
  | .booting => 0 | .shadow => 1 | .suspect => 2 | .claiming => 3 | .holder => 4 | .fencing => 5 | .isolated => 6
  | .failed => 7

/-- WNG_STATUS.STATE (02 R73). -/
def wingCode : WingPhase → Nat
  | .disabled => 0 | .checking => 1 | .enabled => 2 | .draining => 3

/-- QUE_STATUS.STATE (04 R112). -/
def queCode : QuePhase → Nat
  | .disabled => 0 | .enabled => 1 | .halted => 2 | .draining => 3 | .error => 4

/-- CAT_UPD_STATUS.STATE (07 R219). -/
def ringCode : RingPhase → Nat
  | .disabled => 0 | .enabled => 1 | .error => 2

/-- PAR_STATUS.LINK (13 R431). -/
def linkCode : PairLink → Nat
  | .disabled => 0 | .training => 1 | .up => 2 | .degraded => 3 | .down => 4 | .mismatch => 5

/-- PAR_LEASE.STATE (13 R429). -/
def leaseCode : LeaseState → Nat
  | .unpaired => 0 | .holder => 1 | .follower => 2 | .lapsed => 3 | .claiming => 4

/-- NET_FLOW_CTL.STATE (14 R457). -/
def flowCode : FlowPhase → Nat
  | .reset => 0 | .init => 1 | .rtr => 2 | .rts => 3 | .error => 4

/-- VLT_STATUS.MODE (15 R491). -/
def vaultCode : VaultMode → Nat
  | .approved => 0 | .nonApproved => 1 | .selfTest => 2 | .error => 3 | .zeroizing => 4

/-- VLT_TDI.STATE (15 R491). -/
def tdiCode : TdiState → Nat
  | .unlocked => 0 | .locked => 1 | .run => 2 | .error => 3

/-- FW_SLOT.STATE (18 R566). -/
def slotCode : SlotPhase → Nat
  | .empty => 0 | .loading => 1 | .valid => 2 | .trial => 3 | .committed => 4

/-- The pair link is connected: UP or DEGRADED (13 R399). -/
def linkUp : PairLink → Bool
  | .up | .degraded => true
  | _ => false

/-- The link die that carries a catalogue's traffic: by the parity of wing + catalogue, or the other one while it is down
(13 R401). -/
def pairDie (s : State) (n : Nat) : Hub :=
  if n % 2 = 0 then (if s.par.die0.up || !s.par.die1.up then 0 else 1) else (if s.par.die1.up || !s.par.die0.up then 1 else 0)

/-- The holder goes on without its partner (07 R245, 13 R422, R425). -/
def Cat.alone (s : State) (c : Cat) : Bool := decide (c.mode = 0) || c.lost || s.par.declared

/-- Epoch `a` precedes epoch `b` (07 R205). -/
def epPrec (a b : W32) : Bool := decide (1 ≤ (b - a).toNat) && decide ((b - a).toNat < 2 ^ 31)
def epLe (a b : W32) : Bool := decide (a = b) || epPrec a b

/-- A catalogue epoch is refused with PAIR_FENCED on this unit (07 R242, 13 R413): the catalogue is paired and this unit does
not hold the lease. -/
def fenced (s : State) (c : Cat) : Bool := decide (c.mode ≠ 0) && decide (s.par.lease ≠ .holder)

end Sys2Proof.Machine
end

