-- ==== Sys2Proof/Machine/Frames.lean ====
section
/-! DEFINITION. Frames of the pair link: their numbers and replay buffers, and the link die of a message (13 R397, R401). -/

namespace Sys2Proof.Machine

def Par.die (p : Par) (n : Nat) : LinkDie := if n = 0 then p.die0 else p.die1
def Par.setDie (p : Par) (n : Nat) (d : LinkDie) : Par := if n = 0 then { p with die0 := d } else { p with die1 := d }

/-- Changes the pair's state. -/
def State.updPar (s : State) (f : Par → Par) : State := { s with par := f s.par }

/-- A message leaves in the next frame of a link die, and stays in its replay buffer until it is acknowledged. -/
def sendFrame (s : State) (n : Hub) (msg : PairMsg) (args : List Nat) (data : Bytes) : State :=
  let d := s.par.die n
  let f : Frame := { seq := d.txSeq, msg := msg, args := args, data := data }
  (s.updPar fun p => p.setDie n { d with txSeq := d.txSeq + 1, replay := d.replay ++ [f] }).emit (.pair n msg args data)

/-- A message over the link, on the link die of a number (13 R401). -/
def pairSend (s : State) (n : Nat) (msg : PairMsg) (args : List Nat) (data : Bytes) : State :=
  sendFrame s (pairDie s n) msg args data

/-- Every frame up to one is acknowledged. -/
def framesAfter (l : List Frame) (ack : Option W32) : List Frame :=
  match ack with
  | none => l
  | some q => match l.findIdx? fun f => decide (f.seq = q) with | some i => l.drop (i + 1) | none => l

/-- A frame that the partner asks for is sent again from the replay buffer. -/
def repeatFrame (s : State) (n : Hub) (again : Option W32) : State :=
  match again.bind fun q => (s.par.die n).replay.find? fun f => decide (f.seq = q) with
  | some f => (s.updPar fun p => { p with repeats := satInc p.repeats }).emit (.pair n f.msg f.args f.data)
  | none => s

/-- The frames that a failed die had not had acknowledged are sent again on another die, in their order (13 R401). -/
def resendFrames (s : State) (n : Hub) (l : List Frame) : State :=
  l.foldl (fun s f => sendFrame (s.updPar fun p => { p with repeats := satInc p.repeats }) n f.msg f.args f.data) s

end Sys2Proof.Machine
end

