-- ==== Sys2Proof/Machine/Vent.lean ====
section
/-! DEFINITION. The host port's writes and interrupts (14 R443, R444, R449) and the vents (17): records into the stores, the
stores into the host rings, the last-word registers and ALERT#. -/

namespace Sys2Proof.Machine

/-! ### Host writes and interrupts -/

/-- A request that carries no PASID and an untranslated address: one of PF0's own, outside any wing (11 R361). -/
def HostTag.plain : HostTag := { pasid := none, translated := false }

/-- A posted write on the host link. While the active port is not in DL_Active the hub holds it, in order (14 R449). -/
def hostWriteAs (s : State) (fn : Fn) (addr : W64) (data : Bytes) (tag : HostTag) : State :=
  if s.dlActive then s.emit (.hostWrite fn addr data tag)
  else { s with pcie := { s.pcie with held := s.pcie.held ++ [{ fn := fn, addr := addr, data := data, tag := tag }] } }

/-- A posted write that serves no wing. -/
def hostWrite (s : State) (fn : Fn) (addr : W64) (data : Bytes) : State := hostWriteAs s fn addr data HostTag.plain

/-- The 4 MiB of posted writes that the hub can hold are used up (14 R449): engines and completions wait. -/
def heldFull (s : State) : Bool := decide ((s.pcie.held.map fun h => h.data.length).sum + 4096 > 4194304)

/-- The message of an MSI-X entry: a posted write of its data to its address (14 R444). -/
def msixSend (s : State) (fn : Fn) (e : Msix) : State :=
  if s.dlActive then s.emit (.msix fn e.addr e.data)
  else { s with pcie := { s.pcie with held := s.pcie.held ++ [{ fn := fn, addr := e.addr, data := leBytes 4 e.data.toNat, tag := HostTag.plain }] } }

/-- Raises a vector: sent, or pending while it or its function is masked (14 R444). A function that takes no part or whose
MSI-X is off sends nothing (14 R435). -/
def msixRaise (s : State) (fn : Fn) (vec : Nat) : State :=
  let e := s.msixEnt (msixKey fn vec)
  let f := s.fnSt fn
  if !f.msixEn || !s.fnEnabled fn then s
  else if f.fnMask || e.mask then s.setMsixEnt (msixKey fn vec) { e with pend := true }
  else msixSend s fn e

/-! ### Records -/

/-- Severity ALARM (17 R525). -/
def sevAlarm : Byte := 4

/-- A record with the global timestamp and nothing else but its kind and severity. -/
def VentRec.mk0 (s : State) (kind : W16) (sev : Byte) : VentRec :=
  { time := BitVec.ofNat 64 s.now, kind := kind, sev := sev, resent := false, wing := 0xFF, die := 0xFF, island := 0xFF,
    code := 0, d0 := 0, d1 := 0, d2 := 0, d3 := 0 }

/-- The 64 bytes of a record (17 R525). -/
def VSlot.bytes (v : VSlot) : Bytes :=
  leBytes 8 v.r.time.toNat ++ leBytes 8 v.vseq.toNat ++ leBytes 2 v.r.kind.toNat ++ [v.r.sev] ++
  [BitVec.ofNat 8 (b2n v.fallback + 2 * b2n v.r.resent)] ++ [v.r.wing, v.r.die, v.r.island, 0#8] ++
  leBytes 4 v.rep.toNat ++ [v.r.code] ++ List.replicate 3 0#8 ++
  leBytes 8 v.r.d0.toNat ++ leBytes 8 v.r.d1.toNat ++ leBytes 8 v.r.d2.toNat ++ leBytes 8 v.r.d3.toNat

/-- The last-word registers after a record is raised (17 R539, R540): the record, and RST_BOOT; while both rings have failed,
alarms are counted at bytes 64 to 71. -/
def lastWord (s : State) (r : VentRec) : State :=
  let w := fitTo 128 s.vnt.lastword
  let n := leAt w 64 8
  let n' := if s.vnt.bothFailed && r.sev == sevAlarm then (if n + 1 < 2 ^ 64 then n + 1 else n) else n
  let rec64 := VSlot.bytes { r := r, vseq := 0, fallback := s.vnt.fallback, rep := 0 }
  { s with vnt := { s.vnt with
      lastword := rec64 ++ leBytes 8 n' ++ slice w 72 24 ++ leBytes 8 s.rst.boot.toNat ++ slice w 104 24 } }

/-! ### Stores -/

/-- The alarm store takes a record: it takes a credit and its number (17 R525, R527). -/
def alarmAccept (s : State) (r : VentRec) (rep : W32) : State :=
  { s with vnt := { s.vnt with
      alarms := s.vnt.alarms ++ [{ r := r, vseq := s.vnt.vseqA, fallback := false, rep := rep }],
      vseqA := s.vnt.vseqA + 1 } }

/-- Free alarm credits (17 R521, R527). -/
def alarmCredits (s : State) : Nat := 256 - (s.vnt.alarms.length + s.vnt.alarmsOut)

/-- A record of the fallback ring (17 R538): alarms in slots 0–31, ERROR records and summaries in slots 32–63. -/
def fallbackTake (s : State) (r : VentRec) (rep : W32) : State :=
  let isA := r.sev == sevAlarm
  let held := (s.vnt.ring64.filter fun v => (v.r.sev == sevAlarm) == isA).length
  if held < 32 then
    let seq := if isA then s.vnt.vseqA else s.vnt.vseqL
    { s with vnt := { s.vnt with
        ring64 := s.vnt.ring64 ++ [{ r := r, vseq := seq, fallback := true, rep := rep }],
        vseqA := if isA then s.vnt.vseqA + 1 else s.vnt.vseqA,
        vseqL := if isA then s.vnt.vseqL else s.vnt.vseqL + 1 } }
  else s

/-- A slot for an alarm: a credit, or in fallback one of slots 0–31 (17 R527, R538). -/
def alarmRoom (s : State) : Bool :=
  if s.vnt.fallback then decide ((s.vnt.ring64.filter fun v => v.r.sev == sevAlarm).length < 32) else decide (alarmCredits s ≠ 0)

/-- The alarm is taken into its slot. -/
def alarmTake (s : State) (r : VentRec) (rep : W32) : State :=
  if s.vnt.fallback then fallbackTake s r rep else alarmAccept s r rep

/-- An alarm at its producer's latch (17 R528). -/
def alarmLatch (s : State) (producer : Nat) (r : VentRec) : State :=
  if s.vnt.latches.any (fun l => l.producer == producer && l.r.kind == r.kind) then
    { s with vnt := { s.vnt with
        coalesced := satInc s.vnt.coalesced,
        latches := s.vnt.latches.map fun l =>
          if l.producer = producer ∧ l.r.kind = r.kind then { l with rep := satInc l.rep } else l } }
  else { s with vnt := { s.vnt with latches := s.vnt.latches ++ [{ producer := producer, r := r, rep := 0 }] } }

/-- The latches are served in the order they filled, while slots are free (17 R528). -/
def serveLatches : Nat → State → State
  | 0, s => s
  | fuel + 1, s =>
    match s.vnt.latches with
    | [] => s
    | l :: rest =>
      if !alarmRoom s then s
      else serveLatches fuel (alarmTake { s with vnt := { s.vnt with latches := rest } } l.r l.rep)

/-- The STORM_SUMMARY record of an accumulator (17 R531). -/
def stormRecord (s : State) (a : Accum) : VentRec :=
  { VentRec.mk0 s 0x1007 a.sev with
    wing := a.wing, die := BitVec.ofNat 8 (16 + s.pcie.activeHub.val), d0 := BitVec.ofNat 64 a.kind.toNat, d1 := a.first,
    d2 := a.last, d3 := Tbl.get 0#64 s.vnt.logDrops a.sev.toNat }

/-- A slot for a summary: one of the summary store, or in fallback one of slots 32–63 (17 R531, R538). -/
def summaryRoom (s : State) : Bool :=
  if s.vnt.fallback then decide ((s.vnt.ring64.filter fun v => v.r.sev != sevAlarm).length < 32)
  else decide (s.vnt.summaries.length < 64)

/-- An accumulator closes: it becomes a summary where a slot is free, and otherwise stays open until one is (17 R531). -/
def stormShut (s : State) (i : Nat) : State :=
  let a := Tbl.get Accum.init s.vnt.accs i
  let put (s : State) (x : Accum) : State := { s with vnt := { s.vnt with accs := Tbl.set Accum.init s.vnt.accs i x } }
  if a.count = 0 ∨ s.vnt.bothFailed then s
  else if !summaryRoom s then put s { a with due := true }
  else if s.vnt.fallback then put (fallbackTake s (stormRecord s a) a.count) Accum.init
  else
    let slot : VSlot := { r := stormRecord s a, vseq := s.vnt.vseqL, fallback := false, rep := a.count }
    put { s with vnt := { s.vnt with summaries := s.vnt.summaries ++ [slot], vseqL := s.vnt.vseqL + 1 } } Accum.init

/-- A slot for summaries is free: an accumulator that waited for one is written (17 R531). -/
def stormDue (s : State) : State :=
  match (List.range 64).find? fun i => (Tbl.get Accum.init s.vnt.accs i).due with
  | some i => if summaryRoom s then stormShut s i else s
  | none => s

/-! ### The rings -/

def Vnt.ring (v : Vnt) (k : Nat) : Ring := Tbl.get Ring.init v.rings k
def Vnt.setRing (v : Vnt) (k : Nat) (r : Ring) : Vnt := { v with rings := Tbl.set Ring.init v.rings k r }

/-- The eight counters of VNT_ALARM_COALESCED to VNT_LOST_ON_FAIL, in register order (17 R536). -/
def Vnt.counters (v : Vnt) : Bytes :=
  leBytes 8 v.coalesced.toNat ++
  ((List.range 4).map fun i => leBytes 8 (Tbl.get 0#64 v.logDrops i).toNat).flatten ++
  leBytes 8 v.filtered.toNat ++ leBytes 8 v.traceDrops.toNat ++ leBytes 8 v.lost.toNat

/-- Room for `n` bytes in a ring (17 R536). -/
def Ring.room (r : Ring) (n : Nat) : Bool :=
  decide (r.sizeLog2 ≠ 0) && decide (r.tail.toNat - r.head.toNat + n ≤ 2 ^ r.sizeLog2)

/-- Writes a byte string at TAIL, in two parts where it passes the ring's end, and advances TAIL. -/
def ringPut (s : State) (k : Nat) (data : Bytes) : State :=
  let r := s.vnt.ring k
  let size := 2 ^ r.sizeLog2
  let pos := r.tail.toNat % size
  let first := data.take (size - pos)
  let rest := data.drop (size - pos)
  let s1 := hostWrite s 0 (r.addr + BitVec.ofNat 64 pos) first
  let s2 := if rest.isEmpty then s1 else hostWrite s1 0 r.addr rest
  { s2 with vnt := s2.vnt.setRing k { r with tail := r.tail + BitVec.ofNat 64 data.length } }

/-- The status line after the ring, and the vent's vector when it is enabled (17 R536). -/
def ringStatus (s : State) (k : Nat) : State :=
  let r := s.vnt.ring k
  let line := leBytes 8 r.tail.toNat ++ leBytes 8 s.now ++ s.vnt.counters ++ List.replicate 48 0#8
  let s1 := hostWrite s 0 (r.addr + BitVec.ofNat 64 (2 ^ r.sizeLog2)) line
  if bit s1.vnt.irqEn.toNat k then msixRaise s1 0 (fld s1.vnt.vectors.toNat (16 * k) 11) else s1

/-- Writes to the host rings go on: the active port is up, no move is past its drain, and both rings have not failed. -/
def ventWrites (s : State) : Bool := s.dlActive && !s.vnt.bothFailed

/-- Alarm records to the ring while they fit, oldest first (17 R524, R527). -/
def pumpAlarms : Nat → State → Bool → State
  | 0, s, wrote => if wrote then ringStatus s 0 else s
  | fuel + 1, s, wrote =>
    match s.vnt.alarms with
    | [] => if wrote then ringStatus s 0 else s
    | a :: rest =>
      if (s.vnt.ring 0).room 64 then
        let s1 := ringPut s 0 a.bytes
        let pos := (s1.vnt.ring 0).tail.toNat
        pumpAlarms fuel { s1 with vnt := { s1.vnt with
          alarms := rest, alarmsOut := s1.vnt.alarmsOut + 1, delivered := s1.vnt.delivered ++ [(pos, s1.now)] } } true
      else if wrote then ringStatus s 0 else s

/-- Summaries, then log records, to the log ring while they fit (17 R524). -/
def pumpLogs : Nat → State → Bool → State
  | 0, s, wrote => if wrote then ringStatus s 1 else s
  | fuel + 1, s, wrote =>
    match s.vnt.summaries, s.vnt.logs with
    | a :: rest, _ =>
      if (s.vnt.ring 1).room 64 then
        let s1 := ringPut s 1 a.bytes
        pumpLogs fuel (stormDue { s1 with vnt := { s1.vnt with summaries := rest } }) true
      else if wrote then ringStatus s 1 else s
    | [], a :: rest =>
      if (s.vnt.ring 1).room 64 then
        let s1 := ringPut s 1 a.bytes
        pumpLogs fuel { s1 with vnt := { s1.vnt with logs := rest, logsOut := s1.vnt.logsOut + 1 } } true
      else if wrote then ringStatus s 1 else s
    | [], [] => if wrote then ringStatus s 1 else s

/-- Trace windows to the trace ring while they fit (17 R533); bytes 32 to 39 of a header are filled at delivery (17 R534). -/
def pumpTraces : Nat → State → Bool → State
  | 0, s, wrote => if wrote then ringStatus s 2 else s
  | fuel + 1, s, wrote =>
    match s.vnt.traces with
    | [] => if wrote then ringStatus s 2 else s
    | t :: rest =>
      if (s.vnt.ring 2).room t.length then
        let s1 := ringPut s 2 (t.take 32 ++ leBytes 8 s.vnt.traceDrops.toNat ++ t.drop 40)
        pumpTraces fuel { s1 with vnt := { s1.vnt with traces := rest } } true
      else if wrote then ringStatus s 2 else s

/-- In fallback, the primary's engine writes the rings from the fallback ring (17 R537). -/
def pumpFallback : Nat → State → State
  | 0, s => s
  | fuel + 1, s =>
    match s.vnt.ring64 with
    | [] => s
    | a :: rest =>
      let k := if a.r.sev == sevAlarm then 0 else 1
      if (s.vnt.ring k).room 64 then
        let s1 := ringPut s k a.bytes
        let pos := (s1.vnt.ring k).tail.toNat
        let s2 := { s1 with vnt := { s1.vnt with
          ring64 := rest,
          delivered := if k = 0 then s1.vnt.delivered ++ [(pos, s1.now)] else s1.vnt.delivered } }
        let s3 := stormDue (serveLatches s2.vnt.latches.length (ringStatus s2 k))
        pumpFallback fuel s3
      else s

/-- Sets or clears a bit of VNT_ALERT (17 R541). -/
def setAlert (s : State) (i : Nat) (v : Bool) : State :=
  let m : BitVec 7 := BitVec.ofNat 7 (2 ^ i)
  { s with vnt := { s.vnt with alert := if v then s.vnt.alert ||| m else s.vnt.alert &&& ~~~m } }

/-- An alarm has waited undelivered, or delivered and not consumed, for longer than the delay: ALARM_UNACKED (17 R541). -/
def unackedNow (s : State) : Bool :=
  let lim := s.vnt.alertDelay.toNat * 1000000
  let late (t : Nat) := decide (s.now - t > lim)
  s.vnt.alertEn &&
    (s.vnt.alarms.any (fun a => late a.r.time.toNat) ||
     s.vnt.ring64.any (fun a => a.r.sev == sevAlarm && late a.r.time.toNat) || s.vnt.latches.any (fun l => late l.r.time.toNat) ||
     s.vnt.delivered.any (fun d => decide (d.1 > (s.vnt.ring 0).head.toNat) && late d.2))

/-- ALARM_UNACKED clears when no alarm qualifies any more (17 R541). -/
def alertClear (s : State) : State := if s.vnt.alert.getLsbD 0 && !unackedNow s then setAlert s 0 false else s

/-- The primary writes what fits: the alarm store first, then summaries and the log partition, then the trace partition
(17 R524). -/
def ventPump (s : State) : State :=
  if !ventWrites s then s
  else if s.vnt.fallback then alertClear (pumpFallback (s.vnt.ring64.length + s.vnt.latches.length + s.vnt.accs.length) s)
  else
    let s1 := pumpAlarms s.vnt.alarms.length s false
    let s2 := pumpLogs (s1.vnt.summaries.length + s1.vnt.logs.length + s1.vnt.accs.length) s1 false
    alertClear (pumpTraces s2.vnt.traces.length s2 false)

/-- The limit of log records for a severity (17 R530). -/
def logLimit (sev : Byte) : Nat :=
  if sev = 0 then 8192 else if sev = 1 then 12288 else if sev = 2 then 14744 else 16384

/-- The accumulator a drop goes to: the open one of its key, else a free one of the first `n`, else number `n` (17 R531). -/
def accSlot (s : State) (r : VentRec) (n : Nat) : Nat :=
  match (List.range n).find? (fun i =>
      let a := Tbl.get Accum.init s.vnt.accs i
      decide (a.count ≠ 0) && a.kind == r.kind && a.sev == r.sev && a.wing == r.wing) with
  | some i => i
  | none =>
    match (List.range n).find? (fun i => decide ((Tbl.get Accum.init s.vnt.accs i).count = 0)) with
    | some i => i
    | none => n

/-- A log record that is not accepted (17 R530, R531). In fallback there are 8 accumulators, the last of them the catch-all
(17 R538; DEDUCED, log entry 58). -/
def logDrop (s : State) (r : VentRec) : State :=
  let d := Tbl.set 0#64 s.vnt.logDrops r.sev.toNat (satInc (Tbl.get 0#64 s.vnt.logDrops r.sev.toNat))
  let n := if s.vnt.fallback then 7 else 63
  let i := accSlot s r n
  let a := Tbl.get Accum.init s.vnt.accs i
  let a' : Accum :=
    if a.count = 0 then
      { kind := if i = n then 0xFFFF else r.kind, sev := r.sev, wing := if i = n then 0xFF else r.wing, count := 1,
        first := r.time, last := r.time, due := false }
    else { a with count := satInc a.count, last := r.time }
  { s with vnt := { s.vnt with logDrops := d, accs := Tbl.set Accum.init s.vnt.accs i a' } }

/-- An alarm reaches the primary (17 R527, R528, R538). -/
def ventAlarm (s : State) (producer : Nat) (r : VentRec) : State :=
  if s.vnt.bothFailed then s
  else if alarmRoom s then alarmTake s r 0
  else alarmLatch s producer r

/-- SEV_MASK of the log ring excludes the record, or it is a DEBUG record outside test modes: it is not produced (17 R526,
R529). -/
def logExcluded (s : State) (r : VentRec) : Bool :=
  decide (r.sev = 0 ∧ !s.fw.debugLog) || !bit (s.vnt.ring 1).mask r.sev.toNat

/-- A log record reaches the primary (17 R529, R530, R538). DEBUG is produced only in test modes (17 R526). -/
def ventLog (s : State) (r : VentRec) : State :=
  if r.sev = 0 ∧ !s.fw.debugLog then s
  else if !bit (s.vnt.ring 1).mask r.sev.toNat then { s with vnt := { s.vnt with filtered := satInc s.vnt.filtered } }
  else if s.vnt.bothFailed then logDrop s r
  else if s.vnt.fallback then
    if r.sev = 3 ∧ (s.vnt.ring64.filter fun v => v.r.sev != sevAlarm).length < 32 then fallbackTake s r 0 else logDrop s r
  else if s.vnt.logs.length + s.vnt.logsOut < logLimit r.sev then
    { s with vnt := { s.vnt with
        logs := s.vnt.logs ++ [{ r := r, vseq := s.vnt.vseqL, fallback := false, rep := 0 }],
        vseqL := s.vnt.vseqL + 1 } }
  else logDrop s r

/-- A producer raises a record: the last-word registers first, for alarms and ERROR records (17 R539), then the store, then
the rings. A record that is not produced is not raised (DEDUCED, log entry 58). The way from
the producer to the primary takes no step of its own (DESIGN CHOICE, log entry 18). -/
def raise (s : State) (producer : Nat) (r : VentRec) : State :=
  let s1 := if r.sev == sevAlarm || (r.sev == 3#8 && !logExcluded s r) then lastWord s r else s
  ventPump (if r.sev == sevAlarm then ventAlarm s1 producer r else ventLog s1 r)

/-- An alarm with its detail words, for a wing (0xFF for none) and a die. The producer is the die. -/
def alarm (s : State) (kind : W16) (wing die : Nat) (d0 d1 d2 d3 : Nat) : State :=
  raise s die { VentRec.mk0 s kind sevAlarm with
    wing := BitVec.ofNat 8 wing, die := BitVec.ofNat 8 die, d0 := BitVec.ofNat 64 d0, d1 := BitVec.ofNat 64 d1,
    d2 := BitVec.ofNat 64 d2, d3 := BitVec.ofNat 64 d3 }

/-- An alarm with a result code. -/
def alarmCode (s : State) (kind : W16) (wing die : Nat) (code : Byte) (d0 d1 d2 d3 : Nat) : State :=
  raise s die { VentRec.mk0 s kind sevAlarm with
    wing := BitVec.ofNat 8 wing, die := BitVec.ofNat 8 die, code := code, d0 := BitVec.ofNat 64 d0,
    d1 := BitVec.ofNat 64 d1, d2 := BitVec.ofNat 64 d2, d3 := BitVec.ofNat 64 d3 }

/-- A log record with its detail words. -/
def logEvent (s : State) (kind : W16) (sev : Byte) (wing die : Nat) (code : Byte) (d0 d1 d2 d3 : Nat) : State :=
  raise s die { VentRec.mk0 s kind sev with
    wing := BitVec.ofNat 8 wing, die := BitVec.ofNat 8 die, code := code, d0 := BitVec.ofNat 64 d0,
    d1 := BitVec.ofNat 64 d1, d2 := BitVec.ofNat 64 d2, d3 := BitVec.ofNat 64 d3 }

end Sys2Proof.Machine
end

