-- ==== Sys2Proof/Machine/Requests.lean ====
section
/-! DEFINITION. Requests and docents: the shared operations by which a request fails, is aborted or ends (05 R158 to R164), and
by which a docent's registers, program counter, faults and tickets change (05 R153, R157, R160). -/

namespace Sys2Proof.Machine

/-! ### Results -/

/-- A failure of a request is detected at `time`. A request that ended well fails all the same where its last verdict is a
mismatch (12 R380, R381). The earliest detection stands, then the lower code; later ones are only
counted (05 R164). -/
def settle (s : State) (id : Nat) (code : Byte) (pc detail : W32) (time : Nat) : State :=
  s.updReq id fun r =>
    let r' := { r with result := code, faultPc := pc, detail := detail, endTs := time, phase := .finished }
    if r.phase = .finished ∧ r.result ≠ rOK then
      if time < r.endTs ∨ (time = r.endTs ∧ code.toNat < r.result.toNat) then { r' with later := r.later + 1 }
      else { r with later := r.later + 1 }
    else r'

/-- The unit runs no work: it is quarantined, or was cleared and has not returned to service (12 R382, R385). -/
def UnitSt.out (x : UnitSt) : Bool := x.quarantined || x.returning

/-- A docent that holds no request: IDLE, or QUARANTINED (05 R142). -/
def docClear (s : State) (d : Nat) : State :=
  s.setDoc d { Docent.init with state := if (s.unit (40 + d)).out then .quarantined else .idle }

/-- No arbiter holds a grant of one of these docents any more. -/
def dropGrants (s : State) (docs : List Nat) : State :=
  (s.arbs.map (·.1)).foldl (fun s a =>
    if (s.arb a).grant.any docs.contains then s.updArb a fun x => { x with grant := none } else s) s

/-- The docents of a request return to IDLE, and its queued and running engine work is dropped (05 R161 steps 2 to 4). -/
def stopWork (s : State) (id : Nat) : State :=
  let docs := (s.docents.filter fun e => decide (e.2.req = some id)).map (·.1)
  let s1 := dropGrants (docs.foldl docClear s) docs
  { s1 with launches := s1.launches.filter (fun l => l.req != id),
            batches := s1.batches.filter (fun b => b.req != id),
            ckpts := s1.ckpts.filter (fun c => c.req != id) }

/-- An earlier report stands: by time, then code, then rank (05 R164). -/
def faultBefore (a b : DocFault × Nat) : Bool :=
  decide (a.1.time < b.1.time) || (decide (a.1.time = b.1.time) &&
    (decide (a.1.code.toNat < b.1.code.toNat) || (decide (a.1.code = b.1.code) && decide (a.2 < b.2))))

/-- The reports that the request's docents hold, each with its docent's rank. -/
def heldFaults (s : State) (id : Nat) : List (DocFault × Nat) :=
  (s.docents.filter fun e => decide (e.2.req = some id)).filterMap fun e => e.2.fault.map fun f => (f, e.2.rank)

/-- The reports that docents hold and the Curator has not taken are detections too: the first of them settles the request, and the
others are counted (05 R164). -/
def settleHeld (s : State) (id : Nat) : State :=
  match heldFaults s id with
  | [] => s
  | f :: rest =>
    let best := rest.foldl (fun a b => if faultBefore b a then b else a) f
    (settle s id best.1.code best.1.pc best.1.detail best.1.time).updReq id fun r => { r with later := r.later + rest.length }

/-- The request is aborted with a code (05 R161), which stands unless a docent detected a failure earlier (05 R164). -/
def abortReq (s : State) (id : Nat) (code : Byte) (pc detail : W32) : State :=
  stopWork (settle (settleHeld s id) id code pc detail s.now) id

/-- STALE_BINDING with FAULT_PC 0xFFFF_FFFF and DETAIL 0 (02 R52, R59). -/
def abortStale (s : State) (id : Nat) : State := abortReq s id rSTALE_BINDING 0xFFFFFFFF 0

/-- A request that has a result: its completion is not yet visible. -/
def Req.isDone (r : Req) : Bool := decide (r.phase = .finished)

/-- Requests of a wing without a result. -/
def State.liveReqs (s : State) (w : Nat) : List Req := s.reqs.filter fun r => r.wing.val == w && !r.isDone

/-- The horizon of a half-cell: the latest worst-case end of the requests dispatched to it or admitted for it (04 R129). A request that
has its result counts no more, although its completion is not visible yet (DESIGN CHOICE, log entry 69). -/
def horizon (s : State) (h : Nat) : Nat :=
  (s.reqs.filter fun r => !r.isDone && (r.halves.any (·.val == h) || r.reserved.any (·.val == h))).foldl
    (fun m r => max m r.wEnd) 0

/-! ### Registers of a docent -/

/-- A general register: G0 reads zero (05 R153). -/
def Docent.greg (d : Docent) (r : R5) : W64 := if r = 0#5 then 0#64 else Tbl.get 0#64 d.g r.toNat

/-- Writes a general register: a write to G0 is discarded (05 R153). -/
def Docent.setG (d : Docent) (r : R5) (v : W64) : Docent :=
  if r = 0#5 then d else { d with g := Tbl.set 0#64 d.g r.toNat v }

/-- The docent's cell, position and half-cell (00 R12, R13; 05 R141). The spare stands in the half-cell of the position it
substitutes. -/
def docCell (d : Nat) : Nat := d / 5
def docPos (d : Nat) : Nat := d % 5
/-- The position a docent stands for: the spare stands for the one it substitutes. -/
def docRole (s : State) (d : Nat) : Nat :=
  if docPos d = 4 then ((s.unit (40 + d)).subPos).getD 4 else docPos d
def docHalf (s : State) (d : Nat) : Nat := docCell d * 2 + docRole s d / 2

/-- DETAIL of a fault under 05 R162. -/
def faultDetail (d rank : Nat) : W32 := BitVec.ofNat 32 (docCell d * 4096 + docPos d * 256 + rank % 256)

/-- The byte offset in the image of a word (05 R152, R162). -/
def wordOffset (pc : Nat) : W32 := BitVec.ofNat 32 (64 + 8 * pc)

/-- A docent faults: it stops at the word and holds its report until the Curator takes it (05 R160, R161 step 1). A docent that
has already faulted keeps its first report, or the lower code of two at one time; the other is counted (05 R164). -/
def docFaultWith (s : State) (d : Nat) (code : Byte) (pc detail : W32) : State :=
  let new : DocFault := { code := code, pc := pc, detail := detail, time := s.now }
  match (s.doc d).fault, (s.doc d).req with
  | some f, some id =>
    (s.updDoc d fun x => { x with fault := some (if faultBefore (new, x.rank) (f, x.rank) then new else f) }).updReq id fun r =>
      { r with later := r.later + 1 }
  | _, _ => s.updDoc d fun x => { x with stall := .faulted, fault := some new }

/-- A fault at the word `pc` with the DETAIL of 05 R162. -/
def docFault (s : State) (d : Nat) (code : Byte) (pc : Nat) : State :=
  docFaultWith s d code (wordOffset pc) (faultDetail d (s.doc d).rank)

/-- The program of a docent was compiled for the reduced complement. -/
def docReduced (s : State) (d : Nat) : Bool :=
  match (s.doc d).req.bind s.findReq with
  | some r => r.reduced
  | none => false

/-- The docent goes to word `pc`: it faults there if the word fails a check of 05 R151, which only words reached through JR or
RET can (05 R160). -/
def docGoto (s : State) (d : Nat) (pc : Nat) : State :=
  let x := s.doc d
  let s1 := s.setDoc d { x with pc := pc, stall := .none }
  match ozCheck (x.code.getD pc 0#64) pc x.code.length x.consts.length x.sched.length (docReduced s d) with
  | none => s1
  | some code => docFault s1 d code pc

/-- The docent goes to the next word. -/
def docNext (s : State) (d : Nat) : State := docGoto s d ((s.doc d).pc + 1)

/-- A register result, then the next word. -/
def docResult (s : State) (d : Nat) (rd : R5) (v : W64) : State :=
  docNext (s.updDoc d fun x => x.setG rd v) d

/-! ### Tickets and barriers -/

/-- A ticket is complete when it is no longer open (05 R157, R160). -/
def Docent.ticketOpen (d : Docent) (t : W16) : Bool := d.openT.contains t

/-- The docents of a request, in rank order. -/
def reqDocents (s : State) (id : Nat) : List Nat :=
  match s.findReq id with
  | some r => r.docs.map (·.val)
  | none => []

/-- The docents of a request that have not executed END. -/
def notEnded (s : State) (id : Nat) : List Nat :=
  (reqDocents s id).filter fun d => decide ((s.doc d).stall ≠ .ended)

def Stall.isBarrier : Stall → Bool
  | .barrier _ => true
  | _ => false

/-- Once every docent of the request that has not executed END waits at a barrier: all at one barrier are released, and
differing barriers fault each with PROGRAM_BOUNDS (05 R158). When no docent is left, the program has ended (05 R159). -/
def barrierCheck (s : State) (id : Nat) : State :=
  let ds := notEnded s id
  match ds with
  | [] => s.updReq id fun r => { r with ended := true }
  | d0 :: _ =>
    if ds.all (fun d => (s.doc d).stall.isBarrier) then
      if ds.all (fun d => decide ((s.doc d).stall = (s.doc d0).stall)) then ds.foldl docNext s
      else ds.foldl (fun s d => docFault s d rPROGRAM_BOUNDS (s.doc d).pc) s
    else s

/-- A docent that waits for its tickets goes on when what it waits for is complete (05 R154: WAIT, WAITALL, END). -/
def wake (s : State) (d : Nat) : State :=
  let x := s.doc d
  match x.stall with
  | .wait t => if x.ticketOpen t then s else docNext s d
  | .waitall => if x.openT.isEmpty then docNext s d else s
  | .ending =>
    if x.openT.isEmpty then
      let s1 := s.setDoc d { x with stall := .ended }
      match x.req with
      | some id => barrierCheck s1 id
      | none => s1
    else s
  | _ => s

/-! ### Launch queues -/

/-- A docent's queue at an engine, oldest first. -/
def queueAt (s : State) (d : Nat) (e : Engine) : List Launch :=
  s.launches.filter fun l => l.doc.val == d && decide (l.eng = e)

/-- The depth of a queue (05 R157). -/
def queueDepth : Engine → Nat
  | .strm _ => 16
  | .gpe => 32
  | _ => 8

/-- The arbiter of an engine. -/
def engArb : Engine → Option Nat
  | .mu u => some u
  | .ve c => some (40 + c)
  | .ru c => some (48 + c)
  | .strm e => some (56 + e)
  | .gpe => none

/-- The engine's burst ends: no docent holds the grant. -/
def endBurst (s : State) (e : Engine) : State :=
  match engArb e with
  | some a => s.updArb a fun x => { x with grant := none }
  | none => s

/-- The launch is the one that its engine's arbiter has granted: the head of the granted docent's queue (05 R166). -/
def atWork (s : State) (l : Launch) : Bool :=
  match engArb l.eng with
  | some a => decide ((s.arb a).grant = some l.doc.val) && decide ((queueAt s l.doc l.eng).head? = some l)
  | none => false

/-- A ticket completes: its descriptor leaves the engine's queue (05 R157). -/
def ticketEnds (s : State) (d : Nat) (t : W16) : State :=
  let s1 := { s with launches := s.launches.filter fun l => !(l.doc.val == d && l.ticket == t),
                     batches := s.batches.filter fun b => !(b.doc.val == d && b.ticket == t) }
  wake (s1.updDoc d fun x => { x with openT := x.openT.filter (· != t) }) d

/-- Launched work fails: the descriptor ends, so that nothing of it runs again, its burst with it, and its docent faults with the
engine's code (05 R160, 08 R261, 09 R295, 10 R320). Its ticket does not complete. -/
def launchFail (s : State) (l : Launch) (code : Byte) (detail : W32) : State :=
  let s1 := if atWork s l then endBurst s l.eng else s
  docFaultWith { s1 with
    launches := s1.launches.filter fun x => !(x.doc == l.doc && x.ticket == l.ticket),
    batches := s1.batches.filter fun b => !(b.doc == l.doc && b.ticket == l.ticket) } l.doc.val code l.pcOff detail

/-- A ticket of an AFTER field is complete, or 0 for none (09 R304, 10 R314). -/
def afterDone (s : State) (d : Nat) (after : W16) : Bool :=
  decide (after = 0#16) || !(s.doc d).ticketOpen after

/-- A ticket issued within the docent's last 32,768 launches (05 R160): the launch count modulo 2^16 skips 0. -/
def ticketRecent (x : Docent) (t : W16) : Bool :=
  let cur := x.ticket.toNat
  let back := if t.toNat ≤ cur then cur - t.toNat else cur + 65535 - t.toNat
  decide (t ≠ 0#16) && decide (back < 32768) && decide (back < x.issued)

/-- The ticket after `t`: modulo 2^16, skipping 0 (05 R157). -/
def nextTicket (t : W16) : W16 := if t = 0xFFFF#16 then 1#16 else t + 1#16

end Sys2Proof.Machine
end

