-- ==== Sys2Proof/Machine/Log.lean ====
section
/-! DEFINITION. The accession log (02 R75 to R78, 15 R487) and the violations of 02 R62 to R65. -/

namespace Sys2Proof.Machine

/-- Records the log holds (02 R77). -/
def logCapacity : Nat := 2796202
/-- The fill at which the alarm is raised (02 R77). -/
def logNearFull : Nat := 2516582

def logFull (s : State) : Bool := decide (s.log.recs.length ≥ logCapacity)

/-- The second of the global timestamp (02 R78). -/
def secondOf (t : Nat) : Nat := t / 1000000000

/-- The function has caused 100 records in this second (02 R78). -/
def rateFull (s : State) (fn : Nat) : Bool :=
  let r := Tbl.get (0, 0) s.log.rate fn
  decide (r.1 = secondOf s.now) && decide (r.2 ≥ 100)

/-- One record more of a function in this second. -/
def rateCount (s : State) (fn : Nat) : State :=
  let r := Tbl.get (0, 0) s.log.rate fn
  let n := if r.1 = secondOf s.now then r.2 + 1 else 1
  { s with log := { s.log with rate := Tbl.set (0, 0) s.log.rate fn (secondOf s.now, n) } }

/-- Bytes 0 to 127 of a record (02 R76). -/
def logHead (s : State) (fnId : Nat) (wing kind : Nat) (target detail : Nat) (oldH newH : Bytes) : Bytes :=
  leBytes 8 s.log.next.toNat ++ leBytes 8 s.now ++ leBytes 2 fnId ++
  [BitVec.ofNat 8 wing, BitVec.ofNat 8 kind] ++ leBytes 4 target ++ leBytes 8 detail ++ fitTo 48 oldH ++ fitTo 48 newH

/-- Appends a record whose hashes are given, with its CHAIN (15 R487). At 90 % fill the Curator raises an alarm (02 R77).
Records of kinds 0, 1, 4 and 5 count for their function (02 R78). -/
def logPut (s : State) (fnId wing kind target detail : Nat) (oldH newH : Bytes) : State :=
  let h := logHead s fnId wing kind target detail oldH newH
  let ch := sha384 (s.log.chain ++ h)
  let rec192 := h ++ ch ++ List.replicate 16 0#8
  let s1 := { s with log := { s.log with recs := s.log.recs ++ [rec192], next := s.log.next + 1, chain := ch } }
  let s2 := if fnId < 256 ∧ kind ≠ 2 ∧ kind ≠ 3 then rateCount s1 fnId else s1
  let s3 := if wing < 16 then s2.updWing wing fun w => { w with lastSeq := s.log.next, lastChain := ch } else s2
  if s3.log.recs.length = logNearFull then alarm s3 0x0108 0xFF 16 s3.log.recs.length 0 0 0 else s3

/-- Appends a record with the SHA-384 of an old and a new value (02 R76). -/
def logAppend (s : State) (fnId wing kind target detail : Nat) (old new : Bytes) : State :=
  logPut s fnId wing kind target detail (sha384 old) (sha384 new)

/-! ### Violations -/

/-- Counts a violation of a wing, or of no wing (02 R63, R74). -/
def violate (s : State) (w : Option Nat) (kind : Nat) : State :=
  match w with
  | some w => s.updWing w fun x =>
      { x with viol := Tbl.set 0#64 x.viol kind (satInc (Tbl.get 0#64 x.viol kind)),
               violSince := Tbl.set 0 x.violSince kind (Tbl.get 0 x.violSince kind + 1) }
  | none =>
    { s with noWing := Tbl.set 0#64 s.noWing kind (satInc (Tbl.get 0#64 s.noWing kind)),
             noWingSince := Tbl.set 0 s.noWingSince kind (Tbl.get 0 s.noWingSince kind + 1) }

/-- Counts a violation of a function: for its wing, or for no wing where it has none (02 R74). -/
def violateFn (s : State) (fn kind : Nat) : State := violate s ((s.fnWing fn).map (·.val)) kind

/-- A write or command refused under the rate of 02 R78: counted under kind 1 of the function's wing, for PF0 of no wing. -/
def rateRefuse (s : State) (fn : Nat) : State := violateFn s fn 1

/-- An ignored write of a register of `width` bytes is recorded (02 R72, R76 kind 4), unless the log is full or the function's rate is
spent. OLD_HASH is of the value that stands, NEW_HASH of the value that the write asked for (DESIGN CHOICE, log entry 23). -/
def ignoredWrite (s : State) (fn wing off width old new : Nat) : State :=
  if rateFull s fn then rateRefuse s fn
  else if logFull s then s
  else logAppend s fn wing 4 off 0 (leBytes width old) (leBytes width new)

/-! ### Changes and TDIs (15 R481) -/

/-- A TDI enters ERROR: its wing is disabled, and the fetched entries complete with KEY_MISSING. Each change of a TDI's state
is logged (15 R479). -/
def tdiError (s : State) (vf : Nat) : State :=
  let s1 := s.updTdi vf fun t => { t with state := .error }
  match (s.vf vf).owner with
  | some w =>
    let s2 := s1.updWing w fun x =>
      { x with enableReq := false, state := if x.state = .enabled then .draining else x.state }
    let s3 := (s2.liveReqs w).foldl (fun s r => abortReq s r.id rKEY_MISSING 0xFFFFFFFF 0) s2
    if logFull s3 ∨ (s.tdi vf).state = .error then s3 else logAppend s3 vf w 1 0 0 [BitVec.ofNat 8 (tdiCode (s.tdi vf).state)] [3#8]
  | none => s1

/-- TDIs of the wing in CONFIG_LOCKED or RUN, other than the changing function's own, enter ERROR. -/
def tdiTrip (s : State) (w fn : Nat) : State :=
  if w ≥ 16 then s
  else ((s.wingVfs w).filter fun v => decide (v ≠ fn) &&
    (decide ((s.tdi v).state = .locked) || decide ((s.tdi v).state = .run))).foldl tdiError s

/-- A write that is logged as a register write (02 R76 kind 0): ignored while the log is full (02 R77) or the function's
rate is spent (02 R78); else applied, with the record of the old and the new bytes. -/
def loggedChange (s : State) (fn wing off : Nat) (old new : Bytes) (apply : State → State) : State :=
  if rateFull s fn then rateRefuse s fn
  else if logFull s then s
  else tdiTrip (logAppend (apply s) fn wing 0 off 0 old new) wing fn

/-- The same for a register of `width` bytes. -/
def loggedWrite (s : State) (fn wing off width old new : Nat) (apply : State → State) : State :=
  loggedChange s fn wing off (leBytes width old) (leBytes width new) apply

end Sys2Proof.Machine
end

