-- ==== Sys2Proof/Machine/Scp.lean ====
section
/-! DEFINITION. The Salwic Control Protocol (03 R79 to R95, R588, R589): what every command shares, from its submission through the
checks of R87 to its response. -/

namespace Sys2Proof.Machine

/-- A command as a Curator takes it: `minor` is the session minor version it is handled under. -/
structure Cmd where
  fn : Fn
  hub : Hub
  op : Nat
  minor : Byte
  tag : W32
  wing : Byte
  payload : Bytes
  deriving DecidableEq, Repr

/-- How a command's own part ends: a response, or a command in progress, past its commit point or not, with what its later
steps need. -/
inductive Res where
  | done (code : Byte) (payload : Bytes)
  | pend (committed : Bool) (data : List Nat)
  deriving DecidableEq, Repr

/-- A command's own part: check 11 of R87 and the effect. -/
abbrev Handler := State → Cmd → State × Res

/-- Who may issue a command (03 R92). -/
inductive Issuer where
  | any | own | pf0
  deriving DecidableEq, Repr

/-- A row of the command set (03 R92, R588): since which minor, its issuer, its class (0 A to 3 D), and whether checks 9 and 10
apply. -/
structure ScpRow where
  op : Nat
  since : Nat
  issuer : Issuer
  cls : Nat
  config : Bool

/-- The opcodes of SCP 1.2, groups 0x00 to 0x04. EPOCH_RETIRE, PAIR_LEASE and LOG_ACK meet checks 9 and 10 elsewhere or never
(03 R588). -/
def scpTable1 : List ScpRow := [
  ⟨0x0001, 0, .any, 0, false⟩, ⟨0x0002, 0, .any, 0, false⟩, ⟨0x0003, 0, .pf0, 1, true⟩,
  ⟨0x0101, 0, .pf0, 2, true⟩, ⟨0x0102, 0, .pf0, 1, true⟩, ⟨0x0103, 0, .own, 0, false⟩, ⟨0x0104, 0, .own, 2, true⟩,
  ⟨0x0201, 0, .own, 2, true⟩, ⟨0x0202, 0, .own, 1, true⟩, ⟨0x0203, 0, .own, 1, true⟩, ⟨0x0204, 0, .own, 1, true⟩,
  ⟨0x0205, 0, .own, 0, false⟩, ⟨0x0206, 0, .own, 1, false⟩, ⟨0x0207, 0, .own, 1, false⟩, ⟨0x0301, 0, .own, 1, false⟩,
  ⟨0x0401, 0, .pf0, 1, false⟩, ⟨0x0402, 0, .pf0, 3, true⟩, ⟨0x0403, 0, .pf0, 1, true⟩, ⟨0x0404, 0, .pf0, 3, true⟩]

/-- Groups 0x05 to 0x0A. -/
def scpTable2 : List ScpRow := [
  ⟨0x0501, 0, .pf0, 1, true⟩, ⟨0x0502, 0, .pf0, 0, false⟩, ⟨0x0503, 0, .pf0, 0, false⟩, ⟨0x0504, 2, .pf0, 2, true⟩,
  ⟨0x0505, 0, .pf0, 1, true⟩, ⟨0x0601, 0, .any, 0, false⟩, ⟨0x0602, 0, .pf0, 2, false⟩, ⟨0x0603, 0, .own, 1, true⟩,
  ⟨0x0604, 0, .pf0, 2, true⟩, ⟨0x0605, 0, .pf0, 1, false⟩, ⟨0x0606, 0, .pf0, 2, false⟩, ⟨0x0607, 0, .pf0, 0, false⟩,
  ⟨0x0701, 0, .pf0, 0, true⟩, ⟨0x0702, 0, .pf0, 0, false⟩, ⟨0x0703, 0, .pf0, 0, false⟩, ⟨0x0801, 0, .pf0, 0, false⟩,
  ⟨0x0802, 0, .pf0, 2, true⟩, ⟨0x0803, 0, .pf0, 2, true⟩, ⟨0x0804, 0, .pf0, 1, true⟩, ⟨0x0805, 0, .pf0, 1, true⟩,
  ⟨0x0901, 1, .pf0, 2, false⟩, ⟨0x0902, 1, .pf0, 1, true⟩, ⟨0x0A01, 0, .pf0, 2, true⟩, ⟨0x0A02, 2, .pf0, 3, true⟩]

/-- The row of an opcode defined at a session minor (03 R86). -/
def scpRow (op minor : Nat) : Option ScpRow :=
  (scpTable1 ++ scpTable2).find? fun r => r.op == op && decide (r.since ≤ minor)

/-- The class of an opcode. -/
def scpClass (op : Nat) : Nat := match scpRow op 2 with | some r => r.cls | none => 0

/-- The payload length that a command defines for its arguments (03 R87 check 7). -/
def scpLen (op : Nat) (p : Bytes) : Nat :=
  match op with
  | 0x0001 | 0x0102 | 0x0103 | 0x0202 | 0x0205 | 0x0402 | 0x0403 | 0x0505 | 0x0604 | 0x0801 | 0x0804 | 0x0805 | 0x0A01
  | 0x0A02 => 4
  | 0x0101 | 0x0203 | 0x0204 => 8 + 8 * leAt p 2 2
  | 0x0201 => 64
  | 0x0206 | 0x0605 | 0x0701 | 0x0703 => 16
  | 0x0207 | 0x0502 | 0x0607 | 0x0802 | 0x0803 | 0x0901 | 0x0902 => 8
  | 0x0301 => 8 + 16 * leAt p 4 2
  | 0x0401 => max 32 p.length
  | 0x0501 => 64 + 4 * leAt p 2 2
  | 0x0504 => 4 + 2 * leAt p 0 2
  | 0x0603 => 80
  | 0x0606 => 32
  | _ => 0

/-- The wing that the header names as the command's target (03 R589). -/
def scpTarget (op : Nat) (p : Bytes) : Bool :=
  match op with
  | 0x0102 | 0x0103 | 0x0104 | 0x0201 | 0x0202 | 0x0203 | 0x0204 | 0x0205 | 0x0206 | 0x0207 | 0x0301 => true
  | 0x0604 => decide (leAt p 0 1 = 0)
  | 0x0603 => true
  | _ => false

/-- A table ID is in the wing (06 R171): its table exists, is not deleted and belongs to it. -/
def tableIn (s : State) (w id : Nat) : Option Table :=
  match s.table id with
  | some t => if t.wing.val = w ∧ t.phase = .ready then some t else none
  | none => none

/-- The command names a table that is not in the header's wing (03 R87 check 8, 06 R177, R199). -/
def namesForeignTable (s : State) (c : Cmd) : Bool :=
  match c.op with
  | 0x0202 | 0x0203 | 0x0204 => (tableIn s c.wing.toNat (leAt c.payload 0 2)).isNone
  | _ => false

/-! ### Responses -/

/-- The response of 03 R84. -/
def scpResponse (s : State) (c : Cmd) (code : Byte) (payload : Bytes) : Bytes :=
  let h := s.hub c.hub
  leBytes 2 c.op ++ [1#8, c.minor] ++ leBytes 4 c.tag.toNat ++ leBytes 2 payload.length ++
  [code, BitVec.ofNat 8 c.hub] ++ leBytes 4 h.authTerm.toNat ++ leBytes 8 s.now ++ leBytes 2 0x0100 ++ leBytes 2 0x0102 ++
  [if code = rBUSY_REDIRECT then BitVec.ofNat 8 h.authHolder else 0xFF#8] ++ List.replicate 3 0#8 ++ payload

/-- The whole response is in MBX_RSP, then DONE is set and RUNNING cleared (03 R82). -/
def scpFinish (s : State) (c : Cmd) (code : Byte) (payload : Bytes) : State :=
  let k := mbxKey c.fn c.hub
  let m := s.mbox k
  let s1 := s.setMbox k { m with rsp := scpResponse s c code payload, result := code, done := true, run := none }
  if m.irqEn then msixRaise s1 c.fn (s1.fnSt c.fn).mbxVector.toNat else s1

/-- The command in progress in a mailbox. -/
def Run.cmd (r : Run) (fn : Fn) (hub : Hub) : Cmd :=
  { fn := fn, hub := hub, op := r.op.toNat, minor := r.minor, tag := r.tag, wing := r.wing, payload := r.payload }

/-- The command that runs in a mailbox, if it has this opcode. -/
def running (s : State) (fn : Fn) (hub : Hub) (op : Nat) : Option Run :=
  match (s.mbox (mbxKey fn hub)).run with
  | some r => if r.op.toNat = op then some r else none
  | none => none

/-- The command in progress of a mailbox is answered. -/
def runFinish (s : State) (fn : Fn) (hub : Hub) (code : Byte) (payload : Bytes) : State :=
  match (s.mbox (mbxKey fn hub)).run with
  | some r => scpFinish s (r.cmd fn hub) code payload
  | none => s

/-- The command in progress of a mailbox passes its commit point, or changes what its later steps need. -/
def runUpdate (s : State) (fn : Fn) (hub : Hub) (f : Run → Run) : State :=
  s.updMbox (mbxKey fn hub) fun m => { m with run := m.run.map f }

/-- Commands of classes C and D in progress across the device (03 R89). -/
def longRunning (s : State) : Nat :=
  (s.mbx.filter fun m => match m.2.run with | some r => decide (scpClass r.op.toNat ≥ 2) | none => false).length

/-- A further command of class C or D completes with BUSY once it has passed every check (03 R89). -/
def longFull (s : State) : Bool := decide (longRunning s ≥ 4)

/-- The accession-log record of a command at its commit point (02 R76 kind 1, 03 R88). OLD_HASH is of no bytes and NEW_HASH of the
payload (DESIGN CHOICE, log entry 23). -/
def scpCommit (s : State) (c : Cmd) : State :=
  tdiTrip (logAppend s c.fn c.wing.toNat 1 c.op 0 [] c.payload) c.wing.toNat c.fn

/-- A command that only reads, or is refused. -/
def answer (code : Byte) (payload : Bytes) (s : State) : State × Res := (s, .done code payload)

/-- A list of checks (failure, code), then the effect: the first failure is the answer. -/
def checked (s : State) (checks : List (Bool × Byte)) (effect : State → State × Res) : State × Res :=
  match firstFail checks with
  | some code => (s, .done code [])
  | none => effect s

/-- Check 11 begins with the WING byte (03 R589): 0xFF for a command that takes no wing. -/
def noWing (c : Cmd) : Bool × Byte := (decide (c.wing ≠ 0xFF#8), rRESERVED_VALUE)
/-- A target wing of 16 or above, from PF0. -/
def badWing (c : Cmd) : Bool × Byte := (decide (c.wing.toNat ≥ 16), rADDR_RANGE)

/-! ### Checks 1 to 10 of 03 R87 -/

/-- The issuer lacks the right, or names a wing or table outside its own (check 8): whether, and whether it is a violation of
kind 6 (02 R64). A WING of 16 or above from PF0 is no wing, so no table is foreign to it: it is refused in check 11 (03 R589). -/
def scpRight (s : State) (c : Cmd) (row : ScpRow) : Bool × Bool :=
  if c.fn = 0 then
    (decide (c.wing.toNat < 16) && namesForeignTable s c, false)
  else
    let own := (s.fnWing c.fn).map (·.val)
    match row.issuer with
    | .any => (false, false)
    | .pf0 => (true, false)
    | .own =>
      if !scpTarget c.op c.payload then (false, false)
      else if own = some c.wing.toNat then (namesForeignTable s c, namesForeignTable s c)
      else (true, decide (c.wing.toNat < 16))

/-- Opcodes that recovery firmware answers (18 R548). -/
def recoveryOp (op : Nat) : Bool := [0x0001, 0x0002, 0x0601, 0x0401, 0x0402].contains op

/-- Opcodes accepted in quarantine (18 R553). -/
def quarantineOp (op : Nat) : Bool :=
  [0x0001, 0x0002, 0x0003, 0x0103, 0x0401, 0x0402, 0x0403, 0x0404, 0x0503, 0x0601, 0x0602, 0x0605, 0x0606, 0x0607,
   0x0701, 0x0702, 0x0703, 0x0801, 0x0A01].contains op

/-- The first failing check of 03 R87, 1 to 10, and the refusal of quarantine, which begins check 11. `major`, `minor`, `reserved` and `length` are what the header holds. -/
def scpChecks (s : State) (c : Cmd) (major minor : Nat) (reserved : Bool) (length : Nat) : Option (Nat × Byte) :=
  let h := s.hub c.hub
  let free := decide (c.op = 0x0001 ∨ c.op = 0x0002 ∨ c.op = 0x0601)
  let row := scpRow c.op c.minor.toNat
  firstFailAt [
    (decide (h.auth = .claiming), rBUSY),
    (decide (h.auth ≠ .holder) && !free, rBUSY_REDIRECT),
    (decide (major ≠ 1) || (decide (c.op ≠ 0x0001) && decide (minor ≠ c.minor.toNat)), rVERSION_UNSUPPORTED),
    (row.isNone || (s.fw.recovery && !recoveryOp c.op), rUNKNOWN_COMMAND),
    (reserved, rRESERVED_FIELD_SET),
    (decide (length > 4064), rADDR_RANGE),
    (decide (length ≠ scpLen c.op c.payload), rRESERVED_VALUE),
    ((match row with | some r => (scpRight s c r).1 | none => false), rNOT_PERMITTED),
    ((match row with | some r => r.config | none => false) && logFull s, rBUSY),
    ((match row with | some r => r.config | none => false) && rateFull s c.fn, rBUSY),
    (s.fw.quarantine && !quarantineOp c.op, rSETTINGS_UNREADABLE)]

/-- What a refusal at checks 8 and 10 counts (02 R64, R78). -/
def scpRefusal (s : State) (c : Cmd) (check : Nat) : State :=
  if check = 8 then
    match scpRow c.op c.minor.toNat with
    | some r => if (scpRight s c r).2 then violateFn s c.fn 6 else s
    | none => s
  else if check = 10 then rateRefuse s c.fn
  else s

/-- A hub's mailbox window is reachable (03 R80). -/
def hubReach (s : State) (h : Hub) : Bool :=
  decide (h = s.pcie.activeHub) || (s.hubLinkUp && (s.hub h).mains)

/-- Memory requests reach a function's BARs: the device is out of reset, the host link is up, and the function takes part, is in
D0, has memory space enabled and its TDI is not in ERROR (14 R434, R435, 15 R481, 16 R519). -/
def memOpen (s : State) (fn : Fn) : Bool :=
  s.alive && s.dlActive && s.fnEnabled fn && !(s.fnSt fn).d3 && (if fn = 0 then (s.fnSt 0).memSpace else s.pcie.vfMse) &&
  decide ((s.tdi fn).state ≠ .error)

/-- BAR0 blocks other than GLB and MBX answer: READY is set in the authority holder's window (16 R505). -/
def regReady (s : State) (fn : Fn) : Bool := memOpen s fn && (s.hub s.plinth.holder).ready

/-- An earlier posted BAR2 write of the function is not performed yet: the host port holds back the function's BAR2 reads and BAR0 writes
(11 R367). A command that it holds has no effect, and its sender gives it again (DESIGN CHOICE, log entry 77). -/
def portHeld (s : State) (fn : Fn) : Bool := s.bar2Waits.any fun w => w.1 == fn

/-- A BAR0 write to such a block is delivered. -/
def regOpen (s : State) (fn : Fn) : Bool := regReady s fn && !portHeld s fn

/-- A register of a wing's page is reached by PF0 and by the wing's VFs; another function's access is a violation of kind 1
(02 R62, R63). -/
def wingReg (s : State) (fn : Fn) (w : Nat) (f : State → State) : State :=
  if !regOpen s fn then s
  else if fn = 0 ∨ (s.fnWing fn).map (·.val) = some w then f s
  else violateFn s fn 1

/-- A register visible to PF0 only. -/
def pf0Reg (s : State) (fn : Fn) (f : State → State) : State :=
  if !regOpen s fn then s else if fn = 0 then f s else violateFn s fn 1

/-- A submission reaches the window's Curator, which answers commands (03 R80, R81; 11 R367). -/
def windowOpen (s : State) (fn : Fn) (hub : Hub) : Bool :=
  memOpen s fn && hubReach s hub && (s.hub hub).ready && !portHeld s fn

/-- The window's hub is in HOLDER, but a fabric port on the way to the in-flight table has accepted a higher term: what the hub
sends as holder is refused (03 R99, R109). HELLO, AUTH_QUERY and VAULT_STATUS send nothing. -/
def superseded (s : State) (c : Cmd) : Bool :=
  decide ((s.hub c.hub).auth = .holder) && !hubCurrent s c.hub && !decide (c.op = 0x0001 ∨ c.op = 0x0002 ∨ c.op = 0x0601)

/-- The superseded hub meets the term-stale reply: it stops, and answers as a hub that does not hold authority (03 R87 check 2, R103;
DEDUCED, log entry 68). -/
def redirectStale (s : State) (c : Cmd) : State :=
  scpFinish ((staleSend s c.hub recordDies).updHub c.hub fun x => { x with auth := .fencing }) c rBUSY_REDIRECT []

/-- A submitted command: ignored with COLLIDE while one is in progress (03 R82), BUSY during a host port move (14 R448); else
its checks, then its own part. -/
def scpSubmit (s : State) (c : Cmd) (major minor : Nat) (reserved : Bool) (length : Nat) (h : Handler) : State :=
  if !windowOpen s c.fn c.hub then s
  else if (s.mbox (mbxKey c.fn c.hub)).run.isSome then
    s.updMbox (mbxKey c.fn c.hub) fun m => { m with collide := true }
  else if superseded s c then redirectStale s c
  else if s.pcie.moving then scpFinish s c rBUSY []
  else
    match scpChecks s c major minor reserved length with
    | some f => scpFinish (scpRefusal s c f.1) c f.2 []
    | none =>
      let r := h s c
      match r.2 with
      | .done code payload => scpFinish r.1 c code payload
      | .pend committed data =>
        let run : Run :=
          { op := BitVec.ofNat 16 c.op, minor := c.minor, tag := c.tag, wing := c.wing, payload := c.payload, start := s.now,
            committed := committed, data := data }
        r.1.updMbox (mbxKey c.fn c.hub) fun m => { m with run := some run }

/-- The command of one row: VER_MAJOR 1, the session minor, no reserved bit, and the payload's own length (DESIGN CHOICE, log entry 14). -/
def scpExec (op : Nat) (h : Handler) (fn : Fn) (hub : Hub) (tag : W32) (wing : Byte) (payload : Bytes) (s : State) :
    Host.Outcome State Fault Refusal :=
  let minor := (s.fnSt fn).minor
  .next (scpSubmit s { fn := fn, hub := hub, op := op, minor := minor, tag := tag, wing := wing, payload := payload }
    1 minor.toNat false payload.length h)

end Sys2Proof.Machine
end

