-- ==== Sys2Proof/Machine/Epochs.lean ====
section
/-! DEFINITION. The epochs of a catalogue: those in use, the end of a commit, the discard of the open epoch and the waiting
EPOCH_RETIREs (07 R206, R207, R226, R230, R234 to R237). -/

namespace Sys2Proof.Machine

/-! ### Epochs in use and live versions (07 R206 to R208) -/

/-- The open epoch, until a discard of it is done. -/
def Cat.openOf (c : Cat) : Option W32 := if c.isOpen then some c.openEp else c.discardEp

/-- Unfinished requests of a catalogue that pin an epoch. -/
def catReqs (s : State) (w c : Nat) : List Req :=
  s.reqs.filter fun r => r.wing.val == w && decide (r.cat.map (·.val) = some c) && !r.isDone && r.epoch.isSome

def pinsOf (s : State) (w c : Nat) : List W32 := (catReqs s w c).filterMap (·.epoch)

/-- The epochs in use at this unit. -/
def ownUse (s : State) (w c : Nat) : List W32 :=
  let k := s.cat (catKey w c)
  k.vis :: pinsOf s w c ++ k.resyncBase.toList

/-- The epochs in use: for a striped catalogue, the partner's last report as well (13 R408). -/
def inUse (s : State) (w c : Nat) : List W32 :=
  let k := s.cat (catKey w c)
  ownUse s w c ++ (if k.mode = 2 then (k.partnerOldest.map fun p =>
    match k.forcedTo with | some f => if epPrec p f then f else p | none => p).toList else [])

def earliest (v : W32) (l : List W32) : W32 := l.foldl (fun m e => if epPrec e m then e else m) v

/-- L (07 R207). -/
def oldestLive (s : State) (w c : Nat) : W32 := earliest (s.cat (catKey w c)).vis (inUse s w c)
/-- The oldest epoch this unit holds in use (13 R408). -/
def oldestOwn (s : State) (w c : Nat) : W32 := earliest (s.cat (catKey w c)).vis (ownUse s w c)

def catUpd (s : State) (w c : Nat) (f : Cat → Cat) : State := s.updCat (catKey w c) f

def maxLimit : W64 := BitVec.allOnes 64

/-! ### The ring at rest -/

/-- The stall is over. -/
def Cat.unstall (k : Cat) : Cat := { k with stall := 0, stallAt := none, stallRow := none }

/-- The ring holds no record of its own: what stalls for the holder of the pair stays (07 R241). -/
def Cat.clearBusy (k : Cat) : Cat :=
  { (if k.follow.isSome then k else k.unstall) with busy := none, applied := false }

/-- The record in progress has begun: a stalled one has written nothing (07 R221). -/
def Cat.inProgress (k : Cat) : Bool := k.busy.isSome && decide (k.stall = 0)

/-- The ring is disabled: a stalled record stays at HEAD (07 R221). -/
def ringDisable (s : State) (w c : Nat) : State :=
  catUpd s w c fun k => { k.clearBusy with state := .disabled, disableAfter := false }

/-- A DISABLE that waited for a record acts once no record is in progress (07 R221). -/
def disablePoll (s : State) (w c : Nat) : State :=
  let k := s.cat (catKey w c)
  if k.disableAfter && !k.inProgress then ringDisable s w c else s

/-! ### Waiting EPOCH_RETIREs -/

/-- What an EPOCH_RETIRE in progress waits for: L to reach F, its discard, or the end of a commit. -/
def waitL : Nat := 0
def waitDiscard : Nat := 1
def waitCommit : Nat := 2

/-- The mailboxes whose command in progress is an EPOCH_RETIRE of the catalogue. -/
def retireRuns (s : State) (w c : Nat) : List (Fn × Hub × Run) :=
  s.mbx.filterMap fun e =>
    match e.2.run with
    | some r =>
      if r.op = 0x0207 ∧ r.wing.toNat = w ∧ leAt r.payload 0 1 = c then some (Fin.ofNat 256 (e.1 / 2), Fin.ofNat 2 e.1, r) else none
    | none => none

/-- The EPOCH_RETIREs that waited for the discard complete. -/
def discardAnswer (s : State) (w c : Nat) : State :=
  (retireRuns s w c).foldl (fun s x => if x.2.2.data.headD 0 = waitDiscard then runFinish s x.1 x.2.1 rOK [] else s) s

/-! ### The end of a commit and the discard -/

/-- A commit in progress is answered with a code: the epoch stays open, and the limit keeps UPTO (07 R230). -/
def commitDrop (s : State) (w c : Nat) (code : Byte) : State :=
  match (s.cat (catKey w c)).commit with
  | none => s
  | some m => runFinish (catUpd s w c fun k => { k with commit := none }) m.fn m.hub code []

/-- The commit point (07 R230 steps 4 and 5); `ts` is its timestamp. A discard that waited for it has no open epoch left. -/
def commitVisible (s : State) (w c : Nat) : State :=
  catUpd s w c fun k =>
    { k with vis := k.openEp, isOpen := false, limit := maxLimit, commit := none, discardEp := none,
             termOfV := if k.mode = 0 then k.termOfV else s.par.term }

/-- The partner is told of the discard of an epoch, now or when the link is connected again (07 R244, 13 R425). -/
def sendDiscard (s : State) (w c : Nat) (ep : W32) : State :=
  let k := s.cat (catKey w c)
  if k.mode = 0 ∨ s.par.lease ≠ .holder then s
  else if linkUp s.par.link ∧ !k.alone s then
    pairSend s (w + c) .commitRequest [w, c, ep.toNat, 1, s.par.term.toNat] []
  else catUpd s w c fun k => { k with discardOwed := some ep }

/-- The open epoch is discarded: consumption has stopped and its record is settled (07 R234). A commit at step 2 ends
(07 R230). The partner is told (07 R244). -/
def discardBegin (s : State) (w c : Nat) : State :=
  let k := s.cat (catKey w c)
  let s1 := catUpd s w c fun k => { k.clearBusy.unstall with isOpen := false, discardEp := some k.openEp, follow := none,
                                                             limit := if k.commit.isSome then maxLimit else k.limit }
  let s2 := commitDrop (disablePoll s1 w c) w c rNOT_PERMITTED
  discardAnswer (sendDiscard s2 w c k.openEp) w c

/-- A discard that had to wait can begin: its record is settled and no commit is at step 3 (07 R234). -/
def Cat.discardDue (k : Cat) : Bool := k.isOpen && k.discardEp.isSome && k.commit.isNone && !k.applied

/-- The waiting EPOCH_RETIREs of a catalogue whose condition holds are answered (07 R234, R236, R237), and a waiting discard begins.
A unit that has lost the lease meanwhile discards nothing (13 R413). -/
def retirePoll (s0 : State) (w c : Nat) : State :=
  let s := if (s0.cat (catKey w c)).discardDue then discardBegin s0 w c else s0
  (retireRuns s w c).foldl (fun s x =>
    let k := s.cat (catKey w c)
    let f := BitVec.ofNat 32 (leAt x.2.2.payload 4 4)
    let stage := x.2.2.data.headD 0
    if stage = waitL then
      if epLe f (oldestLive s w c) then runFinish s x.1 x.2.1 rOK [] else s
    else if stage = waitCommit ∧ k.commit.isNone then
      if k.isOpen then
        if fenced s k then runFinish s x.1 x.2.1 rPAIR_FENCED [] else runFinish (discardBegin s w c) x.1 x.2.1 rOK []
      else if epLe f (oldestLive s w c) then runFinish s x.1 x.2.1 rOK []
      else runUpdate s x.1 x.2.1 fun r => { r with data := [waitL] }
    else s) s

/-- A commit in progress ends with a code, and what waited for its end goes on. -/
def commitEnd (s : State) (w c : Nat) (code : Byte) : State :=
  if (s.cat (catKey w c)).commit.isSome then retirePoll (commitDrop s w c code) w c else s

/-- Every waiting EPOCH_RETIRE of the part is looked at: pins may have been released. -/
def retireAll (s : State) : State :=
  (List.range 128).foldl (fun s i => if (retireRuns s (i / 8) (i % 8)).isEmpty then s else retirePoll s (i / 8) (i % 8)) s

/-- A request is aborted, and the EPOCH_RETIREs that its pin held up complete (05 R161, 07 R206, R236). -/
def abortPinned (s : State) (id : Nat) (code : Byte) (pc detail : W32) : State := retireAll (abortReq s id code pc detail)

/-- The ring enters ERROR (07 R226); a record whose writes have begun still finishes (07 R223), a DISABLE that waited for one that has
written nothing acts (07 R221), and a commit that waits for records ends (07 R230). -/
def ringError (s : State) (w c check : Nat) (code : Byte) : State :=
  let s1 := disablePoll (catUpd s w c fun k =>
    { (if k.applied then k else k.clearBusy) with state := .error, reason := code, check := check }) w c
  match (s1.cat (catKey w c)).commit with
  | some m => if m.step = 2 ∧ (s1.cat (catKey w c)).head ≠ m.upto then commitEnd s1 w c rNOT_PERMITTED else s1
  | none => s1

end Sys2Proof.Machine
end

