-- ==== Sys2Proof/Machine/Numeric.lean ====
section
/-! DEFINITION. Numbers of the engines: element formats, exact values, one rounding to nearest with ties to even, and the
operations that 08 R267 to R271 and 09 R283 to R299 define on them. A finite value is an integer times a power of two, so every
sum and product is exact until it is rounded. -/

namespace Sys2Proof.Machine

/-- An exact number: NaN, an infinity, or (−1)^neg × m × 2^e. -/
inductive Num where
  | nan
  | inf (neg : Bool)
  | fin (neg : Bool) (m : Nat) (e : Int)
  deriving DecidableEq, Repr

def Num.zero : Num := .fin false 0 0

/-! ### Element formats

The codes are those of 09 R282: 0, 1 INT4 unsigned, signed; 2, 3 INT8 unsigned, signed; 4 E4M3; 5 E5M2; 6 BF16; 7 FP16;
8 INT16; 9 INT32; 10 FP32. -/

def fmtIsFloat (c : Nat) : Bool := c == 4 || c == 5 || c == 6 || c == 7 || c == 10

/-- Bits of an element. -/
def fmtBits (c : Nat) : Nat :=
  match c with
  | 0 | 1 => 4
  | 2 | 3 | 4 | 5 => 8
  | 6 | 7 | 8 => 16
  | _ => 32

/-- The range of an integer format. -/
def fmtLo (c : Nat) : Int :=
  match c with
  | 1 => -8 | 3 => -128 | 8 => -32768 | 9 => -2147483648 | _ => 0
def fmtHi (c : Nat) : Int :=
  match c with
  | 0 => 15 | 1 => 7 | 2 => 255 | 3 => 127 | 8 => 32767 | _ => 2147483647

/-- Bytes of a row of `n` elements: INT4 is packed (08 R251). -/
def rowBytes (c n : Nat) : Nat := (n * fmtBits c + 7) / 8

/-- Significand bits with the hidden one, exponent bits and least normal exponent of a floating format. -/
def fmtPrec (c : Nat) : Nat :=
  match c with
  | 4 => 4 | 5 => 3 | 6 => 8 | 7 => 11 | _ => 24
def fmtExpBits (c : Nat) : Nat :=
  match c with
  | 4 => 4 | 5 => 5 | 7 => 5 | _ => 8
def fmtBias (c : Nat) : Int := (2 ^ (fmtExpBits c - 1) - 1 : Nat)
def fmtEmin (c : Nat) : Int := 1 - fmtBias c

/-- The largest finite magnitude, as an integer times 2^e: 448 for E4M3 (08 R271). -/
def fmtMax (c : Nat) : Nat × Int :=
  match c with
  | 4 => (448, 0)
  | 5 => (57344, 0)
  | 7 => (65504, 0)
  | 6 => (255, 120)
  | _ => (2 ^ 24 - 1, 104)

/-- FP8 subnormals are read as zero and tiny FP8 outputs become zero (08 R251, R271). -/
def fmtFlush (c : Nat) : Bool := c == 4 || c == 5

/-- The canonical NaN (08 R270). -/
def fmtNan (c : Nat) : Nat :=
  match c with
  | 4 => 0x7F | 5 => 0x7E | 6 => 0x7FC0 | 7 => 0x7E00 | _ => 0x7FC00000

/-- The value of the bits of a floating element (08 R251). -/
def decodeF (c v : Nat) : Num :=
  let mb := fmtPrec c - 1
  let eb := fmtExpBits c
  let mant := v % 2 ^ mb
  let ex := v / 2 ^ mb % 2 ^ eb
  let neg := decide (v / 2 ^ (mb + eb) % 2 = 1)
  if c = 4 ∧ ex = 15 ∧ mant = 7 then .nan
  else if c ≠ 4 ∧ ex = 2 ^ eb - 1 then (if mant = 0 then .inf neg else .nan)
  else if ex = 0 then
    if fmtFlush c then .fin neg 0 0 else .fin neg mant (fmtEmin c - mb)
  else .fin neg (2 ^ mb + mant) ((ex : Int) - fmtBias c - mb)

/-- An FP8 subnormal input is read as zero: flag FLUSHED (09 R292). -/
def inputFlushed (c v : Nat) : Bool :=
  let mb := fmtPrec c - 1
  fmtFlush c && decide (v / 2 ^ mb % 2 ^ fmtExpBits c = 0) && decide (v % 2 ^ mb ≠ 0)

/-- The value of the bits of an integer element. -/
def decodeI (c v : Nat) : Int :=
  if fmtLo c < 0 then signed (fmtBits c) v else (v % 2 ^ fmtBits c : Nat)

/-! ### Rounding -/

/-- `m` ÷ 2^k to the nearest integer, ties to even. -/
def rneShift (m k : Nat) : Nat :=
  let q := m / 2 ^ k
  let r := m % 2 ^ k
  if 2 * r > 2 ^ k ∨ (2 * r = 2 ^ k ∧ q % 2 = 1) then q + 1 else q

/-- m × 2^e rounded to `p` significand bits, or to the quantum of the subnormals below 2^emin: the integer and its exponent. -/
def roundTo (p : Nat) (emin : Int) (m : Nat) (e : Int) : Nat × Int :=
  if m = 0 then (0, 0)
  else
    let q := max (e + (Nat.log2 m : Int)) emin - ((p : Int) - 1)
    if q ≤ e then (m * 2 ^ (e - q).toNat, q) else (rneShift m (q - e).toNat, q)

/-- a × 2^ea > b × 2^eb. -/
def magGt (a : Nat) (ea : Int) (b : Nat) (eb : Int) : Bool :=
  let e := min ea eb
  decide (a * 2 ^ (ea - e).toNat > b * 2 ^ (eb - e).toNat)

/-- Flags of 09 R292, as bits. -/
def fgINVALID : Nat := 1
def fgDIV_ZERO : Nat := 2
def fgOVERFLOW : Nat := 4
def fgSATURATE : Nat := 8
def fgNAN_SEEN : Nat := 16
def fgFLUSHED : Nat := 32

/-- The bits of a value in a floating format, rounded once, with the flags of the conversion (08 R271, 09 R292). -/
def encodeF (c : Nat) (sat : Bool) (x : Num) : Nat × Nat :=
  let mb := fmtPrec c - 1
  let eb := fmtExpBits c
  let sgn (neg : Bool) : Nat := if neg then 2 ^ (mb + eb) else 0
  let big (neg fromInf : Bool) : Nat × Nat :=
    let ov := if fromInf then 0 else fgOVERFLOW
    if fmtFlush c ∧ sat then (sgn neg + (if c = 4 then 0x7E else 0x7B), ov)
    else if c = 4 then (0x7F, ov + fgINVALID)
    else (sgn neg + (2 ^ eb - 1) * 2 ^ mb, ov)
  match x with
  | .nan => (fmtNan c, 0)
  | .inf neg => big neg true
  | .fin neg m e =>
    if m = 0 then (sgn neg, 0)
    else
      let r := roundTo (fmtPrec c) (fmtEmin c) m e
      if magGt r.1 r.2 (fmtMax c).1 (fmtMax c).2 then big neg false
      else if r.1 < 2 ^ mb then
        if fmtFlush c then (sgn neg, fgFLUSHED) else (sgn neg + r.1, 0)
      else
        let n := if r.1 = 2 ^ (mb + 1) then 2 ^ mb else r.1
        let q := if r.1 = 2 ^ (mb + 1) then r.2 + 1 else r.2
        (sgn neg + (q + mb + fmtBias c).toNat * 2 ^ mb + (n - 2 ^ mb), 0)

/-- A value rounded once to a floating format, as a value. -/
def roundF (c : Nat) (x : Num) : Num := decodeF c (encodeF c false x).1

/-- A value rounded once to binary32. -/
def rn32 (x : Num) : Num := roundF 10 x

/-- The binary32 bits of a value. -/
def bits32 (x : Num) : Nat := (encodeF 10 false x).1

def val32 (v : Nat) : Num := decodeF 10 v

/-- An integer as a number. -/
def Num.ofInt (i : Int) : Num := .fin (decide (i < 0)) i.natAbs 0

/-- A value to an integer format: nearest, ties to even, then clamped; NaN gives 0 (09 R283), with the flags of 09 R292. -/
def toIntFmt (c : Nat) (x : Num) : Int × Nat :=
  match x with
  | .nan => (0, fgINVALID)
  | .inf neg => (if neg then fmtLo c else fmtHi c, fgSATURATE)
  | .fin neg m e =>
    let n : Nat := if e ≥ 0 then m * 2 ^ e.toNat else rneShift m (-e).toNat
    let i : Int := if neg then -(n : Int) else n
    if i > fmtHi c then (fmtHi c, fgSATURATE) else if i < fmtLo c then (fmtLo c, fgSATURATE) else (i, 0)

/-- An integer clamped to an integer format. -/
def clampI (c : Nat) (i : Int) : Int × Nat :=
  if i > fmtHi c then (fmtHi c, fgSATURATE) else if i < fmtLo c then (fmtLo c, fgSATURATE) else (i, 0)

/-! ### Exact sums and products -/

def Num.isNan : Num → Bool
  | .nan => true
  | _ => false

def Num.isInf : Num → Bool
  | .inf _ => true
  | _ => false

def Num.isZero : Num → Bool
  | .fin _ m _ => decide (m = 0)
  | _ => false

def Num.sign : Num → Bool
  | .nan => false
  | .inf n => n
  | .fin n _ _ => n

/-- The finite value as an integer at exponent `e`, which is no more than its own. -/
def Num.at (e : Int) : Num → Int
  | .fin neg m e' => let k := m * 2 ^ (e' - e).toNat; if neg then -(k : Int) else k
  | _ => 0

def Num.exp : Num → Int
  | .fin _ m e => if m = 0 then 0 else e
  | _ => 0

/-- a × b, exactly; 0 × ∞ and NaN give NaN (08 R270). -/
def Num.mul (a b : Num) : Num :=
  match a, b with
  | .nan, _ => .nan
  | _, .nan => .nan
  | .inf n, x => if x.isZero then .nan else .inf (n != x.sign)
  | x, .inf n => if x.isZero then .nan else .inf (x.sign != n)
  | .fin n m e, .fin n' m' e' => .fin (n != n') (m * m') (e + e')

def Num.neg : Num → Num
  | .nan => .nan
  | .inf n => .inf (!n)
  | .fin n m e => .fin (!n) m e

def Num.abs : Num → Num
  | .nan => .nan
  | .inf _ => .inf false
  | .fin _ m e => .fin false m e

/-- The exact sum of terms: NaN for a NaN or infinities of both signs; an infinity of one sign stands; an exact zero is −0
when every term is −0, and +0 otherwise (08 R267, R270). -/
def sumExact (l : List Num) : Num :=
  if l.any Num.isNan then .nan
  else if l.any (fun x => x.isInf && x.sign) && l.any (fun x => x.isInf && !x.sign) then .nan
  else match l.find? Num.isInf with
  | some x => x
  | none =>
    let e := l.foldl (fun e x => min e x.exp) 0
    let s := l.foldl (fun a x => a + x.at e) (0 : Int)
    if s = 0 then .fin (!l.isEmpty && l.all (fun x => x.isZero && x.sign)) 0 0
    else .fin (decide (s < 0)) s.natAbs e

/-- a + b rounded once to binary32. -/
def add32 (a b : Num) : Num := rn32 (sumExact [a, b])
/-- a × b rounded once to binary32. -/
def mul32 (a b : Num) : Num := rn32 (a.mul b)

/-- The list in groups of `n`, for at most `fuel` groups. -/
def chunks {α : Type} (n : Nat) : Nat → List α → List (List α)
  | 0, _ => []
  | fuel + 1, l => if l.isEmpty then [] else l.take n :: chunks n fuel (l.drop n)

/-- Groups of 32 terms, each summed exactly and rounded once to binary32, added in ascending order to `init` with each
addition rounded to binary32 (08 R267, R268; 09 R299). -/
def groupSum (init : Num) (terms : List Num) : Num :=
  (chunks 32 (terms.length + 1) terms).foldl (fun a g => add32 a (rn32 (sumExact g))) init

/-! ### Comparison -/

/-- a < b as reals; false where either is a NaN. -/
def Num.lt (a b : Num) : Bool :=
  match a, b with
  | .nan, _ => false
  | _, .nan => false
  | .inf n, .inf n' => n && !n'
  | .inf n, _ => n
  | _, .inf n' => !n'
  | .fin _ _ _, .fin _ _ _ =>
    let e := min a.exp b.exp
    decide (a.at e < b.at e)

/-- a = b as reals: +0 equals −0. -/
def Num.eq (a b : Num) : Bool := !a.isNan && !b.isNan && !a.lt b && !b.lt a

/-- The larger; any NaN gives NaN; +0 is above −0 (09 R288, R299). -/
def Num.max (a b : Num) : Num :=
  if a.isNan || b.isNan then .nan else if a.lt b then b else if b.lt a then a else if a.sign then b else a

/-- The smaller; −0 is below +0. -/
def Num.min (a b : Num) : Num :=
  if a.isNan || b.isNan then .nan else if a.lt b then a else if b.lt a then b else if a.sign then a else b

/-! ### Division and roots: enough quotient bits, with a sticky last bit for the remainder -/

/-- a ÷ b for finite a and b ≠ 0: 80 bits beyond the operands' difference, the last one sticky. -/
def divExact (a b : Num) : Num :=
  match a, b with
  | .fin n m e, .fin n' m' e' =>
    let k := 80 + Nat.log2 (m' + 1)
    let q := m * 2 ^ k / m'
    let r := m * 2 ^ k % m'
    .fin (n != n') (2 * q + (if r = 0 then 0 else 1)) (e - e' - k - 1)
  | _, _ => .nan

/-- The integer square root, one bit at a time from bit `i`. -/
def isqrtAux (n : Nat) : Nat → Nat → Nat
  | 0, r => r
  | i + 1, r => let r' := r + 2 ^ i; isqrtAux n i (if r' * r' ≤ n then r' else r)

def isqrt (n : Nat) : Nat := isqrtAux n (Nat.log2 n / 2 + 1) 0

/-- √(m × 2^e), with a sticky last bit. -/
def sqrtExact (m : Nat) (e : Int) : Num :=
  let m1 := if e % 2 = 0 then m else 2 * m
  let e1 := if e % 2 = 0 then e else e - 1
  let n := m1 * 2 ^ 160
  let q := isqrt n
  .fin false (2 * q + (if q * q = n then 0 else 1)) (e1 / 2 - 81)

/-- 1 ÷ √(m × 2^e), with a sticky last bit. -/
def rsqrtExact (m : Nat) (e : Int) : Num :=
  let m1 := if e % 2 = 0 then m else 2 * m
  let e1 := if e % 2 = 0 then e else e - 1
  let k := 100 + Nat.log2 (m1 + 1)
  let q := isqrt (2 ^ (2 * k) / m1)
  .fin false (2 * q + (if q * q * m1 = 2 ^ (2 * k) then 0 else 1)) (-(e1 / 2) - k - 1)

/-! ### Enclosures of the transcendental functions

A pair (lo, hi) at scale 2^P encloses a real: lo ≤ real × 2^P ≤ hi. -/

def cdiv (a b : Nat) : Nat := (a + b - 1) / b

/-- m × 2^e at scale 2^P, rounded down and up. -/
def fixAt (P : Nat) (m : Nat) (e : Int) : Nat × Nat :=
  let s := e + P
  if s ≥ 0 then (m * 2 ^ s.toNat, m * 2 ^ s.toNat) else (m / 2 ^ (-s).toNat, cdiv m (2 ^ (-s).toNat))

/-- Σ y^i ÷ i! from term `i` on, for y ≤ 1/2: the two sums and the last terms. -/
def expSum (P : Nat) (y : Nat × Nat) : Nat → Nat → Nat × Nat → Nat × Nat → Nat × Nat
  | 0, _, t, s => (s.1, s.2 + 2 * t.2 + 1)
  | n + 1, i, t, s =>
    let t' := (t.1 * y.1 / (2 ^ P * i), cdiv (t.2 * y.2) (2 ^ P * i))
    expSum P y n (i + 1) t' (s.1 + t'.1, s.2 + t'.2)

def sqTimes (P : Nat) : Nat → Nat × Nat → Nat × Nat
  | 0, x => x
  | n + 1, x => sqTimes P n (x.1 * x.1 / 2 ^ P, cdiv (x.2 * x.2) (2 ^ P))

/-- e^(m × 2^e) for 0 ≤ m × 2^e ≤ 256. -/
def encExp (P m : Nat) (e : Int) : Nat × Nat :=
  let y := fixAt P m (e - 9)
  sqTimes P 9 (expSum P y (P / 4) 1 (2 ^ P, 2 ^ P) (2 ^ P, 2 ^ P))

/-- Σ z^(2i+1) ÷ (2i+1) from term `i` on, for z ≤ 1/2. -/
def atanhSum (P : Nat) (z2 : Nat × Nat) : Nat → Nat → Nat × Nat → Nat × Nat → Nat × Nat
  | 0, _, t, s => (s.1, s.2 + 2 * t.2 + 1)
  | n + 1, i, t, s =>
    let s' := (s.1 + t.1 / (2 * i + 1), s.2 + cdiv t.2 (2 * i + 1))
    atanhSum P z2 n (i + 1) (t.1 * z2.1 / 2 ^ P, cdiv (t.2 * z2.2) (2 ^ P)) s'

/-- ln(num ÷ den) for 1 ≤ num ÷ den ≤ 2. -/
def encLnRatio (P num den : Nat) : Nat × Nat :=
  let z := ((num - den) * 2 ^ P / (num + den), cdiv ((num - den) * 2 ^ P) (num + den))
  let z2 := (z.1 * z.1 / 2 ^ P, cdiv (z.2 * z.2) (2 ^ P))
  let s := atanhSum P z2 (P / 3 + 2) 0 z (0, 0)
  (2 * s.1, 2 * s.2)

/-- ln(m × 2^e) as a signed enclosure. -/
def encLn (P m : Nat) (e : Int) : Int × Int :=
  let k : Int := e + (Nat.log2 m : Int)
  let f := encLnRatio P m (2 ^ Nat.log2 m)
  let l2 := encLnRatio P 2 1
  if k ≥ 0 then (k * l2.1 + f.1, k * l2.2 + f.2) else (k * l2.2 + f.1, k * l2.1 + f.2)

/-- Σ (−1)^i ÷ ((2i+1) n^(2i+1)): atan(1 ÷ n), as signed sums. -/
def atanSum (P n : Nat) : Nat → Nat → Int × Int → Int × Int
  | 0, _, s => (s.1 - 1, s.2 + 1)
  | k + 1, i, s =>
    let d := (2 * i + 1) * n ^ (2 * i + 1)
    let lo : Int := (2 ^ P / d : Nat)
    let hi : Int := (cdiv (2 ^ P) d : Nat)
    atanSum P n k (i + 1) (if i % 2 = 0 then (s.1 + lo, s.2 + hi) else (s.1 - hi, s.2 - lo))

/-- π = 16 atan(1/5) − 4 atan(1/239). -/
def encPi (P : Nat) : Nat × Nat :=
  let a := atanSum P 5 (P / 4 + 2) 0 (0, 0)
  let b := atanSum P 239 (P / 12 + 2) 0 (0, 0)
  ((16 * a.1 - 4 * b.2).toNat, (16 * a.2 - 4 * b.1).toNat)

/-- Σ (2t)^i ÷ (2i+1)!! from term `i` on. -/
def erfSum (P : Nat) (t2 : Nat × Nat) : Nat → Nat → Nat × Nat → Nat × Nat → Nat × Nat
  | 0, _, t, s => (s.1, s.2 + 2 * t.2 + 1)
  | n + 1, i, t, s =>
    let t' := (t.1 * t2.1 / (2 ^ P * (2 * i + 1)), cdiv (t.2 * t2.2) (2 ^ P * (2 * i + 1)))
    erfSum P t2 n (i + 1) t' (s.1 + t'.1, s.2 + t'.2)

/-- erf(a ÷ √2) for a = m × 2^e, 0 ≤ a ≤ 16: a √(2/π) e^(−a²/2) Σ a^(2i) ÷ (2i+1)!!. -/
def encErf (P m : Nat) (e : Int) : Nat × Nat :=
  let a := fixAt P m e
  let t2 := fixAt P (m * m) (2 * e)
  let ex := encExp P (m * m) (2 * e - 1)
  let s := erfSum P t2 (P / 2 + 600) 1 (2 ^ P, 2 ^ P) (2 ^ P, 2 ^ P)
  let pi := encPi P
  let r := (isqrt (2 * 2 ^ (3 * P) / pi.2), isqrt (cdiv (2 * 2 ^ (3 * P)) pi.1) + 1)
  (a.1 * r.1 / 2 ^ P * s.1 / ex.2, min (2 ^ P) (cdiv (cdiv (a.2 * r.2) (2 ^ P) * s.2) ex.1))

/-- Both ends of an enclosure round to one value of the format. -/
def roundBoth (c P : Nat) (neg : Bool) (x : Nat × Nat) : Option Num :=
  let lo := roundF c (.fin neg x.1 (-(P : Int)))
  let hi := roundF c (.fin neg x.2 (-(P : Int)))
  if lo = hi then some lo else none

/-- The first of several precisions whose enclosure decides the rounding; a free value of the operand where none does
(DEDUCED, log entry 12). -/
def ziv (c : Nat) (x : Num) (f : Nat → Bool × (Nat × Nat)) : Num :=
  match ([256, 512, 1024].findSome? fun P => let r := f P; roundBoth c P r.1 r.2) with
  | some v => v
  | none => decodeF c (Config.undecided (encodeF c false x).1)

/-- m × 2^e ≥ k. -/
def atLeast (m : Nat) (e : Int) (k : Nat) : Bool := !magGt k 0 m e

/-- e^a rounded once; flag OVERFLOW where a finite operand gives an infinity. -/
def fExp (c : Nat) (a : Num) : Num :=
  match a with
  | .nan => .nan
  | .inf neg => if neg then .zero else .inf false
  | .fin neg m e =>
    if m = 0 then .fin false 1 0
    else if atLeast m e 128 then (if neg then .zero else .inf false)
    else ziv c a fun P =>
      let x := encExp P m e
      (false, if neg then (2 ^ (2 * P) / x.2, cdiv (2 ^ (2 * P)) x.1) else x)

/-- ln a rounded once. -/
def fLog (c : Nat) (a : Num) : Num :=
  match a with
  | .nan => .nan
  | .inf neg => if neg then .nan else .inf false
  | .fin neg m e =>
    if m = 0 then .inf true
    else if neg then .nan
    else if a.eq (.fin false 1 0) then .zero
    else ziv c a fun P =>
      let x := encLn P m e
      if x.1 ≥ 0 then (false, (x.1.toNat, x.2.toNat)) else (true, ((-x.2).toNat, (-x.1).toNat))

/-- 1 ÷ (1 + e^−a) as an enclosure, for |a| < 128. -/
def encSigmoid (P : Nat) (neg : Bool) (m : Nat) (e : Int) : Nat × Nat :=
  let x := encExp P m e
  let one := 2 ^ P
  if neg then (2 ^ (2 * P) / (one + x.2), cdiv (2 ^ (2 * P)) (one + x.1))
  else (x.1 * one / (one + x.1), cdiv (x.2 * one) (one + x.2))

def fSigmoid (c : Nat) (a : Num) : Num :=
  match a with
  | .nan => .nan
  | .inf neg => if neg then .zero else .fin false 1 0
  | .fin neg m e =>
    if m = 0 then .fin false 1 (-1)
    else if atLeast m e 128 then (if neg then .zero else .fin false 1 0)
    else ziv c a fun P => (false, encSigmoid P neg m e)

def fTanh (c : Nat) (a : Num) : Num :=
  match a with
  | .nan => .nan
  | .inf neg => .fin neg 1 0
  | .fin neg m e =>
    if m = 0 then a
    else if atLeast m e 64 then .fin neg 1 0
    else ziv c a fun P =>
      let x := encExp P m (e + 1)
      let one := 2 ^ P
      (neg, ((x.1 - one) * one / (x.1 + one), cdiv ((x.2 - one) * one) (x.2 + one)))

/-- a × the enclosed factor. -/
def scaleEnc (P m : Nat) (e : Int) (x : Nat × Nat) : Nat × Nat :=
  let s := fixAt P m e
  (s.1 * x.1 / 2 ^ P, cdiv (s.2 * x.2) (2 ^ P))

def fGelu (c : Nat) (a : Num) : Num :=
  match a with
  | .nan => .nan
  | .inf neg => if neg then .fin true 0 0 else .inf false
  | .fin neg m e =>
    if m = 0 then a
    else if atLeast m e 16 then (if neg then .fin true 0 0 else a)
    else ziv c a fun P =>
      let r := encErf P m e
      let one := 2 ^ P
      let h := if neg then (one - r.2, one - r.1) else (one + r.1, one + r.2)
      (neg, scaleEnc P m (e - 1) h)

def fSilu (c : Nat) (a : Num) : Num :=
  match a with
  | .nan => .nan
  | .inf neg => if neg then .fin true 0 0 else .inf false
  | .fin neg m e =>
    if m = 0 then a
    else if atLeast m e 128 then (if neg then .fin true 0 0 else a)
    else ziv c a fun P => (neg, scaleEnc P m e (encSigmoid P neg m e))

/-! ### Elements in byte strings -/

/-- The raw bits of element `i` of a row (08 R251: INT4 two to a byte, low nibble first). -/
def elemBits (c : Nat) (row : Bytes) (i : Nat) : Nat :=
  if fmtBits c = 4 then (row.getD (i / 2) 0).toNat / (if i % 2 = 0 then 1 else 16) % 16
  else leAt row (i * (fmtBits c / 8)) (fmtBits c / 8)

/-- Pairs of nibbles to bytes; an odd last one has its high nibble zero. -/
def packNibbles : List Nat → Bytes
  | [] => []
  | [a] => [BitVec.ofNat 8 (a % 16)]
  | a :: b :: t => BitVec.ofNat 8 (a % 16 + 16 * (b % 16)) :: packNibbles t

/-- The bytes of consecutive elements. -/
def packElems (c : Nat) (l : List Nat) : Bytes :=
  if fmtBits c = 4 then packNibbles l else (l.map fun v => leBytes (fmtBits c / 8) v).flatten

/-- The bits of an integer in an integer format. -/
def intBits (c : Nat) (i : Int) : Nat := wrapTo (fmtBits c) i

end Sys2Proof.Machine
end

