-- ==== Sys2Proof/Machine/Units.lean ====
section
/-! DEFINITION. Processing units by their number (12 R392): service, quarantine and spares (01 R33 to R35, 12 R372, R373, R382). -/

namespace Sys2Proof.Machine

/-- Numbers of the units (12 R392). -/
def uMU (cell pos : Nat) : Nat := 5 * cell + pos
def uDoc (cell pos : Nat) : Nat := 40 + 5 * cell + pos
def uGPE (g : Nat) : Nat := 80 + g
def uVE (cell : Nat) : Nat := 96 + cell
def uRU (cell : Nat) : Nat := 104 + cell

/-- The die of a unit (12 R371). -/
def unitDie (u : Nat) : Nat :=
  if u < 40 then u / 5 else if u < 80 then (u - 40) / 5 else if u < 96 then 8 + (u - 80) / 2
  else if u < 104 then u - 96 else u - 104

/-- The spare of a matrix unit's or docent's cell. -/
def spareOf (u : Nat) : Nat := u / 5 * 5 + 4

def isSpare (u : Nat) : Bool := decide (u < 80) && decide (u % 5 = 4)

/-- The unit that stands at a matrix or docent position: its own, or the spare that substitutes for it (01 R34). -/
def posUnit (s : State) (u : Nat) : Nat := if (s.unit u).replaced then spareOf u else u

/-- The unit that serves a matrix or docent position, if it is in service (01 R34, R35). -/
def servingUnit (s : State) (u : Nat) : Option Nat :=
  if (s.unit (posUnit s u)).out then none else some (posUnit s u)

/-- A substitution is due: the unit is quarantined and its spare is free and not quarantined (01 R34, 12 R382). -/
def subDue (s : State) (u : Nat) : Bool :=
  (s.unit u).quarantined && !(s.unit u).replaced && !(s.unit (spareOf u)).quarantined &&
  decide ((s.unit (spareOf u)).subPos = none)

/-- The positions of a half-cell in its cell. -/
def halfPositions (h : Nat) : List Nat := [h % 2 * 2, h % 2 * 2 + 1]

def halfMUs (s : State) (h : Nat) : List Nat := (halfPositions h).filterMap fun p => servingUnit s (uMU (h / 2) p)
/-- Docents of the half-cell in service, by their number (cell × 5 + position), lower position first. -/
def halfDocs (s : State) (h : Nat) : List Nat :=
  (halfPositions h).filterMap fun p => (servingUnit s (uDoc (h / 2) p)).map (· - 40)

/-- A substitution is due in the half-cell, or a cleared unit is to return: nothing is dispatched to it until that is done
(01 R34, 12 R385). -/
def halfSubDue (s : State) (h : Nat) : Bool :=
  ((halfPositions h).any fun p =>
    [uMU (h / 2) p, uDoc (h / 2) p].any fun u => subDue s u || (s.unit (posUnit s u)).returning) ||
  (s.unit (uVE (h / 2))).returning || (s.unit (uRU (h / 2))).returning

/-- The half-cell is degraded: a position has neither its unit nor a spare (01 R35, 12 R382). -/
def halfDegraded (s : State) (h : Nat) : Bool :=
  (halfPositions h).any fun p =>
    [uMU (h / 2) p, uDoc (h / 2) p].any fun u => (s.unit (posUnit s u)).quarantined && !subDue s u

/-- The half-cell counts as quarantined (02 R54, 09 R306, 16 R508). -/
def halfQuarantined (s : State) (h : Nat) : Bool :=
  (s.half h).scrubBad || (s.half h).clockBad || (s.unit (uVE (h / 2))).quarantined || (s.unit (uRU (h / 2))).quarantined

/-- The half-cell can run a program of the complement (01 R35). -/
def halfCanRun (s : State) (h : Nat) (reduced : Bool) : Bool :=
  !halfQuarantined s h && !(s.half h).unavailable &&
  (if reduced then !(halfMUs s h).isEmpty && !(halfDocs s h).isEmpty else !halfDegraded s h)

/-- The GPE that takes the batches of stack `k` addressed to GPE `g`: itself, or its partner (01 R33, 06 R203). -/
def servingGPE (s : State) (g : Nat) : Option Nat :=
  if !(s.unit (uGPE g)).quarantined then some g
  else
    let p := if g % 2 = 0 then g + 1 else g - 1
    if (s.unit (uGPE p)).quarantined then none else some p

/-! ### Pairing of duplicate execution (12 R376, R377) -/

/-- n of the fraction 1/n; 0 when off (12 R376, 02 R73). -/
def dupN (w : Wing) : Nat :=
  match fld w.live.policy.toNat 4 2 with
  | 1 => 64 | 2 => 16 | 3 => 4 | _ => 0

/-- The offset k of the pairing of a list of half-cells (12 R376). -/
def dupOffset (hs : List Nat) : Option Nat :=
  (List.range hs.length).find? fun k => decide (0 < k) &&
    (List.range hs.length).all fun i => decide (hs.getD i 0 / 2 ≠ hs.getD ((i + k) % hs.length) 0 / 2)

/-- The half-cell that checks half-cell `h` of wing `w`, while duplicate execution is in force. -/
def dupChecker (s : State) (w h : Nat) : Option Nat :=
  let hs := s.wingHalves w
  if dupN (s.wing w) = 0 then none
  else match dupOffset hs with
  | none => none
  | some k => (List.range hs.length).findSome? fun i =>
      if hs.getD i 0 = h then some (hs.getD ((i + k) % hs.length) 0) else none

/-- The pairing of a wing is recomputed: the credit of each unit whose checker is another, or is there no more, returns to 0
(12 R377). `old` is the state before the change. -/
def dupRepair (old s : State) (w : Nat) : State :=
  ((List.range 16).filter fun h => decide (dupChecker old w h ≠ dupChecker s w h)).foldl (fun s h =>
    (halfPositions h).foldl (fun s p => s.updUnit (posUnit s (uMU (h / 2) p)) fun x => { x with credit := 0 }) s) s

/-! ### Errors of SRAM -/

/-- Structures of 12 R372, numbered in the order of its table (DESIGN CHOICE, log entry 19). -/
def stScratch : Nat := 0
def stCache : Nat := 1
def stDirectory : Nat := 2
def stDocent : Nat := 3
def stMatrix : Nat := 4
def stCheck : Nat := 5
def stVector : Nat := 6
def stGPE : Nat := 7
def stUpdate : Nat := 8
def stFabric : Nat := 9
def stCurator : Nat := 10

/-- A corrected SRAM error: counted at the die, and nothing else (12 R372, R373). -/
def sramCE (s : State) (die : Nat) : State := s.updDie die fun d => { d with sramCe := satInc d.sramCe }

/-- What an SRAM answered, where it is not uncorrectable. -/
def sramSaw (s : State) (die : Nat) (x : Sram) : State :=
  match x with
  | .corrected => sramCE s die
  | _ => s

/-- An uncorrectable SRAM error: counted at the die and recorded (12 R372, R373). -/
def sramUE (s : State) (die structure_ granule : Nat) : State :=
  logEvent (s.updDie die fun d => { d with sramUe := satInc d.sramUe }) 0x1002 3 0xFF die 0 structure_ granule 0 0

/-! ### Quarantine -/

/-- A record of the Curator acting alone (02 R75, R76 kind 2), while the log has room. It has no old and no new value: both hashes
are of no bytes (DESIGN CHOICE, log entry 23). -/
def curatorLog (s : State) (wing target detail : Nat) : State :=
  if logFull s then s else logAppend s 0xFFFF wing 2 target detail [] []

/-- DETAIL of engine work (08 R259, 09 R294, 10 R320). -/
def engDetail (rank cell pos check low : Nat) : W32 :=
  BitVec.ofNat 32 (rank % 256 * 65536 + cell * 4096 + pos * 256 + check * 16 + low)

/-- The unit an engine is; none for a stream engine, and for a GPE batch. -/
def Engine.unit : Engine → Option Nat
  | .mu u => some u
  | .ve c => some (uVE c)
  | .ru c => some (uRU c)
  | _ => none

/-- The position an engine's DETAIL names. -/
def Engine.pos : Engine → Nat
  | .mu u => u % 5
  | .ve _ => 5
  | .ru _ => 6
  | .strm _ => 7
  | .gpe => 8

/-- The DETAIL of a launch with a check number. -/
def Launch.detail (l : Launch) (s : State) (check : Nat) : W32 :=
  engDetail (s.doc l.doc).rank (docCell l.doc) l.eng.pos check (match l.eng with | .strm e => e % 8 | _ => 0)

/-- The descriptors at a quarantined unit fail with INTERNAL (12 R382, 08 R278, 09 R306). -/
def failUnitWork (s : State) (u : Nat) : State :=
  (s.launches.filter fun l => decide (l.eng.unit = some u)).foldl
    (fun s l => launchFail s l rINTERNAL (l.detail s 0)) s

/-- DETAIL of a batch (06 R188): the GPE where the failure arose, or none at launch. -/
def gpeDetail (g : Option Nat) (rank table : Nat) : W32 :=
  BitVec.ofNat 32 ((match g with | some g => 2 ^ 28 + g * 2 ^ 24 | none => 0) + rank % 256 * 65536 + table)

/-- The batches that run on a quarantined GPE fail with INTERNAL (06 R188, R189): those with lookups of its bags on its stack. -/
def failGpeWork (s : State) (g : Nat) : State :=
  let all := (s.unit (uGPE (if g % 2 = 0 then g + 1 else g - 1))).quarantined
  let hit (b : Batch) : Bool := b.failed.isNone && (match s.table b.table with | some t => t.onStacks.contains (g / 2) | none => false) &&
    b.lookups.any fun x => all || x.1 % 2 == g % 2
  (s.batches.filter hit).foldl (fun s b =>
    let det := gpeDetail (some g) (s.doc b.doc).rank b.table
    match s.launches.find? fun l => l.doc == b.doc && l.ticket == b.ticket with
    | some l => launchFail s l rINTERNAL det
    | none => s) s

/-- The memories of a matrix unit are cleared, or the buffers of a docent position (08 R277, R278, 09 R306). -/
def clearMu (s : State) (u : Nat) : State := s.setMu u MuSt.init
def clearLane (s : State) (cell pos : Nat) : State := s.setLane (cell * 4 + pos) LaneBuf.init

/-- A quarantined docent: its request fails with INTERNAL (05 R144). -/
def failDocent (s : State) (d : Nat) : State :=
  let x := s.doc d
  match x.req with
  | some _ =>
    if x.state = .running ∨ x.state = .loading then docFault s d rINTERNAL x.pc else s
  | none => docClear s d

/-- Quarantine of a unit, with its structure for the alarm (12 R373, R382). A quarantined GPE degrades its stack (06 R203). -/
def quarantine (s : State) (u cause : Nat) : State :=
  if (s.unit u).quarantined then s
  else
    let s1 := s.updUnit u fun x => { x with quarantined := true, returning := false }
    let s2 := alarm s1 0x0301 0xFF (unitDie u) u cause 0 0
    let s3 := if 80 ≤ u ∧ u < 96 then alarm s2 0x0201 0xFF (unitDie u) (u - 80) 0 0 0 else s2
    let s4 := curatorLog s3 0xFF u 0
    let s5 := if 80 ≤ u ∧ u < 96 then failGpeWork s4 (u - 80) else failUnitWork s4 u
    if 40 ≤ u ∧ u < 80 then failDocent s5 (u - 40) else s5

/-- The spare takes the place of the unit, cleared; a spare docent takes the buffers of the position too (01 R34, 08 R277, 09 R306). -/
def substitute (s : State) (u : Nat) : State :=
  let s1 := s.updUnit u fun x => { x with replaced := true, swapPending := none }
  let s2 := s1.updUnit (spareOf u) fun x => { x with subPos := some (u % 5), credit := 0 }
  if 40 ≤ u then clearLane (docClear s2 (spareOf u - 40)) ((u - 40) / 5) (u % 5) else clearMu s2 (spareOf u)

/-- The spare leaves the unit's place (12 R385). -/
def unsubstitute (s : State) (u : Nat) : State :=
  (s.updUnit u fun x => { x with replaced := false, swapPending := none }).updUnit (spareOf u) fun x =>
    { x with subPos := none, credit := 0 }

/-- The half-cell a matrix unit or docent position belongs to. -/
def unitHalf (u : Nat) : Nat := u % 40 / 5 * 2 + u % 5 / 2

/-- An automatic substitution of one unit, between requests of its half-cell (01 R34, 12 R382). It is deferred while a re-binding
or reset holds the half-cell (02 R72). -/
def autoSubstitute (s : State) (u : Nat) : State :=
  if subDue s u && decide ((s.half (unitHalf u)).req = none) && !(s.half (unitHalf u)).held then
    curatorLog (substitute s u) 0xFF u 0
  else s

/-- No request runs on the half-cells that use the unit, so a cleared unit returns to service (12 R385). A GPE belongs to none. -/
def unitFree (s : State) (u : Nat) : Bool :=
  let free (h : Nat) : Bool := decide ((s.half h).req = none)
  if u < 80 then
    match if u % 5 = 4 then (s.unit u).subPos else some (u % 5) with
    | some p => (s.unit u).replaced || free (unitHalf (u / 5 * 5 + p))
    | none => true
  else if u < 96 then true
  else
    let c := (u - 96) % 8
    free (2 * c) && free (2 * c + 1)

/-- A cleared unit returns to service between requests of its half-cell; a docent returns cleared (12 R385). -/
def returnUnit (s : State) (u : Nat) : State :=
  if (s.unit u).returning && unitFree s u then
    let s1 := s.updUnit u fun x => { x with returning := false }
    if 40 ≤ u ∧ u < 80 then docClear s1 (u - 40) else s1
  else s

/-- A unit is cleared of its quarantine (12 R385). -/
def unquarantine (s : State) (u : Nat) : State :=
  returnUnit (s.updUnit u fun x => { x with quarantined := false, returning := true, mismatches := 0 }) u

/-- The spare of a unit's cell substitutes, or is quarantined (12 R385 check 4). -/
def spareTaken (s : State) (u : Nat) : Bool := (s.unit (spareOf u)).subPos.isSome || (s.unit (spareOf u)).quarantined

/-- A swap-in that waited takes place; one whose spare has been taken or quarantined meanwhile is dropped (DESIGN CHOICE, log
entry 75). -/
def swapIn (s : State) (u : Nat) : State :=
  if spareTaken s u then s.updUnit u fun x => { x with swapPending := none } else substitute s u

/-- Swaps, returns and substitutions that waited for a half-cell's request (08 R278, 12 R385). -/
def afterRequest (s : State) (h : Nat) : State :=
  let c := h / 2
  let us := (halfPositions h).flatMap fun p => [uMU c p, uDoc c p]
  let s1 := (us ++ [uMU c 4, uDoc c 4, uVE c, uRU c]).foldl returnUnit s
  us.foldl (fun s u =>
    match (s.unit u).swapPending with
    | some true => swapIn s u
    | some false => unsubstitute s u
    | none => autoSubstitute s u) s1

end Sys2Proof.Machine
end

