-- ==== Sys2Proof/Machine/Engines.lean ====
section
/-! DEFINITION. What the engines share: regions of scratchpad, the fields of the four descriptors, reads and writes of the
scratchpad (10 R307), queues of launches (05 R157) and arbitration (05 R165 to R168). -/

namespace Sys2Proof.Machine

/-! ### Regions -/

/-- Bytes of scratchpad: `planes` × `rows` runs of `len` bytes. -/
structure Region where
  addr : Nat
  planes : Nat
  ps : Nat
  rows : Nat
  rs : Nat
  len : Nat
  deriving DecidableEq, Repr

/-- One run of bytes. -/
def Region.run (addr len : Nat) : Region := { addr := addr, planes := 1, ps := 0, rows := 1, rs := 0, len := len }

/-- One byte beyond the last byte. -/
def Region.stop (r : Region) : Nat := r.addr + (r.planes - 1) * r.ps + (r.rows - 1) * r.rs + r.len

/-- A byte of the region lies in `[o, o + n)`. -/
def Region.touches (r : Region) (o n : Nat) : Bool :=
  decide (r.addr < o + n) && decide (o < r.stop) &&
  (List.range r.planes).any fun p => (List.range r.rows).any fun i =>
    let a := r.addr + p * r.ps + i * r.rs
    decide (a < o + n) && decide (o < a + r.len)

/-- Two regions share a byte. -/
def Region.meets (r q : Region) : Bool :=
  decide (r.addr < q.stop) && decide (q.addr < r.stop) &&
  (List.range r.planes).any fun p => (List.range r.rows).any fun i =>
    q.touches (r.addr + p * r.ps + i * r.rs) r.len

/-- Every byte of the region, run by run, as (offset, length). -/
def Region.runs (r : Region) : List (Nat × Nat) :=
  (List.range r.planes).flatMap fun p => (List.range r.rows).map fun i => (r.addr + p * r.ps + i * r.rs, r.len)

/-! ### The matrix descriptor (08 R254) -/

def mxOp (d : Bytes) : Nat := fld (leAt d 0 1) 0 2
def mxDiag (d : Bytes) : Bool := bit (leAt d 0 1) 2
def mxFa (d : Bytes) : Nat := fld (leAt d 1 1) 0 4
def mxFb (d : Bytes) : Nat := fld (leAt d 1 1) 4 4
def mxFo (d : Bytes) : Nat := fld (leAt d 2 1) 0 4
def mxEven (d : Bytes) : Bool := bit (leAt d 2 1) 4
def mxSat (d : Bytes) : Bool := bit (leAt d 2 1) 5
def mxPerCol (d : Bytes) : Bool := bit (leAt d 2 1) 6
def mxShift (d : Bytes) : Nat := leAt d 3 1
def mxM (d : Bytes) : Nat := leAt d 4 2 + 1
def mxN (d : Bytes) : Nat := leAt d 6 2 + 1
def mxK (d : Bytes) : Nat := leAt d 8 2 + 1
def mxZa (d : Bytes) : Int := signed 16 (leAt d 10 2)
def mxZb (d : Bytes) : Int := signed 16 (leAt d 12 2)
def mxZout (d : Bytes) : Int := signed 16 (leAt d 14 2)
def mxA (d : Bytes) : Nat := leAt d 16 4
def mxB (d : Bytes) : Nat := leAt d 20 4
def mxOut (d : Bytes) : Nat := leAt d 24 4
def mxParam (d : Bytes) : Nat := leAt d 28 4
def mxAs (d : Bytes) : Nat := leAt d 32 4
def mxBs (d : Bytes) : Nat := leAt d 36 4
def mxOs (d : Bytes) : Nat := leAt d 40 4
def mxMult (d : Bytes) : Int := signed 32 (leAt d 44 4)
def mxScale (d : Bytes) : Nat := leAt d 48 4

/-- The element code of 09 R282 for an output format of 08 R253. -/
def mxOutFmt (c : Nat) : Nat :=
  match c with
  | 0 => 3 | 1 => 2 | 2 => 1 | 3 => 0 | 4 => 8 | 5 => 9 | 6 => 10 | 7 => 6 | 8 => 7 | 9 => 4 | _ => 5

/-- Outputs of one sample of an INTERACT (08 R273). -/
def mxPairs (d : Bytes) : Nat := if mxDiag d then mxN d * (mxN d + 1) / 2 else mxN d * (mxN d - 1) / 2

/-- Rows of A, rows of B, and the per-column table. -/
def mxInputs (d : Bytes) : List Region :=
  if mxOp d = 1 then
    [{ addr := mxA d, planes := mxM d, ps := mxBs d, rows := mxN d, rs := mxAs d, len := rowBytes (mxFa d) (mxK d) }]
  else
    [{ addr := mxA d, planes := 1, ps := 0, rows := mxM d, rs := mxAs d, len := rowBytes (mxFa d) (mxK d) },
     { addr := mxB d, planes := 1, ps := 0, rows := mxK d, rs := mxBs d, len := rowBytes (mxFb d) (mxN d) }] ++
    (if mxPerCol d then [Region.run (mxParam d) (16 * mxN d)] else [])

def mxOutput (d : Bytes) : Region :=
  { addr := mxOut d, planes := 1, ps := 0, rows := mxM d, rs := mxOs d,
    len := rowBytes (mxOutFmt (mxFo d)) (if mxOp d = 1 then mxPairs d else mxN d) }

/-! ### The vector descriptor (09 R284) -/

def veOpA (d : Bytes) : Nat := leAt d 0 1
def veOpB (d : Bytes) : Nat := leAt d 1 1
def veOpC (d : Bytes) : Nat := leAt d 2 1
def veCT (d : Bytes) : Nat := fld (leAt d 3 1) 0 2
def veBcast (d : Bytes) : Nat := fld (leAt d 3 1) 2 2
def veSat (d : Bytes) : Bool := bit (leAt d 3 1) 4
def veFlagsEn (d : Bytes) : Bool := bit (leAt d 3 1) 5
def veF0 (d : Bytes) : Nat := fld (leAt d 4 1) 0 4
def veF1 (d : Bytes) : Nat := fld (leAt d 4 1) 4 4
def veFo (d : Bytes) : Nat := fld (leAt d 5 1) 0 4
def veCols (d : Bytes) : Nat := leAt d 8 2 + 1
def veRows (d : Bytes) : Nat := leAt d 10 2 + 1
def vePlanes (d : Bytes) : Nat := leAt d 12 2 + 1
def veS0 (d : Bytes) : Nat := leAt d 16 4
def veS1 (d : Bytes) : Nat := leAt d 20 4
def veDst (d : Bytes) : Nat := leAt d 24 4
def veFlags (d : Bytes) : Nat := leAt d 28 4
def veS0rs (d : Bytes) : Nat := leAt d 32 4
def veS1rs (d : Bytes) : Nat := leAt d 36 4
def veDrs (d : Bytes) : Nat := leAt d 40 4
def veS0ps (d : Bytes) : Nat := leAt d 44 4
def veS1ps (d : Bytes) : Nat := leAt d 48 4
def veDps (d : Bytes) : Nat := leAt d 52 4
def veImmB (d : Bytes) : Nat := leAt d 56 4
def veImmC (d : Bytes) : Nat := leAt d 60 4

/-- A binary operation (09 R288). -/
def veBinary (op : Nat) : Bool := decide (1 ≤ op) && decide (op ≤ 0x0B)
/-- A code of 09 R288. -/
def veDefined (op : Nat) : Bool := decide (op ≤ 0x0B) || (decide (0x20 ≤ op) && decide (op ≤ 0x2B))

def veSrc0 (d : Bytes) : Region :=
  { addr := veS0 d, planes := vePlanes d, ps := veS0ps d, rows := veRows d, rs := veS0rs d,
    len := rowBytes (veF0 d) (veCols d) }

/-- SRC1 by its broadcast (09 R286). -/
def veSrc1 (d : Bytes) : Region :=
  let e := (fmtBits (veF1 d) + 7) / 8
  match veBcast d with
  | 0 => { addr := veS1 d, planes := vePlanes d, ps := veS1ps d, rows := veRows d, rs := veS1rs d,
           len := rowBytes (veF1 d) (veCols d) }
  | 1 => { addr := veS1 d, planes := vePlanes d, ps := veS1ps d, rows := 1, rs := 0, len := rowBytes (veF1 d) (veCols d) }
  | 2 => { addr := veS1 d, planes := vePlanes d, ps := veS1ps d, rows := veRows d, rs := veS1rs d, len := e }
  | _ => Region.run (veS1 d) e

def veInputs (d : Bytes) : List Region := if veBinary (veOpA d) then [veSrc0 d, veSrc1 d] else [veSrc0 d]

def veOutput (d : Bytes) : Region :=
  { addr := veDst d, planes := vePlanes d, ps := veDps d, rows := veRows d, rs := veDrs d,
    len := rowBytes (veFo d) (veCols d) }

/-! ### The reduction descriptor (09 R298) -/

def ruOp (d : Bytes) : Nat := fld (leAt d 0 1) 0 3
def ruAxis (d : Bytes) : Bool := bit (leAt d 0 1) 3
def ruFi (d : Bytes) : Nat := fld (leAt d 1 1) 0 4
def ruFo (d : Bytes) : Nat := fld (leAt d 1 1) 4 4
def ruFlagsEn (d : Bytes) : Bool := bit (leAt d 2 1) 0
def ruCols (d : Bytes) : Nat := leAt d 4 2 + 1
def ruRows (d : Bytes) : Nat := leAt d 6 2 + 1
def ruPlanes (d : Bytes) : Nat := leAt d 8 2 + 1
def ruSrc (d : Bytes) : Nat := leAt d 12 4
def ruSrs (d : Bytes) : Nat := leAt d 16 4
def ruSps (d : Bytes) : Nat := leAt d 20 4
def ruDst (d : Bytes) : Nat := leAt d 24 4
def ruDes (d : Bytes) : Nat := leAt d 28 4
def ruDps (d : Bytes) : Nat := leAt d 32 4
def ruFlags (d : Bytes) : Nat := leAt d 36 4

/-- Bytes of one result. -/
def ruSize (d : Bytes) : Nat := if ruOp d = 5 then 16 else 4
/-- Results of one plane. -/
def ruCount (d : Bytes) : Nat := if ruAxis d then ruCols d else ruRows d

def ruInput (d : Bytes) : Region :=
  { addr := ruSrc d, planes := ruPlanes d, ps := ruSps d, rows := ruRows d, rs := ruSrs d,
    len := rowBytes (ruFi d) (ruCols d) }

def ruOutput (d : Bytes) : Region :=
  { addr := ruDst d, planes := ruPlanes d, ps := ruDps d, rows := ruCount d, rs := ruDes d, len := ruSize d }

/-! ### The stream descriptor (10 R314) -/

def stDir (d : Bytes) : Nat := fld (leAt d 0 1) 0 2
def stNdim (d : Bytes) : Nat := fld (leAt d 1 1) 0 3
def stTileDims (d : Bytes) : Nat := fld (leAt d 1 1) 3 3
def stRing (d : Bytes) : Nat := leAt d 2 1
def stAhead (d : Bytes) : Nat := leAt d 3 1
def stMem (d : Bytes) : Nat := leAt d 8 8
def stSp (d : Bytes) : Nat := leAt d 16 4
def stCount0 (d : Bytes) : Nat := leAt d 20 4
/-- The extent of a dimension: bytes of dimension 0; 1 at or above NDIM. -/
def stCount (d : Bytes) (i : Nat) : Nat :=
  if i = 0 then stCount0 d else if i < stNdim d then leAt d (22 + 2 * i) 2 + 1 else 1
def stMemStride (d : Bytes) (i : Nat) : Int := if i = 0 then 0 else signed 32 (leAt d (28 + 4 * i) 4)
def stSpStride (d : Bytes) (i : Nat) : Nat := if i = 0 then 0 else leAt d (44 + 4 * i) 4

/-- Index of dimension `i` ≥ 1 of row `n`, rows numbered in the order they move (10 R315). -/
def stIndex (d : Bytes) (i n : Nat) : Nat :=
  n / ((List.range i).foldl (fun a j => if j = 0 then a else a * stCount d j) 1) % stCount d i

/-- Rows of dimension 0 in one tile, and in the whole stream. -/
def stTileRows (d : Bytes) : Nat :=
  (List.range (stTileDims d)).foldl (fun a j => if j = 0 then a else a * stCount d j) 1
def stRows (d : Bytes) : Nat := (List.range 5).foldl (fun a j => if j = 0 then a else a * stCount d j) 1
/-- Tiles of the stream. -/
def stTiles (d : Bytes) : Nat := stRows d / stTileRows d

/-- Memory-side address of row `n`'s first byte; in COPY a scratchpad offset. -/
def stMemAt (d : Bytes) (n : Nat) : Int :=
  (stMem d : Int) + ((List.range 5).foldl (fun a i => a + (stIndex d i n : Int) * stMemStride d i) 0)

/-- Scratchpad offset of row `n`'s first byte: linear, or in the ring slot of its tile (10 R315). -/
def stSpAt (d : Bytes) (n : Nat) : Nat :=
  if stRing d = 0 then
    stSp d + (List.range 5).foldl (fun a i => a + stIndex d i n * stSpStride d i) 0
  else
    stSp d + n / stTileRows d % stRing d * stSpStride d (stTileDims d) +
    (List.range (stTileDims d)).foldl (fun a i => a + stIndex d i n * stSpStride d i) 0

/-- The scratchpad regions a stream reads, and those a linear stream writes. -/
def stReads (d : Bytes) : List Region :=
  if stDir d = 1 then (List.range (stRows d)).map fun n => Region.run (stSpAt d n) (stCount0 d)
  else if stDir d = 2 then (List.range (stRows d)).map fun n => Region.run (stMemAt d n).toNat (stCount0 d)
  else []
def stWrites (d : Bytes) : List Region :=
  if stDir d = 1 ∨ stRing d ≠ 0 then [] else (List.range (stRows d)).map fun n => Region.run (stSpAt d n) (stCount0 d)

/-! ### Launch queues -/

/-- AFTER of a descriptor (09 R284, R298, 10 R314). -/
def launchAfter (e : Engine) (desc : Bytes) : W16 :=
  match e with
  | .ve _ => BitVec.ofNat 16 (leAt desc 6 2)
  | .ru _ => BitVec.ofNat 16 (leAt desc 10 2)
  | .strm _ => BitVec.ofNat 16 (leAt desc 4 2)
  | _ => 0#16

/-- The request pins a striped paired catalogue (13 R405, R410). -/
def pinsStriped (s : State) (id : Nat) : Bool :=
  match s.findReq id with
  | some r => match r.cat with | some c => decide ((s.cat (catKey r.wing c)).mode = 2) | none => false
  | none => false

/-- An OUT stream that must wait for the batches launched before it (13 R410). -/
def outGated (s : State) (l : Launch) : Bool :=
  match l.eng with
  | .strm _ => decide (stDir l.desc = 1) && pinsStriped s l.req &&
      (s.launches.takeWhile fun x => !(x.doc == l.doc && x.ticket == l.ticket)).any fun x =>
        x.req == l.req && decide (x.eng = .gpe)
  | _ => false

/-- The head of a docent's queue, where it may start: its AFTER ticket is complete (09 R304), and no batch holds it back
(13 R410). -/
def readyHead (s : State) (d : Nat) (e : Engine) : Option Launch :=
  match queueAt s d e with
  | l :: _ => if afterDone s d l.after_ && !outGated s l then some l else none
  | [] => none

/-- The engine an arbiter serves, and the docents that share it, in position order (05 R166, 08 R275, 09 R280). The spare stands
in its position's place. -/
def arbEngine : ArbIx → Engine
  | .mu u => .mu u.val
  | .ve c _ => .ve c.val
  | .ru c _ => .ru c.val
  | .strm e _ _ => .strm e.val
  | .gpe _ _ => .gpe

/-- The docents that stand at a cell's positions 0 to 3: each docent, or the spare that replaces it. -/
def posDocs (s : State) (cell : Nat) : List Nat :=
  (List.range 4).map fun p => if (s.unit (uDoc cell p)).replaced then cell * 5 + 4 else cell * 5 + p

def arbDocs (s : State) : ArbIx → List Nat
  | .mu u => posDocs s (u.val / 5)
  | .ve c _ => posDocs s c.val
  | .ru c _ => posDocs s c.val
  | .strm e _ _ => (posDocs s (e.val / 16)).drop (e.val / 8 % 2 * 2) |>.take 2
  | .gpe _ _ => (List.range 8).flatMap (posDocs s)

/-- The launch an engine runs: the head of the granted docent (05 R166). -/
def granted (s : State) (e : Engine) : Option Launch :=
  match engArb e with
  | none => none
  | some a =>
    match (s.arb a).grant with
    | none => none
    | some d => readyHead s d e

/-! ### Stopping (10 R332, R335) -/

/-- A stream of the request is halted (10 R332). -/
def hasHalted (s : State) (id : Nat) : Bool := s.launches.any fun l => l.req == id && l.halted

/-- The docents of the request are to stop at their next SYNC (10 R332, R335). -/
def stopping (s : State) (id : Nat) : Bool :=
  hasHalted s id || match s.findReq id with | some r => r.ckptReq | none => false

/-- A full launch queue that the docent's current word waits at: STRM on engine IMM[10:8] (05 R154, R157). -/
def fullStream (s : State) (d : Nat) : Option Engine :=
  let x := s.doc d
  let w := (x.code.getD x.pc 0#64).toNat
  let e : Engine := .strm (docHalf s d * 8 + fld w 8 3)
  if fld w 56 8 = 0x53 ∧ (queueAt s d e).length ≥ queueDepth e then some e else none

/-- The docent waits for work of a halted stream of its own (10 R332). -/
def waitsOnHalted (s : State) (d : Nat) : Bool :=
  let x := s.doc d
  let mine := s.launches.filter fun l => l.doc.val == d && l.halted
  match x.stall with
  | .wait t => mine.any fun l => l.ticket == t
  | .waitall => !mine.isEmpty
  | .ending => !mine.isEmpty
  | .launch => mine.any fun l => fullStream s d == some l.eng
  | _ => false

/-- A docent counts as stopped (10 R332). -/
def docStopped (s : State) (d : Nat) : Bool :=
  let x := s.doc d
  x.stopped || decide (x.stall = .ended) || waitsOnHalted s d

/-- Every docent has stopped for a checkpoint: streams halt and queued descriptors wait (10 R335 step 3, 08 R278, 09 R306). -/
def ckptHeld (s : State) (id : Nat) : Bool :=
  (match s.findReq id with | some r => r.ckptReq | none => false) && (reqDocents s id).all (docStopped s)

/-- When every docent has stopped, the request and its docents are HALTED (10 R332). -/
def haltCheck (s : State) (id : Nat) : State :=
  let ds := reqDocents s id
  if stopping s id && !ds.isEmpty && ds.all (docStopped s) then
    let s1 := ds.foldl (fun s d => s.updDoc d fun x => { x with state := .halted }) s
    s1.updReq id fun r => if r.phase = .running then { r with phase := .halted } else r
  else s

/-- A ticket completes; the request may then have stopped everywhere (05 R157, 10 R332). -/
def ticketDone (s : State) (d : Nat) (t : W16) : State :=
  let s1 := ticketEnds s d t
  match (s.doc d).req with
  | some id => haltCheck s1 id
  | none => s1

/-! ### Scratchpad -/

/-- The lists that a batch has read and the vectors it writes (06 R185, R190). -/
def gpeRegions (s : State) (l : Launch) : List Region :=
  match s.batches.find? (fun b => b.doc == l.doc && b.ticket == l.ticket) with
  | none => []
  | some b =>
    let d := l.desc
    let bags := leAt d 4 4
    let n := b.total
    let dim := match s.table b.table with | some t => t.dim | none => 16
    [Region.run (leAt d 8 8) (n * (if bit (leAt d 3 1) 2 then 8 else 4)), Region.run (leAt d 16 8) (4 * (bags + 1)),
     { addr := leAt d 32 8, planes := 1, ps := 0, rows := bags, rs := leAt d 40 4,
       len := dim * (if fld (leAt d 3 1) 0 2 = 0 then 4 else 2) }] ++
    (if fld (leAt d 2 1) 0 2 = 3 then [Region.run (leAt d 24 8) (4 * n)] else [])

/-- The regions a launch must find undisturbed while it runs (06 R190, 08 R260, 09 R296, 10 R318). -/
def launchRegions (s : State) (l : Launch) : List Region :=
  match l.eng with
  | .mu _ => mxOutput l.desc :: mxInputs l.desc
  | .ve _ => veOutput l.desc :: veInputs l.desc
  | .ru _ => [ruOutput l.desc, ruInput l.desc]
  | .strm _ => stReads l.desc ++ stWrites l.desc
  | .gpe => gpeRegions s l

/-- The launch runs: its engine has started it. A batch reads its lists from its launch on. -/
def started (l : Launch) : Bool := decide (l.eng = .gpe) || l.begun

/-- The program must leave the launch's regions alone: from its launch, or from the completion of its AFTER ticket, until its own
ticket completes (08 R260, 09 R303, R304). -/
def exposed (s : State) (l : Launch) : Bool := started l || afterDone s l.doc l.after_

/-- Marks the launches of a half-cell, other than the writer, whose regions a write touches before their tickets complete
(08 R260). -/
def markDirty (s : State) (h off n : Nat) (writer : Option (Nat × W16)) : State :=
  { s with launches := s.launches.map fun l =>
      if decide (writer ≠ some (l.doc.val, l.ticket)) && decide (docHalf s l.doc = h) && exposed s l &&
         (launchRegions s l).any (fun r => r.touches off n) then { l with dirty := true } else l }

/-- Where a scratchpad offset lies (10 R308): its line of 128 B, the bank and the row of the line, and the physical bank in half-cell `h`. -/
def spLine (o : Nat) : Nat := fld o 7 19
def spBank (o : Nat) : Nat := (fld (spLine o) 0 6) ^^^ (fld (spLine o) 6 6) ^^^ (fld (spLine o) 12 6) ^^^ (fld (spLine o) 18 1)
def spRow (o : Nat) : Nat := fld (spLine o) 6 13
def spPhysBank (h o : Nat) : Nat := 64 * (h % 2) + spBank o

/-- `n` bytes of a half-cell's scratchpad. -/
def spRead (s : State) (h off n : Nat) : Bytes := s.sp.read (spBase h + off) n

/-- A byte of `[off, off + n)` lies in a word that holds an uncorrectable error (12 R372). -/
def spBadAt (s : State) (h off n : Nat) : Bool :=
  s.spBad.any fun w => decide (w * 8 < spBase h + off + n) && decide (spBase h + off < w * 8 + 8)

/-- Writes a half-cell's scratchpad: a bad word is good again once written (12 R372). -/
def spWrite (s : State) (h off : Nat) (data : Bytes) (writer : Option (Nat × W16)) : State :=
  let s1 := markDirty s h off data.length writer
  { s1 with
    sp := s1.sp.write (spBase h + off) data,
    spBad := s1.spBad.filter fun w =>
      !(decide (w * 8 < spBase h + off + data.length) && decide (spBase h + off < w * 8 + 8)) }

/-- A word of a half-cell's scratchpad turns out uncorrectable (12 R372): it stays bad until it is written. -/
def spSpoil (s : State) (h off : Nat) : State :=
  let w := (spBase h + off) / 8
  if off < spSize ∧ !s.spBad.contains w then { s with spBad := s.spBad ++ [w] } else s

/-- What the scratchpad answered to an engine of a half-cell: a corrected error is counted, and an uncorrectable word stays bad until
it is written (12 R372). The granule is the 8 B word of the half-cell. -/
def spUpset (s : State) (h : Nat) (x : Sram) : State :=
  match x with
  | .bad g => spSpoil s h (8 * g)
  | _ => sramSaw s (h / 2) x

/-- A read of scratchpad met an uncorrectable error: counted and recorded at the cell (12 R372, R373). -/
def spReadError (s : State) (h off : Nat) : State := sramUE s (h / 2) stScratch (off / 8)

/-- A region holds undefined values: free bytes in every run of it (08 R260, DESIGN CHOICE, log entry 10). -/
def freeRegion (s : State) (h : Nat) (r : Region) (writer : Option (Nat × W16)) : State :=
  r.runs.foldl (fun s x => let f := s.free x.2; spWrite f.2 h x.1 f.1 writer) s

/-! ### Arbitration -/

/-- The AGE of a docent at an arbiter. -/
def Docent.age (d : Docent) (a : Nat) : Nat := Tbl.get 0 d.ages a

/-- Effective priority (05 R166). -/
def effPrio (s : State) (a d : Nat) : Nat := min 7 ((s.doc d).prio + (s.doc d).age a / 8)

/-- The winner among the candidates, given as (place in the round, docent): the highest effective priority, then the first
after the last winner's place (05 R166). -/
def roundWinner (s : State) (a n : Nat) (cands : List (Nat × Nat)) : Option (Nat × Nat) :=
  let best := cands.foldl (fun m c => max m (effPrio s a c.2)) 0
  let top := cands.filter fun c => effPrio s a c.2 == best
  let dist (c : Nat × Nat) : Nat := (c.1 + n - ((s.arb a).last + 1) % n) % n
  top.foldl (fun w c => match w with
    | none => some c
    | some x => if dist c < dist x then some c else some x) none

/-- One round (05 R166, R167): the winner is granted and its AGE becomes 0; each loser's rises by one, to at most 63. -/
def holdRound (s : State) (a n : Nat) (cands : List (Nat × Nat)) : State :=
  match roundWinner s a n cands with
  | none => s.updArb a fun x => { x with grant := none }
  | some w =>
    let s1 := cands.foldl (fun s c => s.updDoc c.2 fun x =>
      { x with ages := Tbl.set 0 x.ages a (if c.1 = w.1 then 0 else min 63 (x.age a + 1)) }) s
    s1.updArb a fun x => { x with last := w.1, grant := some w.2 }

end Sys2Proof.Machine
end

