-- ==== Sys2Proof/Machine/Reserved.lean ====
section
/-! DEFINITION. Extent 47 of the stacks (02 R40, R41): its regions, where the structures of the device lie in them, and the lines whose
bytes the spec gives, which are those of the accession log and of the program store. -/

namespace Sys2Proof.Machine

/-- The regions of extent 47 (02 R41). -/
inductive Region47 where
  | log | checkpoints | inFlight | catalogues | extents | programs | margin | reserved
  deriving DecidableEq, Repr

/-- S0 and S4 hold the structures that every device has once, and their copies. -/
def recordStack (k : Nat) : Bool := k % 4 == 0

/-- The region of an offset from the base of extent 47 of a stack. -/
def region47 (k off : Nat) : Region47 :=
  if off < 0x20000000 then (if recordStack k then .log else .checkpoints)
  else if off < 0x21000000 then (if recordStack k then .inFlight else .reserved)
  else if off < 0x21100000 then (if recordStack k then .catalogues else .reserved)
  else if off < 0x21200000 then .extents
  else if off < 0x22000000 then .reserved
  else if off < 0x27000000 then .programs
  else if 0x3FE00000 ≤ off then .margin
  else .reserved

/-- The offset of an address from the base of its extent. -/
def extOff (a : Nat) : Nat := a % 2 ^ 30

/-- The device address of an offset in extent 47 of a stack. -/
def ext47Addr (k off : Nat) : Nat := (48 * k + 47) * 2 ^ 30 + off

/-- Where the record of a SEQ lies on S0, and its copy on S4: the log is a ring of its 2,796,202 records of 192 B (02 R77; the place of a
SEQ is a DESIGN CHOICE, log entry 72). -/
def logPlace (k seq : Nat) : Nat := ext47Addr k (seq % logCapacity * 192)

/-- Images a stack's program store holds, and the bytes of a slot. -/
def storeSlots : Nat := 256
def imageSlotBytes : Nat := 320 * 1024

/-- Where an image slot of the store lies: the slots are numbered stack by stack (02 R41; the numbering is a DESIGN CHOICE, log entry 72). -/
def imagePlace (slot : Nat) : Nat := ext47Addr (slot / storeSlots) (0x22000000 + slot % storeSlots * imageSlotBytes)

/-- The bytes of a stored image with its schedule table (05 R145, 10 R325). -/
def imageBytes (i : Image) : Bytes :=
  i.header ++ i.code.flatMap (fun w => leBytes 8 w.toNat) ++ i.consts.flatMap (fun w => leBytes 8 w.toNat) ++ i.sched.flatten

/-- The lowest free slot of the program store. -/
def freeImageSlot (s : State) : Nat :=
  ((List.range (s.images.length + 1)).find? fun n => !s.images.any fun i => i.slot == n).getD 0

/-- The stack and the place on it of a checkpoint slot: six on S1 and S5, five on S2, S3, S6 and S7 (02 R41; the numbering is a DESIGN
CHOICE, log entry 72). -/
def ckptPlace (slot : Nat) : Nat :=
  let side := slot / 16
  let n := slot % 16
  let p := if n < 6 then (1, n) else if n < 11 then (2, n - 6) else (3, n - 11)
  ext47Addr (4 * side + p.1) (p.2 * spSize)

/-- The lowest free checkpoint slots. -/
def freeCkptSlots (s : State) : List Nat := (List.range 32).filter fun n => !s.ckpts.any fun c => c.slot == n

/-- The byte of the accession log at an offset of its region, while a record is held there. -/
def logByte (s : State) (off : Nat) : Option Byte :=
  let place := off / 192
  let old := s.log.oldest.toNat
  let i := (place + logCapacity - old % logCapacity) % logCapacity
  if place < logCapacity ∧ i < s.log.recs.length then some ((s.log.recs.getD i []).getD (off % 192) 0#8) else none

/-- The byte of the program store at an offset of its region, while an image is held there. -/
def imageByte (s : State) (k off : Nat) : Option Byte :=
  let o := off - 0x22000000
  let slot := storeSlots * k + o / imageSlotBytes
  match s.images.find? fun i => i.slot == slot with
  | some i => (imageBytes i)[o % imageSlotBytes]?
  | none => none

/-- What a structure holds at an address of extent 47. The records of the other regions have no byte layout in the spec, and a checkpoint
slot is encrypted under its wing's key (10 R336). -/
def structByte (s : State) (a : Nat) : Option Byte :=
  if !isExt47 (extOf a) then none
  else match region47 (stackOf a) (extOff a) with
  | .log => logByte s (extOff a)
  | .programs => imageByte s (stackOf a) (extOff a)
  | _ => none

/-- The line of a structure: a byte of it that holds nothing is zero. -/
def structLine (s : State) (a : Nat) : Option Bytes :=
  let bs := (List.range 64).map fun i => structByte s (lineOf a * 64 + i)
  if bs.any (·.isSome) then some (bs.map fun b => b.getD 0#8) else none

/-- A line of extent 47 that no structure uses: only the zero-writes of reset levels 4 and 5 write it (02 R41). -/
def unused47 (a : Nat) : Bool := isExt47 (extOf a) && decide (region47 (stackOf a) (extOff a) = .reserved)

end Sys2Proof.Machine
end

