-- ==== Sys2Proof/Machine/Memory.lean ====
section
/-! DEFINITION. Stacked memory (11): where an address lies, stored lines with their generations, counts and poison, key
rollovers, and the line commands. -/

namespace Sys2Proof.Machine

/-! ### Addresses (11 R341) -/

def stackOff (a : Nat) : Nat := a % (48 * 2 ^ 30)
def pcOf (a : Nat) : Nat := (fld (stackOff a) 6 5) ^^^ (fld (stackOff a) 21 5)
def bankOf (a : Nat) : Nat := (fld (stackOff a) 15 6) ^^^ (fld (stackOff a) 26 6)
def rowOf (a : Nat) : Nat := fld (stackOff a) 21 15

/-- A row's key: stack, pseudo-channel, bank, row. -/
def rowKey (a : Nat) : Nat := ((stackOf a * 32 + pcOf a) * 64 + bankOf a) * 32768 + rowOf a

/-- The detail word "pseudo-channel, bank, row" of a vent record (17 R526; packing: DESIGN CHOICE, log entry 19). -/
def rowWord (a : Nat) : Nat := pcOf a + 256 * bankOf a + 65536 * rowOf a

/-- The granules of a table's storage hold the address (06 R175, R178). -/
def tableHolds (t : Table) (a : Nat) : Bool :=
  t.runs.any fun r =>
    let lo := r.stack * (48 * 2 ^ 30) + r.first * 65536
    decide (lo ≤ a) && decide (a < lo + r.count * 65536)

/-- The address lies in table storage (06 R178): until a deleted table's space is free again. -/
def inTableStorage (s : State) (a : Nat) : Bool :=
  s.tables.any fun e => match e.2 with | some t => tableHolds t a | none => false

/-- The address lies in an extent bound to the wing, outside extent 47 and table storage (11 R354). -/
def wingOwns (s : State) (w : Nat) (a : Nat) : Bool :=
  decide (a < dramSize) && decide (((s.ext (extOf a)).owner.map (·.val)) = some w) && !isExt47 (extOf a) &&
  !inTableStorage s a

/-! ### Reading a line (11 R348; a line of a clear-pending extent is as cleared, 16 R504) -/

/-- What a read of a line finds. -/
inductive LineFound where
  | zero
  | data
  | bad
  deriving DecidableEq, Repr

def lineFound (s : State) (a : Nat) : LineFound :=
  let m := s.line (lineOf a)
  if m.bad = .uncorrectable then .bad
  else if (s.ext (extOf a)).clearPending ∨ m.gen ≠ (s.ext (extOf a)).gen then .zero
  else if m.bad = .poison then .bad
  else if m.count = 0 then .zero
  else .data

/-- The 64 bytes of a line that is not bad. -/
def linePlain (s : State) (a : Nat) : Bytes :=
  match lineFound s a with
  | .data => s.dram.read (lineOf a * 64) 64
  | _ => List.replicate 64 0#8

/-- An uncorrected error is reported (12 R374). -/
def reportUE (s : State) (a : Nat) : State :=
  let la := lineOf a * 64
  let s1 := s.updStack (stackOf a) fun k => { k with dramUe := satInc k.dramUe, lastUe := BitVec.ofNat 64 la }
  logEvent s1 0x1003 3 0xFF (8 + stackOf a) 0 la (rowWord a) 0 0

/-- The line is written with the poison pattern and the extent's generation, unless it is already poisoned (11 R348). -/
def poison (s : State) (a : Nat) : State :=
  let m := s.line (lineOf a)
  if m.bad = .poison ∧ m.gen = (s.ext (extOf a)).gen then s
  else reportUE (s.setLine (lineOf a) { m with bad := .poison, gen := (s.ext (extOf a)).gen }) a

/-- 24 hours. -/
def day : Nat := 86400 * 10 ^ 9

/-- A corrected error is reported; 16 of one row within 24 hours raise one alarm (12 R374, R375). -/
def reportCE (s : State) (a : Nat) : State :=
  let s1 := s.updStack (stackOf a) fun k => { k with dramCe := satInc k.dramCe }
  let l := ((Tbl.get [] s1.rowErrs (rowKey a)).filter fun t => decide (s1.now - t < day)) ++ [s1.now]
  if l.length ≥ 16 then
    alarm { s1 with rowErrs := Tbl.set [] s1.rowErrs (rowKey a) [] } 0x0205 0xFF (8 + stackOf a) (stackOf a) (rowWord a) 0 0
  else { s1 with rowErrs := Tbl.set [] s1.rowErrs (rowKey a) l }

/-- A read of `n` bytes from `a` by an engine: none where a line is bad; bytes of lines found zero are zero. -/
def dramRead (s : State) (a n : Nat) : Option Bytes :=
  let first := lineOf a
  let count := (a + n - 1) / 64 + 1 - first
  let ls := (List.range count).map fun i => 64 * (first + i)
  if n = 0 then some []
  else if ls.any fun la => decide (lineFound s la = .bad) then none
  else some (slice ((ls.map fun la => linePlain s la).flatten) (a - 64 * first) n)

/-- The lines that a failed read met: an uncorrectable one is poisoned and reported, a poisoned one is not (12 R374). -/
def dramReadFail (s : State) (a n : Nat) : State :=
  let first := lineOf a
  let count := (a + n - 1) / 64 + 1 - first
  (List.range count).foldl (fun s i =>
    let la := 64 * (first + i)
    if lineFound s la = .bad then poison s la else s) s

/-! ### Writing a line (11 R347) -/

/-- The write count that begins a rollover, and the one a write may not reach. -/
def rollCount : Nat := 2 ^ 30
def lastCount : Nat := 2 ^ 31 - 1

/-- The count and phase the next write of a line gets. -/
def nextCount (s : State) (a : Nat) : Nat :=
  let m := s.line (lineOf a)
  let e := s.ext (extOf a)
  if m.gen = e.gen ∧ m.phase = e.phase then m.count + 1 else 1

/-- An extent of the stack is no longer under a rollover. -/
def Stack.rollEnd (k : Stack) (e : Nat) : Stack := { k with rolls := k.rolls.filter (· != e) }

/-- The extent begins a rollover (11 R347). -/
def rolloverBegin (s : State) (e : Nat) : State :=
  if (s.ext e).rolling then s
  else (s.updExt e fun x => { x with rolling := true }).updStack (e / 48) fun k => { k with rolls := k.rolls ++ [e % 48] }

/-- Writes a whole line under the extent's current generation and phase. -/
def lineStore (s : State) (a : Nat) (data : Bytes) : State :=
  let e := s.ext (extOf a)
  let n := nextCount s a
  let s1 := { s with dram := s.dram.write (lineOf a * 64) (fitTo 64 data) }
  let s2 := s1.setLine (lineOf a) { gen := e.gen, phase := e.phase, count := n, bad := .good }
  if n = rollCount then rolloverBegin s2 (extOf a) else s2

/-- A write of the bytes `data`, all within one line, at `a` (11 R347, R348). -/
def lineWrite (s : State) (a : Nat) (data : Bytes) : State :=
  let off := a % 64
  let m := s.line (lineOf a)
  if nextCount s a ≥ lastCount then { s with lineWaits := s.lineWaits ++ [(a, data)] }
  else if off = 0 ∧ data.length = 64 then lineStore s a data
  else if m.bad = .uncorrectable then poison s a
  else if lineFound s a = .bad then reportUE s a
  else
    let old := linePlain s a
    lineStore s a (slice old 0 off ++ data ++ slice old (off + data.length) (64 - off - data.length))

/-- A write of any length: its lines in rising order. -/
def dramWrite (s : State) (a : Nat) (data : Bytes) : State :=
  let first := lineOf a
  let count := if data.isEmpty then 0 else (a + data.length - 1) / 64 + 1 - first
  (List.range count).foldl (fun s i =>
    let lo := max a (64 * (first + i))
    let hi := min (a + data.length) (64 * (first + i) + 64)
    lineWrite s lo (slice data (lo - a) (hi - lo))) s

/-- Every line of `[a, a + n)` becomes a clear line (02 R56, 06 R173, R176): an unlisted line reads zero and counts its
writes from 1, whatever its extent's generation. -/
def dramZero (s : State) (a n : Nat) : State :=
  let lo := lineOf a
  let hi := (a + n) / 64
  { s with dram := s.dram.clear a n, lines := s.lines.filter fun e => decide (e.1 < lo) || decide (hi ≤ e.1) }

/-- The line writes that waited for the key of an extent's rollover are made (11 R347). -/
def releaseLineWaits (s : State) (e : Nat) : State :=
  let mine := s.lineWaits.filter fun w => decide (extOf w.1 = e)
  mine.foldl (fun s w => lineWrite s w.1 w.2)
    { s with lineWaits := s.lineWaits.filter (fun w => !decide (extOf w.1 = e)), bar2Waits := s.bar2Waits.filter fun w => w.2 != e }

/-! ### Extent keys (15 R469, R470) -/

/-- HKDF-SHA-384. -/
def hkdf384 (salt ikm info : Bytes) (n : Nat) : Bytes := hkdfExpand (hmac384 salt ikm) info n

def zeroSalt : Bytes := List.replicate 48 0#8

/-- The wing key (15 R469). -/
def wingKey (s : State) (w : Nat) : Bytes :=
  hkdf384 (s.wing w).wr (((s.wing w).tk).getD (List.replicate 32 0#8)) (ascii "HX20 WING" ++ [BitVec.ofNat 8 w]) 32

/-- The key of an extent bound to wing `w`. -/
def extentKey (s : State) (w e : Nat) : Bytes :=
  let x := s.ext e
  hkdf384 zeroSalt (wingKey s w) (ascii "HX20 EXTENT" ++ leBytes 2 e ++ leBytes 2 x.gen.toNat ++ leBytes 8 x.keySeq.toNat ++
    leBytes 4 x.roll.toNat) 32

/-- The key of an extent 47 (15 R469). -/
def ext47Key (s : State) (k : Nat) : Bytes :=
  hkdf384 zeroSalt s.vlt.dk (ascii "HX20 EXT47" ++ [BitVec.ofNat 8 k] ++ leBytes 4 (s.ext (48 * k + 47)).roll.toNat) 32

/-- The key an extent's current record gives: of its wing, of the device for extent 47, none while it is free. -/
def currentKey (s : State) (e : Nat) : Option Bytes :=
  if isExt47 e then some (ext47Key s (e / 48))
  else match (s.ext e).owner with
  | some w => some (extentKey s w e)
  | none => none

/-- Loads a key into the slot of a phase. -/
def Extent.setKey (x : Extent) (phase : Bool) (k : Option Bytes) : Extent :=
  if phase then { x with key1 := k } else { x with key0 := k }

/-! ### Commands -/

/-- A line read at the controller; while the Vault is in ERROR nothing moves (15 R483). `errs`: no error, one symbol corrected, uncorrectable; `tagOk` after correction (11 R348).
A line of the accession log or of the program store reads as that structure (02 R41). -/
def dramLineRead (s : State) (a errs : Nat) (tagOk : Bool) : State :=
  let m := s.line (lineOf a)
  let hard := decide (errs = 2) && decide (m.bad ≠ .poison)
  if s.vlt.mode = .error then s
  else if hard then (poison s a).emit (.dramLine (lineOf a * 64) none)
  else match structLine s a with
  | some b => (if errs = 1 then reportCE s a else s).emit (.dramLine (lineOf a * 64) (some b))
  | none =>
    match lineFound s a with
    | .zero => s.emit (.dramLine (lineOf a * 64) (some (List.replicate 64 0#8)))
    | .bad => (poison s a).emit (.dramLine (lineOf a * 64) none)
    | .data =>
      if !tagOk then (poison s a).emit (.dramLine (lineOf a * 64) none)
      else
        let s1 := if errs = 1 then reportCE s a else s
        s1.emit (.dramLine (lineOf a * 64) (some (linePlain s a)))

def execDramLineRead (addr : BitVec 39) (errs : Fin 3) (tagOk : Bool) (s : State) : Host.Outcome State Fault Refusal :=
  if dramSize ≤ addr.toNat then .fault .noDram else .next (dramLineRead s addr.toNat errs tagOk)

/-- A line write. `errs` is what the merge read of a partial write meets. Bytes beyond the line's end are not written, and nothing is
written to a line of extent 47 that no structure uses (02 R41). -/
def dramLineWrite (s : State) (a : Nat) (data : Bytes) (errs : Nat) : State :=
  let d := data.take (64 - a % 64)
  let partialWrite := !(decide (a % 64 = 0) && decide (d.length = 64))
  let m := s.line (lineOf a)
  if d.isEmpty ∨ s.vlt.mode = .error ∨ unused47 a then s
  else if partialWrite ∧ errs = 2 ∧ m.bad ≠ .poison then poison s a
  else
    let s1 := if partialWrite ∧ errs = 1 ∧ lineFound s a = .data then reportCE s a else s
    lineWrite s1 a d

def execDramLineWrite (addr : BitVec 39) (data : Bytes) (errs : Fin 3) (s : State) : Host.Outcome State Fault Refusal :=
  if dramSize ≤ addr.toNat then .fault .noDram else .next (dramLineWrite s addr.toNat data errs)

/-- Patrol scrub of one line: corrects, or poisons what it cannot correct (11 R349). -/
def patrolScrub (s : State) (a errs : Nat) : State :=
  let m := s.line (lineOf a)
  if s.vlt.mode = .error then s
  else if errs = 2 ∧ m.bad ≠ .poison then poison s a
  else
    match lineFound s a with
    | .bad => poison s a
    | .data => if errs = 1 then reportCE s a else s
    | .zero => s

def execPatrolScrub (addr : BitVec 39) (errs : Fin 3) (s : State) : Host.Outcome State Fault Refusal :=
  if dramSize ≤ addr.toNat then .fault .noDram else .next (patrolScrub s addr.toNat errs)

/-- The Vault loads the next key into the other slot: later writes use the new phase, and waiting writes are made
(11 R347, 15 R469). -/
def rolloverKeyLoaded (s : State) (e : Nat) : State :=
  let x := s.ext e
  if !x.rolling || x.keyLoaded then s
  else
    let s1 := s.updExt e fun x => { x with roll := x.roll + 1, phase := !x.phase, keyLoaded := true, keyLate := false }
    let s2 := s1.updExt e fun x => x.setKey x.phase (currentKey s1 e)
    releaseLineWaits s2 e

def execRolloverKeyLoaded (ext : ExtIx) (s : State) : Host.Outcome State Fault Refusal := .next (rolloverKeyLoaded s ext)

/-- The key was not loaded within 1 s: one alarm (11 R347). -/
def execRolloverKeyTimeout (ext : ExtIx) (s : State) : Host.Outcome State Fault Refusal :=
  .next (if (s.ext ext).rolling && !(s.ext ext).keyLoaded && !(s.ext ext).keyLate then
      alarm (s.updExt ext fun x => { x with keyLate := true }) 0x0204 (((s.ext ext).owner.map (·.val)).getD 0xFF)
        (8 + ext.val / 48) ext 0 0 0
    else s)

/-- The sweep has rewritten each line of the old phase under the new one, poisoning what it could not read; the old key is
destroyed (11 R347, R370). -/
def rolloverSweepDone (s : State) (e : Nat) : State :=
  let x := s.ext e
  if !x.rolling || !x.keyLoaded then s
  else
    let olds := s.lines.filter fun l => decide (l.1 * 64 / 2 ^ 30 = e) && decide (l.2.gen = x.gen) &&
      decide (l.2.phase ≠ x.phase) && decide (l.2.count ≠ 0 ∨ l.2.bad ≠ .good)
    let s1 := olds.foldl (fun s l =>
      if l.2.bad = .good then s.setLine l.1 { l.2 with phase := x.phase, count := 1 } else poison s (l.1 * 64)) s
    let s2 := s1.updExt e fun x => ({ x with rolling := false, keyLoaded := false, keyLate := false }).setKey (!x.phase) none
    s2.updStack (e / 48) fun k => k.rollEnd (e % 48)

def execRolloverSweepDone (ext : ExtIx) (s : State) : Host.Outcome State Fault Refusal := .next (rolloverSweepDone s ext)

/-- A bank's refresh command: the rate of the stack applies to the bank from it on (11 R343, R370). -/
def execBankRefresh (stack : StackIx) (pc : Fin 32) (bank : Fin 64) (s : State) : Host.Outcome State Fault Refusal :=
  .next (s.updStack stack fun k => { k with refreshed := Tbl.set 0 k.refreshed (pc.val * 64 + bank.val) k.refresh })

end Sys2Proof.Machine
end

