-- ==== Sys2Proof/Machine/Xlate.lean ====
section
/-! DEFINITION. Address translation of a wing (11 R351 to R363): walks with their caches, host addresses with ATS and peer windows,
and the accesses that engines make through them. -/

namespace Sys2Proof.Machine

/-! ### Places -/

/-- Who translates: the place whose walkers and caches serve it (cells 0 to 7, hubs 8 and 9), the binding generation of the half-cell
or hub path that the access belongs to, which tags what is cached (11 R359), and the stream engine whose prefetch buffer is looked in
first (11 R360). -/
structure Site where
  loc : Nat
  tag : W16
  eng : Option Nat
  deriving DecidableEq, Repr

/-- The Curator's place of translation: its hub's walkers (11 R359). -/
def curLoc (s : State) : Nat := 8 + s.holderHub.getD 0

/-- The site of a reader. A half-cell's accesses carry its generation, and a hub path's that of the queue, VF or flow whose access it is
(DEDUCED, log entry 77). -/
def siteOf (s : State) : HostReader → Site
  | .queue q => { loc := curLoc s, tag := (s.que q).gen, eng := none }
  | .image id => { loc := curLoc s, tag := ((s.findReq id).map fun r => (s.que r.que).gen).getD 0, eng := none }
  | .strm e => { loc := e.val / 16, tag := (s.half (e.val / 8)).gen, eng := some e.val }
  | .update w _ => { loc := curLoc s, tag := ((s.hostFn w).map fun f => (s.vf f).gen).getD 0, eng := none }
  | .docent d => { loc := docCell d, tag := (s.half (docHalf s d)).gen, eng := none }
  | .flow f => { loc := 9, tag := (s.flow f).gen, eng := none }

/-- The site of a walk that names its place only: the wing's lowest half-cell of the cell, or its host function at a hub. -/
def walkSite (s : State) (loc w : Nat) : Site :=
  { loc := loc,
    tag :=
      if loc < 8 then
        let h := if decide (((s.half (2 * loc)).owner.map (·.val)) = some w) then 2 * loc else 2 * loc + 1
        (s.half h).gen
      else ((s.hostFn w).map fun f => (s.vf f).gen).getD 0,
    eng := none }

/-! ### Walks -/

/-- The lowest VA bit a level indexes, and the entries of its table (11 R351). -/
def lvlShift (level : Nat) : Nat :=
  match level with
  | 1 => 16 | 2 => 21 | 3 => 30 | _ => 39
def lvlBits (level : Nat) : Nat := if level = 1 then 5 else 9

/-- Fields of a page-table entry (11 R352). -/
def pteType (v : Nat) : Nat := fld v 0 2
def pteW (v : Nat) : Bool := bit v 2
def pteHost (v : Nat) : Bool := bit v 3
def pteAddr (v : Nat) : Nat := fld v 8 48 * 256

/-- Alignment of what an entry names: the next table, or the page (11 R351). -/
def pteAlign (level v : Nat) : Nat :=
  if pteType v = 2 then (if level = 2 then 256 else 4096) else 2 ^ lvlShift level

/-- A malformed TABLE or PAGE entry (11 R353). -/
def pteMalformed (level v : Nat) : Bool :=
  decide (pteType v = 1) || decide (fld v 56 8 ≠ 0) || decide (fld v 4 4 ≠ 0) ||
  (decide (pteType v = 3) && decide (level = 4)) || (decide (pteType v = 2) && decide (level = 1)) ||
  (decide (pteType v = 2) && (pteHost v || pteW v)) || decide (pteAddr v % pteAlign level v ≠ 0) ||
  (!pteHost v && decide (pteAddr v ≥ dramSize))

/-- What a walk gives. -/
inductive Walk where
  | missing
  | ue
  | leaf (host : Bool) (target size : Nat) (writable : Bool)
  deriving DecidableEq, Repr

/-- The translation of an address: none, a table line that cannot be read, or a leaf. -/
inductive Leaf where
  | missing
  | ue
  | entry (e : TlbEntry)
  deriving DecidableEq, Repr

/-- Entries that a place's caches hold: leaf and upper-level (11 R359). -/
def leafCap (loc : Nat) : Nat := if loc < 8 then 4096 else 1024
def upperCap (loc : Nat) : Nat := if loc < 8 then 512 else 128

/-- Adds to a list of cached entries of one place, the oldest giving way. -/
def capped {α : Type} (mine : α → Bool) (cap : Nat) (l : List α) (x : α) : List α :=
  let n := (l.filter mine).length
  let l' := if n < cap then l else match l.findIdx? mine with | some i => l.eraseIdx i | none => l
  l' ++ [x]

/-- Walks down from the table at `base` (11 R351 to R354). -/
def walkFrom (site : Site) (w va : Nat) (wx : WingIx) : Nat → Nat → State → State × Walk
  | 0, _, s => (s, .missing)
  | level + 1, base, s =>
    let lv := level + 1
    let a := base + 8 * fld va (lvlShift lv) (lvlBits lv)
    if !wingOwns s w a then (violate s (some w) 3, .missing)
    else match dramRead s a 8 with
    | none => (dramReadFail s a 8, .ue)
    | some b =>
      let v := fromLE b
      if pteType v = 0 then (s, .missing)
      else if pteMalformed lv v then (s.updWing w fun x => { x with malformed := satInc x.malformed }, .missing)
      else if pteType v = 3 then (s, .leaf (pteHost v) (pteAddr v) (2 ^ lvlShift lv) (pteW v))
      else
        let e : PtwEntry :=
          { loc := site.loc, wing := wx, tag := site.tag, level := level, prefix_ := va / 2 ^ lvlShift lv, base := pteAddr v }
        walkFrom site w va wx level (pteAddr v)
          { s with ptw := capped (fun x => x.loc == site.loc) (upperCap site.loc) s.ptw e }

/-- The deepest cached table for an address: its level and base (11 R359). -/
def ptwHit (s : State) (site : Site) (w va : Nat) : Option (Nat × Nat) :=
  [1, 2, 3].findSome? fun lv =>
    (s.ptw.find? fun x => x.loc == site.loc && x.wing.val == w && x.tag == site.tag && x.level == lv &&
      x.prefix_ == va / 2 ^ lvlShift (lv + 1)).map fun x => (lv, x.base)

/-- A walk of a wing's address from a place: counted, its leaf cached (11 R359, R369). -/
def walk (s : State) (site : Site) (wx : WingIx) (va : Nat) : State × Leaf :=
  let w := wx.val
  let s1 := s.updWing w fun x => { x with walks := satInc x.walks }
  let start := (ptwHit s1 site w va).getD (4, (s1.wing w).live.ptRoot.toNat)
  let r := walkFrom site w va wx start.1 start.2 s1
  match r.2 with
  | .leaf host target size writable =>
    let g := if host then 0#16 else (r.1.ext (extOf target)).gen
    let e : TlbEntry := { loc := site.loc, wing := wx, page := va / size, size := size, host := host, target := target,
                          writable := writable, gen := g, tag := site.tag }
    ({ r.1 with tlb := capped (fun x => x.loc == site.loc) (leafCap site.loc) r.1.tlb e }, .entry e)
  | .missing => (r.1, .missing)
  | .ue => (r.1, .ue)

/-- A cached entry serves an address of the wing for the site. -/
def TlbEntry.serves (x : TlbEntry) (site : Site) (w va : Nat) : Bool :=
  x.loc == site.loc && x.wing.val == w && x.tag == site.tag && x.page == va / x.size

/-- The cached leaf of an address: in the engine's prefetch buffer, or in the caches of the place. -/
def tlbHit (s : State) (site : Site) (w va : Nat) : Option TlbEntry :=
  ((site.eng.map fun e => Tbl.get [] s.ahead e).getD [] ++ s.tlb).find? fun x => x.serves site w va

/-- The leaf of an address: a cached one, else that of a walk. -/
def leafFor (s : State) (site : Site) (wx : WingIx) (va : Nat) : State × Leaf :=
  match tlbHit s site wx va with
  | some e => (s, .entry e)
  | none => walk s site wx va

/-- How an address resolves for one access (11 R354). -/
inductive Xlat where
  | missing
  | ue
  /-- a cached translation carries an old binding generation (02 R60) -/
  | stale
  /-- outside the wing: a violation of kind 3 -/
  | outside
  | dev (pa : Nat)
  | host (pa : Nat)
  deriving DecidableEq, Repr

def resolve (s : State) (w va : Nat) (write host : Bool) (target size : Nat) (writable : Bool) : Xlat :=
  if write && !writable then .missing
  else if host then .host (target + va % size)
  else if wingOwns s w (target + va % size) then .dev (target + va % size)
  else .outside

/-- Translates an address for a read or a write from a site. -/
def translate (s : State) (site : Site) (wx : WingIx) (va : Nat) (write : Bool) : State × Xlat :=
  let r := leafFor s site wx va
  match r.2 with
  | .missing => (r.1, .missing)
  | .ue => (r.1, .ue)
  | .entry e =>
    if !e.host && e.gen != (r.1.ext (extOf e.target)).gen then (r.1, .stale)
    else (r.1, resolve r.1 wx va write e.host e.target e.size e.writable)

/-- Keeps the entries of the prefetch buffers that a test picks. -/
def keepAhead (t : Tbl (List TlbEntry)) (keep : TlbEntry → Bool) : Tbl (List TlbEntry) :=
  (t.map fun (b : Nat × List TlbEntry) => (b.1, b.2.filter keep)).filter fun (b : Nat × List TlbEntry) => !b.2.isEmpty

/-- Keeps the entries of the leaf caches and of the prefetch buffers that a test picks. -/
def keepLeaves (s : State) (keep : TlbEntry → Bool) : State :=
  { s with tlb := s.tlb.filter keep,
           ahead := keepAhead s.ahead keep }

/-- Drops the cached translations of a wing that a test picks by their address span. -/
def flushXlat (s : State) (w : Nat) (hit : Nat → Nat → Bool) : State :=
  { keepLeaves s (fun x => !(x.wing.val == w && hit (x.page * x.size) x.size)) with
    ptw := s.ptw.filter fun x =>
      !(x.wing.val == w && hit (x.prefix_ * 2 ^ lvlShift (x.level + 1)) (2 ^ lvlShift (x.level + 1))) }

/-- Drops every cached translation of a wing. -/
def flushWing (s : State) (w : Nat) : State := flushXlat s w fun _ _ => true

/-- WALK_COMPLETE: a walk ends at a place; its leaf is cached, or its violation or malformed entry is counted. -/
def execWalkComplete (loc : Fin 10) (wing : WingIx) (va : BitVec 48) (write : Bool) (s : State) :
    Host.Outcome State Fault Refusal :=
  let r := translate s (walkSite s loc wing) wing va.toNat write
  .next (match r.2 with
    | .outside => violate r.1 (some wing.val) 3
    | _ => r.1)

/-! ### Host addresses (11 R361, 14 R442) -/

/-- A PCIe address lies in a peer window whose WINGS does not name the wing (14 R442). -/
def peerBlocked (s : State) (w a : Nat) : Bool :=
  (List.range 8).any fun k =>
    let p := s.peer k
    decide (p.base ≤ p.limit) &&
    decide (p.base.toNat ≤ a) && decide (a < p.limit.toNat + 65536) && !bit p.wings.toNat w

/-- The PASID that host requests of a wing carry (11 R361, R369). -/
def wingPasid (s : State) (w : Nat) : Option Nat :=
  let p := (s.wing w).pasid.toNat
  if bit p 20 then some (fld p 0 20) else none

/-- ATS is in use for a wing: its host function has it enabled, and a VF has a PASID too (11 R361). -/
def atsInUse (s : State) (w : Nat) : Bool :=
  match s.hostFn w with
  | none => false
  | some f => (s.fnSt f).ats && (decide (f = 0) || ((wingPasid s w).isSome && (s.fnSt f).pasid))

/-- The cached ATS answer for a 4 KiB page. -/
def atsHit (s : State) (w page : Nat) : Option AtsEntry :=
  match s.hostFn w with
  | none => none
  | some f => s.ats.find? fun e => e.fn.val == f && decide (e.pasid = wingPasid s w) && e.page == page

/-- The 4 KiB pages of a run of host addresses. -/
def pages4k (a n : Nat) : List Nat := (List.range ((a + n - 1) / 4096 + 1 - a / 4096)).map (· + a / 4096)

/-- Pages of a run that still need a translation from the host. -/
def atsNeeded (s : State) (w a n : Nat) : List Nat :=
  if atsInUse s w then (pages4k a n).filter fun p => (atsHit s w p).isNone else []

/-- A page of the run that the host's answer denies for the access (11 R363). -/
def atsDenied (s : State) (w a n : Nat) (write : Bool) : Bool :=
  atsInUse s w && (pages4k a n).any fun p =>
    match atsHit s w p with
    | some e => !(if write then e.wr else e.rd)
    | none => false

/-- A request to the host for each page that has none in flight: an ATS cache miss (11 R361, R369). -/
def atsAsk (s : State) (w : Nat) (who : HostReader) (pages : List Nat) : State :=
  match s.hostFn w with
  | none => s
  | some f =>
    if h : f < 256 then
      pages.foldl (fun s p =>
        let fn : Fn := ⟨f, h⟩
        if s.atsReqs.any (fun r => r.1 == fn && r.2.1 == p) then s
        else
          let s1 := s.updWing w fun x => { x with atsMisses := satInc x.atsMisses }
          ({ s1 with atsReqs := s1.atsReqs ++ [(fn, p, who)] }).emit (.atsRequest fn (wingPasid s w) (BitVec.ofNat 64 (p * 4096)))) s
    else s

/-- Where a host write of a wing goes: the translated address while ATS is in use and the page's answer permits it, else the
untranslated one (11 R361). -/
def hostAddr (s : State) (w a : Nat) : Nat × Bool :=
  match if atsInUse s w then atsHit s w (a / 4096) else none with
  | some e => if e.wr then (e.dest * 4096 + a % 4096, true) else (a, false)
  | none => (a, false)

/-- A posted write of a wing's host function (11 R361). -/
def wingWrite (s : State) (w : Nat) (fn : Fn) (a : Nat) (data : Bytes) : State :=
  let t := hostAddr s w a
  hostWriteAs s fn (BitVec.ofNat 64 t.1) data { pasid := wingPasid s w, translated := t.2 }

/-! ### Accesses of engines -/

/-- The wing's host function issues requests: it takes part in the device, and a VF is in D0 (14 R435, 16 R514). PF0 in D3hot still
drains what runs. -/
def hostFnIssues (s : State) (w : Nat) : Bool :=
  match s.hostFn w with
  | some f => s.fnEnabled f && (decide (f = 0) || !(s.fnSt f).d3)
  | none => false

/-- How an access to a run of bytes within one 4 KiB block ends. -/
inductive Access (α : Type) where
  | ok (a : α)
  | missing
  /-- the host denies the page (11 R363) -/
  | absent
  | ue
  | stale
  /-- the host has not answered a translation request, or the host link is down: the engine waits -/
  | waits

/-- The runs of `[va, va + n)` within 4 KiB blocks, the smallest translation unit (11 R362). -/
def pageChunks : Nat → Nat → Nat → List (Nat × Nat)
  | 0, _, _ => []
  | fuel + 1, va, n =>
    if n = 0 then []
    else
      let k := min n (4096 - va % 4096)
      (va, k) :: pageChunks fuel (va + k) (n - k)

def chunksOf (va n : Nat) : List (Nat × Nat) := pageChunks (n / 4096 + 2) va n

/-- A denied answer is not kept: a later access asks the host again (11 R363). -/
def atsForget (s : State) (w a n : Nat) (write : Bool) : State :=
  match s.hostFn w with
  | none => s
  | some f => { s with ats := s.ats.filter fun e =>
      !(e.fn.val == f && (pages4k a n).contains e.page && !(if write then e.wr else e.rd)) }

/-- Reads a run of one block (10 R317, R320, 11 R354). -/
def chunkRead (s : State) (wx : WingIx) (who : HostReader) (hm : HostMem) (va n : Nat) : State × Access Bytes :=
  let r := translate s (siteOf s who) wx va false
  match r.2 with
  | .missing => (r.1, .missing)
  | .ue => (r.1, .ue)
  | .stale => (r.1, .stale)
  | .outside => (violate r.1 (some wx.val) 3, .ok (List.replicate n 0#8))
  | .dev pa =>
    if r.1.vlt.mode = .error then (r.1, .waits)
    else match dramRead r.1 pa n with
    | some b => (r.1, .ok b)
    | none => (dramReadFail r.1 pa n, .ue)
  | .host pa =>
    if peerBlocked r.1 wx pa then (violate r.1 (some wx.val) 3, .ok (List.replicate n 0#8))
    else if !r.1.dlActive || !hostFnIssues r.1 wx then (r.1, .waits)
    else
      let need := atsNeeded r.1 wx pa n
      if atsDenied r.1 wx pa n false then (atsForget r.1 wx pa n false, .absent)
      else if need.isEmpty then (r.1, .ok (hostBytes hm pa n)) else (atsAsk r.1 wx who need, .waits)

/-- Writes a run of one block. -/
def chunkWrite (s : State) (wx : WingIx) (who : HostReader) (va : Nat) (data : Bytes) : State × Access Unit :=
  let r := translate s (siteOf s who) wx va true
  match r.2 with
  | .missing => (r.1, .missing)
  | .ue => (r.1, .ue)
  | .stale => (r.1, .stale)
  | .outside => (violate r.1 (some wx.val) 3, .ok ())
  | .dev pa => if r.1.vlt.mode = .error then (r.1, .waits) else (dramWrite r.1 pa data, .ok ())
  | .host pa =>
    if peerBlocked r.1 wx pa then (violate r.1 (some wx.val) 3, .ok ())
    else if heldFull r.1 || !hostFnIssues r.1 wx then (r.1, .waits)
    else
      let need := atsNeeded r.1 wx pa data.length
      if atsDenied r.1 wx pa data.length true then (atsForget r.1 wx pa data.length true, .absent)
      else if !need.isEmpty then (atsAsk r.1 wx who need, .waits)
      else
        match r.1.hostFn wx with
        | some f => if h : f < 256 then (wingWrite r.1 wx ⟨f, h⟩ pa data, .ok ()) else (r.1, .ok ())
        | none => (r.1, .ok ())

/-- Reads a run of any length, block by block. -/
def vaRead (s : State) (wx : WingIx) (who : HostReader) (hm : HostMem) (va n : Nat) : State × Access Bytes :=
  (chunksOf va n).foldl (fun x c =>
    match x.2 with
    | .ok b =>
      let r := chunkRead x.1 wx who hm c.1 c.2
      match r.2 with
      | .ok b' => (r.1, .ok (b ++ b'))
      | .missing => (r.1, .missing)
      | .absent => (r.1, .absent)
      | .ue => (r.1, .ue)
      | .stale => (r.1, .stale)
      | .waits => (r.1, .waits)
    | _ => x) (s, .ok [])

/-- A lent wing whose host function issues page requests (11 R363, R364). -/
def wingPri (s : State) (w : Nat) : Bool :=
  (s.wing w).lent && (match s.hostFn w with | some f => (s.fnSt f).pri && !(s.fnSt f).priStopped | none => false)

/-- The code of an absent page: PAGE_FAULT_PINNED for a serving wing, TRANSLATION_MISSING for a lent one (11 R363). -/
def absentCode (s : State) (w : Nat) : Byte := if (s.wing w).lent then rTRANSLATION_MISSING else rPAGE_FAULT_PINNED

/-- A stale binding met by a wing's sender: counted, and the request completes with STALE_BINDING (02 R58, R59). -/
def staleReply (s : State) (w : Nat) (id : Nat) : State :=
  let s1 := s.updWing w fun x => { x with staleCnt := satInc x.staleCnt }
  if (s1.liveReqs w).any (fun r => r.id == id) then retireAll (abortStale s1 id) else s1

end Sys2Proof.Machine
end

