-- ==== Sys2Proof/Machine/Streams.lean ====
section
/-! DEFINITION. Stream engines, tile counters, schedule points, page-fault halts and checkpoints (10). -/

namespace Sys2Proof.Machine

/-! ### Launch checks (10 R316) -/

/-- Fields that are reserved, or unused for the descriptor's NDIM, DIR and ring (10 R314). With a reserved NDIM of 0, dimensions
1 to 4 are unused and COUNT0 is not counted (DEDUCED, log entry 65). -/
def stReservedSet (d : Bytes) : Bool :=
  let nd := stNdim d
  decide (fld (leAt d 0 1) 2 6 ≠ 0) || decide (fld (leAt d 1 1) 6 2 ≠ 0) || !zeroAt d 6 2 ||
  (decide (stDir d ≤ 1) && !zeroAt d 14 2) || (decide (stDir d = 2) && (!zeroAt d 12 4 || decide (stAhead d ≠ 0))) ||
  ([1, 2, 3, 4].any fun i =>
    (decide (nd ≤ i) && (!zeroAt d (22 + 2 * i) 2 || !zeroAt d (28 + 4 * i) 4 || !zeroAt d (44 + 4 * i) 4)) ||
    (decide (stRing d ≠ 0) && decide (i > stTileDims d) && !zeroAt d (44 + 4 * i) 4))

/-- Strides the descriptor uses. -/
def stUsedStrides (d : Bytes) : List Int :=
  ([1, 2, 3, 4].filter fun i => decide (i < stNdim d)).flatMap fun i =>
    [stMemStride d i] ++ (if stRing d ≠ 0 ∧ i > stTileDims d then [] else [(stSpStride d i : Int)])

/-- The lowest memory-side byte and one beyond the highest. -/
def stMemSpan (d : Bytes) : Int × Int :=
  [1, 2, 3, 4].foldl (fun x i =>
    let m := ((stCount d i : Int) - 1) * stMemStride d i
    if m < 0 then (x.1 + m, x.2) else (x.1, x.2 + m)) ((stMem d : Int), (stMem d : Int) + stCount0 d)

/-- One beyond the highest scratchpad-side byte. -/
def stSpEnd (d : Bytes) : Nat :=
  let dims := if stRing d = 0 then [1, 2, 3, 4] else [1, 2, 3, 4].filter fun i => decide (i < stTileDims d)
  stSp d + stCount0 d + (dims.foldl (fun a i => a + (stCount d i - 1) * stSpStride d i) 0) +
  (if stRing d = 0 then 0 else (min (stRing d) (stTiles d) - 1) * stSpStride d (stTileDims d))

/-- The first failing check of 10 R316, with its number. -/
def strmCheck (d : Bytes) (scratch : Nat) (x : Docent) : Option (Nat × Byte) :=
  let nd := stNdim d
  let span := stMemSpan d
  firstFailAt [
    (stReservedSet d, rRESERVED_FIELD_SET),
    (decide (stDir d = 3) || decide (nd = 0 ∨ nd > 5) || decide (stTileDims d = 0 ∨ stTileDims d > nd) ||
      decide (stRing d > 64) || decide (stAhead d > 16), rRESERVED_VALUE),
    (decide (stRing d ≠ 0) && (decide (stDir d ≠ 0) || decide (stTileDims d = nd)), rSHAPE_INVALID),
    (decide (stCount0 d % 16 ≠ 0) || decide (stCount0 d < 16 ∨ stCount0 d > 2 ^ 24) || decide (stSp d % 16 ≠ 0) ||
      decide (stMem d % 16 ≠ 0) || (stUsedStrides d).any (fun v => decide (v % 16 ≠ 0)), rADDR_ALIGN),
    (decide (stDir d ≤ 1) && (decide (span.1 < 0) || decide (span.2 > 2 ^ 48)), rADDR_RANGE),
    (decide (stSpEnd d > scratch) || (decide (stDir d = 2) && (decide (span.1 < 0) || decide (span.2 > scratch))) ||
      afterBadS x (launchAfter (.strm 0) d), rPROGRAM_BOUNDS)]
where
  afterBadS (x : Docent) (t : W16) : Bool := decide (t ≠ 0#16) && !ticketRecent x t

/-! ### Tile counters (10 R321) -/

def Docent.deliveredAt (x : Docent) (e : Nat) : W32 := Tbl.get 0#32 x.delivered e
def Docent.consumedAt (x : Docent) (e : Nat) : W32 := Tbl.get 0#32 x.consumed e
/-- DELIVERED − CONSUMED. -/
def Docent.available (x : Docent) (e : Nat) : Nat := (x.deliveredAt e - x.consumedAt e).toNat

/-! ### Schedule points (10 R324 to R327) -/

def ptInterval (e : Bytes) : Nat := leAt e 0 4
def ptGate (e : Bytes) (k : Nat) : Bool := bit (leAt e 7 1) k
def ptCons (e : Bytes) (k : Nat) : Bool := bit (leAt e 8 1) k
def ptNeed (e : Bytes) (k : Nat) : Nat := leAt e (16 + k) 1
def ptTake (e : Bytes) (k : Nat) : Nat := leAt e (24 + k) 1

/-- The first failing check of a schedule entry (10 R325). -/
def ptCheck (e : Bytes) : Option Byte :=
  firstFail [
    (decide (fld (leAt e 6 1) 1 7 ≠ 0) || !zeroAt e 9 7 ||
      ((List.range 8).any fun k => (!ptGate e k && decide (ptNeed e k ≠ 0)) || (!ptCons e k && decide (ptTake e k ≠ 0))),
      rRESERVED_FIELD_SET),
    (decide (ptInterval e = 0) ||
      ((List.range 8).any fun k => (ptGate e k && decide (ptNeed e k = 0 ∨ ptNeed e k > 64)) ||
        (ptCons e k && decide (ptTake e k = 0 ∨ ptTake e k > 64))), rRESERVED_VALUE)]

/-- DETAIL of an overrun (10 R327). -/
def overrunDetail (s : State) (kind point d : Nat) : W32 :=
  BitVec.ofNat 32 (kind * 2 ^ 28 + point * 65536 + docCell d * 4096 + docPos d * 256 + (s.doc d).rank % 256)

/-- A request overruns its schedule at a docent (10 R327, R338). -/
def overrun (s : State) (d kind point : Nat) : State :=
  let s1 := match (s.doc d).req.bind s.findReq with
    | some r => s.updWing r.wing fun w => { w with overruns := satInc w.overruns }
    | none => s
  docFaultWith s1 d rDEADLINE_MISSED (wordOffset (s.doc d).pc) (overrunDetail s kind point d)

/-- The watchdogs of the request are stopped: it is halted or suspended, or a stream of it is halted (05 R163, 10 R332, R335). -/
def dogStopped (s : State) (id : Nat) : Bool :=
  hasHalted s id ||
  match s.findReq id with
  | some r => decide (r.phase = .halted ∨ r.phase = .suspended)
  | none => false

/-- The interval and kind 3 clocks of the request are stopped (10 R332, R335); a request that overlaps its predecessor has not
started them (10 R330). -/
def clocksStopped (s : State) (id : Nat) : Bool :=
  dogStopped s id ||
  match s.findReq id with
  | some r => r.behind.isSome
  | none => false

/-- The later of two tile counts, which are modulo 2^32. -/
def laterCount (a b : W32) : W32 := if 0 < signed 32 (b - a).toNat then b else a

/-- Steps 1 to 4 of SYNC p (10 R326). The tiles that its gates count are complete for a consumer from then on (10 R323). -/
def syncStep (s : State) (d p : Nat) : State :=
  let x := s.doc d
  let e := x.sched.getD p []
  let free := match x.req with | some id => clocksStopped s id | none => false
  if !free && decide (s.now - x.intervalStart > ptInterval e) then overrun s d 1 p
  else if (List.range 8).any fun k => ptGate e k && decide (x.available k < ptNeed e k) then
    s.setDoc d { x with stall := .sync p }
  else if (List.range 8).any fun k => ptCons e k && decide (x.available k < ptTake e k) then docFault s d rPROGRAM_BOUNDS x.pc
  else
    let cons := (List.range 8).foldl (fun t k =>
      if ptCons e k then Tbl.set 0#32 t k (Tbl.get 0#32 t k + BitVec.ofNat 32 (ptTake e k)) else t) x.consumed
    let gated := (List.range 8).foldl (fun t k =>
      if ptGate e k then Tbl.set 0#32 t k (laterCount (Tbl.get 0#32 t k) (x.consumedAt k + BitVec.ofNat 32 (ptNeed e k))) else t) x.gated
    docNext (s.setDoc d { x with consumed := cons, gated := gated, intervalStart := s.now, dogStart := s.now, stall := .none }) d

/-- SYNC p: the docent stops before step 1 while its request is being stopped (10 R332, R335). -/
def sync (s : State) (d p : Nat) : State :=
  match (s.doc d).req with
  | some id =>
    if stopping s id then haltCheck (s.updDoc d fun x => { x with stopped := true, stall := .sync p }) id
    else syncStep s d p
  | none => s

/-- A docent that waits at a gate tries again (10 R326 step 2); an interval that passed meanwhile is an overrun of kind 2
(10 R327). -/
def syncRetry (s : State) (d : Nat) : State :=
  let x := s.doc d
  match x.stall with
  | .sync p =>
    if x.stopped || decide (x.state ≠ .running) then s
    else
      let e := x.sched.getD p []
      let free := match x.req with | some id => clocksStopped s id | none => false
      if (List.range 8).any fun k => ptGate e k && decide (x.available k < ptNeed e k) then s
      else if !free && decide (s.now - x.intervalStart > ptInterval e) then overrun s d 2 p
      else syncStep s d p
  | _ => s

def syncPoint (x : Docent) : Option Nat :=
  match x.stall with | .sync p => some p | _ => none

/-- The stopped docents go on: each continues its stopped SYNC at step 1, with this moment as its interval start (10 R334,
R337). -/
def resumeDocents (s : State) (id : Nat) : State :=
  let ds := reqDocents s id
  let s1 := ds.foldl (fun s d => s.updDoc d fun x =>
    { x with state := if x.state = .halted then .running else x.state, intervalStart := s.now }) s
  ds.foldl (fun s d =>
    let x := s.doc d
    if x.stopped then
      match syncPoint x with
      | some p => syncStep (s.setDoc d { x with stopped := false, stall := .none }) d p
      | none => s.setDoc d { x with stopped := false }
    else s) s1

/-- A docent that was quarantined while its request was HALTED is replaced: its spare goes on in its place. Without one the
request fails with INTERNAL (10 R339, 12 R382; log entry 66). -/
def replaceDocent (s : State) (id d : Nat) : State :=
  let u := 40 + d
  if !(s.unit u).out || decide ((s.doc d).req ≠ some id) then s
  else if subDue s u then
    let n := spareOf u - 40
    let x := s.doc d
    let moved (k : DocIx) : DocIx := if k.val = d then Fin.ofNat 40 n else k
    let s1 := curatorLog (substitute s u) 0xFF u 0
    let s2 := docClear (s1.setDoc n { x with ages := [] }) d
    let s3 : State :=
      { s2 with launches := s2.launches.map (fun l => { l with doc := moved l.doc }),
                batches := s2.batches.map (fun b => { b with doc := moved b.doc }),
                arbs := s2.arbs.map fun a => (a.1, { a.2 with grant := a.2.grant.map fun g => if g = d then n else g }) }
    s3.updReq id fun r => { r with docs := r.docs.map moved }
  else abortPinned s id rINTERNAL (wordOffset (s.doc d).pc) (faultDetail d (s.doc d).rank)

/-- Once no stream of the request is halted, its clocks restart and its docents go on, unless a checkpoint holds them
(10 R334, R339). -/
def resumeRequest (s : State) (id : Nat) : State :=
  match s.findReq id with
  | none => s
  | some r =>
    if hasHalted s id || r.ckptReq then s
    else
      let span := s.now - r.haltAt
      let s0 := (reqDocents s id).foldl (fun s d => replaceDocent s id d) s
      if s0.reqs.any (fun r => r.id == id && r.isDone) then s0
      else
        let s1 := s0.updReq id fun r =>
          { r with phase := if r.phase = .halted then .running else r.phase, dispTs := s.now, resumed := true }
        let s2 := (reqDocents s1 id).foldl (fun s d => s.updDoc d fun x => { x with dogStart := x.dogStart + span }) s1
        let s3 := s2.updWing r.wing fun w => { w with bubRecover := true }
        resumeDocents s3 id

/-! ### Page requests (11 R364) -/

/-- The wing's host function, as a function number (11 R361). -/
def hostFnOf (s : State) (w : Nat) : Option Fn := (s.hostFn w).bind fun f => if h : f < 256 then some ⟨f, h⟩ else none

/-- The wing that a function's host requests serve. -/
def fnHostWing (s : State) (fn : Fn) : Option Nat :=
  (List.range 16).find? fun w => (s.wing w).tenant && decide (s.hostFn w = some fn.val)

/-- Outstanding page requests of a function, and of the device (11 R364). -/
def priPerFn : Nat := 512
def priTotal : Nat := 4096

/-- Sends the requests that wait, oldest first, while places are free. -/
def priSend (s : State) : State :=
  s.priReqs.foldl (fun (s : State) (r : PriReq) =>
    let out := s.priReqs.filter fun q => q.issued && !q.again
    if !r.issued && !r.again && decide (out.length < priTotal) && decide ((out.filter fun q => q.fn == r.fn).length < priPerFn) then
      ({ s with priReqs := s.priReqs.map fun (q : PriReq) =>
          if q.fn = r.fn ∧ q.page = r.page ∧ !q.again then { q with issued := true, at_ := s.now } else q }).emit (.pri r.fn ((fnHostWing s r.fn).bind (wingPasid s)) r.page)
    else s) s

/-- A page request of a lent wing's host function, unless the page has one already (11 R364). -/
def priAsk (s : State) (w : Nat) (fn : Fn) (page : Nat) (who : HostReader) (tries : Nat) : State :=
  if s.priReqs.any (fun r => r.fn == fn && r.page == BitVec.ofNat 64 page && decide (r.who = who)) then s
  else
    let s1 := s.updWing w fun x => { x with pageReqs := satInc x.pageReqs }
    priSend { s1 with priReqs := s1.priReqs ++
      [{ fn := fn, page := BitVec.ofNat 64 page, who := who, tries := tries, issued := false, again := false, at_ := s.now }] }

/-! ### Moving tiles -/

/-- The half-cell and engine number of a stream engine. -/
def engHalf (e : Nat) : Nat := e / 8
def engNo (e : Nat) : Nat := e % 8

/-- Lent wing (02 R42). -/
def isLent (s : State) (w : Nat) : Bool := (s.wing w).lent

/-- The reader a stream engine is to the host. -/
def strmReader (e : Nat) : HostReader := if h : e < 128 then .strm ⟨e, h⟩ else .strm 0

/-- The outcome of moving part of a tile: the state, the bytes of the tile that are delivered, and how it stopped. -/
structure Moved where
  s : State
  done : Nat
  stop : Option (Access Unit)

/-- Moves a run of bytes of one row: `o` is its offset in the row. -/
def moveRun (e : Nat) (l : Launch) (wx : WingIx) (hm : HostMem) (row o n : Nat) (m : Moved) : Moved :=
  match m.stop with
  | some _ => m
  | none =>
    let d := l.desc
    let h := engHalf e
    let me := some (l.doc.val, l.ticket)
    let sp := stSpAt d row + o
    let va := stMemAt d row + o
    if stDir d = 0 then
      let r := chunkRead m.s wx (strmReader e) hm va.toNat n
      match r.2 with
      | .ok b =>
        let f := if l.dirty then r.1.free n else (b, r.1)
        { s := spWrite f.2 h sp f.1 me, done := m.done + n, stop := none }
      | .missing => { s := r.1, done := m.done, stop := some .missing }
      | .absent => { s := r.1, done := m.done, stop := some .absent }
      | .ue => { s := r.1, done := m.done, stop := some .ue }
      | .stale => { s := r.1, done := m.done, stop := some .stale }
      | .waits => { s := r.1, done := m.done, stop := some .waits }
    else
      let src := if stDir d = 1 then sp else va.toNat
      if spBadAt m.s h src n then { s := spReadError m.s h src, done := m.done, stop := some .ue }
      else
        let f := if l.dirty then m.s.free n else (spRead m.s h src n, m.s)
        if stDir d = 2 then { s := spWrite f.2 h sp f.1 me, done := m.done + n, stop := none }
        else
          let r := chunkWrite f.2 wx (strmReader e) va.toNat f.1
          match r.2 with
          | .ok _ => { s := r.1, done := m.done + n, stop := none }
          | x => { s := r.1, done := m.done, stop := some x }

/-- The runs of a tile from byte `from_` on: row, offset in the row, length; none crosses a 4 KiB block of the memory side. -/
def tileRuns (d : Bytes) (tile from_ : Nat) : List (Nat × Nat × Nat) :=
  let c := stCount0 d
  (List.range (stTileRows d)).flatMap fun r =>
    let row := tile * stTileRows d + r
    let skip := min c (from_ - r * c)
    if (r + 1) * c ≤ from_ then []
    else
      let va := (stMemAt d row).toNat + skip
      (chunksOf va (c - skip)).map fun x => (row, skip + (x.1 - va), x.2)

def moveTile (s : State) (e : Nat) (l : Launch) (wx : WingIx) (hm : HostMem) : Moved :=
  (tileRuns l.desc l.tile l.byte_).foldl (fun m x => moveRun e l wx hm x.1 x.2.1 x.2.2 m)
    { s := s, done := l.byte_, stop := none }

/-- The runs that hold the next `n` bytes. -/
def capRuns : Nat → List (Nat × Nat × Nat) → List (Nat × Nat × Nat)
  | _, [] => []
  | n, (row, o, k) :: rest => if n = 0 then [] else (row, o, min k n) :: capRuns (n - min k n) rest

/-- The tile's next bytes, up to `lines` lines of 128 B, which is at most one burst (10 R313). -/
def moveLines (s : State) (e : Nat) (l : Launch) (wx : WingIx) (hm : HostMem) (lines : Nat) : Moved :=
  (capRuns (128 * min 64 lines) (tileRuns l.desc l.tile l.byte_)).foldl (fun m x => moveRun e l wx hm x.1 x.2.1 x.2.2 m)
    { s := s, done := l.byte_, stop := none }

/-- A ring stream may write its next tile (10 R322). -/
def ringFree (x : Docent) (e : Nat) (d : Bytes) : Bool :=
  decide (stRing d = 0) || decide (x.available (engNo e) < stRing d)

/-- Changes a launch. -/
def State.updLaunch (s : State) (l : Launch) (f : Launch → Launch) : State :=
  { s with launches := s.launches.map fun x => if x.doc = l.doc ∧ x.ticket = l.ticket then f x else x }

/-- What a prefetch has found so far: the leaves of the pages ahead, and the pages without one (11 R360). -/
structure Ahead where
  s : State
  got : List TlbEntry
  none_ : List Nat

/-- The host's answer that a prefetched HOST page needs, when ATS is in use: asked for, or where the host has denied it a lent wing's
page request at once (10 R331, 11 R360). -/
def aheadHost (s : State) (e : Nat) (wx : WingIx) (t : TlbEntry) (va : Nat) (write : Bool) : State :=
  let pa := t.target + va % t.size
  if !t.host || peerBlocked s wx pa then s
  else if atsDenied s wx pa 1 write then
    (match hostFnOf s wx with
     | some f => if wingPri s wx then priAsk s wx f (pa / 4096 * 4096) (strmReader e) 0 else s
     | none => s)
  else atsAsk s wx (strmReader e) (atsNeeded s wx pa 1)

/-- One more address ahead: its page is looked up or walked for, while fewer than 64 pages are. -/
def aheadStep (e : Nat) (wx : WingIx) (write : Bool) (x : Ahead) (va : Nat) : Ahead :=
  let site := siteOf x.s (strmReader e)
  match x.got.find? fun t => t.serves site wx va with
  | some t => { x with s := aheadHost x.s e wx t va write }
  | none =>
    if 64 ≤ x.got.length + x.none_.length ∨ x.none_.contains (va / 65536) then x
    else
      let r := leafFor x.s site wx va
      match r.2 with
      | .entry t => { x with s := aheadHost r.1 e wx t va write, got := x.got ++ [t] }
      | _ => { x with s := r.1, none_ := x.none_ ++ [va / 65536] }

/-- Translation prefetch of the tiles ahead, up to 64 pages (11 R360): it fills the engine's buffer of 64 entries, asks the host, and
never fails. A page without a leaf has no host address to request (DEDUCED, log entry 77). -/
def prefetch (s : State) (e : Nat) (l : Launch) (wx : WingIx) : State :=
  let d := l.desc
  if stDir d = 2 ∨ stAhead d = 0 then s
  else
    let tiles := (List.range (stAhead d)).map (· + l.tile + 1) |>.filter fun t => decide (t < stTiles d)
    let vas := tiles.flatMap fun t => (tileRuns d t 0).map fun x => (stMemAt d x.1).toNat + x.2.1
    let r := vas.foldl (aheadStep e wx (decide (stDir d = 1))) { s := s, got := [], none_ := [] }
    { r.s with ahead := Tbl.set [] r.s.ahead e r.got }

/-- A stream fails while running (10 R320). -/
def streamFail (s : State) (l : Launch) (code : Byte) : State := launchFail s l code (l.detail s 0)

/-- How a stopped move ends the stream, or leaves it waiting. -/
def moveEnd (m : Moved) (l : Launch) (wx : WingIx) : State :=
  let s := m.s.updLaunch l fun x => { x with byte_ := m.done }
  match m.stop with
  | some .missing => streamFail s l rTRANSLATION_MISSING
  | some .absent => if wingPri s wx then s else streamFail s l (absentCode s wx)
  | some .ue => streamFail s l rUNCORRECTABLE_MEMORY
  | some .stale => staleReply s wx l.req
  | _ => s

/-- The wing of a launch. -/
def launchWing (s : State) (l : Launch) : Option WingIx := (s.findReq l.req).map (·.wing)

/-- A tile has been delivered: DELIVERED rises, and for a linear stream CONSUMED too (10 R321); a docent at a gate tries again. -/
def countTile (s : State) (e : Nat) (l : Launch) : State :=
  let k := engNo e
  let s1 := s.updLaunch l fun x => { x with tile := x.tile + 1, byte_ := 0 }
  let s2 := s1.updDoc l.doc fun x =>
    { x with delivered := Tbl.set 0#32 x.delivered k (x.deliveredAt k + 1),
             consumed := if stRing l.desc = 0 then Tbl.set 0#32 x.consumed k (x.consumedAt k + 1) else x.consumed }
  syncRetry s2 l.doc

/-- TILE_DELIVERED: the engine's stream moves the rest of its tile. A stream that is halted, being checkpointed, or whose ring
has no free slot does not move; one whose host access waits keeps its place. -/
def tileDelivered (s : State) (e : Nat) (hm : HostMem) : State :=
  match granted s (.strm e) with
  | none => s
  | some l =>
    let x := s.doc l.doc
    if l.halted || decide (stTiles l.desc ≤ l.tile) || !ringFree x e l.desc || ckptHeld s l.req then s
    else
      match launchWing s l with
      | none => s
      | some wx =>
        let s1 := prefetch s e l wx
        let m := moveTile s1 e l wx hm
        match m.stop with
        | none => countTile m.s e l
        | some _ => moveEnd m l wx

/-- The burst that a round of a stream engine ends: `lines` lines of the granted stream's tile. The stream is cut there and resumes at
its next byte (10 R313). -/
def streamBurst (s : State) (e lines : Nat) (hm : HostMem) : State :=
  match granted s (.strm e) with
  | none => s
  | some l =>
    if l.halted || decide (stTiles l.desc ≤ l.tile) || !ringFree (s.doc l.doc) e l.desc || ckptHeld s l.req || decide (lines = 0) then s
    else
      match launchWing s l with
      | none => s
      | some wx =>
        let m := moveLines (prefetch s e l wx) e l wx hm lines
        match m.stop with
        | none => m.s.updLaunch l fun x => { x with byte_ := m.done }
        | some _ => moveEnd m l wx

def execTileDelivered (eng : EngIx) (hm : HostMem) (s : State) : Host.Outcome State Fault Refusal :=
  .next (tileDelivered s eng hm)

/-! ### Tiles that are not complete (10 R323) -/

/-- The tiles of a stream's writes that no gate has counted: a ring's next writes stop where its slots are full. -/
def openTiles (s : State) (q : Launch) : List Nat :=
  match q.eng with
  | .strm e =>
    let x := s.doc q.doc
    let k := engNo e
    let base := x.deliveredAt k - BitVec.ofNat 32 q.tile
    let seen (c : W32) : Int := signed 32 (c - base).toNat
    (List.range (stTiles q.desc)).filter fun t =>
      !q.begun || (decide (seen (Tbl.get 0#32 x.gated k) ≤ t) &&
        (decide (stRing q.desc = 0) || decide ((t : Int) < seen (x.consumedAt k) + stRing q.desc)))
  | _ => []

/-- The scratchpad regions that a tile is written to. -/
def tileWrites (d : Bytes) (t : Nat) : List Region :=
  if stDir d = 1 then []
  else (List.range (stTileRows d)).map fun r => Region.run (stSpAt d (t * stTileRows d + r)) (stCount0 d)

/-- The scratchpad regions a launch reads. -/
def launchInputs (s : State) (l : Launch) : List Region :=
  let d := l.desc
  match l.eng with
  | .mu _ => mxInputs d
  | .ve _ => veInputs d
  | .ru _ => [ruInput d]
  | .strm _ => stReads d
  | .gpe =>
    let n := fromLE (spRead s (docHalf s l.doc) (leAt d 16 8 + 4 * leAt d 4 4) 4)
    [Region.run (leAt d 8 8) (n * (if bit (leAt d 3 1) 2 then 8 else 4)), Region.run (leAt d 16 8) (4 * (leAt d 4 4 + 1))] ++
      (if fld (leAt d 2 1) 0 2 = 3 then [Region.run (leAt d 24 8) (4 * n)] else [])

/-- The input of a launch lies on a tile that no gate has counted and whose stream's ticket is open: it has no defined input (10 R323). -/
def inputOpen (s : State) (l : Launch) : Bool :=
  s.launches.any fun q => decide (docHalf s q.doc = docHalf s l.doc) && !(q.doc == l.doc && q.ticket == l.ticket) &&
    (openTiles s q).any fun t => (tileWrites q.desc t).any fun r => (launchInputs s l).any r.meets

/-- A COPY whose source overlaps its destination (08 R260, 10 R318). -/
def stOverlap (d : Bytes) : Bool :=
  decide (stDir d = 2) && (stReads d).any fun r => (stWrites d).any r.meets

/-- STREAM_DESCRIPTOR_DONE: every tile is delivered, and the ticket completes (10 R318). -/
def streamDone (s : State) (e : Nat) : State :=
  match granted s (.strm e) with
  | none => s
  | some l =>
    if l.tile < stTiles l.desc then s
    else
      let s1 := endBurst s (.strm e)
      let s2 := if l.dirty || stOverlap l.desc then
          (stWrites l.desc).foldl (fun s r => freeRegion s (engHalf e) r (some (l.doc.val, l.ticket))) s1
        else s1
      ticketDone s2 l.doc l.ticket

def execStreamDescriptorDone (eng : EngIx) (s : State) : Host.Outcome State Fault Refusal := .next (streamDone s eng)

/-! ### Page faults (10 R331 to R334) -/

/-- PRI is enabled for the function and has not been stopped by a Response Failure (11 R364). -/
def priEnabled (s : State) (f : Nat) : Bool := (s.fnSt f).pri && !(s.fnSt f).priStopped

/-- The first run of the tile whose host page the ATS cache does not grant, and that page's address. -/
def absentPage (s : State) (e : Nat) (l : Launch) (wx : WingIx) : Option Nat :=
  let write := decide (stDir l.desc = 1)
  (tileRuns l.desc l.tile l.byte_).findSome? fun x =>
    match (translate s (siteOf s (strmReader e)) wx ((stMemAt l.desc x.1).toNat + x.2.1) write).2 with
    | .host pa =>
      match atsHit s wx (pa / 4096) with
      | some a => if (if write then a.wr else a.rd) then none else some (pa / 4096)
      | none => some (pa / 4096)
    | _ => none

/-- The runs of the tile before the first one on that page are delivered. -/
def moveBefore (s : State) (e : Nat) (l : Launch) (wx : WingIx) (hm : HostMem) (page : Nat) : Moved :=
  let write := decide (stDir l.desc = 1)
  let runs := (tileRuns l.desc l.tile l.byte_).takeWhile fun x =>
    match (translate s (siteOf s (strmReader e)) wx ((stMemAt l.desc x.1).toNat + x.2.1) write).2 with
    | .host pa => decide (pa / 4096 ≠ page)
    | _ => true
  runs.foldl (fun m x => moveRun e l wx hm x.1 x.2.1 x.2.2 m) { s := s, done := l.byte_, stop := none }

/-- The request's clocks stop at its first halt (10 R332). -/
def stopClocks (s : State) (id : Nat) : State :=
  if hasHalted s id then s
  else s.updReq id fun r => { r with haltAt := s.now, ranNs := r.ranNs + (s.now - r.dispTs) }

/-- STREAM_PAGE_FAULT: a lent wing's stream reaches an absent page, halts before it and issues a page request (10 R331). -/
def streamPageFault (s : State) (e : Nat) (hm : HostMem) : State :=
  match granted s (.strm e) with
  | none => s
  | some l =>
    match launchWing s l with
    | none => s
    | some wx =>
      match absentPage s e l wx, s.hostFn wx with
      | some page, some f =>
        if h : f < 256 then
          if l.halted || !isLent s wx || !priEnabled s f || !ringFree (s.doc l.doc) e l.desc || ckptHeld s l.req then s
          else
            let m := moveBefore s e l wx hm page
            match m.stop with
            | some _ => moveEnd m l wx
            | none =>
              let s1 := stopClocks m.s l.req
              let s2 := s1.updLaunch l fun x => { x with byte_ := m.done, halted := true }
              let s3 := s2.updWing wx fun w => { w with halts := satInc w.halts }
              haltCheck (priAsk s3 wx ⟨f, h⟩ (page * 4096) (strmReader e) 0) l.req
        else s
      | _, _ => s

def execStreamPageFault (eng : EngIx) (hm : HostMem) (s : State) : Host.Outcome State Fault Refusal :=
  .next (streamPageFault s eng hm)

/-- The halted stream of an engine resumes at its position; when the last one has, the request goes on (10 R334). -/
def streamResume (s : State) (e : Nat) : State :=
  match s.launches.find? (fun l => decide (l.eng = .strm e) && l.halted) with
  | none => s
  | some l => resumeRequest (s.updLaunch l fun x => { x with halted := false }) l.req

/-! ### Clocks -/

/-- SCHEDULE_INTERVAL_EXPIRY: the interval passes while the docent waits at a gate: overrun of kind 2 (10 R327). -/
def execScheduleIntervalExpiry (doc : DocIx) (s : State) : Host.Outcome State Fault Refusal :=
  let x := s.doc doc
  .next (match syncPoint x, x.req with
    | some p, some id => if clocksStopped s id || x.stopped || decide (x.state ≠ .running) then s else overrun s doc 2 p
    | _, _ => s)

/-- WCET_EXPIRY: the kind 3 clock passes WCET_NS before every docent has executed END (10 R327). -/
def execWcetExpiry (req : Nat) (s : State) : Host.Outcome State Fault Refusal :=
  .next (match s.findReq req with
    | some r =>
      if decide (r.phase = .running) && !clocksStopped s req && !r.ended then
        match notEnded s req with
        | d :: _ => overrun s d 3 0
        | [] => s
      else s
    | none => s)

/-- BUBBLE_STARTUP_TIMEOUT: 100 ms after a wing is enabled its start-up window closes (10 R329). -/
def execBubbleStartupTimeout (wing : WingIx) (s : State) : Host.Outcome State Fault Refusal :=
  .next (s.updWing wing fun w => { w with bubStart := 0 })

/-! ### Checkpoints (10 R335 to R337) -/

/-- A request aborted under 02 R52, with its alarm (17 R526): `why` 0 a drain, 1 a block reset. The abort of a drain is a Curator
action of its own (02 R75, R76); a block reset writes one record at its end (16 R500). -/
def abortDrained (s : State) (r : Req) (why : Nat) : State :=
  let s1 := alarmCode (retireAll (abortStale s r.id)) 0x0102 r.wing 16 rSTALE_BINDING r.seq.toNat r.que why 0
  if why = 0 then curatorLog s1 r.wing r.que 0 else s1

/-- The half-cells of a request are released: no request is dispatched to them (10 R328, R335). -/
def releaseHalves (s : State) (id : Nat) : State :=
  { s with halfCells := (List.range 16).foldl (fun t h =>
      let x := Tbl.get HalfCell.init t h
      if x.req = some id then Tbl.set HalfCell.init t h { x with req := none } else t) s.halfCells }

/-- A launch as a checkpoint holds it: its docent is a rank, its engine a role in the half-cell (10 R335 step 4). -/
def parkLaunch (s : State) (l : Launch) : Launch :=
  let rank := (s.doc l.doc).rank
  let pos (u : Nat) : Nat := if u % 5 = 4 then ((s.unit u).subPos).getD 0 else u % 5
  { l with
    doc := Fin.ofNat 40 rank,
    eng := match l.eng with | .mu u => .mu (pos u % 2) | .ve _ => .ve 0 | .ru _ => .ru 0 | .strm e => .strm (e % 8) | .gpe => .gpe,
    halted := false }

/-- The docents of a request have stopped for its checkpoint. A program without schedule points never does (10 R335). -/
def ckptStopped (s : State) (id : Nat) : Bool :=
  let ds := reqDocents s id
  ds.all (docStopped s) && ds.all fun d => !(s.doc d).sched.isEmpty

/-- CHECKPOINT_STOP_TIMEOUT: the docents have not stopped within 1.0 ms, so 02 R52 applies (10 R335). -/
def execCheckpointStopTimeout (req : Nat) (s : State) : Host.Outcome State Fault Refusal :=
  .next (match s.findReq req with
    | some r =>
      if r.ckptReq && !r.isDone && decide (r.phase ≠ .suspended) && !ckptStopped s req then
        abortDrained s r 0
      else s
    | none => s)

/-- Engine work of the request other than streams runs (10 R335 step 3). -/
def engineBusy (s : State) (id : Nat) : Bool :=
  s.launches.any fun l => l.req == id && started l && (match l.eng with | .strm _ => false | _ => true)

/-- The scratchpad bytes below SCRATCH_BYTES of a half-cell. -/
def spCopy (s : State) (h n : Nat) : Mem :=
  (s.sp.filter fun c => decide (spBase h ≤ c.1) && decide (c.1 < spBase h + n)).map fun c => (c.1 - spBase h, c.2)

/-- What a wing's keys are derived from (15 R469). -/
def wingRoot (s : State) (w : Nat) : Bytes := (s.wing w).wr ++ (s.wing w).tk.getD []

/-- The first bad scratchpad word that the copy of a request's half-cells reads: its half-cell and its offset (12 R372). -/
def copyBad (s : State) (r : Req) : Option (Nat × Nat) :=
  (s.spBad.find? fun w => r.halves.any fun h => decide (spBase h ≤ w * 8) && decide (w * 8 < spBase h + r.scratch)).map fun w =>
    (w * 8 / spSize, w * 8 % spSize)

/-- CHECKPOINT_COPY_DONE: the half-cells are copied to checkpoint slots, the request is suspended and its half-cells are
released; with too few slots it is aborted under 02 R52 (10 R335, R336). A bad word fails the copy (12 R372; log entry 67). Every verdict has been received (12 R390). -/
def checkpointCopyDone (s : State) (id : Nat) : State :=
  match s.findReq id with
  | none => s
  | some r =>
    let ds := reqDocents s id
    if !r.ckptReq || r.isDone || decide (r.phase = .suspended) || ds.isEmpty || !ckptStopped s id || engineBusy s id ||
       s.dups.any (fun q => q.req == id) then s
    else if s.ckpts.length + r.halves.length > 32 then abortDrained s r 0
    else match copyBad s r with
    | some b => abortPinned (spReadError s b.1 b.2) id rUNCORRECTABLE_MEMORY 0xFFFFFFFF 0
    | none =>
      let slots := r.halves.zipIdx.map fun h =>
        ({ req := id, index := h.2, slot := (freeCkptSlots s).getD h.2 0, mem := spCopy s h.1 r.scratch,
           docs := (ds.filter fun d => docHalf s d == h.1.val).map s.doc,
           queued := if h.2 = 0 then (s.launches.filter fun l => l.req == id).map (parkLaunch s) else [],
           root := wingRoot s r.wing } : Ckpt)
      let ran := if hasHalted s id then r.ranNs else r.ranNs + (s.now - r.dispTs)
      let engs := (s.launches.filter fun l => l.req == id && l.halted).map (·.eng)
      let s1 := ds.foldl docClear s
      let s2 := { s1 with
        ckpts := s1.ckpts ++ slots, ckptCount := s1.ckptCount + BitVec.ofNat 64 slots.length,
        launches := s1.launches.filter (fun l => l.req != id),
        priReqs := s1.priReqs.filter fun q => !engs.any fun e => match e with
          | .strm k => decide (q.who = strmReader k) | _ => false }
      let s3 := s2.updReq id fun r =>
        { r with phase := .suspended, halves := [], docs := [], ranNs := ran, ckptReq := false }
      let s4 := s3.updWing r.wing fun w => { w with ckpts := satInc w.ckpts }
      priSend (r.halves.foldl (fun s h => afterRequest s h) (releaseHalves s4 id))

def execCheckpointCopyDone (req : Nat) (s : State) : Host.Outcome State Fault Refusal := .next (checkpointCopyDone s req)

/-- The half-cell takes no work: it runs a request, is held by a re-binding or reset, or waits for a substitution. -/
def halfFree (s : State) (h : Nat) : Bool :=
  decide ((s.half h).req = none) && !(s.half h).held && !halfSubDue s h

/-- Idle half-cells of a wing that can run the complement, rising. -/
def idleHalves (s : State) (w : Nat) (reduced : Bool) : List Nat :=
  (s.wingHalves w).filter fun h => halfFree s h && halfCanRun s h reduced

/-- The docents a request runs on, in rank order (05 R141). -/
def chooseDocs (s : State) (halves : List Nat) (reduced : Bool) : List Nat :=
  halves.flatMap fun h => if reduced then (halfDocs s h).take 1 else halfDocs s h

/-- The matrix unit that MMUL's unit 0 or 1 names in a half-cell. A reduced program's unit 0 is the half-cell's first unit in
service (08 R275, 01 R35; DEDUCED, log entry 21). -/
def muOf (s : State) (h unit : Nat) (reduced : Bool) : Nat :=
  let role := uMU (h / 2) (h % 2 * 2 + unit)
  if reduced then (halfMUs s h).headD role
  else if (s.unit role).replaced then spareOf role else role

/-- A parked launch on its new half-cell. -/
def unparkLaunch (s : State) (docs : List Nat) (reduced : Bool) (l : Launch) : Launch :=
  let d := docs.getD l.doc 0
  let h := docHalf s d
  { l with
    doc := Fin.ofNat 40 d,
    eng := match l.eng with
      | .mu u => .mu (muOf s h u reduced)
      | .ve _ => .ve (h / 2)
      | .ru _ => .ru (h / 2)
      | .strm e => .strm (h * 8 + e)
      | .gpe => .gpe }

/-- Restores a request on its new half-cells: scratchpad, docents with every AGE 0, queued launches (10 R337). -/
def checkpointRestore (s : State) (r : Req) (halves : List Nat) : State :=
  let mine := s.ckpts.filter fun c => c.req == r.id
  let docs := chooseDocs s halves r.reduced
  let s1 := mine.foldl (fun s c =>
    let h := halves.getD c.index 0
    let sp := (s.sp.clear (spBase h) r.scratch)
    { s with sp := c.mem.foldl (fun m x => Tbl.set 0#8 m (spBase h + x.1) x.2) sp,
             spBad := s.spBad.filter fun w => !(decide (spBase h ≤ w * 8) && decide (w * 8 < spBase h + r.scratch)) }) s
  let saved := mine.flatMap (·.docs)
  let s2 := docs.zipIdx.foldl (fun s d =>
    match saved.find? (fun x => x.rank == d.2) with
    | some x => s.setDoc d.1 { x with ages := [] }
    | none => s) s1
  let queued := (mine.flatMap (·.queued)).map (unparkLaunch s2 docs r.reduced)
  let s3 := { s2 with ckpts := s2.ckpts.filter (fun c => c.req != r.id), launches := s2.launches ++ queued }
  let s4 := halves.foldl (fun s h => s.updHalf h fun x => { x with req := some r.id }) s3
  s4.updReq r.id fun r =>
    { r with phase := .running, halves := halves.map (Fin.ofNat 16), docs := docs.map (Fin.ofNat 40), dispTs := s.now,
             wEnd := s.now + (r.wcet - r.ranNs), resumed := true, ckptReq := false,
             ranOn := r.ranOn ||| maskOf 16 fun i => halves.contains i }

/-- CHECKPOINT_RESUME: the wing's oldest suspended request resumes when enough idle half-cells can run it (10 R337); one whose
checkpoint's keys are gone completes with KEY_MISSING (15 R492). -/
def checkpointResume (s : State) (w : Nat) : State :=
  match (s.reqs.filter fun r => r.wing.val == w && decide (r.phase = .suspended)).find? (fun r =>
      decide (r.needHalf ≤ (idleHalves s w r.reduced).length)) with
  | none => s
  | some r =>
    if s.holderHub.isNone then s
    else if s.ckpts.any fun c => c.req == r.id && c.root != wingRoot s w then abortPinned s r.id rKEY_MISSING 0xFFFFFFFF 0
    else
      let s1 := checkpointRestore s r ((idleHalves s w r.reduced).take r.needHalf)
      resumeDocents (s1.updWing w fun x => { x with bubRecover := true }) r.id

def execCheckpointResume (wing : WingIx) (s : State) : Host.Outcome State Fault Refusal := .next (checkpointResume s wing)

end Sys2Proof.Machine
end

