-- ==== Sys2Proof/Machine/Gather.lean ====
section
/-! DEFINITION. Tables and gather-pool (06 R169 to R197, 07 R204 to R213, 12 R386 to R389, 13 R404 to R411): where rows lie,
which version a lookup reads, the hot-row cache, and the batches of the GPEs. -/

namespace Sys2Proof.Machine

/-! ### Fields of a table descriptor (06 R172) -/

def tdRows (d : Bytes) : Nat := leAt d 0 4 + 1
def tdDim (d : Bytes) : Nat := leAt d 4 2
def tdFormat (d : Bytes) : Nat := leAt d 6 1
def tdCat (d : Bytes) : Nat := leAt d 7 1
def tdTransform (d : Bytes) : Nat := fld (leAt d 8 1) 0 2
def tdCacheMode (d : Bytes) : Nat := fld (leAt d 8 1) 2 2
def tdStripe (d : Bytes) : Nat := leAt d 9 1
def tdSpare (d : Bytes) : Nat := leAt d 12 4
def tdSalt (d : Bytes) : Nat := leAt d 16 8
def tdStack (d : Bytes) (j : Nat) : Nat := leAt d (24 + j) 1

/-- Bytes of a row's payload (06 R174). -/
def rowPayload (format dim : Nat) : Nat :=
  match format with
  | 0 => dim / 2
  | 4 => 2 * dim
  | _ => dim

/-- The row stride (06 R174). -/
def rowStride (format dim : Nat) : Nat :=
  let n := 16 + rowPayload format dim
  if n ≤ 32 then 32 else (n + 63) / 64 * 64

/-! ### Placement (06 R175, 13 R405) -/

/-- The device address of byte `off` of a stack's portion. -/
def portionAddr : List Gran → Nat → Nat
  | [], _ => 0
  | r :: rs, off =>
    if off < r.count * 65536 then r.stack * (48 * 2 ^ 30) + r.first * 65536 + off
    else portionAddr rs (off - r.count * 65536)

/-- The pieces of a slot of a stack: one per line, 32 or 64 bytes each. -/
def slotPieces (t : Table) (k slot : Nat) : List Nat :=
  let rs := t.runs.filter fun r => r.stack == k
  if t.slotBytes = 32 then [portionAddr rs (slot * 32)]
  else (List.range (t.slotBytes / 64)).map fun i => portionAddr rs (slot * t.slotBytes + 64 * i)

/-- The table's catalogue is striped over the pair. -/
def isStriped (s : State) (t : Table) : Bool := decide ((s.cat (catKey t.wing t.cat)).mode = 2)

/-- The share of a count that one unit of a striped catalogue holds. -/
def unitShare (s : State) (t : Table) (n : Nat) : Nat := if isStriped s t then (n + 1) / 2 else n

def homeSlots (s : State) (t : Table) : Nat := ceilDiv (unitShare s t t.rows) (2 ^ t.stripe)
def spareSlots (s : State) (t : Table) : Nat := ceilDiv (unitShare s t t.spare) (2 ^ t.stripe)

def posNum (s : State) : Nat := b2n s.par.position

/-- Where a row of this unit lies: stripe position, stack and home slot; none for a row of the partner. -/
def rowPlace (s : State) (t : Table) (row : Nat) : Option (Nat × Nat × Nat) :=
  let striped := isStriped s t
  if striped && decide (row % 2 ≠ posNum s) then none
  else
    let r := if striped then row / 2 else row
    let j := r % 2 ^ t.stripe
    some (j, t.onStacks.getD j 0, r / 2 ^ t.stripe)

/-- The global stripe position of a row (13 R405). -/
def rowGpos (s : State) (t : Table) (row : Nat) : Nat :=
  if isStriped s t then 2 * (row / 2 % 2 ^ t.stripe) + row % 2 else row % 2 ^ t.stripe

/-- The global positions that this unit holds are those of its parity. -/
def localGpos (s : State) (t : Table) (g : Nat) : Bool := !isStriped s t || decide (g % 2 = posNum s)

/-! ### Epochs (07 R205) and versions (07 R210 to R212) -/

/-- The slot that stands for the unwritten state, and the end of the list of older versions. -/
def slotUnwritten : Nat := 0xFFFFFFFE
def slotNone : Nat := 0xFFFFFFFF

def dirFind (s : State) (k : Nat) (t : Nat) (row : Nat) : Option DirEntry :=
  s.dir.find? fun e => e.stack == k && e.table.val == t && e.row.toNat == row

/-- The slot a lookup pinned at epoch `p` reads (07 R212). -/
def versionSlot (s : State) (k t row home : Nat) (p : W32) : Nat :=
  match dirFind s k t row with
  | none => home
  | some e =>
    match e.versions.find? (fun v => v.2 == slotUnwritten || epLe v.1 p) with
    | some v => v.2
    | none => slotUnwritten

/-! ### Hot-row cache (06 R195 to R197) -/

def cacheSet (la : Nat) : Nat := (fld la 6 15) ^^^ (fld la 21 15) ^^^ (fld la 36 3)

/-- A line hits for a read by its wing while its extent is at the generation it was filled under. -/
def cacheHit (s : State) (w : Nat) (la : Nat) : Bool :=
  s.cache.any fun c => c.line == lineOf la && c.wing.val == w && c.gen == (s.ext (extOf la)).gen

/-- A line becomes the most recently used: the list is in order of use. -/
def cacheTouch (s : State) (w la : Nat) : State :=
  let mine (c : CacheLine) : Bool := c.line == lineOf la && c.wing.val == w
  { s with cache := s.cache.filter (fun c => !mine c) ++ (s.cache.filter mine).map fun c => { c with used := s.now } }

def allocWays (s : State) (w : Nat) : Nat := fld (s.wing w).cacheCtl.toNat 19 5

/-- Removes the first line that a test picks. -/
def cacheEvict (s : State) (p : CacheLine → Bool) : State :=
  match s.cache.findIdx? p with
  | some i => { s with cache := s.cache.eraseIdx i }
  | none => s

/-- A line is allocated for a wing, unless no way may be taken (06 R197). -/
def cacheFill (s : State) (wx : WingIx) (la : Nat) : State :=
  let k := stackOf la
  let inSet (c : CacheLine) : Bool := c.stack == k && cacheSet (c.line * 64) == cacheSet la
  let own (c : CacheLine) : Bool := inSet c && !c.pinned && c.wing == wx
  let set := s.cache.filter inSet
  let mine := set.filter own
  let loose := set.filter fun c => !c.pinned
  let count (w : WingIx) : Nat := (loose.filter fun c => c.wing == w).length
  let add (s : State) : State :=
    { s with cache := s.cache ++ [{ stack := k, line := lineOf la, wing := wx, gen := (s.ext (extOf la)).gen, pinned := false, used := s.now }] }
  if mine.length ≥ allocWays s wx then add (cacheEvict s own)
  else if set.length < 16 then add s
  else if loose.isEmpty || (mine.isEmpty && loose.all fun c => decide (count c.wing ≤ allocWays s c.wing)) then s
  else add (cacheEvict s fun c => inSet c && !c.pinned)

/-- What the cache holds of a line: its data as last read or written, whatever has since befallen the line in DRAM. -/
def linePast (s : State) (a : Nat) : Bytes :=
  let m := s.line (lineOf a)
  if m.gen = (s.ext (extOf a)).gen ∧ m.count ≠ 0 then s.dram.read (lineOf a * 64) 64 else List.replicate 64 0#8

/-- The bytes of a piece of a row for a wing: from the cache, else from DRAM; none where the line is bad. -/
def pieceRead (s : State) (w a n : Nat) : Option Bytes :=
  if cacheHit s w a then some (slice (linePast s a) (a % 64) n)
  else if lineFound s a = .bad then none
  else some (slice (linePlain s a) (a % 64) n)

/-! ### Index transforms (06 R183) -/

def kh64 (k salt rows : Nat) : Nat :=
  let x0 := (k ^^^ salt) % 2 ^ 64
  let x1 := (x0 ^^^ (x0 / 2 ^ 31)) * 0x8F3D61A72C59E4B3 % 2 ^ 64
  let x2 := (x1 ^^^ (x1 / 2 ^ 29)) * 0x5B9EC4370A1DF6E9 % 2 ^ 64
  let x3 := x2 ^^^ (x2 / 2 ^ 32)
  x3 * rows / 2 ^ 64

/-- The row of an index; none where it is out of range. -/
def transformRow (desc : Bytes) (index : Nat) : Option Nat :=
  match tdTransform desc with
  | 0 => if index < tdRows desc then some index else none
  | 1 => some (index % tdRows desc)
  | _ => some (kh64 index (tdSalt desc) (tdRows desc))

/-! ### Dequantisation and pooling (06 R193, R194) -/

/-- Element `i` of a row's payload. -/
def rowElem (format zp : Nat) (payload : Bytes) (i : Nat) : Num :=
  let z := signed 16 zp
  match format with
  | 0 => Num.ofInt ((leAt payload (i / 2) 1 / 16 ^ (i % 2) % 16 : Nat) - z)
  | 1 => Num.ofInt ((leAt payload i 1 : Nat) - z)
  | 2 => decodeF 4 (leAt payload i 1)
  | 3 => decodeF 5 (leAt payload i 1)
  | _ => decodeF 6 (leAt payload (2 * i) 2)

/-- The terms of a row, after steps 1 to 3: `row` is the whole slot. -/
def rowTerms (format dim : Nat) (weighted : Bool) (w : W32) (row : Bytes) : List W32 :=
  let header := slice row 0 16
  let scale := decodeF 7 (leAt row 4 2)
  let e (i : Nat) : Num :=
    if allZero header then Num.zero else mul32 scale (rowElem format (leAt row 6 2) (row.drop 16) i)
  (List.range dim).map fun i =>
    BitVec.ofNat 32 (bits32 (if weighted then mul32 (val32 w.toNat) (e i) else e i))

/-- Adds one lookup's terms to a partial: a sum, or a maximum. -/
def poolAdd (max_ : Bool) (first : Bool) (a t : W32) : W32 :=
  let x := val32 a.toNat
  let y := val32 t.toNat
  BitVec.ofNat 32 (bits32 (if max_ then (if first then y else x.max y) else add32 x y))

/-- A stack's partial of a bag: the terms of its lookups in index-list order. -/
def poolPart (max_ : Bool) (dim : Nat) (terms : List (List W32)) : List W32 × Nat :=
  terms.foldl (fun p t => ((p.1.zip t).map fun x => poolAdd max_ (p.2 == 0) x.1 x.2, p.2 + 1))
    (List.replicate dim 0#32, 0)

/-- The partials of a bag combined in ascending position (06 R193). -/
def combineParts (max_ : Bool) (dim : Nat) (ps : List (List W32 × Nat)) : List W32 × Nat :=
  let use := if max_ then ps.filter fun p => decide (p.2 ≠ 0) else ps
  match use with
  | [] => (List.replicate dim 0#32, 0)
  | p :: rest =>
    rest.foldl (fun a q => ((a.1.zip q.1).map fun x => poolAdd max_ false x.1 x.2, a.2 + q.2)) p

/-- OUT_FMT as an element code of 09 R282. -/
def outFmt (c : Nat) : Nat :=
  match c with
  | 0 => 10 | 1 => 6 | _ => 7

/-- The bytes of a pooled vector. -/
def pooledBytes (pool fmt : Nat) (x : List W32 × Nat) : Bytes :=
  let elem (a : W32) : Num :=
    if x.2 = 0 then Num.zero
    else if pool = 1 then
      match val32 a.toNat with
      | .fin n m e => rn32 (divExact (.fin n m e) (Num.ofInt x.2))
      | v => v
    else val32 a.toNat
  let size := if fmt = 0 then 4 else 2
  (x.1.map fun a => leBytes size (encodeF (outFmt fmt) false (elem a)).1).flatten

/-! ### The batch descriptor (06 R185, R186) -/

def gbTable (d : Bytes) : Nat := leAt d 0 2
def gbPool (d : Bytes) : Nat := fld (leAt d 2 1) 0 2
def gbFmt (d : Bytes) : Nat := fld (leAt d 3 1) 0 2
def gbIdx64 (d : Bytes) : Bool := bit (leAt d 3 1) 2
def gbOor (d : Bytes) : Bool := bit (leAt d 3 1) 3
def gbCache (d : Bytes) : Nat := fld (leAt d 3 1) 4 2
def gbBags (d : Bytes) : Nat := leAt d 4 4
def gbIdx (d : Bytes) : Nat := leAt d 8 8
def gbOfs (d : Bytes) : Nat := leAt d 16 8
def gbWgt (d : Bytes) : Nat := leAt d 24 8
def gbOut (d : Bytes) : Nat := leAt d 32 8
def gbStride (d : Bytes) : Nat := leAt d 40 4
def gbMax (d : Bytes) : Nat := leAt d 44 4
def gbIdxSize (d : Bytes) : Nat := if gbIdx64 d then 8 else 4
/-- Bytes of one output vector. -/
def gbVec (d : Bytes) (dim : Nat) : Nat := dim * (if gbFmt d = 0 then 4 else 2)

/-- The checks at launch: `t` the table if it is in the wing, `cat` the pinned catalogue (06 R186, R187). -/
def gpeCheck (d : Bytes) (scratch : Nat) (t : Option Table) (cat : Option CatIx) : Option Byte :=
  let dim := match t with | some t => t.dim | none => 16
  firstFail [
    (decide (fld (leAt d 2 1) 2 6 ≠ 0) || decide (fld (leAt d 3 1) 6 2 ≠ 0) || !zeroAt d 48 16 ||
      (decide (gbWgt d ≠ 0) && decide (gbPool d ≠ 3)), rRESERVED_FIELD_SET),
    (decide (gbFmt d = 3) || decide (gbCache d = 3), rRESERVED_VALUE),
    (decide (gbBags d = 0 ∨ gbBags d > 65536) || decide (gbMax d = 0) || decide (gbStride d < gbVec d dim), rSHAPE_INVALID),
    (decide (gbIdx d % gbIdxSize d ≠ 0) || decide (gbOfs d % 4 ≠ 0) || decide (gbWgt d % 4 ≠ 0) ||
      decide (gbOut d % 64 ≠ 0) || decide (gbStride d % 16 ≠ 0), rADDR_ALIGN),
    (decide (gbIdx d + gbIdxSize d * gbMax d > scratch) || decide (gbOfs d + 4 * (gbBags d + 1) > scratch) ||
      (decide (gbPool d = 3) && decide (gbWgt d + 4 * gbMax d > scratch)) ||
      decide (gbOut d + (gbBags d - 1) * gbStride d + gbVec d dim > scratch), rPROGRAM_BOUNDS),
    (match cat with
      | none => true
      | some c => match t with | some t => t.cat != c | none => false, rADDR_RANGE)]

/-- The table of an ID as a request sees it: created before its admission decision and not deleted before it (06 R171, R176). -/
def reqTable (s : State) (r : Req) (id : Nat) : Option Table :=
  match s.table id with
  | some t =>
    if t.wing = r.wing ∧ t.phase ≠ .creating ∧ t.createdTs < r.admitTs ∧ (t.phase = .ready ∨ r.admitTs < t.deletedTs) then some t
    else none
  | none => none

/-! ### Batches in progress -/

def findBatch (s : State) (d : Nat) (t : W16) : Option Batch := s.batches.find? fun b => b.doc.val == d && b.ticket == t
def State.updBatch (s : State) (b : Batch) (f : Batch → Batch) : State :=
  { s with batches := s.batches.map fun x => if x.doc = b.doc ∧ x.ticket = b.ticket then f x else x }
def batchLaunch (s : State) (b : Batch) : Option Launch := s.launches.find? fun l => l.doc == b.doc && l.ticket == b.ticket

/-- The GPE that pools a bag on a stack (06 R189, R203): its own, or its partner. -/
def bagGPE (s : State) (k bag : Nat) : Nat := (servingGPE s (2 * k + bag % 2)).getD (2 * k + bag % 2)

/-- The batch fails at a GPE, and ends there (06 R188). -/
def gpeFail (s : State) (b : Batch) (code : Byte) (g : Nat) : State :=
  match batchLaunch s b with
  | none => s
  | some l => launchFail s l code (gpeDetail (some g) (s.doc b.doc).rank b.table)

/-- Offsets of the bags, as the list has them. -/
def gbOffsets (s : State) (h : Nat) (d : Bytes) : List Nat :=
  (List.range (gbBags d + 1)).map fun i => fromLE (spRead s h (gbOfs d + 4 * i) 4)

/-- The offsets list is refused (06 R188). -/
def offsetsBad (d : Bytes) (o : List Nat) : Bool :=
  decide (o.headD 0 ≠ 0) || ((o.zip (o.drop 1)).any fun x => decide (x.2 < x.1)) || decide (o.getLastD 0 > gbMax d)

/-- The bag of an entry of the index list. -/
def bagOf (o : List Nat) (i : Nat) : Nat := ((o.drop 1).findIdx? fun e => decide (i < e)).getD 0

/-- The lookups of a batch in index-list order: each entry's bag, its row if it is in range, and its weight. -/
def gbLookups (s : State) (h : Nat) (d desc : Bytes) (o : List Nat) : List (Nat × Option Nat × W32) :=
  (List.range (o.getLastD 0)).map fun i =>
    (bagOf o i, transformRow desc (fromLE (spRead s h (gbIdx d + gbIdxSize d * i) (gbIdxSize d))),
     if gbPool d = 3 then BitVec.ofNat 32 (fromLE (spRead s h (gbWgt d + 4 * i) 4)) else 0#32)

/-- One of the lists holds an uncorrectable word (12 R372). -/
def listsBad (s : State) (h : Nat) (d : Bytes) (total : Nat) : Option Nat :=
  let bads := [(gbIdx d, gbIdxSize d * total)] ++ (if gbPool d = 3 then [(gbWgt d, 4 * total)] else [])
  (bads.find? fun x => spBadAt s h x.1 x.2).map (·.1)

/-- A batch begins: its lists are read at the launch (06 R190 lets a GPE read them at any time until the ticket completes), and
remote lookups go to the partner with the pinned epoch (13 R409). -/
def batchBegin (s : State) (l : Launch) (r : Req) (t : Table) : State :=
  let d := l.desc
  let h := docHalf s l.doc
  let epoch := r.epoch.getD 0
  let b0 : Batch :=
    { doc := l.doc, ticket := l.ticket, req := r.id, wing := r.wing, table := Fin.ofNat 65536 (gbTable d), epoch := epoch,
      lookups := [], total := 0, taken := [], rows := [], remote := [], parts := [], since := s.now, failed := none }
  let rank := (s.doc l.doc).rank
  let k0 := t.onStacks.headD 0
  let fail (s : State) (code : Byte) (bag : Nat) : State :=
    { s with batches := s.batches ++ [{ b0 with failed := some (code, gpeDetail (some (bagGPE s k0 bag)) rank (gbTable d)) }] }
  if spBadAt s h (gbOfs d) (4 * (gbBags d + 1)) then fail (spReadError s h (gbOfs d)) rUNCORRECTABLE_MEMORY 0
  else
    let o := gbOffsets s h d
    let total := o.getLastD 0
    if offsetsBad d o then fail s rSHAPE_INVALID 0
    else match listsBad s h d total with
    | some off => fail (spReadError s h off) rUNCORRECTABLE_MEMORY 0
    | none =>
      let all := gbLookups s h d t.desc o
      match all.find? (fun x => x.2.1.isNone && !gbOor d) with
      | some x => fail s rADDR_RANGE x.1
      | none =>
        let used := all.filterMap fun x => x.2.1.map fun row => (x.1, BitVec.ofNat 32 row, x.2.2)
        let skipped := all.length - used.length
        let remote := (List.range used.length).filter fun i =>
          !localGpos s t (rowGpos s t ((used.getD i (0, 0, 0)).2.1.toNat))
        let s1 := s.updWing r.wing fun w => { w with skipped := satAdd w.skipped skipped }
        let s2 := { s1 with batches := s1.batches ++
          [{ b0 with
              lookups := used, total := total, remote := remote,
              failed := if !remote.isEmpty && !linkUp s.par.link then
                  some (rPARTNER_LOST, gpeDetail (some (bagGPE s k0 0)) rank (gbTable d)) else none }] }
        if remote.isEmpty || !linkUp s.par.link then s2
        else
          pairSend s2 (r.wing.val + t.cat.val) .lookup
            [r.wing.val, gbTable d, epoch.toNat, l.doc.val, l.ticket.toNat, r.seq.toNat]
            (remote.flatMap fun i =>
              let x := used.getD i (0, 0, 0)
              leBytes 4 x.2.1.toNat ++ leBytes 4 x.1 ++ leBytes 4 x.2.2.toNat ++ leBytes 4 0)

/-- A batch of a table that is not in the wing: zero vectors, one violation of kind 4 (06 R187). -/
def batchOutside (s : State) (h : Nat) (l : Launch) (w : Nat) : State :=
  let d := l.desc
  (List.range (gbBags d)).foldl (fun s b =>
    spWrite s h (gbOut d + b * gbStride d) (List.replicate (gbVec d 16) 0#8) (some (l.doc.val, l.ticket)))
    (violate s (some w) 4)

/-! ### Row reads -/

/-- The stack is failed: a directory entry is uncorrectable in both copies (07 R213). -/
def stackFail (s : State) (k granule : Nat) : State :=
  let s1 := alarm (sramUE s (8 + k) stDirectory granule) 0x0202 0xFF (8 + k) k 0 0 0
  s1.updStack k fun x => { x with failed := true }

/-- A cached copy of a line cannot be read: it is dropped, and the error is counted with its granule (12 R372, R373). -/
def cacheLineBad (s : State) (w a granule : Nat) : State :=
  cacheEvict (sramUE s (8 + stackOf a) stCache granule) fun c => c.line == lineOf a && c.wing.val == w

/-- A line of a row turns out uncorrectable: its cached copy, which is then what was read, or the line in DRAM, which is poisoned
(11 R348, 12 R372). -/
def rowLineBad (s : State) (w a granule : Nat) : State :=
  if cacheHit s w a then cacheLineBad s w a granule else poison s a

/-- The lines of a row after its read: hits are used again, misses are filled unless the batch does not allocate (06 R196). -/
def cacheRead (s : State) (wx : WingIx) (alloc : Bool) (pieces : List Nat) : State :=
  pieces.foldl (fun s a =>
    if cacheHit s wx a then cacheTouch s wx a else if alloc then cacheFill s wx a else s) s

/-- The slot of a row's version as bytes, or the first piece that is bad. -/
def slotRead (s : State) (w : Nat) (t : Table) (k slot : Nat) : Except Nat Bytes :=
  let n := if t.slotBytes = 32 then 32 else 64
  (slotPieces t k slot).foldl (fun x a =>
    match x with
    | .error e => .error e
    | .ok b => match pieceRead s w a n with | some c => .ok (b ++ c) | none => .error a) (.ok [])

/-- What a version's row gives (06 R181, R182). -/
def headerCheck (t : Table) (row : Bytes) : Option Byte :=
  if allZero (slice row 0 16) then none
  else if leAt row 10 1 / 16 ≠ 1 then some rVERSION_UNSUPPORTED
  else if leAt row 8 1 ≠ t.elem then some rFORMAT_UNSUPPORTED
  else none

/-- What the read meets before any line of the row: a corrected error, a directory entry that the other copy serves, an entry that
neither copy holds right, or the engine's own buffers (12 R372, 07 R213). -/
def rowUpset (s : State) (k g : Nat) (b : Batch) (entry : Bool) (err : RowSram) : State × Bool :=
  match err with
  | .corrected => (sramCE s (8 + k), true)
  | .dirOne n => (if entry then sramUE s (8 + k) stDirectory n else s, true)
  | .dirBoth n => if entry then (gpeFail (stackFail s k n) b rUNCORRECTABLE_MEMORY g, false) else (s, true)
  | .gpe n => (quarantine (sramUE s (8 + k) stGPE n) (uGPE g) stGPE, false)
  | _ => (s, true)

/-- GPE_ROW_READ_DONE: the read of lookup `i` of a batch, which a GPE had accepted, ends (06 R191, R193). `err` is what the SRAMs and
lines on its way answer. -/
def gpeRowRead (s : State) (d : Nat) (ticket : W16) (i : Nat) (err : RowSram) : State :=
  match findBatch s d ticket with
  | none => s
  | some b =>
    match b.lookups[i]?, s.table b.table with
    | some (bag, row, w), some t =>
      if b.failed.isSome || !b.taken.contains i || decide (s.vlt.mode = .error) then s
      else match rowPlace s t row.toNat with
      | none => s
      | some (_, k, home) =>
        let g := bagGPE s k bag
        if (servingGPE s g).isNone then gpeFail s b rINTERNAL g
        else
          let s1 := s.updWing b.wing fun x => { x with lookups := satInc x.lookups }
          let u := rowUpset s1 k g b (dirFind s k b.table row.toNat).isSome err
          if !u.2 then u.1
          else
            let s2 := u.1.updBatch b fun x => { x with taken := x.taken.filter (· != i) }
            let slot := versionSlot s k b.table row.toNat home b.epoch
            let l := batchLaunch s b
            let desc := match l with | some l => l.desc | none => []
            let weighted := decide (gbPool desc = 3)
            let terms (b : Bytes) := rowTerms t.elem t.dim weighted w b
            if slot = slotUnwritten then
              s2.updBatch b fun x => { x with rows := Tbl.set none x.rows i (some (terms (List.replicate 16 0#8))) }
            else
              let pieces := slotPieces t k slot
              match err with
              | .line n => gpeFail (rowLineBad s2 b.wing (pieces.headD 0) n) b rUNCORRECTABLE_MEMORY g
              | _ =>
                match slotRead s2 b.wing t k slot with
                | .error a => gpeFail (poison s2 a) b rUNCORRECTABLE_MEMORY g
                | .ok bytes =>
                  let hit := pieces.all (cacheHit s2 b.wing)
                  let mode := if gbCache desc = 0 then tdCacheMode t.desc else if gbCache desc = 1 then 1 else 0
                  let s3 := if hit then s2.updWing b.wing fun x => { x with hits := satInc x.hits } else s2
                  let s4 := cacheRead s3 b.wing (decide (mode = 0)) pieces
                  match headerCheck t bytes with
                  | some code => gpeFail s4 b code g
                  | none => s4.updBatch b fun x => { x with rows := Tbl.set none x.rows i (some (terms bytes)) }
    | _, _ => s

def execGpeRowReadDone (doc : DocIx) (ticket : W16) (lookup : W32) (err : RowSram) (s : State) :
    Host.Outcome State Fault Refusal := .next (gpeRowRead s doc ticket lookup.toNat err)

/-! ### Digests (12 R386 to R389) -/

/-- A digest fails at a receiver: counted, recorded, and every third failure of one die pair within 60 s raises an alarm. -/
def digestFail (s : State) (w producer receiver contribution : Nat) : State :=
  let s1 := s.updWing w fun x => { x with digestFail := satInc x.digestFail }
  let s2 := if receiver < 20 then s1.updDie receiver fun x => { x with digestRx := satInc x.digestRx } else s1
  let s3 := logEvent s2 0x1004 2 w receiver 0 (producer + 256 * receiver) contribution 0 0
  let same (x : Nat × Nat × Nat) : Bool := x.1 == producer && x.2.1 == receiver
  let recent := s3.digestPairs.filter fun x => same x && decide (s3.now - x.2.2 ≤ 60 * 10 ^ 9)
  if recent.length ≥ 2 then
    alarm { s3 with digestPairs := s3.digestPairs.filter fun x => !same x } 0x0303 0xFF receiver
      (producer + 256 * receiver) 0 0 0
  else { s3 with digestPairs := s3.digestPairs.filter (fun x => !same x) ++ recent ++ [(producer, receiver, s3.now)] }

/-! ### Partials -/

/-- The lookups of a bag at a global position, by their index. -/
def bagLookups (s : State) (b : Batch) (t : Table) (bag g : Nat) : List Nat :=
  (List.range b.lookups.length).filter fun i =>
    match b.lookups[i]? with
    | some x => x.1 == bag && rowGpos s t x.2.1.toNat == g
    | none => false

/-- The partial that a local stack forms of a bag; none until every row has been read. -/
def localPart (s : State) (b : Batch) (t : Table) (max_ : Bool) (bag g : Nat) : Option (List W32 × Nat) :=
  let terms := (bagLookups s b t bag g).map fun i => Tbl.get none b.rows i
  if terms.all Option.isSome then some (poolPart max_ t.dim (terms.filterMap id)) else none

/-- The stack of a global position of this unit. -/
def gposStack (s : State) (t : Table) (g : Nat) : Nat := t.onStacks.getD (if isStriped s t then g / 2 else g) 0

/-- The combining GPE's stack is that of local stripe position 0 (13 R405). -/
def combineStack (t : Table) : Nat := t.onStacks.headD 0

/-- The combining GPE pools its own stack's lookups itself: this position sends it nothing. -/
def ownGpos (s : State) : Table → Nat → Bool := fun t g => if isStriped s t then decide (g = posNum s) else decide (g = 0)

/-- A partial as its contribution carries it: the elements as binary32, then the count (12 R387). -/
def partBytes (p : List W32 × Nat) : Bytes := p.1.flatMap (fun e => leBytes 4 e.toNat) ++ leBytes 4 p.2

/-- The partial that a payload holds. -/
def partOf (dim : Nat) (bag g : Nat) (b : Bytes) : Part :=
  { bag := bag, gpos := g, vec := (List.range dim).map fun i => BitVec.ofNat 32 (leAt b (4 * i) 4), n := leAt b (4 * dim) 4 }

/-- The SEQ of the request of a batch. -/
def batchSeq (s : State) (b : Batch) : Nat := match s.findReq b.req with | some r => r.seq.toNat | none => 0

/-- The header that the combining GPE expects of a partial from a position: a die of this unit, or 0x80 and the partner's die. -/
def partHead (s : State) (b : Batch) (t : Table) (bag g : Nat) : Bytes :=
  partHeader b.table ((if localGpos s t g then 0 else 0x80) + 8 + gposStack s t g) bag (batchSeq s b)

/-- PARTIAL_RECEIVE: a partial of a bag reaches the combining GPE. `remote` holds the partner's elements and count; none of it
means that the partner reports that it cannot serve the batch (13 R411). -/
def partialReceive (s : State) (d : Nat) (ticket : W16) (bag g : Nat) (remote : Bytes) (digestOk : Carried) : State :=
  match findBatch s d ticket with
  | none => s
  | some b =>
    match s.table b.table with
    | none => s
    | some t =>
      let k := combineStack t
      let gpe := bagGPE s k bag
      let max_ := match batchLaunch s b with | some l => decide (gbPool l.desc = 2) | none => false
      let have_ := b.parts.any fun p => p.bag == bag && p.gpos == g
      let head := partHead s b t bag g
      let keep (x : Bytes) : State := s.updBatch b fun y => { y with parts := y.parts ++ [partOf t.dim bag g x] }
      if b.failed.isSome || have_ || ownGpos s t g || (bagLookups s b t bag g).isEmpty then s
      else if localGpos s t g then
        match localPart s b t max_ bag g with
        | none => s
        | some p =>
          match takeCarried digestOk head (partBytes p) with
          | none => gpeFail (digestFail s b.wing (8 + gposStack s t g) (8 + k) 0) b rDIGEST_MISMATCH gpe
          | some x => keep x
      else if remote.isEmpty then gpeFail s b rPARTNER_LOST gpe
      else if remote = [rEPOCH_RETIRED] then gpeFail s b rEPOCH_RETIRED gpe
      else
        match takeCarried digestOk head remote with
        | none => gpeFail (digestFail s b.wing (0x80 + 8 + gposStack s t g) (8 + k) 2) b rDIGEST_MISMATCH gpe
        | some x => keep x

def execPartialReceive (doc : DocIx) (ticket : W16) (bag : Fin 65536) (gpos : Fin 16) (remote : Bytes) (digestOk : Carried)
    (s : State) : Host.Outcome State Fault Refusal := .next (partialReceive s doc ticket bag gpos remote digestOk)

/-- The partials of a bag in ascending position; none until all have arrived. -/
def bagParts (s : State) (b : Batch) (t : Table) (max_ : Bool) (bag : Nat) : Option (List (List W32 × Nat)) :=
  let n := 2 ^ t.stripe * (if isStriped s t then 2 else 1)
  (List.range n).foldr (fun g acc =>
    match acc with
    | none => none
    | some l =>
      if (bagLookups s b t bag g).isEmpty then some l
      else if ownGpos s t g then (localPart s b t max_ bag g).map (· :: l)
      else (b.parts.find? fun p => p.bag == bag && p.gpos == g).map fun p => (p.vec, p.n) :: l) (some [])

/-- The bag's arrival at the cell, where it is not as its producer formed it. -/
def arrivalOf (l : List (Nat × Carried)) (bag : Nat) : Carried := ((l.find? fun x => x.1 == bag).map (·.2)).getD .intact

/-- The pooled vectors as they arrive at the cell, in the order of their bags, up to the first that fails its digest: the vectors taken,
and the failing bag (12 R387, R388). -/
def takeVectors (head : Nat → Bytes) (arrive : Nat → Carried) : List (Nat × Bytes) → List (Nat × Bytes) × Option Nat
  | [] => ([], none)
  | v :: vs =>
    match takeCarried (arrive v.1) (head v.1) v.2 with
    | none => ([], some v.1)
    | some x => let r := takeVectors head arrive vs; ((v.1, x) :: r.1, r.2)

/-- GPE_BATCH_DONE: the vectors arrive at the cell and are written to scratchpad, and the ticket completes; a batch that failed at its
lists ends here. A vector that fails its digest is not written and fails the batch; those before it stand (12 R388). -/
def gpeBatchDone (s : State) (d : Nat) (ticket : W16) (arrivals : List (Nat × Carried)) : State :=
  match findBatch s d ticket with
  | none => s
  | some b =>
    match batchLaunch s b, s.table b.table with
    | some l, some t =>
      let first := decide ((queueAt s d .gpe).head? = some l)
      match b.failed with
      | some f => launchFail s l f.1 f.2
      | none =>
        let desc := l.desc
        let max_ := decide (gbPool desc = 2)
        let h := docHalf s d
        let k := combineStack t
        let vecs := (List.range (gbBags desc)).map fun bag => (bagParts s b t max_ bag).map (combineParts max_ t.dim)
        if !first || vecs.any Option.isNone then s
        else
          let me := some (d, ticket)
          let formed := ((vecs.filterMap id).map (pooledBytes (gbPool desc) (gbFmt desc))).zipIdx.map fun v => (v.2, v.1)
          let took := takeVectors (fun bag => partHeader b.table (8 + k) bag (batchSeq s b)) (arrivalOf arrivals) formed
          let s1 := took.1.foldl (fun s v => spWrite s h (gbOut desc + v.1 * gbStride desc) v.2 me) s
          let s2 := if l.dirty then
              freeRegion s1 h { addr := gbOut desc, planes := 1, ps := 0, rows := gbBags desc, rs := gbStride desc,
                                len := gbVec desc t.dim } me
            else s1
          match took.2 with
          | some bag => gpeFail (digestFail s2 b.wing (8 + k) (h / 2) 1) b rDIGEST_MISMATCH (bagGPE s k bag)
          | none => ticketDone s2 d ticket
    | _, _ => s

def execGpeBatchDone (doc : DocIx) (ticket : W16) (digestOk : List (Nat × Carried)) (s : State) : Host.Outcome State Fault Refusal :=
  .next (gpeBatchDone s doc ticket digestOk)

/-! ### Arbitration at a GPE's input port (06 R191, 05 R166) -/

/-- The GPE that reads lookup `i` of a batch at this unit. -/
def lookupGPE (s : State) (b : Batch) (i : Nat) : Option Nat :=
  match s.table b.table, b.lookups[i]? with
  | some t, some x => (rowPlace s t x.2.1.toNat).map fun p => bagGPE s p.2.1 x.1
  | _, _ => none

/-- The lookups of a batch that wait to be accepted by a GPE. -/
def waitingAt (s : State) (g : Nat) (b : Batch) : List Nat :=
  if b.failed.isSome then []
  else (List.range b.lookups.length).filter fun i =>
    (Tbl.get none b.rows i).isNone && !b.taken.contains i && decide (lookupGPE s b i = some g)

/-- A docent's batches of a wing with lookups left for a GPE. -/
def gpeWork (s : State) (d g w : Nat) : Bool :=
  s.batches.any fun b => b.doc.val == d && b.wing.val == w && !(waitingAt s g b).isEmpty

/-- Row reads that a GPE has in flight for the batches that a test picks. -/
def inFlight (s : State) (g : Nat) (p : Batch → Bool) : Nat :=
  ((s.batches.filter p).map fun b => (b.taken.filter fun i => decide (lookupGPE s b i = some g)).length).sum

/-- The MEM weight of a wing (02 R66). -/
def memWeight (s : State) (w : Nat) : Nat := fld (s.wing w).live.weight.toNat 0 8

/-- Read slots that a GPE may still give a wing: of its 4,096, the wing's share among the wings with queued lookups, in proportion to
their MEM weights and at least 64 (06 R191). -/
def gpeRoom (s : State) (g w : Nat) : Nat :=
  let queued := (List.range 16).filter fun v => s.batches.any fun b => b.wing.val == v && !(waitingAt s g b).isEmpty
  let share := max 64 (4096 * memWeight s w / max 1 ((queued.map (memWeight s)).sum))
  min (4096 - inFlight s g fun _ => true) (share - inFlight s g fun b => b.wing.val == w)

/-- The granted docent's head batch has lookups accepted: a burst of at most 64, while read slots are free (06 R191). -/
def gpeAccept (s : State) (g w : Nat) : State :=
  match (s.arb (arbKey (.gpe (Fin.ofNat 16 g) (Fin.ofNat 16 w)))).grant with
  | none => s
  | some d =>
    match s.batches.find? fun b => b.doc.val == d && b.wing.val == w && !(waitingAt s g b).isEmpty with
    | none => s
    | some b => s.updBatch b fun x => { x with taken := x.taken ++ (waitingAt s g b).take (min 64 (gpeRoom s g w)) }

/-- The docents that take part in a round: their places and numbers (05 R166). A checkpoint's queued work waits, and what has begun
ends first (08 R278, 09 R306); its streams halt (10 R335). -/
def arbCands (s : State) (a : ArbIx) : List (Nat × Nat) :=
  (arbDocs s a).zipIdx.filterMap fun x =>
    let held := (s.doc x.1).req.any (ckptHeld s)
    let ready := match a with
      | .gpe g w => gpeWork s x.1 g w
      | .strm e _ _ => (readyHead s x.1 (.strm e)).isSome && !held
      | _ => match readyHead s x.1 (arbEngine a) with | some l => l.begun || !held | none => false
    if ready then some (x.2, x.1) else none

/-- The granted work begins: an OUT stream is noted (13 R410), and work that waited for its AFTER ticket finds its input complete or
not (10 R323). -/
def beginWork (s : State) (e : Engine) : State :=
  match granted s e with
  | none => s
  | some l =>
    let s1 := match e with
      | .strm _ => if stDir l.desc = 1 then s.updReq l.req fun r => { r with outStarted := true } else s
      | _ => s
    if l.begun then s1
    else s1.updLaunch l fun x => { x with begun := true, dirty := x.dirty || (decide (x.after_ ≠ 0#16) && inputOpen s l) }

end Sys2Proof.Machine
end

