-- ==== Sys2Proof/Machine/Time.lean ====
section
/-! DEFINITION. The passing of time (00 R14, 16 R509): the timestamp units of the dies count nanoseconds. -/

namespace Sys2Proof.Machine

/-- `n` ns pass: every unit counts them. -/
def advance (s : State) (n : Nat) : State :=
  { s with clk := { s.clk with units := s.clk.units.map (· + BitVec.ofNat 64 n) } }

/-- What a step does while no command waits: 1 ns passes (DESIGN CHOICE, log entry 1). A counter that slews back counts it not (13 R403). -/
def idle (s : State) : State :=
  if s.clk.slew < 0 then { s with clk := { s.clk with slew := s.clk.slew + 1 } } else advance s 1

end Sys2Proof.Machine
end

