-- ==== Sys2Proof/Machine/Updates.lean ====
section
/-! DEFINITION. Table updates (07): row versions, the update rings and their records, the epochs of a catalogue and the epoch
commands, and what a pair does for each (13 R404 to R408). -/

namespace Sys2Proof.Machine

/-! ### Live versions (07 R208) -/

/-- A version of epoch `e` (or the unwritten state), whose next newer one has epoch `newer`, is live (07 R208). -/
def versionLive (c : Cat) (use : List W32) (newer : Option W32) (v : W32 × Nat) : Bool :=
  let unw := v.2 == slotUnwritten
  (!unw && decide (c.openOf = some v.1)) ||
  ((unw || epLe v.1 c.vis) && (newer.isNone || decide (newer = c.openOf))) ||
  use.any fun p => (unw || epLe v.1 p) && (match newer with | some n => epPrec p n | none => true)

/-- The live ones of a row's versions, newest first. -/
def liveVersions (c : Cat) (use : List W32) : Option W32 → List (W32 × Nat) → List (W32 × Nat)
  | _, [] => []
  | newer, v :: rest =>
    let tail := liveVersions c use (some v.1) rest
    if versionLive c use newer v then v :: tail else tail

/-! ### Slots -/

/-- Writes a whole slot, piece by piece, through the memory of its stack (07 R217). -/
def slotWrite (s : State) (t : Table) (k slot : Nat) (bytes : Bytes) : State :=
  let n := if t.slotBytes = 32 then 32 else 64
  (slotPieces t k slot).zipIdx.foldl (fun s p => lineWrite s p.1 (slice bytes (n * p.2) n)) s

/-- A line that a write of a 32 B row must merge with is bad (07 R226). -/
def mergeBad (s : State) (t : Table) (k slot : Nat) : Option Nat :=
  if t.slotBytes = 32 then (slotPieces t k slot).find? fun a => decide (lineFound s a = .bad) else none

/-- OLDER of the slot's header (07 R210). -/
def olderWrite (s : State) (t : Table) (k slot older : Nat) : State :=
  lineWrite s ((slotPieces t k slot).headD 0 + 12) (leBytes 4 older)

/-- The slot that follows each in a chain of versions. -/
def olderLinks : List (W32 × Nat) → List (Nat × Nat)
  | [] => []
  | [v] => [(v.2, slotNone)]
  | v :: u :: rest => (v.2, u.2) :: olderLinks (u :: rest)

/-- The row's bytes with EPOCH and OLDER set (07 R214). -/
def rowImage (body : Bytes) (epoch : W32) (older : Nat) : Bytes :=
  leBytes 4 epoch.toNat ++ slice body 4 8 ++ leBytes 4 older ++ body.drop 16

/-- A free spare slot of a table on a stack, the lowest (07 R210). -/
def freeSpare (s : State) (t : Table) (k : Nat) : Option Nat :=
  let home := homeSlots s t
  let n := (t.used.filter fun u => u.1 == k).length
  ((List.range (min (n + 1) (spareSlots s t))).map (home + ·)).find? fun x => !t.used.contains (k, x)

/-- Directory entries a wing holds on a stack, and all of them (07 R211). -/
def dirUsed (s : State) (w k : Nat) : Nat :=
  (s.dir.filter fun e => e.stack == k && match s.table e.table with | some t => t.wing.val == w | none => false).length
def dirTotal (s : State) (k : Nat) : Nat := (s.dir.filter fun e => e.stack == k).length

def dirFull (s : State) (w k : Nat) : Bool :=
  decide (dirUsed s w k ≥ fld (s.wing w).dirCtl.toNat 0 19) || decide (dirTotal s k ≥ 262144)

def DirEntry.same (a b : DirEntry) : Bool := a.stack == b.stack && a.table == b.table && a.row == b.row

/-- Sets a row's versions: an entry exactly while there is more than one (07 R211). -/
def dirSet (s : State) (e : DirEntry) : State :=
  let others := s.dir.filter fun x => !x.same e
  { s with dir := if e.versions.length ≤ 1 then others else others ++ [e] }

def tableUse (s : State) (tab : Nat) (f : List (Nat × Nat) → List (Nat × Nat)) : State :=
  s.updTable tab fun t => t.map fun t => { t with used := f t.used }

/-- Removes the retired versions of a row: their slots are free, and OLDER skips them (07 R210, R216). -/
def reclaimRow (s : State) (t : Table) (e : DirEntry) : State :=
  let c := s.cat (catKey t.wing t.cat)
  let keep := liveVersions c (inUse s t.wing t.cat) none e.versions
  if keep = e.versions then s
  else
    let gone := (e.versions.filter fun v => !keep.contains v).map (·.2)
    let s1 := dirSet s { e with versions := keep }
    let s2 := tableUse s1 e.table fun l => l.filter fun u => !(u.1 == e.stack && gone.contains u.2)
    let old := olderLinks e.versions
    (olderLinks keep).foldl (fun s l =>
      if l.1 = slotUnwritten ∨ old.contains l then s else olderWrite s t e.stack l.1 l.2) s2

/-! ### Writing a version (07 R214) -/

inductive Put where
  | ok (s : State)
  /-- STALL: 1 four versions, 2 no spare slot, 3 no directory entry (07 R227) -/
  | stall (s : State) (cause : Nat)
  /-- a read met an uncorrectable line (07 R226) -/
  | ue (s : State)

/-- Writes a row of epoch `ep` at stack `k`, home slot `home`. Retired versions of the row are reclaimed first. -/
def putRow (s : State) (t : Table) (tab : TabIx) (k row home : Nat) (body : Bytes) (ep : W32) : Put :=
  let w := t.wing.val
  let s0 := match dirFind s k tab row with | some e => reclaimRow s t e | none => s
  let fail (a : Nat) : Put := .ue (poison s0 a)
  let entry (v : List (W32 × Nat)) : DirEntry := { stack := k, table := tab, row := BitVec.ofNat 32 row, versions := v }
  let n := if t.slotBytes = 32 then 32 else 64
  let ent := dirFind s0 k tab row
  let first := (slotPieces t k home).headD 0
  match mergeBad s0 t k home with
  | some a => fail a
  | none =>
  match ent, pieceRead s0 w first n with
  | none, none => fail first
  | some e, _ =>
    match e.versions with
    | v :: rest =>
      if v.1 = ep then .ok (slotWrite s0 t k home (rowImage body ep ((rest.head?.map (·.2)).getD slotNone)))
      else copy s0 fail entry e.versions
    | [] => copy s0 fail entry []
  | none, some h =>
    let e := BitVec.ofNat 32 (leAt h 0 4)
    if allZero (slice h 0 16) then
      if dirFull s0 w k then .stall s0 3
      else .ok (slotWrite (dirSet s0 (entry [(ep, home), (0, slotUnwritten)])) t k home (rowImage body ep slotUnwritten))
    else if e = ep then .ok (slotWrite s0 t k home (rowImage body ep slotNone))
    else copy s0 fail entry [(e, home)]
where
  /-- The home version is copied to a spare slot, then the new one is written to the home slot. -/
  copy (s0 : State) (fail : Nat → Put) (entry : List (W32 × Nat) → DirEntry) (vs : List (W32 × Nat)) : Put :=
    if vs.length ≥ 4 then .stall s0 1
    else match freeSpare s0 t k with
    | none => .stall s0 2
    | some x =>
      if vs.length = 1 ∧ dirFull s0 t.wing k then .stall s0 3
      else match slotRead s0 t.wing t k home, mergeBad s0 t k x with
      | .error a, _ => fail a
      | _, some a => fail a
      | .ok bytes, none =>
        let vs' := match vs with | v :: rest => (v.1, x) :: rest | [] => []
        let s1 := dirSet (tableUse s0 tab fun l => l ++ [(k, x)]) (entry ((ep, home) :: vs'))
        .ok (slotWrite (slotWrite s1 t k x bytes) t k home (rowImage body ep x))

/-! ### Records (07 R224, R225) -/

def recType (b : Bytes) : Nat := leAt b 0 1
def recTable (b : Bytes) : Nat := leAt b 2 2
def recLen (b : Bytes) : Nat := leAt b 4 2
def recKey (b : Bytes) : Nat := leAt b 8 8

/-- What the engine finds of a record. -/
inductive Record where
  | bad (check : Nat) (code : Byte)
  /-- a PUT of a table that is not in the wing -/
  | skip
  | nop
  | put (tab : TabIx) (t : Table) (row : Nat)

/-- The row of a PUT's KEY; none where it is out of range. -/
def recRow (t : Table) (b : Bytes) : Option Nat :=
  if bit (leAt b 1 1) 0 then transformRow t.desc (recKey b)
  else if recKey b < t.rows then some (recKey b) else none

/-- Checks 7 to 12 of 07 R225 for a PUT of row `row`, and the part of check 2 that stands between 7 and 8. -/
def putCheck (s : State) (t : Table) (row : Nat) (b : Bytes) : Option (Nat × Byte) :=
  let h := slice b 16 16
  let pay := rowPayload t.elem t.dim
  let len := (32 + pay + 31) / 32 * 32
  let stackBad := match rowPlace s t row with | some p => (s.stack p.2.1).failed | none => false
  (([
    (decide (recLen b ≠ len), 7, rSHAPE_INVALID),
    (!zeroAt h 0 4 || !zeroAt h 12 4 || !zeroAt h 9 1 || !zeroAt h 11 1 || !zeroAt b (32 + pay) (len - 32 - pay), 2,
      rRESERVED_FIELD_SET),
    (decide (leAt h 10 1 ≠ 0x10), 8, rVERSION_UNSUPPORTED),
    (decide (leAt h 8 1 ≠ t.elem), 9, rFORMAT_UNSUPPORTED),
    (decide (fld (leAt h 4 2) 10 5 = 31), 10, rSCALE_INVALID),
    (decide (t.elem ≥ 2) && !zeroAt h 6 2, 11, rRESERVED_VALUE),
    (stackBad, 12, rRES_UNAVAILABLE)] : List (Bool × Nat × Byte)).find? (·.1)).map (·.2)

/-- The record `b` at ring offset `off` of a ring of `size` bytes, for a catalogue. -/
def recCheck (s : State) (w c : Nat) (off size : Nat) (b : Bytes) : Record :=
  let len := recLen b
  let lenOk := decide (len ≠ 0) && decide (len % 32 = 0) && decide (off + len ≤ size)
  if recType b > 1 then .bad 1 rRESERVED_VALUE
  else if fld (leAt b 1 1) 1 7 ≠ 0 ∨ leAt b 6 2 ≠ 0 then .bad 2 rRESERVED_FIELD_SET
  else if recType b = 1 ∧ (recTable b ≠ 0 ∨ recKey b ≠ 0 ∨ (lenOk ∧ !zeroAt b 16 (len - 16))) then .bad 2 rRESERVED_FIELD_SET
  else if !lenOk then .bad 3 rADDR_RANGE
  else if recType b = 1 then .nop
  else match tableIn s w (recTable b) with
  | none => .skip
  | some t =>
    if t.cat.val ≠ c then .bad 5 rADDR_RANGE
    else match recRow t b with
    | none => .bad 6 rADDR_RANGE
    | some row =>
      match putCheck s t row b with
      | some f => .bad f.1 f.2
      | none => .put (Fin.ofNat 65536 (recTable b)) t row

/-- Writes a PUT's row where it lies on this unit (07 R214, R241). -/
def applyPut (s : State) (tab : TabIx) (t : Table) (row : Nat) (b : Bytes) (ep : W32) : Put :=
  match rowPlace s t row with
  | none => .ok s
  | some (_, k, home) => putRow s t tab k row home (slice b 16 (16 + rowPayload t.elem t.dim)) ep

/-! ### Ends of epoch commands -/

/-- The commit point of a commit in progress, its answer, and what waited for its end (07 R230 steps 4 and 5). -/
def commitPoint (s : State) (w c : Nat) : State :=
  match (s.cat (catKey w c)).commit with
  | none => s
  | some m => retirePoll (runFinish (commitVisible s w c) m.fn m.hub rOK (leBytes 8 s.now)) w c

/-- Every record up to UPTO has reached DRAM: step 3, with the partner's visibility, or the commit point (07 R230, R244). -/
def commitProgress (s : State) (w c : Nat) : State :=
  let k := s.cat (catKey w c)
  match k.commit with
  | none => s
  | some m =>
    if k.head ≠ m.upto ∨ k.inProgress ∨ (k.busy.isSome && !k.alone s) then s
    else if k.alone s then commitPoint s w c
    else
      let s1 := catUpd s w c fun k => { k with commit := some { m with step := 3 } }
      if linkUp s.par.link then
        pairSend s1 (w + c) .commitRequest [w, c, k.openEp.toNat, 0, s.par.term.toNat] []
      else s1

/-! ### The ring's registers (07 R219 to R222) -/

def ringSize (k : Cat) : Nat := 2 ^ (fld k.runCfg.toNat 0 5)

/-- BAR0 offset of an update-block register as the function sees it (06 R200, 07 R219). -/
def catOff (fn : Fn) (w c off : Nat) : Nat := 0x80000 + (if fn = 0 then 0x1000 * w else 0) + 0x200 + 0x40 * c + off

/-- CAT_UPD_ENABLE: the ENABLE write (07 R220, R221). `xlat`: a translation for the ring can be obtained. -/
def catUpdEnable (s : State) (fn : Fn) (w c : Nat) (xlat : Bool) : State :=
  wingReg s fn w fun s =>
    let k := s.cat (catKey w c)
    if k.state ≠ .disabled then s
    else
      let regs (cfg : W32) (base : W64) : Bytes := leBytes 4 cfg.toNat ++ leBytes 8 base.toNat
      loggedChange s fn w (catOff fn w c 0) (regs k.runCfg k.runBase) (regs k.cfg k.base) fun s =>
        let n := fld k.cfg.toNat 0 5
        match firstFailAt [
            (decide (n < 16 ∨ n > 30), rRESERVED_VALUE), (decide (k.base.toNat % 4096 ≠ 0), rADDR_ALIGN),
            (!xlat, rTRANSLATION_MISSING)] with
        | some f => catUpd s w c fun k => { k with reason := f.2, check := f.1 }
        | none => catUpd s w c fun k =>
            { k with reason := rOK, check := 0, head := 0, tail := 0, limit := maxLimit, state := .enabled, runCfg := k.cfg,
                     runBase := k.base, pairHead := 0, resends := 0 }

def execCatUpdEnable (fn : Fn) (wing : WingIx) (cat : CatIx) (xlat : Bool) (s : State) : Host.Outcome State Fault Refusal :=
  .next (catUpdEnable s fn wing cat xlat)

/-- CAT_UPD_DISABLE: a record whose writes have begun finishes first (07 R221). -/
def catUpdDisable (s : State) (fn : Fn) (w c : Nat) : State :=
  wingReg s fn w fun s =>
    let k := s.cat (catKey w c)
    if k.state = .disabled then s
    else if k.inProgress then catUpd s w c fun k => { k with disableAfter := true }
    else ringDisable s w c

def execCatUpdDisable (fn : Fn) (wing : WingIx) (cat : CatIx) (s : State) : Host.Outcome State Fault Refusal :=
  .next (catUpdDisable s fn wing cat)

/-- CAT_UPD_RESUME: leaves ERROR; the record at HEAD is read again (07 R226). -/
def catUpdResume (s : State) (fn : Fn) (w c : Nat) : State :=
  wingReg s fn w fun s =>
    if (s.cat (catKey w c)).state = .error then catUpd s w c fun k => { k with state := .enabled, resends := 0 } else s

def execCatUpdResume (fn : Fn) (wing : WingIx) (cat : CatIx) (s : State) : Host.Outcome State Fault Refusal :=
  .next (catUpdResume s fn wing cat)

/-- A doorbell of the ring (07 R222). -/
def catUpdTail (s : State) (fn : Fn) (w c : Nat) (count : W64) : State :=
  wingReg s fn w fun s =>
    let k := s.cat (catKey w c)
    if k.state = .disabled then catUpd s w c fun k => { k with dbDropped := true }
    else if k.tail ≤ count ∧ count.toNat % 32 = 0 ∧ count.toNat - k.head.toNat ≤ ringSize k then
      catUpd s w c fun k => { k with tail := count }
    else ringError s w c 0 rADDR_RANGE

def execCatUpdTail (fn : Fn) (wing : WingIx) (cat : CatIx) (count : W64) (s : State) : Host.Outcome State Fault Refusal :=
  .next (catUpdTail s fn wing cat count)

/-! ### Consuming records -/

/-- A record stalls for a cause at a row: since now, or since it first did (07 R227). -/
def Cat.stalled (k : Cat) (cause now : Nat) (row : Option (Nat × Nat × Nat)) : Cat :=
  { k with stall := cause, stallAt := if k.stall = 0 then some now else k.stallAt, stallRow := row }

/-- The record in progress has been applied at this unit, or stalls, so that a DISABLE that waited acts (07 R221), or fails its
reads. -/
def putDone (w c : Nat) (row : Option (Nat × Nat × Nat)) (p : Put) : State :=
  match p with
  | .ok s => catUpd s w c fun k => { k.unstall with applied := true }
  | .stall s cause => disablePoll (catUpd s w c fun k => k.stalled cause s.now row) w c
  | .ue s => ringError s w c 0 rUNCORRECTABLE_MEMORY

/-- The row a record names, for the stall: stack, table, row. -/
def stallAtRow (s : State) (tab : TabIx) (t : Table) (row : Nat) : Option (Nat × Nat × Nat) :=
  (rowPlace s t row).map fun p => (p.2.1, tab.val, row)

/-- What a record writes at this unit, and the row it may stall at. A table deleted meanwhile leaves nothing to write. -/
def recordPut (s : State) (w : Nat) (b : Bytes) (ep : W32) : Option (Nat × Nat × Nat) × Put :=
  if recType b = 1 then (none, .ok s)
  else match tableIn s w (recTable b) with
  | none => (none, .ok s)
  | some t =>
    match recRow t b with
    | none => (none, .ok s)
    | some row =>
      let tab : TabIx := Fin.ofNat 65536 (recTable b)
      (stallAtRow s tab t row, applyPut s tab t row b ep)

/-- Applies the record in progress at this unit. -/
def applyBusy (s : State) (w c : Nat) (b : Bytes) (ep : W32) : State :=
  let r := recordPut s w b ep
  putDone w c r.1 r.2

/-- The partner is sent the record at HEAD, with its digest (07 R241, 12 R387). -/
def sendRecord (s : State) (w c : Nat) (b : Bytes) : State :=
  let k := s.cat (catKey w c)
  pairSend s (w + c) .record
    [w, c, k.openEp.toNat, k.head.toNat, (digestOf (recHeader c k.openEp.toNat k.head.toNat) b).toNat] b

/-- Where the ring's record at HEAD lies, and the record, read from the host. -/
def ringRecord (k : Cat) (hm : HostMem) : Nat × Bytes :=
  let size := ringSize k
  let off := k.head.toNat % size
  let a := k.runBase.toNat + off
  let n := leAt (hostBytes hm a 16) 4 2
  (off, hostBytes hm a (max 16 (min n (size - off))))

/-- The follower acknowledges a record, or asks for it again (07 R241, 12 R388). -/
def ackRecord (s : State) (w c : Nat) (head : W64) (ok : Bool) : State :=
  pairSend s (w + c) .recordAck [w, c, head.toNat, b2n ok] []

/-- The follower of a paired catalogue applies the holder's record and acknowledges it, or holds it while it stalls (07 R241). -/
def followerApply (s : State) (w c : Nat) (r : HeldRec) : State :=
  let p := recordPut s w r.record r.epoch
  match p.2 with
  | .ok s => ackRecord (catUpd s w c fun k => { k.unstall with follow := none }) w c r.head true
  | .stall s cause => catUpd s w c fun k => { k.stalled cause s.now p.1 with follow := some r }
  | .ue s => ringError (catUpd s w c fun k => { k with follow := some r }) w c 0 rUNCORRECTABLE_MEMORY

/-- A record that the follower holds is tried again while its epoch is open. -/
def followerRetry (s : State) (w c : Nat) : State :=
  let k := s.cat (catKey w c)
  match k.follow with
  | none => s
  | some r => if k.isOpen ∧ k.openEp = r.epoch then followerApply s w c r else s

/-- The record in progress is tried again: a stalled one, or one whose partner has acknowledged it or been lost. -/
def busyRetry (s : State) (w c : Nat) (b : Bytes) : State :=
  let k := s.cat (catKey w c)
  if k.applied then s
  else if k.alone s || decide (k.pairHead = k.head + BitVec.ofNat 64 (recLen b)) then applyBusy s w c b k.openEp
  else s

/-- The record begins: applied at once, or first sent to the partner (07 R223, R241). -/
def recBegin (s : State) (w c : Nat) (b : Bytes) : State :=
  let k := s.cat (catKey w c)
  let s1 := catUpd s w c fun k => { k with busy := some b, applied := false, follow := none, resends := 0 }
  if k.alone s then applyBusy s1 w c b k.openEp else sendRecord s1 w c b

/-- A skipped record or a NOP: it passes without a write. -/
def recPass (s : State) (w c : Nat) (b : Bytes) : State :=
  catUpd s w c fun k => { k with busy := some b, applied := true, pairHead := k.head + BitVec.ofNat 64 (recLen b) }

/-- The record at HEAD lies past the limit, or straddles it: it is not consumed, and a commit that it straddles ends (07 R231). -/
def pastLimit (s : State) (w c : Nat) : State :=
  let k := s.cat (catKey w c)
  match k.commit with
  | some m => if k.head < k.limit ∧ m.step = 2 then commitEnd s w c rADDR_ALIGN else s
  | none => s

/-- The stack whose update engine takes a record: that of its row, else the first of its table. -/
def recStack (s : State) (w : Nat) (b : Bytes) : Nat :=
  match tableIn s w (recTable b) with
  | some t => ((recRow t b).bind (rowPlace s t)).elim (t.onStacks.headD 0) (·.2.1)
  | none => 0

/-- UPDATE_RECORD_APPLY: the engine examines the record at HEAD (07 R223 to R227, R231). `sram` is what its buffers answer (12 R372). A
record that stalls and has been applied nowhere is tried again only below the limit. -/
def updateRecordApply (s0 : State) (w : WingIx) (c : Nat) (hm : HostMem) (sram : Sram) : State :=
  let k := s0.cat (catKey w c)
  let mine := decide (k.mode = 0) || decide (s0.par.lease = .holder)
  let s := match sram with | .corrected => sramCE s0 (8 + recStack s0 w (ringRecord k hm).2) | _ => s0
  if !mine then followerRetry s w c
  else if k.state ≠ .enabled ∨ !k.isOpen ∨ k.discardEp.isSome ∨ (s.wing w).state ≠ .enabled then s
  else match k.busy with
  | some b =>
    if !k.applied ∧ k.alone s ∧ k.head.toNat + recLen b > k.limit.toNat then pastLimit s w c else busyRetry s w c b
  | none =>
    if k.limit ≤ k.head ∨ k.tail ≤ k.head ∨ (!k.alone s && !linkUp s.par.link) then s
    else
      let r := ringRecord k hm
      let b := r.2
      let len := recLen b
      let inside := decide (len ≠ 0) && decide (len % 32 = 0) && decide (r.1 + len ≤ ringSize k)
      if inside ∧ k.head.toNat + len > k.limit.toNat then pastLimit s w c
      else if inside ∧ k.head.toNat + len > k.tail.toNat then s
      else match sram, recCheck s w c r.1 (ringSize k) b with
      | .bad g, _ => ringError (sramUE s (8 + recStack s w b) stUpdate g) w c 0 rUNCORRECTABLE_MEMORY
      | _, .bad check code => ringError s w c check code
      | _, .skip => recPass (violate s (some w.val) 4) w c b
      | _, .nop => recPass s w c b
      | _, .put _ _ _ => recBegin s w c b

def execUpdateRecordApply (wing : WingIx) (cat : CatIx) (hm : HostMem) (sram : Sram) (s : State) :
    Host.Outcome State Fault Refusal := .next (updateRecordApply s wing cat hm sram)

/-- What follows once the record at HEAD is settled: a DISABLE that waited, a discard that waited, the commit. -/
def recordSettled (s : State) (w c : Nat) : State :=
  let s1 := disablePoll s w c
  let k := s1.cat (catKey w c)
  if k.discardDue then discardBegin s1 w c
  else match k.commit with
  | some m => if m.step = 2 ∧ m.upto < k.head then commitEnd s1 w c rNOT_PERMITTED else commitProgress s1 w c
  | none => s1

/-- A record whose writes have begun is finished: HEAD passes it. -/
def recordFinish (s : State) (w c : Nat) : State :=
  catUpd s w c fun k => match k.busy with
    | some b => { k with head := k.head + BitVec.ofNat 64 (recLen b), busy := none, applied := false }
    | none => k

/-- UPDATE_RECORD_DONE: every write of the record has reached DRAM, at the partner too: HEAD passes it (07 R223, 13 R407). -/
def updateRecordDone (s : State) (w c : Nat) : State :=
  let k := s.cat (catKey w c)
  match k.busy with
  | none => s
  | some b =>
    let next := k.head + BitVec.ofNat 64 (recLen b)
    let mine := decide (k.mode = 0) || decide (s.par.lease = .holder)
    if !mine || !k.applied || !(k.alone s || decide (k.pairHead = next)) then s
    else recordSettled (recordFinish s w c) w c

def execUpdateRecordDone (wing : WingIx) (cat : CatIx) (s : State) : Host.Outcome State Fault Refusal :=
  .next (updateRecordDone s wing cat)

/-- VERSION_RECLAIM: the retired versions of a row go (07 R216). -/
def versionReclaim (s : State) (tab row : Nat) : State :=
  match s.table tab with
  | none => s
  | some t =>
    (s.dir.filter fun e => e.table.val == tab && e.row.toNat == row).foldl (fun s e => reclaimRow s t e) s

def execVersionReclaim (table : TabIx) (row : W32) (s : State) : Host.Outcome State Fault Refusal :=
  .next (versionReclaim s table row.toNat)

/-! ### EPOCH_OPEN and EPOCH_COMMIT (07 R228 to R231) -/

/-- Checks 1 to 4 of 07 R228, and the freeze of 13 R423. -/
def epochChecks (s : State) (c : Cmd) : List (Bool × Byte) :=
  let p := c.payload
  let k := s.cat (catKey c.wing.toNat (leAt p 0 1))
  [badWing c,
   (!zeroAt p 1 3, rRESERVED_FIELD_SET), (decide (leAt p 0 1 ≥ 8), rADDR_RANGE),
   (decide ((s.wing c.wing.toNat).state ≠ .enabled), rNOT_PERMITTED), (fenced s k, rPAIR_FENCED),
   (decide (k.sync = 4), rPARTNER_LOST)]

def epochOpen : Handler := fun s c =>
  let w := c.wing.toNat
  let n := leAt c.payload 0 1
  let k := s.cat (catKey w n)
  checked s (epochChecks s c ++ [
    (k.isOpen || k.discardEp.isSome, rNOT_PERMITTED),
    (decide ((k.vis + 1 - oldestLive s w n).toNat ≥ 2 ^ 31 - 1), rBUSY)])
    fun s => (catUpd s w n fun k => { k with openEp := k.vis + 1, isOpen := true }, .done rOK (leBytes 4 (k.vis + 1).toNat))

def execEpochOpen := scpExec 0x0205 epochOpen

def epochCommit : Handler := fun s c =>
  let w := c.wing.toNat
  let n := leAt c.payload 0 1
  let k := s.cat (catKey w n)
  let upto := BitVec.ofNat 64 (leAt c.payload 8 8)
  checked s (epochChecks s c ++ [
    (!k.isOpen || decide (k.openEp.toNat ≠ leAt c.payload 4 4), rNOT_PERMITTED), (decide (upto.toNat % 32 ≠ 0), rADDR_ALIGN),
    (decide (upto < k.head), rNOT_PERMITTED), (k.commit.isSome || k.discardEp.isSome, rBUSY)])
    fun s =>
     let s1 := catUpd s w n fun k => { k with limit := upto }
     if k.state = .error ∧ k.head ≠ upto then (s1, .done rNOT_PERMITTED [])
     else if k.head = upto ∧ !k.inProgress ∧ k.alone s then
       (retirePoll (commitVisible s1 w n) w n, .done rOK (leBytes 8 s.now))
     else
       (commitProgress (catUpd s1 w n fun k =>
         { k with commit := some { fn := c.fn, hub := c.hub, epoch := k.openEp, step := 2, upto := upto } }) w n,
        .pend false [])

def execEpochCommit := scpExec 0x0206 epochCommit

/-- EPOCH_COMMIT_TIMEOUT: 5 ms passed at step 2 or 3: BUSY (07 R230). -/
def execEpochCommitTimeout (wing : WingIx) (cat : CatIx) (s : State) : Host.Outcome State Fault Refusal :=
  .next (commitEnd s wing cat rBUSY)

/-! ### EPOCH_RETIRE (07 R234 to R238) -/

/-- The batch is in progress: a GPE has accepted a lookup of it, or something of it has arrived (06 R191). -/
def Batch.begun (b : Batch) : Bool := !b.taken.isEmpty || !b.rows.isEmpty || !b.parts.isEmpty

/-- A request that pins a retired epoch completes with EPOCH_RETIRED (07 R237). -/
def retireReq (s : State) (r : Req) : State :=
  match s.batches.find? fun b => b.req == r.id && b.begun && decide (r.phase = .running) with
  | some b =>
    match batchLaunch s b, s.table b.table with
    | some l, some t =>
      abortReq s r.id rEPOCH_RETIRED l.pcOff (gpeDetail (some (bagGPE s (t.onStacks.headD 0) 0)) (s.doc b.doc).rank b.table)
    | _, _ => abortReq s r.id rEPOCH_RETIRED 0xFFFFFFFF 0
  | none => abortReq s r.id rEPOCH_RETIRED 0xFFFFFFFF 0

/-- Every request of the catalogue whose pin precedes F completes (07 R237). A striped catalogue retires on this unit, whatever
the partner holds in use (13 R432). -/
def forceRetire (s0 : State) (w c : Nat) (f : W32) : State :=
  let s := catUpd s0 w c fun k =>
    if k.mode = 2 then { k with forcedTo := some (match k.forcedTo with | some g => if epPrec f g then g else f | none => f) }
    else k
  ((catReqs s w c).filter fun r => match r.epoch with | some e => epPrec e f | none => false).foldl retireReq s

/-- EPOCH_RETIRE. -/
def epochRetire : Handler := fun s c =>
  let w := c.wing.toNat
  let p := c.payload
  let n := leAt p 0 1
  let k := s.cat (catKey w n)
  let f := BitVec.ofNat 32 (leAt p 4 4)
  let isO := k.isOpen && decide (k.openEp = f)
  let force := bit (leAt p 1 1) 0 && !isO
  checked s [
      badWing c, (decide (leAt p 1 1 > 1) || !zeroAt p 2 2, rRESERVED_FIELD_SET), (decide (n ≥ 8), rADDR_RANGE),
      (decide ((s.wing w).state ≠ .enabled), rNOT_PERMITTED), (isO && fenced s k, rPAIR_FENCED),
      (!isO && !epLe f k.vis, rADDR_RANGE), (force && (rateFull s c.fn || logFull s), rBUSY)]
    fun s => if isO then
      (match k.commit with
       | some m =>
         if m.step = 2 then
           discardNow (commitDrop (catUpd s w n fun k => { k with limit := maxLimit }) w n rNOT_PERMITTED) w n k
         else (s, .pend false [waitCommit])
       | none => discardNow s w n k)
     else
       let s1 := if force then retirePoll (forceRetire (scpCommit s c) w n f) w n else s
       if epLe f (oldestLive s1 w n) then (s1, .done rOK []) else (s1, .pend force [waitL])
where
  /-- The discard of O: at once, or after the record whose writes have begun (07 R234). -/
  discardNow (s : State) (w n : Nat) (k : Cat) : State × Res :=
    if k.applied then
      (catUpd s w n fun k => { k with discardEp := some k.openEp }, .pend false [waitDiscard])
    else (discardBegin s w n, .done rOK [])

def execEpochRetire := scpExec 0x0207 epochRetire

/-- EPOCH_RETIRE_TIMEOUT: 5 ms passed for the EPOCH_RETIRE that has waited longest: BUSY, unless L has reached its F (07 R236). -/
def execEpochRetireTimeout (wing : WingIx) (cat : CatIx) (s0 : State) : Host.Outcome State Fault Refusal :=
  let s := retirePoll s0 wing cat
  let runs := (retireRuns s wing cat).filter fun x => x.2.2.data.headD 0 == waitL && !x.2.2.committed
  .next (match runs with
    | [] => s
    | x :: rest =>
      let y := rest.foldl (fun a b => if b.2.2.start < a.2.2.start then b else a) x
      runFinish s y.1 y.2.1 rBUSY [])

/-- A line leaves the hot-row cache. -/
def cacheDrop (s : State) (a : Nat) : State := { s with cache := s.cache.filter fun c => c.line != lineOf a }

/-- One piece of a home slot is restored from its copy. Where the copy is uncorrectable, it is poisoned, and the home line is written with
the poison pattern, which no cached copy of it survives (07 R217, R234). -/
def restorePiece (s : State) (w n : Nat) (home copy : Nat) : State :=
  match pieceRead s w copy n with
  | some b => lineWrite s home b
  | none => cacheDrop (poison (poison s copy) home) home

/-- A row written in the discarded epoch returns to what it was (07 R234). -/
def restoreRow (s : State) (t : Table) (e : DirEntry) : State :=
  let n := if t.slotBytes = 32 then 32 else 64
  match e.versions with
  | (_, home) :: (ep, x) :: rest =>
    if x = slotUnwritten then
      dirSet (slotWrite s t e.stack home (List.replicate t.slotBytes 0#8)) { e with versions := [(ep, x)] }
    else
      let s1 := ((slotPieces t e.stack home).zip (slotPieces t e.stack x)).foldl (fun s p => restorePiece s t.wing n p.1 p.2) s
      tableUse (dirSet s1 { e with versions := (ep, home) :: rest }) e.table fun l => l.filter (· != (e.stack, x))
  | _ => s

/-- While a catalogue is copied, a row that only holds the discarded epoch returns to awaiting its copy (13 R428). -/
def unsettle (s : State) (w c : Nat) (ep : W32) : State :=
  let k := s.cat (catKey w c)
  let back := k.settled.filter fun x =>
    match s.table x.1 with
    | none => false
    | some t =>
      match rowPlace s t x.2 with
      | none => false
      | some (_, st, home) =>
        (dirFind s st x.1 x.2).isNone &&
        (match slotRead s w t st home with | .ok b => !allZero (slice b 0 16) && decide (leAt b 0 4 = ep.toNat) | .error _ => false)
  catUpd s w c fun k => { k with settled := k.settled.filter fun x => !back.contains x }

/-- DISCARD_RESTORE_DONE: every row written in the discarded epoch is restored (07 R234). -/
def discardRestoreDone (s : State) (w c : Nat) : State :=
  let k := s.cat (catKey w c)
  match k.discardEp with
  | none => s
  | some ep =>
    if k.isOpen then s
    else
      let mine (e : DirEntry) : Bool := match s.table e.table with | some t => t.wing.val == w && t.cat.val == c | none => false
      let hit := s.dir.filter fun e => mine e && decide ((e.versions.head?.map (·.1)) = some ep)
      let s0 := if k.sync = 2 then unsettle s w c ep else s
      let s1 := hit.foldl (fun s e => match s.table e.table with | some t => restoreRow s t e | none => s) s0
      catUpd s1 w c fun k => { k with discardEp := none }

def execDiscardRestoreDone (wing : WingIx) (cat : CatIx) (s : State) : Host.Outcome State Fault Refusal :=
  .next (discardRestoreDone s wing cat)

/-- A request that a forced retirement may end: suspended or halted (07 R238). -/
def Req.parked (r : Req) : Bool := decide (r.phase = .suspended) || decide (r.phase = .halted)

/-- The stalled record could proceed if only these epochs were in use. -/
def stallFreed (s : State) (w c : Nat) (use : List W32) : Bool :=
  let k := s.cat (catKey w c)
  let live (e : DirEntry) : List (W32 × Nat) := liveVersions k use none e.versions
  match k.stallRow with
  | none => false
  | some (st, tab, row) =>
    if k.stall = 1 then (match dirFind s st tab row with | some e => decide ((live e).length < 4) | none => true)
    else if k.stall = 2 then s.dir.any fun e => e.stack == st && e.table.val == tab &&
      e.versions.any fun v => !(live e).contains v && v.2 != slotUnwritten
    else
      let gone := (s.dir.filter fun e => e.stack == st && decide ((live e).length ≤ 1) &&
        (match s.table e.table with | some t => t.wing.val == w && t.cat.val == c | none => false)).length
      decide (dirUsed s w st - gone < fld (s.wing w).dirCtl.toNat 0 19) && decide (dirTotal s st - gone < 262144)

/-- The earliest F whose retirement frees the stalled record: one past a pin of a parked request, where every pin that
precedes it is of a parked request (07 R238). -/
def forcedEpoch (s : State) (w c : Nat) : Option W32 :=
  let k := s.cat (catKey w c)
  let rs := catReqs s w c
  let cand := (rs.filter (·.parked)).filterMap fun r => r.epoch.map (· + 1)
  let ok (f : W32) : Bool :=
    rs.all (fun r => match r.epoch with | some e => !epPrec e f || r.parked | none => true) &&
    stallFreed s w c ((inUse s w c).filter fun e => !epPrec e f)
  match cand.filter ok with
  | [] => none
  | f :: rest => if k.stall = 0 then none else some (earliest f rest)

/-- STALL_FORCED_RETIRE: the record has stalled for 100 ms, and only parked requests keep it so (07 R238). -/
def stallForcedRetire (s : State) (w : WingIx) (c : Nat) : State :=
  match forcedEpoch s w c with
  | none => s
  | some f => retirePoll (forceRetire (curatorLog s w 0x0207 f.toNat) w c f) w c

def execStallForcedRetire (wing : WingIx) (cat : CatIx) (s : State) : Host.Outcome State Fault Refusal :=
  .next (stallForcedRetire s wing cat)

/-! ### The pair (07 R241 to R244, 12 R388, 13 R428) -/

/-- The follower knows the open epoch from the records and commit requests of the holder. -/
def followOpen (s : State) (w c : Nat) (ep : W32) : State :=
  catUpd s w c fun k => if k.isOpen ∨ k.vis = ep then k else { k with isOpen := true, openEp := ep }

/-- A mirrored record for a row that awaits its copy: written to the home slot (13 R428). -/
def settleRow (s : State) (w c : Nat) (b : Bytes) (ep : W32) : Option State :=
  let k := s.cat (catKey w c)
  if k.sync ≠ 2 ∨ recType b = 1 then none
  else match tableIn s w (recTable b) with
  | none => none
  | some t =>
    match recRow t b with
    | none => none
    | some row =>
      match rowPlace s t row with
      | none => none
      | some (_, st, home) =>
        if k.settled.contains (recTable b, row) then none
        else
          let s1 := catUpd s w c fun k => { k with settled := k.settled ++ [(recTable b, row)] }
          some (slotWrite s1 t st home (rowImage (slice b 16 (16 + rowPayload t.elem t.dim)) ep slotNone))

/-- PAIR_RECORD_RECEIVE: the follower applies the holder's record and acknowledges it; one whose digest differs from that of the header
and the bytes it received is discarded and asked for again (07 R241, 12 R387, R388). -/
def pairRecordReceive (s : State) (w : WingIx) (c : Nat) (ep : W32) (head : W64) (sent : Bytes) (digestOk : Carried) : State :=
  let k := s.cat (catKey w c)
  if k.mode = 0 ∨ s.par.lease = .holder ∨ !linkUp s.par.link then s
  else match takeCarried digestOk (recHeader c ep.toNat head.toNat) sent with
  | none =>
    let die := recStack s w sent
    ackRecord (digestFail s w (0x80 + 8 + die) (8 + die) 3) w c head false
  | some b =>
    let s1 := followOpen s w c ep
    match settleRow s1 w c b ep with
    | some s2 => ackRecord s2 w c head true
    | none => followerApply s1 w c { epoch := ep, head := head, record := b }

def execPairRecordReceive (wing : WingIx) (cat : CatIx) (epoch : W32) (head : W64) (record : Bytes) (digestOk : Carried)
    (s : State) : Host.Outcome State Fault Refusal := .next (pairRecordReceive s wing cat epoch head record digestOk)

/-- PAIR_RECORD_ACK: the partner's writes have reached its DRAM, or it asks for the record again, at most three times
(12 R388). -/
def pairRecordAck (s : State) (w c : Nat) (head : W64) (ok : Bool) : State :=
  let k := s.cat (catKey w c)
  match k.busy with
  | none => s
  | some b =>
    if s.par.lease ≠ .holder ∨ k.head ≠ head ∨ k.applied then s
    else if ok then
      applyBusy (catUpd s w c fun k => { k with pairHead := head + BitVec.ofNat 64 (recLen b), resends := 0 }) w c b k.openEp
    else if k.resends ≥ 3 then ringError s w c 0 rDIGEST_MISMATCH
    else sendRecord (catUpd s w c fun k => { k with resends := k.resends + 1 }) w c b

def execPairRecordAck (wing : WingIx) (cat : CatIx) (head : W64) (ok : Bool) (s : State) : Host.Outcome State Fault Refusal :=
  .next (pairRecordAck s wing cat head ok)

/-- PARTNER_COMMIT_REQUEST: the follower performs its own commit point for the epoch, or begins its discard (07 R244). -/
def partnerCommitRequest (s : State) (w c : Nat) (ep : W32) (discard : Bool) (term : W32) : State :=
  let k := s.cat (catKey w c)
  let reply (s : State) : State :=
    pairSend s (w + c) .commitReply [w, c, ep.toNat, s.now, (oldestOwn s w c).toNat] []
  if k.mode = 0 ∨ s.par.lease = .holder ∨ !linkUp s.par.link then s
  else if discard then
    if k.isOpen ∧ k.openEp = ep then discardBegin s w c else s
  else if k.vis = ep then reply s
  else
    reply (retirePoll (catUpd s w c fun k =>
      { k with vis := ep, openEp := ep, isOpen := false, termOfV := term, limit := maxLimit }) w c)

def execPartnerCommitRequest (wing : WingIx) (cat : CatIx) (epoch : W32) (discard : Bool) (term : W32) (s : State) :
    Host.Outcome State Fault Refusal := .next (partnerCommitRequest s wing cat epoch discard term)

/-- PARTNER_COMMIT_REPLY: the partner's visibility precedes the holder's commit point (07 R244, 13 R408). A unit that no longer holds the
lease, or has lost the link, commits nothing (07 R246, 13 R413). -/
def partnerCommitReply (s : State) (w c : Nat) (ep oldest : W32) : State :=
  let k := s.cat (catKey w c)
  let s1 := catUpd s w c fun k => { k with partnerOldest := some oldest }
  match k.commit with
  | some m => if m.step = 3 ∧ m.epoch = ep ∧ !fenced s k ∧ linkUp s.par.link then commitPoint s1 w c else s1
  | none => s1

def execPartnerCommitReply (wing : WingIx) (cat : CatIx) (epoch : W32) (visTs : W64) (oldest : W32) (s : State) :
    Host.Outcome State Fault Refusal :=
  .next (let _ := visTs; partnerCommitReply s wing cat epoch oldest)

end Sys2Proof.Machine
end

