-- ==== Sys2Proof/Machine/Catalogues.lean ====
section
/-! DEFINITION. The catalogue commands (06 R169 to R178, R198, R199; 13 R406): creating and deleting tables, their storage, and
pinned rows. -/

namespace Sys2Proof.Machine

/-! ### Space (06 R175) -/

/-- A run of granules on one stack: first and count. -/
abbrev Run2 := Nat × Nat

/-- A run without the granules of another. -/
def runSub (f r : Run2) : List Run2 :=
  let lo := max f.1 r.1
  let hi := min (f.1 + f.2) (r.1 + r.2)
  if hi ≤ lo then [f]
  else (if f.1 < lo then [(f.1, lo - f.1)] else []) ++ (if hi < f.1 + f.2 then [(hi, f.1 + f.2 - hi)] else [])

/-- Joins a run to the last of a rising list where they touch. -/
def runJoin (l : List Run2) (r : Run2) : List Run2 :=
  match l.getLast? with
  | some x => if x.1 + x.2 = r.1 then l.dropLast ++ [(x.1, x.2 + r.2)] else l ++ [r]
  | none => [r]

/-- Inserts a run before the first smaller one: largest first, then lowest first. -/
def runInsert (r : Run2) : List Run2 → List Run2
  | [] => [r]
  | x :: t => if x.2 < r.2 then r :: x :: t else x :: runInsert r t

/-- The granules of one extent. -/
def extGranules : Nat := 16384

/-- The free runs of a wing on a stack; `also` counts space still being cleared as free. -/
def freeRuns (s : State) (w k : Nat) (also : Bool) : List Run2 :=
  let own := (s.wingExtents w).filter fun e => decide (e / 48 = k) && !isExt47 e
  let base := own.foldl (fun l e => runJoin l (e % 48 * extGranules, extGranules)) []
  let taken := s.tables.flatMap fun x =>
    match x.2 with
    | some t => if also && (t.phase == .deleted || t.phase == .clearing) then [] else
        (t.runs.filter fun r => r.stack == k).map fun r => (r.first, r.count)
    | none => []
  taken.foldl (fun l r => l.flatMap fun f => runSub f r) base

/-- Takes `n` granules from runs, the largest first. -/
def takeRuns (k : Nat) : Nat → List Run2 → Option (List Gran)
  | 0, _ => some []
  | _, [] => none
  | n, r :: rest =>
    if n ≤ r.2 then some [{ stack := k, first := r.1, count := n }]
    else (takeRuns k (n - r.2) rest).map ({ stack := k, first := r.1, count := r.2 } :: ·)

/-- `n` granules of a wing on a stack, in at most 64 runs; the largest runs are taken first (DESIGN CHOICE, log entry 24). -/
def allocRuns (s : State) (w k n : Nat) (also : Bool) : Option (List Gran) :=
  match takeRuns k n ((freeRuns s w k also).foldl (fun l r => runInsert r l) []) with
  | some l => if l.length ≤ 64 then some l else none
  | none => none

/-- The portions of all stacks of a table. -/
def allocTable (s : State) (t : Table) (also : Bool) : Option (List Gran) :=
  let n := ceilDiv ((homeSlots s t + spareSlots s t) * t.slotBytes) 65536
  t.onStacks.foldl (fun acc k => acc.bind fun l => (allocRuns s t.wing k n also).map (l ++ ·)) (some [])

/-! ### CAT_TABLE_CREATE -/

/-- The table a descriptor describes, without storage. -/
def tableOf (w : WingIx) (id : Nat) (d : Bytes) : Table :=
  let n := 2 ^ tdStripe d
  { wing := w, cat := Fin.ofNat 8 (tdCat d), id := id, desc := d, rows := tdRows d, dim := tdDim d, elem := tdFormat d,
    stripe := tdStripe d, spare := tdSpare d, slotBytes := rowStride (tdFormat d) (tdDim d),
    onStacks := (List.range n).map (tdStack d), runs := [], phase := .creating, createdTs := 0, deletedTs := 0, pins := [],
    used := [] }

/-- Tables of a wing (06 R170): a deleted one no longer counts. -/
def wingTables (s : State) (w : Nat) : Nat :=
  (s.tables.filter fun x => match x.2 with
    | some t => t.wing.val == w && (t.phase == .creating || t.phase == .ready) | none => false).length

/-- Tables in a wing: those whose creation has committed and whose deletion has not (06 R171, R200). -/
def liveTables (s : State) (w : Nat) : Nat :=
  (s.tables.filter fun x => match x.2 with | some t => t.wing.val == w && t.phase == .ready | none => false).length

/-- Checks 1 to 4 of 06 R173. -/
def createHead (d : Bytes) : List (Bool × Byte) :=
  let m := leAt d 8 1
  let n := 2 ^ min 3 (tdStripe d)
  [(decide (fld m 4 4 ≠ 0) || !zeroAt d 10 2 || !zeroAt d 32 32 || (decide (tdTransform d ≠ 2) && decide (tdSalt d ≠ 0)),
      rRESERVED_FIELD_SET),
   (decide (tdFormat d > 4) || decide (tdTransform d = 3) || decide (fld m 2 2 > 1) || decide (tdStripe d > 3) ||
      (List.range 8).any (fun j => decide (n ≤ j) && decide (tdStack d j ≠ 0xFF)), rRESERVED_VALUE),
   (decide (tdDim d % 16 ≠ 0) || decide (tdDim d < 16) || decide (tdDim d > 2048), rSHAPE_INVALID),
   (decide (tdCat d ≥ 8), rADDR_RANGE)]

/-- Checks 5 to 10 of 06 R173. -/
def createRest (s : State) (w : WingIx) (d : Bytes) : List (Bool × Byte) :=
  let t := tableOf w 0 d
  let ks := t.onStacks
  [(ks.any (fun k => decide (k > 7)) || decide (ks.eraseDups.length ≠ ks.length), rRES_OVERLAP),
   (decide (wingTables s w ≥ 4096), rRES_INSUFFICIENT),
   (decide (s.tables.length ≥ 65536), rRES_UNAVAILABLE),
   (ks.any (fun k => (s.stack k).failed || ((s.unit (uGPE (2 * k))).quarantined && (s.unit (uGPE (2 * k + 1))).quarantined)),
      rRES_UNAVAILABLE),
   ((allocTable s t true).isNone, rRES_INSUFFICIENT),
   ((allocTable s t false).isNone, rBUSY)]

/-- The lowest free table ID. -/
def freeTable (s : State) : Nat := ((List.range (s.tables.length + 1)).find? fun i => (s.table i).isNone).getD 0

/-- The lowest free table ID above one. -/
def nextFree (s : State) (id : Nat) : Option Nat :=
  ((List.range (s.tables.length + 1)).map (id + 1 + ·)).find? fun i => decide (i < 65536) && (s.table i).isNone

/-- The partner's answer that an ID is taken there: no result code, so that the holder asks again with another ID (13 R406; DESIGN CHOICE,
log entry 76). -/
def idTaken : Byte := 0xFF#8

/-- Reserves a table's ID and storage. -/
def tableReserve (s : State) (w : WingIx) (id : Nat) (d : Bytes) : State :=
  let t := tableOf w id d
  s.setTable id (some { t with runs := (allocTable s t false).getD [] })

/-- Acceptance of a table command of a paired catalogue (13 R406). -/
def pairAccept (s : State) (w c : Nat) : List (Bool × Byte) :=
  let k := s.cat (catKey w c)
  [(fenced s k, rPAIR_FENCED), (decide (k.mode ≠ 0) && !linkUp s.par.link, rPARTNER_LOST)]

/-- The partner is asked to do the same (13 R406). -/
def askPartner (s : State) (c : Cmd) (w : WingIx) (cat : Nat) (delete : Bool) (id : Nat) (d : Bytes) : State :=
  let x : TableWait := { fn := c.fn, hub := c.hub, wing := w, delete := delete, table := id, desc := d }
  pairSend (s.updPar fun p => { p with tableWait := p.tableWait ++ [x] }) (w.val + cat) .tableRequest [w.val, b2n delete, id] d

def catTableCreate : Handler := fun s c =>
  let d := c.payload
  let w : WingIx := Fin.ofNat 16 c.wing.toNat
  checked s ([badWing c] ++ createHead d ++ pairAccept s w (tdCat d) ++ createRest s w d ++ [(longFull s, rBUSY)]) fun s =>
    let id := freeTable s
    let s1 := tableReserve s w id d
    if (s.cat (catKey w (tdCat d))).mode = 0 then (s1, .pend false [id, 0, 1])
    else (askPartner s1 c w (tdCat d) false id d, .pend false [id, 0, 0])

def execCatTableCreate := scpExec 0x0201 catTableCreate

/-- The mailbox whose CAT_TABLE_CREATE reserved the table. -/
def creator (s : State) (id : Nat) : Option (Fn × Hub × Run) :=
  s.mbx.findSome? fun e =>
    match e.2.run with
    | some r => if r.op = 0x0201 ∧ r.data.headD 0x10000 = id then some (Fin.ofNat 256 (e.1 / 2), Fin.ofNat 2 e.1, r) else none
    | none => none

/-- Granules of a table over all stacks. -/
def granules (t : Table) : Nat := (t.runs.map (·.count)).sum

/-- The table's storage holds clear lines (06 R173, R176). -/
def clearStorage (s : State) (t : Table) : State :=
  t.runs.foldl (fun s r => dramZero s (r.stack * (48 * 2 ^ 30) + r.first * 65536) (r.count * 65536)) s

/-- The commit point of a creation (06 R176): no admission shares its timestamp. -/
def tableCommit (s : State) (id : Nat) : State :=
  match creator s id, s.table id with
  | some x, some t =>
    let s1 := advance s 1
    let s2 := s1.setTable id (some { t with phase := .ready, createdTs := s1.now })
    let s3 := scpCommit s2 (x.2.2.cmd x.1 x.2.1)
    advance (runFinish s3 x.1 x.2.1 rOK (leBytes 2 id ++ [0#8, 0#8] ++ leBytes 4 (granules t))) 1
  | _, _ => s

/-- TABLE_CREATE_CLEAR_DONE: the storage of a table being created is clear: its commit point, once the partner has agreed. A
table that the partner asked for is ready, and the partner is told. -/
def tableCreateClearDone (s : State) (id : Nat) : State :=
  match s.table id with
  | none => s
  | some t =>
    if t.phase ≠ .creating then s
    else
      let s1 := clearStorage s t
      match creator s id with
      | some x =>
        if x.2.2.data.getD 2 0 = 1 then tableCommit s1 id else runUpdate s1 x.1 x.2.1 fun r => { r with data := [id, 1, 0] }
      | none =>
        pairSend (s1.setTable id (some { t with phase := .ready, createdTs := s1.now })) (t.wing.val + t.cat.val) .tableReply [id, 0] []

def execTableCreateClearDone (table : TabIx) (s : State) : Host.Outcome State Fault Refusal :=
  .next (tableCreateClearDone s table)

/-- A creation ends without its commit point: ID and storage are free again. -/
def tableCancel (s : State) (id : Nat) : State :=
  match s.table id with
  | some t => if t.phase = .creating then s.setTable id none else s
  | none => s

/-! ### CAT_TABLE_DELETE and storage (06 R176, R177) -/

/-- The table leaves the wing at a deletion's commit point. -/
def tableDelete (s : State) (id : Nat) : State :=
  s.updTable id fun t => t.map fun t => { t with phase := .deleted, deletedTs := s.now }

/-- No table of the ID is in the wing. A WING of 16 or above from PF0 is no wing: ADDR_RANGE, the first check (03 R589); any other ID
fails check 8 of 03 R87 (06 R171). -/
def noTable (c : Cmd) (s : State) : State × Res := answer (if c.wing.toNat ≥ 16 then rADDR_RANGE else rNOT_PERMITTED) [] s

def catTableDelete : Handler := fun s c =>
  let id := leAt c.payload 0 2
  let w : WingIx := Fin.ofNat 16 c.wing.toNat
  match s.table id with
  | none => noTable c s
  | some t =>
    checked s ([badWing c, (!zeroAt c.payload 2 2, rRESERVED_FIELD_SET)] ++ pairAccept s w t.cat) fun s =>
      if (s.cat (catKey w t.cat)).mode = 0 then
        (advance (scpCommit (tableDelete (advance s 1) id) c) 1, .done rOK [])
      else (askPartner s c w t.cat true id [], .pend false [id])

def execCatTableDelete := scpExec 0x0202 catTableDelete

/-- No request that may still read a deleted table is left (06 R176). -/
def tableIdle (s : State) (t : Table) : Bool :=
  !(s.reqs.any fun r => r.wing == t.wing && decide (r.cat = some t.cat) && !r.isDone && decide (r.phase ≠ .validating) &&
    decide (r.admitTs < t.deletedTs))

/-- The table's lines leave the hot-row caches: its pins are released (06 R176). -/
def dropLines (s : State) (t : Table) : State :=
  { s with cache := s.cache.filter fun c => !tableHolds t (c.line * 64) }

/-- TABLE_STORAGE_CLEAR: after the last request that reads it, a deleted table's pins and versions go and its storage is
cleared. -/
def tableStorageClear (s : State) (id : Nat) : State :=
  match s.table id with
  | none => s
  | some t =>
    if t.phase ≠ .deleted ∨ !tableIdle s t then s
    else
      let s1 := dropLines { s with dir := s.dir.filter fun e => e.table.val != id } t
      s1.setTable id (some { t with phase := .clearing, used := [] })

def execTableStorageClear (table : TabIx) (s : State) : Host.Outcome State Fault Refusal := .next (tableStorageClear s table)

/-- TABLE_STORAGE_CLEAR_DONE: the storage is free and the ID reusable. -/
def tableStorageClearDone (s : State) (id : Nat) : State :=
  match s.table id with
  | none => s
  | some t => if t.phase = .clearing then (clearStorage s t).setTable id none else s

def execTableStorageClearDone (table : TabIx) (s : State) : Host.Outcome State Fault Refusal :=
  .next (tableStorageClearDone s table)

/-! ### The partner's tables (13 R406) -/

/-- Step 3 of a resynchronisation failed: the catalogue is STALE, with an alarm (13 R427). -/
def resyncFailed (s : State) (w c : Nat) : State :=
  let k := s.cat (catKey w c)
  if k.sync = 1 ∨ k.sync = 2 then alarm (s.setCat (catKey w c) { k with sync := 1 }) 0x0402 w 18 (catKey w c) 0 0 0 else s

/-- In a resynchronisation the follower already has the table that it is asked for (13 R427 step 3). -/
def resyncHas (s : State) (w : WingIx) (cat id : Nat) (d : Bytes) : Bool :=
  let k := s.cat (catKey w cat)
  decide (k.sync = 1 ∨ k.sync = 2) && (match tableIn s w id with | some t => t.cat.val == cat && t.desc == d | none => false)

/-- PARTNER_TABLE_REQUEST: the follower creates or deletes the same table, and answers. -/
def partnerTableRequest (s : State) (w : WingIx) (delete : Bool) (id : Nat) (d : Bytes) : State :=
  let cat := if delete then (match s.table id with | some t => t.cat.val | none => 0) else tdCat d
  let reply (s : State) (code : Byte) : State := pairSend s (w.val + cat) .tableReply [id, code.toNat] []
  if s.par.lease = .holder ∨ !linkUp s.par.link then s
  else if delete then
    match tableIn s w id with
    | some _ => reply (advance (tableDelete (advance s 1) id) 1) rOK
    | none => reply s rOK
  else if resyncHas s w cat id d then reply s rOK
  else
    match firstFail ([((s.table id).isSome, idTaken)] ++ createHead d ++ createRest s w d) with
    | some code => reply (resyncFailed s w cat) code
    | none => tableReserve s w id d

def execPartnerTableRequest (wing : WingIx) (delete : Bool) (table : TabIx) (desc : Bytes) (s : State) :
    Host.Outcome State Fault Refusal := .next (partnerTableRequest s wing delete table desc)

/-- A table command that waits for the partner ends with a code; a creation gives its storage back. -/
def tableWaitFail (s : State) (x : TableWait) (code : Byte) : State :=
  let s1 := { s with par := { s.par with tableWait := s.par.tableWait.filter (· != x) } }
  runFinish (if x.delete then s1 else tableCancel s1 x.table) x.fn x.hub code []

/-- The ID of a creation is taken at the partner: the next one that is free here is reserved in its place, with the same storage, and
the partner is asked again (13 R406). -/
def tableRename (s : State) (x : TableWait) : State :=
  match nextFree s x.table, s.table x.table with
  | some id, some t =>
    let s1 := (s.setTable x.table none).setTable id (some { t with id := id })
    let s2 := runUpdate s1 x.fn x.hub fun r => { r with data := [id, r.data.getD 1 0, 0] }
    pairSend (s2.updPar fun p => { p with tableWait := p.tableWait.map fun y => if y = x then { x with table := id } else y })
      (t.wing.val + t.cat.val) .tableRequest [x.wing.val, 0, id] x.desc
  | _, _ => tableWaitFail s x rRES_UNAVAILABLE

/-- PARTNER_TABLE_REPLY: the partner's code for the command of a mailbox. -/
def partnerTableReply (s : State) (fn : Fn) (hub : Hub) (code : Byte) : State :=
  match s.par.tableWait.find? fun x => x.fn == fn && x.hub == hub with
  | none => s
  | some x =>
    if code = idTaken ∧ !x.delete then tableRename s x
    else if code ≠ rOK then tableWaitFail s x code
    else
      let s1 := { s with par := { s.par with tableWait := s.par.tableWait.filter (· != x) } }
      match (s1.mbox (mbxKey fn hub)).run with
      | none => s1
      | some r =>
        if x.delete then
          let s2 := scpCommit (tableDelete (advance s1 1) x.table) (r.cmd fn hub)
          runFinish (advance s2 1) fn hub rOK []
        else
          let s2 := runUpdate s1 fn hub fun r => { r with data := [x.table, r.data.getD 1 0, 1] }
          if r.data.getD 1 0 = 1 then tableCommit s2 x.table else s2

def execPartnerTableReply (fn : Fn) (hub : Hub) (code : Byte) (s : State) : Host.Outcome State Fault Refusal :=
  .next (partnerTableReply s fn hub code)

/-! ### CAT_PIN and CAT_UNPIN (06 R198, R199) -/

/-- The ranges of a payload: first row and count. -/
def pinRanges (p : Bytes) : List (Nat × Nat) :=
  (List.range (leAt p 2 2)).map fun i => (leAt p (8 + 8 * i) 4, leAt p (12 + 8 * i) 4)

/-- The lines of the named rows' home slots on this unit, each once. -/
def pinLines (s : State) (t : Table) (rs : List (Nat × Nat)) : List Nat :=
  (rs.flatMap fun r => (List.range r.2).flatMap fun i =>
    match rowPlace s t (r.1 + i) with
    | some (_, k, home) => (slotPieces t k home).map lineOf
    | none => []).eraseDups

def pinChecks (c : Cmd) (t : Table) : List (Bool × Byte) :=
  let rs := pinRanges c.payload
  [badWing c, (!zeroAt c.payload 4 4, rRESERVED_FIELD_SET),
   (rs.isEmpty || rs.any (fun r => r.2 == 0), rRESERVED_VALUE),
   (rs.any (fun r => decide (r.1 + r.2 > t.rows)), rADDR_RANGE)]

def pinnedBy (w : WingIx) (line : Nat) (c : CacheLine) : Bool := c.line == line && c.wing == w && c.pinned


/-- Pinned lines of a wing on a stack. -/
def wingPinned (s : State) (w : WingIx) (k : Nat) : Nat :=
  (s.cache.filter fun c => c.pinned && c.wing == w && c.stack == k).length

/-- The lines would pass the wing's quota, the stack's lines, or 8 ways of a set. -/
def pinOver (s : State) (w : WingIx) (new : List Nat) : Bool :=
  (List.range 8).any (fun k =>
    let n := (new.filter fun l => stackOf (l * 64) == k).length
    let all := (s.cache.filter fun c => c.pinned && c.stack == k).length
    decide (n ≠ 0) && (decide (wingPinned s w k + n > fld (s.wing w).cacheCtl.toNat 0 19) || decide (all + n > 262144))) ||
  new.any fun l =>
    let same (x : Nat) : Bool := stackOf (x * 64) == stackOf (l * 64) && cacheSet (x * 64) == cacheSet (l * 64)
    decide ((s.cache.filter fun c => c.pinned && same c.line).length + (new.filter same).length > 8)

/-- One line is read into the cache and pinned; the least recently used unpinned line of a full set gives way. -/
def pinLine (s : State) (w : WingIx) (l : Nat) : State :=
  let k := stackOf (l * 64)
  let inSet (c : CacheLine) : Bool := c.stack == k && cacheSet (c.line * 64) == cacheSet (l * 64)
  let s1 := { s with cache := s.cache.filter fun c => !(c.line == l && c.wing == w) }
  let s2 := if (s1.cache.filter inSet).length < 16 then s1 else cacheEvict s1 fun c => inSet c && !c.pinned
  { s2 with cache := s2.cache ++ [{ stack := k, line := l, wing := w, gen := (s.ext (extOf (l * 64))).gen, pinned := true, used := s.now }] }

def catPin : Handler := fun s c =>
  let w : WingIx := Fin.ofNat 16 c.wing.toNat
  match tableIn s w (leAt c.payload 0 2) with
  | none => noTable c s
  | some t =>
    let new := (pinLines s t (pinRanges c.payload)).filter fun l => !s.cache.any (pinnedBy w l)
    checked s (pinChecks c t ++ [(pinOver s w new, rRES_INSUFFICIENT)]) fun s =>
      match new.find? fun l => (pieceRead s w (l * 64) 64).isNone with
      | some l => (poison s (l * 64), .done rUNCORRECTABLE_MEMORY [])
      | none => (new.foldl (fun s l => pinLine s w l) (scpCommit s c), .done rOK (leBytes 4 new.length))

def execCatPin := scpExec 0x0203 catPin

def catUnpin : Handler := fun s c =>
  let w : WingIx := Fin.ofNat 16 c.wing.toNat
  match tableIn s w (leAt c.payload 0 2) with
  | none => noTable c s
  | some t =>
    checked s (pinChecks c t) fun s =>
      let ls := (pinLines s t (pinRanges c.payload)).filter fun l => s.cache.any (pinnedBy w l)
      let s1 := scpCommit s c
      ({ s1 with cache := s1.cache.map fun c => if ls.any (fun l => pinnedBy w l c) then { c with pinned := false } else c },
       .done rOK (leBytes 4 ls.length))

def execCatUnpin := scpExec 0x0204 catUnpin

end Sys2Proof.Machine
end

