-- ==== Sys2Proof/Machine/Bindings.lean ====
section
/-! DEFINITION. The units of wings (02 R39 to R47): the units a re-binding names, the ones that re-bindings in progress hold, and
the functions through which the host reaches a wing. -/

namespace Sys2Proof.Machine

/-- Units of a WING_REBIND payload: kind and device index (02 R47). -/
def rebindUnits (p : Bytes) : List (Nat × Nat) :=
  (List.range (leAt p 2 2)).map fun i => (leAt p (8 + 8 * i) 1, leAt p (12 + 8 * i) 4)

def ukHalf : Nat := 0
def ukExt : Nat := 1
def ukQueue : Nat := 2
def ukVf : Nat := 3
def ukFlow : Nat := 4

/-- The re-bindings in progress, by their payloads: those of the mailboxes, and those left to the next holder (02 R53). -/
def rebinds (s : State) : List Bytes :=
  (s.mbx.filterMap fun e => e.2.run.bind fun r => if r.op = 0x0101 then some r.payload else none) ++ s.moves.map (·.payload)

/-- A re-binding in progress holds the unit (02 R46, R51). -/
def heldUnit (s : State) (kind i : Nat) : Bool := (rebinds s).any fun p => (rebindUnits p).contains (kind, i)

/-- Host traffic of the wing can proceed: its host function takes part and is in D0 (14 R435, 16 R514). -/
def hostFnLive (s : State) (w : Nat) : Bool :=
  match s.hostFn w with
  | some f => s.fnEnabled f && !(s.fnSt f).d3
  | none => false

/-- The device admits no request (01 R26, 03 R108, 15 R483). -/
def noAdmission (s : State) : Bool := s.noAuthority || s.fw.deviceFault || decide (s.vlt.mode = .error)

/-- Fetching is paused on every queue and ring (03 R108, 14 R448, R449, 16 R514). -/
def fetchPaused (s : State) : Bool :=
  noAdmission s || s.holderHub.isNone || s.pcie.moving || !s.dlActive || (s.fnSt 0).d3 || !s.alive

/-- A write to host memory for a wing; one into a peer window that does not name the wing is dropped (14 R442). -/
def wingHostWrite (s : State) (w a : Nat) (data : Bytes) : State :=
  if peerBlocked s w a then violate s (some w) 3
  else match hostFnOf s w with
  | some f => wingWrite s w f a data
  | none => s

/-- The hub can write `n` bytes to host memory for a wing: ATS is not in use, or the pages are translated for writing; else it asks for
what it does not hold, and the write waits (11 R361; what a denied page of a completion ring does is log entry 77's choice). -/
def hostReady (s : State) (w : Nat) (who : HostReader) (a n : Nat) : Bool × State :=
  let need := atsNeeded s w a n
  if peerBlocked s w a then (true, s)
  else if atsDenied s w a n true then (false, atsForget s w a n true)
  else (need.isEmpty, atsAsk s w who need)

end Sys2Proof.Machine
end

