-- ==== Sys2Proof/Machine/Queues.lean ====
section
/-! DEFINITION. Queues (04) and admission (05 R145 to R152): the QUE block's doorbells and controls, fetch and checks of entries,
validation of images, dispatch, completions, interrupts, replies and fences. -/

namespace Sys2Proof.Machine

/-! ### Fields (04 R112) -/

def qSqLog (r : QueRegs) : Nat := fld r.cfg.toNat 27 5
def qCqLog (r : QueRegs) : Nat := fld r.cfg.toNat 22 5
def qMaxInflight (r : QueRegs) : Nat := fld r.cfg.toNat 16 6 + 1
def qMode (r : QueRegs) : Nat := fld r.cfg.toNat 14 2
def qNet (r : QueRegs) : Bool := bit r.cfg.toNat 13
def qIrq (r : QueRegs) : Bool := bit r.cfg.toNat 12
def qVector (r : QueRegs) : Nat := fld r.cfg.toNat 0 11

def QueRegs.bytes (r : QueRegs) : Bytes :=
  leBytes 4 r.cfg.toNat ++ leBytes 4 r.coalesce.toNat ++ leBytes 8 r.sqBase.toNat ++ leBytes 8 r.cqBase.toNat

def wingOfQ (q : Que) : Option Nat := q.owner.map (·.val)

/-! ### Slots (04 R110 to R112) -/

/-- The device index of the queue of a wing with a wing-relative index. -/
def queByRel (s : State) (w i : Nat) : Option Nat :=
  (s.wingQueues w).find? fun q => decide ((s.que q).wqi = i)

/-- The queue belongs to a tenant wing, which is out of PF0's reach. -/
def tenantQue (s : State) (q : Nat) : Option Nat :=
  match wingOfQ (s.que q) with
  | some w => if (s.wing w).tenant then some w else none
  | none => none

/-- The queue a function's slot names, or the wing that the violation counts for (none: no wing). -/
def queSlot (s : State) (fn : Fn) (slot : Nat) : Except (Option Nat) Nat :=
  if fn = 0 then (match tenantQue s slot with | some w => .error (some w) | none => .ok slot)
  else match s.fnWing fn with
  | none => .error none
  | some w => match queByRel s w slot with | some q => .ok q | none => .error (some w.val)

/-- A register of the QUE block that acts on the selected queue: a violation of kind 1 while SLOT names a queue the function
cannot address. -/
def queReg (s : State) (fn : Fn) (f : Nat → State → State) : State :=
  if !regOpen s fn then s
  else match queSlot s fn (s.fnSt fn).queSel.toNat with
  | .ok q => f q s
  | .error w => violate s w 1

def queOff (off : Nat) : Nat := 0x30000 + off

/-- QUE_SEL_WRITE. -/
def execQueSelWrite (fn : Fn) (slot : QueIx) (s : State) : Host.Outcome State Fault Refusal :=
  .next (if !regOpen s fn then s
    else match queSlot s fn slot with
    | .ok _ => s.updFnSt fn fun f => { f with queSel := BitVec.ofNat 12 slot }
    | .error w => violate s w 1)

/-! ### Fences (04 R138) -/

/-- A request, fence or entry gets its result. One whose image is still being validated is decided by it: ADMIT_TS is the time of
that decision (04 R124). -/
def finish (s : State) (id : Nat) (code : Byte) (pc detail : W32) : State :=
  settle (s.updReq id fun r => { r with admitTs := if r.phase = .validating then s.now else r.admitTs }) id code pc detail s.now

/-- Every used target of the fence has reached its TARGET_SEQ. -/
def fenceMet (s : State) (r : Req) : Bool :=
  r.targets.all fun t => (s.que t.1).seen && decide (t.2 ≤ (s.que t.1).lastSeq)

/-- A target is DISABLED or has left the wing. -/
def fenceStale (s : State) (r : Req) : Bool :=
  r.targets.any fun t => decide ((s.que t.1).state = .disabled) || decide (wingOfQ (s.que t.1) ≠ some r.wing.val)

def Req.waitsFence (r : Req) : Bool := decide (r.kind = .fence) && decide (r.phase = .admitted)

/-- The waiting fences that are met, or that a target's end makes stale, get their result. -/
def fencePoll (s : State) : State :=
  (s.reqs.filter (·.waitsFence)).foldl (fun s r =>
    if fenceMet s r then finish s r.id rOK 0 0
    else if fenceStale s r then finish s r.id rSTALE_BINDING 0 0
    else s) s

/-- FENCE_TIMEOUT: BUSY with DETAIL 1. -/
def execFenceTimeout (req : Nat) (s : State) : Host.Outcome State Fault Refusal :=
  .next (match s.findReq req with
    | some r => if r.waitsFence && decide (r.timeoutUs ≠ 0) then finish s req rBUSY 0 1 else s
    | none => s)

/-! ### Enabling and disabling (04 R113 to R115) -/

/-- QUEUE_ENABLE: the snapshot is taken; it is logged with the four registers (04 R113, R114). -/
def queueEnable (s : State) (fn : Fn) : State :=
  queReg s fn fun q s =>
    let x := s.que q
    if x.state ≠ .disabled ∨ x.evaluating then s
    else
      loggedChange s fn ((wingOfQ x).getD 0xFF) (queOff 8) x.run.bytes x.regs.bytes fun s =>
        s.updQue q fun x => { x with run := x.regs, evaluating := true, disableAfter := false }

def execQueueEnable (fn : Fn) (s : State) : Host.Outcome State Fault Refusal := .next (queueEnable s fn)

/-- The checks of 04 R114 on the snapshot. Check 4 compares VECTOR with the MSI-X table of the wing's host function, which holds 2,048
entries and so every VECTOR (14 R443); a wing without a host function, a tenant wing without a VF, has no table and fails it
(DESIGN CHOICE, log entry 69). -/
def queChecks (s : State) (x : Que) (xlat : Bool) : Option (Nat × Byte) :=
  let r := x.run
  let w := (wingOfQ x).getD 16
  let logBad (n : Nat) : Bool := decide (n < 4) || decide (n > 16)
  firstFailAt [
    (decide (qMode r > 1) || logBad (qSqLog r) || (decide (qMode r = 0) && logBad (qCqLog r)), rRESERVED_VALUE),
    (decide (qMode r = 0) && decide (qCqLog r < qSqLog r), rSHAPE_INVALID),
    ((!qNet r && decide (r.sqBase.toNat % 4096 ≠ 0)) || (decide (qMode r = 0) && decide (r.cqBase.toNat % 4096 ≠ 0)) ||
      (decide (qMode r = 1) && decide (r.cqBase.toNat % 32 ≠ 0)), rADDR_ALIGN),
    (qIrq r && (s.hostFn w).isNone, rADDR_RANGE),
    (decide (qMode r = 1) && decide ((s.wingHalves w).length ≥ 8), rNOT_PERMITTED),
    (qNet r && !(s.wing w).netOwning, rNOT_PERMITTED),
    (!xlat, rTRANSLATION_MISSING)]

/-- QUEUE_ENABLE_EVAL_DONE: the evaluation ends; a DISABLE that arrived meanwhile acts now. -/
def queueEvalDone (s : State) (q : Nat) (xlat : Bool) : State :=
  let x := s.que q
  if !x.evaluating then s
  else match queChecks s x xlat with
  | some f => s.setQue q { x with evaluating := false, disableAfter := false, reason := f.2, check := f.1 }
  | none =>
    s.setQue q { x with
      evaluating := false, reason := rOK, check := 0, tail := 0, sqHead := 0, cqTail := 0, cqHead := 0, phase := true,
      fetched := 0, lastSeq := 0, seen := false, refSeq := none, failSeq := 0, failCode := 0, failCount := 0,
      halting := false, unsig := 0, unsigAt := none, disableAfter := false,
      state := if x.disableAfter then .draining else .enabled }

def execQueueEnableEvalDone (que : QueIx) (xlat : Bool) (s : State) : Host.Outcome State Fault Refusal :=
  .next (queueEvalDone s que xlat)

/-- QUEUE_DISABLE (04 R115). -/
def queueDisable (s : State) (fn : Fn) : State :=
  queReg s fn fun q s =>
    let x := s.que q
    if x.evaluating then s.setQue q { x with disableAfter := true }
    else match x.state with
    | .enabled | .halted => s.setQue q { x with state := .draining }
    | .error => fencePoll (s.setQue q { x with state := .disabled })
    | _ => s

def execQueueDisable (fn : Fn) (s : State) : Host.Outcome State Fault Refusal := .next (queueDisable s fn)

/-- QUEUE_DRAIN_DONE: every fetched entry has completed. -/
def execQueueDrainDone (que : QueIx) (s : State) : Host.Outcome State Fault Refusal :=
  let x := s.que que
  .next (if x.state = .draining ∧ x.fetched = 0 then fencePoll (s.setQue que { x with state := .disabled }) else s)

/-- The sequence record (04 R125). -/
def seqRecord (s : State) (x : Que) : Bytes :=
  leBytes 8 x.lastSeq.toNat ++ leBytes 8 x.failSeq.toNat ++ [x.failCode] ++ List.replicate 3 0#8 ++
  leBytes 4 x.failCount.toNat ++ leBytes 8 s.now

/-- QUEUE_RESUME: leaves HALTED, with the failure fields clear and the record written (04 R126). -/
def queueResume (s : State) (fn : Fn) : State :=
  queReg s fn fun q s =>
    let x := s.que q
    if x.state ≠ .halted then s
    else
      let y := { x with state := .enabled, failSeq := 0, failCode := 0, failCount := 0, halting := false }
      let s1 := s.setQue q y
      match wingOfQ x with
      | some w => wingHostWrite s1 w x.run.cqBase.toNat (seqRecord s1 y)
      | none => s1

def execQueueResume (fn : Fn) (s : State) : Host.Outcome State Fault Refusal := .next (queueResume s fn)

/-! ### Doorbells (04 R116, R117, R123) -/

/-- The queue that a doorbell reaches, else a violation of kind 2. -/
def queDb (s : State) (fn : Fn) (slot : Nat) (f : Nat → State → State) : State :=
  if !regOpen s fn then s
  else match queSlot s fn slot with
  | .ok q => f q s
  | .error w => violate s w 2

/-- The rows that the queue runs with: the snapshot of its last enable, or its registers while it is DISABLED. -/
def queNow (x : Que) : QueRegs := if x.state = .disabled then x.regs else x.run

/-- QUE_SQ_DB: ignored for a queue with SOURCE 1 in every state (04 R117). DB_DROPPED is set by every doorbell that arrives while the
queue is not ENABLED, as its field says (04 R112), also by one that is recorded or that puts a HALTED queue into ERROR, where the
table of 04 R116 names the bit for DISABLED and ERROR only (DESIGN CHOICE, log entry 69). -/
def queSqDb (s : State) (fn : Fn) (slot : Nat) (tail : W16) : State :=
  queDb s fn slot fun q s =>
    let x := s.que q
    let late := x.dbDropped || decide (x.state ≠ .enabled)
    if qNet (queNow x) then s
    else if x.state = .disabled ∨ x.state = .error then s.setQue q { x with dbDropped := late }
    else if (x.state = .enabled ∨ x.state = .halted) ∧ tail.toNat ≥ 2 ^ qSqLog x.run then
      s.setQue q { x with state := .error, reason := rADDR_RANGE, check := 0, dbDropped := late }
    else s.setQue q { x with tail := tail, dbDropped := late }

def execQueSqDb (fn : Fn) (slot : QueIx) (tail : W16) (s : State) : Host.Outcome State Fault Refusal :=
  .next (queSqDb s fn slot tail)

/-- QUE_CQ_DB: the host returns completion slots; ignored in sequence-number mode, and dropped by a DISABLED queue, which has no
completion ring. DB_DROPPED is set by one that arrives while the queue is not ENABLED (04 R112; DESIGN CHOICE, log entry 69). -/
def queCqDb (s : State) (fn : Fn) (slot : Nat) (head : W16) : State :=
  queDb s fn slot fun q s =>
    let x := s.que q
    let late := x.dbDropped || decide (x.state ≠ .enabled)
    if x.state = .disabled ∨ qMode x.run = 1 then s.setQue q { x with dbDropped := late }
    else s.setQue q { x with cqHead := head, dbDropped := late }

def execQueCqDb (fn : Fn) (slot : QueIx) (head : W16) (s : State) : Host.Outcome State Fault Refusal :=
  .next (queCqDb s fn slot head)

/-! ### Entries (04 R119, R120) -/

def sqeType (e : Bytes) : Nat := leAt e 0 1
def sqeClass (e : Bytes) : Nat := fld (leAt e 1 1) 0 2
def sqeCat (e : Bytes) : Nat := leAt e 4 1
def sqeSeq (e : Bytes) : W64 := BitVec.ofNat 64 (leAt e 8 8)
def sqeProgram (e : Bytes) : Nat := leAt e 16 8
def sqeArgs (e : Bytes) : Nat := leAt e 24 8
def sqeArgsLen (e : Bytes) : Nat := leAt e 32 4
def sqeTimeout (e : Bytes) : Nat := leAt e 16 4

/-- The used targets of a fence entry: wing-relative index and SEQ. -/
def sqeTargets (e : Bytes) : List (Nat × W64) :=
  ((List.range 4).map fun k => (leAt e (56 + 2 * k) 2, BitVec.ofNat 64 (leAt e (24 + 8 * k) 8))).filter fun t => t.1 != 0xFFFF

/-- A reserved byte, bit or address bit of the entry's layout is non-zero. -/
def sqeReserved (e : Bytes) : Bool :=
  decide (fld (leAt e 1 1) 2 6 ≠ 0) || decide (fld (leAt e 2 2) 2 14 ≠ 0) || !zeroAt e 5 3 ||
  (match sqeType e with
    | 0 => !zeroAt e 22 2 || !zeroAt e 30 2 || !zeroAt e 36 4 || !zeroAt e 48 16
    | 1 => !zeroAt e 20 4
    | _ => !zeroAt e 16 24 || !zeroAt e 48 16)

def classBound (s : State) (w c : Nat) : Nat := fld (Tbl.get 0#32 (s.wing w).classes c).toNat 0 20

/-- Checks 1 to 8 of 04 R120. -/
def sqeChecks (s : State) (w q : Nat) (e : Bytes) : Option (Nat × Byte) :=
  let ty := sqeType e
  let isReq := decide (ty = 0)
  let ts := sqeTargets e
  firstFailAt [
    (decide (ty > 2), rRESERVED_VALUE), (sqeReserved e, rRESERVED_FIELD_SET),
    ((match (s.que q).refSeq with | some r => decide (sqeSeq e ≤ r) | none => false), rRESERVED_VALUE),
    (isReq && decide (sqeClass e ≠ 0) && decide (classBound s w (sqeClass e) = 0), rRESERVED_VALUE),
    (isReq && decide (sqeCat e ≠ 0xFF) && decide (sqeCat e ≥ 8), rADDR_RANGE),
    (isReq && (decide (sqeProgram e % 64 ≠ 0) || decide (sqeArgs e % 16 ≠ 0)), rADDR_ALIGN),
    (isReq && (decide (sqeArgsLen e > 2 ^ 20) || decide (sqeArgs e + sqeArgsLen e > 2 ^ 48)), rADDR_RANGE),
    (decide (ty = 1) && (ts.isEmpty || ts.any fun t => match queByRel s w t.1 with | some d => d == q | none => true),
      rADDR_RANGE)]

/-- The request record of a fetched entry. -/
def reqOf (s : State) (q : QueIx) (w : WingIx) (e : Bytes) (flow : Option (FlowIx × Nat)) : Req :=
  { id := s.nextReq, que := q, wing := w, kind := match sqeType e with | 0 => .request | 1 => .fence | _ => .nop,
    cls := sqeClass e, irqSup := bit (leAt e 2 2) 0, replySup := bit (leAt e 2 2) 1,
    cat := if sqeType e = 0 ∧ sqeCat e < 8 then some (Fin.ofNat 8 (sqeCat e)) else none, seq := sqeSeq e,
    refBefore := (s.que q).refSeq,
    program := BitVec.ofNat 64 (sqeProgram e), args := BitVec.ofNat 64 (sqeArgs e), argsLen := sqeArgsLen e,
    userTag := if sqeType e = 1 then 0 else BitVec.ofNat 64 (leAt e 40 8), timeoutUs := sqeTimeout e,
    boundUs := classBound s w (sqeClass e),
    targets := if sqeType e = 1 then (sqeTargets e).map fun t => ((queByRel s w t.1).getD 0, t.2) else [],
    fetchTs := s.now, admitTs := s.now, startTs := 0, endTs := 0, sqHead := (s.que q).sqHead, phase := .validating,
    result := rOK, detail := 0, faultPc := 0, epoch := none, imageId := 0, needHalf := 0, reduced := false, wcet := 0,
    wEnd := 0, gapUs := 0, scratch := 0, overlapSafe := false, reserved := [], halves := [], docs := [],
    term := 0, dispTs := 0, ranNs := 0, dup := false, dupBad := false, lateClock := false, later := 0, ckptReq := false, oldTerm := false,
    resumed := false, flow := flow, haltAt := 0, behind := none, ended := false, outStarted := false, dispatched := false,
    ranOn := 0 }

/-! ### Images (05 R145 to R152) -/

/-- Fields of a program header. -/
def phHalf (h : Bytes) : Nat := leAt h 6 1
def phReduced (h : Bytes) : Bool := bit (leAt h 7 1) 0
def phCode (h : Bytes) : Nat := leAt h 8 2
def phConst (h : Bytes) : Nat := leAt h 10 2
def phGap (h : Bytes) : Nat := leAt h 12 2
def phPoints (h : Bytes) : Nat := leAt h 14 2
def phWcet (h : Bytes) : Nat := leAt h 16 4
def phScratch (h : Bytes) : Nat := leAt h 20 4
def phImage (h : Bytes) : W64 := BitVec.ofNat 64 (leAt h 24 8)
def phSched (h : Bytes) : Nat := leAt h 32 8

/-- The wing's half-cells that can run the complement (01 R35). -/
def capableHalves (s : State) (w : Nat) (reduced : Bool) : List Nat := (s.wingHalves w).filter fun h => halfCanRun s h reduced

/-- Checks 4 to 9 of 05 R150. -/
def headerChecks (s : State) (w : Nat) (h : Bytes) : Option Byte :=
  firstFail [
    (decide (slice h 0 4 ≠ [0x4F#8, 0x5A#8, 0x4F#8, 0x4C#8]), rFORMAT_UNSUPPORTED),
    (decide (leAt h 4 1 ≠ 1) || decide (leAt h 5 1 > 0), rVERSION_UNSUPPORTED),
    (decide (fld (leAt h 7 1) 2 6 ≠ 0) || decide (fld (phSched h) 48 16 ≠ 0) || !zeroAt h 40 24, rRESERVED_FIELD_SET),
    (decide (phHalf h = 0 ∨ phHalf h > 16) || decide (fld (leAt h 7 1) 0 2 > 1) || decide (phCode h = 0 ∨ phCode h > 16384) ||
      decide (phConst h > 4096) || decide (phGap h = 0) || decide (phPoints h > 4096) ||
      decide (phWcet h = 0 ∨ phWcet h > 1000000000) || decide (phScratch h > 50331648) ||
      (decide (phPoints h = 0) && decide (phSched h ≠ 0)), rRESERVED_VALUE),
    (decide (phHalf h > (capableHalves s w (phReduced h)).length), rRES_INSUFFICIENT),
    (decide (phSched h % 64 ≠ 0), rADDR_ALIGN)]

/-- What reads of a run give as a whole, with the host pages that are absent. -/
structure Scan where
  s : State
  data : Bytes
  missing : Bool
  absent : List Nat
  ue : Bool
  stale : Bool
  waits : Bool

/-- The host pages of a block's access that the host denies. -/
def deniedPages (s : State) (w : WingIx) (who : HostReader) (va n : Nat) : List Nat :=
  match (translate s (siteOf s who) w va false).2 with
  | .host pa => (pages4k pa n).filter fun p => match atsHit s w p with | some e => !e.rd | none => false
  | _ => []

/-- Reads a run block by block, going on after a failure, so that the checks of 05 R150 apply in their order. -/
def scan (s : State) (w : WingIx) (who : HostReader) (hm : HostMem) (va n : Nat) : Scan :=
  (chunksOf va n).foldl (fun (x : Scan) c =>
    let r := chunkRead x.s w who hm c.1 c.2
    let zeros := List.replicate c.2 0#8
    match r.2 with
    | .ok b => { x with s := r.1, data := x.data ++ b }
    | .missing => { x with s := r.1, data := x.data ++ zeros, missing := true }
    | .absent => { x with s := r.1, data := x.data ++ zeros, absent := x.absent ++ deniedPages x.s w who c.1 c.2 }
    | .ue => { x with s := r.1, data := x.data ++ zeros, ue := true }
    | .stale => { x with s := r.1, data := x.data ++ zeros, stale := true }
    | .waits => { x with s := r.1, data := x.data ++ zeros, waits := true })
    { s := s, data := [], missing := false, absent := [], ue := false, stale := false, waits := false }

def Scan.and (a b : Scan) : Scan :=
  { s := b.s, data := a.data ++ b.data, missing := a.missing || b.missing, absent := a.absent ++ b.absent, ue := a.ue || b.ue,
    stale := a.stale || b.stale, waits := a.waits || b.waits }

/-- A request that fails a check of 05 R150: FAULT_PC and DETAIL of 05 R152. -/
def refuseImage (s : State) (id : Nat) (code : Byte) (pc : W32) : State := finish s id code pc 0x80000000

/-- The reads ended without checks 1 to 3 failing; else the request is refused, waits for the host, or waits for a page. -/
def scanEnds (x : Scan) (r : Req) (go : State → State) : State :=
  if x.missing then refuseImage x.s r.id rTRANSLATION_MISSING 0xFFFFFFFF
  else if x.stale then staleReply x.s r.wing r.id
  else match x.absent, hostFnOf x.s r.wing with
  | p :: _, some f =>
    if wingPri x.s r.wing then priAsk x.s r.wing f (p * 4096) (.image r.id) 0
    else refuseImage x.s r.id (absentCode x.s r.wing) 0xFFFFFFFF
  | _, _ =>
    if x.waits then x.s
    else if x.ue then refuseImage x.s r.id rUNCORRECTABLE_MEMORY 0xFFFFFFFF
    else go x.s

def storedImage (s : State) (w : WingIx) (program imageId : W64) : Option Image :=
  s.images.find? fun i => i.wing == w && i.program == program && i.imageId == imageId

/-- An admitted or running request uses the image. -/
def imageUsed (s : State) (i : Image) : Bool :=
  s.reqs.any fun r => r.wing == i.wing && r.program == i.program && r.imageId == i.imageId && !r.isDone &&
    decide (r.phase ≠ .validating)

/-- Removes the wing's unused image that was least recently admitted to the store: an image is admitted when it has been validated and
stored, and a hit admits no image (05 R146 to R148; DEDUCED, log entry 69). -/
def evictImage (s : State) (w : Nat) : Option State :=
  match s.images.filter fun i => i.wing.val == w && !imageUsed s i with
  | [] => none
  | i :: rest =>
    let v := rest.foldl (fun a b => if b.lastAdmit < a.lastAdmit then b else a) i
    some { s with images := s.images.filter (· != v) }

def imageCount (s : State) (w : Nat) : Nat := (s.images.filter fun i => i.wing.val == w).length

/-- Wings above 128 images, most images first, ties to the lower index. -/
def bigWings (s : State) : List Nat :=
  ((List.range 16).filter fun w => decide (imageCount s w > 128)).foldl (fun l w =>
    let before := l.takeWhile fun v => decide (imageCount s v ≥ imageCount s w)
    before ++ [w] ++ l.drop before.length) []

/-- Makes room for one image of a wing (05 R147, R148); none where no image qualifies. -/
def makeRoom (s : State) (w : Nat) : Option State :=
  let n := imageCount s w
  if n ≥ 256 then evictImage s w
  else if s.images.length < 2048 then some s
  else if n ≥ 128 then evictImage s w
  else (bigWings s).findSome? (evictImage s)

/-! ### Admission (04 R128 to R132, 05 R149) -/

/-- The snapshot of an APPLY replaces the live values at the next admission (02 R70). -/
def takeLive (s : State) (w : Nat) : State :=
  match (s.wing w).applyNext with
  | some sh => dupRepair s (s.updWing w fun x => { x with live := sh, applyNext := none }) w
  | none => s

/-- Half-cells by the time they are free, earliest first, ties to the lower index (DESIGN CHOICE, log entry 17). -/
def byHorizon (s : State) (hs : List Nat) : List Nat :=
  let key (h : Nat) : Nat := max s.now (horizon s h)
  hs.foldl (fun l h =>
    let before := l.takeWhile fun v => decide (key v ≤ key h)
    before ++ [h] ++ l.drop before.length) []

/-- The admission decision: check 8 again, the catalogue being copied, the admission test of 04 R130, and the pin. -/
def admitReq (s : State) (r0 : Req) (i : Image) : State :=
  let s := takeLive s r0.wing
  let h := i.header
  let id := r0.id
  let s1 := s.updReq id fun r =>
    { r with imageId := i.imageId, needHalf := phHalf h, reduced := phReduced h, wcet := phWcet h, gapUs := phGap h,
             scratch := phScratch h, admitTs := s.now,
             overlapSafe := match i.sched.head? with | some e => bit (leAt e 6 1) 0 | none => false }
  let cap := capableHalves s r0.wing (phReduced h)
  let copying : Bool := match r0.cat with
    | some c => decide ((s.cat (catKey r0.wing c)).sync = 2) && (s.cat (catKey r0.wing c)).resyncBase.isNone
    | none => false
  let chosen := (byHorizon s cap).take (phHalf h)
  let end_ := chosen.foldl (fun m x => max m (horizon s x)) s.now + phWcet h
  let due := r0.fetchTs + r0.boundUs * 1000
  if cap.length < phHalf h then refuseImage s1 id rRES_INSUFFICIENT 0xFFFFFFFF
  else if copying then finish s1 id rBUSY 0 2
  else if r0.cls ≠ 0 ∧ end_ > due then finish s1 id rBUSY 0 (BitVec.ofNat 32 (min (2 ^ 32 - 1) (ceilDiv (end_ - due) 1000)))
  else
    let epoch := r0.cat.map fun c => (s.cat (catKey r0.wing c)).vis
    s1.updReq id fun r =>
      { r with phase := .admitted, epoch := epoch,
               reserved := if r.cls = 0 then [] else (chosen.map (Fin.ofNat 16)),
               wEnd := if r.cls = 0 then 0 else end_ }

/-- An image read and found valid is stored, in the lowest free slot, and its request decided. -/
def storeImage (s : State) (r : Req) (i : Image) : State :=
  match makeRoom s r.wing with
  | none => finish s r.id rBUSY 0 0
  | some s1 => admitReq { s1 with images := s1.images ++ [{ i with slot := freeImageSlot s1 }] } r i

/-- The 8 B words and the 32 B entries of a byte string. -/
def words8 (b : Bytes) (off n : Nat) : List W64 := (List.range n).map fun i => BitVec.ofNat 64 (leAt b (off + 8 * i) 8)
def points32 (b : Bytes) (n : Nat) : List Bytes := (List.range n).map fun i => slice b (32 * i) 32

/-- Checks 4 to 10 of 05 R150 and those of 10 R325 on an image that was read: code, FAULT_PC and DETAIL. -/
def imageChecks (s : State) (w : Nat) (b sched : Bytes) : Option (Byte × W32 × W32) :=
  match headerChecks s w b with
  | some c => some (c, 0xFFFFFFFF, 0x80000000)
  | none =>
    match ozAdmit (words8 b 64 (phCode b)) (phConst b) (phPoints b) (phReduced b) with
    | some x => some (x.2, wordOffset x.1, 0x80000000)
    | none =>
      ((points32 sched (phPoints b)).zipIdx.findSome? fun e => (ptCheck e.1).map fun c =>
        (c, 0xFFFFFFFF#32, BitVec.ofNat 32 (2 ^ 31 + e.2)))

/-- IMAGE_VALIDATED: the image and its schedule table have been read and are checked; then the admission decision. -/
def imageValidated (s : State) (id : Nat) (hm : HostMem) : State :=
  match s.findReq id with
  | none => s
  | some r =>
    if r.phase ≠ .validating ∨ fetchPaused s then s
    else
      let w := r.wing
      let who := HostReader.image id
      let x0 := scan s w who hm r.program.toNat 64
      scanEnds x0 r fun s =>
        match storedImage s w r.program (phImage x0.data) with
        | some i => admitReq s r i
        | none =>
          let x1 := scan s w who hm r.program.toNat (64 + 8 * phCode x0.data + 8 * phConst x0.data)
          let x2 := scan x1.s w who hm (phSched x0.data) (32 * phPoints x0.data)
          scanEnds (x1.and x2) r fun s =>
            let b := x1.data
            match imageChecks s w b x2.data with
            | some f => finish s id f.1 f.2.1 f.2.2
            | none =>
              storeImage s r
                { wing := w, program := r.program, imageId := phImage b, header := slice b 0 64, code := words8 b 64 (phCode b),
                  consts := words8 b (64 + 8 * phCode b) (phConst b), sched := points32 x2.data (phPoints b), lastAdmit := s.now, slot := 0 }

def execImageValidated (req : Nat) (hm : HostMem) (s : State) : Host.Outcome State Fault Refusal :=
  .next (imageValidated s req hm)

/-- A request that passed checks 1 to 8 of 04 R120: its header is read, and a stored image decides it at once. -/
def requestArrives (s : State) (r : Req) (hm : HostMem) : State :=
  let x := scan s r.wing (.image r.id) hm r.program.toNat 64
  scanEnds x r fun s =>
    match storedImage s r.wing r.program (phImage x.data) with
    | some i => admitReq s r i
    | none => s

/-- An entry arrives from a ring or a flow: its checks, and what becomes of it (04 R120, R138). -/
def entryArrives (s : State) (q : QueIx) (w : WingIx) (e : Bytes) (flow : Option (FlowIx × Nat)) (hm : HostMem) : State :=
  let r := reqOf s q w e flow
  let bad := sqeChecks s w q e
  let past3 := match bad with | some f => decide (f.1 > 3) | none => true
  let s1 := { s with reqs := s.reqs ++ [r], nextReq := s.nextReq + 1 }
  let s2 := s1.updQue q fun x => { x with fetched := x.fetched + 1, refSeq := if past3 then some r.seq else x.refSeq }
  match bad with
  | some f => finish s2 r.id f.2 0 0
  | none =>
    match r.kind with
    | .request => requestArrives s2 r hm
    | .fence => fencePoll (s2.updReq r.id fun r => { r with phase := .admitted })
    | .nop => finish s2 r.id rOK 0 0

/-- Requests that await their decision or dispatch (04 R132). -/
def awaiting (s : State) : Nat :=
  (s.reqs.filter fun r => decide (r.kind = .request) && (decide (r.phase = .validating) || decide (r.phase = .admitted))).length

/-- The queue takes entries: it is ENABLED, its wing is ENABLED, and nothing pauses it (04 R116, R126, R132, 02 R51). -/
def takesEntries (s : State) (q : Nat) : Bool :=
  let x := s.que q
  match wingOfQ x with
  | none => false
  | some w =>
    decide (x.state = .enabled) && !x.halting && decide ((s.wing w).state = .enabled) && !(s.wing w).stopAdmit &&
    hostFnLive s w && !fetchPaused s && !heldUnit s ukQueue q && decide (awaiting s < 4096) &&
    (match s.hostFn w with | some f => decide (f = 0) || !heldUnit s ukVf f | none => false)

/-- ENTRY_FETCH: the entry at SQ_HEAD is read and recorded (04 R116, 03 R101). -/
def entryFetch (s : State) (q : QueIx) (e : Bytes) (hm : HostMem) : State :=
  let x := s.que q
  match x.owner with
  | none => s
  | some w =>
    if !takesEntries s q ∨ qNet x.run ∨ x.sqHead = x.tail then s
    else
      let a := x.run.sqBase.toNat + 64 * x.sqHead.toNat
      let next := BitVec.ofNat 16 ((x.sqHead.toNat + 1) % 2 ^ qSqLog x.run)
      let s1 := s.setQue q { x with sqHead := next }
      if peerBlocked s w a then entryArrives (violate s1 (some w.val) 3) q w (List.replicate 64 0#8) none hm
      else entryArrives s1 q w (fitTo 64 e) none hm

def execEntryFetch (que : QueIx) (entry : Bytes) (hm : HostMem) (s : State) : Host.Outcome State Fault Refusal :=
  .next (entryFetch s que entry hm)

/-! ### Dispatch (04 R131, 10 R328, R330) -/

/-- Entries of a queue, in queue order. -/
def queReqs (s : State) (q : Nat) : List Req := s.reqs.filter fun r => r.que.val == q

/-- The admitted request that is next in its queue: entries with a result, and dispatched ones, do not hold it back; a fence
that waits and an image being validated do. -/
def queHead (s : State) (q : Nat) : Option Req :=
  match (queReqs s q).find? (fun r => !r.isDone && !r.dispatched) with
  | some r => if r.phase = .admitted ∧ r.kind = .request then some r else none
  | none => none

/-- The order of dispatch: deadlines first, earliest first; then class 0 in fetch order. -/
def dispatchBefore (a b : Req) : Bool :=
  let due (r : Req) : Nat := r.fetchTs + r.boundUs * 1000
  if a.cls = 0 then decide (b.cls = 0) && decide (a.id < b.id)
  else decide (b.cls = 0) || decide (due a < due b) || (decide (due a = due b) && decide (a.id < b.id))

/-- The heads of a wing's queues, in dispatch order. -/
def wingHeads (s : State) (w : Nat) : List Req :=
  ((s.wingQueues w).filterMap (queHead s)).foldl (fun l r =>
    let before := l.takeWhile fun x => dispatchBefore x r
    before ++ [r] ++ l.drop before.length) []

/-- Dispatched requests of a queue whose completions are not visible. -/
def inflight (s : State) (q : Nat) : Nat := ((queReqs s q).filter (·.dispatched)).length

/-- A reservation lapses when one of its half-cells has left the wing or cannot run the program (04 R131). -/
def lapse (s : State) (w : Nat) : State :=
  { s with reqs := s.reqs.map fun r =>
      if r.wing.val = w ∧ r.phase = .admitted ∧ !r.reserved.isEmpty ∧
         !(r.reserved.all fun h => (capableHalves s w r.reduced).contains h.val)
      then { r with reserved := [], wEnd := 0 } else r }

def bubbleFill (s : State) (w : Nat) : Bool :=
  (s.wing w).bubTest || decide ((s.wing w).bubStart ≠ 0) || (s.wing w).bubRecover

/-- The dies that a dispatch's packets go to: the in-flight table, its copy, and the cells of the half-cells (03 R101). -/
def dispatchDies (hs : List Nat) : List Nat := recordDies ++ hs.map (· / 2)

/-- The docents and half-cells take a request (05 R141, R153, R165). The holder sends its record, then the dispatch packets, each
with the half-cell's binding generation and the holder's own term (01 R25, 03 R101); where a port on the way refuses the term, the
request is not dispatched, and the hub gets the term-stale reply (03 R99, R109; DESIGN CHOICE, log entry 68). `hs` is in dispatch
order of ranks, ascending. The horizon of its half-cells keeps the later of the end that its admission reserved and the dispatch
with its WCET (04 R129; DESIGN CHOICE, log entry 69). -/
def dispatchTo (s : State) (r : Req) (hs : List Nat) (behind : Option Nat) : State :=
  let hub := s.holderHub.getD 0
  if !portsAccept s hub (dispatchDies hs) then staleSend s hub (dispatchDies hs)
  else match storedImage s r.wing r.program r.imageId with
  | none => s
  | some i =>
    let docs := chooseDocs s hs r.reduced
    let prio := if (s.wing r.wing).lent then 0 else 2 * r.cls
    let term := (s.hub hub).authTerm
    let s := raiseTerms s hub (dispatchDies hs)
    let s1 := docs.zipIdx.foldl (fun s d =>
      s.setDoc d.1 { Docent.init with
        state := .loading, req := some r.id, rank := d.2, prio := prio, code := i.code, consts := i.consts, sched := i.sched }) s
    let s2 := docs.foldl (fun s d => s.emit (.dispatch (Fin.ofNat 40 d) (s.half (docHalf s d)).gen term)) s1
    let s3 := hs.foldl (fun s h =>
      let s := s.updHalf h fun x => { x with req := if behind.isSome then x.req else some r.id }
      s.updCell (h / 2) fun c => { c with gate := .running }) s2
    { s3 with lastDispatch := s.now }.updReq r.id fun r =>
      { r with phase := .running, dispatched := true, halves := hs.map (Fin.ofNat 16), docs := docs.map (Fin.ofNat 40),
               reserved := [], term := term, dispTs := s.now, wEnd := max r.wEnd (s.now + r.wcet), behind := behind,
               ranOn := r.ranOn ||| maskOf 16 fun k => hs.contains k }

/-- The request whose last drain B may overlap in bubble fill (10 R330). A request before B in the order of 04 R131 that waits for one
of the half-cells has `claimed` it: B is then not the next one. -/
def overlapOf (s : State) (r : Req) (claimed : List Nat) : Option Req :=
  if !bubbleFill s r.wing || !r.overlapSafe then none
  else s.reqs.find? fun a => a.wing == r.wing && a.ended && a.imageId == r.imageId && decide (a.phase = .running ∨ a.phase = .finished) &&
    !a.halves.isEmpty && decide (a.halves.length = r.needHalf) && a.behind.isNone &&
    a.halves.all (fun h => !claimed.contains h.val && decide ((s.half h).req = some a.id) && !(s.half h).held && !halfSubDue s h && halfCanRun s h r.reduced) &&
    !(s.reqs.any fun b => b.behind == some a.id) &&
    (r.reserved.isEmpty || r.reserved.all fun h => a.halves.contains h)

/-- One pass over the heads in dispatch order: `claimed` half-cells are kept for earlier requests; the first request that can
go is dispatched; one whose wing has too few half-cells for it completes. -/
def dispatchPass (w : Nat) : List Req → List Nat → Bool → State → State
  | [], _, _, s => s
  | r :: rest, claimed, blocked0, s =>
    if inflight s r.que ≥ qMaxInflight (s.que r.que).run then dispatchPass w rest claimed blocked0 s
    else
      let cap := capableHalves s w r.reduced
      if r.reserved.isEmpty && decide (cap.length < r.needHalf) then
        dispatchPass w rest claimed blocked0 (finish s r.id rRES_INSUFFICIENT 0 0)
      else if r.cls = 0 && blocked0 then dispatchPass w rest claimed blocked0 s
      else
        let kept := (s.reqs.filter fun x => x.wing.val == w && decide (x.phase = .admitted) && x.id != r.id).flatMap fun x =>
          x.reserved.map (·.val)
        let free := cap.filter fun h => halfFree s h && !claimed.contains h
        let want := if r.reserved.isEmpty then (free.filter fun h => !kept.contains h).take r.needHalf
          else free.filter fun h => r.reserved.any (·.val == h)
        if want.length = r.needHalf then dispatchTo s r want none
        else match overlapOf s r claimed with
        | some a => dispatchTo s r (a.halves.map (·.val)) (some a.id)
        | none =>
          dispatchPass w rest (claimed ++ (if r.reserved.isEmpty then want else r.reserved.map (·.val)))
            (blocked0 || decide (r.cls = 0)) s

/-- The Curator dispatches: a hub holds authority, no move and no D3hot is in progress (14 R448, 16 R514). -/
def dispatches (s : State) : Bool := s.holderHub.isSome && s.alive && !s.pcie.moving && !(s.fnSt 0).d3

/-- The hub that acts as holder has been superseded: its next record is refused, and it gets the term-stale reply (03 R99, R109). -/
def holderStale (s : State) : Option Nat := s.holderHub.filter fun h => !hubCurrent s h

/-- REQUEST_DISPATCH: the wing's next request is dispatched. -/
def requestDispatch (s : State) (w : Nat) : State :=
  if !dispatches s then s
  else match holderStale s with
  | some h => staleSend s h recordDies
  | none =>
    let s1 := lapse s w
    retireAll (dispatchPass w (wingHeads s1 w) [] false s1)

def execRequestDispatch (wing : WingIx) (s : State) : Host.Outcome State Fault Refusal := .next (requestDispatch s wing)

/-- REQUEST_END: every docent has executed END and the outputs are written: the result is fixed (05 R159, 07 R206). -/
def requestEnd (s : State) (id : Nat) : State :=
  match s.findReq id with
  | none => s
  | some r =>
    if r.phase ≠ .running ∨ !r.ended ∨ s.launches.any (fun l => l.req == id) ∨ !s.lineWaits.isEmpty then s
    else retireAll (stopWork (finish s id rOK 0 0) id)

def execRequestEnd (req : Nat) (s : State) : Host.Outcome State Fault Refusal := .next (requestEnd s req)

/-! ### Completions (04 R121 to R127, R134 to R136) -/

/-- The completion entry (04 R124). -/
def cqEntry (r : Req) (phase : Bool) : Bytes :=
  let flags := b2n phase + 2 * b2n r.dup + 4 * b2n r.epoch.isSome + 8 * b2n r.flow.isSome + 16 * b2n (decide (r.kind = .fence))
  [r.result, 0x10#8] ++ leBytes 2 flags ++ leBytes 2 r.ranOn ++ leBytes 2 r.sqHead.toNat ++ leBytes 8 r.seq.toNat ++
  leBytes 8 r.admitTs ++ leBytes 8 r.startTs ++ leBytes 8 r.endTs ++ leBytes 4 (r.epoch.getD 0).toNat ++
  leBytes 4 r.faultPc.toNat ++ leBytes 8 r.userTag.toNat ++ leBytes 4 r.detail.toNat ++ List.replicate 4 0#8

/-- A code that REQUEST_FAILED reports (17 R526). -/
def reported (c : Byte) : Bool :=
  (decide (0x50 ≤ c.toNat) && decide (c.toNat ≤ 0x63)) || (decide (0xA0 ≤ c.toNat) && decide (c.toNat ≤ 0xA3)) ||
  decide (c = rINTERNAL)

def failRecord (s : State) (r : Req) : State :=
  if reported r.result then
    logEvent s 0x1001 (if r.result = rINTERNAL then 3 else 2) r.wing.val (16 + s.holderHub.getD 0) r.result r.seq.toNat
      (s.que r.que).wqi (r.faultPc.toNat * 2 ^ 32 + r.detail.toNat) r.later
  else s

/-- Raises a queue's vector in its wing's host function (04 R127). -/
def queIrq (s : State) (q w : Nat) : State :=
  let s1 := s.updQue q fun x => { x with unsig := 0, unsigAt := none }
  match hostFnOf s w with
  | some f => msixRaise s1 f (qVector (s.que q).run)
  | none => s1

/-- A visible completion counts toward the queue's interrupt. -/
def queSignal (s : State) (q w : Nat) (sup : Bool) : State :=
  let x := s.que q
  if !qIrq x.run || sup then s
  else
    let n := x.unsig + 1
    let s1 := s.setQue q { x with unsig := n, unsigAt := some (x.unsigAt.getD s.now) }
    if n ≥ max 1 (fld x.run.coalesce.toNat 0 16) then queIrq s1 q w else s1

/-- The request that overlapped this one begins its clocks and takes its half-cells (10 R330). -/
def overlapStarts (s : State) (id : Nat) : State :=
  match s.reqs.find? fun b => b.behind == some id with
  | none => s
  | some b =>
    let s1 := if b.isDone then s else
      b.halves.foldl (fun s h => s.updHalf h fun x => { x with req := some b.id }) s
    let s2 := b.docs.foldl (fun s d => s.updDoc d fun x =>
      if x.req = some b.id then { x with intervalStart := s.now } else x) s1
    let loading := b.docs.any fun d => decide ((s.doc d).state = .loading)
    s2.updReq b.id fun r => { r with behind := none, dispTs := s.now, lateClock := loading }

/-- What follows once a completion is visible: half-cells, bubble windows, slots, the queue's count and the fences. -/
def completed (s : State) (r : Req) (cqe : Bytes) : State :=
  let s1 := { s with reqs := s.reqs.filter fun x => x.id != r.id || x.behind.isSome }
  let s2 := overlapStarts (releaseHalves s1 r.id) r.id
  let s3 := r.halves.foldl (fun s h => if (s.half h).req = none then afterRequest s h else s) s2
  let left := s3.reqs.any fun x => x.wing == r.wing && (x.oldTerm || x.resumed) && x.id != r.id
  let s4 := s3.updWing r.wing fun x => { x with bubStart := x.bubStart - 1, bubRecover := x.bubRecover && left }
  let s5 := match r.flow with
    | some f =>
      if r.replySup then s4.updFlow f.1 fun x => { x with slots := x.slots.filter fun t => t.1 != f.2 || t.2.1 != r.seq }
      else
        let s5 := s4.updQue r.que fun x => { x with awaitRead := x.awaitRead ++ [(f.1, f.2, cqe)] }
        if s5.pcie.held.isEmpty then s5.emit (.replyRead r.que) else s5
    | none => s4
  let s6 := s5.updQue r.que fun x =>
    { x with fetched := x.fetched - 1,
             state := if x.halting ∧ x.fetched ≤ 1 ∧ x.state = .enabled then .halted else x.state,
             halting := x.halting && decide (x.fetched > 1) }
  fencePoll s6

/-- COMPLETION_WRITE: the queue's next completion becomes visible, once its verdicts are in and the ring has room. The hub that holds
authority writes it, and retires its dispatch record; one that has been superseded is refused (01 R28, 03 R99, R109). -/
def completionWrite (s : State) (q : Nat) : State :=
  let x := s.que q
  match (queReqs s q).head?, x.owner with
  | some r, some w =>
    let seqMode := decide (qMode x.run = 1)
    let size := 2 ^ qCqLog x.run
    let full := !seqMode && decide ((x.cqTail.toNat + 1) % size = x.cqHead.toNat % size)
    if !r.isDone || full || heldFull s || !hostFnIssues s w || s.holderHub.isNone || r.behind.isSome || s.dups.any (fun d => d.req == r.id) then s
    else match holderStale s with
    | some h => staleSend s h recordDies
    | none =>
    let at_ := if seqMode then x.run.cqBase.toNat else x.run.cqBase.toNat + 64 * x.cqTail.toNat
    let ready := hostReady s w (.queue (Fin.ofNat 4096 q)) at_ 32
    if !ready.1 then ready.2
    else
      let cqe := cqEntry r x.phase
      let s0 := failRecord s r
      let s1 :=
        if seqMode then
          let bad := decide (r.result ≠ rOK)
          let first := bad && decide (x.failCount = 0)
          let y := { x with
            lastSeq := r.seq, seen := true, failCount := if bad then satInc x.failCount else x.failCount,
            failSeq := if first then r.seq else x.failSeq, failCode := if first then r.result else x.failCode,
            halting := x.halting || (first && decide (x.state = .enabled)) }
          wingHostWrite (s0.setQue q y) w at_ (seqRecord s y)
        else
          let t := (x.cqTail.toNat + 1) % size
          let y := { x with lastSeq := r.seq, seen := true, cqTail := BitVec.ofNat 16 t, phase := if t = 0 then !x.phase else x.phase }
          wingHostWrite (s0.setQue q y) w at_ cqe
      queSignal (completed s1 r cqe) q w r.irqSup
  | _, _ => s

def execCompletionWrite (que : QueIx) (s : State) : Host.Outcome State Fault Refusal := .next (completionWrite s que)

/-- IRQ_COALESCE_TIMEOUT: TIME_US has passed since the first completion not signalled. -/
def execIrqCoalesceTimeout (que : QueIx) (s : State) : Host.Outcome State Fault Refusal :=
  let x := s.que que
  .next (match wingOfQ x with
    | some w => if x.unsig ≠ 0 ∧ fld x.run.coalesce.toNat 16 16 ≠ 0 then queIrq s que w else s
    | none => s)

/-! ### Replies (04 R136, 14 R455) -/

/-- SLOT_BYTES and REPLY_BYTES of a flow (14 R457). -/
def slotBytes (f : Flow) : Nat := 64 * fld f.slotCfg.toNat 14 14
def replyBytes (f : Flow) : Nat := 64 * fld f.slotCfg.toNat 0 11
def slotCount (f : Flow) : Nat := 2 ^ fld f.slotCfg.toNat 28 3

/-- The reply's bytes from the slot, or none while the host has not answered a translation; what cannot be read is a free value
(DESIGN CHOICE, log entry 10). -/
def replyRead (s : State) (w : WingIx) (fx : FlowIx) (slot : Nat) (hm : HostMem) : Option Bytes × State :=
  let f := s.flow fx
  let r := vaRead s w (.flow fx) hm (f.slotBase.toNat + slot * slotBytes f) (replyBytes f)
  match r.2 with
  | .ok b => (some b, r.1)
  | .waits => (none, r.1)
  | _ => let x := r.1.free (replyBytes f); (some x.1, x.2)

/-- The hub still holds the completion: its read has not been issued (04 R136, 14 R449). -/
def stillHeld (s : State) (cqe : Bytes) : Bool := s.pcie.held.any fun h => h.data == cqe

/-- REPLY_READ_RETURN: the completion is in host memory; the reply is posted, unless its flow has stopped. -/
def replyReadReturn (s : State) (q : Nat) (hm : HostMem) : State :=
  match (s.que q).awaitRead with
  | [] => s
  | (f, slot, cqe) :: rest =>
    if stillHeld s cqe then s else
    let s1 := s.updQue q fun x => { x with awaitRead := rest }
    let x := s.flow f
    match x.owner with
    | some w =>
      if x.state = .rtr then s
      else if x.state ≠ .rts then s1
      else
        let r := replyRead s w f slot hm
        match r.1 with
        | none => r.2
        | some b =>
          let s2 := r.2.updQue q fun x => { x with awaitRead := rest }
          let s3 := s2.updFlow f fun y => { y with slots := y.slots.map fun t => if t.1 = slot then (t.1, t.2.1, some cqe) else t }
          s3.emit (.net f .reply (cqe ++ b))
    | none => s1

def execReplyReadReturn (que : QueIx) (hm : HostMem) (s : State) : Host.Outcome State Fault Refusal :=
  .next (replyReadReturn s que hm)

end Sys2Proof.Machine
end

