-- ==== Sys2Proof/Machine/Rebinding.lean ====
section
/-! DEFINITION. Re-binding (02 R45 to R61): WING_REBIND with its drain, fence, rekey, scrub, flush and reset, and the
regeneration of a wing's root key, which performs the same steps on units that stay bound (15 R472). -/

namespace Sys2Proof.Machine

/-- A unit: its kind (02 R47) and its device index. -/
abbrev UnitId := Nat × Nat

/-! ### Units of every kind -/

def unitOwner (s : State) (u : UnitId) : Option WingIx :=
  match u.1 with
  | 0 => (s.half u.2).owner
  | 1 => (s.ext u.2).owner
  | 2 => (s.que u.2).owner
  | 3 => (s.vf u.2).owner
  | _ => (s.flow u.2).owner

def unitGen (s : State) (u : UnitId) : W16 :=
  match u.1 with
  | 0 => (s.half u.2).gen
  | 1 => (s.ext u.2).gen
  | 2 => (s.que u.2).gen
  | 3 => (s.vf u.2).gen
  | _ => (s.flow u.2).gen

/-- An index is in its range and is not extent 47 (02 R47). -/
def unitRange (u : UnitId) : Bool :=
  match u.1 with
  | 0 => decide (u.2 < 16)
  | 1 => decide (u.2 < 384) && !isExt47 u.2
  | 2 => decide (u.2 < 4096)
  | 3 => decide (1 ≤ u.2) && decide (u.2 < 256)
  | _ => decide (u.2 < 16384)

/-- All units of a wing, in the order of WING_QUERY (02 R49). -/
def wingUnits (s : State) (w : Nat) : List UnitId :=
  (s.wingHalves w).map ((0, ·)) ++ (s.wingExtents w).map ((1, ·)) ++ (s.wingQueues w).map ((2, ·)) ++
  (s.wingVfs w).map ((3, ·)) ++ (s.wingFlows w).map ((4, ·))

/-- Units of one kind in a wing, and the most it may hold (02 R39). -/
def kindCount (s : State) (w kind : Nat) : Nat := ((wingUnits s w).filter fun u => u.1 == kind).length
def kindLimit (kind : Nat) : Nat :=
  match kind with
  | 0 => 16 | 1 => 376 | 2 => 1024 | 3 => 255 | _ => 16384

/-- The Vault can serve: it is not in ERROR, and a current copy is reachable (15 R463, R483). -/
def vaultServes (s : State) : Bool :=
  let hub := s.holderHub.getD s.plinth.holder.val
  decide (s.vlt.mode ≠ .error) &&
  (s.vlt.sync || decide (s.vlt.copy.val = hub) || (s.vlt.linkUp && (s.hub s.vlt.copy.val).mains))

/-! ### Steps 2 to 8 of 02 R50 -/

/-- Step 2: the generation advances, modulo 2^16 (02 R61). -/
def fenceUnit (s : State) (u : UnitId) : State :=
  match u.1 with
  | 0 => s.updHalf u.2 fun x => { x with gen := x.gen + 1 }
  | 1 => s.updExt u.2 fun x => { x with gen := x.gen + 1 }
  | 2 => s.updQue u.2 fun x => { x with gen := x.gen + 1 }
  | 3 => s.updVf u.2 fun x => { x with gen := x.gen + 1 }
  | _ => s.updFlow u.2 fun x => { x with gen := x.gen + 1 }

/-- Step 3: a fresh key for the destination in the slot of the current phase, none in the other; a rollover ends
(11 R370, 15 R469, R470). A generation that wrapped, or a clear-pending mark, also clears every line (02 R56, 16 R504). -/
def rekeyExtent (s : State) (w : Option WingIx) (e : Nat) : State :=
  let x := s.ext e
  let s1 := if x.gen = 0 ∨ x.clearPending then dramZero s (e * 2 ^ 30) (2 ^ 30) else s
  let s2 := s1.updExt e fun x =>
    { x with keySeq := x.keySeq + 1, roll := 0, rolling := false, keyLoaded := false, keyLate := false, clearPending := false }
  let s3 := { s2 with lineWaits := s2.lineWaits.filter (fun l => extOf l.1 != e), bar2Waits := s2.bar2Waits.filter fun l => l.2 != e }
  let s4 := if x.rolling then s3.updStack (e / 48) fun k => k.rollEnd (e % 48) else s3
  s4.updExt e fun x => (x.setKey x.phase (w.map fun w => extentKey s3 w e)).setKey (!x.phase) none

/-- Step 4: the hot-row cache drops the extent's lines. -/
def dropExtentLines (s : State) (e : Nat) : State :=
  { s with cache := s.cache.filter fun c => extOf (c.line * 64) != e }

/-- The docent positions of a half-cell, and the spare that stands in one of them. -/
def halfAllDocs (s : State) (h : Nat) : List Nat :=
  (halfPositions h).map (fun p => h / 2 * 5 + p) ++
  (match (s.unit (uDoc (h / 2) 4)).subPos with
   | some p => if p / 2 = h % 2 then [h / 2 * 5 + 4] else []
   | none => [])

/-- A request without a result that runs on a half-cell is lost to its re-binding (02 R59); one with a result keeps it. -/
def halfLost (s : State) (h : Nat) : State :=
  match (s.half h).req with
  | some id => releaseHalves (if (s.findReq id).any (·.isDone) then stopWork s id else abortStale s id) id
  | none => s

/-- Step 5: the scratchpad is zero-filled, and the matrix units, docents, stream engines and the buffers of the docent positions are
reset (09 R306). -/
def scrubHalf (s : State) (h : Nat) : State :=
  let s1 := halfLost s h
  let clearPos (s : State) (p : Nat) : State := clearLane (clearMu (clearMu s (uMU (h / 2) p)) (posUnit s (uMU (h / 2) p))) (h / 2) p
  let s2 := (halfPositions h).foldl clearPos ((halfAllDocs s1 h).foldl docClear s1)
  let arbs := ((halfPositions h).map fun p => uMU (h / 2) p) ++ (List.range 8).map fun e => 56 + 8 * h + e
  { s2 with sp := s2.sp.clear (spBase h) spSize,
            spBad := s2.spBad.filter fun g => g / (spSize / 8) != h,
            arbs := s2.arbs.filter fun a => !arbs.contains a.1 }

/-- Step 6 found a non-zero byte: the half-cell is quarantined, with an alarm and a record of the Curator's action (02 R54, R75, R76).
The operand does not say where the byte lies: the alarm's offset is a free value (DESIGN CHOICE, log entry 10). -/
def scrubFailed (s : State) (w h : Nat) : State :=
  let f := s.free 4
  curatorLog (alarm (f.2.updHalf h fun x => { x with scrubBad := true }) 0x0103 w (h / 2) h (fromLE f.1 % spSize) 0 0) w h 0

/-- Step 7: cached translations go: those into an extent, those of a half-cell's walkers, and ATS entries of a VF. An extent may hold page
tables of its wing, through which any of its translations was reached, so all of that wing's go (11 R370). -/
def flushUnit (s : State) (u : UnitId) : State :=
  match u.1 with
  | 0 =>
    match (s.half u.2).owner with
    | some w => { keepLeaves s (fun x => !(x.loc == u.2 / 2 && x.wing == w)) with
                         ptw := s.ptw.filter (fun x => !(x.loc == u.2 / 2 && x.wing == w)) }
    | none => s
  | 1 => { keepLeaves s (fun x => some x.wing != (s.ext u.2).owner && (x.host || extOf x.target != u.2)) with
                  ptw := s.ptw.filter (fun x => some x.wing != (s.ext u.2).owner && extOf x.base != u.2) }
  | 3 => { s with ats := s.ats.filter (fun x => x.fn.val != u.2), atsReqs := s.atsReqs.filter (fun x => x.1.val != u.2) }
  | _ => s

/-- Steps 2 to 7 for units that go to a wing, or to none. `bad` are the half-cells whose read-back failed. -/
def scrubUnits (s : State) (us : List UnitId) (dest : Option WingIx) (stay : Bool) (bad : List HcIx) : State :=
  let es := (us.filter fun u => u.1 == ukExt).map (·.2)
  let hs := (us.filter fun u => u.1 == ukHalf).map (·.2)
  let keyOwner (s : State) (e : Nat) : Option WingIx := if stay then (s.ext e).owner else dest
  let s1 := us.foldl fenceUnit s
  let s2 := es.foldl (fun s e => dropExtentLines (rekeyExtent s (keyOwner s e) e) e) s1
  let s3 := hs.foldl scrubHalf s2
  let s4 := (hs.filter fun h => bad.any (·.val == h)).foldl (fun s h =>
    scrubFailed s (((if stay then (s.half h).owner else dest).map (·.val)).getD 0xFF) h) s3
  us.foldl flushUnit s4

/-- A VF's own state as after a Function Level Reset (16 R496): configuration, MSI-X, DOE, SPDM sessions, session minor. -/
def vfClear (s : State) (fn : Nat) : State :=
  { s with fns := Tbl.set FnSt.init s.fns fn FnSt.init,
           msix := s.msix.filter fun e => e.1 / 2048 != fn,
           vlt := { s.vlt with sessions := s.vlt.sessions.filter fun x => x.fn.val != fn } }

/-- The mailboxes of a function hold nothing of an earlier owner (02 R55); a command in progress goes on. -/
def mbxClear (s : State) (fn : Nat) : State :=
  (List.range 2).foldl (fun s h => s.updMbox (fn * 2 + h) fun m => { Mbx.init with run := m.run }) s

/-- Step 8 for a queue, a VF and a flow (04 R140, 14 R458). Entries of a queue whose completions could not be written within the bound
of its drain have no ring left (02 R52; DESIGN CHOICE, log entry 71). -/
def resetUnit (s : State) (u : UnitId) : State :=
  match u.1 with
  | 2 =>
    let s1 := { s with reqs := s.reqs.filter fun r => r.que.val != u.2 }
    s1.updQue u.2 fun x => { Que.init with owner := x.owner, wqi := x.wqi, gen := x.gen }
  | 3 => (mbxClear (vfClear s u.2) u.2).setTdi u.2 Tdi.init
  | 4 => s.updFlow u.2 fun x => { Flow.init with owner := x.owner, wfi := x.wfi, gen := x.gen }
  | _ => s

/-! ### Step 9 -/

/-- The lowest index that no unit of a list holds (04 R110). -/
def lowestFree (l : List Nat) : Nat := ((List.range (l.length + 1)).find? fun i => !l.contains i).getD 0

/-- A table with storage in a moved extent is deleted, as a Curator action (06 R178); its storage there is the extent's. -/
def cutTables (s : State) (e : Nat) : State :=
  let mine := s.tables.filterMap fun x => x.2.bind fun t =>
    if t.runs.any (fun r => r.stack == e / 48 && decide (r.first < (e % 48 + 1) * extGranules) &&
        decide (e % 48 * extGranules < r.first + r.count)) then some (x.1, t) else none
  mine.foldl (fun s x =>
    let t := x.2
    let runs := t.runs.flatMap fun r =>
      if r.stack ≠ e / 48 then [r]
      else (runSub (r.first, r.count) (e % 48 * extGranules, extGranules)).map fun p =>
        { stack := r.stack, first := p.1, count := p.2 }
    if t.phase = .ready then
      let s1 := s.setTable x.1 (some { t with runs := runs, phase := .deleted, deletedTs := s.now })
      curatorLog { s1 with dir := s1.dir.filter fun d => d.table.val != x.1 } t.wing x.1 0
    else s.setTable x.1 (some { t with runs := runs })) s

/-- Records the binding of one unit. -/
def bindUnit (dest : Option WingIx) (s : State) (u : UnitId) : State :=
  match u.1 with
  | 0 =>
    let s1 := s.updHalf u.2 fun x => { x with owner := if x.scrubBad then none else dest, held := false }
    if dest.isSome then s1.updCell (u.2 / 2) fun c => { c with gate := .running } else s1
  | 1 => (cutTables s u.2).updExt u.2 fun x => { x with owner := dest, held := false }
  | 2 =>
    let used := match dest with
      | some w => ((s.wingQueues w.val).filter (· != u.2)).map fun q => (s.que q).wqi
      | none => []
    s.updQue u.2 fun x => { x with owner := dest, wqi := if dest.isSome then lowestFree used else 0 }
  | 3 => s.updVf u.2 fun x => { x with owner := dest }
  | _ =>
    let used := match dest with
      | some w => ((s.wingFlows w.val).filter (· != u.2)).map fun q => (s.flow q).wfi
      | none => []
    s.updFlow u.2 fun x => { x with owner := dest, wfi := if dest.isSome then lowestFree used else 0 }

/-- What the record of step 9 says of a unit: kind, index, generation, the identifier of an extent's key, and whether step 6
failed (02 R57). -/
def unitRecord (s : State) (u : UnitId) (keys : Bool) : Bytes :=
  let x := s.ext u.2
  let id := match (if x.phase then x.key1 else x.key0) with
    | some k => if keys && u.1 == ukExt then (sha384 (ascii "HX20 KEY ID" ++ k)).take 16 else []
    | none => []
  [BitVec.ofNat 8 u.1] ++ leBytes 4 u.2 ++ leBytes 2 (unitGen s u).toNat ++ fitTo 16 id ++
  [BitVec.ofNat 8 (b2n (keys && u.1 == ukHalf && (s.half u.2).scrubBad))]

/-! ### WING_REBIND -/

/-- The wing of a SOURCE or DEST byte; 0xFE is the free pool. -/
def wingByte (b : Nat) : Option WingIx := if h : b < 16 then some ⟨b, h⟩ else none

def rbSource (p : Bytes) : Option WingIx := wingByte (leAt p 0 1)
def rbDest (p : Bytes) : Option WingIx := wingByte (leAt p 1 1)

/-- A queue in sequence-number mode (02 R46, R69): by its snapshot, or by its registers while it is DISABLED. -/
def seqQueue (s : State) (q : Nat) : Bool :=
  let x := s.que q
  decide (qMode (if x.state = .disabled then x.regs else x.run) = 1)

/-- A unit that a re-binding or a reset in progress holds (02 R46, 16 R499). -/
def isHeld (s : State) (u : UnitId) : Bool :=
  heldUnit s u.1 u.2 || (u.1 == ukHalf && (s.half u.2).held) || (u.1 == ukExt && (s.ext u.2).held)

/-- A table in a phase with storage in the extent. -/
def tablesIn (s : State) (e : Nat) (p : Table → Bool) : Bool :=
  s.tables.any fun x => match x.2 with
    | some t => p t && t.runs.any fun r => r.stack == e / 48 && decide (r.first < (e % 48 + 1) * extGranules) &&
        decide (e % 48 * extGranules < r.first + r.count)
    | none => false

/-- The payload checks of 02 R47, then checks 2 to 10 of 02 R46. -/
def rebindChecks (s : State) (c : Cmd) : List (Bool × Byte) :=
  let p := c.payload
  let n := leAt p 2 2
  let us := rebindUnits p
  let src := rbSource p
  let dst := rbDest p
  let wingOk (b : Nat) : Bool := decide (b < 16) || decide (b = 0xFE)
  let moving (k : Nat) : Nat := (us.filter fun u => u.1 == k).length
  let above (k : Nat) : Bool := match dst with | some w => decide (kindCount s w k + moving k > kindLimit k) | none => false
  let srcOn := match src with | some w => decide ((s.wing w).state = .enabled) | none => false
  let left (k : Nat) : Nat := match src with | some w => kindCount s w k - moving k | none => 1
  let checking (w : Option WingIx) : Bool := match w with | some w => decide ((s.wing w).state = .checking) | none => false
  [(!zeroAt p 4 4 || (List.range n).any (fun i => !zeroAt p (9 + 8 * i) 3), rRESERVED_FIELD_SET),
   (!wingOk (leAt p 0 1) || !wingOk (leAt p 1 1) || decide (leAt p 0 1 = leAt p 1 1) || decide (n = 0) ||
      us.any (fun u => decide (u.1 > 4)) || decide (c.wing ≠ 0xFF#8), rRESERVED_VALUE),
   (us.any (fun u => !unitRange u), rADDR_RANGE),
   (us.any (fun u => decide (unitOwner s u ≠ src)) || decide (us.eraseDups.length ≠ us.length), rRES_OVERLAP),
   (us.any (fun u => u.1 == ukHalf && halfQuarantined s u.2), rRES_UNAVAILABLE),
   (checking src || checking dst || us.any (isHeld s) ||
      us.any (fun u => u.1 == ukExt && tablesIn s u.2 fun t => t.phase == .creating), rBUSY),
   (above ukQueue, rQUEUE_LIMIT),
   (above ukHalf || above ukExt || above ukVf || above ukFlow, rRES_INSUFFICIENT),
   (decide (moving ukFlow ≠ 0) && (match dst with | some w => !(s.wing w).netOwning | none => false), rNOT_PERMITTED),
   (srcOn && (decide (left ukHalf = 0) || decide (left ukQueue = 0) ||
      (decide (left ukVf = 0) && match src with | some w => (s.wing w).tenant | none => false)), rNOT_PERMITTED),
   (srcOn && us.any (fun u => u.1 == ukExt && tablesIn s u.2 fun t => t.phase == .ready), rNOT_PERMITTED),
   ((match dst with
     | some w => decide ((s.wing w).state = .enabled) && decide (kindCount s w ukHalf + moving ukHalf ≥ 8) &&
         (s.wingQueues w).any (seqQueue s)
     | none => false), rNOT_PERMITTED),
   (longFull s, rBUSY)]

/-- The drain begins: the units are held, and requests of a lent wing's half-cells are to checkpoint (02 R51). -/
def drainBegin (s : State) (us : List UnitId) : State :=
  us.foldl (fun s u =>
    match u.1 with
    | 0 =>
      let s1 := s.updHalf u.2 fun x => { x with held := true }
      match (s.half u.2).owner, (s.half u.2).req with
      | some w, some id => if (s.wing w).lent then s1.updReq id fun r => { r with ckptReq := true } else s1
      | _, _ => s1
    | 1 => s.updExt u.2 fun x => { x with held := true }
    | _ => s) s

/-- WING_REBIND: its checks, then the drain of step 1. A TDI of a wing that it names enters ERROR (15 R481). -/
def wingRebind : Handler := fun s c =>
  checked s (rebindChecks s c) fun s =>
    let us := rebindUnits c.payload
    let s1 := match rbSource c.payload with | some w => tdiTrip s w c.fn | none => s
    (drainBegin s1 us, .pend false [])

def execWingRebind := scpExec 0x0101 wingRebind

/-- Requests of the source that the drain of a unit waits for (02 R51, R52), for a command accepted at `since`. -/
def drainReqs (s : State) (since : Nat) (u : UnitId) : List Req :=
  match unitOwner s u with
  | none => []
  | some w =>
    let mine := s.reqs.filter fun r => r.wing == w && !r.isDone
    match u.1 with
    | 0 => mine.filter fun r => r.halves.any (·.val == u.2) && decide (r.phase ≠ .suspended)
    | 1 => mine.filter fun r => r.kind == .request && decide (r.phase ≠ .validating) && decide (r.admitTs ≤ since)
    | 2 => mine.filter fun r => r.que.val == u.2
    | 3 => if s.hostFn w = some u.2 then mine else []
    | _ => mine.filter fun r => match r.flow with | some f => f.1.val == u.2 | none => false

/-- A unit is drained: its requests have a result, a half-cell's verdicts are in (12 R390), a queue's completions are visible,
and a flow's replies are posted. -/
def unitDrained (s : State) (since : Nat) (u : UnitId) : Bool :=
  (drainReqs s since u).isEmpty &&
  (match u.1 with
   | 0 => decide ((s.half u.2).req = none) && !(s.dups.any fun d => unitHalf d.checker == u.2 || unitHalf d.origin == u.2)
   | 1 => true
   | 2 => decide ((s.que u.2).fetched = 0) && (s.que u.2).awaitRead.isEmpty
   | 3 =>
     (match (s.vf u.2).owner with
      | some w => decide (s.hostFn w ≠ some u.2) || (s.wingQueues w).all fun q => decide ((s.que q).fetched = 0)
      | none => true)
   | _ => !((s.flow u.2).slots.any fun t => t.2.2.isNone))

/-- The response payload of 02 R47. -/
def rebindReply (s : State) (us : List UnitId) : Bytes :=
  leBytes 2 us.length ++ List.replicate 6 0#8 ++
  us.flatMap fun u => [BitVec.ofNat 8 u.1, 0#8] ++ leBytes 2 (unitGen s u).toNat ++ leBytes 4 u.2

/-- The units are no longer held, and the swaps that waited for a half-cell are carried out (02 R72). -/
def releaseHeld (s : State) (us : List UnitId) : State :=
  let s1 := us.foldl (fun s u =>
    match u.1 with
    | 0 => s.updHalf u.2 fun x => { x with held := false }
    | 1 => s.updExt u.2 fun x => { x with held := false }
    | _ => s) s
  (us.filter fun u => u.1 == ukHalf).foldl (fun s u => if (s.half u.2).req = none then afterRequest s u.2 else s) s1

/-- Steps 2 to 9 of 02 R50 for the units of a payload, with the command's result and response. While the Vault cannot serve, an extent
cannot be rekeyed: the command ends with INTERNAL after step 2, and nothing moves (15 R463). TARGET and DETAIL of the record are the
index and the generations of the command's first unit; its hashes cover every unit (02 R57, R76; DESIGN CHOICE, log entry 70). -/
def rebindSteps (s : State) (fn : Fn) (payload : Bytes) (bad : List HcIx) : State × Byte × Bytes :=
  let us := rebindUnits payload
  let dst := rbDest payload
  if us.any (fun u => u.1 == ukExt) && !vaultServes s then
    (releaseHeld (us.foldl fenceUnit s) us, rINTERNAL, [])
  else
    let old := us.flatMap fun u => unitRecord s u false
    let oldGen := (us.head?.map (unitGen s)).getD 0
    let s1 := us.foldl resetUnit (scrubUnits s us dst false bad)
    let s2 := (List.range 16).foldl (dupRepair s1) (us.foldl (bindUnit dst) s1)
    let new := us.flatMap fun u => unitRecord s2 u true
    let newGen := (us.head?.map (unitGen s2)).getD 0
    let wing := (dst.map (·.val)).getD 0xFF
    let s3 := logAppend s2 fn wing 5 ((us.head?.map (·.2)).getD 0) (oldGen.toNat + 2 ^ 32 * newGen.toNat) old new
    let s4 := (us.filter fun u => u.1 == ukHalf).foldl (fun s u => afterRequest s u.2) (tdiTrip s3 wing fn)
    (retireAll (fencePoll s4), if us.any (fun u => u.1 == ukHalf && (s3.half u.2).scrubBad) then rINTERNAL else rOK, rebindReply s3 us)

/-- A mailbox's WING_REBIND from step 2 to its completion. -/
def rebindFinish (s : State) (fn : Fn) (hub : Hub) (r : Run) (bad : List HcIx) : State :=
  let x := rebindSteps s fn r.payload bad
  runFinish x.1 fn hub x.2.1 x.2.2

/-- Authority has passed to the other Curator: the new holder restarts every re-binding at step 2, without its drain, and completes
the command in the mailbox that took it, where there still is one (02 R53; the mailbox is a DESIGN CHOICE, log entry 71). -/
def rebindRestart (s : State) : State :=
  let s1 := s.mbx.foldl (fun s m =>
    match m.2.run with
    | some r => if r.op = 0x0101 then rebindFinish s (Fin.ofNat 256 (m.1 / 2)) (Fin.ofNat 2 m.1) r [] else s
    | none => s) s
  s1.moves.foldl (fun s m => (rebindSteps s m.fn m.payload []).1) { s1 with moves := [] }

/-- Every unit of the mailbox's WING_REBIND is drained, and the Vault runs no self-test (15 R492). -/
def rebindDrainDone (s : State) (fn : Fn) (hub : Hub) (bad : List HcIx) : State :=
  match running s fn hub 0x0101 with
  | some r =>
    let us := rebindUnits r.payload
    if us.all (unitDrained s r.start) && !(us.any (fun u => u.1 == ukExt) && decide (s.vlt.mode = .selfTest)) then
      rebindFinish s fn hub r bad
    else s
  | none => s

/-- Requests are aborted under 02 R52, with their alarms; their pins are released. -/
def abortAll (s : State) (rs : List Req) (why : Nat) : State :=
  retireAll (rs.foldl (fun s r => if (s.findReq r.id).any (fun x => !x.isDone) then abortDrained s r why else s) s)

/-- The completions of a queue that can be written are written. -/
def flushCompletions (s : State) (q : Nat) : State := (List.range (queReqs s q).length).foldl (fun s _ => completionWrite s q) s

/-- The alarm of a drain that passed its bound while no request was left to abort names the wing, with SEQ and queue 0 (02 R52;
DESIGN CHOICE, log entry 71). -/
def drainAlarm (s : State) (w : Nat) : State := alarmCode s 0x0102 w 16 rSTALE_BINDING 0 0 0 0

/-- The bound of a WING_REBIND's drain has passed: what it waits for is aborted, completions that can be written are, and the Curator
continues at step 2 whatever else is open (02 R52). -/
def rebindTimeout (s : State) (fn : Fn) (hub : Hub) (r : Run) : State :=
  let us := rebindUnits r.payload
  let rs := us.flatMap (drainReqs s r.start)
  if us.all (unitDrained s r.start) then s
  else
    let s1 := if rs.isEmpty then drainAlarm s (((rbSource r.payload).map (·.val)).getD 0xFF) else abortAll s rs 0
    let s2 := ((us.filter fun u => u.1 == ukQueue).map (·.2)).foldl flushCompletions s1
    rebindFinish s2 fn hub r []

/-- DRAIN_TIMEOUT: a drain is not complete within its bound (02 R52): of a wing that is being disabled (02 R71) or whose
requests drain in D3hot (16 R514), or of the mailbox's WING_REBIND or HOST_PORT_MOVE (14 R448). -/
def execDrainTimeout (fn : Fn) (hub : Hub) (wing : Option WingIx) (s : State) : Host.Outcome State Fault Refusal :=
  .next (match wing with
    | some w =>
      if (s.wing w).state = .draining then abortAll s (s.liveReqs w) 0
      else if (s.fnSt 0).d3 then abortAll s ((s.liveReqs w).filter (·.dispatched)) 0
      else s
    | none =>
      match (s.mbox (mbxKey fn hub)).run with
      | some r =>
        if r.op = 0x0101 then rebindTimeout s fn hub r
        else if r.op = 0x0A02 then
          abortAll s (s.reqs.filter fun x => !x.isDone && x.dispatched && decide (x.phase ≠ .suspended)) 0
        else s
      | none => s)

/-! ### Regeneration of a wing's root key (15 R472) -/

/-- A fresh root for a wing: steps 2 to 7 of 02 R50 on every unit bound to it. The units stay bound. -/
def regenWing (s : State) (w : Nat) : State :=
  let f := s.free 32
  let s1 := f.2.updWing w fun x => { x with wr := f.1 }
  retireAll (scrubUnits s1 (wingUnits s1 w) none true [])

end Sys2Proof.Machine
end

