-- ==== Sys2Proof/Machine/Wings.lean ====
section
/-! DEFINITION. Wings (02 R42, R48, R49, R65 to R74): grants and queries, the enable checks, APPLY and disable, and the
violation summaries. -/

namespace Sys2Proof.Machine

/-! ### WING_GRANT and WING_QUERY -/

/-- WNG_GRANT bits [3:0] (02 R73). -/
def grantBits (x : Wing) : Nat := b2n x.lent + 4 * b2n x.netOwning + 8 * b2n x.tenant

/-- WING_GRANT (02 R48). A change of OWNER ends the tenant key, regenerates the root key and clears the catalogue counters
(06 R201, 15 R472, R474). -/
def wingGrant : Handler := fun s c =>
  let p := c.payload
  let w := c.wing.toNat
  let changes := decide ((leAt p 2 1 = 1) ≠ ((s.wing w).tenant = true))
  checked s [
      (!zeroAt p 3 1, rRESERVED_FIELD_SET), (decide (leAt p 0 1 > 1 ∨ leAt p 1 1 > 1 ∨ leAt p 2 1 > 1), rRESERVED_VALUE),
      badWing c, (decide ((s.wing w).state ≠ .disabled), rNOT_PERMITTED), (changes && !vaultServes s, rINTERNAL)]
    fun s =>
      let s1 := (scpCommit s c).updWing w fun x =>
        { x with lent := leAt p 0 1 == 1, netOwning := leAt p 1 1 == 1, tenant := leAt p 2 1 == 1 }
      if changes then
        (regenWing (s1.updWing w fun x => { x with tk := none, lookups := 0, hits := 0, skipped := 0 }) w, .done rOK [])
      else (s1, .done rOK [])

def execWingGrant := scpExec 0x0102 wingGrant

/-- An entry of the list of WING_QUERY (02 R49). -/
def queryEntry (s : State) (u : UnitId) : Bytes :=
  let ix := match u.1 with
    | 2 => u.2 + 65536 * (s.que u.2).wqi
    | 4 => u.2 + 65536 * (s.flow u.2).wfi
    | _ => u.2
  [BitVec.ofNat 8 u.1, 0#8] ++ leBytes 2 (unitGen s u).toNat ++ leBytes 4 ix

/-- HALF_CELLS of a wing (02 R73). -/
def wingHalfMask (s : State) (w : Nat) : Nat := maskOf 16 fun h => (s.wingHalves w).contains h

/-- WING_QUERY. -/
def wingQuery : Handler := fun s c =>
  let p := c.payload
  let w := c.wing.toNat
  let us := wingUnits s w
  let first := leAt p 0 2
  let n (k : Nat) : Nat := (us.filter fun u => u.1 == k).length
  checked s [
      (!zeroAt p 2 2, rRESERVED_FIELD_SET), badWing c,
      (decide (first ≥ us.length) && decide (us.length ≠ 0), rADDR_RANGE)]
    fun s =>
      let es := (us.drop first).take 504
      (s, .done rOK ([BitVec.ofNat 8 (wingCode (s.wing w).state), BitVec.ofNat 8 (grantBits (s.wing w))] ++
        leBytes 2 (wingHalfMask s w) ++ leBytes 2 (n ukQueue) ++ leBytes 2 (n ukVf) ++ leBytes 2 (n ukExt) ++
        leBytes 2 (n ukFlow) ++ leBytes 2 us.length ++ leBytes 2 es.length ++ leBytes 2 first ++ List.replicate 14 0#8 ++
        es.flatMap (queryEntry s)))

def execWingQuery := scpExec 0x0103 wingQuery

/-! ### Violation summaries (02 R65) -/

/-- A summary is due: violations since the last one, which is 1 ms old at least. -/
def summaryDue (s : State) (since last : Nat) : Bool :=
  decide (since ≠ 0) && (decide (last = 0) || decide (s.now - last ≥ 1000000))

/-- VIOLATION_SUMMARY of a wing and a kind; wing 16 is no wing. While the log is full, the counters alone count (02 R77). The
record's TARGET is the kind (DESIGN CHOICE, log entry 25). -/
def violationSummary (s : State) (w kind : Nat) : State :=
  if logFull s then s
  else if w < 16 then
    let x := s.wing w
    let n := Tbl.get 0 x.violSince kind
    if summaryDue s n (Tbl.get 0 x.violAt kind) then
      (logAppend s 0xFFFF w 3 kind n [] []).updWing w fun x =>
        { x with violSince := Tbl.set 0 x.violSince kind 0, violAt := Tbl.set 0 x.violAt kind s.now }
    else s
  else
    let n := Tbl.get 0 s.noWingSince kind
    if summaryDue s n (Tbl.get 0 s.noWingAt kind) then
      let s1 := logAppend s 0xFFFF 0xFF 3 kind n [] []
      { s1 with noWingSince := Tbl.set 0 s1.noWingSince kind 0, noWingAt := Tbl.set 0 s1.noWingAt kind s.now }
    else s

def execViolationSummary (wing : Fin 17) (kind : Fin 7) (s : State) : Host.Outcome State Fault Refusal :=
  .next (violationSummary s wing kind)

/-! ### The enable checks (02 R66 to R70) -/

/-- Enabled network-owning wings other than one (02 R43). -/
def netWings (s : State) (w : Nat) : Nat :=
  ((List.range 16).filter fun v => decide (v ≠ w) && decide ((s.wing v).state = .enabled) && (s.wing v).netOwning).length

/-- Every floor is met over the given weights and floors: w × 256 ≥ floor × Σw, for MEM, PAIR and HOST (02 R68). -/
def floorsMet (l : List Shadow) : Bool :=
  [0, 8, 16].all fun lo =>
    let sum := (l.map fun x => fld x.weight.toNat lo 8).sum
    l.all fun x => decide (fld x.floor.toNat lo 8 * sum ≤ fld x.weight.toNat lo 8 * 256)

/-- A bound extent's stack is failed, or a repair or margining of it is in progress (18 R568). -/
def stackOut (s : State) (e : Nat) : Bool := (s.stack (e / 48)).failed

/-- Checks 1 to 11 of 02 R69 on a snapshot. -/
def wingChecks (s : State) (w : Nat) (x : Shadow) : Option (Nat × Byte) :=
  let hs := s.wingHalves w
  let g := s.wing w
  let others := ((List.range 16).filter fun v => decide (v ≠ w) && decide ((s.wing v).state = .enabled)).map fun v => (s.wing v).live
  firstFailAt [
    ([0, 8, 16].any (fun lo => decide (fld x.weight.toNat lo 8 = 0)), rRESERVED_VALUE),
    (hs.isEmpty || (s.wingQueues w).isEmpty || (g.tenant && (s.wingVfs w).isEmpty), rRES_INSUFFICIENT),
    (hs.any (fun h => halfDegraded s h || halfQuarantined s h || (s.half h).unavailable) ||
      (s.wingExtents w).any (fun e => stackOut s e || (s.ext e).unavailable), rRES_UNAVAILABLE),
    (g.netOwning && decide (netWings s w ≥ 4), rRES_UNAVAILABLE),
    (decide (hs.length ≥ 8) && (s.wingQueues w).any (seqQueue s), rNOT_PERMITTED),
    (decide (fld x.ptRoot.toNat 0 48 % 4096 ≠ 0), rADDR_ALIGN),
    (decide (fld x.ptRoot.toNat 0 48 ≥ dramSize) ||
      decide ((s.ext (extOf (fld x.ptRoot.toNat 0 48))).owner.map (·.val) ≠ some w), rADDR_RANGE),
    (decide (g.tsyncGen = 0), rTRANSLATION_MISSING),
    (g.tenant && g.tk.isNone, rKEY_MISSING),
    (bit x.policy.toNat 3 && decide (s.vlt.mode ≠ .approved), rNOT_APPROVED_MODE),
    (!floorsMet (x :: others), rRES_INSUFFICIENT)]

/-- WING_CHECK_DONE: the evaluation of an enable ends (02 R69). Its start-up window opens (10 R329). -/
def wingCheckDone (s : State) (w : Nat) : State :=
  let x := s.wing w
  match x.state, x.snap with
  | .checking, some p =>
    match wingChecks s w p with
    | some f => s.setWing w { x with state := .disabled, enableReq := false, snap := none, reason := f.2, check := f.1 }
    | none => dupRepair s (s.setWing w { x with state := .enabled, live := p, snap := none, applyNext := none, reason := rOK, check := 0,
                                                bubStart := 1000, stopAdmit := false }) w
  | _, _ => s

def execWingCheckDone (wing : WingIx) (s : State) : Host.Outcome State Fault Refusal := .next (wingCheckDone s wing)

/-! ### WNG_CTL (02 R69 to R73) -/

/-- BAR0 offset of a register of a wing's page as the function sees it (02 R73). -/
def wngOff (fn : Fn) (w off : Nat) : Nat := 0x40000 + (if fn = 0 then 0x1000 * w else 0) + off

/-- What an accepted WNG_CTL write does: ENABLE 1 on a disabled wing starts the check, ENABLE 0 on an enabled one the drain,
APPLY on an enabled one the check of the shadow. Where a write changes ENABLE, its APPLY has no effect: ENABLE 0 with APPLY 1 on an
enabled wing only drains it, ENABLE 1 with APPLY 1 on a disabled one only starts the enable check, which takes the shadow anyway
(02 R70 does not say which bit wins; DESIGN CHOICE, log entry 70). -/
def wngCtlAct (s : State) (w : Nat) (enable apply : Bool) : State :=
  let x := s.wing w
  match x.state with
  | .disabled =>
    if enable then s.setWing w { x with enableReq := true, state := .checking, snap := some x.shadow } else s
  | .enabled =>
    if !enable then s.setWing w { x with enableReq := false, state := .draining }
    else if apply then
      match wingChecks s w x.shadow with
      | some f => s.setWing w { x with reason := f.2, check := f.1 }
      | none => s.setWing w { x with reason := rOK, check := 0, applyNext := some x.shadow }
    else s
  | _ => s

/-- A write of WNG_CTL: ignored and recorded while CHECKING or DRAINING (02 R72) and in quarantine (18 R553). -/
def wngCtl (s : State) (fn : Fn) (w : WingIx) (enable apply : Bool) : State :=
  wingReg s fn w fun s =>
    let x := s.wing w
    if s.fw.quarantine || decide (x.state = .checking) || decide (x.state = .draining) then
      ignoredWrite s fn w (wngOff fn w 0) 4 (b2n x.enableReq) (b2n enable)
    else
      loggedWrite s fn w (wngOff fn w 0) 4 (b2n x.enableReq) (b2n enable) fun s => wngCtlAct s w enable apply

/-- WING_ENABLE: ENABLE written 1. -/
def execWingEnable (fn : Fn) (wing : WingIx) (s : State) : Host.Outcome State Fault Refusal :=
  .next (wngCtl s fn wing true false)

/-- WING_APPLY: APPLY written with ENABLE as it stands, so that on a disabled wing it has no effect (02 R70). -/
def execWingApply (fn : Fn) (wing : WingIx) (s : State) : Host.Outcome State Fault Refusal :=
  .next (wngCtl s fn wing (decide ((s.wing wing).state ≠ .disabled)) true)

/-- WING_DISABLE: ENABLE written 0. -/
def execWingDisable (fn : Fn) (wing : WingIx) (s : State) : Host.Outcome State Fault Refusal :=
  .next (wngCtl s fn wing false false)

/-- The wing is DISABLED, and its stored images are discarded (05 R147). -/
def wingOff (s : State) (w : Nat) : State :=
  let s1 := s.updWing w fun x =>
    { x with state := .disabled, enableReq := false, snap := none, applyNext := none, stopAdmit := false, bubStart := 0 }
  { s1 with images := s1.images.filter fun i => i.wing.val != w }

/-- WING_DRAIN_DONE: every fetched entry of a draining wing has completed (02 R71). -/
def execWingDrainDone (wing : WingIx) (s : State) : Host.Outcome State Fault Refusal :=
  .next (if (s.wing wing).state = .draining ∧ !(s.reqs.any fun r => r.wing == wing) then wingOff s wing else s)

end Sys2Proof.Machine
end

