-- ==== Sys2Proof/Machine/Curator.lean ====
section
/-! DEFINITION. Hub authority (03 R96 to R109) and the session commands: HELLO, AUTH_QUERY, AUTH_HANDOVER, heartbeats, claims,
fencing and rebuild. -/

namespace Sys2Proof.Machine

/-! ### HELLO and AUTH_QUERY -/

/-- HELLO (03 R85). -/
def hello : Handler := fun s c =>
  let p := c.payload
  let ok := decide (leAt p 0 1 = 1) && decide (leAt p 1 1 ≤ leAt p 2 1) && decide (leAt p 1 1 ≤ 2)
  checked s [noWing c, (!zeroAt p 3 1, rRESERVED_FIELD_SET), (!ok, rVERSION_UNSUPPORTED)] fun s =>
    let m := BitVec.ofNat 8 (min (leAt p 2 1) 2)
    let w := match s.fnWing c.fn with | some w => BitVec.ofNat 8 w | none => 0xFF#8
    (s.updFnSt c.fn fun f => { f with minor := m }, .done rOK ([1#8, m] ++ leBytes 2 c.fn ++ [w] ++ List.replicate 3 0#8))

def execHello := scpExec 0x0001 hello

/-- The hub that is not `h`. -/
def otherHub (h : Hub) : Hub := if h = 0 then 1 else 0

/-- The other hub is unreachable: the link between the hubs is down, or its main rails are off (03 R80). -/
def hubCut (s : State) (h : Hub) : Bool := !s.hubLinkUp || !(s.hub h).mains

/-- AUTH_QUERY (03 R107). -/
def authQuery : Handler := fun s c =>
  let me := s.hub c.hub
  let st (h : Hub) : Byte :=
    if h ≠ c.hub ∧ hubCut s h then 0xFF#8 else BitVec.ofNat 8 (authCode (s.hub h).auth)
  let age := match me.lastBeat with | some t => s.now - t | none => 2 ^ 64 - 1
  checked s [noWing c] fun s =>
    (s, .done rOK (leBytes 4 me.authTerm.toNat ++ [BitVec.ofNat 8 me.authHolder, st 0, st 1, BitVec.ofNat 8 c.hub] ++
      leBytes 8 age ++ leBytes 2 me.authBeat.toNat ++ List.replicate 14 0#8))

def execAuthQuery := scpExec 0x0002 authQuery

/-! ### The plinth (03 R96, R97) -/

/-- A hub reads the plinth. -/
def plinthRead (s : State) (h : Nat) : State :=
  s.updHub h fun x => { x with authTerm := s.plinth.term, authHolder := s.plinth.holder, authBeat := s.plinth.beat }

/-- AUTHORITY_STATE (17 R526): a state, or 8 for an exhausted term. -/
def authAlarm (s : State) (h code : Nat) : State := alarm s 0x0105 0xFF (16 + h) h code s.plinth.term.toNat 0

/-- Neither hub holds authority, or both have failed: no request is admitted, and ALERT# asserts (03 R108, 17 R541). -/
def loseAuthority (s : State) : State :=
  if s.noAuthority then s
  else alarm (setAlert { s with noAuthority := true } 1 true) 0x0107 0xFF (16 + s.pcie.activeHub) (s.now - s.lastDispatch) 0 0 0

/-- A plinth access fails while the hub is not HOLDER (03 R103). -/
def hubFail (s : State) (h : Hub) : State :=
  let s1 := authAlarm (s.updHub h fun x => { x with auth := .failed, beatRead := none }) h 7
  if (s1.hub (otherHub h)).auth = .failed then loseAuthority s1 else s1

/-- The hub starts to hold authority under the plinth's term: TERM_ADVANCE to every port, and the rebuild (03 R103). -/
def startClaim (s : State) (h : Hub) : State :=
  let s1 := plinthRead (s.updHub h fun x => { x with auth := .claiming, rebuilding := true, beatRead := none, slots := 0 }) h
  let ps := (s1.ports.map fun (p : Nat × Port) => (p.1, { p.2 with acked := false })).filter fun (p : Nat × Port) => decide (p.2 ≠ Port.init)
  let s2 := { s1 with ports := ps }
  s2.emit (.termAdvance h s2.plinth.term)

/-- Claim on behalf of a hub: fails while the term is exhausted, with its alarm (03 R97). Requests of the old term open the
recovery window of their wings (10 R329). -/
def plinthClaim (s : State) (h : Hub) : Option State :=
  if s.plinth.term = 0xFFFFFFFF then none
  else
    let s1 := { s with plinth := { term := s.plinth.term + 1, beat := 0, holder := h } }
    let old (r : Req) : Bool := r.dispatched && !r.isDone
    let ws := (s1.reqs.filter old).map (·.wing.val)
    let s2 := { s1 with reqs := s1.reqs.map fun r => if old r then { r with oldTerm := true } else r }
    some (startClaim (ws.foldl (fun s w => s.updWing w fun x => { x with bubRecover := true }) s2) h)

/-- AUTH_HANDOVER (03 R106, R107): the holder claims for the other hub, which must be reachable; one in FAILED or BOOTING counts as
unreachable, since it could not run CLAIMING (DESIGN CHOICE, log entry 46). The Claim compares HOLDER and TERM with those of the
issuing hub (03 R97): where they differ it has been superseded, reads the plinth, stops as after a term-stale reply, and answers
BUSY_REDIRECT (DESIGN CHOICE, log entry 46). An exhausted TERM answers INTERNAL with its alarm (DESIGN CHOICE, log entry 46). -/
def authHandover : Handler := fun s c =>
  let o := otherHub c.hub
  let x := (s.hub o).auth
  checked s [
      noWing c,
      (hubCut s o || decide (x = .failed ∨ x = .booting), rRES_UNAVAILABLE)]
    fun s =>
      if s.plinth.holder ≠ c.hub ∨ s.plinth.term ≠ (s.hub c.hub).authTerm then
        (plinthRead (s.updHub c.hub fun x => { x with auth := .fencing }) c.hub, .done rBUSY_REDIRECT [])
      else match plinthClaim s o with
      | none => (authAlarm s c.hub 8, .done rINTERNAL [])
      | some s1 =>
        let s2 := plinthRead ((scpCommit s1 c).updHub c.hub fun x => { x with auth := .shadow, slots := 0, beatRead := none }) c.hub
        (s2, .done rOK (leBytes 4 s2.plinth.term.toNat ++ [BitVec.ofNat 8 o] ++ List.replicate 3 0#8))

def execAuthHandover := scpExec 0x0003 authHandover

/-! ### Heartbeats (03 R102, R103) -/

/-- HEARTBEAT_TIMER: the holder's Beat, and its heartbeat; a Beat or an access that fails sends it to FENCING. -/
def heartbeatTimer (s : State) (h : Hub) (ok : Bool) : State :=
  let x := s.hub h
  if x.auth ≠ .holder then s
  else if ok ∧ s.plinth.holder = h ∧ s.plinth.term = x.authTerm then
    let s1 := plinthRead { s with plinth := { s.plinth with beat := s.plinth.beat + 1 } } h
    let s2 := s1.updHub h fun x => { x with lastBeat := some s.now }
    if s2.hubLinkUp then s2.emit (.heartbeat h s2.plinth.term) else s2
  else s.setHub h { x with auth := .fencing }

def execHeartbeatTimer (hub : Hub) (ok : Bool) (s : State) : Host.Outcome State Fault Refusal := .next (heartbeatTimer s hub ok)

/-- HEARTBEAT_RECEIVE: one of the current term clears the count and ends a suspicion. -/
def heartbeatReceive (s : State) (h : Hub) (term : W32) : State :=
  let x := s.hub h
  if (x.auth = .shadow ∨ x.auth = .suspect ∨ x.auth = .isolated) ∧ term = s.plinth.term then
    plinthRead (s.setHub h { x with auth := .shadow, slots := 0, beatRead := none, lastBeat := some s.now }) h
  else s

def execHeartbeatReceive (hub : Hub) (term : W32) (s : State) : Host.Outcome State Fault Refusal :=
  .next (heartbeatReceive s hub term)

/-- HEARTBEAT_SLOT: a slot passed without a heartbeat; the fifth one makes the shadow SUSPECT, which reads BEAT. A read that fails
sends it to FAILED. -/
def heartbeatSlot (s : State) (h : Hub) (ok : Bool) : State :=
  let x := s.hub h
  if x.auth ≠ .shadow then s
  else if x.slots + 1 < 5 then s.setHub h { x with slots := x.slots + 1 }
  else if !ok then hubFail s h
  else plinthRead (s.setHub h { x with slots := 5, auth := .suspect, beatRead := some s.plinth.beat }) h

def execHeartbeatSlot (use : PlinthUse) (s : State) : Host.Outcome State Fault Refusal := .next (heartbeatSlot s use.hub use.ok)

/-- A Claim by a suspecting hub with the values of its last read. -/
def tryClaim (s : State) (h : Hub) : State :=
  let x := s.hub h
  if s.plinth.holder = x.authHolder ∧ s.plinth.term = x.authTerm then
    match plinthClaim s h with
    | some s1 => s1
    | none => authAlarm (s.setHub h { x with auth := .shadow, slots := 0, beatRead := none }) h 8
  else plinthRead (s.setHub h { x with auth := .shadow, slots := 0, beatRead := none }) h

/-- BEAT_CONFIRM_TIMER: the second read of BEAT, 200 µs after the first. In ISOLATED a BEAT that stopped leads back to
SUSPECT. -/
def beatConfirm (s : State) (h : Hub) (ok : Bool) : State :=
  let x := s.hub h
  if x.auth ≠ .suspect ∧ x.auth ≠ .isolated then s
  else if !ok then hubFail s h
  else if x.beatRead ≠ some s.plinth.beat then
    let s1 := plinthRead (s.setHub h { x with auth := .isolated, beatRead := some s.plinth.beat }) h
    if x.auth = .isolated then s1 else authAlarm s1 h 6
  else if x.auth = .isolated then s.setHub h { x with auth := .suspect }
  else tryClaim s h

def execBeatConfirmTimer (hub : Hub) (ok : Bool) (s : State) : Host.Outcome State Fault Refusal := .next (beatConfirm s hub ok)

/-- TERM_STALE_REPLY: a holder that meets a higher term stops (03 R99, R103). -/
def execTermStaleReply (hub : Hub) (term : W32) (s : State) : Host.Outcome State Fault Refusal :=
  .next (if (s.hub hub).auth = .holder ∧ (s.hub hub).authTerm < term then s.updHub hub fun x => { x with auth := .fencing } else s)

/-- FENCE_DONE: the hub records the holder and the term; a read of the plinth that fails sends it to FAILED (03 R103). -/
def fenceDone (s : State) (h : Hub) (ok : Bool) : State :=
  if (s.hub h).auth ≠ .fencing then s
  else if ok then plinthRead (s.updHub h fun x => { x with auth := .shadow, slots := 0, beatRead := none }) h
  else hubFail s h

def execFenceDone (use : PlinthUse) (s : State) : Host.Outcome State Fault Refusal := .next (fenceDone s use.hub use.ok)

/-! ### CLAIMING (03 R100, R103 to R105) -/

/-- The hub in CLAIMING. -/
def claimingHub (s : State) : Option Hub := if (s.hub 0).auth = .claiming then some 0 else if (s.hub 1).auth = .claiming then some 1 else none

/-- Every reachable port has acknowledged. -/
def portsReady (s : State) : Bool := (List.range 62).all fun p => (s.port p).acked || (s.port p).unreachable

/-- CLAIMING ends when every reachable port has acknowledged and the rebuild is done. -/
def claimEnds (s : State) (h : Hub) : State :=
  if portsReady s && !(s.hub h).rebuilding then
    setAlert { (s.updHub h fun x => { x with auth := .holder }) with noAuthority := false } 1 false
  else s

/-- TERM_ADVANCE_ACK. -/
def execTermAdvanceAck (port : Fin 62) (s : State) : Host.Outcome State Fault Refusal :=
  .next (match claimingHub s with
    | some h =>
      claimEnds (s.updPort port fun p =>
        { p with term := if p.term < s.plinth.term then s.plinth.term else p.term, acked := true }) h
    | none => s)

/-- TERM_ADVANCE_TIMEOUT: a port that did not acknowledge is unreachable; what lies behind it is unavailable (03 R104). -/
def termAdvanceTimeout (s : State) (port : Nat) : State :=
  match claimingHub s with
  | none => s
  | some h =>
    if (s.port port).acked || (s.port port).unreachable then s
    else
      let d := portDie port
      let s1 := s.updPort port fun p => { p with unreachable := true }
      let s2 := if d < 8 then (s1.updHalf (2 * d) fun x => { x with unavailable := true }).updHalf (2 * d + 1) fun x =>
            { x with unavailable := true }
        else if d < 16 then (List.range 48).foldl (fun s e => s.updExt ((d - 8) * 48 + e) fun x => { x with unavailable := true }) s1
        else s1
      claimEnds (alarm s2 0x0106 0xFF d d port 0 0) h

def execTermAdvanceTimeout (port : Fin 62) (s : State) : Host.Outcome State Fault Refusal := .next (termAdvanceTimeout s port)

/-- A queue's entries after its last dispatched one have no dispatch record: they are fetched again (03 R101, R105). The reference
SEQ is the one before the first of them (04 R120). -/
def refetch (s : State) (q : Nat) : State :=
  let x := s.que q
  let rs := queReqs s q
  let lost := (rs.reverse.takeWhile fun r => !r.dispatched).map (·.id)
  if lost.isEmpty ∨ qNet x.run then s
  else
    let size := 2 ^ qSqLog x.run
    let s1 := { s with reqs := s.reqs.filter fun r => !lost.contains r.id }
    s1.setQue q { x with
      fetched := x.fetched - lost.length,
      sqHead := BitVec.ofNat 16 ((x.sqHead.toNat + size - lost.length % size) % size),
      refSeq := match rs.find? fun r => lost.contains r.id with | some r => r.refBefore | none => x.refSeq }

/-- Docents that never started are sent their request again under the new term. -/
def redispatch (s : State) : State :=
  s.docents.foldl (fun s d =>
    if d.2.state = .loading then
      match d.2.req with
      | some id =>
        (s.updReq id fun r => { r with term := s.plinth.term }).emit
          (.dispatch (Fin.ofNat 40 d.1) (s.half (docHalf s d.1)).gen s.plinth.term)
      | none => s
    else s) s

/-- Commits and TRANSLATION_SYNCs whose holder changed end with BUSY (07 R239, 11 R370). -/
def endOrphans (s : State) : State :=
  let s1 := s.cats.foldl (fun s c => if c.2.commit.isSome then commitEnd s (c.1 / 8) (c.1 % 8) rBUSY else s) s
  s1.mbx.foldl (fun s m =>
    match m.2.run with
    | some r => if r.op = 0x0301 then runFinish s (Fin.ofNat 256 (m.1 / 2)) (Fin.ofNat 2 m.1) rBUSY [] else s
    | none => s) s1

/-- REBUILD_DONE: the in-flight table has been worked through (03 R105), and re-bindings restart at their step 2 (02 R53). -/
def rebuildDone (s : State) (h : Hub) : State :=
  let x := s.hub h
  if x.auth ≠ .claiming ∨ !x.rebuilding then s
  else
    let s1 := rebindRestart <| endOrphans (redispatch (s.queues.foldl (fun s q => refetch s q.1) s))
    claimEnds (s1.updHub h fun x => { x with rebuilding := false }) h

def execRebuildDone (hub : Hub) (s : State) : Host.Outcome State Fault Refusal := .next (rebuildDone s hub)

/-- NO_AUTHORITY_TIMEOUT: no hub has held authority for more than 10 ms (03 R108). -/
def execNoAuthorityTimeout (s : State) : Host.Outcome State Fault Refusal :=
  .next (if s.holderHub.isNone then loseAuthority s else s)

end Sys2Proof.Machine
end

