-- ==== Sys2Proof/Machine/Pair.lean ====
section
/-! DEFINITION. The pair (13): configuration, the optical link, time alignment, the lease and its witness, declaration of loss,
rejoin and resynchronisation. Mirrored records, commits and table commands lie in Updates and Catalogues. -/

namespace Sys2Proof.Machine

/-! ### The link (13 R397 to R399) -/

/-- Failed active positions of a wavelength in one direction, and its spare lanes that work. -/
def lostAtLambda (d : LinkDie) (rx : Bool) (k : Nat) : Nat :=
  (d.failed.filter fun x => x.1 == rx && decide (x.2.1 < 32) && x.2.2 == k).length
def sparesAt (d : LinkDie) (rx : Bool) (k : Nat) : List Nat := [32, 33].filter fun f => !d.failed.contains (rx, f, k)

/-- Spare lanes that stand in for failed ones at a wavelength, lower fiber first (13 R398). -/
def sparesUsedAt (d : LinkDie) (rx : Bool) (k : Nat) : List Nat := (sparesAt d rx k).take (lostAtLambda d rx k)

/-- Spare lanes in use, and lane positions that are served, in one direction (13 R397 to R399). -/
def spareLanes (d : LinkDie) (rx : Bool) : Nat := ((List.range 8).map fun k => (sparesUsedAt d rx k).length).sum
def servedLanes (d : LinkDie) (rx : Bool) : Nat :=
  256 - ((List.range 8).map fun k => lostAtLambda d rx k - (sparesUsedAt d rx k).length).sum

/-- The lane counts that follow from the failed lanes: of the direction that serves fewer positions, and of the one that uses more
spares (DESIGN CHOICE, log entry 76). -/
def laneCounts (d : LinkDie) : LinkDie :=
  { d with active := min (servedLanes d false) (servedLanes d true), spareUsed := max (spareLanes d false) (spareLanes d true) }

/-- The fibers whose receiver has lost lock on every wavelength: their lasers are off (19 R584). -/
def darkFibers (failed : List (Bool × Nat × Nat)) : List Nat :=
  (List.range 34).filter fun f => (List.range 8).all fun k => failed.contains (true, f, k)

/-- A link die down: no lane is served, and its replay buffer is empty. -/
def dieOff (d : LinkDie) : LinkDie := { d with up := false, active := 0, spareUsed := 0, replay := [] }

/-- UP, DEGRADED or DOWN by the link dies (13 R399). -/
def linkOf (p : Par) : PairLink :=
  if p.die0.up && p.die1.up && decide (p.die0.active = 256) && decide (p.die1.active = 256) then .up
  else if p.die0.up || p.die1.up then .degraded
  else .down

/-! ### Witness datagrams (13 R416) -/

/-- A witness is configured. -/
def hasWitness (p : Par) : Bool := p.enable && !allZero p.witnessIp

/-- A RENEW (0) or CLAIM (1): its nonce is a free value (DESIGN CHOICE, log entry 10), and it is noted until its answer. -/
def askWitness (s : State) (type : Nat) : State :=
  match s.par.pk with
  | none => s
  | some pk =>
    if !hasWitness s.par then s
    else
      let f := s.free 8
      let p := s.par
      let head := [0x52#8, 0x4E#8, 0x57#8, 0x54#8, 0x10#8, BitVec.ofNat 8 type, BitVec.ofNat 8 (b2n p.position), 0#8] ++
        beBytes 4 p.pairId.toNat ++ beBytes 4 p.term.toNat ++ f.1 ++ beBytes 8 s.now ++ List.replicate 16 0#8
      let a : Asked :=
        { claim := decide (type = 1), nonce := BitVec.ofNat 64 (fromLE f.1), time := s.now, afterLoss := !linkUp p.link }
      (f.2.updPar fun p => { p with asked := p.asked ++ [a] }).emit (.witness (head ++ (hmac384 pk head).take 16))

/-! ### Leaving the connected states -/

/-- The mailbox whose PAIR_LEASE acquire waits for the partner (13 R415). -/
def askRun (s : State) : Option (Fn × Hub × Run) :=
  s.mbx.findSome? fun e => match e.2.run with
    | some r => if r.op = 0x0502 then some (Fin.ofNat 256 (e.1 / 2), Fin.ofNat 2 e.1, r) else none
    | none => none

/-- A waiting acquire ends with a code. -/
def askEnd (s : State) (code : Byte) : State := match askRun s with | some x => runFinish s x.1 x.2.1 code [] | none => s

/-- The link has left the connected states: V is noted, a holder asks the witness at once, and table commands and an acquire that wait
for the partner end (13 R406, R414, R415, R424). -/
def linkLost (s : State) : State :=
  let s1 := s.updPar fun p => { p with lostAt := some s.now, aligned := false, compareDue := [] }
  let s2 := s1.par.entries.foldl (fun s e => s.updCat (catKey e.1 e.2.1) fun k => { k with lossV := some k.vis }) s1
  let s3 := askEnd (s2.par.tableWait.foldl (fun s x => tableWaitFail s x rPARTNER_LOST) s2) rNOT_PERMITTED
  if s3.par.lease = .holder then askWitness s3 0 else s3

/-- The link takes a new state. -/
def setLinkState (s : State) (l : PairLink) : State :=
  let s1 := s.updPar fun p => { p with link := l }
  if linkUp s.par.link && !linkUp l then linkLost s1 else s1

/-- A link die goes down (13 R399): while the other one serves the link, the frames that it had not had acknowledged go there
(13 R401). -/
def linkDieDown (s : State) (n : Hub) : State :=
  if !(s.par.die n).up then s
  else
    let p := s.par.setDie n (dieOff (s.par.die n))
    let s1 := s.updPar fun _ => p
    if linkUp s.par.link then
      let s2 := setLinkState s1 (linkOf p)
      if linkUp s2.par.link then resendFrames s2 (otherHub n) (s.par.die n).replay else s2
    else s1

def execLinkDieDown (die : Hub) (s : State) : Host.Outcome State Fault Refusal := .next (linkDieDown s die)

/-- RANRI_FRAME_RECEIVE: a bad frame is asked for again; a good one is acknowledged and its place taken, the frames that it acknowledges
leave the replay buffer, and one that it asks for is sent again (13 R397). In MISMATCH the link carries no traffic (13 R396). -/
def ranriFrame (s : State) (n : Hub) (h : FrameHead) (ok : Bool) : State :=
  let d := s.par.die n
  if !d.up || decide (s.par.link = .mismatch) then s
  else if !ok then s.emit (.pair n .frameRepeat [h.seq.toNat] [])
  else
    let d' := { d with idle := s.now, rxSeq := if h.seq = d.rxSeq then d.rxSeq + 1 else d.rxSeq, replay := framesAfter d.replay h.ack }
    repeatFrame ((s.updPar fun p => p.setDie n d').emit (.pair n .frameAck [h.seq.toNat] [])) n h.again

def execRanriFrameReceive (die : Hub) (seq : FrameHead) (ok : Bool) (s : State) : Host.Outcome State Fault Refusal :=
  .next (ranriFrame s die seq ok)

/-- KEEPALIVE_TICK: keepalive frames go out; a die that has had no valid frame for 5 µs is down (13 R399). In MISMATCH there is no
traffic (13 R396). -/
def keepaliveTick (s : State) (n : Hub) : State :=
  let d := s.par.die n
  if !d.up || decide (s.par.link = .mismatch) then s
  else if s.now - d.idle ≥ 5000 then linkDieDown s n
  else s.emit (.pair n .keepalive [] [])

def execKeepaliveTick (die : Hub) (s : State) : Host.Outcome State Fault Refusal := .next (keepaliveTick s die)

/-- LANE_FAILURE: the lane is taken out of service; a free spare lane of its wavelength and direction replaces it, else it is lost
(13 R398). A die with fewer than 128 positions served in either direction is down (13 R399). -/
def laneFailure (s : State) (n : Hub) (rx : Bool) (fiber lam : Nat) : State :=
  let d := s.par.die n
  if !d.up || d.failed.contains (rx, fiber, lam) then s
  else
    let bad := d.failed ++ [(rx, fiber, lam)]
    let d' := laneCounts { d with failed := bad, lasersOff := (d.lasersOff ++ (darkFibers bad).filter (· == fiber)).eraseDups }
    let inUse := decide (fiber < 32) || (sparesUsedAt d rx lam).contains fiber
    let p := s.par.setDie n d'
    let s1 := s.updPar fun _ => p
    let s2 := if inUse then
        logEvent s1 0x1005 1 0xFF (18 + n) 0 (n + 256 * fiber + 65536 * lam) (b2n (decide (servedLanes d' rx < servedLanes d rx))) 0 0
      else s1
    if d'.active < 128 then linkDieDown s2 n else if linkUp s.par.link then setLinkState s2 (linkOf p) else s2

def execLaneFailure (die : Hub) (fiber : LaneFiber) (lambda : Fin 8) (s : State) : Host.Outcome State Fault Refusal :=
  .next (laneFailure s die fiber.receive fiber.fiber lambda)

/-- TRAINING_RETRY_TIMER: training is tried again from DOWN. -/
def execTrainingRetryTimer (s : State) : Host.Outcome State Fault Refusal :=
  .next (if s.par.link = .down ∧ s.par.enable then s.updPar fun p => { p with link := .training } else s)

/-! ### PAIR_CONFIGURE (13 R394, R395) -/

/-- The entries of a payload: wing, catalogue, mode. -/
def pairEntries (p : Bytes) : List (Nat × Nat × Nat) :=
  (List.range (leAt p 2 2)).map fun i => (leAt p (64 + 4 * i) 1, leAt p (65 + 4 * i) 1, leAt p (66 + 4 * i) 1)

/-- The mode a list of entries gives a catalogue; 0 for none. -/
def entryMode (es : List (Nat × Nat × Nat)) (w c : Nat) : Nat := match es.find? fun e => e.1 == w && e.2.1 == c with | some e => e.2.2 | none => 0

/-- The catalogue holds a table. -/
def holdsTable (s : State) (w c : Nat) : Bool :=
  s.tables.any fun x => match x.2 with
    | some t => t.wing.val == w && t.cat.val == c && decide (t.phase = .creating ∨ t.phase = .ready)
    | none => false

/-- The link is trained again (13 R400). -/
def retrain (s : State) : State :=
  let off (p : Par) : Par := { p with die0 := dieOff p.die0, die1 := dieOff p.die1, stepDue := false }
  if s.par.enable then (setLinkState s .training).updPar off
  else (setLinkState s .disabled).updPar off

/-- A change to a setting that the archive holds; only a COMMITTED image writes the archive (18 R554). -/
def archived (s : State) : State :=
  let slot := if s.fw.running then s.fw.slotB else s.fw.slotA
  { s with fw := { s.fw with archDirty := s.fw.archDirty || decide (slot.state = .committed) } }

/-- The settings of a PAIR_CONFIGURE payload take effect: a catalogue's mode, and the lease of a unit that pairs or leaves the
pair (13 R394). -/
def pairSettings (s : State) (p : Bytes) : State :=
  let fl := leAt p 1 1
  let en := bit fl 0
  let es := pairEntries p
  let s2 := s.updPar fun x =>
    { x with enable := en, position := bit (leAt p 0 1) 0, netPort := bit fl 1, pairId := BitVec.ofNat 32 (leAt p 4 4),
             witnessIp := slice p 8 16, localIp := slice p 24 16, witnessUdp := BitVec.ofNat 16 (leAt p 40 2),
             localUdp := BitVec.ofNat 16 (leAt p 42 2), entries := es,
             lease := if !en then .unpaired else if x.lease = .unpaired then .lapsed else x.lease,
             expiry := if en then x.expiry else 0, declared := x.declared && en, asked := [] }
  let s3 := (List.range 128).foldl (fun s i =>
    let m := entryMode (if en then es else []) (i / 8) (i % 8)
    s.updCat i fun k => if m = 0 then { k with mode := 0, sync := 0, lost := false, lossV := none, partnerOldest := none, forcedTo := none,
                                                 resyncBase := none, settled := [], follow := none, discardOwed := none }
      else { k with mode := m }) s2
  (List.range 128).foldl (fun s i =>
    if (s.cat i).mode = 0 ∧ (s.cat i).commit.isSome then commitProgress s (i / 8) (i % 8) else s) s3

/-- The entries as PAIR_CONFIGURE gives them. -/
def entryBytes (es : List (Nat × Nat × Nat)) : Bytes :=
  es.flatMap fun e => [BitVec.ofNat 8 e.1, BitVec.ofNat 8 e.2.1, BitVec.ofNat 8 e.2.2, 0#8]

/-- The PAIR_CONFIGURE payload of the settings in force. -/
def pairPayload (s : State) : Bytes :=
  let p := s.par
  [BitVec.ofNat 8 (b2n p.position), BitVec.ofNat 8 (b2n p.enable + 2 * b2n p.netPort)] ++ leBytes 2 p.entries.length ++
  leBytes 4 p.pairId.toNat ++ fitTo 16 p.witnessIp ++ fitTo 16 p.localIp ++ leBytes 2 p.witnessUdp.toNat ++
  leBytes 2 p.localUdp.toNat ++ List.replicate 20 0#8 ++
  entryBytes p.entries

def pairConfigure : Handler := fun s c =>
  let p := c.payload
  let fl := leAt p 1 1
  let en := bit fl 0
  let es := pairEntries p
  let id : W32 := BitVec.ofNat 32 (leAt p 4 4)
  let now := if s.par.enable then s.par.entries else []
  let new := if en then es else []
  checked s [
      noWing c,
      (decide (fld fl 2 6 ≠ 0) || !zeroAt p 44 20 || (List.range es.length).any (fun i => !zeroAt p (67 + 4 * i) 1),
        rRESERVED_FIELD_SET),
      (decide (leAt p 0 1 > 1) || es.any (fun e => decide (e.2.2 = 0 ∨ e.2.2 > 2)) || (en && decide (id = 0)), rRESERVED_VALUE),
      (es.any (fun e => decide (e.1 > 15) || decide (e.2.1 > 7)), rADDR_RANGE),
      (decide ((es.map fun e => (e.1, e.2.1)).eraseDups.length ≠ es.length), rRES_OVERLAP),
      ((List.range 128).any (fun i => decide (entryMode now (i / 8) (i % 8) ≠ entryMode new (i / 8) (i % 8)) &&
        holdsTable s (i / 8) (i % 8)), rNOT_PERMITTED),
      (en && s.par.pk.isNone, rKEY_MISSING)]
    fun s =>
      let s4 := archived (pairSettings (scpCommit s c) p)
      (retrain s4, .done rOK [])

def execPairConfigure := scpExec 0x0501 pairConfigure

/-! ### Declaration of loss (13 R422, R423) -/

/-- What the declaration does to one paired catalogue. `claimed`: this unit became HOLDER by a claim. -/
def declareCat (claimed : Bool) (s : State) (e : Nat × Nat × Nat) : State :=
  let w := e.1
  let c := e.2.1
  let k := s.cat (catKey w c)
  if k.mode = 0 then s
  else if k.mode = 2 then
    let past := match k.commit with | some m => decide (m.step = 3) || (decide (k.head = m.upto) && k.busy.isNone) | none => false
    let s1 := if past && !claimed then catUpd (commitPoint s w c) w c fun k => { k with lost := true }
      else
        let s1 := commitEnd s w c rPARTNER_LOST
        if k.isOpen then discardBegin s1 w c else s1
    catUpd s1 w c fun k => { k with sync := 4 }
  else if claimed then (if k.isOpen then discardBegin s w c else s)
  else
    let s1 := match k.busy with | some b => busyRetry s w c b | none => s
    match k.commit with
    | some m => if m.step = 3 then commitPoint s1 w c else commitProgress s1 w c
    | none => s1

/-- The holder declares its partner lost. -/
def declareLost (s : State) (claimed : Bool) : State :=
  if s.par.declared then s
  else
    let s1 := s.updPar fun p => { p with declared := true, declarations := satInc p.declarations }
    s1.par.entries.foldl (declareCat claimed) s1

/-! ### Rejoin (13 R425, R424) -/

/-- Orphaned epochs are counted, with an alarm (13 R424). -/
def orphan (s : State) (w c n : Nat) : State :=
  if n = 0 then s
  else
    let s1 := (s.updPar fun p => { p with orphaned := satAdd p.orphaned n }).updCat (catKey w c) fun k =>
      { k with orphans := satAdd k.orphans n }
    alarm s1 0x0401 w (18 + pairDie s (w + c)) (catKey w c) n 0 0

/-- What the holder had sent, or owed, and the follower has not answered is sent again: a discard, before any record (07 R244), the record
at HEAD, and a commit request (13 R407, R432). -/
def resendCat (s : State) (w c : Nat) (owed : Option W32) : State :=
  let k := s.cat (catKey w c)
  let s0 := match owed with | some ep => sendDiscard s w c ep | none => s
  let s1 := match k.busy with
    | some b => if k.applied ∨ decide (k.pairHead = k.head + BitVec.ofNat 64 (recLen b)) then s0 else sendRecord s0 w c b
    | none => s0
  match k.commit with
  | some m => if m.step = 3 then pairSend s1 (w + c) .commitRequest [w, c, k.openEp.toNat, 0, s.par.term.toNat] [] else s1
  | none => s1

/-- The compare of one paired catalogue. Commits of a unit that declared the loss, and no longer leads, are orphans. The holder's values
are the source: a follower discards an epoch that the holder no longer has open. -/
def compareCat (s : State) (p : PeerCat) : State :=
  let w := p.wing.val
  let c := p.cat.val
  let k := s.cat (catKey w c)
  let me := decide (s.par.lease = .holder)
  let set (s : State) (sync : Nat) (lost : Bool) : State :=
    catUpd s w c fun k => { k with sync := sync, lost := lost, lossV := none, resyncBase := none, settled := [], discardOwed := none }
  if k.mode = 0 then s
  else if k.vis = p.v ∧ k.termOfV = p.termOfV then
    let s1 := set s 0 false
    if me then resendCat s1 w c k.discardOwed else if k.isOpen ∧ !p.isOpen then discardBegin s1 w c else s1
  else if k.mode = 2 ∧ me ∧ k.lost ∧ k.vis = p.v + 1 then set s 0 false
  else if k.mode = 2 ∧ !me ∧ p.declared ∧ p.v = k.vis + 1 then
    set (catUpd s w c fun k => { k with vis := p.v, openEp := p.v, isOpen := false, termOfV := p.termOfV, limit := maxLimit }) 0 false
  else
    let base := k.lossV.getD k.vis
    let mine := if s.par.declared ∧ !me then (k.vis - base).toNat else 0
    let theirs := if p.declared ∧ me then (p.v - base).toNat else 0
    let s1 := if k.isOpen ∧ (k.mode = 2 ∨ !me) then discardBegin s w c else s
    orphan (set s1 1 (me && decide (k.mode = 1))) w c (mine + theirs)

/-- The compare, once a unit holds the lease; the declared loss ends with it. -/
def compareAll (s : State) (cats : List PeerCat) : State :=
  if s.par.lease ≠ .holder ∧ s.par.lease ≠ .follower then s.updPar fun p => { p with compareDue := cats }
  else (cats.foldl compareCat s).updPar fun p => { p with declared := false, compareDue := [] }

/-- The compare that waited is made. -/
def compareWaiting (s : State) : State :=
  if s.par.compareDue.isEmpty ∨ !linkUp s.par.link then s else compareAll s s.par.compareDue

/-! ### The lease (13 R412 to R420) -/

def myPos (s : State) : Nat := b2n s.par.position

/-- The holder position: this unit's, the partner's, or none (2). -/
def holderNow (s : State) : Nat :=
  match s.par.lease with
  | .holder => myPos s
  | .follower => b2n s.par.holderPos
  | _ => 2

/-- This unit's lease state is told to the partner. -/
def sendLease (s : State) : State :=
  if linkUp s.par.link then pairSend s 0 .lease [s.par.term.toNat, holderNow s, s.par.expiry] [] else s

/-- The lease as the partner reports it over the connected link (13 R420). -/
def leaseFrom (s : State) (term : W32) (holder expiry : Nat) : State :=
  let named (s : State) : State :=
    if holder = 2 then s.updPar fun p => { p with lease := .lapsed, expiry := 0 }
    else if holder = myPos s then s.updPar fun p => { p with lease := .holder, holderPos := p.position, expiry := expiry }
    else s.updPar fun p => { p with lease := .follower, holderPos := !p.position, expiry := expiry }
  if s.par.lease = .unpaired then s
  else if s.par.term < term then
    let s1 := s.updPar fun p => { p with term := term }
    if holder ≠ 2 ∧ holder ≠ myPos s then named s1 else s1.updPar fun p => { p with lease := .lapsed, expiry := 0 }
  else if term = s.par.term then
    (if holder = 2 ∧ s.par.lease = .holder then s else named s)
  else if s.par.lease = .claiming then s.updPar fun p => { p with lease := .lapsed }
  else s

/-- 200 ms (13 R419). -/
def leaseNs : Nat := 200000000

/-- The lease as the response of PAIR_LEASE gives it (13 R415). -/
def leaseReply (s : State) : Bytes :=
  let h := holderNow s
  leBytes 4 s.par.term.toNat ++ [if h = 2 then 0xFF#8 else BitVec.ofNat 8 h, 0#8, 0#8, 0#8] ++ leBytes 8 s.par.expiry

/-- The next even term. -/
def nextEven (t : W32) : W32 := if t.toNat % 2 = 0 then t + 2 else t + 1

/-- A catalogue is COMMITTING. -/
def committing (s : State) : Bool := s.par.entries.any fun e => (s.cat (catKey e.1 e.2.1)).commit.isSome

/-- This unit becomes HOLDER at the next even term by an acquire that began at `start`: the partner is told (13 R414, R415). -/
def leaseAcquire (s : State) (start : Nat) : State :=
  sendLease (s.updPar fun x => { x with term := nextEven x.term, lease := .holder, holderPos := x.position, expiry := start + leaseNs })

/-- The partner asks to acquire the lease. A unit with a commit in progress refuses; else it stops accepting updates, takes the next even
term with the partner as holder, and says so (13 R415; the messages are a DESIGN CHOICE, log entry 76). -/
def leaseAsked (s : State) (term : W32) (expiry : W64) : State :=
  if term ≠ s.par.term then sendLease s
  else if committing s then pairSend s 0 .leaseRefuse [s.par.term.toNat] []
  else sendLease (s.updPar fun p => { p with term := nextEven p.term, lease := .follower, holderPos := !p.position, expiry := expiry.toNat })

/-- The answer to a waiting acquire, if the message is one: granted at the term it asked for, or overtaken by another term. -/
def askAnswered (s : State) (term : W32) (holder : Nat) : Option State :=
  match askRun s with
  | some x =>
    if term = nextEven s.par.term ∧ holder = myPos s then
      let s1 := compareWaiting ((scpCommit s (x.2.2.cmd x.1 x.2.1)).updPar fun p =>
        { p with term := term, lease := .holder, holderPos := p.position, expiry := x.2.2.start + leaseNs })
      some (runFinish s1 x.1 x.2.1 rOK (leaseReply s1))
    else none
  | none => none

/-- LEASE_MESSAGE_RECEIVE of a report. -/
def leaseReport (s : State) (term : W32) (holder : Nat) (expiry : W64) : State :=
  if term = s.par.term ∧ holder = 2 ∧ s.par.lease = .follower then
    compareWaiting (s.updPar fun p => { p with lease := .lapsed, expiry := 0 })
  else
    let s1 := leaseFrom s term holder expiry.toNat
    let s2 := if s.par.term < term then askEnd s1 rNOT_PERMITTED else s1
    compareWaiting (if term < s.par.term then sendLease s2 else s2)

/-- LEASE_MESSAGE_RECEIVE. -/
def leaseMessage (s : State) (term : W32) (m : LeaseSays) (expiry : W64) : State :=
  if !linkUp s.par.link then s
  else match m with
  | .asks => leaseAsked s term expiry
  | .refuses => askEnd s rBUSY
  | .holds h => (askAnswered s term h).getD (leaseReport s term h expiry)

def execLeaseMessageReceive (term : W32) (holder : LeaseSays) (expiry : W64) (s : State) : Host.Outcome State Fault Refusal :=
  .next (leaseMessage s term holder expiry)

/-- PAIR_LEASE: renew, acquire or release. A unit that is not HOLDER asks its partner first, which may have a commit in progress. -/
def pairLease : Handler := fun s c =>
  let p := c.payload
  let act := leAt p 4 1
  let term : W32 := BitVec.ofNat 32 (leAt p 0 4)
  let up := linkUp s.par.link
  let hold := decide (s.par.lease = .holder)
  checked s [
      noWing c, (!zeroAt p 5 3, rRESERVED_FIELD_SET), (decide (act > 2), rRESERVED_VALUE),
      (decide (term ≠ s.par.term), rNOT_PERMITTED), (decide (act = 0) && !(hold && up), rNOT_PERMITTED),
      (decide (act = 1) && !up, rNOT_PERMITTED), (decide (act = 1) && (committing s || (askRun s).isSome), rBUSY), (decide (act = 2) && !hold, rNOT_PERMITTED),
      (decide (act ≠ 0) && (logFull s || rateFull s c.fn), rBUSY)]
    fun s =>
      if act = 1 ∧ !hold then
        (pairSend s 0 .leaseAsk [s.par.term.toNat, myPos s, s.now + leaseNs] [], .pend false [])
      else
        let s1 :=
          if act = 0 then sendLease (s.updPar fun x => { x with expiry := s.now + leaseNs })
          else if act = 1 then leaseAcquire (scpCommit s c) s.now
          else sendLease ((scpCommit s c).updPar fun x => { x with lease := .lapsed, expiry := 0 })
        let s2 := compareWaiting s1
        (s2, .done rOK (leaseReply s2))

def execPairLease := scpExec 0x0502 pairLease

/-- LEASE_EXPIRY. -/
def execLeaseExpiry (s : State) : Host.Outcome State Fault Refusal :=
  .next (if s.par.lease = .holder ∨ s.par.lease = .follower then s.updPar fun p => { p with lease := .lapsed, expiry := 0 } else s)

/-- WITNESS_RENEW_TIMER: every 50 ms while HOLDER. -/
def execWitnessRenewTimer (s : State) : Host.Outcome State Fault Refusal :=
  .next (if s.par.lease = .holder then askWitness s 0 else s)

/-- CLAIMING begins, or goes on, with a CLAIM. -/
def claimNow (s : State) : State := askWitness (s.updPar fun p => { p with lease := .claiming }) 1

/-- The condition of 13 R418, save its time. -/
def mayClaim (s : State) : Bool :=
  decide (s.par.lease = .follower ∨ s.par.lease = .lapsed ∨ s.par.lease = .claiming) && hasWitness s.par && !linkUp s.par.link

/-- CLAIM_DELAY_EXPIRY: the link has been out for 220 ms without a break. -/
def execClaimDelayExpiry (s : State) : Host.Outcome State Fault Refusal :=
  .next (if mayClaim s && decide (s.par.lease ≠ .claiming) then claimNow s else s)

/-- CLAIM_TIMER: every 50 ms while CLAIMING, and 50 ms after a REFUSE. -/
def execClaimTimer (s : State) : Host.Outcome State Fault Refusal := .next (if mayClaim s then claimNow s else s)

/-- A datagram that 13 R416 drops. -/
def witnessDrop (s : State) : State := s.updPar fun p => { p with witnessBad := satInc p.witnessBad }

/-- The request that an answer's nonce names, sent within the last 10 ms. -/
def askedFor (s : State) (nonce : W64) : Option Asked :=
  s.par.asked.find? fun a => decide (a.nonce = nonce) && decide (s.now - a.time ≤ 10000000)

/-- GRANT: a renewal, or a claim granted (13 R414, R420, R422). -/
def witnessGrant (s : State) (term : W32) (nonce : W64) (macOk : Bool) : State :=
  match askedFor s nonce with
  | none => witnessDrop s
  | some a =>
    if !macOk then witnessDrop s
    else
      let s1 := s.updPar fun p => { p with asked := p.asked.filter (· != a) }
      if !a.claim then
        if s1.par.lease ≠ .holder ∨ term ≠ s1.par.term then s1
        else
          let s2 := s1.updPar fun p => { p with expiry := a.time + leaseNs }
          if a.afterLoss && !linkUp s2.par.link then declareLost s2 false else sendLease s2
      else
        let s2 := s1.updPar fun p =>
          { p with lease := .holder, term := term, holderPos := p.position, expiry := a.time + leaseNs }
        if s1.par.lease = .claiming then declareLost s2 true
        else if linkUp s1.par.link ∧ s1.par.term < term then compareWaiting (sendLease s2)
        else s1

def execWitnessGrant (term : W32) (nonce : W64) (macOk : Bool) (s : State) : Host.Outcome State Fault Refusal :=
  .next (witnessGrant s term nonce macOk)

/-- REFUSE: the witness's term is taken if it is higher; a claim ends (13 R418, R420). -/
def witnessRefuse (s : State) (term : W32) (nonce : W64) (macOk : Bool) : State :=
  match askedFor s nonce with
  | none => witnessDrop s
  | some a =>
    if !macOk then witnessDrop s
    else s.updPar fun p =>
      { p with asked := p.asked.filter (· != a), term := if p.term < term then term else p.term,
               lease := if p.lease = .claiming then .lapsed else p.lease }

def execWitnessRefuse (term : W32) (nonce : W64) (macOk : Bool) (s : State) : Host.Outcome State Fault Refusal :=
  .next (witnessRefuse s term nonce macOk)

/-! ### Time (13 R403) -/

/-- Every unit of the timestamp changes by an offset. -/
def stepClock (s : State) (d : Int) : State :=
  { s with clk := { s.clk with units := s.clk.units.map (· + BitVec.ofInt 64 d) } }

/-- TIME_OFFSET_MEASURE: position 1 minus position 0. Position 1 steps after training where it may, else slews by at most 100 ns
in the 100 µs of a measurement; a counter that must go back waits (DESIGN CHOICE, log entry 27). -/
def timeOffset (s : State) (ofs : Int) : State :=
  if !linkUp s.par.link then s
  else
    let anyOn := (List.range 16).any fun w => decide ((s.wing w).state = .enabled)
    let s1 := s.updPar fun p => { p with timeOfs := ofs, aligned := decide (ofs.natAbs ≤ 20) }
    if !s.par.position then s1
    else if s.par.stepDue then
      let s2 := s1.updPar fun p => { p with stepDue := false }
      if ofs < 0 ∨ !anyOn then (stepClock s2 (-ofs)).updPar fun p => { p with timeOfs := 0, aligned := true }
      else { s2 with clk := { s2.clk with slew := -(min ofs 100) } }
    else if ofs.natAbs < 20 then s1
    else if ofs < 0 then stepClock s1 (min (-ofs) 100)
    else { s1 with clk := { s1.clk with slew := -(min ofs 100) } }

def execTimeOffsetMeasure (ofs : Int) (s : State) : Host.Outcome State Fault Refusal := .next (timeOffset s ofs)

/-! ### Training (13 R396, R400) -/

/-- A link die after steps 1 and 2. -/
def trainedDie (up : Bool) (bad : List (Bool × Nat × Nat)) (now : Nat) (d : LinkDie) : LinkDie :=
  if up then
    let d1 := laneCounts { d with up := true, failed := bad, lasersOff := darkFibers bad, rxSeq := 0, txSeq := 0, replay := [], idle := now }
    if d1.active < 128 then dieOff d1 else d1
  else { dieOff d with failed := bad, lasersOff := darkFibers bad }

/-- Step 3: the entries of both units are compared. -/
def agreeEntries (s : State) (peer : List (Nat × Nat × Nat)) : State :=
  s.par.entries.foldl (fun s e =>
    s.updCat (catKey e.1 e.2.1) fun k =>
      if entryMode peer e.1 e.2.1 = e.2.2 then { k with mode := e.2.2, sync := if k.sync = 3 then 0 else k.sync }
      else { k with mode := 0, sync := 3 }) s

/-- Step 3: this unit's Ranri version, PAIR_ID, POSITION and entry list (13 R400). -/
def sendExchange (s : State) : State :=
  pairSend s 0 .exchange [1, 0, s.par.pairId.toNat, myPos s] (entryBytes s.par.entries)

/-- Step 5: this unit's lease, and V, TERM_OF_V and whether an epoch is open of each catalogue in its configuration (13 R425). -/
def sendTrained (s : State) : State :=
  pairSend s 0 .trained [s.par.term.toNat, holderNow s, s.par.expiry] (s.par.entries.flatMap fun e =>
    let k := s.cat (catKey e.1 e.2.1)
    [BitVec.ofNat 8 e.1, BitVec.ofNat 8 e.2.1, BitVec.ofNat 8 (b2n k.isOpen), BitVec.ofNat 8 (b2n s.par.declared)] ++
    leBytes 4 k.vis.toNat ++ leBytes 4 k.termOfV.toNat)

/-- LINK_TRAINED: training ends; from MISMATCH, that of a PAIR_CONFIGURE at the partner (13 R396). Without a pair key it goes no further
than step 2 (15 R471); the link keys are new. The lease is exchanged and the catalogues compared after the time alignment of
step 4. -/
def linkTrained (s : State) (q : PeerInfo) : State :=
  match s.par.pk with
  | none => s
  | some pk =>
    if s.par.link ≠ .training ∧ s.par.link ≠ .mismatch then s
    else
      let bad (n : Nat) := (q.badLanes.filter fun x => x.1.val == n).map fun x => (x.2.1.receive, x.2.1.fiber.val, x.2.2.val)
      let s1 := s.updPar fun p =>
        { p with die0 := trainedDie q.up0 (bad 0) s.now p.die0, die1 := trainedDie q.up1 (bad 1) s.now p.die1 }
      if !s1.par.die0.up && !s1.par.die1.up then s1.updPar fun p => { p with link := .down }
      else
        let s1 := sendExchange s1
        if q.major ≠ 1 ∨ q.pairId ≠ s.par.pairId ∨ q.pos = s.par.position then s1.updPar fun p => { p with link := .mismatch }
        else
          let f := s1.free 32
          let s2 := f.2.updPar fun p =>
            { p with link := linkOf p, lostAt := none, stepDue := true,
                     linkKeys := some (hkdf384 zeroSalt pk (ascii "HX20 RANRI" ++ leBytes 4 p.pairId.toNat ++ f.1) 64) }
          let s3 := sendTrained (timeOffset (agreeEntries s2 q.entries) q.ofs)
          compareAll (leaseFrom s3 q.term q.holder.val q.expiry.toNat) q.cats

def execLinkTrained (peer : PeerInfo) (s : State) : Host.Outcome State Fault Refusal := .next (linkTrained s peer)

/-! ### Striped catalogues (13 R408 to R411) -/

/-- EPOCH_REPORT_TICK: the oldest epoch in use of each striped catalogue goes to the partner. -/
def epochReport (s : State) : State :=
  if !linkUp s.par.link then s
  else s.par.entries.foldl (fun s e =>
    if (s.cat (catKey e.1 e.2.1)).mode = 2 then
      pairSend s (e.1 + e.2.1) .epochReport [e.1, e.2.1, (oldestOwn s e.1 e.2.1).toNat] []
    else s) s

def execEpochReportTick (s : State) : Host.Outcome State Fault Refusal := .next (epochReport s)

/-- EPOCH_REPORT_RECEIVE. -/
def execEpochReportReceive (wing : WingIx) (cat : CatIx) (oldest : W32) (s : State) : Host.Outcome State Fault Refusal :=
  .next (if (s.cat (catKey wing cat)).mode = 2 ∧ linkUp s.par.link then
      retirePoll (catUpd s wing cat fun k => { k with partnerOldest := some oldest }) wing cat
    else s)

/-- One remote lookup at this unit: the GPE that serves the stack reads the row through the hot-row cache, as its own units' lookups do
(06 R190, R196, 13 R409). Its terms, or nothing where it cannot be served. The batch's CACHE mode is the table's (log entry 76). -/
def remoteRow (s : State) (t : Table) (epoch : W32) (weighted : Bool) (l : Nat × Nat × W32) : State × Option (Nat × List W32) :=
  match rowPlace s t l.2.1 with
  | none => (s, none)
  | some (_, k, home) =>
    let slot := versionSlot s k t.id l.2.1 home epoch
    let terms (b : Bytes) := some (rowGpos s t l.2.1, rowTerms t.elem t.dim weighted l.2.2 b)
    if (s.stack k).failed || (servingGPE s (bagGPE s k l.1)).isNone then (s, none)
    else if slot = slotUnwritten then (s, terms (List.replicate 16 0#8))
    else
      let pieces := slotPieces t k slot
      match slotRead s t.wing t k slot with
      | .error a => (poison s a, none)
      | .ok b =>
        let s1 := if pieces.all (cacheHit s t.wing) then s.updWing t.wing fun x => { x with hits := satInc x.hits } else s
        (cacheRead s1 t.wing (decide (tdCacheMode t.desc = 0)) pieces, if (headerCheck t b).isSome then none else terms b)

/-- The lookups of a batch in their order, up to one that cannot be served: bag, position and terms of each. -/
def remoteRows (s : State) (t : Table) (epoch : W32) (weighted : Bool) :
    List (Nat × Nat × W32) → State × Option (List (Nat × Nat × List W32))
  | [] => (s, some [])
  | l :: ls =>
    let r := remoteRow s t epoch weighted l
    match r.2 with
    | none => (r.1, none)
    | some x =>
      let rest := remoteRows r.1 t epoch weighted ls
      (rest.1, rest.2.map ((l.1, x) :: ·))

/-- A stack partial goes back to the combining GPE, with its digest (12 R387, 13 R409). -/
def sendPart (s : State) (t : Table) (seq : W64) (bag g : Nat) (p : List W32 × Nat) : State :=
  let b := partBytes p
  let head := partHeader t.id (0x80 + 8 + gposStack s t g) bag seq.toNat
  pairSend s (t.wing.val + t.cat.val) .contribution [t.wing, t.id, bag, g, (digestOf head b).toNat] b

/-- PARTNER_LOOKUP_RECEIVE: the lookups, given as bag, row and weight, are read at the pinned epoch and pooled per bag and stack;
each partial goes back with its count. A unit that cannot serve says so, as does one that has retired the epoch by force
(13 R409, R411, R432). -/
def partnerLookup (s : State) (w : WingIx) (tab : TabIx) (epoch : W32) (bags : RemoteBags) (weighted max_ : Bool)
    (ls : List (Nat × Nat × W32)) : State :=
  if !linkUp s.par.link then s
  else
    let refuse (s : State) (n : Nat) : State := pairSend s n .contribution [w, tab] []
    let past (k : Cat) : Bool := match k.forcedTo with | some f => epPrec epoch f | none => false
    match tableIn s w tab with
    | none => refuse s 0
    | some t =>
      let k := s.cat (catKey w t.cat)
      let n := w.val + t.cat.val
      if k.mode ≠ 2 ∨ k.sync = 1 ∨ k.sync = 3 then refuse s n
      else if past k then pairSend s n .contribution [w, tab] [rEPOCH_RETIRED]
      else
        let r := remoteRows (s.updWing w fun x => { x with lookups := satAdd x.lookups ls.length }) t epoch weighted ls
        match r.2 with
        | none => refuse r.1 n
        | some got =>
          let gs := (got.map fun x => x.2.1).eraseDups
          (List.range bags.count).foldl (fun s bag =>
            gs.foldl (fun s g =>
              let mine := (got.filter fun x => x.1 == bag && x.2.1 == g).map fun x => x.2.2
              if mine.isEmpty then s else sendPart s t bags.seq bag g (poolPart max_ t.dim mine)) s) r.1

def execPartnerLookupReceive (wing : WingIx) (table : TabIx) (epoch : W32) (bags : RemoteBags) (weighted max : Bool)
    (lookups : List (Nat × Nat × W32)) (s : State) : Host.Outcome State Fault Refusal :=
  .next (partnerLookup s wing table epoch bags weighted max lookups)

/-- REMOTE_BATCH_TIMEOUT: both link dies are down, and remote partials have not all arrived (13 R411). -/
def remoteTimeout (s : State) (d : Nat) (ticket : W16) : State :=
  match findBatch s d ticket with
  | none => s
  | some b =>
    match s.table b.table with
    | none => s
    | some t =>
      let waits := b.remote.any fun i =>
        match b.lookups[i]? with
        | some x => !(b.parts.any fun p => p.bag == x.1 && p.gpos == rowGpos s t x.2.1.toNat)
        | none => false
      if b.failed.isSome || linkUp s.par.link || !waits then s
      else gpeFail s b rPARTNER_LOST (bagGPE s (combineStack t) 0)

def execRemoteBatchTimeout (doc : DocIx) (ticket : W16) (s : State) : Host.Outcome State Fault Refusal :=
  .next (remoteTimeout s doc ticket)

/-! ### PAIR_STATUS and PAIR_RESYNC (13 R426 to R429) -/

def satInt32 (i : Int) : Nat := wrapTo 32 (max (-(2 ^ 31 : Int)) (min (2 ^ 31 - 1) i))

/-- PAIR_STATUS. -/
def pairStatus : Handler := fun s c =>
  let p := s.par
  let h := holderNow s
  checked s [noWing c] fun s =>
    (s, .done rOK ([BitVec.ofNat 8 (linkCode p.link), BitVec.ofNat 8 (leaseCode p.lease), if h = 2 then 0xFF#8 else BitVec.ofNat 8 h,
        BitVec.ofNat 8 (b2n p.declared + 2 * b2n p.aligned)] ++ leBytes 4 p.term.toNat ++ leBytes 8 p.expiry ++
      leBytes 2 p.die0.active ++ leBytes 2 p.die1.active ++ [BitVec.ofNat 8 p.die0.spareUsed, BitVec.ofNat 8 p.die1.spareUsed] ++
      leBytes 2 p.entries.length ++ leBytes 4 (satInt32 p.timeOfs) ++ List.replicate 4 0#8 ++
      p.entries.flatMap fun e =>
        let k := s.cat (catKey e.1 e.2.1)
        [BitVec.ofNat 8 e.1, BitVec.ofNat 8 e.2.1, BitVec.ofNat 8 e.2.2, BitVec.ofNat 8 k.sync] ++ leBytes 4 k.vis.toNat ++
        leBytes 4 k.termOfV.toNat ++ leBytes 4 k.orphans.toNat))

def execPairStatus := scpExec 0x0503 pairStatus

/-- The tables of a catalogue that are in it. -/
def catTables (s : State) (w c : Nat) : List (Nat × Table) :=
  s.tables.filterMap fun x => match x.2 with
    | some t => if t.wing.val = w ∧ t.cat.val = c ∧ t.phase = .ready then some (x.1, t) else none
    | none => none

/-- Granules of a catalogue on this unit. -/
def catGranules (s : State) (w c : Nat) : Nat := ((catTables s w c).map fun x => granules x.2).sum

/-- The holder sends each row's version at the base epoch, in ascending table and row order: of a striped catalogue, none that lies
on this unit (13 R427 step 5). A row of it that cannot be read is sent without data. -/
def resyncSend (s : State) (w c : Nat) : State :=
  let k := s.cat (catKey w c)
  (catTables s w c).foldl (fun s x =>
    let t := x.2
    (List.range t.rows).foldl (fun s row =>
      if k.mode = 2 ∧ row % 2 ≠ posNum s then pairSend s (w + c) .resyncRow [w, c, x.1, row, k.vis.toNat] []
      else match rowPlace s t row with
      | none => s
      | some (_, st, home) =>
        let slot := versionSlot s st x.1 row home k.vis
        if k.mode = 2 ∨ slot = slotUnwritten then s
        else match slotRead s w t st slot with
        | .ok b => pairSend s (w + c) .resyncRow [w, c, x.1, row, k.vis.toNat] b
        | .error _ => pairSend s (w + c) .resyncRow [w, c, x.1, row, k.vis.toNat] []) s) s

/-- Step 3: the holder names its tables, and has the follower create each that it lacks (13 R427; log entry 56). -/
def resyncTables (s : State) (w c : Nat) : State :=
  let ts := catTables s w c
  ts.foldl (fun s x => pairSend s (w + c) .tableRequest [w, 0, x.1] x.2.desc)
    (pairSend s (w + c) .tableRequest [w, 2, c] (ts.flatMap fun x => leBytes 2 x.1))

/-- The copy of a STALE catalogue starts: the base epoch is pinned, and new epochs are mirrored again (13 R427). -/
def resyncStart (s : State) (w c : Nat) : State :=
  resyncSend (resyncTables (catUpd s w c fun k => { k with sync := 2, lost := false, resyncBase := some k.vis }) w c) w c

/-- The entries of a PAIR_RESYNC payload. -/
def resyncEntries (p : Bytes) : List (Nat × Nat) := (List.range (leAt p 0 2)).map fun i => (leAt p (4 + 2 * i) 1, leAt p (5 + 2 * i) 1)

/-- One entry of the response. How far a copy has come is a free value (DESIGN CHOICE, log entry 28). -/
def resyncEntry (x : State × Bytes) (e : Nat × Nat) : State × Bytes :=
  let s := x.1
  let k := s.cat (catKey e.1 e.2)
  let head (n : Nat) := [BitVec.ofNat 8 e.1, BitVec.ofNat 8 e.2, BitVec.ofNat 8 n, 0#8]
  if k.sync = 1 then (resyncStart s e.1 e.2, x.2 ++ head 2 ++ leBytes 4 (catGranules s e.1 e.2))
  else if k.sync = 2 then let f := s.free 4; (f.2, x.2 ++ head 2 ++ f.1)
  else (s, x.2 ++ head k.sync ++ leBytes 4 0)

/-- PAIR_RESYNC. -/
def pairResync : Handler := fun s c =>
  let p := c.payload
  let es := resyncEntries p
  let cat (e : Nat × Nat) : Cat := s.cat (catKey e.1 e.2)
  checked s [
      noWing c, (!zeroAt p 2 2, rRESERVED_FIELD_SET), (es.isEmpty || decide (es.length > 128), rRESERVED_VALUE),
      (es.any (fun e => decide (e.1 > 15) || decide (e.2 > 7) || decide ((cat e).mode = 0)), rADDR_RANGE),
      (decide (s.par.lease ≠ .holder), rPAIR_FENCED), (!linkUp s.par.link, rPARTNER_LOST),
      (es.any (fun e => decide ((cat e).sync = 1) && (cat e).isOpen), rBUSY), (longFull s, rBUSY)]
    fun s =>
      let r := es.foldl resyncEntry (scpCommit s c, [])
      (r.1, .done rOK r.2)

def execPairResync := scpExec 0x0504 pairResync

/-- Step 4 at the follower: the catalogue's directory entries and older versions go, and every row awaits its copy. -/
def resyncBegin (s : State) (w c : Nat) : State :=
  let mine (tab : Nat) : Bool := match s.table tab with | some t => t.wing.val == w && t.cat.val == c | none => false
  let s1 := { s with dir := s.dir.filter fun d => !mine d.table }
  let s2 := (catTables s1 w c).foldl (fun s x => tableUse s x.1 fun _ => []) s1
  catUpd s2 w c fun k => { k with sync := 2, settled := [] }

/-- The copy of one row at the follower (13 R428). -/
def resyncRow (s : State) (w : WingIx) (c : Nat) (tab : TabIx) (row : Nat) (epoch : W32) (data : Bytes) : State :=
  let k := s.cat (catKey w c)
  match tableIn s w tab with
  | none => s
  | some t =>
    match rowPlace s t row with
    | none => s
    | some (_, st, home) =>
      let body := fitTo (16 + rowPayload t.elem t.dim) data
      let image (older : Nat) : Bytes := if zeroAt body 0 16 then body else rowImage body epoch older
      if data.isEmpty then s
      else if !k.settled.contains (tab.val, row) then
        slotWrite (catUpd s w c fun k => { k with settled := k.settled ++ [(tab.val, row)] }) t st home (image slotNone)
      else match slotRead s w t st home with
      | .error _ => s
      | .ok b =>
        let ep : W32 := BitVec.ofNat 32 (leAt b 0 4)
        if k.isOpen ∧ ep = k.openEp ∧ (dirFind s st tab row).isNone then
          match freeSpare s t st with
          | none => s
          | some spare =>
            let s1 := slotWrite (tableUse s tab fun l => l ++ [(st, spare)]) t st spare (image slotNone)
            dirSet (olderWrite s1 t st home spare)
              { stack := st, table := tab, row := BitVec.ofNat 32 row, versions := [(ep, home), (epoch, spare)] }
        else s

/-- RESYNC_ROW_RECEIVE: the first row of a STALE catalogue begins the copy. A unit that acquires the lease meanwhile goes on
taking rows (13 R432). -/
def resyncReceive (s : State) (w : WingIx) (c : Nat) (tab : TabIx) (row : Nat) (epoch : W32) (data : Bytes) : State :=
  let k := s.cat (catKey w c)
  if k.mode = 0 ∨ k.resyncBase.isSome ∨ !linkUp s.par.link then s
  else if k.sync = 1 ∧ s.par.lease = .follower then resyncRow (resyncBegin s w c) w c tab row epoch data
  else if k.sync = 2 then resyncRow s w c tab row epoch data
  else s

def execResyncRowReceive (wing : WingIx) (cat : CatIx) (table : TabIx) (row epoch : W32) (data : Bytes) (s : State) :
    Host.Outcome State Fault Refusal := .next (resyncReceive s wing cat table row.toNat epoch data)

/-- RESYNC_DONE: every row is sent. The follower takes the holder's V and admits again; the holder releases its base
(13 R427 step 6). -/
def resyncDone (s : State) (w c : Nat) (v term : W32) : State :=
  let k := s.cat (catKey w c)
  if k.mode = 0 ∨ !linkUp s.par.link then s
  else if k.resyncBase.isSome then
    let s1 := pairSend s (w + c) .resyncDone [w, c, k.vis.toNat, k.termOfV.toNat] []
    retirePoll (catUpd s1 w c fun k => { k with sync := 0, resyncBase := none, lost := false }) w c
  else if k.sync = 2 ∨ (k.sync = 1 ∧ s.par.lease = .follower) then
    let s1 := if k.sync = 1 then resyncBegin s w c else s
    retirePoll (catUpd s1 w c fun k =>
      { k with vis := v, termOfV := term, sync := 0, settled := [], resyncBase := none, forcedTo := none }) w c
  else s

def execResyncDone (wing : WingIx) (cat : CatIx) (v term : W32) (s : State) : Host.Outcome State Fault Refusal :=
  .next (resyncDone s wing cat v term)

/-! ### PAIR_RESET (13 R430) -/

/-- PAIR_RESET: the response is written, and the partner is told. -/
def pairReset : Handler := fun s c =>
  let p := c.payload
  let level := leAt p 0 1
  checked s [
      noWing c, (!zeroAt p 1 3, rRESERVED_FIELD_SET), (decide (level ≠ 3 ∧ level ≠ 4), rRESERVED_VALUE),
      (!(decide (s.par.lease = .holder) && linkUp s.par.link), rNOT_PERMITTED)]
    fun s => (pairSend (scpCommit s c) 0 .reset [level] [], .done rOK [])

def execPairReset := scpExec 0x0505 pairReset

end Sys2Proof.Machine
end

