-- ==== Sys2Proof/Machine/Archive.lean ====
section
/-! DEFINITION. Firmware slots, image verification and the settings archive (18 R544 to R554). -/

namespace Sys2Proof.Machine

/-! ### Slots -/

def State.updFw (s : State) (f : Fw → Fw) : State := { s with fw := f s.fw }
def State.updRst (s : State) (f : Rst → Rst) : State := { s with rst := f s.rst }

/-- Slot A (false) or B (true). -/
def Fw.slot (f : Fw) (b : Bool) : Slot := if b then f.slotB else f.slotA
def Fw.setSlot (f : Fw) (b : Bool) (v : Slot) : Fw := if b then { f with slotB := v } else { f with slotA := v }

/-- The slot that the running image was booted from. -/
def Fw.booted_ (f : Fw) : Slot := f.slot f.running

/-- The COMMITTED slot (18 R545). -/
def Fw.committed (f : Fw) : Slot := if f.slotB.state = .committed then f.slotB else f.slotA

/-- SVN_MIN: the larger of the fused minimum and the SVN of the COMMITTED image (18 R546). -/
def svnMinimum (s : State) : Nat := max s.fw.svnMin.toNat s.fw.committed.svn.toNat

/-- The header and component table of an image: what its signatures and the archive's COMMIT_TAG digest (18 R546, R551). -/
def imageTag (d : Bytes) : Bytes := d.take (64 + 64 * leAt d 15 1)

/-! ### Verification of an image (18 R546) -/

/-- Component `i`: type, offset, length. -/
def imgType (d : Bytes) (i : Nat) : Nat := leAt d (64 + 64 * i) 1
def imgOff (d : Bytes) (i : Nat) : Nat := leAt d (68 + 64 * i) 4
def imgLen (d : Bytes) (i : Nat) : Nat := leAt d (72 + 64 * i) 4

/-- The conditions on the header, the component table and the digests, and the signatures under the fused keys, of which
ML-DSA-87 is required when PQ_REQUIRED is fused 1. -/
def imageVerifies (s : State) (d : Bytes) : Bool :=
  let n := leAt d 15 1
  let is := List.range n
  decide (slice d 0 4 = [0x48#8, 0x58#8, 0x46#8, 0x57#8]) && decide (leAt d 4 1 = 0x10) && decide (fld (leAt d 5 1) 1 7 = 0) &&
  zeroAt d 24 40 && decide (leAt d 8 4 ≤ 0x2000000) && decide (leAt d 8 4 ≤ d.length) && decide (1 ≤ n ∧ n ≤ 8) &&
  is.all (fun i => zeroAt d (65 + 64 * i) 3 && zeroAt d (76 + 64 * i) 4 && decide (imgOff d i + imgLen d i ≤ leAt d 8 4) &&
    decide (sha384 (slice d (imgOff d i) (imgLen d i)) = slice d (80 + 64 * i) 48)) &&
  [1, 2, 3, 4, 5].all (fun t => decide ((is.filter fun i => imgType d i == t).length = 1)) &&
  Config.imageSigned d && (bit (leAt d 5 1) 0 || !s.vlt.pqRequired) && decide (leAt d 6 2 ≥ svnMinimum s)

/-! ### Entries (18 R551; the layout of a value: DESIGN CHOICE, log entry 30) -/

/-- The archived settings in force, types 0x0001 to 0x000A. -/
def liveEntries (s : State) : List (Nat × Bytes) :=
  [(1, (List.range 12).map fun i => let m := Tbl.get RstMap.init s.rst.map i; BitVec.ofNat 8 (m.value + 8 * b2n m.en)),
   (2, leBytes 48 s.vlt.anchor.toNat),
   (3, leBytes 2 s.rst.idleTimeout ++ [BitVec.ofNat 8 s.rst.servStep]),
   (4, [s.patrolHours] ++ leBytes 2 s.priTimeout.toNat),
   (5, [BitVec.ofNat 8 s.vnt.irqEn.toNat, BitVec.ofNat 8 (b2n s.vnt.alertEn), s.vnt.alertDelay]),
   (6, pairPayload s),
   (7, (List.range 8).flatMap fun k =>
      leBytes 8 (s.peer k).base.toNat ++ leBytes 8 (s.peer k).limit.toNat ++ leBytes 2 (s.peer k).wings.toNat),
   (8, (List.range 8).flatMap fun k => (s.stack k).train.flatMap fun e =>
      [BitVec.ofNat 8 k, BitVec.ofNat 8 e.1] ++ leBytes 4 e.2.toNat),
   (9, (List.range 8).flatMap fun k => (s.stack k).softRows.flatMap fun r =>
      [BitVec.ofNat 8 k, BitVec.ofNat 8 r.1, BitVec.ofNat 8 r.2.1] ++ leBytes 2 r.2.2),
   (10, ((List.range 8).flatMap fun k => (s.stack k).laneGroups.flatMap fun g => [0#8, BitVec.ofNat 8 k] ++ leBytes 2 g) ++
      (List.range 31).flatMap fun n => (s.link n).repairs.flatMap fun l => [1#8, BitVec.ofNat 8 n] ++ leBytes 2 l)]

/-- The value cut into records of `n` bytes. -/
def recordsOf (n : Nat) (v : Bytes) : List Bytes := (List.range (v.length / n)).map fun i => slice v (n * i) n

/-- One entry takes effect. The pair link trains afterwards. -/
def applyEntry (s : State) (e : Nat × Bytes) : State :=
  let v := e.2
  match e.1 with
  | 1 => s.updRst fun r => { r with map := (List.range 12).foldl (fun t i =>
      Tbl.set RstMap.init t i { en := bit (leAt v i 1) 3, value := fld (leAt v i 1) 0 3 }) r.map }
  | 2 => { s with vlt := { s.vlt with anchor := BitVec.ofNat 384 (leAt v 0 48) } }
  | 3 => s.updRst fun r => { r with idleTimeout := leAt v 0 2, servStep := leAt v 2 1 }
  | 4 => { s with patrolHours := BitVec.ofNat 8 (leAt v 0 1), priTimeout := BitVec.ofNat 16 (leAt v 1 2) }
  | 5 => { s with vnt := { s.vnt with irqEn := BitVec.ofNat 3 (leAt v 0 1), alertEn := bit (leAt v 1 1) 0,
                                      alertDelay := BitVec.ofNat 8 (leAt v 2 1) } }
  | 6 => pairSettings s v
  | 7 => (List.range 8).foldl (fun s k => s.setPeer k
      { base := BitVec.ofNat 64 (leAt v (18 * k) 8), limit := BitVec.ofNat 64 (leAt v (18 * k + 8) 8),
        wings := BitVec.ofNat 16 (leAt v (18 * k + 16) 2) }) s
  | 8 => (recordsOf 6 v).foldl (fun s r => s.updStack (leAt r 0 1) fun k =>
      { k with train := Tbl.set 0#32 k.train (leAt r 1 1) (BitVec.ofNat 32 (leAt r 2 4)) }) s
  | 9 => (recordsOf 5 v).foldl (fun s r => s.updStack (leAt r 0 1) fun k =>
      { k with softRows := (k.softRows ++ [(leAt r 1 1, leAt r 2 1, leAt r 3 2)]).eraseDups }) s
  | 10 => (recordsOf 4 v).foldl (fun s r =>
      if leAt r 0 1 = 0 then s.updStack (leAt r 1 1) fun k => { k with laneGroups := (k.laneGroups ++ [leAt r 2 2]).eraseDups }
      else s.updLink (leAt r 1 1) fun k => { k with repairs := (k.repairs ++ [leAt r 2 2]).eraseDups }) s
  | _ => s

/-! ### Copies -/

/-- The copy that step 5 of the boot takes: of those whose COMMIT_TAG names the COMMITTED image, the one with the highest
GENERATION (18 R552). -/
def chosenCopy (f : Fw) : Option ArchCopy :=
  let tag := imageTag f.committed.data
  let ok (c : ArchCopy) : Bool := decide (c.tag = tag)
  if ok f.archA && (!ok f.archB || decide (f.archB.gen.toNat ≤ f.archA.gen.toNat)) then some f.archA
  else if ok f.archB then some f.archB else none

/-- The booted image reads the copy's schema: the major is its own, or is set in READ_MAJORS. -/
def copyReadable (f : Fw) (c : ArchCopy) : Bool :=
  let m := c.schema.toNat / 16
  decide (m = f.booted_.schema.toNat / 16) || bit f.booted_.readMajors.toNat m

/-- Entries of unknown type under the same major, which are written back unchanged (18 R552). -/
def keptEntries (f : Fw) : List (Nat × Bytes) :=
  match chosenCopy f with
  | some c => if c.schema.toNat / 16 = f.booted_.schema.toNat / 16 then c.entries.filter fun e => decide (e.1 = 0 ∨ e.1 > 10) else []
  | none => []

/-- A copy is written over the one of lower GENERATION. -/
def writeCopy (f : Fw) (schema : Byte) (tag : Bytes) (entries : List (Nat × Bytes)) : Fw :=
  let g := if f.archA.gen.toNat ≤ f.archB.gen.toNat then f.archB.gen else f.archA.gen
  let c : ArchCopy := { schema := schema, gen := g + 1, tag := tag, entries := entries }
  if f.archA.gen.toNat ≤ f.archB.gen.toNat then { f with archA := c } else { f with archB := c }

/-- The other hub's flash and settings memory are reachable: writes go to both (18 R544). -/
def bothHubs (s : State) : Bool := s.hubLinkUp && (s.hub 0).mains && (s.hub 1).mains

/-- The archive is written with the live settings, by a COMMITTED image outside quarantine (18 R554). -/
def archiveWrite (s : State) : State :=
  if s.fw.archDirty ∧ s.fw.booted_.state = .committed ∧ !s.fw.quarantine then
    s.updFw fun f => { writeCopy f f.booted_.schema (imageTag f.committed.data) (liveEntries s ++ keptEntries f) with
                       archDirty := false }
  else s

/-- ARCHIVE_WRITE: within 5 ms of a change to an archived setting. -/
def execArchiveWrite (s : State) : Host.Outcome State Fault Refusal :=
  .next (if bothHubs s ∧ s.alive then archiveWrite s else s)

/-- Step 5 of the boot (18 R547, R552, R553): the archive is read and applied, or the image boots in quarantine. -/
def archiveBoot (s : State) (ok : Bool) : State :=
  match (if ok then chosenCopy s.fw else none) with
  | some c =>
    if copyReadable s.fw c then (c.entries.foldl applyEntry s).updFw fun f => { f with quarantine := false, schema := c.schema }
    else s.updFw fun f => { f with quarantine := true, schema := 0 }
  | none => s.updFw fun f => { f with quarantine := true, schema := 0 }

end Sys2Proof.Machine
end

