-- ==== Sys2Proof/Machine/Cipher.lean ====
section
/-! DEFINITION. The codeword that a stack holds for a line (11 R345, R346), computed from what State keeps of it (log entry 8). -/

namespace Sys2Proof.Machine

/-- Bytes 8 to 11 of the redundancy: the key phase and the write count (11 R345). -/
def phaseCount (m : LineMeta) : Nat := 2 ^ 31 * b2n m.phase + m.count

/-- The 96-bit IV of a line's encryption (11 R346): the line's number A[38:6], GEN, PHASE, the write count and 15 zero bits, the first
field in the most significant bits (DESIGN CHOICE, log entry 77). It is the additional authenticated data too. -/
def lineIv (line : Nat) (m : LineMeta) : Bytes :=
  (leBytes 12 (2 ^ 63 * line + 2 ^ 47 * m.gen.toNat + 2 ^ 46 * b2n m.phase + 2 ^ 15 * m.count)).reverse

/-- The key of a line's phase: what that slot of its extent holds. -/
def lineKey (s : State) (line : Nat) : Bytes :=
  let x := s.ext (extOf (64 * line))
  ((if (s.line line).phase then x.key1 else x.key0).getD (List.replicate 32 0#8))

/-- The 64 B of ciphertext and the 4 B of TAG; a clear line, whose count is 0, has both zero and is never decrypted (11 R346). -/
def lineSealed (s : State) (line : Nat) : Bytes × Bytes :=
  let m := s.line line
  if m.count = 0 then (List.replicate 64 0#8, List.replicate 4 0#8)
  else
    let c := Config.seal (lineKey s line) (lineIv line m) (lineIv line m) (s.dram.read (64 * line) 64)
    (slice c 0 64, slice c 64 4)

/-- The 80 B codeword of a line that is not bad: ciphertext, CHECK, GEN, PHASE_COUNT, TAG (11 R345). -/
def lineCode (s : State) (line : Nat) : Bytes :=
  let m := s.line line
  let c := lineSealed s line
  let rest := leBytes 2 m.gen.toNat ++ leBytes 4 (phaseCount m) ++ c.2
  c.1 ++ fitTo 6 (Config.lineCheck (c.1 ++ rest)) ++ rest

/-- The 40 symbols of 16 bits of a codeword, each carried by one pair of pins (11 R345). -/
def lineSymbols (code : Bytes) : List Nat := (List.range 40).map fun i => leAt code (2 * i) 2

end Sys2Proof.Machine
end

