-- ==== Sys2Proof/Machine/Fabric.lean ====
section
/-! DEFINITION. The die-to-die fabric (01 R20 to R26, R34): the two checks of a port, stale replies, lane faults and the substitution
of a spare. -/

namespace Sys2Proof.Machine

/-- The die that a unit stands on: a half-cell's cell, an extent's stack, the hub of the active host port for a queue or VF, H1 for
a flow (01 R18, R21). -/
def unitOnDie (s : State) (kind index : Nat) : Nat :=
  if kind = ukHalf then index / 2 else if kind = ukExt then 8 + index / 48
  else if kind = ukFlow then 17 else 16 + s.pcie.activeHub.val

/-- The port receives packets from die `src` to the unit: it stands on their route (01 R22, R29). -/
def onRoute (s : State) (port src kind index : Nat) : Bool := (routePorts src (unitOnDie s kind index)).contains port

/-- The flits of the packet in the port's buffer: corrected in passing, or delivered marked poisoned, which fails the packet's
request with UNCORRECTABLE_MEMORY (12 R372). -/
def flitError (s : State) (port req : Nat) : Sram → State
  | .clean => s
  | .corrected => sramCE s (portDie port)
  | .bad g =>
    let s1 := sramUE s (portDie port) stFabric g
    match s1.findReq req with
    | some r => if r.isDone then s1 else abortPinned s1 req rUNCORRECTABLE_MEMORY 0xFFFFFFFF 0
    | none => s1

/-- FABRIC_PACKET_RECEIVE: a port on the packet's route checks the term of a class 0 packet of a Curator, then the binding generation
of the unit the packet is addressed to (01 R25, 02 R58, 03 R99). Of a packet that fails both checks only the term-stale reply is
sent, and a packet that passes the term check raises PORT_TERM although its generation check then fails: 01 R25 gives the two
checks and no order (DESIGN CHOICE, log entry 68). -/
def fabricPacket (s : State) (port : Fin 62) (cls kind index : Nat) (gen : W16) (src : Fin 20) (mark : PacketMark) (term : W32)
    (req : Nat) : State :=
  let checked := mark.curator && decide (cls = 0)
  if !onRoute s port src kind index then s
  else if checked && decide (term < (s.port port).term) then s.emit (.termStale (Fin.ofNat 2 src.val) (s.port port).term)
  else
    let s1 := if checked then s.updPort port fun p => { p with term := term } else s
    if unitGen s1 (kind, index) ≠ gen then s1.emit (.stale port req) else flitError s1 port req mark.flit

def execFabricPacketReceive (port : Fin 62) (cls kind : Fin 5) (index : Fin 16384) (gen : W16) (src : Fin 20) (mark : PacketMark)
    (term : W32) (req : Nat) (s : State) : Host.Outcome State Fault Refusal :=
  .next (fabricPacket s port cls kind index gen src mark term req)

/-- STALE_BINDING_REPLY: the sender counts it, and its request completes with STALE_BINDING (02 R58, R59). -/
def execStaleBindingReply (wing : WingIx) (req : Nat) (s : State) : Host.Outcome State Fault Refusal :=
  .next (staleReply s wing req)

/-- Lanes of a link, per direction (18 R560). -/
def linkLanes (n : Nat) : Nat := if n < 22 then 1024 else if n < 30 then 256 else 128

/-- A lane fault is noted for the link's next training; the link runs on (01 R26). `lane` is direction × 1024 + lane. -/
def laneFault (s : State) (n lane : Nat) : State :=
  if lane % 1024 < linkLanes n ∧ !(s.link n).badLanes.contains lane then
    s.updLink n fun l => { l with badLanes := l.badLanes ++ [lane] }
  else s

def execLaneFault (link : Fin 31) (lane : Fin 2048) (s : State) : Host.Outcome State Fault Refusal :=
  .next (laneFault s link lane)

/-- SPARE_SUBSTITUTION: the automatic substitution of a quarantined unit, between requests (01 R34, 12 R382). -/
def execSpareSubstitution (cell : Cell) (docent : Bool) (pos : Fin 4) (s : State) : Host.Outcome State Fault Refusal :=
  .next (autoSubstitute s (if docent then uDoc cell pos else uMU cell pos))

end Sys2Proof.Machine
end

