-- ==== Sys2Proof/Machine/Matrix.lean ====
section
/-! DEFINITION. The matrix units (08): launch checks, the integer and floating-point paths, interaction mode, and duplicate
execution (12 R376 to R383). -/

namespace Sys2Proof.Machine

/-! ### Launch checks (08 R252, R256, R257) -/

/-- The format group of an input: tile rows K_t, tile columns N_t, and tile load cycles L (08 R247). -/
def mxKt (f : Nat) : Nat := if f < 2 then 512 else if f < 6 then 256 else 128
def mxNt (f : Nat) : Nat := if f < 6 then 512 else 256
def mxL (f : Nat) : Nat := if f < 6 then 64 else 32

/-- INT4, INT8, FP8, BF16 or FP16 (08 R252). -/
def mxGroup (f : Nat) : Nat := if f < 2 then 0 else if f < 4 then 1 else if f < 6 then 2 else f

/-- Integer inputs, integer output (08 R257). -/
def mxIntIn (d : Bytes) : Bool := decide (mxFa d < 4)
def mxIntOut (d : Bytes) : Bool := decide (mxFo d < 6)

/-- Parameters the path uses, from the descriptor or the entries (08 R256). -/
def mxUsesMult (d : Bytes) : Bool := mxIntIn d && mxIntOut d
def mxUsesScale (d : Bytes) : Bool := !(mxIntIn d && mxIntOut d)
def mxUsesZero (d : Bytes) : Bool := mxIntIn d

/-- A field that 08 R256 marks unused is non-zero, for a descriptor whose OP, FMT_A and OUT_FMT are defined. The path is INTERACT when
OP is 1, whatever the formats (08 R257). -/
def mxUnusedSet (d : Bytes) : Bool :=
  let own := !mxPerCol d
  if mxOp d = 1 then
    decide (leAt d 12 2 ≠ 0) || mxPerCol d || decide (mxParam d ≠ 0) || decide (mxB d ≠ 0)
  else
    (decide (leAt d 44 4 ≠ 0) && !(mxUsesMult d && own)) ||
    (decide (mxShift d ≠ 0) && !(mxUsesMult d && own)) ||
    (decide (mxScale d ≠ 0) && !(mxUsesScale d && own)) ||
    (decide (leAt d 10 2 ≠ 0) && !mxUsesZero d) ||
    (decide (leAt d 12 2 ≠ 0) && !(mxUsesZero d && own)) ||
    (decide (leAt d 14 2 ≠ 0) && !mxUsesMult d) ||
    (decide (mxParam d ≠ 0) && own)

/-- Reserved bits: OP [7:3], DIAG in GEMM, OUT [7], OUT_SAT without an FP8 output, bytes 52 to 63 (08 R254). -/
def mxReservedSet (d : Bytes) : Bool :=
  decide (fld (leAt d 0 1) 3 5 ≠ 0) || (decide (mxOp d = 0) && mxDiag d) || bit (leAt d 2 1) 7 ||
  (mxSat d && !(decide (mxFo d = 9) || decide (mxFo d = 10))) || !zeroAt d 52 12

/-- A value lies outside an integer element format. -/
def outOfFmt (c : Nat) (v : Int) : Bool := decide (v < fmtLo c) || decide (v > fmtHi c)

/-- A binary32 pattern is an infinity or a NaN. -/
def notFinite32 (v : Nat) : Bool := decide (v / 2 ^ 23 % 256 = 255)

/-- The first failing check of 08 R257, with its number. -/
def mxCheck (d : Bytes) (scratch : Nat) : Option (Nat × Byte) :=
  let inter := decide (mxOp d = 1)
  let defined := decide (mxOp d ≤ 1) && decide (mxFa d ≤ 7) && decide (mxFo d ≤ 10)
  let own := !mxPerCol d
  let fo := mxOutFmt (mxFo d)
  firstFailAt [
    (mxReservedSet d || (defined && mxUnusedSet d), rRESERVED_FIELD_SET),
    (decide (mxOp d > 1) || decide (mxFa d > 7) || decide (mxFb d > 7) || decide (mxFo d > 10) || decide (leAt d 8 2 > 32767),
      rRESERVED_VALUE),
    (decide (mxGroup (mxFa d) ≠ mxGroup (mxFb d)) || (!mxIntIn d && mxIntOut d) || (inter && decide (mxFa d ≠ mxFb d)),
      rFORMAT_UNSUPPORTED),
    ((mxUsesMult d && own && decide (mxShift d > 63)) || (mxUsesScale d && own && notFinite32 (mxScale d)) ||
      (mxUsesZero d && outOfFmt (mxFa d) (mxZa d)) || (mxUsesZero d && own && !inter && outOfFmt (mxFb d) (mxZb d)) ||
      (mxUsesMult d && decide (mxFo d ≠ 5) && outOfFmt fo (mxZout d)), rSCALE_INVALID),
    (if inter then
       decide (mxN d > 512) || decide (mxAs d < rowBytes (mxFa d) (mxK d)) ||
       decide (mxBs d < (mxN d - 1) * mxAs d + rowBytes (mxFa d) (mxK d)) || decide (mxOs d < rowBytes fo (mxPairs d))
     else decide (mxAs d < rowBytes (mxFa d) (mxK d)) || decide (mxBs d < rowBytes (mxFb d) (mxN d)) ||
       decide (mxOs d < rowBytes fo (mxN d)), rSHAPE_INVALID),
    ([mxA d, mxB d, mxOut d, mxParam d].any (fun a => decide (a % 64 ≠ 0)) ||
      [mxAs d, mxBs d, mxOs d].any (fun a => decide (a % 16 ≠ 0)), rADDR_ALIGN),
    ((mxOutput d :: mxInputs d).any (fun r => decide (r.len ≠ 0) && decide (r.stop > scratch)), rPROGRAM_BOUNDS)]

/-! ### Arithmetic -/

/-- The parameters of one output element (08 R255). -/
structure MxParam where
  mult : Int
  shift : Nat
  scale : Nat
  za : Int
  zb : Int
  zout : Int
  bias : Nat
  even : Bool
  sat : Bool
  intIn : Bool
  intOut : Bool
  fo : Nat

/-- The descriptor's own parameters; in INTERACT the zero point of both operands is ZA (08 R272). -/
def mxParams (d : Bytes) : MxParam :=
  { mult := mxMult d, shift := mxShift d, scale := mxScale d, za := mxZa d,
    zb := if mxOp d = 1 then mxZa d else mxZb d, zout := mxZout d, bias := 0, even := mxEven d, sat := mxSat d,
    intIn := mxIntIn d, intOut := mxIntOut d, fo := mxOutFmt (mxFo d) }

/-- The parameters of a column from its 16 B entry (08 R255). -/
def mxEntry (d e : Bytes) : MxParam :=
  { mxParams d with mult := signed 32 (leAt e 0 4), shift := leAt e 12 1, scale := leAt e 4 4,
                    zb := signed 16 (leAt e 14 2), bias := leAt e 8 4 }

/-- The failure of an entry, in 08 R258. -/
def mxEntryCheck (d e : Bytes) : Option Byte :=
  firstFail [
    (decide (leAt e 13 1 ≠ 0) || (decide (leAt e 0 4 ≠ 0) && !mxUsesMult d) || (decide (leAt e 12 1 ≠ 0) && !mxUsesMult d) ||
      (decide (leAt e 4 4 ≠ 0) && !mxUsesScale d) || (decide (leAt e 14 2 ≠ 0) && !mxUsesZero d), rRESERVED_FIELD_SET),
    ((mxUsesMult d && decide (leAt e 12 1 > 63)) || (mxUsesScale d && notFinite32 (leAt e 4 4)) ||
      (mxUsesZero d && outOfFmt (mxFb d) (signed 16 (leAt e 14 2))), rSCALE_INVALID)]

/-- r ÷ 2^s with the rounding of 08 R264. -/
def mxRound (even : Bool) (r : Int) (s : Nat) : Int :=
  if s = 0 then r
  else
    let q := r / (2 ^ s : Nat)
    let f := r % (2 ^ s : Nat)
    let half : Int := (2 ^ (s - 1) : Nat)
    if even then (if f > half ∨ (f = half ∧ q % 2 = 1) then q + 1 else q)
    else (r + half) / (2 ^ s : Nat)

/-- The zero-point-corrected sum of 08 R262, and x = acc + bias (08 R263). -/
def mxAccInt (p : MxParam) (a b : List Int) : Int :=
  ((a.zip b).foldl (fun s x => s + (x.1 - p.za) * (x.2 - p.zb)) 0) + signed 32 p.bias

/-- An exact integer times a binary32 scale, rounded once to binary32; an integer zero gives +0 (08 R266). -/
def mxScaleInt (x : Int) (scale : Nat) : Num :=
  if x = 0 then .zero else rn32 ((Num.ofInt x).mul (val32 scale))

/-- The output bits of an element with integer inputs (08 R262 to R266). -/
def mxElemInt (p : MxParam) (a b : List Int) : Nat :=
  let x := mxAccInt p a b
  if p.intOut then intBits p.fo (clampI p.fo (mxRound p.even (x * p.mult) p.shift + p.zout)).1
  else (encodeF p.fo p.sat (mxScaleInt x p.scale)).1

/-- The output bits of an element with floating-point inputs (08 R267, R268, R271). -/
def mxElemFlt (p : MxParam) (a b : List Num) : Nat :=
  let acc := groupSum (val32 p.bias) ((a.zip b).map fun x => x.1.mul x.2)
  (encodeF p.fo p.sat (mul32 acc (val32 p.scale))).1

/-- Output bits from the raw bits of the two operands. -/
def mxElem (p : MxParam) (fa fb : Nat) (a b : List Nat) : Nat :=
  if p.intIn then mxElemInt p (a.map (decodeI fa)) (b.map (decodeI fb))
  else mxElemFlt p (a.map (decodeF fa)) (b.map (decodeF fb))

/-! ### Running a descriptor -/

/-- Raw elements of a row of the half-cell's scratchpad. -/
def spElems (s : State) (h c addr first n : Nat) : List Nat :=
  let row := spRead s h addr (rowBytes c (first + n))
  (List.range n).map fun i => elemBits c row (first + i)

/-- A region meets an uncorrectable word (12 R372): the offset of the first run that does. -/
def regionBad (s : State) (h : Nat) (r : Region) : Option Nat :=
  (r.runs.find? fun x => spBadAt s h x.1 x.2).map (·.1)

/-- How a unit's run goes on: the state, and the failure with its check number. -/
abbrev EngRun := State × Option (Byte × Nat)

/-! ### Duplicate execution (12 R376 to R381) -/

/-- The unit that checks unit `u` of half-cell `h`: the same position of the checking half-cell. -/
def dupUnit (s : State) (h u h' : Nat) : Option Nat :=
  let pos := if u % 5 = 4 then ((s.unit u).subPos).getD 4 else u % 5
  if pos / 2 = h % 2 then servingUnit s (uMU (h' / 2) (h' % 2 * 2 + pos % 2)) else none

/-- The pass product: what a pass adds into the accumulators, as bytes, from the rows of A and the columns of B of its K-tile
(12 R378). Integers: each element's sum, row by row, then the row sums of A and the column sums of B (08 R262). Floating point: each
element's group results (08 R267). -/
def passProduct (d : Bytes) (a b : List (List Nat)) : Bytes :=
  if mxIntIn d then
    let ai := a.map fun r => r.map (decodeI (mxFa d))
    let bi := b.map fun c => c.map (decodeI (mxFb d))
    let out (i : Int) : Bytes := leBytes 4 (wrapTo 32 i)
    (ai.flatMap fun r => bi.flatMap fun c => out (((r.zip c).map fun x => x.1 * x.2).foldl (· + ·) 0)) ++
      (ai.flatMap fun r => out (r.foldl (· + ·) 0)) ++ (bi.flatMap fun c => out (c.foldl (· + ·) 0))
  else
    a.flatMap fun r => b.flatMap fun c =>
      let terms := (r.zip c).map fun x => (decodeF (mxFa d) x.1).mul (decodeF (mxFb d) x.2)
      (chunks 32 (terms.length + 1) terms).flatMap fun g => leBytes 4 (bits32 (rn32 (sumExact g)))

/-- The start of one pass of `p` cycles on unit `u`: selected for duplication when the credit allows it and the checker's buffer, which
holds two passes, has room; a half-cell that is being drained checks nothing (12 R377, R390). The origin's digest of the pass goes to
the checker (12 R378). -/
def dupPass (l : Launch) (r : Req) (u h' c n p : Nat) (product : Bytes) (s : State) : State :=
  let x := s.unit u
  if (n - 1) * p ≤ x.credit ∧ (s.dups.filter fun q => q.checker == c).length < 2 ∧ !(s.half h').held then
    let s1 := s.updUnit u fun x => { x with credit := x.credit - (n - 1) * p }
    let s2 := s1.updWing r.wing fun w => { w with dupPasses := satInc w.dupPasses }
    { s2 with dups := s2.dups ++ [{ origin := u, checker := c, req := r.id, wing := r.wing, seq := r.seq, pcOff := l.pcOff,
                                    detail := l.detail s 0, digest := crc64 product }] }
  else s.updUnit u fun x => { x with credit := x.credit + p }

/-- A pass of `p` cycles starts, while duplicate execution is in force or not. -/
def startPass (h u : Nat) (l : Launch) (p : Nat) (product : Bytes) (s : State) : State :=
  match s.findReq l.req with
  | none => s
  | some r =>
    match dupChecker s r.wing h with
    | none => s
    | some h' =>
      match dupUnit s h u h' with
      | none => s
      | some c => dupPass l r u h' c (dupN (s.wing r.wing)) p product s

/-! ### Passes (08 R247 to R249) -/

/-- The value that a K-tile leaves in an accumulator: the exact integer sum, or the binary32 sum (08 R262, R268). -/
def mxAccum (d : Bytes) (bias : Nat) (a b : List Nat) : W32 :=
  if mxIntIn d then
    BitVec.ofInt 32 (((a.zip b).map fun x => decodeI (mxFa d) x.1 * decodeI (mxFb d) x.2).foldl (· + ·) 0)
  else
    BitVec.ofNat 32 (bits32 (groupSum (val32 bias) ((a.zip b).map fun x => (decodeF (mxFa d) x.1).mul (decodeF (mxFb d) x.2))))

/-- A weight buffer is loaded with a tile of B: the buffers take turns. -/
def loadWeights (s : State) (u pass : Nat) (tile : List Nat) : State :=
  s.updMu u fun m => if pass % 2 = 0 then { m with weights0 := tile } else { m with weights1 := tile }

/-- A half of the accumulator store holds a block: the halves take turns (08 R249). -/
def setAccum (s : State) (u half : Nat) (acc : List W32) : State :=
  s.updMu u fun m => if half % 2 = 0 then { m with acc0 := acc } else { m with acc1 := acc }

/-- The passes of one block and N-tile, K-tiles in ascending order: each loads its weights, is selected for duplication or not, and
adds into half `half` of the accumulator store. `a` are the block's rows of A, `b` the tile's columns of B, `bias` each column's. -/
def mxPassRun (h : Nat) (l : Launch) (u half : Nat) (a b : List (List Nat)) (bias : List Nat) (s : State) : State :=
  let d := l.desc
  let kt := mxKt (mxFa d)
  let p := max a.length (mxL (mxFa d))
  (List.range (ceilDiv (mxK d) kt)).foldl (fun s i =>
    let at_ := a.map fun r => (r.drop (kt * i)).take kt
    let bt := b.map fun c => (c.drop (kt * i)).take kt
    let upTo (x : List Nat) : List Nat := x.take (kt * (i + 1))
    let s1 := loadWeights (startPass h u l p (passProduct d at_ bt) s) u i bt.flatten
    setAccum s1 u half (a.flatMap fun r => (b.zip bias).map fun c => mxAccum d c.2 (upTo r) (upTo c.1))) s

/-- One N-tile of one block of a GEMM (08 R249): entries, then operands, then the passes, then the outputs of the block's rows.
`half` is the half of the accumulator store. -/
def mxTile (h u : Nat) (l : Launch) (b0 j0 half : Nat) (x : EngRun) : EngRun :=
  match x.2 with
  | some _ => x
  | none =>
    let s := x.1
    let d := l.desc
    let nt := min (mxNt (mxFa d)) (mxN d - j0)
    let mb := min 512 (mxM d - b0)
    let tab := Region.run (mxParam d + 16 * j0) (16 * nt)
    let entries := if mxPerCol d then (List.range nt).map fun j => spRead s h (mxParam d + 16 * (j0 + j)) 16 else []
    let aReg : Region :=
      { addr := mxA d + b0 * mxAs d, planes := 1, ps := 0, rows := mb, rs := mxAs d, len := rowBytes (mxFa d) (mxK d) }
    let bReg : Region :=
      { addr := mxB d + j0 * fmtBits (mxFb d) / 8, planes := 1, ps := 0, rows := mxK d, rs := mxBs d,
        len := rowBytes (mxFb d) nt }
    match (if mxPerCol d then regionBad s h tab else none) with
    | some o => (spReadError s h o, some (rUNCORRECTABLE_MEMORY, 0))
    | none =>
      match entries.findSome? (mxEntryCheck d) with
      | some c => (s, some (c, 8))
      | none =>
        match (regionBad s h aReg).orElse (fun _ => regionBad s h bReg) with
        | some o => (spReadError s h o, some (rUNCORRECTABLE_MEMORY, 0))
        | none =>
          let bRows := (List.range (mxK d)).map fun k => spElems s h (mxFb d) (mxB d + k * mxBs d) j0 nt
          let cols := (List.range nt).map fun j => bRows.map fun r => r.getD j 0
          let ps := if mxPerCol d then entries.map (mxEntry d) else List.replicate nt (mxParams d)
          let aRows := (List.range mb).map fun i => spElems s h (mxFa d) (mxA d + (b0 + i) * mxAs d) 0 (mxK d)
          let rows := aRows.zipIdx.map fun a =>
            (mxOut d + (b0 + a.2) * mxOs d + j0 * fmtBits (mxOutFmt (mxFo d)) / 8,
             packElems (mxOutFmt (mxFo d)) ((cols.zip ps).map fun c => mxElem c.2 (mxFa d) (mxFb d) a.1 c.1))
          let s1 := mxPassRun h l u half aRows cols (ps.map (·.bias)) s
          (rows.foldl (fun s r => spWrite s h r.1 r.2 (some (l.doc.val, l.ticket))) s1, none)

/-- One sample of an INTERACT (08 R272, R273): one block, worked as passes over its own rows (08 R274). -/
def mxSample (h u : Nat) (l : Launch) (n : Nat) (x : EngRun) : EngRun :=
  match x.2 with
  | some _ => x
  | none =>
    let s := x.1
    let d := l.desc
    let base := mxA d + n * mxBs d
    let reg : Region :=
      { addr := base, planes := 1, ps := 0, rows := mxN d, rs := mxAs d, len := rowBytes (mxFa d) (mxK d) }
    match regionBad s h reg with
    | some o => (spReadError s h o, some (rUNCORRECTABLE_MEMORY, 0))
    | none =>
      let rows := (List.range (mxN d)).map fun i => spElems s h (mxFa d) (base + i * mxAs d) 0 (mxK d)
      let p := mxParams d
      let nt := mxNt (mxFa d)
      let s1 := (List.range (ceilDiv (mxN d) nt)).foldl (fun s j =>
        let cols := (rows.drop (nt * j)).take nt
        mxPassRun h l u n rows cols (cols.map fun _ => 0) s) s
      let outs := (List.range (mxN d)).flatMap fun j =>
        (List.range (if mxDiag d then j + 1 else j)).map fun i =>
          mxElem p (mxFa d) (mxFa d) (rows.getD i []) (rows.getD j [])
      (spWrite s1 h (mxOut d + n * mxOs d) (packElems p.fo outs) (some (l.doc.val, l.ticket)), none)

/-- The unit that runs a launch. -/
def launchMu (l : Launch) : Nat := match l.eng with | .mu u => u | _ => 0

/-- The whole descriptor: blocks, then N-tiles, in ascending order (08 R249); or samples. -/
def mxRun (s : State) (h : Nat) (l : Launch) : EngRun :=
  let d := l.desc
  let u := launchMu l
  if mxOp d = 1 then (List.range (mxM d)).foldl (fun x n => mxSample h u l n x) (s, none)
  else
    let nt := mxNt (mxFa d)
    let tiles := ceilDiv (mxN d) nt
    (List.range (ceilDiv (mxM d) 512)).foldl (fun x b =>
      (List.range tiles).foldl (fun x j => mxTile h u l (512 * b) (nt * j) (b * tiles + j) x) x) (s, none)

/-- The output region overlaps an input (08 R260). -/
def mxOverlap (d : Bytes) : Bool := (mxInputs d).any fun r => r.meets (mxOutput d)

/-- The output region holds undefined values, where 08 R260 says so. -/
def mxUndef (s : State) (h : Nat) (l : Launch) : State :=
  if mxOverlap l.desc || l.dirty then freeRegion s h (mxOutput l.desc) (some (l.doc.val, l.ticket)) else s

/-! ### Commands -/

/-- A matrix unit ends its descriptor. `err`: what its weight buffers and accumulators answer; an uncorrectable error quarantines the
unit, which fails the descriptor (08 R261). `bad`: what the scratchpad answers, with the 8 B word of the half-cell that turns out
uncorrectable. -/
def matrixDone (s : State) (u : Nat) (err bad : Sram) : State :=
  match granted s (.mu u) with
  | none => s
  | some l =>
    let h := docHalf s l.doc
    match err with
    | .bad g => quarantine (sramUE s (u / 5) stMatrix g) u stMatrix
    | _ =>
      let s1 := spUpset (sramSaw s (u / 5) err) h bad
      let x := mxRun s1 h l
      let s2 := mxUndef (endBurst x.1 (.mu u)) h l
      match x.2 with
      | some f => launchFail s2 l f.1 (l.detail s2 f.2)
      | none => ticketDone s2 l.doc l.ticket

def execMatrixDescriptorDone (unit : Fin 40) (err bad : Sram) (s : State) : Host.Outcome State Fault Refusal :=
  .next (matrixDone s unit err bad)

/-- One mismatch more, to at most 3; at 3 the unit is quarantined (12 R383). -/
def countMismatch (s : State) (u : Nat) : State :=
  let n := min 3 ((s.unit u).mismatches + 1)
  let s1 := s.updUnit u fun x => { x with mismatches := n }
  if n = 3 then quarantine s1 u 0xFF else s1

/-- The checker's digest of the pass is that of the origin (12 R378 step 4). -/
def passAgrees (v : CheckRun) (origin : W64) : Bool :=
  match v with
  | .agrees => true
  | .product b => decide (crc64 b = origin)
  | .bad _ => false

/-- The verdict on the oldest pass that a checker unit holds (12 R378, R381): the digests agree or differ, or there is no verdict, since
the check accumulator held an uncorrectable error (12 R372). DUP_CHECKED stays 1 only while every verdict agrees (12 R380): a
disagreement fails the request, and its completion reports none. -/
def duplicateVerdict (s : State) (c : Nat) (verdict : CheckRun) : State :=
  match s.dups.find? (fun q => q.checker == c) with
  | none => s
  | some q =>
    let s1 := { s with dups := s.dups.erase q }
    match verdict with
    | .bad g => quarantine (sramUE s1 (unitDie c) stCheck g) c stCheck
    | _ =>
      if passAgrees verdict q.digest then s1.updReq q.req fun r => { r with dup := !r.dupBad }
      else
        let s2 := s1.updWing q.wing fun w => { w with dupMismatch := satInc w.dupMismatch }
        let s3 := alarmCode s2 0x0302 q.wing (unitDie q.origin) rDUPLICATE_MISMATCH q.origin q.checker q.seq.toNat 0
        let s4 := s3.updReq q.req fun r => { r with dup := false, dupBad := true }
        let s5 := if (s4.findReq q.req).isSome then abortPinned s4 q.req rDUPLICATE_MISMATCH q.pcOff q.detail else s4
        countMismatch (countMismatch s5 q.origin) q.checker

def execDuplicateVerdict (unit : Fin 40) (verdict : CheckRun) (s : State) : Host.Outcome State Fault Refusal :=
  .next (duplicateVerdict s unit verdict)

/-- Every 24 hours a mismatch count above 0 falls by one (12 R383). -/
def execMismatchDecay (unit : Fin 40) (s : State) : Host.Outcome State Fault Refusal :=
  .next (s.updUnit unit fun x => { x with mismatches := x.mismatches - 1 })

end Sys2Proof.Machine
end

