-- ==== Sys2Proof/Machine/Vector.lean ====
section
/-! DEFINITION. The vector engine and the reduction unit (09): launch checks, operations, flags, and what a descriptor writes. -/

namespace Sys2Proof.Machine

/-! ### Launch checks of the vector descriptor (09 R285, R293) -/

/-- The compute type's element code: FP32, BF16, INT16, INT32. -/
def veCTfmt (ct : Nat) : Nat :=
  match ct with
  | 0 => 10 | 1 => 6 | 2 => 8 | _ => 9

def veCTfloat (ct : Nat) : Bool := decide (ct < 2)

/-- An operation the compute type excludes (09 R288): DIV and 0x23 to 0x2B need a float CT, AND, OR and XOR an integer one. -/
def veExcluded (op ct : Nat) : Bool :=
  if veCTfloat ct then decide (9 ≤ op) && decide (op ≤ 0x0B)
  else decide (op = 4) || (decide (0x23 ≤ op) && decide (op ≤ 0x2B))

/-- A defined operation that takes no second operand. -/
def veNotBinary (op : Nat) : Bool := veDefined op && !veBinary op

/-- A conversion of an input to the compute type that 09 R283 does not permit. -/
def veBadLoad (f ct : Nat) : Bool := !veCTfloat ct && (fmtIsFloat f || (decide (ct = 2) && decide (f = 9)))

/-- A reserved or unused field is non-zero (09 R284, R285). -/
def veReservedSet (d : Bytes) : Bool :=
  decide (fld (leAt d 3 1) 6 2 ≠ 0) || decide (fld (leAt d 5 1) 4 4 ≠ 0) || !zeroAt d 14 2 ||
  (veNotBinary (veOpA d) && (decide (veF1 d ≠ 0) || decide (veBcast d ≠ 0) || !zeroAt d 20 4 || !zeroAt d 36 4 ||
    !zeroAt d 48 4)) ||
  (!veNotBinary (veOpA d) && ((decide (veBcast d = 1 ∨ veBcast d = 3) && !zeroAt d 36 4) ||
    (decide (veBcast d = 3) && !zeroAt d 48 4))) ||
  (veNotBinary (veOpB d) && !zeroAt d 56 4) || (veNotBinary (veOpC d) && !zeroAt d 60 4) ||
  (!veFlagsEn d && !zeroAt d 28 4) || (veSat d && !(decide (veFo d = 4) || decide (veFo d = 5) || decide (veFo d > 10)))

/-- A used IMM that check 4 refuses. -/
def veImmBad (ct op imm : Nat) : Bool :=
  veBinary op && (if veCTfloat ct then (val32 imm).isNan else outI (veCTfmt ct) (signed 32 imm))
where
  outI (c : Nat) (v : Int) : Bool := decide (v < fmtLo c) || decide (v > fmtHi c)

/-- Strides too small for the rows or planes of a region (09 R293 check 5). -/
def strideShort (r : Region) : Bool :=
  (decide (r.rows > 1) && decide (r.rs < r.len)) ||
  (decide (r.planes > 1) && decide (r.ps < (r.rows - 1) * r.rs + r.len))

/-- AFTER names no ticket of the docent's last 32,768 launches (09 R293 check 7). -/
def afterBad (x : Docent) (t : W16) : Bool := decide (t ≠ 0#16) && !ticketRecent x t

/-- The first failing check of 09 R293, with its number. -/
def veCheck (d : Bytes) (scratch : Nat) (x : Docent) : Option (Nat × Byte) :=
  let ct := veCT d
  let bin := veBinary (veOpA d)
  let e1 := (fmtBits (veF1 d) + 7) / 8
  firstFailAt [
    (veReservedSet d, rRESERVED_FIELD_SET),
    (!veDefined (veOpA d) || !veDefined (veOpB d) || !veDefined (veOpC d) || decide (veF0 d > 10) ||
      (bin && decide (veF1 d > 10)) || decide (veFo d > 10), rRESERVED_VALUE),
    (veBadLoad (veF0 d) ct || (bin && veBadLoad (veF1 d) ct) || veExcluded (veOpA d) ct || veExcluded (veOpB d) ct ||
      veExcluded (veOpC d) ct || (bin && decide (veBcast d ≥ 2) && decide (veF1 d < 2)), rFORMAT_UNSUPPORTED),
    (veImmBad ct (veOpB d) (veImmB d) || veImmBad ct (veOpC d) (veImmC d), rSCALE_INVALID),
    ((veOutput d :: veInputs d).any strideShort ||
      (bin && decide (veBcast d = 1) && decide (veCols d * (fmtBits (veCTfmt ct) / 8) > 65536)), rSHAPE_INVALID),
    ([veS0 d, veDst d, veS0rs d, veS0ps d, veDrs d, veDps d].any (fun a => decide (a % 16 ≠ 0)) ||
      (veFlagsEn d && decide (veFlags d % 16 ≠ 0)) ||
      (bin && (if veBcast d ≤ 1 then [veS1 d, veS1rs d, veS1ps d].any (fun a => decide (a % 16 ≠ 0))
               else [veS1 d, veS1rs d, veS1ps d].any (fun a => decide (a % e1 ≠ 0)))), rADDR_ALIGN),
    ((veOutput d :: veInputs d).any (fun r => decide (r.stop > scratch)) ||
      (veFlagsEn d && decide (veFlags d + 4 > scratch)) || afterBad x (launchAfter (.ve 0) d), rPROGRAM_BOUNDS)]

/-! ### Operations (09 R288 to R291) -/

/-- A value and the flags raised so far. -/
abbrev Flagged (α : Type) := α × Nat

/-- A float operand in the compute type (09 R283). -/
def veLoadF (ct f v : Nat) : Flagged Num :=
  if fmtIsFloat f then
    let fl := if inputFlushed f v then fgFLUSHED else 0
    let x := decodeF f v
    if ct = 10 ∨ f = 4 ∨ f = 5 ∨ f = 6 then (x, fl)
    else let r := encodeF ct false x; (decodeF ct r.1, fl ||| r.2)
  else
    let r := encodeF ct false (Num.ofInt (decodeI f v))
    (decodeF ct r.1, r.2)

/-- The unrounded or rounded result of a unary float operation on an operand that is no NaN, and DIV_ZERO (09 R288, R289). -/
def veUnary (ct op : Nat) (a : Num) : Flagged Num :=
  let neg := a.sign && !a.isZero
  match op with
  | 0x20 => (a.abs, 0)
  | 0x21 => (a.neg, 0)
  | 0x22 => (if Num.zero.lt a then a else .zero, 0)
  | 0x23 => (fExp ct a, 0)
  | 0x24 => (fLog ct a, if a.isZero then fgDIV_ZERO else 0)
  | 0x25 =>
    (match a with
     | .fin n m e => if m = 0 then a else if n then .nan else sqrtExact m e
     | .inf n => if n then .nan else a
     | .nan => .nan, 0)
  | 0x26 =>
    if a.isZero then (.inf a.sign, fgDIV_ZERO)
    else (match a with
     | .fin _ m e => if neg then .nan else rsqrtExact m e
     | .inf n => if n then .nan else .zero
     | .nan => .nan, 0)
  | 0x27 =>
    if a.isZero then (.inf a.sign, fgDIV_ZERO)
    else (match a with
     | .inf n => .fin n 0 0
     | x => divExact (.fin false 1 0) x, 0)
  | 0x28 => (fSigmoid ct a, 0)
  | 0x29 => (fTanh ct a, 0)
  | 0x2A => (fGelu ct a, 0)
  | _ => (fSilu ct a, 0)

/-- a ÷ b for operands that are no NaN. -/
def veDiv (a b : Num) : Flagged Num :=
  if b.isZero then
    if a.isZero then (.nan, 0) else (.inf (a.sign != b.sign), fgDIV_ZERO)
  else match a, b with
  | .inf n, .fin n' _ _ => (.inf (n != n'), 0)
  | .inf _, _ => (.nan, 0)
  | .fin n _ _, .inf n' => (.fin (n != n') 0 0, 0)
  | x, y => (divExact x y, 0)

/-- The unrounded result of a binary float operation on operands that are no NaN. -/
def veBinaryF (op : Nat) (a b : Num) : Flagged Num :=
  let one (c : Bool) : Num := if c then .fin false 1 0 else .zero
  match op with
  | 1 => (sumExact [a, b], 0)
  | 2 => (sumExact [a, b.neg], 0)
  | 3 => (a.mul b, 0)
  | 4 => veDiv a b
  | 5 => (a.max b, 0)
  | 6 => (a.min b, 0)
  | 7 => (one (b.lt a), 0)
  | _ => (one (a.eq b), 0)

/-- Rounds a result to the compute type and raises the flags of 09 R292. An infinity from finite operands sets OVERFLOW, also where a
division by zero gave it. -/
def veRound (ct : Nat) (finite : Bool) (r : Flagged Num) : Flagged Num :=
  let e := encodeF ct false r.1
  let v := decodeF ct e.1
  let ovf := if finite && v.isInf then fgOVERFLOW else 0
  (v, r.2 ||| e.2 ||| ovf ||| (if v.isNan then fgINVALID else 0))

/-- One operation in a float compute type (09 R289). -/
def veOpF (ct op : Nat) (a b : Num) : Flagged Num :=
  if op = 0 then (a, if a.isNan then fgNAN_SEEN else 0)
  else
    let bin := veBinary op
    if a.isNan || (bin && b.isNan) then
      ((if op = 7 ∨ op = 8 then .zero else .nan), fgNAN_SEEN)
    else
      let finite := !a.isInf && !(bin && b.isInf)
      veRound ct finite (if bin then veBinaryF op a b else veUnary ct op a)

/-- A bitwise operation on two's-complement values of 32 bits. -/
def bitwiseI (f : Nat → Nat → Nat) (a b : Int) : Int := signed 32 (f (wrapTo 32 a) (wrapTo 32 b))

/-- One operation in an integer compute type (09 R290). -/
def veOpI (ct op : Nat) (a b : Int) : Flagged Int :=
  match op with
  | 0 => (a, 0)
  | 1 => clampI ct (a + b)
  | 2 => clampI ct (a - b)
  | 3 => clampI ct (a * b)
  | 5 => (max a b, 0)
  | 6 => (min a b, 0)
  | 7 => (if a > b then 1 else 0, 0)
  | 8 => (if a = b then 1 else 0, 0)
  | 9 => (bitwiseI (· &&& ·) a b, 0)
  | 0x0A => (bitwiseI (· ||| ·) a b, 0)
  | 0x0B => (bitwiseI (· ^^^ ·) a b, 0)
  | 0x20 => clampI ct a.natAbs
  | 0x21 => clampI ct (-a)
  | _ => (if a > 0 then a else 0, 0)

/-- A float value in the output format (09 R283, 08 R271). -/
def storeF (fo : Nat) (sat : Bool) (x : Num) : Flagged Nat :=
  if fmtIsFloat fo then encodeF fo sat x
  else let r := toIntFmt fo x; (intBits fo r.1, r.2)

/-- An integer value in the output format (09 R283). -/
def storeI (fo : Nat) (sat : Bool) (i : Int) : Flagged Nat :=
  if fmtIsFloat fo then encodeF fo sat (Num.ofInt i)
  else let r := clampI fo i; (intBits fo r.1, r.2)

/-- A used IMM in the compute type (09 R291). -/
def veImmF (ct imm : Nat) : Num := roundF ct (val32 imm)

/-- An element of SRC1's row vector as the broadcast buffer holds it, converted to CT (09 R286). -/
def veBcastElem (d : Bytes) (v : Nat) : Flagged Nat :=
  let ct := veCTfmt (veCT d)
  if veCTfloat (veCT d) then
    let x := veLoadF ct (veF1 d) v
    ((encodeF ct false x.1).1, x.2)
  else (intBits ct (decodeI (veF1 d) v), 0)

/-- The output bits of one element from the bits of its operands: those of SRC0, and those of SRC1 in format `f1`. -/
def veElem (d : Bytes) (f1 a b : Nat) : Flagged Nat :=
  let ct := veCTfmt (veCT d)
  if veCTfloat (veCT d) then
    let x := veLoadF ct (veF0 d) a
    let y := if veBinary (veOpA d) then veLoadF ct f1 b else (.zero, 0)
    let r1 := veOpF ct (veOpA d) x.1 y.1
    let r2 := veOpF ct (veOpB d) r1.1 (veImmF ct (veImmB d))
    let r3 := veOpF ct (veOpC d) r2.1 (veImmF ct (veImmC d))
    let o := storeF (veFo d) (veSat d) r3.1
    (o.1, x.2 ||| y.2 ||| r1.2 ||| r2.2 ||| r3.2 ||| o.2)
  else
    let r1 := veOpI ct (veOpA d) (decodeI (veF0 d) a) (if veBinary (veOpA d) then decodeI f1 b else 0)
    let r2 := veOpI ct (veOpB d) r1.1 (signed 32 (veImmB d))
    let r3 := veOpI ct (veOpC d) r2.1 (signed 32 (veImmC d))
    let o := storeI (veFo d) (veSat d) r3.1
    (o.1, r1.2 ||| r2.2 ||| r3.2 ||| o.2)

/-! ### Running a descriptor -/

/-- A run so far: the state, the flags, and whether an uncorrectable read ended it. -/
structure VecRun where
  s : State
  flags : Nat
  bad : Bool

/-- Where row `r` of plane `p` of SRC1 begins, and its element for column `c` (09 R286). -/
def veSrc1At (d : Bytes) (p r : Nat) : Nat :=
  match veBcast d with
  | 0 => veS1 d + p * veS1ps d + r * veS1rs d
  | 1 => veS1 d + p * veS1ps d
  | 2 => veS1 d + p * veS1ps d + r * veS1rs d
  | _ => veS1 d

/-- Elements of SRC1 that one row reads. -/
def veSrc1Count (d : Bytes) : Nat := if veBcast d ≤ 1 then veCols d else 1

/-- The buffers of the docent position that a launch was made from (09 R280). -/
def laneKey (s : State) (l : Launch) : Nat := docCell l.doc * 4 + docRole s l.doc

/-- SRC1 is a row vector, which the broadcast buffer holds. -/
def veBuffered (d : Bytes) : Bool := veBinary (veOpA d) && decide (veBcast d = 1)

/-- A plane's row vector is loaded into the position's broadcast buffer (09 R286). -/
def veLoadRow (h : Nat) (l : Launch) (p : Nat) (x : VecRun) : VecRun :=
  let d := l.desc
  let a1 := veSrc1At d p 0
  let n1 := rowBytes (veF1 d) (veCols d)
  if spBadAt x.s h a1 n1 then { x with s := spReadError x.s h a1, bad := true }
  else
    let row := spRead x.s h a1 n1
    let es := (List.range (veCols d)).map fun c => veBcastElem d (elemBits (veF1 d) row c)
    { s := x.s.updLane (laneKey x.s l) fun b => { b with bcast := es.map (·.1) },
      flags := es.foldl (fun f e => f ||| e.2) x.flags, bad := false }

/-- One row, its SRC1 elements from the buffer or from scratchpad (09 R286, R287). -/
def veRow (h : Nat) (l : Launch) (p r : Nat) (x : VecRun) : VecRun :=
  if x.bad then x
  else
    let d := l.desc
    let a0 := veS0 d + p * veS0ps d + r * veS0rs d
    let n0 := rowBytes (veF0 d) (veCols d)
    let bin := veBinary (veOpA d)
    let buf := veBuffered d
    let a1 := veSrc1At d p r
    let n1 := rowBytes (veF1 d) (veSrc1Count d)
    if spBadAt x.s h a0 n0 then { x with s := spReadError x.s h a0, bad := true }
    else if bin && !buf && spBadAt x.s h a1 n1 then { x with s := spReadError x.s h a1, bad := true }
    else
      let row0 := spRead x.s h a0 n0
      let row1 := if bin && !buf then spRead x.s h a1 n1 else []
      let f1 := if buf then veCTfmt (veCT d) else veF1 d
      let src1 (c : Nat) : Nat :=
        if buf then (x.s.lane (laneKey x.s l)).bcast.getD c 0
        else if bin then elemBits (veF1 d) row1 (if veBcast d = 0 then c else 0) else 0
      let outs := (List.range (veCols d)).map fun c => veElem d f1 (elemBits (veF0 d) row0 c) (src1 c)
      { s := spWrite x.s h (veDst d + p * veDps d + r * veDrs d) (packElems (veFo d) (outs.map (·.1)))
          (some (l.doc.val, l.ticket)),
        flags := outs.foldl (fun f o => f ||| o.2) x.flags, bad := false }

/-- Row `i` of the walk, planes outermost; a plane's first row loads its row vector first. -/
def veStep (h : Nat) (l : Launch) (i : Nat) (x : VecRun) : VecRun :=
  if x.bad then x
  else
    let p := i / veRows l.desc
    let r := i % veRows l.desc
    veRow h l p r (if veBuffered l.desc && decide (r = 0) then veLoadRow h l p x else x)

/-- The rows of a descriptor's walk. -/
def veTotal (d : Bytes) : Nat := vePlanes d * veRows d

/-- The flags that the conversion of the IMMs raises. -/
def veImmFlags (d : Bytes) : Nat :=
  let ct := veCTfmt (veCT d)
  let fl (op imm : Nat) : Nat := if veCTfloat (veCT d) && veBinary op then (encodeF ct false (val32 imm)).2 else 0
  fl (veOpB d) (veImmB d) ||| fl (veOpC d) (veImmC d)

/-- The rows from where the descriptor was cut up to row `n` (05 R166, 09 R286). -/
def veRunTo (s : State) (h : Nat) (l : Launch) (n : Nat) : VecRun :=
  ((List.range n).drop l.rows).foldl (fun x i => veStep h l i x)
    { s := s, flags := l.flags ||| veImmFlags l.desc, bad := false }

/-- The rest of the descriptor. -/
def veRun (s : State) (h : Nat) (l : Launch) : VecRun := veRunTo s h l (veTotal l.desc)

/-- DST coincides exactly with an input of the same strides and element size (09 R296). -/
def coincides (o i : Region) (fo fi : Nat) : Bool :=
  decide (o.addr = i.addr) && decide (o.ps = i.ps) && decide (o.rs = i.rs) && decide (fmtBits fo = fmtBits fi)

/-- An overlap that 09 R296 leaves undefined. -/
def veOverlap (d : Bytes) : Bool :=
  let o := veOutput d
  let fl := if veFlagsEn d then [Region.run (veFlags d) 4] else []
  let ins := (if coincides o (veSrc0 d) (veFo d) (veF0 d) then [] else [veSrc0 d]) ++
    (if veBinary (veOpA d) && !(decide (veBcast d = 0) && coincides o (veSrc1 d) (veFo d) (veF1 d)) then [veSrc1 d] else [])
  ins.any (fun r => r.meets o) || (veInputs d).any (fun r => fl.any r.meets) || fl.any o.meets

/-- The output, and the flag word, hold undefined values (09 R296). -/
def laneUndef (s : State) (l : Launch) (h : Nat) (out : Region) (flagsEn : Bool) (flagsAt : Nat) : State :=
  let me := some (l.doc.val, l.ticket)
  let s1 := freeRegion s h out me
  if flagsEn then freeRegion s1 h (Region.run flagsAt 4) me else s1

/-- The end of a run: the flag word, or the failure; then the ticket (09 R292, R295). Overlaps and disturbed regions leave the
output and the flag word undefined (09 R296). -/
def finishRun (l : Launch) (h : Nat) (out : Region) (flagsEn : Bool) (flagsAt : Nat) (undef : Bool) (x : VecRun) : State :=
  let s := endBurst x.s l.eng
  let me := some (l.doc.val, l.ticket)
  if x.bad then launchFail (if undef then freeRegion s h out me else s) l rUNCORRECTABLE_MEMORY (l.detail s 0)
  else
    let s1 := if flagsEn then spWrite s h flagsAt (leBytes 4 x.flags) me else s
    ticketDone (if undef then laneUndef s1 l h out flagsEn flagsAt else s1) l.doc l.ticket

/-- A burst ends before the descriptor does: its next row and its flags are kept, or it fails where it stands (05 R166, 09 R306). -/
def cutRun (l : Launch) (h n : Nat) (out : Region) (undef : Bool) (x : VecRun) : State :=
  if x.bad then
    launchFail (if undef then freeRegion x.s h out (some (l.doc.val, l.ticket)) else x.s) l rUNCORRECTABLE_MEMORY (l.detail x.s 0)
  else x.s.updLaunch l fun y => { y with rows := n, flags := x.flags }

def veUndef (l : Launch) : Bool := veOverlap l.desc || l.dirty

/-- The burst that a round of the vector engine ends: `rows` rows of the granted descriptor, whose last row is left to its end. -/
def vectorBurst (s : State) (c rows : Nat) : State :=
  match granted s (.ve c) with
  | none => s
  | some l =>
    let n := min (l.rows + rows) (veTotal l.desc - 1)
    if n ≤ l.rows then s else cutRun l (docHalf s l.doc) n (veOutput l.desc) (veUndef l) (veRunTo s (docHalf s l.doc) l n)

/-- The vector engine ends its descriptor. `err`: what its broadcast buffer and pipeline answer; an uncorrectable error quarantines the
engine, which fails the descriptor (09 R295). `bad`: what the scratchpad answers. -/
def vectorDone (s : State) (c : Nat) (err bad : Sram) : State :=
  match granted s (.ve c) with
  | none => s
  | some l =>
    let h := docHalf s l.doc
    match err with
    | .bad g => quarantine (sramUE s c stVector g) (uVE c) stVector
    | _ =>
      finishRun l h (veOutput l.desc) (veFlagsEn l.desc) (veFlags l.desc) (veUndef l)
        (veRun (spUpset (sramSaw s c err) h bad) h l)

def execVectorDescriptorDone (cell : Cell) (err bad : Sram) (s : State) : Host.Outcome State Fault Refusal :=
  .next (vectorDone s cell err bad)

/-! ### The reduction unit (09 R298 to R302) -/

/-- The first failing check of 09 R293 as 09 R298 applies it. A float ARGMAX gives INT32 (09 R299; DEDUCED, log entry 20). -/
def ruCheck (d : Bytes) (scratch : Nat) (x : Docent) : Option (Nat × Byte) :=
  let op := ruOp d
  let flt := fmtIsFloat (ruFi d)
  firstFailAt [
    (decide (fld (leAt d 0 1) 4 4 ≠ 0) || decide (fld (leAt d 2 1) 1 7 ≠ 0) || !zeroAt d 3 1 || !zeroAt d 40 24 ||
      (!ruFlagsEn d && !zeroAt d 36 4), rRESERVED_FIELD_SET),
    (decide (op > 5) || decide (ruFi d > 10) || !(decide (ruFo d = 9) || decide (ruFo d = 10)), rRESERVED_VALUE),
    ((flt && decide (ruFo d = 9) && decide (op ≠ 3)) || (decide (op = 3) && decide (ruFo d = 10)) ||
      (decide (op = 5) && (!flt || decide (ruFo d = 9))) || (decide (op = 4) && decide (ruFi d = 9)), rFORMAT_UNSUPPORTED),
    (false, rSCALE_INVALID),
    (strideShort (ruInput d) || (ruAxis d && decide (ruCols d > 8192)) || decide (ruDes d < ruSize d) ||
      (decide (ruPlanes d > 1) && decide (ruDps d < (ruCount d - 1) * ruDes d + ruSize d)), rSHAPE_INVALID),
    ([ruSrc d, ruSrs d, ruSps d].any (fun a => decide (a % 16 ≠ 0)) || (ruFlagsEn d && decide (ruFlags d % 16 ≠ 0)) ||
      [ruDst d, ruDes d, ruDps d].any (fun a => decide (a % ruSize d ≠ 0)), rADDR_ALIGN),
    (decide ((ruInput d).stop > scratch) || decide ((ruOutput d).stop > scratch) ||
      (ruFlagsEn d && decide (ruFlags d + 4 > scratch)) || afterBad x (launchAfter (.ru 0) d), rPROGRAM_BOUNDS)]

/-- The flags of one rounded sum (09 R292): INVALID for a NaN from operands that are none, OVERFLOW for an infinity from finite ones. -/
def sumFlag (terms : List Num) (r : Num) : Nat :=
  (if r.isNan && !terms.any Num.isNan then fgINVALID else 0) |||
  (if r.isInf && !terms.any (fun x => x.isInf || x.isNan) then fgOVERFLOW else 0)

/-- Groups of 32 terms, each summed exactly and rounded, added in ascending order (09 R299), with the flags of every rounding. -/
def sumGroupsF (terms : List Num) : Flagged Num :=
  match (chunks 32 (terms.length + 1) terms).map fun g => (rn32 (sumExact g), sumFlag g (rn32 (sumExact g))) with
  | [] => (.zero, 0)
  | g :: gs => gs.foldl (fun a x => (add32 a.1 x.1, a.2 ||| x.2 ||| sumFlag [a.1, x.1] (add32 a.1 x.1))) g

/-- The position of the first element that satisfies a test. -/
def firstIdx {α : Type} (p : α → Bool) (l : List α) : Nat := ((l.zipIdx.find? fun x => p x.1).map (·.2)).getD 0

/-- An exact integer result as INT32 or FP32 (09 R299). -/
def ruInt (fo : Nat) (i : Int) : Flagged Nat := storeI fo false i

/-- The result of a line of integers. -/
def ruLineI (op fo : Nat) (l : List Int) : Flagged Nat :=
  let mx := l.foldl max (l.headD 0)
  match op with
  | 0 => ruInt fo (l.foldl (· + ·) 0)
  | 1 => ruInt fo mx
  | 2 => ruInt fo (l.foldl min (l.headD 0))
  | 3 => (intBits 9 (firstIdx (· == mx) l), 0)
  | _ => ruInt fo (l.foldl (fun a x => a + x * x) 0)

/-- The maximum of a line of floats: any NaN gives NaN, +0 is above −0 (09 R299). -/
def lineMax (l : List Num) : Num := l.foldl Num.max (l.headD .zero)

/-- RN(1 ÷ s), RN(m + LOG s) and SUM of the softmax terms (09 R300), with their flags. -/
def softmaxTerms (l : List Num) : List Num × Nat :=
  let m := lineMax l
  let es := l.map fun x => veOpF 10 2 x m
  let xs := es.map fun e => veOpF 10 0x23 e.1 .zero
  let sf := sumGroupsF (xs.map (·.1))
  let s := sf.1
  let rc := veOpF 10 0x27 s .zero
  let lg := veOpF 10 0x24 s .zero
  let ls := veOpF 10 1 m lg.1
  ([m, s, rc.1, ls.1],
   (es ++ xs).foldl (fun f e => f ||| e.2) 0 ||| sf.2 ||| rc.2 ||| lg.2 ||| ls.2)

/-- The result of a line of floats, as bytes, and its flags. -/
def ruLineF (op : Nat) (l : List Num) : Bytes × Nat :=
  let seen := if l.any Num.isNan then fgNAN_SEEN else 0
  match op with
  | 0 => let r := sumGroupsF l; (leBytes 4 (bits32 r.1), seen ||| r.2)
  | 1 => (leBytes 4 (bits32 (lineMax l)), seen)
  | 2 => (leBytes 4 (bits32 (l.foldl Num.min (l.headD .zero))), seen)
  | 3 =>
    let m := lineMax l
    (leBytes 4 (if l.any Num.isNan then firstIdx Num.isNan l else firstIdx (fun x => x.eq m && x.sign == m.sign) l), seen)
  | 4 => let t := l.map fun x => x.mul x; let r := sumGroupsF t; (leBytes 4 (bits32 r.1), seen ||| r.2)
  | _ => let r := softmaxTerms l; ((r.1.map fun x => leBytes 4 (bits32 x)).flatten, seen ||| r.2)

/-- The result of one line from its raw bits: bytes and flags. -/
def ruLine (d : Bytes) (raw : List Nat) : Bytes × Nat :=
  if fmtIsFloat (ruFi d) then
    let fl := if raw.any (inputFlushed (ruFi d)) then fgFLUSHED else 0
    let r := ruLineF (ruOp d) (raw.map (decodeF (ruFi d)))
    (r.1, fl ||| r.2)
  else
    let r := ruLineI (ruOp d) (ruFo d) (raw.map (decodeI (ruFi d)))
    (leBytes 4 r.1, r.2)

/-- The results of one plane or row, from their place on: bytes and flags. -/
def ruWrite (h : Nat) (l : Launch) (p first : Nat) (outs : List (Bytes × Nat)) (x : VecRun) : VecRun :=
  let d := l.desc
  { s := outs.zipIdx.foldl (fun s o =>
      spWrite s h (ruDst d + p * ruDps d + (first + o.2) * ruDes d) o.1.1 (some (l.doc.val, l.ticket))) x.s,
    flags := outs.foldl (fun f o => f ||| o.2) x.flags, bad := x.bad }

/-- Row `i` of the walk, planes outermost: along columns it gives its result; along rows it enters the running state of every column,
which the position's column-state buffer holds for one plane at a time, and the plane's last row gives the results (09 R298, R302). -/
def ruStep (h : Nat) (l : Launch) (i : Nat) (x : VecRun) : VecRun :=
  if x.bad then x
  else
    let d := l.desc
    let p := i / ruRows d
    let r := i % ruRows d
    let a := ruSrc d + p * ruSps d + r * ruSrs d
    let n := rowBytes (ruFi d) (ruCols d)
    if spBadAt x.s h a n then { x with s := spReadError x.s h a, bad := true }
    else
      let row := spRead x.s h a n
      let es := (List.range (ruCols d)).map fun c => elemBits (ruFi d) row c
      if ruAxis d then
        let k := laneKey x.s l
        let cols := (if r = 0 then [] else (x.s.lane k).cols) ++ [es]
        let y := { x with s := x.s.updLane k fun b => { b with cols := cols } }
        if r + 1 = ruRows d then
          ruWrite h l p 0 ((List.range (ruCols d)).map fun c => ruLine d (cols.map fun e => e.getD c 0)) y
        else y
      else ruWrite h l p r [ruLine d es] x

/-- The rows of a descriptor's walk. -/
def ruTotal (d : Bytes) : Nat := ruPlanes d * ruRows d

/-- The rows from where the descriptor was cut up to row `n` (05 R166). -/
def ruRunTo (s : State) (h : Nat) (l : Launch) (n : Nat) : VecRun :=
  ((List.range n).drop l.rows).foldl (fun x i => ruStep h l i x) { s := s, flags := l.flags, bad := false }

/-- The rest of the descriptor. -/
def ruRun (s : State) (h : Nat) (l : Launch) : VecRun := ruRunTo s h l (ruTotal l.desc)

/-- An overlap that 09 R296 leaves undefined; a reduction never coincides with its input. -/
def ruOverlap (d : Bytes) : Bool :=
  let fl := if ruFlagsEn d then [Region.run (ruFlags d) 4] else []
  (ruInput d).meets (ruOutput d) || fl.any (fun f => f.meets (ruInput d) || f.meets (ruOutput d))

def ruUndef (l : Launch) : Bool := ruOverlap l.desc || l.dirty

/-- The burst that a round of the reduction unit ends. -/
def reductionBurst (s : State) (c rows : Nat) : State :=
  match granted s (.ru c) with
  | none => s
  | some l =>
    let n := min (l.rows + rows) (ruTotal l.desc - 1)
    if n ≤ l.rows then s else cutRun l (docHalf s l.doc) n (ruOutput l.desc) (ruUndef l) (ruRunTo s (docHalf s l.doc) l n)

/-- The reduction unit ends its descriptor. `err`: what its column-state buffer and pipeline answer (09 R295). -/
def reductionDone (s : State) (c : Nat) (err bad : Sram) : State :=
  match granted s (.ru c) with
  | none => s
  | some l =>
    let h := docHalf s l.doc
    match err with
    | .bad g => quarantine (sramUE s c stVector g) (uRU c) stVector
    | _ =>
      finishRun l h (ruOutput l.desc) (ruFlagsEn l.desc) (ruFlags l.desc) (ruUndef l)
        (ruRun (spUpset (sramSaw s c err) h bad) h l)

def execReductionDescriptorDone (cell : Cell) (err bad : Sram) (s : State) : Host.Outcome State Fault Refusal :=
  .next (reductionDone s cell err bad)

end Sys2Proof.Machine
end

