-- ==== Sys2Proof/Machine/Ozol.lean ====
section
/-! DEFINITION. Ozol instructions (05 R154): each is the meaning of a docent's current word, and the events of a docent: the end
of loading, the return of an LDA, its fault report and its watchdog. -/

namespace Sys2Proof.Machine

/-! ### When an instruction executes -/

/-- The docent's current word is the one `i` spells: it is RUNNING and waits for nothing, or retries a launch (DESIGN CHOICE, log
entry 15). -/
def ozCurrent (s : State) (i : Instr) (d : Nat) : Bool :=
  let x := s.doc d
  decide (x.state = .running) && (decide (x.stall = .none) || decide (x.stall = .launch)) &&
  (match ozEncode i with | some w => decide (x.code[x.pc]? = some w) | none => false)

/-- What the docent's SRAMs answer at its current word (05 R144). -/
def dueUpsets (x : Docent) : List Sram := (x.upsets.filter fun u => u.1 == x.pc).map (·.2)

/-- The docent executes the word `i` spells, and its SRAMs answer right. -/
def ozReady (s : State) (i : Instr) (d : Nat) : Bool := ozCurrent s i d && (dueUpsets (s.doc d)).isEmpty

/-- The answers of a docent's SRAMs at its word are met: corrected errors are counted, and the first uncorrectable one is recorded and
quarantines the docent, whose word then has no effect (05 R144, 12 R372). -/
def docUpset (s : State) (d : Nat) : State × Bool :=
  let due := dueUpsets (s.doc d)
  let s1 := due.foldl (fun s u => sramSaw s (docCell d) u) (s.updDoc d fun x => { x with upsets := x.upsets.filter fun u => u.1 != x.pc })
  match due.findSome? fun u => match u with | .bad g => some g | _ => none with
  | some g => (quarantine (sramUE s1 (docCell d) stDocent g) (40 + d) stDocent, false)
  | none => (s1, true)

/-- An instruction of a docent whose word it is not changes nothing (DESIGN CHOICE, log entry 15). -/
def ozRun (s : State) (i : Instr) (d : Nat) (f : State → State) : Host.Outcome State Fault Refusal :=
  .next (if ozReady s i d then f s
    else if ozCurrent s i d then (let u := docUpset s d; if u.2 then f u.1 else u.1)
    else s)

/-- IMM sign-extended to 64 bits (05 R154). -/
def sext (imm : W32) : W64 := imm.signExtend 64
def zext (imm : W32) : W64 := imm.setWidth 64

/-- RD = f RA RB, then the next word. -/
def ozAlu (d : Nat) (rd ra rb : R5) (f : W64 → W64 → W64) (s : State) : State :=
  docResult s d rd (f ((s.doc d).greg ra) ((s.doc d).greg rb))

/-- RD = f RA. -/
def ozAluI (d : Nat) (rd ra : R5) (f : W64 → W64) (s : State) : State := docResult s d rd (f ((s.doc d).greg ra))

/-- A conditional branch. -/
def ozBranch (d : Nat) (ra rb : R5) (target : BitVec 14) (p : W64 → W64 → Bool) (s : State) : State :=
  if p ((s.doc d).greg ra) ((s.doc d).greg rb) then docGoto s d target.toNat else docNext s d

/-! ### Control -/


/-- NOP: nothing but the next word. -/
def execOzNop (doc : DocIx) (s : State) : Host.Outcome State Fault Refusal :=
  ozRun s (.ozNop doc) doc fun s => docNext s doc

/-- END: the docent waits for its tickets and ends (05 R154, R159). -/
def ozEnd (d : Nat) (s : State) : State :=
  let s1 := wake (s.updDoc d fun x => { x with stall := .ending }) d
  match (s.doc d).req with
  | some id => haltCheck s1 id
  | none => s1

/-- END. -/
def execOzEnd (doc : DocIx) (s : State) : Host.Outcome State Fault Refusal :=
  ozRun s (.ozEnd doc) doc (ozEnd doc)

/-- SYNC: schedule point IMM (10 R326). -/
def execOzSync (doc : DocIx) (point : BitVec 12) (s : State) : Host.Outcome State Fault Refusal :=
  ozRun s (.ozSync doc point) doc fun s => sync s doc point.toNat

/-- BARRIER n (05 R158). -/
def ozBarrier (d n : Nat) (s : State) : State :=
  let s1 := s.updDoc d fun x => { x with stall := .barrier n }
  match (s.doc d).req with
  | some id => barrierCheck s1 id
  | none => s1

/-- BARRIER. -/
def execOzBarrier (doc : DocIx) (n : BitVec 8) (s : State) : Host.Outcome State Fault Refusal :=
  ozRun s (.ozBarrier doc n) doc (ozBarrier doc n.toNat)

/-- The docent's wing is lent. -/
def docLent (s : State) (d : Nat) : Bool :=
  match (s.doc d).req.bind s.findReq with
  | some r => (s.wing r.wing).lent
  | none => false

/-- PRIO: clamped to 3 for a lent wing (05 R165). -/
def ozPrio (d p : Nat) (s : State) : State :=
  docNext (s.updDoc d fun x => { x with prio := if docLent s d then min p 3 else p }) d

/-- PRIO. -/
def execOzPrio (doc : DocIx) (p : BitVec 3) (s : State) : Host.Outcome State Fault Refusal :=
  ozRun s (.ozPrio doc p) doc (ozPrio doc p.toNat)

/-! ### Arithmetic -/

/-- ADD. -/
def execOzAdd (doc : DocIx) (rd ra rb : R5) (s : State) : Host.Outcome State Fault Refusal :=
  ozRun s (.ozAdd doc rd ra rb) doc (ozAlu doc rd ra rb (fun a b => a + b))

/-- SUB. -/
def execOzSub (doc : DocIx) (rd ra rb : R5) (s : State) : Host.Outcome State Fault Refusal :=
  ozRun s (.ozSub doc rd ra rb) doc (ozAlu doc rd ra rb (fun a b => a - b))

/-- AND. -/
def execOzAnd (doc : DocIx) (rd ra rb : R5) (s : State) : Host.Outcome State Fault Refusal :=
  ozRun s (.ozAnd doc rd ra rb) doc (ozAlu doc rd ra rb (fun a b => a &&& b))

/-- OR. -/
def execOzOr (doc : DocIx) (rd ra rb : R5) (s : State) : Host.Outcome State Fault Refusal :=
  ozRun s (.ozOr doc rd ra rb) doc (ozAlu doc rd ra rb (fun a b => a ||| b))

/-- XOR. -/
def execOzXor (doc : DocIx) (rd ra rb : R5) (s : State) : Host.Outcome State Fault Refusal :=
  ozRun s (.ozXor doc rd ra rb) doc (ozAlu doc rd ra rb (fun a b => a ^^^ b))

/-- SHL: by RB[5:0]. -/
def execOzShl (doc : DocIx) (rd ra rb : R5) (s : State) : Host.Outcome State Fault Refusal :=
  ozRun s (.ozShl doc rd ra rb) doc (ozAlu doc rd ra rb (fun a b => a <<< (b.toNat % 64)))

/-- SHR: logical, by RB[5:0]. -/
def execOzShr (doc : DocIx) (rd ra rb : R5) (s : State) : Host.Outcome State Fault Refusal :=
  ozRun s (.ozShr doc rd ra rb) doc (ozAlu doc rd ra rb (fun a b => a >>> (b.toNat % 64)))

/-- SAR: arithmetic, by RB[5:0]. -/
def execOzSar (doc : DocIx) (rd ra rb : R5) (s : State) : Host.Outcome State Fault Refusal :=
  ozRun s (.ozSar doc rd ra rb) doc (ozAlu doc rd ra rb (fun a b => a.sshiftRight (b.toNat % 64)))

/-- MUL: the low 64 bits. -/
def execOzMul (doc : DocIx) (rd ra rb : R5) (s : State) : Host.Outcome State Fault Refusal :=
  ozRun s (.ozMul doc rd ra rb) doc (ozAlu doc rd ra rb (fun a b => a * b))

/-- MINU. -/
def execOzMinu (doc : DocIx) (rd ra rb : R5) (s : State) : Host.Outcome State Fault Refusal :=
  ozRun s (.ozMinu doc rd ra rb) doc (ozAlu doc rd ra rb (fun a b => if a.toNat ≤ b.toNat then a else b))

/-- MAXU. -/
def execOzMaxu (doc : DocIx) (rd ra rb : R5) (s : State) : Host.Outcome State Fault Refusal :=
  ozRun s (.ozMaxu doc rd ra rb) doc (ozAlu doc rd ra rb (fun a b => if a.toNat ≤ b.toNat then b else a))

/-- SLTU. -/
def execOzSltu (doc : DocIx) (rd ra rb : R5) (s : State) : Host.Outcome State Fault Refusal :=
  ozRun s (.ozSltu doc rd ra rb) doc (ozAlu doc rd ra rb (fun a b => if a.toNat < b.toNat then 1 else 0))

/-- SLT. -/
def execOzSlt (doc : DocIx) (rd ra rb : R5) (s : State) : Host.Outcome State Fault Refusal :=
  ozRun s (.ozSlt doc rd ra rb) doc (ozAlu doc rd ra rb (fun a b => if a.toInt < b.toInt then 1 else 0))

/-- ADDI. -/
def execOzAddi (doc : DocIx) (rd ra : R5) (imm : W32) (s : State) : Host.Outcome State Fault Refusal :=
  ozRun s (.ozAddi doc rd ra imm) doc (ozAluI doc rd ra (fun a => a + sext imm))

/-- ANDI: IMM zero-extended. -/
def execOzAndi (doc : DocIx) (rd ra : R5) (imm : W32) (s : State) : Host.Outcome State Fault Refusal :=
  ozRun s (.ozAndi doc rd ra imm) doc (ozAluI doc rd ra (fun a => a &&& zext imm))

/-- ORI: IMM zero-extended. -/
def execOzOri (doc : DocIx) (rd ra : R5) (imm : W32) (s : State) : Host.Outcome State Fault Refusal :=
  ozRun s (.ozOri doc rd ra imm) doc (ozAluI doc rd ra (fun a => a ||| zext imm))

/-- XORI: IMM zero-extended. -/
def execOzXori (doc : DocIx) (rd ra : R5) (imm : W32) (s : State) : Host.Outcome State Fault Refusal :=
  ozRun s (.ozXori doc rd ra imm) doc (ozAluI doc rd ra (fun a => a ^^^ zext imm))

/-- MOVHI: (IMM << 32) OR RA[31:0]. -/
def execOzMovhi (doc : DocIx) (rd ra : R5) (imm : W32) (s : State) : Host.Outcome State Fault Refusal :=
  ozRun s (.ozMovhi doc rd ra imm) doc (ozAluI doc rd ra (fun a => (zext imm <<< 32) ||| (a &&& 0xFFFFFFFF#64)))

/-- SHLI. -/
def execOzShli (doc : DocIx) (rd ra : R5) (sh : BitVec 6) (s : State) : Host.Outcome State Fault Refusal :=
  ozRun s (.ozShli doc rd ra sh) doc (ozAluI doc rd ra (fun a => a <<< sh.toNat))

/-- SHRI. -/
def execOzShri (doc : DocIx) (rd ra : R5) (sh : BitVec 6) (s : State) : Host.Outcome State Fault Refusal :=
  ozRun s (.ozShri doc rd ra sh) doc (ozAluI doc rd ra (fun a => a >>> sh.toNat))

/-- SARI. -/
def execOzSari (doc : DocIx) (rd ra : R5) (sh : BitVec 6) (s : State) : Host.Outcome State Fault Refusal :=
  ozRun s (.ozSari doc rd ra sh) doc (ozAluI doc rd ra (fun a => a.sshiftRight sh.toNat))

/-- MOVI. -/
def execOzMovi (doc : DocIx) (rd : R5) (imm : W32) (s : State) : Host.Outcome State Fault Refusal :=
  ozRun s (.ozMovi doc rd imm) doc fun s => docResult s doc rd (sext imm)

/-! ### Branches -/

/-- JMP. -/
def execOzJmp (doc : DocIx) (target : BitVec 14) (s : State) : Host.Outcome State Fault Refusal :=
  ozRun s (.ozJmp doc target) doc fun s => docGoto s doc target.toNat

/-- BEQ. -/
def execOzBeq (doc : DocIx) (ra rb : R5) (target : BitVec 14) (s : State) : Host.Outcome State Fault Refusal :=
  ozRun s (.ozBeq doc ra rb target) doc (ozBranch doc ra rb target fun a b => a == b)

/-- BNE. -/
def execOzBne (doc : DocIx) (ra rb : R5) (target : BitVec 14) (s : State) : Host.Outcome State Fault Refusal :=
  ozRun s (.ozBne doc ra rb target) doc (ozBranch doc ra rb target fun a b => a != b)

/-- BLTU. -/
def execOzBltu (doc : DocIx) (ra rb : R5) (target : BitVec 14) (s : State) : Host.Outcome State Fault Refusal :=
  ozRun s (.ozBltu doc ra rb target) doc (ozBranch doc ra rb target fun a b => decide (a.toNat < b.toNat))

/-- BGEU. -/
def execOzBgeu (doc : DocIx) (ra rb : R5) (target : BitVec 14) (s : State) : Host.Outcome State Fault Refusal :=
  ozRun s (.ozBgeu doc ra rb target) doc (ozBranch doc ra rb target fun a b => decide (b.toNat ≤ a.toNat))

/-- BLT. -/
def execOzBlt (doc : DocIx) (ra rb : R5) (target : BitVec 14) (s : State) : Host.Outcome State Fault Refusal :=
  ozRun s (.ozBlt doc ra rb target) doc (ozBranch doc ra rb target fun a b => decide (a.toInt < b.toInt))

/-- BGE. -/
def execOzBge (doc : DocIx) (ra rb : R5) (target : BitVec 14) (s : State) : Host.Outcome State Fault Refusal :=
  ozRun s (.ozBge doc ra rb target) doc (ozBranch doc ra rb target fun a b => decide (b.toInt ≤ a.toInt))

/-- LOOP: RA = RA − 1; branch if RA ≠ 0. -/
def ozLoop (d : Nat) (ra : R5) (target : Nat) (s : State) : State :=
  let v := (s.doc d).greg ra - 1
  let s1 := s.updDoc d fun x => x.setG ra v
  if v ≠ 0 then docGoto s1 d target else docNext s1 d

/-- LOOP. -/
def execOzLoop (doc : DocIx) (ra : R5) (target : BitVec 14) (s : State) : Host.Outcome State Fault Refusal :=
  ozRun s (.ozLoop doc ra target) doc (ozLoop doc ra target.toNat)

/-- CALL: pushes PC + 1; a full call stack faults (05 R160). -/
def ozCall (d target : Nat) (s : State) : State :=
  let x := s.doc d
  if x.calls.length ≥ 16 then docFault s d rPROGRAM_BOUNDS x.pc
  else docGoto (s.setDoc d { x with calls := (x.pc + 1) :: x.calls }) d target

/-- CALL. -/
def execOzCall (doc : DocIx) (target : BitVec 14) (s : State) : Host.Outcome State Fault Refusal :=
  ozRun s (.ozCall doc target) doc (ozCall doc target.toNat)

/-- RET: PC = popped index; an empty call stack faults. -/
def ozRet (d : Nat) (s : State) : State :=
  let x := s.doc d
  match x.calls with
  | [] => docFault s d rPROGRAM_BOUNDS x.pc
  | i :: rest => docGoto (s.setDoc d { x with calls := rest }) d i

/-- RET. -/
def execOzRet (doc : DocIx) (s : State) : Host.Outcome State Fault Refusal :=
  ozRun s (.ozRet doc) doc (ozRet doc)

/-- JR: PC = RA; all 64 bits are compared with CODE_WORDS (05 R160). -/
def ozJr (d : Nat) (ra : R5) (s : State) : State :=
  let x := s.doc d
  let t := (x.greg ra).toNat
  if t ≥ x.code.length then docFault s d rPROGRAM_BOUNDS x.pc else docGoto s d t

/-- JR. -/
def execOzJr (doc : DocIx) (ra : R5) (s : State) : Host.Outcome State Fault Refusal :=
  ozRun s (.ozJr doc ra) doc (ozJr doc ra)

/-! ### Loads, stores, special values -/

/-- What an instruction reads of its request. -/
def docReq (s : State) (d : Nat) : Option Req := (s.doc d).req.bind s.findReq

/-- LDA: the read of the argument block is issued, and the docent waits for it (05 R160 for its bounds). -/
def ozLda (d : Nat) (rd ra : R5) (imm : W32) (s : State) : State :=
  let x := s.doc d
  let off := (x.greg ra + sext imm).toNat
  let argsLen := match docReq s d with | some r => r.argsLen | none => 0
  if off % 8 ≠ 0 then docFault s d rADDR_ALIGN x.pc
  else if off + 8 > argsLen then docFault s d rPROGRAM_BOUNDS x.pc
  else s.setDoc d { x with stall := .lda rd off }

/-- LDA. -/
def execOzLda (doc : DocIx) (rd ra : R5) (imm : W32) (s : State) : Host.Outcome State Fault Refusal :=
  ozRun s (.ozLda doc rd ra imm) doc (ozLda doc rd ra imm)

/-- LDA_DATA_RETURN: the read returns and RD is written. A read that fails faults the docent at the LDA with the code of its
failure (11 R354, R363; DEDUCED, log entry 22). -/
def ldaReturn (s : State) (d : Nat) (hm : HostMem) : State :=
  let x := s.doc d
  match x.stall, docReq s d with
  | .lda rd off, some r =>
    if x.state ≠ .running then s
    else
      let a := vaRead s r.wing (if h : d < 40 then .docent ⟨d, h⟩ else .docent 0) hm (r.args.toNat + off) 8
      match a.2 with
      | .ok b => docResult a.1 d rd (BitVec.ofNat 64 (fromLE b))
      | .missing => docFault a.1 d rTRANSLATION_MISSING x.pc
      | .absent => docFault a.1 d (absentCode a.1 r.wing) x.pc
      | .ue => docFault a.1 d rUNCORRECTABLE_MEMORY x.pc
      | .stale => staleReply a.1 r.wing r.id
      | .waits => a.1
  | _, _ => s

def execLdaDataReturn (doc : DocIx) (hm : HostMem) (s : State) : Host.Outcome State Fault Refusal :=
  .next (ldaReturn s doc hm)

/-- LDC: constant word RA + IMM. -/
def ozLdc (d : Nat) (rd ra : R5) (imm : W32) (s : State) : State :=
  let x := s.doc d
  let i := (x.greg ra + zext imm).toNat
  match x.consts[i]? with
  | some v => docResult s d rd v
  | none => docFault s d rPROGRAM_BOUNDS x.pc

/-- LDC. -/
def execOzLdc (doc : DocIx) (rd ra : R5) (imm : W32) (s : State) : Host.Outcome State Fault Refusal :=
  ozRun s (.ozLdc doc rd ra imm) doc (ozLdc doc rd ra imm)

/-- The fault of an 8 B scratchpad access at an offset (05 R160). -/
def spOffsetFault (s : State) (d off : Nat) : Option Byte :=
  let scratch := match docReq s d with | some r => r.scratch | none => 0
  if off % 8 ≠ 0 then some rADDR_ALIGN else if off + 8 > scratch then some rPROGRAM_BOUNDS else none

/-- LDS: 8 B of the half-cell's scratchpad; an uncorrectable word faults (12 R372). -/
def ozLds (d : Nat) (rd ra : R5) (imm : W32) (s : State) : State :=
  let x := s.doc d
  let off := (x.greg ra + sext imm).toNat
  let h := docHalf s d
  match spOffsetFault s d off with
  | some code => docFault s d code x.pc
  | none =>
    if spBadAt s h off 8 then docFault (spReadError s h off) d rUNCORRECTABLE_MEMORY x.pc
    else docResult s d rd (BitVec.ofNat 64 (fromLE (spRead s h off 8)))

/-- LDS. -/
def execOzLds (doc : DocIx) (rd ra : R5) (imm : W32) (s : State) : Host.Outcome State Fault Refusal :=
  ozRun s (.ozLds doc rd ra imm) doc (ozLds doc rd ra imm)

/-- STS. -/
def ozSts (d : Nat) (ra rb : R5) (imm : W32) (s : State) : State :=
  let x := s.doc d
  let off := (x.greg ra + sext imm).toNat
  match spOffsetFault s d off with
  | some code => docFault s d code x.pc
  | none => docNext (spWrite s (docHalf s d) off (leBytes 8 (x.greg rb).toNat) none) d

/-- STS. -/
def execOzSts (doc : DocIx) (ra rb : R5) (imm : W32) (s : State) : Host.Outcome State Fault Refusal :=
  ozRun s (.ozSts doc ra rb imm) doc (ozSts doc ra rb imm)

/-- The half-cell mask of a request (04 R124). -/
def halfMask (hs : List HcIx) : Nat := maskOf 16 fun i => hs.any fun h => h.val == i

/-- The special values of 05 R153. -/
def specialValue (s : State) (d sel : Nat) : Nat :=
  let x := s.doc d
  match docReq s d with
  | none => 0
  | some r =>
    match sel with
    | 0 => r.seq.toNat
    | 1 => (r.epoch.getD 0).toNat
    | 2 => x.rank
    | 3 => r.docs.length
    | 4 => halfMask r.halves
    | 5 => r.argsLen
    | 6 => r.wing.val
    | 7 => docHalf s d
    | 8 => x.ticket.toNat
    | 9 => x.prio
    | 10 => s.now
    | _ => 0

/-- RDSR. -/
def execOzRdsr (doc : DocIx) (rd : R5) (sel : BitVec 4) (s : State) : Host.Outcome State Fault Refusal :=
  ozRun s (.ozRdsr doc rd sel) doc fun s => docResult s doc rd (BitVec.ofNat 64 (specialValue s doc sel.toNat))

/-! ### Descriptors and launches -/

/-- DLD: eight constant words to a slot; index + 8 is checked as a static bound (05 R151). -/
def ozDld (d slot ci : Nat) (s : State) : State :=
  docNext (s.updDoc d fun x =>
    { x with slots := x.slots.write (64 * slot) <|
        ((List.range 8).map fun i => leBytes 8 (x.consts.getD (ci + i) 0#64).toNat).flatten }) d

/-- DLD. -/
def execOzDld (doc : DocIx) (slot : BitVec 3) (cindex : W16) (s : State) : Host.Outcome State Fault Refusal :=
  ozRun s (.ozDld doc slot cindex) doc (ozDld doc slot.toNat cindex.toNat)

/-- DSET: one word of a slot. -/
def ozDset (d : Nat) (ra : R5) (slot word : Nat) (s : State) : State :=
  docNext (s.updDoc d fun x =>
    { x with slots := x.slots.write (64 * slot + 8 * word) (leBytes 8 (x.greg ra).toNat) }) d

/-- DSET. -/
def execOzDset (doc : DocIx) (ra : R5) (slot word : BitVec 3) (s : State) : Host.Outcome State Fault Refusal :=
  ozRun s (.ozDset doc ra slot word) doc (ozDset doc ra slot.toNat word.toNat)

/-- The descriptor in a slot. -/
def Docent.desc (x : Docent) (slot : Nat) : Bytes := x.slots.read (64 * slot) 64

/-- A launch that passes its checks: it stalls while the queue is full or 64 tickets are open, else it takes the next ticket and
joins the queue (05 R157). A unit out of service without a spare fails it with INTERNAL (08 R278, 12 R382). -/
def ozLaunch (d : Nat) (rd : R5) (eng : Engine) (desc : Bytes) (s : State) (after_ : State → Launch → State) : State :=
  let x := s.doc d
  match docReq s d with
  | none => s
  | some r =>
    if (queueAt s d eng).length ≥ queueDepth eng ∨ x.openT.length ≥ 64 then
      haltCheck (s.setDoc d { x with stall := .launch }) r.id
    else
      let t := nextTicket x.ticket
      let l0 : Launch :=
        { doc := Fin.ofNat 40 d, ticket := t, req := r.id, eng := eng, desc := desc, pcOff := wordOffset x.pc,
          after_ := launchAfter eng desc, tile := 0, byte_ := 0, halted := false, begun := false, rows := 0, flags := 0,
          dirty := false }
      let l : Launch := { l0 with dirty := afterDone s d l0.after_ && inputOpen s l0 }
      let s1 := s.setDoc d { (x.setG rd (t.setWidth 64)) with
        ticket := t, issued := x.issued + 1, openT := x.openT ++ [t], stall := .none }
      let s2 := docNext { s1 with launches := s1.launches ++ [l] } d
      let s3 := after_ s2 l
      match eng.unit with
      | some u => if (s.unit u).out then launchFail s3 l rINTERNAL (l.detail s3 0) else s3
      | none => s3

/-- A descriptor refusal (05 R160) with the DETAIL of the engine's chapter. -/
def ozRefuse (s : State) (d : Nat) (eng : Engine) (check : Nat × Byte) : State :=
  let x := s.doc d
  docFaultWith s d check.2 (wordOffset x.pc)
    (engDetail x.rank (docCell d) eng.pos check.1 (match eng with | .strm e => e % 8 | _ => 0))

/-- A checked launch: of the matrix unit, vector engine, reduction unit or stream engine. -/
def ozLaunchOn (d : Nat) (rd : R5) (slot : Nat) (eng : Engine) (check : Bytes → Nat → Docent → Option (Nat × Byte))
    (s : State) : State :=
  let x := s.doc d
  let scratch := match docReq s d with | some r => r.scratch | none => 0
  match check (x.desc slot) scratch x with
  | some c => ozRefuse s d eng c
  | none => ozLaunch d rd eng (x.desc slot) s fun s _ => s

def ozMmul (d : Nat) (rd : R5) (slot unit : Nat) (s : State) : State :=
  ozLaunchOn d rd slot (.mu (muOf s (docHalf s d) unit (docReduced s d))) (fun b n _ => mxCheck b n) s

/-- MMUL (08 R257). -/
def execOzMmul (doc : DocIx) (rd : R5) (slot unit : BitVec 3) (s : State) : Host.Outcome State Fault Refusal :=
  ozRun s (.ozMmul doc rd slot unit) doc (ozMmul doc rd slot.toNat unit.toNat)

/-- VEC (09 R293). -/
def execOzVec (doc : DocIx) (rd : R5) (slot unit : BitVec 3) (s : State) : Host.Outcome State Fault Refusal :=
  ozRun s (.ozVec doc rd slot unit) doc (ozLaunchOn doc rd slot.toNat (.ve (docCell doc)) veCheck)

/-- RED (09 R301). -/
def execOzRed (doc : DocIx) (rd : R5) (slot unit : BitVec 3) (s : State) : Host.Outcome State Fault Refusal :=
  ozRun s (.ozRed doc rd slot unit) doc (ozLaunchOn doc rd slot.toNat (.ru (docCell doc)) ruCheck)

/-- STRM (10 R316). -/
def execOzStrm (doc : DocIx) (rd : R5) (slot unit : BitVec 3) (s : State) : Host.Outcome State Fault Refusal :=
  ozRun s (.ozStrm doc rd slot unit) doc fun s => ozLaunchOn doc rd slot.toNat (.strm (docHalf s doc * 8 + unit.toNat)) strmCheck s

/-- GPEB (06 R186, R187, 13 R410). -/
def ozGpeb (d : Nat) (rd : R5) (slot : Nat) (s : State) : State :=
  let x := s.doc d
  match docReq s d with
  | none => s
  | some r =>
    let desc := x.desc slot
    let t := reqTable s r (gbTable desc)
    let late := r.outStarted && (match t with | some t => isStriped s t | none => false)
    let refuse (code : Byte) : State :=
      docFaultWith s d code (wordOffset x.pc) (gpeDetail none x.rank (gbTable desc))
    match gpeCheck desc r.scratch t r.cat with
    | some code => refuse code
    | none =>
      if late then refuse rPROGRAM_BOUNDS
      else
        ozLaunch d rd .gpe desc s fun s l =>
          match t with
          | some t => batchBegin s l r t
          | none => ticketDone (batchOutside s (docHalf s d) l r.wing) d l.ticket

/-- GPEB. -/
def execOzGpeb (doc : DocIx) (rd : R5) (slot unit : BitVec 3) (s : State) : Host.Outcome State Fault Refusal :=
  ozRun s (.ozGpeb doc rd slot unit) doc (ozGpeb doc rd slot.toNat)

/-! ### Tickets -/

/-- The ticket that a register names: none for ticket 0 and for one not issued within the last 32,768 launches (05 R160). -/
def ticketArg (x : Docent) (v : W64) : Option W16 :=
  let t : W16 := v.setWidth 16
  if v.toNat < 65536 ∧ ticketRecent x t then some t else none

/-- WAIT. -/
def ozWait (d : Nat) (ra : R5) (s : State) : State :=
  let x := s.doc d
  match ticketArg x (x.greg ra) with
  | none => docFault s d rPROGRAM_BOUNDS x.pc
  | some t =>
    let s1 := wake (s.setDoc d { x with stall := .wait t }) d
    match x.req with
    | some id => haltCheck s1 id
    | none => s1

/-- WAIT. -/
def execOzWait (doc : DocIx) (ra : R5) (s : State) : Host.Outcome State Fault Refusal :=
  ozRun s (.ozWait doc ra) doc (ozWait doc ra)

/-- WAITALL. -/
def ozWaitall (d : Nat) (s : State) : State :=
  let s1 := wake (s.updDoc d fun x => { x with stall := .waitall }) d
  match (s.doc d).req with
  | some id => haltCheck s1 id
  | none => s1

/-- WAITALL. -/
def execOzWaitall (doc : DocIx) (s : State) : Host.Outcome State Fault Refusal :=
  ozRun s (.ozWaitall doc) doc (ozWaitall doc)

/-- POLL: 1 if the ticket is complete. -/
def ozPoll (d : Nat) (rd ra : R5) (s : State) : State :=
  let x := s.doc d
  match ticketArg x (x.greg ra) with
  | none => docFault s d rPROGRAM_BOUNDS x.pc
  | some t => docResult s d rd (if x.ticketOpen t then 0 else 1)

/-- POLL. -/
def execOzPoll (doc : DocIx) (rd ra : R5) (s : State) : Host.Outcome State Fault Refusal :=
  ozRun s (.ozPoll doc rd ra) doc (ozPoll doc rd ra)

/-! ### Events of a docent -/

/-- DOCENT_LOAD_DONE: the program is in the instruction buffer and the docent begins to execute (05 R143). The buffer may hold an
uncorrectable error, and what the docent's SRAMs will answer later comes with it (05 R144). The kind 3 clock of a request whose
predecessor completed while it was still loading begins here (10 R330). -/
def docentLoadDone (s : State) (d : Nat) (sram : DocSram) : State :=
  let x := s.doc d
  match x.req with
  | none => s
  | some id =>
    if x.state ≠ .loading then s
    else match sram.load with
    | .bad g => quarantine (sramUE s (docCell d) stDocent g) (40 + d) stDocent
    | _ =>
      let s1 := sramSaw (s.setDoc d { x with state := .running, dogStart := s.now, intervalStart := s.now, upsets := sram.upsets })
        (docCell d) sram.load
      s1.updReq id fun r => { r with startTs := if r.startTs = 0 then s.now else r.startTs,
                                     dispTs := if r.lateClock then s.now else r.dispTs }

def execDocentLoadDone (doc : DocIx) (sram : DocSram) (s : State) : Host.Outcome State Fault Refusal :=
  .next (docentLoadDone s doc sram)

/-- DOCENT_FAULT_REPORT: the Curator aborts the request with the report that stands (05 R161, R164). -/
def docentFaultReport (s : State) (d : Nat) : State :=
  let x := s.doc d
  match x.fault, x.req with
  | some f, some id =>
    let all := (reqDocents s id).filterMap fun k =>
      (s.doc k).fault.map fun g => (g, (s.doc k).rank)
    let best := all.foldl (fun a b => if faultBefore b a then b else a) (f, x.rank)
    let s1 := settle s id best.1.code best.1.pc best.1.detail best.1.time
    let s2 := s1.updReq id fun r => { r with later := r.later + (all.length - 1) }
    retireAll (stopWork s2 id)
  | _, _ => s

def execDocentFaultReport (doc : DocIx) (s : State) : Host.Outcome State Fault Refusal := .next (docentFaultReport s doc)

/-- WATCHDOG_EXPIRY: SYNC_GAP_US has passed since the end of loading or the last SYNC, and the docent faults at the word it executes or
is stalled on (05 R163). While the request is halted its watchdogs do not count; a request that overlaps its predecessor is not
exempt. -/
def execWatchdogExpiry (doc : DocIx) (s : State) : Host.Outcome State Fault Refusal :=
  let x := s.doc doc
  .next (match x.req with
    | some id =>
      if decide (x.state = .running) && decide (x.stall ≠ .ended) && !x.stopped && !dogStopped s id then
        docFault s doc rWATCHDOG x.pc
      else s
    | none => s)

end Sys2Proof.Machine
end

