-- ==== Sys2Proof/Machine/Paging.lean ====
section
/-! DEFINITION. Translation commands (11 R356 to R367): TRANSLATION_SYNC, the host's answers to translation and page requests, and
device memory through BAR2. -/

namespace Sys2Proof.Machine

/-! ### TRANSLATION_SYNC -/

/-- The ranges of a TRANSLATION_SYNC payload: START and BYTES. -/
def syncRanges (p : Bytes) : List (Nat × Nat) :=
  (List.range (leAt p 4 2)).map fun i => (leAt p (8 + 16 * i) 8, leAt p (16 + 16 * i) 8)

/-- TRANSLATION_SYNC of the wing is in progress in some mailbox. -/
def syncRunning (s : State) (w : Byte) : Bool :=
  s.mbx.any fun m => match m.2.run with | some r => decide (r.op = 0x0301) && decide (r.wing = w) | none => false

/-- TRANSLATION_SYNC (11 R356 to R358). -/
def translationSync : Handler := fun s c =>
  let p := c.payload
  let w := c.wing.toNat
  let gen : W32 := BitVec.ofNat 32 (leAt p 0 4)
  let all := bit (leAt p 6 1) 0
  let rs := syncRanges p
  let cur := (s.wing w).tsyncGen
  checked s [
      badWing c,
      (decide (fld (leAt p 6 1) 1 7 ≠ 0) || !zeroAt p 7 1 || rs.any (fun r => decide (2 ^ 48 ≤ r.1)), rRESERVED_FIELD_SET),
      (all != rs.isEmpty, rRESERVED_VALUE),
      (rs.any (fun r => decide (r.1 % 65536 ≠ 0) || decide (r.2 % 65536 ≠ 0)), rADDR_ALIGN),
      (rs.any (fun r => decide (r.2 = 0) || decide (r.1 + r.2 > 2 ^ 48)), rADDR_RANGE),
      (decide (gen = 0), rRESERVED_VALUE),
      (decide (cur ≠ 0) && !epPrec cur gen, rNOT_PERMITTED),
      (syncRunning s c.wing, rBUSY)]
    fun s =>
      let hit (a n : Nat) : Bool := all || rs.any fun r => decide (r.1 < a + n) && decide (a < r.1 + r.2)
      let s1 := flushXlat s w hit
      let s2 := { s1 with images := s1.images.filter fun i => i.wing.val != w }
      (s2.updWing w fun x => { x with tsyncGen := gen }, .done rOK (leBytes 4 gen.toNat))

def execTranslationSync := scpExec 0x0301 translationSync

/-! ### ATS (11 R362, R363) -/

/-- A run of host addresses meets an invalidation: a global one names every address. -/
def invalHits (addr bytes : W64) (scope : AtsScope) (a n : Nat) : Bool :=
  scope.all || (decide (addr.toNat < a + n) && decide (a < addr.toNat + bytes.toNat))

/-- A prefetched HOST page of a wing falls to an invalidation of its host function and PASID. -/
def aheadHit (s : State) (fn : Fn) (addr bytes : W64) (scope : AtsScope) (x : TlbEntry) : Bool :=
  x.host && decide (s.hostFn x.wing = some fn.val) && decide (wingPasid s x.wing = scope.pasid.map (·.toNat)) &&
  invalHits addr bytes scope x.target x.size

/-- ATS_INVALIDATE: the matching entries of the PASID that the request carries, or of none, go from the ATS cache and from every prefetch
buffer; the completion follows (11 R362). `addr` and `bytes` are the range. -/
def atsInvalidate (s : State) (fn : Fn) (addr bytes : W64) (scope : AtsScope) : State :=
  if !s.alive || !s.dlActive then s
  else
    let hit (e : AtsEntry) : Bool :=
      e.fn == fn && decide (e.pasid = scope.pasid.map (·.toNat)) && invalHits addr bytes scope (e.page * 4096) 4096
    ({ s with ats := s.ats.filter (fun e => !hit e),
              ahead := keepAhead s.ahead fun x => !aheadHit s fn addr bytes scope x }).emit (.atsInvalidated fn)

def execAtsInvalidate (fn : Fn) (addr bytes : W64) (global : AtsScope) (s : State) : Host.Outcome State Fault Refusal :=
  .next (atsInvalidate s fn addr bytes global)

/-- Entries of the ATS cache (11 R362). -/
def atsCap : Nat := 16384

/-- The wing of a reader. -/
def readerWing (s : State) : HostReader → Option Nat
  | .queue q => wingOfQ (s.que q)
  | .image id => (s.findReq id).map (·.wing.val)
  | .strm e => (s.launches.find? fun l => l.eng == .strm e.val).bind fun l => (launchWing s l).map (·.val)
  | .update w _ => some w.val
  | .docent d => (docReq s d).map (·.wing.val)
  | .flow f => (s.flow f).owner.map (·.val)

/-- A submission ring's read fails: the queue enters ERROR (04 R118). A queue that is DRAINING meanwhile fetches nothing more and goes on
to DISABLED (04 R115), so the failed read changes nothing (DESIGN CHOICE, log entry 69). -/
def ringReadFails (s : State) (q : Nat) (code : Byte) : State :=
  let x := s.que q
  if x.state = .enabled ∨ x.state = .halted then s.setQue q { x with state := .error, reason := code, check := 0 } else s

/-- The halted stream of an engine. -/
def haltedAt (s : State) (e : Nat) : Option Launch := s.launches.find? fun l => decide (l.eng = .strm e) && l.halted

/-- The page at which an engine's halted stream waits is this one. -/
def waitsFor (s : State) (e page : Nat) : Bool :=
  match haltedAt s e with
  | some l => (match launchWing s l with | some w => decide (absentPage s e l w = some page) | none => false)
  | none => false

/-- The engine's halted stream belongs to a request that is to checkpoint: what its page request brings is discarded (10 R339). -/
def ckptStream (s : State) (e : Nat) : Bool :=
  match haltedAt s e with
  | some l => (match s.findReq l.req with | some r => r.ckptReq | none => false)
  | none => false

/-- A wait for a page ends with TRANSLATION_MISSING (11 R364). A prefetch fails nothing (11 R360). -/
def pageRefused (s : State) (page : Nat) : HostReader → State
  | .strm e =>
    if waitsFor s e page && !ckptStream s e then (match haltedAt s e with | some l => streamFail s l rTRANSLATION_MISSING | none => s)
    else s
  | .image id =>
    match s.findReq id with
    | some r => if r.phase = .validating then refuseImage s id rTRANSLATION_MISSING 0xFFFFFFFF else s
    | none => s
  | _ => s

/-- The page request of a reader for a page that is being translated again. -/
def againReq (s : State) (fn : Fn) (page : Nat) (who : HostReader) : Option PriReq :=
  s.priReqs.find? fun r => r.fn == fn && r.again && r.page.toNat / 4096 == page && decide (r.who = who)

/-- The host's answer reaches a reader that asked (11 R363, R364). A denied write of a queue is that of its completion ring, which asks
again; a denied read is one of its submission ring. -/
def atsAnswer (s : State) (fn : Fn) (page : Nat) (ok was write : Bool) (who : HostReader) : State :=
  let again := againReq s fn page who
  let s1 := { s with priReqs := s.priReqs.filter fun r => decide (some r ≠ again) }
  if ok then
    match who with
    | .strm e => if was && !ckptStream s e then streamResume s1 e else s1
    | _ => s1
  else
    match who, again with
    | .queue q, _ => if write then s1 else ringReadFails s1 q rTRANSLATION_MISSING
    | .update w c, _ => if (s1.cat (catKey w c)).state = .enabled then ringError s1 w c 0 rTRANSLATION_MISSING else s1
    | _, some r =>
      if r.tries + 1 ≥ 4 then priSend (pageRefused s1 page who)
      else
        match readerWing s1 who with
        | some w => priAsk s1 w fn (page * 4096) who (r.tries + 1)
        | none => s1
    | .strm _, none =>
      match readerWing s1 who with
      | some w => if wingPri s1 w then priAsk s1 w fn (page * 4096) who 0 else s1
      | none => s1
    | _, none => s1

/-- ATS_TRANSLATION_COMPLETION: the answer is held for the function, the PASID of the reader's wing and the 4 KiB page, and reaches every
reader that waits for it. `need`: the access needs to write. -/
def atsCompletion (s : State) (fn : Fn) (addr : AtsPage) (rd wr need : Bool) (who : HostReader) : State :=
  let page := addr.page.toNat / 4096
  if !(s.atsReqs.any fun r => r.1 == fn && r.2.1 == page) || !s.alive then s
  else
    let pasid := match readerWing s who with | some w => wingPasid s w | none => (fnHostWing s fn).bind (wingPasid s)
    let others := (s.priReqs.filter fun r => r.fn == fn && r.again && r.page.toNat / 4096 == page && decide (r.who ≠ who)).map (·.who)
    let was (x : HostReader) : Bool := match x with | .strm e => waitsFor s e page | _ => false
    let rest := s.ats.filter fun e => !(e.fn == fn && decide (e.pasid = pasid) && e.page == page)
    let rest' := if rest.length < atsCap then rest else rest.drop 1
    let s1 := { s with
      atsReqs := s.atsReqs.filter fun r => !(r.1 == fn && r.2.1 == page),
      ats := rest' ++ [{ fn := fn, pasid := pasid, page := page, dest := addr.dest.toNat / 4096, rd := rd, wr := wr }] }
    ((who :: others).map fun x => (x, was x)).foldl (fun s x => atsAnswer s fn page (if need then wr else rd) x.2 need x.1) s1

def execAtsTranslationCompletion (fn : Fn) (page : AtsPage) (rd wr need : Bool) (who : HostReader) (s : State) :
    Host.Outcome State Fault Refusal := .next (atsCompletion s fn page rd wr need who)

/-- HOST_ERROR_COMPLETION: a host read answered with an error, or with poisoned data (04 R118, 07 R226, 11 R363). -/
def hostError (s : State) (who : HostReader) (poisoned : Bool) : State :=
  let code := if poisoned then rUNCORRECTABLE_MEMORY else rTRANSLATION_MISSING
  match who with
  | .queue q => ringReadFails s q code
  | .image id =>
    match s.findReq id with
    | some r => if r.phase = .validating then refuseImage s id code 0xFFFFFFFF else s
    | none => s
  | .strm e =>
    match granted s (.strm e.val) with
    | some l => if stDir l.desc = 0 ∧ !l.halted then streamFail s l code else s
    | none => s
  | .update w c => if (s.cat (catKey w c)).state = .enabled then ringError s w c 0 code else s
  | .docent d =>
    match (s.doc d).stall with
    | .lda _ _ => docFault s d code (s.doc d).pc
    | _ => s
  | .flow _ => s

def execHostErrorCompletion (who : HostReader) (poisoned : Bool) (s : State) : Host.Outcome State Fault Refusal :=
  .next (hostError s who poisoned)

/-! ### Page requests (11 R364) -/

/-- A page request asks the host for the translation of a page again: its own, or the one its stream's position needs now. -/
def askAgain (s : State) (w : Nat) (r : PriReq) (page : Nat) : State :=
  let r' := { r with page := BitVec.ofNat 64 (page * 4096), again := true }
  atsAsk { s with priReqs := s.priReqs.map fun x => if x = r then r' else x } w r.who [page]

/-- The page is translated again: a request to the host for each reader that waits for it. A halted stream translates its position
again, under the tables as they are now (10 R339, 11 R370): it asks for the page that the position needs, unless another request of the
engine does, and where no page is absent it resumes. -/
def translateAgain (s : State) (r : PriReq) : State :=
  let page := r.page.toNat / 4096
  let drop := { s with priReqs := s.priReqs.filter (· != r) }
  match readerWing s r.who with
  | none => drop
  | some w =>
    match r.who with
    | .strm e =>
      match haltedAt s e with
      | none => askAgain s w r page
      | some l =>
        if ckptStream s e then drop
        else match (launchWing s l).bind (absentPage s e l) with
        | none => streamResume drop e
        | some p =>
          if drop.priReqs.any fun q => decide (q.who = r.who) && decide (q.page.toNat / 4096 = p) then askAgain s w r page
          else askAgain s w r p
    | _ => askAgain s w r page

/-- PRI_RESPONSE: 0 Success, 1 Invalid Request, 2 Response Failure. -/
def priResponse (s : State) (fn : Fn) (addr code : Nat) : State :=
  let page := addr / 4096
  let mine := s.priReqs.filter fun r => r.fn == fn && r.issued && !r.again && r.page.toNat / 4096 == page
  if mine.isEmpty then s
  else if code = 0 then priSend (mine.foldl translateAgain s)
  else if code = 1 then
    priSend (mine.foldl (fun s r => pageRefused s page r.who) { s with priReqs := s.priReqs.filter fun r => !mine.contains r })
  else
    let all := s.priReqs.filter fun r => r.fn == fn
    let s1 := { s with priReqs := s.priReqs.filter fun r => r.fn != fn }.updFnSt fn fun f => { f with priStopped := true }
    priSend (all.foldl (fun s r => pageRefused s (r.page.toNat / 4096) r.who) s1)

def execPriResponse (fn : Fn) (page : BitVec 48) (code : Fin 3) (s : State) : Host.Outcome State Fault Refusal :=
  .next (priResponse s fn page.toNat code)

/-- PRI_TIMEOUT: no response within XLT_PRI_TIMEOUT; a later one is discarded. -/
def priTimeout (s : State) (fn : Fn) (addr : Nat) : State :=
  priResponse s fn addr 1

def execPriTimeout (fn : Fn) (page : BitVec 48) (s : State) : Host.Outcome State Fault Refusal :=
  .next (priTimeout s fn page.toNat)

/-! ### BAR2 (11 R365 to R367) -/

/-- Where scratchpads begin, and where they end, in BAR2. -/
def bar2Sp : Nat := 0x6000000000
def bar2End : Nat := 0x6030000000

/-- The owner of what a BAR2 offset names, and whether it may be reached at all. -/
def bar2Target (s : State) (off : Nat) : Option WingIx × Bool :=
  if off < bar2Sp then ((s.ext (extOf off)).owner, !isExt47 (extOf off) && !inTableStorage s off)
  else ((s.half ((off - bar2Sp) / spSize)).owner, true)

/-- The function's wing, or for PF0 a platform-owner wing. -/
def bar2Mine (s : State) (fn : Fn) (w : WingIx) : Bool :=
  if fn = 0 then !(s.wing w).tenant else decide (s.fnWing fn = some w)

/-- Whom a violating access counts for: the wing that owns the target; no wing for a free unit, for extent 47, and for a
function bound to none (11 R366, 14 R436). -/
def bar2Victim (s : State) (fn : Fn) (off : Nat) : Option Nat :=
  if fn ≠ 0 ∧ (s.fnWing fn).isNone then none
  else if off < bar2Sp ∧ isExt47 (extOf off) then none
  else (bar2Target s off).1.map (·.val)

/-- A read that is answered. -/
def bar2Read (s : State) (fn : Fn) (off len : Nat) : State :=
  let zeros := List.replicate len 0#8
  if off < bar2Sp then
    if s.vlt.mode = .error then s
    else match dramRead s off len with
    | some b => s.emit (.bar2Return fn b false)
    | none => (dramReadFail s off len).emit (.bar2Return fn zeros true)
  else
    let h := (off - bar2Sp) / spSize
    let o := (off - bar2Sp) % spSize
    if spBadAt s h o len then (spReadError s h o).emit (.bar2Return fn zeros true)
    else s.emit (.bar2Return fn (spRead s h o len) false)

/-- A write that reaches its target. One that waits for the key of a rollover holds back the function's later reads and register
writes (11 R347, R367). -/
def bar2Write (s : State) (fn : Fn) (off : Nat) (data : Bytes) : State :=
  if off < bar2Sp then
    if s.vlt.mode = .error then s
    else
      let s1 := dramWrite s off data
      { s1 with bar2Waits := s1.bar2Waits ++ ((s1.lineWaits.drop s.lineWaits.length).map fun w => (fn, extOf w.1)) }
  else spWrite s ((off - bar2Sp) / spSize) ((off - bar2Sp) % spSize) data none

/-- The function's TDI takes only T-bit requests of its stream (15 R480). -/
def teeOnly (s : State) (fn : Fn) : Bool := decide ((s.tdi fn).state = .run)

/-- An access to a function's BAR2. It lies within one 4 KiB block, as a PCIe request does. A read has no effect yet while an earlier
write of the function waits (11 R367). -/
def bar2Access (s : State) (fn : Fn) (write : Bool) (off len : Nat) (data : Bytes) (tee : Bool) : State :=
  let n := min len (4096 - off % 4096)
  let zeros := List.replicate n 0#8
  if !s.alive || !s.dlActive || (!write && portHeld s fn) then s
  else if !memOpen s fn then (if write then s else s.emit (.unsupported fn))
  else if teeOnly s fn && !tee then
    let s1 := match s.fnWing fn with | some w => s.updWing w fun x => { x with nonTee := satInc x.nonTee } | none => s
    if write then s1 else s1.emit (.unsupported fn)
  else if bar2End ≤ off then (if write then s else s.emit (.bar2Return fn zeros false))
  else
    let t := bar2Target s off
    if t.2 && (match t.1 with | some w => bar2Mine s fn w | none => false) then
      (if write then bar2Write s fn off (fitTo n data) else bar2Read s fn off n)
    else
      let s1 := violate s (bar2Victim s fn off) 0
      if write then s1 else s1.emit (.bar2Return fn zeros false)

def execBar2Access (fn : Fn) (write : Bool) (off : BitVec 39) (len : Fin 65) (data : Bytes) (tee : Bool) (s : State) :
    Host.Outcome State Fault Refusal := .next (bar2Access s fn write off.toNat len data tee)

end Sys2Proof.Machine
end

