-- ==== Sys2Proof/Machine/HostPort.lean ====
section
/-! DEFINITION. The host port (14 R433 to R449): its move, the loss and return of its link, configuration writes, MSI-X entries, and
what the DOE answers by itself. -/

namespace Sys2Proof.Machine

/-- Changes the host port's state. -/
def State.updPcie (s : State) (f : Pcie → Pcie) : State := { s with pcie := f s.pcie }

/-! ### Held writes and interrupts (14 R444, R449) -/

/-- The reads that replies wait for follow their completions, which the hub held (04 R136). -/
def heldReads (s : State) : List Out :=
  s.queues.flatMap fun q => (q.2.awaitRead.filter fun x => stillHeld s x.2.2).map fun _ => .replyRead (Fin.ofNat 4096 q.1)

/-- The held writes are issued, in order, before any later traffic. -/
def issueHeld (s : State) : State :=
  { s with out := s.out ++ s.pcie.held.map (fun h => Out.hostWrite h.fn h.addr h.data h.tag) ++ heldReads s,
           pcie := { s.pcie with held := [] } }

/-- A pending vector that is no longer masked sends its one message. -/
def msixFlush (s : State) (fn : Fn) (vec : Nat) : State :=
  let e := s.msixEnt (msixKey fn vec)
  let f := s.fnSt fn
  if e.pend && !e.mask && f.msixEn && !f.fnMask && s.fnEnabled fn then
    msixSend (s.setMsixEnt (msixKey fn vec) { e with pend := false }) fn e
  else s

/-- All pending vectors of a function. -/
def msixFlushAll (s : State) (fn : Fn) : State :=
  ((s.msix.filter fun e => e.1 / 2048 == fn.val && e.2.pend).map fun e => e.1 % 2048).foldl (fun s v => msixFlush s fn v) s

/-- The mask bit of an entry is written. -/
def msixMask (s : State) (fn : Fn) (vec : Nat) (m : Bool) : State :=
  msixFlush (s.updMsixEnt (msixKey fn vec) fun e => { e with mask := m }) fn vec

/-- MSIX_UNMASK: the Vector Control word of an entry is written 0. -/
def execMsixUnmask (fn : Fn) (vec : Fin 2048) (s : State) : Host.Outcome State Fault Refusal :=
  .next (if regOpen s fn then msixMask s fn vec false else s)

/-! ### Configuration space (14 R435, R446) -/

/-- A function's configuration space at the active port. -/
def cfgOf (f : FnSt) : CfgSpace :=
  { memSpace := f.memSpace, busMaster := f.busMaster, ats := f.ats, pasid := f.pasid, pri := f.pri, msixEn := f.msixEn,
    fnMask := f.fnMask }

/-- Puts a configuration space in force. Enabling PRI ends the stop that a Response Failure made (11 R364). -/
def cfgPut (c : CfgSpace) (f : FnSt) : FnSt :=
  { f with memSpace := c.memSpace, busMaster := c.busMaster, ats := c.ats, pasid := c.pasid, pri := c.pri, msixEn := c.msixEn,
           fnMask := c.fnMask, priStopped := f.priStopped && !(c.pri && !f.pri) }

/-- One field of a configuration space. -/
def cfgField (c : CfgSpace) (field : PcieField) (v : Bool) : CfgSpace :=
  match field with
  | .memSpace => { c with memSpace := v }
  | .busMaster => { c with busMaster := v }
  | .ats => { c with ats := v }
  | .pasid => { c with pasid := v }
  | .pri => { c with pri := v }
  | .msixEnable => { c with msixEn := v }
  | .functionMask => { c with fnMask := v }
  | _ => c

/-- A configuration write through the active port. The SR-IOV fields are PF0's; NumVFs changes only while VF Enable is clear
(PRESUMED, log entry 16). -/
def cfgWriteActive (s : State) (fn : Fn) (field : PcieField) (val : W16) : State :=
  let v := bit val.toNat 0
  match field with
  | .vfEnable => if fn = 0 then s.updPcie fun p => { p with vfEnable := v } else s
  | .vfMse => if fn = 0 then s.updPcie fun p => { p with vfMse := v } else s
  | .numVfs => if fn = 0 ∧ !s.pcie.vfEnable ∧ val.toNat ≤ 255 then s.updPcie fun p => { p with numVfs := val } else s
  | _ =>
    let s1 := s.updFnSt fn fun f => cfgPut (cfgField (cfgOf f) field v) f
    let s2 := if (s1.fnSt fn).ats then s1 else { s1 with ats := s1.ats.filter fun e => e.fn != fn }
    msixFlushAll s2 fn

def State.standbyCfg (s : State) (fn : Nat) : CfgSpace := Tbl.get CfgSpace.init s.pcie.standby fn

/-- A configuration write through the standby port. -/
def cfgWriteStandby (s : State) (fn : Fn) (field : PcieField) (val : W16) : State :=
  let v := bit val.toNat 0
  match field with
  | .vfEnable => if fn = 0 then s.updPcie fun p => { p with standbyVfEnable := v } else s
  | .vfMse => if fn = 0 then s.updPcie fun p => { p with standbyVfMse := v } else s
  | .numVfs => if fn = 0 ∧ !s.pcie.standbyVfEnable ∧ val.toNat ≤ 255 then s.updPcie fun p => { p with standbyNumVfs := val } else s
  | _ => s.updPcie fun p =>
      { p with standby := Tbl.set CfgSpace.init p.standby fn (cfgField (s.standbyCfg fn) field v) }

/-- The link of a hub's port is in DL_Active. -/
def portActive (s : State) (h : Hub) : Bool := if h = 0 then s.pcie.dlActive0 else s.pcie.dlActive1

/-- PCIE_CONFIG_WRITE. A VF has a configuration space only while its port enables it. -/
def pcieConfigWrite (s : State) (fn : Fn) (port : Hub) (field : PcieField) (val : W16) : State :=
  if !s.alive || !portActive s port then s
  else if port = s.pcie.activeHub then (if s.fnEnabled fn then cfgWriteActive s fn field val else s)
  else if fn = 0 ∨ (s.pcie.standbyVfEnable ∧ fn.val ≤ s.pcie.standbyNumVfs.toNat) then cfgWriteStandby s fn field val
  else s

def execPcieConfigWrite (fn : Fn) (port : Hub) (field : PcieField) (val : W16) (s : State) : Host.Outcome State Fault Refusal :=
  .next (pcieConfigWrite s fn port field val)

/-! ### The move (14 R447, R448) -/

/-- A port's link state changes. -/
def setPortActive (s : State) (h : Hub) (v : Bool) : State :=
  s.updPcie fun p => if h = 0 then { p with dlActive0 := v } else { p with dlActive1 := v }

/-- Lent requests that run are to checkpoint; the others run to their end (02 R51). -/
def drainRunning (s : State) : State :=
  { s with reqs := s.reqs.map fun r =>
      if r.dispatched ∧ !r.isDone ∧ r.phase ≠ .suspended ∧ (s.wing r.wing).lent then { r with ckptReq := true } else r }

/-- HOST_PORT_MOVE: its checks, then steps 1 and 2 begin. Every TDI in CONFIG_LOCKED or RUN enters ERROR (15 R481). -/
def hostPortMove : Handler := fun s c =>
  let p := c.payload
  let t := Fin.ofNat 2 (leAt p 0 1)
  checked s [
      noWing c, (!zeroAt p 1 3, rRESERVED_FIELD_SET), (decide (leAt p 0 1 > 1), rRESERVED_VALUE),
      (decide (t = s.pcie.activeHub), rNOT_PERMITTED),
      (!portActive s t || !(s.standbyCfg 0).memSpace || !(s.standbyCfg 0).busMaster, rRES_UNAVAILABLE), (longFull s, rBUSY)]
    fun s =>
      let s1 := (List.range 16).foldl (fun s w => tdiTrip s w c.fn) s
      (drainRunning (s1.updPcie fun q => { q with moving := true, moveBy := some (c.fn, c.hub, t) }), .pend false [])

def execHostPortMove := scpExec 0x0A02 hostPortMove

/-- The move ends without effect, as the target has left DL_Active (19 R587). The code is that of check 4 (DESIGN CHOICE, log entry 29). -/
def moveFails (s : State) : State :=
  match s.pcie.moveBy with
  | some m => runFinish (s.updPcie fun p => { p with moving := false, moveBy := none }) m.1 m.2.1 rRES_UNAVAILABLE []
  | none => s

/-- Every running request is complete, checkpointed or aborted. -/
def moveDrained (s : State) : Bool :=
  s.reqs.all (fun r => !r.dispatched || r.isDone || decide (r.phase = .suspended)) && s.dups.isEmpty

/-- Step 5: the configuration at the target port comes into force, and the old one is the standby port's. -/
def switchPort (s : State) (t : Hub) : State :=
  let old := s.pcie
  let fns := (List.range 256).foldl (fun fs k =>
    Tbl.set FnSt.init fs k (cfgPut (s.standbyCfg k) (Tbl.get FnSt.init fs k))) s.fns
  let standby := s.fns.foldl (fun t e => Tbl.set CfgSpace.init t e.1 (cfgOf e.2)) []
  { s with
    fns := fns,
    pcie := { old with
      vfEnable := old.standbyVfEnable, vfMse := old.standbyVfMse, numVfs := old.standbyNumVfs, standby := standby,
      standbyVfEnable := old.vfEnable, standbyVfMse := old.vfMse, standbyNumVfs := old.numVfs, activeHub := t, moving := false,
      moveBy := none } }

/-- Step 6: a page request that was withdrawn is issued on the target port; without PRI there, it fails. -/
def reissuePri (s : State) (r : PriReq) : State :=
  match readerWing s r.who with
  | none => s
  | some w =>
    if priEnabled s r.fn then priAsk s w r.fn r.page.toNat r.who r.tries
    else pageRefused s (r.page.toNat / 4096) r.who

/-- HOST_PORT_MOVE_DRAINED: steps 3 to 6. -/
def hostPortMoved (s : State) : State :=
  match s.pcie.moveBy with
  | none => s
  | some (fn, hub, t) =>
    if !s.pcie.moving || !moveDrained s then s
    else
      match running s fn hub 0x0A02 with
      | none => s
      | some r =>
        let waiting := s.priReqs
        let s1 := if s.dlActive then issueHeld s else s
        let s2 := { s1 with priReqs := [], ats := [], atsReqs := [] }
        let s3 := switchPort s2 t
        let s4 := scpCommit s3 (r.cmd fn hub)
        let s5 := waiting.foldl reissuePri (issueHeld s4)
        ventPump (runFinish s5 fn hub rOK [])

def execHostPortMoveDrained (s : State) : Host.Outcome State Fault Refusal := .next (hostPortMoved s)

/-- STANDBY_PORT_RESET: only that port's link and configuration space (14 R446); a move to it ends (19 R587). -/
def standbyReset (s : State) : State :=
  let o : Hub := if s.pcie.activeHub = 0 then 1 else 0
  let s1 := (setPortActive s o false).updPcie fun p =>
    { p with standby := [], standbyVfEnable := false, standbyVfMse := false, standbyNumVfs := 0 }
  if s1.pcie.moving then moveFails s1 else s1

def execStandbyPortReset (s : State) : Host.Outcome State Fault Refusal := .next (standbyReset s)

/-! ### Loss and return of the link (14 R449) -/

/-- HOST_LINK_DOWN of a port. The active one's loss raises an alarm; the target's ends a move. -/
def hostLinkDown (s : State) (port : Hub) : State :=
  if !portActive s port then s
  else
    let s1 := setPortActive s port false
    if port = s.pcie.activeHub then
      alarm s1 0x0501 0xFF (16 + port) port ((s.pcie.held.map fun h => h.data.length).sum) 0 0
    else if s1.pcie.moving then moveFails s1 else s1

def execHostLinkDown (port : Hub) (s : State) : Host.Outcome State Fault Refusal := .next (hostLinkDown s port)

/-- HOST_LINK_UP: at the active port, the held writes go first, then the vents. -/
def hostLinkUp (s : State) (port : Hub) : State :=
  let s1 := setPortActive s port true
  if port = s.pcie.activeHub then ventPump (issueHeld s1) else s1

def execHostLinkUp (port : Hub) (s : State) : Host.Outcome State Fault Refusal := .next (hostLinkUp s port)

/-! ### DOE (14 R445) -/

/-- A function's DOE instance takes objects: the part and the port are up, the function takes part, and DOE Error is clear
(PRESUMED, log entry 16). -/
def doeOpen (s : State) (fn : Fn) : Bool := s.alive && s.dlActive && s.fnEnabled fn && !(s.fnSt fn).doeError

/-- A response object: it is held until the next one, or an abort. -/
def doeAnswer (s : State) (fn : Fn) (data : Bytes) : State :=
  (s.updFnSt fn fun f => { f with doeRsp := data }).emit (.doe fn data)

/-- The DOE Discovery response (PRESUMED, log entry 16): vendor 0x0001, the protocol of the index, and the next index. -/
def doeDiscovery (s : State) (fn : Fn) (index : Byte) : State :=
  if !doeOpen s fn then s
  else
    let i := index.toNat
    let entry : Bytes := if i ≤ 2 then leBytes 2 1 ++ [index, if i < 2 then index + 1 else 0#8] else leBytes 2 0xFFFF ++ [0xFF#8, 0#8]
    doeAnswer s fn (leBytes 4 1 ++ leBytes 4 3 ++ entry)

def execDoeDiscovery (fn : Fn) (index : Byte) (s : State) : Host.Outcome State Fault Refusal := .next (doeDiscovery s fn index)

/-- DOE_ABORT. -/
def execDoeAbort (fn : Fn) (s : State) : Host.Outcome State Fault Refusal :=
  .next (if s.alive && s.dlActive && s.fnEnabled fn then s.updFnSt fn fun f => { f with doeError := false, doeRsp := [] } else s)

/-- DOE_UNSUPPORTED_OBJECT: another protocol, or an oversized object. -/
def execDoeUnsupportedObject (fn : Fn) (s : State) : Host.Outcome State Fault Refusal :=
  .next (if doeOpen s fn then s.updFnSt fn fun f => { f with doeError := true } else s)

end Sys2Proof.Machine
end

