-- ==== Sys2Proof/Machine/Network.lean ====
section
/-! DEFINITION. The Ethernet ports and RoCE flows (14 R450 to R459). -/

namespace Sys2Proof.Machine

/-! ### Flows (14 R453 to R458) -/

def flPmtu (f : Flow) : Nat := fld f.cfg.toNat 30 2
def flPort (f : Flow) : Nat := fld f.cfg.toNat 4 1
def flSlotsLog (f : Flow) : Nat := fld f.slotCfg.toNat 28 3
def flSlotUnits (f : Flow) : Nat := fld f.slotCfg.toNat 14 14
def flReplyUnits (f : Flow) : Nat := fld f.slotCfg.toNat 0 11

/-- The local QPN of a flow (14 R453). -/
def flowQpn (f : Nat) : Nat := 0x1000 + f

/-- The flow of a wing with a wing-relative index. -/
def flowByRel (s : State) (w i : Nat) : Option Nat := (s.wingFlows w).find? fun f => decide ((s.flow f).wfi = i)

/-- The flow that a function's NET_FLOW_SEL names: a VF reaches those of its network-owning wing; PF0, by device index, those of
no tenant wing. Else whom the violation counts for: it is of kind 1, as an access to a block, also where NET_FLOW_SEL names a flow
of another wing, since kind 5 is given for posts (02 R62, R63, 14 R438; DESIGN CHOICE, log entry 70). -/
def flowSlot (s : State) (fn : Fn) : Except (Option Nat) Nat :=
  let i := (s.fnSt fn).netSel.toNat
  if fn = 0 then
    match (s.flow i).owner with
    | some w => if (s.wing w).tenant then .error (some w.val) else .ok i
    | none => .ok i
  else match s.fnWing fn with
  | none => .error none
  | some w => if (s.wing w).netOwning then (match flowByRel s w i with | some f => .ok f | none => .error (some w.val)) else .error (some w.val)

/-- A NET register acts on the selected flow. -/
def flowReg (s : State) (fn : Fn) (f : Nat → State → State) : State :=
  if !regOpen s fn then s
  else match flowSlot s fn with
  | .ok k => f k s
  | .error w => violate s w 1

/-- The functions of a wing (14 R456): its VFs, and PF0 for a platform-owner wing (DESIGN CHOICE, log entry 29). -/
def wingFns (s : State) (w : Nat) : List Fn :=
  (if (s.wing w).tenant then [] else [0]) ++ (s.wingVfs w).map (Fin.ofNat 256)

/-- NET_VECTOR is raised for the functions of a wing. -/
def netVector (s : State) (w : Nat) : State :=
  (wingFns s w).foldl (fun s fn => msixRaise s fn (s.fnSt fn).netVector.toNat) s

/-- What a flow that leaves service drops: its slots, and the replies owed. Entries already accepted still complete (14 R456, R458). -/
def flowDrop (s : State) (f : FlowIx) : State :=
  let s1 := s.updFlow f fun x => { x with slots := [] }
  let s2 := { s1 with reqs := s1.reqs.map fun (r : Req) => if (r.flow.map fun (x : FlowIx × Nat) => x.1) = some f then { r with replySup := true } else r }
  ((s2.queues.filter fun (q : Nat × Que) => q.2.awaitRead.any fun a => a.1 == f).map (·.1)).foldl (fun s q =>
    s.updQue q fun x => { x with awaitRead := x.awaitRead.filter fun a => a.1 != f }) s2

/-- The flow stops in ERROR with a reason (14 R456). -/
def flowStop (s : State) (f : FlowIx) (reason : Byte) : State :=
  let s1 := (flowDrop s f).updFlow f fun x => { x with state := .error, reason := reason }
  match (s.flow f).owner with
  | some w => netVector s1 w
  | none => s1

/-- A refused transition: STATE stays, REASON is set. -/
def flowRefuse (s : State) (f : Nat) (code : Byte) : State := s.updFlow f fun x => { x with reason := code }

/-- The queue that a flow feeds is bound to its wing with SOURCE 1 (14 R454, R458). -/
def flowQueue (s : State) (x : Flow) : Option Nat :=
  match x.owner with
  | none => none
  | some w =>
    (queByRel s w x.queue.toNat).bind fun q =>
      let y := s.que q
      if qNet (if y.state = .disabled then y.regs else y.run) then some q else none

/-- The checks of INIT → RTR. -/
def flowRtrChecks (x : Flow) : Option Byte :=
  firstFail [
    (decide (flPmtu x = 3 ∨ flSlotsLog x > 6 ∨ flSlotUnits x = 0 ∨ flSlotUnits x > 1024), rRESERVED_VALUE),
    (decide (flReplyUnits x > flSlotUnits x), rSHAPE_INVALID), (decide (x.slotBase.toNat % 4096 ≠ 0), rADDR_ALIGN),
    (decide (x.dgid = 0 ∨ fld x.l2.toNat 0 48 = 0 ∨ x.destQpn = 0), rRESERVED_VALUE)]

/-- A requested transition to a state, for the rows of R458. -/
def flowModify (s : State) (fn : Fn) (goal : FlowPhase) : State :=
  flowReg s fn fun k s =>
    let f := Fin.ofNat 16384 k
    let x := s.flow k
    match goal, x.state with
    | .reset, _ => (flowDrop s f).updFlow f fun y => { y with state := .reset }
    | .error, _ => (flowDrop s f).updFlow f fun y => { y with state := .error }
    | .init, .reset => if (flowQueue s x).isSome then s.setFlow k { x with state := .init } else flowRefuse s k rADDR_RANGE
    | .rtr, .init =>
      match flowRtrChecks x with
      | some c => flowRefuse s k c
      | none => s.setFlow k { x with state := .rtr, rate := 800000000000, lastCut := none, lastCnp := none }
    | .rts, .rtr => s.setFlow k { x with state := .rts }
    | _, _ => flowRefuse s k rNOT_PERMITTED

/-- FLOW_MODIFY_INIT. -/
def execFlowModifyInit (fn : Fn) (s : State) : Host.Outcome State Fault Refusal := .next (flowModify s fn .init)
/-- FLOW_MODIFY_RTR. -/
def execFlowModifyRtr (fn : Fn) (s : State) : Host.Outcome State Fault Refusal := .next (flowModify s fn .rtr)
/-- FLOW_MODIFY_RTS. -/
def execFlowModifyRts (fn : Fn) (s : State) : Host.Outcome State Fault Refusal := .next (flowModify s fn .rts)
/-- FLOW_MODIFY_RESET. -/
def execFlowModifyReset (fn : Fn) (s : State) : Host.Outcome State Fault Refusal := .next (flowModify s fn .reset)
/-- FLOW_MODIFY_ERROR: accepted entries still complete, but their replies are not posted (14 R456). -/
def execFlowModifyError (fn : Fn) (s : State) : Host.Outcome State Fault Refusal :=
  .next (flowModify s fn .error)

/-! ### Congestion (14 R452) -/

/-- A packet marked CE: a CNP goes to the sender's flow, at most one per flow per 50 µs. -/
def ceMark (s : State) (f : FlowIx) (ce : Bool) : State :=
  let x := s.flow f
  let due := match x.lastCnp with | some t => decide (s.now - t ≥ 50000) | none => true
  if ce && due then (s.updFlow f fun y => { y with lastCnp := some s.now }).emit (.net f .cnp []) else s

/-- The flow is connected: packets reach it. -/
def flowOn (s : State) (f : Nat) : Bool :=
  s.alive && (s.eth (flPort (s.flow f))).linkUp && decide ((s.flow f).state = .rtr ∨ (s.flow f).state = .rts)

/-- CNP_RECEIVE: the rate is halved, unless it was cut in the last 50 µs. -/
def cnpReceive (s : State) (f : FlowIx) : State :=
  let x := s.flow f
  let due := match x.lastCut with | some t => decide (s.now - t ≥ 50000) | none => true
  if flowOn s f && due then s.setFlow f { x with rate := max 1000000000 (x.rate / 2), lastCut := some s.now } else s

def execCnpReceive (flow : FlowIx) (s : State) : Host.Outcome State Fault Refusal := .next (cnpReceive s flow)

/-- RATE_INCREASE_TIMER: 100 µs without a CNP. -/
def execRateIncreaseTimer (flow : FlowIx) (s : State) : Host.Outcome State Fault Refusal :=
  .next (if flowOn s flow then s.updFlow flow fun x => { x with rate := min 800000000000 (x.rate + 40000000000) } else s)

/-! ### Messages (14 R453 to R456) -/

/-- Bytes 64 onward of a message are written to its slot; a run that has no place to go is lost (DESIGN CHOICE, log entry 29). True while the host
has not answered a translation. -/
def slotFill (s : State) (w : WingIx) (f : FlowIx) (va : Nat) (data : Bytes) : State × Bool :=
  (chunksOf va data.length).foldl (fun (x : State × Bool) c =>
    if x.2 then x
    else
      let r := chunkWrite x.1 w (.flow f) c.1 (slice data (c.1 - va) c.2)
      match r.2 with
      | .waits => (r.1, true)
      | _ => (r.1, false)) (s, false)

/-- ROCE_SEND_RECEIVE (14 R454). -/
def roceSend (s : State) (f : FlowIx) (ce : Bool) (data : Bytes) (hm : HostMem) : State :=
  if !flowOn s f then s
  else
    let s := ceMark s f ce
    let x := s.flow f
    let rnr (s : State) : State := s.emit (.net f .rnrNak [])
    match x.owner, flowQueue s x with
    | some w, some q =>
      if !takesEntries s q || heldUnit s ukFlow f then rnr s
      else if data.length < 64 ∨ data.length > 64 + slotBytes x then
        flowStop (s.emit (.net f .nakInvalid [])) f rADDR_RANGE
      else
        let seq := leAt data 8 8
        let slot := seq % slotCount x
        if x.slots.any fun t => t.1 == slot then rnr s
        else
          let r := slotFill s w f (x.slotBase.toNat + slot * slotBytes x) (data.drop 64)
          if r.2 then rnr r.1
          else
            let s1 := r.1.updFlow f fun y => { y with slots := y.slots ++ [(slot, BitVec.ofNat 64 seq, none)] }
            (entryArrives s1 (Fin.ofNat 4096 q) w (data.take 64) (some (f, slot)) hm).emit (.net f .ack [])
    | _, _ => rnr s

def execRoceSendReceive (flow : FlowIx) (ce : Bool) (data : Bytes) (hm : HostMem) (s : State) :
    Host.Outcome State Fault Refusal := .next (roceSend s flow ce data hm)

/-- ROCE_ACK_RECEIVE: the client acknowledges the reply to a SEQ; its slot is released (14 R455). -/
def execRoceAckReceive (flow : FlowIx) (seq : W64) (s : State) : Host.Outcome State Fault Refusal :=
  .next (if flowOn s flow then
      s.updFlow flow fun x => { x with slots := x.slots.filter fun t => !(t.2.1 == seq && t.2.2.isSome) }
    else s)

/-- ROCE_RETRY_TIMEOUT: the flow's retries or RNR retries are exhausted (14 R456). -/
def execRoceRetryTimeout (flow : FlowIx) (s : State) : Host.Outcome State Fault Refusal :=
  .next (if s.alive ∧ (s.flow flow).state = .rts then flowStop s flow rBUSY else s)

/-! ### Frames (14 R450, R451) -/

/-- A dropped frame is counted. -/
def frameDrop (s : State) (port : Nat) : State := s.updEth port fun e => { e with drops := satInc e.drops }

/-- Buffer limits per priority: size, XOFF and XON. -/
def rxSize : Nat := 2097152
def rxXoff : Nat := 1572864
def rxXon : Nat := 1048576

/-- A priority's buffer has given up `free` bytes: XON once it holds less than 1 MiB. -/
def rxFree (s : State) (port : Fin 2) (prio free : Nat) : State :=
  let e := s.eth port
  let n := Tbl.get 0 e.rx prio - free
  let s1 := s.setEth port { e with rx := Tbl.set 0 e.rx prio n }
  if e.xoff.contains prio ∧ n < rxXon then
    (s1.updEth port fun e => { e with xoff := e.xoff.filter (· != prio) }).emit (.eth port .xon prio)
  else s1

/-- A frame takes its place in the buffer; none where there is no room. XOFF once the buffer holds 1.5 MiB, on an enabled priority. -/
def rxTake (s : State) (port : Fin 2) (prio len : Nat) : Option State :=
  let e := s.eth port
  let n := Tbl.get 0 e.rx prio + len
  if n > rxSize then none
  else
    let s1 := s.setEth port { e with rx := Tbl.set 0 e.rx prio n }
    some (if bit e.pfc.toNat prio ∧ n ≥ rxXoff ∧ !e.xoff.contains prio then
        (s1.updEth port fun e => { e with xoff := e.xoff ++ [prio] }).emit (.eth port .xoff prio)
      else s1)

/-- The witness's port: a witness is configured and NET_PORT names it. -/
def witnessPort (s : State) (port : Fin 2) : Bool := hasWitness s.par && decide (b2n s.par.netPort = port.val)

/-- An address that the port answers for (14 R450). The first octet on the wire is the top byte of NET_PORT_IP, and byte 0 of
LOCAL_IP (00 R7). -/
def answersFor (s : State) (port : Fin 2) (ip : BitVec 128) : Bool :=
  decide ((s.eth port).ip = ip) || (witnessPort s port && decide (fromBE s.par.localIp = ip.toNat))

/-- A big-endian number of a datagram. -/
def beAt (b : Bytes) (off n : Nat) : Nat := fromBE (slice b off n)

/-- A datagram from the witness (13 R416): a GRANT, a REFUSE, or one that is dropped and counted. -/
def witnessDatagram (s : State) (b : Bytes) : State :=
  let term : W32 := BitVec.ofNat 32 (beAt b 12 4)
  let nonce : W64 := BitVec.ofNat 64 (leAt b 16 8)
  let macOk := match s.par.pk with
    | some pk => decide ((hmac384 pk (slice b 0 48)).take 16 = slice b 48 16)
    | none => false
  if b.length ≠ 64 ∨ slice b 0 4 ≠ [0x52#8, 0x4E#8, 0x57#8, 0x54#8] ∨ leAt b 4 1 / 16 ≠ 1 ∨ beAt b 8 4 ≠ s.par.pairId.toNat then
    witnessDrop s
  else if leAt b 5 1 = 2 then witnessGrant s term nonce macOk
  else if leAt b 5 1 = 3 then witnessRefuse s term nonce macOk
  else witnessDrop s

/-- A RoCE operation that no flow supports (14 R453). -/
def roceBad (s : State) (port : Fin 2) (qpn : Nat) (ce : Bool) : State :=
  let f := Fin.ofNat 16384 (qpn - 0x1000)
  if qpn < 0x1000 ∨ qpn ≥ 0x1000 + 16384 ∨ !flowOn s f ∨ flPort (s.flow f) ≠ port.val then frameDrop s port
  else flowStop ((ceMark s f ce).emit (.net f .nakInvalid [])) f rADDR_RANGE

/-- ETH_FRAME_RECEIVE. -/
def ethFrame (s : State) (port : Fin 2) (x : EthFrame) : State :=
  if !s.alive || !(s.eth port).linkUp then s
  else
    let s1 := rxFree s port x.prio x.free
    let take (f : State → State) : State :=
      match rxTake s1 port x.prio x.len with
      | some s2 => f s2
      | none => frameDrop s1 port
    if x.len > 9216 then frameDrop s1 port
    else match x.body with
    | .arp ip => if answersFor s1 port ip then take fun s => s.emit (.eth port .arpReply ip.toNat) else frameDrop s1 port
    | .neighborSolicit ip =>
      if answersFor s1 port ip then take fun s => s.emit (.eth port .neighborAdvert ip.toNat) else frameDrop s1 port
    | .pause prio xoff => s1.updEth port fun e =>
        { e with paused := if xoff then (if e.paused.contains prio then e.paused else e.paused ++ [prio.val])
                           else e.paused.filter (· != prio.val) }
    | .roceOther qpn ce => take fun s => roceBad s port qpn.toNat ce
    | .witness b => if witnessPort s1 port then take fun s => witnessDatagram s b else frameDrop s1 port
    | .other => frameDrop s1 port

def execEthFrameReceive (port : Fin 2) (frame : EthFrame) (s : State) : Host.Outcome State Fault Refusal :=
  .next (ethFrame s port frame)

/-- ETH_PCS_LOCK_CHANGE (14 R457). -/
def execEthPcsLockChange (port : Fin 2) (up : Bool) (s : State) : Host.Outcome State Fault Refusal :=
  .next (if s.alive then s.updEth port fun e => { e with linkUp := up } else s)

end Sys2Proof.Machine
end

