-- ==== Sys2Proof/Machine/Vault.lean ====
section
/-! DEFINITION. The Vault's key state and what ends it: roles, TDI states, zeroization and the error state (15 R463 to R486). -/

namespace Sys2Proof.Machine

def State.updVlt (s : State) (f : Vlt → Vlt) : State := { s with vlt := f s.vlt }

/-- The hub whose Vault serves: the one that holds authority (15 R463). -/
def servingHub (s : State) : Nat := s.holderHub.getD s.plinth.holder.val

/-- VLT_STATUS (15 R491). -/
def vltStatus (s : State) : Nat :=
  s.vlt.selftestFail.toNat * 2 ^ 24 + 0x10 * 2 ^ 16 + 16 * b2n s.vlt.sync + 8 * servingHub s + vaultCode s.vlt.mode

/-! ### Roles (15 R465) -/

/-- The function has a finished secured session at its own DOE instance. -/
def sessionOf (s : State) (fn : Fn) : List Session := s.vlt.sessions.filter fun x => x.fn == fn && x.finished

/-- The function holds the Crypto Officer role: PF0, with mutual authentication to the operator anchor. -/
def isOfficer (s : State) (fn : Fn) : Bool := decide (fn = 0) && (sessionOf s fn).any (·.officer)

/-- The function holds the Tenant User role: a VF bound to a tenant wing, with a session. -/
def isTenantUser (s : State) (fn : Fn) : Bool :=
  (match s.fnWing fn with | some w => (s.wing w).tenant | none => false) && !(sessionOf s fn).isEmpty

/-! ### TDIs -/

/-- A TDI takes a state; the change is logged as a record of kind 1 (15 R479). The caller has checked that the log has room. -/
def tdiSet (s : State) (vf : Nat) (t : TdiState) : State :=
  let old := (s.tdi vf).state
  let s1 := s.updTdi vf fun x => { x with state := t, stream := if t = .unlocked then none else x.stream }
  if old = t ∨ logFull s then s1
  else logAppend s1 vf (((s.vf vf).owner.map (·.val)).getD 0xFF) 1 0 0 [BitVec.ofNat 8 (tdiCode old)] [BitVec.ofNat 8 (tdiCode t)]

/-- A TDI leaves CONFIG_LOCKED, RUN or ERROR for CONFIG_UNLOCKED: its wing's root is regenerated (15 R472, R481). -/
def tdiUnlock (s : State) (vf : Nat) : State :=
  let s1 := tdiSet s vf .unlocked
  match (s.vf vf).owner with
  | some w => if vaultServes s1 then regenWing s1 w else s1
  | none => s1

/-! ### IDE (15 R478) -/

def State.ide (s : State) (k : Nat) : IdeStream := Tbl.get IdeStream.init s.vlt.streams k
def State.setIde (s : State) (k : Nat) (v : IdeStream) : State :=
  s.updVlt fun x => { x with streams := Tbl.set IdeStream.init x.streams k v }

/-- A stream is Insecure: its keys are gone, and every TDI bound to it enters ERROR. The link stream is stream 8, and no TDI is bound
to it (15 R479). -/
def ideInsecure (s : State) (k : Nat) : State :=
  let s1 := s.setIde k { IdeStream.init with vf := (s.ide k).vf }
  ((s.tdis.filter fun t => t.2.stream == some k && (t.2.state == .locked || t.2.state == .run)).map (·.1)).foldl
    tdiError s1

/-! ### Zeroization and ERROR -/

/-- Every engine inside the boundary zeroizes its keys: stacks, Ranri engines and IDE engines (15 R483). -/
def zeroizeEngines (s : State) : State :=
  let wipe (x : Extent) : Extent := { x with key0 := none, key1 := none, rolling := false, keyLoaded := false, keyLate := false }
  let es := (s.extents.map fun (e : Nat × Extent) => (e.1, wipe e.2)).filter fun (e : Nat × Extent) => decide (e.2 ≠ Extent.init)
  let ks := (s.dramStacks.map fun (k : Nat × Stack) => (k.1, { k.2 with rolls := [] })).filter
    fun (k : Nat × Stack) => decide (k.2 ≠ Stack.init)
  let s2 := { s with extents := es, dramStacks := ks, lineWaits := [], bar2Waits := [] }
  let s3 := (s2.vlt.streams.map (·.1)).foldl ideInsecure s2
  (linkDieDown (linkDieDown s3 0) 1).updPar fun p => { p with linkKeys := none }

/-- Every key but the DUS is zeroized in both Vaults and every engine (15 R484 scope 2, R486). -/
def zeroizeAll (s : State) : State :=
  let s1 := zeroizeEngines s
  let s2 := (List.range 16).foldl (fun s w => s.updWing w fun x => { x with wr := [], tk := none }) s1
  ((s2.updPar fun p => { p with pk := none }).updVlt fun v => { v with dk := [], sessions := [] })

/-- The module enters ERROR (15 R483): alarm and ALERT#. -/
def vaultError (s : State) : State :=
  if s.vlt.mode = .error then s
  else
    let s1 := zeroizeEngines (s.updVlt fun v => { v with mode := .error })
    setAlert (alarm s1 0x0601 0xFF (16 + servingHub s) (vltStatus s1) 0 0 0) 3 true

/-- Every wing's root is fresh (15 R467). -/
def regenWings (s : State) : State := (List.range 16).foldl regenWing s

/-- The key ID of a key (15 R473). -/
def keyId (k : Bytes) : Bytes := (sha384 (ascii "HX20 KEY ID" ++ k)).take 16

/-- VLT_KEYS.TENANT. -/
def tenantKeys (s : State) : Nat := maskOf 16 fun w => (s.wing w).tk.isSome

end Sys2Proof.Machine
end

