-- ==== Sys2Proof/Machine/Vents.lean ====
section
/-! DEFINITION. The vent family (17 R521 to R543): records on their way, credits, storms, trace windows, rings, and the failure
of the vent memory. -/

namespace Sys2Proof.Machine

def State.updVnt (s : State) (f : Vnt → Vnt) : State := { s with vnt := f s.vnt }

/-- VENT_RECORD_RECEIVE: a record of a producer reaches the primary. -/
def execVentRecordReceive (rec : VentRec) (producer : Nat) (s : State) : Host.Outcome State Fault Refusal :=
  .next (if s.alive then raise s producer rec else s)

/-- ALARM_CREDIT_RETURN: the host port has accepted an alarm's write and its status line (17 R527, R528). -/
def alarmCreditReturn (s : State) : State :=
  let s1 := s.updVnt fun v => { v with alarmsOut := v.alarmsOut - 1 }
  ventPump (serveLatches s1.vnt.latches.length s1)

def execAlarmCreditReturn (s : State) : Host.Outcome State Fault Refusal := .next (alarmCreditReturn s)

/-- VENT_WRITE_ACCEPTED: the host port has accepted what the primary wrote to a ring: log slots are free again. -/
def execVentWriteAccepted (vent : Fin 3) (s : State) : Host.Outcome State Fault Refusal :=
  .next (if vent = 1 then ventPump (s.updVnt fun v => { v with logsOut := 0 }) else s)

/-! ### Storms (17 R531) -/

/-- STORM_ACCUMULATOR_CLOSE. -/
def execStormAccumulatorClose (acc : Fin 64) (s : State) : Host.Outcome State Fault Refusal :=
  .next (ventPump (stormShut s acc))

/-! ### VENT_CONFIGURE and VENT_STATUS (17 R535, R536) -/

def ventConfigure : Handler := fun s c =>
  let p := c.payload
  let v := leAt p 0 1
  let m := leAt p 1 1
  let z := leAt p 2 1
  let a := leAt p 8 8
  checked s [
      noWing c,
      (!zeroAt p 3 5 || decide (m > 15) || (decide (v ≠ 1) && decide (m ≠ 0)) || (decide (z = 0) && decide (a ≠ 0)),
        rRESERVED_FIELD_SET),
      (decide (v > 2) || (decide (z ≠ 0) && (decide (z < 16) || decide (z > 26))), rRESERVED_VALUE),
      (decide (a % 4096 ≠ 0), rADDR_ALIGN)]
    fun s =>
      let s1 := (scpCommit s c).updVnt fun x =>
        { x.setRing v { head := 0, tail := 0, addr := BitVec.ofNat 64 a, sizeLog2 := z, mask := m } with
          delivered := if v = 0 then [] else x.delivered }
      (ventPump s1, .done rOK [])

def execVentConfigure := scpExec 0x0701 ventConfigure

/-- VNT_STATE (17 R542). -/
def vntState (s : State) : Nat := s.pcie.activeHub.val + 2 * b2n s.vnt.fallback + 4 * b2n s.vnt.bothFailed

/-- Bytes of the trace partition in use. -/
def traceUsed (s : State) : Nat := (s.vnt.traces.map (·.length)).sum

def ventStatus : Handler := fun s c =>
  checked s [noWing c] fun s =>
    (s, .done rOK (leBytes 2 (alarmCredits s) ++ [0#8, 0#8] ++ leBytes 4 (16384 - (s.vnt.logs.length + s.vnt.logsOut)) ++
      leBytes 4 ((0x300000 - traceUsed s) / 1024) ++ [BitVec.ofNat 8 (vntState s)] ++ List.replicate 3 0#8 ++ s.vnt.counters))

def execVentStatus := scpExec 0x0702 ventStatus

/-! ### Trace windows (17 R532 to R534) -/

/-- The unit classes of a die: cells, stacks, hubs and link dies (01 R18, 12 R371). -/
def dieClass (die cls : Nat) : Bool :=
  if die < 8 then decide (cls ≤ 3) || decide (cls = 5)
  else if die < 16 then decide (4 ≤ cls) && decide (cls ≤ 6)
  else decide (die < 20) && decide (cls = 5)

def ventTraceWindow : Handler := fun s c =>
  let p := c.payload
  let start := leAt p 8 8
  checked s [
      noWing c, (!zeroAt p 2 2, rRESERVED_FIELD_SET),
      (decide (leAt p 1 1 > 6) || decide (leAt p 4 4 = 0) || decide (leAt p 4 4 > 10000), rRESERVED_VALUE),
      (!dieClass (leAt p 0 1) (leAt p 1 1) || (decide (start ≠ 0) && (decide (start < s.now) || decide (start > s.now + 10 ^ 9))),
        rADDR_RANGE),
      (decide ((s.vnt.ring 2).sizeLog2 = 0), rNOT_PERMITTED),
      (decide (s.vnt.windows.length ≥ 16) || s.vnt.fallback || s.vnt.bothFailed, rRES_UNAVAILABLE)]
    fun s =>
      let w : TraceWin :=
        { id := s.vnt.nextWin, die := leAt p 0 1, cls := leAt p 1 1, start := if start = 0 then s.now else start, len := leAt p 4 4,
          running := decide (start = 0) }
      (s.updVnt fun v => { v with windows := v.windows ++ [w], nextWin := v.nextWin + 1 }, .done rOK (leBytes 4 s.vnt.nextWin.toNat))

def execVentTraceWindow := scpExec 0x0703 ventTraceWindow

/-- TRACE_WINDOW_START: START is reached. -/
def execTraceWindowStart (win : W32) (s : State) : Host.Outcome State Fault Refusal :=
  .next (s.updVnt fun v =>
    { v with windows := v.windows.map fun (w : TraceWin) => if w.id = win then { w with running := true } else w })

/-- Records that a die's capture buffer holds. -/
def captureSize (die : Nat) : Nat := if die < 8 then 16384 else 4096

/-- A window as it is written: header, records, padding. Bytes 32 to 39 are filled at delivery. -/
def windowBytes (w : TraceWin) (recs : List Bytes) (dropped : Bool) (lost : Nat) : Bytes :=
  let body := recs.flatMap (fitTo 16)
  leBytes 8 w.start ++ leBytes 8 (w.start + w.len * 1000) ++ leBytes 4 w.id.toNat ++
  [BitVec.ofNat 8 w.die, BitVec.ofNat 8 w.cls, BitVec.ofNat 8 (b2n dropped), 0#8] ++ leBytes 4 recs.length ++ leBytes 4 lost ++
  List.replicate 32 0#8 ++ body ++ List.replicate ((64 - body.length % 64) % 64) 0#8

/-- TRACE_WINDOW_END: the window is whole in the trace partition, or dropped whole. -/
def traceEnd (s : State) (win : W32) (recs : List Bytes) (lost : Bool) : State :=
  match s.vnt.windows.find? fun w => w.id == win with
  | none => s
  | some w =>
    let s1 := s.updVnt fun v => { v with windows := v.windows.filter fun x => x.id != win }
    let room := 0x300000 - traceUsed s
    let whole := windowBytes w recs false 0
    if !lost && decide (recs.length ≤ captureSize w.die) && decide (whole.length ≤ room) then
      ventPump (s1.updVnt fun v => { v with traces := v.traces ++ [whole] })
    else
      let s2 := s1.updVnt fun v => { v with traceDrops := satInc v.traceDrops }
      if 64 ≤ room then ventPump (s2.updVnt fun v => { v with traces := v.traces ++ [windowBytes w [] true recs.length] }) else s2

def execTraceWindowEnd (win : W32) (recs : List Bytes) (lost : Bool) (s : State) : Host.Outcome State Fault Refusal :=
  .next (traceEnd s win recs lost)

/-! ### Registers and ALERT# (17 R541, R542) -/

/-- VNT_CTL without LW_CLEAR. -/
def vntCtl (s : State) : Nat := s.vnt.irqEn.toNat + 8 * b2n s.vnt.alertEn + 256 * s.vnt.alertDelay.toNat

/-- ALARM_UNACKED follows its condition. -/
def alertPoll (s : State) : State := setAlert s 0 (unackedNow s)

/-- VNT_RING_HEAD_WRITE: the host returns space; a value above TAIL or below HEAD is ignored. -/
def vntHead (s : State) (fn : Fn) (k : Nat) (head : W64) : State :=
  pf0Reg s fn fun s =>
    let r := s.vnt.ring k
    if head.toNat > r.tail.toNat ∨ head.toNat < r.head.toNat then s
    else
      let s1 := s.updVnt fun v =>
        { v.setRing k { r with head := head } with
          delivered := if k = 0 then v.delivered.filter fun d => decide (d.1 > head.toNat) else v.delivered }
      alertPoll (ventPump s1)

def execVntRingHeadWrite (fn : Fn) (vent : Fin 3) (head : W64) (s : State) : Host.Outcome State Fault Refusal :=
  .next (vntHead s fn vent head)

/-- ALARM_UNACKED_TIMEOUT: ALERT_DELAY_MS is over for some alarm. -/
def execAlarmUnackedTimeout (s : State) : Host.Outcome State Fault Refusal := .next (alertPoll s)

/-- The bits of VNT_CTL that are defined; the others are reserved and ignored (00 R9, R10). -/
def vntCtlMask : Nat := 0xFF1F

/-- A write of VNT_CTL; the register is archived, so quarantine ignores it (18 R553). -/
def vntCtlWrite (s : State) (fn : Fn) (v : Nat) : State :=
  pf0Reg s fn fun s =>
    if s.fw.quarantine then ignoredWrite s fn 0xFF 0x160004 4 (vntCtl s) (v &&& vntCtlMask)
    else loggedWrite s fn 0xFF 0x160004 4 (vntCtl s) (v &&& vntCtlMask) fun s =>
      let s1 := s.updVnt fun x =>
        { x with irqEn := BitVec.ofNat 3 v, alertEn := bit v 3, alertDelay := BitVec.ofNat 8 (v / 256),
                 lastword := if bit v 4 then [] else x.lastword }
      archived (alertPoll s1)

/-- LW_CLEAR: the last-word registers are written with zero. -/
def execLwClear (fn : Fn) (s : State) : Host.Outcome State Fault Refusal := .next (vntCtlWrite s fn (vntCtl s + 16))

/-! ### Failure of the vent memory (17 R537 to R540) -/

/-- Bytes of the last-word registers are written, and with them RST_BOOT of the last write. -/
def lastWordPut (s : State) (off : Nat) (b : Bytes) : State :=
  let w := fitTo 128 s.vnt.lastword
  let w1 := w.take off ++ b ++ w.drop (off + b.length)
  s.updVnt fun v => { v with lastword := w1.take 96 ++ leBytes 8 s.rst.boot.toNat ++ w1.drop 104 }

/-- Both rings have failed: alarms are counted from now (17 R540). -/
def bothFail (s : State) (cause : Nat) : State :=
  let s1 := lastWordPut (lastWordPut (lastWordPut s 64 (leBytes 8 0)) 80 (leBytes 8 s.now)) 89 [BitVec.ofNat 8 cause]
  let n := s.vnt.ring64.length
  setAlert (s1.updVnt fun v => { v with bothFailed := true, ring64 := [], lost := satAdd v.lost n }) 6 true

/-- The primary's memory fails: what it held is lost and counted, and the other hub's ring takes the records. -/
def ventFail (s : State) (cause : Nat) : State :=
  if s.vnt.bothFailed then s
  else if s.vnt.fallback then bothFail s (if cause = 0 then 4 else cause)
  else
    let n := s.vnt.alarms.length + s.vnt.summaries.length + s.vnt.logs.length + (s.vnt.traces.map fun t => leAt t 24 4).sum
    let s1 := lastWordPut (lastWordPut s 72 (leBytes 8 s.now ++ leBytes 8 0)) 88 [BitVec.ofNat 8 cause, 0#8]
    let s2 := s1.updVnt fun v =>
      { v with alarms := [], alarmsOut := 0, summaries := [], logs := [], logsOut := 0, traces := [], windows := [], accs := [],
               traceDrops := satAdd v.traceDrops (v.traces.length + v.windows.length), lost := satAdd v.lost n, fallback := true }
    if hubCut s (otherHub s.pcie.activeHub) then setAlert (bothFail s2 4) 5 true
    else
      let s3 := alarm s2 0x0801 0xFF (16 + s.pcie.activeHub) s.pcie.activeHub.val cause n 0
      setAlert (ventPump (serveLatches s3.vnt.latches.length s3)) 5 true

/-- VENT_MEMORY_FAIL: 1 uncorrectable, 2 write timeout, 3 boot test, at the memory in use; 0 the other hub is unreachable while
its ring is in use. -/
def execVentMemoryFail (cause : Fin 4) (s : State) : Host.Outcome State Fault Refusal :=
  .next (if !s.alive ∨ (cause = 0 ∧ !s.vnt.fallback) then s else ventFail s cause)

end Sys2Proof.Machine
end

