-- ==== Sys2Proof/Machine/Resets.lean ====
section
/-! DEFINITION. Resets (16 R493 to R506): sources, the fuse table and its overrides, block resets, device resets and what they
keep, the boot that follows (18 R547, R548), and the reset state of the vents (17 R543). -/

namespace Sys2Proof.Machine

/-! ### Sources (16 R493 to R498) -/

def factoryMap : List Nat := [5, 4, 3, 3, 6, 0, 6, 3, 4, 5, 7, 7]
def allowedMask : List Nat := [0x20, 0x38, 0x18, 0x18, 0x41, 0x01, 0x48, 0x18, 0x30, 0x30, 0xD0, 0x80]

/-- The effective value of a source: 0 to 5 a level, 6 NONE, 7 AS_REQUESTED. -/
def mapValue (s : State) (src : Nat) : Nat :=
  let m := Tbl.get RstMap.init s.rst.map src
  if m.en then m.value else factoryMap.getD src 6

/-- An assertion is counted, saturating (16 R506). -/
def countSource (s : State) (src : Nat) : State :=
  s.updRst fun r => { r with count := Tbl.set 0#32 r.count src (satInc (Tbl.get 0#32 r.count src)) }

/-! ### What a device reset clears (16 R503) -/

/-- An extent after a reset: free at generation 0; after level 3 a bindable one is clear-pending, and extent 47 keeps its keys. -/
def extentReset (s : State) (low : Bool) (e : Nat) : Extent :=
  let x := s.ext e
  if !low then Extent.init
  else if isExt47 e then { x with owner := none, gen := 0, held := false, unavailable := false }
  else { Extent.init with keySeq := x.keySeq, roll := x.roll, clearPending := true }

/-- The vents at a reset: level 3 keeps the undelivered records, and every level the fallback, ALERT# and the last word
(17 R538, R541, R543). -/
def vntReset (v : Vnt) (low : Bool) : Vnt :=
  let base := { Vnt.init with alert := v.alert, fallback := v.fallback, bothFailed := v.bothFailed, lastword := v.lastword }
  if low then
    { base with alarms := v.alarms, latches := v.latches, summaries := v.summaries, logs := v.logs, traces := v.traces,
                ring64 := v.ring64, accs := v.accs }
  else { base with alert := v.alert &&& ~~~(8#7) }

/-- Wing state that level 3 keeps: the keys, and the place of the wing in the accession log. -/
def keepWing (x : Wing) : Wing := { Wing.init with wr := x.wr, tk := x.tk, lastSeq := x.lastSeq, lastChain := x.lastChain }

/-- What a table of parts keeps, part by part. -/
def tblMap {α : Type} [DecidableEq α] (d : α) (f : α → α) (t : Tbl α) : Tbl α :=
  (t.map fun e => (e.1, f e.2)).filter fun e => decide (e.2 ≠ d)

/-- The part as a reset of level 3, 4 or 5 leaves it; archived settings, soft and lane repairs among them, come back from the
archive at the boot (18 R551 to R553). What happens at its release is `resetRelease`. -/
def cleared (s : State) (level : Nat) : State :=
  let low := decide (level = 3)
  let z := State.reset
  { z with
    pending := s.pending, out := s.out, freeCtr := s.freeCtr, nextReq := s.nextReq, clk := s.clk, plinth := s.plinth, tap := s.tap,
    hubs := tblMap HubSt.init (fun h => { HubSt.init with mains := h.mains }) s.hubs, hubLinkUp := s.hubLinkUp,
    links := tblMap Link.init (fun l => if low then { l with repairs := [] } else { Link.init with badLanes := l.badLanes }) s.links,
    pcie := { Pcie.init with dlActive0 := s.pcie.dlActive0, dlActive1 := s.pcie.dlActive1 },
    halfCells := if low then tblMap HalfCell.init
      (fun h => { HalfCell.init with scrubBad := h.scrubBad, clockBad := h.clockBad }) s.halfCells else [],
    units := if low then tblMap UnitSt.init
      (fun u => { UnitSt.init with quarantined := u.quarantined, replaced := u.replaced, subPos := u.subPos }) s.units else [],
    docents := if low then ((List.range 40).filter fun d => (s.unit (40 + d)).quarantined).map fun d =>
      (d, { Docent.init with state := .quarantined }) else [],
    extents := ((List.range 384).map fun e => (e, extentReset s low e)).filter fun (e : Nat × Extent) => decide (e.2 ≠ Extent.init),
    wings := if low then tblMap Wing.init keepWing s.wings else [],
    ckptCount := if low then s.ckptCount else 0,
    cats := tblMap Cat.init (fun c => if low then { Cat.init with termOfV := c.termOfV } else Cat.init) s.cats,
    dram := if low then s.dram else [],
    lines := if low then s.lines else [],
    rowErrs := if low then s.rowErrs else [],
    dramStacks := tblMap Stack.init (fun k =>
      if low then { Stack.init with failed := k.failed, hardRows := k.hardRows }
      else { Stack.init with hardRows := k.hardRows }) s.dramStacks,
    log := if low then { s.log with exported := [], rate := [] } else Log.init,
    par := { Par.init with term := s.par.term, pk := if low then s.par.pk else none },
    vlt := { Vlt.init with
      mode := if low ∧ s.vlt.mode = .error then .error else .selfTest, tamper := s.vlt.tamper, linkUp := s.vlt.linkUp,
      pqRequired := s.vlt.pqRequired, selftestFail := if low then s.vlt.selftestFail else 0, copy := s.vlt.copy,
      sync := low && s.vlt.sync, dk := if low then s.vlt.dk else [], lastTest := if low then s.vlt.lastTest else 0,
      streams := if low then s.vlt.streams else [] },
    rst := { Rst.init with
      level := s.rst.level, source := s.rst.source, pwrOk := s.rst.pwrOk, perst := s.rst.perst, railLatch := s.rst.railLatch,
      straps := s.rst.straps, last := s.rst.last, boot := s.rst.boot, map := s.rst.map, count := s.rst.count,
      thermtrip := s.rst.thermtrip },
    fw := { Fw.init with
      fails := s.fw.fails, slotA := s.fw.slotA, slotB := s.fw.slotB, svnMin := s.fw.svnMin, archA := s.fw.archA,
      archB := s.fw.archB, deviceFault := s.fw.deviceFault, running := s.fw.running },
    vnt := vntReset s.vnt low }

/-- A device reset begins: level 3 first finishes a pending archive write (18 R554). -/
def resetBegins (s : State) (level src : Nat) : State :=
  let s0 := if level = 3 then archiveWrite s else s
  (cleared s0 level).updRst fun r =>
    { r with level := some level, source := src, last := BitVec.ofNat 32 (src * 2 ^ 12 + level * 2 ^ 8) }

/-- A source performs a level: in a reset in progress only a higher one (16 R498). While power is off nothing is performed. -/
def performLevel (s : State) (src level : Nat) : State :=
  if level < 3 ∨ level > 5 then s
  else match s.rst.level with
  | some l => if l < level ∧ s.rst.pwrOk then resetBegins s level src else s
  | none => resetBegins s level src

/-- A source asserts; `asked` is the level its command carries. -/
def assertSource (s : State) (src asked : Nat) : State :=
  let s1 := countSource s src
  performLevel s1 src (if mapValue s src = 7 then asked else mapValue s src)

/-- PERST: PERST# of the active host port is asserted. -/
def execPerst (s : State) : Host.Outcome State Fault Refusal :=
  .next (assertSource (s.updRst fun r => { r with perst := true }) 1 7)

/-- HOT_RESET. -/
def execHotReset (s : State) : Host.Outcome State Fault Refusal := .next (assertSource s 2 7)

/-- FLR_PF0. -/
def execFlrPf0 (s : State) : Host.Outcome State Fault Refusal := .next (assertSource s 3 7)

/-- DEVICE_WDOG: BEAT has not changed for 1 s after boot (16 R497). -/
def execDeviceWdog (s : State) : Host.Outcome State Fault Refusal := .next (assertSource s 7 7)

/-- PAIR_RESET_RECEIVE: the partner's PAIR_RESET (13 R430). -/
def execPairResetReceive (level : Fin 8) (s : State) : Host.Outcome State Fault Refusal :=
  .next (if linkUp s.par.link then assertSource s 10 level else s)

/-! ### Block resets (16 R500 to R502) -/

/-- The half-cells of a target. -/
def blockHalves (s : State) (level target : Nat) : List Nat :=
  match level with
  | 0 => s.wingHalves target
  | 1 => [target]
  | _ => [2 * target, 2 * target + 1]

/-- A unit of the target is held by a re-binding, a block reset or a checkpoint (16 R499 check 4). -/
def blockHeld (s : State) (level target : Nat) : Bool :=
  (blockHalves s level target).any fun h =>
    isHeld s (ukHalf, h) ||
    (match (s.half h).req with | some id => (match s.findReq id with | some r => r.ckptReq | none => false) | none => false)

/-- Step 1, and the checkpoints of step 2. -/
def blockBegin (s : State) (b : BlockReset) : State :=
  let s1 := (blockHalves s b.level b.target).foldl (fun s h =>
    let s1 := s.updHalf h fun x => { x with held := true }
    match (s.half h).owner, (s.half h).req with
    | some w, some id => if (s.wing w).lent then s1.updReq id fun r => { r with ckptReq := true } else s1
    | _, _ => s1) s
  let s2 := if b.level = 0 then s1.updWing b.target fun x => { x with stopAdmit := true } else s1
  s2.updRst fun r => { r with blocks := r.blocks ++ [b] }

/-- The half-cells of a target are given back, and the swaps that waited for one are carried out (08 R278, 12 R385). -/
def blockRelease (s : State) (b : BlockReset) : State :=
  let hs := blockHalves s b.level b.target
  let s0 := hs.foldl (fun s h => s.updHalf h fun x => { x with held := false }) s
  let s1 := hs.foldl (fun s h => if (s.half h).req = none then afterRequest s h else s) s0
  let s2 := if b.level = 0 then s1.updWing b.target fun x => { x with stopAdmit := false } else s1
  s2.updRst fun r => { r with blocks := r.blocks.filter (· != b) }

/-- WING_RESET: level 0 of the header's wing. -/
def wingReset : Handler := fun s c =>
  let w := c.wing.toNat
  checked s [badWing c, (blockHeld s 0 w || s.rst.blocks.any (fun b => b.level == 0 && b.target == w), rBUSY), (longFull s, rBUSY)]
    fun s =>
      let s1 := countSource (scpCommit s c) 5
      (blockBegin s1 { fn := c.fn, hub := c.hub, level := 0, target := w, source := 5, since := s.now }, .pend true [])

def execWingReset := scpExec 0x0104 wingReset

/-- The checks of RESET_REQUEST, and levels 1 and 2. At levels 3 and 4 the response comes first (`afterReset`). -/
def resetRequest : Handler := fun s c =>
  let l := leAt c.payload 0 1
  let t := leAt c.payload 1 1
  checked s [
      noWing c, (!zeroAt c.payload 2 2 || (decide (l = 3 ∨ l = 4) && decide (t ≠ 0)), rRESERVED_FIELD_SET),
      (decide (l = 0 ∨ l > 4), rRESERVED_VALUE), (decide ((l = 1 ∧ t > 15) ∨ (l = 2 ∧ t > 7)), rADDR_RANGE),
      (decide (l < 3) && blockHeld s l t, rBUSY), (longFull s, rBUSY)]
    fun s =>
      let s1 := scpCommit s c
      if l < 3 then
        (blockBegin (countSource s1 11) { fn := c.fn, hub := c.hub, level := l, target := t, source := 11, since := s.now },
         .pend true [])
      else (s1, .done rOK [])

/-- A command of `h` is accepted with OK, so that what follows its response happens. -/
def scpAccepted (s : State) (c : Cmd) (major minor : Nat) (reserved : Bool) (length : Nat) (h : Handler) : Bool :=
  windowOpen s c.fn c.hub && (s.mbox (mbxKey c.fn c.hub)).run.isNone && !superseded s c && !s.pcie.moving &&
  (scpChecks s c major minor reserved length).isNone &&
  (match (h s c).2 with | .done code _ => decide (code = rOK) | .pend _ _ => false)

/-- A command whose effect follows its response: `after` (03 R92 class D, 16 R499). -/
def scpSubmitThen (s : State) (c : Cmd) (major minor : Nat) (reserved : Bool) (length : Nat) (h : Handler)
    (after : State → Cmd → State) : State :=
  let s1 := scpSubmit s c major minor reserved length h
  if scpAccepted s c major minor reserved length h then after s1 c else s1

/-- The command of one row, with what follows its response. -/
def scpExecThen (op : Nat) (h : Handler) (after : State → Cmd → State) (fn : Fn) (hub : Hub) (tag : W32) (wing : Byte)
    (payload : Bytes) (s : State) : Host.Outcome State Fault Refusal :=
  let minor := (s.fnSt fn).minor
  .next (scpSubmitThen s { fn := fn, hub := hub, op := op, minor := minor, tag := tag, wing := wing, payload := payload }
    1 minor.toNat false payload.length h after)

/-- RESET_REQUEST of level 3 or 4 after its response. -/
def afterReset (s : State) (c : Cmd) : State :=
  if leAt c.payload 0 1 ≥ 3 then assertSource s 11 (leAt c.payload 0 1) else s

def execResetRequest := scpExecThen 0x0A01 resetRequest afterReset

/-- The target is idle: nothing runs on its half-cells, and no verdict is owed to or by it (12 R390). -/
def blockIdle (s : State) (b : BlockReset) : Bool :=
  let hs := blockHalves s b.level b.target
  hs.all (fun h => decide ((s.half h).req = none)) &&
  !s.dups.any (fun d => hs.contains (unitHalf d.checker) || hs.contains (unitHalf d.origin)) &&
  (decide (b.level ≠ 0) || decide ((s.wing b.target).state ≠ .checking))

/-- Rings of a wing at level 0: DISABLED, after a record whose writes have begun, and an open epoch is discarded as in 07 R234, after
a commit that stands at step 3. At a unit that does not hold the lease the epochs of paired catalogues are not touched
(07 R239, 13 R432). -/
def ringsOff (s : State) (w : Nat) : State :=
  (List.range 8).foldl (fun s c =>
    let s1 := if (s.cat (catKey w c)).applied then recordFinish s w c else s
    let s2 := catUpd (ringDisable s1 w c) w c fun k => { k with dbDropped := false }
    let k := s2.cat (catKey w c)
    if !k.isOpen || fenced s2 k then s2
    else match k.commit with
    | some m => if m.step = 3 then catUpd s2 w c fun k => { k with discardEp := some k.openEp } else discardBegin s2 w c
    | none => discardBegin s2 w c) s

/-- The level's own effects (16 R501). -/
def blockEffects (s : State) (b : BlockReset) : State :=
  match b.level with
  | 0 =>
    let w := b.target
    let s1 := wingOff s w
    let s2 := (s1.wingQueues w).foldl (fun s q => s.updQue q fun x =>
      { x with state := .disabled, evaluating := false, disableAfter := false, halting := false }) s1
    let s3 := (s2.wingFlows w).foldl (fun s f =>
      (flowDrop s (Fin.ofNat 16384 f)).updFlow f fun x => { x with state := .reset }) (ringsOff s2 w)
    fencePoll s3
  | 1 => s
  | _ =>
    let c := b.target
    let s1 := { keepLeaves s (fun x => x.loc != c) with
                       arbs := s.arbs.filter (fun a => a.1 != 40 + c && a.1 != 48 + c), ptw := s.ptw.filter (fun x => x.loc != c) }
    ((s1.vnt.windows.filter fun w => w.die == c).map (·.id)).foldl (fun s w => traceEnd s w [] true) s1

/-- A command that the block reset answers; a reset that FLR_VF began has none. -/
def blockAnswer (s : State) (b : BlockReset) (code : Byte) : State :=
  match running s b.fn b.hub (if b.source = 5 then 0x0104 else 0x0A01) with
  | some r => if b.source ≠ 4 then scpFinish s (r.cmd b.fn b.hub) code [] else s
  | none => s

/-- Steps 4 to 7. At level 0 the wing's requests that never started end first with STALE_BINDING, and their completions are
written (DEDUCED, log entry 33). At levels 1 and 2 a read-back that finds only zero ends the quarantine of 02 R54. -/
def blockFinish (s : State) (b : BlockReset) (bad : List HcIx) : State :=
  let mine := if b.level = 0 then s.reqs.filter fun r => r.wing.val == b.target else []
  if !blockIdle s b then s
  else if mine.any (fun r => !r.isDone) then
    retireAll ((mine.filter fun r => !r.isDone).foldl (fun s r => abortStale s r.id) s)
  else if !mine.isEmpty then s
  else
    let hs := blockHalves s b.level b.target
    let s1 := if b.level = 0 then s else hs.foldl (fun s h => s.updHalf h fun x => { x with scrubBad := false }) s
    let s2 := scrubUnits s1 (hs.map fun h => (ukHalf, h)) none true bad
    let wing := if b.level = 0 then b.target else (((s.half (hs.headD 0)).owner.map (·.val)).getD 0xFF)
    let s3 := curatorLog (blockEffects s2 b) wing b.target b.level
    let s4 := (blockRelease s3 b).updRst fun r =>
      { r with last := BitVec.ofNat 32 (b.source * 2 ^ 12 + b.level * 2 ^ 8 + b.target) }
    blockAnswer s4 b (if hs.any fun h => bad.any (·.val == h) then rINTERNAL else rOK)

/-- The block reset of a mailbox. -/
def blockOf (s : State) (fn : Fn) (hub : Hub) : Option BlockReset := s.rst.blocks.find? fun b => b.fn == fn && b.hub == hub

/-- BLOCK_RESET_IDLE. -/
def execBlockResetIdle (fn : Fn) (hub : Hub) (bad : List HcIx) (s : State) : Host.Outcome State Fault Refusal :=
  .next (match blockOf s fn hub with
    | some b => blockFinish s b bad
    | none => s)

/-- The duplicate passes of a target end with it: no verdict, and no origin request fails (16 R502). -/
def blockDups (s : State) (b : BlockReset) : State :=
  let hs := blockHalves s b.level b.target
  { s with dups := s.dups.filter fun d => !(hs.contains (unitHalf d.checker) || hs.contains (unitHalf d.origin)) }

/-- BLOCK_RESET_IDLE_TIMEOUT: what still runs on the target completes with STALE_BINDING; one record names it (16 R500). -/
def blockTimeout (s0 : State) (b : BlockReset) : State :=
  let s := blockDups s0 b
  let hs := blockHalves s b.level b.target
  let rs := s.reqs.filter fun r => !r.isDone &&
    (if b.level = 0 then r.wing.val == b.target else r.halves.any fun h => hs.contains h.val)
  match rs with
  | [] => retireAll s
  | r :: rest => retireAll (rest.foldl (fun s r => abortStale s r.id) (abortDrained s r 1))

def execBlockResetIdleTimeout (fn : Fn) (hub : Hub) (s : State) : Host.Outcome State Fault Refusal :=
  .next (match blockOf s fn hub with
    | some b => blockTimeout s b
    | none => s)

/-- FLR_VF: the VF's own action, and level 0 of its wing where it is mapped to 0 (16 R496). -/
def flrVf (s : State) (fn : Fn) : State :=
  if fn = 0 then s
  else if !s.alive then countSource s 4
  else if !s.fnEnabled fn then s
  else
    let t := (s.tdi fn).state
    let s1 := vfClear (countSource s 4) fn
    let s2 := if t = .locked ∨ t = .run then tdiUnlock s1 fn else s1
    match s.fnWing fn with
    | some w =>
      if mapValue s 4 = 0 ∧ !(s.rst.blocks.any fun b => b.level == 0 && b.target == w.val) then
        blockBegin s2 { fn := fn, hub := 0, level := 0, target := w, source := 4, since := s.now }
      else s2
    | none => s2

def execFlrVf (fn : Fn) (s : State) : Host.Outcome State Fault Refusal := .next (flrVf s fn)

/-! ### Commands that end without their effect (03 R90) -/

/-- What a command in progress that has not passed its commit point holds is given back. -/
def undoRun (s : State) (fn : Fn) (hub : Hub) (r : Run) : State :=
  let drop (s : State) : State :=
    { s with par := { s.par with tableWait := s.par.tableWait.filter fun x => !(x.fn == fn && x.hub == hub) } }
  match r.op.toNat with
  | 0x0101 => releaseHeld s (rebindUnits r.payload)
  | 0x0201 => tableCancel (drop s) (r.data.headD 0x10000)
  | 0x0202 => drop s
  | 0x0206 => { s with cats := tblMap Cat.init (fun k =>
      match k.commit with | some m => if m.fn = fn ∧ m.hub = hub then { k with commit := none } else k | none => k) s.cats }
  | 0x0A02 => s.updPcie fun p => { p with moving := false, moveBy := none }
  | 0x0104 | 0x0A01 => match blockOf s fn hub with | some b => blockRelease s b | none => s
  | _ => s

/-- The hub's firmware starts again, and the commands it ran are lost (16 R496, R497, 03 R91); a re-binding is left to the next holder
(02 R53). -/
def curatorRestart (s : State) (h : Hub) : State :=
  if !s.alive then countSource s 6
  else
    let lost := s.mbx.filterMap fun (e : Nat × Mbx) =>
      if e.1 % 2 = h.val then e.2.run.map fun r => (Fin.ofNat 256 (e.1 / 2), r) else none
    let s1 := lost.foldl (fun s x =>
      let s1 := if x.2.op = 0x0101 then { s with moves := s.moves ++ [{ fn := x.1, payload := x.2.payload }] }
        else undoRun s x.1 h x.2
      s1.updMbox (mbxKey x.1 h) fun m => { m with run := none }) s
    let s2 := s1.updHub h fun x => { HubSt.init with mains := x.mains }
    assertSource s2 6 7

/-- What a Curator's memory answered is counted at its hub (12 R372). -/
def curatorMem (s : State) (x : CuratorStop) : State :=
  match x.mem with
  | .bad g => sramUE s (16 + x.hub) stCurator g
  | _ => sramSaw s (16 + x.hub) x.mem

/-- CURATOR_WDOG: the Curator's watchdog expires, or its memory holds an uncorrectable error: its firmware starts again and its hub
enters BOOTING (16 R496, 12 R372). -/
def curatorWdog (s : State) (x : CuratorStop) : State := curatorRestart (if s.alive then curatorMem s x else s) x.hub

def execCuratorWdog (hub : CuratorStop) (s : State) : Host.Outcome State Fault Refusal := .next (curatorWdog s hub)

/-! ### Power -/

/-- Main power is not good: the part is in reset level 5 (19 R577). -/
def powerDown (s : State) (latch : Bool) : State :=
  (cleared s 5).updRst fun r => { r with level := some 5, source := 0, pwrOk := false, railLatch := latch }

/-- PWR_OK_FALL. -/
def execPwrOkFall (s : State) : Host.Outcome State Fault Refusal := .next (powerDown s false)

/-- RAIL_FAULT: as if PWR_OK had fallen; the part stays in reset until PWR_OK has been low and high again. -/
def execRailFault (s : State) : Host.Outcome State Fault Refusal := .next (if s.rst.pwrOk then powerDown s true else s)

/-- POWER_ON: PWR_OK rises, the straps are sampled, and level 5 is performed (19 R576, R579). -/
def powerOn (s : State) (straps : BitVec 4) : State :=
  if s.rst.pwrOk ∨ s.rst.railLatch then s
  else
    (countSource (cleared s 5) 0).updRst fun r =>
      { r with pwrOk := true, straps := straps, perst := true, level := some 5, source := 0, last := 0x00000500#32 }

def execPowerOn (straps : BitVec 4) (s : State) : Host.Outcome State Fault Refusal := .next (powerOn s straps)

/-- EMBER_POWER_LOSS: what the ember domain holds is lost (03 R98, 13 R412, 16 R495, R506, 17 R539, 18 R548, 19 R578). -/
def emberLoss (s : State) : State :=
  { s with
    plinth := { term := 0, beat := 0, holder := 0 },
    par := { s.par with term := 0 },
    vlt := { s.vlt with tamper := 0 },
    vnt := { s.vnt with lastword := [], alert := s.vnt.alert &&& ~~~(16#7) },
    fw := { s.fw with fails := 0 },
    rst := { s.rst with boot := 0, map := [], count := [], last := 0x00000500#32, thermtrip := false } }

def execEmberPowerLoss (s : State) : Host.Outcome State Fault Refusal := .next (emberLoss s)

/-! ### Release and boot (16 R503 to R505, 18 R547, R548) -/

/-- STRAP_RECOVERY, in the order of the signal table (19 R575, R579). -/
def strapRecovery (s : State) : Bool := s.rst.straps.getLsbD 2

/-- The links are trained: a spare serves one lane of each group of 32, and a link that its spares cannot repair is a device
fault (01 R26). -/
def trainLinks (s : State) (level : Nat) (bad : List (Fin 31)) : State :=
  let lost (n : Nat) : List Nat := ((s.link n).badLanes ++ (s.link n).repairs).eraseDups
  let groups (n : Nat) : List Nat := (lost n).map (· / 32)
  let fails (n : Nat) : Bool := bad.any (·.val == n) || decide ((groups n).eraseDups.length ≠ (groups n).length)
  let s1 := (List.range 31).foldl (fun s n => s.updLink n fun l => { l with spares := (groups n).eraseDups, failed := fails n }) s
  let s2 := { s1 with hubLinkUp := !fails 30 }
  match (List.range 31).filter fails with
  | [] =>
    if level ≥ 4 then setAlert (s2.updFw fun f => { f with deviceFault := false }) 2 false else s2
  | fs =>
    let s3 := fs.foldl (fun s n => alarm s 0x0101 0xFF 16 ((linkDies n).1 + 256 * (linkDies n).2) 0 0 0) s2
    setAlert (s3.updFw fun f => { f with deviceFault := true }) 2 true

/-- Keys that reset levels 4 and 5 make anew: DK, every WR, and the keys of every extent 47 (11 R349, 15 R469). -/
def freshKeys (s : State) : State :=
  let f := s.free 32
  let s1 := f.2.updVlt fun v => { v with dk := f.1 }
  let s2 := (List.range 16).foldl (fun s w => let g := s.free 32; g.2.updWing w fun x => { x with wr := g.1 }) s1
  (List.range 8).foldl (fun s k => s.updExt (48 * k + 47) fun x => { x with key0 := some (ext47Key s k), key1 := some (ext47Key s k) }) s2

/-- The seed of the accession log's chain (15 R487). -/
def logSeed (s : State) : Bytes := sha384 (ascii "HX20 ACCESSION" ++ leBytes 8 s.rst.boot.toNat ++ Config.dikHash)

/-- What the reset logic does at the release: the plinth (03 R98), and at levels 4 and 5 the boot counter, the timestamp, the
keys and the log. -/
def releaseCore (s : State) (level : Nat) : State :=
  let term := if s.plinth.term = 0xFFFFFFFF then 1 else s.plinth.term + 1
  let master : Hub := if (s.hub 0).mains then 0 else 1
  let s1 := { s with plinth := { term := term, beat := 0, holder := 0 }, clk := { s.clk with master := master } }
  if level < 4 then s1
  else
    let s2 := s1.updRst fun r => { r with boot := r.boot + 1 }
    let s3 := freshKeys { s2 with clk := { units := List.replicate 20 0, master := master, slew := 0 } }
    { s3 with log := { Log.init with chain := logSeed s3, base := logSeed s3 } }

/-- The boot ROM takes a slot; `changed` where R548 changed it. -/
def bootFrom (f : Fw) (b changed : Bool) : Fw :=
  { f with running := b, autoFallback := changed, fails := if changed then 0 else f.fails }

/-- A boot that R548 counts as failed, of slot `b`, which is then in the state `left`. -/
def fallBack (s : State) (b : Bool) (trial : Bool) (left : SlotPhase) : State :=
  let f := s.fw.setSlot b { s.fw.slot b with state := left }
  let o := f.slot (!b)
  if trial then { s with fw := bootFrom f (!b) true }
  else if o.state = .valid ∧ o.svn.toNat ≥ svnMinimum s then
    { s with fw := bootFrom (f.setSlot (!b) { o with state := .trial }) (!b) true }
  else { s with fw := { f with recovery := true } }

/-- Steps 1 and 2 of the boot: the slot is chosen and its image verified. -/
def bootSlots (s : State) (imageOk : Bool) : State :=
  if strapRecovery s then s.updFw fun f => { f with recovery := true }
  else
    let s1 := s.updFw fun f =>
      { f with fails := min 3 (f.fails + 1),
               svnMin := if f.svnMin.toNat < f.committed.svn.toNat then f.committed.svn else f.svnMin }
    let onTrial := decide (s1.fw.slotA.state = .trial) || decide (s1.fw.slotB.state = .trial)
    let b := if onTrial then decide (s1.fw.slotB.state = .trial) else decide (s1.fw.slotB.state = .committed)
    let old := (s1.fw.slot b).state
    if s1.fw.fails ≥ 3 then fallBack s1 b onTrial (if onTrial then .valid else old)
    else if !imageOk then fallBack s1 b onTrial .empty
    else { s1 with fw := bootFrom s1.fw b false }

/-- RESET_RELEASE: the source of the reset is released, and the boot runs up to step 6 (18 R547). Recovery firmware reads no
archive. -/
def resetRelease (s : State) (imageOk archiveOk : Bool) (bad : List (Fin 31)) : State :=
  match s.rst.level with
  | none => s
  | some l =>
    if !s.rst.pwrOk ∨ s.rst.railLatch ∨ s.rst.thermtrip then s
    else
      let s1 := bootSlots (releaseCore (s.updRst fun r => { r with level := none, perst := false }) l) imageOk
      let s2 := if s1.fw.recovery then s1 else archiveBoot s1 archiveOk
      let s3 := trainLinks s2 l bad
      if s3.par.enable then retrain s3 else s3

def execResetRelease (imageOk archiveOk : Bool) (linksBad : List (Fin 31)) (s : State) : Host.Outcome State Fault Refusal :=
  .next (resetRelease s imageOk archiveOk linksBad)

/-- The self-test of the boot ends (15 R482). -/
def selfTestEnds (s : State) (fails : Byte) : State :=
  let s1 := s.updVlt fun v => { v with selftestFail := fails, lastTest := s.now, sync := v.linkUp && s.hubLinkUp }
  if fails ≠ 0 then vaultError s1 else s1.updVlt fun v => { v with mode := .approved }

/-- The memory test of the boot at the primary (17 R537, R538): a pass ends the fallback, and the records of the fallback ring
go on in the stores. -/
def ventTest (s : State) (ok : Bool) : State :=
  if !ok then (if s.vnt.fallback then s else ventFail s 3)
  else
    let a := s.vnt.ring64.filter fun v => v.r.sev == sevAlarm
    let l := s.vnt.ring64.filter fun v => v.r.sev != sevAlarm
    let s1 := s.updVnt fun v =>
      { v with fallback := false, bothFailed := false, ring64 := [], alarms := v.alarms ++ a, logs := v.logs ++ l }
    setAlert (setAlert (serveLatches s1.vnt.latches.length s1) 5 false) 6 false

/-- BOOT_COMPLETE: step 7. The hub enters its authority state (03 R103) and sets READY. -/
def bootComplete (s : State) (h : Hub) (plinthOk : Bool) (selftest : Byte) (ventOk : Bool) : State :=
  if !s.alive ∨ (s.hub h).auth ≠ .booting ∨ !(s.hub h).mains then s
  else
    let s1 := if s.vlt.mode = .selfTest then selfTestEnds s selftest else s
    let s2 := if h = s.pcie.activeHub ∧ !s.fw.booted then ventTest s1 ventOk else s1
    let s3 :=
      if !plinthOk then hubFail s2 h
      else if s2.plinth.holder = h then startClaim s2 h
      else (plinthRead s2 h).updHub h fun x => { x with auth := .shadow }
    let s4 := s3.updHub h fun x => { x with ready := true }
    if h = s.plinth.holder ∧ !s.fw.booted then
      let s5 := s4.updFw fun f => { f with booted := true, fails := if strapRecovery s then f.fails else 0 }
      if s5.fw.autoFallback then curatorLog s5 0xFF 0 0 else s5
    else s4

def execBootComplete (hub : Hub) (plinthOk : Bool) (selftest : Byte) (ventOk : Bool) (s : State) :
    Host.Outcome State Fault Refusal := .next (bootComplete s hub plinthOk selftest ventOk)

/-! ### RST_MAP (16 R494, R495) -/

/-- RST_MAP of a source (16 R519). -/
def rstMapReg (s : State) (src : Nat) : Nat :=
  let m := Tbl.get RstMap.init s.rst.map src
  allowedMask.getD src 0 * 2 ^ 16 + 2048 * b2n m.en + m.value * 256 + factoryMap.getD src 0

/-- A write of RST_MAP: OVERRIDE and OVR_EN. -/
def rstMapWrite (s : State) (fn : Fn) (src : Nat) (val : W32) : State :=
  pf0Reg s fn fun s =>
    let off := 0x140040 + 4 * src
    if src ≥ 12 then s
    else
      let v := fld val.toNat 8 3
      let en := bit val.toNat 11
      let apply (s : State) : State := archived (s.updRst fun r => { r with map := Tbl.set RstMap.init r.map src { en := en, value := v } })
      if s.fw.quarantine ∨ (en ∧ !bit (allowedMask.getD src 0) v) then
        ignoredWrite s fn 0xFF off 4 (rstMapReg s src) (rstMapReg (apply s) src)
      else
        loggedWrite s fn 0xFF off 4 (rstMapReg s src) (rstMapReg (apply s) src) apply

def execRstMapWrite (fn : Fn) (src : Fin 16) (val : W32) (s : State) : Host.Outcome State Fault Refusal :=
  .next (rstMapWrite s fn src val)

end Sys2Proof.Machine
end

