-- ==== Sys2Proof/Machine/Power.lean ====
section
/-! DEFINITION. Clocks, throttle steps, power states, temperatures and the thermal trip (16 R507 to R518, 11 R343, R344). -/

namespace Sys2Proof.Machine

/-! ### Clocks (16 R508, R509) -/

/-- The clock of a cell's islands 0 to 8 at a throttle step, and that of its docents, in MHz (16 R510). -/
def stepMHz (step : Nat) : Nat := [2000, 1800, 1600, 1400, 1000].getD step 1000
def docMHz (step : Nat) : Nat := [1600, 1440, 1280, 1120, 800].getD step 800

/-- The frequency of an island, in MHz (01 R30, 16 R507, R510): each island has its own divider, and only a cell's islands 0 to 9 follow
its throttle step. A gated cell's islands stop, but for its router and PHYs (16 R515; of a clock-gated cell DEDUCED, log entry 77). -/
def islandMHz (s : State) (i : Nat) : Nat :=
  if i < 96 then
    let x := s.cell (i / 12)
    if i % 12 ≥ 10 then 2000
    else if x.gate ≠ .running then 0
    else if i % 12 = 9 then docMHz x.step else stepMHz x.step
  else if i < 112 then (if i % 2 = 0 then 1600 else 1200)
  else if i < 120 then [1500, 1000, 1000, 2000].getD (i % 4) 0
  else [1600, 1600, 1600, 2000].getD (i % 4) 0

/-- An alarm of a clock monitor; its record names the island (01 R30). -/
def clockAlarm (s : State) (island die : Nat) : State :=
  raise s die { VentRec.mk0 s 0x0701 sevAlarm with
    die := BitVec.ofNat 8 die, island := BitVec.ofNat 8 island, d0 := BitVec.ofNat 64 island }

/-- Both half-cells of a cell are quarantined. -/
def clockHalves (s : State) (c : Nat) : State :=
  (s.updHalf (2 * c) fun x => { x with clockBad := true }).updHalf (2 * c + 1) fun x => { x with clockBad := true }

/-- The fabric links of a die are failed: a device fault (01 R26). -/
def failLinks (s : State) (die : Nat) : State :=
  let ns := (List.range 31).filter fun n => !(s.link n).failed && ((linkDies n).1 == die || (linkDies n).2 == die)
  let s1 := ns.foldl (fun s n =>
    alarm (s.updLink n fun l => { l with failed := true }) 0x0101 0xFF 16 ((linkDies n).1 + 256 * (linkDies n).2) 0 0 0) s
  if ns.isEmpty then s else setAlert (s1.updFw fun f => { f with deviceFault := true }) 2 true

/-- What a trip does to the unit that the island serves. The alarm of a quarantine has no cause code for a clock: its detail word
is a free value (DESIGN CHOICE, log entry 10). -/
def clockTrip (s : State) (i : Nat) : State :=
  let f := s.free 1
  let cause := fromLE f.1
  if i < 96 then
    let c := i / 12
    let l := i % 12
    let s1 := clockAlarm f.2 i c
    if l < 5 then quarantine s1 (uMU c l) cause
    else if l = 5 then quarantine s1 (uVE c) cause
    else if l = 6 then quarantine s1 (uRU c) cause
    else if l = 9 then (List.range 5).foldl (fun s p => quarantine s (uDoc c p) cause) s1
    else if l < 10 then clockHalves s1 c
    else failLinks (clockHalves s1 c) c
  else if i < 112 then
    let k := (i - 96) / 2
    let s1 := clockAlarm s i (8 + k)
    if (s1.stack k).failed then s1 else alarm (s1.updStack k fun x => { x with failed := true }) 0x0202 0xFF (8 + k) k 0 0 0
  else if i < 120 then curatorRestart (clockAlarm s i (16 + (i - 112) / 4)) (Fin.ofNat 2 ((i - 112) / 4))
  else linkDieDown (clockAlarm s i (18 + (i - 120) / 4)) (Fin.ofNat 2 ((i - 120) / 4))

/-- CLOCK_MONITOR_TRIP. -/
def execClockMonitorTrip (island : Fin 128) (s : State) : Host.Outcome State Fault Refusal :=
  .next (if s.alive then clockTrip s island else s)

/-- TIMESTAMP_SYNC_TICK: every unit is corrected to the master. -/
def execTimestampSyncTick (s : State) : Host.Outcome State Fault Refusal :=
  .next { s with clk := { s.clk with units := List.replicate 20 (BitVec.ofNat 64 s.now) } }

/-! ### Throttle steps (16 R510 to R512) -/

/-- `n` ns have passed since a time, or there is none (0). -/
def passed (s : State) (t n : Nat) : Bool := decide (t = 0) || decide (s.now ≥ t + n)

/-- A cell moves toward the deeper of the two steps asked for, by one step per 100 µs, or at once to step 4. -/
def cellMove (s : State) (c : Nat) (jump : Bool) : State :=
  let x := s.cell c
  let goal := max x.tempStep x.powStep
  let next := if jump then goal else if goal > x.step then x.step + 1 else if goal < x.step then x.step - 1 else x.step
  if next = x.step ∨ (!jump ∧ !passed s x.lastStep 100000) then s
  else
    let cause := if x.tempStep ≥ x.powStep then 1 else 0
    let s1 := s.setCell c { x with step := next, lastStep := s.now }
    let s2 := logEvent s1 0x1006 1 0xFF c 0 c (x.step + 256 * next) cause 0
    if next > s.rst.servStep ∧ x.step ≤ s.rst.servStep then alarm s2 0x0702 0xFF c c next cause 0 else s2

/-- A cell's power or temperature asks for a step. -/
def askPower (s : State) (c n : Nat) : State := s.updCell c fun x => { x with powStep := min 4 n }
def askTemp (s : State) (c n : Nat) : State := s.updCell c fun x => { x with tempStep := min 4 n }

/-- Every cell goes one step deeper. -/
def allDeeper (s : State) : State :=
  (List.range 8).foldl (fun s c =>
    if passed s (s.cell c).lastStep 100000 then cellMove (askPower s c ((s.cell c).step + 1)) c false else s) s

/-! ### Power (16 R513) -/

/-- The budget of a die in 0.1 W (01 R37). -/
def dieBudget (d : Nat) : Nat := if d < 8 then 850 else if d < 16 then 320 else if d < 18 then 350 else 700

/-- A cell's 1 ms average: deeper above 85 W, at most once per 1 ms; back after 10 ms below 80 W (DESIGN CHOICE, log entry 34). -/
def cellPower (s : State) (c p : Nat) : State :=
  let x := s.cell c
  if p > 850 then
    let s1 := s.setCell c { x with underSince := none }
    if passed s x.lastStep 1000000 then cellMove (askPower s1 c (x.step + 1)) c false else s1
  else if p < 800 then
    match x.underSince with
    | none => s.setCell c { x with underSince := some s.now }
    | some t =>
      if s.now ≥ t + 10000000 then
        cellMove (s.setCell c { x with underSince := some s.now, powStep := x.powStep - 1 }) c false
      else cellMove s c false
  else cellMove (s.setCell c { x with underSince := none }) c false

/-- The package's 10 µs average: excursions above 1,200 W, and the limit of 1,400 W. -/
def packagePower (s : State) (pkg : Nat) : State :=
  let r := s.rst
  if pkg ≤ 1200 then s.updRst fun r => { r with packageW := pkg, excursion := false, excAt := none }
  else
    let quiet := match r.overAt with | some t => decide (s.now ≥ t + 90000000) | none => true
    let since := if r.excursion then r.excAt else if quiet then some s.now else none
    let s1 := s.updRst fun r =>
      { r with packageW := pkg, overAt := some s.now, excursion := true, excAt := since,
               excursions := if r.excursion then r.excursions else satInc r.excursions }
    let long := match since with | some t => decide (s.now ≥ t + 10000000) | none => true
    if long || decide (pkg > 1400) then allDeeper s1 else s1

/-- POWER_MONITOR_TICK: the package's average in W and each die's in 0.1 W. The controller acts on the hub that holds
authority. -/
def powerTick (s : State) (pkg : Nat) (dies : List Nat) : State :=
  if !s.alive then s
  else
    let s1 := (List.range 20).foldl (fun s d =>
      let p := dies.getD d 0
      let tooHigh (q : Nat) : Bool := decide (d ≥ 8) && (decide (d < 16) || decide (d ≥ 18)) && decide (q * 10 > dieBudget d * 11)
      let s1 := s.updDie d fun x => { x with power := p }
      if tooHigh p && !tooHigh (s.die d).power then alarm s1 0x0703 0xFF d d p 0 0 else s1) s
    if s1.holderHub.isNone then s1.updRst fun r => { r with packageW := pkg }
    else packagePower ((List.range 8).foldl (fun s c => cellPower s c (dies.getD c 0)) s1) pkg

def execPowerMonitorTick (pkg : Nat) (dies : List Nat) (s : State) : Host.Outcome State Fault Refusal :=
  .next (powerTick s pkg dies)

/-- EXCURSION_TIMEOUT: the excursion has lasted 10 ms. -/
def execExcursionTimeout (s : State) : Host.Outcome State Fault Refusal :=
  .next (if s.alive ∧ s.rst.excursion ∧ s.holderHub.isSome then allDeeper (s.updRst fun r => { r with excAt := none }) else s)

/-! ### Power states (16 R514, R515) -/

/-- A request runs on the cell. -/
def cellBusy (s : State) (c : Nat) : Bool :=
  decide ((s.half (2 * c)).req ≠ none) || decide ((s.half (2 * c + 1)).req ≠ none)

def gateCell (s : State) (c : Nat) (g : CellGate) : State := s.updCell c fun x => { x with gate := g }

/-- PF0_D3HOT_ENTRY: running requests drain, and cells without one are power-gated. Wings keep their state, scratchpads
included (DEDUCED, log entry 35). -/
def pf0Sleep (s : State) : State :=
  if !s.alive then s
  else
    let s1 := drainRunning (s.updFnSt 0 fun f => { f with d3 := true })
    (List.range 8).foldl (fun s c => if cellBusy s c then s else gateCell s c .power) s1

def execPf0D3hotEntry (s : State) : Host.Outcome State Fault Refusal := .next (pf0Sleep s)

/-- PF0_D0_RETURN: fetching resumes; cells with a bound half-cell have their power back. -/
def pf0Wake (s : State) : State :=
  let bound (c : Nat) : Bool := (s.half (2 * c)).owner.isSome || (s.half (2 * c + 1)).owner.isSome
  (List.range 8).foldl (fun s c => if bound c then gateCell s c .running else s) (s.updFnSt 0 fun f => { f with d3 := false })

def execPf0D0Return (s : State) : Host.Outcome State Fault Refusal := .next (if s.alive ∧ (s.fnSt 0).d3 then pf0Wake s else s)

/-- VF_D3HOT_ENTRY: no request carries the VF's requester ID. -/
def execVfD3hotEntry (fn : Fn) (s : State) : Host.Outcome State Fault Refusal :=
  .next (if fn ≠ 0 ∧ s.alive ∧ s.fnEnabled fn then s.updFnSt fn fun f => { f with d3 := true } else s)

/-- VF_D0_RETURN. -/
def execVfD0Return (fn : Fn) (s : State) : Host.Outcome State Fault Refusal :=
  .next (if fn ≠ 0 ∧ s.alive then s.updFnSt fn fun f => { f with d3 := false } else s)

/-- What a cell holds is lost with its power (16 R515). -/
def cellLost (s : State) (c : Nat) : State :=
  { keepLeaves s (fun x => x.loc != c) with
           sp := s.sp.clear (spBase (2 * c)) (2 * spSize), ptw := s.ptw.filter (fun x => x.loc != c) }

/-- CELL_IDLE_GATE: 1 ms without work. A cell with no half-cell bound is power-gated, one with none bound to an ENABLED wing
clock-gated; in D3hot a cell that has drained is power-gated (16 R514). -/
def idleGate (s : State) (c : Nat) : State :=
  let owners := [(s.half (2 * c)).owner, (s.half (2 * c + 1)).owner]
  let on := owners.any fun o => match o with | some w => decide ((s.wing w).state = .enabled) | none => false
  if !s.alive || cellBusy s c then s
  else if owners.all (·.isNone) then cellLost (gateCell s c .power) c
  else if (s.fnSt 0).d3 then gateCell s c .power
  else if !on then gateCell s c .clock
  else s

def execCellIdleGate (cell : Cell) (s : State) : Host.Outcome State Fault Refusal := .next (idleGate s cell)

/-! ### Temperatures (16 R516 to R518) -/

/-- A sensor: die × 32 + index; for stacks, index 2 + layer is a DRAM layer. -/
def sensorDie (k : Nat) : Nat := k / 32
def tripValue (k : Nat) : Nat := if 8 ≤ sensorDie k ∧ sensorDie k < 16 ∧ k % 32 ≥ 2 then 115 else 112

/-- The hottest of some readings: sensor and °C. -/
def hottest (l : List (Nat × Nat)) : Option (Nat × Nat) :=
  l.foldl (fun m x => match m with | some y => if x.2 > y.2 then some x else m | none => some x) none

/-- Two consecutive readings of one sensor above its trip value assert THERMAL_TRIP, with its alarm before the reset. -/
def tripCheck (s : State) (reads : List (Nat × Nat)) : State :=
  let above := (reads.filter fun x => decide (x.2 > tripValue x.1)).map (·.1)
  let read := reads.map (·.1)
  let twice := above.filter s.rst.overTrip.contains
  let s1 := s.updRst fun r => { r with overTrip := (r.overTrip.filter fun k => !read.contains k) ++ above }
  match twice with
  | [] => s1
  | k :: _ =>
    if s.rst.thermtrip then s1
    else
      let t := ((reads.find? fun x => x.1 == k).map (·.2)).getD 0
      assertSource ((alarm s1 0x0704 0xFF (sensorDie k) (sensorDie k) (k % 32) t 1).updRst fun r => { r with thermtrip := true }) 8 7

/-- THM_DIE of a die follows its readings. -/
def dieTemp (s : State) (d sensor t : Nat) (hot : Bool) : State := s.updDie d fun x => { x with sensor := sensor, temp := t, hot := hot }

/-- A cell's hottest sensor (16 R517). -/
def cellTemp (s : State) (c t : Nat) : State :=
  let x := s.cell c
  if t ≥ 105 then cellMove (askTemp (s.setCell c { x with coolSince := none }) c 4) c true
  else if t ≥ 100 then
    let s1 := s.setCell c { x with coolSince := none }
    if passed s x.lastStep 1000000 then cellMove (askTemp s1 c (x.step + 1)) c false else s1
  else if t < 97 then
    match x.coolSince with
    | none => cellMove (s.setCell c { x with coolSince := some s.now }) c false
    | some since =>
      if s.now ≥ since + 10000000 then
        cellMove (s.setCell c { x with coolSince := some s.now, tempStep := x.tempStep - 1 }) c false
      else cellMove s c false
  else cellMove (s.setCell c { x with coolSince := none }) c false

/-- One die's readings. -/
def dieSample (s : State) (d : Nat) (reads : List (Nat × Nat)) : State :=
  let k := s.stack (d - 8)
  let mine := (reads.filter fun x => sensorDie x.1 == d) ++
    (if 8 ≤ d ∧ d < 16 ∧ k.temp ≠ 0 then [(d * 32 + 2 + k.hotLayer, k.temp)] else [])
  match hottest mine with
  | none => s
  | some h =>
    let t := h.2
    if d < 8 then
      let s1 := cellTemp s d t
      dieTemp s1 d (h.1 % 32) t (decide (t ≥ 100) || decide ((s1.cell d).tempStep ≠ 0))
    else if d < 16 then dieTemp s d (h.1 % 32) t false
    else
      let s1 := dieTemp s d (h.1 % 32) t (decide (t ≥ 100))
      if t ≥ 100 ∧ (s.die d).temp < 100 then alarm s1 0x0704 0xFF d d (h.1 % 32) t 0 else s1

/-- THERMAL_SAMPLE: the sensors of the logic dies are read. THERMTRIP# ends when every sensor reads below 90 °C. -/
def thermalSample (s : State) (reads : List (Nat × Nat)) : State :=
  if !s.rst.pwrOk then s
  else
    let s1 := if s.alive then (List.range 20).foldl (fun s d => dieSample s d reads) s else s
    let cool := reads.all (fun x => decide (x.2 < 90)) && (List.range 8).all fun k => decide ((s.stack k).temp < 90)
    if cool then s1.updRst fun r => { r with thermtrip := false, overTrip := [] } else tripCheck s1 reads

def execThermalSample (temps : List (Nat × Nat)) (s : State) : Host.Outcome State Fault Refusal := .next (thermalSample s temps)

/-! ### DRAM layers (11 R343, R344) -/

/-- The refresh rate for a hottest layer: 0 for 1×, 1 for 2×, 2 for 4×. -/
def refreshFor (t : Nat) : Nat := if t < 85 then 0 else if t < 95 then 1 else 2

/-- Since when a condition has held. -/
def sinceWhen (cond : Bool) (old : Option Nat) (now : Nat) : Option Nat := if cond then some (old.getD now) else none

/-- It has held for 10 ms. -/
def held10ms (since : Option Nat) (now : Nat) : Bool := match since with | some t => decide (now ≥ t + 10000000) | none => false

/-- DRAM_TEMP_SAMPLE: the layers of a stack. A rate rises at once, and falls after 10 ms at 3 °C below its lower threshold. -/
def dramTemp (s : State) (k : Nat) (temps : List Nat) : State :=
  let reads := temps.zipIdx.map fun y => (y.2, y.1)
  match hottest reads with
  | none => s
  | some h =>
    if !s.alive then s
    else
      let t := h.2
      let x := s.stack k
      let now := s.now
      let c1 := sinceWhen (decide (t ≤ 82)) x.coolAt now
      let c2 := sinceWhen (decide (t ≤ 92)) x.coolAt2 now
      let c3 := sinceWhen (decide (t ≤ 102)) x.throttleCoolAt now
      let want := refreshFor t
      let down := if held10ms c1 now then 0 else if held10ms c2 now then 1 else 2
      let rate := if want ≥ x.refresh then want else max want (min x.refresh down)
      let thr := decide (t > 105) || (x.throttle && !held10ms c3 now)
      let s1 := s.setStack k { x with temp := t, hotLayer := h.1, coolAt := c1, coolAt2 := c2, throttleCoolAt := c3,
                                      refresh := rate, throttle := thr }
      let s2 := if thr && !x.throttle then alarm s1 0x0203 0xFF (8 + k) k h.1 t 0 else s1
      tripCheck s2 (reads.map fun y => ((8 + k) * 32 + 2 + y.1, y.2))

def execDramTempSample (stack : StackIx) (temps : List Nat) (s : State) : Host.Outcome State Fault Refusal :=
  .next (dramTemp s stack temps)

end Sys2Proof.Machine
end

