-- ==== Sys2Proof/Machine/Spdm.lean ====
section
/-! DEFINITION. The attestation, session, IDE and TDISP rows (15 R475 to R481), carried as DOE objects (14 R445). The formats are
those of SPDM 1.2, IDE_KM and TDISP (PRESUMED, log entry 31); a secured message stands as its plaintext. -/

namespace Sys2Proof.Machine

/-! ### Objects -/

/-- A DOE object of a protocol: 1 CMA-SPDM, 2 Secured CMA-SPDM. -/
def doeObject (proto : Nat) (data : Bytes) : Bytes :=
  let n := (data.length + 3) / 4
  leBytes 2 1 ++ [BitVec.ofNat 8 proto, 0#8] ++ leBytes 4 (n + 2) ++ fitTo (4 * n) data

/-- An SPDM response in the clear, and one inside a session. -/
def spdmSend (s : State) (fn : Fn) (data : Bytes) : State := doeAnswer s fn (doeObject 1 data)
def spdmSecure (s : State) (fn : Fn) (data : Bytes) : State := doeAnswer s fn (doeObject 2 data)

/-- ERROR: 1 InvalidRequest, 2 InvalidSession, 3 Busy, 4 UnexpectedRequest, 5 Unspecified, 6 DecryptError. -/
def spdmError (s : State) (fn : Fn) (code : Nat) : State := spdmSend s fn [0x12#8, 0x7F#8, BitVec.ofNat 8 code, 0#8]

/-- A request of the function's DOE: taken when the instance is open; Busy during the self-test, Unspecified while the Vault
cannot serve (15 R463, R483). -/
def spdmTake (s : State) (fn : Fn) (f : State → State) : State :=
  if !doeOpen s fn then s
  else if s.vlt.mode = .selfTest then spdmError s fn 3
  else if !vaultServes s then spdmError s fn 5
  else f s

/-- A request that needs the negotiation done. -/
def spdmAfter (s : State) (fn : Fn) (f : State → State) : State :=
  spdmTake s fn fun s => if (s.fnSt fn).spdm = .negotiated then f s else spdmError s fn 4

/-! ### Measurements (15 R476, R477) -/

/-- Digest of the component of a type of the running image. -/
def componentDigest (s : State) (t : Nat) : Bytes :=
  let d := s.fw.booted_.data
  match (List.range (leAt d 15 1)).find? fun i => imgType d i == t with
  | some i => slice d (80 + 64 * i) 48
  | none => Config.factoryDigest t

/-- Bytes of an archive's entries. -/
def entriesBytes (es : List (Nat × Bytes)) : Bytes :=
  es.flatMap fun e => leBytes 2 e.1 ++ leBytes 2 e.2.length ++ fitTo ((e.2.length + 7) / 8 * 8) e.2

/-- TDI states of a wing's VFs. -/
def wingTdis (s : State) (w : Nat) : Bytes := (s.wingVfs w).map fun v => BitVec.ofNat 8 (tdiCode (s.tdi v).state)

/-- The configuration that bytes 76 to 123 of a wing block digest. -/
def wingConfig (s : State) (w : Nat) : Bytes :=
  let x := s.wing w
  leBytes 4 x.live.policy.toNat ++ leBytes 4 x.live.weight.toNat ++ leBytes 4 x.live.floor.toNat ++ leBytes 8 x.live.ptRoot.toNat ++
  (wingUnits s w).flatMap (queryEntry s) ++ leBytes 4 x.pasid.toNat ++ leBytes 4 x.cacheCtl.toNat ++ leBytes 4 x.dirCtl.toNat ++
  wingTdis s w

/-- The wing block (15 R477). -/
def wingBlock (s : State) (w : Nat) : Bytes :=
  let x := s.wing w
  [BitVec.ofNat 8 (grantBits x), BitVec.ofNat 8 (wingCode x.state)] ++ leBytes 2 (wingHalfMask s w) ++
  fitTo 16 ((x.tk.map keyId).getD []) ++ leBytes 8 x.lastSeq.toNat ++ fitTo 48 x.lastChain ++ sha384 (wingConfig s w) ++
  List.replicate 32 0#8 ++ leBytes 4 (s.wingVfs w).length

/-- The value of a block other than 0xEF, and whether it is raw. -/
def measValue (s : State) (i : Nat) : Option (Bytes × Bool) :=
  match i with
  | 1 => some (componentDigest s 1, false)
  | 2 => some (sha384 (componentDigest s 2 ++ leBytes 2 s.fw.booted_.svn.toNat), false)
  | 3 => some (sha384 (componentDigest s 3 ++ componentDigest s 4 ++ componentDigest s 5), false)
  | 4 => some (sha384 ([s.fw.schema] ++ entriesBytes (((chosenCopy s.fw).map (·.entries)).getD [])), false)
  | 5 => some (fitTo 32 ([BitVec.ofNat 8 (vaultCode s.vlt.mode), BitVec.ofNat 8 (b2n s.vlt.sync)] ++ leBytes 4 s.vlt.tamper.toNat ++
      [BitVec.ofNat 8 (b2n s.fw.unlock)] ++ leBytes 8 s.rst.boot.toNat), true)
  | 6 => some (sha384 ((List.range 12).flatMap fun k => leBytes 4 (rstMapReg s k)), false)
  | 7 => some (sha384 (pairPayload s ++ fitTo 16 ((s.par.pk.map keyId).getD [])), false)
  | 8 => some (sha384 ((List.range 8).flatMap fun k =>
      leBytes 8 (s.peer k).base.toNat ++ leBytes 8 (s.peer k).limit.toNat ++ leBytes 2 (s.peer k).wings.toNat), false)
  | _ => if 16 ≤ i ∧ i < 32 then some (wingBlock s (i - 16), true) else none

/-- A block in the DMTF representation. -/
def measBlock (i : Nat) (v : Bytes) (raw : Bool) : Bytes :=
  [BitVec.ofNat 8 i, 1#8] ++ leBytes 2 (v.length + 3) ++ [BitVec.ofNat 8 ((if i ≤ 3 then 1 else 3) + 128 * b2n raw)] ++
  leBytes 2 v.length ++ v

/-- The blocks that a function obtains, besides 0xEF. -/
def measIndices (s : State) (fn : Fn) : List Nat :=
  if fn = 0 then (List.range 8).map (· + 1) ++ (List.range 16).map (· + 16)
  else match s.fnWing fn with
  | some w => (List.range 8).map (· + 1) ++ [16 + w.val]
  | none => (List.range 8).map (· + 1)

/-- Whether the function obtains the signature block 0xEF. -/
def measSigned (s : State) (fn : Fn) : Bool := decide (fn = 0) || (s.fnWing fn).isSome

/-- M: what the alias certificate carries (15 R469). -/
def measM (s : State) : Bytes := sha384 ([1, 2, 3].flatMap fun i => ((measValue s i).map (·.1)).getD [])

/-- The certificate chain of a slot; that of slot 1 carries M. -/
def chainOf (s : State) (slot : Nat) : Bytes := Config.certChain slot ++ (if slot = 1 then measM s else [])

/-! ### Negotiation, certificates, evidence (15 R475) -/

/-- GET_VERSION: 1.2; the negotiation starts again. -/
def execGetVersion (fn : Fn) (s : State) : Host.Outcome State Fault Refusal :=
  .next (spdmTake s fn fun s =>
    spdmSend (s.updFnSt fn fun f => { f with spdm := .version }) fn ([0x10#8, 0x04#8, 0#8, 0#8, 0#8, 1#8] ++ leBytes 2 0x1200))

/-- GET_CAPABILITIES: CERT, CHAL, MEAS with signature, ENCRYPT, MAC, MUT_AUTH, KEY_EX, HBEAT, KEY_UPD. The response time
exponent is a free value (DESIGN CHOICE, log entry 10). -/
def execGetCapabilities (fn : Fn) (s : State) : Host.Outcome State Fault Refusal :=
  .next (spdmTake s fn fun s =>
    if (s.fnSt fn).spdm = .none then spdmError s fn 4
    else
      let f := s.free 1
      spdmSend (f.2.updFnSt fn fun x => { x with spdm := .capabilities }) fn
        ([0x12#8, 0x61#8, 0#8, 0#8, 0#8] ++ f.1 ++ [0#8, 0#8] ++ leBytes 4 0x63D6 ++ leBytes 4 0x4000 ++ leBytes 4 0x4000))

/-- NEGOTIATE_ALGORITHMS: ECDSA P-384, SHA-384, secp384r1, AES-256-GCM. -/
def execNegotiateAlgorithms (fn : Fn) (s : State) : Host.Outcome State Fault Refusal :=
  .next (spdmTake s fn fun s =>
    if (s.fnSt fn).spdm ≠ .capabilities then spdmError s fn 4
    else
      spdmSend (s.updFnSt fn fun x => { x with spdm := .negotiated }) fn
        ([0x12#8, 0x63#8, 4#8, 0#8] ++ leBytes 2 52 ++ [1#8, 0#8] ++ leBytes 4 4 ++ leBytes 4 0x80 ++ leBytes 4 2 ++
          List.replicate 16 0#8 ++ [2#8, 0x20#8] ++ leBytes 2 0x10 ++ [3#8, 0x20#8] ++ leBytes 2 2 ++ [4#8, 0x20#8] ++ leBytes 2 0x80 ++
          [5#8, 0x20#8] ++ leBytes 2 1))

/-- GET_DIGESTS: of the chains of slots 0 and 1. -/
def execGetDigests (fn : Fn) (s : State) : Host.Outcome State Fault Refusal :=
  .next (spdmAfter s fn fun s => spdmSend s fn ([0x12#8, 0x01#8, 0#8, 3#8] ++ sha384 (chainOf s 0) ++ sha384 (chainOf s 1)))

/-- GET_CERTIFICATE: the chain of slot 0 or 1. -/
def execGetCertificate (fn : Fn) (slot : Fin 8) (s : State) : Host.Outcome State Fault Refusal :=
  .next (spdmAfter s fn fun s =>
    if slot.val > 1 then spdmError s fn 1
    else spdmSend s fn ([0x12#8, 0x02#8, BitVec.ofNat 8 slot, 0#8] ++ leBytes 2 (chainOf s slot).length ++ leBytes 2 0 ++ chainOf s slot))

/-- CHALLENGE: a signature by AK over the requester's nonce and the response. -/
def execChallenge (fn : Fn) (slot : Fin 8) (nonce : Bytes) (s : State) : Host.Outcome State Fault Refusal :=
  .next (spdmAfter s fn fun s =>
    if slot.val > 1 then spdmError s fn 1
    else
      let f := s.free 32
      let body := [0x12#8, 0x03#8, BitVec.ofNat 8 slot, BitVec.ofNat 8 (2 ^ slot.val)] ++ sha384 (chainOf s slot) ++ f.1 ++ leBytes 2 0
      spdmSend f.2 fn (body ++ fitTo 96 (Config.sign (sha384 (fitTo 32 nonce ++ body)))))

/-- The record of a GET_MEASUREMENTS: one block, or all of them and their ML-DSA-87 signature for index 0xFF. -/
def measRecord (s : State) (fn : Fn) (i : Nat) (nonce : Bytes) : Option (Nat × Bytes) :=
  let mine := measIndices s fn
  let block (k : Nat) : Bytes := match measValue s k with | some v => measBlock k v.1 v.2 | none => []
  let signed (b : Bytes) : Bytes := measBlock 0xEF (fitTo 4627 (Config.signPq (sha384 (b ++ fitTo 32 nonce)))) true
  if i = 0 then some (0, [])
  else if i = 0xFF then
    let b := mine.flatMap block
    if measSigned s fn then some (mine.length + 1, b ++ signed b) else some (mine.length, b)
  else if i = 0xEF then (if measSigned s fn then some (1, signed []) else none)
  else if mine.contains i then some (1, block i) else none

/-- GET_MEASUREMENTS: index 0 asks for their number. The response is signed by AK. -/
def getMeasurements (s : State) (fn : Fn) (i : Nat) (nonce : Bytes) : State :=
  match measRecord s fn i nonce with
  | none => spdmError s fn 1
  | some (n, r) =>
    let total := (measIndices s fn).length + b2n (measSigned s fn)
    let f := s.free 32
    let body := [0x12#8, 0x60#8, BitVec.ofNat 8 (if i = 0 then total else 0), 1#8, BitVec.ofNat 8 n] ++ leBytes 3 r.length ++ r ++ f.1 ++
      leBytes 2 0
    spdmSend f.2 fn (body ++ fitTo 96 (Config.sign (sha384 (fitTo 32 nonce ++ body))))

def execGetMeasurements (fn : Fn) (index : Byte) (nonce : Bytes) (s : State) : Host.Outcome State Fault Refusal :=
  .next (spdmAfter s fn fun s => getMeasurements s fn index.toNat nonce)

/-! ### Sessions (15 R465, R475) -/

/-- KEY_EXCHANGE: at most 4 sessions per function and 256 in the device. Key shares and the random data are free values. -/
def keyExchange (s : State) (fn : Fn) (sid : W32) (anchor : BitVec 384) (both : Bool) : State :=
  let mine := s.vlt.sessions.filter fun x => x.fn == fn
  if mine.length ≥ 4 ∨ s.vlt.sessions.length ≥ 256 then spdmError s fn 3
  else if mine.any (fun x => x.sid == sid) then spdmError s fn 1
  else
    let f := s.free 272
    let officer := both && decide (fn = 0) && decide (anchor = s.vlt.anchor) && decide (anchor ≠ 0)
    let x : Session := { fn := fn, sid := sid, finished := false, officer := officer, seqNo := 0, secret := f.1.drop 224 }
    let body := [0x12#8, 0x64#8, 0#8, 0#8] ++ leBytes 2 sid.toNat ++ [BitVec.ofNat 8 (b2n both), 0#8] ++ f.1.take 128 ++ leBytes 2 0
    spdmSend (f.2.updVlt fun v => { v with sessions := v.sessions ++ [x] }) fn
      (body ++ fitTo 96 (Config.sign (sha384 body)) ++ slice f.1 176 48)

def execKeyExchange (fn : Fn) (sid : W32) (anchor : BitVec 384) (both : Bool) (s : State) : Host.Outcome State Fault Refusal :=
  .next (spdmAfter s fn fun s => keyExchange s fn sid anchor both)

/-- The session of a function with an ID. -/
def findSession (s : State) (fn : Fn) (sid : W32) : Option Session := s.vlt.sessions.find? fun x => x.fn == fn && x.sid == sid

def dropSession (s : State) (fn : Fn) (sid : W32) : State :=
  s.updVlt fun v => { v with sessions := v.sessions.filter fun x => !(x.fn == fn && x.sid == sid) }

def updSession (s : State) (fn : Fn) (sid : W32) (f : Session → Session) : State :=
  s.updVlt fun v => { v with sessions := v.sessions.map fun x => if x.fn = fn ∧ x.sid = sid then f x else x }

/-- FINISH: the handshake is complete; one that does not verify ends the session. -/
def execFinish (fn : Fn) (sid : W32) (ok : Bool) (s : State) : Host.Outcome State Fault Refusal :=
  .next (spdmAfter s fn fun s =>
    match findSession s fn sid with
    | none => spdmError s fn 2
    | some x =>
      if x.finished then spdmError s fn 4
      else if !ok then spdmError (dropSession s fn sid) fn 6
      else spdmSecure (updSession s fn sid fun x => { x with finished := true }) fn [0x12#8, 0x65#8, 0#8, 0#8])

/-- A request inside a finished session. -/
def inSession (s : State) (fn : Fn) (sid : W32) (f : State → State) : State :=
  spdmAfter s fn fun s =>
    match findSession s fn sid with
    | none => spdmError s fn 2
    | some x => if x.finished then f s else spdmError s fn 4

/-- HEARTBEAT (SPDM). -/
def execSpdmHeartbeat (fn : Fn) (sid : W32) (s : State) : Host.Outcome State Fault Refusal :=
  .next (inSession s fn sid fun s =>
    spdmSecure (updSession s fn sid fun x => { x with seqNo := x.seqNo + 1 }) fn [0x12#8, 0x68#8, 0#8, 0#8])

/-- KEY_UPDATE: the session's sequence number starts again. -/
def execKeyUpdate (fn : Fn) (sid : W32) (s : State) : Host.Outcome State Fault Refusal :=
  .next (inSession s fn sid fun s =>
    spdmSecure (updSession s fn sid fun x => { x with seqNo := 0 }) fn [0x12#8, 0x69#8, 0#8, 0#8])

/-- END_SESSION. -/
def execEndSession (fn : Fn) (sid : W32) (s : State) : Host.Outcome State Fault Refusal :=
  .next (inSession s fn sid fun s => spdmSecure (dropSession s fn sid) fn [0x12#8, 0x6C#8, 0#8, 0#8])

/-! ### IDE key management (15 R478) -/

/-- A VENDOR_DEFINED response of PCI-SIG: protocol 0 IDE_KM, 1 TDISP. -/
def vendorRsp (proto : Nat) (body : Bytes) : Bytes :=
  [0x12#8, 0x7E#8, 0#8, 0#8] ++ leBytes 2 3 ++ [2#8] ++ leBytes 2 1 ++ leBytes 2 (body.length + 1) ++ [BitVec.ofNat 8 proto] ++ body

/-- An IDE_KM request: over a Crypto Officer session of PF0. -/
def ideKm (s : State) (fn : Fn) (f : State → State) : State :=
  spdmAfter s fn fun s => if isOfficer s fn then f s else spdmError s fn 4

/-- An acknowledgment of IDE_KM: object, stream, status, and key set with substream and direction. -/
def ideAck (s : State) (fn : Fn) (obj stream status sub : Nat) : State :=
  spdmSecure s fn (vendorRsp 0 ([BitVec.ofNat 8 obj, 0#8, 0#8] ++ [BitVec.ofNat 8 stream, BitVec.ofNat 8 status, BitVec.ofNat 8 sub, 0#8]))

/-- IDE_KEY_PROGRAM: one transmit or receive key of one substream. -/
def ideKeyProgram (s : State) (fn : Fn) (k set_ sub : Nat) (vf : Fn) : State :=
  let x := s.ide k
  let add (l : List Nat) : List Nat := if l.contains sub then l else l ++ [sub]
  let y := if set_ = 0 then { x with keys0 := add x.keys0 } else { x with keys1 := add x.keys1 }
  ideAck (s.setIde k { y with vf := if k < 8 then some vf else none }) fn 3 k 0 (set_ + 2 * sub)

def execIdeKeyProgram (fn : Fn) (stream : Fin 9) (keySet : Fin 2) (sub : Fin 6) (vf : Fn) (s : State) :
    Host.Outcome State Fault Refusal := .next (ideKm s fn fun s => ideKeyProgram s fn stream keySet sub vf)

/-- K_SET_GO: the stream switches to a key set whose six keys are loaded, and is secure. -/
def kSetGo (s : State) (fn : Fn) (k set_ : Nat) : State :=
  let x := s.ide k
  let keys := if set_ = 0 then x.keys0 else x.keys1
  if keys.length = 6 then ideAck (s.setIde k { x with cur := some (decide (set_ = 1)), secure := true }) fn 6 k 0 set_
  else ideAck s fn 6 k 4 set_

def execKSetGo (fn : Fn) (stream : Fin 9) (keySet : Fin 2) (s : State) : Host.Outcome State Fault Refusal :=
  .next (ideKm s fn fun s => kSetGo s fn stream keySet)

/-- IDE_INTEGRITY_FAILURE: the stream is Insecure until it is programmed again. -/
def execIdeIntegrityFailure (stream : Fin 9) (s : State) : Host.Outcome State Fault Refusal :=
  .next (if (s.ide stream).secure ∧ s.alive then
      alarm (ideInsecure s stream) 0x0502 0xFF (16 + s.pcie.activeHub) stream 0 0 0
    else s)

/-! ### TDISP (15 R479 to R481) -/

/-- A TDISP message of a VF. -/
def tdispSend (s : State) (fn : Fn) (code : Nat) (body : Bytes) : State :=
  spdmSecure s fn (vendorRsp 1 ([0x10#8, BitVec.ofNat 8 code, 0#8, 0#8] ++ leBytes 4 fn.val ++ List.replicate 8 0#8 ++ body))

/-- TDISP_ERROR: 1 INVALID_REQUEST, 4 INVALID_INTERFACE_STATE. -/
def tdispError (s : State) (fn : Fn) (code : Nat) : State := tdispSend s fn 0x7F (leBytes 4 code ++ leBytes 4 0)

/-- A TDISP request: over the session of a Tenant User. -/
def tdisp (s : State) (fn : Fn) (f : State → State) : State :=
  spdmAfter s fn fun s => if isTenantUser s fn then f s else spdmError s fn 4

/-- A selective stream covers the VF's BARs. -/
def streamCovers (s : State) (k : Nat) (fn : Fn) : Bool := (s.ide k).secure && decide ((s.ide k).vf = some fn)

/-- LOCK_INTERFACE: only of the host function of a tenant wing, covered by a selective stream. -/
def lockInterface (s : State) (fn : Fn) (k : Nat) : State :=
  let host := match s.fnWing fn with | some w => decide (s.hostFn w = some fn.val) | none => false
  if (s.tdi fn).state ≠ .unlocked then tdispError s fn 4
  else if !host || !streamCovers s k fn || logFull s then tdispError s fn 1
  else
    let f := (tdiSet s fn .locked).free 32
    tdispSend (f.2.updTdi fn fun t => { t with stream := some k }) fn 3 f.1

def execLockInterface (fn : Fn) (stream : Fin 8) (s : State) : Host.Outcome State Fault Refusal :=
  .next (tdisp s fn fun s => lockInterface s fn stream)

/-- START_INTERFACE. -/
def execStartInterface (fn : Fn) (s : State) : Host.Outcome State Fault Refusal :=
  .next (tdisp s fn fun s =>
    if (s.tdi fn).state ≠ .locked ∨ logFull s then tdispError s fn 4 else tdispSend (tdiSet s fn .run) fn 6 [])

/-- STOP_INTERFACE: the TDI returns to CONFIG_UNLOCKED, and its wing's root is regenerated. -/
def execStopInterface (fn : Fn) (s : State) : Host.Outcome State Fault Refusal :=
  .next (tdisp s fn fun s =>
    if logFull s ∧ (s.tdi fn).state ≠ .unlocked then tdispError s fn 1
    else tdispSend (if (s.tdi fn).state = .unlocked then s else tdiUnlock s fn) fn 7 [])

/-- A range of a report: first 4 KiB page, pages, BAR. -/
def reportRange (bar first pages : Nat) : Bytes := leBytes 8 first ++ leBytes 4 pages ++ leBytes 2 0 ++ leBytes 2 bar

/-- The ranges of BAR0 that the VF sees (14 R438) and those of BAR2 of its wing's extents and half-cells. -/
def reportRanges (s : State) (fn : Fn) : List Bytes :=
  match s.fnWing fn with
  | none => []
  | some w =>
    [reportRange 0 0 8, reportRange 0 0x10 16, reportRange 0 0x20 32, reportRange 0 0x40 1, reportRange 0 0x80 1] ++
    (if (s.wing w).netOwning then [reportRange 0 0x100 1] else []) ++ [reportRange 0 0x180 32] ++
    ((s.wingExtents w).map fun e => reportRange 2 (e * 2 ^ 18) (2 ^ 18)) ++
    ((s.wingHalves w).map fun h => reportRange 2 ((bar2Sp + h * spSize) / 4096) (spSize / 4096))

/-- GET_DEVICE_INTERFACE_REPORT. -/
def execGetDeviceInterfaceReport (fn : Fn) (s : State) : Host.Outcome State Fault Refusal :=
  .next (tdisp s fn fun s =>
    let rs := reportRanges s fn
    let rep := List.replicate 12 0#8 ++ leBytes 4 rs.length ++ rs.flatten
    tdispSend s fn 4 (leBytes 2 rep.length ++ leBytes 2 0 ++ rep))

end Sys2Proof.Machine
end

