-- ==== Sys2Proof/Machine/Security.lean ====
section
/-! DEFINITION. The Vault's services, the accession log's commands, the approved mode, and tamper (15 R463 to R490). -/

namespace Sys2Proof.Machine

/-! ### VAULT_STATUS and VAULT_SELFTEST (15 R468, R482) -/

/-- The 32 B payload of both. -/
def vaultPayload (s : State) (fn : Fn) : Bytes :=
  let mine := if fn = 0 then tenantKeys s
    else match s.fnWing fn with | some w => maskOf 16 fun i => decide (i = w.val) && (s.wing i).tk.isSome | none => 0
  [BitVec.ofNat 8 (vaultCode s.vlt.mode), BitVec.ofNat 8 (b2n s.vlt.sync + 2 * servingHub s + 4 * b2n s.fw.unlock), s.vlt.selftestFail,
    0x10#8] ++ leBytes 2 mine ++ [BitVec.ofNat 8 (b2n s.par.pk.isSome), BitVec.ofNat 8 (s.vlt.tamper.toNat % 32)] ++
  leBytes 8 s.vlt.lastTest ++ List.replicate 16 0#8

def vaultStatus_ : Handler := fun s c =>
  checked s [noWing c, (!vaultServes s, rINTERNAL)] fun s => (s, .done rOK (vaultPayload s c.fn))

def execVaultStatus := scpExec 0x0601 vaultStatus_

/-- A command of a Crypto Officer (15 R465). -/
def needOfficer (s : State) (c : Cmd) : Bool × Byte := (!isOfficer s c.fn, rNOT_PERMITTED)

/-- VAULT_SELFTEST: the Vaults' tests are run again, and pass; a failing entropy source has its own event (DESIGN CHOICE, log entry 36). -/
def vaultSelftest : Handler := fun s c =>
  checked s [noWing c, needOfficer s c, (!vaultServes s, rINTERNAL), (longFull s, rBUSY)] fun s =>
    let s1 := s.updVlt fun v => { v with lastTest := s.now }
    (s1, .done rOK (vaultPayload s1 c.fn))

def execVaultSelftest := scpExec 0x0602 vaultSelftest

/-! ### VAULT_KEY_IMPORT (15 R473) -/

/-- The checks of the table, in order; a WING byte of 16 to 0xFE is handled as 0xFF (03 R589). -/
def importChecks (s : State) (c : Cmd) : List (Bool × Byte) :=
  let p := c.payload
  let kind := leAt p 0 1
  let plain := bit (leAt p 1 1) 0
  let w := if c.wing.toNat ≥ 16 then 0xFF else c.wing.toNat
  let sid : W32 := BitVec.ofNat 32 (leAt p 4 4)
  let role := if kind = 0 then isTenantUser s c.fn && decide ((s.fnWing c.fn).map (·.val) = some w) else isOfficer s c.fn
  let named := plain || (sessionOf s c.fn).any fun x => x.sid == sid
  [(decide (s.vlt.mode = .selfTest ∨ s.vlt.mode = .zeroizing), rBUSY),
   (!vaultServes s, rINTERNAL),
   (decide (fld (leAt p 1 1) 1 7 ≠ 0) || !zeroAt p 2 2 || !zeroAt p 76 4 ||
      (plain && (!zeroAt p 4 4 || !zeroAt p 16 12 || !zeroAt p 60 16)), rRESERVED_FIELD_SET),
   (decide (kind > 1), rRESERVED_VALUE),
   ((decide (kind = 0) && (decide (w = 0xFF) || !(s.wing w).tenant)) || (decide (kind = 1) && decide (w ≠ 0xFF)), rNOT_PERMITTED),
   (plain && decide (s.vlt.mode = .approved), rNOT_APPROVED_MODE),
   (!role || !named || bit s.vlt.tamper.toNat 0 || (decide (kind = 0) && s.fw.unlock), rNOT_PERMITTED),
   (decide (kind = 0) && decide ((s.wing w).state ≠ .disabled), rNOT_PERMITTED),
   ((if kind = 0 then (s.wing w).tk.isSome else s.par.pk.isSome), rRES_OVERLAP),
   (decide (kind = 0) && decide (leAt p 8 8 ≠ (s.wing w).lastSeq.toNat), rATTESTATION_STALE)]

/-- The key: in clear, or unwrapped under the key that the session's export master secret gives. -/
def importedKey (s : State) (c : Cmd) : Option Bytes :=
  if bit (leAt c.payload 1 1) 0 then some (slice c.payload 28 32)
  else ((sessionOf s c.fn).find? fun x => x.sid.toNat == leAt c.payload 4 4).bind fun x =>
    Config.unwrap (x.secret ++ c.payload ++ [c.wing])

def vaultKeyImport : Handler := fun s c =>
  checked s (importChecks s c) fun s =>
    match importedKey s c with
    | none => (s, .done rNOT_PERMITTED [])
    | some key =>
      let w := c.wing.toNat
      let s1 := if leAt c.payload 0 1 = 0 then regenWing (s.updWing w fun x => { x with tk := some key }) w
        else s.updPar fun p => { p with pk := some key }
      (scpCommit s1 c, .done rOK (keyId key))

def execVaultKeyImport := scpExec 0x0603 vaultKeyImport

/-! ### VAULT_ZEROIZE (15 R484) -/

/-- SCOPE 0: the wing's requests complete with KEY_MISSING, its TK is destroyed, its root is fresh, it is DISABLED, and its TDIs
enter ERROR. -/
def zeroizeWing (s : State) (w : Nat) : State :=
  let s1 := (s.liveReqs w).foldl (fun s r => abortReq s r.id rKEY_MISSING 0xFFFFFFFF 0) s
  let s2 := regenWing (s1.updWing w fun x => { x with tk := none }) w
  retireAll (fencePoll (wingOff ((s2.wingVfs w).foldl tdiError s2) w))

/-- SCOPE 1: every wing, the pair key, and the pair link goes DOWN. -/
def zeroizeKeys (s : State) : State :=
  let s1 := ((List.range 16).foldl zeroizeWing s).updPar fun p => { p with pk := none, linkKeys := none }
  let s2 := linkDieDown (linkDieDown s1 0) 1
  if s2.par.enable then setLinkState s2 .down else s2

/-- A re-binding in progress names the wing, or any wing for scope 1 (15 R492). -/
def zeroizeWaits (s : State) (scope w : Nat) : Bool :=
  (rebinds s).any fun r => decide (scope ≠ 0) || leAt r 0 1 == w || leAt r 1 1 == w

def zeroizeNow (s : State) (scope w : Nat) : State := if scope = 0 then zeroizeWing s w else zeroizeKeys s

/-- VAULT_ZEROIZE: scopes 0 and 1 wait for a re-binding; scope 2 acts after its response (`afterZeroize`). -/
def vaultZeroize : Handler := fun s c =>
  let scope := leAt c.payload 0 1
  let w := c.wing.toNat
  checked s [
      needOfficer s c, (!zeroAt c.payload 1 3, rRESERVED_FIELD_SET), (decide (scope > 2), rRESERVED_VALUE),
      (decide (scope = 0) && decide (w ≥ 16), rADDR_RANGE), (decide (scope = 1 ∨ scope = 2) && decide (w ≠ 0xFF), rRESERVED_VALUE),
      (!vaultServes s, rINTERNAL), (longFull s, rBUSY)]
    fun s =>
      if scope = 2 then (scpCommit s c, .done rOK [])
      else if zeroizeWaits s scope w then (s, .pend false [])
      else (zeroizeNow (scpCommit s c) scope w, .done rOK [])

/-- SCOPE 2 after its response: every key but the DUS, then reset level 4. -/
def afterZeroize (s : State) (c : Cmd) : State :=
  if leAt c.payload 0 1 = 2 then assertSource (zeroizeAll s) 11 4 else s

def execVaultZeroize := scpExecThen 0x0604 vaultZeroize afterZeroize

/-- The VAULT_ZEROIZEs that waited for a re-binding act (15 R492). -/
def zeroizePoll (s : State) : State :=
  let waiting := s.mbx.filterMap fun (e : Nat × Mbx) => e.2.run.bind fun r =>
    if r.op = 0x0604 then some (Fin.ofNat 256 (e.1 / 2), Fin.ofNat 2 e.1, r) else none
  waiting.foldl (fun s x =>
    let scope := leAt x.2.2.payload 0 1
    let w := x.2.2.wing.toNat
    if zeroizeWaits s scope w then s
    else runFinish (zeroizeNow (scpCommit s (x.2.2.cmd x.1 x.2.1)) scope w) x.1 x.2.1 rOK []) s

/-- REBIND_DRAIN_DONE: every unit of the mailbox's WING_REBIND is drained. -/
def execRebindDrainDone (fn : Fn) (hub : Hub) (bad : List HcIx) (s : State) : Host.Outcome State Fault Refusal :=
  .next (zeroizePoll (rebindDrainDone s fn hub bad))

/-! ### The accession log (15 R487 to R490) -/

/-- LOG_READ. -/
def logRead : Handler := fun s c =>
  let p := c.payload
  let first := leAt p 0 8
  let n := leAt p 8 2
  let low := s.log.oldest.toNat
  checked s [noWing c, (!zeroAt p 10 6, rRESERVED_FIELD_SET), (decide (n = 0 ∨ n > 21), rRESERVED_VALUE),
      (decide (first < low ∨ first ≥ s.log.next.toNat), rADDR_RANGE)]
    fun s =>
      let rs := (s.log.recs.drop (first - low)).take n
      (s, .done rOK (leBytes 8 first ++ leBytes 2 rs.length ++ List.replicate 6 0#8 ++ leBytes 8 low ++ leBytes 8 s.log.next.toNat ++
        rs.flatten))

def execLogRead := scpExec 0x0605 logRead

/-- CHAIN before a record that is held. -/
def chainBefore (s : State) (first : Nat) : Bytes :=
  let i := first - s.log.oldest.toNat
  if i = 0 then s.log.base else slice (s.log.recs.getD (i - 1) []) 128 48

/-- The bundle of a LOG_EXPORT. -/
def logBundle (s : State) (first n : Nat) (mldsa : Bool) : Bytes :=
  let rs := (s.log.recs.drop (first - s.log.oldest.toNat)).take n
  let flags := b2n mldsa + 2 * b2n (decide (s.vlt.mode = .nonApproved))
  let head := [0x48#8, 0x58#8, 0x41#8, 0x4C#8, 0x10#8, BitVec.ofNat 8 flags, 0#8, 0#8] ++ leBytes 8 s.rst.boot.toNat ++
    leBytes 8 first ++ leBytes 8 n ++ fitTo 48 (chainBefore s first) ++ fitTo 48 Config.dikHash
  let dig := sha384 (head ++ rs.flatten)
  head ++ rs.flatten ++ fitTo 96 (Config.sign dig) ++
  (if mldsa then fitTo 4627 (Config.signPq dig) ++ List.replicate 45 0#8 else [])

/-- LOG_EXPORT: the bundle is written to a PF0 buffer. The writes are posted, so that no error of the host is answered
(DESIGN CHOICE, log entry 6). -/
def logExport : Handler := fun s c =>
  let p := c.payload
  let first := leAt p 0 8
  let n := leAt p 8 4
  let mldsa := bit (leAt p 12 1) 0
  let size := 128 + 192 * n + 96 + (if mldsa then 4672 else 0)
  checked s [noWing c, needOfficer s c, (decide (leAt p 12 1 > 1) || !zeroAt p 13 3, rRESERVED_FIELD_SET),
      (decide (n = 0 ∨ n > 1048576), rRESERVED_VALUE),
      (decide (first < s.log.oldest.toNat ∨ first + n > s.log.next.toNat), rADDR_RANGE),
      (decide (leAt p 16 8 % 4096 ≠ 0), rADDR_ALIGN), (decide (leAt p 24 8 < size), rRES_INSUFFICIENT),
      (!vaultServes s, rINTERNAL), (longFull s, rBUSY)]
    fun s =>
      let s1 := hostWrite s 0 (BitVec.ofNat 64 (leAt p 16 8)) (logBundle s first n mldsa)
      ({ s1 with log := { s1.log with exported := s1.log.exported ++ [(first, first + n - 1)] } }, .done rOK (leBytes 8 size))

def execLogExport := scpExec 0x0606 logExport

/-- LOG_ACK: records up to an exported SEQ are freed, and the command's own record is appended after (15 R490). A SEQ below the oldest
held frees nothing and answers 0; its record is appended all the same (03 R588), but where the log has no room for it, since the
command is never refused for a full log (DESIGN CHOICE, log entry 44). -/
def logAck : Handler := fun s c =>
  let q := leAt c.payload 0 8
  let low := s.log.oldest.toNat
  checked s [noWing c, (decide (q ≥ s.log.next.toNat), rADDR_RANGE),
      (!s.log.exported.any (fun x => decide (x.1 ≤ q) && decide (q ≤ x.2)), rNOT_PERMITTED)]
    fun s =>
      if q < low then (if logFull s then s else scpCommit s c, .done rOK (leBytes 8 0))
      else
        let n := q + 1 - low
        let s1 := { s with log := { s.log with
          recs := s.log.recs.drop n, oldest := BitVec.ofNat 64 (q + 1), base := chainBefore s (q + 1) } }
        (scpCommit s1 c, .done rOK (leBytes 8 n))

def execLogAck := scpExec 0x0607 logAck

/-! ### The approved mode (15 R467) -/

/-- A write of VLT_CTL.MODE_REQ: refused without the officer's role, while a wing with APPROVED_ONLY is ENABLED, while test modes
are unlocked for a write of 0 (18 R568), and while the Vault cannot serve. Else every TK and the PK are zeroized and every WR
regenerated. -/
def modeReq (s : State) (fn : Fn) (non : Bool) (fails : Byte) : State :=
  pf0Reg s fn fun s =>
    let only := (List.range 16).any fun w => bit (s.wing w).live.policy.toNat 3 && decide ((s.wing w).state = .enabled)
    if !isOfficer s fn || only || (!non && s.fw.unlock) || !vaultServes s then
      ignoredWrite s fn 0xFF 0x120004 4 (b2n s.vlt.modeReq) (b2n non)
    else loggedWrite s fn 0xFF 0x120004 4 (b2n s.vlt.modeReq) (b2n non) fun s =>
      let s1 := (List.range 16).foldl (fun s w => s.updWing w fun x => { x with tk := none }) s
      let s2 := regenWings ((s1.updPar fun p => { p with pk := none }).updVlt fun v => { v with modeReq := non })
      if non then s2.updVlt fun v => { v with mode := .nonApproved } else selfTestEnds s2 fails

/-- MODE_REQ_NON_APPROVED. -/
def execModeReqNonApproved (fn : Fn) (s : State) : Host.Outcome State Fault Refusal := .next (modeReq s fn true 0)

/-- MODE_REQ_APPROVED: through SELF_TEST, with the groups that fail. -/
def execModeReqApproved (fn : Fn) (fails : Byte) (s : State) : Host.Outcome State Fault Refusal := .next (modeReq s fn false fails)

/-! ### The Vault link (15 R463) -/

/-- VAULT_LINK_LOSS: the other copy is marked stale and zeroized. -/
def execVaultLinkLoss (s : State) : Host.Outcome State Fault Refusal :=
  .next (s.updVlt fun v => { v with linkUp := false, sync := false, copy := if v.sync then Fin.ofNat 2 (servingHub s) else v.copy })

/-- VAULT_LINK_RESTORE: the stale copy is restored over the link. -/
def execVaultLinkRestore (s : State) : Host.Outcome State Fault Refusal :=
  .next (s.updVlt fun v => { v with linkUp := true, sync := decide (v.mode ≠ .selfTest) })

/-! ### Tamper and entropy (15 R482, R483, R486) -/

/-- TAMPER_TRIP: 0 MESH, 1 VOLTAGE, 2 CLOCK, 3 TEMP. -/
def tamperTrip (s : State) (sensor : Nat) : State :=
  if !s.rst.pwrOk then s
  else
    let t := s.vlt.tamper.toNat
    let n := t / 65536
    let bits := fld t 0 5 ||| 1 ||| 2 ^ (sensor + 1)
    let s1 := (zeroizeAll s).updVlt fun v => { v with tamper := BitVec.ofNat 32 ((if n < 0xFFFF then n + 1 else n) * 65536 + bits) }
    let s2 := setAlert (alarm s1 0x0602 0xFF (16 + servingHub s) s1.vlt.tamper.toNat 0 0 0) 4 true
    assertSource s2 9 7

def execTamperTrip (sensor : Fin 4) (s : State) : Host.Outcome State Fault Refusal := .next (tamperTrip s sensor)

/-- TAMPER_CLEAR: a write of VLT_TAMPER clears the bits written 1, for a Crypto Officer. -/
def tamperClear (s : State) (fn : Fn) (bits : Nat) : State :=
  pf0Reg s fn fun s =>
    let new : W32 := s.vlt.tamper &&& ~~~(BitVec.ofNat 32 bits)
    if !isOfficer s fn then ignoredWrite s fn 0xFF 0x120008 4 s.vlt.tamper.toNat new.toNat
    else
      loggedWrite s fn 0xFF 0x120008 4 s.vlt.tamper.toNat new.toNat fun s =>
        setAlert (s.updVlt fun v => { v with tamper := new }) 4 (bit new.toNat 0)

def execTamperClear (fn : Fn) (bits : BitVec 5) (s : State) : Host.Outcome State Fault Refusal := .next (tamperClear s fn bits.toNat)

/-- ENTROPY_HEALTH_FAIL: a continuous test fails: bit 29 of VLT_STATUS, and ERROR. -/
def execEntropyHealthFail (s : State) : Host.Outcome State Fault Refusal :=
  .next (if s.alive then vaultError (s.updVlt fun v => { v with selftestFail := v.selftestFail ||| 0x20#8 }) else s)

end Sys2Proof.Machine
end

