-- ==== Sys2Proof/Machine/Firmware.lean ====
section
/-! DEFINITION. Firmware commands, margins, repair, and test modes (18 R549 to R568). -/

namespace Sys2Proof.Machine

/-! ### Loading and activating (18 R549, R550, R555, R556) -/

/-- The slot that a hub booted; recovery firmware is of no slot. -/
def isBooted (f : Fw) (b : Bool) : Bool := !f.recovery && decide (f.running = b)

/-- The booted slot is TRIAL. -/
def onTrial (f : Fw) : Bool := !f.recovery && decide (f.booted_.state = .trial)

/-- A slot receives a chunk. -/
def Slot.chunk (x : Slot) (first : Bool) (d : Bytes) : Slot :=
  let all := (if first then [] else x.data) ++ d
  { state := .loading, schema := BitVec.ofNat 8 (leAt all 12 1), readMajors := BitVec.ofNat 8 (leAt all 13 1),
    svn := BitVec.ofNat 16 (leAt all 6 2), data := all }

/-- FIRMWARE_LOAD. -/
def firmwareLoad : Handler := fun s c =>
  let p := c.payload
  let b := bit (leAt p 0 1) 0
  let first := bit (leAt p 1 1) 0
  let x := s.fw.slot b
  let have_ := if first then 0 else x.data.length
  let chunk := p.drop 32
  checked s [
      noWing c, (decide (fld (leAt p 1 1) 2 6 ≠ 0) || !zeroAt p 2 2 || !zeroAt p 8 24, rRESERVED_FIELD_SET),
      (decide (leAt p 0 1 > 1), rRESERVED_VALUE),
      (isBooted s.fw b || (decide (x.state = .committed) && onTrial s.fw), rNOT_PERMITTED),
      (!first && decide (x.state ≠ .loading), rNOT_PERMITTED)]
    fun s =>
      if leAt p 4 4 ≠ have_ ∨ leAt p 4 4 + chunk.length > 0x2000000 then (s, .done rADDR_RANGE (leBytes 4 have_))
      else if !bothHubs s then (s, .done rRES_UNAVAILABLE [])
      else
        let y := x.chunk first chunk
        if !bit (leAt p 1 1) 1 then (s.updFw fun f => f.setSlot b y, .done rOK [])
        else if imageVerifies s y.data then (s.updFw fun f => f.setSlot b { y with state := .valid }, .done rOK [])
        else (s.updFw fun f => f.setSlot b Slot.init, .done rIMAGE_INVALID [])

def execFirmwareLoad := scpExec 0x0401 firmwareLoad

/-- FIRMWARE_ACTIVATE, up to its response; reset level 3 follows. -/
def firmwareActivate : Handler := fun s c =>
  let p := c.payload
  let b := bit (leAt p 0 1) 0
  let x := s.fw.slot b
  checked s [
      noWing c, (!zeroAt p 1 3, rRESERVED_FIELD_SET), (decide (leAt p 0 1 > 1), rRESERVED_VALUE),
      (decide (x.state ≠ .valid) || onTrial s.fw, rNOT_PERMITTED), (!imageVerifies s x.data, rIMAGE_INVALID),
      (longFull s, rBUSY), (!bothHubs s, rRES_UNAVAILABLE)]
    fun s => (scpCommit (s.updFw fun f => { f.setSlot b { x with state := .trial } with fails := 0 }) c, .done rOK [])

/-- Reset level 3 as source CURATOR_COMMAND, after the response of FIRMWARE_ACTIVATE and ROLLBACK. -/
def afterFirmware (s : State) (_ : Cmd) : State := assertSource s 11 3

def execFirmwareActivate := scpExecThen 0x0402 firmwareActivate afterFirmware

/-- Steps 1 to 4 of FIRMWARE_COMMIT: both copies name the trial image, which is COMMITTED. -/
def commitImage (s : State) (c : Cmd) (discard : Bool) : State :=
  let b := s.fw.running
  let x := s.fw.slot b
  let entries := if discard then liveEntries State.reset else liveEntries s ++ keptEntries s.fw
  let put (f : Fw) : Fw := writeCopy f x.schema (imageTag x.data) entries
  (scpCommit (s.updFw put) c).updFw fun f =>
    let o := f.slot (!b)
    put { (f.setSlot b { x with state := .committed }).setSlot (!b)
            { o with state := if o.state = .committed then .valid else o.state } with
          quarantine := false, archDirty := false }

/-- FIRMWARE_COMMIT. -/
def firmwareCommit : Handler := fun s c =>
  let p := c.payload
  let discard := bit (leAt p 0 1) 0
  checked s [
      noWing c, (decide (fld (leAt p 0 1) 1 7 ≠ 0) || !zeroAt p 1 3, rRESERVED_FIELD_SET), (!onTrial s.fw, rNOT_PERMITTED),
      (s.fw.quarantine && !discard, rSETTINGS_UNREADABLE), (decide (s.vlt.mode = .error), rINTERNAL),
      (!bothHubs s, rRES_UNAVAILABLE)]
    fun s => (commitImage s c discard, .done rOK [s.fw.booted_.schema, 0#8, 0#8, 0#8])

def execFirmwareCommit := scpExec 0x0403 firmwareCommit

/-- ROLLBACK, up to its response; reset level 3 follows. -/
def rollback : Handler := fun s c =>
  checked s [noWing c, (!onTrial s.fw, rNOT_PERMITTED), (longFull s, rBUSY), (!bothHubs s, rRES_UNAVAILABLE)] fun s =>
    (scpCommit (s.updFw fun f => f.setSlot f.running { f.booted_ with state := .valid }) c, .done rOK [])

def execRollback := scpExecThen 0x0404 rollback afterFirmware

/-! ### Margins (18 R557 to R559) -/

/-- An extent of the stack is bound to an ENABLED wing. -/
def stackInUse (s : State) (k : Nat) : Bool :=
  (List.range 47).any fun i => match (s.ext (48 * k + i)).owner with | some w => decide ((s.wing w).state = .enabled) | none => false

/-- The checks of R557; a failed stack is met first, as in R562 (DESIGN CHOICE, log entry 37). -/
def stackBusy (s : State) (k : Nat) : List (Bool × Byte) :=
  [((s.stack k).failed, rRES_UNAVAILABLE), (stackInUse s k, rNOT_PERMITTED)]

/-- The applied offset of a pseudo-channel and mode, as its byte of MEM_TRAIN (18 R567). -/
def marginAt (s : State) (k pc mode : Nat) : Nat := fld (Tbl.get 0#32 (s.stack k).train pc).toNat (8 * mode) 8

/-- The two bytes of a pin: the lowest and highest passing setting of the sweep, or 0x80, 0x80. What the hardware measures is
free (DESIGN CHOICE, log entry 10). -/
def marginPin (step : Nat) (a b : Byte) : Bytes :=
  let n := ceilDiv 64 step
  let i := a.toNat % (n + 1)
  if i = n then [0x80#8, 0x80#8]
  else [BitVec.ofInt 8 (-32 + (step * i : Nat)), BitVec.ofInt 8 (-32 + (step * (i + b.toNat % (n - i)) : Nat))]

/-- MARGIN_RUN. -/
def marginRun : Handler := fun s c =>
  let p := c.payload
  let k := leAt p 0 1
  let mode := leAt p 2 1
  let step := leAt p 3 1
  checked s ([
      noWing c, (!zeroAt p 4 4, rRESERVED_FIELD_SET), (decide (mode > 3 ∨ step = 0 ∨ step > 8), rRESERVED_VALUE),
      (decide (k > 7 ∨ leAt p 1 1 > 31), rADDR_RANGE)] ++ stackBusy s k ++ [(longFull s, rBUSY)])
    fun s =>
      let f := s.free 160
      let head := [BitVec.ofNat 8 mode, 0#8] ++ leBytes 2 80 ++
        [BitVec.ofNat 8 (marginAt s k (leAt p 1 1) mode), BitVec.ofNat 8 step, 0#8, 0#8] ++ leBytes 8 s.now
      (f.2, .done rOK (head ++ (List.range 80).flatMap fun i => marginPin step (f.1.getD (2 * i) 0) (f.1.getD (2 * i + 1) 0)))

def execMarginRun := scpExec 0x0901 marginRun

/-- MARGIN_APPLY. -/
def marginApply : Handler := fun s c =>
  let p := c.payload
  let k := leAt p 0 1
  let pc := leAt p 1 1
  let mode := leAt p 2 1
  let off := signed 8 (leAt p 3 1)
  checked s ([
      noWing c, (!zeroAt p 4 4, rRESERVED_FIELD_SET), (decide (mode > 3) || decide (off < -32) || decide (off > 31), rRESERVED_VALUE),
      (decide (k > 7 ∨ pc > 31), rADDR_RANGE)] ++ stackBusy s k)
    fun s =>
      let v := (Tbl.get 0#32 (s.stack k).train pc).toNat
      let v' := v - marginAt s k pc mode * 2 ^ (8 * mode) + leAt p 3 1 * 2 ^ (8 * mode)
      (archived ((scpCommit s c).updStack k fun x => { x with train := Tbl.set 0#32 x.train pc (BitVec.ofNat 32 v') }), .done rOK [])

def execMarginApply := scpExec 0x0902 marginApply

/-! ### Repair (18 R560 to R563) -/

/-- Spares of a link in use in a direction. -/
def linkSpares (s : State) (n dir : Nat) : Nat := ((s.link n).spares.filter fun g => g / 32 == dir).length

/-- REPAIR_QUERY. -/
def repairQuery : Handler := fun s c =>
  let p := c.payload
  let kind := leAt p 0 1
  let i := leAt p 1 1
  checked s [
      noWing c, (!zeroAt p 2 2, rRESERVED_FIELD_SET), (decide (kind > 1), rRESERVED_VALUE),
      (decide (i > if kind = 0 then 7 else 30), rADDR_RANGE)]
    fun s =>
      let k := s.stack i
      let soft := k.softRows.length
      let hard := k.hardRows.length
      (s, .done rOK (if kind = 0 then
        leBytes 4 (8192 - soft - hard) ++ leBytes 4 soft ++ leBytes 4 hard ++ leBytes 4 (4096 - hard) ++ leBytes 4 k.laneGroups.length ++
        leBytes 8 (maskOf 64 fun g => k.laneGroups.contains g) ++ leBytes 4 0
      else leBytes 2 (linkLanes i) ++ [BitVec.ofNat 8 (linkSpares s i 0), BitVec.ofNat 8 (linkSpares s i 1)] ++ List.replicate 28 0#8))

def execRepairQuery := scpExec 0x0801 repairQuery

/-- The device addresses of the 16 lines of a row (11 R341). -/
def rowLines (k pc bank row : Nat) : List Nat :=
  (List.range 16).map fun col =>
    k * (48 * 2 ^ 30) + row * 2 ^ 21 + (bank ^^^ fld row 5 6) * 2 ^ 15 + col * 2 ^ 11 + (pc ^^^ fld row 0 5) * 2 ^ 6

/-- The lines of a row are read and corrected, and moved with their codewords: only an uncorrectable one changes, which is
poisoned (11 R348). -/
def moveRow (s : State) (k pc bank row : Nat) : State :=
  (rowLines k pc bank row).foldl (fun s a => if (s.line (lineOf a)).bad = .uncorrectable then poison s a else s) s

/-- REPAIR_ROW. -/
def repairRow : Handler := fun s c =>
  let p := c.payload
  let k := leAt p 0 1
  let pc := leAt p 1 1
  let bank := leAt p 2 1
  let mode := leAt p 3 1
  let row := leAt p 4 2
  let r := (pc, bank, row)
  let x := s.stack k
  let inBank (l : List (Nat × Nat × Nat)) : Nat := (l.filter fun y => y.1 == pc && y.2.1 == bank).length
  checked s [
      noWing c, (!zeroAt p 6 2, rRESERVED_FIELD_SET), (decide (mode > 2), rRESERVED_VALUE),
      (decide (k > 7 ∨ pc > 31 ∨ bank > 63 ∨ row ≥ 24576), rADDR_RANGE), (x.failed, rRES_UNAVAILABLE),
      ((match (s.ext (48 * k + row / 512)).owner with | some w => decide ((s.wing w).state = .enabled) | none => false), rNOT_PERMITTED),
      (x.hardRows.contains r || (decide (mode = 2) && !x.softRows.contains r), rRES_OVERLAP),
      ((decide (mode < 2) && decide (inBank x.softRows + inBank x.hardRows ≥ 4)) || (decide (mode = 1) && decide (inBank x.hardRows ≥ 2)),
        rRES_INSUFFICIENT),
      (longFull s, rBUSY)]
    fun s =>
      let s1 := (moveRow (scpCommit s c) k pc bank row).updStack k fun x =>
        let soft := x.softRows.filter (· != r)
        match mode with
        | 0 => { x with softRows := soft ++ [r] }
        | 1 => { x with softRows := soft, hardRows := x.hardRows ++ [r] }
        | _ => { x with softRows := soft }
      (archived s1, .done rOK [])

def execRepairRow := scpExec 0x0802 repairRow

/-- The group of a stack lane. -/
def stackGroup (lane : Nat) : Nat :=
  if lane < 2048 then 2 * (lane / 64) + lane % 64 / 32 else 2 * ((lane - 2048) / 16) + (lane - 2048) % 16 / 8

/-- The group of a link lane, coded direction × 32 + group, as `Link.spares`. -/
def linkGroup (lane : Nat) : Nat := lane / 32768 * 32 + lane % 32768 / 32

/-- REPAIR_LANE. A link's lane goes to its spare at the next training; until then the spare counts as used. -/
def repairLane : Handler := fun s c =>
  let p := c.payload
  let kind := leAt p 0 1
  let i := leAt p 1 1
  let lane := leAt p 2 2
  let used := if kind = 0 then (s.stack i).laneGroups.contains (stackGroup lane)
    else (s.link i).spares.contains (linkGroup lane) || (s.link i).repairs.any fun l => l / 32 == linkGroup lane
  checked s ([
      noWing c, (!zeroAt p 4 4, rRESERVED_FIELD_SET), (decide (kind > 1), rRESERVED_VALUE),
      (if kind = 0 then decide (i > 7 ∨ lane ≥ 2560) else decide (i > 30) || decide (lane % 32768 ≥ linkLanes i), rADDR_RANGE)] ++
      (if kind = 0 then stackBusy s i else []) ++ [(used, rRES_INSUFFICIENT), (longFull s, rBUSY)])
    fun s =>
      let s1 := scpCommit s c
      (archived (if kind = 0 then s1.updStack i fun x => { x with laneGroups := x.laneGroups ++ [stackGroup lane] }
        else s1.updLink i fun l => { l with repairs := l.repairs ++ [lane / 32768 * 1024 + lane % 32768] }), .done rOK [])

def execRepairLane := scpExec 0x0803 repairLane

/-! ### Test modes (18 R565, R566) -/

/-- TEST_CTL. -/
def testCtl (s : State) : Nat :=
  b2n s.fw.unlock + 2 * b2n s.fw.debugLog + 16 * b2n s.fw.mbistDone + 32 * b2n s.fw.mbistFail + 64 * b2n s.fw.patternDone +
  128 * b2n s.fw.patternFail

/-- The unlock service is open to the function. -/
def mayUnlock (s : State) (fn : Fn) : Bool :=
  isOfficer s fn && decide (s.vlt.mode = .nonApproved) && (List.range 16).all (fun w => decide ((s.wing w).state = .disabled)) &&
  decide (tenantKeys s = 0)

/-- The bits that a write sets or starts; the mode bits act while UNLOCK is already 1. -/
def testBits (f : Fw) (v : Nat) : Fw :=
  let on := f.unlock
  let pat := on && bit v 3 && !f.patternRun
  let mb := on && bit v 2 && !f.mbistRun
  { f with unlock := true, debugLog := if on then bit v 1 else f.debugLog,
           patternRun := f.patternRun || pat, patternDone := f.patternDone && !pat, patternFail := f.patternFail && !pat,
           mbistRun := f.mbistRun || mb, mbistDone := f.mbistDone && !mb, mbistFail := f.mbistFail && !mb }

/-- A write of TEST_CTL: UNLOCK 1 is the unlock service; UNLOCK 0 performs reset level 4, whatever it was (DEDUCED, log entry 38). -/
def testCtlWrite (s : State) (fn : Fn) (v : Nat) : State :=
  pf0Reg s fn fun s =>
    if bit v 0 then
      if mayUnlock s fn then
        loggedWrite s fn 0xFF 0x140310 4 (testCtl s) (testCtl (s.updFw fun f => testBits f v)) fun s => s.updFw fun f => testBits f v
      else ignoredWrite s fn 0xFF 0x140310 4 (testCtl s) (testCtl (s.updFw fun f => testBits f v))
    else if rateFull s fn then rateRefuse s fn
    else if logFull s then s
    else assertSource s 11 4

/-- TEST_UNLOCK: UNLOCK is written 1, the mode bits as they are. -/
def execTestUnlock (fn : Fn) (s : State) : Host.Outcome State Fault Refusal := .next (testCtlWrite s fn (1 + 2 * b2n s.fw.debugLog))

/-- TEST_LOCK. -/
def execTestLock (fn : Fn) (s : State) : Host.Outcome State Fault Refusal := .next (testCtlWrite s fn 0)

/-- PATTERN_TEST. -/
def execPatternTest (fn : Fn) (s : State) : Host.Outcome State Fault Refusal :=
  .next (testCtlWrite s fn (1 + 2 * b2n s.fw.debugLog + 8))

/-- MBIST. -/
def execMbist (fn : Fn) (s : State) : Host.Outcome State Fault Refusal := .next (testCtlWrite s fn (1 + 2 * b2n s.fw.debugLog + 4))

/-- PATTERN_TEST_DONE: every line outside extent 47 is clear, with generation 0, and each bad one is reported. -/
def patternDone (s : State) (bad : List Nat) : State :=
  if !s.alive || !s.fw.patternRun then s
  else
    let b := bad.filter fun a => decide (a < dramSize) && !isExt47 (extOf a)
    let s1 := { s with
      dram := s.dram.filter (fun (x : Host.Cell) => isExt47 (extOf x.1)),
      lines := s.lines.filter (fun (x : Nat × LineMeta) => isExt47 (extOf (64 * x.1))) }
    let s2 := s1.updFw fun f => { f with patternRun := false, patternDone := true, patternFail := !b.isEmpty }
    b.foldl reportUE s2

def execPatternTestDone (bad : List (BitVec 39)) (s : State) : Host.Outcome State Fault Refusal :=
  .next (patternDone s (bad.map (·.toNat)))

/-- The structure of a unit's SRAM (12 R373). -/
def unitSram (u : Nat) : Nat := if u < 40 then stMatrix else if u < 80 then stDocent else if u < 96 then stGPE else stVector

/-- MBIST_DONE: scratchpads and caches are zero-filled; the unit of a failing SRAM is recorded, with its granule, and quarantined. -/
def mbistDone (s : State) (bad : List (Fin 112 × Nat)) : State :=
  if !s.alive || !s.fw.mbistRun then s
  else
    let s1 := ({ s with sp := [], spBad := [], cache := [], mus := [], lanes := [] } : State).updFw fun f =>
      { f with mbistRun := false, mbistDone := true, mbistFail := !bad.isEmpty }
    bad.foldl (fun s u => quarantine (sramUE s (unitDie u.1) (unitSram u.1) u.2) u.1 (unitSram u.1)) s1

def execMbistDone (bad : List (Fin 112 × Nat)) (s : State) : Host.Outcome State Fault Refusal := .next (mbistDone s bad)

end Sys2Proof.Machine
end

