-- ==== Sys2Proof/Machine/Integrity.lean ====
section
/-! DEFINITION. SPARE_SWAP and QUARANTINE_CLEAR (12 R384, R385). -/

namespace Sys2Proof.Machine

/-- The number of a matrix unit (kind 0) or docent (kind 1). -/
def sparedUnit (kind cell pos : Nat) : Nat := if kind = 0 then uMU cell pos else uDoc cell pos

/-- A swap takes place at once, or when the request of the unit's half-cell completes (08 R278, 12 R385). -/
def swapNow (s : State) (u : Nat) (inn : Bool) : State :=
  let h := s.half (unitHalf u)
  if h.req.isSome || h.held then s.updUnit u fun x => { x with swapPending := some inn }
  else if inn then substitute s u else unsubstitute s u

/-- SPARE_SWAP. -/
def spareSwap : Handler := fun s c =>
  let p := c.payload
  let kind := leAt p 0 1
  let cell := leAt p 1 1
  let pos := leAt p 2 1
  let dir := leAt p 3 1
  let u := sparedUnit kind cell pos
  let inn := !bit dir 0
  checked s [
      noWing c, (decide (fld dir 1 7 ≠ 0), rRESERVED_FIELD_SET), (decide (kind > 1), rRESERVED_VALUE),
      (decide (cell > 7) || decide (pos > 3), rADDR_RANGE),
      (inn && spareTaken s u, rRES_UNAVAILABLE),
      (!inn && decide ((s.unit (spareOf u)).subPos ≠ some pos), rNOT_PERMITTED),
      (!inn && (s.unit u).quarantined, rRES_UNAVAILABLE)]
    fun s => (swapNow (scpCommit s c) u inn, .done rOK [])

def execSpareSwap := scpExec 0x0804 spareSwap

/-- The unit that QUARANTINE_CLEAR names. -/
def clearUnit (kind index pos : Nat) : Nat :=
  match kind with
  | 0 => uMU index pos
  | 1 => uDoc index pos
  | 2 => uGPE index
  | 3 => uVE index
  | _ => uRU index

/-- QUARANTINE_CLEAR. -/
def quarantineClear : Handler := fun s c =>
  let p := c.payload
  let kind := leAt p 0 1
  let index := leAt p 1 1
  let pos := leAt p 2 1
  let u := clearUnit kind index pos
  checked s [
      noWing c, (!zeroAt p 3 1 || (decide (2 ≤ kind ∧ kind ≤ 4) && decide (pos ≠ 0)), rRESERVED_FIELD_SET),
      (decide (kind > 4), rRESERVED_VALUE),
      ((if kind = 2 then decide (index > 15) else decide (index > 7)) || (decide (kind < 2) && decide (pos > 4)), rADDR_RANGE),
      (!(s.unit u).quarantined, rNOT_PERMITTED)]
    fun s => (unquarantine (scpCommit s c) u, .done rOK [])

def execQuarantineClear := scpExec 0x0805 quarantineClear

end Sys2Proof.Machine
end

