-- ==== Sys2Proof/Machine/Registers.lean ====
section
/-! DEFINITION. Reading BAR0 (14 R436 to R440): which function sees which block, and the 32-bit word at every offset of every block. A
64-bit register is its two words; a reserved offset reads zero. -/

namespace Sys2Proof.Machine

/-- Half of a 64-bit value: 0 the low word, 4 the high one. -/
def half64 (v o : Nat) : Nat := v / 2 ^ (8 * o) % 2 ^ 32

/-! ### Visibility (14 R436, R438) -/

/-- The function sees the block, region or page; queue slots and the selected queue or flow have their own checks. -/
def sees (s : State) (fn : Fn) (off : Nat) : Bool :=
  let wing := s.fnWing fn
  if fn = 0 ∨ off ≥ 0x1A0000 then true
  else match off / 0x20000 with
  | 0 => decide (off < 0x8000 ∨ off ≥ 0x10000)
  | 1 => wing.isSome
  | 2 => wing.isSome && decide (off < 0x41000 ∨ off ≥ 0x51000)
  | 4 => wing.isSome && decide (off < 0x81000 ∨ off ≥ 0x90000)
  | 8 => (match wing with | some w => (s.wing w).netOwning | none => false) && decide (off < 0x110000 ∨ off ≥ 0x110200)
  | 12 => true
  | _ => false

/-- The wing of a page at an offset of WNG or CAT: PF0 sees them all, a VF its own at page 0. -/
def pageWing (s : State) (fn : Fn) (o : Nat) : Nat := if fn = 0 then o / 0x1000 else ((s.fnWing fn).map (·.val)).getD 16

/-! ### GLB (14 R440) and MBX (03 R81) -/

def glbWord (s : State) (fn : Fn) (o : Nat) : Nat :=
  if o < 0x8000 then
    match o with
    | 0x000 => (if fn = 0 then 0x4820 else 0x4821) * 65536 + 0x1FC7
    | 0x004 => 0x4101
    | 0x010 | 0x014 | 0x018 | 0x01C => leAt (ascii "KWS-HX20-384") (o - 0x10) 4
    | 0x020 => 0x10101012
    | 0x024 => 0x00001010
    | 0x028 =>
      fn.val + (match s.fnWing fn with | some w => 65536 * w.val | none => 0) + 2 ^ 20 * b2n (decide (fn = 0) || (s.fnWing fn).isSome)
    | 0x030 | 0x034 => half64 s.now (o - 0x030)
    | 0x038 => s.pcie.activeHub.val + 2 * b2n s.pcie.moving
    | _ => 0
  else
    let k := (o - 0x8000) / 0x20
    let p := s.peer k
    if k ≥ 8 then 0
    else match (o - 0x8000) % 0x20 with
    | 0x00 => half64 p.base.toNat 0
    | 0x04 => half64 p.base.toNat 4
    | 0x08 => half64 p.limit.toNat 0
    | 0x0C => half64 p.limit.toNat 4
    | 0x10 => p.wings.toNat
    | _ => 0

/-- A window of MBX; all zero while it cannot be reached (03 R80). -/
def mbxWord (s : State) (fn : Fn) (o : Nat) : Nat :=
  let hub : Hub := Fin.ofNat 2 (o / 0x8000)
  let m := s.mbox (mbxKey fn hub)
  let h := s.hub hub
  let i := o % 0x8000
  if !hubReach s hub then 0
  else if 0x1000 ≤ i ∧ i < 0x2000 then m.cmd.le (i - 0x1000) 4
  else if 0x2000 ≤ i ∧ i < 0x3000 then leAt m.rsp (i - 0x2000) 4
  else match i with
  | 0x000 => 0x5C500102
  | 0x004 => 2 * b2n m.irqEn
  | 0x008 => m.result.toNat * 2 ^ 24 + 8 * b2n m.collide + 4 * b2n m.done + 2 * b2n m.run.isSome + b2n h.ready
  | 0x010 => 256 * h.authHolder.val + authCode h.auth
  | 0x014 => h.authTerm.toNat
  | _ => 0

/-! ### QUE (04 R112) -/

/-- A register of the selected queue. -/
def queRegWord (x : Que) (o : Nat) : Nat :=
  match o with
  | 0x00C => x.reason.toNat * 2 ^ 24 + x.check * 2 ^ 20 + 16 * b2n x.dbDropped + queCode x.state
  | 0x010 => x.regs.cfg.toNat
  | 0x014 => x.regs.coalesce.toNat
  | 0x018 | 0x01C => half64 x.regs.sqBase.toNat (o - 0x018)
  | 0x020 | 0x024 => half64 x.regs.cqBase.toNat (o - 0x020)
  | 0x028 => x.sqHead.toNat * 65536 + x.cqTail.toNat
  | 0x02C => x.fetched
  | 0x030 | 0x034 => half64 x.lastSeq.toNat (o - 0x030)
  | _ => 0

/-- QUE_CLASS of a wing. -/
def classReg (s : State) (w c : Nat) : Nat := (Tbl.get 0 (s.wing w).classes c).toNat

/-- A word of QUE, or the wing whose violation of kind 1 it is (none: no wing). PF0's read of the doorbell slot of a tenant wing's queue
is one too: 04 R112 names the slots not visible to a VF, and 02 R62 makes PF0 an outside function of a tenant wing (DESIGN CHOICE,
log entry 69). -/
def queWord (s : State) (fn : Fn) (o : Nat) : Except (Option Nat) Nat :=
  let own := (s.fnWing fn).map (·.val)
  if o < 0x10000 then (queSlot s fn (o / 0x10)).map fun _ => 0
  else if o < 0x10100 then
    match o - 0x10000 with
    | 0x000 => .ok (0x10000000 + if fn = 0 then 4096 else (s.wingQueues (own.getD 16)).length)
    | 0x004 => .ok (s.fnSt fn).queSel.toNat
    | i => if 0x008 ≤ i ∧ i < 0x038 then (queSlot s fn (s.fnSt fn).queSel.toNat).map fun q => queRegWord (s.que q) i else .ok 0
  else
    let i := o - 0x10100
    if fn = 0 then .ok (if i < 0x100 then classReg s (i / 0x10) (i % 0x10 / 4) else 0)
    else if i < 0x10 then .ok (classReg s (own.getD 16) (i / 4))
    else .error own

/-! ### WNG (02 R73, R74) -/

def wngWord (s : State) (fn : Fn) (o : Nat) : Nat :=
  if o < 0x10000 then
    let w := pageWing s fn o
    let x := s.wing w
    let i := o % 0x1000
    if 0x040 ≤ i ∧ i < 0x070 then maskOf 32 fun b => decide ((s.ext (8 * (i - 0x040) + b)).owner.map (·.val) = some w)
    else match i with
    | 0x000 => b2n x.enableReq
    | 0x004 => x.reason.toNat * 2 ^ 24 + x.check * 2 ^ 16 + 16 * w + wingCode x.state
    | 0x008 => grantBits x
    | 0x00C => (maskOf 16 fun h => decide ((s.half h).owner.map (·.val) = some w)) * 65536 + (s.wingQueues w).length
    | 0x010 => (s.wingVfs w).length * 2 ^ 24 + (s.wingExtents w).length * 2 ^ 15 + (s.wingFlows w).length
    | 0x020 => x.shadow.policy.toNat
    | 0x024 => x.shadow.weight.toNat
    | 0x028 => x.shadow.floor.toNat
    | 0x030 | 0x034 => half64 x.shadow.ptRoot.toNat (i - 0x030)
    | 0x038 => x.tsyncGen.toNat
    | 0x080 | 0x084 => half64 x.staleCnt.toNat (i - 0x080)
    | 0x120 => x.live.policy.toNat
    | 0x124 => x.live.weight.toNat
    | 0x128 => x.live.floor.toNat
    | 0x130 | 0x134 => half64 x.live.ptRoot.toNat (i - 0x130)
    | _ => 0
  else
    let i := o - 0x10000
    if i < 0x400 then half64 (Tbl.get 0#64 (s.wing (i / 0x40)).viol (i % 0x40 / 8)).toNat (i % 8)
    else if i = 0x400 then ((List.range 16).filter fun w => decide ((s.wing w).state = .enabled) && (s.wing w).netOwning).length
    else if 0x800 ≤ i ∧ i < 0x840 then half64 (Tbl.get 0#64 s.noWing ((i - 0x800) / 8)).toNat (i % 8)
    else 0

/-! ### XLT, MEM (11 R368, R369) and STM (10 R338) -/

def xltWord (s : State) (o : Nat) : Nat :=
  if o = 0 then 0x10084000
  else if o = 4 then s.priTimeout.toNat
  else if 0x100 ≤ o ∧ o < 0x500 then
    let x := s.wing ((o - 0x100) / 0x40)
    match o % 0x40 with
    | 0x00 => x.pasid.toNat
    | 0x08 | 0x0C => half64 x.walks.toNat (o % 8)
    | 0x10 | 0x14 => half64 x.atsMisses.toNat (o % 8)
    | 0x18 | 0x1C => half64 x.pageReqs.toNat (o % 8)
    | 0x20 | 0x24 => half64 x.malformed.toNat (o % 8)
    | _ => 0
  else 0

/-- MEM_STACK_STATUS. -/
def stackStatus (s : State) (k : Nat) : Nat :=
  let x := s.stack k
  x.temp * 2 ^ 24 + x.hotLayer * 2 ^ 20 + 2048 * b2n x.failed +
  1024 * b2n ((s.unit (uGPE (2 * k))).quarantined || (s.unit (uGPE (2 * k + 1))).quarantined) + 512 * b2n x.throttle +
  256 * b2n ((List.range 48).any fun e => (s.ext (48 * k + e)).rolling) + x.refresh

def memWord (s : State) (o : Nat) : Nat :=
  if o = 0 then 0x08204030
  else if 0x010 ≤ o ∧ o < 0x090 then
    match o % 0x10 with
    | 0 => stackStatus s (o / 0x10 - 1)
    | 4 => (s.stack (o / 0x10 - 1)).rolls.headD 0
    | _ => 0
  else if o = 0x100 then s.patrolHours.toNat
  else if 0x1000 ≤ o ∧ o < 0x1400 then (Tbl.get 0#32 (s.stack ((o - 0x1000) / 0x80)).train (o % 0x80 / 4)).toNat
  else 0

/-- STM_BUBBLE: ACTIVE is bubble fill in force. -/
def bubbleReg (s : State) (w : Nat) : Nat :=
  let x := s.wing w
  8 * b2n x.bubRecover + 4 * b2n (decide (x.bubStart ≠ 0)) + 2 * b2n (x.bubTest || decide (x.bubStart ≠ 0) || x.bubRecover) + b2n x.bubTest

def stmWord (s : State) (o : Nat) : Nat :=
  if o = 0 then 0x20084010
  else if o = 4 then s.ckpts.length
  else if 0x100 ≤ o ∧ o < 0x300 then
    let w := (o - 0x100) / 0x20
    let x := s.wing w
    match o % 0x20 with
    | 0x00 => bubbleReg s w
    | 0x08 | 0x0C => half64 x.halts.toNat (o % 8)
    | 0x10 | 0x14 => half64 x.overruns.toNat (o % 8)
    | 0x18 | 0x1C => half64 x.ckpts.toNat (o % 8)
    | _ => 0
  else 0

/-! ### CAT (06 R200, 07 R219) -/

/-- The update block of a catalogue. -/
def catBlockWord (s : State) (w c o : Nat) : Nat :=
  let k := s.cat (catKey w c)
  match o with
  | 0x04 => k.reason.toNat * 2 ^ 24 + k.check * 2 ^ 20 + 32 * k.stall + 16 * b2n (decide (k.limit ≤ k.head)) + 8 * b2n k.dbDropped +
      ringCode k.state
  | 0x08 => k.cfg.toNat
  | 0x10 | 0x14 => half64 k.base.toNat (o - 0x10)
  | 0x20 | 0x24 => half64 k.head.toNat (o - 0x20)
  | 0x28 => k.vis.toNat
  | 0x2C => k.openEp.toNat
  | 0x30 => (oldestLive s w c).toNat
  | 0x34 => 8 * b2n (fenced s k) + 4 * b2n (k.discardEp.isSome && !k.isOpen) + 2 * b2n k.commit.isSome + b2n k.isOpen
  | 0x38 | 0x3C => half64 k.limit.toNat (o - 0x38)
  | _ => 0

def catWord (s : State) (fn : Fn) (o : Nat) : Nat :=
  if o ≥ 0x10000 then 0
  else
    let w := pageWing s fn o
    let x := s.wing w
    let i := o % 0x1000
    if 0x040 ≤ i ∧ i < 0x060 then wingPinned s (Fin.ofNat 16 w) ((i - 0x040) / 4)
    else if 0x0A0 ≤ i ∧ i < 0x0C0 then dirUsed s w ((i - 0x0A0) / 4)
    else if 0x200 ≤ i ∧ i < 0x400 then catBlockWord s w ((i - 0x200) / 0x40) (i % 0x40)
    else match i with
    | 0x000 => 0x10000000 + liveTables s w
    | 0x008 => x.cacheCtl.toNat
    | 0x010 => x.dirCtl.toNat
    | 0x080 | 0x084 => half64 x.lookups.toNat (i - 0x080)
    | 0x088 | 0x08C => half64 x.hits.toNat (i - 0x088)
    | 0x090 | 0x094 => half64 x.skipped.toNat (i - 0x090)
    | _ => 0

/-! ### PAR (13 R431) -/

/-- A signed 32-bit value, saturating. -/
def sat32 (i : Int) : Nat := wrapTo 32 (max (-(2 ^ 31)) (min (2 ^ 31 - 1) i))

def lanesReg (d : LinkDie) : Nat := d.spareUsed * 65536 + 32768 * b2n d.up + d.active

def parWord (s : State) (o : Nat) : Nat :=
  let p := s.par
  match o with
  | 0x000 => 0x10002208
  | 0x004 => linkCode p.link * 2 ^ 29 + 2 ^ 28 * b2n p.declared + 2 ^ 27 * b2n p.aligned + 2 ^ 26 * b2n p.position
  | 0x008 => 8 * b2n (decide (holderNow s = 1)) + leaseCode p.lease
  | 0x00C => p.term.toNat
  | 0x010 | 0x014 => half64 p.expiry (o - 0x010)
  | 0x018 => sat32 p.timeOfs
  | 0x020 => lanesReg p.die0
  | 0x024 => lanesReg p.die1
  | 0x040 | 0x044 => half64 p.repeats.toNat (o - 0x040)
  | 0x048 | 0x04C => half64 p.declarations.toNat (o - 0x048)
  | 0x050 | 0x054 => half64 p.witnessBad.toNat (o - 0x050)
  | 0x058 | 0x05C => half64 p.orphaned.toNat (o - 0x058)
  | _ => 0

/-! ### NET (14 R457) -/

def flowWord (x : Flow) (f o : Nat) : Nat :=
  match o with
  | 0x004 => x.reason.toNat * 2 ^ 24 + flowCode x.state
  | 0x008 => x.cfg.toNat
  | 0x00C => x.queue.toNat
  | 0x010 => x.destQpn.toNat
  | 0x014 => x.sqPsn.toNat
  | 0x018 => x.rqPsn.toNat
  | 0x01C => flowQpn f
  | 0x020 | 0x024 | 0x028 | 0x02C => fld x.dgid.toNat (8 * (o - 0x020)) 32
  | 0x030 | 0x034 => half64 x.l2.toNat (o - 0x030)
  | 0x038 | 0x03C => half64 x.slotBase.toNat (o - 0x038)
  | 0x040 => x.slotCfg.toNat
  | _ => 0

def portWord (x : EthPort) (o : Nat) : Nat :=
  match o with
  | 0x00 => 256 * b2n x.linkUp + x.pfc.toNat
  | 0x08 | 0x0C => half64 x.mac.toNat (o - 0x08)
  | 0x10 | 0x14 | 0x18 | 0x1C => fld x.ip.toNat (8 * (o - 0x10)) 32
  | 0x20 | 0x24 => half64 x.drops.toNat (o - 0x20)
  | _ => 0

def netWord (s : State) (fn : Fn) (o : Nat) : Except (Option Nat) Nat :=
  if o = 0 then .ok (s.fnSt fn).netSel.toNat
  else if o < 0x044 then (flowSlot s fn).map fun k => flowWord (s.flow k) k o
  else if 0x10000 ≤ o ∧ o < 0x10200 then .ok (portWord (s.eth ((o - 0x10000) / 0x100)) (o % 0x100))
  else .ok 0

/-! ### VLT (15 R491) -/

/-- VLT_TDI of a VF. -/
def tdiReg (t : Tdi) : Nat := (match t.stream with | some k => 2048 + 256 * k | none => 0) + tdiCode t.state

def vltWord (s : State) (o : Nat) : Nat :=
  if 0x020 ≤ o ∧ o < 0x050 then fld s.vlt.anchor.toNat (8 * (o - 0x020)) 32
  else if 0x080 ≤ o ∧ o < 0x100 then half64 (s.wing ((o - 0x080) / 8)).nonTee.toNat (o % 8)
  else if 0x404 ≤ o ∧ o < 0x800 then tdiReg (s.tdi ((o - 0x400) / 4))
  else match o with
  | 0x000 => vltStatus s
  | 0x004 => b2n s.vlt.modeReq
  | 0x008 => s.vlt.tamper.toNat
  | 0x00C => 65536 * b2n s.par.pk.isSome + tenantKeys s
  | _ => 0

/-! ### RST (16 R519, 18 R566) -/

/-- FW_STATUS. -/
def fwStatus (s : State) : Nat :=
  let f := s.fw
  (if f.quarantine then 0xE0 * 2 ^ 24 else 0) + f.fails * 2 ^ 13 + 4096 * b2n f.autoFallback + 2048 * b2n f.quarantine +
  1024 * b2n f.recovery + 512 * b2n (onTrial f) + 256 * b2n f.running + f.schema.toNat

/-- FW_SLOT_A, FW_SLOT_B. -/
def slotReg (x : Slot) : Nat :=
  (if x.state = .empty then 0 else x.schema.toNat * 2 ^ 24) + slotCode x.state * 65536 + x.svn.toNat

/-- PWR_STATUS. -/
def pwrStatus (s : State) : Nat := 2 ^ 31 * b2n s.rst.excursion + 2 ^ 30 * b2n s.rst.thermtrip + s.rst.packageW % 65536

/-- PWR_DIE and THM_DIE of a die. -/
def pwrDie (s : State) (d : Nat) : Nat := (if d < 8 then (s.cell d).step * 65536 else 0) + (s.die d).power % 65536
def thmDie (s : State) (d : Nat) : Nat := (s.die d).sensor * 65536 + 256 * b2n (s.die d).hot + (s.die d).temp % 256

def rstWord (s : State) (o : Nat) : Nat :=
  if 0x040 ≤ o ∧ o < 0x070 then rstMapReg s ((o - 0x040) / 4)
  else if 0x080 ≤ o ∧ o < 0x0B0 then (Tbl.get 0#32 s.rst.count ((o - 0x080) / 4)).toNat
  else if 0x140 ≤ o ∧ o < 0x190 then pwrDie s ((o - 0x140) / 4)
  else if 0x1C0 ≤ o ∧ o < 0x210 then thmDie s ((o - 0x1C0) / 4)
  else match o with
  | 0x000 => 0x0C060580
  | 0x004 => s.rst.idleTimeout
  | 0x008 => s.rst.last.toNat
  | 0x010 | 0x014 => half64 s.rst.boot.toNat (o - 0x010)
  | 0x100 => s.rst.servStep
  | 0x104 => pwrStatus s
  | 0x240 | 0x244 => half64 s.rst.excursions.toNat (o - 0x240)
  | 0x300 => fwStatus s
  | 0x304 => slotReg s.fw.slotA
  | 0x308 => slotReg s.fw.slotB
  | 0x30C => svnMinimum s
  | 0x310 => testCtl s
  | _ => 0

/-! ### VNT (17 R542) and the integrity registers (12 R392) -/

def unitReg (x : UnitSt) (u : Nat) : Nat :=
  (match x.subPos with | some p => 2048 + 256 * p | none => 0) + (if u < 40 then 16 * (x.mismatches % 4) else 0) +
  8 * b2n x.swapPending.isSome + 4 * b2n x.replaced + 2 * b2n x.quarantined

def intgWord (s : State) (o : Nat) : Nat :=
  if o = 0x8000 then 0x01031870
  else if 0x8010 ≤ o ∧ o < 0x8150 then
    let d := s.die ((o - 0x8010) / 0x10)
    half64 (if o % 0x10 < 8 then d.sramCe.toNat else d.sramUe.toNat) (o % 8)
  else if 0x8200 ≤ o ∧ o < 0x8300 then
    let k := s.stack ((o - 0x8200) / 0x20)
    match o % 0x20 / 8 with
    | 0 => half64 k.dramCe.toNat (o % 8)
    | 1 => half64 k.dramUe.toNat (o % 8)
    | 2 => half64 k.lastUe.toNat (o % 8)
    | _ => 0
  else if 0x8400 ≤ o ∧ o < 0x85C0 then unitReg (s.unit ((o - 0x8400) / 4)) ((o - 0x8400) / 4)
  else if 0x8600 ≤ o ∧ o < 0x8800 then
    let x := s.wing ((o - 0x8600) / 0x20)
    match o % 0x20 / 8 with
    | 0 => half64 x.dupPasses.toNat (o % 8)
    | 1 => half64 x.dupMismatch.toNat (o % 8)
    | 2 => half64 x.digestFail.toNat (o % 8)
    | _ => 0
  else if 0x8800 ≤ o ∧ o < 0x88A0 then half64 (s.die ((o - 0x8800) / 8)).digestRx.toNat (o % 8)
  else 0

def vntWord (s : State) (o : Nat) : Nat :=
  let v := s.vnt
  if o ≥ 0x8000 then intgWord s o
  else if 0x040 ≤ o ∧ o < 0x0A0 then
    let r := v.ring ((o - 0x040) / 0x20)
    match o % 0x20 with
    | 0x00 | 0x04 => half64 r.head.toNat (o % 8)
    | 0x08 | 0x0C => half64 r.tail.toNat (o % 8)
    | 0x10 => 256 * r.sizeLog2 + r.mask
    | _ => 0
  else if 0x108 ≤ o ∧ o < 0x128 then half64 (Tbl.get 0#64 v.logDrops ((o - 0x108) / 8)).toNat (o % 8)
  else if 0x200 ≤ o ∧ o < 0x280 then leAt v.lastword (o - 0x200) 4
  else match o with
  | 0x000 => 0x10040840
  | 0x004 => vntCtl s
  | 0x008 => v.alert.toNat
  | 0x00C => 4 * b2n v.bothFailed + 2 * b2n v.fallback + s.pcie.activeHub.val
  | 0x010 | 0x014 => half64 v.vectors.toNat (o - 0x010)
  | 0x100 | 0x104 => half64 v.coalesced.toNat (o - 0x100)
  | 0x128 | 0x12C => half64 v.filtered.toNat (o - 0x128)
  | 0x130 | 0x134 => half64 v.traceDrops.toNat (o - 0x130)
  | 0x138 | 0x13C => half64 v.lost.toNat (o - 0x138)
  | _ => 0

/-! ### INT (14 R443) -/

/-- The MSI-X table, the pending-bit array and INT_CFG of the function. -/
def intWord (s : State) (fn : Fn) (o : Nat) : Nat :=
  if o < 0x8000 then
    let e := s.msixEnt (msixKey fn (o / 16))
    match o % 16 with
    | 0 => half64 e.addr.toNat 0
    | 4 => half64 e.addr.toNat 4
    | 8 => e.data.toNat
    | _ => b2n e.mask
  else if o < 0x8100 then maskOf 32 fun b => (s.msixEnt (msixKey fn (8 * (o - 0x8000) + b))).pend
  else if o = 0x9000 then (s.fnSt fn).netVector.toNat * 65536 + (s.fnSt fn).mbxVector.toNat
  else 0

/-! ### BAR0 (14 R438, R439) -/

/-- The word at an offset of BAR0, or whose violation of kind 1 the access is. -/
def bar0Word (s : State) (fn : Fn) (off : Nat) : Except (Option Nat) Nat :=
  let o := off % 0x20000
  if !sees s fn off then .error ((s.fnWing fn).map (·.val))
  else match off / 0x20000 with
  | 0 => .ok (if off < 0x10000 then glbWord s fn off else mbxWord s fn (off - 0x10000))
  | 1 => queWord s fn o
  | 2 => .ok (wngWord s fn o)
  | 3 => .ok (xltWord s o)
  | 4 => .ok (catWord s fn o)
  | 5 => .ok (stmWord s o)
  | 6 => .ok (memWord s o)
  | 7 => .ok (parWord s o)
  | 8 => netWord s fn o
  | 9 => .ok (vltWord s o)
  | 10 => .ok (rstWord s o)
  | 11 => .ok (vntWord s o)
  | 12 => .ok (intWord s fn o)
  | _ => .ok 0

/-- What every BAR0 access meets first: whether it is answered (none: go on). A request outside the TDI's stream in RUN is refused
and counted (15 R480); before READY only GLB and MBX answer (16 R505); a size or alignment other than 4 B and 8 B reads zero. -/
inductive Bar0Gate where
  /-- no completion: the part is in reset or the link is down -/
  | silent
  /-- Unsupported Request -/
  | unsupported
  /-- Unsupported Request, counted in VLT_NONTEE -/
  | nonTee
  /-- reads zero, drops its write, counts nothing -/
  | zero
  | pass
  deriving DecidableEq, Repr

def bar0Gate (s : State) (fn : Fn) (off : Nat) (wide tee : Bool) : Bar0Gate :=
  if !s.alive || !s.dlActive then .silent
  else if !memOpen s fn then .unsupported
  else if teeOnly s fn && !tee then .nonTee
  else if off % (if wide then 8 else 4) ≠ 0 then .zero
  else if off ≥ 0x20000 ∧ !regReady s fn then .zero
  else .pass

/-- VLT_NONTEE of the function's wing counts a request. -/
def countNonTee (s : State) (fn : Fn) : State :=
  match s.fnWing fn with
  | some w => s.updWing w fun x => { x with nonTee := satInc x.nonTee }
  | none => s

/-- What a read of 4 B or 8 B gives. -/
def bar0Value (s : State) (fn : Fn) (off : Nat) (wide : Bool) : Except (Option Nat) Nat :=
  match bar0Word s fn off with
  | .error w => .error w
  | .ok lo =>
    if !wide then .ok lo
    else match bar0Word s fn (off + 4) with
    | .error w => .error w
    | .ok hi => .ok (lo + hi * 2 ^ 32)

/-- BAR0_READ. -/
def bar0Read (s : State) (fn : Fn) (off : Nat) (wide tee : Bool) : State :=
  match bar0Gate s fn off wide tee with
  | .silent => s
  | .unsupported => s.emit (.unsupported fn)
  | .nonTee => (countNonTee s fn).emit (.unsupported fn)
  | .zero => s.emit (.readReturn fn 0)
  | .pass =>
    match bar0Value s fn off wide with
    | .ok v => s.emit (.readReturn fn (BitVec.ofNat 64 v))
    | .error w => (violate s w 1).emit (.readReturn fn 0)

def execBar0Read (fn : Fn) (off : BitVec 24) (wide tee : Bool) (s : State) : Host.Outcome State Fault Refusal :=
  .next (bar0Read s fn off.toNat wide tee)

end Sys2Proof.Machine
end

