-- ==== Sys2Proof/Machine/Mailbox.lean ====
section
/-! DEFINITION. The mailbox: MBX_GO dispatches the command in MBX_CMD to the meaning of its opcode (03 R82, R83, R87), and a command
reaches its class bound (03 R90). -/

namespace Sys2Proof.Machine

/-- The meaning of an opcode, groups 0x00 to 0x04. -/
def scpHandler1 (op : Nat) : Handler :=
  match op with
  | 0x0001 => hello
  | 0x0002 => authQuery
  | 0x0003 => authHandover
  | 0x0101 => wingRebind
  | 0x0102 => wingGrant
  | 0x0103 => wingQuery
  | 0x0104 => wingReset
  | 0x0201 => catTableCreate
  | 0x0202 => catTableDelete
  | 0x0203 => catPin
  | 0x0204 => catUnpin
  | 0x0205 => epochOpen
  | 0x0206 => epochCommit
  | 0x0207 => epochRetire
  | 0x0301 => translationSync
  | 0x0401 => firmwareLoad
  | 0x0402 => firmwareActivate
  | 0x0403 => firmwareCommit
  | _ => rollback

/-- Groups 0x05 to 0x0A. -/
def scpHandler2 (op : Nat) : Handler :=
  match op with
  | 0x0501 => pairConfigure
  | 0x0502 => pairLease
  | 0x0503 => pairStatus
  | 0x0504 => pairResync
  | 0x0505 => pairReset
  | 0x0601 => vaultStatus_
  | 0x0602 => vaultSelftest
  | 0x0603 => vaultKeyImport
  | 0x0604 => vaultZeroize
  | 0x0605 => logRead
  | 0x0606 => logExport
  | 0x0607 => logAck
  | 0x0701 => ventConfigure
  | 0x0702 => ventStatus
  | 0x0703 => ventTraceWindow
  | 0x0801 => repairQuery
  | 0x0802 => repairRow
  | 0x0803 => repairLane
  | 0x0804 => spareSwap
  | 0x0805 => quarantineClear
  | 0x0901 => marginRun
  | 0x0902 => marginApply
  | 0x0A01 => resetRequest
  | _ => hostPortMove

/-- The meaning of every opcode; another opcode fails check 4 before it is asked. -/
def scpHandler (op : Nat) : Handler := if op < 0x0500 then scpHandler1 op else scpHandler2 op

/-- What follows the response of a command of class D, and of VAULT_ZEROIZE with SCOPE 2 (03 R92). -/
def scpAfter (op : Nat) : State → Cmd → State :=
  match op with
  | 0x0402 | 0x0404 => afterFirmware
  | 0x0604 => afterZeroize
  | 0x0A01 => afterReset
  | _ => fun s _ => s

/-- GO: the header and payload are read from MBX_CMD (03 R83). A LENGTH above 4,064 fails check 6 whatever the payload. -/
def mbxGo (s : State) (fn : Fn) (hub : Hub) : State :=
  let m := (s.mbox (mbxKey fn hub)).cmd
  let n := m.le 8 2
  let op := m.le 0 2
  let c : Cmd :=
    { fn := fn, hub := hub, op := op, minor := (s.fnSt fn).minor, tag := BitVec.ofNat 32 (m.le 4 4), wing := BitVec.ofNat 8 (m.le 10 1),
      payload := m.read 32 (min n 4064) }
  scpSubmitThen s c (m.le 2 1) (m.le 3 1) (!allZero (m.read 11 21)) n (scpHandler op) (scpAfter op)

/-- MBX_GO. -/
def execMbxGo (fn : Fn) (hub : Hub) (s : State) : Host.Outcome State Fault Refusal := .next (mbxGo s fn hub)

/-- A command that reaches its class bound: one that has not passed its commit point has no effect. -/
def commandTimeout (s : State) (fn : Fn) (hub : Hub) : State :=
  match (s.mbox (mbxKey fn hub)).run with
  | none => s
  | some r =>
    let s1 := if r.committed then s else undoRun s fn hub r
    let s2 := alarm (runFinish s1 fn hub rINTERNAL []) 0x0104 0xFF (16 + hub) r.op.toNat fn 0 0
    zeroizePoll s2

/-- COMMAND_TIMEOUT. -/
def execCommandTimeout (fn : Fn) (hub : Hub) (s : State) : Host.Outcome State Fault Refusal := .next (commandTimeout s fn hub)

end Sys2Proof.Machine
end

