-- ==== Sys2Proof/Machine/Package.lean ====
section
/-! DEFINITION. The package: the sideband (19 R582), the lasers (19 R584) and the test access port (18 R564). -/

namespace Sys2Proof.Machine

/-! ### Sideband -/

/-- The content of an index, and whether it is there only with the main rails and out of reset. -/
def sidebandContent (s : State) (i : Nat) : Option (Bytes × Bool) :=
  if 0x10 ≤ i ∧ i < 0x24 then some (leBytes 4 (thmDie s (i - 0x10)), true)
  else if 0x30 ≤ i ∧ i < 0x44 then some (leBytes 4 (pwrDie s (i - 0x30)), true)
  else if 0x50 ≤ i ∧ i < 0x54 then some (slice s.vnt.lastword (32 * (i - 0x50)) 32, false)
  else match i with
  | 0x00 => some (leBytes 4 (glbWord s 0 0) ++ leBytes 4 (glbWord s 0 4), false)
  | 0x01 => some (leBytes 4 s.vnt.alert.toNat, false)
  | 0x02 => some (leBytes 4 s.rst.last.toNat ++ leBytes 8 s.rst.boot.toNat, false)
  | 0x03 => some (leBytes 4 s.vlt.tamper.toNat, false)
  | 0x04 => some (leBytes 4 (fwStatus s), false)
  | 0x05 => some (leBytes 4 (pwrStatus s), true)
  | _ => none

/-- A block read. An index of no entry returns nothing (DESIGN CHOICE, log entry 41). -/
def sidebandRead (s : State) (i : Nat) : State :=
  match sidebandContent s i with
  | some (b, main) => s.emit (.sideband (if main ∧ (!s.rst.pwrOk ∨ s.rst.level.isSome) then b.map fun _ => 0xFF#8 else b))
  | none => s

/-- SIDEBAND_READ. -/
def execSidebandRead (index : Byte) (s : State) : Host.Outcome State Fault Refusal := .next (sidebandRead s index.toNat)

/-- SIDEBAND_WRITE: not acknowledged, whatever the index; the sideband is read-only. -/
def execSidebandWrite (index : Byte) (s : State) : Host.Outcome State Fault Refusal := .next (let _ := index; s)

/-! ### Lasers -/

/-- LASER_PROBE: a dark fiber whose receiver locks again has its lasers on; its lanes return at the next training (13 R398, R400). -/
def laserProbe (s : State) (n : Hub) (fiber : Nat) (locked : Bool) : State :=
  if locked ∧ s.alive then
    s.updPar fun p => p.setDie n { p.die n with lasersOff := (p.die n).lasersOff.filter (· != fiber) }
  else s

def execLaserProbe (die : Hub) (fiber : Fin 34) (locked : Bool) (s : State) : Host.Outcome State Fault Refusal :=
  .next (laserProbe s die fiber locked)

/-! ### Test access port -/

def State.updTap (s : State) (f : Tap → Tap) : State := { s with tap := f s.tap }

/-- The bits of a number, least significant first, as TDO shifts them out. -/
def tdoBits (n v : Nat) : List Bool := (List.range n).map (bit v)

/-- An instruction that selects the bypass register, which captures 0. -/
def tapBypass (s : State) (ir : JtagIr) : State := s.updTap fun t => { t with ir := ir, bypassBit := false }

/-- JTAG_BYPASS: one bit shifts through the bypass register. -/
def jtagBypass (s : State) (tdi : Bool) : State :=
  let out := decide (s.tap.ir = .bypass) && s.tap.bypassBit
  (s.updTap fun t => { t with ir := .bypass, bypassBit := tdi }).emit (.tdo [out])

def execJtagBypass (tdi : Bool) (s : State) : Host.Outcome State Fault Refusal := .next (jtagBypass s tdi)

/-- JTAG_IDCODE. -/
def execJtagIdcode (s : State) : Host.Outcome State Fault Refusal :=
  .next ((s.updTap fun t => { t with ir := .idcode }).emit (.tdo (tdoBits 32 0x148201C7)))

/-- JTAG_SAMPLE_PRELOAD: the boundary cells are loaded, and what they sampled shifts out. The order of the cells is not given, so the
sample is free (DESIGN CHOICE, log entry 10). -/
def jtagSamplePreload (s : State) (preload : List Bool) : State :=
  let f := s.free preload.length
  (f.2.updTap fun t => { t with ir := .samplePreload, preload := preload }).emit (.tdo (f.1.map fun b => bit b.toNat 0))

def execJtagSamplePreload (preload : List Bool) (s : State) : Host.Outcome State Fault Refusal := .next (jtagSamplePreload s preload)

/-- PERST# holds the device in reset level 5. -/
def perstHolds (s : State) : Bool := s.rst.perst && decide (s.rst.level = some 5)

/-- JTAG_EXTEST: the preloaded cells drive the pins. -/
def jtagExtest (s : State) : State :=
  if perstHolds s then (s.updTap fun t => { t with ir := .extest }).emit (.pins (s.tap.preload.map some)) else tapBypass s .bypass

def execJtagExtest (s : State) : Host.Outcome State Fault Refusal := .next (jtagExtest s)

/-- JTAG_CLAMP: as EXTEST, with the bypass register selected. -/
def jtagClamp (s : State) : State :=
  if perstHolds s then (tapBypass s .clamp).emit (.pins (s.tap.preload.map some)) else tapBypass s .bypass

def execJtagClamp (s : State) : Host.Outcome State Fault Refusal := .next (jtagClamp s)

/-- JTAG_HIGHZ: no pin is driven. -/
def jtagHighz (s : State) : State :=
  if perstHolds s then (tapBypass s .highz).emit (.pins (s.tap.preload.map fun _ => none)) else tapBypass s .bypass

def execJtagHighz (s : State) : Host.Outcome State Fault Refusal := .next (jtagHighz s)

end Sys2Proof.Machine
end

