-- ==== Sys2Proof/Machine/RegisterWrites.lean ====
section
/-! DEFINITION. Writing BAR0 (00 R9, 14 R438 to R440 and the register maps of every block): what a write of 4 B or 8 B does at every
offset. A write at another offset, or to an RO field, is ignored. -/

namespace Sys2Proof.Machine

/-! ### Logged settings -/

/-- A setting of a block that PF0 writes: dropped and recorded where `bad`, else logged and applied. `off` is the offset in BAR0. -/
def setReg (s : State) (fn wing off old new : Nat) (bad : Bool) (apply : State → State) : State :=
  if bad then ignoredWrite s fn wing off 4 old new else loggedWrite s fn wing off 4 old new apply

def setReg64 (s : State) (fn wing off old new : Nat) (bad : Bool) (apply : State → State) : State :=
  if bad then ignoredWrite s fn wing off 8 old new else loggedWrite s fn wing off 8 old new apply

/-! ### GLB (14 R440) -/

/-- A peer window is written only while no wing of its WINGS is ENABLED; the TDIs of those wings, before and after, enter ERROR
(15 R481). The windows are archived, so quarantine drops the write. -/
def peerPut (s : State) (fn : Fn) (off k width old new : Nat) (p : Peer) : State :=
  let ws := (s.peer k).wings ||| p.wings
  let busy := (List.range 16).any fun w => bit (s.peer k).wings.toNat w && decide ((s.wing w).state = .enabled)
  if busy || s.fw.quarantine then ignoredWrite s fn 0xFF off width old new
  else
    loggedWrite s fn 0xFF off width old new fun s =>
      archived ((List.range 16).foldl (fun s w => if bit ws.toNat w then tdiTrip s w fn else s) (s.setPeer k p))

def glbPut (s : State) (fn : Fn) (off v : Nat) : State :=
  let k := (off - 0x8000) / 0x20
  let p := s.peer k
  if 0x8000 ≤ off ∧ k < 8 ∧ off % 0x20 = 0x10 then
    peerPut s fn off k 4 p.wings.toNat (v % 65536) { p with wings := BitVec.ofNat 16 v }
  else s

def glbPut64 (s : State) (fn : Fn) (off v : Nat) : State :=
  let k := (off - 0x8000) / 0x20
  let p := s.peer k
  let a := v % 2 ^ 64 / 65536 * 65536
  if off < 0x8000 ∨ k ≥ 8 then s
  else match off % 0x20 with
  | 0x00 => peerPut s fn off k 8 p.base.toNat a { p with base := BitVec.ofNat 64 a }
  | 0x08 => peerPut s fn off k 8 p.limit.toNat a { p with limit := BitVec.ofNat 64 a }
  | _ => s

/-! ### MBX (03 R81, R82) -/

/-- MBX_CTL sets IRQ_EN, then submits; MBX_STATUS clears what is written 1; MBX_CMD takes the bytes unless a command runs. -/
def mbxPut (s : State) (fn : Fn) (o v : Nat) : State :=
  let hub : Hub := Fin.ofNat 2 (o / 0x8000)
  let k := mbxKey fn hub
  let i := o % 0x8000
  if !hubReach s hub then s
  else if 0x1000 ≤ i ∧ i < 0x2000 then
    s.updMbox k fun m => if m.run.isSome then { m with collide := true } else { m with cmd := m.cmd.write (i - 0x1000) (leBytes 4 v) }
  else match i with
  | 0x004 =>
    let s1 := s.updMbox k fun m => { m with irqEn := bit v 1 }
    if bit v 0 then mbxGo s1 fn hub else s1
  | 0x008 => s.updMbox k fun m => { m with collide := m.collide && !bit v 3, done := m.done && !bit v 2 }
  | _ => s

/-! ### QUE (04 R112, R113) -/

/-- One of the four configuration registers, only while the queue is DISABLED and no evaluation runs. `get` is the register. -/
def quePutCfg (s : State) (fn : Fn) (o width : Nat) (get : QueRegs → Nat) (f : QueRegs → QueRegs) : State :=
  queReg s fn fun q s =>
    let x := s.que q
    if x.state ≠ .disabled ∨ x.evaluating then
      ignoredWrite s fn ((wingOfQ x).getD 0xFF) (0x20000 + o) width (get x.regs) (get (f x.regs))
    else s.setQue q { x with regs := f x.regs }

/-- QUE_CTL: the bits written 1 act, lowest first (DESIGN CHOICE, log entry 39). One write of a queue that the function cannot
address is one violation (04 R112). -/
def quePutCtl (s : State) (fn : Fn) (v : Nat) : State :=
  queReg s fn fun _ s =>
    let s1 := if bit v 0 then queueEnable s fn else s
    let s2 := if bit v 1 then queueDisable s1 fn else s1
    if bit v 2 then queueResume s2 fn else s2

/-- QUE_CLASS of a wing. -/
def classPut (s : State) (fn : Fn) (w c o v : Nat) : State :=
  let new := v % 2 ^ 20
  loggedWrite s fn w (0x20000 + o) 4 (classReg s w c) new fun s =>
    s.updWing w fun x => { x with classes := Tbl.set 0 x.classes c (BitVec.ofNat 32 new) }

/-- QUE_SEL. -/
def queSelPut (s : State) (fn : Fn) (slot : Nat) : State :=
  match queSlot s fn slot with
  | .ok _ => s.updFnSt fn fun f => { f with queSel := BitVec.ofNat 12 slot }
  | .error w => violate s w 1

/-- A write of QUE. One to bytes +0x8 to +0xF of the doorbell slot of a tenant wing's queue is a violation of kind 1 also from PF0
(DESIGN CHOICE, log entry 69). -/
def quePut (s : State) (fn : Fn) (o v : Nat) : State :=
  let own := ((s.fnWing fn).map (·.val)).getD 16
  if o < 0x10000 then
    match o % 0x10 with
    | 0x0 => queSqDb s fn (o / 0x10) (BitVec.ofNat 16 v)
    | 0x4 => queCqDb s fn (o / 0x10) (BitVec.ofNat 16 v)
    | _ => match queSlot s fn (o / 0x10) with | .ok _ => s | .error w => violate s w 1
  else if o < 0x10100 then
    match o - 0x10000 with
    | 0x004 => queSelPut s fn (v % 4096)
    | 0x008 => quePutCtl s fn v
    | 0x00C => queReg s fn fun q s => s.updQue q fun x => { x with dbDropped := x.dbDropped && !bit v 4 }
    | 0x010 => quePutCfg s fn o 4 (·.cfg.toNat) fun r => { r with cfg := BitVec.ofNat 32 v &&& 0xFFFFF7FF#32 }
    | 0x014 => quePutCfg s fn o 4 (·.coalesce.toNat) fun r => { r with coalesce := BitVec.ofNat 32 v }
    | i => if 0x008 ≤ i ∧ i < 0x038 then queReg s fn fun _ s => s else s
  else
    let i := o - 0x10100
    if fn = 0 then (if i < 0x100 then classPut s fn (i / 0x10) (i % 0x10 / 4) o v else s)
    else if i < 0x10 then classPut s fn own (i / 4) o v
    else violateFn s fn 1

def quePut64 (s : State) (fn : Fn) (o v : Nat) : State :=
  if o = 0x10018 then quePutCfg s fn o 8 (·.sqBase.toNat) fun r => { r with sqBase := BitVec.ofNat 64 v }
  else quePutCfg s fn o 8 (·.cqBase.toNat) fun r => { r with cqBase := BitVec.ofNat 64 v }

/-! ### WNG (02 R73) -/

/-- A shadow register; TSYNC becomes 0 when ROOT is written. -/
def shadowPut (s : State) (fn : Fn) (w i off new : Nat) : State :=
  let x := (s.wing w).shadow
  let put (f : Shadow → Shadow) (s : State) : State := s.updWing w fun g => { g with shadow := f g.shadow }
  match i with
  | 0x020 => loggedWrite s fn w off 4 x.policy.toNat (new &&& 0x38) (put fun x => { x with policy := BitVec.ofNat 32 (new &&& 0x38) })
  | 0x024 => loggedWrite s fn w off 4 x.weight.toNat (new % 2 ^ 24) (put fun x => { x with weight := BitVec.ofNat 32 (new % 2 ^ 24) })
  | 0x028 => loggedWrite s fn w off 4 x.floor.toNat (new % 2 ^ 24) (put fun x => { x with floor := BitVec.ofNat 32 (new % 2 ^ 24) })
  | 0x030 => loggedWrite s fn w off 8 x.ptRoot.toNat (new % 2 ^ 48) fun s =>
      (put (fun x => { x with ptRoot := BitVec.ofNat 64 (new % 2 ^ 48) }) s).updWing w fun g => { g with tsyncGen := 0 }
  | _ => s

def wngPut (s : State) (fn : Fn) (o v : Nat) : State :=
  if o ≥ 0x10000 then s
  else
    let w := pageWing s fn o
    match o % 0x1000 with
    | 0x000 => wngCtl s fn (Fin.ofNat 16 w) (bit v 0) (bit v 1)
    | 0x020 | 0x024 | 0x028 => shadowPut s fn w (o % 0x1000) (0x40000 + o) v
    | _ => s

/-! ### XLT, MEM, STM (11 R368, R369, 10 R338) -/

def xltPut (s : State) (fn : Fn) (o v : Nat) : State :=
  if o = 4 then
    let ms := v % 65536
    setReg s fn 0xFF 0x60004 s.priTimeout.toNat ms (decide (ms = 0 ∨ ms > 60000) || s.fw.quarantine) fun s =>
      archived { s with priTimeout := BitVec.ofNat 16 ms }
  else if 0x100 ≤ o ∧ o < 0x500 ∧ o % 0x40 = 0 then
    let w := (o - 0x100) / 0x40
    let x := s.wing w
    let new := v % 2 ^ 21
    setReg s fn w (0x60000 + o) x.pasid.toNat new (decide (x.state ≠ .disabled)) fun s =>
      s.updWing w fun x => { x with pasid := BitVec.ofNat 32 new }
  else s

def memPut (s : State) (fn : Fn) (o v : Nat) : State :=
  if o = 0x100 then
    setReg s fn 0xFF 0xC0100 s.patrolHours.toNat (v % 256) (decide (v % 256 = 0) || s.fw.quarantine) fun s =>
      archived { s with patrolHours := BitVec.ofNat 8 v }
  else s

/-- STM_BUBBLE.TEST. -/
def stmPut (s : State) (fn : Fn) (o v : Nat) : State :=
  if 0x100 ≤ o ∧ o < 0x300 ∧ o % 0x20 = 0 then
    let w := (o - 0x100) / 0x20
    loggedWrite s fn w (0xA0000 + o) 4 (bubbleReg s w) (bubbleReg (s.updWing w fun x => { x with bubTest := bit v 0 }) w) fun s =>
      s.updWing w fun x => { x with bubTest := bit v 0 }
  else s

/-! ### CAT (06 R200, 07 R219, R220) -/

/-- CAT_UPD_CTL: the bits written 1 act, lowest first (DESIGN CHOICE, log entry 39). Whether a translation for the ring can be obtained is free
(DESIGN CHOICE, log entry 10). -/
def catPutCtl (s : State) (fn : Fn) (w c v : Nat) : State :=
  let f := s.free 1
  let s1 := if bit v 0 then catUpdEnable f.2 fn w c (bit (f.1.headD 0).toNat 0) else s
  let s2 := if bit v 1 then catUpdDisable s1 fn w c else s1
  if bit v 2 then catUpdResume s2 fn w c else s2

/-- CAT_UPD_CFG or CAT_UPD_BASE, only while the ring is DISABLED. -/
def catPutCfg (s : State) (fn : Fn) (w c o width : Nat) (get : Cat → Nat) (f : Cat → Cat) : State :=
  let x := s.cat (catKey w c)
  if x.state ≠ .disabled then ignoredWrite s fn w (0x80000 + o) width (get x) (get (f x)) else catUpd s w c f

def catPut (s : State) (fn : Fn) (o v : Nat) : State :=
  let w := pageWing s fn o
  let i := o % 0x1000
  let c := (i - 0x200) / 0x40
  let x := s.wing w
  if o ≥ 0x10000 then s
  else if 0x200 ≤ i ∧ i < 0x400 then
    match i % 0x40 with
    | 0x00 => catPutCtl s fn w c v
    | 0x04 => catUpd s w c fun k => { k with dbDropped := k.dbDropped && !bit v 3 }
    | 0x08 => catPutCfg s fn w c o 4 (·.cfg.toNat) fun k => { k with cfg := BitVec.ofNat 32 (v % 32) }
    | _ => s
  else if fn ≠ 0 then s
  else match i with
  | 0x008 =>
    let new := v % 2 ^ 24
    let ways := fld new 19 5
    setReg s fn w (0x80000 + o) x.cacheCtl.toNat new (decide (ways = 0 ∨ ways > 16 ∨ fld new 0 19 > 262144)) fun s =>
      s.updWing w fun x => { x with cacheCtl := BitVec.ofNat 32 new }
  | 0x010 =>
    let new := v % 2 ^ 19
    setReg s fn w (0x80000 + o) x.dirCtl.toNat new (decide (new > 262144)) fun s =>
      s.updWing w fun x => { x with dirCtl := BitVec.ofNat 32 new }
  | _ => s

def catPut64 (s : State) (fn : Fn) (o v : Nat) : State :=
  let w := pageWing s fn o
  let i := o % 0x1000
  let c := (i - 0x200) / 0x40
  if i % 0x40 = 0x10 then catPutCfg s fn w c o 8 (·.base.toNat) fun k => { k with base := BitVec.ofNat 64 v }
  else catUpdTail s fn w c (BitVec.ofNat 64 v)

/-! ### NET (14 R457) -/

/-- A register of the selected flow, only while it is in RESET. -/
def flowPut (s : State) (fn : Fn) (o width old new : Nat) (k : Nat) (f : Flow → Flow) : State :=
  let x := s.flow k
  let w := (x.owner.map (·.val)).getD 0xFF
  if x.state ≠ .reset then ignoredWrite s fn w (0x100000 + o) width old new
  else loggedWrite s fn w (0x100000 + o) width old new fun s => s.updFlow k f

/-- NET_FLOW_CTL: the transition that STATE requests; a reserved state is none of R458's rows. -/
def flowCtl (s : State) (fn : Fn) (v : Nat) : State :=
  match v % 8 with
  | 0 => flowModify s fn .reset
  | 1 => flowModify s fn .init
  | 2 => flowModify s fn .rtr
  | 3 => flowModify s fn .rts
  | 4 => flowModify s fn .error
  | _ => flowReg s fn fun k s => flowRefuse s k rNOT_PERMITTED

/-- A number with its 32-bit word `i` replaced. -/
def setWord (n i v : Nat) : Nat := n - fld n (32 * i) 32 * 2 ^ (32 * i) + v % 2 ^ 32 * 2 ^ (32 * i)

def flowPut32 (s : State) (fn : Fn) (o v : Nat) : State :=
  flowReg s fn fun k s =>
    let x := s.flow k
    let put (new : Nat) (f : Flow → Flow) : State := flowPut s fn o 4 (flowWord x k o) new k f
    match o with
    | 0x008 => put (v / 16 * 16) fun x => { x with cfg := BitVec.ofNat 32 (v / 16 * 16) }
    | 0x00C => put (v % 2 ^ 10) fun x => { x with queue := BitVec.ofNat 10 v }
    | 0x010 => put (v % 2 ^ 24) fun x => { x with destQpn := BitVec.ofNat 24 v }
    | 0x014 => put (v % 2 ^ 24) fun x => { x with sqPsn := BitVec.ofNat 24 v }
    | 0x018 => put (v % 2 ^ 24) fun x => { x with rqPsn := BitVec.ofNat 24 v }
    | 0x020 | 0x024 | 0x028 | 0x02C =>
      put v fun x => { x with dgid := BitVec.ofNat 128 (setWord x.dgid.toNat ((o - 0x020) / 4) v) }
    | 0x040 =>
      let new := fld v 14 17 * 2 ^ 14 + fld v 0 11
      put new fun x => { x with slotCfg := BitVec.ofNat 32 new }
    | _ => s

def flowPut64 (s : State) (fn : Fn) (o v : Nat) : State :=
  flowReg s fn fun k s =>
    let x := s.flow k
    if o = 0x030 then
      let new := v % 2 ^ 61
      flowPut s fn o 8 x.l2.toNat new k fun x => { x with l2 := BitVec.ofNat 64 new }
    else
      let new := v % 2 ^ 48
      flowPut s fn o 8 x.slotBase.toNat new k fun x => { x with slotBase := BitVec.ofNat 64 new }

/-- A port register, of PF0. -/
def portPut (s : State) (fn : Fn) (o v : Nat) : State :=
  let p := (o - 0x10000) / 0x100
  let x := s.eth p
  let put (new : Nat) (f : EthPort → EthPort) : State :=
    loggedWrite s fn 0xFF (0x100000 + o) 4 (portWord x (o % 0x100)) new fun s => s.updEth p f
  match o % 0x100 with
  | 0x00 => put (v % 256) fun x => { x with pfc := BitVec.ofNat 8 v }
  | 0x10 | 0x14 | 0x18 | 0x1C => put v fun x => { x with ip := BitVec.ofNat 128 (setWord x.ip.toNat ((o % 0x100 - 0x10) / 4) v) }
  | _ => s

def netPut (s : State) (fn : Fn) (o v : Nat) : State :=
  if o = 0 then s.updFnSt fn fun f => { f with netSel := BitVec.ofNat 14 v }
  else if o = 0x004 then flowCtl s fn v
  else if o < 0x044 then flowPut32 s fn o v
  else if 0x10000 ≤ o ∧ o < 0x10200 then portPut s fn o v
  else s

def netPut64 (s : State) (fn : Fn) (o v : Nat) : State :=
  if o < 0x044 then flowPut64 s fn o v
  else
    let p := (o - 0x10000) / 0x100
    loggedWrite s fn 0xFF (0x100000 + o) 8 (s.eth p).mac.toNat (v % 2 ^ 48) fun s =>
      s.updEth p fun x => { x with mac := BitVec.ofNat 48 v }

/-! ### VLT (15 R491) -/

/-- Eight bytes of VLT_OPERATOR_ANCHOR: written while they are zero, or in NON_APPROVED (DESIGN CHOICE, log entry 40). -/
def anchorPut (s : State) (fn : Fn) (o v : Nat) : State :=
  let i := (o - 0x020) / 8
  let old := fld s.vlt.anchor.toNat (64 * i) 64
  let off := 0x120000 + o
  if s.fw.quarantine || (decide (old ≠ 0) && decide (s.vlt.mode ≠ .nonApproved)) then ignoredWrite s fn 0xFF off 8 old v
  else loggedWrite s fn 0xFF off 8 old v fun s =>
    archived (s.updVlt fun x =>
      { x with anchor := BitVec.ofNat 384 (x.anchor.toNat - old * 2 ^ (64 * i) + v % 2 ^ 64 * 2 ^ (64 * i)) })

/-- VLT_CTL runs the self-test on a write of 0, with groups that fail as they may (DESIGN CHOICE, log entry 10); a 4 B write of the anchor is
ignored and logged. -/
def vltPut (s : State) (fn : Fn) (o v : Nat) : State :=
  if 0x020 ≤ o ∧ o < 0x050 then
    ignoredWrite s fn 0xFF (0x120000 + o) 4 (fld s.vlt.anchor.toNat (8 * (o - 0x020)) 32) v
  else match o with
  | 0x004 =>
    let f := s.free 1
    if bit v 0 then modeReq s fn true 0 else modeReq f.2 fn false (f.1.headD 0)
  | 0x008 => tamperClear s fn (v % 32)
  | _ => s

/-! ### RST (16 R519, 18 R566) -/

def rstPut (s : State) (fn : Fn) (o v : Nat) : State :=
  if 0x040 ≤ o ∧ o < 0x070 then rstMapWrite s fn ((o - 0x040) / 4) (BitVec.ofNat 32 v)
  else match o with
  | 0x004 =>
    let new := v % 2 ^ 14
    setReg s fn 0xFF 0x140004 s.rst.idleTimeout new (decide (new < 100 ∨ new > 10000) || s.fw.quarantine) fun s =>
      archived (s.updRst fun r => { r with idleTimeout := new })
  | 0x100 =>
    let new := v % 8
    setReg s fn 0xFF 0x140100 s.rst.servStep new (decide (new > 4) || s.fw.quarantine) fun s =>
      archived (s.updRst fun r => { r with servStep := new })
  | 0x310 => testCtlWrite s fn v
  | _ => s

/-! ### VNT (17 R542) and INT (14 R443) -/

def vntPut64 (s : State) (fn : Fn) (o v : Nat) : State :=
  if o = 0x010 then s.updVnt fun x => { x with vectors := BitVec.ofNat 64 v &&& 0x000007FF07FF07FF#64 }
  else vntHead s fn ((o - 0x040) / 0x20) (BitVec.ofNat 64 v)

/-- A word of the MSI-X table: the address and data, or the mask of Vector Control; INT_CFG. -/
def intPut (s : State) (fn : Fn) (o v : Nat) : State :=
  let k := msixKey fn (o / 16)
  if o < 0x8000 then
    match o % 16 with
    | 0 => s.updMsixEnt k fun e => { e with addr := BitVec.ofNat 64 (setWord e.addr.toNat 0 v) }
    | 4 => s.updMsixEnt k fun e => { e with addr := BitVec.ofNat 64 (setWord e.addr.toNat 1 v) }
    | 8 => s.updMsixEnt k fun e => { e with data := BitVec.ofNat 32 v }
    | _ => msixMask s fn (o / 16) (bit v 0)
  else if o = 0x9000 then
    s.updFnSt fn fun f => { f with netVector := BitVec.ofNat 11 (v / 65536), mbxVector := BitVec.ofNat 11 v }
  else s

/-! ### BAR0 (14 R438, R439) -/

/-- The offset is that of a 64-bit RW or WO register (NET_FLOW_DGID, NET_PORT_IP and the MSI-X table take words). -/
def isReg64 (off : Nat) : Bool :=
  let o := off % 0x20000
  match off / 0x20000 with
  | 0 => decide (0x8000 ≤ off ∧ off < 0x8100) && decide (off % 0x20 = 0 ∨ off % 0x20 = 8)
  | 1 => decide (o = 0x10018 ∨ o = 0x10020)
  | 2 => decide (o < 0x10000) && decide (o % 0x1000 = 0x030)
  | 4 => decide (o < 0x10000) && decide (0x200 ≤ o % 0x1000 ∧ o % 0x1000 < 0x400) && decide (o % 0x40 = 0x10 ∨ o % 0x40 = 0x18)
  | 8 => decide (o = 0x030 ∨ o = 0x038 ∨ o = 0x10008 ∨ o = 0x10108)
  | 9 => decide (0x020 ≤ o ∧ o < 0x050)
  | 11 => decide (o = 0x010 ∨ o = 0x040 ∨ o = 0x060 ∨ o = 0x080)
  | _ => false

/-- A write of 4 B at a visible offset. -/
def bar0Put (s : State) (fn : Fn) (off v : Nat) : State :=
  let o := off % 0x20000
  match off / 0x20000 with
  | 0 => if off < 0x10000 then glbPut s fn off v else mbxPut s fn (off - 0x10000) v
  | 1 => quePut s fn o v
  | 2 => wngPut s fn o v
  | 3 => xltPut s fn o v
  | 4 => catPut s fn o v
  | 5 => stmPut s fn o v
  | 6 => memPut s fn o v
  | 8 => netPut s fn o v
  | 9 => vltPut s fn o v
  | 10 => rstPut s fn o v
  | 11 => if o = 0x004 then vntCtlWrite s fn v else s
  | 12 => intPut s fn o v
  | _ => s

/-- A write of 8 B to a 64-bit register. -/
def bar0Put64 (s : State) (fn : Fn) (off v : Nat) : State :=
  let o := off % 0x20000
  match off / 0x20000 with
  | 0 => glbPut64 s fn off v
  | 1 => quePut64 s fn o v
  | 2 => shadowPut s fn (pageWing s fn o) 0x030 off v
  | 4 => catPut64 s fn o v
  | 8 => netPut64 s fn o v
  | 9 => anchorPut s fn o v
  | 11 => vntPut64 s fn o v
  | _ => s

/-- A write that the gate passes: 8 B to two 32-bit registers writes the lower one first. A queue slot or a selection that the
function cannot reach makes one violation of the access (04 R112). -/
def bar0Write (s : State) (fn : Fn) (off v : Nat) (wide : Bool) : State :=
  if !sees s fn off then violateFn s fn 1
  else if wide && isReg64 off then bar0Put64 s fn off v
  else if wide && (match bar0Word s fn off with | .ok _ => true | .error _ => false) then
    bar0Put (bar0Put s fn off (v % 2 ^ 32)) fn (off + 4) (v / 2 ^ 32)
  else bar0Put s fn off (v % 2 ^ 32)

/-- REGISTER_WRITE. -/
def registerWrite (s : State) (fn : Fn) (off : Nat) (wide : Bool) (v : Nat) (tee : Bool) : State :=
  if portHeld s fn then s
  else match bar0Gate s fn off wide tee with
  | .nonTee => countNonTee s fn
  | .pass => bar0Write s fn off v wide
  | _ => s

def execRegisterWrite (fn : Fn) (off : BitVec 24) (wide : Bool) (val : W64) (tee : Bool) (s : State) :
    Host.Outcome State Fault Refusal := .next (registerWrite s fn off.toNat wide val.toNat tee)

end Sys2Proof.Machine
end

