-- ==== Sys2Proof/Machine/Rounds.lean ====
section
/-! DEFINITION. Rounds of the arbiters (05 R166 to R168): the burst that ends, the round, and the work that the winner begins. -/

namespace Sys2Proof.Machine

/-- What the burst that a round ends has done (05 R166): rows of a vector or reduction descriptor, or lines of a stream. -/
def endedBurst (s : State) (a : ArbIx) : State :=
  match a with
  | .ve c rows => vectorBurst s c rows
  | .ru c rows => reductionBurst s c rows
  | .strm e lines hm => streamBurst s e lines hm
  | _ => s

/-- A round is held at an arbiter. A matrix unit whose granted descriptor has not ended holds none: its beat is one descriptor
(08 R275). -/
def arbiterRound (s : State) (a : ArbIx) : State :=
  match a with
  | .mu u => if (granted s (.mu u)).isSome then s else beginWork (holdRound s (arbKey a) (arbDocs s a).length (arbCands s a)) (.mu u)
  | .gpe g w => gpeAccept (holdRound s (arbKey a) (arbDocs s a).length (arbCands s a)) g w
  | _ =>
    let s1 := endedBurst s a
    beginWork (holdRound s1 (arbKey a) (arbDocs s1 a).length (arbCands s1 a)) (arbEngine a)

/-- ARBITER_ROUND: a round at an arbiter. -/
def execArbiterRound (arb : ArbIx) (s : State) : Host.Outcome State Fault Refusal := .next (arbiterRound s arb)

end Sys2Proof.Machine
end

