-- ==== Sys2Proof/Machine/Dispatch.lean ====
section
/-! DEFINITION. What each command does: one arm per command, each a call of its meaning. -/

namespace Sys2Proof.Machine

def exec (i : Instr) (s : State) : Host.Outcome State Fault Refusal :=
  match i with
  -- Registers (file Registers)
  | .registerWrite fn off wide val tee => Sys2Proof.Machine.execRegisterWrite fn off wide val tee s
  | .bar0Read fn off wide tee => Sys2Proof.Machine.execBar0Read fn off wide tee s
  -- Fabric
  | .fabricPacketReceive port cls kind index gen hub curator term req => Sys2Proof.Machine.execFabricPacketReceive port cls kind index gen hub curator term req s
  | .staleBindingReply wing req => Sys2Proof.Machine.execStaleBindingReply wing req s
  | .laneFault link lane => Sys2Proof.Machine.execLaneFault link lane s
  | .spareSubstitution cell docent pos => Sys2Proof.Machine.execSpareSubstitution cell docent pos s
  -- Wings
  | .wingRebind fn hub tag wing payload => Sys2Proof.Machine.execWingRebind fn hub tag wing payload s
  | .rebindDrainDone fn hub bad => Sys2Proof.Machine.execRebindDrainDone fn hub bad s
  | .drainTimeout fn hub wing => Sys2Proof.Machine.execDrainTimeout fn hub wing s
  | .wingGrant fn hub tag wing payload => Sys2Proof.Machine.execWingGrant fn hub tag wing payload s
  | .wingQuery fn hub tag wing payload => Sys2Proof.Machine.execWingQuery fn hub tag wing payload s
  | .violationSummary wing kind => Sys2Proof.Machine.execViolationSummary wing kind s
  | .wingEnable fn wing => Sys2Proof.Machine.execWingEnable fn wing s
  | .wingApply fn wing => Sys2Proof.Machine.execWingApply fn wing s
  | .wingDisable fn wing => Sys2Proof.Machine.execWingDisable fn wing s
  | .wingDrainDone wing => Sys2Proof.Machine.execWingDrainDone wing s
  | .wingCheckDone wing => Sys2Proof.Machine.execWingCheckDone wing s
  -- Curator
  | .mbxGo fn hub => Sys2Proof.Machine.execMbxGo fn hub s
  | .commandTimeout fn hub => Sys2Proof.Machine.execCommandTimeout fn hub s
  | .hello fn hub tag wing payload => Sys2Proof.Machine.execHello fn hub tag wing payload s
  | .authQuery fn hub tag wing payload => Sys2Proof.Machine.execAuthQuery fn hub tag wing payload s
  | .authHandover fn hub tag wing payload => Sys2Proof.Machine.execAuthHandover fn hub tag wing payload s
  | .heartbeatTimer hub ok => Sys2Proof.Machine.execHeartbeatTimer hub ok s
  | .heartbeatReceive hub term => Sys2Proof.Machine.execHeartbeatReceive hub term s
  | .heartbeatSlot hub => Sys2Proof.Machine.execHeartbeatSlot hub s
  | .beatConfirmTimer hub ok => Sys2Proof.Machine.execBeatConfirmTimer hub ok s
  | .termAdvanceAck port => Sys2Proof.Machine.execTermAdvanceAck port s
  | .termAdvanceTimeout port => Sys2Proof.Machine.execTermAdvanceTimeout port s
  | .rebuildDone hub => Sys2Proof.Machine.execRebuildDone hub s
  | .termStaleReply hub term => Sys2Proof.Machine.execTermStaleReply hub term s
  | .fenceDone hub => Sys2Proof.Machine.execFenceDone hub s
  | .noAuthorityTimeout => Sys2Proof.Machine.execNoAuthorityTimeout s
  -- Queues
  | .queSqDb fn slot tail => Sys2Proof.Machine.execQueSqDb fn slot tail s
  | .queCqDb fn slot head => Sys2Proof.Machine.execQueCqDb fn slot head s
  | .queSelWrite fn slot => Sys2Proof.Machine.execQueSelWrite fn slot s
  | .queueEnable fn => Sys2Proof.Machine.execQueueEnable fn s
  | .queueDisable fn => Sys2Proof.Machine.execQueueDisable fn s
  | .queueDrainDone que => Sys2Proof.Machine.execQueueDrainDone que s
  | .queueResume fn => Sys2Proof.Machine.execQueueResume fn s
  | .queueEnableEvalDone que xlat => Sys2Proof.Machine.execQueueEnableEvalDone que xlat s
  | .entryFetch que entry hm => Sys2Proof.Machine.execEntryFetch que entry hm s
  | .imageValidated req hm => Sys2Proof.Machine.execImageValidated req hm s
  | .requestDispatch wing => Sys2Proof.Machine.execRequestDispatch wing s
  | .requestEnd req => Sys2Proof.Machine.execRequestEnd req s
  | .completionWrite que => Sys2Proof.Machine.execCompletionWrite que s
  | .irqCoalesceTimeout que => Sys2Proof.Machine.execIrqCoalesceTimeout que s
  | .replyReadReturn que hm => Sys2Proof.Machine.execReplyReadReturn que hm s
  | .fenceTimeout req => Sys2Proof.Machine.execFenceTimeout req s
  -- Ozol
  | .docentLoadDone doc ok => Sys2Proof.Machine.execDocentLoadDone doc ok s
  | .ozNop doc => Sys2Proof.Machine.execOzNop doc s
  | .ozEnd doc => Sys2Proof.Machine.execOzEnd doc s
  | .ozSync doc point => Sys2Proof.Machine.execOzSync doc point s
  | .ozBarrier doc n => Sys2Proof.Machine.execOzBarrier doc n s
  | .ozPrio doc p => Sys2Proof.Machine.execOzPrio doc p s
  | .ozAdd doc rd ra rb => Sys2Proof.Machine.execOzAdd doc rd ra rb s
  | .ozSub doc rd ra rb => Sys2Proof.Machine.execOzSub doc rd ra rb s
  | .ozAnd doc rd ra rb => Sys2Proof.Machine.execOzAnd doc rd ra rb s
  | .ozOr doc rd ra rb => Sys2Proof.Machine.execOzOr doc rd ra rb s
  | .ozXor doc rd ra rb => Sys2Proof.Machine.execOzXor doc rd ra rb s
  | .ozShl doc rd ra rb => Sys2Proof.Machine.execOzShl doc rd ra rb s
  | .ozShr doc rd ra rb => Sys2Proof.Machine.execOzShr doc rd ra rb s
  | .ozSar doc rd ra rb => Sys2Proof.Machine.execOzSar doc rd ra rb s
  | .ozMul doc rd ra rb => Sys2Proof.Machine.execOzMul doc rd ra rb s
  | .ozMinu doc rd ra rb => Sys2Proof.Machine.execOzMinu doc rd ra rb s
  | .ozMaxu doc rd ra rb => Sys2Proof.Machine.execOzMaxu doc rd ra rb s
  | .ozSltu doc rd ra rb => Sys2Proof.Machine.execOzSltu doc rd ra rb s
  | .ozSlt doc rd ra rb => Sys2Proof.Machine.execOzSlt doc rd ra rb s
  | .ozAddi doc rd ra imm => Sys2Proof.Machine.execOzAddi doc rd ra imm s
  | .ozAndi doc rd ra imm => Sys2Proof.Machine.execOzAndi doc rd ra imm s
  | .ozOri doc rd ra imm => Sys2Proof.Machine.execOzOri doc rd ra imm s
  | .ozXori doc rd ra imm => Sys2Proof.Machine.execOzXori doc rd ra imm s
  | .ozShli doc rd ra sh => Sys2Proof.Machine.execOzShli doc rd ra sh s
  | .ozShri doc rd ra sh => Sys2Proof.Machine.execOzShri doc rd ra sh s
  | .ozSari doc rd ra sh => Sys2Proof.Machine.execOzSari doc rd ra sh s
  | .ozMovhi doc rd ra imm => Sys2Proof.Machine.execOzMovhi doc rd ra imm s
  | .ozMovi doc rd imm => Sys2Proof.Machine.execOzMovi doc rd imm s
  | .ozJmp doc target => Sys2Proof.Machine.execOzJmp doc target s
  | .ozBeq doc ra rb target => Sys2Proof.Machine.execOzBeq doc ra rb target s
  | .ozBne doc ra rb target => Sys2Proof.Machine.execOzBne doc ra rb target s
  | .ozBltu doc ra rb target => Sys2Proof.Machine.execOzBltu doc ra rb target s
  | .ozBgeu doc ra rb target => Sys2Proof.Machine.execOzBgeu doc ra rb target s
  | .ozBlt doc ra rb target => Sys2Proof.Machine.execOzBlt doc ra rb target s
  | .ozBge doc ra rb target => Sys2Proof.Machine.execOzBge doc ra rb target s
  | .ozLoop doc ra target => Sys2Proof.Machine.execOzLoop doc ra target s
  | .ozCall doc target => Sys2Proof.Machine.execOzCall doc target s
  | .ozRet doc => Sys2Proof.Machine.execOzRet doc s
  | .ozJr doc ra => Sys2Proof.Machine.execOzJr doc ra s
  | .ozLda doc rd ra imm => Sys2Proof.Machine.execOzLda doc rd ra imm s
  | .ldaDataReturn doc hm => Sys2Proof.Machine.execLdaDataReturn doc hm s
  | .ozLdc doc rd ra imm => Sys2Proof.Machine.execOzLdc doc rd ra imm s
  | .ozLds doc rd ra imm => Sys2Proof.Machine.execOzLds doc rd ra imm s
  | .ozSts doc ra rb imm => Sys2Proof.Machine.execOzSts doc ra rb imm s
  | .ozRdsr doc rd sel => Sys2Proof.Machine.execOzRdsr doc rd sel s
  | .ozDld doc slot cindex => Sys2Proof.Machine.execOzDld doc slot cindex s
  | .ozDset doc ra slot word => Sys2Proof.Machine.execOzDset doc ra slot word s
  | .ozMmul doc rd slot unit => Sys2Proof.Machine.execOzMmul doc rd slot unit s
  | .ozVec doc rd slot unit => Sys2Proof.Machine.execOzVec doc rd slot unit s
  | .ozRed doc rd slot unit => Sys2Proof.Machine.execOzRed doc rd slot unit s
  | .ozStrm doc rd slot unit => Sys2Proof.Machine.execOzStrm doc rd slot unit s
  | .ozGpeb doc rd slot unit => Sys2Proof.Machine.execOzGpeb doc rd slot unit s
  | .ozWait doc ra => Sys2Proof.Machine.execOzWait doc ra s
  | .ozWaitall doc => Sys2Proof.Machine.execOzWaitall doc s
  | .ozPoll doc rd ra => Sys2Proof.Machine.execOzPoll doc rd ra s
  | .docentFaultReport doc => Sys2Proof.Machine.execDocentFaultReport doc s
  | .watchdogExpiry doc => Sys2Proof.Machine.execWatchdogExpiry doc s
  | .arbiterRound arb => Sys2Proof.Machine.execArbiterRound arb s
  -- Catalogues
  | .catTableCreate fn hub tag wing payload => Sys2Proof.Machine.execCatTableCreate fn hub tag wing payload s
  | .tableCreateClearDone table => Sys2Proof.Machine.execTableCreateClearDone table s
  | .catTableDelete fn hub tag wing payload => Sys2Proof.Machine.execCatTableDelete fn hub tag wing payload s
  | .tableStorageClear table => Sys2Proof.Machine.execTableStorageClear table s
  | .tableStorageClearDone table => Sys2Proof.Machine.execTableStorageClearDone table s
  | .catPin fn hub tag wing payload => Sys2Proof.Machine.execCatPin fn hub tag wing payload s
  | .catUnpin fn hub tag wing payload => Sys2Proof.Machine.execCatUnpin fn hub tag wing payload s
  | .gpeRowReadDone doc ticket lookup err => Sys2Proof.Machine.execGpeRowReadDone doc ticket lookup err s
  | .partialReceive doc ticket bag gpos remote digestOk => Sys2Proof.Machine.execPartialReceive doc ticket bag gpos remote digestOk s
  | .gpeBatchDone doc ticket digestOk => Sys2Proof.Machine.execGpeBatchDone doc ticket digestOk s
  -- Updates
  | .catUpdEnable fn wing cat xlat => Sys2Proof.Machine.execCatUpdEnable fn wing cat xlat s
  | .catUpdDisable fn wing cat => Sys2Proof.Machine.execCatUpdDisable fn wing cat s
  | .catUpdResume fn wing cat => Sys2Proof.Machine.execCatUpdResume fn wing cat s
  | .catUpdTail fn wing cat count => Sys2Proof.Machine.execCatUpdTail fn wing cat count s
  | .updateRecordApply wing cat hm sram => Sys2Proof.Machine.execUpdateRecordApply wing cat hm sram s
  | .updateRecordDone wing cat => Sys2Proof.Machine.execUpdateRecordDone wing cat s
  | .versionReclaim table row => Sys2Proof.Machine.execVersionReclaim table row s
  | .epochOpen fn hub tag wing payload => Sys2Proof.Machine.execEpochOpen fn hub tag wing payload s
  | .epochCommit fn hub tag wing payload => Sys2Proof.Machine.execEpochCommit fn hub tag wing payload s
  | .epochCommitTimeout wing cat => Sys2Proof.Machine.execEpochCommitTimeout wing cat s
  | .epochRetire fn hub tag wing payload => Sys2Proof.Machine.execEpochRetire fn hub tag wing payload s
  | .epochRetireTimeout wing cat => Sys2Proof.Machine.execEpochRetireTimeout wing cat s
  | .discardRestoreDone wing cat => Sys2Proof.Machine.execDiscardRestoreDone wing cat s
  | .stallForcedRetire wing cat => Sys2Proof.Machine.execStallForcedRetire wing cat s
  | .pairRecordReceive wing cat epoch head record digestOk => Sys2Proof.Machine.execPairRecordReceive wing cat epoch head record digestOk s
  | .pairRecordAck wing cat head ok => Sys2Proof.Machine.execPairRecordAck wing cat head ok s
  | .partnerCommitRequest wing cat epoch discard term => Sys2Proof.Machine.execPartnerCommitRequest wing cat epoch discard term s
  | .partnerCommitReply wing cat epoch visTs oldest => Sys2Proof.Machine.execPartnerCommitReply wing cat epoch visTs oldest s
  -- Matrix
  | .matrixDescriptorDone unit err bad => Sys2Proof.Machine.execMatrixDescriptorDone unit err bad s
  | .duplicateVerdict unit verdict => Sys2Proof.Machine.execDuplicateVerdict unit verdict s
  | .mismatchDecay unit => Sys2Proof.Machine.execMismatchDecay unit s
  -- Vector
  | .vectorDescriptorDone cell err bad => Sys2Proof.Machine.execVectorDescriptorDone cell err bad s
  | .reductionDescriptorDone cell err bad => Sys2Proof.Machine.execReductionDescriptorDone cell err bad s
  -- Streams
  | .tileDelivered eng hm => Sys2Proof.Machine.execTileDelivered eng hm s
  | .streamDescriptorDone eng => Sys2Proof.Machine.execStreamDescriptorDone eng s
  | .streamPageFault eng hm => Sys2Proof.Machine.execStreamPageFault eng hm s
  | .scheduleIntervalExpiry doc => Sys2Proof.Machine.execScheduleIntervalExpiry doc s
  | .wcetExpiry req => Sys2Proof.Machine.execWcetExpiry req s
  | .bubbleStartupTimeout wing => Sys2Proof.Machine.execBubbleStartupTimeout wing s
  | .checkpointStopTimeout req => Sys2Proof.Machine.execCheckpointStopTimeout req s
  | .checkpointCopyDone req => Sys2Proof.Machine.execCheckpointCopyDone req s
  | .checkpointResume wing => Sys2Proof.Machine.execCheckpointResume wing s
  -- Memory
  | .dramTempSample stack temps => Sys2Proof.Machine.execDramTempSample stack temps s
  | .bankRefresh stack pc bank => Sys2Proof.Machine.execBankRefresh stack pc bank s
  | .dramLineRead addr errs tagOk => Sys2Proof.Machine.execDramLineRead addr errs tagOk s
  | .dramLineWrite addr data errs => Sys2Proof.Machine.execDramLineWrite addr data errs s
  | .rolloverKeyLoaded ext => Sys2Proof.Machine.execRolloverKeyLoaded ext s
  | .rolloverKeyTimeout ext => Sys2Proof.Machine.execRolloverKeyTimeout ext s
  | .rolloverSweepDone ext => Sys2Proof.Machine.execRolloverSweepDone ext s
  | .patrolScrub addr errs => Sys2Proof.Machine.execPatrolScrub addr errs s
  | .translationSync fn hub tag wing payload => Sys2Proof.Machine.execTranslationSync fn hub tag wing payload s
  | .walkComplete loc wing va write => Sys2Proof.Machine.execWalkComplete loc wing va write s
  | .atsInvalidate fn addr bytes global => Sys2Proof.Machine.execAtsInvalidate fn addr bytes global s
  | .atsTranslationCompletion fn page rd wr need who => Sys2Proof.Machine.execAtsTranslationCompletion fn page rd wr need who s
  | .hostErrorCompletion who poisoned => Sys2Proof.Machine.execHostErrorCompletion who poisoned s
  | .priResponse fn page code => Sys2Proof.Machine.execPriResponse fn page code s
  | .priTimeout fn page => Sys2Proof.Machine.execPriTimeout fn page s
  | .bar2Access fn write off len data tee => Sys2Proof.Machine.execBar2Access fn write off len data tee s
  -- Integrity
  | .spareSwap fn hub tag wing payload => Sys2Proof.Machine.execSpareSwap fn hub tag wing payload s
  | .quarantineClear fn hub tag wing payload => Sys2Proof.Machine.execQuarantineClear fn hub tag wing payload s
  -- Pair
  | .pairConfigure fn hub tag wing payload => Sys2Proof.Machine.execPairConfigure fn hub tag wing payload s
  | .pairLease fn hub tag wing payload => Sys2Proof.Machine.execPairLease fn hub tag wing payload s
  | .pairStatus fn hub tag wing payload => Sys2Proof.Machine.execPairStatus fn hub tag wing payload s
  | .pairResync fn hub tag wing payload => Sys2Proof.Machine.execPairResync fn hub tag wing payload s
  | .pairReset fn hub tag wing payload => Sys2Proof.Machine.execPairReset fn hub tag wing payload s
  | .pairResetReceive level => Sys2Proof.Machine.execPairResetReceive level s
  | .ranriFrameReceive die seq ok => Sys2Proof.Machine.execRanriFrameReceive die seq ok s
  | .keepaliveTick die => Sys2Proof.Machine.execKeepaliveTick die s
  | .laneFailure die fiber lambda => Sys2Proof.Machine.execLaneFailure die fiber lambda s
  | .linkDieDown die => Sys2Proof.Machine.execLinkDieDown die s
  | .trainingRetryTimer => Sys2Proof.Machine.execTrainingRetryTimer s
  | .linkTrained peer => Sys2Proof.Machine.execLinkTrained peer s
  | .timeOffsetMeasure ofs => Sys2Proof.Machine.execTimeOffsetMeasure ofs s
  | .epochReportTick => Sys2Proof.Machine.execEpochReportTick s
  | .epochReportReceive wing cat oldest => Sys2Proof.Machine.execEpochReportReceive wing cat oldest s
  | .partnerLookupReceive wing table epoch bags weighted max lookups => Sys2Proof.Machine.execPartnerLookupReceive wing table epoch bags weighted max lookups s
  | .remoteBatchTimeout doc ticket => Sys2Proof.Machine.execRemoteBatchTimeout doc ticket s
  | .leaseMessageReceive term holder expiry => Sys2Proof.Machine.execLeaseMessageReceive term holder expiry s
  | .leaseExpiry => Sys2Proof.Machine.execLeaseExpiry s
  | .witnessRenewTimer => Sys2Proof.Machine.execWitnessRenewTimer s
  | .claimDelayExpiry => Sys2Proof.Machine.execClaimDelayExpiry s
  | .claimTimer => Sys2Proof.Machine.execClaimTimer s
  | .witnessGrant term nonce macOk => Sys2Proof.Machine.execWitnessGrant term nonce macOk s
  | .witnessRefuse term nonce macOk => Sys2Proof.Machine.execWitnessRefuse term nonce macOk s
  | .partnerTableRequest wing delete table desc => Sys2Proof.Machine.execPartnerTableRequest wing delete table desc s
  | .partnerTableReply fn hub code => Sys2Proof.Machine.execPartnerTableReply fn hub code s
  | .resyncRowReceive wing cat table row epoch data => Sys2Proof.Machine.execResyncRowReceive wing cat table row epoch data s
  | .resyncDone wing cat v term => Sys2Proof.Machine.execResyncDone wing cat v term s
  -- Host
  | .hostPortMove fn hub tag wing payload => Sys2Proof.Machine.execHostPortMove fn hub tag wing payload s
  | .hostPortMoveDrained => Sys2Proof.Machine.execHostPortMoveDrained s
  | .hostLinkDown port => Sys2Proof.Machine.execHostLinkDown port s
  | .hostLinkUp port => Sys2Proof.Machine.execHostLinkUp port s
  | .standbyPortReset => Sys2Proof.Machine.execStandbyPortReset s
  | .msixUnmask fn vec => Sys2Proof.Machine.execMsixUnmask fn vec s
  | .pcieConfigWrite fn port field val => Sys2Proof.Machine.execPcieConfigWrite fn port field val s
  | .doeDiscovery fn index => Sys2Proof.Machine.execDoeDiscovery fn index s
  | .doeAbort fn => Sys2Proof.Machine.execDoeAbort fn s
  | .doeUnsupportedObject fn => Sys2Proof.Machine.execDoeUnsupportedObject fn s
  | .ethFrameReceive port frame => Sys2Proof.Machine.execEthFrameReceive port frame s
  | .roceSendReceive flow ce data hm => Sys2Proof.Machine.execRoceSendReceive flow ce data hm s
  | .roceAckReceive flow seq => Sys2Proof.Machine.execRoceAckReceive flow seq s
  | .roceRetryTimeout flow => Sys2Proof.Machine.execRoceRetryTimeout flow s
  | .cnpReceive flow => Sys2Proof.Machine.execCnpReceive flow s
  | .rateIncreaseTimer flow => Sys2Proof.Machine.execRateIncreaseTimer flow s
  | .flowModifyInit fn => Sys2Proof.Machine.execFlowModifyInit fn s
  | .flowModifyRtr fn => Sys2Proof.Machine.execFlowModifyRtr fn s
  | .flowModifyRts fn => Sys2Proof.Machine.execFlowModifyRts fn s
  | .flowModifyReset fn => Sys2Proof.Machine.execFlowModifyReset fn s
  | .flowModifyError fn => Sys2Proof.Machine.execFlowModifyError fn s
  | .ethPcsLockChange port up => Sys2Proof.Machine.execEthPcsLockChange port up s
  -- Security
  | .getVersion fn => Sys2Proof.Machine.execGetVersion fn s
  | .getCapabilities fn => Sys2Proof.Machine.execGetCapabilities fn s
  | .negotiateAlgorithms fn => Sys2Proof.Machine.execNegotiateAlgorithms fn s
  | .getDigests fn => Sys2Proof.Machine.execGetDigests fn s
  | .getCertificate fn slot => Sys2Proof.Machine.execGetCertificate fn slot s
  | .challenge fn slot nonce => Sys2Proof.Machine.execChallenge fn slot nonce s
  | .getMeasurements fn index nonce => Sys2Proof.Machine.execGetMeasurements fn index nonce s
  | .keyExchange fn sid anchor both => Sys2Proof.Machine.execKeyExchange fn sid anchor both s
  | .finish fn sid ok => Sys2Proof.Machine.execFinish fn sid ok s
  | .spdmHeartbeat fn sid => Sys2Proof.Machine.execSpdmHeartbeat fn sid s
  | .keyUpdate fn sid => Sys2Proof.Machine.execKeyUpdate fn sid s
  | .endSession fn sid => Sys2Proof.Machine.execEndSession fn sid s
  | .ideKeyProgram fn stream keySet sub vf => Sys2Proof.Machine.execIdeKeyProgram fn stream keySet sub vf s
  | .kSetGo fn stream keySet => Sys2Proof.Machine.execKSetGo fn stream keySet s
  | .ideIntegrityFailure stream => Sys2Proof.Machine.execIdeIntegrityFailure stream s
  | .lockInterface fn stream => Sys2Proof.Machine.execLockInterface fn stream s
  | .startInterface fn => Sys2Proof.Machine.execStartInterface fn s
  | .stopInterface fn => Sys2Proof.Machine.execStopInterface fn s
  | .getDeviceInterfaceReport fn => Sys2Proof.Machine.execGetDeviceInterfaceReport fn s
  | .vaultStatus fn hub tag wing payload => Sys2Proof.Machine.execVaultStatus fn hub tag wing payload s
  | .vaultSelftest fn hub tag wing payload => Sys2Proof.Machine.execVaultSelftest fn hub tag wing payload s
  | .vaultKeyImport fn hub tag wing payload => Sys2Proof.Machine.execVaultKeyImport fn hub tag wing payload s
  | .vaultZeroize fn hub tag wing payload => Sys2Proof.Machine.execVaultZeroize fn hub tag wing payload s
  | .logRead fn hub tag wing payload => Sys2Proof.Machine.execLogRead fn hub tag wing payload s
  | .logExport fn hub tag wing payload => Sys2Proof.Machine.execLogExport fn hub tag wing payload s
  | .logAck fn hub tag wing payload => Sys2Proof.Machine.execLogAck fn hub tag wing payload s
  | .modeReqNonApproved fn => Sys2Proof.Machine.execModeReqNonApproved fn s
  | .modeReqApproved fn fails => Sys2Proof.Machine.execModeReqApproved fn fails s
  | .vaultLinkRestore => Sys2Proof.Machine.execVaultLinkRestore s
  | .vaultLinkLoss => Sys2Proof.Machine.execVaultLinkLoss s
  | .tamperTrip sensor => Sys2Proof.Machine.execTamperTrip sensor s
  | .tamperClear fn bits => Sys2Proof.Machine.execTamperClear fn bits s
  | .entropyHealthFail => Sys2Proof.Machine.execEntropyHealthFail s
  -- Reset
  | .powerOn straps => Sys2Proof.Machine.execPowerOn straps s
  | .perst => Sys2Proof.Machine.execPerst s
  | .hotReset => Sys2Proof.Machine.execHotReset s
  | .flrPf0 => Sys2Proof.Machine.execFlrPf0 s
  | .flrVf fn => Sys2Proof.Machine.execFlrVf fn s
  | .wingReset fn hub tag wing payload => Sys2Proof.Machine.execWingReset fn hub tag wing payload s
  | .resetRequest fn hub tag wing payload => Sys2Proof.Machine.execResetRequest fn hub tag wing payload s
  | .curatorWdog hub => Sys2Proof.Machine.execCuratorWdog hub s
  | .deviceWdog => Sys2Proof.Machine.execDeviceWdog s
  | .blockResetIdle fn hub bad => Sys2Proof.Machine.execBlockResetIdle fn hub bad s
  | .blockResetIdleTimeout fn hub => Sys2Proof.Machine.execBlockResetIdleTimeout fn hub s
  | .resetRelease imageOk archiveOk linksBad => Sys2Proof.Machine.execResetRelease imageOk archiveOk linksBad s
  | .bootComplete hub plinthOk selftest ventOk => Sys2Proof.Machine.execBootComplete hub plinthOk selftest ventOk s
  | .rstMapWrite fn src val => Sys2Proof.Machine.execRstMapWrite fn src val s
  | .clockMonitorTrip island => Sys2Proof.Machine.execClockMonitorTrip island s
  | .timestampSyncTick => Sys2Proof.Machine.execTimestampSyncTick s
  | .powerMonitorTick pkg dies => Sys2Proof.Machine.execPowerMonitorTick pkg dies s
  | .excursionTimeout => Sys2Proof.Machine.execExcursionTimeout s
  | .thermalSample temps => Sys2Proof.Machine.execThermalSample temps s
  | .cellIdleGate cell => Sys2Proof.Machine.execCellIdleGate cell s
  | .pf0D3hotEntry => Sys2Proof.Machine.execPf0D3hotEntry s
  | .pf0D0Return => Sys2Proof.Machine.execPf0D0Return s
  | .vfD3hotEntry fn => Sys2Proof.Machine.execVfD3hotEntry fn s
  | .vfD0Return fn => Sys2Proof.Machine.execVfD0Return fn s
  | .pwrOkFall => Sys2Proof.Machine.execPwrOkFall s
  | .railFault => Sys2Proof.Machine.execRailFault s
  | .emberPowerLoss => Sys2Proof.Machine.execEmberPowerLoss s
  -- Vents
  | .ventRecordReceive rec producer => Sys2Proof.Machine.execVentRecordReceive rec producer s
  | .alarmCreditReturn => Sys2Proof.Machine.execAlarmCreditReturn s
  | .stormAccumulatorClose acc => Sys2Proof.Machine.execStormAccumulatorClose acc s
  | .ventConfigure fn hub tag wing payload => Sys2Proof.Machine.execVentConfigure fn hub tag wing payload s
  | .ventStatus fn hub tag wing payload => Sys2Proof.Machine.execVentStatus fn hub tag wing payload s
  | .ventTraceWindow fn hub tag wing payload => Sys2Proof.Machine.execVentTraceWindow fn hub tag wing payload s
  | .traceWindowStart win => Sys2Proof.Machine.execTraceWindowStart win s
  | .traceWindowEnd win recs lost => Sys2Proof.Machine.execTraceWindowEnd win recs lost s
  | .vntRingHeadWrite fn vent head => Sys2Proof.Machine.execVntRingHeadWrite fn vent head s
  | .ventMemoryFail cause => Sys2Proof.Machine.execVentMemoryFail cause s
  | .alarmUnackedTimeout => Sys2Proof.Machine.execAlarmUnackedTimeout s
  | .lwClear fn => Sys2Proof.Machine.execLwClear fn s
  | .ventWriteAccepted vent => Sys2Proof.Machine.execVentWriteAccepted vent s
  -- Firmware
  | .firmwareLoad fn hub tag wing payload => Sys2Proof.Machine.execFirmwareLoad fn hub tag wing payload s
  | .firmwareActivate fn hub tag wing payload => Sys2Proof.Machine.execFirmwareActivate fn hub tag wing payload s
  | .firmwareCommit fn hub tag wing payload => Sys2Proof.Machine.execFirmwareCommit fn hub tag wing payload s
  | .rollback fn hub tag wing payload => Sys2Proof.Machine.execRollback fn hub tag wing payload s
  | .archiveWrite => Sys2Proof.Machine.execArchiveWrite s
  | .marginRun fn hub tag wing payload => Sys2Proof.Machine.execMarginRun fn hub tag wing payload s
  | .marginApply fn hub tag wing payload => Sys2Proof.Machine.execMarginApply fn hub tag wing payload s
  | .repairQuery fn hub tag wing payload => Sys2Proof.Machine.execRepairQuery fn hub tag wing payload s
  | .repairRow fn hub tag wing payload => Sys2Proof.Machine.execRepairRow fn hub tag wing payload s
  | .repairLane fn hub tag wing payload => Sys2Proof.Machine.execRepairLane fn hub tag wing payload s
  | .testUnlock fn => Sys2Proof.Machine.execTestUnlock fn s
  | .testLock fn => Sys2Proof.Machine.execTestLock fn s
  | .patternTest fn => Sys2Proof.Machine.execPatternTest fn s
  | .patternTestDone bad => Sys2Proof.Machine.execPatternTestDone bad s
  | .mbist fn => Sys2Proof.Machine.execMbist fn s
  | .mbistDone bad => Sys2Proof.Machine.execMbistDone bad s
  | .jtagBypass tdi => Sys2Proof.Machine.execJtagBypass tdi s
  | .jtagIdcode => Sys2Proof.Machine.execJtagIdcode s
  | .jtagSamplePreload preload => Sys2Proof.Machine.execJtagSamplePreload preload s
  | .jtagExtest => Sys2Proof.Machine.execJtagExtest s
  | .jtagClamp => Sys2Proof.Machine.execJtagClamp s
  | .jtagHighz => Sys2Proof.Machine.execJtagHighz s
  -- Package
  | .sidebandRead index => Sys2Proof.Machine.execSidebandRead index s
  | .sidebandWrite index => Sys2Proof.Machine.execSidebandWrite index s
  | .laserProbe die fiber locked => Sys2Proof.Machine.execLaserProbe die fiber locked s

end Sys2Proof.Machine
end

