-- ==== Sys2Proof/Safety.lean ====
section
/-! DEFINITION. What counts as a sound state, in the terms that statements use. -/

namespace Sys2Proof.Machine

/-- The memories are in their one canonical form. -/
def State.memOk (s : State) : Prop := s.dram.wf = true ∧ s.sp.wf = true

/-- A command as the mailbox of a function hands it to its Curator (03 R83), under the session minor version (03 R85). -/
def sentCmd (s : State) (op : Nat) (fn : Fn) (hub : Hub) (tag : W32) (wing : Byte) (payload : Bytes) : Cmd :=
  { fn := fn, hub := hub, op := op, minor := (s.fnSt fn).minor, tag := tag, wing := wing, payload := payload }

/-- A submitted command meets nothing that every command shares: its window is open, its mailbox idle, its hub not superseded
(03 R109), no host port move runs (14 R448), and it passes checks 1 to 10 of 03 R87. Its own check 11 and its effect follow. -/
abbrev accepts (s : State) (c : Cmd) : Prop :=
  windowOpen s c.fn c.hub = true ∧ (s.mbox (mbxKey c.fn c.hub)).run = none ∧ superseded s c = false ∧ s.pcie.moving = false ∧
  scpChecks s c 1 c.minor.toNat false c.payload.length = none

/-- A change that a function makes is logged and applied: the log has room and the function's rate is not spent
(02 R77, R78). -/
abbrev canLog (s : State) (fn : Fn) : Prop := logFull s = false ∧ rateFull s fn = false

/-- The command set of SCP 1.2 (03 R92): the command that each opcode names. -/
def isScpRow (op : Nat) (fn : Fn) (hub : Hub) (tag : W32) (wing : Byte) (payload : Bytes) (i : Instr) : Prop :=
  match op with
  | 0x0001 => i = .hello fn hub tag wing payload
  | 0x0002 => i = .authQuery fn hub tag wing payload
  | 0x0003 => i = .authHandover fn hub tag wing payload
  | 0x0101 => i = .wingRebind fn hub tag wing payload
  | 0x0102 => i = .wingGrant fn hub tag wing payload
  | 0x0103 => i = .wingQuery fn hub tag wing payload
  | 0x0104 => i = .wingReset fn hub tag wing payload
  | 0x0201 => i = .catTableCreate fn hub tag wing payload
  | 0x0202 => i = .catTableDelete fn hub tag wing payload
  | 0x0203 => i = .catPin fn hub tag wing payload
  | 0x0204 => i = .catUnpin fn hub tag wing payload
  | 0x0205 => i = .epochOpen fn hub tag wing payload
  | 0x0206 => i = .epochCommit fn hub tag wing payload
  | 0x0207 => i = .epochRetire fn hub tag wing payload
  | 0x0301 => i = .translationSync fn hub tag wing payload
  | 0x0401 => i = .firmwareLoad fn hub tag wing payload
  | 0x0402 => i = .firmwareActivate fn hub tag wing payload
  | 0x0403 => i = .firmwareCommit fn hub tag wing payload
  | 0x0404 => i = .rollback fn hub tag wing payload
  | 0x0501 => i = .pairConfigure fn hub tag wing payload
  | 0x0502 => i = .pairLease fn hub tag wing payload
  | 0x0503 => i = .pairStatus fn hub tag wing payload
  | 0x0504 => i = .pairResync fn hub tag wing payload
  | 0x0505 => i = .pairReset fn hub tag wing payload
  | 0x0601 => i = .vaultStatus fn hub tag wing payload
  | 0x0602 => i = .vaultSelftest fn hub tag wing payload
  | 0x0603 => i = .vaultKeyImport fn hub tag wing payload
  | 0x0604 => i = .vaultZeroize fn hub tag wing payload
  | 0x0605 => i = .logRead fn hub tag wing payload
  | 0x0606 => i = .logExport fn hub tag wing payload
  | 0x0607 => i = .logAck fn hub tag wing payload
  | 0x0701 => i = .ventConfigure fn hub tag wing payload
  | 0x0702 => i = .ventStatus fn hub tag wing payload
  | 0x0703 => i = .ventTraceWindow fn hub tag wing payload
  | 0x0801 => i = .repairQuery fn hub tag wing payload
  | 0x0802 => i = .repairRow fn hub tag wing payload
  | 0x0803 => i = .repairLane fn hub tag wing payload
  | 0x0804 => i = .spareSwap fn hub tag wing payload
  | 0x0805 => i = .quarantineClear fn hub tag wing payload
  | 0x0901 => i = .marginRun fn hub tag wing payload
  | 0x0902 => i = .marginApply fn hub tag wing payload
  | 0x0A01 => i = .resetRequest fn hub tag wing payload
  | 0x0A02 => i = .hostPortMove fn hub tag wing payload
  | _ => False

/-- MBX_CMD holds the header of 03 R83 for a command of the session's version, and its payload. -/
abbrev headerIs (s : State) (fn : Fn) (hub : Hub) (op : Nat) (tag : W32) (wing : Byte) (payload : Bytes) : Prop :=
  (s.mbox (mbxKey fn hub)).cmd.le 0 2 = op ∧ (s.mbox (mbxKey fn hub)).cmd.le 2 1 = 1 ∧
  (s.mbox (mbxKey fn hub)).cmd.le 3 1 = (s.fnSt fn).minor.toNat ∧ (s.mbox (mbxKey fn hub)).cmd.le 4 4 = tag.toNat ∧
  (s.mbox (mbxKey fn hub)).cmd.le 8 2 = payload.length ∧
  (s.mbox (mbxKey fn hub)).cmd.le 10 1 = wing.toNat ∧
  allZero ((s.mbox (mbxKey fn hub)).cmd.read 11 21) = true ∧ (s.mbox (mbxKey fn hub)).cmd.read 32 payload.length = payload

/-- The word of a docent at an index passes the checks of 05 R151, so that going there does not fault (05 R160). -/
abbrev wordOk (s : State) (d pc : Nat) : Prop :=
  ozCheck ((s.doc d).code.getD pc 0#64) pc (s.doc d).code.length (s.doc d).consts.length (s.doc d).sched.length (docReduced s d) = none

/-- Docent `d` becomes `x`, and nothing else of the state changes. -/
def docBecomes (s t : State) (d : Nat) (x : Docent) : Prop :=
  t = { s with docents := t.docents } ∧ t.doc d = x ∧ ∀ k, k ≠ d → t.doc k = s.doc k

/-- Docent `d` becomes `x`, a launch joins the queues, and nothing else of the state changes. -/
def docLaunches (s t : State) (d : Nat) (x : Docent) (l : Launch) : Prop :=
  t = { s with docents := t.docents, launches := s.launches ++ [l] } ∧ t.doc d = x ∧ ∀ k, k ≠ d → t.doc k = s.doc k

/-- A launch finds room: the docent's queue at the engine is not full, and fewer than 64 of its tickets are open (05 R157). -/
abbrev launchRoom (s : State) (d : Nat) (eng : Engine) : Prop :=
  (queueAt s d eng).length < queueDepth eng ∧ (s.doc d).openT.length < 64

/-- The docent after a launch: the next ticket, in RD and open, and the next word (05 R157). -/
def afterLaunch (x : Docent) (rd : R5) : Docent :=
  { x.setG rd ((nextTicket x.ticket).setWidth 64) with
    ticket := nextTicket x.ticket, issued := x.issued + 1, openT := x.openT ++ [nextTicket x.ticket], pc := x.pc + 1, stall := .none }

/-- The launch of a descriptor by a docent for its request (05 R157). It has no defined result when a tile that it reads is not complete
(10 R323). -/
def launchOf (s : State) (d : DocIx) (req : Nat) (eng : Engine) (desc : Bytes) : Launch :=
  let x := s.doc d
  let l0 : Launch :=
    { doc := d, ticket := nextTicket x.ticket, req := req, eng := eng, desc := desc, pcOff := wordOffset x.pc,
      after_ := launchAfter eng desc, tile := 0, byte_ := 0, halted := false, begun := false, rows := 0, flags := 0, dirty := false }
  { l0 with dirty := afterDone s d l0.after_ && inputOpen s l0 }

/-- The state after a command that goes on past its own step: its mailbox holds it as running from the time of its submission
(03 R82), with what its later steps need. -/
def inProgress (s s1 : State) (c : Cmd) (committed : Bool) (data : List Nat) : State :=
  let r : Run := Run.mk (BitVec.ofNat 16 c.op) c.minor c.tag c.wing c.payload s.now committed data
  s1.updMbox (mbxKey c.fn c.hub) fun m => { m with run := some r }

end Sys2Proof.Machine
end

