-- ==== Sys2Proof/WellFormed.lean ====
section
/-! DEFINITION. Which commands are well formed: the operands that no bus, host or engine can produce are refused here (an SCP payload
longer than the buffer of 03 R83, a submission entry that is not 64 B, an Ozol field that 05 R154 reserves, an address above the
DRAM of 11 R340). A meaning is total all the same. -/

namespace Sys2Proof

/-- The payload of an SCP command fits MBX_CMD (03 R83). -/
def scpFits (payload : Bytes) : Bool := decide (payload.length ≤ 4064)

/-- A device address of DRAM (11 R340). -/
def dramAddr (a : BitVec 39) : Bool := decide (a.toNat < 384 * 2 ^ 30)

/-- The well-formed commands. -/
def Instr.wellFormed (i : Instr) : Bool :=
  match i with
  | .registerWrite _ _ _ _ _ => true
  | .bar0Read _ _ _ _ => true
  | .fabricPacketReceive _ _ _ _ _ _ _ _ _ => true
  | .staleBindingReply _ _ => true
  | .laneFault link lane => decide (lane.val % 1024 < if link.val < 22 then 1024 else if link.val < 30 then 256 else 128)
  | .spareSubstitution _ _ _ => true
  | .wingRebind _ _ _ _ payload => scpFits payload
  | .rebindDrainDone _ _ _ => true
  | .drainTimeout _ _ _ => true
  | .wingGrant _ _ _ _ payload => scpFits payload
  | .wingQuery _ _ _ _ payload => scpFits payload
  | .violationSummary _ _ => true
  | .wingEnable _ _ => true
  | .wingApply _ _ => true
  | .wingDisable _ _ => true
  | .wingDrainDone _ => true
  | .wingCheckDone _ => true
  | .mbxGo _ _ => true
  | .commandTimeout _ _ => true
  | .hello _ _ _ _ payload => scpFits payload
  | .authQuery _ _ _ _ payload => scpFits payload
  | .authHandover _ _ _ _ payload => scpFits payload
  | .heartbeatTimer _ _ => true
  | .heartbeatReceive _ _ => true
  | .heartbeatSlot _ => true
  | .beatConfirmTimer _ _ => true
  | .termAdvanceAck _ => true
  | .termAdvanceTimeout _ => true
  | .rebuildDone _ => true
  | .termStaleReply _ _ => true
  | .fenceDone _ => true
  | .noAuthorityTimeout => true
  | .queSqDb _ _ _ => true
  | .queCqDb _ _ _ => true
  | .queSelWrite _ _ => true
  | .queueEnable _ => true
  | .queueDisable _ => true
  | .queueDrainDone _ => true
  | .queueResume _ => true
  | .queueEnableEvalDone _ _ => true
  | .entryFetch _ entry _ => decide (entry.length = 64)
  | .imageValidated _ _ => true
  | .requestDispatch _ => true
  | .requestEnd _ => true
  | .completionWrite _ => true
  | .irqCoalesceTimeout _ => true
  | .replyReadReturn _ _ => true
  | .fenceTimeout _ => true
  | .docentLoadDone _ _ => true
  | .ozNop _ => true
  | .ozEnd _ => true
  | .ozSync _ _ => true
  | .ozBarrier _ _ => true
  | .ozPrio _ _ => true
  | .ozAdd _ _ _ _ => true
  | .ozSub _ _ _ _ => true
  | .ozAnd _ _ _ _ => true
  | .ozOr _ _ _ _ => true
  | .ozXor _ _ _ _ => true
  | .ozShl _ _ _ _ => true
  | .ozShr _ _ _ _ => true
  | .ozSar _ _ _ _ => true
  | .ozMul _ _ _ _ => true
  | .ozMinu _ _ _ _ => true
  | .ozMaxu _ _ _ _ => true
  | .ozSltu _ _ _ _ => true
  | .ozSlt _ _ _ _ => true
  | .ozAddi _ _ _ _ => true
  | .ozAndi _ _ _ _ => true
  | .ozOri _ _ _ _ => true
  | .ozXori _ _ _ _ => true
  | .ozShli _ _ _ _ => true
  | .ozShri _ _ _ _ => true
  | .ozSari _ _ _ _ => true
  | .ozMovhi _ _ _ _ => true
  | .ozMovi _ _ _ => true
  | .ozJmp _ _ => true
  | .ozBeq _ _ _ _ => true
  | .ozBne _ _ _ _ => true
  | .ozBltu _ _ _ _ => true
  | .ozBgeu _ _ _ _ => true
  | .ozBlt _ _ _ _ => true
  | .ozBge _ _ _ _ => true
  | .ozLoop _ ra _ => decide (ra ≠ 0)
  | .ozCall _ _ => true
  | .ozRet _ => true
  | .ozJr _ _ => true
  | .ozLda _ _ _ _ => true
  | .ldaDataReturn _ _ => true
  | .ozLdc _ _ _ _ => true
  | .ozLds _ _ _ _ => true
  | .ozSts _ _ _ _ => true
  | .ozRdsr _ _ sel => decide (sel.toNat ≤ 10)
  | .ozDld _ _ _ => true
  | .ozDset _ _ _ _ => true
  | .ozMmul _ _ _ unit => decide (unit.toNat ≤ 1)
  | .ozVec _ _ _ unit => decide (unit = 0)
  | .ozRed _ _ _ unit => decide (unit = 0)
  | .ozStrm _ _ _ _ => true
  | .ozGpeb _ _ _ unit => decide (unit = 0)
  | .ozWait _ _ => true
  | .ozWaitall _ => true
  | .ozPoll _ _ _ => true
  | .docentFaultReport _ => true
  | .watchdogExpiry _ => true
  | .arbiterRound _ => true
  | .catTableCreate _ _ _ _ payload => scpFits payload
  | .tableCreateClearDone _ => true
  | .catTableDelete _ _ _ _ payload => scpFits payload
  | .tableStorageClear _ => true
  | .tableStorageClearDone _ => true
  | .catPin _ _ _ _ payload => scpFits payload
  | .catUnpin _ _ _ _ payload => scpFits payload
  | .gpeRowReadDone _ _ _ _ => true
  | .partialReceive _ _ _ _ _ _ => true
  | .gpeBatchDone _ _ _ => true
  | .catUpdEnable _ _ _ _ => true
  | .catUpdDisable _ _ _ => true
  | .catUpdResume _ _ _ => true
  | .catUpdTail _ _ _ _ => true
  | .updateRecordApply _ _ _ _ => true
  | .updateRecordDone _ _ => true
  | .versionReclaim _ _ => true
  | .epochOpen _ _ _ _ payload => scpFits payload
  | .epochCommit _ _ _ _ payload => scpFits payload
  | .epochCommitTimeout _ _ => true
  | .epochRetire _ _ _ _ payload => scpFits payload
  | .epochRetireTimeout _ _ => true
  | .discardRestoreDone _ _ => true
  | .stallForcedRetire _ _ => true
  | .pairRecordReceive _ _ _ _ _ _ => true
  | .pairRecordAck _ _ _ _ => true
  | .partnerCommitRequest _ _ _ _ _ => true
  | .partnerCommitReply _ _ _ _ _ => true
  | .matrixDescriptorDone _ _ _ => true
  | .duplicateVerdict _ _ => true
  | .mismatchDecay _ => true
  | .vectorDescriptorDone _ _ _ => true
  | .reductionDescriptorDone _ _ _ => true
  | .tileDelivered _ _ => true
  | .streamDescriptorDone _ => true
  | .streamPageFault _ _ => true
  | .scheduleIntervalExpiry _ => true
  | .wcetExpiry _ => true
  | .bubbleStartupTimeout _ => true
  | .checkpointStopTimeout _ => true
  | .checkpointCopyDone _ => true
  | .checkpointResume _ => true
  | .dramTempSample _ temps => decide (temps.length = 16)
  | .bankRefresh _ _ _ => true
  | .dramLineRead addr _ _ => dramAddr addr
  | .dramLineWrite addr data _ => dramAddr addr && decide (data.length = 64)
  | .rolloverKeyLoaded _ => true
  | .rolloverKeyTimeout _ => true
  | .rolloverSweepDone _ => true
  | .patrolScrub addr _ => dramAddr addr
  | .translationSync _ _ _ _ payload => scpFits payload
  | .walkComplete _ _ _ _ => true
  | .atsInvalidate _ _ _ _ => true
  | .atsTranslationCompletion _ _ _ _ _ _ => true
  | .hostErrorCompletion _ _ => true
  | .priResponse _ _ _ => true
  | .priTimeout _ _ => true
  | .bar2Access _ write off len data _ => decide (1 ≤ len.val) && decide (off.toNat % 4096 + len.val ≤ 4096) && decide (data.length = if write then len.val else 0)
  | .spareSwap _ _ _ _ payload => scpFits payload
  | .quarantineClear _ _ _ _ payload => scpFits payload
  | .pairConfigure _ _ _ _ payload => scpFits payload
  | .pairLease _ _ _ _ payload => scpFits payload
  | .pairStatus _ _ _ _ payload => scpFits payload
  | .pairResync _ _ _ _ payload => scpFits payload
  | .pairReset _ _ _ _ payload => scpFits payload
  | .pairResetReceive level => decide (level.val = 3 ∨ level.val = 4)
  | .ranriFrameReceive _ _ _ => true
  | .keepaliveTick _ => true
  | .laneFailure _ _ _ => true
  | .linkDieDown _ => true
  | .trainingRetryTimer => true
  | .linkTrained _ => true
  | .timeOffsetMeasure _ => true
  | .epochReportTick => true
  | .epochReportReceive _ _ _ => true
  | .partnerLookupReceive _ _ _ _ _ _ _ => true
  | .remoteBatchTimeout _ _ => true
  | .leaseMessageReceive _ _ _ => true
  | .leaseExpiry => true
  | .witnessRenewTimer => true
  | .claimDelayExpiry => true
  | .claimTimer => true
  | .witnessGrant _ _ _ => true
  | .witnessRefuse _ _ _ => true
  | .partnerTableRequest _ _ _ _ => true
  | .partnerTableReply _ _ _ => true
  | .resyncRowReceive _ _ _ _ _ _ => true
  | .resyncDone _ _ _ _ => true
  | .hostPortMove _ _ _ _ payload => scpFits payload
  | .hostPortMoveDrained => true
  | .hostLinkDown _ => true
  | .hostLinkUp _ => true
  | .standbyPortReset => true
  | .msixUnmask _ _ => true
  | .pcieConfigWrite _ _ _ _ => true
  | .doeDiscovery _ _ => true
  | .doeAbort _ => true
  | .doeUnsupportedObject _ => true
  | .ethFrameReceive _ _ => true
  | .roceSendReceive _ _ data _ => decide (data.length ≤ 65536)
  | .roceAckReceive _ _ => true
  | .roceRetryTimeout _ => true
  | .cnpReceive _ => true
  | .rateIncreaseTimer _ => true
  | .flowModifyInit _ => true
  | .flowModifyRtr _ => true
  | .flowModifyRts _ => true
  | .flowModifyReset _ => true
  | .flowModifyError _ => true
  | .ethPcsLockChange _ _ => true
  | .getVersion _ => true
  | .getCapabilities _ => true
  | .negotiateAlgorithms _ => true
  | .getDigests _ => true
  | .getCertificate _ _ => true
  | .challenge _ _ nonce => decide (nonce.length = 32)
  | .getMeasurements _ _ nonce => decide (nonce.length = 32)
  | .keyExchange _ _ _ _ => true
  | .finish _ _ _ => true
  | .spdmHeartbeat _ _ => true
  | .keyUpdate _ _ => true
  | .endSession _ _ => true
  | .ideKeyProgram _ _ _ _ _ => true
  | .kSetGo _ _ _ => true
  | .ideIntegrityFailure _ => true
  | .lockInterface fn _ => decide (fn ≠ 0)
  | .startInterface fn => decide (fn ≠ 0)
  | .stopInterface fn => decide (fn ≠ 0)
  | .getDeviceInterfaceReport _ => true
  | .vaultStatus _ _ _ _ payload => scpFits payload
  | .vaultSelftest _ _ _ _ payload => scpFits payload
  | .vaultKeyImport _ _ _ _ payload => scpFits payload
  | .vaultZeroize _ _ _ _ payload => scpFits payload
  | .logRead _ _ _ _ payload => scpFits payload
  | .logExport _ _ _ _ payload => scpFits payload
  | .logAck _ _ _ _ payload => scpFits payload
  | .modeReqNonApproved _ => true
  | .modeReqApproved _ _ => true
  | .vaultLinkRestore => true
  | .vaultLinkLoss => true
  | .tamperTrip _ => true
  | .tamperClear _ _ => true
  | .entropyHealthFail => true
  | .powerOn _ => true
  | .perst => true
  | .hotReset => true
  | .flrPf0 => true
  | .flrVf fn => decide (fn ≠ 0)
  | .wingReset _ _ _ _ payload => scpFits payload
  | .resetRequest _ _ _ _ payload => scpFits payload
  | .curatorWdog _ => true
  | .deviceWdog => true
  | .blockResetIdle _ _ _ => true
  | .blockResetIdleTimeout _ _ => true
  | .resetRelease _ _ _ => true
  | .bootComplete _ _ _ _ => true
  | .rstMapWrite _ src _ => decide (src < 12)
  | .clockMonitorTrip _ => true
  | .timestampSyncTick => true
  | .powerMonitorTick _ dies => decide (dies.length = 20)
  | .excursionTimeout => true
  | .thermalSample _ => true
  | .cellIdleGate _ => true
  | .pf0D3hotEntry => true
  | .pf0D0Return => true
  | .vfD3hotEntry fn => decide (fn ≠ 0)
  | .vfD0Return fn => decide (fn ≠ 0)
  | .pwrOkFall => true
  | .railFault => true
  | .emberPowerLoss => true
  | .ventRecordReceive _ producer => decide (producer < 20)
  | .alarmCreditReturn => true
  | .stormAccumulatorClose _ => true
  | .ventConfigure _ _ _ _ payload => scpFits payload
  | .ventStatus _ _ _ _ payload => scpFits payload
  | .ventTraceWindow _ _ _ _ payload => scpFits payload
  | .traceWindowStart _ => true
  | .traceWindowEnd _ _ _ => true
  | .vntRingHeadWrite _ _ _ => true
  | .ventMemoryFail _ => true
  | .alarmUnackedTimeout => true
  | .lwClear _ => true
  | .ventWriteAccepted _ => true
  | .firmwareLoad _ _ _ _ payload => scpFits payload
  | .firmwareActivate _ _ _ _ payload => scpFits payload
  | .firmwareCommit _ _ _ _ payload => scpFits payload
  | .rollback _ _ _ _ payload => scpFits payload
  | .archiveWrite => true
  | .marginRun _ _ _ _ payload => scpFits payload
  | .marginApply _ _ _ _ payload => scpFits payload
  | .repairQuery _ _ _ _ payload => scpFits payload
  | .repairRow _ _ _ _ payload => scpFits payload
  | .repairLane _ _ _ _ payload => scpFits payload
  | .testUnlock _ => true
  | .testLock _ => true
  | .patternTest _ => true
  | .patternTestDone bad => bad.all dramAddr
  | .mbist _ => true
  | .mbistDone _ => true
  | .jtagBypass _ => true
  | .jtagIdcode => true
  | .jtagSamplePreload _ => true
  | .jtagExtest => true
  | .jtagClamp => true
  | .jtagHighz => true
  | .sidebandRead _ => true
  | .sidebandWrite _ => true
  | .laserProbe _ _ _ => true

end Sys2Proof
end

