-- ==== Sys2Proof/Certificates/Slice0/Obligations.lean ====
section
/-! DEFINITION. The statements: what the commands do, what they leave, when they complete, and what every step keeps. -/

open Sys2Proof Sys2Proof.Machine

/-- A fabric port on a packet's route refuses a stale term, then a stale binding generation, and else delivers.
What a fabric port does with a received packet, and what else happens on the fabric; each clause gives the whole next
state. A port that is not on the route from the packet's source to its unit's die receives nothing. A class 0 packet
of a Curator with a term below the port's is answered TERM_STALE with the port's term and changes nothing else.
Another packet whose generation is not its target's is answered STALE_BINDING and dropped; one of a Curator that has
passed the term check has raised the port's term before (the order of the two checks is the model's choice, log entry
68). A class 0 packet that passes both checks is delivered, and the port keeps the term. Any other packet that passes
is delivered; a flit of it that the port's buffer corrected counts at the port's die. STALE_BINDING_REPLY counts one
(saturating) in WNG_STALE_CNT of the wing and aborts its request, if that has no result yet, with STALE_BINDING;
otherwise it only counts. LANE_FAULT notes a lane that the link has and that is not noted yet for the next training,
and the link runs on. SPARE_SUBSTITUTION lets the spare take the place of a quarantined unit, and records it, when its
half-cell runs no request and is not held; it is put off otherwise.
Cites R22, R25, R58, 02_wings.md, 01_architecture.md, 03_curator.md (derived, tier 1). -/
def Obligations.FabricPortChecksTermThenGeneration : Prop :=
  (∀ (port : Fin 62) (cls kind : Fin 5) (index : Fin 16384) (gen : W16) (src : Fin 20) (mark : PacketMark) (term : W32) (req : Nat) (s : State),
    onRoute s port src kind index = false →
    exec (.fabricPacketReceive port cls kind index gen src mark term req) s = .next (s)) ∧
  (∀ (port : Fin 62) (cls kind : Fin 5) (index : Fin 16384) (gen : W16) (src : Fin 20) (mark : PacketMark) (term : W32) (req : Nat) (s : State),
    onRoute s port src kind index = true →
    mark.curator = true →
    cls = 0 →
    term < (s.port port).term →
    exec (.fabricPacketReceive port cls kind index gen src mark term req) s = .next (s.emit (.termStale (Fin.ofNat 2 src) (s.port port).term))) ∧
  (∀ (port : Fin 62) (cls kind : Fin 5) (index : Fin 16384) (gen : W16) (src : Fin 20) (mark : PacketMark) (term : W32) (req : Nat) (s : State),
    onRoute s port src kind index = true →
    ¬(mark.curator = true ∧ cls = 0) →
    unitGen s (kind, index) ≠ gen →
    exec (.fabricPacketReceive port cls kind index gen src mark term req) s = .next (s.emit (.stale port req))) ∧
  (∀ (port : Fin 62) (cls kind : Fin 5) (index : Fin 16384) (gen : W16) (src : Fin 20) (mark : PacketMark) (term : W32) (req : Nat) (s : State),
    onRoute s port src kind index = true →
    mark.curator = true →
    cls = 0 →
    ¬ term < (s.port port).term →
    unitGen s (kind, index) ≠ gen →
    exec (.fabricPacketReceive port cls kind index gen src mark term req) s = .next ((s.setPort port { s.port port with term := term }).emit (.stale port req))) ∧
  (∀ (port : Fin 62) (cls kind : Fin 5) (index : Fin 16384) (gen : W16) (src : Fin 20) (term : W32) (req : Nat) (s : State),
    onRoute s port src kind index = true →
    cls = 0 →
    ¬ term < (s.port port).term →
    unitGen s (kind, index) = gen →
    exec (.fabricPacketReceive port cls kind index gen src { curator := true, flit := .clean } term req) s = .next (s.setPort port { s.port port with term := term })) ∧
  (∀ (port : Fin 62) (cls kind : Fin 5) (index : Fin 16384) (gen : W16) (src : Fin 20) (curator : Bool) (term : W32) (req : Nat) (s : State),
    onRoute s port src kind index = true →
    ¬(curator = true ∧ cls = 0) →
    unitGen s (kind, index) = gen →
    exec (.fabricPacketReceive port cls kind index gen src { curator := curator, flit := .clean } term req) s = .next (s) ∧
    exec (.fabricPacketReceive port cls kind index gen src { curator := curator, flit := .corrected } term req) s = .next (s.setDie (portDie port) { s.die (portDie port) with sramCe := satInc (s.die (portDie port)).sramCe })) ∧
  (∀ (wing : WingIx) (req : Nat) (s : State),
    ((s.liveReqs wing).any (fun r => r.id == req) = true) →
    exec (.staleBindingReply wing req) s = .next (retireAll (abortStale (s.setWing wing { s.wing wing with staleCnt := satInc (s.wing wing).staleCnt }) req))) ∧
  (∀ (wing : WingIx) (req : Nat) (s : State),
    ((s.liveReqs wing).any (fun r => r.id == req) = false) →
    exec (.staleBindingReply wing req) s = .next (s.setWing wing { s.wing wing with staleCnt := satInc (s.wing wing).staleCnt })) ∧
  (∀ (link : Fin 31) (lane : Fin 2048) (s : State),
    lane.val % 1024 < linkLanes link →
    (s.link link).badLanes.contains lane.val = false →
    exec (.laneFault link lane) s = .next (s.setLink link { s.link link with badLanes := (s.link link).badLanes ++ [lane.val] })) ∧
  (∀ (cell : Cell) (docent : Bool) (pos : Fin 4) (s : State),
    subDue s (if docent then uDoc cell pos else uMU cell pos) = true →
    (s.half (unitHalf (if docent then uDoc cell pos else uMU cell pos))).req = none →
    (s.half (unitHalf (if docent then uDoc cell pos else uMU cell pos))).held = false →
    exec (.spareSubstitution cell docent pos) s = .next (curatorLog (substitute s (if docent then uDoc cell pos else uMU cell pos)) 0xFF (if docent then uDoc cell pos else uMU cell pos) 0)) ∧
  (∀ (cell : Cell) (docent : Bool) (pos : Fin 4) (s : State),
    (s.half (unitHalf (if docent then uDoc cell pos else uMU cell pos))).req ≠ none →
    exec (.spareSubstitution cell docent pos) s = .next (s))

/-- WNG_CTL acts on a wing, its enable check enables or refuses it, and a drained wing is disabled.
For a function that reaches the wing (PF0 or a VF bound to it), outside quarantine, while the log has room. Every
accepted write is logged as a register write (kind 0) with the old and the new value and trips the TDIs of the wing.
WING_CHECK_DONE of a wing in CHECKING with a snapshot: the checks 1 to 11 of the table run in order on the snapshot.
If one fails, the wing is DISABLED, ENABLE is 0, REASON holds its code and CHECK its number, and the live values are
unchanged; if none fails, the snapshot is live, REASON is OK, CHECK 0 and the wing ENABLED. Every other part of the
state, and every other wing, is unchanged, save that the duplicate credit of units that get another checker is 0. The order and codes of the checks on weights, half-cells and queues, and
the page-table root are stated beside it. ENABLE on a disabled wing takes a snapshot of the shadow and enters
CHECKING. ENABLE 0 on an enabled wing enters DRAINING. APPLY on an enabled wing whose shadow passes checks 1 to 11
puts the snapshot in wait for the next admission, with REASON OK and CHECK 0. If a check fails, only REASON and CHECK
change. In CHECKING or DRAINING, a write of ENABLE 1 or 0 is ignored and recorded as an ignored write.
Cites R69, R70, R71, R72, 02_wings.md, R66, R67, R68 (derived, tier 2). -/
def Obligations.WingsAreEnabledCheckedAndDisabled : Prop :=
  (∀ (fn : Fn) (wing : WingIx) (s : State),
    regOpen s fn = true →
    (fn = 0 ∨ (s.fnWing fn).map (·.val) = some wing.val) →
    s.fw.quarantine = false →
    canLog s fn →
    (s.wing wing).state = .disabled →
    exec (.wingEnable fn wing) s = .next (tdiTrip (logAppend (s.setWing wing { s.wing wing with enableReq := true, state := .checking, snap := some (s.wing wing).shadow }) fn wing 0 (wngOff fn wing 0) 0 (leBytes 4 (b2n (s.wing wing).enableReq)) (leBytes 4 1)) wing fn)) ∧
  (∀ (fn : Fn) (wing : WingIx) (s : State),
    regOpen s fn = true →
    (fn = 0 ∨ (s.fnWing fn).map (·.val) = some wing.val) →
    s.fw.quarantine = false →
    canLog s fn →
    (s.wing wing).state = .enabled →
    exec (.wingDisable fn wing) s = .next (tdiTrip (logAppend (s.setWing wing { s.wing wing with enableReq := false, state := .draining }) fn wing 0 (wngOff fn wing 0) 0 (leBytes 4 (b2n (s.wing wing).enableReq)) (leBytes 4 0)) wing fn)) ∧
  (∀ (fn : Fn) (wing : WingIx) (s : State),
    regOpen s fn = true →
    (fn = 0 ∨ (s.fnWing fn).map (·.val) = some wing.val) →
    s.fw.quarantine = false →
    canLog s fn →
    (s.wing wing).state = .enabled →
    wingChecks s wing (s.wing wing).shadow = none →
    exec (.wingApply fn wing) s = .next (tdiTrip (logAppend (s.setWing wing { s.wing wing with reason := rOK, check := 0, applyNext := some (s.wing wing).shadow }) fn wing 0 (wngOff fn wing 0) 0 (leBytes 4 (b2n (s.wing wing).enableReq)) (leBytes 4 1)) wing fn)) ∧
  (∀ (fn : Fn) (wing : WingIx) (s : State) (n : Nat) (code : Byte),
    regOpen s fn = true →
    (fn = 0 ∨ (s.fnWing fn).map (·.val) = some wing.val) →
    s.fw.quarantine = false →
    canLog s fn →
    (s.wing wing).state = .enabled →
    wingChecks s wing (s.wing wing).shadow = some (n, code) →
    exec (.wingApply fn wing) s = .next (tdiTrip (logAppend (s.setWing wing { s.wing wing with reason := code, check := n }) fn wing 0 (wngOff fn wing 0) 0 (leBytes 4 (b2n (s.wing wing).enableReq)) (leBytes 4 1)) wing fn)) ∧
  (∀ (fn : Fn) (wing : WingIx) (s : State),
    regOpen s fn = true →
    (fn = 0 ∨ (s.fnWing fn).map (·.val) = some wing.val) →
    ((s.wing wing).state = .checking ∨ (s.wing wing).state = .draining) →
    exec (.wingEnable fn wing) s = .next (ignoredWrite s fn wing (wngOff fn wing 0) 4 (b2n (s.wing wing).enableReq) 1)) ∧
  (∀ (fn : Fn) (wing : WingIx) (s : State),
    regOpen s fn = true →
    (fn = 0 ∨ (s.fnWing fn).map (·.val) = some wing.val) →
    ((s.wing wing).state = .checking ∨ (s.wing wing).state = .draining) →
    exec (.wingDisable fn wing) s = .next (ignoredWrite s fn wing (wngOff fn wing 0) 4 (b2n (s.wing wing).enableReq) 0)) ∧
  (∀ (wing : WingIx) (x : Shadow) (s : State),
    (s.wing wing).state = .checking →
    (s.wing wing).snap = some x →
    wingChecks s wing x = none →
    ∃ t, exec (.wingCheckDone wing) s = .next t ∧ t = { s with wings := t.wings, units := t.units } ∧
    (∀ u, t.unit u = s.unit u ∨ t.unit u = { s.unit u with credit := 0 }) ∧ (∀ k, k ≠ wing.val →
    t.wing k = s.wing k) ∧ (t.wing wing).state = .enabled ∧ (t.wing wing).live = x ∧ (t.wing wing).reason = rOK ∧
    (t.wing wing).check = 0 ∧ (t.wing wing).shadow = (s.wing wing).shadow) ∧
  (∀ (wing : WingIx) (x : Shadow) (n : Nat) (code : Byte) (s : State),
    (s.wing wing).state = .checking →
    (s.wing wing).snap = some x →
    wingChecks s wing x = some (n, code) →
    ∃ t, exec (.wingCheckDone wing) s = .next t ∧ t = { s with wings := t.wings } ∧ (∀ k, k ≠ wing.val →
    t.wing k = s.wing k) ∧ (t.wing wing).state = .disabled ∧ (t.wing wing).enableReq = false ∧
    (t.wing wing).reason = code ∧ (t.wing wing).check = n ∧ (t.wing wing).live = (s.wing wing).live ∧
    (t.wing wing).shadow = (s.wing wing).shadow) ∧
  (∀ (wing : WingIx) (x : Shadow) (s : State),
    (∀ n code, wingChecks s wing x = some (n, code) → 1 ≤ n ∧ n ≤ 11) ∧ ((fld x.weight.toNat 0 8 = 0 ∨ fld x.weight.toNat 8 8 = 0 ∨ fld x.weight.toNat 16 8 = 0) ↔
    wingChecks s wing x = some (1, rRESERVED_VALUE)) ∧ (wingChecks s wing x = none → s.wingHalves wing ≠ [] ∧
    s.wingQueues wing ≠ [] ∧ ((s.wing wing).tenant = true → s.wingVfs wing ≠ []) ∧ (∀ h ∈ s.wingHalves wing, halfDegraded s h = false ∧
    halfQuarantined s h = false) ∧ (∀ e ∈ s.wingExtents wing, (s.stack (e / 48)).failed = false) ∧
    ((s.wing wing).netOwning = true → netWings s wing < 4) ∧ (8 ≤ (s.wingHalves wing).length →
    ∀ q ∈ s.wingQueues wing, seqQueue s q = false) ∧ fld x.ptRoot.toNat 0 48 % 4096 = 0 ∧
    (s.ext (fld x.ptRoot.toNat 0 48 / 2 ^ 30)).owner.map (·.val) = some wing.val ∧ (s.wing wing).tsyncGen ≠ 0 ∧
    ((s.wing wing).tenant = true → (s.wing wing).tk ≠ none) ∧ (bit x.policy.toNat 3 = true →
    s.vlt.mode = .approved) ∧ floorsMet (x :: ((List.range 16).filter fun v => decide (v ≠ wing.val) && decide ((s.wing v).state = .enabled)).map fun v => (s.wing v).live) = true))

/-- WING_GRANT sets the three properties, WING_QUERY lists the units, a drained wing is disabled, summaries count.
For a command that passes what every command shares; the answer is written by the shared response operation.
WING_GRANT on a disabled wing that does not change OWNER records the command and sets KIND, NET_OWNING and OWNER of
that wing from bytes 0, 1 and 2, and answers OK. One that changes OWNER also drops the tenant key and the catalogue
counters and regenerates the wing's root key. WING_QUERY changes nothing and answers the 32 B head and up to 504
entries from FIRST: half-cells, extents, queues, VFs and flows in that order. WING_DRAIN_DONE: a draining wing without
requests is DISABLED, its images are discarded, its live values stay. VIOLATION_SUMMARY of a wing writes one record of
kind 3 with the count since the previous one, at most one per ms, and starts to count again; while there is nothing to
count, nothing is written.
Cites R48, R49, R65, R71, R92, R472, 02_wings.md (derived, tier 1). -/
def Obligations.GrantQueryAndSummaries : Prop :=
  (∀ (fn : Fn) (hub : Hub) (tag : W32) (wing : Byte) (p : Bytes) (c : Cmd) (s : State),
    c = sentCmd s 0x0102 fn hub tag wing p →
    accepts s c →
    wing.toNat < 16 →
    zeroAt p 3 1 = true →
    leAt p 0 1 ≤ 1 →
    leAt p 1 1 ≤ 1 →
    leAt p 2 1 ≤ 1 →
    (s.wing wing.toNat).state = .disabled →
    (leAt p 2 1 = 1) = ((s.wing wing.toNat).tenant = true) →
    exec (.wingGrant fn hub tag wing p) s = .next (scpFinish ((scpCommit s c).updWing wing.toNat fun x => { x with lent := leAt p 0 1 == 1, netOwning := leAt p 1 1 == 1, tenant := leAt p 2 1 == 1 }) c rOK ([]))) ∧
  (∀ (fn : Fn) (hub : Hub) (tag : W32) (wing : Byte) (p : Bytes) (c : Cmd) (s : State),
    c = sentCmd s 0x0102 fn hub tag wing p →
    accepts s c →
    wing.toNat < 16 →
    zeroAt p 3 1 = true →
    leAt p 0 1 ≤ 1 →
    leAt p 1 1 ≤ 1 →
    leAt p 2 1 ≤ 1 →
    (s.wing wing.toNat).state = .disabled →
    (leAt p 2 1 = 1) ≠ ((s.wing wing.toNat).tenant = true) →
    vaultServes s = true →
    exec (.wingGrant fn hub tag wing p) s = .next (scpFinish (regenWing (((scpCommit s c).updWing wing.toNat fun x => { x with lent := leAt p 0 1 == 1, netOwning := leAt p 1 1 == 1, tenant := leAt p 2 1 == 1 }).updWing wing.toNat fun x => { x with tk := none, lookups := 0, hits := 0, skipped := 0 }) wing.toNat) c rOK ([]))) ∧
  (∀ (fn : Fn) (hub : Hub) (tag : W32) (wing : Byte) (p : Bytes) (c : Cmd) (s : State),
    c = sentCmd s 0x0103 fn hub tag wing p →
    accepts s c →
    wing.toNat < 16 →
    zeroAt p 2 2 = true →
    (leAt p 0 2 < (wingUnits s wing.toNat).length ∨ wingUnits s wing.toNat = []) →
    exec (.wingQuery fn hub tag wing p) s = .next (scpFinish (s) c rOK ([BitVec.ofNat 8 (wingCode (s.wing wing.toNat).state), BitVec.ofNat 8 (grantBits (s.wing wing.toNat))] ++
    leBytes 2 (wingHalfMask s wing.toNat) ++ leBytes 2 (s.wingQueues wing.toNat).length ++
    leBytes 2 (s.wingVfs wing.toNat).length ++ leBytes 2 (s.wingExtents wing.toNat).length ++
    leBytes 2 (s.wingFlows wing.toNat).length ++ leBytes 2 (wingUnits s wing.toNat).length ++
    leBytes 2 (((wingUnits s wing.toNat).drop (leAt p 0 2)).take 504).length ++ leBytes 2 (leAt p 0 2) ++
    List.replicate 14 0#8 ++ (((wingUnits s wing.toNat).drop (leAt p 0 2)).take 504).flatMap (queryEntry s)))) ∧
  (∀ (wing : WingIx) (s : State),
    (s.wing wing).state = .draining →
    ((s.reqs.any fun r => r.wing == wing) = false) →
    ∃ t, exec (.wingDrainDone wing) s = .next t ∧ t = { s with wings := t.wings, images := s.images.filter fun i => i.wing.val != wing.val } ∧
    (∀ k, k ≠ wing.val → t.wing k = s.wing k) ∧ (t.wing wing).state = .disabled ∧ (t.wing wing).enableReq = false ∧
    (t.wing wing).live = (s.wing wing).live) ∧
  (∀ (wing : Fin 17) (kind : Fin 7) (s : State),
    wing.val < 16 →
    logFull s = false →
    Tbl.get 0 (s.wing wing).violSince kind ≠ 0 →
    (Tbl.get 0 (s.wing wing).violAt kind = 0 ∨ s.now - Tbl.get 0 (s.wing wing).violAt kind ≥ 1000000) →
    exec (.violationSummary wing kind) s = .next ((logPut s 0xFFFF wing 3 kind (Tbl.get 0 (s.wing wing).violSince kind) (sha384 []) (sha384 [])).updWing wing fun x => { x with violSince := Tbl.set 0 x.violSince kind 0, violAt := Tbl.set 0 x.violAt kind s.now })) ∧
  (∀ (wing : Fin 17) (kind : Fin 7) (s : State),
    wing.val < 16 →
    (Tbl.get 0 (s.wing wing).violSince kind = 0 ∨ (Tbl.get 0 (s.wing wing).violAt kind ≠ 0 ∧
    s.now - Tbl.get 0 (s.wing wing).violAt kind < 1000000)) →
    exec (.violationSummary wing kind) s = .next (s))

/-- WING_REBIND is checked in order and holds its units; when they are drained steps 2 to 9 follow; a late drain aborts.
WING_REBIND whose checks (payload checks of R47, checks 2 to 10 of R46) pass trips the TDIs of the source, holds the
units and stays in progress. A failed check is answered with its code; no unit moves. REBIND_DRAIN_DONE, once every
unit is drained: fence, rekey, invalidate, scrub and flush, reset, bind to the destination, the record of kind 5 with
the old and new generations, and the answer, INTERNAL where a read-back failed and OK else. While a unit is not
drained, nothing happens. DRAIN_TIMEOUT of a draining wing aborts its requests without a result. DRAIN_TIMEOUT of a
WING_REBIND aborts those that its drain waits for, or raises the alarm where none is left, writes the completions that
can be written, and continues at step 2 whatever else is open.
Cites R45, R46, R47, R50, R51, R52, R61, R463, 02_wings.md (derived, tier 1). -/
def Obligations.RebindingStartsDrainsAndMoves : Prop :=
  (∀ (fn : Fn) (hub : Hub) (tag : W32) (wing : Byte) (p : Bytes) (c : Cmd) (s : State),
    c = sentCmd s 0x0101 fn hub tag wing p →
    accepts s c →
    firstFail (rebindChecks s c) = none →
    exec (.wingRebind fn hub tag wing p) s = .next ((drainBegin (match rbSource p with | some w => tdiTrip s w fn | none => s) (rebindUnits p)).updMbox (mbxKey fn hub) fun m => { m with run := some { op := 0x0101#16, minor := c.minor, tag := tag, wing := wing, payload := p, start := s.now, committed := false, data := [] } })) ∧
  (∀ (fn : Fn) (hub : Hub) (tag : W32) (wing : Byte) (p : Bytes) (c : Cmd) (s : State) (code : Byte),
    c = sentCmd s 0x0101 fn hub tag wing p →
    accepts s c →
    firstFail (rebindChecks s c) = some code →
    exec (.wingRebind fn hub tag wing p) s = .next (scpFinish s c code [])) ∧
  (∀ (fn : Fn) (hub : Hub) (bad : List HcIx) (r : Run) (s : State),
    running s fn hub 0x0101 = some r →
    (rebindUnits r.payload).all (unitDrained s r.start) = true →
    s.vlt.mode ≠ .selfTest →
    ((rebindUnits r.payload).any (fun u => u.1 == ukExt) = false ∨ vaultServes s = true) →
    ∃ t, exec (.rebindDrainDone fn hub bad) s = .next t ∧ ∃ us dst moved logged, us = rebindUnits r.payload ∧
    dst = rbDest r.payload ∧ moved = (List.range 16).foldl (dupRepair (us.foldl resetUnit (scrubUnits s us dst false bad))) (us.foldl (bindUnit dst) (us.foldl resetUnit (scrubUnits s us dst false bad))) ∧
    logged = logAppend moved fn ((dst.map (·.val)).getD 0xFF) 5 ((us.head?.map (·.2)).getD 0) (((us.head?.map (unitGen s)).getD 0).toNat + 2 ^ 32 * ((us.head?.map (unitGen moved)).getD 0).toNat) (us.flatMap fun u => unitRecord s u false) (us.flatMap fun u => unitRecord moved u true) ∧
    t = zeroizePoll (runFinish (retireAll (fencePoll ((us.filter fun u => u.1 == ukHalf).foldl (fun s u => afterRequest s u.2) (tdiTrip logged ((dst.map (·.val)).getD 0xFF) fn)))) fn hub (if us.any (fun u => u.1 == ukHalf && (logged.half u.2).scrubBad) then rINTERNAL else rOK) (rebindReply logged us))) ∧
  (∀ (fn : Fn) (hub : Hub) (bad : List HcIx) (r : Run) (s : State),
    running s fn hub 0x0101 = some r →
    (rebindUnits r.payload).all (unitDrained s r.start) = false →
    exec (.rebindDrainDone fn hub bad) s = .next (zeroizePoll s)) ∧
  (∀ (fn : Fn) (hub : Hub) (wing : WingIx) (s : State),
    (s.wing wing).state = .draining →
    exec (.drainTimeout fn hub (some wing)) s = .next (abortAll s (s.liveReqs wing) 0)) ∧
  (∀ (fn : Fn) (hub : Hub) (r : Run) (s : State),
    running s fn hub 0x0101 = some r →
    (rebindUnits r.payload).all (unitDrained s r.start) = false →
    ∃ s1, s1 = (if ((rebindUnits r.payload).flatMap (drainReqs s r.start)).isEmpty then drainAlarm s (((rbSource r.payload).map (·.val)).getD 0xFF) else abortAll s ((rebindUnits r.payload).flatMap (drainReqs s r.start)) 0) ∧
    exec (.drainTimeout fn hub none) s = .next (rebindFinish ((((rebindUnits r.payload).filter fun u => u.1 == ukQueue).map (·.2)).foldl flushCompletions s1) fn hub r []))

/-- The steps of a re-binding: the generation counts, the key changes, the scratchpad is zero, the owner is the
destination.
What the steps that REBIND_DRAIN_DONE composes do to one unit. Step 2 adds 1 to the binding generation of the unit,
modulo 2^16, and to no other. Step 3 gives the extent one new key in the slot of its phase and none in the other,
under the next KEYSEQ. Step 5 leaves every byte of the half-cell's scratchpad zero and readable, and none outside it
changed. Step 9 makes the destination the owner of a half-cell that its read-back did not quarantine, of an extent and
of a VF.
Cites R50, R54, R55, R56, R61, R370, R469, 02_wings.md (derived, tier 2). -/
def Obligations.StepsOfARebindingOnOneUnit : Prop :=
  (∀ (u : Nat × Nat) (s : State),
    unitGen (fenceUnit s u) u = unitGen s u + 1 ∧ (∀ v, v.1 ≤ 4 → u.1 ≤ 4 → v ≠ u → unitGen (fenceUnit s u) v = unitGen s v)) ∧
  (∀ (w : WingIx) (e : Nat) (s : State),
    (∃ k, ((rekeyExtent s (some w) e).ext e).key0 = (if (s.ext e).phase then none else some k) ∧
    ((rekeyExtent s (some w) e).ext e).key1 = (if (s.ext e).phase then some k else none)) ∧
    ((rekeyExtent s (some w) e).ext e).keySeq = (s.ext e).keySeq + 1) ∧
  (∀ (h : Nat) (a : Nat) (s : State),
    spBase h ≤ a →
    a < spBase h + spSize →
    Tbl.get 0#8 (scrubHalf s h).sp a = 0#8 ∧ (∀ g ∈ (scrubHalf s h).spBad, g / (spSize / 8) ≠ h)) ∧
  (∀ (h : Nat) (a : Nat) (s : State),
    (a < spBase h ∨ spBase h + spSize ≤ a) →
    Tbl.get 0#8 (scrubHalf s h).sp a = Tbl.get 0#8 s.sp a) ∧
  (∀ (w : WingIx) (i : Nat) (s : State),
    i < 16 →
    (s.half i).scrubBad = false →
    ((bindUnit (some w) s (ukHalf, i)).half i).owner = some w) ∧
  (∀ (w : WingIx) (i : Nat) (s : State),
    ((bindUnit (some w) s (ukExt, i)).ext i).owner = some w ∧ ((bindUnit (some w) s (ukVf, i)).vf i).owner = some w ∧
    ((bindUnit (some w) s (ukQueue, i)).que i).owner = some w ∧ ((bindUnit (some w) s (ukFlow, i)).flow i).owner = some w)

/-- A window runs one command: GO and MBX_CMD writes collide, MBX_RSP keeps the last response, an answer is whole.
While a command of the function runs in a reachable window: MBX_GO and a write of a word of MBX_CMD change only
COLLIDE, which they set, so a second command never starts; a 4 B read of a word of MBX_RSP returns the word of the
previous response. The operation that answers a command puts the whole response in MBX_RSP in the same step that sets
DONE and clears RUNNING.
Cites R82 (stated, tier 2). -/
def Obligations.OneCommandPerWindow : Prop :=
  (∀ (fn : Fn) (hub : Hub) (s : State),
    windowOpen s fn hub = true →
    (s.mbox (mbxKey fn hub)).run ≠ none →
    exec (.mbxGo fn hub) s = .next (s.setMbox (mbxKey fn hub) { s.mbox (mbxKey fn hub) with collide := true })) ∧
  (∀ (fn : Fn) (hub : Hub) (i : Nat) (v : W64) (s : State),
    bar0Gate s fn (0x10000 + 0x8000 * hub.val + 0x1000 + i) false true = .pass →
    portHeld s fn = false →
    hubReach s hub = true →
    i < 0x1000 →
    (s.mbox (mbxKey fn hub)).run ≠ none →
    exec (.registerWrite fn (BitVec.ofNat 24 (0x10000 + 0x8000 * hub.val + 0x1000 + i)) false v true) s = .next (s.setMbox (mbxKey fn hub) { s.mbox (mbxKey fn hub) with collide := true })) ∧
  (∀ (fn : Fn) (hub : Hub) (i : Nat) (s : State),
    bar0Gate s fn (0x10000 + 0x8000 * hub.val + 0x2000 + i) false true = .pass →
    hubReach s hub = true →
    i < 0x1000 →
    (s.mbox (mbxKey fn hub)).run ≠ none →
    exec (.bar0Read fn (BitVec.ofNat 24 (0x10000 + 0x8000 * hub.val + 0x2000 + i)) false true) s = .next (s.emit (.readReturn fn (BitVec.ofNat 64 (leAt (s.mbox (mbxKey fn hub)).rsp i 4))))) ∧
  (∀ (c : Cmd) (code : Byte) (p : Bytes) (s : State),
    ((scpFinish s c code p).mbox (mbxKey c.fn c.hub)).rsp = scpResponse s c code p ∧ ((scpFinish s c code p).mbox (mbxKey c.fn c.hub)).done = true ∧
    ((scpFinish s c code p).mbox (mbxKey c.fn c.hub)).run = none ∧ ((scpFinish s c code p).mbox (mbxKey c.fn c.hub)).result = code)

/-- An answered command changes its mailbox and raises its vector; a refusal counts at most a violation.
The operation that answers a command changes only its own mailbox, and for its vector the pending bits, the outbox or
the writes held; the response header holds the echoed opcode and tag, the version, the length, the result, the hub,
the term, the time, and REDIRECT_HUB. A command refused by one of checks 1 to 10 is answered by that operation after
the refusal is counted; one that passes them comes to its own part.
Cites R82, R84, R444, R449, 03_curator.md (derived, tier 2). -/
def Obligations.AnAnswerTouchesOnlyItsMailbox : Prop :=
  (∀ (c : Cmd) (code : Byte) (p : Bytes) (s : State),
    scpFinish s c code p = { s with mbx := (scpFinish s c code p).mbx, msix := (scpFinish s c code p).msix, out := (scpFinish s c code p).out, pcie := { s.pcie with held := (scpFinish s c code p).pcie.held } } ∧
    (∀ k, k ≠ mbxKey c.fn c.hub → (scpFinish s c code p).mbox k = s.mbox k)) ∧
  (∀ (c : Cmd) (code : Byte) (p : Bytes) (s : State),
    c.op < 65536 →
    p.length ≤ 4064 →
    leAt (scpResponse s c code p) 0 2 = c.op ∧ leAt (scpResponse s c code p) 2 1 = 1 ∧ leAt (scpResponse s c code p) 3 1 = c.minor.toNat ∧
    leAt (scpResponse s c code p) 4 4 = c.tag.toNat ∧ leAt (scpResponse s c code p) 8 2 = p.length ∧
    leAt (scpResponse s c code p) 10 1 = code.toNat ∧ leAt (scpResponse s c code p) 11 1 = c.hub.val ∧
    leAt (scpResponse s c code p) 12 4 = (s.hub c.hub).authTerm.toNat ∧ (s.now < 2 ^ 64 →
    leAt (scpResponse s c code p) 16 8 = s.now) ∧ leAt (scpResponse s c code p) 24 2 = 0x0100 ∧
    leAt (scpResponse s c code p) 26 2 = 0x0102 ∧ (code ≠ rBUSY_REDIRECT → leAt (scpResponse s c code p) 28 1 = 0xFF) ∧
    (scpResponse s c code p).drop 32 = p)

/-- MBX_GO with the bytes of a command in MBX_CMD does what the row of its opcode does.
For every opcode of SCP 1.2 (43 rows) and a header of the session's version with zero reserved bytes and a LENGTH
equal to the payload's, at most 4,064: MBX_GO answers what the command's own row answers. An opcode of no row that
passes checks 1 to 3 is answered UNKNOWN_COMMAND.
Cites R83, R85, R86, R87, R92, R588, 03_curator.md (derived, tier 2). -/
def Obligations.MailboxGoRunsTheNamedRow : Prop :=
  (∀ (op : Nat) (fn : Fn) (hub : Hub) (tag : W32) (wing : Byte) (p : Bytes) (i : Instr) (s : State),
    p.length ≤ 4064 →
    headerIs s fn hub op tag wing p →
    isScpRow op fn hub tag wing p i →
    exec (.mbxGo fn hub) s = exec i s) ∧
  (∀ (fn : Fn) (hub : Hub) (s : State),
    windowOpen s fn hub = true →
    (s.mbox (mbxKey fn hub)).run = none →
    s.pcie.moving = false →
    (s.hub hub).auth = .holder →
    hubCurrent s hub = true →
    headerIs s fn hub ((s.mbox (mbxKey fn hub)).cmd.le 0 2) (BitVec.ofNat 32 ((s.mbox (mbxKey fn hub)).cmd.le 4 4)) (BitVec.ofNat 8 ((s.mbox (mbxKey fn hub)).cmd.le 10 1)) ((s.mbox (mbxKey fn hub)).cmd.read 32 ((s.mbox (mbxKey fn hub)).cmd.le 8 2)) →
    scpRow ((s.mbox (mbxKey fn hub)).cmd.le 0 2) (s.fnSt fn).minor.toNat = none →
    exec (.mbxGo fn hub) s = .next (scpFinish s (sentCmd s ((s.mbox (mbxKey fn hub)).cmd.le 0 2) fn hub (BitVec.ofNat 32 ((s.mbox (mbxKey fn hub)).cmd.le 4 4)) (BitVec.ofNat 8 ((s.mbox (mbxKey fn hub)).cmd.le 10 1)) ((s.mbox (mbxKey fn hub)).cmd.read 32 (min ((s.mbox (mbxKey fn hub)).cmd.le 8 2) 4064))) rUNKNOWN_COMMAND []))

/-- HELLO fixes the session minor, AUTH_QUERY reports, AUTH_HANDOVER claims for the other hub, a late command ends
INTERNAL.
HELLO for major 1 whose minor range meets 0 to 2 sets the session minor to the lesser of MAX_MINOR and 2, and answers
major, minor, the function number and its wing (0xFF for none). AUTH_QUERY changes nothing and answers TERM, HOLDER,
both states (0xFF for an unreachable hub), the hub, the age of the last heartbeat and BEAT. AUTH_HANDOVER with a
reachable hub that is neither FAILED nor BOOTING, by a hub that the plinth still names with its term, claims for it
(TERM + 1) and makes this hub SHADOW; it answers the new term and the hub. COMMAND_TIMEOUT undoes a command that has not passed its commit point, answers it INTERNAL and
raises the alarm.
Cites R80, R85, R90, R106, R107, R92, 03_curator.md (derived, tier 1). -/
def Obligations.SessionAndAuthorityCommands : Prop :=
  (∀ (fn : Fn) (hub : Hub) (tag : W32) (wing : Byte) (p : Bytes) (c : Cmd) (s : State),
    c = sentCmd s 0x0001 fn hub tag wing p →
    accepts s c →
    wing = 0xFF#8 →
    zeroAt p 3 1 = true →
    leAt p 0 1 = 1 →
    leAt p 1 1 ≤ leAt p 2 1 →
    leAt p 1 1 ≤ 2 →
    exec (.hello fn hub tag wing p) s = .next (scpFinish (s.updFnSt fn fun f => { f with minor := BitVec.ofNat 8 (min (leAt p 2 1) 2) }) c rOK ([1#8, BitVec.ofNat 8 (min (leAt p 2 1) 2)] ++
    leBytes 2 fn ++ [match s.fnWing fn with | some w => BitVec.ofNat 8 w | none => 0xFF#8] ++
    List.replicate 3 0#8))) ∧
  (∀ (fn : Fn) (hub : Hub) (tag : W32) (wing : Byte) (p : Bytes) (c : Cmd) (s : State),
    c = sentCmd s 0x0002 fn hub tag wing p →
    accepts s c →
    wing = 0xFF#8 →
    exec (.authQuery fn hub tag wing p) s = .next (scpFinish (s) c rOK (leBytes 4 (s.hub hub).authTerm.toNat ++
    [BitVec.ofNat 8 (s.hub hub).authHolder, (if 0 ≠ hub ∧ hubCut s 0 then 0xFF#8 else BitVec.ofNat 8 (authCode (s.hub 0).auth)), (if 1 ≠ hub ∧
    hubCut s 1 then 0xFF#8 else BitVec.ofNat 8 (authCode (s.hub 1).auth)), BitVec.ofNat 8 hub] ++
    leBytes 8 (match (s.hub hub).lastBeat with | some t => s.now - t | none => 2 ^ 64 - 1) ++
    leBytes 2 (s.hub hub).authBeat.toNat ++ List.replicate 14 0#8))) ∧
  (∀ (fn : Fn) (hub : Hub) (tag : W32) (wing : Byte) (p : Bytes) (c : Cmd) (s : State) (s1 : State),
    c = sentCmd s 0x0003 fn hub tag wing p →
    accepts s c →
    wing = 0xFF#8 →
    hubCut s (otherHub hub) = false →
    (s.hub (otherHub hub)).auth ≠ .failed →
    (s.hub (otherHub hub)).auth ≠ .booting →
    s.plinth.holder = hub →
    s.plinth.term = (s.hub hub).authTerm →
    plinthClaim s (otherHub hub) = some s1 →
    ∃ t, exec (.authHandover fn hub tag wing p) s = .next t ∧ ∃ s2, s2 = plinthRead ((scpCommit s1 c).updHub hub fun x => { x with auth := .shadow, slots := 0, beatRead := none }) hub ∧
    t = scpFinish s2 c rOK (leBytes 4 s2.plinth.term.toNat ++ [BitVec.ofNat 8 (otherHub hub)] ++
    List.replicate 3 0#8)) ∧
  (∀ (fn : Fn) (hub : Hub) (r : Run) (s : State),
    (s.mbox (mbxKey fn hub)).run = some r →
    exec (.commandTimeout fn hub) s = .next (zeroizePoll (alarm (runFinish (if r.committed then s else undoRun s fn hub r) fn hub rINTERNAL []) 0x0104 0xFF (16 + hub) r.op.toNat fn 0 0)))

/-- Heartbeats, slots, BEAT reads, Claims and fencing move a hub through its authority states as R103 lists.
Each event of the table, with its action and next state; an event that the table does not list for the hub's state
changes nothing. HOLDER at its timer: BEAT + 1 and a heartbeat with the term. A Beat that fails: FENCING. A heartbeat
of the current term: SHADOW, the count cleared. A slot without a heartbeat counts; the fifth makes the shadow SUSPECT,
which reads BEAT. The second read of BEAT: ISOLATED with an alarm if it changed; else the Claim, and CLAIMING under
TERM + 1 if the plinth still holds what was read and the term is not exhausted, SHADOW else. A plinth access that
fails: FAILED with its alarm. A holder that is told a higher term: FENCING. FENCE_DONE: SHADOW, with the holder and
term recorded. BOOTING and FAILED are left by none of these events. NO_AUTHORITY_TIMEOUT while no hub is HOLDER stops
admission and asserts the alert. TERM_ADVANCE_ACK raises the port's term and notes it; TERM_ADVANCE_TIMEOUT of a port
that did not acknowledge marks it and the half-cells or extents of the die behind it unavailable and raises the alarm;
then the claim may end. REBUILD_DONE fetches undispatched entries again, dispatches requests whose docents never
started, ends orphaned commands and restarts re-bindings at step 2. The claim ends, with authority, exactly then, and changes nothing else but the
end of the no-authority condition.
Cites R97, R99, R102, R103, R104, R105, R108, 03_curator.md, R100 (derived, tier 2). -/
def Obligations.HubAuthorityFollowsItsTable : Prop :=
  (∀ (hub : Hub) (s : State),
    (s.hub hub).auth = .holder →
    s.plinth.holder = hub →
    s.plinth.term = (s.hub hub).authTerm →
    s.hubLinkUp = true →
    ∃ t, exec (.heartbeatTimer hub true) s = .next t ∧ t = { s with plinth := { s.plinth with beat := s.plinth.beat + 1 }, hubs := t.hubs, out := s.out ++ [.heartbeat hub s.plinth.term] } ∧
    (t.hub hub).auth = .holder ∧ (t.hub hub).authBeat = s.plinth.beat + 1 ∧ (∀ k, k ≠ hub.val →
    t.hub k = s.hub k)) ∧
  (∀ (hub : Hub) (ok : Bool) (s : State),
    (s.hub hub).auth = .holder →
    (ok = false ∨ s.plinth.holder ≠ hub ∨ s.plinth.term ≠ (s.hub hub).authTerm) →
    exec (.heartbeatTimer hub ok) s = .next (s.setHub hub { s.hub hub with auth := .fencing })) ∧
  (∀ (hub : Hub) (term : W32) (s : State),
    ((s.hub hub).auth = .shadow ∨ (s.hub hub).auth = .suspect ∨ (s.hub hub).auth = .isolated) →
    term = s.plinth.term →
    ∃ t, exec (.heartbeatReceive hub term) s = .next t ∧ t = { s with hubs := t.hubs } ∧
    (t.hub hub).auth = .shadow ∧ (t.hub hub).slots = 0 ∧ (t.hub hub).lastBeat = some s.now ∧
    (∀ k, k ≠ hub.val → t.hub k = s.hub k)) ∧
  (∀ (hub : Hub) (s : State),
    (s.hub hub).auth = .shadow →
    (s.hub hub).slots < 4 →
    ∀ ok, exec (.heartbeatSlot { hub := hub, ok := ok }) s = .next (s.setHub hub { s.hub hub with slots := (s.hub hub).slots + 1 })) ∧
  (∀ (hub : Hub) (s : State),
    (s.hub hub).auth = .shadow →
    4 ≤ (s.hub hub).slots →
    exec (.heartbeatSlot { hub := hub, ok := false }) s = .next (hubFail s hub) ∧
    ∃ t, exec (.heartbeatSlot { hub := hub, ok := true }) s = .next t ∧ t = { s with hubs := t.hubs } ∧ (t.hub hub).auth = .suspect ∧
    (t.hub hub).beatRead = some s.plinth.beat ∧ (∀ k, k ≠ hub.val → t.hub k = s.hub k)) ∧
  (∀ (hub : Hub) (s : State),
    (s.hub hub).auth = .suspect →
    (s.hub hub).beatRead ≠ some s.plinth.beat →
    exec (.beatConfirmTimer hub true) s = .next (authAlarm (plinthRead (s.setHub hub { s.hub hub with auth := .isolated, beatRead := some s.plinth.beat }) hub) hub 6)) ∧
  (∀ (hub : Hub) (s : State),
    (s.hub hub).auth = .suspect →
    (s.hub hub).beatRead = some s.plinth.beat →
    s.plinth.holder = (s.hub hub).authHolder →
    s.plinth.term = (s.hub hub).authTerm →
    s.plinth.term ≠ 0xFFFFFFFF →
    ∃ t, exec (.beatConfirmTimer hub true) s = .next t ∧ t.plinth = { term := s.plinth.term + 1, beat := 0, holder := hub } ∧
    (t.hub hub).auth = .claiming ∧ (t.hub hub).rebuilding = true ∧ (t.hub hub).authTerm = s.plinth.term + 1 ∧
    (∀ k, k ≠ hub.val → t.hub k = s.hub k) ∧ (∀ k, (t.port k).acked = false) ∧ t.out = s.out ++
    [.termAdvance hub (s.plinth.term + 1)]) ∧
  (∀ (hub : Hub) (s : State),
    (s.hub hub).auth = .suspect →
    (s.hub hub).beatRead = some s.plinth.beat →
    (s.plinth.holder ≠ (s.hub hub).authHolder ∨ s.plinth.term ≠ (s.hub hub).authTerm) →
    exec (.beatConfirmTimer hub true) s = .next (plinthRead (s.setHub hub { s.hub hub with auth := .shadow, slots := 0, beatRead := none }) hub)) ∧
  (∀ (hub : Hub) (s : State),
    ((s.hub hub).auth = .suspect ∨ (s.hub hub).auth = .isolated) →
    exec (.beatConfirmTimer hub false) s = .next (hubFail s hub)) ∧
  (∀ (hub : Hub) (term : W32) (s : State),
    (s.hub hub).auth = .holder →
    (s.hub hub).authTerm < term →
    exec (.termStaleReply hub term) s = .next (s.setHub hub { s.hub hub with auth := .fencing })) ∧
  (∀ (hub : Hub) (s : State),
    (s.hub hub).auth = .fencing →
    exec (.fenceDone { hub := hub, ok := false }) s = .next (hubFail s hub) ∧
    ∃ t, exec (.fenceDone { hub := hub, ok := true }) s = .next t ∧ t = { s with hubs := t.hubs } ∧ (t.hub hub).auth = .shadow ∧
    (t.hub hub).authTerm = s.plinth.term ∧ (t.hub hub).authHolder = s.plinth.holder ∧ (∀ k, k ≠ hub.val →
    t.hub k = s.hub k)) ∧
  (∀ (hub : Hub) (s : State),
    ((s.hub hub).auth = .booting ∨ (s.hub hub).auth = .failed) →
    (∀ ok, exec (.heartbeatTimer hub ok) s = .next s) ∧ (∀ term, exec (.heartbeatReceive hub term) s = .next s) ∧
    (∀ ok, exec (.heartbeatSlot { hub := hub, ok := ok }) s = .next s) ∧ (∀ ok, exec (.beatConfirmTimer hub ok) s = .next s) ∧
    (∀ term, exec (.termStaleReply hub term) s = .next s) ∧ (∀ ok, exec (.fenceDone { hub := hub, ok := ok }) s = .next s)) ∧
  (∀ (s : State),
    s.holderHub = none →
    s.noAuthority = false →
    exec (.noAuthorityTimeout) s = .next (alarm (setAlert { s with noAuthority := true } 1 true) 0x0107 0xFF (16 + s.pcie.activeHub) (s.now - s.lastDispatch) 0 0 0)) ∧
  (∀ (port : Fin 62) (hub : Hub) (s : State),
    claimingHub s = some hub →
    exec (.termAdvanceAck port) s = .next (claimEnds (s.setPort port { s.port port with term := if (s.port port).term < s.plinth.term then s.plinth.term else (s.port port).term, acked := true }) hub)) ∧
  (∀ (port : Fin 62) (hub : Hub) (s : State),
    claimingHub s = some hub →
    (s.port port).acked = false →
    (s.port port).unreachable = false →
    portDie port < 8 →
    exec (.termAdvanceTimeout port) s = .next (claimEnds (alarm (((s.setPort port { s.port port with unreachable := true }).updHalf (2 * portDie port) fun x => { x with unavailable := true }).updHalf (2 * portDie port + 1) fun x => { x with unavailable := true }) 0x0106 0xFF (portDie port) (portDie port) port 0 0) hub)) ∧
  (∀ (hub : Hub) (s : State),
    (s.hub hub).auth = .claiming →
    (s.hub hub).rebuilding = true →
    exec (.rebuildDone hub) s = .next (claimEnds ((rebindRestart (endOrphans (redispatch (s.queues.foldl (fun s q => refetch s q.1) s)))).updHub hub fun x => { x with rebuilding := false }) hub)) ∧
  (∀ (hub : Hub) (s : State),
    ((∀ p < 62, (s.port p).acked = true ∨ (s.port p).unreachable = true) → (s.hub hub).rebuilding = false →
    ((claimEnds s hub).hub hub).auth = .holder ∧ (claimEnds s hub).noAuthority = false) ∧
    (((s.hub hub).rebuilding = true ∨ ∃ p < 62, (s.port p).acked = false ∧ (s.port p).unreachable = false) →
    claimEnds s hub = s) ∧ (∀ k, k ≠ hub.val → (claimEnds s hub).hub k = s.hub k) ∧ claimEnds s hub = { s with hubs := (claimEnds s hub).hubs, noAuthority := (claimEnds s hub).noAuthority, vnt := { s.vnt with alert := (claimEnds s hub).vnt.alert } })

/-- A queue is enabled, disabled, drained and resumed by its controls, and a doorbell moves TAIL or its completion HEAD.
For the selected queue, where the function reaches it. For a slot that the function reaches; each clause gives the
whole next state. ENABLE takes the snapshot, logged with the old and the new registers. The evaluation fails with the
first failing check in REASON and CHECK, and the queue stays DISABLED; or passes: the ring positions are 0, the phase
bit 1, no entry has been seen, and it is ENABLED, or DRAINING if a DISABLE arrived meanwhile. DISABLE makes an ENABLED
or HALTED queue DRAINING and an ERROR one DISABLED; a DRAINING one with no fetched entry is DISABLED. Fences that wait
for it are decided then. RESUME leaves HALTED with the failure fields clear and writes the sequence record. QUE_SQ_DB
on an ENABLED queue sets the tail ; a tail outside the ring puts it into ERROR with ADDR_RANGE ; while DISABLED or in
ERROR it is dropped and marked; one of a queue with SOURCE 1 changes nothing. QUE_CQ_DB sets the completion head, and
marks a queue that is not ENABLED; it moves nothing in sequence-number mode. QUE_SEL
selects the slot for the function. A doorbell to a slot that the function does not reach is a violation of kind 2, and
a selection of one a violation of kind 1.
Cites R113, R114, R115, R125, R126, 04_queues.md, R111, R112, R116, R117, R123 (derived, tier 2). -/
def Obligations.QueueStatesAndDoorbells : Prop :=
  (∀ (fn : Fn) (q : Nat) (s : State),
    regOpen s fn = true →
    queSlot s fn (s.fnSt fn).queSel.toNat = .ok q →
    (s.que q).state = .disabled →
    (s.que q).evaluating = false →
    canLog s fn →
    exec (.queueEnable fn) s = .next (tdiTrip (logAppend (s.updQue q fun x => { x with run := x.regs, evaluating := true, disableAfter := false }) fn ((wingOfQ (s.que q)).getD 0xFF) 0 (queOff 8) 0 (s.que q).run.bytes (s.que q).regs.bytes) ((wingOfQ (s.que q)).getD 0xFF) fn)) ∧
  (∀ (que : QueIx) (xlat : Bool) (n : Nat) (code : Byte) (s : State),
    (s.que que).evaluating = true →
    queChecks s (s.que que) xlat = some (n, code) →
    exec (.queueEnableEvalDone que xlat) s = .next (s.setQue que { s.que que with evaluating := false, disableAfter := false, reason := code, check := n })) ∧
  (∀ (que : QueIx) (xlat : Bool) (s : State),
    (s.que que).evaluating = true →
    queChecks s (s.que que) xlat = none →
    ∃ t, exec (.queueEnableEvalDone que xlat) s = .next t ∧ t = { s with queues := t.queues } ∧
    (∀ k, k ≠ que.val → t.que k = s.que k) ∧ (t.que que).state = (if (s.que que).disableAfter then .draining else .enabled) ∧
    (t.que que).reason = rOK ∧ (t.que que).check = 0 ∧ (t.que que).tail = 0 ∧ (t.que que).sqHead = 0 ∧
    (t.que que).cqTail = 0 ∧ (t.que que).cqHead = 0 ∧ (t.que que).phase = true ∧ (t.que que).seen = false ∧
    (t.que que).refSeq = none ∧ (t.que que).failCount = 0 ∧ (t.que que).run = (s.que que).run ∧
    (t.que que).regs = (s.que que).regs) ∧
  (∀ (fn : Fn) (q : Nat) (s : State),
    regOpen s fn = true →
    queSlot s fn (s.fnSt fn).queSel.toNat = .ok q →
    (s.que q).evaluating = false →
    ((s.que q).state = .enabled ∨ (s.que q).state = .halted) →
    exec (.queueDisable fn) s = .next (s.setQue q { s.que q with state := .draining })) ∧
  (∀ (fn : Fn) (q : Nat) (s : State),
    regOpen s fn = true →
    queSlot s fn (s.fnSt fn).queSel.toNat = .ok q →
    (s.que q).evaluating = false →
    (s.que q).state = .error →
    exec (.queueDisable fn) s = .next (fencePoll (s.setQue q { s.que q with state := .disabled }))) ∧
  (∀ (que : QueIx) (s : State),
    (s.que que).state = .draining →
    (s.que que).fetched = 0 →
    exec (.queueDrainDone que) s = .next (fencePoll (s.setQue que { s.que que with state := .disabled }))) ∧
  (∀ (fn : Fn) (q : Nat) (w : WingIx) (s : State),
    regOpen s fn = true →
    queSlot s fn (s.fnSt fn).queSel.toNat = .ok q →
    (s.que q).state = .halted →
    (s.que q).owner = some w →
    exec (.queueResume fn) s = .next (wingHostWrite (s.setQue q { s.que q with state := .enabled, failSeq := 0, failCode := 0, failCount := 0, halting := false }) w (s.que q).run.cqBase.toNat (leBytes 8 (s.que q).lastSeq.toNat ++
    leBytes 8 0 ++ [0#8] ++ List.replicate 3 0#8 ++ leBytes 4 0 ++ leBytes 8 s.now))) ∧
  (∀ (fn : Fn) (slot : QueIx) (q : Nat) (tail : W16) (s : State),
    regOpen s fn = true →
    queSlot s fn slot = .ok q →
    (s.que q).state = .enabled →
    qNet (s.que q).run = false →
    tail.toNat < 2 ^ qSqLog (s.que q).run →
    exec (.queSqDb fn slot tail) s = .next (s.setQue q { s.que q with tail := tail })) ∧
  (∀ (fn : Fn) (slot : QueIx) (q : Nat) (tail : W16) (s : State),
    regOpen s fn = true →
    queSlot s fn slot = .ok q →
    (s.que q).state = .enabled →
    qNet (s.que q).run = false →
    2 ^ qSqLog (s.que q).run ≤ tail.toNat →
    exec (.queSqDb fn slot tail) s = .next (s.setQue q { s.que q with state := .error, reason := rADDR_RANGE, check := 0 })) ∧
  (∀ (fn : Fn) (slot : QueIx) (q : Nat) (tail : W16) (s : State),
    regOpen s fn = true →
    queSlot s fn slot = .ok q →
    ((s.que q).state = .disabled ∨ (s.que q).state = .error) →
    qNet (queNow (s.que q)) = false →
    exec (.queSqDb fn slot tail) s = .next (s.setQue q { s.que q with dbDropped := true })) ∧
  (∀ (fn : Fn) (slot : QueIx) (q : Nat) (tail : W16) (s : State),
    regOpen s fn = true →
    queSlot s fn slot = .ok q →
    qNet (queNow (s.que q)) = true →
    exec (.queSqDb fn slot tail) s = .next (s)) ∧
  (∀ (fn : Fn) (slot : QueIx) (q : Nat) (head : W16) (s : State),
    regOpen s fn = true →
    queSlot s fn slot = .ok q →
    (s.que q).state ≠ .disabled →
    qMode (s.que q).run ≠ 1 →
    exec (.queCqDb fn slot head) s = .next (s.setQue q { s.que q with cqHead := head, dbDropped := (s.que q).dbDropped || decide ((s.que q).state ≠ .enabled) })) ∧
  (∀ (fn : Fn) (slot : QueIx) (q : Nat) (head : W16) (s : State),
    regOpen s fn = true →
    queSlot s fn slot = .ok q →
    (s.que q).state ≠ .disabled →
    qMode (s.que q).run = 1 →
    exec (.queCqDb fn slot head) s = .next (s.setQue q { s.que q with dbDropped := (s.que q).dbDropped || decide ((s.que q).state ≠ .enabled) })) ∧
  (∀ (fn : Fn) (slot : QueIx) (q : Nat) (s : State),
    regOpen s fn = true →
    queSlot s fn slot = .ok q →
    exec (.queSelWrite fn slot) s = .next (s.updFnSt fn fun f => { f with queSel := BitVec.ofNat 12 slot })) ∧
  (∀ (fn : Fn) (slot : QueIx) (tail : W16) (w : Option Nat) (s : State),
    regOpen s fn = true →
    queSlot s fn slot = .error w →
    exec (.queSqDb fn slot tail) s = .next (violate s w 2)) ∧
  (∀ (fn : Fn) (slot : QueIx) (w : Option Nat) (s : State),
    regOpen s fn = true →
    queSlot s fn slot = .error w →
    exec (.queSelWrite fn slot) s = .next (violate s w 1))

/-- An entry is fetched in ring order, checked in order, and refused, admitted or kept waiting; a fence waits for its
targets.
ENTRY_FETCH takes the entry at SQ_HEAD of a queue that takes entries and advances SQ_HEAD modulo the ring. An entry
that fails a check of R120 completes with its code; a NOP completes with OK; an undefined type fails check 1.
IMAGE_VALIDATED whose header can be read and whose image is stored comes to the admission decision; one whose image is
not stored is checked as R150 orders, and refused with code, FAULT_PC and DETAIL, or stored and decided. A class 0
request with enough capable half-cells is admitted with its image's figures. A fence that waits with a timeout
completes with BUSY, DETAIL 1, at its end.
Cites R116, R119, R120, R130, R138, R145, R149, R150, R152, 04_queues.md, 05_docent_programs.md (derived, tier 2). -/
def Obligations.EntriesAreFetchedAndDecided : Prop :=
  (∀ (que : QueIx) (w : WingIx) (e : Bytes) (hm : HostMem) (s : State),
    (s.que que).owner = some w →
    takesEntries s que = true →
    qNet (s.que que).run = false →
    (s.que que).sqHead ≠ (s.que que).tail →
    peerBlocked s w ((s.que que).run.sqBase.toNat + 64 * (s.que que).sqHead.toNat) = false →
    exec (.entryFetch que e hm) s = .next (entryArrives (s.setQue que { s.que que with sqHead := BitVec.ofNat 16 (((s.que que).sqHead.toNat + 1) % 2 ^ qSqLog (s.que que).run) }) que w (fitTo 64 e) none hm)) ∧
  (∀ (q : QueIx) (w : WingIx) (e : Bytes) (flow : Option (FlowIx × Nat)) (hm : HostMem) (s : State),
    (∀ n code, sqeChecks s w q e = some (n, code) → ∃ s2, (∀ r, r ∈ s2.reqs ↔ r ∈ s.reqs ∨ r = reqOf s q w e flow) ∧
    s2.nextReq = s.nextReq + 1 ∧ (s2.que q).fetched = (s.que q).fetched + 1 ∧ entryArrives s q w e flow hm = finish s2 s.nextReq code 0 0) ∧
    (sqeChecks s w q e = none → sqeType e = 2 → ∃ s2, (s2.que q).refSeq = some (sqeSeq e) ∧
    s2.nextReq = s.nextReq + 1 ∧ entryArrives s q w e flow hm = finish s2 s.nextReq rOK 0 0) ∧
    (2 < sqeType e → sqeChecks s w q e = some (1, rRESERVED_VALUE))) ∧
  (∀ (req : Nat) (hm : HostMem) (r : Req) (x0 : Scan) (i : Image) (s : State),
    s.findReq req = some r →
    r.phase = .validating →
    fetchPaused s = false →
    x0 = scan s r.wing (.image req) hm r.program.toNat 64 →
    x0.missing = false ∧ x0.stale = false ∧ x0.absent = [] ∧ x0.waits = false ∧ x0.ue = false →
    storedImage x0.s r.wing r.program (phImage x0.data) = some i →
    exec (.imageValidated req hm) s = .next (admitReq x0.s r i)) ∧
  (∀ (req : Nat) (hm : HostMem) (r : Req) (x0 x1 x2 : Scan) (s : State),
    s.findReq req = some r →
    r.phase = .validating →
    fetchPaused s = false →
    x0 = scan s r.wing (.image req) hm r.program.toNat 64 →
    x0.missing = false ∧ x0.stale = false ∧ x0.absent = [] ∧ x0.waits = false ∧ x0.ue = false →
    storedImage x0.s r.wing r.program (phImage x0.data) = none →
    x1 = scan x0.s r.wing (.image req) hm r.program.toNat (64 + 8 * phCode x0.data + 8 * phConst x0.data) →
    x2 = scan x1.s r.wing (.image req) hm (phSched x0.data) (32 * phPoints x0.data) →
    (x1.and x2).missing = false ∧ (x1.and x2).stale = false ∧ (x1.and x2).absent = [] ∧
    (x1.and x2).waits = false ∧ (x1.and x2).ue = false →
    ∃ t, exec (.imageValidated req hm) s = .next t ∧ (∀ f, imageChecks x2.s r.wing x1.data x2.data = some f →
    t = finish x2.s req f.1 f.2.1 f.2.2) ∧ (imageChecks x2.s r.wing x1.data x2.data = none →
    ∃ i, i.program = r.program ∧ i.imageId = phImage x1.data ∧ i.code = words8 x1.data 64 (phCode x1.data) ∧
    i.consts = words8 x1.data (64 + 8 * phCode x1.data) (phConst x1.data) ∧ i.sched = points32 x2.data (phPoints x1.data) ∧
    t = storeImage x2.s r i)) ∧
  (∀ (r0 : Req) (i : Image) (s : State),
    s.findReq r0.id = some r0 →
    phHalf i.header ≤ (capableHalves (takeLive s r0.wing) r0.wing (phReduced i.header)).length →
    r0.cat = none →
    r0.cls = 0 →
    ∃ r, (admitReq s r0 i).findReq r0.id = some r ∧ r.phase = .admitted ∧ r.imageId = i.imageId ∧
    r.needHalf = phHalf i.header ∧ r.wcet = phWcet i.header ∧ r.epoch = none ∧ r.reserved = [] ∧
    r.admitTs = (takeLive s r0.wing).now) ∧
  (∀ (req : Nat) (r : Req) (s : State),
    s.findReq req = some r →
    r.waitsFence = true →
    r.timeoutUs ≠ 0 →
    exec (.fenceTimeout req) s = .next (finish s req rBUSY 0 1))

/-- The wing's next request is dispatched to free capable half-cells under the current term, and ends with OK.
REQUEST_DISPATCH takes the first of the wing's queue heads in dispatch order; one without a reservation goes to the
lowest free capable half-cells that no other request keeps. A dispatch marks the request, its half-cells and its
docents, which load the image at word 0, and sends each docent the packet with the binding generation of its half-cell
and the holder's term. A holder whose term the ports on the way refuse dispatches nothing, and gets the term-stale
reply. REQUEST_END of a running
request whose docents have executed END and whose work is complete gives it OK and frees its docents. The completion
entry of R124 is 64 bytes with its fields at their places.
Cites R101, R129, R131, R141, R153, R159, 04_queues.md, 05_docent_programs.md (derived, tier 2). -/
def Obligations.RequestsAreDispatchedAndEnd : Prop :=
  (∀ (wing : WingIx) (r : Req) (rest : List Req) (want : List Nat) (s : State),
    dispatches s = true →
    holderStale s = none →
    wingHeads (lapse s wing) wing = r :: rest →
    inflight (lapse s wing) r.que < qMaxInflight ((lapse s wing).que r.que).run →
    r.reserved = [] →
    r.needHalf ≤ (capableHalves (lapse s wing) wing r.reduced).length →
    (want = ((((capableHalves (lapse s wing) wing r.reduced).filter fun h => halfFree (lapse s wing) h).filter fun h => !((((lapse s wing).reqs.filter fun x => x.wing.val == wing.val && decide (x.phase = .admitted) && x.id != r.id).flatMap fun x => x.reserved.map (·.val)).contains h)).take r.needHalf)) →
    want.length = r.needHalf →
    exec (.requestDispatch wing) s = .next (retireAll (dispatchTo (lapse s wing) r want none))) ∧
  (∀ (wing : WingIx) (hub : Nat) (s : State),
    dispatches s = true →
    holderStale s = some hub →
    exec (.requestDispatch wing) s = .next (staleSend s hub recordDies)) ∧
  (∀ (r : Req) (hs : List Nat) (i : Image) (s : State),
    s.findReq r.id = some r →
    storedImage s r.wing r.program r.imageId = some i →
    portsAccept s (s.holderHub.getD 0) (dispatchDies hs) = true →
    (∃ r2, (dispatchTo s r hs none).findReq r.id = some r2 ∧ r2.phase = .running ∧ r2.dispatched = true ∧
    r2.term = (s.hub (s.holderHub.getD 0)).authTerm ∧ r2.dispTs = s.now ∧ r2.halves = hs.map (Fin.ofNat 16)) ∧ (∀ h ∈ hs, ((dispatchTo s r hs none).half h).req = some r.id) ∧
    (∀ d ∈ chooseDocs s hs r.reduced, ((dispatchTo s r hs none).doc d).state = .loading ∧
    ((dispatchTo s r hs none).doc d).req = some r.id ∧ ((dispatchTo s r hs none).doc d).code = i.code ∧
    ((dispatchTo s r hs none).doc d).pc = 0) ∧ (dispatchTo s r hs none).out = s.out ++ (chooseDocs s hs r.reduced).map (fun d => Out.dispatch (Fin.ofNat 40 d) (s.half (docHalf s d)).gen (s.hub (s.holderHub.getD 0)).authTerm)) ∧
  (∀ (req : Nat) (r : Req) (s : State),
    s.findReq req = some r →
    r.phase = .running →
    r.ended = true →
    (s.launches.any (fun l => l.req == req) = false) →
    s.lineWaits = [] →
    exec (.requestEnd req) s = .next (retireAll (stopWork (finish s req rOK 0 0) req))) ∧
  (∀ (r : Req) (ph : Bool) (s : State),
    (cqEntry r ph).length = 64 ∧ leAt (cqEntry r ph) 0 1 = r.result.toNat ∧ leAt (cqEntry r ph) 1 1 = 0x10 ∧
    bit (leAt (cqEntry r ph) 2 2) 0 = ph ∧ bit (leAt (cqEntry r ph) 2 2) 1 = r.dup ∧ leAt (cqEntry r ph) 6 2 = r.sqHead.toNat ∧
    leAt (cqEntry r ph) 8 8 = r.seq.toNat ∧ (r.admitTs < 2 ^ 64 → leAt (cqEntry r ph) 16 8 = r.admitTs) ∧
    (r.endTs < 2 ^ 64 → leAt (cqEntry r ph) 32 8 = r.endTs) ∧ leAt (cqEntry r ph) 40 4 = (r.epoch.getD 0).toNat ∧
    leAt (cqEntry r ph) 44 4 = r.faultPc.toNat ∧ leAt (cqEntry r ph) 48 8 = r.userTag.toNat ∧
    leAt (cqEntry r ph) 56 4 = r.detail.toNat ∧ leAt (cqEntry r ph) 60 4 = 0)

/-- A queue's first entry with a result is written to its ring, or into its sequence record, and interrupts are coalesced.
COMPLETION_WRITE takes only the oldest entry of the queue, once it has a result, its verdicts are in, no other request
overlaps it, the host link can take the write and a hub holds authority, which no port on the way refuses. In ring mode the entry goes to CQ_TAIL, which
advances modulo the ring, the phase bit turning at its end. In sequence-number mode the record with the SEQ is
written. While the oldest entry has no result, nothing happens. IRQ_COALESCE_TIMEOUT raises the queue's vector for the
completions not yet signalled, and clears their count. REPLY_READ_RETURN posts the completion entry and the slot's
reply bytes on a flow in RTS.
Cites R121, R122, R124, R125, R126, R127, R134, R135, R136, 04_queues.md (derived, tier 2). -/
def Obligations.CompletionsBecomeVisibleInOrder : Prop :=
  (∀ (que : QueIx) (w : WingIx) (r : Req) (s : State),
    (queReqs s que).head? = some r →
    (s.que que).owner = some w →
    r.isDone = true →
    r.behind = none →
    heldFull s = false →
    hostFnIssues s w = true →
    s.holderHub ≠ none →
    holderStale s = none →
    (hostReady s w (.queue que) ((s.que que).run.cqBase.toNat + 64 * (s.que que).cqTail.toNat) 32).1 = true →
    (s.dups.any (fun d => d.req == r.id) = false) →
    qMode (s.que que).run ≠ 1 →
    ((s.que que).cqTail.toNat + 1) % 2 ^ qCqLog (s.que que).run ≠ (s.que que).cqHead.toNat % 2 ^ qCqLog (s.que que).run →
    ∃ t, exec (.completionWrite que) s = .next t ∧ t = queSignal (completed (wingHostWrite ((failRecord s r).setQue que { s.que que with lastSeq := r.seq, seen := true, cqTail := BitVec.ofNat 16 (((s.que que).cqTail.toNat + 1) % 2 ^ qCqLog (s.que que).run), phase := if ((s.que que).cqTail.toNat + 1) % 2 ^ qCqLog (s.que que).run = 0 then !(s.que que).phase else (s.que que).phase }) w ((s.que que).run.cqBase.toNat + 64 * (s.que que).cqTail.toNat) (cqEntry r (s.que que).phase)) r (cqEntry r (s.que que).phase)) que w r.irqSup) ∧
  (∀ (que : QueIx) (w : WingIx) (r : Req) (s : State),
    (queReqs s que).head? = some r →
    (s.que que).owner = some w →
    r.isDone = true →
    r.behind = none →
    heldFull s = false →
    hostFnIssues s w = true →
    s.holderHub ≠ none →
    holderStale s = none →
    (hostReady s w (.queue que) (s.que que).run.cqBase.toNat 32).1 = true →
    (s.dups.any (fun d => d.req == r.id) = false) →
    qMode (s.que que).run = 1 →
    r.result = rOK →
    ∃ t, exec (.completionWrite que) s = .next t ∧ t = queSignal (completed (wingHostWrite ((failRecord s r).setQue que { s.que que with lastSeq := r.seq, seen := true }) w (s.que que).run.cqBase.toNat (leBytes 8 r.seq.toNat ++
    leBytes 8 (s.que que).failSeq.toNat ++ [(s.que que).failCode] ++ List.replicate 3 0#8 ++
    leBytes 4 (s.que que).failCount.toNat ++ leBytes 8 s.now)) r (cqEntry r (s.que que).phase)) que w r.irqSup) ∧
  (∀ (que : QueIx) (s : State),
    (∃ r, (queReqs s que).head? = some r ∧ r.isDone = false) →
    exec (.completionWrite que) s = .next (s)) ∧
  (∀ (que : QueIx) (w : Nat) (s : State),
    wingOfQ (s.que que) = some w →
    (s.que que).unsig ≠ 0 →
    fld (s.que que).run.coalesce.toNat 16 16 ≠ 0 →
    exec (.irqCoalesceTimeout que) s = .next (queIrq s que w)) ∧
  (∀ (que : QueIx) (w : Nat) (f : Fn) (s : State),
    hostFnOf s w = some f →
    queIrq s que w = msixRaise (s.updQue que fun x => { x with unsig := 0, unsigAt := none }) f (qVector (s.que que).run)) ∧
  (∀ (que : QueIx) (hm : HostMem) (f : FlowIx) (slot : Nat) (cqe : Bytes) (rest : List (FlowIx × Nat × Bytes)) (w : WingIx) (b : Bytes) (s s1 : State),
    (s.que que).awaitRead = (f, slot, cqe) :: rest →
    (s.flow f).owner = some w →
    (s.flow f).state = .rts →
    stillHeld s cqe = false →
    replyRead s w f slot hm = (some b, s1) →
    exec (.replyReadReturn que hm) s = .next (((s1.updQue que fun x => { x with awaitRead := rest }).updFlow f fun y => { y with slots := y.slots.map fun t => if t.1 = slot then (t.1, t.2.1, some cqe) else t }).emit (.net f .reply (cqe ++
    b))))

/-- The register instructions of Ozol write RD with the wrapped result, go on to the next word, and change nothing else.
For a docent that executes the word of the instruction, whose next word passes R151: RD gets RA op RB on 64-bit
two's-complement values (shifts by RB[5:0], SAR keeps the sign, MUL the low 64 bits, MINU, MAXU and SLTU unsigned, SLT
signed), a write to G0 is discarded, the PC is one more, and no other docent and no other part of the state changes.
ADD, SUB, AND, OR, XOR, SHL, SHR, SAR, MUL, MINU, MAXU, SLTU, SLT.
Cites R153, R154, 05_docent_programs.md (derived, tier 2). -/
def Obligations.ArithmeticWritesOneRegister : Prop :=
  (∀ (doc : DocIx) (rd ra rb : R5) (s : State),
    ozReady s (.ozAdd doc rd ra rb) doc = true →
    wordOk s doc ((s.doc doc).pc + 1) →
    ∃ t, exec (.ozAdd doc rd ra rb) s = .next t ∧ docBecomes s t doc { (s.doc doc).setG rd ((s.doc doc).greg ra + (s.doc doc).greg rb) with pc := (s.doc doc).pc + 1, stall := .none }) ∧
  (∀ (doc : DocIx) (rd ra rb : R5) (s : State),
    ozReady s (.ozSub doc rd ra rb) doc = true →
    wordOk s doc ((s.doc doc).pc + 1) →
    ∃ t, exec (.ozSub doc rd ra rb) s = .next t ∧ docBecomes s t doc { (s.doc doc).setG rd ((s.doc doc).greg ra - (s.doc doc).greg rb) with pc := (s.doc doc).pc + 1, stall := .none }) ∧
  (∀ (doc : DocIx) (rd ra rb : R5) (s : State),
    ozReady s (.ozAnd doc rd ra rb) doc = true →
    wordOk s doc ((s.doc doc).pc + 1) →
    ∃ t, exec (.ozAnd doc rd ra rb) s = .next t ∧ docBecomes s t doc { (s.doc doc).setG rd ((s.doc doc).greg ra &&& (s.doc doc).greg rb) with pc := (s.doc doc).pc + 1, stall := .none }) ∧
  (∀ (doc : DocIx) (rd ra rb : R5) (s : State),
    ozReady s (.ozOr doc rd ra rb) doc = true →
    wordOk s doc ((s.doc doc).pc + 1) →
    ∃ t, exec (.ozOr doc rd ra rb) s = .next t ∧ docBecomes s t doc { (s.doc doc).setG rd ((s.doc doc).greg ra ||| (s.doc doc).greg rb) with pc := (s.doc doc).pc + 1, stall := .none }) ∧
  (∀ (doc : DocIx) (rd ra rb : R5) (s : State),
    ozReady s (.ozXor doc rd ra rb) doc = true →
    wordOk s doc ((s.doc doc).pc + 1) →
    ∃ t, exec (.ozXor doc rd ra rb) s = .next t ∧ docBecomes s t doc { (s.doc doc).setG rd ((s.doc doc).greg ra ^^^ (s.doc doc).greg rb) with pc := (s.doc doc).pc + 1, stall := .none }) ∧
  (∀ (doc : DocIx) (rd ra rb : R5) (s : State),
    ozReady s (.ozShl doc rd ra rb) doc = true →
    wordOk s doc ((s.doc doc).pc + 1) →
    ∃ t, exec (.ozShl doc rd ra rb) s = .next t ∧ docBecomes s t doc { (s.doc doc).setG rd ((s.doc doc).greg ra <<< (((s.doc doc).greg rb).toNat % 64)) with pc := (s.doc doc).pc + 1, stall := .none }) ∧
  (∀ (doc : DocIx) (rd ra rb : R5) (s : State),
    ozReady s (.ozShr doc rd ra rb) doc = true →
    wordOk s doc ((s.doc doc).pc + 1) →
    ∃ t, exec (.ozShr doc rd ra rb) s = .next t ∧ docBecomes s t doc { (s.doc doc).setG rd ((s.doc doc).greg ra >>> (((s.doc doc).greg rb).toNat % 64)) with pc := (s.doc doc).pc + 1, stall := .none }) ∧
  (∀ (doc : DocIx) (rd ra rb : R5) (s : State),
    ozReady s (.ozSar doc rd ra rb) doc = true →
    wordOk s doc ((s.doc doc).pc + 1) →
    ∃ t, exec (.ozSar doc rd ra rb) s = .next t ∧ docBecomes s t doc { (s.doc doc).setG rd (((s.doc doc).greg ra).sshiftRight (((s.doc doc).greg rb).toNat % 64)) with pc := (s.doc doc).pc + 1, stall := .none }) ∧
  (∀ (doc : DocIx) (rd ra rb : R5) (s : State),
    ozReady s (.ozMul doc rd ra rb) doc = true →
    wordOk s doc ((s.doc doc).pc + 1) →
    ∃ t, exec (.ozMul doc rd ra rb) s = .next t ∧ docBecomes s t doc { (s.doc doc).setG rd ((s.doc doc).greg ra * (s.doc doc).greg rb) with pc := (s.doc doc).pc + 1, stall := .none }) ∧
  (∀ (doc : DocIx) (rd ra rb : R5) (s : State),
    ozReady s (.ozMinu doc rd ra rb) doc = true →
    wordOk s doc ((s.doc doc).pc + 1) →
    ∃ t, exec (.ozMinu doc rd ra rb) s = .next t ∧ docBecomes s t doc { (s.doc doc).setG rd (BitVec.ofNat 64 (min ((s.doc doc).greg ra).toNat ((s.doc doc).greg rb).toNat)) with pc := (s.doc doc).pc + 1, stall := .none }) ∧
  (∀ (doc : DocIx) (rd ra rb : R5) (s : State),
    ozReady s (.ozMaxu doc rd ra rb) doc = true →
    wordOk s doc ((s.doc doc).pc + 1) →
    ∃ t, exec (.ozMaxu doc rd ra rb) s = .next t ∧ docBecomes s t doc { (s.doc doc).setG rd (BitVec.ofNat 64 (max ((s.doc doc).greg ra).toNat ((s.doc doc).greg rb).toNat)) with pc := (s.doc doc).pc + 1, stall := .none }) ∧
  (∀ (doc : DocIx) (rd ra rb : R5) (s : State),
    ozReady s (.ozSltu doc rd ra rb) doc = true →
    wordOk s doc ((s.doc doc).pc + 1) →
    ∃ t, exec (.ozSltu doc rd ra rb) s = .next t ∧ docBecomes s t doc { (s.doc doc).setG rd (if ((s.doc doc).greg ra).toNat < ((s.doc doc).greg rb).toNat then 1 else 0) with pc := (s.doc doc).pc + 1, stall := .none }) ∧
  (∀ (doc : DocIx) (rd ra rb : R5) (s : State),
    ozReady s (.ozSlt doc rd ra rb) doc = true →
    wordOk s doc ((s.doc doc).pc + 1) →
    ∃ t, exec (.ozSlt doc rd ra rb) s = .next t ∧ docBecomes s t doc { (s.doc doc).setG rd (if ((s.doc doc).greg ra).toInt < ((s.doc doc).greg rb).toInt then 1 else 0) with pc := (s.doc doc).pc + 1, stall := .none })

/-- The immediate instructions of Ozol, RDSR and PRIO write one register of the docent and change nothing else.
ADDI adds the sign-extended IMM; ANDI, ORI and XORI take it zero-extended; SHLI, SHRI and SARI shift by IMM[5:0];
MOVHI gives IMM over RA[31:0]; MOVI gives the sign-extended IMM; RDSR gives the special value of its selector; NOP
gives nothing; PRIO sets the priority, clamped to 3 for a lent wing. The next word follows, G0 discards its write, and
nothing else changes.
Cites R153, R154, 05_docent_programs.md (derived, tier 2). -/
def Obligations.ImmediatesWriteOneRegister : Prop :=
  (∀ (doc : DocIx) (rd ra : R5) (imm : W32) (s : State),
    ozReady s (.ozAddi doc rd ra imm) doc = true →
    wordOk s doc ((s.doc doc).pc + 1) →
    ∃ t, exec (.ozAddi doc rd ra imm) s = .next t ∧ docBecomes s t doc { (s.doc doc).setG rd ((s.doc doc).greg ra + imm.signExtend 64) with pc := (s.doc doc).pc + 1, stall := .none }) ∧
  (∀ (doc : DocIx) (rd ra : R5) (imm : W32) (s : State),
    ozReady s (.ozAndi doc rd ra imm) doc = true →
    wordOk s doc ((s.doc doc).pc + 1) →
    ∃ t, exec (.ozAndi doc rd ra imm) s = .next t ∧ docBecomes s t doc { (s.doc doc).setG rd ((s.doc doc).greg ra &&& imm.setWidth 64) with pc := (s.doc doc).pc + 1, stall := .none }) ∧
  (∀ (doc : DocIx) (rd ra : R5) (imm : W32) (s : State),
    ozReady s (.ozOri doc rd ra imm) doc = true →
    wordOk s doc ((s.doc doc).pc + 1) →
    ∃ t, exec (.ozOri doc rd ra imm) s = .next t ∧ docBecomes s t doc { (s.doc doc).setG rd ((s.doc doc).greg ra ||| imm.setWidth 64) with pc := (s.doc doc).pc + 1, stall := .none }) ∧
  (∀ (doc : DocIx) (rd ra : R5) (imm : W32) (s : State),
    ozReady s (.ozXori doc rd ra imm) doc = true →
    wordOk s doc ((s.doc doc).pc + 1) →
    ∃ t, exec (.ozXori doc rd ra imm) s = .next t ∧ docBecomes s t doc { (s.doc doc).setG rd ((s.doc doc).greg ra ^^^ imm.setWidth 64) with pc := (s.doc doc).pc + 1, stall := .none }) ∧
  (∀ (doc : DocIx) (rd ra : R5) (imm : W32) (s : State),
    ozReady s (.ozMovhi doc rd ra imm) doc = true →
    wordOk s doc ((s.doc doc).pc + 1) →
    ∃ t, exec (.ozMovhi doc rd ra imm) s = .next t ∧ docBecomes s t doc { (s.doc doc).setG rd (imm ++ ((s.doc doc).greg ra).setWidth 32) with pc := (s.doc doc).pc + 1, stall := .none }) ∧
  (∀ (doc : DocIx) (rd ra : R5) (sh : BitVec 6) (s : State),
    ozReady s (.ozShli doc rd ra sh) doc = true →
    wordOk s doc ((s.doc doc).pc + 1) →
    ∃ t, exec (.ozShli doc rd ra sh) s = .next t ∧ docBecomes s t doc { (s.doc doc).setG rd ((s.doc doc).greg ra <<< sh.toNat) with pc := (s.doc doc).pc + 1, stall := .none }) ∧
  (∀ (doc : DocIx) (rd ra : R5) (sh : BitVec 6) (s : State),
    ozReady s (.ozShri doc rd ra sh) doc = true →
    wordOk s doc ((s.doc doc).pc + 1) →
    ∃ t, exec (.ozShri doc rd ra sh) s = .next t ∧ docBecomes s t doc { (s.doc doc).setG rd ((s.doc doc).greg ra >>> sh.toNat) with pc := (s.doc doc).pc + 1, stall := .none }) ∧
  (∀ (doc : DocIx) (rd ra : R5) (sh : BitVec 6) (s : State),
    ozReady s (.ozSari doc rd ra sh) doc = true →
    wordOk s doc ((s.doc doc).pc + 1) →
    ∃ t, exec (.ozSari doc rd ra sh) s = .next t ∧ docBecomes s t doc { (s.doc doc).setG rd (((s.doc doc).greg ra).sshiftRight sh.toNat) with pc := (s.doc doc).pc + 1, stall := .none }) ∧
  (∀ (doc : DocIx) (rd : R5) (imm : W32) (s : State),
    ozReady s (.ozMovi doc rd imm) doc = true →
    wordOk s doc ((s.doc doc).pc + 1) →
    ∃ t, exec (.ozMovi doc rd imm) s = .next t ∧ docBecomes s t doc { (s.doc doc).setG rd (imm.signExtend 64) with pc := (s.doc doc).pc + 1, stall := .none }) ∧
  (∀ (doc : DocIx) (rd : R5) (sel : BitVec 4) (s : State),
    ozReady s (.ozRdsr doc rd sel) doc = true →
    wordOk s doc ((s.doc doc).pc + 1) →
    ∃ t, exec (.ozRdsr doc rd sel) s = .next t ∧ docBecomes s t doc { (s.doc doc).setG rd (BitVec.ofNat 64 (specialValue s doc sel.toNat)) with pc := (s.doc doc).pc + 1, stall := .none }) ∧
  (∀ (d : Nat) (r : Req) (s : State),
    docReq s d = some r →
    specialValue s d 0 = r.seq.toNat ∧ specialValue s d 1 = (r.epoch.getD 0).toNat ∧ specialValue s d 2 = (s.doc d).rank ∧
    specialValue s d 3 = r.docs.length ∧ specialValue s d 4 = halfMask r.halves ∧ specialValue s d 5 = r.argsLen ∧
    specialValue s d 6 = r.wing.val ∧ specialValue s d 7 = docHalf s d ∧ specialValue s d 8 = (s.doc d).ticket.toNat ∧
    specialValue s d 9 = (s.doc d).prio ∧ specialValue s d 10 = s.now) ∧
  (∀ (doc : DocIx) (s : State),
    ozReady s (.ozNop doc) doc = true →
    wordOk s doc ((s.doc doc).pc + 1) →
    ∃ t, exec (.ozNop doc) s = .next t ∧ docBecomes s t doc { s.doc doc with pc := (s.doc doc).pc + 1, stall := .none }) ∧
  (∀ (doc : DocIx) (p : BitVec 3) (s : State),
    ozReady s (.ozPrio doc p) doc = true →
    wordOk s doc ((s.doc doc).pc + 1) →
    ∃ t, exec (.ozPrio doc p) s = .next t ∧ docBecomes s t doc { s.doc doc with prio := if docLent s doc then min p.toNat 3 else p.toNat, pc := (s.doc doc).pc + 1, stall := .none })

/-- Branches go to their target when their comparison holds and to the next word else; CALL and RET use the call stack.
For words that pass R151 where they are reached. BEQ, BNE, BLTU and BGEU (unsigned), BLT and BGE (signed), JMP, LOOP
(RA = RA − 1, branch if it is not 0), CALL (pushes PC + 1; a full stack of 16 faults with PROGRAM_BOUNDS), RET (pops;
an empty stack faults), JR (all 64 bits; at or past CODE_WORDS it faults). Nothing but the docent changes. A word that
fails R151 where it is reached makes the docent fault there with the check's code.
Cites R151, R153, R154, R160, 05_docent_programs.md (derived, tier 2). -/
def Obligations.BranchesChooseTheNextWord : Prop :=
  (∀ (doc : DocIx) (ra rb : R5) (target : BitVec 14) (s : State),
    ozReady s (.ozBeq doc ra rb target) doc = true →
    wordOk s doc (if (s.doc doc).greg ra = (s.doc doc).greg rb then target.toNat else (s.doc doc).pc + 1) →
    ∃ t, exec (.ozBeq doc ra rb target) s = .next t ∧ docBecomes s t doc { s.doc doc with pc := if (s.doc doc).greg ra = (s.doc doc).greg rb then target.toNat else (s.doc doc).pc + 1, stall := .none }) ∧
  (∀ (doc : DocIx) (ra rb : R5) (target : BitVec 14) (s : State),
    ozReady s (.ozBne doc ra rb target) doc = true →
    wordOk s doc (if (s.doc doc).greg ra ≠ (s.doc doc).greg rb then target.toNat else (s.doc doc).pc + 1) →
    ∃ t, exec (.ozBne doc ra rb target) s = .next t ∧ docBecomes s t doc { s.doc doc with pc := if (s.doc doc).greg ra ≠ (s.doc doc).greg rb then target.toNat else (s.doc doc).pc + 1, stall := .none }) ∧
  (∀ (doc : DocIx) (ra rb : R5) (target : BitVec 14) (s : State),
    ozReady s (.ozBltu doc ra rb target) doc = true →
    wordOk s doc (if ((s.doc doc).greg ra).toNat < ((s.doc doc).greg rb).toNat then target.toNat else (s.doc doc).pc + 1) →
    ∃ t, exec (.ozBltu doc ra rb target) s = .next t ∧ docBecomes s t doc { s.doc doc with pc := if ((s.doc doc).greg ra).toNat < ((s.doc doc).greg rb).toNat then target.toNat else (s.doc doc).pc + 1, stall := .none }) ∧
  (∀ (doc : DocIx) (ra rb : R5) (target : BitVec 14) (s : State),
    ozReady s (.ozBgeu doc ra rb target) doc = true →
    wordOk s doc (if ((s.doc doc).greg rb).toNat ≤ ((s.doc doc).greg ra).toNat then target.toNat else (s.doc doc).pc + 1) →
    ∃ t, exec (.ozBgeu doc ra rb target) s = .next t ∧ docBecomes s t doc { s.doc doc with pc := if ((s.doc doc).greg rb).toNat ≤ ((s.doc doc).greg ra).toNat then target.toNat else (s.doc doc).pc + 1, stall := .none }) ∧
  (∀ (doc : DocIx) (ra rb : R5) (target : BitVec 14) (s : State),
    ozReady s (.ozBlt doc ra rb target) doc = true →
    wordOk s doc (if ((s.doc doc).greg ra).toInt < ((s.doc doc).greg rb).toInt then target.toNat else (s.doc doc).pc + 1) →
    ∃ t, exec (.ozBlt doc ra rb target) s = .next t ∧ docBecomes s t doc { s.doc doc with pc := if ((s.doc doc).greg ra).toInt < ((s.doc doc).greg rb).toInt then target.toNat else (s.doc doc).pc + 1, stall := .none }) ∧
  (∀ (doc : DocIx) (ra rb : R5) (target : BitVec 14) (s : State),
    ozReady s (.ozBge doc ra rb target) doc = true →
    wordOk s doc (if ((s.doc doc).greg rb).toInt ≤ ((s.doc doc).greg ra).toInt then target.toNat else (s.doc doc).pc + 1) →
    ∃ t, exec (.ozBge doc ra rb target) s = .next t ∧ docBecomes s t doc { s.doc doc with pc := if ((s.doc doc).greg rb).toInt ≤ ((s.doc doc).greg ra).toInt then target.toNat else (s.doc doc).pc + 1, stall := .none }) ∧
  (∀ (doc : DocIx) (target : BitVec 14) (s : State),
    ozReady s (.ozJmp doc target) doc = true →
    wordOk s doc target.toNat →
    ∃ t, exec (.ozJmp doc target) s = .next t ∧ docBecomes s t doc { s.doc doc with pc := target.toNat, stall := .none }) ∧
  (∀ (doc : DocIx) (ra : R5) (target : BitVec 14) (s : State),
    ozReady s (.ozLoop doc ra target) doc = true →
    wordOk s doc (if (s.doc doc).greg ra - 1 ≠ 0 then target.toNat else (s.doc doc).pc + 1) →
    ∃ t, exec (.ozLoop doc ra target) s = .next t ∧ docBecomes s t doc { (s.doc doc).setG ra ((s.doc doc).greg ra - 1) with pc := if (s.doc doc).greg ra - 1 ≠ 0 then target.toNat else (s.doc doc).pc + 1, stall := .none }) ∧
  (∀ (doc : DocIx) (target : BitVec 14) (s : State),
    ozReady s (.ozCall doc target) doc = true →
    (s.doc doc).calls.length < 16 →
    wordOk s doc target.toNat →
    ∃ t, exec (.ozCall doc target) s = .next t ∧ docBecomes s t doc { s.doc doc with calls := ((s.doc doc).pc + 1) :: (s.doc doc).calls, pc := target.toNat, stall := .none }) ∧
  (∀ (doc : DocIx) (target : BitVec 14) (s : State),
    ozReady s (.ozCall doc target) doc = true →
    16 ≤ (s.doc doc).calls.length →
    ∃ t, exec (.ozCall doc target) s = .next t ∧ t = docFault s doc rPROGRAM_BOUNDS (s.doc doc).pc) ∧
  (∀ (doc : DocIx) (i : Nat) (rest : List Nat) (s : State),
    ozReady s (.ozRet doc) doc = true →
    (s.doc doc).calls = i :: rest →
    wordOk s doc i →
    ∃ t, exec (.ozRet doc) s = .next t ∧ docBecomes s t doc { s.doc doc with calls := rest, pc := i, stall := .none }) ∧
  (∀ (doc : DocIx) (s : State),
    ozReady s (.ozRet doc) doc = true →
    (s.doc doc).calls = [] →
    ∃ t, exec (.ozRet doc) s = .next t ∧ t = docFault s doc rPROGRAM_BOUNDS (s.doc doc).pc) ∧
  (∀ (doc : DocIx) (ra : R5) (s : State),
    ozReady s (.ozJr doc ra) doc = true →
    ((s.doc doc).greg ra).toNat < (s.doc doc).code.length →
    wordOk s doc ((s.doc doc).greg ra).toNat →
    ∃ t, exec (.ozJr doc ra) s = .next t ∧ docBecomes s t doc { s.doc doc with pc := ((s.doc doc).greg ra).toNat, stall := .none }) ∧
  (∀ (doc : DocIx) (ra : R5) (s : State),
    ozReady s (.ozJr doc ra) doc = true →
    (s.doc doc).code.length ≤ ((s.doc doc).greg ra).toNat →
    ∃ t, exec (.ozJr doc ra) s = .next t ∧ t = docFault s doc rPROGRAM_BOUNDS (s.doc doc).pc) ∧
  (∀ (d pc : Nat) (code : Byte) (s : State),
    ozCheck ((s.doc d).code.getD pc 0#64) pc (s.doc d).code.length (s.doc d).consts.length (s.doc d).sched.length (docReduced s d) = some code →
    (s.doc d).fault = none →
    ∃ t, docGoto s d pc = t ∧ docBecomes s t d { s.doc d with pc := pc, stall := .faulted, fault := some { code := code, pc := wordOffset pc, detail := faultDetail d (s.doc d).rank, time := s.now } })

/-- LDS and STS read and write 8 bytes of the half-cell's scratchpad, LDC a constant, LDA an argument, DLD and DSET a
slot.
Offsets are RA + IMM (sign-extended; zero-extended for LDC). LDS of an aligned word inside the request's scratchpad
puts it in RD. STS stores RB there: the 8 bytes at that offset of the half-cell's scratchpad, and no other byte of it.
A misaligned offset faults with ADDR_ALIGN and one past the scratchpad with PROGRAM_BOUNDS, and nothing is stored. LDC
puts the constant word in RD; past CONST_WORDS it faults with PROGRAM_BOUNDS. LDA inside the arguments waits for its
read; LDA_DATA_RETURN puts the 8 bytes at ARGS + offset in RD. DLD puts eight constant words in a descriptor slot, and
DSET one register in a word of a slot.
Cites R151, R154, R160, R307, R372, 05_docent_programs.md, 10_scratchpad_streams.md (derived, tier 2). -/
def Obligations.LoadsAndStoresReachTheirBytes : Prop :=
  (∀ (doc : DocIx) (rd ra : R5) (imm : W32) (r : Req) (s : State),
    ozReady s (.ozLds doc rd ra imm) doc = true →
    docReq s doc = some r →
    ((s.doc doc).greg ra + imm.signExtend 64).toNat % 8 = 0 →
    ((s.doc doc).greg ra + imm.signExtend 64).toNat + 8 ≤ r.scratch →
    spBadAt s (docHalf s doc) ((s.doc doc).greg ra + imm.signExtend 64).toNat 8 = false →
    wordOk s doc ((s.doc doc).pc + 1) →
    ∃ t, exec (.ozLds doc rd ra imm) s = .next t ∧ docBecomes s t doc { (s.doc doc).setG rd (BitVec.ofNat 64 (s.sp.le (spBase (docHalf s doc) + ((s.doc doc).greg ra + imm.signExtend 64).toNat) 8)) with pc := (s.doc doc).pc + 1, stall := .none }) ∧
  (∀ (doc : DocIx) (ra rb : R5) (imm : W32) (r : Req) (s : State),
    ozReady s (.ozSts doc ra rb imm) doc = true →
    docReq s doc = some r →
    ((s.doc doc).greg ra + imm.signExtend 64).toNat % 8 = 0 →
    ((s.doc doc).greg ra + imm.signExtend 64).toNat + 8 ≤ r.scratch →
    wordOk s doc ((s.doc doc).pc + 1) →
    ∃ t, exec (.ozSts doc ra rb imm) s = .next t ∧ t.sp = s.sp.write (spBase (docHalf s doc) + ((s.doc doc).greg ra + imm.signExtend 64).toNat) (leBytes 8 ((s.doc doc).greg rb).toNat) ∧
    (∀ a, a < spBase (docHalf s doc) + ((s.doc doc).greg ra + imm.signExtend 64).toNat ∨ spBase (docHalf s doc) + ((s.doc doc).greg ra + imm.signExtend 64).toNat + 8 ≤ a →
    Tbl.get 0#8 t.sp a = Tbl.get 0#8 s.sp a) ∧ t.sp.le (spBase (docHalf s doc) + ((s.doc doc).greg ra + imm.signExtend 64).toNat) 8 = ((s.doc doc).greg rb).toNat ∧
    t.doc doc = { s.doc doc with pc := (s.doc doc).pc + 1, stall := .none } ∧ (∀ k, k ≠ doc.val →
    t.doc k = s.doc k) ∧ t = { s with docents := t.docents, sp := t.sp, spBad := t.spBad, launches := t.launches } ∧
    t.spBad.Sublist s.spBad) ∧
  (∀ (doc : DocIx) (ra rb : R5) (imm : W32) (r : Req) (s : State),
    ozReady s (.ozSts doc ra rb imm) doc = true →
    docReq s doc = some r →
    (((s.doc doc).greg ra + imm.signExtend 64).toNat % 8 ≠ 0 ∨ r.scratch < ((s.doc doc).greg ra + imm.signExtend 64).toNat + 8) →
    ∃ t, exec (.ozSts doc ra rb imm) s = .next t ∧ t = docFault s doc (if ((s.doc doc).greg ra + imm.signExtend 64).toNat % 8 ≠ 0 then rADDR_ALIGN else rPROGRAM_BOUNDS) (s.doc doc).pc) ∧
  (∀ (doc : DocIx) (rd ra : R5) (imm : W32) (v : W64) (s : State),
    ozReady s (.ozLdc doc rd ra imm) doc = true →
    (s.doc doc).consts[((s.doc doc).greg ra + imm.setWidth 64).toNat]? = some v →
    wordOk s doc ((s.doc doc).pc + 1) →
    ∃ t, exec (.ozLdc doc rd ra imm) s = .next t ∧ docBecomes s t doc { (s.doc doc).setG rd (v) with pc := (s.doc doc).pc + 1, stall := .none }) ∧
  (∀ (doc : DocIx) (rd ra : R5) (imm : W32) (s : State),
    ozReady s (.ozLdc doc rd ra imm) doc = true →
    (s.doc doc).consts.length ≤ ((s.doc doc).greg ra + imm.setWidth 64).toNat →
    ∃ t, exec (.ozLdc doc rd ra imm) s = .next t ∧ t = docFault s doc rPROGRAM_BOUNDS (s.doc doc).pc) ∧
  (∀ (doc : DocIx) (rd ra : R5) (imm : W32) (r : Req) (s : State),
    ozReady s (.ozLda doc rd ra imm) doc = true →
    docReq s doc = some r →
    ((s.doc doc).greg ra + imm.signExtend 64).toNat % 8 = 0 →
    ((s.doc doc).greg ra + imm.signExtend 64).toNat + 8 ≤ r.argsLen →
    ∃ t, exec (.ozLda doc rd ra imm) s = .next t ∧ docBecomes s t doc { s.doc doc with stall := .lda rd ((s.doc doc).greg ra + imm.signExtend 64).toNat }) ∧
  (∀ (doc : DocIx) (hm : HostMem) (rd : R5) (off : Nat) (r : Req) (b : Bytes) (s s1 : State),
    (s.doc doc).stall = .lda rd off →
    docReq s doc = some r →
    (s.doc doc).state = .running →
    vaRead s r.wing (.docent doc) hm (r.args.toNat + off) 8 = (s1, .ok b) →
    exec (.ldaDataReturn doc hm) s = .next (docResult s1 doc rd (BitVec.ofNat 64 (fromLE b)))) ∧
  (∀ (doc : DocIx) (slot : BitVec 3) (cindex : W16) (s : State),
    ozReady s (.ozDld doc slot cindex) doc = true →
    wordOk s doc ((s.doc doc).pc + 1) →
    ∃ t, exec (.ozDld doc slot cindex) s = .next t ∧ docBecomes s t doc { s.doc doc with slots := (s.doc doc).slots.write (64 * slot.toNat) (((List.range 8).map fun i => leBytes 8 ((s.doc doc).consts.getD (cindex.toNat + i) 0#64).toNat).flatten), pc := (s.doc doc).pc + 1, stall := .none }) ∧
  (∀ (doc : DocIx) (ra : R5) (slot word : BitVec 3) (s : State),
    ozReady s (.ozDset doc ra slot word) doc = true →
    wordOk s doc ((s.doc doc).pc + 1) →
    ∃ t, exec (.ozDset doc ra slot word) s = .next t ∧ docBecomes s t doc { s.doc doc with slots := (s.doc doc).slots.write (64 * slot.toNat + 8 * word.toNat) (leBytes 8 ((s.doc doc).greg ra).toNat), pc := (s.doc doc).pc + 1, stall := .none })

/-- MMUL, VEC, RED and STRM queue a copy of the slot under the next ticket, stall when there is no room, and refuse a bad
one.
A launch whose descriptor passes its engine's checks, with room in the docent's queue and fewer than 64 open tickets,
increments the ticket (modulo 2^16, skipping 0), writes it to RD, opens it, and appends the launch with a copy of the
slot; nothing else changes. Without room the docent stalls at the word. A descriptor that fails its check faults the
docent with that code and the engine's DETAIL. GPEB does the same through its own check, and the batch begins.
Cites R157, R160, R165, R259, R278, R294, R301, R316, 05_docent_programs.md (derived, tier 2). -/
def Obligations.LaunchesQueueOneDescriptor : Prop :=
  (∀ (doc : DocIx) (rd : R5) (slot unit : BitVec 3) (r : Req) (s : State),
    ozReady s (.ozMmul doc rd slot unit) doc = true →
    docReq s doc = some r →
    mxCheck ((s.doc doc).desc slot.toNat) r.scratch = none →
    launchRoom s doc (.mu (muOf s (docHalf s doc) unit.toNat (docReduced s doc))) →
    (s.unit (muOf s (docHalf s doc) unit.toNat (docReduced s doc))).out = false →
    wordOk s doc ((s.doc doc).pc + 1) →
    ∃ t, exec (.ozMmul doc rd slot unit) s = .next t ∧ docLaunches s t doc (afterLaunch (s.doc doc) rd) (launchOf s doc r.id (.mu (muOf s (docHalf s doc) unit.toNat (docReduced s doc))) ((s.doc doc).desc slot.toNat))) ∧
  (∀ (doc : DocIx) (rd : R5) (slot unit : BitVec 3) (r : Req) (s : State),
    ozReady s (.ozVec doc rd slot unit) doc = true →
    docReq s doc = some r →
    veCheck ((s.doc doc).desc slot.toNat) r.scratch (s.doc doc) = none →
    launchRoom s doc (.ve (docCell doc)) →
    (s.unit (uVE (docCell doc))).out = false →
    wordOk s doc ((s.doc doc).pc + 1) →
    ∃ t, exec (.ozVec doc rd slot unit) s = .next t ∧ docLaunches s t doc (afterLaunch (s.doc doc) rd) (launchOf s doc r.id (.ve (docCell doc)) ((s.doc doc).desc slot.toNat))) ∧
  (∀ (doc : DocIx) (rd : R5) (slot unit : BitVec 3) (r : Req) (s : State),
    ozReady s (.ozRed doc rd slot unit) doc = true →
    docReq s doc = some r →
    ruCheck ((s.doc doc).desc slot.toNat) r.scratch (s.doc doc) = none →
    launchRoom s doc (.ru (docCell doc)) →
    (s.unit (uRU (docCell doc))).out = false →
    wordOk s doc ((s.doc doc).pc + 1) →
    ∃ t, exec (.ozRed doc rd slot unit) s = .next t ∧ docLaunches s t doc (afterLaunch (s.doc doc) rd) (launchOf s doc r.id (.ru (docCell doc)) ((s.doc doc).desc slot.toNat))) ∧
  (∀ (doc : DocIx) (rd : R5) (slot unit : BitVec 3) (r : Req) (s : State),
    ozReady s (.ozStrm doc rd slot unit) doc = true →
    docReq s doc = some r →
    strmCheck ((s.doc doc).desc slot.toNat) r.scratch (s.doc doc) = none →
    launchRoom s doc (.strm (docHalf s doc * 8 + unit.toNat)) →
    wordOk s doc ((s.doc doc).pc + 1) →
    ∃ t, exec (.ozStrm doc rd slot unit) s = .next t ∧ docLaunches s t doc (afterLaunch (s.doc doc) rd) (launchOf s doc r.id (.strm (docHalf s doc * 8 + unit.toNat)) ((s.doc doc).desc slot.toNat))) ∧
  (∀ (doc : DocIx) (rd : R5) (slot unit : BitVec 3) (r : Req) (tab : Table) (s : State),
    ozReady s (.ozGpeb doc rd slot unit) doc = true →
    docReq s doc = some r →
    reqTable s r (gbTable ((s.doc doc).desc slot.toNat)) = some tab →
    gpeCheck ((s.doc doc).desc slot.toNat) r.scratch (some tab) r.cat = none →
    r.outStarted = false →
    launchRoom s doc .gpe →
    wordOk s doc ((s.doc doc).pc + 1) →
    ∃ t, exec (.ozGpeb doc rd slot unit) s = .next t ∧ ∃ s2, docLaunches s s2 doc (afterLaunch (s.doc doc) rd) (launchOf s doc r.id .gpe ((s.doc doc).desc slot.toNat)) ∧
    t = batchBegin s2 (launchOf s doc r.id .gpe ((s.doc doc).desc slot.toNat)) r tab) ∧
  (∀ (d : Nat) (rd : R5) (eng : Engine) (desc : Bytes) (r : Req) (k : State → Launch → State) (s : State),
    docReq s d = some r →
    ¬ launchRoom s d eng →
    stopping s r.id = false →
    ozLaunch d rd eng desc s k = s.setDoc d { s.doc d with stall := .launch }) ∧
  (∀ (d : Nat) (rd : R5) (slot : Nat) (eng : Engine) (check : Bytes → Nat → Docent → Option (Nat × Byte)) (r : Req) (n : Nat) (code : Byte) (s : State),
    docReq s d = some r →
    check ((s.doc d).desc slot) r.scratch (s.doc d) = some (n, code) →
    (s.doc d).fault = none →
    docBecomes s (ozLaunchOn d rd slot eng check s) d { s.doc d with stall := .faulted, fault := some { code := code, pc := wordOffset (s.doc d).pc, detail := engDetail (s.doc d).rank (docCell d) eng.pos n (match eng with | .strm e => e % 8 | _ => 0), time := s.now } })

/-- WAIT, WAITALL, POLL, BARRIER, END and SYNC hold a docent until its tickets, its fellow docents or its streams are
ready.
WAIT on a complete ticket goes on , and on an open one waits; a ticket that was not issued within the last 32,768
launches faults with PROGRAM_BOUNDS (POLL alike). WAITALL waits while any ticket is open. POLL gives 1 for a complete
ticket and 0 for an open one. BARRIER waits at its number; once every docent of the request that has not ended waits
at one barrier, each goes to its next word, and if the numbers differ each faults with PROGRAM_BOUNDS. END with every
ticket complete ends the docent, which may release a barrier or end the request; with open tickets it waits. SYNC acts
at its schedule point.
Cites R142, R154, R157, R158, R159, R160, R326, 05_docent_programs.md (derived, tier 2). -/
def Obligations.TicketsAndBarriersHoldDocents : Prop :=
  (∀ (doc : DocIx) (ra : R5) (k : W16) (id : Nat) (s : State),
    ozReady s (.ozWait doc ra) doc = true →
    ticketArg (s.doc doc) ((s.doc doc).greg ra) = some k →
    (s.doc doc).ticketOpen k = false →
    (s.doc doc).req = some id →
    wordOk s doc ((s.doc doc).pc + 1) →
    ∃ t, exec (.ozWait doc ra) s = .next t ∧ ∃ s1, docBecomes s s1 doc { s.doc doc with pc := (s.doc doc).pc + 1, stall := .none } ∧
    t = haltCheck s1 id) ∧
  (∀ (doc : DocIx) (ra : R5) (k : W16) (id : Nat) (s : State),
    ozReady s (.ozWait doc ra) doc = true →
    ticketArg (s.doc doc) ((s.doc doc).greg ra) = some k →
    (s.doc doc).ticketOpen k = true →
    (s.doc doc).req = some id →
    ∃ t, exec (.ozWait doc ra) s = .next t ∧ ∃ s1, docBecomes s s1 doc { s.doc doc with stall := .wait k } ∧
    t = haltCheck s1 id) ∧
  (∀ (doc : DocIx) (ra : R5) (s : State),
    ozReady s (.ozWait doc ra) doc = true →
    ticketArg (s.doc doc) ((s.doc doc).greg ra) = none →
    ∃ t, exec (.ozWait doc ra) s = .next t ∧ t = docFault s doc rPROGRAM_BOUNDS (s.doc doc).pc) ∧
  (∀ (doc : DocIx) (id : Nat) (s : State),
    ozReady s (.ozWaitall doc) doc = true →
    (s.doc doc).req = some id →
    wordOk s doc ((s.doc doc).pc + 1) →
    ∃ t, exec (.ozWaitall doc) s = .next t ∧ ∃ s1, docBecomes s s1 doc (if (s.doc doc).openT = [] then { s.doc doc with pc := (s.doc doc).pc + 1, stall := .none } else { s.doc doc with stall := .waitall }) ∧
    t = haltCheck s1 id) ∧
  (∀ (doc : DocIx) (rd ra : R5) (k : W16) (s : State),
    ozReady s (.ozPoll doc rd ra) doc = true →
    ticketArg (s.doc doc) ((s.doc doc).greg ra) = some k →
    wordOk s doc ((s.doc doc).pc + 1) →
    ∃ t, exec (.ozPoll doc rd ra) s = .next t ∧ docBecomes s t doc { (s.doc doc).setG rd (if (s.doc doc).ticketOpen k then 0 else 1) with pc := (s.doc doc).pc + 1, stall := .none }) ∧
  (∀ (doc : DocIx) (n : BitVec 8) (id : Nat) (s : State),
    ozReady s (.ozBarrier doc n) doc = true →
    (s.doc doc).req = some id →
    ∃ t, exec (.ozBarrier doc n) s = .next t ∧ ∃ s1, docBecomes s s1 doc { s.doc doc with stall := .barrier n.toNat } ∧
    t = barrierCheck s1 id) ∧
  (∀ (id : Nat) (ds : List Nat) (n : Nat) (s : State),
    notEnded s id = ds →
    ds ≠ [] →
    (∀ d ∈ ds, (s.doc d).stall = .barrier n) →
    barrierCheck s id = ds.foldl docNext s) ∧
  (∀ (id : Nat) (ds : List Nat) (s : State),
    notEnded s id = ds →
    (∃ d ∈ ds, (s.doc d).stall.isBarrier = false) →
    barrierCheck s id = s) ∧
  (∀ (doc : DocIx) (id : Nat) (s : State),
    ozReady s (.ozEnd doc) doc = true →
    (s.doc doc).req = some id →
    (s.doc doc).openT = [] →
    ∃ t, exec (.ozEnd doc) s = .next t ∧ ∃ s1, docBecomes s s1 doc { s.doc doc with stall := .ended } ∧
    t = haltCheck (barrierCheck s1 id) id) ∧
  (∀ (doc : DocIx) (id : Nat) (s : State),
    ozReady s (.ozEnd doc) doc = true →
    (s.doc doc).req = some id →
    (s.doc doc).openT ≠ [] →
    ∃ t, exec (.ozEnd doc) s = .next t ∧ ∃ s1, docBecomes s s1 doc { s.doc doc with stall := .ending } ∧
    t = haltCheck s1 id) ∧
  (∀ (doc : DocIx) (point : BitVec 12) (s : State),
    ozReady s (.ozSync doc point) doc = true →
    ∃ t, exec (.ozSync doc point) s = .next t ∧ t = sync s doc point.toNat)

/-- Loading starts a docent, a fault report aborts its request with the earliest fault, the watchdog faults, a round is
won.
DOCENT_LOAD_DONE makes a LOADING docent RUNNING and starts its watchdog and interval; a buffer error is counted at the
docent's cell and quarantines it. DOCENT_FAULT_REPORT of a request that runs on one docent settles it with the code,
byte offset and DETAIL of the fault; with several docents the earliest fault stands, then the lower code, then the
lower rank. Then its work stops, and what waited for its pin goes on. WATCHDOG_EXPIRY faults a running docent at its
word with WATCHDOG, unless its watchdogs are stopped. ARBITER_ROUND of a matrix unit with no descriptor running holds
a round among the docents with queued work, and the winner's work begins: the highest min(7, PRIO + AGE ÷ 8) wins; its
AGE becomes 0 and a loser's rises by 1 to at most 63. One whose descriptor runs holds no round.
Cites R143, R144, R161, R162, R163, R164, R166, R167, 05_docent_programs.md (derived, tier 2). -/
def Obligations.DocentEventsLoadFaultAndExpire : Prop :=
  (∀ (doc : DocIx) (sram : DocSram) (id : Nat) (s : State),
    (s.doc doc).req = some id →
    (s.doc doc).state = .loading →
    sram.load = .clean →
    exec (.docentLoadDone doc sram) s = .next ((s.setDoc doc { s.doc doc with state := .running, dogStart := s.now, intervalStart := s.now, upsets := sram.upsets }).updReq id fun r => { r with startTs := if r.startTs = 0 then s.now else r.startTs, dispTs := if r.lateClock then s.now else r.dispTs })) ∧
  (∀ (doc : DocIx) (sram : DocSram) (id g : Nat) (s : State),
    (s.doc doc).req = some id →
    (s.doc doc).state = .loading →
    sram.load = .bad g →
    exec (.docentLoadDone doc sram) s = .next (quarantine (sramUE s (doc.val / 5) stDocent g) (40 + doc.val) stDocent)) ∧
  (∀ (doc : DocIx) (id : Nat) (f : DocFault) (s : State),
    (s.doc doc).fault = some f →
    (s.doc doc).req = some id →
    reqDocents s id = [doc.val] →
    exec (.docentFaultReport doc) s = .next (retireAll (stopWork ((settle s id f.code f.pc f.detail f.time).updReq id fun r => { r with later := r.later + 0 }) id))) ∧
  (∀ (doc : DocIx) (id : Nat) (f : DocFault) (s : State),
    (s.doc doc).fault = some f →
    (s.doc doc).req = some id →
    ∃ t, exec (.docentFaultReport doc) s = .next t ∧ ∃ g k n, (g = f ∨ (k ∈ reqDocents s id ∧
    (s.doc k).fault = some g)) ∧ (∀ j ∈ reqDocents s id, ∀ h, (s.doc j).fault = some h →
    g.time < h.time ∨ (g.time = h.time ∧ g.code.toNat ≤ h.code.toNat)) ∧ t = retireAll (stopWork ((settle s id g.code g.pc g.detail g.time).updReq id fun r => { r with later := r.later + n }) id)) ∧
  (∀ (doc : DocIx) (id : Nat) (s : State),
    (s.doc doc).req = some id →
    (s.doc doc).state = .running →
    (s.doc doc).stall ≠ .ended →
    (s.doc doc).stopped = false →
    dogStopped s id = false →
    exec (.watchdogExpiry doc) s = .next (docFault s doc rWATCHDOG (s.doc doc).pc)) ∧
  (∀ (u : Fin 40) (s : State),
    granted s (.mu u) = none →
    exec (.arbiterRound (.mu u)) s = .next (beginWork (holdRound s (arbKey (.mu u)) (arbDocs s (.mu u)).length (arbCands s (.mu u))) (.mu u)) ∧
    (∀ c ∈ arbCands s (.mu u), (arbDocs s (.mu u))[c.1]? = some c.2)) ∧
  (∀ (u : Fin 40) (l : Launch) (s : State),
    granted s (.mu u) = some l →
    exec (.arbiterRound (.mu u)) s = .next s) ∧
  (∀ (a n : Nat) (cands : List (Nat × Nat)) (w : Nat × Nat) (s : State),
    roundWinner s a n cands = some w →
    w ∈ cands ∧ (∀ c ∈ cands, effPrio s a c.2 ≤ effPrio s a w.2) ∧ ((holdRound s a n cands).arb a).grant = some w.2 ∧
    ((holdRound s a n cands).arb a).last = w.1)

/-- A table is reserved, cleared and committed, deleted at a commit point of its own time, and its space freed when idle.
For tables of a catalogue that is not paired, and a command that passes what every command shares. A run that the
allocation of n granules on a stack returns holds at least one granule of that stack; each of its granules lies in an
extent of the wing there other than extent 47 and in no run of a table; the runs are at most 64 and hold n granules
together. CAT_TABLE_CREATE that passes the ten checks of R173 reserves the lowest free ID and the space, and goes on
with the clearing; the checks answer in that order, with those codes. TABLE_CREATE_CLEAR_DONE clears the storage and
commits: the table is ready from a time that no admission shares, the command is recorded, and the answer is the ID
and the granules. CAT_TABLE_DELETE commits at a time that no admission shares, and answers OK with no payload; the
table is then deleted with that time. TABLE_STORAGE_CLEAR, once no request that began before the deletion is left: its
versions leave the directory and its lines the caches, pins with them. While such a request is left, nothing is
cleared. TABLE_STORAGE_CLEAR_DONE writes zero in all of the table's storage and in no other byte, and frees the ID.
Cites R89, R170, R171, R173, R174, R175, R176, R177, R406, 06_catalogues_gather.md (derived, tier 2). -/
def Obligations.TablesAreCreatedAndDeleted : Prop :=
  (∀ (fn : Fn) (hub : Hub) (tag : W32) (wing : Byte) (p : Bytes) (c : Cmd) (s : State),
    c = sentCmd s 0x0201 fn hub tag wing p →
    accepts s c →
    wing.toNat < 16 →
    (s.cat (catKey wing.toNat (tdCat p))).mode = 0 →
    fenced s (s.cat (catKey wing.toNat (tdCat p))) = false →
    longFull s = false →
    firstFail (createHead p ++ createRest s (Fin.ofNat 16 wing.toNat) p) = none →
    exec (.catTableCreate fn hub tag wing p) s = .next (inProgress s (tableReserve s (Fin.ofNat 16 wing.toNat) (freeTable s) p) c false [freeTable s, 0, 1])) ∧
  (∀ (s : State) (w : WingIx) (d : Bytes),
    (createHead d ++ createRest s w d).map (·.2) = [rRESERVED_FIELD_SET, rRESERVED_VALUE, rSHAPE_INVALID, rADDR_RANGE, rRES_OVERLAP, rRES_INSUFFICIENT, rRES_UNAVAILABLE, rRES_UNAVAILABLE, rRES_INSUFFICIENT, rBUSY]) ∧
  (∀ (table : TabIx) (t0 : Table) (x : Fn × Hub × Run) (s : State),
    s.table table = some t0 →
    t0.phase = .creating →
    creator s table = some x →
    x.2.2.data.getD 2 0 = 1 →
    exec (.tableCreateClearDone table) s = .next (advance (runFinish (scpCommit ((advance (clearStorage s t0) 1).setTable table (some { t0 with phase := .ready, createdTs := (advance (clearStorage s t0) 1).now })) (x.2.2.cmd x.1 x.2.1)) x.1 x.2.1 rOK (leBytes 2 table ++
    [0#8, 0#8] ++ leBytes 4 (granules t0))) 1)) ∧
  (∀ (fn : Fn) (hub : Hub) (tag : W32) (wing : Byte) (p : Bytes) (c : Cmd) (s : State),
    c = sentCmd s 0x0202 fn hub tag wing p →
    accepts s c →
    wing.toNat < 16 →
    zeroAt p 2 2 = true →
    (∃ t, s.table (leAt p 0 2) = some t ∧ (s.cat (catKey wing.toNat t.cat)).mode = 0 ∧ fenced s (s.cat (catKey wing.toNat t.cat)) = false) →
    exec (.catTableDelete fn hub tag wing p) s = .next (scpFinish (advance (scpCommit (tableDelete (advance s 1) (leAt p 0 2)) c) 1) c rOK ([]))) ∧
  (∀ (s : State) (id : Nat) (t : Table),
    s.table id = some t →
    (tableDelete s id).table id = some { t with phase := .deleted, deletedTs := s.now } ∧
    ∀ k, k ≠ id → (tableDelete s id).table k = s.table k) ∧
  (∀ (table : TabIx) (t0 : Table) (s : State),
    s.table table = some t0 →
    t0.phase = .deleted →
    tableIdle s t0 = true →
    ∃ t, exec (.tableStorageClear table) s = .next t ∧ t = { s with tables := t.tables, dir := s.dir.filter (fun e => e.table.val != table.val), cache := s.cache.filter fun x => !tableHolds t0 (x.line * 64) } ∧
    t.table table = some { t0 with phase := .clearing, used := [] } ∧ (∀ k, k ≠ table.val →
    t.table k = s.table k)) ∧
  (∀ (table : TabIx) (t0 : Table) (s : State),
    s.table table = some t0 →
    t0.phase = .deleted →
    tableIdle s t0 = false →
    exec (.tableStorageClear table) s = .next (s)) ∧
  (∀ (table : TabIx) (t0 : Table) (s : State),
    s.table table = some t0 →
    t0.phase = .clearing →
    ∃ t, exec (.tableStorageClearDone table) s = .next t ∧ t = { s with tables := t.tables, dram := t.dram, lines := t.lines } ∧
    t.table table = none ∧ (∀ k, k ≠ table.val → t.table k = s.table k) ∧ (∀ r ∈ t0.runs,
    ∀ a, r.stack * (48 * 2 ^ 30) + r.first * 65536 ≤ a → a < r.stack * (48 * 2 ^ 30) + (r.first + r.count) * 65536 →
    Tbl.get 0#8 t.dram a = 0) ∧ (∀ a, (∀ r ∈ t0.runs, a < r.stack * (48 * 2 ^ 30) + r.first * 65536 ∨ r.stack * (48 * 2 ^ 30) + (r.first + r.count) * 65536 ≤ a) →
    Tbl.get 0#8 t.dram a = Tbl.get 0#8 s.dram a)) ∧
  (∀ (s : State) (w : WingIx) (k n : Nat) (l : List Gran),
    k < 8 →
    allocRuns s w k n false = some l →
    l.length ≤ 64 ∧ (l.map (·.count)).sum = n ∧ (∀ r ∈ l, r.stack = k ∧ ∀ g, r.first ≤ g →
    g < r.first + r.count → (∃ e ∈ s.wingExtents w, e = 48 * k + g / 16384 ∧ isExt47 e = false) ∧
    (∀ x ∈ s.tables, ∀ t, x.2 = some t → ∀ q ∈ t.runs, q.stack = k → g < q.first ∨ q.first + q.count ≤ g)))

/-- A batch reads its rows, pools and writes; pins hold row-cache lines within PIN_QUOTA.
For a batch in progress of a launched GPEB. For a table in the wing and a payload that passes the checks of R199.
GPE_ROW_READ_DONE of a row that a GPE accepted and that can be read counts the lookup, and a hit if every line is in the cache, uses or fills
the cache as the mode says, and keeps the row's terms; a row unwritten at the pinned epoch gives zeros and reads
nothing; an uncorrectable line fails the batch with UNCORRECTABLE_MEMORY. A row header of another major version fails
with VERSION_UNSUPPORTED and one of another format with FORMAT_UNSUPPORTED. PARTIAL_RECEIVE keeps the partial of a
stripe position above 0 of the bag, as its stack pooled it; one that arrives altered under a digest that is not its own
fails the batch with DIGEST_MISMATCH and is counted. GPE_BATCH_DONE, once every row is read and every partial in, writes
each vector at OUT and its stride and completes the ticket; a batch that failed faults its docent instead. A write to
a half-cell's scratchpad puts its bytes there and changes no other byte. CAT_PIN whose lines fit the quota, the stack
and the sets, and can all be read, pins each and answers how many; an uncorrectable line ends it with nothing pinned;
CAT_UNPIN releases the named rows' lines that the wing has pinned and answers how many. Pinning a line drops no other
pinned line and changes nothing but the cache.
Cites R181, R182, R188, R189, R193, R196, R387, R194, R198, R199, R171, 06_catalogues_gather.md (derived, tier 2). -/
def Obligations.GatherBatchesAndPinnedLines : Prop :=
  (∀ (doc : DocIx) (ticket : W16) (b : Batch) (t0 : Table) (lookup : W32) (bag : Nat) (row w : W32) (j k home : Nat) (bytes : Bytes) (pieces : List Nat) (l : Launch) (s1 : State) (s : State),
    findBatch s doc ticket = some b →
    s.table b.table = some t0 →
    b.failed = none →
    b.lookups[lookup.toNat]? = some (bag, row, w) →
    b.taken.contains lookup.toNat = true →
    s.vlt.mode ≠ .error →
    rowPlace s t0 row.toNat = some (j, k, home) →
    (servingGPE s (bagGPE s k bag)).isSome = true →
    batchLaunch s b = some l →
    versionSlot s k b.table row.toNat home b.epoch ≠ slotUnwritten →
    pieces = slotPieces t0 k (versionSlot s k b.table row.toNat home b.epoch) →
    (s1 = (s.updWing b.wing fun x => { x with lookups := satInc x.lookups }).updBatch b fun x => { x with taken := x.taken.filter (· != lookup.toNat) }) →
    slotRead s1 b.wing t0 k (versionSlot s k b.table row.toNat home b.epoch) = .ok bytes →
    headerCheck t0 bytes = none →
    exec (.gpeRowReadDone doc ticket lookup .clean) s = .next ((cacheRead (if pieces.all (cacheHit s1 b.wing) then s1.updWing b.wing fun x => { x with hits := satInc x.hits } else s1) b.wing (decide ((if gbCache l.desc = 0 then tdCacheMode t0.desc else if gbCache l.desc = 1 then 1 else 0) = 0)) pieces).updBatch b fun x => { x with rows := Tbl.set none x.rows lookup.toNat (some (rowTerms t0.elem t0.dim (decide (gbPool l.desc = 3)) w bytes)) })) ∧
  (∀ (doc : DocIx) (ticket : W16) (b : Batch) (t0 : Table) (lookup : W32) (bag : Nat) (row w : W32) (j k home : Nat) (l : Launch) (s : State),
    findBatch s doc ticket = some b →
    s.table b.table = some t0 →
    b.failed = none →
    b.lookups[lookup.toNat]? = some (bag, row, w) →
    b.taken.contains lookup.toNat = true →
    s.vlt.mode ≠ .error →
    rowPlace s t0 row.toNat = some (j, k, home) →
    (servingGPE s (bagGPE s k bag)).isSome = true →
    batchLaunch s b = some l →
    versionSlot s k b.table row.toNat home b.epoch = slotUnwritten →
    exec (.gpeRowReadDone doc ticket lookup .clean) s = .next (((s.updWing b.wing fun x => { x with lookups := satInc x.lookups }).updBatch b fun x => { x with taken := x.taken.filter (· != lookup.toNat) }).updBatch b fun x => { x with rows := Tbl.set none x.rows lookup.toNat (some (rowTerms t0.elem t0.dim (decide (gbPool l.desc = 3)) w (List.replicate 16 0#8))) })) ∧
  (∀ (doc : DocIx) (ticket : W16) (b : Batch) (t0 : Table) (lookup : W32) (bag : Nat) (row w : W32) (j k home : Nat) (a : Nat) (s1 : State) (s : State),
    findBatch s doc ticket = some b →
    s.table b.table = some t0 →
    b.failed = none →
    b.lookups[lookup.toNat]? = some (bag, row, w) →
    b.taken.contains lookup.toNat = true →
    s.vlt.mode ≠ .error →
    rowPlace s t0 row.toNat = some (j, k, home) →
    (servingGPE s (bagGPE s k bag)).isSome = true →
    (s1 = (s.updWing b.wing fun x => { x with lookups := satInc x.lookups }).updBatch b fun x => { x with taken := x.taken.filter (· != lookup.toNat) }) →
    versionSlot s k b.table row.toNat home b.epoch ≠ slotUnwritten →
    slotRead s1 b.wing t0 k (versionSlot s k b.table row.toNat home b.epoch) = .error a →
    exec (.gpeRowReadDone doc ticket lookup .clean) s = .next (gpeFail (poison s1 a) b rUNCORRECTABLE_MEMORY (bagGPE s k bag))) ∧
  (∀ (t : Table) (row : Bytes),
    (allZero (slice row 0 16) = true → headerCheck t row = none) ∧ (allZero (slice row 0 16) = false →
    leAt row 10 1 / 16 ≠ 1 → headerCheck t row = some rVERSION_UNSUPPORTED) ∧ (allZero (slice row 0 16) = false →
    leAt row 10 1 / 16 = 1 → leAt row 8 1 ≠ t.elem → headerCheck t row = some rFORMAT_UNSUPPORTED) ∧
    (leAt row 10 1 / 16 = 1 → leAt row 8 1 = t.elem → headerCheck t row = none)) ∧
  (∀ (doc : DocIx) (ticket : W16) (b : Batch) (t0 : Table) (bag : Fin 65536) (gpos : Fin 16) (remote : Bytes) (v : List W32 × Nat) (l : Launch) (s : State),
    findBatch s doc ticket = some b →
    s.table b.table = some t0 →
    b.failed = none →
    ((b.parts.any fun x => x.bag == bag.val && x.gpos == gpos.val) = false) →
    ownGpos s t0 gpos = false →
    (bagLookups s b t0 bag gpos).isEmpty = false →
    localGpos s t0 gpos = true →
    batchLaunch s b = some l →
    localPart s b t0 (decide (gbPool l.desc = 2)) bag gpos = some v →
    exec (.partialReceive doc ticket bag gpos remote .intact) s = .next (s.updBatch b fun x => { x with parts := x.parts ++ [partOf t0.dim bag gpos (partBytes v)] })) ∧
  (∀ (dim bag gpos : Nat) (v : List W32 × Nat),
    v.1.length = dim →
    v.2 < 2 ^ 32 →
    partOf dim bag gpos (partBytes v) = { bag := bag, gpos := gpos, vec := v.1, n := v.2 }) ∧
  (∀ (doc : DocIx) (ticket : W16) (b : Batch) (t0 : Table) (bag : Fin 65536) (gpos : Fin 16) (remote data : Bytes) (digest : W64) (l : Launch) (s : State),
    findBatch s doc ticket = some b →
    s.table b.table = some t0 →
    b.failed = none →
    ((b.parts.any fun x => x.bag == bag.val && x.gpos == gpos.val) = false) →
    ownGpos s t0 gpos = false →
    (bagLookups s b t0 bag gpos).isEmpty = false →
    localGpos s t0 gpos = true →
    batchLaunch s b = some l →
    (localPart s b t0 (decide (gbPool l.desc = 2)) bag gpos).isSome = true →
    digestOf (partHead s b t0 bag gpos) data ≠ digest →
    exec (.partialReceive doc ticket bag gpos remote (.altered data digest)) s = .next (gpeFail (digestFail s b.wing (8 + gposStack s t0 gpos) (8 + combineStack t0) 0) b rDIGEST_MISMATCH (bagGPE s (combineStack t0) bag))) ∧
  (∀ (doc : DocIx) (ticket : W16) (b : Batch) (t0 : Table) (l : Launch) (rest : List Launch) (vecs : List (List W32 × Nat)) (s : State),
    findBatch s doc ticket = some b →
    s.table b.table = some t0 →
    b.failed = none →
    batchLaunch s b = some l →
    queueAt s doc .gpe = l :: rest →
    (((List.range (gbBags l.desc)).map fun bag => (bagParts s b t0 (decide (gbPool l.desc = 2)) bag).map (combineParts (decide (gbPool l.desc = 2)) t0.dim)) = vecs.map some) →
    l.dirty = false →
    exec (.gpeBatchDone doc ticket []) s = .next (ticketDone (vecs.zipIdx.foldl (fun s v => spWrite s (docHalf s doc) (gbOut l.desc + v.2 * gbStride l.desc) (pooledBytes (gbPool l.desc) (gbFmt l.desc) v.1) (some (doc.val, ticket))) s) doc ticket)) ∧
  (∀ (doc : DocIx) (ticket : W16) (b : Batch) (t0 : Table) (l : Launch) (f : Byte × W32) (ok : List (Nat × Carried)) (s : State),
    findBatch s doc ticket = some b →
    s.table b.table = some t0 →
    b.failed = some f →
    batchLaunch s b = some l →
    exec (.gpeBatchDone doc ticket ok) s = .next (launchFail s l f.1 f.2)) ∧
  (∀ (s : State) (h off : Nat) (data : Bytes) (w : Option (Nat × W16)),
    (spWrite s h off data w).sp.read (spBase h + off) data.length = data ∧ (∀ a, a < spBase h + off ∨ spBase h + off + data.length ≤ a →
    Tbl.get 0#8 (spWrite s h off data w).sp a = Tbl.get 0#8 s.sp a) ∧ spWrite s h off data w = { s with sp := (spWrite s h off data w).sp, spBad := (spWrite s h off data w).spBad, launches := (spWrite s h off data w).launches }) ∧
  (∀ (fn : Fn) (hub : Hub) (tag : W32) (wing : Byte) (p : Bytes) (c : Cmd) (s : State) (t0 : Table) (new : List Nat),
    c = sentCmd s 0x0203 fn hub tag wing p →
    accepts s c →
    wing.toNat < 16 →
    tableIn s wing.toNat (leAt p 0 2) = some t0 →
    firstFail (pinChecks c t0) = none →
    (new = (pinLines s t0 (pinRanges p)).filter fun l => !s.cache.any (pinnedBy (Fin.ofNat 16 wing.toNat) l)) →
    pinOver s (Fin.ofNat 16 wing.toNat) new = false →
    (∀ l ∈ new, (pieceRead s wing.toNat (l * 64) 64).isSome = true) →
    exec (.catPin fn hub tag wing p) s = .next (scpFinish (new.foldl (fun s l => pinLine s (Fin.ofNat 16 wing.toNat) l) (scpCommit s c)) c rOK (leBytes 4 new.length))) ∧
  (∀ (fn : Fn) (hub : Hub) (tag : W32) (wing : Byte) (p : Bytes) (c : Cmd) (s : State) (t0 : Table) (new : List Nat) (l : Nat),
    c = sentCmd s 0x0203 fn hub tag wing p →
    accepts s c →
    wing.toNat < 16 →
    tableIn s wing.toNat (leAt p 0 2) = some t0 →
    firstFail (pinChecks c t0) = none →
    (new = (pinLines s t0 (pinRanges p)).filter fun l => !s.cache.any (pinnedBy (Fin.ofNat 16 wing.toNat) l)) →
    pinOver s (Fin.ofNat 16 wing.toNat) new = false →
    (new.find? (fun l => (pieceRead s wing.toNat (l * 64) 64).isNone) = some l) →
    exec (.catPin fn hub tag wing p) s = .next (scpFinish (poison s (l * 64)) c rUNCORRECTABLE_MEMORY ([]))) ∧
  (∀ (fn : Fn) (hub : Hub) (tag : W32) (wing : Byte) (p : Bytes) (c : Cmd) (s : State) (t0 : Table),
    c = sentCmd s 0x0204 fn hub tag wing p →
    accepts s c →
    wing.toNat < 16 →
    tableIn s wing.toNat (leAt p 0 2) = some t0 →
    firstFail (pinChecks c t0) = none →
    exec (.catUnpin fn hub tag wing p) s = .next (scpFinish { scpCommit s c with cache := (scpCommit s c).cache.map fun x => if ((pinLines s t0 (pinRanges p)).filter fun l => s.cache.any (pinnedBy (Fin.ofNat 16 wing.toNat) l)).any (fun l => pinnedBy (Fin.ofNat 16 wing.toNat) l x) then { x with pinned := false } else x } c rOK (leBytes 4 ((pinLines s t0 (pinRanges p)).filter fun l => s.cache.any (pinnedBy (Fin.ofNat 16 wing.toNat) l)).length))) ∧
  (∀ (s : State) (w : WingIx) (l : Nat),
    (∃ x ∈ (pinLine s w l).cache, x.line = l ∧ x.wing = w ∧ x.pinned = true) ∧ (∀ x ∈ s.cache, x.pinned = true →
    ¬ (x.line = l ∧ x.wing = w) → x ∈ (pinLine s w l).cache) ∧ pinLine s w l = { s with cache := (pinLine s w l).cache })

/-- An update ring is enabled on its checks, takes doorbells, and HEAD passes a record only when its writes are done.
For a function that reaches the wing's page. CAT_UPD_ENABLE of a DISABLED ring with SIZE_LOG2 16 to 30, an aligned
base and a translation: HEAD and TAIL 0, the limit 2^64 − 1, ENABLED, logged with the old and the new registers; the
first failing check leaves it DISABLED with REASON and CHECK. CAT_UPD_DISABLE disables at once with no record in
progress or a stalled one, and else after it; CAT_UPD_RESUME leaves ERROR. CAT_UPD_TAIL: a COUNT not below TAIL, a
multiple of 32 and within the ring of HEAD is recorded; another puts the ring into ERROR with ADDR_RANGE; a DISABLED
ring drops it with DB_DROPPED. UPDATE_RECORD_APPLY of a whole PUT below TAIL and the limit that passes its checks
applies it in the open epoch; one that fails puts the ring into ERROR with the check and its code; a ring in ERROR
keeps HEAD. UPDATE_RECORD_DONE: HEAD passes the record whose writes are done.
Cites R113, R219, R220, R221, R222, R223, R225, R226, R227, 07_table_updates.md (derived, tier 2). -/
def Obligations.UpdateRingsAreControlledAndConsumed : Prop :=
  (∀ (fn : Fn) (wing : WingIx) (cat : CatIx) (s : State),
    regOpen s fn = true →
    (fn = 0 ∨ (s.fnWing fn).map (·.val) = some wing.val) →
    (s.cat (catKey wing cat)).state = .disabled →
    canLog s fn →
    16 ≤ fld (s.cat (catKey wing cat)).cfg.toNat 0 5 ∧ fld (s.cat (catKey wing cat)).cfg.toNat 0 5 ≤ 30 →
    (s.cat (catKey wing cat)).base.toNat % 4096 = 0 →
    exec (.catUpdEnable fn wing cat true) s = .next (tdiTrip (logAppend (s.setCat (catKey wing cat) { s.cat (catKey wing cat) with reason := rOK, check := 0, head := 0, tail := 0, limit := 0xFFFFFFFFFFFFFFFF, state := .enabled, runCfg := (s.cat (catKey wing cat)).cfg, runBase := (s.cat (catKey wing cat)).base, pairHead := 0, resends := 0 }) fn wing 0 (catOff fn wing cat 0) 0 (leBytes 4 (s.cat (catKey wing cat)).runCfg.toNat ++
    leBytes 8 (s.cat (catKey wing cat)).runBase.toNat) (leBytes 4 (s.cat (catKey wing cat)).cfg.toNat ++
    leBytes 8 (s.cat (catKey wing cat)).base.toNat)) wing fn)) ∧
  (∀ (fn : Fn) (wing : WingIx) (cat : CatIx) (xlat : Bool) (n : Nat) (code : Byte) (s : State),
    regOpen s fn = true →
    (fn = 0 ∨ (s.fnWing fn).map (·.val) = some wing.val) →
    (s.cat (catKey wing cat)).state = .disabled →
    canLog s fn →
    (firstFailAt [(decide (fld (s.cat (catKey wing cat)).cfg.toNat 0 5 < 16 ∨ fld (s.cat (catKey wing cat)).cfg.toNat 0 5 > 30), rRESERVED_VALUE), (decide ((s.cat (catKey wing cat)).base.toNat % 4096 ≠ 0), rADDR_ALIGN), (!xlat, rTRANSLATION_MISSING)] = some (n, code)) →
    exec (.catUpdEnable fn wing cat xlat) s = .next (tdiTrip (logAppend (s.setCat (catKey wing cat) { s.cat (catKey wing cat) with reason := code, check := n }) fn wing 0 (catOff fn wing cat 0) 0 (leBytes 4 (s.cat (catKey wing cat)).runCfg.toNat ++
    leBytes 8 (s.cat (catKey wing cat)).runBase.toNat) (leBytes 4 (s.cat (catKey wing cat)).cfg.toNat ++
    leBytes 8 (s.cat (catKey wing cat)).base.toNat)) wing fn)) ∧
  (∀ (fn : Fn) (wing : WingIx) (cat : CatIx) (s : State),
    regOpen s fn = true →
    (fn = 0 ∨ (s.fnWing fn).map (·.val) = some wing.val) →
    (s.cat (catKey wing cat)).state ≠ .disabled →
    ((s.cat (catKey wing cat)).busy = none ∨ (s.cat (catKey wing cat)).stall ≠ 0) →
    (s.cat (catKey wing cat)).follow = none →
    exec (.catUpdDisable fn wing cat) s = .next (s.setCat (catKey wing cat) { s.cat (catKey wing cat) with state := .disabled, busy := none, applied := false, stall := 0, stallAt := none, stallRow := none, disableAfter := false })) ∧
  (∀ (fn : Fn) (wing : WingIx) (cat : CatIx) (r : HeldRec) (s : State),
    regOpen s fn = true →
    (fn = 0 ∨ (s.fnWing fn).map (·.val) = some wing.val) →
    (s.cat (catKey wing cat)).state ≠ .disabled →
    ((s.cat (catKey wing cat)).busy = none ∨ (s.cat (catKey wing cat)).stall ≠ 0) →
    (s.cat (catKey wing cat)).follow = some r →
    exec (.catUpdDisable fn wing cat) s = .next (s.setCat (catKey wing cat) { s.cat (catKey wing cat) with state := .disabled, busy := none, applied := false, disableAfter := false })) ∧
  (∀ (fn : Fn) (wing : WingIx) (cat : CatIx) (s : State),
    regOpen s fn = true →
    (fn = 0 ∨ (s.fnWing fn).map (·.val) = some wing.val) →
    (s.cat (catKey wing cat)).state ≠ .disabled →
    (s.cat (catKey wing cat)).busy ≠ none →
    (s.cat (catKey wing cat)).stall = 0 →
    exec (.catUpdDisable fn wing cat) s = .next (s.setCat (catKey wing cat) { s.cat (catKey wing cat) with disableAfter := true })) ∧
  (∀ (fn : Fn) (wing : WingIx) (cat : CatIx) (s : State),
    regOpen s fn = true →
    (fn = 0 ∨ (s.fnWing fn).map (·.val) = some wing.val) →
    (s.cat (catKey wing cat)).state = .error →
    exec (.catUpdResume fn wing cat) s = .next (s.setCat (catKey wing cat) { s.cat (catKey wing cat) with state := .enabled, resends := 0 })) ∧
  (∀ (fn : Fn) (wing : WingIx) (cat : CatIx) (count : W64) (s : State),
    regOpen s fn = true →
    (fn = 0 ∨ (s.fnWing fn).map (·.val) = some wing.val) →
    (s.cat (catKey wing cat)).state ≠ .disabled →
    (s.cat (catKey wing cat)).tail ≤ count →
    count.toNat % 32 = 0 →
    count.toNat - (s.cat (catKey wing cat)).head.toNat ≤ 2 ^ fld (s.cat (catKey wing cat)).runCfg.toNat 0 5 →
    exec (.catUpdTail fn wing cat count) s = .next (s.setCat (catKey wing cat) { s.cat (catKey wing cat) with tail := count })) ∧
  (∀ (fn : Fn) (wing : WingIx) (cat : CatIx) (count : W64) (s : State),
    regOpen s fn = true →
    (fn = 0 ∨ (s.fnWing fn).map (·.val) = some wing.val) →
    (s.cat (catKey wing cat)).state ≠ .disabled →
    (count < (s.cat (catKey wing cat)).tail ∨ count.toNat % 32 ≠ 0 ∨ 2 ^ fld (s.cat (catKey wing cat)).runCfg.toNat 0 5 < count.toNat - (s.cat (catKey wing cat)).head.toNat) →
    exec (.catUpdTail fn wing cat count) s = .next (ringError s wing cat 0 rADDR_RANGE)) ∧
  (∀ (fn : Fn) (wing : WingIx) (cat : CatIx) (count : W64) (s : State),
    regOpen s fn = true →
    (fn = 0 ∨ (s.fnWing fn).map (·.val) = some wing.val) →
    (s.cat (catKey wing cat)).state = .disabled →
    exec (.catUpdTail fn wing cat count) s = .next (s.setCat (catKey wing cat) { s.cat (catKey wing cat) with dbDropped := true })) ∧
  (∀ (wing : WingIx) (cat : CatIx) (hm : HostMem) (b : Bytes) (tab : TabIx) (t0 : Table) (row : Nat) (s : State),
    (s.cat (catKey wing cat)).mode = 0 →
    (s.cat (catKey wing cat)).state = .enabled →
    (s.cat (catKey wing cat)).isOpen = true →
    (s.cat (catKey wing cat)).discardEp = none →
    (s.wing wing).state = .enabled →
    (s.cat (catKey wing cat)).busy = none →
    (s.cat (catKey wing cat)).head < (s.cat (catKey wing cat)).limit →
    (s.cat (catKey wing cat)).head < (s.cat (catKey wing cat)).tail →
    b = (ringRecord (s.cat (catKey wing cat)) hm).2 →
    (s.cat (catKey wing cat)).head.toNat + recLen b ≤ (s.cat (catKey wing cat)).limit.toNat →
    (s.cat (catKey wing cat)).head.toNat + recLen b ≤ (s.cat (catKey wing cat)).tail.toNat →
    recCheck s wing cat (ringRecord (s.cat (catKey wing cat)) hm).1 (ringSize (s.cat (catKey wing cat))) b = .put tab t0 row →
    exec (.updateRecordApply wing cat hm .clean) s = .next (applyBusy (s.setCat (catKey wing cat) { s.cat (catKey wing cat) with busy := some b, applied := false, follow := none, resends := 0 }) wing cat b (s.cat (catKey wing cat)).openEp)) ∧
  (∀ (wing : WingIx) (cat : CatIx) (hm : HostMem) (b : Bytes) (n : Nat) (code : Byte) (s : State),
    (s.cat (catKey wing cat)).mode = 0 →
    (s.cat (catKey wing cat)).state = .enabled →
    (s.cat (catKey wing cat)).isOpen = true →
    (s.cat (catKey wing cat)).discardEp = none →
    (s.wing wing).state = .enabled →
    (s.cat (catKey wing cat)).busy = none →
    (s.cat (catKey wing cat)).head < (s.cat (catKey wing cat)).limit →
    (s.cat (catKey wing cat)).head < (s.cat (catKey wing cat)).tail →
    b = (ringRecord (s.cat (catKey wing cat)) hm).2 →
    (s.cat (catKey wing cat)).head.toNat + recLen b ≤ (s.cat (catKey wing cat)).limit.toNat →
    (s.cat (catKey wing cat)).head.toNat + recLen b ≤ (s.cat (catKey wing cat)).tail.toNat →
    recCheck s wing cat (ringRecord (s.cat (catKey wing cat)) hm).1 (ringSize (s.cat (catKey wing cat))) b = .bad n code →
    exec (.updateRecordApply wing cat hm .clean) s = .next (ringError s wing cat n code)) ∧
  (∀ (s : State) (w c n : Nat) (code : Byte),
    (s.cat (catKey w c)).commit = none →
    (s.cat (catKey w c)).disableAfter = false →
    (s.cat (catKey w c)).follow = none →
    ((s.cat (catKey w c)).applied = true → ringError s w c n code = s.setCat (catKey w c) { s.cat (catKey w c) with state := .error, reason := code, check := n }) ∧
    ((s.cat (catKey w c)).applied = false → ringError s w c n code = s.setCat (catKey w c) { s.cat (catKey w c) with state := .error, reason := code, check := n, busy := none, applied := false, stall := 0, stallAt := none, stallRow := none })) ∧
  (∀ (wing : WingIx) (cat : CatIx) (b : Bytes) (s : State),
    (s.cat (catKey wing cat)).busy = some b →
    (s.cat (catKey wing cat)).mode = 0 →
    (s.cat (catKey wing cat)).applied = true →
    (s.cat (catKey wing cat)).disableAfter = false →
    (s.cat (catKey wing cat)).discardEp = none →
    (s.cat (catKey wing cat)).commit = none →
    exec (.updateRecordDone wing cat) s = .next (s.setCat (catKey wing cat) { s.cat (catKey wing cat) with head := (s.cat (catKey wing cat)).head + BitVec.ofNat 64 (leAt b 4 2), busy := none, applied := false })) ∧
  (∀ (wing : WingIx) (cat : CatIx) (s : State),
    (s.cat (catKey wing cat)).applied = false →
    exec (.updateRecordDone wing cat) s = .next (s))

/-- EPOCH_OPEN opens V + 1, EPOCH_COMMIT makes it visible when HEAD reaches UPTO, EPOCH_RETIRE discards it or retires old
ones.
For a catalogue that is not paired, of an ENABLED wing. EPOCH_OPEN answers O = V + 1 (modulo 2^32) and opens it.
EPOCH_COMMIT whose UPTO is HEAD commits at once: V = O, OPEN 0, and the answer is the time. With UPTO ahead of HEAD it
sets the limit and waits. The record that brings HEAD to UPTO ends the wait: V = O, and the command is answered with
the time. 5 ms later EPOCH_COMMIT_TIMEOUT answers BUSY, and O stays open under the limit. EPOCH_RETIRE of the open
epoch discards it: OPEN 0 and DISCARDING. Of a committed epoch that L has reached, it answers OK and changes nothing,
and else waits; EPOCH_RETIRE_TIMEOUT answers one that waits OK if L has reached it by then, and else BUSY. DISCARD_RESTORE_DONE restores every row whose
newest version is of the discarded epoch and ends DISCARDING. STALL_FORCED_RETIRE retires, with a record, the earliest
epoch that frees the stalled record, if only suspended or halted requests keep it. VERSION_RECLAIM frees the retired
versions of a row: what a request that pins an epoch in use reads of the row does not change.
Cites R206, R228, R229, R230, R231, R234, R235, R236, R237, R238, R216, 07_table_updates.md (derived, tier 2). -/
def Obligations.EpochsOpenCommitRetireAndDiscard : Prop :=
  (∀ (fn : Fn) (hub : Hub) (tag : W32) (wing : Byte) (p : Bytes) (c : Cmd) (s : State),
    c = sentCmd s 0x0205 fn hub tag wing p →
    accepts s c →
    wing.toNat < 16 →
    leAt p 0 1 < 8 →
    (s.wing wing.toNat).state = .enabled →
    (s.cat (catKey wing.toNat (leAt p 0 1))).mode = 0 →
    (s.cat (catKey wing.toNat (leAt p 0 1))).sync ≠ 4 →
    zeroAt p 1 3 = true →
    (s.cat (catKey wing.toNat (leAt p 0 1))).isOpen = false →
    (s.cat (catKey wing.toNat (leAt p 0 1))).discardEp = none →
    ((s.cat (catKey wing.toNat (leAt p 0 1))).vis + 1 - oldestLive s wing.toNat (leAt p 0 1)).toNat < 2 ^ 31 - 1 →
    exec (.epochOpen fn hub tag wing p) s = .next (scpFinish (s.setCat (catKey wing.toNat (leAt p 0 1)) { (s.cat (catKey wing.toNat (leAt p 0 1))) with openEp := (s.cat (catKey wing.toNat (leAt p 0 1))).vis + 1, isOpen := true }) c rOK (leBytes 4 ((s.cat (catKey wing.toNat (leAt p 0 1))).vis + 1).toNat))) ∧
  (∀ (fn : Fn) (hub : Hub) (tag : W32) (wing : Byte) (p : Bytes) (c : Cmd) (s : State),
    c = sentCmd s 0x0206 fn hub tag wing p →
    accepts s c →
    wing.toNat < 16 →
    leAt p 0 1 < 8 →
    (s.wing wing.toNat).state = .enabled →
    (s.cat (catKey wing.toNat (leAt p 0 1))).mode = 0 →
    (s.cat (catKey wing.toNat (leAt p 0 1))).sync ≠ 4 →
    zeroAt p 1 3 = true →
    (s.cat (catKey wing.toNat (leAt p 0 1))).isOpen = true →
    (s.cat (catKey wing.toNat (leAt p 0 1))).openEp.toNat = leAt p 4 4 →
    leAt p 8 8 % 32 = 0 →
    (s.cat (catKey wing.toNat (leAt p 0 1))).head = BitVec.ofNat 64 (leAt p 8 8) →
    (s.cat (catKey wing.toNat (leAt p 0 1))).commit = none →
    (s.cat (catKey wing.toNat (leAt p 0 1))).discardEp = none →
    (s.cat (catKey wing.toNat (leAt p 0 1))).busy = none →
    retireRuns s wing.toNat (leAt p 0 1) = [] →
    exec (.epochCommit fn hub tag wing p) s = .next (scpFinish (s.setCat (catKey wing.toNat (leAt p 0 1)) { (s.cat (catKey wing.toNat (leAt p 0 1))) with vis := (s.cat (catKey wing.toNat (leAt p 0 1))).openEp, isOpen := false, limit := 0xFFFFFFFFFFFFFFFF }) c rOK (leBytes 8 s.now))) ∧
  (∀ (fn : Fn) (hub : Hub) (tag : W32) (wing : Byte) (p : Bytes) (c : Cmd) (s : State),
    c = sentCmd s 0x0206 fn hub tag wing p →
    accepts s c →
    wing.toNat < 16 →
    leAt p 0 1 < 8 →
    (s.wing wing.toNat).state = .enabled →
    (s.cat (catKey wing.toNat (leAt p 0 1))).mode = 0 →
    (s.cat (catKey wing.toNat (leAt p 0 1))).sync ≠ 4 →
    zeroAt p 1 3 = true →
    (s.cat (catKey wing.toNat (leAt p 0 1))).isOpen = true →
    (s.cat (catKey wing.toNat (leAt p 0 1))).openEp.toNat = leAt p 4 4 →
    leAt p 8 8 % 32 = 0 →
    (s.cat (catKey wing.toNat (leAt p 0 1))).head < BitVec.ofNat 64 (leAt p 8 8) →
    (s.cat (catKey wing.toNat (leAt p 0 1))).commit = none →
    (s.cat (catKey wing.toNat (leAt p 0 1))).discardEp = none →
    (s.cat (catKey wing.toNat (leAt p 0 1))).state ≠ .error →
    exec (.epochCommit fn hub tag wing p) s = .next (inProgress s (s.setCat (catKey wing.toNat (leAt p 0 1)) { (s.cat (catKey wing.toNat (leAt p 0 1))) with limit := BitVec.ofNat 64 (leAt p 8 8), commit := some { fn := fn, hub := hub, epoch := (s.cat (catKey wing.toNat (leAt p 0 1))).openEp, step := 2, upto := BitVec.ofNat 64 (leAt p 8 8) } }) c false [])) ∧
  (∀ (wing : WingIx) (cat : CatIx) (m : Commit) (r : Run) (b : Bytes) (s : State),
    (s.cat (catKey wing cat)).busy = some b →
    (s.cat (catKey wing cat)).mode = 0 →
    (s.cat (catKey wing cat)).applied = true →
    (s.cat (catKey wing cat)).disableAfter = false →
    (s.cat (catKey wing cat)).discardEp = none →
    (s.cat (catKey wing cat)).commit = some m →
    m.upto = (s.cat (catKey wing cat)).head + BitVec.ofNat 64 (leAt b 4 2) →
    retireRuns (runFinish (s.setCat (catKey wing cat) { s.cat (catKey wing cat) with commit := none }) m.fn m.hub rOK []) wing cat = [] →
    ∃ t, exec (.updateRecordDone wing cat) s = .next t ∧ t.cat (catKey wing cat) = { (s.cat (catKey wing cat)) with head := m.upto, busy := none, applied := false, vis := (s.cat (catKey wing cat)).openEp, isOpen := false, limit := 0xFFFFFFFFFFFFFFFF, commit := none } ∧
    (∀ k, k ≠ catKey wing cat → t.cat k = s.cat k) ∧ t = runFinish { s with cats := t.cats } m.fn m.hub rOK (leBytes 8 s.now)) ∧
  (∀ (wing : WingIx) (cat : CatIx) (m : Commit) (s : State),
    (s.cat (catKey wing cat)).commit = some m →
    (s.cat (catKey wing cat)).discardEp = none →
    retireRuns s wing cat = [] →
    exec (.epochCommitTimeout wing cat) s = .next (runFinish (s.setCat (catKey wing cat) { s.cat (catKey wing cat) with commit := none }) m.fn m.hub rBUSY [])) ∧
  (∀ (fn : Fn) (hub : Hub) (tag : W32) (wing : Byte) (p : Bytes) (c : Cmd) (s : State),
    c = sentCmd s 0x0207 fn hub tag wing p →
    accepts s c →
    wing.toNat < 16 →
    leAt p 0 1 < 8 →
    (s.wing wing.toNat).state = .enabled →
    leAt p 1 1 ≤ 1 →
    zeroAt p 2 2 = true →
    (s.cat (catKey wing.toNat (leAt p 0 1))).isOpen = true →
    (s.cat (catKey wing.toNat (leAt p 0 1))).openEp = BitVec.ofNat 32 (leAt p 4 4) →
    (s.cat (catKey wing.toNat (leAt p 0 1))).mode = 0 →
    (s.cat (catKey wing.toNat (leAt p 0 1))).commit = none →
    (s.cat (catKey wing.toNat (leAt p 0 1))).applied = false →
    (s.cat (catKey wing.toNat (leAt p 0 1))).disableAfter = false →
    retireRuns s wing.toNat (leAt p 0 1) = [] →
    exec (.epochRetire fn hub tag wing p) s = .next (scpFinish (s.setCat (catKey wing.toNat (leAt p 0 1)) { (s.cat (catKey wing.toNat (leAt p 0 1))) with isOpen := false, discardEp := some (s.cat (catKey wing.toNat (leAt p 0 1))).openEp, busy := none, applied := false, follow := none, stall := 0, stallAt := none, stallRow := none }) c rOK ([]))) ∧
  (∀ (fn : Fn) (hub : Hub) (tag : W32) (wing : Byte) (p : Bytes) (c : Cmd) (s : State),
    c = sentCmd s 0x0207 fn hub tag wing p →
    accepts s c →
    wing.toNat < 16 →
    leAt p 0 1 < 8 →
    (s.wing wing.toNat).state = .enabled →
    leAt p 1 1 = 0 →
    zeroAt p 2 2 = true →
    ¬ ((s.cat (catKey wing.toNat (leAt p 0 1))).isOpen = true ∧ (s.cat (catKey wing.toNat (leAt p 0 1))).openEp = BitVec.ofNat 32 (leAt p 4 4)) →
    epLe (BitVec.ofNat 32 (leAt p 4 4)) (s.cat (catKey wing.toNat (leAt p 0 1))).vis = true →
    epLe (BitVec.ofNat 32 (leAt p 4 4)) (oldestLive s wing.toNat (leAt p 0 1)) = true →
    exec (.epochRetire fn hub tag wing p) s = .next (scpFinish (s) c rOK ([]))) ∧
  (∀ (fn : Fn) (hub : Hub) (tag : W32) (wing : Byte) (p : Bytes) (c : Cmd) (s : State),
    c = sentCmd s 0x0207 fn hub tag wing p →
    accepts s c →
    wing.toNat < 16 →
    leAt p 0 1 < 8 →
    (s.wing wing.toNat).state = .enabled →
    leAt p 1 1 = 0 →
    zeroAt p 2 2 = true →
    ¬ ((s.cat (catKey wing.toNat (leAt p 0 1))).isOpen = true ∧ (s.cat (catKey wing.toNat (leAt p 0 1))).openEp = BitVec.ofNat 32 (leAt p 4 4)) →
    epLe (BitVec.ofNat 32 (leAt p 4 4)) (s.cat (catKey wing.toNat (leAt p 0 1))).vis = true →
    epLe (BitVec.ofNat 32 (leAt p 4 4)) (oldestLive s wing.toNat (leAt p 0 1)) = false →
    exec (.epochRetire fn hub tag wing p) s = .next (inProgress s (s) c false [0])) ∧
  (∀ (wing : WingIx) (cat : CatIx) (x : Fn × Hub × Run) (s : State),
    retireRuns s wing cat = [x] →
    x.2.2.data.headD 0 = waitL →
    x.2.2.committed = false →
    (s.cat (catKey wing cat)).discardEp = none →
    epLe (BitVec.ofNat 32 (leAt x.2.2.payload 4 4)) (oldestLive s wing cat) = false →
    exec (.epochRetireTimeout wing cat) s = .next (runFinish s x.1 x.2.1 rBUSY [])) ∧
  (∀ (wing : WingIx) (cat : CatIx) (x : Fn × Hub × Run) (s : State),
    retireRuns s wing cat = [x] →
    x.2.2.data.headD 0 = waitL →
    (s.cat (catKey wing cat)).discardEp = none →
    epLe (BitVec.ofNat 32 (leAt x.2.2.payload 4 4)) (oldestLive s wing cat) = true →
    retireRuns (runFinish s x.1 x.2.1 rOK []) wing cat = [] →
    exec (.epochRetireTimeout wing cat) s = .next (runFinish s x.1 x.2.1 rOK [])) ∧
  (∀ (wing : WingIx) (cat : CatIx) (ep : W32) (s : State),
    (s.cat (catKey wing cat)).discardEp = some ep →
    (s.cat (catKey wing cat)).isOpen = false →
    (s.cat (catKey wing cat)).sync ≠ 2 →
    exec (.discardRestoreDone wing cat) s = .next (((s.dir.filter fun e => (match s.table e.table with | some t => t.wing.val == wing.val && t.cat.val == cat.val | none => false) && decide ((e.versions.head?.map (·.1)) = some ep)).foldl (fun s e => match s.table e.table with | some t => restoreRow s t e | none => s) s).updCat (catKey wing cat) fun k => { k with discardEp := none })) ∧
  (∀ (wing : WingIx) (cat : CatIx) (f : W32) (s : State),
    forcedEpoch s wing cat = some f →
    exec (.stallForcedRetire wing cat) s = .next (retirePoll (forceRetire (curatorLog s wing 0x0207 f.toNat) wing cat f) wing cat)) ∧
  (∀ (table : TabIx) (row : W32) (t0 : Table) (s : State),
    s.table table = some t0 →
    exec (.versionReclaim table row) s = .next ((s.dir.filter fun e => e.table.val == table.val && e.row.toNat == row.toNat).foldl (fun s e => reclaimRow s t0 e) s)) ∧
  (∀ (c : Cat) (use : List W32) (vs : List (W32 × Nat)) (e : W32),
    e ∈ use →
    (∀ v ∈ vs, (v.1 - e).toNat ≠ 2 ^ 31) →
    (liveVersions c use none vs).find? (fun v => v.2 == slotUnwritten || epLe v.1 e) = vs.find? (fun v => v.2 == slotUnwritten || epLe v.1 e))

/-- Integer sums equal R262's formula within its bounds, x adds the bias, and x × MULT is shifted, rounded and clamped.
The sum before the shift is P − ZA × CB − ZB × RA + K × ZA × ZB, plus the bias. Within the formats and K ≤ 32,768
neither P nor the corrected sum passes 2,130,739,200. The right shift rounds half up or half to even, and the floor
goes toward −∞. The stored element is that plus ZOUT, clamped to the range of OUT_FMT.
Cites R262, R263, R264, R265 (stated, tier 2). -/
def Obligations.MatrixIntegersAreExactRoundedAndClamped : Prop :=
  (∀ (x : MxParam) (a b : List Int),
    a.length = b.length →
    mxAccInt x a b = ((a.zip b).map fun (y : Int × Int) => y.1 * y.2).sum - x.za * b.sum - x.zb * a.sum + a.length * x.za * x.zb + signed 32 x.bias) ∧
  (∀ (x : MxParam) (fa fb : Nat) (a b : List Int),
    fa < 4 →
    fb < 4 →
    a.length = b.length →
    a.length ≤ 32768 →
    ((∀ v ∈ a, fmtLo fa ≤ v ∧ v ≤ fmtHi fa)) →
    ((∀ v ∈ b, fmtLo fb ≤ v ∧ v ≤ fmtHi fb)) →
    fmtLo fa ≤ x.za ∧ x.za ≤ fmtHi fa →
    fmtLo fb ≤ x.zb ∧ x.zb ≤ fmtHi fb →
    (((a.zip b).map fun (y : Int × Int) => y.1 * y.2).sum).natAbs ≤ 2130739200 ∧ (mxAccInt x a b - signed 32 x.bias).natAbs ≤ 2130739200) ∧
  (∀ (even : Bool) (r : Int) (n : Nat),
    mxRound even r 0 = r ∧ (0 < n → mxRound false r n = (r + 2 ^ (n - 1)) / 2 ^ n) ∧ (0 < n →
    2 ^ (n - 1) < r - r / 2 ^ n * 2 ^ n → mxRound true r n = r / 2 ^ n + 1) ∧ (0 < n → r - r / 2 ^ n * 2 ^ n = 2 ^ (n - 1) →
    (r / 2 ^ n) % 2 = 1 → mxRound true r n = r / 2 ^ n + 1) ∧ (0 < n → r - r / 2 ^ n * 2 ^ n < 2 ^ (n - 1) →
    mxRound true r n = r / 2 ^ n) ∧ (0 < n → r - r / 2 ^ n * 2 ^ n = 2 ^ (n - 1) → (r / 2 ^ n) % 2 = 0 →
    mxRound true r n = r / 2 ^ n)) ∧
  (∀ (x : MxParam) (a b : List Int) (c : Nat),
    c < 6 →
    x.fo = mxOutFmt c →
    x.intOut = true →
    decodeI x.fo (mxElemInt x a b) = max (fmtLo x.fo) (min (fmtHi x.fo) (mxRound x.even (mxAccInt x a b * x.mult) x.shift + x.zout)) ∧
    (c = 5 → x.mult = 1 → x.shift = 0 → x.zout = 0 → decodeI x.fo (mxElemInt x a b) = max (-2147483648) (min 2147483647 (mxAccInt x a b))))

/-- In an integer CT the arithmetic operations clamp the exact result and the others are exact.
ADD, SUB, MUL, ABS and NEG give the exact result clamped to the range of CT; AND, OR, XOR act on the 32 bits, and
CMPGT, CMPEQ, MAX, MIN and RELU are exact.
Cites R290 (stated, tier 2). -/
def Obligations.VectorIntegersAreExactAndClamped : Prop :=
  ∀ (ct : Nat) (a b : Int),
    (ct = 8 ∨ ct = 9) →
    fmtLo ct ≤ a ∧ a ≤ fmtHi ct →
    fmtLo ct ≤ b ∧ b ≤ fmtHi ct →
    (veOpI ct 1 a b).1 = max (fmtLo ct) (min (fmtHi ct) (a + b)) ∧ (veOpI ct 2 a b).1 = max (fmtLo ct) (min (fmtHi ct) (a - b)) ∧
    (veOpI ct 3 a b).1 = max (fmtLo ct) (min (fmtHi ct) (a * b)) ∧ (veOpI ct 0x20 a b).1 = min (fmtHi ct) (a.natAbs : Int) ∧
    (veOpI ct 0x21 a b).1 = min (fmtHi ct) (-a) ∧ (veOpI ct 9 a b).1 = (BitVec.ofInt 32 a &&& BitVec.ofInt 32 b).toInt ∧
    (veOpI ct 0x0A a b).1 = (BitVec.ofInt 32 a ||| BitVec.ofInt 32 b).toInt ∧ (veOpI ct 0x0B a b).1 = (BitVec.ofInt 32 a ^^^ BitVec.ofInt 32 b).toInt ∧
    (veOpI ct 7 a b).1 = (if b < a then 1 else 0) ∧ (veOpI ct 8 a b).1 = (if a = b then 1 else 0) ∧
    (veOpI ct 5 a b).1 = max a b ∧ (veOpI ct 6 a b).1 = min a b ∧ (veOpI ct 0x22 a b).1 = max a 0

/-- A matrix, vector or reduction descriptor writes only its output, and its ticket completes, or its docent faults.
For the launch that the engine's arbiter has granted, on an error-free SRAM. MATRIX_DESCRIPTOR_DONE runs the tiles and
completes the ticket; a bad column entry or an uncorrectable word ends the descriptor and faults the docent; a buffer
error is counted with its granule and quarantines the unit. VECTOR_DESCRIPTOR_DONE and REDUCTION_DESCRIPTOR_DONE write the results, then the flag word if
enabled, and complete the ticket; an uncorrectable input faults the docent. No byte of scratchpad outside the output
region of the descriptor is written. DUPLICATE_VERDICT takes the oldest pass the checker holds: an agreement marks its
request as checked unless a verdict of it differed, a product whose CRC-64 is not the origin's is a mismatch, which raises the alarm, aborts the request if it is still there, and counts at both units,
the third of which quarantines, and a check accumulator in error quarantines the checker. MISMATCH_DECAY takes one
from a count above 0.
Cites R249, R259, R260, R261, R292, R295, R296, R302, R376, R378, R381, R383 (derived, tier 2). -/
def Obligations.EnginesCompleteTheirDescriptors : Prop :=
  (∀ (unit : Fin 40) (l : Launch) (x : State) (s : State),
    granted s (.mu unit) = some l →
    mxRun s (docHalf s l.doc) l = (x, none) →
    mxOverlap l.desc = false →
    l.dirty = false →
    exec (.matrixDescriptorDone unit .clean .clean) s = .next (ticketDone (endBurst x (.mu unit)) l.doc l.ticket)) ∧
  (∀ (unit : Fin 40) (l : Launch) (x : State) (f : Byte × Nat) (s : State),
    granted s (.mu unit) = some l →
    mxRun s (docHalf s l.doc) l = (x, some f) →
    mxOverlap l.desc = false →
    l.dirty = false →
    exec (.matrixDescriptorDone unit .clean .clean) s = .next (launchFail (endBurst x (.mu unit)) l f.1 (l.detail (endBurst x (.mu unit)) f.2))) ∧
  (∀ (unit : Fin 40) (l : Launch) (n : Nat) (bad : Sram) (s : State),
    granted s (.mu unit) = some l →
    exec (.matrixDescriptorDone unit (.bad n) bad) s = .next (quarantine (sramUE s (unit.val / 5) stMatrix n) unit stMatrix)) ∧
  (∀ (cell : Cell) (l : Launch) (x : VecRun) (s : State),
    granted s (.ve cell) = some l →
    veRun s (docHalf s l.doc) l = x →
    x.bad = false →
    veOverlap l.desc = false →
    l.dirty = false →
    exec (.vectorDescriptorDone cell .clean .clean) s = .next (ticketDone (if veFlagsEn l.desc then spWrite (endBurst x.s l.eng) (docHalf s l.doc) (veFlags l.desc) (leBytes 4 x.flags) (some (l.doc.val, l.ticket)) else endBurst x.s l.eng) l.doc l.ticket)) ∧
  (∀ (cell : Cell) (l : Launch) (x : VecRun) (s : State),
    granted s (.ru cell) = some l →
    ruRun s (docHalf s l.doc) l = x →
    x.bad = false →
    ruOverlap l.desc = false →
    l.dirty = false →
    exec (.reductionDescriptorDone cell .clean .clean) s = .next (ticketDone (if ruFlagsEn l.desc then spWrite (endBurst x.s l.eng) (docHalf s l.doc) (ruFlags l.desc) (leBytes 4 x.flags) (some (l.doc.val, l.ticket)) else endBurst x.s l.eng) l.doc l.ticket)) ∧
  (∀ (cell : Cell) (l : Launch) (x : VecRun) (s : State),
    granted s (.ve cell) = some l →
    veRun s (docHalf s l.doc) l = x →
    x.bad = true →
    veOverlap l.desc = false →
    l.dirty = false →
    exec (.vectorDescriptorDone cell .clean .clean) s = .next (launchFail (endBurst x.s l.eng) l rUNCORRECTABLE_MEMORY (l.detail (endBurst x.s l.eng) 0))) ∧
  (∀ (h a : Nat) (l : Launch) (s : State),
    ((∀ x ∈ (mxOutput l.desc).runs, a < spBase h + x.1 ∨ spBase h + x.1 + x.2 ≤ a) → Tbl.get 0#8 (mxRun s h l).1.sp a = Tbl.get 0#8 s.sp a) ∧
    ((∀ x ∈ (veOutput l.desc).runs, a < spBase h + x.1 ∨ spBase h + x.1 + x.2 ≤ a) → Tbl.get 0#8 (veRun s h l).s.sp a = Tbl.get 0#8 s.sp a) ∧
    (ruOp l.desc ≤ 5 → (∀ x ∈ (ruOutput l.desc).runs, a < spBase h + x.1 ∨ spBase h + x.1 + x.2 ≤ a) →
    Tbl.get 0#8 (ruRun s h l).s.sp a = Tbl.get 0#8 s.sp a)) ∧
  (∀ (unit : Fin 40) (q : Dup) (s : State),
    (s.dups.find? (fun q => q.checker == unit.val) = some q) →
    exec (.duplicateVerdict unit .agrees) s = .next ({ s with dups := s.dups.erase q }.updReq q.req fun r => { r with dup := !r.dupBad })) ∧
  (∀ (unit : Fin 40) (q : Dup) (product : Bytes) (s : State),
    (s.dups.find? (fun q => q.checker == unit.val) = some q) →
    crc64 product = q.digest →
    exec (.duplicateVerdict unit (.product product)) s = exec (.duplicateVerdict unit .agrees) s) ∧
  (∀ (unit : Fin 40) (q : Dup) (product : Bytes) (s : State),
    (s.dups.find? (fun q => q.checker == unit.val) = some q) →
    crc64 product ≠ q.digest →
    s.findReq q.req = none →
    exec (.duplicateVerdict unit (.product product)) s = .next (countMismatch (countMismatch (alarmCode ({ s with dups := s.dups.erase q }.updWing q.wing fun w => { w with dupMismatch := satInc w.dupMismatch }) 0x0302 q.wing (unitDie q.origin) rDUPLICATE_MISMATCH q.origin q.checker q.seq.toNat 0) q.origin) q.checker)) ∧
  (∀ (unit : Fin 40) (q : Dup) (n : Nat) (s : State),
    (s.dups.find? (fun q => q.checker == unit.val) = some q) →
    exec (.duplicateVerdict unit (.bad n)) s = .next (quarantine (sramUE { s with dups := s.dups.erase q } (unit.val / 5) stCheck n) unit stCheck)) ∧
  (∀ (u : Nat) (s : State),
    ((s.unit u).mismatches < 2 → countMismatch s u = s.setUnit u { s.unit u with mismatches := (s.unit u).mismatches + 1 }) ∧
    (2 ≤ (s.unit u).mismatches → countMismatch s u = quarantine (s.setUnit u { s.unit u with mismatches := 3 }) u 0xFF)) ∧
  (∀ (unit : Fin 40) (s : State),
    exec (.mismatchDecay unit) s = .next (s.setUnit unit { s.unit unit with mismatches := (s.unit unit).mismatches - 1 }))

/-- Streams move tiles, halt and resume; checkpoints suspend a lent request and restore it.
For the stream whose docent holds the engine. TILE_DELIVERED moves the rest of the tile and counts it; a move that
stops keeps its place, and fails the stream for what cannot be had. DELIVERED rises by one, and CONSUMED with it for a
linear stream. STREAM_DESCRIPTOR_DONE after the last tile completes the ticket. A SYNC within its interval whose gates
hold takes its tiles and restarts the interval and the watchdog; one past its interval overruns: the docent faults
with DEADLINE_MISSED. SCHEDULE_INTERVAL_EXPIRY at a gate and WCET_EXPIRY before every END overrun with kinds 2 and 3.
BUBBLE_STARTUP_TIMEOUT closes the start-up window. STREAM_PAGE_FAULT of a lent wing's stream delivers what lies before
the absent page, halts it, stops the request's clocks at its first halt, and asks for the page.
CHECKPOINT_STOP_TIMEOUT aborts a request whose docents have not stopped or whose program has no schedule point, with
its alarm and a Curator record. CHECKPOINT_COPY_DONE copies
each half-cell's scratchpad below SCRATCH_BYTES to a slot of its own, and takes the request's work from the queues;
with too few slots it is aborted. A bad word in the copy fails the request (the model's reading, log entry 67).
CHECKPOINT_RESUME of the wing's oldest suspended request that fits restores it on idle half-cells and lets its docents
go on; one whose checkpoint's keys are gone completes with KEY_MISSING. The restored half-cell holds the checkpoint's
bytes below SCRATCH_BYTES and its other bytes as before.
Cites R319, R321, R322, R327, R329, R331, R334, R335, R336, R337, R338, 10_scratchpad_streams.md (derived, tier 2). -/
def Obligations.StreamsAndCheckpoints : Prop :=
  (∀ (eng : EngIx) (hm : HostMem) (l : Launch) (wx : WingIx) (m : Moved) (s : State),
    granted s (.strm eng) = some l →
    l.halted = false →
    l.tile < stTiles l.desc →
    ringFree (s.doc l.doc) eng l.desc = true →
    ckptHeld s l.req = false →
    launchWing s l = some wx →
    moveTile (prefetch s eng l wx) eng l wx hm = m →
    m.stop = none →
    exec (.tileDelivered eng hm) s = .next (countTile m.s eng l)) ∧
  (∀ (eng : EngIx) (hm : HostMem) (l : Launch) (wx : WingIx) (m : Moved) (x : Access Unit) (s : State),
    granted s (.strm eng) = some l →
    l.halted = false →
    l.tile < stTiles l.desc →
    ringFree (s.doc l.doc) eng l.desc = true →
    ckptHeld s l.req = false →
    launchWing s l = some wx →
    moveTile (prefetch s eng l wx) eng l wx hm = m →
    m.stop = some x →
    exec (.tileDelivered eng hm) s = .next (moveEnd m l wx)) ∧
  (∀ (e : Nat) (l : Launch) (s : State),
    (s.doc l.doc).stall = .none →
    ((countTile s e l).doc l.doc).deliveredAt (engNo e) = (s.doc l.doc).deliveredAt (engNo e) + 1 ∧
    ((countTile s e l).doc l.doc).consumedAt (engNo e) = (if stRing l.desc = 0 then (s.doc l.doc).consumedAt (engNo e) + 1 else (s.doc l.doc).consumedAt (engNo e)) ∧
    (countTile s e l).sp = s.sp) ∧
  (∀ (eng : EngIx) (l : Launch) (s : State),
    granted s (.strm eng) = some l →
    stTiles l.desc ≤ l.tile →
    l.dirty = false →
    stOverlap l.desc = false →
    exec (.streamDescriptorDone eng) s = .next (ticketDone (endBurst s (.strm eng)) l.doc l.ticket)) ∧
  (∀ (s : State) (d i : Nat),
    stopping s ((s.doc d).req.getD 0) = false →
    clocksStopped s ((s.doc d).req.getD 0) = false →
    (s.doc d).req ≠ none →
    s.now - (s.doc d).intervalStart ≤ ptInterval ((s.doc d).sched.getD i []) →
    ((∀ k, k < 8 → ptGate ((s.doc d).sched.getD i []) k = true → ptNeed ((s.doc d).sched.getD i []) k ≤ (s.doc d).available k)) →
    ((∀ k, k < 8 → ptCons ((s.doc d).sched.getD i []) k = true → ptTake ((s.doc d).sched.getD i []) k ≤ (s.doc d).available k)) →
    ∃ x, sync s d i = docNext (s.setDoc d x) d ∧ x.intervalStart = s.now ∧ x.dogStart = s.now ∧
    (∀ k, k < 8 → x.consumedAt k = (s.doc d).consumedAt k + (if ptCons ((s.doc d).sched.getD i []) k then BitVec.ofNat 32 (ptTake ((s.doc d).sched.getD i []) k) else 0)) ∧
    x = { s.doc d with consumed := x.consumed, gated := x.gated, intervalStart := s.now, dogStart := s.now, stall := .none }) ∧
  (∀ (s : State) (d i : Nat),
    stopping s ((s.doc d).req.getD 0) = false →
    clocksStopped s ((s.doc d).req.getD 0) = false →
    (s.doc d).req ≠ none →
    ptInterval ((s.doc d).sched.getD i []) < s.now - (s.doc d).intervalStart →
    sync s d i = overrun s d 1 i) ∧
  (∀ (doc : DocIx) (i id : Nat) (s : State),
    syncPoint (s.doc doc) = some i →
    (s.doc doc).req = some id →
    clocksStopped s id = false →
    (s.doc doc).stopped = false →
    (s.doc doc).state = .running →
    exec (.scheduleIntervalExpiry doc) s = .next (overrun s doc 2 i)) ∧
  (∀ (req : Nat) (r : Req) (d : Nat) (rest : List Nat) (s : State),
    s.findReq req = some r →
    r.phase = .running →
    clocksStopped s req = false →
    r.ended = false →
    notEnded s req = d :: rest →
    exec (.wcetExpiry req) s = .next (overrun s d 3 0)) ∧
  (∀ (s : State) (d kind point : Nat) (id : Nat) (r : Req),
    (s.doc d).fault = none →
    (s.doc d).req = some id →
    s.findReq id = some r →
    overrun s d kind point = docFaultWith (s.updWing r.wing fun w => { w with overruns := satInc w.overruns }) d rDEADLINE_MISSED (wordOffset (s.doc d).pc) (BitVec.ofNat 32 (kind * 2 ^ 28 + point * 65536 + docCell d * 4096 + docPos d * 256 + (s.doc d).rank % 256))) ∧
  (∀ (wing : WingIx) (s : State),
    exec (.bubbleStartupTimeout wing) s = .next (s.setWing wing { s.wing wing with bubStart := 0 })) ∧
  (∀ (eng : EngIx) (hm : HostMem) (l : Launch) (wx : WingIx) (page f : Nat) (hf : f < 256) (m : Moved) (s : State),
    granted s (.strm eng) = some l →
    launchWing s l = some wx →
    absentPage s eng l wx = some page →
    s.hostFn wx = some f →
    l.halted = false →
    isLent s wx = true →
    priEnabled s f = true →
    ringFree (s.doc l.doc) eng l.desc = true →
    ckptHeld s l.req = false →
    moveBefore s eng l wx hm page = m →
    m.stop = none →
    exec (.streamPageFault eng hm) s = .next (haltCheck (priAsk (((stopClocks m.s l.req).updLaunch l fun x => { x with byte_ := m.done, halted := true }).updWing wx fun w => { w with halts := satInc w.halts }) wx ⟨f, hf⟩ (page * 4096) (strmReader eng) 0) l.req)) ∧
  (∀ (req : Nat) (r : Req) (s : State),
    s.findReq req = some r →
    r.ckptReq = true →
    r.isDone = false →
    r.phase ≠ .suspended →
    ckptStopped s req = false →
    exec (.checkpointStopTimeout req) s = .next (curatorLog (alarmCode (retireAll (abortStale s r.id)) 0x0102 r.wing 16 rSTALE_BINDING r.seq.toNat r.que 0 0) r.wing r.que 0)) ∧
  (∀ (req : Nat) (r : Req) (s : State),
    s.findReq req = some r →
    r.ckptReq = true →
    r.isDone = false →
    r.phase ≠ .suspended →
    reqDocents s req ≠ [] →
    ckptStopped s req = true →
    engineBusy s req = false →
    (s.dups.any (fun q => q.req == req) = false) →
    s.ckpts.length + r.halves.length ≤ 32 →
    copyBad s r = none →
    ∃ t, exec (.checkpointCopyDone req) s = .next t ∧ t.ckpts.length = s.ckpts.length + r.halves.length ∧
    (∀ c ∈ s.ckpts, c ∈ t.ckpts) ∧ (∀ (i : Nat) (h : HcIx), r.halves[i]? = some h → ∃ c ∈ t.ckpts, c.req = req ∧
    c.index = i ∧ ∀ a, a < r.scratch → Tbl.get 0#8 c.mem a = Tbl.get 0#8 s.sp (spBase h.val + a)) ∧
    (∀ l ∈ t.launches, l.req ≠ req) ∧ t.ckptCount = s.ckptCount + BitVec.ofNat 64 r.halves.length) ∧
  (∀ (req : Nat) (r : Req) (s : State),
    s.findReq req = some r →
    r.ckptReq = true →
    r.isDone = false →
    r.phase ≠ .suspended →
    reqDocents s req ≠ [] →
    ckptStopped s req = true →
    engineBusy s req = false →
    (s.dups.any (fun q => q.req == req) = false) →
    32 < s.ckpts.length + r.halves.length →
    exec (.checkpointCopyDone req) s = .next (curatorLog (alarmCode (retireAll (abortStale s r.id)) 0x0102 r.wing 16 rSTALE_BINDING r.seq.toNat r.que 0 0) r.wing r.que 0)) ∧
  (∀ (req : Nat) (r : Req) (h o : Nat) (s : State),
    s.findReq req = some r →
    r.ckptReq = true →
    r.isDone = false →
    r.phase ≠ .suspended →
    reqDocents s req ≠ [] →
    ckptStopped s req = true →
    engineBusy s req = false →
    (s.dups.any (fun q => q.req == req) = false) →
    s.ckpts.length + r.halves.length ≤ 32 →
    copyBad s r = some (h, o) →
    exec (.checkpointCopyDone req) s = .next (abortPinned (sramUE s (h / 2) stScratch (o / 8)) req rUNCORRECTABLE_MEMORY 0xFFFFFFFF 0)) ∧
  (∀ (wing : WingIx) (r : Req) (s : State),
    (((s.reqs.filter fun r => r.wing.val == wing.val && decide (r.phase = .suspended)).find? fun r => decide (r.needHalf ≤ (idleHalves s wing r.reduced).length)) = some r) →
    s.holderHub ≠ none →
    ((s.ckpts.any fun c => c.req == r.id && c.root != wingRoot s wing) = false) →
    exec (.checkpointResume wing) s = .next (resumeDocents ((checkpointRestore s r ((idleHalves s wing r.reduced).take r.needHalf)).updWing wing fun w => { w with bubRecover := true }) r.id)) ∧
  (∀ (wing : WingIx) (r : Req) (s : State),
    (((s.reqs.filter fun r => r.wing.val == wing.val && decide (r.phase = .suspended)).find? fun r => decide (r.needHalf ≤ (idleHalves s wing r.reduced).length)) = some r) →
    s.holderHub ≠ none →
    ((s.ckpts.any fun c => c.req == r.id && c.root != wingRoot s wing) = true) →
    exec (.checkpointResume wing) s = .next (abortPinned s r.id rKEY_MISSING 0xFFFFFFFF 0)) ∧
  (∀ (s : State) (r : Req) (h : Nat) (c : Ckpt),
    ((s.ckpts.filter fun c => c.req == r.id) = [c]) →
    c.index = 0 →
    ((∀ x ∈ c.mem, x.1 < r.scratch)) →
    c.mem.wf = true →
    (∀ a, a < r.scratch → Tbl.get 0#8 (checkpointRestore s r [h]).sp (spBase h + a) = Tbl.get 0#8 c.mem a) ∧
    (∀ a, a < spBase h ∨ spBase h + r.scratch ≤ a → Tbl.get 0#8 (checkpointRestore s r [h]).sp a = Tbl.get 0#8 s.sp a) ∧
    (∀ x ∈ (checkpointRestore s r [h]).ckpts, x.req ≠ r.id))

/-- A DRAM line returns zero, its data or an error as R348 orders; a write replaces or merges; scrub poisons; keys roll
over.
For a line below 384 GiB that is no line of a structure in extent 47 whose bytes the spec gives (log entry 72), while
the Vault is not in ERROR; above, the command stops with a fault of its own, as the
address does not exist. A read of a line of another generation answers 64 zeros; of a written line answers its 64
bytes, a corrected error being reported; and of a poisoned or uncorrectable line, or one whose tag is wrong, answers
an error and leaves it poisoned. A line of the accession log or of the program store reads as that structure. A full-line write replaces the line under the extent's generation and phase, with
count + 1 or 1; a smaller one to a written line changes its own bytes only, and one to a poisoned line is dropped and
reported. PATROL_SCRUB poisons what it cannot correct, and reports what it corrects in a written line.
ROLLOVER_KEY_LOADED puts the next key into the other slot and turns the phase; ROLLOVER_KEY_TIMEOUT raises one alarm;
ROLLOVER_SWEEP_DONE destroys the old key. BANK_REFRESH puts the stack's rate in force at the bank.
Cites R341, R343, R346, R347, R348, R349, R374, R470, 11_memory_translation.md (derived, tier 2). -/
def Obligations.DramLinesAreReadWrittenAndScrubbed : Prop :=
  (∀ (addr : BitVec 39) (errs : Fin 3) (tagOk : Bool) (data : Bytes) (s : State),
    dramSize ≤ addr.toNat →
    exec (.dramLineRead addr errs tagOk) s = .fault .noDram ∧ exec (.dramLineWrite addr data errs) s = .fault .noDram ∧
    exec (.patrolScrub addr errs) s = .fault .noDram) ∧
  (∀ (addr : BitVec 39) (tagOk : Bool) (errs : Fin 3) (s : State),
    addr.toNat < dramSize →
    s.vlt.mode ≠ .error →
    errs.val ≠ 2 →
    structLine s addr.toNat = none →
    (s.line (lineOf addr.toNat)).bad ≠ .uncorrectable →
    (s.line (lineOf addr.toNat)).gen ≠ (s.ext (extOf addr.toNat)).gen →
    exec (.dramLineRead addr errs tagOk) s = .next (s.emit (.dramLine (lineOf addr.toNat * 64) (some (List.replicate 64 0#8))))) ∧
  (∀ (addr : BitVec 39) (errs : Fin 3) (s : State),
    addr.toNat < dramSize →
    s.vlt.mode ≠ .error →
    errs.val ≠ 2 →
    structLine s addr.toNat = none →
    lineFound s addr.toNat = .data →
    exec (.dramLineRead addr errs true) s = .next ((if errs.val = 1 then reportCE s addr.toNat else s).emit (.dramLine (lineOf addr.toNat * 64) (some (s.dram.read (lineOf addr.toNat * 64) 64))))) ∧
  (∀ (addr : BitVec 39) (errs : Fin 3) (tagOk : Bool) (s : State),
    addr.toNat < dramSize →
    s.vlt.mode ≠ .error →
    (lineFound s addr.toNat = .bad ∨ (errs.val = 2 ∧ (s.line (lineOf addr.toNat)).bad ≠ .poison) ∨ (tagOk = false ∧
    lineFound s addr.toNat = .data)) →
    structLine s addr.toNat = none →
    exec (.dramLineRead addr errs tagOk) s = .next ((poison s addr.toNat).emit (.dramLine (lineOf addr.toNat * 64) none))) ∧
  (∀ (addr : BitVec 39) (tagOk : Bool) (b : Bytes) (s : State),
    addr.toNat < dramSize →
    s.vlt.mode ≠ .error →
    structLine s addr.toNat = some b →
    exec (.dramLineRead addr 0 tagOk) s = .next (s.emit (.dramLine (lineOf addr.toNat * 64) (some b)))) ∧
  (∀ (a : Nat) (s : State),
    ((s.line (lineOf a)).bad ≠ .poison ∨ (s.line (lineOf a)).gen ≠ (s.ext (extOf a)).gen) →
    ((poison s a).line (lineOf a)) = { s.line (lineOf a) with bad := .poison, gen := (s.ext (extOf a)).gen } ∧
    (∀ k, k ≠ lineOf a → (poison s a).line k = s.line k) ∧ (poison s a).dram = s.dram) ∧
  (∀ (addr : BitVec 39) (data : Bytes) (errs : Fin 3) (s : State),
    addr.toNat < dramSize →
    s.vlt.mode ≠ .error →
    unused47 addr.toNat = false →
    addr.toNat % 64 = 0 →
    data.length = 64 →
    nextCount s addr.toNat < 2 ^ 31 - 1 →
    ∃ t, exec (.dramLineWrite addr data errs) s = .next t ∧ t.dram = s.dram.write addr.toNat data ∧
    (∀ a, a < addr.toNat ∨ addr.toNat + 64 ≤ a → Tbl.get 0#8 t.dram a = Tbl.get 0#8 s.dram a) ∧
    t.line (lineOf addr.toNat) = { gen := (s.ext (extOf addr.toNat)).gen, phase := (s.ext (extOf addr.toNat)).phase, count := nextCount s addr.toNat, bad := .good } ∧
    (∀ k, k ≠ lineOf addr.toNat → t.line k = s.line k) ∧ t = { s with dram := t.dram, lines := t.lines, extents := t.extents, dramStacks := t.dramStacks } ∧
    (nextCount s addr.toNat ≠ 2 ^ 30 → t = { s with dram := t.dram, lines := t.lines })) ∧
  (∀ (addr : BitVec 39) (data : Bytes) (s : State),
    addr.toNat < dramSize →
    s.vlt.mode ≠ .error →
    unused47 addr.toNat = false →
    data ≠ [] →
    addr.toNat % 64 + data.length < 64 →
    nextCount s addr.toNat < 2 ^ 31 - 1 →
    lineFound s addr.toNat = .data →
    ∃ t, exec (.dramLineWrite addr data 0) s = .next t ∧ t.dram.read addr.toNat data.length = data ∧
    (∀ a, a < addr.toNat ∨ addr.toNat + data.length ≤ a → Tbl.get 0#8 t.dram a = Tbl.get 0#8 s.dram a) ∧
    lineFound t addr.toNat = .data) ∧
  (∀ (addr : BitVec 39) (data : Bytes) (s : State),
    addr.toNat < dramSize →
    s.vlt.mode ≠ .error →
    unused47 addr.toNat = false →
    data ≠ [] →
    addr.toNat % 64 + data.length < 64 →
    nextCount s addr.toNat < 2 ^ 31 - 1 →
    lineFound s addr.toNat = .bad →
    (s.line (lineOf addr.toNat)).bad = .poison →
    exec (.dramLineWrite addr data 0) s = .next (reportUE s addr.toNat)) ∧
  (∀ (addr : BitVec 39) (errs : Fin 3) (s : State),
    addr.toNat < dramSize →
    s.vlt.mode ≠ .error →
    (lineFound s addr.toNat = .bad ∨ (errs.val = 2 ∧ (s.line (lineOf addr.toNat)).bad ≠ .poison)) →
    exec (.patrolScrub addr errs) s = .next (poison s addr.toNat)) ∧
  (∀ (addr : BitVec 39) (s : State),
    addr.toNat < dramSize →
    s.vlt.mode ≠ .error →
    lineFound s addr.toNat = .data →
    exec (.patrolScrub addr 1) s = .next (reportCE s addr.toNat)) ∧
  (∀ (ext : ExtIx) (s : State),
    (s.ext ext).rolling = true →
    (s.ext ext).keyLoaded = false →
    s.lineWaits = [] →
    s.bar2Waits = [] →
    ∃ t, exec (.rolloverKeyLoaded ext) s = .next t ∧ t = { s with extents := t.extents } ∧
    (∀ k, k ≠ ext.val → t.ext k = s.ext k) ∧ (t.ext ext).roll = (s.ext ext).roll + 1 ∧ (t.ext ext).phase = !(s.ext ext).phase ∧
    (t.ext ext).keyLoaded = true ∧ (if (t.ext ext).phase then (t.ext ext).key1 else (t.ext ext).key0) = currentKey t ext) ∧
  (∀ (ext : ExtIx) (s : State),
    (s.ext ext).rolling = true →
    (s.ext ext).keyLoaded = false →
    (s.ext ext).keyLate = false →
    exec (.rolloverKeyTimeout ext) s = .next (alarm (s.setExt ext { s.ext ext with keyLate := true }) 0x0204 (((s.ext ext).owner.map (·.val)).getD 0xFF) (8 + ext.val / 48) ext 0 0 0)) ∧
  (∀ (ext : ExtIx) (s : State),
    (s.ext ext).rolling = true →
    (s.ext ext).keyLoaded = true →
    Tbl.wf LineMeta.init s.lines = true →
    ∃ t, exec (.rolloverSweepDone ext) s = .next t ∧ (t.ext ext).rolling = false ∧ (t.ext ext).keyLoaded = false ∧
    (if (s.ext ext).phase then (t.ext ext).key0 else (t.ext ext).key1) = none ∧ (∀ k, k ≠ ext.val →
    t.ext k = s.ext k) ∧ t.dram = s.dram ∧ (∀ k, lineFound s (k * 64) = .data → lineFound t (k * 64) = .data)) ∧
  (∀ (stack : StackIx) (pc : Fin 32) (bank : Fin 64) (s : State),
    exec (.bankRefresh stack pc bank) s = .next (s.setStack stack { s.stack stack with refreshed := Tbl.set 0 (s.stack stack).refreshed (pc.val * 64 + bank.val) (s.stack stack).refresh }))

/-- A walk caches its leaf, TRANSLATION_SYNC and invalidations drop entries, and the host's answers reach those that wait.
TRANSLATION_SYNC drops the wing's cached translations that meet its ranges, or all, and its stored images, and answers
the generation. WALK_COMPLETE leaves what the walk cached and counted; a target outside the wing is one violation of
kind 3. An address that is translated to device memory lies in an extent of the wing, outside extent 47 and table
storage. A cached translation serves its wing, its place and its binding generation only. ATS_INVALIDATE drops the
function's entries of the request's PASID that meet the range, from the ATS cache and the prefetch buffers, and completes. ATS_TRANSLATION_COMPLETION of
a page that was asked for ends the request and keeps the answer; a denied page of a submission ring puts its queue
into ERROR with TRANSLATION_MISSING. HOST_ERROR_COMPLETION puts the queue or update ring that read into ERROR, or
fails the image, stream or docent. PRI_RESPONSE 0 translates the page again for each reader that waits; 1, and
PRI_TIMEOUT, refuse it; 2 stops page requests of the function.
Cites R351, R354, R356, R357, R358, R359, R361, R362, R363, R364, R118, R226 (derived, tier 2). -/
def Obligations.TranslationsComeAndGo : Prop :=
  (∀ (fn : Fn) (hub : Hub) (tag : W32) (wing : Byte) (p : Bytes) (c : Cmd) (s : State),
    c = sentCmd s 0x0301 fn hub tag wing p →
    accepts s c →
    wing.toNat < 16 →
    fld (leAt p 6 1) 1 7 = 0 →
    zeroAt p 7 1 = true →
    bit (leAt p 6 1) 0 = (syncRanges p).isEmpty →
    ((∀ r ∈ syncRanges p, r.1 < 2 ^ 48 ∧ r.1 % 65536 = 0 ∧ r.2 % 65536 = 0 ∧ r.2 ≠ 0 ∧ r.1 + r.2 ≤ 2 ^ 48)) →
    BitVec.ofNat 32 (leAt p 0 4) ≠ 0 →
    ((s.wing wing.toNat).tsyncGen = 0 ∨ epPrec (s.wing wing.toNat).tsyncGen (BitVec.ofNat 32 (leAt p 0 4)) = true) →
    syncRunning s wing = false →
    exec (.translationSync fn hub tag wing p) s = .next (scpFinish ({ flushXlat s wing.toNat (fun a n => bit (leAt p 6 1) 0 || (syncRanges p).any fun r => decide (r.1 < a + n) && decide (a < r.1 + r.2)) with images := s.images.filter fun i => i.wing.val != wing.toNat }.updWing wing.toNat fun x => { x with tsyncGen := BitVec.ofNat 32 (leAt p 0 4) }) c rOK (leBytes 4 (BitVec.ofNat 32 (leAt p 0 4)).toNat))) ∧
  (∀ (loc : Fin 10) (wing : WingIx) (va : BitVec 48) (write : Bool) (s s1 : State) (x : Xlat),
    translate s (walkSite s loc wing) wing va.toNat write = (s1, x) →
    x ≠ .outside →
    exec (.walkComplete loc wing va write) s = .next (s1)) ∧
  (∀ (loc : Fin 10) (wing : WingIx) (va : BitVec 48) (write : Bool) (s s1 : State),
    translate s (walkSite s loc wing) wing va.toNat write = (s1, .outside) →
    exec (.walkComplete loc wing va write) s = .next (violate s1 (some wing.val) 3)) ∧
  (∀ (s : State) (site : Site) (wx : WingIx) (va : Nat) (write : Bool) (s1 : State) (a : Nat),
    translate s site wx va write = (s1, .dev a) →
    (s1.ext (extOf a)).owner = some wx ∧ isExt47 (extOf a) = false ∧ inTableStorage s1 a = false ∧
    a < dramSize) ∧
  (∀ (s : State) (site : Site) (w va : Nat) (x : TlbEntry),
    tlbHit s site w va = some x →
    x.loc = site.loc ∧ x.wing.val = w ∧ x.tag = site.tag ∧ x.page = va / x.size ∧
    (x ∈ s.tlb ∨ ∃ e, site.eng = some e ∧ x ∈ Tbl.get [] s.ahead e)) ∧
  (∀ (fn : Fn) (addr bytes : W64) (scope : AtsScope) (s : State),
    s.alive = true →
    s.dlActive = true →
    exec (.atsInvalidate fn addr bytes scope) s = .next ({ s with ats := s.ats.filter (fun e => !(e.fn == fn && decide (e.pasid = scope.pasid.map (fun (x : BitVec 20) => x.toNat)) && (scope.all || (decide (addr.toNat < (e.page + 1) * 4096) && decide (e.page * 4096 < addr.toNat + bytes.toNat))))), ahead := keepAhead s.ahead fun x => !aheadHit s fn addr bytes scope x }.emit (.atsInvalidated fn))) ∧
  (∀ (fn : Fn) (page : AtsPage) (rd wr need : Bool) (s : State) (q : QueIx),
    s.alive = true →
    ((s.atsReqs.any fun r => r.1 == fn && r.2.1 == page.page.toNat / 4096) = true) →
    (if need then wr else rd) = true →
    s.priReqs = [] →
    s.ats.length < 16384 →
    ∃ t, exec (.atsTranslationCompletion fn page rd wr need (.queue q)) s = .next t ∧ t = { s with atsReqs := t.atsReqs, ats := t.ats } ∧
    (∀ r ∈ t.atsReqs, r ∈ s.atsReqs ∧ ¬ (r.1 = fn ∧ r.2.1 = page.page.toNat / 4096)) ∧ ∃ e ∈ t.ats, e.fn = fn ∧
    e.page = page.page.toNat / 4096 ∧ e.dest = page.dest.toNat / 4096 ∧ e.rd = rd ∧ e.wr = wr) ∧
  (∀ (fn : Fn) (page : AtsPage) (s : State) (q : QueIx),
    s.alive = true →
    ((s.atsReqs.any fun r => r.1 == fn && r.2.1 == page.page.toNat / 4096) = true) →
    s.priReqs = [] →
    ((s.que q).state = .enabled ∨ (s.que q).state = .halted) →
    ∃ t, exec (.atsTranslationCompletion fn page false false false (.queue q)) s = .next t ∧
    (t.que q).state = .error ∧ (t.que q).reason = rTRANSLATION_MISSING ∧ (t.que q).check = 0 ∧
    (∀ k, k ≠ q.val → t.que k = s.que k)) ∧
  (∀ (q : QueIx) (poisoned : Bool) (s : State),
    ((s.que q).state = .enabled ∨ (s.que q).state = .halted) →
    exec (.hostErrorCompletion (.queue q) poisoned) s = .next (s.setQue q { s.que q with state := .error, reason := if poisoned then rUNCORRECTABLE_MEMORY else rTRANSLATION_MISSING, check := 0 })) ∧
  (∀ (w : WingIx) (c : CatIx) (poisoned : Bool) (s : State),
    (s.cat (catKey w c)).state = .enabled →
    exec (.hostErrorCompletion (.update w c) poisoned) s = .next (ringError s w c 0 (if poisoned then rUNCORRECTABLE_MEMORY else rTRANSLATION_MISSING))) ∧
  (∀ (fn : Fn) (page : BitVec 48) (r : PriReq) (s : State),
    ((s.priReqs.filter fun r => r.fn == fn && r.issued && !r.again && r.page.toNat / 4096 == page.toNat / 4096) = [r]) →
    exec (.priResponse fn page 0) s = .next (priSend (translateAgain s r))) ∧
  (∀ (fn : Fn) (page : BitVec 48) (r : PriReq) (s : State),
    ((s.priReqs.filter fun r => r.fn == fn && r.issued && !r.again && r.page.toNat / 4096 == page.toNat / 4096) = [r]) →
    exec (.priTimeout fn page) s = .next (priSend (pageRefused { s with priReqs := s.priReqs.filter fun x => !([r].contains x) } (page.toNat / 4096) r.who))) ∧
  (∀ (fn : Fn) (page : BitVec 48) (s : State),
    ((s.priReqs.any fun r => r.fn == fn && r.issued && !r.again && r.page.toNat / 4096 == page.toNat / 4096) = true) →
    ∃ t, exec (.priResponse fn page 2) s = .next t ∧ (t.fnSt fn).priStopped = true)

/-- BAR2 reaches the extents and scratchpads of the function's own wing, reads zero elsewhere, and counts the violation.
For an access that the device and the function's TDI accept, taken up to the end of its 4 KiB block. A read has no
effect while an earlier write of the function waits for a key. A write to an own
extent outside table storage writes device memory, and one to an own half-cell its scratchpad. A read answers the
bytes there. Anywhere else below the end a write is dropped and a read answers zero, and a violation of kind 0 is
counted; past the end nothing is reached. A VF writes no byte of device memory outside the extents of its wing.
Cites R365, R366, R367, R436, R480, 11_memory_translation.md (derived, tier 2). -/
def Obligations.Bar2ReachesOwnMemoryOnly : Prop :=
  (∀ (fn : Fn) (off : BitVec 39) (len : Fin 65) (data : Bytes) (tee : Bool) (s : State),
    s.alive = true →
    s.dlActive = true →
    memOpen s fn = true →
    (teeOnly s fn = false ∨ tee = true) →
    off.toNat < 0x6000000000 →
    s.vlt.mode ≠ .error →
    (bar2Target s off.toNat).2 = true →
    (∃ w, (bar2Target s off.toNat).1 = some w ∧ bar2Mine s fn w = true) →
    ∃ d, d = dramWrite s off.toNat (fitTo (min len.val (4096 - off.toNat % 4096)) data) ∧
    exec (.bar2Access fn true off len data tee) s = .next { d with bar2Waits := d.bar2Waits ++ ((d.lineWaits.drop s.lineWaits.length).map fun w => (fn, extOf w.1)) }) ∧
  (∀ (fn : Fn) (off : BitVec 39) (len : Fin 65) (data : Bytes) (tee : Bool) (s : State),
    portHeld s fn = true →
    exec (.bar2Access fn false off len data tee) s = .next s) ∧
  (∀ (fn : Fn) (off : BitVec 39) (len : Fin 65) (data : Bytes) (tee : Bool) (s : State),
    s.alive = true →
    s.dlActive = true →
    memOpen s fn = true →
    (teeOnly s fn = false ∨ tee = true) →
    0x6000000000 ≤ off.toNat →
    off.toNat < 0x6030000000 →
    (bar2Target s off.toNat).2 = true →
    (∃ w, (bar2Target s off.toNat).1 = some w ∧ bar2Mine s fn w = true) →
    exec (.bar2Access fn true off len data tee) s = .next (spWrite s ((off.toNat - 0x6000000000) / spSize) ((off.toNat - 0x6000000000) % spSize) (fitTo (min len.val (4096 - off.toNat % 4096)) data) none)) ∧
  (∀ (fn : Fn) (off : BitVec 39) (len : Fin 65) (data : Bytes) (tee : Bool) (s : State),
    s.alive = true →
    s.dlActive = true →
    memOpen s fn = true →
    portHeld s fn = false →
    (teeOnly s fn = false ∨ tee = true) →
    0x6000000000 ≤ off.toNat →
    off.toNat < 0x6030000000 →
    spBadAt s ((off.toNat - 0x6000000000) / spSize) ((off.toNat - 0x6000000000) % spSize) (min len.val (4096 - off.toNat % 4096)) = false →
    (bar2Target s off.toNat).2 = true →
    (∃ w, (bar2Target s off.toNat).1 = some w ∧ bar2Mine s fn w = true) →
    exec (.bar2Access fn false off len data tee) s = .next (s.emit (.bar2Return fn (spRead s ((off.toNat - 0x6000000000) / spSize) ((off.toNat - 0x6000000000) % spSize) (min len.val (4096 - off.toNat % 4096))) false))) ∧
  (∀ (fn : Fn) (off : BitVec 39) (len : Fin 65) (data : Bytes) (tee : Bool) (s : State),
    s.alive = true →
    s.dlActive = true →
    memOpen s fn = true →
    portHeld s fn = false →
    (teeOnly s fn = false ∨ tee = true) →
    off.toNat < 0x6030000000 →
    ((bar2Target s off.toNat).2 = false ∨ ∀ w, (bar2Target s off.toNat).1 = some w → bar2Mine s fn w = false) →
    exec (.bar2Access fn false off len data tee) s = .next ((violate s (bar2Victim s fn off.toNat) 0).emit (.bar2Return fn (List.replicate (min len.val (4096 - off.toNat % 4096)) 0#8) false))) ∧
  (∀ (fn : Fn) (off : BitVec 39) (len : Fin 65) (data : Bytes) (tee : Bool) (s : State),
    s.alive = true →
    s.dlActive = true →
    memOpen s fn = true →
    (teeOnly s fn = false ∨ tee = true) →
    off.toNat < 0x6030000000 →
    ((bar2Target s off.toNat).2 = false ∨ ∀ w, (bar2Target s off.toNat).1 = some w → bar2Mine s fn w = false) →
    exec (.bar2Access fn true off len data tee) s = .next (violate s (bar2Victim s fn off.toNat) 0)) ∧
  (∀ (fn : Fn) (off : BitVec 39) (len : Fin 65) (data : Bytes) (tee : Bool) (s : State),
    s.alive = true →
    s.dlActive = true →
    memOpen s fn = true →
    portHeld s fn = false →
    (teeOnly s fn = false ∨ tee = true) →
    0x6030000000 ≤ off.toNat →
    exec (.bar2Access fn false off len data tee) s = .next (s.emit (.bar2Return fn (List.replicate (min len.val (4096 - off.toNat % 4096)) 0#8) false))) ∧
  (∀ (fn : Fn) (w : WingIx) (off len : Nat) (s : State) (data : Bytes),
    s.fnWing fn = some w →
    fn ≠ 0 →
    off < 0x6000000000 →
    (s.ext (extOf off)).owner ≠ some w →
    (bar2Access s fn true off len data false).dram = s.dram ∧ (bar2Access s fn true off len data true).dram = s.dram)

/-- SPARE_SWAP puts a spare in or out of a unit's place, QUARANTINE_CLEAR returns a unit to service.
SPARE_SWAP in the direction 0 with a spare that is in service and not in use, and 1 for the position that the spare
serves; with no request on the half-cell it acts at once and else when its request ends. QUARANTINE_CLEAR of a
quarantined unit clears its quarantine and mismatch count; the unit waits to return while a request runs on its half-
cell, and returns at once otherwise.
Cites R34, R278, R383, R384, R385, 12_integrity.md (derived, tier 2). -/
def Obligations.UnitsAreSwappedAndCleared : Prop :=
  (∀ (fn : Fn) (hub : Hub) (tag : W32) (wing : Byte) (p : Bytes) (c : Cmd) (s : State) (u : Nat),
    c = sentCmd s 0x0804 fn hub tag wing p →
    accepts s c →
    wing = 0xFF#8 →
    leAt p 3 1 = 0 →
    leAt p 0 1 ≤ 1 →
    leAt p 1 1 ≤ 7 →
    leAt p 2 1 ≤ 3 →
    u = sparedUnit (leAt p 0 1) (leAt p 1 1) (leAt p 2 1) →
    spareTaken s u = false →
    (s.unit (spareOf u)).quarantined = false →
    exec (.spareSwap fn hub tag wing p) s = .next (scpFinish (swapNow (scpCommit s c) u true) c rOK ([]))) ∧
  (∀ (fn : Fn) (hub : Hub) (tag : W32) (wing : Byte) (p : Bytes) (c : Cmd) (s : State) (u : Nat),
    c = sentCmd s 0x0804 fn hub tag wing p →
    accepts s c →
    wing = 0xFF#8 →
    leAt p 3 1 = 1 →
    leAt p 0 1 ≤ 1 →
    leAt p 1 1 ≤ 7 →
    leAt p 2 1 ≤ 3 →
    u = sparedUnit (leAt p 0 1) (leAt p 1 1) (leAt p 2 1) →
    (s.unit (spareOf u)).subPos = some (leAt p 2 1) →
    (s.unit u).quarantined = false →
    exec (.spareSwap fn hub tag wing p) s = .next (scpFinish (swapNow (scpCommit s c) u false) c rOK ([]))) ∧
  (∀ (s : State) (u : Nat),
    u < 40 →
    u % 5 < 4 →
    (s.half (unitHalf u)).req = none →
    (s.half (unitHalf u)).held = false →
    (∀ k, k ≠ u → k ≠ spareOf u → (swapNow s u true).unit k = s.unit k ∧ (swapNow s u false).unit k = s.unit k) ∧
    (swapNow s u true).unit u = { s.unit u with replaced := true, swapPending := none } ∧
    (swapNow s u true).unit (spareOf u) = { s.unit (spareOf u) with subPos := some (u % 5), credit := 0 } ∧
    (swapNow s u false).unit u = { s.unit u with replaced := false, swapPending := none } ∧
    (swapNow s u false).unit (spareOf u) = { s.unit (spareOf u) with subPos := none, credit := 0 }) ∧
  (∀ (s : State) (u : Nat) (i : Bool),
    ((s.half (unitHalf u)).req ≠ none ∨ (s.half (unitHalf u)).held = true) →
    swapNow s u i = s.setUnit u { s.unit u with swapPending := some i }) ∧
  (∀ (fn : Fn) (hub : Hub) (tag : W32) (wing : Byte) (p : Bytes) (c : Cmd) (s : State),
    c = sentCmd s 0x0805 fn hub tag wing p →
    accepts s c →
    wing = 0xFF#8 →
    zeroAt p 3 1 = true →
    leAt p 0 1 ≤ 4 →
    (2 ≤ leAt p 0 1 → leAt p 2 1 = 0) →
    (leAt p 0 1 < 2 → leAt p 2 1 ≤ 4) →
    if leAt p 0 1 = 2 then leAt p 1 1 ≤ 15 else leAt p 1 1 ≤ 7 →
    (s.unit (clearUnit (leAt p 0 1) (leAt p 1 1) (leAt p 2 1))).quarantined = true →
    exec (.quarantineClear fn hub tag wing p) s = .next (scpFinish (unquarantine (scpCommit s c) (clearUnit (leAt p 0 1) (leAt p 1 1) (leAt p 2 1))) c rOK ([]))) ∧
  (∀ (u : Nat) (s : State),
    Tbl.wf UnitSt.init s.units = true →
    u < 112 →
    ((unquarantine s u).unit u).quarantined = false ∧ ((unquarantine s u).unit u).mismatches = 0 ∧
    ((unquarantine s u).unit u).returning = !unitFree s u ∧ (unquarantine s u).halfCells = s.halfCells ∧
    (unquarantine s u).reqs = s.reqs ∧ ∀ v, v ≠ u → (unquarantine s u).unit v = s.unit v)

/-- PAIR_CONFIGURE sets the pair and retrains, PAIR_LEASE moves the lease, PAIR_STATUS reports, PAIR_RESYNC and PAIR_RESET
act.
For a command that passes what every command shares. PAIR_CONFIGURE with well-formed entries, a pair key and no table
in a catalogue takes the settings, marks the archive and trains the link again. PAIR_LEASE renews (the holder, over
the link), acquires under the next even term with no commit in progress, or releases, tells the partner, and answers
term, holder and expiry; a unit that is not holder first asks its partner, which may have a commit in progress (the
message is the model's choice, log entry 76), and the command waits. PAIR_STATUS changes nothing and answers the link, the lease, the lanes and the offset.
PAIR_RESYNC of the holder starts the copy of each STALE catalogue and answers each one's state. PAIR_RESET of the
holder sends the level to the partner; PAIR_RESET_RECEIVE is a reset source.
Cites R394, R395, R400, R415, R419, R424, R426, R427, R429, R430, R92, 13_pair.md (derived, tier 2). -/
def Obligations.PairCommandsConfigureLeaseAndReset : Prop :=
  (∀ (fn : Fn) (hub : Hub) (tag : W32) (wing : Byte) (p : Bytes) (c : Cmd) (s : State),
    c = sentCmd s 0x0501 fn hub tag wing p →
    accepts s c →
    wing = 0xFF#8 →
    fld (leAt p 1 1) 2 6 = 0 →
    zeroAt p 44 20 = true →
    leAt p 0 1 ≤ 1 →
    ((∀ i, i < leAt p 2 2 → zeroAt p (67 + 4 * i) 1 = true)) →
    ((∀ e ∈ pairEntries p, e.1 ≤ 15 ∧ e.2.1 ≤ 7 ∧ (e.2.2 = 1 ∨ e.2.2 = 2))) →
    (bit (leAt p 1 1) 0 = true → BitVec.ofNat 32 (leAt p 4 4) ≠ 0) →
    (((pairEntries p).map fun e => (e.1, e.2.1)).Nodup) →
    ((∀ w c, holdsTable s w c = false)) →
    (bit (leAt p 1 1) 0 = true → s.par.pk ≠ none) →
    exec (.pairConfigure fn hub tag wing p) s = .next (scpFinish (retrain (archived (pairSettings (scpCommit s c) p))) c rOK ([]))) ∧
  (∀ (fn : Fn) (hub : Hub) (tag : W32) (wing : Byte) (p : Bytes) (c : Cmd) (s : State),
    c = sentCmd s 0x0502 fn hub tag wing p →
    accepts s c →
    wing = 0xFF#8 →
    zeroAt p 5 3 = true →
    leAt p 4 1 = 0 →
    BitVec.ofNat 32 (leAt p 0 4) = s.par.term →
    s.par.lease = .holder →
    linkUp s.par.link = true →
    s.par.compareDue = [] →
    exec (.pairLease fn hub tag wing p) s = .next (scpFinish (sendLease { s with par := { s.par with expiry := s.now + 200000000 } }) c rOK (leaseReply { s with par := { s.par with expiry := s.now + 200000000 } }))) ∧
  (∀ (fn : Fn) (hub : Hub) (tag : W32) (wing : Byte) (p : Bytes) (c : Cmd) (s : State),
    c = sentCmd s 0x0502 fn hub tag wing p →
    accepts s c →
    wing = 0xFF#8 →
    zeroAt p 5 3 = true →
    leAt p 4 1 = 1 →
    BitVec.ofNat 32 (leAt p 0 4) = s.par.term →
    s.par.lease ≠ .holder →
    linkUp s.par.link = true →
    ((s.par.entries.any fun e => (s.cat (catKey e.1 e.2.1)).commit.isSome) = false) →
    askRun s = none →
    canLog s fn →
    exec (.pairLease fn hub tag wing p) s = .next (inProgress s (pairSend s 0 .leaseAsk [s.par.term.toNat, b2n s.par.position, s.now + 200000000] []) c false [])) ∧
  (∀ (fn : Fn) (hub : Hub) (tag : W32) (wing : Byte) (p : Bytes) (c : Cmd) (s : State) (x : State),
    c = sentCmd s 0x0502 fn hub tag wing p →
    accepts s c →
    wing = 0xFF#8 →
    zeroAt p 5 3 = true →
    leAt p 4 1 = 1 →
    BitVec.ofNat 32 (leAt p 0 4) = s.par.term →
    s.par.lease = .holder →
    linkUp s.par.link = true →
    ((s.par.entries.any fun e => (s.cat (catKey e.1 e.2.1)).commit.isSome) = false) →
    askRun s = none →
    canLog s fn →
    s.par.compareDue = [] →
    (x = (scpCommit s c).updPar fun x => { x with term := nextEven x.term, lease := .holder, holderPos := x.position, expiry := s.now + 200000000 }) →
    x.par.compareDue = [] →
    exec (.pairLease fn hub tag wing p) s = .next (scpFinish (sendLease x) c rOK (leaseReply (sendLease x)))) ∧
  (∀ (fn : Fn) (hub : Hub) (tag : W32) (wing : Byte) (p : Bytes) (c : Cmd) (s : State) (x : State),
    c = sentCmd s 0x0502 fn hub tag wing p →
    accepts s c →
    wing = 0xFF#8 →
    zeroAt p 5 3 = true →
    leAt p 4 1 = 2 →
    BitVec.ofNat 32 (leAt p 0 4) = s.par.term →
    s.par.lease = .holder →
    canLog s fn →
    (x = (scpCommit s c).updPar fun x => { x with lease := .lapsed, expiry := 0 }) →
    x.par.compareDue = [] →
    exec (.pairLease fn hub tag wing p) s = .next (scpFinish (sendLease x) c rOK (leaseReply (sendLease x)))) ∧
  (∀ (fn : Fn) (hub : Hub) (tag : W32) (wing : Byte) (p : Bytes) (c : Cmd) (s : State),
    c = sentCmd s 0x0503 fn hub tag wing p →
    accepts s c →
    wing = 0xFF#8 →
    s.par.entries = [] →
    exec (.pairStatus fn hub tag wing p) s = .next (scpFinish (s) c rOK ([BitVec.ofNat 8 (linkCode s.par.link), BitVec.ofNat 8 (leaseCode s.par.lease), if holderNow s = 2 then 0xFF#8 else BitVec.ofNat 8 (holderNow s), BitVec.ofNat 8 (b2n s.par.declared + 2 * b2n s.par.aligned)] ++
    leBytes 4 s.par.term.toNat ++ leBytes 8 s.par.expiry ++ leBytes 2 s.par.die0.active ++
    leBytes 2 s.par.die1.active ++ [BitVec.ofNat 8 s.par.die0.spareUsed, BitVec.ofNat 8 s.par.die1.spareUsed] ++
    leBytes 2 0 ++ leBytes 4 (satInt32 s.par.timeOfs) ++ List.replicate 4 0#8))) ∧
  (∀ (fn : Fn) (hub : Hub) (tag : W32) (wing : Byte) (p : Bytes) (c : Cmd) (s : State),
    c = sentCmd s 0x0504 fn hub tag wing p →
    accepts s c →
    wing = 0xFF#8 →
    zeroAt p 2 2 = true →
    resyncEntries p ≠ [] →
    (resyncEntries p).length ≤ 128 →
    ((∀ e ∈ resyncEntries p, e.1 ≤ 15 ∧ e.2 ≤ 7 ∧ (s.cat (catKey e.1 e.2)).mode ≠ 0 ∧ ¬ ((s.cat (catKey e.1 e.2)).sync = 1 ∧
    (s.cat (catKey e.1 e.2)).isOpen = true))) →
    s.par.lease = .holder →
    linkUp s.par.link = true →
    longFull s = false →
    exec (.pairResync fn hub tag wing p) s = .next (scpFinish (((resyncEntries p).foldl resyncEntry (scpCommit s c, [])).1) c rOK (((resyncEntries p).foldl resyncEntry (scpCommit s c, [])).2))) ∧
  (∀ (fn : Fn) (hub : Hub) (tag : W32) (wing : Byte) (p : Bytes) (c : Cmd) (s : State),
    c = sentCmd s 0x0505 fn hub tag wing p →
    accepts s c →
    wing = 0xFF#8 →
    zeroAt p 1 3 = true →
    (leAt p 0 1 = 3 ∨ leAt p 0 1 = 4) →
    s.par.lease = .holder →
    linkUp s.par.link = true →
    exec (.pairReset fn hub tag wing p) s = .next (scpFinish (pairSend (scpCommit s c) 0 .reset [leAt p 0 1] []) c rOK ([]))) ∧
  (∀ (level : Fin 8) (s : State),
    (level.val = 3 ∨ level.val = 4) →
    linkUp s.par.link = true →
    exec (.pairResetReceive level) s = .next (assertSource s 10 level))

/-- Frames are acknowledged or repeated, silent or lane-poor dies go down, training agrees the pair, position 1 follows
the time.
RANRI_FRAME_RECEIVE asks for a bad frame again; a good one is acknowledged, restarts the die's 5 µs and frees the frames
that it acknowledges, and one that it asks for is sent again and counted. A message takes the next frame of its die and
stays in the replay buffer. KEEPALIVE_TICK: a die silent for 5 µs goes down, another sends a keepalive. In MISMATCH
there is no traffic. LINK_DIE_DOWN leaves the link DEGRADED on the other die, where the frames that were not
acknowledged are sent again; the loss of both is the loss of the link, which notes the time and each paired catalogue's V.
LANE_FAILURE of a first lane is made good by a spare of its wavelength; at most two spares serve a wavelength of one
direction, and every other lost lane is not served. TRAINING_RETRY_TIMER trains again from DOWN. LINK_TRAINED: no die up gives DOWN;
a wrong major, pair ID or position MISMATCH; else the link is UP under new keys, and the lease is agreed. Without a
pair key nothing trains. TIME_OFFSET_MEASURE records the offset, ALIGNED within 20 ns; position 1 steps forward after
training, and else slews. EPOCH_REPORT_TICK reports the oldest epoch in use of each striped catalogue, and
EPOCH_REPORT_RECEIVE takes the partner's.
Cites R396, R397, R398, R399, R400, R401, R403, R408, R414, R471, R584, 13_pair.md (derived, tier 2). -/
def Obligations.TheRanriLinkTrainsCarriesAndFails : Prop :=
  (∀ (die : Hub) (h : FrameHead) (s : State),
    (s.par.die die).up = true →
    s.par.link ≠ .mismatch →
    exec (.ranriFrameReceive die h false) s = .next (s.emit (.pair die .frameRepeat [h.seq.toNat] []))) ∧
  (∀ (die : Hub) (h : FrameHead) (s : State),
    (s.par.die die).up = true →
    s.par.link ≠ .mismatch →
    h.again = none →
    exec (.ranriFrameReceive die h true) s = .next ({ s with par := s.par.setDie die { (s.par.die die) with idle := s.now, rxSeq := if h.seq = (s.par.die die).rxSeq then (s.par.die die).rxSeq + 1 else (s.par.die die).rxSeq, replay := framesAfter (s.par.die die).replay h.ack } }.emit (.pair die .frameAck [h.seq.toNat] []))) ∧
  (∀ (die : Hub) (h : FrameHead) (q : W32) (f : Frame) (s : State),
    (s.par.die die).up = true →
    s.par.link ≠ .mismatch →
    h.again = some q →
    ((framesAfter (s.par.die die).replay h.ack).find? fun f => decide (f.seq = q)) = some f →
    ∃ t, exec (.ranriFrameReceive die h true) s = .next t ∧ t.out = s.out ++ [.pair die .frameAck [h.seq.toNat] [], .pair die f.msg f.args f.data] ∧
    t.par.repeats = satInc s.par.repeats) ∧
  (∀ (l : List Frame) (q : W32) (f : Frame) (rest : List Frame),
    (∀ x ∈ l, x.seq ≠ q) →
    f.seq = q →
    framesAfter (l ++ f :: rest) (some q) = rest ∧ framesAfter rest none = rest) ∧
  (∀ (s : State) (n : Nat) (msg : PairMsg) (args : List Nat) (data : Bytes) (d : Hub),
    pairDie s n = d →
    ∃ f, f = { seq := (s.par.die d).txSeq, msg := msg, args := args, data := data } ∧
    pairSend s n msg args data = { s with par := s.par.setDie d { (s.par.die d) with txSeq := (s.par.die d).txSeq + 1, replay := (s.par.die d).replay ++ [f] } }.emit (.pair d msg args data)) ∧
  (∀ (die : Hub) (h : FrameHead) (ok : Bool) (s : State),
    s.par.link = .mismatch →
    exec (.ranriFrameReceive die h ok) s = .next s ∧ exec (.keepaliveTick die) s = .next s) ∧
  (∀ (die : Hub) (s : State),
    (s.par.die die).up = true →
    s.par.link ≠ .mismatch →
    5000 ≤ s.now - (s.par.die die).idle →
    exec (.keepaliveTick die) s = .next (linkDieDown s die)) ∧
  (∀ (die : Hub) (s : State),
    (s.par.die die).up = true →
    s.par.link ≠ .mismatch →
    s.now - (s.par.die die).idle < 5000 →
    exec (.keepaliveTick die) s = .next (s.emit (.pair die .keepalive [] []))) ∧
  (∀ (die : Hub) (s : State),
    (s.par.die die).up = true →
    linkUp (linkOf (s.par.setDie die (dieOff (s.par.die die)))) = true →
    linkUp s.par.link = true →
    ∃ t, exec (.linkDieDown die) s = .next t ∧ (t.par.die die).up = false ∧ (t.par.die die).active = 0 ∧
    t = { s with par := t.par, out := t.out } ∧ t.par.link = .degraded ∧
    t.out = s.out ++ (s.par.die die).replay.map (fun f => .pair (otherHub die) f.msg f.args f.data) ∧
    (t.par.die (otherHub die)).txSeq = (s.par.die (otherHub die)).txSeq + BitVec.ofNat 32 (s.par.die die).replay.length ∧
    { t.par.die (otherHub die) with txSeq := (s.par.die (otherHub die)).txSeq, replay := (s.par.die (otherHub die)).replay } = s.par.die (otherHub die)) ∧
  (∀ (die : Hub) (s : State),
    (s.par.die die).up = true →
    (s.par.die (otherHub die)).up = false →
    linkUp s.par.link = true →
    s.par.lease ≠ .holder →
    s.par.tableWait = [] →
    askRun s = none →
    ∃ t, exec (.linkDieDown die) s = .next t ∧ t.par.link = .down ∧ t.par.lostAt = some s.now ∧
    t.par.aligned = false ∧ (∀ e ∈ s.par.entries, (t.cat (catKey e.1 e.2.1)).lossV = some (s.cat (catKey e.1 e.2.1)).vis) ∧
    t = { s with par := t.par, cats := t.cats }) ∧
  (∀ (die : Hub) (fiber : LaneFiber) (lam : Fin 8) (s : State),
    (s.par.die die).up = true →
    (s.par.die die).failed = [] →
    fiber.fiber.val < 32 →
    s.par.link = .up →
    ∃ t, exec (.laneFailure die fiber lam) s = .next t ∧ (t.par.die die).failed = [(fiber.receive, fiber.fiber.val, lam.val)] ∧
    (t.par.die die).active = 256 ∧ (t.par.die die).spareUsed = 1 ∧ (t.par.die die).up = true) ∧
  (∀ (d : LinkDie),
    ((∀ rx k, k < 8 → lostAtLambda d rx k ≤ 32)) →
    (laneCounts d).active = min (servedLanes d false) (servedLanes d true) ∧ (laneCounts d).spareUsed ≤ 16 ∧
    ∀ rx, servedLanes d rx + ((List.range 8).map fun k => lostAtLambda d rx k - (sparesUsedAt d rx k).length).sum = 256 ∧
    ∀ k, (sparesUsedAt d rx k).length ≤ 2 ∧ (sparesUsedAt d rx k).length ≤ lostAtLambda d rx k) ∧
  (∀ (s : State),
    s.par.link = .down →
    s.par.enable = true →
    exec (.trainingRetryTimer) s = .next ({ s with par := { s.par with link := .training } })) ∧
  (∀ (peer : PeerInfo) (k : Bytes) (s : State),
    s.par.pk = some k →
    s.par.link = .training →
    peer.up0 = false ∧ peer.up1 = false →
    ∃ t, exec (.linkTrained peer) s = .next t ∧ t.par.link = .down ∧ t = { s with par := t.par }) ∧
  (∀ (peer : PeerInfo) (k : Bytes) (s : State),
    s.par.pk = some k →
    s.par.link = .training →
    peer.up0 = true ∧ peer.badLanes = [] →
    (peer.major ≠ 1 ∨ peer.pairId ≠ s.par.pairId ∨ peer.pos = s.par.position) →
    ∃ t, exec (.linkTrained peer) s = .next t ∧ t.par.link = .mismatch ∧ t = { s with par := t.par, out := t.out }) ∧
  (∀ (peer : PeerInfo) (k : Bytes) (s : State),
    s.par.pk = some k →
    s.par.link = .training →
    peer.up0 = true ∧ peer.up1 = true ∧ peer.badLanes = [] →
    peer.major = 1 →
    peer.pairId = s.par.pairId →
    peer.pos ≠ s.par.position →
    peer.cats = [] →
    s.par.entries = [] →
    (s.par.lease = .follower ∨ s.par.lease = .lapsed) →
    ∃ t, exec (.linkTrained peer) s = .next t ∧ t.par.link = .up ∧ t.par.lostAt = none ∧
    t.par.linkKeys ≠ none ∧ t.par.lease ≠ .unpaired ∧ (s.par.term < peer.term → t.par.term = peer.term)) ∧
  (∀ (s : State) (k : Bytes) (peer : PeerInfo),
    s.par.pk = none →
    exec (.linkTrained peer) s = .next (s)) ∧
  (∀ (ofs : Int) (s : State),
    linkUp s.par.link = true →
    s.par.position = false →
    exec (.timeOffsetMeasure ofs) s = .next ({ s with par := { s.par with timeOfs := ofs, aligned := decide (ofs.natAbs ≤ 20) } })) ∧
  (∀ (ofs : Int) (s : State),
    linkUp s.par.link = true →
    s.par.position = true →
    s.par.stepDue = true →
    ofs < 0 →
    exec (.timeOffsetMeasure ofs) s = .next ({ s with par := { s.par with timeOfs := 0, aligned := true, stepDue := false }, clk := { s.clk with units := s.clk.units.map (· + BitVec.ofInt 64 (-ofs)) } })) ∧
  (∀ (s : State),
    linkUp s.par.link = true →
    ∃ t, exec (.epochReportTick) s = .next t ∧ t = { s with par := t.par, out := t.out } ∧ (∀ e ∈ s.par.entries, (s.cat (catKey e.1 e.2.1)).mode = 2 →
    Out.pair (pairDie s (e.1 + e.2.1)) .epochReport [e.1, e.2.1, (oldestOwn s e.1 e.2.1).toNat] [] ∈ t.out)) ∧
  (∀ (wing : WingIx) (cat : CatIx) (oldest : W32) (s : State),
    (s.cat (catKey wing cat)).mode = 2 →
    linkUp s.par.link = true →
    exec (.epochReportReceive wing cat oldest) s = .next (retirePoll (s.setCat (catKey wing cat) { s.cat (catKey wing cat) with partnerOldest := some oldest }) wing cat))

/-- A lease lapses at its end, is renewed and claimed at the witness, yields to a higher term, and a holder without it is
fenced.
LEASE_EXPIRY: HOLDER and FOLLOWER become LAPSED. WITNESS_RENEW_TIMER of a holder sends RENEW. CLAIM_DELAY_EXPIRY and
CLAIM_TIMER, without the link and with a witness, send CLAIM and are CLAIMING; with the link they do nothing. A
datagram is 64 bytes, begins RNWT, and is noted with its time until its answer. WITNESS_GRANT of a renewal extends the
lease to 200 ms after the request; of a claim makes the unit HOLDER under its term and declares the partner lost. A
datagram that answers nothing asked in the last 10 ms, or whose MAC is wrong, is dropped and counted. WITNESS_REFUSE
ends a claim and takes a higher term. LEASE_MESSAGE_RECEIVE of a higher term that the partner holds makes even a
HOLDER a FOLLOWER; one of a lower term is answered with this unit's lease. A partner that asks to acquire gets the next
even term, and this unit follows it; a unit with a commit in progress refuses, which ends the asking command with BUSY,
and the grant ends it with the lease (the messages are the model's choice, log entry 76). A unit that does not hold the lease refuses
EPOCH_OPEN of a paired catalogue with PAIR_FENCED.
Cites R412, R413, R414, R416, R418, R419, R420, R422, R423, 13_pair.md (derived, tier 2). -/
def Obligations.TheLeaseFollowsWitnessAndPartner : Prop :=
  (∀ (s : State),
    (s.par.lease = .holder ∨ s.par.lease = .follower) →
    exec (.leaseExpiry) s = .next ({ s with par := { s.par with lease := .lapsed, expiry := 0 } })) ∧
  (∀ (s : State),
    s.par.lease = .holder →
    exec (.witnessRenewTimer) s = .next (askWitness s 0)) ∧
  (∀ (s : State),
    (s.par.lease = .follower ∨ s.par.lease = .lapsed) →
    hasWitness s.par = true →
    linkUp s.par.link = false →
    exec (.claimDelayExpiry) s = .next (askWitness { s with par := { s.par with lease := .claiming } } 1)) ∧
  (∀ (s : State),
    s.par.lease = .claiming →
    hasWitness s.par = true →
    linkUp s.par.link = false →
    exec (.claimTimer) s = .next (askWitness s 1)) ∧
  (∀ (s : State),
    linkUp s.par.link = true →
    exec .claimDelayExpiry s = .next s ∧ exec .claimTimer s = .next s) ∧
  (∀ (s : State) (type : Nat) (k : Bytes),
    s.par.pk = some k →
    hasWitness s.par = true →
    ∃ a d, (askWitness s type).par.asked = s.par.asked ++ [a] ∧ a.time = s.now ∧ a.claim = decide (type = 1) ∧
    (askWitness s type).out = s.out ++ [.witness d] ∧ d.length = 64 ∧ d.take 4 = [0x52, 0x4E, 0x57, 0x54] ∧
    askWitness s type = { s with par := (askWitness s type).par, out := (askWitness s type).out, freeCtr := (askWitness s type).freeCtr }) ∧
  (∀ (term : W32) (nonce : W64) (a : Asked) (s : State),
    askedFor s nonce = some a →
    a.claim = false →
    s.par.lease = .holder →
    term = s.par.term →
    linkUp s.par.link = true →
    exec (.witnessGrant term nonce true) s = .next (sendLease { s with par := { s.par with asked := s.par.asked.filter (· != a), expiry := a.time + 200000000 } })) ∧
  (∀ (term : W32) (nonce : W64) (a : Asked) (s : State),
    askedFor s nonce = some a →
    a.claim = true →
    s.par.lease = .claiming →
    exec (.witnessGrant term nonce true) s = .next (declareLost { s with par := { s.par with asked := s.par.asked.filter (· != a), lease := .holder, term := term, holderPos := s.par.position, expiry := a.time + 200000000 } } true)) ∧
  (∀ (term : W32) (nonce : W64) (macOk : Bool) (s : State),
    (askedFor s nonce = none ∨ macOk = false) →
    exec (.witnessGrant term nonce macOk) s = .next { s with par := { s.par with witnessBad := satInc s.par.witnessBad } } ∧
    exec (.witnessRefuse term nonce macOk) s = .next { s with par := { s.par with witnessBad := satInc s.par.witnessBad } }) ∧
  (∀ (term : W32) (nonce : W64) (a : Asked) (s : State),
    askedFor s nonce = some a →
    exec (.witnessRefuse term nonce true) s = .next ({ s with par := { s.par with asked := s.par.asked.filter (· != a), term := if s.par.term < term then term else s.par.term, lease := if s.par.lease = .claiming then .lapsed else s.par.lease } })) ∧
  (∀ (term : W32) (holder : Fin 3) (expiry : W64) (s : State),
    linkUp s.par.link = true →
    askRun s = none →
    s.par.lease ≠ .unpaired →
    s.par.term < term →
    holder.val ≠ 2 →
    holder.val ≠ b2n s.par.position →
    s.par.compareDue = [] →
    exec (.leaseMessageReceive term (.holds holder) expiry) s = .next ({ s with par := { s.par with term := term, lease := .follower, holderPos := !s.par.position, expiry := expiry.toNat } })) ∧
  (∀ (term : W32) (holder : Fin 3) (expiry : W64) (s : State),
    linkUp s.par.link = true →
    s.par.lease = .holder →
    term < s.par.term →
    askRun s = none →
    s.par.compareDue = [] →
    exec (.leaseMessageReceive term (.holds holder) expiry) s = .next (sendLease s)) ∧
  (∀ (term : W32) (expiry : W64) (s : State),
    linkUp s.par.link = true →
    term = s.par.term →
    ((s.par.entries.any fun e => (s.cat (catKey e.1 e.2.1)).commit.isSome) = false →
      exec (.leaseMessageReceive term .asks expiry) s = .next (sendLease { s with par := { s.par with term := nextEven s.par.term, lease := .follower, holderPos := !s.par.position, expiry := expiry.toNat } })) ∧
    ((s.par.entries.any fun e => (s.cat (catKey e.1 e.2.1)).commit.isSome) = true →
      exec (.leaseMessageReceive term .asks expiry) s = .next (pairSend s 0 .leaseRefuse [s.par.term.toNat] []))) ∧
  (∀ (term : W32) (expiry : W64) (x : Fn × Hub × Run) (s : State),
    linkUp s.par.link = true →
    askRun s = some x →
    exec (.leaseMessageReceive term .refuses expiry) s = .next (runFinish s x.1 x.2.1 rBUSY [])) ∧
  (∀ (holder : Fin 3) (expiry : W64) (x : Fn × Hub × Run) (s u : State),
    linkUp s.par.link = true →
    askRun s = some x →
    holder.val = b2n s.par.position →
    s.par.compareDue = [] →
    u = (scpCommit s (x.2.2.cmd x.1 x.2.1)).updPar (fun p => { p with term := nextEven s.par.term, lease := .holder, holderPos := p.position, expiry := x.2.2.start + 200000000 }) →
    u.par.compareDue = [] →
    exec (.leaseMessageReceive (nextEven s.par.term) (.holds holder) expiry) s = .next (runFinish u x.1 x.2.1 rOK (leaseReply u))) ∧
  (∀ (s : State) (k : Cat),
    k.mode ≠ 0 →
    s.par.lease ≠ .holder →
    fenced s k = true) ∧
  (∀ (fn : Fn) (hub : Hub) (tag : W32) (wing : Byte) (p : Bytes) (c : Cmd) (s : State),
    c = sentCmd s 0x0205 fn hub tag wing p →
    accepts s c →
    wing.toNat < 16 →
    zeroAt p 1 3 = true →
    leAt p 0 1 < 8 →
    (s.wing wing.toNat).state = .enabled →
    (s.cat (catKey wing.toNat (leAt p 0 1))).mode ≠ 0 →
    s.par.lease ≠ .holder →
    exec (.epochOpen fn hub tag wing p) s = .next (scpFinish s c rPAIR_FENCED []))

/-- The follower applies and acknowledges records, commits and tables, serves lookups, and takes the copy of a stale
catalogue.
PAIR_RECORD_RECEIVE of a NOP acknowledges it; of a PUT applies it in the epoch and acknowledges it, or keeps it while
it stalls; one whose digest is not that of what arrived is counted and asked for again. PAIR_RECORD_ACK lets the holder apply its record;
a fourth failure puts the ring into ERROR. PARTNER_COMMIT_REQUEST commits at the follower and answers;
PARTNER_COMMIT_REPLY is followed by the holder's commit point, but not of a unit that has lost the lease or the link.
PARTNER_TABLE_REQUEST reserves the same table, or
deletes it and answers; PARTNER_TABLE_REPLY ends the command with the partner's code, or lets it commit; where the ID is taken there, another
is reserved.
PARTNER_LOOKUP_RECEIVE says that it cannot serve a table it does not hold, and else pools each bag and answers its
partials with a digest; a batch whose remote partials have not come when both dies are down fails with PARTNER_LOST.
RESYNC_ROW_RECEIVE of a STALE catalogue begins the copy, in which each row is written once; RESYNC_DONE: the follower
takes the holder's V and is IN_SYNC.
Cites R241, R242, R244, R388, R406, R407, R408, R409, R411, R427, R428, R432 (derived, tier 2). -/
def Obligations.PartnersMirrorRecordsCommitsTablesAndRows : Prop :=
  (∀ (wing : WingIx) (cat : CatIx) (epoch : W32) (head : W64) (record : Bytes) (s : State),
    (s.cat (catKey wing cat)).mode ≠ 0 →
    s.par.lease ≠ .holder →
    linkUp s.par.link = true →
    (s.cat (catKey wing cat)).sync ≠ 2 →
    (s.cat (catKey wing cat)).isOpen = true →
    (s.cat (catKey wing cat)).openEp = epoch →
    recType record = 1 →
    ∃ t, exec (.pairRecordReceive wing cat epoch head record .intact) s = .next t ∧ t.out = s.out ++
    [.pair (pairDie s (wing.val + cat.val)) .recordAck [wing.val, cat.val, head.toNat, 1] []] ∧
    t = { s with par := t.par, cats := t.cats, out := t.out } ∧ t.cat (catKey wing cat) = { (s.cat (catKey wing cat)) with follow := none, stall := 0, stallAt := none, stallRow := none }) ∧
  (∀ (wing : WingIx) (cat : CatIx) (epoch : W32) (head : W64) (record : Bytes) (s s1 s2 : State) (row : Option (Nat × Nat × Nat)),
    (s.cat (catKey wing cat)).mode ≠ 0 →
    s.par.lease ≠ .holder →
    linkUp s.par.link = true →
    (s.cat (catKey wing cat)).sync ≠ 2 →
    followOpen s wing cat epoch = s1 →
    recordPut s1 wing record epoch = (row, .ok s2) →
    exec (.pairRecordReceive wing cat epoch head record .intact) s = .next (pairSend (s2.setCat (catKey wing cat) { s2.cat (catKey wing cat) with follow := none, stall := 0, stallAt := none, stallRow := none }) (wing.val + cat.val) .recordAck [wing.val, cat.val, head.toNat, 1] [])) ∧
  (∀ (wing : WingIx) (cat : CatIx) (epoch : W32) (head : W64) (record : Bytes) (s s1 s2 : State) (row : Option (Nat × Nat × Nat)) (cause : Nat),
    (s.cat (catKey wing cat)).mode ≠ 0 →
    s.par.lease ≠ .holder →
    linkUp s.par.link = true →
    (s.cat (catKey wing cat)).sync ≠ 2 →
    followOpen s wing cat epoch = s1 →
    recordPut s1 wing record epoch = (row, .stall s2 cause) →
    ∃ t, exec (.pairRecordReceive wing cat epoch head record .intact) s = .next t ∧ (t.cat (catKey wing cat)).follow = some { epoch := epoch, head := head, record := record } ∧
    (t.cat (catKey wing cat)).stall = cause ∧ (t.cat (catKey wing cat)).stallRow = row ∧ t = { s2 with cats := t.cats }) ∧
  (∀ (wing : WingIx) (cat : CatIx) (epoch : W32) (head : W64) (record data : Bytes) (digest : W64) (s : State),
    (s.cat (catKey wing cat)).mode ≠ 0 →
    s.par.lease ≠ .holder →
    linkUp s.par.link = true →
    digestOf (recHeader cat epoch.toNat head.toNat) data ≠ digest →
    tableIn s wing (recTable record) = none →
    exec (.pairRecordReceive wing cat epoch head record (.altered data digest)) s = .next (pairSend (digestFail s wing (0x80 + 8 + 0) (8 + 0) 3) (wing.val + cat.val) .recordAck [wing.val, cat.val, head.toNat, 0] [])) ∧
  (∀ (wing : WingIx) (cat : CatIx) (head : W64) (b : Bytes) (s : State),
    (s.cat (catKey wing cat)).busy = some b →
    s.par.lease = .holder →
    (s.cat (catKey wing cat)).head = head →
    (s.cat (catKey wing cat)).applied = false →
    exec (.pairRecordAck wing cat head true) s = .next (applyBusy (s.setCat (catKey wing cat) { (s.cat (catKey wing cat)) with pairHead := head + BitVec.ofNat 64 (recLen b), resends := 0 }) wing cat b (s.cat (catKey wing cat)).openEp)) ∧
  (∀ (wing : WingIx) (cat : CatIx) (head : W64) (b : Bytes) (s : State),
    (s.cat (catKey wing cat)).busy = some b →
    s.par.lease = .holder →
    (s.cat (catKey wing cat)).head = head →
    (s.cat (catKey wing cat)).applied = false →
    3 ≤ (s.cat (catKey wing cat)).resends →
    exec (.pairRecordAck wing cat head false) s = .next (ringError s wing cat 0 rDIGEST_MISMATCH)) ∧
  (∀ (wing : WingIx) (cat : CatIx) (epoch term : W32) (s : State),
    (s.cat (catKey wing cat)).mode ≠ 0 →
    s.par.lease ≠ .holder →
    linkUp s.par.link = true →
    (s.cat (catKey wing cat)).vis ≠ epoch →
    retireRuns s wing cat = [] →
    ∃ t, exec (.partnerCommitRequest wing cat epoch false term) s = .next t ∧ t.cat (catKey wing cat) = { (s.cat (catKey wing cat)) with vis := epoch, openEp := epoch, isOpen := false, termOfV := term, limit := 0xFFFFFFFFFFFFFFFF } ∧
    t = { s with par := t.par, cats := t.cats, out := t.out } ∧ t.out.length = s.out.length + 1 ∧ (∀ k, k ≠ catKey wing cat →
    t.cat k = s.cat k)) ∧
  (∀ (wing : WingIx) (cat : CatIx) (epoch oldest : W32) (visTs : W64) (m : Commit) (s : State),
    (s.cat (catKey wing cat)).commit = some m →
    m.step = 3 →
    m.epoch = epoch →
    fenced s (s.cat (catKey wing cat)) = false →
    linkUp s.par.link = true →
    exec (.partnerCommitReply wing cat epoch visTs oldest) s = .next (commitPoint (s.setCat (catKey wing cat) { (s.cat (catKey wing cat)) with partnerOldest := some oldest }) wing cat)) ∧
  (∀ (wing : WingIx) (cat : CatIx) (epoch oldest : W32) (visTs : W64) (s : State),
    (fenced s (s.cat (catKey wing cat)) = true ∨ linkUp s.par.link = false) →
    exec (.partnerCommitReply wing cat epoch visTs oldest) s = .next (s.setCat (catKey wing cat) { (s.cat (catKey wing cat)) with partnerOldest := some oldest })) ∧
  (∀ (wing : WingIx) (table : TabIx) (desc : Bytes) (s : State),
    s.par.lease ≠ .holder →
    linkUp s.par.link = true →
    firstFail ([((s.table table).isSome, idTaken)] ++ createHead desc ++ createRest s wing desc) = none →
    exec (.partnerTableRequest wing false table desc) s = .next (tableReserve s wing table desc)) ∧
  (∀ (wing : WingIx) (table : TabIx) (desc : Bytes) (t0 : Table) (s : State),
    s.par.lease ≠ .holder →
    linkUp s.par.link = true →
    tableIn s wing table = some t0 →
    exec (.partnerTableRequest wing true table desc) s = .next (pairSend (advance (tableDelete (advance s 1) table) 1) (wing.val + t0.cat.val) .tableReply [table.val, 0] [])) ∧
  (∀ (fn : Fn) (hub : Hub) (code : Byte) (x : TableWait) (s : State),
    ((s.par.tableWait.find? fun x => x.fn == fn && x.hub == hub) = some x) →
    code ≠ rOK →
    (code ≠ idTaken ∨ x.delete = true) →
    exec (.partnerTableReply fn hub code) s = .next (tableWaitFail s x code)) ∧
  (∀ (fn : Fn) (hub : Hub) (x : TableWait) (id : Nat) (t0 : Table) (s : State),
    ((s.par.tableWait.find? fun x => x.fn == fn && x.hub == hub) = some x) →
    x.delete = false →
    s.table x.table = some t0 →
    nextFree s x.table = some id →
    ∃ t, exec (.partnerTableReply fn hub idTaken) s = .next t ∧ t.table id = some { t0 with id := id } ∧
    (id ≠ x.table → t.table x.table = none) ∧ (∀ k, k ≠ id → k ≠ x.table → t.table k = s.table k)) ∧
  (∀ (fn : Fn) (hub : Hub) (x : TableWait) (r : Run) (s : State),
    ((s.par.tableWait.find? fun x => x.fn == fn && x.hub == hub) = some x) →
    (s.mbox (mbxKey fn hub)).run = some r →
    x.delete = true →
    exec (.partnerTableReply fn hub rOK) s = .next (runFinish (advance (scpCommit (tableDelete (advance { s with par := { s.par with tableWait := s.par.tableWait.filter (· != x) } } 1) x.table) (r.cmd fn hub)) 1) fn hub rOK [])) ∧
  (∀ (wing : WingIx) (table : TabIx) (epoch : W32) (bags : RemoteBags) (weighted mx : Bool) (ls : List (Nat × Nat × W32)) (s : State),
    linkUp s.par.link = true →
    tableIn s wing table = none →
    exec (.partnerLookupReceive wing table epoch bags weighted mx ls) s = .next (pairSend s 0 .contribution [wing.val, table.val] [])) ∧
  (∀ (wing : WingIx) (table : TabIx) (epoch : W32) (row : Nat) (seq : W64) (t0 : Table) (g : Nat) (v : List W32) (s s2 : State),
    linkUp s.par.link = true →
    tableIn s wing table = some t0 →
    (s.cat (catKey wing t0.cat)).mode = 2 →
    (s.cat (catKey wing t0.cat)).sync = 0 →
    (s.cat (catKey wing t0.cat)).forcedTo = none →
    (remoteRow (s.updWing wing fun x => { x with lookups := satAdd x.lookups 1 }) t0 epoch false (0, row, 0) = (s2, some (g, v))) →
    exec (.partnerLookupReceive wing table epoch { count := 1, seq := seq } false false [(0, row, 0)]) s = .next (pairSend s2 (t0.wing.val + t0.cat.val) .contribution [t0.wing.val, t0.id, 0, g, (digestOf (partHeader t0.id (0x80 + 8 + gposStack s2 t0 g) 0 seq.toNat) (partBytes (poolPart false t0.dim [v]))).toNat] (partBytes (poolPart false t0.dim [v])))) ∧
  (∀ (doc : DocIx) (ticket : W16) (b : Batch) (t0 : Table) (i : Nat) (x : Nat × W32 × W32) (s : State),
    findBatch s doc ticket = some b →
    s.table b.table = some t0 →
    i ∈ b.remote →
    b.lookups[i]? = some x →
    b.parts = [] →
    b.failed = none →
    linkUp s.par.link = false →
    exec (.remoteBatchTimeout doc ticket) s = .next (gpeFail s b rPARTNER_LOST (bagGPE s (combineStack t0) 0))) ∧
  (∀ (wing : WingIx) (cat : CatIx) (table : TabIx) (row epoch : W32) (data : Bytes) (s : State),
    (s.cat (catKey wing cat)).mode ≠ 0 →
    s.par.lease = .follower →
    linkUp s.par.link = true →
    (s.cat (catKey wing cat)).resyncBase = none →
    (s.cat (catKey wing cat)).sync = 1 →
    exec (.resyncRowReceive wing cat table row epoch data) s = .next (resyncRow (resyncBegin s wing cat) wing cat table row.toNat epoch data)) ∧
  (∀ (wing : WingIx) (cat : CatIx) (table : TabIx) (row epoch : W32) (data : Bytes) (t0 : Table) (i k home : Nat) (s : State),
    (s.cat (catKey wing cat)).mode ≠ 0 →
    s.par.lease = .follower →
    linkUp s.par.link = true →
    (s.cat (catKey wing cat)).resyncBase = none →
    (s.cat (catKey wing cat)).sync = 2 →
    tableIn s wing table = some t0 →
    rowPlace s t0 row.toNat = some (i, k, home) →
    (s.cat (catKey wing cat)).settled.contains (table.val, row.toNat) = false →
    data ≠ [] →
    zeroAt (fitTo (16 + rowPayload t0.elem t0.dim) data) 0 16 = false →
    exec (.resyncRowReceive wing cat table row epoch data) s = .next (slotWrite (s.setCat (catKey wing cat) { (s.cat (catKey wing cat)) with settled := (s.cat (catKey wing cat)).settled ++ [(table.val, row.toNat)] }) t0 k home (rowImage (fitTo (16 + rowPayload t0.elem t0.dim) data) epoch slotNone))) ∧
  (∀ (wing : WingIx) (cat : CatIx) (v term : W32) (s : State),
    (s.cat (catKey wing cat)).mode ≠ 0 →
    linkUp s.par.link = true →
    s.par.lease = .follower →
    (s.cat (catKey wing cat)).resyncBase = none →
    (s.cat (catKey wing cat)).sync = 2 →
    exec (.resyncDone wing cat v term) s = .next (retirePoll (s.setCat (catKey wing cat) { (s.cat (catKey wing cat)) with vis := v, termOfV := term, sync := 0, settled := [], resyncBase := none, forcedTo := none }) wing cat))

/-- HOST_PORT_MOVE drains and switches to the standby port; a lost link holds writes, its return issues them first.
Log entry 29 gives the code of a move that its target's loss ends. HOST_PORT_MOVE to a port that is ready sets MOVING,
and lent requests that run are to checkpoint. HOST_PORT_MOVE_DRAINED issues the held writes, empties the ATS cache,
switches, logs, and issues the recorded page requests there; the switch puts the target port's configuration in force
and leaves queues, rings, flows and MSI-X tables. HOST_LINK_DOWN of the active port raises one alarm; of a move's
target, ends the move without effect. HOST_LINK_UP of the active port issues the held writes in order, then the reads that
replies wait for, before the vents. STANDBY_PORT_RESET resets that port's link and configuration space only.
Cites R446, R447, R448, R449, R587, R364, R481, 14_host_network.md (derived, tier 2). -/
def Obligations.TheHostPortMovesAndIsLost : Prop :=
  (∀ (fn : Fn) (hub : Hub) (tag : W32) (wing : Byte) (p : Bytes) (c : Cmd) (s : State),
    c = sentCmd s 0x0A02 fn hub tag wing p →
    accepts s c →
    wing = 0xFF#8 →
    zeroAt p 1 3 = true →
    leAt p 0 1 ≤ 1 →
    Fin.ofNat 2 (leAt p 0 1) ≠ s.pcie.activeHub →
    portActive s (Fin.ofNat 2 (leAt p 0 1)) = true →
    (s.standbyCfg 0).memSpace = true →
    (s.standbyCfg 0).busMaster = true →
    longFull s = false →
    exec (.hostPortMove fn hub tag wing p) s = .next (inProgress s (drainRunning (((List.range 16).foldl (fun s w => tdiTrip s w c.fn) s).updPcie fun q => { q with moving := true, moveBy := some (c.fn, c.hub, Fin.ofNat 2 (leAt p 0 1)) })) c false [])) ∧
  (∀ (fn : Fn) (h h2 : Hub) (r : Run) (s : State),
    s.pcie.moveBy = some (fn, h, h2) →
    s.pcie.moving = true →
    moveDrained s = true →
    running s fn h 0x0A02 = some r →
    s.dlActive = true →
    exec (.hostPortMoveDrained) s = .next (ventPump (runFinish (s.priReqs.foldl reissuePri (issueHeld (scpCommit (switchPort { issueHeld s with priReqs := [], ats := [], atsReqs := [] } h2) (r.cmd fn h)))) fn h rOK []))) ∧
  (∀ (s : State) (t : Hub),
    (switchPort s t).pcie.activeHub = t ∧ (switchPort s t).pcie.moving = false ∧ (switchPort s t).queues = s.queues ∧
    (switchPort s t).msix = s.msix ∧ (switchPort s t).cats = s.cats ∧ (switchPort s t).flows = s.flows ∧
    (switchPort s t).pcie.vfEnable = s.pcie.standbyVfEnable ∧ (∀ k, k < 256 → ((switchPort s t).fnSt k).memSpace = (s.standbyCfg k).memSpace ∧
    ((switchPort s t).fnSt k).pri = ((s.standbyCfg k).pri) ∧ ((switchPort s t).fnSt k).queSel = (s.fnSt k).queSel)) ∧
  (∀ (port : Hub) (s : State),
    portActive s port = true →
    port = s.pcie.activeHub →
    exec (.hostLinkDown port) s = .next (alarm (setPortActive s port false) 0x0501 0xFF (16 + port) port ((s.pcie.held.map fun h => h.data.length).sum) 0 0)) ∧
  (∀ (port : Hub) (fn : Fn) (h t : Hub) (s : State),
    portActive s port = true →
    port ≠ s.pcie.activeHub →
    s.pcie.moving = true →
    s.pcie.moveBy = some (fn, h, t) →
    exec (.hostLinkDown port) s = .next (runFinish ((setPortActive s port false).updPcie fun p => { p with moving := false, moveBy := none }) fn h rRES_UNAVAILABLE [])) ∧
  (∀ (s : State),
    exec (.hostLinkUp s.pcie.activeHub) s = .next (ventPump (issueHeld (setPortActive s s.pcie.activeHub true)))) ∧
  (∀ (s : State),
    (issueHeld s).out = s.out ++ s.pcie.held.map (fun h => Out.hostWrite h.fn h.addr h.data h.tag) ++ heldReads s ∧
    (issueHeld s).pcie.held = [] ∧ ((∀ q ∈ s.queues, q.2.awaitRead = []) → heldReads s = [])) ∧
  (∀ (s : State),
    s.pcie.moving = false →
    ∃ t, exec (.standbyPortReset) s = .next t ∧ t = { s with pcie := t.pcie } ∧ t.pcie.activeHub = s.pcie.activeHub ∧
    portActive t s.pcie.activeHub = portActive s s.pcie.activeHub ∧ (∀ h, h ≠ s.pcie.activeHub →
    portActive t h = false) ∧ (∀ k, t.standbyCfg k = CfgSpace.init) ∧ t.pcie.standbyVfEnable = false ∧
    t.pcie.standbyNumVfs = 0 ∧ t.pcie.vfEnable = s.pcie.vfEnable ∧ t.pcie.numVfs = s.pcie.numVfs ∧
    t.pcie.held = s.pcie.held)

/-- Configuration writes set their field at their own port; an unmasked vector sends its one message; DOE answers
discovery and abort.
The rule for NumVFs is that of log entry 16. The form of the discovery response is that of log entry 16.
PCIE_CONFIG_WRITE at the active port sets the one field of a function that takes part; disabling ATS drops the
function's cached translations, enabling PRI ends its stop, and PF0 holds VF Enable, VF MSE and NumVFs. A write at the
standby port changes nothing at the active one. MSIX_UNMASK sends the one pending message, or none. The three
protocols 0 to 2 are listed in a chain. DOE_ABORT clears the error and the response not yet read; an unsupported
object sets it.
Cites R361, R364, R433, R435, R444, R446, 14_host_network.md, R445 (derived, tier 2). -/
def Obligations.ConfigurationSpaceMasksAndDoe : Prop :=
  (∀ (fn : Fn) (port : Hub) (val : W16) (s : State),
    s.alive = true →
    portActive s port = true →
    port = s.pcie.activeHub →
    s.fnEnabled fn = true →
    ((s.fnSt fn).ats = true ∨ s.ats = []) →
    ((∀ e ∈ s.msix, e.2.pend = false)) →
    ∃ t, exec (.pcieConfigWrite fn port .memSpace val) s = .next t ∧ t = { s with fns := t.fns } ∧
    t.fnSt fn = { s.fnSt fn with memSpace := bit val.toNat 0 } ∧ (∀ k, k ≠ fn.val → t.fnSt k = s.fnSt k)) ∧
  (∀ (fn : Fn) (port : Hub) (val : W16) (s : State),
    s.alive = true →
    portActive s port = true →
    port = s.pcie.activeHub →
    s.fnEnabled fn = true →
    ((s.fnSt fn).ats = true ∨ s.ats = []) →
    ((∀ e ∈ s.msix, e.2.pend = false)) →
    ∃ t, exec (.pcieConfigWrite fn port .busMaster val) s = .next t ∧ t = { s with fns := t.fns } ∧
    t.fnSt fn = { s.fnSt fn with busMaster := bit val.toNat 0 } ∧ (∀ k, k ≠ fn.val → t.fnSt k = s.fnSt k)) ∧
  (∀ (fn : Fn) (port : Hub) (val : W16) (s : State),
    s.alive = true →
    portActive s port = true →
    port = s.pcie.activeHub →
    s.fnEnabled fn = true →
    ((s.fnSt fn).ats = true ∨ s.ats = []) →
    ((∀ e ∈ s.msix, e.2.pend = false)) →
    ∃ t, exec (.pcieConfigWrite fn port .pasid val) s = .next t ∧ t = { s with fns := t.fns } ∧
    t.fnSt fn = { s.fnSt fn with pasid := bit val.toNat 0 } ∧ (∀ k, k ≠ fn.val → t.fnSt k = s.fnSt k)) ∧
  (∀ (fn : Fn) (port : Hub) (val : W16) (s : State),
    s.alive = true →
    portActive s port = true →
    port = s.pcie.activeHub →
    s.fnEnabled fn = true →
    ((s.fnSt fn).ats = true ∨ s.ats = []) →
    ((∀ e ∈ s.msix, e.2.pend = false)) →
    ∃ t, exec (.pcieConfigWrite fn port .msixEnable val) s = .next t ∧ t = { s with fns := t.fns } ∧
    t.fnSt fn = { s.fnSt fn with msixEn := bit val.toNat 0 } ∧ (∀ k, k ≠ fn.val → t.fnSt k = s.fnSt k)) ∧
  (∀ (fn : Fn) (port : Hub) (val : W16) (s : State),
    s.alive = true →
    portActive s port = true →
    port = s.pcie.activeHub →
    s.fnEnabled fn = true →
    ((s.fnSt fn).ats = true ∨ s.ats = []) →
    ((∀ e ∈ s.msix, e.2.pend = false)) →
    ∃ t, exec (.pcieConfigWrite fn port .functionMask val) s = .next t ∧ t = { s with fns := t.fns } ∧
    t.fnSt fn = { s.fnSt fn with fnMask := bit val.toNat 0 } ∧ (∀ k, k ≠ fn.val → t.fnSt k = s.fnSt k)) ∧
  (∀ (fn : Fn) (port : Hub) (val : W16) (s : State),
    s.alive = true →
    portActive s port = true →
    port = s.pcie.activeHub →
    s.fnEnabled fn = true →
    bit val.toNat 0 = false →
    ((∀ e ∈ s.msix, e.2.pend = false)) →
    ∃ t, exec (.pcieConfigWrite fn port .ats val) s = .next t ∧ t = { s with fns := t.fns, ats := t.ats } ∧
    t.fnSt fn = { s.fnSt fn with ats := false } ∧ (∀ k, k ≠ fn.val → t.fnSt k = s.fnSt k) ∧
    t.ats = s.ats.filter fun e => e.fn != fn) ∧
  (∀ (fn : Fn) (port : Hub) (val : W16) (s : State),
    s.alive = true →
    portActive s port = true →
    port = s.pcie.activeHub →
    s.fnEnabled fn = true →
    bit val.toNat 0 = true →
    (s.fnSt fn).pri = false →
    (s.fnSt fn).ats = true →
    ((∀ e ∈ s.msix, e.2.pend = false)) →
    ∃ t, exec (.pcieConfigWrite fn port .pri val) s = .next t ∧ t = { s with fns := t.fns } ∧
    t.fnSt fn = { s.fnSt fn with pri := true, priStopped := false } ∧ (∀ k, k ≠ fn.val →
    t.fnSt k = s.fnSt k)) ∧
  (∀ (port : Hub) (val : W16) (s : State),
    s.alive = true →
    portActive s port = true →
    port = s.pcie.activeHub →
    exec (.pcieConfigWrite 0 port .vfEnable val) s = .next ({ s with pcie := { s.pcie with vfEnable := bit val.toNat 0 } })) ∧
  (∀ (port : Hub) (val : W16) (s : State),
    s.alive = true →
    portActive s port = true →
    port = s.pcie.activeHub →
    exec (.pcieConfigWrite 0 port .vfMse val) s = .next ({ s with pcie := { s.pcie with vfMse := bit val.toNat 0 } })) ∧
  (∀ (port : Hub) (val : W16) (s : State),
    s.alive = true →
    portActive s port = true →
    port = s.pcie.activeHub →
    s.pcie.vfEnable = false →
    val.toNat ≤ 255 →
    exec (.pcieConfigWrite 0 port .numVfs val) s = .next ({ s with pcie := { s.pcie with numVfs := val } })) ∧
  (∀ (fn : Fn) (port : Hub) (field : PcieField) (val : W16) (s : State),
    s.alive = true →
    portActive s port = true →
    port ≠ s.pcie.activeHub →
    ∃ t, exec (.pcieConfigWrite fn port field val) s = .next t ∧ t = { s with pcie := t.pcie } ∧
    t.pcie.activeHub = s.pcie.activeHub ∧ t.pcie.vfEnable = s.pcie.vfEnable ∧ t.pcie.vfMse = s.pcie.vfMse ∧
    t.pcie.numVfs = s.pcie.numVfs ∧ t.pcie.held = s.pcie.held ∧ t.pcie.moving = s.pcie.moving) ∧
  (∀ (fn : Fn) (vec : Fin 2048) (s : State),
    regOpen s fn = true →
    (s.msixEnt (msixKey fn vec)).pend = true →
    (s.fnSt fn).msixEn = true →
    (s.fnSt fn).fnMask = false →
    exec (.msixUnmask fn vec) s = .next (msixSend ((s.updMsixEnt (msixKey fn vec) fun e => { e with mask := false }).updMsixEnt (msixKey fn vec) fun e => { e with pend := false }) fn { s.msixEnt (msixKey fn vec) with mask := false })) ∧
  (∀ (fn : Fn) (vec : Fin 2048) (s : State),
    regOpen s fn = true →
    (s.msixEnt (msixKey fn vec)).pend = false →
    exec (.msixUnmask fn vec) s = .next (s.updMsixEnt (msixKey fn vec) fun e => { e with mask := false })) ∧
  (∀ (fn : Fn) (index : Byte) (s : State),
    doeOpen s fn = true →
    ∃ t, exec (.doeDiscovery fn index) s = .next t ∧ t = { s with fns := t.fns, out := t.out } ∧
    (∀ k, k ≠ fn.val → t.fnSt k = s.fnSt k) ∧ (t.fnSt fn) = { s.fnSt fn with doeRsp := (t.fnSt fn).doeRsp } ∧
    t.out = s.out ++ [.doe fn (t.fnSt fn).doeRsp] ∧ (index.toNat < 2 → (t.fnSt fn).doeRsp = leBytes 4 1 ++
    leBytes 4 3 ++ [1, 0, index, index + 1]) ∧ (index.toNat = 2 → (t.fnSt fn).doeRsp = leBytes 4 1 ++
    leBytes 4 3 ++ [1, 0, 2, 0])) ∧
  (∀ (fn : Fn) (s : State),
    s.alive = true →
    s.dlActive = true →
    s.fnEnabled fn = true →
    exec (.doeAbort fn) s = .next (s.updFnSt fn fun f => { f with doeError := false, doeRsp := [] })) ∧
  (∀ (fn : Fn) (s : State),
    doeOpen s fn = true →
    exec (.doeUnsupportedObject fn) s = .next (s.updFnSt fn fun f => { f with doeError := true }))

/-- A flow goes RESET, INIT, RTR, RTS under R458, stops with BUSY when exhausted, and paces its rate under R452.
For the flow k that the function selects; k is one of the 16,384 flows. RESET goes to INIT with a SOURCE 1 queue of
the wing; else ADDR_RANGE. The checks of RTR pass exactly under these bounds; INIT then goes to RTR at line rate; a
failed check leaves INIT with its code. RTR goes to RTS. Another state refuses. Any state goes to RESET or to ERROR,
its slots being released and the replies of its requests no longer owed. ROCE_ACK_RECEIVE releases the slot of the SEQ
whose reply is posted. ROCE_RETRY_TIMEOUT of a connected flow stops it and raises NET_VECTOR; CNP_RECEIVE halves the
rate, not below 1 Gb/s, when 50 µs have passed; within them nothing; RATE_INCREASE_TIMER adds 40 Gb/s up to line rate.
Cites R453, R456, R457, R458, R452, R455, 14_host_network.md (derived, tier 2). -/
def Obligations.FlowsChangeStateStopAndPace : Prop :=
  (∀ (fn : Fn) (k : Nat) (s : State),
    regOpen s fn = true →
    flowSlot s fn = .ok k →
    k < 16384 →
    (s.flow k).state = .reset →
    flowQueue s (s.flow k) ≠ none →
    exec (.flowModifyInit fn) s = .next (s.setFlow k { (s.flow k) with state := .init })) ∧
  (∀ (fn : Fn) (k : Nat) (s : State),
    regOpen s fn = true →
    flowSlot s fn = .ok k →
    k < 16384 →
    (s.flow k).state = .reset →
    flowQueue s (s.flow k) = none →
    exec (.flowModifyInit fn) s = .next (s.setFlow k { (s.flow k) with reason := rADDR_RANGE })) ∧
  (∀ (fn : Fn) (k : Nat) (s : State),
    (flowRtrChecks (s.flow k) = none ↔ (flPmtu (s.flow k) ≠ 3 ∧ flSlotsLog (s.flow k) ≤ 6 ∧
    1 ≤ flSlotUnits (s.flow k) ∧ flSlotUnits (s.flow k) ≤ 1024 ∧ flReplyUnits (s.flow k) ≤ flSlotUnits (s.flow k) ∧
    (s.flow k).slotBase.toNat % 4096 = 0 ∧ (s.flow k).dgid ≠ 0 ∧ fld (s.flow k).l2.toNat 0 48 ≠ 0 ∧
    (s.flow k).destQpn ≠ 0))) ∧
  (∀ (fn : Fn) (k : Nat) (s : State),
    regOpen s fn = true →
    flowSlot s fn = .ok k →
    k < 16384 →
    (s.flow k).state = .init →
    flowRtrChecks (s.flow k) = none →
    exec (.flowModifyRtr fn) s = .next (s.setFlow k { (s.flow k) with state := .rtr, rate := 800000000000, lastCut := none, lastCnp := none })) ∧
  (∀ (fn : Fn) (k : Nat) (s : State) (code : Byte),
    regOpen s fn = true →
    flowSlot s fn = .ok k →
    k < 16384 →
    (s.flow k).state = .init →
    flowRtrChecks (s.flow k) = some code →
    exec (.flowModifyRtr fn) s = .next (s.setFlow k { (s.flow k) with reason := code })) ∧
  (∀ (fn : Fn) (k : Nat) (s : State),
    regOpen s fn = true →
    flowSlot s fn = .ok k →
    k < 16384 →
    (s.flow k).state = .rtr →
    exec (.flowModifyRts fn) s = .next (s.setFlow k { (s.flow k) with state := .rts })) ∧
  (∀ (fn : Fn) (k : Nat) (s : State),
    regOpen s fn = true →
    flowSlot s fn = .ok k →
    k < 16384 →
    (s.flow k).state ≠ .rtr →
    exec (.flowModifyRts fn) s = .next (s.setFlow k { (s.flow k) with reason := rNOT_PERMITTED })) ∧
  (∀ (fn : Fn) (k : Nat) (s : State),
    regOpen s fn = true →
    flowSlot s fn = .ok k →
    k < 16384 →
    ∃ t, exec (.flowModifyReset fn) s = .next t ∧ t.flow k = { s.flow k with state := .reset, slots := [] } ∧
    (∀ j, j ≠ k → t.flow j = s.flow j) ∧ (∀ r ∈ t.reqs, (∃ x, r.flow = some (Fin.ofNat 16384 k, x)) →
    r.replySup = true) ∧ t = { s with flows := t.flows, reqs := t.reqs, queues := t.queues } ∧
    (∀ q ∈ t.queues, ∀ a ∈ q.2.awaitRead, a.1.val ≠ k)) ∧
  (∀ (fn : Fn) (k : Nat) (s : State),
    regOpen s fn = true →
    flowSlot s fn = .ok k →
    k < 16384 →
    ∃ t, exec (.flowModifyError fn) s = .next t ∧ t.flow k = { s.flow k with state := .error, slots := [] } ∧
    (∀ j, j ≠ k → t.flow j = s.flow j) ∧ t = { s with flows := t.flows, reqs := t.reqs, queues := t.queues }) ∧
  (∀ (flow : FlowIx) (seq : W64) (s : State),
    flowOn s flow = true →
    exec (.roceAckReceive flow seq) s = .next (s.setFlow flow { s.flow flow with slots := (s.flow flow).slots.filter fun t => !(t.2.1 == seq && t.2.2.isSome) })) ∧
  (∀ (flow : FlowIx) (w : WingIx) (s : State),
    s.alive = true →
    (s.flow flow).state = .rts →
    (s.flow flow).owner = some w →
    exec (.roceRetryTimeout flow) s = .next (netVector ((flowDrop s flow).updFlow flow fun x => { x with state := .error, reason := rBUSY }) w)) ∧
  (∀ (flow : FlowIx) (s : State),
    flowOn s flow = true →
    (∀ t, (s.flow flow).lastCut = some t → 50000 ≤ s.now - t) →
    exec (.cnpReceive flow) s = .next (s.setFlow flow { s.flow flow with rate := max 1000000000 ((s.flow flow).rate / 2), lastCut := some s.now })) ∧
  (∀ (flow : FlowIx) (t : Nat) (s : State),
    (s.flow flow).lastCut = some t →
    s.now - t < 50000 →
    exec (.cnpReceive flow) s = .next (s)) ∧
  (∀ (flow : FlowIx) (s : State),
    flowOn s flow = true →
    exec (.rateIncreaseTimer flow) s = .next (s.setFlow flow { s.flow flow with rate := min 800000000000 ((s.flow flow).rate + 40000000000) }))

/-- A SEND is refused, stops its flow or takes its slot and enters the queue; frames are answered, buffered or counted.
Of an unmarked SEND to a connected flow. RNR NAK while queue or wing is not ENABLED; NAK Invalid Request, and ERROR,
for a wrong length; RNR NAK while the slot is held; else the slot is held, the entry passes to the queue and the SEND
is acknowledged. Bytes 64 onward go to the slot at SLOT_BASE + slot × SLOT_BYTES. A packet marked CE first sends one
CNP, at most every 50 µs. An oversized frame, or one of no kind that the port receives, is dropped and counted; an ARP
request or solicitation for another address too, and one for its own is answered. A pause frame is honoured. Each
priority buffers 2 MiB, with XOFF at 1.5 MiB where it is enabled. ETH_PCS_LOCK_CHANGE sets LINK_UP.
Cites R450, R451, R453, R454, R457, R459, 14_host_network.md (derived, tier 2). -/
def Obligations.RoceSendsFillSlotsAndFramesAreCounted : Prop :=
  (∀ (flow : FlowIx) (data : Bytes) (hm : HostMem) (w : WingIx) (q : Nat) (s : State),
    flowOn s flow = true →
    (s.flow flow).owner = some w →
    flowQueue s (s.flow flow) = some q →
    takesEntries s q = false →
    exec (.roceSendReceive flow false data hm) s = .next (s.emit (.net flow .rnrNak []))) ∧
  (∀ (flow : FlowIx) (data : Bytes) (hm : HostMem) (w : WingIx) (q : Nat) (s : State),
    flowOn s flow = true →
    (s.flow flow).owner = some w →
    flowQueue s (s.flow flow) = some q →
    takesEntries s q = true →
    heldUnit s ukFlow flow = false →
    (data.length < 64 ∨ 64 + slotBytes (s.flow flow) < data.length) →
    exec (.roceSendReceive flow false data hm) s = .next (flowStop (s.emit (.net flow .nakInvalid [])) flow rADDR_RANGE)) ∧
  (∀ (flow : FlowIx) (data : Bytes) (hm : HostMem) (w : WingIx) (q : Nat) (s : State),
    flowOn s flow = true →
    (s.flow flow).owner = some w →
    flowQueue s (s.flow flow) = some q →
    takesEntries s q = true →
    heldUnit s ukFlow flow = false →
    64 ≤ data.length ∧ data.length ≤ 64 + slotBytes (s.flow flow) →
    (((s.flow flow).slots.any fun t => t.1 == (leAt data 8 8 % slotCount (s.flow flow))) = true) →
    exec (.roceSendReceive flow false data hm) s = .next (s.emit (.net flow .rnrNak []))) ∧
  (∀ (flow : FlowIx) (data : Bytes) (hm : HostMem) (w : WingIx) (q : Nat) (s : State),
    flowOn s flow = true →
    (s.flow flow).owner = some w →
    flowQueue s (s.flow flow) = some q →
    takesEntries s q = true →
    heldUnit s ukFlow flow = false →
    data.length = 64 →
    (((s.flow flow).slots.any fun t => t.1 == (leAt data 8 8 % slotCount (s.flow flow))) = false) →
    exec (.roceSendReceive flow false data hm) s = .next ((entryArrives (s.updFlow flow fun y => { y with slots := y.slots ++ [((leAt data 8 8 % slotCount (s.flow flow)), BitVec.ofNat 64 (leAt data 8 8), none)] }) (Fin.ofNat 4096 q) w data (some (flow, (leAt data 8 8 % slotCount (s.flow flow)))) hm).emit (.net flow .ack []))) ∧
  (∀ (flow : FlowIx) (data : Bytes) (hm : HostMem) (w : WingIx) (q : Nat) (s : State),
    flowOn s flow = true →
    (s.flow flow).owner = some w →
    flowQueue s (s.flow flow) = some q →
    takesEntries s q = true →
    heldUnit s ukFlow flow = false →
    64 ≤ data.length ∧ data.length ≤ 64 + slotBytes (s.flow flow) →
    (((s.flow flow).slots.any fun t => t.1 == (leAt data 8 8 % slotCount (s.flow flow))) = false) →
    (slotFill s w flow ((s.flow flow).slotBase.toNat + (leAt data 8 8 % slotCount (s.flow flow)) * slotBytes (s.flow flow)) (data.drop 64)).2 = false →
    exec (.roceSendReceive flow false data hm) s = .next ((entryArrives ((slotFill s w flow ((s.flow flow).slotBase.toNat + (leAt data 8 8 % slotCount (s.flow flow)) * slotBytes (s.flow flow)) (data.drop 64)).1.updFlow flow fun y => { y with slots := y.slots ++ [((leAt data 8 8 % slotCount (s.flow flow)), BitVec.ofNat 64 (leAt data 8 8), none)] }) (Fin.ofNat 4096 q) w (data.take 64) (some (flow, (leAt data 8 8 % slotCount (s.flow flow)))) hm).emit (.net flow .ack []))) ∧
  (∀ (flow : FlowIx) (data : Bytes) (hm : HostMem) (s : State),
    flowOn s flow = true →
    (∀ t, (s.flow flow).lastCnp = some t → 50000 ≤ s.now - t) →
    exec (.roceSendReceive flow true data hm) s = exec (.roceSendReceive flow false data hm) ((s.setFlow flow { s.flow flow with lastCnp := some s.now }).emit (.net flow .cnp []))) ∧
  (∀ (port : Fin 2) (x : EthFrame) (s : State),
    s.alive = true →
    (s.eth port).linkUp = true →
    x.free = 0 →
    9216 < x.len →
    exec (.ethFrameReceive port x) s = .next ((rxFree s port x.prio 0).updEth port fun e => { e with drops := satInc e.drops })) ∧
  (∀ (port : Fin 2) (x : EthFrame) (s : State),
    s.alive = true →
    (s.eth port).linkUp = true →
    x.body = .other →
    exec (.ethFrameReceive port x) s = .next ((rxFree s port x.prio x.free).updEth port fun e => { e with drops := satInc e.drops })) ∧
  (∀ (port : Fin 2) (x : EthFrame) (s : State) (ip : BitVec 128) (s2 : State),
    s.alive = true →
    (s.eth port).linkUp = true →
    x.len ≤ 9216 →
    (x.body = .arp ip ∨ x.body = .neighborSolicit ip) →
    answersFor (rxFree s port x.prio x.free) port ip = false →
    exec (.ethFrameReceive port x) s = .next ((rxFree s port x.prio x.free).updEth port fun e => { e with drops := satInc e.drops })) ∧
  (∀ (port : Fin 2) (x : EthFrame) (s : State) (ip : BitVec 128) (s2 : State),
    s.alive = true →
    (s.eth port).linkUp = true →
    x.len ≤ 9216 →
    x.body = .arp ip →
    answersFor (rxFree s port x.prio x.free) port ip = true →
    rxTake (rxFree s port x.prio x.free) port x.prio x.len = some s2 →
    exec (.ethFrameReceive port x) s = .next (s2.emit (.eth port .arpReply ip.toNat))) ∧
  (∀ (port : Fin 2) (x : EthFrame) (s : State),
    s.alive = true →
    (s.eth port).linkUp = true →
    x.len ≤ 9216 →
    x.free = 0 →
    x.body = .pause 3 true →
    (s.eth port).paused = [] →
    ∃ t, exec (.ethFrameReceive port x) s = .next t ∧ (t.eth port).paused = [3] ∧ (t.eth port).drops = (s.eth port).drops) ∧
  (∀ (port : Fin 2) (prio len : Nat) (s : State),
    prio < 8 →
    (Tbl.get 0 (s.eth port).rx prio + len > 2097152 → rxTake s port prio len = none) ∧ (Tbl.get 0 (s.eth port).rx prio + len ≤ 2097152 →
    ∃ t, rxTake s port prio len = some t ∧ Tbl.get 0 (t.eth port).rx prio = Tbl.get 0 (s.eth port).rx prio + len ∧
    (1572864 ≤ Tbl.get 0 (s.eth port).rx prio + len → bit (s.eth port).pfc.toNat prio = true →
    prio ∈ (t.eth port).xoff))) ∧
  (∀ (port : Fin 2) (up : Bool) (s : State),
    s.alive = true →
    exec (.ethPcsLockChange port up) s = .next (s.setEth port { s.eth port with linkUp := up }))

/-- SPDM is negotiated, digests, chains, challenges and measurements are answered, and sessions open, finish and end.
For a DOE that takes objects while the Vault serves. The octets are those of SPDM 1.2 (log entry 31); random ones are
free values. The octets are those of SPDM 1.2 (log entry 31). GET_VERSION answers 1.2; GET_CAPABILITIES and
NEGOTIATE_ALGORITHMS advance the negotiation, with one answer each; then digests and chains of slots 0 and 1, a
challenge signed over the nonce and the answer, and measurement blocks, signed too. A VF of a wing obtains blocks 1 to
8, its wing's and 0xEF, a VF of none 1 to 8. The session's officer role needs mutual authentication of PF0 to the
anchor. A fifth session of a function, or the 257th, gets Busy. FINISH that verifies finishes it; one that does not,
ends it. HEARTBEAT, KEY_UPDATE and END_SESSION act in a finished session.
Cites R445, R469, R475, R476, R477, 15_security.md, R465 (derived, tier 2). -/
def Obligations.AttestationAndSessions : Prop :=
  (∀ (fn : Fn) (s : State),
    doeOpen s fn = true →
    s.vlt.mode ≠ .selfTest →
    vaultServes s = true →
    exec (.getVersion fn) s = .next (doeAnswer (s.updFnSt fn fun f => { f with spdm := .version }) fn (doeObject 1 [0x10, 0x04, 0, 0, 0, 1, 0, 0x12]))) ∧
  (∀ (fn : Fn) (s : State),
    doeOpen s fn = true →
    s.vlt.mode ≠ .selfTest →
    vaultServes s = true →
    (s.fnSt fn).spdm ≠ .none →
    ∃ t, exec (.getCapabilities fn) s = .next t ∧ t = { s with fns := t.fns, out := t.out, freeCtr := t.freeCtr } ∧
    (t.fnSt fn).spdm = .capabilities ∧ (∀ k, k ≠ fn.val → t.fnSt k = s.fnSt k) ∧ t.out = s.out ++
    [.doe fn (t.fnSt fn).doeRsp] ∧ slice (t.fnSt fn).doeRsp 8 2 = [0x12, 0x61]) ∧
  (∀ (fn : Fn) (s : State),
    doeOpen s fn = true →
    s.vlt.mode ≠ .selfTest →
    vaultServes s = true →
    (s.fnSt fn).spdm = .capabilities →
    ∃ t, exec (.negotiateAlgorithms fn) s = .next t ∧ t = { s with fns := t.fns, out := t.out } ∧
    (t.fnSt fn).spdm = .negotiated ∧ (∀ k, k ≠ fn.val → t.fnSt k = s.fnSt k) ∧ t.out = s.out ++
    [.doe fn (t.fnSt fn).doeRsp] ∧ slice (t.fnSt fn).doeRsp 8 2 = [0x12, 0x63]) ∧
  (∀ (fn : Fn) (s : State),
    doeOpen s fn = true →
    s.vlt.mode ≠ .selfTest →
    vaultServes s = true →
    (s.fnSt fn).spdm = .negotiated →
    exec (.getDigests fn) s = .next (doeAnswer s fn (doeObject 1 ([0x12, 0x01, 0, 3] ++ sha384 (chainOf s 0) ++
    sha384 (chainOf s 1))))) ∧
  (∀ (fn : Fn) (slot : Fin 8) (s : State),
    doeOpen s fn = true →
    s.vlt.mode ≠ .selfTest →
    vaultServes s = true →
    (s.fnSt fn).spdm = .negotiated →
    slot.val ≤ 1 →
    exec (.getCertificate fn slot) s = .next (doeAnswer s fn (doeObject 1 ([0x12, 0x02, BitVec.ofNat 8 slot, 0] ++
    leBytes 2 (chainOf s slot).length ++ leBytes 2 0 ++ chainOf s slot)))) ∧
  (∀ (fn : Fn) (slot : Fin 8) (nonce : Bytes) (s : State) (body : Bytes),
    doeOpen s fn = true →
    s.vlt.mode ≠ .selfTest →
    vaultServes s = true →
    (s.fnSt fn).spdm = .negotiated →
    slot.val ≤ 1 →
    body = [0x12, 0x03, BitVec.ofNat 8 slot, BitVec.ofNat 8 (2 ^ slot.val)] ++ sha384 (chainOf s slot) ++
    (s.free 32).1 ++ leBytes 2 0 →
    exec (.challenge fn slot nonce) s = .next (doeAnswer (s.free 32).2 fn (doeObject 1 (body ++
    fitTo 96 (Config.sign (sha384 (fitTo 32 nonce ++ body))))))) ∧
  (∀ (fn : Fn) (index : Byte) (nonce : Bytes) (s : State) (n : Nat) (r body : Bytes),
    doeOpen s fn = true →
    s.vlt.mode ≠ .selfTest →
    vaultServes s = true →
    (s.fnSt fn).spdm = .negotiated →
    index ≠ 0 →
    measRecord s fn index.toNat nonce = some (n, r) →
    body = [0x12, 0x60, 0, 1, BitVec.ofNat 8 n] ++ leBytes 3 r.length ++ r ++ (s.free 32).1 ++
    leBytes 2 0 →
    exec (.getMeasurements fn index nonce) s = .next (doeAnswer (s.free 32).2 fn (doeObject 1 (body ++
    fitTo 96 (Config.sign (sha384 (fitTo 32 nonce ++ body))))))) ∧
  (∀ (s : State) (fn : Fn) (w : WingIx),
    s.fnWing fn = some w →
    fn ≠ 0 →
    measIndices s fn = [1, 2, 3, 4, 5, 6, 7, 8, 16 + w.val] ∧ measSigned s fn = true) ∧
  (∀ (s : State) (fn : Fn),
    s.fnWing fn = none →
    fn ≠ 0 →
    measIndices s fn = [1, 2, 3, 4, 5, 6, 7, 8] ∧ measSigned s fn = false) ∧
  (∀ (fn : Fn) (sid : W32) (anchor : BitVec 384) (both : Bool) (s : State),
    doeOpen s fn = true →
    s.vlt.mode ≠ .selfTest →
    vaultServes s = true →
    (s.fnSt fn).spdm = .negotiated →
    ((s.vlt.sessions.filter fun x => x.fn == fn).length < 4) →
    s.vlt.sessions.length < 256 →
    (((s.vlt.sessions.filter fun x => x.fn == fn).any fun x => x.sid == sid) = false) →
    ∃ t, exec (.keyExchange fn sid anchor both) s = .next t ∧ ∃ x, t.vlt.sessions = s.vlt.sessions ++
    [{ fn := fn, sid := sid, finished := false, officer := both && decide (fn = 0) && decide (anchor = s.vlt.anchor) && decide (anchor ≠ 0), seqNo := 0, secret := x }] ∧
    t.vlt = { s.vlt with sessions := t.vlt.sessions } ∧ t = { s with vlt := t.vlt, fns := t.fns, out := t.out, freeCtr := t.freeCtr } ∧
    (∀ k, k ≠ fn.val → t.fnSt k = s.fnSt k)) ∧
  (∀ (fn : Fn) (sid : W32) (anchor : BitVec 384) (both : Bool) (s : State),
    doeOpen s fn = true →
    s.vlt.mode ≠ .selfTest →
    vaultServes s = true →
    (s.fnSt fn).spdm = .negotiated →
    (4 ≤ (s.vlt.sessions.filter fun x => x.fn == fn).length ∨ 256 ≤ s.vlt.sessions.length) →
    exec (.keyExchange fn sid anchor both) s = .next (doeAnswer s fn (doeObject 1 [0x12, 0x7F, 3, 0]))) ∧
  (∀ (fn : Fn) (sid : W32) (s : State) (x : Session),
    doeOpen s fn = true →
    s.vlt.mode ≠ .selfTest →
    vaultServes s = true →
    (s.fnSt fn).spdm = .negotiated →
    findSession s fn sid = some x →
    x.finished = false →
    exec (.finish fn sid true) s = .next (doeAnswer (updSession s fn sid fun x => { x with finished := true }) fn (doeObject 2 [0x12, 0x65, 0, 0]))) ∧
  (∀ (fn : Fn) (sid : W32) (s : State) (x : Session),
    doeOpen s fn = true →
    s.vlt.mode ≠ .selfTest →
    vaultServes s = true →
    (s.fnSt fn).spdm = .negotiated →
    findSession s fn sid = some x →
    x.finished = false →
    exec (.finish fn sid false) s = .next (doeAnswer (dropSession s fn sid) fn (doeObject 1 [0x12, 0x7F, 6, 0]))) ∧
  (∀ (fn : Fn) (sid : W32) (s : State) (x : Session),
    doeOpen s fn = true →
    s.vlt.mode ≠ .selfTest →
    vaultServes s = true →
    (s.fnSt fn).spdm = .negotiated →
    findSession s fn sid = some x →
    x.finished = true →
    exec (.spdmHeartbeat fn sid) s = .next (doeAnswer (updSession s fn sid fun x => { x with seqNo := x.seqNo + 1 }) fn (doeObject 2 [0x12, 0x68, 0, 0]))) ∧
  (∀ (fn : Fn) (sid : W32) (s : State) (x : Session),
    doeOpen s fn = true →
    s.vlt.mode ≠ .selfTest →
    vaultServes s = true →
    (s.fnSt fn).spdm = .negotiated →
    findSession s fn sid = some x →
    x.finished = true →
    exec (.keyUpdate fn sid) s = .next (doeAnswer (updSession s fn sid fun x => { x with seqNo := 0 }) fn (doeObject 2 [0x12, 0x69, 0, 0]))) ∧
  (∀ (fn : Fn) (sid : W32) (s : State) (x : Session),
    doeOpen s fn = true →
    s.vlt.mode ≠ .selfTest →
    vaultServes s = true →
    (s.fnSt fn).spdm = .negotiated →
    findSession s fn sid = some x →
    x.finished = true →
    exec (.endSession fn sid) s = .next (doeAnswer (dropSession s fn sid) fn (doeObject 2 [0x12, 0x6C, 0, 0])))

/-- An officer programs IDE streams; a TDI is locked, started and stopped by its tenant, and an insecure stream puts it
into ERROR.
The octets are those of IDE_KM and TDISP (log entry 31). IDE_KEY_PROGRAM adds one of the six keys of a set; K_SET_GO
of a full set switches to it, and the stream is secure. IDE_INTEGRITY_FAILURE makes it Insecure, and raises one alarm.
LOCK_INTERFACE of a wing's host function that a stream covers, and of no other, START_INTERFACE of a locked one,
STOP_INTERFACE of any, which regenerates the wing's root, and GET_DEVICE_INTERFACE_REPORT. Each TDISP state change is
one record of the log.
Cites R467, R472, R478, R479, R480, R481, 15_security.md (derived, tier 2). -/
def Obligations.IdeStreamsAndTdispInterfaces : Prop :=
  (∀ (fn : Fn) (stream : Fin 9) (keySet : Fin 2) (sub : Fin 6) (vf : Fn) (s : State),
    doeOpen s fn = true →
    s.vlt.mode ≠ .selfTest →
    vaultServes s = true →
    (s.fnSt fn).spdm = .negotiated →
    isOfficer s fn = true →
    stream.val < 8 →
    ∃ t, exec (.ideKeyProgram fn stream keySet sub vf) s = .next t ∧ sub.val ∈ (if keySet = 0 then (t.ide stream).keys0 else (t.ide stream).keys1) ∧
    (if keySet = 0 then (t.ide stream).keys1 = (s.ide stream).keys1 else (t.ide stream).keys0 = (s.ide stream).keys0) ∧
    (t.ide stream).vf = some vf ∧ (t.ide stream).secure = (s.ide stream).secure ∧ (∀ k, k ≠ stream.val →
    t.ide k = s.ide k) ∧ t = { s with vlt := t.vlt, fns := t.fns, out := t.out }) ∧
  (∀ (fn : Fn) (stream : Fin 9) (keySet : Fin 2) (s : State),
    doeOpen s fn = true →
    s.vlt.mode ≠ .selfTest →
    vaultServes s = true →
    (s.fnSt fn).spdm = .negotiated →
    isOfficer s fn = true →
    (if keySet = 0 then (s.ide stream).keys0 else (s.ide stream).keys1).length = 6 →
    ∃ t, exec (.kSetGo fn stream keySet) s = .next t ∧ t.ide stream = { s.ide stream with cur := some (decide (keySet = 1)), secure := true } ∧
    (∀ k, k ≠ stream.val → t.ide k = s.ide k)) ∧
  (∀ (stream : Fin 9) (s : State),
    (s.ide stream).secure = true →
    s.alive = true →
    exec (.ideIntegrityFailure stream) s = .next (alarm (ideInsecure s stream) 0x0502 0xFF (16 + s.pcie.activeHub) stream 0 0 0)) ∧
  (∀ (fn : Fn) (stream : Fin 8) (s : State) (w : WingIx),
    doeOpen s fn = true →
    s.vlt.mode ≠ .selfTest →
    vaultServes s = true →
    (s.fnSt fn).spdm = .negotiated →
    isTenantUser s fn = true →
    (s.tdi fn).state = .unlocked →
    s.fnWing fn = some w →
    s.hostFn w = some fn.val →
    streamCovers s stream fn = true →
    logFull s = false →
    exec (.lockInterface fn stream) s = .next (tdispSend (((tdiSet s fn .locked).free 32).2.updTdi fn fun t => { t with stream := some stream.val }) fn 3 ((tdiSet s fn .locked).free 32).1)) ∧
  (∀ (fn : Fn) (stream : Fin 8) (s : State),
    doeOpen s fn = true →
    s.vlt.mode ≠ .selfTest →
    vaultServes s = true →
    (s.fnSt fn).spdm = .negotiated →
    isTenantUser s fn = true →
    (s.tdi fn).state = .unlocked →
    streamCovers s stream fn = false →
    exec (.lockInterface fn stream) s = .next (tdispSend s fn 0x7F (leBytes 4 1 ++ leBytes 4 0))) ∧
  (∀ (fn : Fn) (s : State),
    doeOpen s fn = true →
    s.vlt.mode ≠ .selfTest →
    vaultServes s = true →
    (s.fnSt fn).spdm = .negotiated →
    isTenantUser s fn = true →
    (s.tdi fn).state = .locked →
    logFull s = false →
    exec (.startInterface fn) s = .next (tdispSend (tdiSet s fn .run) fn 6 [])) ∧
  (∀ (fn : Fn) (s : State),
    doeOpen s fn = true →
    s.vlt.mode ≠ .selfTest →
    vaultServes s = true →
    (s.fnSt fn).spdm = .negotiated →
    isTenantUser s fn = true →
    (s.tdi fn).state ≠ .unlocked →
    logFull s = false →
    exec (.stopInterface fn) s = .next (tdispSend (tdiUnlock s fn) fn 7 [])) ∧
  (∀ (fn : Fn) (s : State),
    doeOpen s fn = true →
    s.vlt.mode ≠ .selfTest →
    vaultServes s = true →
    (s.fnSt fn).spdm = .negotiated →
    isTenantUser s fn = true →
    ∃ t, exec (.getDeviceInterfaceReport fn) s = .next t ∧ t = { s with fns := t.fns, out := t.out } ∧
    (∀ k, k ≠ fn.val → t.fnSt k = s.fnSt k) ∧ t.out = s.out ++ [.doe fn (t.fnSt fn).doeRsp]) ∧
  (∀ (s : State) (vf : Nat) (x : TdiState),
    logFull s = false →
    (s.tdi vf).state ≠ x →
    ((tdiSet s vf x).tdi vf).state = x ∧ (∀ k, k ≠ vf → (tdiSet s vf x).tdi k = s.tdi k) ∧
    (tdiSet s vf x).log.next = s.log.next + 1)

/-- Vault status, self-test, key import by officer or tenant, and zeroization.
Log entry 36: the self-test passes at once. VAULT_STATUS answers 32 B. No service is given in ERROR. VAULT_SELFTEST
records its time. VAULT_KEY_IMPORT of a tenant key that passes its checks stores it, regenerates the wing's root and
answers the key ID; of a pair key, stores it. A failed check changes nothing. VAULT_ZEROIZE of a wing, of every key,
and of the module, which answers first and resets at level 4. A zeroized wing holds no tenant key and is DISABLED; a
zeroized module holds no key.
Cites R463, R465, R468, R472, R473, R482, R484, R492, 15_security.md (derived, tier 2). -/
def Obligations.TheVaultServesItsOfficerAndTenants : Prop :=
  (∀ (fn : Fn) (hub : Hub) (tag : W32) (wing : Byte) (p : Bytes) (c : Cmd) (s : State),
    c = sentCmd s 0x0601 fn hub tag wing p →
    accepts s c →
    wing = 0xFF#8 →
    vaultServes s = true →
    exec (.vaultStatus fn hub tag wing p) s = .next (scpFinish (s) c rOK (vaultPayload s fn))) ∧
  (∀ (fn : Fn) (hub : Hub) (tag : W32) (wing : Byte) (p : Bytes) (c : Cmd) (s : State),
    c = sentCmd s 0x0601 fn hub tag wing p →
    accepts s c →
    wing = 0xFF#8 →
    vaultServes s = false →
    exec (.vaultStatus fn hub tag wing p) s = .next (scpFinish (s) c rINTERNAL ([]))) ∧
  (∀ (fn : Fn) (hub : Hub) (tag : W32) (wing : Byte) (p : Bytes) (c : Cmd) (s : State),
    c = sentCmd s 0x0602 fn hub tag wing p →
    accepts s c →
    wing = 0xFF#8 →
    isOfficer s fn = true →
    vaultServes s = true →
    longFull s = false →
    exec (.vaultSelftest fn hub tag wing p) s = .next (scpFinish (s.updVlt fun v => { v with lastTest := s.now }) c rOK (vaultPayload (s.updVlt fun v => { v with lastTest := s.now }) fn))) ∧
  (∀ (fn : Fn) (hub : Hub) (tag : W32) (wing : Byte) (p : Bytes) (c : Cmd) (s : State) (key : Bytes),
    c = sentCmd s 0x0603 fn hub tag wing p →
    accepts s c →
    firstFail (importChecks s c) = none →
    importedKey s c = some key →
    leAt p 0 1 = 0 →
    exec (.vaultKeyImport fn hub tag wing p) s = .next (scpFinish (scpCommit (regenWing (s.updWing wing.toNat fun x => { x with tk := some key }) wing.toNat) c) c rOK ((sha384 (ascii "HX20 KEY ID" ++
    key)).take 16))) ∧
  (∀ (fn : Fn) (hub : Hub) (tag : W32) (wing : Byte) (p : Bytes) (c : Cmd) (s : State) (key : Bytes),
    c = sentCmd s 0x0603 fn hub tag wing p →
    accepts s c →
    firstFail (importChecks s c) = none →
    importedKey s c = some key →
    leAt p 0 1 = 1 →
    exec (.vaultKeyImport fn hub tag wing p) s = .next (scpFinish (scpCommit (s.updPar fun x => { x with pk := some key }) c) c rOK ((sha384 (ascii "HX20 KEY ID" ++
    key)).take 16))) ∧
  (∀ (fn : Fn) (hub : Hub) (tag : W32) (wing : Byte) (p : Bytes) (c : Cmd) (s : State) (code : Byte),
    c = sentCmd s 0x0603 fn hub tag wing p →
    accepts s c →
    firstFail (importChecks s c) = some code →
    exec (.vaultKeyImport fn hub tag wing p) s = .next (scpFinish s c code [])) ∧
  (∀ (fn : Fn) (hub : Hub) (tag : W32) (wing : Byte) (p : Bytes) (c : Cmd) (s : State),
    c = sentCmd s 0x0604 fn hub tag wing p →
    accepts s c →
    wing.toNat < 16 →
    zeroAt p 1 3 = true →
    leAt p 0 1 = 0 →
    isOfficer s fn = true →
    vaultServes s = true →
    longFull s = false →
    zeroizeWaits s 0 wing.toNat = false →
    exec (.vaultZeroize fn hub tag wing p) s = .next (scpFinish (zeroizeWing (scpCommit s c) wing.toNat) c rOK ([]))) ∧
  (∀ (fn : Fn) (hub : Hub) (tag : W32) (wing : Byte) (p : Bytes) (c : Cmd) (s : State),
    c = sentCmd s 0x0604 fn hub tag wing p →
    accepts s c →
    wing = 0xFF#8 →
    zeroAt p 1 3 = true →
    leAt p 0 1 = 1 →
    isOfficer s fn = true →
    vaultServes s = true →
    longFull s = false →
    zeroizeWaits s 1 wing.toNat = false →
    exec (.vaultZeroize fn hub tag wing p) s = .next (scpFinish (zeroizeKeys (scpCommit s c)) c rOK ([]))) ∧
  (∀ (fn : Fn) (hub : Hub) (tag : W32) (wing : Byte) (p : Bytes) (c : Cmd) (s : State),
    c = sentCmd s 0x0604 fn hub tag wing p →
    accepts s c →
    wing = 0xFF#8 →
    zeroAt p 1 3 = true →
    leAt p 0 1 = 2 →
    isOfficer s fn = true →
    vaultServes s = true →
    longFull s = false →
    exec (.vaultZeroize fn hub tag wing p) s = .next (assertSource (zeroizeAll (scpFinish (scpCommit s c) c rOK [])) 11 4)) ∧
  (∀ (s : State) (w : Nat),
    w < 16 →
    ((zeroizeWing s w).wing w).tk = none ∧ ((zeroizeWing s w).wing w).state = .disabled) ∧
  (∀ (s : State),
    (∀ w, w < 16 → ((zeroizeAll s).wing w).tk = none ∧ ((zeroizeAll s).wing w).wr = []) ∧
    (zeroizeAll s).par.pk = none ∧ (zeroizeAll s).vlt.dk = [] ∧ (zeroizeAll s).vlt.sessions = [] ∧
    (∀ k, ((zeroizeAll s).ext k).key0 = none ∧ ((zeroizeAll s).ext k).key1 = none))

/-- LOG_READ answers held records, LOG_EXPORT writes a signed bundle, LOG_ACK frees exported records.
LOG_READ answers the records from FIRST that are written. LOG_EXPORT writes the bundle and notes the range; the size
of one without ML-DSA is 224 + 192 × COUNT. LOG_ACK frees the records up to SEQ, then appends its own; below the
oldest it frees nothing, and appends its own where the log has room (the model's choice, log entry 44); of records never exported, NOT_PERMITTED.
Cites R77, R487, R488, R489, R490, 15_security.md (derived, tier 2). -/
def Obligations.TheAccessionLogIsReadExportedAndFreed : Prop :=
  (∀ (fn : Fn) (hub : Hub) (tag : W32) (wing : Byte) (p : Bytes) (c : Cmd) (s : State) (rs : List Bytes),
    c = sentCmd s 0x0605 fn hub tag wing p →
    accepts s c →
    wing = 0xFF#8 →
    zeroAt p 10 6 = true →
    1 ≤ leAt p 8 2 →
    leAt p 8 2 ≤ 21 →
    s.log.oldest.toNat ≤ leAt p 0 8 →
    leAt p 0 8 < s.log.next.toNat →
    rs = (s.log.recs.drop (leAt p 0 8 - s.log.oldest.toNat)).take (leAt p 8 2) →
    exec (.logRead fn hub tag wing p) s = .next (scpFinish (s) c rOK (leBytes 8 (leAt p 0 8) ++
    leBytes 2 rs.length ++ List.replicate 6 0#8 ++ leBytes 8 s.log.oldest.toNat ++ leBytes 8 s.log.next.toNat ++
    rs.flatten))) ∧
  (∀ (fn : Fn) (hub : Hub) (tag : W32) (wing : Byte) (p : Bytes) (c : Cmd) (s : State) (s1 : State),
    c = sentCmd s 0x0606 fn hub tag wing p →
    accepts s c →
    wing = 0xFF#8 →
    isOfficer s fn = true →
    leAt p 12 1 = 0 →
    zeroAt p 13 3 = true →
    1 ≤ leAt p 8 4 →
    leAt p 8 4 ≤ 1048576 →
    s.log.oldest.toNat ≤ leAt p 0 8 →
    leAt p 0 8 + leAt p 8 4 ≤ s.log.next.toNat →
    leAt p 16 8 % 4096 = 0 →
    224 + 192 * leAt p 8 4 ≤ leAt p 24 8 →
    vaultServes s = true →
    longFull s = false →
    s1 = hostWrite s 0 (BitVec.ofNat 64 (leAt p 16 8)) (logBundle s (leAt p 0 8) (leAt p 8 4) false) →
    exec (.logExport fn hub tag wing p) s = .next (scpFinish ({ s1 with log := { s1.log with exported := s1.log.exported ++ [(leAt p 0 8, leAt p 0 8 + leAt p 8 4 - 1)] } }) c rOK (leBytes 8 (224 + 192 * leAt p 8 4)))) ∧
  (∀ (fn : Fn) (hub : Hub) (tag : W32) (wing : Byte) (p : Bytes) (c : Cmd) (s : State) (q : Nat),
    c = sentCmd s 0x0607 fn hub tag wing p →
    accepts s c →
    wing = 0xFF#8 →
    q = leAt p 0 8 →
    q < s.log.next.toNat →
    s.log.oldest.toNat ≤ q →
    ((s.log.exported.any fun x => decide (x.1 ≤ q) && decide (q ≤ x.2)) = true) →
    exec (.logAck fn hub tag wing p) s = .next (scpFinish (scpCommit { s with log := { s.log with recs := s.log.recs.drop (q + 1 - s.log.oldest.toNat), oldest := BitVec.ofNat 64 (q + 1), base := chainBefore s (q + 1) } } c) c rOK (leBytes 8 (q + 1 - s.log.oldest.toNat)))) ∧
  (∀ (fn : Fn) (hub : Hub) (tag : W32) (wing : Byte) (p : Bytes) (c : Cmd) (s : State),
    c = sentCmd s 0x0607 fn hub tag wing p →
    accepts s c →
    wing = 0xFF#8 →
    leAt p 0 8 < s.log.oldest.toNat →
    leAt p 0 8 < s.log.next.toNat →
    ((s.log.exported.any fun x => decide (x.1 ≤ leAt p 0 8) && decide (leAt p 0 8 ≤ x.2)) = true) →
    exec (.logAck fn hub tag wing p) s = .next (scpFinish (if logFull s then s else scpCommit s c) c rOK (leBytes 8 0))) ∧
  (∀ (fn : Fn) (hub : Hub) (tag : W32) (wing : Byte) (p : Bytes) (c : Cmd) (s : State),
    c = sentCmd s 0x0607 fn hub tag wing p →
    accepts s c →
    wing = 0xFF#8 →
    leAt p 0 8 < s.log.next.toNat →
    ((s.log.exported.any fun x => decide (x.1 ≤ leAt p 0 8) && decide (leAt p 0 8 ≤ x.2)) = false) →
    exec (.logAck fn hub tag wing p) s = .next (scpFinish (s) c rNOT_PERMITTED ([])))

/-- A mode request zeroizes, a tamper trip destroys every key and resets, and a copy goes stale and is restored.
MODE_REQ 1 by the officer takes the module to NON_APPROVED without tenant or pair key; 0 through SELF_TEST to
APPROVED; both are ignored while a wing with APPROVED_ONLY is ENABLED. VAULT_LINK_LOSS makes the other copy stale,
VAULT_LINK_RESTORE restores it. TAMPER_TRIP zeroizes every key, latches its sensor, asserts ALERT# and the tamper
reset source. Only the officer's TAMPER_CLEAR, which is logged, clears its bits. ENTROPY_HEALTH_FAIL takes the module
to ERROR.
Cites R463, R467, R472, R482, R483, R486, 15_security.md (derived, tier 2). -/
def Obligations.ModesTamperAndTheVaultLink : Prop :=
  (∀ (s : State),
    regOpen s 0 = true →
    isOfficer s 0 = true →
    (((List.range 16).any fun w => bit (s.wing w).live.policy.toNat 3 && decide ((s.wing w).state = .enabled)) = false) →
    vaultServes s = true →
    canLog s 0 →
    ∃ t, exec (.modeReqNonApproved 0) s = .next t ∧ t.vlt.mode = .nonApproved ∧ t.vlt.modeReq = true ∧
    t.par.pk = none ∧ (∀ w, w < 16 → (t.wing w).tk = none)) ∧
  (∀ (s : State),
    regOpen s 0 = true →
    isOfficer s 0 = true →
    (((List.range 16).any fun w => bit (s.wing w).live.policy.toNat 3 && decide ((s.wing w).state = .enabled)) = false) →
    vaultServes s = true →
    s.fw.unlock = false →
    s.vlt.selftestFail = 0 →
    canLog s 0 →
    ∃ t, exec (.modeReqApproved 0 0) s = .next t ∧ t.vlt.mode = .approved ∧ t.vlt.modeReq = false ∧
    t.par.pk = none ∧ (∀ w, w < 16 → (t.wing w).tk = none)) ∧
  (∀ (s : State) (fails : Byte) (w : Nat),
    regOpen s 0 = true →
    w < 16 →
    bit (s.wing w).live.policy.toNat 3 = true →
    (s.wing w).state = .enabled →
    exec (.modeReqNonApproved 0) s = .next (ignoredWrite s 0 0xFF 0x120004 4 (b2n s.vlt.modeReq) 1) ∧ exec (.modeReqApproved 0 fails) s = .next (ignoredWrite s 0 0xFF 0x120004 4 (b2n s.vlt.modeReq) 0)) ∧
  (∀ (s : State),
    s.vlt.sync = true →
    exec (.vaultLinkLoss) s = .next (s.updVlt fun v => { v with linkUp := false, sync := false, copy := Fin.ofNat 2 (servingHub s) })) ∧
  (∀ (s : State),
    s.vlt.mode ≠ .selfTest →
    exec (.vaultLinkRestore) s = .next (s.updVlt fun v => { v with linkUp := true, sync := true })) ∧
  (∀ (sensor : Fin 4) (s s1 : State),
    s.rst.pwrOk = true →
    (s1 = (zeroizeAll s).updVlt fun v => { v with tamper := BitVec.ofNat 32 ((if s.vlt.tamper.toNat / 65536 < 0xFFFF then s.vlt.tamper.toNat / 65536 + 1 else 0xFFFF) * 65536 + (fld s.vlt.tamper.toNat 0 5 ||| 1 ||| 2 ^ (sensor.val + 1))) }) →
    exec (.tamperTrip sensor) s = .next (assertSource (setAlert (alarm s1 0x0602 0xFF (16 + servingHub s) s1.vlt.tamper.toNat 0 0 0) 4 true) 9 7)) ∧
  (∀ (bits : BitVec 5) (s : State),
    regOpen s 0 = true →
    isOfficer s 0 = true →
    canLog s 0 →
    ∃ t, exec (.tamperClear 0 bits) s = .next t ∧ t.vlt.tamper = s.vlt.tamper &&& ~~~(bits.setWidth 32) ∧
    t.log.next = s.log.next + 1) ∧
  (∀ (bits : BitVec 5) (s : State),
    regOpen s 0 = true →
    isOfficer s 0 = false →
    exec (.tamperClear 0 bits) s = .next (ignoredWrite s 0 0xFF 0x120008 4 s.vlt.tamper.toNat (s.vlt.tamper &&& ~~~(bits.setWidth 32)).toNat)) ∧
  (∀ (s : State),
    s.alive = true →
    s.vlt.mode ≠ .error →
    exec (.entropyHealthFail) s = .next (vaultError (s.updVlt fun v => { v with selftestFail := v.selftestFail ||| 0x20#8 }))) ∧
  (∀ (s : State),
    (vaultError s).vlt.mode = .error ∧ (s.vlt.mode ≠ .error → ∀ k, ((vaultError s).ext k).key0 = none ∧
    ((vaultError s).ext k).key1 = none))

/-- PERST#, hot reset, FLR of PF0, the device watchdog and the partner each assert their source; the map gives the level.
A source is counted, and performs its level when no reset, or a lower one, is in progress. A mapped level begins at
once; during one as high it is absorbed; a higher one escalates. NONE counts only; AS_REQUESTED performs the level
that was asked for. Without an override the fused table holds. The ember domain is kept, and RST_LAST names source and
level. An override that is not allowed is ignored; an allowed one is logged and holds.
Cites R493, R494, R496, R497, R498, R506, R430 (derived, tier 2). -/
def Obligations.DeviceResetsComeFromTheirSources : Prop :=
  (∀ (s : State),
    exec (.perst) s = .next (assertSource { s with rst := { s.rst with perst := true } } 1 7)) ∧
  (∀ (s : State),
    exec (.hotReset) s = .next (assertSource s 2 7)) ∧
  (∀ (s : State),
    exec (.flrPf0) s = .next (assertSource s 3 7)) ∧
  (∀ (s : State),
    exec (.deviceWdog) s = .next (assertSource s 7 7)) ∧
  (∀ (s : State) (src asked v : Nat),
    src < 12 →
    mapValue s src = v →
    3 ≤ v ∧ v ≤ 5 →
    s.rst.level = none →
    assertSource s src asked = resetBegins (countSource s src) v src) ∧
  (∀ (s : State) (src asked v l : Nat),
    src < 12 →
    mapValue s src = v →
    v ≤ 5 →
    s.rst.level = some l →
    v ≤ l →
    assertSource s src asked = countSource s src) ∧
  (∀ (s : State) (src asked v l : Nat),
    src < 12 →
    mapValue s src = v →
    v ≤ 5 →
    3 ≤ l →
    s.rst.level = some l →
    l < v →
    s.rst.pwrOk = true →
    assertSource s src asked = resetBegins (countSource s src) v src) ∧
  (∀ (s : State) (src asked : Nat),
    src < 12 →
    mapValue s src = 6 →
    assertSource s src asked = countSource s src) ∧
  (∀ (s : State) (src asked : Nat),
    src < 12 →
    mapValue s src = 7 →
    3 ≤ asked ∧ asked ≤ 5 →
    s.rst.level = none →
    assertSource s src asked = resetBegins (countSource s src) asked src) ∧
  (∀ (s : State) (src : Nat),
    src < 12 →
    Tbl.get RstMap.init s.rst.map src = RstMap.init →
    mapValue s src = [5, 4, 3, 3, 6, 0, 6, 3, 4, 5, 7, 7].getD src 6) ∧
  (∀ (s : State) (level src : Nat),
    3 ≤ level ∧ level ≤ 5 →
    src < 12 →
    (resetBegins s level src).rst.level = some level ∧ (resetBegins s level src).rst.source = src ∧
    (resetBegins s level src).rst.last = BitVec.ofNat 32 (src * 4096 + level * 256) ∧ (resetBegins s level src).rst.boot = s.rst.boot ∧
    (resetBegins s level src).rst.count = s.rst.count ∧ (resetBegins s level src).rst.map = s.rst.map ∧
    (resetBegins s level src).plinth = s.plinth ∧ (resetBegins s level src).par.term = s.par.term ∧
    (resetBegins s level src).vlt.tamper = s.vlt.tamper) ∧
  (∀ (fn : Fn) (src : Fin 16) (val : W32) (s : State),
    regOpen s 0 = true →
    src.val < 12 →
    s.fw.quarantine = false →
    bit val.toNat 11 = true →
    bit (allowedMask.getD src.val 0) (fld val.toNat 8 3) = false →
    exec (.rstMapWrite 0 src val) s = .next (ignoredWrite s 0 0xFF (0x140040 + 4 * src.val) 4 (rstMapReg s src) (rstMapReg (archived { s with rst := { s.rst with map := Tbl.set RstMap.init s.rst.map src { en := true, value := fld val.toNat 8 3 } } }) src))) ∧
  (∀ (src : Fin 16) (val : W32) (s : State),
    regOpen s 0 = true →
    src.val < 12 →
    s.fw.quarantine = false →
    (bit val.toNat 11 = true → bit (allowedMask.getD src.val 0) (fld val.toNat 8 3) = true) →
    canLog s 0 →
    ∃ t, exec (.rstMapWrite 0 src val) s = .next t ∧ Tbl.get RstMap.init t.rst.map src = { en := bit val.toNat 11, value := fld val.toNat 8 3 } ∧
    (∀ k, k ≠ src.val → mapValue t k = mapValue s k) ∧ t.log.next = s.log.next + 1)

/-- Every level ends requests and bindings; level 3 keeps log, keys, quarantine and DRAM contents, levels 4 and 5 do not.
Of the state as a reset of a level leaves it. What a level clears of the units that the table does not list is the
model's reading of it (log entry 42). Level 3 marks every bindable extent clear-pending. PWR_OK_FALL and RAIL_FAULT
clear as level 5; POWER_ON samples the straps, is counted and holds level 5; EMBER_POWER_LOSS loses the ember domain
only. RESET_RELEASE writes the plinth's next term and counts boots of levels 4 and 5; not while THERMTRIP# is
asserted. BOOT_COMPLETE ends the self-test and sets READY; the hub that the plinth names claims, the other shadows.
Cites R44, R349, R487, R495, R503, R504, R543, 16_reset_clocks_power.md (derived, tier 2). -/
def Obligations.LevelsKeepAndClearAsTheTableSays : Prop :=
  (∀ (s : State) (level : Nat),
    3 ≤ level ∧ level ≤ 5 →
    (cleared s level).reqs = [] ∧ (cleared s level).queues = [] ∧ (cleared s level).images = [] ∧
    (cleared s level).tables = [] ∧ (cleared s level).mbx = [] ∧ (cleared s level).sp = [] ∧
    (∀ w, ((cleared s level).wing w).state = .disabled ∧ ((cleared s level).wing w).tenant = false) ∧
    (∀ h, ((cleared s level).half h).owner = none ∧ ((cleared s level).half h).gen = 0) ∧
    (∀ e, e < 384 → ((cleared s level).ext e).owner = none ∧ ((cleared s level).ext e).gen = 0) ∧
    (∀ h, ((cleared s level).hub h).auth = .booting ∧ ((cleared s level).hub h).ready = false)) ∧
  (∀ (s : State),
    Tbl.wf Wing.init s.wings = true →
    Tbl.wf UnitSt.init s.units = true →
    (cleared s 3).log.next = s.log.next ∧ (cleared s 3).log.recs = s.log.recs ∧ (cleared s 3).log.chain = s.log.chain ∧
    (cleared s 3).dram = s.dram ∧ (cleared s 3).vlt.dk = s.vlt.dk ∧ (cleared s 3).par.pk = s.par.pk ∧
    (∀ w, ((cleared s 3).wing w).wr = (s.wing w).wr ∧ ((cleared s 3).wing w).tk = (s.wing w).tk ∧
    ((cleared s 3).wing w).lastSeq = (s.wing w).lastSeq) ∧ (∀ u, ((cleared s 3).unit u).quarantined = (s.unit u).quarantined ∧
    ((cleared s 3).unit u).replaced = (s.unit u).replaced) ∧ (∀ e, e < 384 → isExt47 e = false →
    ((cleared s 3).ext e).clearPending = true) ∧ (cleared s 3).vnt.alarms = s.vnt.alarms ∧
    (cleared s 3).vnt.logs = s.vnt.logs ∧ (∀ d, d < 40 → ((cleared s 3).doc d).state = (if (s.unit (40 + d)).quarantined then .quarantined else .idle))) ∧
  (∀ (s : State) (level : Nat),
    (level = 4 ∨ level = 5) →
    (cleared s level).log.next = 0 ∧ (cleared s level).log.recs = [] ∧ (cleared s level).dram = [] ∧
    (cleared s level).lines = [] ∧ (cleared s level).vlt.dk = [] ∧ (cleared s level).par.pk = none ∧
    (∀ w, ((cleared s level).wing w).wr = [] ∧ ((cleared s level).wing w).tk = none) ∧ (∀ u, (cleared s level).unit u = UnitSt.init) ∧
    (cleared s level).vnt.alarms = [] ∧ (cleared s level).vnt.logs = []) ∧
  (∀ (s : State),
    exec (.pwrOkFall) s = .next (powerDown s false)) ∧
  (∀ (s : State),
    s.rst.pwrOk = true →
    exec (.railFault) s = .next (powerDown s true)) ∧
  (∀ (s : State) (l : Bool),
    (powerDown s l).rst.level = some 5 ∧ (powerDown s l).rst.pwrOk = false ∧ (powerDown s l).rst.railLatch = l ∧
    (powerDown s l).reqs = [] ∧ (powerDown s l).plinth = s.plinth ∧ (powerDown s l).rst.boot = s.rst.boot) ∧
  (∀ (straps : BitVec 4) (s : State),
    s.rst.pwrOk = false →
    s.rst.railLatch = false →
    ∃ t, exec (.powerOn straps) s = .next t ∧ t.rst.pwrOk = true ∧ t.rst.straps = straps ∧
    t.rst.level = some 5 ∧ t.rst.source = 0 ∧ t.rst.last = 0x500 ∧ Tbl.get 0 t.rst.count 0 = satInc (Tbl.get 0 s.rst.count 0) ∧
    t.plinth = s.plinth ∧ t.rst.boot = s.rst.boot) ∧
  (∀ (s : State),
    ∃ t, exec (.emberPowerLoss) s = .next t ∧ t.plinth.term = 0 ∧ t.plinth.beat = 0 ∧ t.par.term = 0 ∧
    t.rst.boot = 0 ∧ (∀ k, Tbl.get 0 t.rst.count k = 0) ∧ (∀ k, mapValue t k = factoryMap.getD k 6) ∧
    t.vlt.tamper = 0 ∧ t.fw.fails = 0 ∧ t.dram = s.dram ∧ t.reqs = s.reqs ∧ t.wings = s.wings) ∧
  (∀ (imageOk archiveOk : Bool) (bad : List (Fin 31)) (s : State) (l : Nat),
    s.rst.level = some l →
    3 ≤ l ∧ l ≤ 5 →
    s.rst.pwrOk = true →
    s.rst.railLatch = false →
    s.rst.thermtrip = false →
    ∃ t, exec (.resetRelease imageOk archiveOk bad) s = .next t ∧ t.rst.level = none ∧ t.plinth.term = (if s.plinth.term = 0xFFFFFFFF then 1 else s.plinth.term + 1) ∧
    t.plinth.beat = 0 ∧ t.plinth.holder = 0 ∧ t.rst.boot = (if 4 ≤ l then s.rst.boot + 1 else s.rst.boot) ∧
    (4 ≤ l → t.clk.units = List.replicate 20 0) ∧ t.rst.count = s.rst.count) ∧
  (∀ (imageOk archiveOk : Bool) (bad : List (Fin 31)) (s : State),
    s.rst.thermtrip = true →
    exec (.resetRelease imageOk archiveOk bad) s = .next (s)) ∧
  (∀ (h : Hub) (s : State),
    s.alive = true →
    (s.hub h).auth = .booting →
    (s.hub h).mains = true →
    s.vlt.mode = .selfTest →
    s.plinth.holder ≠ h →
    ∃ t, exec (.bootComplete h true 0 true) s = .next t ∧ (t.hub h).auth = .shadow ∧ (t.hub h).ready = true ∧
    t.vlt.mode = .approved ∧ t.vlt.selftestFail = 0 ∧ t.vlt.lastTest = s.now) ∧
  (∀ (s : State),
    s.alive = true →
    (s.hub s.plinth.holder).auth = .booting →
    (s.hub s.plinth.holder).mains = true →
    ∃ t, exec (.bootComplete s.plinth.holder true 0 true) s = .next t ∧ (t.hub s.plinth.holder).auth = .claiming ∧
    (t.hub s.plinth.holder).ready = true ∧ t.fw.booted = true)

/-- A block reset of a wing, half-cell or cell is logged, drains, aborts late requests, scrubs and answers; FLR and
watchdog.
A request that never started ends with STALE_BINDING at level 0 (log entry 33). WING_RESET begins level 0 of the wing,
RESET_REQUEST level 1 or 2 of its target; level 3 or 4 answers first. BLOCK_RESET_IDLE of an idle half-cell or cell
scrubs it, flushes, logs and answers; of a wing without requests, its half-cells, and the level's effects follow.
Level 0 disables wing, queues and rings, drops its images and resets its flows. BLOCK_RESET_IDLE_TIMEOUT aborts what
still runs, with one alarm. FLR_VF resets the VF, its TDI, and at map value 0 its wing. CURATOR_WDOG returns the hub
to BOOTING and counts.
Cites R472, R496, R497, R499, R500, R501, R502, 16_reset_clocks_power.md (derived, tier 2). -/
def Obligations.BlockResetsStopScrubAndAnswer : Prop :=
  (∀ (fn : Fn) (hub : Hub) (tag : W32) (wing : Byte) (p : Bytes) (c : Cmd) (s : State),
    c = sentCmd s 0x0104 fn hub tag wing p →
    accepts s c →
    wing.toNat < 16 →
    blockHeld s 0 wing.toNat = false →
    ((s.rst.blocks.any fun b => b.level == 0 && b.target == wing.toNat) = false) →
    longFull s = false →
    exec (.wingReset fn hub tag wing p) s = .next (inProgress s (blockBegin (countSource (scpCommit s c) 5) { fn := fn, hub := hub, level := 0, target := wing.toNat, source := 5, since := s.now }) c true [])) ∧
  (∀ (fn : Fn) (hub : Hub) (tag : W32) (wing : Byte) (p : Bytes) (c : Cmd) (s : State),
    c = sentCmd s 0x0A01 fn hub tag wing p →
    accepts s c →
    wing = 0xFF#8 →
    zeroAt p 2 2 = true →
    ((leAt p 0 1 = 1 ∧ leAt p 1 1 ≤ 15) ∨ (leAt p 0 1 = 2 ∧ leAt p 1 1 ≤ 7)) →
    blockHeld s (leAt p 0 1) (leAt p 1 1) = false →
    longFull s = false →
    exec (.resetRequest fn hub tag wing p) s = .next (inProgress s (blockBegin (countSource (scpCommit s c) 11) { fn := fn, hub := hub, level := leAt p 0 1, target := leAt p 1 1, source := 11, since := s.now }) c true [])) ∧
  (∀ (fn : Fn) (hub : Hub) (tag : W32) (wing : Byte) (p : Bytes) (c : Cmd) (s : State),
    c = sentCmd s 0x0A01 fn hub tag wing p →
    accepts s c →
    wing = 0xFF#8 →
    zeroAt p 2 2 = true →
    leAt p 1 1 = 0 →
    (leAt p 0 1 = 3 ∨ leAt p 0 1 = 4) →
    longFull s = false →
    exec (.resetRequest fn hub tag wing p) s = .next (assertSource (scpFinish (scpCommit s c) c rOK []) 11 (leAt p 0 1))) ∧
  (∀ (s : State) (b : BlockReset),
    ((∀ h ∈ blockHalves s b.level b.target, ((blockBegin s b).half h).held = true) ∧ (b.level = 0 →
    ((blockBegin s b).wing b.target).stopAdmit = true) ∧ (blockBegin s b).rst.blocks = s.rst.blocks ++
    [b])) ∧
  (∀ (fn : Fn) (hub : Hub) (bad : List HcIx) (b : BlockReset) (s : State),
    blockOf s fn hub = some b →
    blockIdle s b = true →
    (b.level = 1 ∨ b.level = 2) →
    1 ≤ b.level →
    b.source = 11 →
    exec (.blockResetIdle fn hub bad) s = .next (blockAnswer ((blockRelease (curatorLog (blockEffects (scrubUnits ((blockHalves s b.level b.target).foldl (fun s h => s.updHalf h fun x => { x with scrubBad := false }) s) ((blockHalves s b.level b.target).map fun h => (ukHalf, h)) none true bad) b) (((s.half ((blockHalves s b.level b.target).headD 0)).owner.map (·.val)).getD 0xFF) b.target b.level) b).updRst fun r => { r with last := BitVec.ofNat 32 (b.source * 4096 + b.level * 256 + b.target) }) b (if (blockHalves s b.level b.target).any fun h => bad.any (·.val == h) then rINTERNAL else rOK))) ∧
  (∀ (fn : Fn) (hub : Hub) (bad : List HcIx) (b : BlockReset) (s : State),
    blockOf s fn hub = some b →
    blockIdle s b = true →
    b.level = 0 →
    (∀ r ∈ s.reqs, r.wing.val ≠ b.target) →
    exec (.blockResetIdle fn hub bad) s = .next (blockAnswer ((blockRelease (curatorLog (blockEffects (scrubUnits s ((s.wingHalves b.target).map fun h => (ukHalf, h)) none true bad) b) b.target b.target 0) b).updRst fun r => { r with last := BitVec.ofNat 32 (b.source * 4096 + b.target) }) b (if (s.wingHalves b.target).any fun h => bad.any (·.val == h) then rINTERNAL else rOK))) ∧
  (∀ (s : State) (b : BlockReset),
    b.level = 0 →
    b.target < 16 →
    ((blockEffects s b).wing b.target).state = .disabled ∧ (∀ q ∈ s.wingQueues b.target, ((blockEffects s b).que q).state = .disabled) ∧
    (∀ i ∈ (blockEffects s b).images, i.wing.val ≠ b.target) ∧ (∀ f ∈ s.wingFlows b.target, f < 16384 →
    ((blockEffects s b).flow f).state = .reset) ∧ (∀ c, c < 8 → ((blockEffects s b).cat (catKey b.target c)).state = .disabled)) ∧
  (∀ (fn : Fn) (hub : Hub) (b : BlockReset) (s : State) (r : Req) (rest : List Req),
    blockOf s fn hub = some b →
    b.level ≠ 0 →
    ((s.reqs.filter fun r => !r.isDone && (r.halves.any fun h => (blockHalves s b.level b.target).contains h.val)) = r :: rest) →
    exec (.blockResetIdleTimeout fn hub) s = .next (retireAll (rest.foldl (fun s r => abortStale s r.id) (abortDrained { s with dups := s.dups.filter fun d => !((blockHalves s b.level b.target).contains (unitHalf d.checker) || (blockHalves s b.level b.target).contains (unitHalf d.origin)) } r 1)))) ∧
  (∀ (fn : Fn) (w : WingIx) (s : State),
    fn ≠ 0 →
    s.alive = true →
    s.fnEnabled fn = true →
    ((s.tdi fn).state = .unlocked ∨ (s.tdi fn).state = .error) →
    s.fnWing fn = some w →
    mapValue s 4 = 6 →
    exec (.flrVf fn) s = .next (vfClear (countSource s 4) fn)) ∧
  (∀ (fn : Fn) (w : WingIx) (s : State),
    fn ≠ 0 →
    s.alive = true →
    s.fnEnabled fn = true →
    (s.tdi fn).state = .unlocked →
    s.fnWing fn = some w →
    mapValue s 4 = 0 →
    s.rst.blocks = [] →
    exec (.flrVf fn) s = .next (blockBegin (vfClear (countSource s 4) fn) { fn := fn, hub := 0, level := 0, target := w, source := 4, since := s.now })) ∧
  (∀ (fn : Fn) (s : State),
    fn ≠ 0 →
    s.alive = true →
    s.fnEnabled fn = true →
    ((s.tdi fn).state = .locked ∨ (s.tdi fn).state = .run) →
    mapValue s 4 = 6 →
    exec (.flrVf fn) s = .next (tdiUnlock (vfClear (countSource s 4) fn) fn)) ∧
  (∀ (x : CuratorStop) (s : State),
    s.alive = true →
    mapValue s 6 = 6 →
    ∃ t, exec (.curatorWdog x) s = .next t ∧ (t.hub x.hub).auth = .booting ∧ (t.hub x.hub).ready = false ∧
    (t.hub x.hub).mains = (s.hub x.hub).mains ∧ (∀ h, h ≠ x.hub.val → t.hub h = s.hub h) ∧ Tbl.get 0 t.rst.count 6 = satInc (Tbl.get 0 s.rst.count 6))

/-- A clock trip disables its unit, averages and sensors move throttle steps, layers move refresh rates, idle cells are
gated.
What log entry 34 says of the steps holds. A trip of a matrix unit's island quarantines it, of a cell's scratchpad its
half-cells, of a stack the stack, of a hub its Curator, of a link die that die. TIMESTAMP_SYNC_TICK corrects every
unit. POWER_MONITOR_TICK keeps each die's power and controls cells and package: above 85 W a cell goes one step
deeper; no move but the jump exceeds one step. EXCURSION_TIMEOUT takes every cell one deeper. THERMAL_SAMPLE at 105 °C
takes a cell to step 4; a second reading above 112 °C trips. DRAM_TEMP_SAMPLE at 95 °C refreshes at 4×. CELL_IDLE_GATE
power-gates a cell that no half-cell is bound of, or clock-gates one whose wings are not ENABLED. PF0 and VF D3hot
pause their traffic, and the return resumes it.
Cites R343, R344, R508, R509, R510, R511, R512, R513, R514, R515, R517, R518 (derived, tier 2). -/
def Obligations.ClocksPowerAndTemperature : Prop :=
  (∀ (island : Fin 128) (c l : Nat) (s : State),
    s.alive = true →
    island.val = 12 * c + l →
    c < 8 →
    l < 5 →
    exec (.clockMonitorTrip island) s = .next (quarantine (clockAlarm (s.free 1).2 island c) (uMU c l) (fromLE (s.free 1).1))) ∧
  (∀ (island : Fin 128) (c l : Nat) (s : State),
    s.alive = true →
    island.val = 12 * c + l →
    c < 8 →
    (l = 7 ∨ l = 8) →
    exec (.clockMonitorTrip island) s = .next (((clockAlarm (s.free 1).2 island c).updHalf (2 * c) fun x => { x with clockBad := true }).updHalf (2 * c + 1) fun x => { x with clockBad := true })) ∧
  (∀ (island : Fin 128) (k : Nat) (s : State),
    s.alive = true →
    (island.val = 96 + 2 * k ∨ island.val = 97 + 2 * k) →
    k < 8 →
    (s.stack k).failed = false →
    (clockAlarm s island (8 + k)).stack k = s.stack k →
    exec (.clockMonitorTrip island) s = .next (alarm ((clockAlarm s island (8 + k)).setStack k { s.stack k with failed := true }) 0x0202 0xFF (8 + k) k 0 0 0)) ∧
  (∀ (island : Fin 128) (s : State),
    s.alive = true →
    112 ≤ island.val →
    island.val < 120 →
    exec (.clockMonitorTrip island) s = .next (curatorRestart (clockAlarm s island (16 + (island.val - 112) / 4)) (Fin.ofNat 2 ((island.val - 112) / 4)))) ∧
  (∀ (island : Fin 128) (s : State),
    s.alive = true →
    120 ≤ island.val →
    exec (.clockMonitorTrip island) s = .next (linkDieDown (clockAlarm s island (18 + (island.val - 120) / 4)) (Fin.ofNat 2 ((island.val - 120) / 4)))) ∧
  (∀ (s : State),
    ∃ t, exec (.timestampSyncTick) s = .next t ∧ t = { s with clk := t.clk } ∧ t.clk.units = List.replicate 20 (BitVec.ofNat 64 s.now) ∧
    t.clk.master = s.clk.master) ∧
  (∀ (pkg : Nat) (dies : List Nat) (s s1 : State),
    s.alive = true →
    s.holderHub ≠ none →
    dies.length = 20 →
    (∀ d, d < 20 → 8 ≤ d → dies.getD d 0 * 10 ≤ dieBudget d * 11) →
    (s1 = (List.range 20).foldl (fun s d => s.updDie d fun x => { x with power := dies.getD d 0 }) s) →
    exec (.powerMonitorTick pkg dies) s = .next (packagePower ((List.range 8).foldl (fun s c => cellPower s c (dies.getD c 0)) s1) pkg)) ∧
  (∀ (c p : Nat) (s : State),
    850 < p →
    passed s (s.cell c).lastStep 1000000 = true →
    (s.cell c).underSince = none →
    (s.cell c).tempStep ≤ (s.cell c).step →
    (s.cell c).step < 4 →
    ((cellPower s c p).cell c).step = (s.cell c).step + 1 ∧ ((cellPower s c p).cell c).lastStep = s.now) ∧
  (∀ (s : State) (c : Nat) (jump : Bool),
    (jump = false → ((cellMove s c jump).cell c).step ≤ (s.cell c).step + 1 ∧ (s.cell c).step ≤ ((cellMove s c jump).cell c).step + 1) ∧
    (∀ k, k ≠ c → (cellMove s c jump).cell k = s.cell k)) ∧
  (∀ (s : State),
    s.alive = true →
    s.rst.excursion = true →
    s.holderHub ≠ none →
    exec (.excursionTimeout) s = .next (allDeeper (s.updRst fun r => { r with excAt := none }))) ∧
  (∀ (c : Cell) (temps : List (Nat × Nat)) (t0 : Nat) (s : State),
    s.alive = true →
    temps = [(32 * c.val, t0)] →
    105 ≤ t0 →
    t0 ≤ 112 →
    (s.cell c).step < 4 →
    (s.cell c).powStep ≤ 4 →
    ∃ t, exec (.thermalSample temps) s = .next t ∧ (t.cell c).step = 4 ∧ (t.die c).temp = t0 ∧
    (t.die c).hot = true) ∧
  (∀ (d : Fin 20) (temps : List (Nat × Nat)) (t0 : Nat) (s : State),
    s.alive = true →
    temps = [(32 * d.val, t0)] →
    (d.val < 8 ∨ 16 ≤ d.val) →
    112 < t0 →
    s.rst.overTrip = [32 * d.val] →
    s.rst.thermtrip = false →
    (mapValue s 8 = 4 ∨ mapValue s 8 = 5) →
    ∃ t, exec (.thermalSample temps) s = .next t ∧ t.rst.thermtrip = true ∧ t.rst.level = some (mapValue s 8)) ∧
  (∀ (stack : StackIx) (temps : List Nat) (s : State),
    s.alive = true →
    temps ≠ [] →
    (∀ x ∈ temps, x ≤ 105) →
    (∃ x ∈ temps, 95 ≤ x) →
    (s.stack stack).throttle = false →
    s.rst.thermtrip = false →
    ∃ t, exec (.dramTempSample stack temps) s = .next t ∧ (t.stack stack).refresh = 2 ∧
    (t.stack stack).throttle = false ∧ (∀ k, k ≠ stack.val → t.stack k = s.stack k) ∧ t.dram = s.dram) ∧
  (∀ (cell : Cell) (s : State),
    s.alive = true →
    cellBusy s cell = false →
    (s.half (2 * cell.val)).owner = none →
    (s.half (2 * cell.val + 1)).owner = none →
    exec (.cellIdleGate cell) s = .next (cellLost (s.updCell cell fun x => { x with gate := .power }) cell)) ∧
  (∀ (cell : Cell) (s : State),
    s.alive = true →
    cellBusy s cell = false →
    (s.fnSt 0).d3 = false →
    (s.half (2 * cell.val)).owner ≠ none →
    (∀ h w, (h = 2 * cell.val ∨ h = 2 * cell.val + 1) → (s.half h).owner = some w → (s.wing w).state ≠ .enabled) →
    exec (.cellIdleGate cell) s = .next (s.updCell cell fun x => { x with gate := .clock })) ∧
  (∀ (s : State),
    s.alive = true →
    ∃ t, exec (.pf0D3hotEntry) s = .next t ∧ (t.fnSt 0).d3 = true ∧ (∀ k, k ≠ 0 → t.fnSt k = s.fnSt k) ∧
    (∀ c, c < 8 → cellBusy s c = false → (t.cell c).gate = .power) ∧ t = { s with fns := t.fns, reqs := t.reqs, cells := t.cells }) ∧
  (∀ (s : State),
    s.alive = true →
    (s.fnSt 0).d3 = true →
    ∃ t, exec (.pf0D0Return) s = .next t ∧ (t.fnSt 0).d3 = false ∧ (∀ k, k ≠ 0 → t.fnSt k = s.fnSt k) ∧
    (∀ c, c < 8 → (s.half (2 * c)).owner ≠ none ∨ (s.half (2 * c + 1)).owner ≠ none → (t.cell c).gate = .running) ∧
    t = { s with fns := t.fns, cells := t.cells }) ∧
  (∀ (fn : Fn) (s : State),
    fn ≠ 0 →
    s.alive = true →
    s.fnEnabled fn = true →
    exec (.vfD3hotEntry fn) s = .next (s.updFnSt fn fun f => { f with d3 := true })) ∧
  (∀ (fn : Fn) (s : State),
    fn ≠ 0 →
    s.alive = true →
    exec (.vfD0Return fn) s = .next (s.updFnSt fn fun f => { f with d3 := false }))

/-- Alarms take credits or latches, log records their limit, drops open accumulators, rings are filled, and a failed
memory falls back.
A received record is raised; the way to the primary takes no step of its own (log entry 18). An alarm with a credit is
stored under the next number; without one it waits in its producer's latch of its kind, where a second one is counted
in REPEAT. ALARM_CREDIT_RETURN serves the latches. A log record that SEV_MASK excludes is counted; below its limit it
is stored, at it dropped, counted, and summed in an accumulator. STORM_ACCUMULATOR_CLOSE makes it a summary.
VENT_CONFIGURE of the log ring sets it, with HEAD and TAIL 0; VENT_STATUS answers credits, free slots and counters;
VENT_TRACE_WINDOW opens a window. A window that ends is kept whole, or dropped whole, with its header alone. A write
of HEAD between HEAD and TAIL returns space; another is ignored. VENT_WRITE_ACCEPTED frees the log slots.
VENT_MEMORY_FAIL counts what is lost and goes to the fallback ring, and from there both have failed.
Cites R525, R528, R529, R530, R531, R532, R533, R535, R536, R537, R538, R540 (derived, tier 2). -/
def Obligations.VentsStoreLatchCountAndDeliver : Prop :=
  (∀ (rec : VentRec) (producer : Nat) (s : State),
    s.alive = true →
    exec (.ventRecordReceive rec producer) s = .next (raise s producer rec)) ∧
  (∀ (s : State) (r : VentRec) (pr : Nat),
    s.vnt.bothFailed = false →
    s.vnt.fallback = false →
    alarmCredits s ≠ 0 →
    ventAlarm s pr r = { s with vnt := { s.vnt with alarms := s.vnt.alarms ++ [{ r := r, vseq := s.vnt.vseqA, fallback := false, rep := 0 }], vseqA := s.vnt.vseqA + 1 } }) ∧
  (∀ (s : State) (r : VentRec) (pr : Nat),
    s.vnt.bothFailed = false →
    s.vnt.fallback = false →
    alarmCredits s = 0 →
    ((s.vnt.latches.any fun l => l.producer == pr && l.r.kind == r.kind) = false) →
    ventAlarm s pr r = { s with vnt := { s.vnt with latches := s.vnt.latches ++ [{ producer := pr, r := r, rep := 0 }] } }) ∧
  (∀ (s : State) (r : VentRec) (pr : Nat),
    s.vnt.bothFailed = false →
    s.vnt.fallback = false →
    alarmCredits s = 0 →
    ((s.vnt.latches.any fun l => l.producer == pr && l.r.kind == r.kind) = true) →
    (ventAlarm s pr r).vnt.coalesced = satInc s.vnt.coalesced ∧ (ventAlarm s pr r).vnt.latches.length = s.vnt.latches.length ∧
    (ventAlarm s pr r).vnt.alarms = s.vnt.alarms) ∧
  (∀ (s : State),
    exec (.alarmCreditReturn) s = .next (ventPump (serveLatches s.vnt.latches.length { s with vnt := { s.vnt with alarmsOut := s.vnt.alarmsOut - 1 } }))) ∧
  (∀ (s : State) (r : VentRec),
    r.sev ≠ 0 →
    bit (s.vnt.ring 1).mask r.sev.toNat = false →
    ventLog s r = { s with vnt := { s.vnt with filtered := satInc s.vnt.filtered } }) ∧
  (∀ (s : State) (r : VentRec),
    r.sev.toNat ∈ [1, 2, 3] →
    bit (s.vnt.ring 1).mask r.sev.toNat = true →
    s.vnt.bothFailed = false →
    s.vnt.fallback = false →
    s.vnt.logs.length + s.vnt.logsOut < logLimit r.sev →
    ventLog s r = { s with vnt := { s.vnt with logs := s.vnt.logs ++ [{ r := r, vseq := s.vnt.vseqL, fallback := false, rep := 0 }], vseqL := s.vnt.vseqL + 1 } }) ∧
  (∀ (s : State) (r : VentRec),
    r.sev.toNat ∈ [1, 2, 3] →
    bit (s.vnt.ring 1).mask r.sev.toNat = true →
    s.vnt.bothFailed = false →
    s.vnt.fallback = false →
    logLimit r.sev ≤ s.vnt.logs.length + s.vnt.logsOut →
    (ventLog s r).vnt.logs = s.vnt.logs ∧ (ventLog s r).vnt.vseqL = s.vnt.vseqL ∧ Tbl.get 0 (ventLog s r).vnt.logDrops r.sev.toNat = satInc (Tbl.get 0 s.vnt.logDrops r.sev.toNat)) ∧
  (∀ (acc : Fin 64) (a : Accum) (s : State),
    Tbl.get Accum.init s.vnt.accs acc = a →
    a.count ≠ 0 →
    s.vnt.bothFailed = false →
    s.vnt.fallback = false →
    s.vnt.summaries.length < 64 →
    exec (.stormAccumulatorClose acc) s = .next (ventPump { s with vnt := { s.vnt with summaries := s.vnt.summaries ++ [{ r := stormRecord s a, vseq := s.vnt.vseqL, fallback := false, rep := a.count }], vseqL := s.vnt.vseqL + 1, accs := Tbl.set Accum.init s.vnt.accs acc Accum.init } })) ∧
  (∀ (fn : Fn) (hub : Hub) (tag : W32) (wing : Byte) (p : Bytes) (c : Cmd) (s : State),
    c = sentCmd s 0x0701 fn hub tag wing p →
    accepts s c →
    wing = 0xFF#8 →
    zeroAt p 3 5 = true →
    leAt p 0 1 = 1 →
    leAt p 1 1 ≤ 15 →
    16 ≤ leAt p 2 1 ∧ leAt p 2 1 ≤ 26 →
    leAt p 8 8 % 4096 = 0 →
    exec (.ventConfigure fn hub tag wing p) s = .next (scpFinish (ventPump { scpCommit s c with vnt := (scpCommit s c).vnt.setRing 1 { head := 0, tail := 0, addr := BitVec.ofNat 64 (leAt p 8 8), sizeLog2 := leAt p 2 1, mask := leAt p 1 1 } }) c rOK ([]))) ∧
  (∀ (fn : Fn) (hub : Hub) (tag : W32) (wing : Byte) (p : Bytes) (c : Cmd) (s : State),
    c = sentCmd s 0x0702 fn hub tag wing p →
    accepts s c →
    wing = 0xFF#8 →
    exec (.ventStatus fn hub tag wing p) s = .next (scpFinish (s) c rOK (leBytes 2 (alarmCredits s) ++
    [0, 0] ++ leBytes 4 (16384 - (s.vnt.logs.length + s.vnt.logsOut)) ++ leBytes 4 ((0x300000 - traceUsed s) / 1024) ++
    [BitVec.ofNat 8 (vntState s), 0, 0, 0] ++ s.vnt.counters))) ∧
  (∀ (fn : Fn) (hub : Hub) (tag : W32) (wing : Byte) (p : Bytes) (c : Cmd) (s : State),
    c = sentCmd s 0x0703 fn hub tag wing p →
    accepts s c →
    wing = 0xFF#8 →
    zeroAt p 2 2 = true →
    leAt p 1 1 ≤ 6 →
    1 ≤ leAt p 4 4 ∧ leAt p 4 4 ≤ 10000 →
    dieClass (leAt p 0 1) (leAt p 1 1) = true →
    leAt p 8 8 = 0 →
    (s.vnt.ring 2).sizeLog2 ≠ 0 →
    s.vnt.windows.length < 16 →
    s.vnt.fallback = false →
    s.vnt.bothFailed = false →
    exec (.ventTraceWindow fn hub tag wing p) s = .next (scpFinish ({ s with vnt := { s.vnt with windows := s.vnt.windows ++ [{ id := s.vnt.nextWin, die := leAt p 0 1, cls := leAt p 1 1, start := s.now, len := leAt p 4 4, running := true }], nextWin := s.vnt.nextWin + 1 } }) c rOK (leBytes 4 s.vnt.nextWin.toNat))) ∧
  (∀ (win : W32) (s : State),
    exec (.traceWindowStart win) s = .next ({ s with vnt := { s.vnt with windows := s.vnt.windows.map fun (w : TraceWin) => if w.id = win then { w with running := true } else w } })) ∧
  (∀ (win : W32) (recs : List Bytes) (w : TraceWin) (s : State),
    ((s.vnt.windows.find? fun w => w.id == win) = some w) →
    recs.length ≤ captureSize w.die →
    (windowBytes w recs false 0).length + traceUsed s ≤ 0x300000 →
    exec (.traceWindowEnd win recs false) s = .next (ventPump { s with vnt := { s.vnt with windows := s.vnt.windows.filter (fun x => x.id != win), traces := s.vnt.traces ++ [windowBytes w recs false 0] } })) ∧
  (∀ (win : W32) (recs : List Bytes) (w : TraceWin) (s : State),
    ((s.vnt.windows.find? fun w => w.id == win) = some w) →
    64 + traceUsed s ≤ 0x300000 →
    exec (.traceWindowEnd win recs true) s = .next (ventPump { s with vnt := { s.vnt with windows := s.vnt.windows.filter (fun x => x.id != win), traceDrops := satInc s.vnt.traceDrops, traces := s.vnt.traces ++ [windowBytes w [] true recs.length] } })) ∧
  (∀ (vent : Fin 3) (head : W64) (s : State),
    regOpen s 0 = true →
    head.toNat ≤ (s.vnt.ring vent).tail.toNat →
    (s.vnt.ring vent).head.toNat ≤ head.toNat →
    vent ≠ 0 →
    exec (.vntRingHeadWrite 0 vent head) s = .next (alertPoll (ventPump { s with vnt := s.vnt.setRing vent { s.vnt.ring vent with head := head } }))) ∧
  (∀ (vent : Fin 3) (head : W64) (s : State),
    regOpen s 0 = true →
    ((s.vnt.ring vent).tail.toNat < head.toNat ∨ head.toNat < (s.vnt.ring vent).head.toNat) →
    exec (.vntRingHeadWrite 0 vent head) s = .next (s)) ∧
  (∀ (s : State),
    exec (.ventWriteAccepted 1) s = .next (ventPump { s with vnt := { s.vnt with logsOut := 0 } })) ∧
  (∀ (cause : Fin 4) (s : State),
    s.alive = true →
    cause ≠ 0 →
    s.vnt.fallback = false →
    s.vnt.bothFailed = false →
    hubCut s (otherHub s.pcie.activeHub) = false →
    ∃ t, exec (.ventMemoryFail cause) s = .next t ∧ t.vnt.fallback = true ∧ t.vnt.alert.getLsbD 5 = true ∧
    t.vnt.logs = [] ∧ t.vnt.alarms = [] ∧ t.vnt.lost = satAdd s.vnt.lost (s.vnt.alarms.length + s.vnt.summaries.length + s.vnt.logs.length + (s.vnt.traces.map fun t => leAt t 24 4).sum)) ∧
  (∀ (cause : Fin 4) (s : State),
    s.alive = true →
    s.vnt.fallback = true →
    s.vnt.bothFailed = false →
    exec (.ventMemoryFail cause) s = .next (bothFail s (if cause.val = 0 then 4 else cause.val)))

/-- ALERT# follows its alarms, LW_CLEAR clears the last word, the sideband reads entries, the TAP is harmless out of
reset.
The boundary cells that SAMPLE/PRELOAD shifts out are a free value (log entry 10), and an index without an entry
returns nothing (41). ALARM_UNACKED follows its condition. LW_CLEAR is logged, and leaves the other fields of VNT_CTL.
SIDEBAND_READ answers an ember entry always, and a main one as 0xFF during a reset. Writes are not acknowledged.
LASER_PROBE that locks turns a fiber's lasers on again. BYPASS shifts one bit, IDCODE is 0x148201C7, SAMPLE/PRELOAD
loads the cells, and EXTEST, CLAMP and HIGHZ drive the pins only while PERST# holds level 5; otherwise they are
BYPASS.
Cites R398, R539, R541, R564, R582, R584, 19_package_pins.md (derived, tier 1). -/
def Obligations.AlertSidebandLasersAndTestPort : Prop :=
  (∀ (s : State),
    ∃ t, exec (.alarmUnackedTimeout) s = .next t ∧ t = { s with vnt := t.vnt } ∧ t.vnt.alert.getLsbD 0 = unackedNow s ∧
    (∀ i, i ≠ 0 → t.vnt.alert.getLsbD i = s.vnt.alert.getLsbD i) ∧ t.vnt.alarms = s.vnt.alarms) ∧
  (∀ (s : State),
    regOpen s 0 = true →
    s.fw.quarantine = false →
    canLog s 0 →
    ∃ t, exec (.lwClear 0) s = .next t ∧ t.vnt.lastword = [] ∧ t.vnt.irqEn = s.vnt.irqEn ∧
    t.vnt.alertEn = s.vnt.alertEn ∧ t.vnt.alertDelay = s.vnt.alertDelay ∧ t.log.next = s.log.next + 1) ∧
  (∀ (index : Byte) (b : Bytes) (s : State),
    sidebandContent s index.toNat = some (b, false) →
    exec (.sidebandRead index) s = .next (s.emit (.sideband b))) ∧
  (∀ (index : Byte) (b : Bytes) (s : State),
    sidebandContent s index.toNat = some (b, true) →
    (s.rst.pwrOk = false ∨ s.rst.level ≠ none) →
    exec (.sidebandRead index) s = .next (s.emit (.sideband (List.replicate b.length 0xFF)))) ∧
  (∀ (index : Byte) (b : Bytes) (s : State),
    sidebandContent s index.toNat = some (b, true) →
    s.rst.pwrOk = true →
    s.rst.level = none →
    exec (.sidebandRead index) s = .next (s.emit (.sideband b))) ∧
  (∀ (index : Byte) (s : State),
    exec (.sidebandWrite index) s = .next (s)) ∧
  (∀ (die : Hub) (fiber : Fin 34) (s : State),
    s.alive = true →
    exec (.laserProbe die fiber true) s = .next (s.updPar fun p => p.setDie die { p.die die with lasersOff := (p.die die).lasersOff.filter (· != fiber.val) })) ∧
  (∀ (tdi : Bool) (s : State),
    s.tap.ir = .bypass →
    exec (.jtagBypass tdi) s = .next ({ s with tap := { s.tap with bypassBit := tdi } }.emit (.tdo [s.tap.bypassBit]))) ∧
  (∀ (s : State),
    exec (.jtagIdcode) s = .next (({ s with tap := { s.tap with ir := .idcode } }).emit (.tdo ((List.range 32).map fun i => Nat.testBit 0x148201C7 i)))) ∧
  (∀ (preload : List Bool) (s : State),
    exec (.jtagSamplePreload preload) s = .next (({ (s.free preload.length).2 with tap := { s.tap with ir := .samplePreload, preload := preload } }).emit (.tdo ((s.free preload.length).1.map fun (b : Byte) => bit b.toNat 0)))) ∧
  (∀ (s : State),
    s.rst.perst = true →
    s.rst.level = some 5 →
    exec (.jtagExtest) s = .next (({ s with tap := { s.tap with ir := .extest } }).emit (.pins (s.tap.preload.map some)))) ∧
  (∀ (s : State),
    s.rst.perst = true →
    s.rst.level = some 5 →
    exec (.jtagClamp) s = .next (({ s with tap := { s.tap with ir := .clamp, bypassBit := false } }).emit (.pins (s.tap.preload.map some)))) ∧
  (∀ (s : State),
    s.rst.perst = true →
    s.rst.level = some 5 →
    exec (.jtagHighz) s = .next (({ s with tap := { s.tap with ir := .highz, bypassBit := false } }).emit (.pins (s.tap.preload.map fun _ => none)))) ∧
  (∀ (s : State),
    (s.rst.perst = false ∨ s.rst.level ≠ some 5) →
    exec .jtagExtest s = .next { s with tap := { s.tap with ir := .bypass, bypassBit := false } } ∧
    exec .jtagClamp s = .next { s with tap := { s.tap with ir := .bypass, bypassBit := false } } ∧
    exec .jtagHighz s = .next { s with tap := { s.tap with ir := .bypass, bypassBit := false } })

/-- Chunks fill a slot, the last one verifies it; activation, commit and rollback move slot states, with level 3; the
archive is written.
FIRMWARE_COMMIT takes one step (log entry 42). FIRMWARE_LOAD with FIRST starts a slot, then appends at the bytes
loaded so far; another offset is answered with that number; the last chunk makes a slot that verifies VALID, and any
other EMPTY. FIRMWARE_ACTIVATE makes a VALID slot that verifies again TRIAL, answers, and resets at level 3.
FIRMWARE_COMMIT of a trial image makes it COMMITTED and the former VALID, with both archive copies naming it; ROLLBACK
makes it VALID and resets at level 3. ARCHIVE_WRITE by a COMMITTED image writes the copy of lower GENERATION; a TRIAL
image writes none.
Cites R544, R545, R546, R549, R550, R552, R554, R555, R556, 18_firmware_bringup.md (derived, tier 2). -/
def Obligations.FirmwareIsLoadedActivatedCommittedAndRolledBack : Prop :=
  (∀ (fn : Fn) (hub : Hub) (tag : W32) (wing : Byte) (p : Bytes) (c : Cmd) (s : State),
    c = sentCmd s 0x0401 fn hub tag wing p →
    accepts s c →
    wing = 0xFF#8 →
    leAt p 0 1 ≤ 1 →
    zeroAt p 2 2 = true →
    zeroAt p 8 24 = true →
    leAt p 1 1 = 1 →
    isBooted s.fw (bit (leAt p 0 1) 0) = false →
    ¬ ((s.fw.slot (bit (leAt p 0 1) 0)).state = .committed ∧ onTrial s.fw = true) →
    leAt p 4 4 = 0 →
    (p.drop 32).length ≤ 0x2000000 →
    bothHubs s = true →
    exec (.firmwareLoad fn hub tag wing p) s = .next (scpFinish (s.updFw fun f => f.setSlot (bit (leAt p 0 1) 0) (Slot.init.chunk true (p.drop 32))) c rOK ([]))) ∧
  (∀ (fn : Fn) (hub : Hub) (tag : W32) (wing : Byte) (p : Bytes) (c : Cmd) (s : State),
    c = sentCmd s 0x0401 fn hub tag wing p →
    accepts s c →
    wing = 0xFF#8 →
    leAt p 0 1 ≤ 1 →
    zeroAt p 2 2 = true →
    zeroAt p 8 24 = true →
    leAt p 1 1 = 0 →
    isBooted s.fw (bit (leAt p 0 1) 0) = false →
    (s.fw.slot (bit (leAt p 0 1) 0)).state = .loading →
    leAt p 4 4 = (s.fw.slot (bit (leAt p 0 1) 0)).data.length →
    leAt p 4 4 + (p.drop 32).length ≤ 0x2000000 →
    bothHubs s = true →
    exec (.firmwareLoad fn hub tag wing p) s = .next (scpFinish (s.updFw fun f => f.setSlot (bit (leAt p 0 1) 0) ((s.fw.slot (bit (leAt p 0 1) 0)).chunk false (p.drop 32))) c rOK ([]))) ∧
  (∀ (fn : Fn) (hub : Hub) (tag : W32) (wing : Byte) (p : Bytes) (c : Cmd) (s : State),
    c = sentCmd s 0x0401 fn hub tag wing p →
    accepts s c →
    wing = 0xFF#8 →
    leAt p 0 1 ≤ 1 →
    zeroAt p 2 2 = true →
    zeroAt p 8 24 = true →
    leAt p 1 1 = 0 →
    isBooted s.fw (bit (leAt p 0 1) 0) = false →
    (s.fw.slot (bit (leAt p 0 1) 0)).state = .loading →
    leAt p 4 4 ≠ (s.fw.slot (bit (leAt p 0 1) 0)).data.length →
    exec (.firmwareLoad fn hub tag wing p) s = .next (scpFinish (s) c rADDR_RANGE (leBytes 4 (s.fw.slot (bit (leAt p 0 1) 0)).data.length))) ∧
  (∀ (fn : Fn) (hub : Hub) (tag : W32) (wing : Byte) (p : Bytes) (c : Cmd) (s : State),
    c = sentCmd s 0x0401 fn hub tag wing p →
    accepts s c →
    wing = 0xFF#8 →
    leAt p 0 1 ≤ 1 →
    zeroAt p 2 2 = true →
    zeroAt p 8 24 = true →
    leAt p 1 1 = 2 →
    isBooted s.fw (bit (leAt p 0 1) 0) = false →
    (s.fw.slot (bit (leAt p 0 1) 0)).state = .loading →
    leAt p 4 4 = (s.fw.slot (bit (leAt p 0 1) 0)).data.length →
    leAt p 4 4 + (p.drop 32).length ≤ 0x2000000 →
    bothHubs s = true →
    exec (.firmwareLoad fn hub tag wing p) s = .next (scpFinish (if imageVerifies s ((s.fw.slot (bit (leAt p 0 1) 0)).data ++
    (p.drop 32)) then s.updFw (fun f => f.setSlot (bit (leAt p 0 1) 0) { (s.fw.slot (bit (leAt p 0 1) 0)).chunk false (p.drop 32) with state := .valid }) else s.updFw (fun f => f.setSlot (bit (leAt p 0 1) 0) Slot.init)) c (if imageVerifies s ((s.fw.slot (bit (leAt p 0 1) 0)).data ++
    (p.drop 32)) then rOK else rIMAGE_INVALID) ([]))) ∧
  (∀ (fn : Fn) (hub : Hub) (tag : W32) (wing : Byte) (p : Bytes) (c : Cmd) (s : State),
    c = sentCmd s 0x0402 fn hub tag wing p →
    accepts s c →
    wing = 0xFF#8 →
    leAt p 0 1 ≤ 1 →
    zeroAt p 1 3 = true →
    (s.fw.slot (bit (leAt p 0 1) 0)).state = .valid →
    onTrial s.fw = false →
    longFull s = false →
    bothHubs s = true →
    exec (.firmwareActivate fn hub tag wing p) s = .next (if imageVerifies s (s.fw.slot (bit (leAt p 0 1) 0)).data then assertSource (scpFinish (scpCommit (s.updFw fun f => { f.setSlot (bit (leAt p 0 1) 0) { (s.fw.slot (bit (leAt p 0 1) 0)) with state := .trial } with fails := 0 }) c) c rOK []) 11 3 else scpFinish s c rIMAGE_INVALID [])) ∧
  (∀ (fn : Fn) (hub : Hub) (tag : W32) (wing : Byte) (p : Bytes) (c : Cmd) (s : State),
    c = sentCmd s 0x0402 fn hub tag wing p →
    accepts s c →
    wing = 0xFF#8 →
    leAt p 0 1 ≤ 1 →
    zeroAt p 1 3 = true →
    ((s.fw.slot (bit (leAt p 0 1) 0)).state ≠ .valid ∨ onTrial s.fw = true) →
    exec (.firmwareActivate fn hub tag wing p) s = .next (scpFinish s c rNOT_PERMITTED [])) ∧
  (∀ (fn : Fn) (hub : Hub) (tag : W32) (wing : Byte) (p : Bytes) (c : Cmd) (s : State),
    c = sentCmd s 0x0403 fn hub tag wing p →
    accepts s c →
    wing = 0xFF#8 →
    leAt p 0 1 = 0 →
    zeroAt p 1 3 = true →
    onTrial s.fw = true →
    s.fw.quarantine = false →
    s.vlt.mode ≠ .error →
    bothHubs s = true →
    exec (.firmwareCommit fn hub tag wing p) s = .next (scpFinish (commitImage s c false) c rOK ([(s.fw.slot s.fw.running).schema, 0, 0, 0]))) ∧
  (∀ (s : State) (c : Cmd) (discard : Bool),
    s.fw.recovery = false →
    (s.fw.slot s.fw.running).state = .trial →
    s.fw.archA.gen.toNat < 2 ^ 63 →
    s.fw.archB.gen.toNat < 2 ^ 63 →
    ((commitImage s c discard).fw.slot s.fw.running).state = .committed ∧ ((s.fw.slot (!s.fw.running)).state = .committed →
    ((commitImage s c discard).fw.slot (!s.fw.running)).state = .valid) ∧ (commitImage s c discard).fw.quarantine = false ∧
    (commitImage s c discard).fw.archA.tag = imageTag (s.fw.slot s.fw.running).data ∧ (commitImage s c discard).fw.archB.tag = imageTag (s.fw.slot s.fw.running).data) ∧
  (∀ (fn : Fn) (hub : Hub) (tag : W32) (wing : Byte) (p : Bytes) (c : Cmd) (s : State),
    c = sentCmd s 0x0404 fn hub tag wing p →
    accepts s c →
    wing = 0xFF#8 →
    onTrial s.fw = true →
    longFull s = false →
    bothHubs s = true →
    exec (.rollback fn hub tag wing p) s = .next (assertSource (scpFinish (scpCommit (s.updFw fun f => f.setSlot f.running { f.slot f.running with state := .valid }) c) c rOK []) 11 3)) ∧
  (∀ (s : State),
    bothHubs s = true →
    s.alive = true →
    s.fw.archDirty = true →
    (s.fw.slot s.fw.running).state = .committed →
    s.fw.quarantine = false →
    ∃ t, exec (.archiveWrite) s = .next t ∧ t = { s with fw := t.fw } ∧ t.fw.archDirty = false ∧
    (t.fw.archA = s.fw.archA ∨ t.fw.archB = s.fw.archB) ∧ (s.fw.archA.gen.toNat ≤ s.fw.archB.gen.toNat →
    t.fw.archA.gen = s.fw.archB.gen + 1 ∧ t.fw.archA.entries = liveEntries s ++ keptEntries s.fw) ∧
    (s.fw.archB.gen.toNat < s.fw.archA.gen.toNat → t.fw.archB.gen = s.fw.archA.gen + 1 ∧
    t.fw.archB.entries = liveEntries s ++ keptEntries s.fw) ∧ t.fw.slotA = s.fw.slotA ∧
    t.fw.slotB = s.fw.slotB) ∧
  (∀ (s : State),
    (s.fw.slot s.fw.running).state = .trial →
    exec (.archiveWrite) s = .next (s))

/-- Margins and repairs of a stack out of use, queries of spares, and the test modes that an officer unlocks.
What a margin run measures is a free value (log entry 10). MARGIN_RUN answers 80 pins; each a range within −32 to 31,
or none. MARGIN_APPLY sets the mode's byte of MEM_TRAIN, mode 0 being bits 7 to 0. REPAIR_QUERY answers a stack's
resources or a link's. REPAIR_ROW soft and hard take a spare of the bank, undo gives one back. REPAIR_LANE uses the
spare of the lane's group. TEST_UNLOCK needs the officer, NON_APPROVED and no wing or tenant key in use; TEST_LOCK
resets at level 4. PATTERN_TEST and MBIST start their tests, the pattern test leaves every line outside extent 47
clear, and MBIST clears scratchpads, caches and the engines' buffers, records the granule of a failing SRAM and
quarantines its unit.
Cites R557, R558, R559, R560, R561, R562, R563, R565, R566, 18_firmware_bringup.md (derived, tier 2). -/
def Obligations.MarginsRepairsAndTestModes : Prop :=
  (∀ (fn : Fn) (hub : Hub) (tag : W32) (wing : Byte) (p : Bytes) (c : Cmd) (s : State),
    c = sentCmd s 0x0901 fn hub tag wing p →
    accepts s c →
    wing = 0xFF#8 →
    zeroAt p 4 4 = true →
    leAt p 2 1 ≤ 3 →
    1 ≤ leAt p 3 1 ∧ leAt p 3 1 ≤ 8 →
    leAt p 0 1 ≤ 7 ∧ leAt p 1 1 ≤ 31 →
    (s.stack (leAt p 0 1)).failed = false →
    stackInUse s (leAt p 0 1) = false →
    longFull s = false →
    exec (.marginRun fn hub tag wing p) s = .next (scpFinish (s.free 160).2 c rOK ([BitVec.ofNat 8 (leAt p 2 1), 0] ++
    leBytes 2 80 ++ [BitVec.ofNat 8 (marginAt s (leAt p 0 1) (leAt p 1 1) (leAt p 2 1)), BitVec.ofNat 8 (leAt p 3 1), 0, 0] ++
    leBytes 8 s.now ++ (List.range 80).flatMap fun i => marginPin (leAt p 3 1) ((s.free 160).1.getD (2 * i) 0) ((s.free 160).1.getD (2 * i + 1) 0)))) ∧
  (∀ (step : Nat) (a b : Byte),
    1 ≤ step ∧ step ≤ 8 →
    (marginPin step a b = [0x80, 0x80]) ∨ ∃ lo hi : Int, marginPin step a b = [BitVec.ofInt 8 lo, BitVec.ofInt 8 hi] ∧
    -32 ≤ lo ∧ lo ≤ hi ∧ hi ≤ 31) ∧
  (∀ (fn : Fn) (hub : Hub) (tag : W32) (wing : Byte) (p : Bytes) (c : Cmd) (s : State),
    c = sentCmd s 0x0902 fn hub tag wing p →
    accepts s c →
    wing = 0xFF#8 →
    zeroAt p 4 4 = true →
    leAt p 2 1 = 0 →
    (leAt p 3 1 ≤ 31 ∨ 224 ≤ leAt p 3 1) →
    leAt p 0 1 ≤ 7 ∧ leAt p 1 1 ≤ 31 →
    (s.stack (leAt p 0 1)).failed = false →
    stackInUse s (leAt p 0 1) = false →
    exec (.marginApply fn hub tag wing p) s = .next (scpFinish (archived ((scpCommit s c).updStack (leAt p 0 1) fun x => { x with train := Tbl.set 0#32 x.train (leAt p 1 1) (BitVec.ofNat 32 ((Tbl.get 0#32 (s.stack (leAt p 0 1)).train (leAt p 1 1)).toNat / 256 * 256 + leAt p 3 1)) })) c rOK ([]))) ∧
  (∀ (fn : Fn) (hub : Hub) (tag : W32) (wing : Byte) (p : Bytes) (c : Cmd) (s : State) (x : Stack),
    c = sentCmd s 0x0801 fn hub tag wing p →
    accepts s c →
    wing = 0xFF#8 →
    zeroAt p 2 2 = true →
    leAt p 0 1 = 0 →
    leAt p 1 1 ≤ 7 →
    x = s.stack (leAt p 1 1) →
    exec (.repairQuery fn hub tag wing p) s = .next (scpFinish (s) c rOK (leBytes 4 (8192 - x.softRows.length - x.hardRows.length) ++
    leBytes 4 x.softRows.length ++ leBytes 4 x.hardRows.length ++ leBytes 4 (4096 - x.hardRows.length) ++
    leBytes 4 x.laneGroups.length ++ leBytes 8 (maskOf 64 fun g => x.laneGroups.contains g) ++
    leBytes 4 0))) ∧
  (∀ (fn : Fn) (hub : Hub) (tag : W32) (wing : Byte) (p : Bytes) (c : Cmd) (s : State),
    c = sentCmd s 0x0801 fn hub tag wing p →
    accepts s c →
    wing = 0xFF#8 →
    zeroAt p 2 2 = true →
    leAt p 0 1 = 1 →
    leAt p 1 1 ≤ 30 →
    exec (.repairQuery fn hub tag wing p) s = .next (scpFinish (s) c rOK (leBytes 2 (linkLanes (leAt p 1 1)) ++
    [BitVec.ofNat 8 (linkSpares s (leAt p 1 1) 0), BitVec.ofNat 8 (linkSpares s (leAt p 1 1) 1)] ++
    List.replicate 28 0))) ∧
  (∀ (fn : Fn) (hub : Hub) (tag : W32) (wing : Byte) (p : Bytes) (c : Cmd) (s : State),
    c = sentCmd s 0x0802 fn hub tag wing p →
    accepts s c →
    wing = 0xFF#8 →
    zeroAt p 6 2 = true →
    leAt p 0 1 ≤ 7 ∧ leAt p 1 1 ≤ 31 ∧ leAt p 2 1 ≤ 63 ∧ leAt p 4 2 < 24576 →
    (s.stack (leAt p 0 1)).failed = false →
    (∀ w, (s.ext (48 * leAt p 0 1 + leAt p 4 2 / 512)).owner = some w → (s.wing w).state ≠ .enabled) →
    (leAt p 1 1, leAt p 2 1, leAt p 4 2) ∉ (s.stack (leAt p 0 1)).hardRows →
    longFull s = false →
    leAt p 3 1 = 0 →
    (((s.stack (leAt p 0 1)).softRows.filter fun y => y.1 == leAt p 1 1 && y.2.1 == leAt p 2 1).length + ((s.stack (leAt p 0 1)).hardRows.filter fun y => y.1 == leAt p 1 1 && y.2.1 == leAt p 2 1).length < 4) →
    exec (.repairRow fn hub tag wing p) s = .next (scpFinish (archived ((moveRow (scpCommit s c) (leAt p 0 1) (leAt p 1 1) (leAt p 2 1) (leAt p 4 2)).updStack (leAt p 0 1) fun x => { x with softRows := x.softRows.filter (· != (leAt p 1 1, leAt p 2 1, leAt p 4 2)) ++ [(leAt p 1 1, leAt p 2 1, leAt p 4 2)] })) c rOK ([]))) ∧
  (∀ (fn : Fn) (hub : Hub) (tag : W32) (wing : Byte) (p : Bytes) (c : Cmd) (s : State),
    c = sentCmd s 0x0802 fn hub tag wing p →
    accepts s c →
    wing = 0xFF#8 →
    zeroAt p 6 2 = true →
    leAt p 0 1 ≤ 7 ∧ leAt p 1 1 ≤ 31 ∧ leAt p 2 1 ≤ 63 ∧ leAt p 4 2 < 24576 →
    (s.stack (leAt p 0 1)).failed = false →
    (∀ w, (s.ext (48 * leAt p 0 1 + leAt p 4 2 / 512)).owner = some w → (s.wing w).state ≠ .enabled) →
    (leAt p 1 1, leAt p 2 1, leAt p 4 2) ∉ (s.stack (leAt p 0 1)).hardRows →
    longFull s = false →
    leAt p 3 1 = 1 →
    (((s.stack (leAt p 0 1)).softRows.filter fun y => y.1 == leAt p 1 1 && y.2.1 == leAt p 2 1).length + ((s.stack (leAt p 0 1)).hardRows.filter fun y => y.1 == leAt p 1 1 && y.2.1 == leAt p 2 1).length < 4) →
    (((s.stack (leAt p 0 1)).hardRows.filter fun y => y.1 == leAt p 1 1 && y.2.1 == leAt p 2 1).length < 2) →
    exec (.repairRow fn hub tag wing p) s = .next (scpFinish (archived ((moveRow (scpCommit s c) (leAt p 0 1) (leAt p 1 1) (leAt p 2 1) (leAt p 4 2)).updStack (leAt p 0 1) fun x => { x with softRows := x.softRows.filter (· != (leAt p 1 1, leAt p 2 1, leAt p 4 2)), hardRows := x.hardRows ++ [(leAt p 1 1, leAt p 2 1, leAt p 4 2)] })) c rOK ([]))) ∧
  (∀ (fn : Fn) (hub : Hub) (tag : W32) (wing : Byte) (p : Bytes) (c : Cmd) (s : State),
    c = sentCmd s 0x0802 fn hub tag wing p →
    accepts s c →
    wing = 0xFF#8 →
    zeroAt p 6 2 = true →
    leAt p 0 1 ≤ 7 ∧ leAt p 1 1 ≤ 31 ∧ leAt p 2 1 ≤ 63 ∧ leAt p 4 2 < 24576 →
    (s.stack (leAt p 0 1)).failed = false →
    (∀ w, (s.ext (48 * leAt p 0 1 + leAt p 4 2 / 512)).owner = some w → (s.wing w).state ≠ .enabled) →
    (leAt p 1 1, leAt p 2 1, leAt p 4 2) ∉ (s.stack (leAt p 0 1)).hardRows →
    longFull s = false →
    leAt p 3 1 = 2 →
    (leAt p 1 1, leAt p 2 1, leAt p 4 2) ∈ (s.stack (leAt p 0 1)).softRows →
    exec (.repairRow fn hub tag wing p) s = .next (scpFinish (archived ((moveRow (scpCommit s c) (leAt p 0 1) (leAt p 1 1) (leAt p 2 1) (leAt p 4 2)).updStack (leAt p 0 1) fun x => { x with softRows := x.softRows.filter (· != (leAt p 1 1, leAt p 2 1, leAt p 4 2)) })) c rOK ([]))) ∧
  (∀ (fn : Fn) (hub : Hub) (tag : W32) (wing : Byte) (p : Bytes) (c : Cmd) (s : State),
    c = sentCmd s 0x0803 fn hub tag wing p →
    accepts s c →
    wing = 0xFF#8 →
    zeroAt p 4 4 = true →
    leAt p 0 1 = 0 →
    leAt p 1 1 ≤ 7 →
    leAt p 2 2 < 2560 →
    (s.stack (leAt p 1 1)).failed = false →
    stackInUse s (leAt p 1 1) = false →
    stackGroup (leAt p 2 2) ∉ (s.stack (leAt p 1 1)).laneGroups →
    longFull s = false →
    exec (.repairLane fn hub tag wing p) s = .next (scpFinish (archived ((scpCommit s c).updStack (leAt p 1 1) fun x => { x with laneGroups := x.laneGroups ++ [stackGroup (leAt p 2 2)] })) c rOK ([]))) ∧
  (∀ (fn : Fn) (hub : Hub) (tag : W32) (wing : Byte) (p : Bytes) (c : Cmd) (s : State),
    c = sentCmd s 0x0803 fn hub tag wing p →
    accepts s c →
    wing = 0xFF#8 →
    zeroAt p 4 4 = true →
    leAt p 0 1 = 1 →
    leAt p 1 1 ≤ 30 →
    leAt p 2 2 % 32768 < linkLanes (leAt p 1 1) →
    (s.link (leAt p 1 1)).spares = [] →
    (s.link (leAt p 1 1)).repairs = [] →
    longFull s = false →
    exec (.repairLane fn hub tag wing p) s = .next (scpFinish (archived ((scpCommit s c).updLink (leAt p 1 1) fun l => { l with repairs := l.repairs ++ [leAt p 2 2 / 32768 * 1024 + leAt p 2 2 % 32768] })) c rOK ([]))) ∧
  (∀ (s : State),
    regOpen s 0 = true →
    mayUnlock s 0 = true →
    s.fw.unlock = false →
    canLog s 0 →
    ∃ t, exec (.testUnlock 0) s = .next t ∧ t.fw = { s.fw with unlock := true } ∧ t.log.next = s.log.next + 1) ∧
  (∀ (s : State),
    regOpen s 0 = true →
    mayUnlock s 0 = false →
    exec (.testUnlock 0) s = .next (ignoredWrite s 0 0xFF 0x140310 4 (testCtl s) (testCtl (s.updFw fun f => testBits f (1 + 2 * b2n s.fw.debugLog))))) ∧
  (∀ (s : State),
    regOpen s 0 = true →
    canLog s 0 →
    exec (.testLock 0) s = .next (assertSource s 11 4)) ∧
  (∀ (s : State),
    regOpen s 0 = true →
    mayUnlock s 0 = true →
    s.fw.unlock = true →
    s.fw.patternRun = false →
    canLog s 0 →
    ∃ t, exec (.patternTest 0) s = .next t ∧ t.fw = { s.fw with patternRun := true, patternDone := false, patternFail := false }) ∧
  (∀ (s : State),
    regOpen s 0 = true →
    mayUnlock s 0 = true →
    s.fw.unlock = true →
    s.fw.mbistRun = false →
    canLog s 0 →
    ∃ t, exec (.mbist 0) s = .next t ∧ t.fw = { s.fw with mbistRun := true, mbistDone := false, mbistFail := false }) ∧
  (∀ (s : State),
    s.alive = true →
    s.fw.patternRun = true →
    ∃ t, exec (.patternTestDone []) s = .next t ∧ t.fw = { s.fw with patternRun := false, patternDone := true, patternFail := false } ∧
    (∀ a, isExt47 (extOf a) = false → Tbl.get 0#8 t.dram a = 0#8 ∧ t.line (lineOf a) = LineMeta.init) ∧
    (∀ a, isExt47 (extOf a) = true → Tbl.get 0#8 t.dram a = Tbl.get 0#8 s.dram a) ∧ t.reqs = s.reqs) ∧
  (∀ (s : State),
    s.alive = true →
    s.fw.mbistRun = true →
    exec (.mbistDone []) s = .next ({ s with sp := [], spBad := [], cache := [], mus := [], lanes := [], fw := { s.fw with mbistRun := false, mbistDone := true, mbistFail := false } })) ∧
  (∀ (u : Fin 112) (granule : Nat) (s : State),
    s.alive = true →
    s.fw.mbistRun = true →
    exec (.mbistDone [(u, granule)]) s = .next (quarantine (sramUE { s with sp := [], spBad := [], cache := [], mus := [], lanes := [], fw := { s.fw with mbistRun := false, mbistDone := true, mbistFail := true } } (unitDie u) (unitSram u) granule) u (unitSram u)))

/-- A step takes the command at the front of the queue and runs it with the rest of the queue; on an empty queue time
passes.
For every command c and state s, step of s with c at the front of its queue is exec c on s with the rest. On an empty
queue the step answers a next state that differs in the clock only, which is the model's choice (log entry 1).
Cites 00_scope.md, 95_what_each_step_holds.md (derived, tier 1). -/
def Obligations.AStepRunsTheFrontCommand : Prop :=
  (∀ (c : Instr) (rest : List Instr) (s : State),
    step { s with pending := c :: rest } = exec c { s with pending := rest }) ∧
  (∀ (s : State),
    s.pending = [] →
    ∃ t, step s = .next t ∧ t = { s with clk := t.clk } ∧ t.clk.master = s.clk.master ∧
    (0 ≤ s.clk.slew → t.clk.units = s.clk.units.map (· + 1) ∧ t.clk.slew = s.clk.slew))

/-- After reset: level 5 in progress, nothing bound, every wing and queue disabled, memory canonical with nothing listed,
fused reset map.
The queue of commands is empty. The fields named here have the values that the spec gives; State.reset is the moment
at which level 5 is in progress (log entry 3).
Cites R44, R493, R494, R506, R519, R479, R482, R535, R551, 16_reset_clocks_power.md, 00_scope.md (derived, tier 1). -/
def Obligations.TheMachineAfterReset : Prop :=
  (State.reset.pending = [] ∧ State.reset.rst.level = some 5 ∧ State.reset.reqs = [] ∧
    State.reset.log.next = 0 ∧ State.reset.vlt.mode = .selfTest ∧ State.reset.memOk ∧ State.reset.dram = [] ∧
    State.reset.sp = [] ∧ State.reset.mus = [] ∧ State.reset.lanes = [] ∧ State.reset.ahead = [] ∧ State.reset.bar2Waits = []) ∧
  (∀ (w : WingIx) (h : HcIx) (e : ExtIx) (q : QueIx) (v : Fn) (f : FlowIx),
    (State.reset.wing w).state = .disabled ∧ (State.reset.wing w).tenant = false ∧ (State.reset.half h).owner = none ∧
    (State.reset.half h).gen = 0 ∧ (State.reset.ext e).owner = none ∧ (State.reset.ext e).gen = 0 ∧
    (State.reset.que q).owner = none ∧ (State.reset.que q).state = .disabled ∧ (State.reset.tdi v).state = .unlocked ∧
    (State.reset.flow f).state = .reset ∧ (State.reset.flow f).owner = none) ∧
  (∀ (h : Hub),
    (State.reset.hub h).auth = .booting ∧ (State.reset.hub h).ready = false) ∧
  (∀ (src : Nat),
    src < 12 →
    rstWord State.reset (0x40 + 4 * src) = [0x20, 0x38, 0x18, 0x18, 0x41, 0x01, 0x48, 0x18, 0x30, 0x30, 0xD0, 0x80].getD src 0 * 65536 + [5, 4, 3, 3, 6, 0, 6, 3, 4, 5, 7, 7].getD src 0) ∧
  (rstWord State.reset 0 = 0x0C060580 ∧ rstWord State.reset 4 = 1000 ∧ rstWord State.reset 8 = 0x500 ∧
    rstWord State.reset 0x100 = 0)

/-- BAR0 reads identification and RST registers, writes IDLE_TIMEOUT in its range, drops writes to RO registers and
reserved offsets.
For an access that the device accepts. GLB_IDENT is 0x48201FC7 for PF0 and 0x48211FC7 for a VF; RST_CAP is 0x0C060580.
IDLE_TIMEOUT takes 100 to 10,000, logged; other values are ignored writes. Writes to read-only registers and to
reserved offsets are dropped; reserved offsets read zero. A VF that reads RST or VNT reads zero, and it is a violation
of kind 1. Outside the stream of a TDI in RUN nothing is reached, and VLT_NONTEE counts it. A misaligned access, or
one before READY, reads zero and drops its write. While an earlier BAR2 write of the function has not been performed,
its register writes are held back and have no effect.
Cites R62, R367, R435, R438, R439, R443, R480, R500, R505, R519, 14_host_network.md (derived, tier 2). -/
def Obligations.RegistersReadAndWriteAsTheirTablesSay : Prop :=
  (∀ (fn : Fn) (tee : Bool) (s : State),
    bar0Gate s fn 0 false tee = .pass →
    exec (.bar0Read fn 0 false tee) s = .next (s.emit (.readReturn fn (if fn = 0 then 0x48201FC7 else 0x48211FC7)))) ∧
  (∀ (tee : Bool) (s : State),
    bar0Gate s 0 0x140000 false tee = .pass →
    exec (.bar0Read 0 0x140000 false tee) s = .next (s.emit (.readReturn 0 0x0C060580))) ∧
  (∀ (tee : Bool) (s : State) (v : W64),
    portHeld s 0 = false →
    bar0Gate s 0 0x140004 false tee = .pass →
    100 ≤ v.toNat ∧ v.toNat ≤ 10000 →
    s.fw.quarantine = false →
    canLog s 0 →
    ∃ t, exec (.registerWrite 0 0x140004 false v tee) s = .next t ∧ t.rst.idleTimeout = v.toNat ∧
    t.rst.map = s.rst.map ∧ t.log.next = s.log.next + 1 ∧ t.reqs = s.reqs ∧ t.wings = s.wings) ∧
  (∀ (tee : Bool) (s : State) (v : W64),
    portHeld s 0 = false →
    bar0Gate s 0 0x140004 false tee = .pass →
    (v.toNat < 100 ∨ (10000 < v.toNat ∧ v.toNat < 16384)) →
    exec (.registerWrite 0 0x140004 false v tee) s = .next (ignoredWrite s 0 0xFF 0x140004 4 s.rst.idleTimeout v.toNat)) ∧
  (∀ (tee : Bool) (s : State) (v : W64) (off : BitVec 24),
    bar0Gate s 0 off.toNat false tee = .pass →
    off ∈ [0x140000, 0x140008, 0x140010, 0x140080, 0x140104, 0x140240, 0x140300, 0x140020, 0x000000, 0x1A0000] →
    exec (.registerWrite 0 off false v tee) s = .next (s)) ∧
  (∀ (tee : Bool) (s : State) (off : BitVec 24),
    bar0Gate s 0 off.toNat false tee = .pass →
    off ∈ [0x14000C, 0x140020, 0x140318, 0x1A0000, 0xFFFFFC] →
    exec (.bar0Read 0 off false tee) s = .next (s.emit (.readReturn 0 0))) ∧
  (∀ (fn : Fn) (tee : Bool) (s : State) (off : BitVec 24) (wide : Bool),
    bar0Gate s fn off.toNat wide tee = .pass →
    fn ≠ 0 →
    0x140000 ≤ off.toNat →
    off.toNat < 0x180000 →
    exec (.bar0Read fn off wide tee) s = .next ((violateFn s fn 1).emit (.readReturn fn 0))) ∧
  (∀ (fn : Fn) (s : State) (off : BitVec 24) (wide : Bool) (v : W64),
    bar0Gate s fn off.toNat wide false = .nonTee →
    (portHeld s fn = false → exec (.registerWrite fn off wide v false) s = .next (countNonTee s fn)) ∧ exec (.bar0Read fn off wide false) s = .next ((countNonTee s fn).emit (.unsupported fn))) ∧
  (∀ (fn : Fn) (s : State) (off : BitVec 24) (wide tee : Bool) (v : W64),
    bar0Gate s fn off.toNat wide tee = .zero →
    exec (.registerWrite fn off wide v tee) s = .next s ∧ exec (.bar0Read fn off wide tee) s = .next (s.emit (.readReturn fn 0))) ∧
  (∀ (fn : Fn) (s : State) (off : BitVec 24) (wide tee : Bool) (v : W64),
    portHeld s fn = true →
    exec (.registerWrite fn off wide v tee) s = .next s)

/-- Device memory and scratchpads keep their canonical form: addresses rise, and no listed byte is zero.
For every state whose memories are in canonical form: if step answers a next state, its memories are too. The form is
the model's own (log entry 5); that it holds at reset is part of TheMachineAfterReset.
Cites R340, R289, 00_scope.md (derived, tier 3). -/
def Obligations.EveryStepKeepsMemoryCanonical : Prop :=
  ∀ (s t : State),
    s.memOk →
    step s = .next t →
    t.memOk

/-- Every Ozol instruction decodes from its own word, every decoded word encodes back, and undefined opcodes and reserved
bits are refused.
ozEncode gives an instruction its word, ozDecode reads one. Every operand takes every value that its field admits.
Undefined opcodes and words with a non-zero reserved bit decode to nothing.
Cites R151, R154, R155, R156, 05_docent_programs.md (derived, tier 3). -/
def Obligations.OzolWordsAndInstructionsAgree : Prop :=
  (∀ (i : Instr) (d : DocIx) (w : W64),
    ozDoc i = some d →
    ozEncode i = some w →
    ozDecode d w = some i) ∧
  (∀ (i : Instr) (d : DocIx) (w : W64),
    ozDecode d w = some i →
    ozEncode i = some w ∧ ozDoc i = some d) ∧
  (∀ (i : Instr) (d : DocIx),
    ozDoc i = some d →
    ∃ w, ozEncode i = some w) ∧
  (∀ (op : Nat),
    op < 256 →
    (ozReserved op = none ↔ op = 0 ∨ op = 3 ∨ (7 ≤ op ∧ op ≤ 0xF) ∨ (0x1D ≤ op ∧ op ≤ 0x1F) ∨ op = 0x21 ∨ (0x2A ≤ op ∧
    op ≤ 0x2F) ∨ (0x3B ≤ op ∧ op ≤ 0x3F) ∨ (0x45 ≤ op ∧ op ≤ 0x47) ∨ (0x4A ≤ op ∧ op ≤ 0x4F) ∨ (0x55 ≤ op ∧
    op ≤ 0x57) ∨ 0x5B ≤ op)) ∧
  (∀ (d : DocIx) (w : W64),
    ozReserved (ozOp w).toNat = none →
    ozDecode d w = none) ∧
  (∀ (d : DocIx) (w m : W64),
    ozReserved (ozOp w).toNat = some m →
    w &&& m ≠ 0 →
    ozDecode d w = none)

/-- The docents' events, an arbiter's round and an access to BAR2 complete: what each leaves, under conditions on the
state and the operands alone.
DOCENT_LOAD_DONE of a LOADING docent: it runs, its watchdog and its interval count from now, the request's START_TS is
taken if none was, an SRAM that corrected is counted, one that could not is recorded and the docent quarantined; an
event that finds no LOADING docent changes nothing. DOCENT_FAULT_REPORT where one docent of a request in progress has
faulted: the request finishes with the code, byte offset, DETAIL and time of that fault, its docents return to IDLE or
QUARANTINED, its launches and batches are dropped, and commands that its pin held up go on. WATCHDOG_EXPIRY of a
running docent that holds no report: it stops at its word and reports WATCHDOG there, and nothing else changes; with its watchdogs
stopped nothing changes. ARBITER_ROUND at every kind of arbiter: the burst ends, the winner is granted and its work
begins, or lookups of its head batch are accepted; with no candidate nothing is granted. The ages: the winner's is 0
and a loser's rises by one to at most 63. An access to BAR2: a write of DRAM or of a scratchpad of the function's own
wing, a read of each, a read of a bad line, which answers zeros marked poisoned, a violation, and a reserved offset.
Cites R143, R144, R161, R163, R164, R166, R191, R275, R313, R365, R366, R367 (derived, tier 2). -/
def Obligations.DocentEventsRoundsAndBar2Complete : Prop :=
  (∀ (doc : DocIx) (sram : DocSram) (id : Nat) (s : State),
    (s.doc doc).req = some id →
    (s.doc doc).state = .loading →
    (∀ g, sram.load ≠ .bad g) →
    ∃ t, exec (.docentLoadDone doc sram) s = .next t ∧
    t.doc doc = { s.doc doc with state := .running, dogStart := s.now, intervalStart := s.now, upsets := sram.upsets } ∧
    (∀ d, d ≠ doc.val → t.doc d = s.doc d) ∧
    t.findReq id = (s.findReq id).map (fun r => { r with startTs := if r.startTs = 0 then s.now else r.startTs, dispTs := if r.lateClock then s.now else r.dispTs }) ∧
    (t.die (docCell doc)).sramCe = (if sram.load = .corrected then satInc (s.die (docCell doc)).sramCe else (s.die (docCell doc)).sramCe) ∧
    t.units = s.units ∧ t.launches = s.launches ∧ t.dram = s.dram ∧ t.sp = s.sp ∧ t.cats = s.cats ∧ t.arbs = s.arbs) ∧
  (∀ (doc : DocIx) (sram : DocSram) (id g : Nat) (s : State),
    (s.doc doc).req = some id →
    (s.doc doc).state = .loading →
    sram.load = .bad g →
    exec (.docentLoadDone doc sram) s = .next (quarantine (sramUE s (docCell doc) stDocent g) (40 + doc.val) stDocent)) ∧
  (∀ (doc : DocIx) (sram : DocSram) (s : State),
    ((s.doc doc).req = none ∨ (s.doc doc).state ≠ .loading) →
    exec (.docentLoadDone doc sram) s = .next s) ∧
  (∀ (doc : DocIx) (id : Nat) (f : DocFault) (r : Req) (s : State),
    (s.doc doc).fault = some f →
    (s.doc doc).req = some id →
    s.findReq id = some r →
    r.phase ≠ .finished →
    (reqDocents s id).filter (fun k => ((s.doc k).fault).isSome) = [doc.val] →
    ∃ t u, exec (.docentFaultReport doc) s = .next t ∧ t = retireAll u ∧
    u.findReq id = some { r with result := f.code, faultPc := f.pc, detail := f.detail, endTs := f.time, phase := .finished } ∧
    (∀ d, (s.doc d).req = some id → u.doc d = { Docent.init with state := if (s.unit (40 + d)).out then .quarantined else .idle }) ∧
    (∀ d, (∀ e ∈ s.docents, e.1 = d → e.2.req ≠ some id) → u.doc d = s.doc d) ∧
    u.launches = s.launches.filter (fun l => l.req != id) ∧ u.batches = s.batches.filter (fun b => b.req != id) ∧
    u.dram = s.dram ∧ u.sp = s.sp ∧ u.units = s.units ∧ u.cats = s.cats) ∧
  (∀ (doc : DocIx) (s : State),
    ((s.doc doc).fault = none ∨ (s.doc doc).req = none) →
    exec (.docentFaultReport doc) s = .next s) ∧
  (∀ (doc : DocIx) (id : Nat) (s : State),
    (s.doc doc).req = some id →
    (s.doc doc).state = .running →
    (s.doc doc).stall ≠ .ended →
    (s.doc doc).stopped = false →
    (s.doc doc).fault = none →
    dogStopped s id = false →
    exec (.watchdogExpiry doc) s = .next (s.setDoc doc { s.doc doc with stall := .faulted, fault := some { code := rWATCHDOG, pc := wordOffset (s.doc doc).pc, detail := faultDetail doc (s.doc doc).rank, time := s.now } })) ∧
  (∀ (doc : DocIx) (id : Nat) (s : State),
    (s.doc doc).req = some id →
    ((s.doc doc).state ≠ .running ∨ (s.doc doc).stall = .ended ∨ (s.doc doc).stopped = true ∨ dogStopped s id = true) →
    exec (.watchdogExpiry doc) s = .next s) ∧
  (∀ (arb : ArbIx) (s s1 : State) (w : Nat × Nat),
    s1 = endedBurst s arb →
    (∀ u, arb = .mu u → granted s (.mu u) = none) →
    (∀ g v, arb ≠ .gpe g v) →
    roundWinner s1 (arbKey arb) (arbDocs s1 arb).length (arbCands s1 arb) = some w →
    ∃ t, exec (.arbiterRound arb) s = .next t ∧
    t = beginWork (holdRound s1 (arbKey arb) (arbDocs s1 arb).length (arbCands s1 arb)) (arbEngine arb) ∧
    (t.arb (arbKey arb)).grant = some w.2 ∧ (t.arb (arbKey arb)).last = w.1 ∧
    (∀ l, readyHead (holdRound s1 (arbKey arb) (arbDocs s1 arb).length (arbCands s1 arb)) w.2 (arbEngine arb) = some l →
    ∀ x ∈ t.launches, x.doc = l.doc → x.ticket = l.ticket → l.begun = false → x.begun = true)) ∧
  (∀ (u : Fin 40) (l : Launch) (s : State),
    granted s (.mu u) = some l →
    exec (.arbiterRound (.mu u)) s = .next s) ∧
  (∀ (arb : ArbIx) (s s1 : State),
    s1 = endedBurst s arb →
    (∀ u, arb = .mu u → granted s (.mu u) = none) →
    arbCands s1 arb = [] →
    exec (.arbiterRound arb) s = .next (s1.updArb (arbKey arb) fun x => { x with grant := none })) ∧
  (∀ (g : Fin 16) (v : WingIx) (s s1 : State) (w : Nat × Nat) (b : Batch),
    roundWinner s (arbKey (.gpe g v)) 32 (arbCands s (.gpe g v)) = some w →
    s1 = holdRound s (arbKey (.gpe g v)) 32 (arbCands s (.gpe g v)) →
    (s1.batches.find? fun b => b.doc.val == w.2 && b.wing.val == v.val && !(waitingAt s1 g b).isEmpty) = some b →
    exec (.arbiterRound (.gpe g v)) s = .next (s1.updBatch b fun x => { x with taken := x.taken ++ (waitingAt s1 g b).take (min 64 (gpeRoom s1 g v)) })) ∧
  (∀ (s : State) (a n : Nat) (cands : List (Nat × Nat)) (w : Nat × Nat),
    roundWinner s a n cands = some w →
    (cands.map (·.2)).Nodup →
    (cands.map (·.1)).Nodup →
    ∀ c ∈ cands, ((holdRound s a n cands).doc c.2).age a = if c = w then 0 else min 63 ((s.doc c.2).age a + 1)) ∧
  (∀ (fn : Fn) (w : WingIx) (write : Bool) (off : BitVec 39) (len : Fin 65) (data : Bytes) (tee : Bool) (s : State) (n : Nat),
    s.alive = true →
    s.dlActive = true →
    memOpen s fn = true →
    (write = false → portHeld s fn = false) →
    (teeOnly s fn = false ∨ tee = true) →
    off.toNat < bar2End →
    bar2Target s off.toNat = (some w, true) →
    bar2Mine s fn w = true →
    n = min len.val (4096 - off.toNat % 4096) →
    exec (.bar2Access fn write off len data tee) s = .next (if write then bar2Write s fn off.toNat (fitTo n data) else bar2Read s fn off.toNat n)) ∧
  (∀ (fn : Fn) (off n : Nat) (b : Bytes) (s : State),
    off < bar2Sp →
    s.vlt.mode ≠ .error →
    (dramRead s off n = some b → bar2Read s fn off n = s.emit (.bar2Return fn b false)) ∧
    (dramRead s off n = none → bar2Read s fn off n = (dramReadFail s off n).emit (.bar2Return fn (List.replicate n 0#8) true))) ∧
  (∀ (fn : Fn) (off n : Nat) (data : Bytes) (s : State),
    bar2Sp ≤ off →
    bar2Write s fn off data = spWrite s ((off - bar2Sp) / spSize) ((off - bar2Sp) % spSize) data none ∧
    bar2Read s fn off n = (if spBadAt s ((off - bar2Sp) / spSize) ((off - bar2Sp) % spSize) n then (spReadError s ((off - bar2Sp) / spSize) ((off - bar2Sp) % spSize)).emit (.bar2Return fn (List.replicate n 0#8) true) else s.emit (.bar2Return fn (spRead s ((off - bar2Sp) / spSize) ((off - bar2Sp) % spSize) n) false))) ∧
  (∀ (fn : Fn) (write : Bool) (off : BitVec 39) (len : Fin 65) (data : Bytes) (tee : Bool) (s : State) (n : Nat),
    s.alive = true →
    s.dlActive = true →
    memOpen s fn = true →
    (write = false → portHeld s fn = false) →
    (teeOnly s fn = false ∨ tee = true) →
    n = min len.val (4096 - off.toNat % 4096) →
    off.toNat < bar2End →
    ((bar2Target s off.toNat).2 = false ∨ ∀ w, (bar2Target s off.toNat).1 = some w → bar2Mine s fn w = false) →
    exec (.bar2Access fn write off len data tee) s = .next (if write then violate s (bar2Victim s fn off.toNat) 0 else (violate s (bar2Victim s fn off.toNat) 0).emit (.bar2Return fn (List.replicate n 0#8) false))) ∧
  (∀ (fn : Fn) (write : Bool) (off : BitVec 39) (len : Fin 65) (data : Bytes) (tee : Bool) (s : State) (n : Nat),
    s.alive = true →
    s.dlActive = true →
    memOpen s fn = true →
    (write = false → portHeld s fn = false) →
    (teeOnly s fn = false ∨ tee = true) →
    n = min len.val (4096 - off.toNat % 4096) →
    bar2End ≤ off.toNat →
    exec (.bar2Access fn write off len data tee) s = .next (if write then s else s.emit (.bar2Return fn (List.replicate n 0#8) false)))
end

