-- ==== Sys2Proof/Laws/Scp.lean ====
section
/-! SUPPORT. What a command does once it passes what every command shares: its own part decides the answer. -/

namespace Sys2Proof.Machine

/-- A command whose own part answers at once. -/
theorem scpExec_done {op : Nat} {h : Handler} {fn : Fn} {hub : Hub} {tag : W32} {wing : Byte} {payload : Bytes}
    {s s1 : State} {code : Byte} {data : Bytes} (ha : accepts s (sentCmd s op fn hub tag wing payload))
    (hr : h s (sentCmd s op fn hub tag wing payload) = (s1, .done code data)) :
    scpExec op h fn hub tag wing payload s = .next (scpFinish s1 (sentCmd s op fn hub tag wing payload) code data) := by
  obtain ⟨h1, h2, h3, h4, h5⟩ := ha
  simp only [sentCmd] at h1 h2 h3 h4 h5 hr ⊢
  simp [scpExec, scpSubmit, h1, h2, h3, h4, h5, hr]

/-- A command whose own part goes on. -/
theorem scpExec_pend {op : Nat} {h : Handler} {fn : Fn} {hub : Hub} {tag : W32} {wing : Byte} {payload : Bytes}
    {s s1 : State} {committed : Bool} {data : List Nat} (ha : accepts s (sentCmd s op fn hub tag wing payload))
    (hr : h s (sentCmd s op fn hub tag wing payload) = (s1, .pend committed data)) :
    scpExec op h fn hub tag wing payload s = .next (s1.updMbox (mbxKey fn hub) fun m => { m with run := some (Run.mk
      (BitVec.ofNat 16 op) (s.fnSt fn).minor tag wing payload s.now committed data) }) := by
  obtain ⟨h1, h2, h3, h4, h5⟩ := ha
  simp only [sentCmd] at h1 h2 h3 h4 h5 hr ⊢
  simp [scpExec, scpSubmit, h1, h2, h3, h4, h5, hr]

/-- A command refused by one of checks 1 to 10. -/
theorem scpExec_refused {op : Nat} {h : Handler} {fn : Fn} {hub : Hub} {tag : W32} {wing : Byte} {payload : Bytes}
    {s : State} {f : Nat × Byte} (h1 : windowOpen s fn hub = true) (h2 : (s.mbox (mbxKey fn hub)).run = none)
    (h3 : s.pcie.moving = false) (h5 : superseded s (sentCmd s op fn hub tag wing payload) = false)
    (h4 : scpChecks s (sentCmd s op fn hub tag wing payload) 1 (s.fnSt fn).minor.toNat false payload.length = some f) :
    scpExec op h fn hub tag wing payload s =
      .next (scpFinish (scpRefusal s (sentCmd s op fn hub tag wing payload) f.1) (sentCmd s op fn hub tag wing payload) f.2 []) := by
  simp only [sentCmd] at h4 h5 ⊢
  simp [scpExec, scpSubmit, h1, h2, h3, h4, h5]

/-- No check fails: the effect follows. -/
theorem checked_pass {s : State} {l : List (Bool × Byte)} {e : State → State × Res} (h : firstFail l = none) :
    checked s l e = e s := by simp [checked, h]

/-- A check fails: its code is the answer, and nothing else happens. -/
theorem checked_fail {s : State} {l : List (Bool × Byte)} {e : State → State × Res} {code : Byte}
    (h : firstFail l = some code) : checked s l e = (s, .done code []) := by simp [checked, h]

/-- The first failing check, one check at a time. -/
theorem firstFail_cons (b : Bool) (c : Byte) (l : List (Bool × Byte)) :
    firstFail ((b, c) :: l) = if b then some c else firstFail l := by cases b <;> simp [firstFail]

@[simp] theorem firstFail_nil : firstFail [] = none := rfl

end Sys2Proof.Machine
end

