-- ==== Sys2Proof/Laws/Table.lean ====
section
/-! SUPPORT. Laws of sparse tables and of memory: a read after a write, and the canonical form, which every operation keeps. -/

namespace Sys2Proof.Machine

variable {α : Type}

/-! ### Read after write -/

theorem Tbl.get_put_same (d : α) (t : Tbl α) (k : Nat) (v : α) : Tbl.get d (Tbl.put t k v) k = v := by
  induction t with
  | nil => simp [Tbl.put, Tbl.get]
  | cons e t ih => rcases e with ⟨k', v'⟩; simp only [Tbl.put]; split_ifs <;> simp_all [Tbl.get]

theorem Tbl.get_put_other (d : α) (t : Tbl α) {k j : Nat} (v : α) (h : j ≠ k) : Tbl.get d (Tbl.put t k v) j = Tbl.get d t j := by
  induction t with
  | nil => simp [Tbl.put, Tbl.get, Ne.symm h]
  | cons e t ih => rcases e with ⟨k', v'⟩; simp only [Tbl.put]; split_ifs <;> simp_all [Tbl.get, Ne.symm h]

theorem Tbl.get_erase_same (d : α) (t : Tbl α) (k : Nat) : Tbl.get d (t.filter fun e => e.1 != k) k = d := by
  induction t with
  | nil => rfl
  | cons e t ih => rcases e with ⟨k', v'⟩; by_cases hk : k' = k <;> simp_all [Tbl.get]

theorem Tbl.get_erase_other (d : α) (t : Tbl α) {k j : Nat} (h : j ≠ k) :
    Tbl.get d (t.filter fun e => e.1 != k) j = Tbl.get d t j := by
  induction t with
  | nil => rfl
  | cons e t ih =>
    rcases e with ⟨k', v'⟩
    by_cases hk : k' = k
    · subst hk; simp_all [Tbl.get, Ne.symm h]
    · by_cases hj : k' = j <;> simp_all [Tbl.get]

/-- A read at the key written gives the value written. -/
@[simp] theorem Tbl.get_set_same [DecidableEq α] (d : α) (t : Tbl α) (k : Nat) (v : α) : Tbl.get d (Tbl.set d t k v) k = v := by
  unfold Tbl.set
  split_ifs with h
  · rw [Tbl.get_erase_same, h]
  · exact Tbl.get_put_same d t k v

/-- A read at another key gives what it gave. -/
theorem Tbl.get_set_other [DecidableEq α] (d : α) (t : Tbl α) {k j : Nat} (v : α) (h : j ≠ k) :
    Tbl.get d (Tbl.set d t k v) j = Tbl.get d t j := by
  unfold Tbl.set
  split_ifs
  · exact Tbl.get_erase_other d t h
  · exact Tbl.get_put_other d t v h

theorem Tbl.get_set [DecidableEq α] (d : α) (t : Tbl α) (k j : Nat) (v : α) :
    Tbl.get d (Tbl.set d t k v) j = if j = k then v else Tbl.get d t j := by
  split_ifs with h
  · subst h; exact Tbl.get_set_same d t j v
  · exact Tbl.get_set_other d t v h

@[simp] theorem Tbl.get_nil (d : α) (k : Nat) : Tbl.get d [] k = d := rfl

/-! ### The canonical form -/

/-- The canonical form, as sortedness and no default entry. -/
theorem Tbl.wf_iff [DecidableEq α] (d : α) (t : Tbl α) :
    Tbl.wf d t = true ↔ (t.map (·.1)).Pairwise (· < ·) ∧ ∀ e ∈ t, e.2 ≠ d := by
  induction t with
  | nil => simp [Tbl.wf]
  | cons e t ih =>
    rcases e with ⟨k, v⟩
    cases t with
    | nil => simp [Tbl.wf]
    | cons e' t =>
      rcases e' with ⟨k', v'⟩
      simp only [Tbl.wf, Bool.and_eq_true, decide_eq_true_eq, ih]
      constructor
      · rintro ⟨⟨hv, hk⟩, hs, hd⟩
        refine ⟨?_, ?_⟩
        · simp only [List.map_cons, List.pairwise_cons] at hs ⊢
          refine ⟨?_, hs⟩
          intro a ha
          rcases List.mem_cons.mp ha with rfl | ha
          · exact hk
          · exact lt_trans hk (hs.1 a ha)
        · intro e he
          rcases List.mem_cons.mp he with rfl | he
          · exact hv
          · exact hd e he
      · rintro ⟨hs, hd⟩
        simp only [List.map_cons, List.pairwise_cons] at hs
        refine ⟨⟨hd (k, v) (by simp), hs.1 k' (by simp)⟩, ?_, fun e he => hd e (List.mem_cons_of_mem _ he)⟩
        simpa [List.map_cons, List.pairwise_cons] using hs.2

theorem Tbl.mem_put (t : Tbl α) (k : Nat) (v : α) (e : Nat × α) (h : e ∈ Tbl.put t k v) : e = (k, v) ∨ e ∈ t := by
  induction t with
  | nil => simpa [Tbl.put] using h
  | cons e' t ih => rcases e' with ⟨k', v'⟩; simp only [Tbl.put] at h; split_ifs at h <;> simp_all <;> tauto

theorem Tbl.put_sorted (t : Tbl α) (k : Nat) (v : α) (h : (t.map (·.1)).Pairwise (· < ·)) :
    ((Tbl.put t k v).map (·.1)).Pairwise (· < ·) := by
  induction t with
  | nil => simp [Tbl.put]
  | cons e t ih =>
    rcases e with ⟨k', v'⟩
    simp only [List.map_cons, List.pairwise_cons] at h
    simp only [Tbl.put]
    split_ifs with h1 h2
    · subst h1; simpa [List.map_cons, List.pairwise_cons] using h
    · simp only [List.map_cons, List.pairwise_cons]
      refine ⟨?_, h⟩
      intro a ha
      rcases List.mem_cons.mp ha with rfl | ha
      · exact h2
      · exact lt_trans h2 (h.1 a ha)
    · simp only [List.map_cons, List.pairwise_cons]
      refine ⟨?_, ih h.2⟩
      intro a ha
      obtain ⟨e, he, rfl⟩ := List.mem_map.mp ha
      rcases Tbl.mem_put t k v e he with rfl | he
      · show k' < k; omega
      · exact h.1 e.1 (List.mem_map.mpr ⟨e, he, rfl⟩)

/-- Writing a key keeps the canonical form. -/
theorem Tbl.set_wf [DecidableEq α] (d : α) (t : Tbl α) (k : Nat) (v : α) (h : Tbl.wf d t = true) : Tbl.wf d (Tbl.set d t k v) = true := by
  rw [Tbl.wf_iff] at h ⊢
  unfold Tbl.set
  split_ifs with hv
  · exact ⟨(h.1).sublist (List.filter_sublist.map _), fun e he => h.2 e (List.mem_filter.mp he).1⟩
  · refine ⟨Tbl.put_sorted t k v h.1, fun e he => ?_⟩
    rcases Tbl.mem_put t k v e he with rfl | he
    · exact hv
    · exact h.2 e he

/-- Removing entries keeps the canonical form. -/
theorem Tbl.filter_wf [DecidableEq α] (d : α) (t : Tbl α) (p : Nat × α → Bool) (h : Tbl.wf d t = true) : Tbl.wf d (t.filter p) = true := by
  rw [Tbl.wf_iff] at h ⊢
  exact ⟨(h.1).sublist (List.filter_sublist.map _), fun e he => h.2 e (List.mem_filter.mp he).1⟩

/-! ### Memory -/

/-- A write of memory keeps the canonical form. -/
theorem Mem.write_wf (m : Mem) (a : Nat) (b : Bytes) (h : m.wf = true) : (m.write a b).wf = true := by
  induction b generalizing m a with
  | nil => simpa [Mem.write] using h
  | cons x b ih => exact ih _ _ (Tbl.set_wf 0#8 m a x h)

/-- Clearing memory keeps the canonical form. -/
theorem Mem.clear_wf (m : Mem) (a n : Nat) (h : m.wf = true) : (m.clear a n).wf = true := Tbl.filter_wf 0#8 m _ h

/-- A byte outside those written reads as before. -/
theorem Mem.get_write_other (m : Mem) (a : Nat) (b : Bytes) (j : Nat) (h : j < a ∨ a + b.length ≤ j) :
    Tbl.get 0#8 (m.write a b) j = Tbl.get 0#8 m j := by
  induction b generalizing m a with
  | nil => rfl
  | cons x b ih =>
    simp only [List.length_cons] at h
    rw [Mem.write, ih _ _ (by omega), Tbl.get_set_other]
    omega

/-- A byte written reads as written. -/
theorem Mem.get_write_same (m : Mem) (a : Nat) (b : Bytes) (i : Nat) (h : i < b.length) :
    Tbl.get 0#8 (m.write a b) (a + i) = b[i] := by
  induction b generalizing m a i with
  | nil => simp at h
  | cons x b ih =>
    rw [Mem.write]
    cases i with
    | zero => rw [Mem.get_write_other _ _ _ _ (by omega)]; simp
    | succ i =>
      have := ih (Tbl.set 0#8 m a x) (a + 1) i (by simpa using h)
      rw [show a + (i + 1) = a + 1 + i by omega, this]; simp

/-- Bytes written are read back. -/
theorem Mem.read_write_same (m : Mem) (a : Nat) (b : Bytes) : (m.write a b).read a b.length = b := by
  apply List.ext_getElem
  · simp [Mem.read]
  · intro i h1 h2
    simp only [Mem.read, List.getElem_map, List.getElem_range]
    exact Mem.get_write_same m a b i h2

/-- Memory that is clear reads zero. -/
theorem Mem.get_clear (m : Mem) (a n j : Nat) (h : a ≤ j) (h2 : j < a + n) : Tbl.get 0#8 (m.clear a n) j = 0#8 := by
  unfold Mem.clear
  induction m with
  | nil => rfl
  | cons e m ih =>
    rcases e with ⟨k, v⟩
    rw [List.filter_cons]
    split_ifs with hk
    · have hne : k ≠ j := by
        rintro rfl
        simp at hk; omega
      rw [Tbl.get, if_neg hne]; exact ih
    · exact ih

end Sys2Proof.Machine
end

