-- ==== Sys2Proof/Laws/State.lean ====
section
/-! SUPPORT. What the named updates of the state change, and that they change nothing else: one lemma per field and per accessor. -/

namespace Sys2Proof.Machine

variable (s : State) (k j : Nat)

/-! ### setHub -/

@[simp] theorem State.updHub_eq (f : HubSt → HubSt) : s.updHub k f = s.setHub k (f (s.hub k)) := rfl
theorem State.hub_setHub (v : HubSt) : (s.setHub k v).hub j = if j = k then v else s.hub j := Tbl.get_set ..
@[simp] theorem State.hub_setHub_same (v : HubSt) : (s.setHub k v).hub k = v := Tbl.get_set_same ..
@[simp] theorem State.setHub_pending (v : HubSt) : (s.setHub k v).pending = s.pending := rfl
@[simp] theorem State.setHub_out (v : HubSt) : (s.setHub k v).out = s.out := rfl
@[simp] theorem State.setHub_freeCtr (v : HubSt) : (s.setHub k v).freeCtr = s.freeCtr := rfl
@[simp] theorem State.setHub_clk (v : HubSt) : (s.setHub k v).clk = s.clk := rfl
@[simp] theorem State.setHub_plinth (v : HubSt) : (s.setHub k v).plinth = s.plinth := rfl
@[simp] theorem State.setHub_hubLinkUp (v : HubSt) : (s.setHub k v).hubLinkUp = s.hubLinkUp := rfl
@[simp] theorem State.setHub_ports (v : HubSt) : (s.setHub k v).ports = s.ports := rfl
@[simp] theorem State.setHub_links (v : HubSt) : (s.setHub k v).links = s.links := rfl
@[simp] theorem State.setHub_noAuthority (v : HubSt) : (s.setHub k v).noAuthority = s.noAuthority := rfl
@[simp] theorem State.setHub_lastDispatch (v : HubSt) : (s.setHub k v).lastDispatch = s.lastDispatch := rfl
@[simp] theorem State.setHub_mbx (v : HubSt) : (s.setHub k v).mbx = s.mbx := rfl
@[simp] theorem State.setHub_fns (v : HubSt) : (s.setHub k v).fns = s.fns := rfl
@[simp] theorem State.setHub_msix (v : HubSt) : (s.setHub k v).msix = s.msix := rfl
@[simp] theorem State.setHub_pcie (v : HubSt) : (s.setHub k v).pcie = s.pcie := rfl
@[simp] theorem State.setHub_peers (v : HubSt) : (s.setHub k v).peers = s.peers := rfl
@[simp] theorem State.setHub_halfCells (v : HubSt) : (s.setHub k v).halfCells = s.halfCells := rfl
@[simp] theorem State.setHub_cells (v : HubSt) : (s.setHub k v).cells = s.cells := rfl
@[simp] theorem State.setHub_extents (v : HubSt) : (s.setHub k v).extents = s.extents := rfl
@[simp] theorem State.setHub_vfs (v : HubSt) : (s.setHub k v).vfs = s.vfs := rfl
@[simp] theorem State.setHub_units (v : HubSt) : (s.setHub k v).units = s.units := rfl
@[simp] theorem State.setHub_wings (v : HubSt) : (s.setHub k v).wings = s.wings := rfl
@[simp] theorem State.setHub_noWing (v : HubSt) : (s.setHub k v).noWing = s.noWing := rfl
@[simp] theorem State.setHub_noWingSince (v : HubSt) : (s.setHub k v).noWingSince = s.noWingSince := rfl
@[simp] theorem State.setHub_noWingAt (v : HubSt) : (s.setHub k v).noWingAt = s.noWingAt := rfl
@[simp] theorem State.setHub_queues (v : HubSt) : (s.setHub k v).queues = s.queues := rfl
@[simp] theorem State.setHub_reqs (v : HubSt) : (s.setHub k v).reqs = s.reqs := rfl
@[simp] theorem State.setHub_nextReq (v : HubSt) : (s.setHub k v).nextReq = s.nextReq := rfl
@[simp] theorem State.setHub_images (v : HubSt) : (s.setHub k v).images = s.images := rfl
@[simp] theorem State.setHub_docents (v : HubSt) : (s.setHub k v).docents = s.docents := rfl
@[simp] theorem State.setHub_launches (v : HubSt) : (s.setHub k v).launches = s.launches := rfl
@[simp] theorem State.setHub_arbs (v : HubSt) : (s.setHub k v).arbs = s.arbs := rfl
@[simp] theorem State.setHub_batches (v : HubSt) : (s.setHub k v).batches = s.batches := rfl
@[simp] theorem State.setHub_dups (v : HubSt) : (s.setHub k v).dups = s.dups := rfl
@[simp] theorem State.setHub_sp (v : HubSt) : (s.setHub k v).sp = s.sp := rfl
@[simp] theorem State.setHub_spBad (v : HubSt) : (s.setHub k v).spBad = s.spBad := rfl
@[simp] theorem State.setHub_ckpts (v : HubSt) : (s.setHub k v).ckpts = s.ckpts := rfl
@[simp] theorem State.setHub_ckptCount (v : HubSt) : (s.setHub k v).ckptCount = s.ckptCount := rfl
@[simp] theorem State.setHub_tables (v : HubSt) : (s.setHub k v).tables = s.tables := rfl
@[simp] theorem State.setHub_cats (v : HubSt) : (s.setHub k v).cats = s.cats := rfl
@[simp] theorem State.setHub_dir (v : HubSt) : (s.setHub k v).dir = s.dir := rfl
@[simp] theorem State.setHub_cache (v : HubSt) : (s.setHub k v).cache = s.cache := rfl
@[simp] theorem State.setHub_dram (v : HubSt) : (s.setHub k v).dram = s.dram := rfl
@[simp] theorem State.setHub_lines (v : HubSt) : (s.setHub k v).lines = s.lines := rfl
@[simp] theorem State.setHub_dramStacks (v : HubSt) : (s.setHub k v).dramStacks = s.dramStacks := rfl
@[simp] theorem State.setHub_patrolHours (v : HubSt) : (s.setHub k v).patrolHours = s.patrolHours := rfl
@[simp] theorem State.setHub_priTimeout (v : HubSt) : (s.setHub k v).priTimeout = s.priTimeout := rfl
@[simp] theorem State.setHub_rowErrs (v : HubSt) : (s.setHub k v).rowErrs = s.rowErrs := rfl
@[simp] theorem State.setHub_tlb (v : HubSt) : (s.setHub k v).tlb = s.tlb := rfl
@[simp] theorem State.setHub_ptw (v : HubSt) : (s.setHub k v).ptw = s.ptw := rfl
@[simp] theorem State.setHub_lineWaits (v : HubSt) : (s.setHub k v).lineWaits = s.lineWaits := rfl
@[simp] theorem State.setHub_ats (v : HubSt) : (s.setHub k v).ats = s.ats := rfl
@[simp] theorem State.setHub_atsReqs (v : HubSt) : (s.setHub k v).atsReqs = s.atsReqs := rfl
@[simp] theorem State.setHub_priReqs (v : HubSt) : (s.setHub k v).priReqs = s.priReqs := rfl
@[simp] theorem State.setHub_dies (v : HubSt) : (s.setHub k v).dies = s.dies := rfl
@[simp] theorem State.setHub_digestPairs (v : HubSt) : (s.setHub k v).digestPairs = s.digestPairs := rfl
@[simp] theorem State.setHub_log (v : HubSt) : (s.setHub k v).log = s.log := rfl
@[simp] theorem State.setHub_par (v : HubSt) : (s.setHub k v).par = s.par := rfl
@[simp] theorem State.setHub_ethPorts (v : HubSt) : (s.setHub k v).ethPorts = s.ethPorts := rfl
@[simp] theorem State.setHub_flows (v : HubSt) : (s.setHub k v).flows = s.flows := rfl
@[simp] theorem State.setHub_vlt (v : HubSt) : (s.setHub k v).vlt = s.vlt := rfl
@[simp] theorem State.setHub_tdis (v : HubSt) : (s.setHub k v).tdis = s.tdis := rfl
@[simp] theorem State.setHub_rst (v : HubSt) : (s.setHub k v).rst = s.rst := rfl
@[simp] theorem State.setHub_fw (v : HubSt) : (s.setHub k v).fw = s.fw := rfl
@[simp] theorem State.setHub_vnt (v : HubSt) : (s.setHub k v).vnt = s.vnt := rfl
@[simp] theorem State.setHub_tap (v : HubSt) : (s.setHub k v).tap = s.tap := rfl
@[simp] theorem State.setHub_moves (v : HubSt) : (s.setHub k v).moves = s.moves := rfl
@[simp] theorem State.setHub_mus (v : HubSt) : (s.setHub k v).mus = s.mus := rfl
@[simp] theorem State.setHub_lanes (v : HubSt) : (s.setHub k v).lanes = s.lanes := rfl
@[simp] theorem State.setHub_ahead (v : HubSt) : (s.setHub k v).ahead = s.ahead := rfl
@[simp] theorem State.setHub_bar2Waits (v : HubSt) : (s.setHub k v).bar2Waits = s.bar2Waits := rfl
@[simp] theorem State.setHub_port_ (v : HubSt) : (s.setHub k v).port j = s.port j := rfl
@[simp] theorem State.setHub_link_ (v : HubSt) : (s.setHub k v).link j = s.link j := rfl
@[simp] theorem State.setHub_mbox_ (v : HubSt) : (s.setHub k v).mbox j = s.mbox j := rfl
@[simp] theorem State.setHub_fnSt_ (v : HubSt) : (s.setHub k v).fnSt j = s.fnSt j := rfl
@[simp] theorem State.setHub_msixEnt_ (v : HubSt) : (s.setHub k v).msixEnt j = s.msixEnt j := rfl
@[simp] theorem State.setHub_peer_ (v : HubSt) : (s.setHub k v).peer j = s.peer j := rfl
@[simp] theorem State.setHub_half_ (v : HubSt) : (s.setHub k v).half j = s.half j := rfl
@[simp] theorem State.setHub_cell_ (v : HubSt) : (s.setHub k v).cell j = s.cell j := rfl
@[simp] theorem State.setHub_ext_ (v : HubSt) : (s.setHub k v).ext j = s.ext j := rfl
@[simp] theorem State.setHub_vf_ (v : HubSt) : (s.setHub k v).vf j = s.vf j := rfl
@[simp] theorem State.setHub_unit_ (v : HubSt) : (s.setHub k v).unit j = s.unit j := rfl
@[simp] theorem State.setHub_wing_ (v : HubSt) : (s.setHub k v).wing j = s.wing j := rfl
@[simp] theorem State.setHub_que_ (v : HubSt) : (s.setHub k v).que j = s.que j := rfl
@[simp] theorem State.setHub_doc_ (v : HubSt) : (s.setHub k v).doc j = s.doc j := rfl
@[simp] theorem State.setHub_arb_ (v : HubSt) : (s.setHub k v).arb j = s.arb j := rfl
@[simp] theorem State.setHub_table_ (v : HubSt) : (s.setHub k v).table j = s.table j := rfl
@[simp] theorem State.setHub_cat_ (v : HubSt) : (s.setHub k v).cat j = s.cat j := rfl
@[simp] theorem State.setHub_line_ (v : HubSt) : (s.setHub k v).line j = s.line j := rfl
@[simp] theorem State.setHub_stack_ (v : HubSt) : (s.setHub k v).stack j = s.stack j := rfl
@[simp] theorem State.setHub_die_ (v : HubSt) : (s.setHub k v).die j = s.die j := rfl
@[simp] theorem State.setHub_eth_ (v : HubSt) : (s.setHub k v).eth j = s.eth j := rfl
@[simp] theorem State.setHub_flow_ (v : HubSt) : (s.setHub k v).flow j = s.flow j := rfl
@[simp] theorem State.setHub_tdi_ (v : HubSt) : (s.setHub k v).tdi j = s.tdi j := rfl
@[simp] theorem State.setHub_mu_ (v : HubSt) : (s.setHub k v).mu j = s.mu j := rfl
@[simp] theorem State.setHub_lane_ (v : HubSt) : (s.setHub k v).lane j = s.lane j := rfl

/-! ### setPort -/

@[simp] theorem State.updPort_eq (f : Port → Port) : s.updPort k f = s.setPort k (f (s.port k)) := rfl
theorem State.port_setPort (v : Port) : (s.setPort k v).port j = if j = k then v else s.port j := Tbl.get_set ..
@[simp] theorem State.port_setPort_same (v : Port) : (s.setPort k v).port k = v := Tbl.get_set_same ..
@[simp] theorem State.setPort_pending (v : Port) : (s.setPort k v).pending = s.pending := rfl
@[simp] theorem State.setPort_out (v : Port) : (s.setPort k v).out = s.out := rfl
@[simp] theorem State.setPort_freeCtr (v : Port) : (s.setPort k v).freeCtr = s.freeCtr := rfl
@[simp] theorem State.setPort_clk (v : Port) : (s.setPort k v).clk = s.clk := rfl
@[simp] theorem State.setPort_plinth (v : Port) : (s.setPort k v).plinth = s.plinth := rfl
@[simp] theorem State.setPort_hubs (v : Port) : (s.setPort k v).hubs = s.hubs := rfl
@[simp] theorem State.setPort_hubLinkUp (v : Port) : (s.setPort k v).hubLinkUp = s.hubLinkUp := rfl
@[simp] theorem State.setPort_links (v : Port) : (s.setPort k v).links = s.links := rfl
@[simp] theorem State.setPort_noAuthority (v : Port) : (s.setPort k v).noAuthority = s.noAuthority := rfl
@[simp] theorem State.setPort_lastDispatch (v : Port) : (s.setPort k v).lastDispatch = s.lastDispatch := rfl
@[simp] theorem State.setPort_mbx (v : Port) : (s.setPort k v).mbx = s.mbx := rfl
@[simp] theorem State.setPort_fns (v : Port) : (s.setPort k v).fns = s.fns := rfl
@[simp] theorem State.setPort_msix (v : Port) : (s.setPort k v).msix = s.msix := rfl
@[simp] theorem State.setPort_pcie (v : Port) : (s.setPort k v).pcie = s.pcie := rfl
@[simp] theorem State.setPort_peers (v : Port) : (s.setPort k v).peers = s.peers := rfl
@[simp] theorem State.setPort_halfCells (v : Port) : (s.setPort k v).halfCells = s.halfCells := rfl
@[simp] theorem State.setPort_cells (v : Port) : (s.setPort k v).cells = s.cells := rfl
@[simp] theorem State.setPort_extents (v : Port) : (s.setPort k v).extents = s.extents := rfl
@[simp] theorem State.setPort_vfs (v : Port) : (s.setPort k v).vfs = s.vfs := rfl
@[simp] theorem State.setPort_units (v : Port) : (s.setPort k v).units = s.units := rfl
@[simp] theorem State.setPort_wings (v : Port) : (s.setPort k v).wings = s.wings := rfl
@[simp] theorem State.setPort_noWing (v : Port) : (s.setPort k v).noWing = s.noWing := rfl
@[simp] theorem State.setPort_noWingSince (v : Port) : (s.setPort k v).noWingSince = s.noWingSince := rfl
@[simp] theorem State.setPort_noWingAt (v : Port) : (s.setPort k v).noWingAt = s.noWingAt := rfl
@[simp] theorem State.setPort_queues (v : Port) : (s.setPort k v).queues = s.queues := rfl
@[simp] theorem State.setPort_reqs (v : Port) : (s.setPort k v).reqs = s.reqs := rfl
@[simp] theorem State.setPort_nextReq (v : Port) : (s.setPort k v).nextReq = s.nextReq := rfl
@[simp] theorem State.setPort_images (v : Port) : (s.setPort k v).images = s.images := rfl
@[simp] theorem State.setPort_docents (v : Port) : (s.setPort k v).docents = s.docents := rfl
@[simp] theorem State.setPort_launches (v : Port) : (s.setPort k v).launches = s.launches := rfl
@[simp] theorem State.setPort_arbs (v : Port) : (s.setPort k v).arbs = s.arbs := rfl
@[simp] theorem State.setPort_batches (v : Port) : (s.setPort k v).batches = s.batches := rfl
@[simp] theorem State.setPort_dups (v : Port) : (s.setPort k v).dups = s.dups := rfl
@[simp] theorem State.setPort_sp (v : Port) : (s.setPort k v).sp = s.sp := rfl
@[simp] theorem State.setPort_spBad (v : Port) : (s.setPort k v).spBad = s.spBad := rfl
@[simp] theorem State.setPort_ckpts (v : Port) : (s.setPort k v).ckpts = s.ckpts := rfl
@[simp] theorem State.setPort_ckptCount (v : Port) : (s.setPort k v).ckptCount = s.ckptCount := rfl
@[simp] theorem State.setPort_tables (v : Port) : (s.setPort k v).tables = s.tables := rfl
@[simp] theorem State.setPort_cats (v : Port) : (s.setPort k v).cats = s.cats := rfl
@[simp] theorem State.setPort_dir (v : Port) : (s.setPort k v).dir = s.dir := rfl
@[simp] theorem State.setPort_cache (v : Port) : (s.setPort k v).cache = s.cache := rfl
@[simp] theorem State.setPort_dram (v : Port) : (s.setPort k v).dram = s.dram := rfl
@[simp] theorem State.setPort_lines (v : Port) : (s.setPort k v).lines = s.lines := rfl
@[simp] theorem State.setPort_dramStacks (v : Port) : (s.setPort k v).dramStacks = s.dramStacks := rfl
@[simp] theorem State.setPort_patrolHours (v : Port) : (s.setPort k v).patrolHours = s.patrolHours := rfl
@[simp] theorem State.setPort_priTimeout (v : Port) : (s.setPort k v).priTimeout = s.priTimeout := rfl
@[simp] theorem State.setPort_rowErrs (v : Port) : (s.setPort k v).rowErrs = s.rowErrs := rfl
@[simp] theorem State.setPort_tlb (v : Port) : (s.setPort k v).tlb = s.tlb := rfl
@[simp] theorem State.setPort_ptw (v : Port) : (s.setPort k v).ptw = s.ptw := rfl
@[simp] theorem State.setPort_lineWaits (v : Port) : (s.setPort k v).lineWaits = s.lineWaits := rfl
@[simp] theorem State.setPort_ats (v : Port) : (s.setPort k v).ats = s.ats := rfl
@[simp] theorem State.setPort_atsReqs (v : Port) : (s.setPort k v).atsReqs = s.atsReqs := rfl
@[simp] theorem State.setPort_priReqs (v : Port) : (s.setPort k v).priReqs = s.priReqs := rfl
@[simp] theorem State.setPort_dies (v : Port) : (s.setPort k v).dies = s.dies := rfl
@[simp] theorem State.setPort_digestPairs (v : Port) : (s.setPort k v).digestPairs = s.digestPairs := rfl
@[simp] theorem State.setPort_log (v : Port) : (s.setPort k v).log = s.log := rfl
@[simp] theorem State.setPort_par (v : Port) : (s.setPort k v).par = s.par := rfl
@[simp] theorem State.setPort_ethPorts (v : Port) : (s.setPort k v).ethPorts = s.ethPorts := rfl
@[simp] theorem State.setPort_flows (v : Port) : (s.setPort k v).flows = s.flows := rfl
@[simp] theorem State.setPort_vlt (v : Port) : (s.setPort k v).vlt = s.vlt := rfl
@[simp] theorem State.setPort_tdis (v : Port) : (s.setPort k v).tdis = s.tdis := rfl
@[simp] theorem State.setPort_rst (v : Port) : (s.setPort k v).rst = s.rst := rfl
@[simp] theorem State.setPort_fw (v : Port) : (s.setPort k v).fw = s.fw := rfl
@[simp] theorem State.setPort_vnt (v : Port) : (s.setPort k v).vnt = s.vnt := rfl
@[simp] theorem State.setPort_tap (v : Port) : (s.setPort k v).tap = s.tap := rfl
@[simp] theorem State.setPort_moves (v : Port) : (s.setPort k v).moves = s.moves := rfl
@[simp] theorem State.setPort_mus (v : Port) : (s.setPort k v).mus = s.mus := rfl
@[simp] theorem State.setPort_lanes (v : Port) : (s.setPort k v).lanes = s.lanes := rfl
@[simp] theorem State.setPort_ahead (v : Port) : (s.setPort k v).ahead = s.ahead := rfl
@[simp] theorem State.setPort_bar2Waits (v : Port) : (s.setPort k v).bar2Waits = s.bar2Waits := rfl
@[simp] theorem State.setPort_hub_ (v : Port) : (s.setPort k v).hub j = s.hub j := rfl
@[simp] theorem State.setPort_link_ (v : Port) : (s.setPort k v).link j = s.link j := rfl
@[simp] theorem State.setPort_mbox_ (v : Port) : (s.setPort k v).mbox j = s.mbox j := rfl
@[simp] theorem State.setPort_fnSt_ (v : Port) : (s.setPort k v).fnSt j = s.fnSt j := rfl
@[simp] theorem State.setPort_msixEnt_ (v : Port) : (s.setPort k v).msixEnt j = s.msixEnt j := rfl
@[simp] theorem State.setPort_peer_ (v : Port) : (s.setPort k v).peer j = s.peer j := rfl
@[simp] theorem State.setPort_half_ (v : Port) : (s.setPort k v).half j = s.half j := rfl
@[simp] theorem State.setPort_cell_ (v : Port) : (s.setPort k v).cell j = s.cell j := rfl
@[simp] theorem State.setPort_ext_ (v : Port) : (s.setPort k v).ext j = s.ext j := rfl
@[simp] theorem State.setPort_vf_ (v : Port) : (s.setPort k v).vf j = s.vf j := rfl
@[simp] theorem State.setPort_unit_ (v : Port) : (s.setPort k v).unit j = s.unit j := rfl
@[simp] theorem State.setPort_wing_ (v : Port) : (s.setPort k v).wing j = s.wing j := rfl
@[simp] theorem State.setPort_que_ (v : Port) : (s.setPort k v).que j = s.que j := rfl
@[simp] theorem State.setPort_doc_ (v : Port) : (s.setPort k v).doc j = s.doc j := rfl
@[simp] theorem State.setPort_arb_ (v : Port) : (s.setPort k v).arb j = s.arb j := rfl
@[simp] theorem State.setPort_table_ (v : Port) : (s.setPort k v).table j = s.table j := rfl
@[simp] theorem State.setPort_cat_ (v : Port) : (s.setPort k v).cat j = s.cat j := rfl
@[simp] theorem State.setPort_line_ (v : Port) : (s.setPort k v).line j = s.line j := rfl
@[simp] theorem State.setPort_stack_ (v : Port) : (s.setPort k v).stack j = s.stack j := rfl
@[simp] theorem State.setPort_die_ (v : Port) : (s.setPort k v).die j = s.die j := rfl
@[simp] theorem State.setPort_eth_ (v : Port) : (s.setPort k v).eth j = s.eth j := rfl
@[simp] theorem State.setPort_flow_ (v : Port) : (s.setPort k v).flow j = s.flow j := rfl
@[simp] theorem State.setPort_tdi_ (v : Port) : (s.setPort k v).tdi j = s.tdi j := rfl
@[simp] theorem State.setPort_mu_ (v : Port) : (s.setPort k v).mu j = s.mu j := rfl
@[simp] theorem State.setPort_lane_ (v : Port) : (s.setPort k v).lane j = s.lane j := rfl

/-! ### setLink -/

@[simp] theorem State.updLink_eq (f : Link → Link) : s.updLink k f = s.setLink k (f (s.link k)) := rfl
theorem State.link_setLink (v : Link) : (s.setLink k v).link j = if j = k then v else s.link j := Tbl.get_set ..
@[simp] theorem State.link_setLink_same (v : Link) : (s.setLink k v).link k = v := Tbl.get_set_same ..
@[simp] theorem State.setLink_pending (v : Link) : (s.setLink k v).pending = s.pending := rfl
@[simp] theorem State.setLink_out (v : Link) : (s.setLink k v).out = s.out := rfl
@[simp] theorem State.setLink_freeCtr (v : Link) : (s.setLink k v).freeCtr = s.freeCtr := rfl
@[simp] theorem State.setLink_clk (v : Link) : (s.setLink k v).clk = s.clk := rfl
@[simp] theorem State.setLink_plinth (v : Link) : (s.setLink k v).plinth = s.plinth := rfl
@[simp] theorem State.setLink_hubs (v : Link) : (s.setLink k v).hubs = s.hubs := rfl
@[simp] theorem State.setLink_hubLinkUp (v : Link) : (s.setLink k v).hubLinkUp = s.hubLinkUp := rfl
@[simp] theorem State.setLink_ports (v : Link) : (s.setLink k v).ports = s.ports := rfl
@[simp] theorem State.setLink_noAuthority (v : Link) : (s.setLink k v).noAuthority = s.noAuthority := rfl
@[simp] theorem State.setLink_lastDispatch (v : Link) : (s.setLink k v).lastDispatch = s.lastDispatch := rfl
@[simp] theorem State.setLink_mbx (v : Link) : (s.setLink k v).mbx = s.mbx := rfl
@[simp] theorem State.setLink_fns (v : Link) : (s.setLink k v).fns = s.fns := rfl
@[simp] theorem State.setLink_msix (v : Link) : (s.setLink k v).msix = s.msix := rfl
@[simp] theorem State.setLink_pcie (v : Link) : (s.setLink k v).pcie = s.pcie := rfl
@[simp] theorem State.setLink_peers (v : Link) : (s.setLink k v).peers = s.peers := rfl
@[simp] theorem State.setLink_halfCells (v : Link) : (s.setLink k v).halfCells = s.halfCells := rfl
@[simp] theorem State.setLink_cells (v : Link) : (s.setLink k v).cells = s.cells := rfl
@[simp] theorem State.setLink_extents (v : Link) : (s.setLink k v).extents = s.extents := rfl
@[simp] theorem State.setLink_vfs (v : Link) : (s.setLink k v).vfs = s.vfs := rfl
@[simp] theorem State.setLink_units (v : Link) : (s.setLink k v).units = s.units := rfl
@[simp] theorem State.setLink_wings (v : Link) : (s.setLink k v).wings = s.wings := rfl
@[simp] theorem State.setLink_noWing (v : Link) : (s.setLink k v).noWing = s.noWing := rfl
@[simp] theorem State.setLink_noWingSince (v : Link) : (s.setLink k v).noWingSince = s.noWingSince := rfl
@[simp] theorem State.setLink_noWingAt (v : Link) : (s.setLink k v).noWingAt = s.noWingAt := rfl
@[simp] theorem State.setLink_queues (v : Link) : (s.setLink k v).queues = s.queues := rfl
@[simp] theorem State.setLink_reqs (v : Link) : (s.setLink k v).reqs = s.reqs := rfl
@[simp] theorem State.setLink_nextReq (v : Link) : (s.setLink k v).nextReq = s.nextReq := rfl
@[simp] theorem State.setLink_images (v : Link) : (s.setLink k v).images = s.images := rfl
@[simp] theorem State.setLink_docents (v : Link) : (s.setLink k v).docents = s.docents := rfl
@[simp] theorem State.setLink_launches (v : Link) : (s.setLink k v).launches = s.launches := rfl
@[simp] theorem State.setLink_arbs (v : Link) : (s.setLink k v).arbs = s.arbs := rfl
@[simp] theorem State.setLink_batches (v : Link) : (s.setLink k v).batches = s.batches := rfl
@[simp] theorem State.setLink_dups (v : Link) : (s.setLink k v).dups = s.dups := rfl
@[simp] theorem State.setLink_sp (v : Link) : (s.setLink k v).sp = s.sp := rfl
@[simp] theorem State.setLink_spBad (v : Link) : (s.setLink k v).spBad = s.spBad := rfl
@[simp] theorem State.setLink_ckpts (v : Link) : (s.setLink k v).ckpts = s.ckpts := rfl
@[simp] theorem State.setLink_ckptCount (v : Link) : (s.setLink k v).ckptCount = s.ckptCount := rfl
@[simp] theorem State.setLink_tables (v : Link) : (s.setLink k v).tables = s.tables := rfl
@[simp] theorem State.setLink_cats (v : Link) : (s.setLink k v).cats = s.cats := rfl
@[simp] theorem State.setLink_dir (v : Link) : (s.setLink k v).dir = s.dir := rfl
@[simp] theorem State.setLink_cache (v : Link) : (s.setLink k v).cache = s.cache := rfl
@[simp] theorem State.setLink_dram (v : Link) : (s.setLink k v).dram = s.dram := rfl
@[simp] theorem State.setLink_lines (v : Link) : (s.setLink k v).lines = s.lines := rfl
@[simp] theorem State.setLink_dramStacks (v : Link) : (s.setLink k v).dramStacks = s.dramStacks := rfl
@[simp] theorem State.setLink_patrolHours (v : Link) : (s.setLink k v).patrolHours = s.patrolHours := rfl
@[simp] theorem State.setLink_priTimeout (v : Link) : (s.setLink k v).priTimeout = s.priTimeout := rfl
@[simp] theorem State.setLink_rowErrs (v : Link) : (s.setLink k v).rowErrs = s.rowErrs := rfl
@[simp] theorem State.setLink_tlb (v : Link) : (s.setLink k v).tlb = s.tlb := rfl
@[simp] theorem State.setLink_ptw (v : Link) : (s.setLink k v).ptw = s.ptw := rfl
@[simp] theorem State.setLink_lineWaits (v : Link) : (s.setLink k v).lineWaits = s.lineWaits := rfl
@[simp] theorem State.setLink_ats (v : Link) : (s.setLink k v).ats = s.ats := rfl
@[simp] theorem State.setLink_atsReqs (v : Link) : (s.setLink k v).atsReqs = s.atsReqs := rfl
@[simp] theorem State.setLink_priReqs (v : Link) : (s.setLink k v).priReqs = s.priReqs := rfl
@[simp] theorem State.setLink_dies (v : Link) : (s.setLink k v).dies = s.dies := rfl
@[simp] theorem State.setLink_digestPairs (v : Link) : (s.setLink k v).digestPairs = s.digestPairs := rfl
@[simp] theorem State.setLink_log (v : Link) : (s.setLink k v).log = s.log := rfl
@[simp] theorem State.setLink_par (v : Link) : (s.setLink k v).par = s.par := rfl
@[simp] theorem State.setLink_ethPorts (v : Link) : (s.setLink k v).ethPorts = s.ethPorts := rfl
@[simp] theorem State.setLink_flows (v : Link) : (s.setLink k v).flows = s.flows := rfl
@[simp] theorem State.setLink_vlt (v : Link) : (s.setLink k v).vlt = s.vlt := rfl
@[simp] theorem State.setLink_tdis (v : Link) : (s.setLink k v).tdis = s.tdis := rfl
@[simp] theorem State.setLink_rst (v : Link) : (s.setLink k v).rst = s.rst := rfl
@[simp] theorem State.setLink_fw (v : Link) : (s.setLink k v).fw = s.fw := rfl
@[simp] theorem State.setLink_vnt (v : Link) : (s.setLink k v).vnt = s.vnt := rfl
@[simp] theorem State.setLink_tap (v : Link) : (s.setLink k v).tap = s.tap := rfl
@[simp] theorem State.setLink_moves (v : Link) : (s.setLink k v).moves = s.moves := rfl
@[simp] theorem State.setLink_mus (v : Link) : (s.setLink k v).mus = s.mus := rfl
@[simp] theorem State.setLink_lanes (v : Link) : (s.setLink k v).lanes = s.lanes := rfl
@[simp] theorem State.setLink_ahead (v : Link) : (s.setLink k v).ahead = s.ahead := rfl
@[simp] theorem State.setLink_bar2Waits (v : Link) : (s.setLink k v).bar2Waits = s.bar2Waits := rfl
@[simp] theorem State.setLink_hub_ (v : Link) : (s.setLink k v).hub j = s.hub j := rfl
@[simp] theorem State.setLink_port_ (v : Link) : (s.setLink k v).port j = s.port j := rfl
@[simp] theorem State.setLink_mbox_ (v : Link) : (s.setLink k v).mbox j = s.mbox j := rfl
@[simp] theorem State.setLink_fnSt_ (v : Link) : (s.setLink k v).fnSt j = s.fnSt j := rfl
@[simp] theorem State.setLink_msixEnt_ (v : Link) : (s.setLink k v).msixEnt j = s.msixEnt j := rfl
@[simp] theorem State.setLink_peer_ (v : Link) : (s.setLink k v).peer j = s.peer j := rfl
@[simp] theorem State.setLink_half_ (v : Link) : (s.setLink k v).half j = s.half j := rfl
@[simp] theorem State.setLink_cell_ (v : Link) : (s.setLink k v).cell j = s.cell j := rfl
@[simp] theorem State.setLink_ext_ (v : Link) : (s.setLink k v).ext j = s.ext j := rfl
@[simp] theorem State.setLink_vf_ (v : Link) : (s.setLink k v).vf j = s.vf j := rfl
@[simp] theorem State.setLink_unit_ (v : Link) : (s.setLink k v).unit j = s.unit j := rfl
@[simp] theorem State.setLink_wing_ (v : Link) : (s.setLink k v).wing j = s.wing j := rfl
@[simp] theorem State.setLink_que_ (v : Link) : (s.setLink k v).que j = s.que j := rfl
@[simp] theorem State.setLink_doc_ (v : Link) : (s.setLink k v).doc j = s.doc j := rfl
@[simp] theorem State.setLink_arb_ (v : Link) : (s.setLink k v).arb j = s.arb j := rfl
@[simp] theorem State.setLink_table_ (v : Link) : (s.setLink k v).table j = s.table j := rfl
@[simp] theorem State.setLink_cat_ (v : Link) : (s.setLink k v).cat j = s.cat j := rfl
@[simp] theorem State.setLink_line_ (v : Link) : (s.setLink k v).line j = s.line j := rfl
@[simp] theorem State.setLink_stack_ (v : Link) : (s.setLink k v).stack j = s.stack j := rfl
@[simp] theorem State.setLink_die_ (v : Link) : (s.setLink k v).die j = s.die j := rfl
@[simp] theorem State.setLink_eth_ (v : Link) : (s.setLink k v).eth j = s.eth j := rfl
@[simp] theorem State.setLink_flow_ (v : Link) : (s.setLink k v).flow j = s.flow j := rfl
@[simp] theorem State.setLink_tdi_ (v : Link) : (s.setLink k v).tdi j = s.tdi j := rfl
@[simp] theorem State.setLink_mu_ (v : Link) : (s.setLink k v).mu j = s.mu j := rfl
@[simp] theorem State.setLink_lane_ (v : Link) : (s.setLink k v).lane j = s.lane j := rfl

/-! ### setMbox -/

@[simp] theorem State.updMbox_eq (f : Mbx → Mbx) : s.updMbox k f = s.setMbox k (f (s.mbox k)) := rfl
theorem State.mbox_setMbox (v : Mbx) : (s.setMbox k v).mbox j = if j = k then v else s.mbox j := Tbl.get_set ..
@[simp] theorem State.mbox_setMbox_same (v : Mbx) : (s.setMbox k v).mbox k = v := Tbl.get_set_same ..
@[simp] theorem State.setMbox_pending (v : Mbx) : (s.setMbox k v).pending = s.pending := rfl
@[simp] theorem State.setMbox_out (v : Mbx) : (s.setMbox k v).out = s.out := rfl
@[simp] theorem State.setMbox_freeCtr (v : Mbx) : (s.setMbox k v).freeCtr = s.freeCtr := rfl
@[simp] theorem State.setMbox_clk (v : Mbx) : (s.setMbox k v).clk = s.clk := rfl
@[simp] theorem State.setMbox_plinth (v : Mbx) : (s.setMbox k v).plinth = s.plinth := rfl
@[simp] theorem State.setMbox_hubs (v : Mbx) : (s.setMbox k v).hubs = s.hubs := rfl
@[simp] theorem State.setMbox_hubLinkUp (v : Mbx) : (s.setMbox k v).hubLinkUp = s.hubLinkUp := rfl
@[simp] theorem State.setMbox_ports (v : Mbx) : (s.setMbox k v).ports = s.ports := rfl
@[simp] theorem State.setMbox_links (v : Mbx) : (s.setMbox k v).links = s.links := rfl
@[simp] theorem State.setMbox_noAuthority (v : Mbx) : (s.setMbox k v).noAuthority = s.noAuthority := rfl
@[simp] theorem State.setMbox_lastDispatch (v : Mbx) : (s.setMbox k v).lastDispatch = s.lastDispatch := rfl
@[simp] theorem State.setMbox_fns (v : Mbx) : (s.setMbox k v).fns = s.fns := rfl
@[simp] theorem State.setMbox_msix (v : Mbx) : (s.setMbox k v).msix = s.msix := rfl
@[simp] theorem State.setMbox_pcie (v : Mbx) : (s.setMbox k v).pcie = s.pcie := rfl
@[simp] theorem State.setMbox_peers (v : Mbx) : (s.setMbox k v).peers = s.peers := rfl
@[simp] theorem State.setMbox_halfCells (v : Mbx) : (s.setMbox k v).halfCells = s.halfCells := rfl
@[simp] theorem State.setMbox_cells (v : Mbx) : (s.setMbox k v).cells = s.cells := rfl
@[simp] theorem State.setMbox_extents (v : Mbx) : (s.setMbox k v).extents = s.extents := rfl
@[simp] theorem State.setMbox_vfs (v : Mbx) : (s.setMbox k v).vfs = s.vfs := rfl
@[simp] theorem State.setMbox_units (v : Mbx) : (s.setMbox k v).units = s.units := rfl
@[simp] theorem State.setMbox_wings (v : Mbx) : (s.setMbox k v).wings = s.wings := rfl
@[simp] theorem State.setMbox_noWing (v : Mbx) : (s.setMbox k v).noWing = s.noWing := rfl
@[simp] theorem State.setMbox_noWingSince (v : Mbx) : (s.setMbox k v).noWingSince = s.noWingSince := rfl
@[simp] theorem State.setMbox_noWingAt (v : Mbx) : (s.setMbox k v).noWingAt = s.noWingAt := rfl
@[simp] theorem State.setMbox_queues (v : Mbx) : (s.setMbox k v).queues = s.queues := rfl
@[simp] theorem State.setMbox_reqs (v : Mbx) : (s.setMbox k v).reqs = s.reqs := rfl
@[simp] theorem State.setMbox_nextReq (v : Mbx) : (s.setMbox k v).nextReq = s.nextReq := rfl
@[simp] theorem State.setMbox_images (v : Mbx) : (s.setMbox k v).images = s.images := rfl
@[simp] theorem State.setMbox_docents (v : Mbx) : (s.setMbox k v).docents = s.docents := rfl
@[simp] theorem State.setMbox_launches (v : Mbx) : (s.setMbox k v).launches = s.launches := rfl
@[simp] theorem State.setMbox_arbs (v : Mbx) : (s.setMbox k v).arbs = s.arbs := rfl
@[simp] theorem State.setMbox_batches (v : Mbx) : (s.setMbox k v).batches = s.batches := rfl
@[simp] theorem State.setMbox_dups (v : Mbx) : (s.setMbox k v).dups = s.dups := rfl
@[simp] theorem State.setMbox_sp (v : Mbx) : (s.setMbox k v).sp = s.sp := rfl
@[simp] theorem State.setMbox_spBad (v : Mbx) : (s.setMbox k v).spBad = s.spBad := rfl
@[simp] theorem State.setMbox_ckpts (v : Mbx) : (s.setMbox k v).ckpts = s.ckpts := rfl
@[simp] theorem State.setMbox_ckptCount (v : Mbx) : (s.setMbox k v).ckptCount = s.ckptCount := rfl
@[simp] theorem State.setMbox_tables (v : Mbx) : (s.setMbox k v).tables = s.tables := rfl
@[simp] theorem State.setMbox_cats (v : Mbx) : (s.setMbox k v).cats = s.cats := rfl
@[simp] theorem State.setMbox_dir (v : Mbx) : (s.setMbox k v).dir = s.dir := rfl
@[simp] theorem State.setMbox_cache (v : Mbx) : (s.setMbox k v).cache = s.cache := rfl
@[simp] theorem State.setMbox_dram (v : Mbx) : (s.setMbox k v).dram = s.dram := rfl
@[simp] theorem State.setMbox_lines (v : Mbx) : (s.setMbox k v).lines = s.lines := rfl
@[simp] theorem State.setMbox_dramStacks (v : Mbx) : (s.setMbox k v).dramStacks = s.dramStacks := rfl
@[simp] theorem State.setMbox_patrolHours (v : Mbx) : (s.setMbox k v).patrolHours = s.patrolHours := rfl
@[simp] theorem State.setMbox_priTimeout (v : Mbx) : (s.setMbox k v).priTimeout = s.priTimeout := rfl
@[simp] theorem State.setMbox_rowErrs (v : Mbx) : (s.setMbox k v).rowErrs = s.rowErrs := rfl
@[simp] theorem State.setMbox_tlb (v : Mbx) : (s.setMbox k v).tlb = s.tlb := rfl
@[simp] theorem State.setMbox_ptw (v : Mbx) : (s.setMbox k v).ptw = s.ptw := rfl
@[simp] theorem State.setMbox_lineWaits (v : Mbx) : (s.setMbox k v).lineWaits = s.lineWaits := rfl
@[simp] theorem State.setMbox_ats (v : Mbx) : (s.setMbox k v).ats = s.ats := rfl
@[simp] theorem State.setMbox_atsReqs (v : Mbx) : (s.setMbox k v).atsReqs = s.atsReqs := rfl
@[simp] theorem State.setMbox_priReqs (v : Mbx) : (s.setMbox k v).priReqs = s.priReqs := rfl
@[simp] theorem State.setMbox_dies (v : Mbx) : (s.setMbox k v).dies = s.dies := rfl
@[simp] theorem State.setMbox_digestPairs (v : Mbx) : (s.setMbox k v).digestPairs = s.digestPairs := rfl
@[simp] theorem State.setMbox_log (v : Mbx) : (s.setMbox k v).log = s.log := rfl
@[simp] theorem State.setMbox_par (v : Mbx) : (s.setMbox k v).par = s.par := rfl
@[simp] theorem State.setMbox_ethPorts (v : Mbx) : (s.setMbox k v).ethPorts = s.ethPorts := rfl
@[simp] theorem State.setMbox_flows (v : Mbx) : (s.setMbox k v).flows = s.flows := rfl
@[simp] theorem State.setMbox_vlt (v : Mbx) : (s.setMbox k v).vlt = s.vlt := rfl
@[simp] theorem State.setMbox_tdis (v : Mbx) : (s.setMbox k v).tdis = s.tdis := rfl
@[simp] theorem State.setMbox_rst (v : Mbx) : (s.setMbox k v).rst = s.rst := rfl
@[simp] theorem State.setMbox_fw (v : Mbx) : (s.setMbox k v).fw = s.fw := rfl
@[simp] theorem State.setMbox_vnt (v : Mbx) : (s.setMbox k v).vnt = s.vnt := rfl
@[simp] theorem State.setMbox_tap (v : Mbx) : (s.setMbox k v).tap = s.tap := rfl
@[simp] theorem State.setMbox_moves (v : Mbx) : (s.setMbox k v).moves = s.moves := rfl
@[simp] theorem State.setMbox_mus (v : Mbx) : (s.setMbox k v).mus = s.mus := rfl
@[simp] theorem State.setMbox_lanes (v : Mbx) : (s.setMbox k v).lanes = s.lanes := rfl
@[simp] theorem State.setMbox_ahead (v : Mbx) : (s.setMbox k v).ahead = s.ahead := rfl
@[simp] theorem State.setMbox_bar2Waits (v : Mbx) : (s.setMbox k v).bar2Waits = s.bar2Waits := rfl
@[simp] theorem State.setMbox_hub_ (v : Mbx) : (s.setMbox k v).hub j = s.hub j := rfl
@[simp] theorem State.setMbox_port_ (v : Mbx) : (s.setMbox k v).port j = s.port j := rfl
@[simp] theorem State.setMbox_link_ (v : Mbx) : (s.setMbox k v).link j = s.link j := rfl
@[simp] theorem State.setMbox_fnSt_ (v : Mbx) : (s.setMbox k v).fnSt j = s.fnSt j := rfl
@[simp] theorem State.setMbox_msixEnt_ (v : Mbx) : (s.setMbox k v).msixEnt j = s.msixEnt j := rfl
@[simp] theorem State.setMbox_peer_ (v : Mbx) : (s.setMbox k v).peer j = s.peer j := rfl
@[simp] theorem State.setMbox_half_ (v : Mbx) : (s.setMbox k v).half j = s.half j := rfl
@[simp] theorem State.setMbox_cell_ (v : Mbx) : (s.setMbox k v).cell j = s.cell j := rfl
@[simp] theorem State.setMbox_ext_ (v : Mbx) : (s.setMbox k v).ext j = s.ext j := rfl
@[simp] theorem State.setMbox_vf_ (v : Mbx) : (s.setMbox k v).vf j = s.vf j := rfl
@[simp] theorem State.setMbox_unit_ (v : Mbx) : (s.setMbox k v).unit j = s.unit j := rfl
@[simp] theorem State.setMbox_wing_ (v : Mbx) : (s.setMbox k v).wing j = s.wing j := rfl
@[simp] theorem State.setMbox_que_ (v : Mbx) : (s.setMbox k v).que j = s.que j := rfl
@[simp] theorem State.setMbox_doc_ (v : Mbx) : (s.setMbox k v).doc j = s.doc j := rfl
@[simp] theorem State.setMbox_arb_ (v : Mbx) : (s.setMbox k v).arb j = s.arb j := rfl
@[simp] theorem State.setMbox_table_ (v : Mbx) : (s.setMbox k v).table j = s.table j := rfl
@[simp] theorem State.setMbox_cat_ (v : Mbx) : (s.setMbox k v).cat j = s.cat j := rfl
@[simp] theorem State.setMbox_line_ (v : Mbx) : (s.setMbox k v).line j = s.line j := rfl
@[simp] theorem State.setMbox_stack_ (v : Mbx) : (s.setMbox k v).stack j = s.stack j := rfl
@[simp] theorem State.setMbox_die_ (v : Mbx) : (s.setMbox k v).die j = s.die j := rfl
@[simp] theorem State.setMbox_eth_ (v : Mbx) : (s.setMbox k v).eth j = s.eth j := rfl
@[simp] theorem State.setMbox_flow_ (v : Mbx) : (s.setMbox k v).flow j = s.flow j := rfl
@[simp] theorem State.setMbox_tdi_ (v : Mbx) : (s.setMbox k v).tdi j = s.tdi j := rfl
@[simp] theorem State.setMbox_mu_ (v : Mbx) : (s.setMbox k v).mu j = s.mu j := rfl
@[simp] theorem State.setMbox_lane_ (v : Mbx) : (s.setMbox k v).lane j = s.lane j := rfl

/-! ### setFnSt -/

@[simp] theorem State.updFnSt_eq (f : FnSt → FnSt) : s.updFnSt k f = s.setFnSt k (f (s.fnSt k)) := rfl
theorem State.fnSt_setFnSt (v : FnSt) : (s.setFnSt k v).fnSt j = if j = k then v else s.fnSt j := Tbl.get_set ..
@[simp] theorem State.fnSt_setFnSt_same (v : FnSt) : (s.setFnSt k v).fnSt k = v := Tbl.get_set_same ..
@[simp] theorem State.setFnSt_pending (v : FnSt) : (s.setFnSt k v).pending = s.pending := rfl
@[simp] theorem State.setFnSt_out (v : FnSt) : (s.setFnSt k v).out = s.out := rfl
@[simp] theorem State.setFnSt_freeCtr (v : FnSt) : (s.setFnSt k v).freeCtr = s.freeCtr := rfl
@[simp] theorem State.setFnSt_clk (v : FnSt) : (s.setFnSt k v).clk = s.clk := rfl
@[simp] theorem State.setFnSt_plinth (v : FnSt) : (s.setFnSt k v).plinth = s.plinth := rfl
@[simp] theorem State.setFnSt_hubs (v : FnSt) : (s.setFnSt k v).hubs = s.hubs := rfl
@[simp] theorem State.setFnSt_hubLinkUp (v : FnSt) : (s.setFnSt k v).hubLinkUp = s.hubLinkUp := rfl
@[simp] theorem State.setFnSt_ports (v : FnSt) : (s.setFnSt k v).ports = s.ports := rfl
@[simp] theorem State.setFnSt_links (v : FnSt) : (s.setFnSt k v).links = s.links := rfl
@[simp] theorem State.setFnSt_noAuthority (v : FnSt) : (s.setFnSt k v).noAuthority = s.noAuthority := rfl
@[simp] theorem State.setFnSt_lastDispatch (v : FnSt) : (s.setFnSt k v).lastDispatch = s.lastDispatch := rfl
@[simp] theorem State.setFnSt_mbx (v : FnSt) : (s.setFnSt k v).mbx = s.mbx := rfl
@[simp] theorem State.setFnSt_msix (v : FnSt) : (s.setFnSt k v).msix = s.msix := rfl
@[simp] theorem State.setFnSt_pcie (v : FnSt) : (s.setFnSt k v).pcie = s.pcie := rfl
@[simp] theorem State.setFnSt_peers (v : FnSt) : (s.setFnSt k v).peers = s.peers := rfl
@[simp] theorem State.setFnSt_halfCells (v : FnSt) : (s.setFnSt k v).halfCells = s.halfCells := rfl
@[simp] theorem State.setFnSt_cells (v : FnSt) : (s.setFnSt k v).cells = s.cells := rfl
@[simp] theorem State.setFnSt_extents (v : FnSt) : (s.setFnSt k v).extents = s.extents := rfl
@[simp] theorem State.setFnSt_vfs (v : FnSt) : (s.setFnSt k v).vfs = s.vfs := rfl
@[simp] theorem State.setFnSt_units (v : FnSt) : (s.setFnSt k v).units = s.units := rfl
@[simp] theorem State.setFnSt_wings (v : FnSt) : (s.setFnSt k v).wings = s.wings := rfl
@[simp] theorem State.setFnSt_noWing (v : FnSt) : (s.setFnSt k v).noWing = s.noWing := rfl
@[simp] theorem State.setFnSt_noWingSince (v : FnSt) : (s.setFnSt k v).noWingSince = s.noWingSince := rfl
@[simp] theorem State.setFnSt_noWingAt (v : FnSt) : (s.setFnSt k v).noWingAt = s.noWingAt := rfl
@[simp] theorem State.setFnSt_queues (v : FnSt) : (s.setFnSt k v).queues = s.queues := rfl
@[simp] theorem State.setFnSt_reqs (v : FnSt) : (s.setFnSt k v).reqs = s.reqs := rfl
@[simp] theorem State.setFnSt_nextReq (v : FnSt) : (s.setFnSt k v).nextReq = s.nextReq := rfl
@[simp] theorem State.setFnSt_images (v : FnSt) : (s.setFnSt k v).images = s.images := rfl
@[simp] theorem State.setFnSt_docents (v : FnSt) : (s.setFnSt k v).docents = s.docents := rfl
@[simp] theorem State.setFnSt_launches (v : FnSt) : (s.setFnSt k v).launches = s.launches := rfl
@[simp] theorem State.setFnSt_arbs (v : FnSt) : (s.setFnSt k v).arbs = s.arbs := rfl
@[simp] theorem State.setFnSt_batches (v : FnSt) : (s.setFnSt k v).batches = s.batches := rfl
@[simp] theorem State.setFnSt_dups (v : FnSt) : (s.setFnSt k v).dups = s.dups := rfl
@[simp] theorem State.setFnSt_sp (v : FnSt) : (s.setFnSt k v).sp = s.sp := rfl
@[simp] theorem State.setFnSt_spBad (v : FnSt) : (s.setFnSt k v).spBad = s.spBad := rfl
@[simp] theorem State.setFnSt_ckpts (v : FnSt) : (s.setFnSt k v).ckpts = s.ckpts := rfl
@[simp] theorem State.setFnSt_ckptCount (v : FnSt) : (s.setFnSt k v).ckptCount = s.ckptCount := rfl
@[simp] theorem State.setFnSt_tables (v : FnSt) : (s.setFnSt k v).tables = s.tables := rfl
@[simp] theorem State.setFnSt_cats (v : FnSt) : (s.setFnSt k v).cats = s.cats := rfl
@[simp] theorem State.setFnSt_dir (v : FnSt) : (s.setFnSt k v).dir = s.dir := rfl
@[simp] theorem State.setFnSt_cache (v : FnSt) : (s.setFnSt k v).cache = s.cache := rfl
@[simp] theorem State.setFnSt_dram (v : FnSt) : (s.setFnSt k v).dram = s.dram := rfl
@[simp] theorem State.setFnSt_lines (v : FnSt) : (s.setFnSt k v).lines = s.lines := rfl
@[simp] theorem State.setFnSt_dramStacks (v : FnSt) : (s.setFnSt k v).dramStacks = s.dramStacks := rfl
@[simp] theorem State.setFnSt_patrolHours (v : FnSt) : (s.setFnSt k v).patrolHours = s.patrolHours := rfl
@[simp] theorem State.setFnSt_priTimeout (v : FnSt) : (s.setFnSt k v).priTimeout = s.priTimeout := rfl
@[simp] theorem State.setFnSt_rowErrs (v : FnSt) : (s.setFnSt k v).rowErrs = s.rowErrs := rfl
@[simp] theorem State.setFnSt_tlb (v : FnSt) : (s.setFnSt k v).tlb = s.tlb := rfl
@[simp] theorem State.setFnSt_ptw (v : FnSt) : (s.setFnSt k v).ptw = s.ptw := rfl
@[simp] theorem State.setFnSt_lineWaits (v : FnSt) : (s.setFnSt k v).lineWaits = s.lineWaits := rfl
@[simp] theorem State.setFnSt_ats (v : FnSt) : (s.setFnSt k v).ats = s.ats := rfl
@[simp] theorem State.setFnSt_atsReqs (v : FnSt) : (s.setFnSt k v).atsReqs = s.atsReqs := rfl
@[simp] theorem State.setFnSt_priReqs (v : FnSt) : (s.setFnSt k v).priReqs = s.priReqs := rfl
@[simp] theorem State.setFnSt_dies (v : FnSt) : (s.setFnSt k v).dies = s.dies := rfl
@[simp] theorem State.setFnSt_digestPairs (v : FnSt) : (s.setFnSt k v).digestPairs = s.digestPairs := rfl
@[simp] theorem State.setFnSt_log (v : FnSt) : (s.setFnSt k v).log = s.log := rfl
@[simp] theorem State.setFnSt_par (v : FnSt) : (s.setFnSt k v).par = s.par := rfl
@[simp] theorem State.setFnSt_ethPorts (v : FnSt) : (s.setFnSt k v).ethPorts = s.ethPorts := rfl
@[simp] theorem State.setFnSt_flows (v : FnSt) : (s.setFnSt k v).flows = s.flows := rfl
@[simp] theorem State.setFnSt_vlt (v : FnSt) : (s.setFnSt k v).vlt = s.vlt := rfl
@[simp] theorem State.setFnSt_tdis (v : FnSt) : (s.setFnSt k v).tdis = s.tdis := rfl
@[simp] theorem State.setFnSt_rst (v : FnSt) : (s.setFnSt k v).rst = s.rst := rfl
@[simp] theorem State.setFnSt_fw (v : FnSt) : (s.setFnSt k v).fw = s.fw := rfl
@[simp] theorem State.setFnSt_vnt (v : FnSt) : (s.setFnSt k v).vnt = s.vnt := rfl
@[simp] theorem State.setFnSt_tap (v : FnSt) : (s.setFnSt k v).tap = s.tap := rfl
@[simp] theorem State.setFnSt_moves (v : FnSt) : (s.setFnSt k v).moves = s.moves := rfl
@[simp] theorem State.setFnSt_mus (v : FnSt) : (s.setFnSt k v).mus = s.mus := rfl
@[simp] theorem State.setFnSt_lanes (v : FnSt) : (s.setFnSt k v).lanes = s.lanes := rfl
@[simp] theorem State.setFnSt_ahead (v : FnSt) : (s.setFnSt k v).ahead = s.ahead := rfl
@[simp] theorem State.setFnSt_bar2Waits (v : FnSt) : (s.setFnSt k v).bar2Waits = s.bar2Waits := rfl
@[simp] theorem State.setFnSt_hub_ (v : FnSt) : (s.setFnSt k v).hub j = s.hub j := rfl
@[simp] theorem State.setFnSt_port_ (v : FnSt) : (s.setFnSt k v).port j = s.port j := rfl
@[simp] theorem State.setFnSt_link_ (v : FnSt) : (s.setFnSt k v).link j = s.link j := rfl
@[simp] theorem State.setFnSt_mbox_ (v : FnSt) : (s.setFnSt k v).mbox j = s.mbox j := rfl
@[simp] theorem State.setFnSt_msixEnt_ (v : FnSt) : (s.setFnSt k v).msixEnt j = s.msixEnt j := rfl
@[simp] theorem State.setFnSt_peer_ (v : FnSt) : (s.setFnSt k v).peer j = s.peer j := rfl
@[simp] theorem State.setFnSt_half_ (v : FnSt) : (s.setFnSt k v).half j = s.half j := rfl
@[simp] theorem State.setFnSt_cell_ (v : FnSt) : (s.setFnSt k v).cell j = s.cell j := rfl
@[simp] theorem State.setFnSt_ext_ (v : FnSt) : (s.setFnSt k v).ext j = s.ext j := rfl
@[simp] theorem State.setFnSt_vf_ (v : FnSt) : (s.setFnSt k v).vf j = s.vf j := rfl
@[simp] theorem State.setFnSt_unit_ (v : FnSt) : (s.setFnSt k v).unit j = s.unit j := rfl
@[simp] theorem State.setFnSt_wing_ (v : FnSt) : (s.setFnSt k v).wing j = s.wing j := rfl
@[simp] theorem State.setFnSt_que_ (v : FnSt) : (s.setFnSt k v).que j = s.que j := rfl
@[simp] theorem State.setFnSt_doc_ (v : FnSt) : (s.setFnSt k v).doc j = s.doc j := rfl
@[simp] theorem State.setFnSt_arb_ (v : FnSt) : (s.setFnSt k v).arb j = s.arb j := rfl
@[simp] theorem State.setFnSt_table_ (v : FnSt) : (s.setFnSt k v).table j = s.table j := rfl
@[simp] theorem State.setFnSt_cat_ (v : FnSt) : (s.setFnSt k v).cat j = s.cat j := rfl
@[simp] theorem State.setFnSt_line_ (v : FnSt) : (s.setFnSt k v).line j = s.line j := rfl
@[simp] theorem State.setFnSt_stack_ (v : FnSt) : (s.setFnSt k v).stack j = s.stack j := rfl
@[simp] theorem State.setFnSt_die_ (v : FnSt) : (s.setFnSt k v).die j = s.die j := rfl
@[simp] theorem State.setFnSt_eth_ (v : FnSt) : (s.setFnSt k v).eth j = s.eth j := rfl
@[simp] theorem State.setFnSt_flow_ (v : FnSt) : (s.setFnSt k v).flow j = s.flow j := rfl
@[simp] theorem State.setFnSt_tdi_ (v : FnSt) : (s.setFnSt k v).tdi j = s.tdi j := rfl
@[simp] theorem State.setFnSt_mu_ (v : FnSt) : (s.setFnSt k v).mu j = s.mu j := rfl
@[simp] theorem State.setFnSt_lane_ (v : FnSt) : (s.setFnSt k v).lane j = s.lane j := rfl

/-! ### setMsixEnt -/

@[simp] theorem State.updMsixEnt_eq (f : Msix → Msix) : s.updMsixEnt k f = s.setMsixEnt k (f (s.msixEnt k)) := rfl
theorem State.msixEnt_setMsixEnt (v : Msix) : (s.setMsixEnt k v).msixEnt j = if j = k then v else s.msixEnt j := Tbl.get_set ..
@[simp] theorem State.msixEnt_setMsixEnt_same (v : Msix) : (s.setMsixEnt k v).msixEnt k = v := Tbl.get_set_same ..
@[simp] theorem State.setMsixEnt_pending (v : Msix) : (s.setMsixEnt k v).pending = s.pending := rfl
@[simp] theorem State.setMsixEnt_out (v : Msix) : (s.setMsixEnt k v).out = s.out := rfl
@[simp] theorem State.setMsixEnt_freeCtr (v : Msix) : (s.setMsixEnt k v).freeCtr = s.freeCtr := rfl
@[simp] theorem State.setMsixEnt_clk (v : Msix) : (s.setMsixEnt k v).clk = s.clk := rfl
@[simp] theorem State.setMsixEnt_plinth (v : Msix) : (s.setMsixEnt k v).plinth = s.plinth := rfl
@[simp] theorem State.setMsixEnt_hubs (v : Msix) : (s.setMsixEnt k v).hubs = s.hubs := rfl
@[simp] theorem State.setMsixEnt_hubLinkUp (v : Msix) : (s.setMsixEnt k v).hubLinkUp = s.hubLinkUp := rfl
@[simp] theorem State.setMsixEnt_ports (v : Msix) : (s.setMsixEnt k v).ports = s.ports := rfl
@[simp] theorem State.setMsixEnt_links (v : Msix) : (s.setMsixEnt k v).links = s.links := rfl
@[simp] theorem State.setMsixEnt_noAuthority (v : Msix) : (s.setMsixEnt k v).noAuthority = s.noAuthority := rfl
@[simp] theorem State.setMsixEnt_lastDispatch (v : Msix) : (s.setMsixEnt k v).lastDispatch = s.lastDispatch := rfl
@[simp] theorem State.setMsixEnt_mbx (v : Msix) : (s.setMsixEnt k v).mbx = s.mbx := rfl
@[simp] theorem State.setMsixEnt_fns (v : Msix) : (s.setMsixEnt k v).fns = s.fns := rfl
@[simp] theorem State.setMsixEnt_pcie (v : Msix) : (s.setMsixEnt k v).pcie = s.pcie := rfl
@[simp] theorem State.setMsixEnt_peers (v : Msix) : (s.setMsixEnt k v).peers = s.peers := rfl
@[simp] theorem State.setMsixEnt_halfCells (v : Msix) : (s.setMsixEnt k v).halfCells = s.halfCells := rfl
@[simp] theorem State.setMsixEnt_cells (v : Msix) : (s.setMsixEnt k v).cells = s.cells := rfl
@[simp] theorem State.setMsixEnt_extents (v : Msix) : (s.setMsixEnt k v).extents = s.extents := rfl
@[simp] theorem State.setMsixEnt_vfs (v : Msix) : (s.setMsixEnt k v).vfs = s.vfs := rfl
@[simp] theorem State.setMsixEnt_units (v : Msix) : (s.setMsixEnt k v).units = s.units := rfl
@[simp] theorem State.setMsixEnt_wings (v : Msix) : (s.setMsixEnt k v).wings = s.wings := rfl
@[simp] theorem State.setMsixEnt_noWing (v : Msix) : (s.setMsixEnt k v).noWing = s.noWing := rfl
@[simp] theorem State.setMsixEnt_noWingSince (v : Msix) : (s.setMsixEnt k v).noWingSince = s.noWingSince := rfl
@[simp] theorem State.setMsixEnt_noWingAt (v : Msix) : (s.setMsixEnt k v).noWingAt = s.noWingAt := rfl
@[simp] theorem State.setMsixEnt_queues (v : Msix) : (s.setMsixEnt k v).queues = s.queues := rfl
@[simp] theorem State.setMsixEnt_reqs (v : Msix) : (s.setMsixEnt k v).reqs = s.reqs := rfl
@[simp] theorem State.setMsixEnt_nextReq (v : Msix) : (s.setMsixEnt k v).nextReq = s.nextReq := rfl
@[simp] theorem State.setMsixEnt_images (v : Msix) : (s.setMsixEnt k v).images = s.images := rfl
@[simp] theorem State.setMsixEnt_docents (v : Msix) : (s.setMsixEnt k v).docents = s.docents := rfl
@[simp] theorem State.setMsixEnt_launches (v : Msix) : (s.setMsixEnt k v).launches = s.launches := rfl
@[simp] theorem State.setMsixEnt_arbs (v : Msix) : (s.setMsixEnt k v).arbs = s.arbs := rfl
@[simp] theorem State.setMsixEnt_batches (v : Msix) : (s.setMsixEnt k v).batches = s.batches := rfl
@[simp] theorem State.setMsixEnt_dups (v : Msix) : (s.setMsixEnt k v).dups = s.dups := rfl
@[simp] theorem State.setMsixEnt_sp (v : Msix) : (s.setMsixEnt k v).sp = s.sp := rfl
@[simp] theorem State.setMsixEnt_spBad (v : Msix) : (s.setMsixEnt k v).spBad = s.spBad := rfl
@[simp] theorem State.setMsixEnt_ckpts (v : Msix) : (s.setMsixEnt k v).ckpts = s.ckpts := rfl
@[simp] theorem State.setMsixEnt_ckptCount (v : Msix) : (s.setMsixEnt k v).ckptCount = s.ckptCount := rfl
@[simp] theorem State.setMsixEnt_tables (v : Msix) : (s.setMsixEnt k v).tables = s.tables := rfl
@[simp] theorem State.setMsixEnt_cats (v : Msix) : (s.setMsixEnt k v).cats = s.cats := rfl
@[simp] theorem State.setMsixEnt_dir (v : Msix) : (s.setMsixEnt k v).dir = s.dir := rfl
@[simp] theorem State.setMsixEnt_cache (v : Msix) : (s.setMsixEnt k v).cache = s.cache := rfl
@[simp] theorem State.setMsixEnt_dram (v : Msix) : (s.setMsixEnt k v).dram = s.dram := rfl
@[simp] theorem State.setMsixEnt_lines (v : Msix) : (s.setMsixEnt k v).lines = s.lines := rfl
@[simp] theorem State.setMsixEnt_dramStacks (v : Msix) : (s.setMsixEnt k v).dramStacks = s.dramStacks := rfl
@[simp] theorem State.setMsixEnt_patrolHours (v : Msix) : (s.setMsixEnt k v).patrolHours = s.patrolHours := rfl
@[simp] theorem State.setMsixEnt_priTimeout (v : Msix) : (s.setMsixEnt k v).priTimeout = s.priTimeout := rfl
@[simp] theorem State.setMsixEnt_rowErrs (v : Msix) : (s.setMsixEnt k v).rowErrs = s.rowErrs := rfl
@[simp] theorem State.setMsixEnt_tlb (v : Msix) : (s.setMsixEnt k v).tlb = s.tlb := rfl
@[simp] theorem State.setMsixEnt_ptw (v : Msix) : (s.setMsixEnt k v).ptw = s.ptw := rfl
@[simp] theorem State.setMsixEnt_lineWaits (v : Msix) : (s.setMsixEnt k v).lineWaits = s.lineWaits := rfl
@[simp] theorem State.setMsixEnt_ats (v : Msix) : (s.setMsixEnt k v).ats = s.ats := rfl
@[simp] theorem State.setMsixEnt_atsReqs (v : Msix) : (s.setMsixEnt k v).atsReqs = s.atsReqs := rfl
@[simp] theorem State.setMsixEnt_priReqs (v : Msix) : (s.setMsixEnt k v).priReqs = s.priReqs := rfl
@[simp] theorem State.setMsixEnt_dies (v : Msix) : (s.setMsixEnt k v).dies = s.dies := rfl
@[simp] theorem State.setMsixEnt_digestPairs (v : Msix) : (s.setMsixEnt k v).digestPairs = s.digestPairs := rfl
@[simp] theorem State.setMsixEnt_log (v : Msix) : (s.setMsixEnt k v).log = s.log := rfl
@[simp] theorem State.setMsixEnt_par (v : Msix) : (s.setMsixEnt k v).par = s.par := rfl
@[simp] theorem State.setMsixEnt_ethPorts (v : Msix) : (s.setMsixEnt k v).ethPorts = s.ethPorts := rfl
@[simp] theorem State.setMsixEnt_flows (v : Msix) : (s.setMsixEnt k v).flows = s.flows := rfl
@[simp] theorem State.setMsixEnt_vlt (v : Msix) : (s.setMsixEnt k v).vlt = s.vlt := rfl
@[simp] theorem State.setMsixEnt_tdis (v : Msix) : (s.setMsixEnt k v).tdis = s.tdis := rfl
@[simp] theorem State.setMsixEnt_rst (v : Msix) : (s.setMsixEnt k v).rst = s.rst := rfl
@[simp] theorem State.setMsixEnt_fw (v : Msix) : (s.setMsixEnt k v).fw = s.fw := rfl
@[simp] theorem State.setMsixEnt_vnt (v : Msix) : (s.setMsixEnt k v).vnt = s.vnt := rfl
@[simp] theorem State.setMsixEnt_tap (v : Msix) : (s.setMsixEnt k v).tap = s.tap := rfl
@[simp] theorem State.setMsixEnt_moves (v : Msix) : (s.setMsixEnt k v).moves = s.moves := rfl
@[simp] theorem State.setMsixEnt_mus (v : Msix) : (s.setMsixEnt k v).mus = s.mus := rfl
@[simp] theorem State.setMsixEnt_lanes (v : Msix) : (s.setMsixEnt k v).lanes = s.lanes := rfl
@[simp] theorem State.setMsixEnt_ahead (v : Msix) : (s.setMsixEnt k v).ahead = s.ahead := rfl
@[simp] theorem State.setMsixEnt_bar2Waits (v : Msix) : (s.setMsixEnt k v).bar2Waits = s.bar2Waits := rfl
@[simp] theorem State.setMsixEnt_hub_ (v : Msix) : (s.setMsixEnt k v).hub j = s.hub j := rfl
@[simp] theorem State.setMsixEnt_port_ (v : Msix) : (s.setMsixEnt k v).port j = s.port j := rfl
@[simp] theorem State.setMsixEnt_link_ (v : Msix) : (s.setMsixEnt k v).link j = s.link j := rfl
@[simp] theorem State.setMsixEnt_mbox_ (v : Msix) : (s.setMsixEnt k v).mbox j = s.mbox j := rfl
@[simp] theorem State.setMsixEnt_fnSt_ (v : Msix) : (s.setMsixEnt k v).fnSt j = s.fnSt j := rfl
@[simp] theorem State.setMsixEnt_peer_ (v : Msix) : (s.setMsixEnt k v).peer j = s.peer j := rfl
@[simp] theorem State.setMsixEnt_half_ (v : Msix) : (s.setMsixEnt k v).half j = s.half j := rfl
@[simp] theorem State.setMsixEnt_cell_ (v : Msix) : (s.setMsixEnt k v).cell j = s.cell j := rfl
@[simp] theorem State.setMsixEnt_ext_ (v : Msix) : (s.setMsixEnt k v).ext j = s.ext j := rfl
@[simp] theorem State.setMsixEnt_vf_ (v : Msix) : (s.setMsixEnt k v).vf j = s.vf j := rfl
@[simp] theorem State.setMsixEnt_unit_ (v : Msix) : (s.setMsixEnt k v).unit j = s.unit j := rfl
@[simp] theorem State.setMsixEnt_wing_ (v : Msix) : (s.setMsixEnt k v).wing j = s.wing j := rfl
@[simp] theorem State.setMsixEnt_que_ (v : Msix) : (s.setMsixEnt k v).que j = s.que j := rfl
@[simp] theorem State.setMsixEnt_doc_ (v : Msix) : (s.setMsixEnt k v).doc j = s.doc j := rfl
@[simp] theorem State.setMsixEnt_arb_ (v : Msix) : (s.setMsixEnt k v).arb j = s.arb j := rfl
@[simp] theorem State.setMsixEnt_table_ (v : Msix) : (s.setMsixEnt k v).table j = s.table j := rfl
@[simp] theorem State.setMsixEnt_cat_ (v : Msix) : (s.setMsixEnt k v).cat j = s.cat j := rfl
@[simp] theorem State.setMsixEnt_line_ (v : Msix) : (s.setMsixEnt k v).line j = s.line j := rfl
@[simp] theorem State.setMsixEnt_stack_ (v : Msix) : (s.setMsixEnt k v).stack j = s.stack j := rfl
@[simp] theorem State.setMsixEnt_die_ (v : Msix) : (s.setMsixEnt k v).die j = s.die j := rfl
@[simp] theorem State.setMsixEnt_eth_ (v : Msix) : (s.setMsixEnt k v).eth j = s.eth j := rfl
@[simp] theorem State.setMsixEnt_flow_ (v : Msix) : (s.setMsixEnt k v).flow j = s.flow j := rfl
@[simp] theorem State.setMsixEnt_tdi_ (v : Msix) : (s.setMsixEnt k v).tdi j = s.tdi j := rfl
@[simp] theorem State.setMsixEnt_mu_ (v : Msix) : (s.setMsixEnt k v).mu j = s.mu j := rfl
@[simp] theorem State.setMsixEnt_lane_ (v : Msix) : (s.setMsixEnt k v).lane j = s.lane j := rfl

/-! ### setPeer -/

@[simp] theorem State.updPeer_eq (f : Peer → Peer) : s.updPeer k f = s.setPeer k (f (s.peer k)) := rfl
theorem State.peer_setPeer (v : Peer) : (s.setPeer k v).peer j = if j = k then v else s.peer j := Tbl.get_set ..
@[simp] theorem State.peer_setPeer_same (v : Peer) : (s.setPeer k v).peer k = v := Tbl.get_set_same ..
@[simp] theorem State.setPeer_pending (v : Peer) : (s.setPeer k v).pending = s.pending := rfl
@[simp] theorem State.setPeer_out (v : Peer) : (s.setPeer k v).out = s.out := rfl
@[simp] theorem State.setPeer_freeCtr (v : Peer) : (s.setPeer k v).freeCtr = s.freeCtr := rfl
@[simp] theorem State.setPeer_clk (v : Peer) : (s.setPeer k v).clk = s.clk := rfl
@[simp] theorem State.setPeer_plinth (v : Peer) : (s.setPeer k v).plinth = s.plinth := rfl
@[simp] theorem State.setPeer_hubs (v : Peer) : (s.setPeer k v).hubs = s.hubs := rfl
@[simp] theorem State.setPeer_hubLinkUp (v : Peer) : (s.setPeer k v).hubLinkUp = s.hubLinkUp := rfl
@[simp] theorem State.setPeer_ports (v : Peer) : (s.setPeer k v).ports = s.ports := rfl
@[simp] theorem State.setPeer_links (v : Peer) : (s.setPeer k v).links = s.links := rfl
@[simp] theorem State.setPeer_noAuthority (v : Peer) : (s.setPeer k v).noAuthority = s.noAuthority := rfl
@[simp] theorem State.setPeer_lastDispatch (v : Peer) : (s.setPeer k v).lastDispatch = s.lastDispatch := rfl
@[simp] theorem State.setPeer_mbx (v : Peer) : (s.setPeer k v).mbx = s.mbx := rfl
@[simp] theorem State.setPeer_fns (v : Peer) : (s.setPeer k v).fns = s.fns := rfl
@[simp] theorem State.setPeer_msix (v : Peer) : (s.setPeer k v).msix = s.msix := rfl
@[simp] theorem State.setPeer_pcie (v : Peer) : (s.setPeer k v).pcie = s.pcie := rfl
@[simp] theorem State.setPeer_halfCells (v : Peer) : (s.setPeer k v).halfCells = s.halfCells := rfl
@[simp] theorem State.setPeer_cells (v : Peer) : (s.setPeer k v).cells = s.cells := rfl
@[simp] theorem State.setPeer_extents (v : Peer) : (s.setPeer k v).extents = s.extents := rfl
@[simp] theorem State.setPeer_vfs (v : Peer) : (s.setPeer k v).vfs = s.vfs := rfl
@[simp] theorem State.setPeer_units (v : Peer) : (s.setPeer k v).units = s.units := rfl
@[simp] theorem State.setPeer_wings (v : Peer) : (s.setPeer k v).wings = s.wings := rfl
@[simp] theorem State.setPeer_noWing (v : Peer) : (s.setPeer k v).noWing = s.noWing := rfl
@[simp] theorem State.setPeer_noWingSince (v : Peer) : (s.setPeer k v).noWingSince = s.noWingSince := rfl
@[simp] theorem State.setPeer_noWingAt (v : Peer) : (s.setPeer k v).noWingAt = s.noWingAt := rfl
@[simp] theorem State.setPeer_queues (v : Peer) : (s.setPeer k v).queues = s.queues := rfl
@[simp] theorem State.setPeer_reqs (v : Peer) : (s.setPeer k v).reqs = s.reqs := rfl
@[simp] theorem State.setPeer_nextReq (v : Peer) : (s.setPeer k v).nextReq = s.nextReq := rfl
@[simp] theorem State.setPeer_images (v : Peer) : (s.setPeer k v).images = s.images := rfl
@[simp] theorem State.setPeer_docents (v : Peer) : (s.setPeer k v).docents = s.docents := rfl
@[simp] theorem State.setPeer_launches (v : Peer) : (s.setPeer k v).launches = s.launches := rfl
@[simp] theorem State.setPeer_arbs (v : Peer) : (s.setPeer k v).arbs = s.arbs := rfl
@[simp] theorem State.setPeer_batches (v : Peer) : (s.setPeer k v).batches = s.batches := rfl
@[simp] theorem State.setPeer_dups (v : Peer) : (s.setPeer k v).dups = s.dups := rfl
@[simp] theorem State.setPeer_sp (v : Peer) : (s.setPeer k v).sp = s.sp := rfl
@[simp] theorem State.setPeer_spBad (v : Peer) : (s.setPeer k v).spBad = s.spBad := rfl
@[simp] theorem State.setPeer_ckpts (v : Peer) : (s.setPeer k v).ckpts = s.ckpts := rfl
@[simp] theorem State.setPeer_ckptCount (v : Peer) : (s.setPeer k v).ckptCount = s.ckptCount := rfl
@[simp] theorem State.setPeer_tables (v : Peer) : (s.setPeer k v).tables = s.tables := rfl
@[simp] theorem State.setPeer_cats (v : Peer) : (s.setPeer k v).cats = s.cats := rfl
@[simp] theorem State.setPeer_dir (v : Peer) : (s.setPeer k v).dir = s.dir := rfl
@[simp] theorem State.setPeer_cache (v : Peer) : (s.setPeer k v).cache = s.cache := rfl
@[simp] theorem State.setPeer_dram (v : Peer) : (s.setPeer k v).dram = s.dram := rfl
@[simp] theorem State.setPeer_lines (v : Peer) : (s.setPeer k v).lines = s.lines := rfl
@[simp] theorem State.setPeer_dramStacks (v : Peer) : (s.setPeer k v).dramStacks = s.dramStacks := rfl
@[simp] theorem State.setPeer_patrolHours (v : Peer) : (s.setPeer k v).patrolHours = s.patrolHours := rfl
@[simp] theorem State.setPeer_priTimeout (v : Peer) : (s.setPeer k v).priTimeout = s.priTimeout := rfl
@[simp] theorem State.setPeer_rowErrs (v : Peer) : (s.setPeer k v).rowErrs = s.rowErrs := rfl
@[simp] theorem State.setPeer_tlb (v : Peer) : (s.setPeer k v).tlb = s.tlb := rfl
@[simp] theorem State.setPeer_ptw (v : Peer) : (s.setPeer k v).ptw = s.ptw := rfl
@[simp] theorem State.setPeer_lineWaits (v : Peer) : (s.setPeer k v).lineWaits = s.lineWaits := rfl
@[simp] theorem State.setPeer_ats (v : Peer) : (s.setPeer k v).ats = s.ats := rfl
@[simp] theorem State.setPeer_atsReqs (v : Peer) : (s.setPeer k v).atsReqs = s.atsReqs := rfl
@[simp] theorem State.setPeer_priReqs (v : Peer) : (s.setPeer k v).priReqs = s.priReqs := rfl
@[simp] theorem State.setPeer_dies (v : Peer) : (s.setPeer k v).dies = s.dies := rfl
@[simp] theorem State.setPeer_digestPairs (v : Peer) : (s.setPeer k v).digestPairs = s.digestPairs := rfl
@[simp] theorem State.setPeer_log (v : Peer) : (s.setPeer k v).log = s.log := rfl
@[simp] theorem State.setPeer_par (v : Peer) : (s.setPeer k v).par = s.par := rfl
@[simp] theorem State.setPeer_ethPorts (v : Peer) : (s.setPeer k v).ethPorts = s.ethPorts := rfl
@[simp] theorem State.setPeer_flows (v : Peer) : (s.setPeer k v).flows = s.flows := rfl
@[simp] theorem State.setPeer_vlt (v : Peer) : (s.setPeer k v).vlt = s.vlt := rfl
@[simp] theorem State.setPeer_tdis (v : Peer) : (s.setPeer k v).tdis = s.tdis := rfl
@[simp] theorem State.setPeer_rst (v : Peer) : (s.setPeer k v).rst = s.rst := rfl
@[simp] theorem State.setPeer_fw (v : Peer) : (s.setPeer k v).fw = s.fw := rfl
@[simp] theorem State.setPeer_vnt (v : Peer) : (s.setPeer k v).vnt = s.vnt := rfl
@[simp] theorem State.setPeer_tap (v : Peer) : (s.setPeer k v).tap = s.tap := rfl
@[simp] theorem State.setPeer_moves (v : Peer) : (s.setPeer k v).moves = s.moves := rfl
@[simp] theorem State.setPeer_mus (v : Peer) : (s.setPeer k v).mus = s.mus := rfl
@[simp] theorem State.setPeer_lanes (v : Peer) : (s.setPeer k v).lanes = s.lanes := rfl
@[simp] theorem State.setPeer_ahead (v : Peer) : (s.setPeer k v).ahead = s.ahead := rfl
@[simp] theorem State.setPeer_bar2Waits (v : Peer) : (s.setPeer k v).bar2Waits = s.bar2Waits := rfl
@[simp] theorem State.setPeer_hub_ (v : Peer) : (s.setPeer k v).hub j = s.hub j := rfl
@[simp] theorem State.setPeer_port_ (v : Peer) : (s.setPeer k v).port j = s.port j := rfl
@[simp] theorem State.setPeer_link_ (v : Peer) : (s.setPeer k v).link j = s.link j := rfl
@[simp] theorem State.setPeer_mbox_ (v : Peer) : (s.setPeer k v).mbox j = s.mbox j := rfl
@[simp] theorem State.setPeer_fnSt_ (v : Peer) : (s.setPeer k v).fnSt j = s.fnSt j := rfl
@[simp] theorem State.setPeer_msixEnt_ (v : Peer) : (s.setPeer k v).msixEnt j = s.msixEnt j := rfl
@[simp] theorem State.setPeer_half_ (v : Peer) : (s.setPeer k v).half j = s.half j := rfl
@[simp] theorem State.setPeer_cell_ (v : Peer) : (s.setPeer k v).cell j = s.cell j := rfl
@[simp] theorem State.setPeer_ext_ (v : Peer) : (s.setPeer k v).ext j = s.ext j := rfl
@[simp] theorem State.setPeer_vf_ (v : Peer) : (s.setPeer k v).vf j = s.vf j := rfl
@[simp] theorem State.setPeer_unit_ (v : Peer) : (s.setPeer k v).unit j = s.unit j := rfl
@[simp] theorem State.setPeer_wing_ (v : Peer) : (s.setPeer k v).wing j = s.wing j := rfl
@[simp] theorem State.setPeer_que_ (v : Peer) : (s.setPeer k v).que j = s.que j := rfl
@[simp] theorem State.setPeer_doc_ (v : Peer) : (s.setPeer k v).doc j = s.doc j := rfl
@[simp] theorem State.setPeer_arb_ (v : Peer) : (s.setPeer k v).arb j = s.arb j := rfl
@[simp] theorem State.setPeer_table_ (v : Peer) : (s.setPeer k v).table j = s.table j := rfl
@[simp] theorem State.setPeer_cat_ (v : Peer) : (s.setPeer k v).cat j = s.cat j := rfl
@[simp] theorem State.setPeer_line_ (v : Peer) : (s.setPeer k v).line j = s.line j := rfl
@[simp] theorem State.setPeer_stack_ (v : Peer) : (s.setPeer k v).stack j = s.stack j := rfl
@[simp] theorem State.setPeer_die_ (v : Peer) : (s.setPeer k v).die j = s.die j := rfl
@[simp] theorem State.setPeer_eth_ (v : Peer) : (s.setPeer k v).eth j = s.eth j := rfl
@[simp] theorem State.setPeer_flow_ (v : Peer) : (s.setPeer k v).flow j = s.flow j := rfl
@[simp] theorem State.setPeer_tdi_ (v : Peer) : (s.setPeer k v).tdi j = s.tdi j := rfl
@[simp] theorem State.setPeer_mu_ (v : Peer) : (s.setPeer k v).mu j = s.mu j := rfl
@[simp] theorem State.setPeer_lane_ (v : Peer) : (s.setPeer k v).lane j = s.lane j := rfl

/-! ### setHalf -/

@[simp] theorem State.updHalf_eq (f : HalfCell → HalfCell) : s.updHalf k f = s.setHalf k (f (s.half k)) := rfl
theorem State.half_setHalf (v : HalfCell) : (s.setHalf k v).half j = if j = k then v else s.half j := Tbl.get_set ..
@[simp] theorem State.half_setHalf_same (v : HalfCell) : (s.setHalf k v).half k = v := Tbl.get_set_same ..
@[simp] theorem State.setHalf_pending (v : HalfCell) : (s.setHalf k v).pending = s.pending := rfl
@[simp] theorem State.setHalf_out (v : HalfCell) : (s.setHalf k v).out = s.out := rfl
@[simp] theorem State.setHalf_freeCtr (v : HalfCell) : (s.setHalf k v).freeCtr = s.freeCtr := rfl
@[simp] theorem State.setHalf_clk (v : HalfCell) : (s.setHalf k v).clk = s.clk := rfl
@[simp] theorem State.setHalf_plinth (v : HalfCell) : (s.setHalf k v).plinth = s.plinth := rfl
@[simp] theorem State.setHalf_hubs (v : HalfCell) : (s.setHalf k v).hubs = s.hubs := rfl
@[simp] theorem State.setHalf_hubLinkUp (v : HalfCell) : (s.setHalf k v).hubLinkUp = s.hubLinkUp := rfl
@[simp] theorem State.setHalf_ports (v : HalfCell) : (s.setHalf k v).ports = s.ports := rfl
@[simp] theorem State.setHalf_links (v : HalfCell) : (s.setHalf k v).links = s.links := rfl
@[simp] theorem State.setHalf_noAuthority (v : HalfCell) : (s.setHalf k v).noAuthority = s.noAuthority := rfl
@[simp] theorem State.setHalf_lastDispatch (v : HalfCell) : (s.setHalf k v).lastDispatch = s.lastDispatch := rfl
@[simp] theorem State.setHalf_mbx (v : HalfCell) : (s.setHalf k v).mbx = s.mbx := rfl
@[simp] theorem State.setHalf_fns (v : HalfCell) : (s.setHalf k v).fns = s.fns := rfl
@[simp] theorem State.setHalf_msix (v : HalfCell) : (s.setHalf k v).msix = s.msix := rfl
@[simp] theorem State.setHalf_pcie (v : HalfCell) : (s.setHalf k v).pcie = s.pcie := rfl
@[simp] theorem State.setHalf_peers (v : HalfCell) : (s.setHalf k v).peers = s.peers := rfl
@[simp] theorem State.setHalf_cells (v : HalfCell) : (s.setHalf k v).cells = s.cells := rfl
@[simp] theorem State.setHalf_extents (v : HalfCell) : (s.setHalf k v).extents = s.extents := rfl
@[simp] theorem State.setHalf_vfs (v : HalfCell) : (s.setHalf k v).vfs = s.vfs := rfl
@[simp] theorem State.setHalf_units (v : HalfCell) : (s.setHalf k v).units = s.units := rfl
@[simp] theorem State.setHalf_wings (v : HalfCell) : (s.setHalf k v).wings = s.wings := rfl
@[simp] theorem State.setHalf_noWing (v : HalfCell) : (s.setHalf k v).noWing = s.noWing := rfl
@[simp] theorem State.setHalf_noWingSince (v : HalfCell) : (s.setHalf k v).noWingSince = s.noWingSince := rfl
@[simp] theorem State.setHalf_noWingAt (v : HalfCell) : (s.setHalf k v).noWingAt = s.noWingAt := rfl
@[simp] theorem State.setHalf_queues (v : HalfCell) : (s.setHalf k v).queues = s.queues := rfl
@[simp] theorem State.setHalf_reqs (v : HalfCell) : (s.setHalf k v).reqs = s.reqs := rfl
@[simp] theorem State.setHalf_nextReq (v : HalfCell) : (s.setHalf k v).nextReq = s.nextReq := rfl
@[simp] theorem State.setHalf_images (v : HalfCell) : (s.setHalf k v).images = s.images := rfl
@[simp] theorem State.setHalf_docents (v : HalfCell) : (s.setHalf k v).docents = s.docents := rfl
@[simp] theorem State.setHalf_launches (v : HalfCell) : (s.setHalf k v).launches = s.launches := rfl
@[simp] theorem State.setHalf_arbs (v : HalfCell) : (s.setHalf k v).arbs = s.arbs := rfl
@[simp] theorem State.setHalf_batches (v : HalfCell) : (s.setHalf k v).batches = s.batches := rfl
@[simp] theorem State.setHalf_dups (v : HalfCell) : (s.setHalf k v).dups = s.dups := rfl
@[simp] theorem State.setHalf_sp (v : HalfCell) : (s.setHalf k v).sp = s.sp := rfl
@[simp] theorem State.setHalf_spBad (v : HalfCell) : (s.setHalf k v).spBad = s.spBad := rfl
@[simp] theorem State.setHalf_ckpts (v : HalfCell) : (s.setHalf k v).ckpts = s.ckpts := rfl
@[simp] theorem State.setHalf_ckptCount (v : HalfCell) : (s.setHalf k v).ckptCount = s.ckptCount := rfl
@[simp] theorem State.setHalf_tables (v : HalfCell) : (s.setHalf k v).tables = s.tables := rfl
@[simp] theorem State.setHalf_cats (v : HalfCell) : (s.setHalf k v).cats = s.cats := rfl
@[simp] theorem State.setHalf_dir (v : HalfCell) : (s.setHalf k v).dir = s.dir := rfl
@[simp] theorem State.setHalf_cache (v : HalfCell) : (s.setHalf k v).cache = s.cache := rfl
@[simp] theorem State.setHalf_dram (v : HalfCell) : (s.setHalf k v).dram = s.dram := rfl
@[simp] theorem State.setHalf_lines (v : HalfCell) : (s.setHalf k v).lines = s.lines := rfl
@[simp] theorem State.setHalf_dramStacks (v : HalfCell) : (s.setHalf k v).dramStacks = s.dramStacks := rfl
@[simp] theorem State.setHalf_patrolHours (v : HalfCell) : (s.setHalf k v).patrolHours = s.patrolHours := rfl
@[simp] theorem State.setHalf_priTimeout (v : HalfCell) : (s.setHalf k v).priTimeout = s.priTimeout := rfl
@[simp] theorem State.setHalf_rowErrs (v : HalfCell) : (s.setHalf k v).rowErrs = s.rowErrs := rfl
@[simp] theorem State.setHalf_tlb (v : HalfCell) : (s.setHalf k v).tlb = s.tlb := rfl
@[simp] theorem State.setHalf_ptw (v : HalfCell) : (s.setHalf k v).ptw = s.ptw := rfl
@[simp] theorem State.setHalf_lineWaits (v : HalfCell) : (s.setHalf k v).lineWaits = s.lineWaits := rfl
@[simp] theorem State.setHalf_ats (v : HalfCell) : (s.setHalf k v).ats = s.ats := rfl
@[simp] theorem State.setHalf_atsReqs (v : HalfCell) : (s.setHalf k v).atsReqs = s.atsReqs := rfl
@[simp] theorem State.setHalf_priReqs (v : HalfCell) : (s.setHalf k v).priReqs = s.priReqs := rfl
@[simp] theorem State.setHalf_dies (v : HalfCell) : (s.setHalf k v).dies = s.dies := rfl
@[simp] theorem State.setHalf_digestPairs (v : HalfCell) : (s.setHalf k v).digestPairs = s.digestPairs := rfl
@[simp] theorem State.setHalf_log (v : HalfCell) : (s.setHalf k v).log = s.log := rfl
@[simp] theorem State.setHalf_par (v : HalfCell) : (s.setHalf k v).par = s.par := rfl
@[simp] theorem State.setHalf_ethPorts (v : HalfCell) : (s.setHalf k v).ethPorts = s.ethPorts := rfl
@[simp] theorem State.setHalf_flows (v : HalfCell) : (s.setHalf k v).flows = s.flows := rfl
@[simp] theorem State.setHalf_vlt (v : HalfCell) : (s.setHalf k v).vlt = s.vlt := rfl
@[simp] theorem State.setHalf_tdis (v : HalfCell) : (s.setHalf k v).tdis = s.tdis := rfl
@[simp] theorem State.setHalf_rst (v : HalfCell) : (s.setHalf k v).rst = s.rst := rfl
@[simp] theorem State.setHalf_fw (v : HalfCell) : (s.setHalf k v).fw = s.fw := rfl
@[simp] theorem State.setHalf_vnt (v : HalfCell) : (s.setHalf k v).vnt = s.vnt := rfl
@[simp] theorem State.setHalf_tap (v : HalfCell) : (s.setHalf k v).tap = s.tap := rfl
@[simp] theorem State.setHalf_moves (v : HalfCell) : (s.setHalf k v).moves = s.moves := rfl
@[simp] theorem State.setHalf_mus (v : HalfCell) : (s.setHalf k v).mus = s.mus := rfl
@[simp] theorem State.setHalf_lanes (v : HalfCell) : (s.setHalf k v).lanes = s.lanes := rfl
@[simp] theorem State.setHalf_ahead (v : HalfCell) : (s.setHalf k v).ahead = s.ahead := rfl
@[simp] theorem State.setHalf_bar2Waits (v : HalfCell) : (s.setHalf k v).bar2Waits = s.bar2Waits := rfl
@[simp] theorem State.setHalf_hub_ (v : HalfCell) : (s.setHalf k v).hub j = s.hub j := rfl
@[simp] theorem State.setHalf_port_ (v : HalfCell) : (s.setHalf k v).port j = s.port j := rfl
@[simp] theorem State.setHalf_link_ (v : HalfCell) : (s.setHalf k v).link j = s.link j := rfl
@[simp] theorem State.setHalf_mbox_ (v : HalfCell) : (s.setHalf k v).mbox j = s.mbox j := rfl
@[simp] theorem State.setHalf_fnSt_ (v : HalfCell) : (s.setHalf k v).fnSt j = s.fnSt j := rfl
@[simp] theorem State.setHalf_msixEnt_ (v : HalfCell) : (s.setHalf k v).msixEnt j = s.msixEnt j := rfl
@[simp] theorem State.setHalf_peer_ (v : HalfCell) : (s.setHalf k v).peer j = s.peer j := rfl
@[simp] theorem State.setHalf_cell_ (v : HalfCell) : (s.setHalf k v).cell j = s.cell j := rfl
@[simp] theorem State.setHalf_ext_ (v : HalfCell) : (s.setHalf k v).ext j = s.ext j := rfl
@[simp] theorem State.setHalf_vf_ (v : HalfCell) : (s.setHalf k v).vf j = s.vf j := rfl
@[simp] theorem State.setHalf_unit_ (v : HalfCell) : (s.setHalf k v).unit j = s.unit j := rfl
@[simp] theorem State.setHalf_wing_ (v : HalfCell) : (s.setHalf k v).wing j = s.wing j := rfl
@[simp] theorem State.setHalf_que_ (v : HalfCell) : (s.setHalf k v).que j = s.que j := rfl
@[simp] theorem State.setHalf_doc_ (v : HalfCell) : (s.setHalf k v).doc j = s.doc j := rfl
@[simp] theorem State.setHalf_arb_ (v : HalfCell) : (s.setHalf k v).arb j = s.arb j := rfl
@[simp] theorem State.setHalf_table_ (v : HalfCell) : (s.setHalf k v).table j = s.table j := rfl
@[simp] theorem State.setHalf_cat_ (v : HalfCell) : (s.setHalf k v).cat j = s.cat j := rfl
@[simp] theorem State.setHalf_line_ (v : HalfCell) : (s.setHalf k v).line j = s.line j := rfl
@[simp] theorem State.setHalf_stack_ (v : HalfCell) : (s.setHalf k v).stack j = s.stack j := rfl
@[simp] theorem State.setHalf_die_ (v : HalfCell) : (s.setHalf k v).die j = s.die j := rfl
@[simp] theorem State.setHalf_eth_ (v : HalfCell) : (s.setHalf k v).eth j = s.eth j := rfl
@[simp] theorem State.setHalf_flow_ (v : HalfCell) : (s.setHalf k v).flow j = s.flow j := rfl
@[simp] theorem State.setHalf_tdi_ (v : HalfCell) : (s.setHalf k v).tdi j = s.tdi j := rfl
@[simp] theorem State.setHalf_mu_ (v : HalfCell) : (s.setHalf k v).mu j = s.mu j := rfl
@[simp] theorem State.setHalf_lane_ (v : HalfCell) : (s.setHalf k v).lane j = s.lane j := rfl

/-! ### setCell -/

@[simp] theorem State.updCell_eq (f : CellSt → CellSt) : s.updCell k f = s.setCell k (f (s.cell k)) := rfl
theorem State.cell_setCell (v : CellSt) : (s.setCell k v).cell j = if j = k then v else s.cell j := Tbl.get_set ..
@[simp] theorem State.cell_setCell_same (v : CellSt) : (s.setCell k v).cell k = v := Tbl.get_set_same ..
@[simp] theorem State.setCell_pending (v : CellSt) : (s.setCell k v).pending = s.pending := rfl
@[simp] theorem State.setCell_out (v : CellSt) : (s.setCell k v).out = s.out := rfl
@[simp] theorem State.setCell_freeCtr (v : CellSt) : (s.setCell k v).freeCtr = s.freeCtr := rfl
@[simp] theorem State.setCell_clk (v : CellSt) : (s.setCell k v).clk = s.clk := rfl
@[simp] theorem State.setCell_plinth (v : CellSt) : (s.setCell k v).plinth = s.plinth := rfl
@[simp] theorem State.setCell_hubs (v : CellSt) : (s.setCell k v).hubs = s.hubs := rfl
@[simp] theorem State.setCell_hubLinkUp (v : CellSt) : (s.setCell k v).hubLinkUp = s.hubLinkUp := rfl
@[simp] theorem State.setCell_ports (v : CellSt) : (s.setCell k v).ports = s.ports := rfl
@[simp] theorem State.setCell_links (v : CellSt) : (s.setCell k v).links = s.links := rfl
@[simp] theorem State.setCell_noAuthority (v : CellSt) : (s.setCell k v).noAuthority = s.noAuthority := rfl
@[simp] theorem State.setCell_lastDispatch (v : CellSt) : (s.setCell k v).lastDispatch = s.lastDispatch := rfl
@[simp] theorem State.setCell_mbx (v : CellSt) : (s.setCell k v).mbx = s.mbx := rfl
@[simp] theorem State.setCell_fns (v : CellSt) : (s.setCell k v).fns = s.fns := rfl
@[simp] theorem State.setCell_msix (v : CellSt) : (s.setCell k v).msix = s.msix := rfl
@[simp] theorem State.setCell_pcie (v : CellSt) : (s.setCell k v).pcie = s.pcie := rfl
@[simp] theorem State.setCell_peers (v : CellSt) : (s.setCell k v).peers = s.peers := rfl
@[simp] theorem State.setCell_halfCells (v : CellSt) : (s.setCell k v).halfCells = s.halfCells := rfl
@[simp] theorem State.setCell_extents (v : CellSt) : (s.setCell k v).extents = s.extents := rfl
@[simp] theorem State.setCell_vfs (v : CellSt) : (s.setCell k v).vfs = s.vfs := rfl
@[simp] theorem State.setCell_units (v : CellSt) : (s.setCell k v).units = s.units := rfl
@[simp] theorem State.setCell_wings (v : CellSt) : (s.setCell k v).wings = s.wings := rfl
@[simp] theorem State.setCell_noWing (v : CellSt) : (s.setCell k v).noWing = s.noWing := rfl
@[simp] theorem State.setCell_noWingSince (v : CellSt) : (s.setCell k v).noWingSince = s.noWingSince := rfl
@[simp] theorem State.setCell_noWingAt (v : CellSt) : (s.setCell k v).noWingAt = s.noWingAt := rfl
@[simp] theorem State.setCell_queues (v : CellSt) : (s.setCell k v).queues = s.queues := rfl
@[simp] theorem State.setCell_reqs (v : CellSt) : (s.setCell k v).reqs = s.reqs := rfl
@[simp] theorem State.setCell_nextReq (v : CellSt) : (s.setCell k v).nextReq = s.nextReq := rfl
@[simp] theorem State.setCell_images (v : CellSt) : (s.setCell k v).images = s.images := rfl
@[simp] theorem State.setCell_docents (v : CellSt) : (s.setCell k v).docents = s.docents := rfl
@[simp] theorem State.setCell_launches (v : CellSt) : (s.setCell k v).launches = s.launches := rfl
@[simp] theorem State.setCell_arbs (v : CellSt) : (s.setCell k v).arbs = s.arbs := rfl
@[simp] theorem State.setCell_batches (v : CellSt) : (s.setCell k v).batches = s.batches := rfl
@[simp] theorem State.setCell_dups (v : CellSt) : (s.setCell k v).dups = s.dups := rfl
@[simp] theorem State.setCell_sp (v : CellSt) : (s.setCell k v).sp = s.sp := rfl
@[simp] theorem State.setCell_spBad (v : CellSt) : (s.setCell k v).spBad = s.spBad := rfl
@[simp] theorem State.setCell_ckpts (v : CellSt) : (s.setCell k v).ckpts = s.ckpts := rfl
@[simp] theorem State.setCell_ckptCount (v : CellSt) : (s.setCell k v).ckptCount = s.ckptCount := rfl
@[simp] theorem State.setCell_tables (v : CellSt) : (s.setCell k v).tables = s.tables := rfl
@[simp] theorem State.setCell_cats (v : CellSt) : (s.setCell k v).cats = s.cats := rfl
@[simp] theorem State.setCell_dir (v : CellSt) : (s.setCell k v).dir = s.dir := rfl
@[simp] theorem State.setCell_cache (v : CellSt) : (s.setCell k v).cache = s.cache := rfl
@[simp] theorem State.setCell_dram (v : CellSt) : (s.setCell k v).dram = s.dram := rfl
@[simp] theorem State.setCell_lines (v : CellSt) : (s.setCell k v).lines = s.lines := rfl
@[simp] theorem State.setCell_dramStacks (v : CellSt) : (s.setCell k v).dramStacks = s.dramStacks := rfl
@[simp] theorem State.setCell_patrolHours (v : CellSt) : (s.setCell k v).patrolHours = s.patrolHours := rfl
@[simp] theorem State.setCell_priTimeout (v : CellSt) : (s.setCell k v).priTimeout = s.priTimeout := rfl
@[simp] theorem State.setCell_rowErrs (v : CellSt) : (s.setCell k v).rowErrs = s.rowErrs := rfl
@[simp] theorem State.setCell_tlb (v : CellSt) : (s.setCell k v).tlb = s.tlb := rfl
@[simp] theorem State.setCell_ptw (v : CellSt) : (s.setCell k v).ptw = s.ptw := rfl
@[simp] theorem State.setCell_lineWaits (v : CellSt) : (s.setCell k v).lineWaits = s.lineWaits := rfl
@[simp] theorem State.setCell_ats (v : CellSt) : (s.setCell k v).ats = s.ats := rfl
@[simp] theorem State.setCell_atsReqs (v : CellSt) : (s.setCell k v).atsReqs = s.atsReqs := rfl
@[simp] theorem State.setCell_priReqs (v : CellSt) : (s.setCell k v).priReqs = s.priReqs := rfl
@[simp] theorem State.setCell_dies (v : CellSt) : (s.setCell k v).dies = s.dies := rfl
@[simp] theorem State.setCell_digestPairs (v : CellSt) : (s.setCell k v).digestPairs = s.digestPairs := rfl
@[simp] theorem State.setCell_log (v : CellSt) : (s.setCell k v).log = s.log := rfl
@[simp] theorem State.setCell_par (v : CellSt) : (s.setCell k v).par = s.par := rfl
@[simp] theorem State.setCell_ethPorts (v : CellSt) : (s.setCell k v).ethPorts = s.ethPorts := rfl
@[simp] theorem State.setCell_flows (v : CellSt) : (s.setCell k v).flows = s.flows := rfl
@[simp] theorem State.setCell_vlt (v : CellSt) : (s.setCell k v).vlt = s.vlt := rfl
@[simp] theorem State.setCell_tdis (v : CellSt) : (s.setCell k v).tdis = s.tdis := rfl
@[simp] theorem State.setCell_rst (v : CellSt) : (s.setCell k v).rst = s.rst := rfl
@[simp] theorem State.setCell_fw (v : CellSt) : (s.setCell k v).fw = s.fw := rfl
@[simp] theorem State.setCell_vnt (v : CellSt) : (s.setCell k v).vnt = s.vnt := rfl
@[simp] theorem State.setCell_tap (v : CellSt) : (s.setCell k v).tap = s.tap := rfl
@[simp] theorem State.setCell_moves (v : CellSt) : (s.setCell k v).moves = s.moves := rfl
@[simp] theorem State.setCell_mus (v : CellSt) : (s.setCell k v).mus = s.mus := rfl
@[simp] theorem State.setCell_lanes (v : CellSt) : (s.setCell k v).lanes = s.lanes := rfl
@[simp] theorem State.setCell_ahead (v : CellSt) : (s.setCell k v).ahead = s.ahead := rfl
@[simp] theorem State.setCell_bar2Waits (v : CellSt) : (s.setCell k v).bar2Waits = s.bar2Waits := rfl
@[simp] theorem State.setCell_hub_ (v : CellSt) : (s.setCell k v).hub j = s.hub j := rfl
@[simp] theorem State.setCell_port_ (v : CellSt) : (s.setCell k v).port j = s.port j := rfl
@[simp] theorem State.setCell_link_ (v : CellSt) : (s.setCell k v).link j = s.link j := rfl
@[simp] theorem State.setCell_mbox_ (v : CellSt) : (s.setCell k v).mbox j = s.mbox j := rfl
@[simp] theorem State.setCell_fnSt_ (v : CellSt) : (s.setCell k v).fnSt j = s.fnSt j := rfl
@[simp] theorem State.setCell_msixEnt_ (v : CellSt) : (s.setCell k v).msixEnt j = s.msixEnt j := rfl
@[simp] theorem State.setCell_peer_ (v : CellSt) : (s.setCell k v).peer j = s.peer j := rfl
@[simp] theorem State.setCell_half_ (v : CellSt) : (s.setCell k v).half j = s.half j := rfl
@[simp] theorem State.setCell_ext_ (v : CellSt) : (s.setCell k v).ext j = s.ext j := rfl
@[simp] theorem State.setCell_vf_ (v : CellSt) : (s.setCell k v).vf j = s.vf j := rfl
@[simp] theorem State.setCell_unit_ (v : CellSt) : (s.setCell k v).unit j = s.unit j := rfl
@[simp] theorem State.setCell_wing_ (v : CellSt) : (s.setCell k v).wing j = s.wing j := rfl
@[simp] theorem State.setCell_que_ (v : CellSt) : (s.setCell k v).que j = s.que j := rfl
@[simp] theorem State.setCell_doc_ (v : CellSt) : (s.setCell k v).doc j = s.doc j := rfl
@[simp] theorem State.setCell_arb_ (v : CellSt) : (s.setCell k v).arb j = s.arb j := rfl
@[simp] theorem State.setCell_table_ (v : CellSt) : (s.setCell k v).table j = s.table j := rfl
@[simp] theorem State.setCell_cat_ (v : CellSt) : (s.setCell k v).cat j = s.cat j := rfl
@[simp] theorem State.setCell_line_ (v : CellSt) : (s.setCell k v).line j = s.line j := rfl
@[simp] theorem State.setCell_stack_ (v : CellSt) : (s.setCell k v).stack j = s.stack j := rfl
@[simp] theorem State.setCell_die_ (v : CellSt) : (s.setCell k v).die j = s.die j := rfl
@[simp] theorem State.setCell_eth_ (v : CellSt) : (s.setCell k v).eth j = s.eth j := rfl
@[simp] theorem State.setCell_flow_ (v : CellSt) : (s.setCell k v).flow j = s.flow j := rfl
@[simp] theorem State.setCell_tdi_ (v : CellSt) : (s.setCell k v).tdi j = s.tdi j := rfl
@[simp] theorem State.setCell_mu_ (v : CellSt) : (s.setCell k v).mu j = s.mu j := rfl
@[simp] theorem State.setCell_lane_ (v : CellSt) : (s.setCell k v).lane j = s.lane j := rfl

/-! ### setExt -/

@[simp] theorem State.updExt_eq (f : Extent → Extent) : s.updExt k f = s.setExt k (f (s.ext k)) := rfl
theorem State.ext_setExt (v : Extent) : (s.setExt k v).ext j = if j = k then v else s.ext j := Tbl.get_set ..
@[simp] theorem State.ext_setExt_same (v : Extent) : (s.setExt k v).ext k = v := Tbl.get_set_same ..
@[simp] theorem State.setExt_pending (v : Extent) : (s.setExt k v).pending = s.pending := rfl
@[simp] theorem State.setExt_out (v : Extent) : (s.setExt k v).out = s.out := rfl
@[simp] theorem State.setExt_freeCtr (v : Extent) : (s.setExt k v).freeCtr = s.freeCtr := rfl
@[simp] theorem State.setExt_clk (v : Extent) : (s.setExt k v).clk = s.clk := rfl
@[simp] theorem State.setExt_plinth (v : Extent) : (s.setExt k v).plinth = s.plinth := rfl
@[simp] theorem State.setExt_hubs (v : Extent) : (s.setExt k v).hubs = s.hubs := rfl
@[simp] theorem State.setExt_hubLinkUp (v : Extent) : (s.setExt k v).hubLinkUp = s.hubLinkUp := rfl
@[simp] theorem State.setExt_ports (v : Extent) : (s.setExt k v).ports = s.ports := rfl
@[simp] theorem State.setExt_links (v : Extent) : (s.setExt k v).links = s.links := rfl
@[simp] theorem State.setExt_noAuthority (v : Extent) : (s.setExt k v).noAuthority = s.noAuthority := rfl
@[simp] theorem State.setExt_lastDispatch (v : Extent) : (s.setExt k v).lastDispatch = s.lastDispatch := rfl
@[simp] theorem State.setExt_mbx (v : Extent) : (s.setExt k v).mbx = s.mbx := rfl
@[simp] theorem State.setExt_fns (v : Extent) : (s.setExt k v).fns = s.fns := rfl
@[simp] theorem State.setExt_msix (v : Extent) : (s.setExt k v).msix = s.msix := rfl
@[simp] theorem State.setExt_pcie (v : Extent) : (s.setExt k v).pcie = s.pcie := rfl
@[simp] theorem State.setExt_peers (v : Extent) : (s.setExt k v).peers = s.peers := rfl
@[simp] theorem State.setExt_halfCells (v : Extent) : (s.setExt k v).halfCells = s.halfCells := rfl
@[simp] theorem State.setExt_cells (v : Extent) : (s.setExt k v).cells = s.cells := rfl
@[simp] theorem State.setExt_vfs (v : Extent) : (s.setExt k v).vfs = s.vfs := rfl
@[simp] theorem State.setExt_units (v : Extent) : (s.setExt k v).units = s.units := rfl
@[simp] theorem State.setExt_wings (v : Extent) : (s.setExt k v).wings = s.wings := rfl
@[simp] theorem State.setExt_noWing (v : Extent) : (s.setExt k v).noWing = s.noWing := rfl
@[simp] theorem State.setExt_noWingSince (v : Extent) : (s.setExt k v).noWingSince = s.noWingSince := rfl
@[simp] theorem State.setExt_noWingAt (v : Extent) : (s.setExt k v).noWingAt = s.noWingAt := rfl
@[simp] theorem State.setExt_queues (v : Extent) : (s.setExt k v).queues = s.queues := rfl
@[simp] theorem State.setExt_reqs (v : Extent) : (s.setExt k v).reqs = s.reqs := rfl
@[simp] theorem State.setExt_nextReq (v : Extent) : (s.setExt k v).nextReq = s.nextReq := rfl
@[simp] theorem State.setExt_images (v : Extent) : (s.setExt k v).images = s.images := rfl
@[simp] theorem State.setExt_docents (v : Extent) : (s.setExt k v).docents = s.docents := rfl
@[simp] theorem State.setExt_launches (v : Extent) : (s.setExt k v).launches = s.launches := rfl
@[simp] theorem State.setExt_arbs (v : Extent) : (s.setExt k v).arbs = s.arbs := rfl
@[simp] theorem State.setExt_batches (v : Extent) : (s.setExt k v).batches = s.batches := rfl
@[simp] theorem State.setExt_dups (v : Extent) : (s.setExt k v).dups = s.dups := rfl
@[simp] theorem State.setExt_sp (v : Extent) : (s.setExt k v).sp = s.sp := rfl
@[simp] theorem State.setExt_spBad (v : Extent) : (s.setExt k v).spBad = s.spBad := rfl
@[simp] theorem State.setExt_ckpts (v : Extent) : (s.setExt k v).ckpts = s.ckpts := rfl
@[simp] theorem State.setExt_ckptCount (v : Extent) : (s.setExt k v).ckptCount = s.ckptCount := rfl
@[simp] theorem State.setExt_tables (v : Extent) : (s.setExt k v).tables = s.tables := rfl
@[simp] theorem State.setExt_cats (v : Extent) : (s.setExt k v).cats = s.cats := rfl
@[simp] theorem State.setExt_dir (v : Extent) : (s.setExt k v).dir = s.dir := rfl
@[simp] theorem State.setExt_cache (v : Extent) : (s.setExt k v).cache = s.cache := rfl
@[simp] theorem State.setExt_dram (v : Extent) : (s.setExt k v).dram = s.dram := rfl
@[simp] theorem State.setExt_lines (v : Extent) : (s.setExt k v).lines = s.lines := rfl
@[simp] theorem State.setExt_dramStacks (v : Extent) : (s.setExt k v).dramStacks = s.dramStacks := rfl
@[simp] theorem State.setExt_patrolHours (v : Extent) : (s.setExt k v).patrolHours = s.patrolHours := rfl
@[simp] theorem State.setExt_priTimeout (v : Extent) : (s.setExt k v).priTimeout = s.priTimeout := rfl
@[simp] theorem State.setExt_rowErrs (v : Extent) : (s.setExt k v).rowErrs = s.rowErrs := rfl
@[simp] theorem State.setExt_tlb (v : Extent) : (s.setExt k v).tlb = s.tlb := rfl
@[simp] theorem State.setExt_ptw (v : Extent) : (s.setExt k v).ptw = s.ptw := rfl
@[simp] theorem State.setExt_lineWaits (v : Extent) : (s.setExt k v).lineWaits = s.lineWaits := rfl
@[simp] theorem State.setExt_ats (v : Extent) : (s.setExt k v).ats = s.ats := rfl
@[simp] theorem State.setExt_atsReqs (v : Extent) : (s.setExt k v).atsReqs = s.atsReqs := rfl
@[simp] theorem State.setExt_priReqs (v : Extent) : (s.setExt k v).priReqs = s.priReqs := rfl
@[simp] theorem State.setExt_dies (v : Extent) : (s.setExt k v).dies = s.dies := rfl
@[simp] theorem State.setExt_digestPairs (v : Extent) : (s.setExt k v).digestPairs = s.digestPairs := rfl
@[simp] theorem State.setExt_log (v : Extent) : (s.setExt k v).log = s.log := rfl
@[simp] theorem State.setExt_par (v : Extent) : (s.setExt k v).par = s.par := rfl
@[simp] theorem State.setExt_ethPorts (v : Extent) : (s.setExt k v).ethPorts = s.ethPorts := rfl
@[simp] theorem State.setExt_flows (v : Extent) : (s.setExt k v).flows = s.flows := rfl
@[simp] theorem State.setExt_vlt (v : Extent) : (s.setExt k v).vlt = s.vlt := rfl
@[simp] theorem State.setExt_tdis (v : Extent) : (s.setExt k v).tdis = s.tdis := rfl
@[simp] theorem State.setExt_rst (v : Extent) : (s.setExt k v).rst = s.rst := rfl
@[simp] theorem State.setExt_fw (v : Extent) : (s.setExt k v).fw = s.fw := rfl
@[simp] theorem State.setExt_vnt (v : Extent) : (s.setExt k v).vnt = s.vnt := rfl
@[simp] theorem State.setExt_tap (v : Extent) : (s.setExt k v).tap = s.tap := rfl
@[simp] theorem State.setExt_moves (v : Extent) : (s.setExt k v).moves = s.moves := rfl
@[simp] theorem State.setExt_mus (v : Extent) : (s.setExt k v).mus = s.mus := rfl
@[simp] theorem State.setExt_lanes (v : Extent) : (s.setExt k v).lanes = s.lanes := rfl
@[simp] theorem State.setExt_ahead (v : Extent) : (s.setExt k v).ahead = s.ahead := rfl
@[simp] theorem State.setExt_bar2Waits (v : Extent) : (s.setExt k v).bar2Waits = s.bar2Waits := rfl
@[simp] theorem State.setExt_hub_ (v : Extent) : (s.setExt k v).hub j = s.hub j := rfl
@[simp] theorem State.setExt_port_ (v : Extent) : (s.setExt k v).port j = s.port j := rfl
@[simp] theorem State.setExt_link_ (v : Extent) : (s.setExt k v).link j = s.link j := rfl
@[simp] theorem State.setExt_mbox_ (v : Extent) : (s.setExt k v).mbox j = s.mbox j := rfl
@[simp] theorem State.setExt_fnSt_ (v : Extent) : (s.setExt k v).fnSt j = s.fnSt j := rfl
@[simp] theorem State.setExt_msixEnt_ (v : Extent) : (s.setExt k v).msixEnt j = s.msixEnt j := rfl
@[simp] theorem State.setExt_peer_ (v : Extent) : (s.setExt k v).peer j = s.peer j := rfl
@[simp] theorem State.setExt_half_ (v : Extent) : (s.setExt k v).half j = s.half j := rfl
@[simp] theorem State.setExt_cell_ (v : Extent) : (s.setExt k v).cell j = s.cell j := rfl
@[simp] theorem State.setExt_vf_ (v : Extent) : (s.setExt k v).vf j = s.vf j := rfl
@[simp] theorem State.setExt_unit_ (v : Extent) : (s.setExt k v).unit j = s.unit j := rfl
@[simp] theorem State.setExt_wing_ (v : Extent) : (s.setExt k v).wing j = s.wing j := rfl
@[simp] theorem State.setExt_que_ (v : Extent) : (s.setExt k v).que j = s.que j := rfl
@[simp] theorem State.setExt_doc_ (v : Extent) : (s.setExt k v).doc j = s.doc j := rfl
@[simp] theorem State.setExt_arb_ (v : Extent) : (s.setExt k v).arb j = s.arb j := rfl
@[simp] theorem State.setExt_table_ (v : Extent) : (s.setExt k v).table j = s.table j := rfl
@[simp] theorem State.setExt_cat_ (v : Extent) : (s.setExt k v).cat j = s.cat j := rfl
@[simp] theorem State.setExt_line_ (v : Extent) : (s.setExt k v).line j = s.line j := rfl
@[simp] theorem State.setExt_stack_ (v : Extent) : (s.setExt k v).stack j = s.stack j := rfl
@[simp] theorem State.setExt_die_ (v : Extent) : (s.setExt k v).die j = s.die j := rfl
@[simp] theorem State.setExt_eth_ (v : Extent) : (s.setExt k v).eth j = s.eth j := rfl
@[simp] theorem State.setExt_flow_ (v : Extent) : (s.setExt k v).flow j = s.flow j := rfl
@[simp] theorem State.setExt_tdi_ (v : Extent) : (s.setExt k v).tdi j = s.tdi j := rfl
@[simp] theorem State.setExt_mu_ (v : Extent) : (s.setExt k v).mu j = s.mu j := rfl
@[simp] theorem State.setExt_lane_ (v : Extent) : (s.setExt k v).lane j = s.lane j := rfl

/-! ### setVf -/

@[simp] theorem State.updVf_eq (f : Vf → Vf) : s.updVf k f = s.setVf k (f (s.vf k)) := rfl
theorem State.vf_setVf (v : Vf) : (s.setVf k v).vf j = if j = k then v else s.vf j := Tbl.get_set ..
@[simp] theorem State.vf_setVf_same (v : Vf) : (s.setVf k v).vf k = v := Tbl.get_set_same ..
@[simp] theorem State.setVf_pending (v : Vf) : (s.setVf k v).pending = s.pending := rfl
@[simp] theorem State.setVf_out (v : Vf) : (s.setVf k v).out = s.out := rfl
@[simp] theorem State.setVf_freeCtr (v : Vf) : (s.setVf k v).freeCtr = s.freeCtr := rfl
@[simp] theorem State.setVf_clk (v : Vf) : (s.setVf k v).clk = s.clk := rfl
@[simp] theorem State.setVf_plinth (v : Vf) : (s.setVf k v).plinth = s.plinth := rfl
@[simp] theorem State.setVf_hubs (v : Vf) : (s.setVf k v).hubs = s.hubs := rfl
@[simp] theorem State.setVf_hubLinkUp (v : Vf) : (s.setVf k v).hubLinkUp = s.hubLinkUp := rfl
@[simp] theorem State.setVf_ports (v : Vf) : (s.setVf k v).ports = s.ports := rfl
@[simp] theorem State.setVf_links (v : Vf) : (s.setVf k v).links = s.links := rfl
@[simp] theorem State.setVf_noAuthority (v : Vf) : (s.setVf k v).noAuthority = s.noAuthority := rfl
@[simp] theorem State.setVf_lastDispatch (v : Vf) : (s.setVf k v).lastDispatch = s.lastDispatch := rfl
@[simp] theorem State.setVf_mbx (v : Vf) : (s.setVf k v).mbx = s.mbx := rfl
@[simp] theorem State.setVf_fns (v : Vf) : (s.setVf k v).fns = s.fns := rfl
@[simp] theorem State.setVf_msix (v : Vf) : (s.setVf k v).msix = s.msix := rfl
@[simp] theorem State.setVf_pcie (v : Vf) : (s.setVf k v).pcie = s.pcie := rfl
@[simp] theorem State.setVf_peers (v : Vf) : (s.setVf k v).peers = s.peers := rfl
@[simp] theorem State.setVf_halfCells (v : Vf) : (s.setVf k v).halfCells = s.halfCells := rfl
@[simp] theorem State.setVf_cells (v : Vf) : (s.setVf k v).cells = s.cells := rfl
@[simp] theorem State.setVf_extents (v : Vf) : (s.setVf k v).extents = s.extents := rfl
@[simp] theorem State.setVf_units (v : Vf) : (s.setVf k v).units = s.units := rfl
@[simp] theorem State.setVf_wings (v : Vf) : (s.setVf k v).wings = s.wings := rfl
@[simp] theorem State.setVf_noWing (v : Vf) : (s.setVf k v).noWing = s.noWing := rfl
@[simp] theorem State.setVf_noWingSince (v : Vf) : (s.setVf k v).noWingSince = s.noWingSince := rfl
@[simp] theorem State.setVf_noWingAt (v : Vf) : (s.setVf k v).noWingAt = s.noWingAt := rfl
@[simp] theorem State.setVf_queues (v : Vf) : (s.setVf k v).queues = s.queues := rfl
@[simp] theorem State.setVf_reqs (v : Vf) : (s.setVf k v).reqs = s.reqs := rfl
@[simp] theorem State.setVf_nextReq (v : Vf) : (s.setVf k v).nextReq = s.nextReq := rfl
@[simp] theorem State.setVf_images (v : Vf) : (s.setVf k v).images = s.images := rfl
@[simp] theorem State.setVf_docents (v : Vf) : (s.setVf k v).docents = s.docents := rfl
@[simp] theorem State.setVf_launches (v : Vf) : (s.setVf k v).launches = s.launches := rfl
@[simp] theorem State.setVf_arbs (v : Vf) : (s.setVf k v).arbs = s.arbs := rfl
@[simp] theorem State.setVf_batches (v : Vf) : (s.setVf k v).batches = s.batches := rfl
@[simp] theorem State.setVf_dups (v : Vf) : (s.setVf k v).dups = s.dups := rfl
@[simp] theorem State.setVf_sp (v : Vf) : (s.setVf k v).sp = s.sp := rfl
@[simp] theorem State.setVf_spBad (v : Vf) : (s.setVf k v).spBad = s.spBad := rfl
@[simp] theorem State.setVf_ckpts (v : Vf) : (s.setVf k v).ckpts = s.ckpts := rfl
@[simp] theorem State.setVf_ckptCount (v : Vf) : (s.setVf k v).ckptCount = s.ckptCount := rfl
@[simp] theorem State.setVf_tables (v : Vf) : (s.setVf k v).tables = s.tables := rfl
@[simp] theorem State.setVf_cats (v : Vf) : (s.setVf k v).cats = s.cats := rfl
@[simp] theorem State.setVf_dir (v : Vf) : (s.setVf k v).dir = s.dir := rfl
@[simp] theorem State.setVf_cache (v : Vf) : (s.setVf k v).cache = s.cache := rfl
@[simp] theorem State.setVf_dram (v : Vf) : (s.setVf k v).dram = s.dram := rfl
@[simp] theorem State.setVf_lines (v : Vf) : (s.setVf k v).lines = s.lines := rfl
@[simp] theorem State.setVf_dramStacks (v : Vf) : (s.setVf k v).dramStacks = s.dramStacks := rfl
@[simp] theorem State.setVf_patrolHours (v : Vf) : (s.setVf k v).patrolHours = s.patrolHours := rfl
@[simp] theorem State.setVf_priTimeout (v : Vf) : (s.setVf k v).priTimeout = s.priTimeout := rfl
@[simp] theorem State.setVf_rowErrs (v : Vf) : (s.setVf k v).rowErrs = s.rowErrs := rfl
@[simp] theorem State.setVf_tlb (v : Vf) : (s.setVf k v).tlb = s.tlb := rfl
@[simp] theorem State.setVf_ptw (v : Vf) : (s.setVf k v).ptw = s.ptw := rfl
@[simp] theorem State.setVf_lineWaits (v : Vf) : (s.setVf k v).lineWaits = s.lineWaits := rfl
@[simp] theorem State.setVf_ats (v : Vf) : (s.setVf k v).ats = s.ats := rfl
@[simp] theorem State.setVf_atsReqs (v : Vf) : (s.setVf k v).atsReqs = s.atsReqs := rfl
@[simp] theorem State.setVf_priReqs (v : Vf) : (s.setVf k v).priReqs = s.priReqs := rfl
@[simp] theorem State.setVf_dies (v : Vf) : (s.setVf k v).dies = s.dies := rfl
@[simp] theorem State.setVf_digestPairs (v : Vf) : (s.setVf k v).digestPairs = s.digestPairs := rfl
@[simp] theorem State.setVf_log (v : Vf) : (s.setVf k v).log = s.log := rfl
@[simp] theorem State.setVf_par (v : Vf) : (s.setVf k v).par = s.par := rfl
@[simp] theorem State.setVf_ethPorts (v : Vf) : (s.setVf k v).ethPorts = s.ethPorts := rfl
@[simp] theorem State.setVf_flows (v : Vf) : (s.setVf k v).flows = s.flows := rfl
@[simp] theorem State.setVf_vlt (v : Vf) : (s.setVf k v).vlt = s.vlt := rfl
@[simp] theorem State.setVf_tdis (v : Vf) : (s.setVf k v).tdis = s.tdis := rfl
@[simp] theorem State.setVf_rst (v : Vf) : (s.setVf k v).rst = s.rst := rfl
@[simp] theorem State.setVf_fw (v : Vf) : (s.setVf k v).fw = s.fw := rfl
@[simp] theorem State.setVf_vnt (v : Vf) : (s.setVf k v).vnt = s.vnt := rfl
@[simp] theorem State.setVf_tap (v : Vf) : (s.setVf k v).tap = s.tap := rfl
@[simp] theorem State.setVf_moves (v : Vf) : (s.setVf k v).moves = s.moves := rfl
@[simp] theorem State.setVf_mus (v : Vf) : (s.setVf k v).mus = s.mus := rfl
@[simp] theorem State.setVf_lanes (v : Vf) : (s.setVf k v).lanes = s.lanes := rfl
@[simp] theorem State.setVf_ahead (v : Vf) : (s.setVf k v).ahead = s.ahead := rfl
@[simp] theorem State.setVf_bar2Waits (v : Vf) : (s.setVf k v).bar2Waits = s.bar2Waits := rfl
@[simp] theorem State.setVf_hub_ (v : Vf) : (s.setVf k v).hub j = s.hub j := rfl
@[simp] theorem State.setVf_port_ (v : Vf) : (s.setVf k v).port j = s.port j := rfl
@[simp] theorem State.setVf_link_ (v : Vf) : (s.setVf k v).link j = s.link j := rfl
@[simp] theorem State.setVf_mbox_ (v : Vf) : (s.setVf k v).mbox j = s.mbox j := rfl
@[simp] theorem State.setVf_fnSt_ (v : Vf) : (s.setVf k v).fnSt j = s.fnSt j := rfl
@[simp] theorem State.setVf_msixEnt_ (v : Vf) : (s.setVf k v).msixEnt j = s.msixEnt j := rfl
@[simp] theorem State.setVf_peer_ (v : Vf) : (s.setVf k v).peer j = s.peer j := rfl
@[simp] theorem State.setVf_half_ (v : Vf) : (s.setVf k v).half j = s.half j := rfl
@[simp] theorem State.setVf_cell_ (v : Vf) : (s.setVf k v).cell j = s.cell j := rfl
@[simp] theorem State.setVf_ext_ (v : Vf) : (s.setVf k v).ext j = s.ext j := rfl
@[simp] theorem State.setVf_unit_ (v : Vf) : (s.setVf k v).unit j = s.unit j := rfl
@[simp] theorem State.setVf_wing_ (v : Vf) : (s.setVf k v).wing j = s.wing j := rfl
@[simp] theorem State.setVf_que_ (v : Vf) : (s.setVf k v).que j = s.que j := rfl
@[simp] theorem State.setVf_doc_ (v : Vf) : (s.setVf k v).doc j = s.doc j := rfl
@[simp] theorem State.setVf_arb_ (v : Vf) : (s.setVf k v).arb j = s.arb j := rfl
@[simp] theorem State.setVf_table_ (v : Vf) : (s.setVf k v).table j = s.table j := rfl
@[simp] theorem State.setVf_cat_ (v : Vf) : (s.setVf k v).cat j = s.cat j := rfl
@[simp] theorem State.setVf_line_ (v : Vf) : (s.setVf k v).line j = s.line j := rfl
@[simp] theorem State.setVf_stack_ (v : Vf) : (s.setVf k v).stack j = s.stack j := rfl
@[simp] theorem State.setVf_die_ (v : Vf) : (s.setVf k v).die j = s.die j := rfl
@[simp] theorem State.setVf_eth_ (v : Vf) : (s.setVf k v).eth j = s.eth j := rfl
@[simp] theorem State.setVf_flow_ (v : Vf) : (s.setVf k v).flow j = s.flow j := rfl
@[simp] theorem State.setVf_tdi_ (v : Vf) : (s.setVf k v).tdi j = s.tdi j := rfl
@[simp] theorem State.setVf_mu_ (v : Vf) : (s.setVf k v).mu j = s.mu j := rfl
@[simp] theorem State.setVf_lane_ (v : Vf) : (s.setVf k v).lane j = s.lane j := rfl

/-! ### setUnit -/

@[simp] theorem State.updUnit_eq (f : UnitSt → UnitSt) : s.updUnit k f = s.setUnit k (f (s.unit k)) := rfl
theorem State.unit_setUnit (v : UnitSt) : (s.setUnit k v).unit j = if j = k then v else s.unit j := Tbl.get_set ..
@[simp] theorem State.unit_setUnit_same (v : UnitSt) : (s.setUnit k v).unit k = v := Tbl.get_set_same ..
@[simp] theorem State.setUnit_pending (v : UnitSt) : (s.setUnit k v).pending = s.pending := rfl
@[simp] theorem State.setUnit_out (v : UnitSt) : (s.setUnit k v).out = s.out := rfl
@[simp] theorem State.setUnit_freeCtr (v : UnitSt) : (s.setUnit k v).freeCtr = s.freeCtr := rfl
@[simp] theorem State.setUnit_clk (v : UnitSt) : (s.setUnit k v).clk = s.clk := rfl
@[simp] theorem State.setUnit_plinth (v : UnitSt) : (s.setUnit k v).plinth = s.plinth := rfl
@[simp] theorem State.setUnit_hubs (v : UnitSt) : (s.setUnit k v).hubs = s.hubs := rfl
@[simp] theorem State.setUnit_hubLinkUp (v : UnitSt) : (s.setUnit k v).hubLinkUp = s.hubLinkUp := rfl
@[simp] theorem State.setUnit_ports (v : UnitSt) : (s.setUnit k v).ports = s.ports := rfl
@[simp] theorem State.setUnit_links (v : UnitSt) : (s.setUnit k v).links = s.links := rfl
@[simp] theorem State.setUnit_noAuthority (v : UnitSt) : (s.setUnit k v).noAuthority = s.noAuthority := rfl
@[simp] theorem State.setUnit_lastDispatch (v : UnitSt) : (s.setUnit k v).lastDispatch = s.lastDispatch := rfl
@[simp] theorem State.setUnit_mbx (v : UnitSt) : (s.setUnit k v).mbx = s.mbx := rfl
@[simp] theorem State.setUnit_fns (v : UnitSt) : (s.setUnit k v).fns = s.fns := rfl
@[simp] theorem State.setUnit_msix (v : UnitSt) : (s.setUnit k v).msix = s.msix := rfl
@[simp] theorem State.setUnit_pcie (v : UnitSt) : (s.setUnit k v).pcie = s.pcie := rfl
@[simp] theorem State.setUnit_peers (v : UnitSt) : (s.setUnit k v).peers = s.peers := rfl
@[simp] theorem State.setUnit_halfCells (v : UnitSt) : (s.setUnit k v).halfCells = s.halfCells := rfl
@[simp] theorem State.setUnit_cells (v : UnitSt) : (s.setUnit k v).cells = s.cells := rfl
@[simp] theorem State.setUnit_extents (v : UnitSt) : (s.setUnit k v).extents = s.extents := rfl
@[simp] theorem State.setUnit_vfs (v : UnitSt) : (s.setUnit k v).vfs = s.vfs := rfl
@[simp] theorem State.setUnit_wings (v : UnitSt) : (s.setUnit k v).wings = s.wings := rfl
@[simp] theorem State.setUnit_noWing (v : UnitSt) : (s.setUnit k v).noWing = s.noWing := rfl
@[simp] theorem State.setUnit_noWingSince (v : UnitSt) : (s.setUnit k v).noWingSince = s.noWingSince := rfl
@[simp] theorem State.setUnit_noWingAt (v : UnitSt) : (s.setUnit k v).noWingAt = s.noWingAt := rfl
@[simp] theorem State.setUnit_queues (v : UnitSt) : (s.setUnit k v).queues = s.queues := rfl
@[simp] theorem State.setUnit_reqs (v : UnitSt) : (s.setUnit k v).reqs = s.reqs := rfl
@[simp] theorem State.setUnit_nextReq (v : UnitSt) : (s.setUnit k v).nextReq = s.nextReq := rfl
@[simp] theorem State.setUnit_images (v : UnitSt) : (s.setUnit k v).images = s.images := rfl
@[simp] theorem State.setUnit_docents (v : UnitSt) : (s.setUnit k v).docents = s.docents := rfl
@[simp] theorem State.setUnit_launches (v : UnitSt) : (s.setUnit k v).launches = s.launches := rfl
@[simp] theorem State.setUnit_arbs (v : UnitSt) : (s.setUnit k v).arbs = s.arbs := rfl
@[simp] theorem State.setUnit_batches (v : UnitSt) : (s.setUnit k v).batches = s.batches := rfl
@[simp] theorem State.setUnit_dups (v : UnitSt) : (s.setUnit k v).dups = s.dups := rfl
@[simp] theorem State.setUnit_sp (v : UnitSt) : (s.setUnit k v).sp = s.sp := rfl
@[simp] theorem State.setUnit_spBad (v : UnitSt) : (s.setUnit k v).spBad = s.spBad := rfl
@[simp] theorem State.setUnit_ckpts (v : UnitSt) : (s.setUnit k v).ckpts = s.ckpts := rfl
@[simp] theorem State.setUnit_ckptCount (v : UnitSt) : (s.setUnit k v).ckptCount = s.ckptCount := rfl
@[simp] theorem State.setUnit_tables (v : UnitSt) : (s.setUnit k v).tables = s.tables := rfl
@[simp] theorem State.setUnit_cats (v : UnitSt) : (s.setUnit k v).cats = s.cats := rfl
@[simp] theorem State.setUnit_dir (v : UnitSt) : (s.setUnit k v).dir = s.dir := rfl
@[simp] theorem State.setUnit_cache (v : UnitSt) : (s.setUnit k v).cache = s.cache := rfl
@[simp] theorem State.setUnit_dram (v : UnitSt) : (s.setUnit k v).dram = s.dram := rfl
@[simp] theorem State.setUnit_lines (v : UnitSt) : (s.setUnit k v).lines = s.lines := rfl
@[simp] theorem State.setUnit_dramStacks (v : UnitSt) : (s.setUnit k v).dramStacks = s.dramStacks := rfl
@[simp] theorem State.setUnit_patrolHours (v : UnitSt) : (s.setUnit k v).patrolHours = s.patrolHours := rfl
@[simp] theorem State.setUnit_priTimeout (v : UnitSt) : (s.setUnit k v).priTimeout = s.priTimeout := rfl
@[simp] theorem State.setUnit_rowErrs (v : UnitSt) : (s.setUnit k v).rowErrs = s.rowErrs := rfl
@[simp] theorem State.setUnit_tlb (v : UnitSt) : (s.setUnit k v).tlb = s.tlb := rfl
@[simp] theorem State.setUnit_ptw (v : UnitSt) : (s.setUnit k v).ptw = s.ptw := rfl
@[simp] theorem State.setUnit_lineWaits (v : UnitSt) : (s.setUnit k v).lineWaits = s.lineWaits := rfl
@[simp] theorem State.setUnit_ats (v : UnitSt) : (s.setUnit k v).ats = s.ats := rfl
@[simp] theorem State.setUnit_atsReqs (v : UnitSt) : (s.setUnit k v).atsReqs = s.atsReqs := rfl
@[simp] theorem State.setUnit_priReqs (v : UnitSt) : (s.setUnit k v).priReqs = s.priReqs := rfl
@[simp] theorem State.setUnit_dies (v : UnitSt) : (s.setUnit k v).dies = s.dies := rfl
@[simp] theorem State.setUnit_digestPairs (v : UnitSt) : (s.setUnit k v).digestPairs = s.digestPairs := rfl
@[simp] theorem State.setUnit_log (v : UnitSt) : (s.setUnit k v).log = s.log := rfl
@[simp] theorem State.setUnit_par (v : UnitSt) : (s.setUnit k v).par = s.par := rfl
@[simp] theorem State.setUnit_ethPorts (v : UnitSt) : (s.setUnit k v).ethPorts = s.ethPorts := rfl
@[simp] theorem State.setUnit_flows (v : UnitSt) : (s.setUnit k v).flows = s.flows := rfl
@[simp] theorem State.setUnit_vlt (v : UnitSt) : (s.setUnit k v).vlt = s.vlt := rfl
@[simp] theorem State.setUnit_tdis (v : UnitSt) : (s.setUnit k v).tdis = s.tdis := rfl
@[simp] theorem State.setUnit_rst (v : UnitSt) : (s.setUnit k v).rst = s.rst := rfl
@[simp] theorem State.setUnit_fw (v : UnitSt) : (s.setUnit k v).fw = s.fw := rfl
@[simp] theorem State.setUnit_vnt (v : UnitSt) : (s.setUnit k v).vnt = s.vnt := rfl
@[simp] theorem State.setUnit_tap (v : UnitSt) : (s.setUnit k v).tap = s.tap := rfl
@[simp] theorem State.setUnit_moves (v : UnitSt) : (s.setUnit k v).moves = s.moves := rfl
@[simp] theorem State.setUnit_mus (v : UnitSt) : (s.setUnit k v).mus = s.mus := rfl
@[simp] theorem State.setUnit_lanes (v : UnitSt) : (s.setUnit k v).lanes = s.lanes := rfl
@[simp] theorem State.setUnit_ahead (v : UnitSt) : (s.setUnit k v).ahead = s.ahead := rfl
@[simp] theorem State.setUnit_bar2Waits (v : UnitSt) : (s.setUnit k v).bar2Waits = s.bar2Waits := rfl
@[simp] theorem State.setUnit_hub_ (v : UnitSt) : (s.setUnit k v).hub j = s.hub j := rfl
@[simp] theorem State.setUnit_port_ (v : UnitSt) : (s.setUnit k v).port j = s.port j := rfl
@[simp] theorem State.setUnit_link_ (v : UnitSt) : (s.setUnit k v).link j = s.link j := rfl
@[simp] theorem State.setUnit_mbox_ (v : UnitSt) : (s.setUnit k v).mbox j = s.mbox j := rfl
@[simp] theorem State.setUnit_fnSt_ (v : UnitSt) : (s.setUnit k v).fnSt j = s.fnSt j := rfl
@[simp] theorem State.setUnit_msixEnt_ (v : UnitSt) : (s.setUnit k v).msixEnt j = s.msixEnt j := rfl
@[simp] theorem State.setUnit_peer_ (v : UnitSt) : (s.setUnit k v).peer j = s.peer j := rfl
@[simp] theorem State.setUnit_half_ (v : UnitSt) : (s.setUnit k v).half j = s.half j := rfl
@[simp] theorem State.setUnit_cell_ (v : UnitSt) : (s.setUnit k v).cell j = s.cell j := rfl
@[simp] theorem State.setUnit_ext_ (v : UnitSt) : (s.setUnit k v).ext j = s.ext j := rfl
@[simp] theorem State.setUnit_vf_ (v : UnitSt) : (s.setUnit k v).vf j = s.vf j := rfl
@[simp] theorem State.setUnit_wing_ (v : UnitSt) : (s.setUnit k v).wing j = s.wing j := rfl
@[simp] theorem State.setUnit_que_ (v : UnitSt) : (s.setUnit k v).que j = s.que j := rfl
@[simp] theorem State.setUnit_doc_ (v : UnitSt) : (s.setUnit k v).doc j = s.doc j := rfl
@[simp] theorem State.setUnit_arb_ (v : UnitSt) : (s.setUnit k v).arb j = s.arb j := rfl
@[simp] theorem State.setUnit_table_ (v : UnitSt) : (s.setUnit k v).table j = s.table j := rfl
@[simp] theorem State.setUnit_cat_ (v : UnitSt) : (s.setUnit k v).cat j = s.cat j := rfl
@[simp] theorem State.setUnit_line_ (v : UnitSt) : (s.setUnit k v).line j = s.line j := rfl
@[simp] theorem State.setUnit_stack_ (v : UnitSt) : (s.setUnit k v).stack j = s.stack j := rfl
@[simp] theorem State.setUnit_die_ (v : UnitSt) : (s.setUnit k v).die j = s.die j := rfl
@[simp] theorem State.setUnit_eth_ (v : UnitSt) : (s.setUnit k v).eth j = s.eth j := rfl
@[simp] theorem State.setUnit_flow_ (v : UnitSt) : (s.setUnit k v).flow j = s.flow j := rfl
@[simp] theorem State.setUnit_tdi_ (v : UnitSt) : (s.setUnit k v).tdi j = s.tdi j := rfl
@[simp] theorem State.setUnit_mu_ (v : UnitSt) : (s.setUnit k v).mu j = s.mu j := rfl
@[simp] theorem State.setUnit_lane_ (v : UnitSt) : (s.setUnit k v).lane j = s.lane j := rfl

/-! ### setWing -/

@[simp] theorem State.updWing_eq (f : Wing → Wing) : s.updWing k f = s.setWing k (f (s.wing k)) := rfl
theorem State.wing_setWing (v : Wing) : (s.setWing k v).wing j = if j = k then v else s.wing j := Tbl.get_set ..
@[simp] theorem State.wing_setWing_same (v : Wing) : (s.setWing k v).wing k = v := Tbl.get_set_same ..
@[simp] theorem State.setWing_pending (v : Wing) : (s.setWing k v).pending = s.pending := rfl
@[simp] theorem State.setWing_out (v : Wing) : (s.setWing k v).out = s.out := rfl
@[simp] theorem State.setWing_freeCtr (v : Wing) : (s.setWing k v).freeCtr = s.freeCtr := rfl
@[simp] theorem State.setWing_clk (v : Wing) : (s.setWing k v).clk = s.clk := rfl
@[simp] theorem State.setWing_plinth (v : Wing) : (s.setWing k v).plinth = s.plinth := rfl
@[simp] theorem State.setWing_hubs (v : Wing) : (s.setWing k v).hubs = s.hubs := rfl
@[simp] theorem State.setWing_hubLinkUp (v : Wing) : (s.setWing k v).hubLinkUp = s.hubLinkUp := rfl
@[simp] theorem State.setWing_ports (v : Wing) : (s.setWing k v).ports = s.ports := rfl
@[simp] theorem State.setWing_links (v : Wing) : (s.setWing k v).links = s.links := rfl
@[simp] theorem State.setWing_noAuthority (v : Wing) : (s.setWing k v).noAuthority = s.noAuthority := rfl
@[simp] theorem State.setWing_lastDispatch (v : Wing) : (s.setWing k v).lastDispatch = s.lastDispatch := rfl
@[simp] theorem State.setWing_mbx (v : Wing) : (s.setWing k v).mbx = s.mbx := rfl
@[simp] theorem State.setWing_fns (v : Wing) : (s.setWing k v).fns = s.fns := rfl
@[simp] theorem State.setWing_msix (v : Wing) : (s.setWing k v).msix = s.msix := rfl
@[simp] theorem State.setWing_pcie (v : Wing) : (s.setWing k v).pcie = s.pcie := rfl
@[simp] theorem State.setWing_peers (v : Wing) : (s.setWing k v).peers = s.peers := rfl
@[simp] theorem State.setWing_halfCells (v : Wing) : (s.setWing k v).halfCells = s.halfCells := rfl
@[simp] theorem State.setWing_cells (v : Wing) : (s.setWing k v).cells = s.cells := rfl
@[simp] theorem State.setWing_extents (v : Wing) : (s.setWing k v).extents = s.extents := rfl
@[simp] theorem State.setWing_vfs (v : Wing) : (s.setWing k v).vfs = s.vfs := rfl
@[simp] theorem State.setWing_units (v : Wing) : (s.setWing k v).units = s.units := rfl
@[simp] theorem State.setWing_noWing (v : Wing) : (s.setWing k v).noWing = s.noWing := rfl
@[simp] theorem State.setWing_noWingSince (v : Wing) : (s.setWing k v).noWingSince = s.noWingSince := rfl
@[simp] theorem State.setWing_noWingAt (v : Wing) : (s.setWing k v).noWingAt = s.noWingAt := rfl
@[simp] theorem State.setWing_queues (v : Wing) : (s.setWing k v).queues = s.queues := rfl
@[simp] theorem State.setWing_reqs (v : Wing) : (s.setWing k v).reqs = s.reqs := rfl
@[simp] theorem State.setWing_nextReq (v : Wing) : (s.setWing k v).nextReq = s.nextReq := rfl
@[simp] theorem State.setWing_images (v : Wing) : (s.setWing k v).images = s.images := rfl
@[simp] theorem State.setWing_docents (v : Wing) : (s.setWing k v).docents = s.docents := rfl
@[simp] theorem State.setWing_launches (v : Wing) : (s.setWing k v).launches = s.launches := rfl
@[simp] theorem State.setWing_arbs (v : Wing) : (s.setWing k v).arbs = s.arbs := rfl
@[simp] theorem State.setWing_batches (v : Wing) : (s.setWing k v).batches = s.batches := rfl
@[simp] theorem State.setWing_dups (v : Wing) : (s.setWing k v).dups = s.dups := rfl
@[simp] theorem State.setWing_sp (v : Wing) : (s.setWing k v).sp = s.sp := rfl
@[simp] theorem State.setWing_spBad (v : Wing) : (s.setWing k v).spBad = s.spBad := rfl
@[simp] theorem State.setWing_ckpts (v : Wing) : (s.setWing k v).ckpts = s.ckpts := rfl
@[simp] theorem State.setWing_ckptCount (v : Wing) : (s.setWing k v).ckptCount = s.ckptCount := rfl
@[simp] theorem State.setWing_tables (v : Wing) : (s.setWing k v).tables = s.tables := rfl
@[simp] theorem State.setWing_cats (v : Wing) : (s.setWing k v).cats = s.cats := rfl
@[simp] theorem State.setWing_dir (v : Wing) : (s.setWing k v).dir = s.dir := rfl
@[simp] theorem State.setWing_cache (v : Wing) : (s.setWing k v).cache = s.cache := rfl
@[simp] theorem State.setWing_dram (v : Wing) : (s.setWing k v).dram = s.dram := rfl
@[simp] theorem State.setWing_lines (v : Wing) : (s.setWing k v).lines = s.lines := rfl
@[simp] theorem State.setWing_dramStacks (v : Wing) : (s.setWing k v).dramStacks = s.dramStacks := rfl
@[simp] theorem State.setWing_patrolHours (v : Wing) : (s.setWing k v).patrolHours = s.patrolHours := rfl
@[simp] theorem State.setWing_priTimeout (v : Wing) : (s.setWing k v).priTimeout = s.priTimeout := rfl
@[simp] theorem State.setWing_rowErrs (v : Wing) : (s.setWing k v).rowErrs = s.rowErrs := rfl
@[simp] theorem State.setWing_tlb (v : Wing) : (s.setWing k v).tlb = s.tlb := rfl
@[simp] theorem State.setWing_ptw (v : Wing) : (s.setWing k v).ptw = s.ptw := rfl
@[simp] theorem State.setWing_lineWaits (v : Wing) : (s.setWing k v).lineWaits = s.lineWaits := rfl
@[simp] theorem State.setWing_ats (v : Wing) : (s.setWing k v).ats = s.ats := rfl
@[simp] theorem State.setWing_atsReqs (v : Wing) : (s.setWing k v).atsReqs = s.atsReqs := rfl
@[simp] theorem State.setWing_priReqs (v : Wing) : (s.setWing k v).priReqs = s.priReqs := rfl
@[simp] theorem State.setWing_dies (v : Wing) : (s.setWing k v).dies = s.dies := rfl
@[simp] theorem State.setWing_digestPairs (v : Wing) : (s.setWing k v).digestPairs = s.digestPairs := rfl
@[simp] theorem State.setWing_log (v : Wing) : (s.setWing k v).log = s.log := rfl
@[simp] theorem State.setWing_par (v : Wing) : (s.setWing k v).par = s.par := rfl
@[simp] theorem State.setWing_ethPorts (v : Wing) : (s.setWing k v).ethPorts = s.ethPorts := rfl
@[simp] theorem State.setWing_flows (v : Wing) : (s.setWing k v).flows = s.flows := rfl
@[simp] theorem State.setWing_vlt (v : Wing) : (s.setWing k v).vlt = s.vlt := rfl
@[simp] theorem State.setWing_tdis (v : Wing) : (s.setWing k v).tdis = s.tdis := rfl
@[simp] theorem State.setWing_rst (v : Wing) : (s.setWing k v).rst = s.rst := rfl
@[simp] theorem State.setWing_fw (v : Wing) : (s.setWing k v).fw = s.fw := rfl
@[simp] theorem State.setWing_vnt (v : Wing) : (s.setWing k v).vnt = s.vnt := rfl
@[simp] theorem State.setWing_tap (v : Wing) : (s.setWing k v).tap = s.tap := rfl
@[simp] theorem State.setWing_moves (v : Wing) : (s.setWing k v).moves = s.moves := rfl
@[simp] theorem State.setWing_mus (v : Wing) : (s.setWing k v).mus = s.mus := rfl
@[simp] theorem State.setWing_lanes (v : Wing) : (s.setWing k v).lanes = s.lanes := rfl
@[simp] theorem State.setWing_ahead (v : Wing) : (s.setWing k v).ahead = s.ahead := rfl
@[simp] theorem State.setWing_bar2Waits (v : Wing) : (s.setWing k v).bar2Waits = s.bar2Waits := rfl
@[simp] theorem State.setWing_hub_ (v : Wing) : (s.setWing k v).hub j = s.hub j := rfl
@[simp] theorem State.setWing_port_ (v : Wing) : (s.setWing k v).port j = s.port j := rfl
@[simp] theorem State.setWing_link_ (v : Wing) : (s.setWing k v).link j = s.link j := rfl
@[simp] theorem State.setWing_mbox_ (v : Wing) : (s.setWing k v).mbox j = s.mbox j := rfl
@[simp] theorem State.setWing_fnSt_ (v : Wing) : (s.setWing k v).fnSt j = s.fnSt j := rfl
@[simp] theorem State.setWing_msixEnt_ (v : Wing) : (s.setWing k v).msixEnt j = s.msixEnt j := rfl
@[simp] theorem State.setWing_peer_ (v : Wing) : (s.setWing k v).peer j = s.peer j := rfl
@[simp] theorem State.setWing_half_ (v : Wing) : (s.setWing k v).half j = s.half j := rfl
@[simp] theorem State.setWing_cell_ (v : Wing) : (s.setWing k v).cell j = s.cell j := rfl
@[simp] theorem State.setWing_ext_ (v : Wing) : (s.setWing k v).ext j = s.ext j := rfl
@[simp] theorem State.setWing_vf_ (v : Wing) : (s.setWing k v).vf j = s.vf j := rfl
@[simp] theorem State.setWing_unit_ (v : Wing) : (s.setWing k v).unit j = s.unit j := rfl
@[simp] theorem State.setWing_que_ (v : Wing) : (s.setWing k v).que j = s.que j := rfl
@[simp] theorem State.setWing_doc_ (v : Wing) : (s.setWing k v).doc j = s.doc j := rfl
@[simp] theorem State.setWing_arb_ (v : Wing) : (s.setWing k v).arb j = s.arb j := rfl
@[simp] theorem State.setWing_table_ (v : Wing) : (s.setWing k v).table j = s.table j := rfl
@[simp] theorem State.setWing_cat_ (v : Wing) : (s.setWing k v).cat j = s.cat j := rfl
@[simp] theorem State.setWing_line_ (v : Wing) : (s.setWing k v).line j = s.line j := rfl
@[simp] theorem State.setWing_stack_ (v : Wing) : (s.setWing k v).stack j = s.stack j := rfl
@[simp] theorem State.setWing_die_ (v : Wing) : (s.setWing k v).die j = s.die j := rfl
@[simp] theorem State.setWing_eth_ (v : Wing) : (s.setWing k v).eth j = s.eth j := rfl
@[simp] theorem State.setWing_flow_ (v : Wing) : (s.setWing k v).flow j = s.flow j := rfl
@[simp] theorem State.setWing_tdi_ (v : Wing) : (s.setWing k v).tdi j = s.tdi j := rfl
@[simp] theorem State.setWing_mu_ (v : Wing) : (s.setWing k v).mu j = s.mu j := rfl
@[simp] theorem State.setWing_lane_ (v : Wing) : (s.setWing k v).lane j = s.lane j := rfl

/-! ### setQue -/

@[simp] theorem State.updQue_eq (f : Que → Que) : s.updQue k f = s.setQue k (f (s.que k)) := rfl
theorem State.que_setQue (v : Que) : (s.setQue k v).que j = if j = k then v else s.que j := Tbl.get_set ..
@[simp] theorem State.que_setQue_same (v : Que) : (s.setQue k v).que k = v := Tbl.get_set_same ..
@[simp] theorem State.setQue_pending (v : Que) : (s.setQue k v).pending = s.pending := rfl
@[simp] theorem State.setQue_out (v : Que) : (s.setQue k v).out = s.out := rfl
@[simp] theorem State.setQue_freeCtr (v : Que) : (s.setQue k v).freeCtr = s.freeCtr := rfl
@[simp] theorem State.setQue_clk (v : Que) : (s.setQue k v).clk = s.clk := rfl
@[simp] theorem State.setQue_plinth (v : Que) : (s.setQue k v).plinth = s.plinth := rfl
@[simp] theorem State.setQue_hubs (v : Que) : (s.setQue k v).hubs = s.hubs := rfl
@[simp] theorem State.setQue_hubLinkUp (v : Que) : (s.setQue k v).hubLinkUp = s.hubLinkUp := rfl
@[simp] theorem State.setQue_ports (v : Que) : (s.setQue k v).ports = s.ports := rfl
@[simp] theorem State.setQue_links (v : Que) : (s.setQue k v).links = s.links := rfl
@[simp] theorem State.setQue_noAuthority (v : Que) : (s.setQue k v).noAuthority = s.noAuthority := rfl
@[simp] theorem State.setQue_lastDispatch (v : Que) : (s.setQue k v).lastDispatch = s.lastDispatch := rfl
@[simp] theorem State.setQue_mbx (v : Que) : (s.setQue k v).mbx = s.mbx := rfl
@[simp] theorem State.setQue_fns (v : Que) : (s.setQue k v).fns = s.fns := rfl
@[simp] theorem State.setQue_msix (v : Que) : (s.setQue k v).msix = s.msix := rfl
@[simp] theorem State.setQue_pcie (v : Que) : (s.setQue k v).pcie = s.pcie := rfl
@[simp] theorem State.setQue_peers (v : Que) : (s.setQue k v).peers = s.peers := rfl
@[simp] theorem State.setQue_halfCells (v : Que) : (s.setQue k v).halfCells = s.halfCells := rfl
@[simp] theorem State.setQue_cells (v : Que) : (s.setQue k v).cells = s.cells := rfl
@[simp] theorem State.setQue_extents (v : Que) : (s.setQue k v).extents = s.extents := rfl
@[simp] theorem State.setQue_vfs (v : Que) : (s.setQue k v).vfs = s.vfs := rfl
@[simp] theorem State.setQue_units (v : Que) : (s.setQue k v).units = s.units := rfl
@[simp] theorem State.setQue_wings (v : Que) : (s.setQue k v).wings = s.wings := rfl
@[simp] theorem State.setQue_noWing (v : Que) : (s.setQue k v).noWing = s.noWing := rfl
@[simp] theorem State.setQue_noWingSince (v : Que) : (s.setQue k v).noWingSince = s.noWingSince := rfl
@[simp] theorem State.setQue_noWingAt (v : Que) : (s.setQue k v).noWingAt = s.noWingAt := rfl
@[simp] theorem State.setQue_reqs (v : Que) : (s.setQue k v).reqs = s.reqs := rfl
@[simp] theorem State.setQue_nextReq (v : Que) : (s.setQue k v).nextReq = s.nextReq := rfl
@[simp] theorem State.setQue_images (v : Que) : (s.setQue k v).images = s.images := rfl
@[simp] theorem State.setQue_docents (v : Que) : (s.setQue k v).docents = s.docents := rfl
@[simp] theorem State.setQue_launches (v : Que) : (s.setQue k v).launches = s.launches := rfl
@[simp] theorem State.setQue_arbs (v : Que) : (s.setQue k v).arbs = s.arbs := rfl
@[simp] theorem State.setQue_batches (v : Que) : (s.setQue k v).batches = s.batches := rfl
@[simp] theorem State.setQue_dups (v : Que) : (s.setQue k v).dups = s.dups := rfl
@[simp] theorem State.setQue_sp (v : Que) : (s.setQue k v).sp = s.sp := rfl
@[simp] theorem State.setQue_spBad (v : Que) : (s.setQue k v).spBad = s.spBad := rfl
@[simp] theorem State.setQue_ckpts (v : Que) : (s.setQue k v).ckpts = s.ckpts := rfl
@[simp] theorem State.setQue_ckptCount (v : Que) : (s.setQue k v).ckptCount = s.ckptCount := rfl
@[simp] theorem State.setQue_tables (v : Que) : (s.setQue k v).tables = s.tables := rfl
@[simp] theorem State.setQue_cats (v : Que) : (s.setQue k v).cats = s.cats := rfl
@[simp] theorem State.setQue_dir (v : Que) : (s.setQue k v).dir = s.dir := rfl
@[simp] theorem State.setQue_cache (v : Que) : (s.setQue k v).cache = s.cache := rfl
@[simp] theorem State.setQue_dram (v : Que) : (s.setQue k v).dram = s.dram := rfl
@[simp] theorem State.setQue_lines (v : Que) : (s.setQue k v).lines = s.lines := rfl
@[simp] theorem State.setQue_dramStacks (v : Que) : (s.setQue k v).dramStacks = s.dramStacks := rfl
@[simp] theorem State.setQue_patrolHours (v : Que) : (s.setQue k v).patrolHours = s.patrolHours := rfl
@[simp] theorem State.setQue_priTimeout (v : Que) : (s.setQue k v).priTimeout = s.priTimeout := rfl
@[simp] theorem State.setQue_rowErrs (v : Que) : (s.setQue k v).rowErrs = s.rowErrs := rfl
@[simp] theorem State.setQue_tlb (v : Que) : (s.setQue k v).tlb = s.tlb := rfl
@[simp] theorem State.setQue_ptw (v : Que) : (s.setQue k v).ptw = s.ptw := rfl
@[simp] theorem State.setQue_lineWaits (v : Que) : (s.setQue k v).lineWaits = s.lineWaits := rfl
@[simp] theorem State.setQue_ats (v : Que) : (s.setQue k v).ats = s.ats := rfl
@[simp] theorem State.setQue_atsReqs (v : Que) : (s.setQue k v).atsReqs = s.atsReqs := rfl
@[simp] theorem State.setQue_priReqs (v : Que) : (s.setQue k v).priReqs = s.priReqs := rfl
@[simp] theorem State.setQue_dies (v : Que) : (s.setQue k v).dies = s.dies := rfl
@[simp] theorem State.setQue_digestPairs (v : Que) : (s.setQue k v).digestPairs = s.digestPairs := rfl
@[simp] theorem State.setQue_log (v : Que) : (s.setQue k v).log = s.log := rfl
@[simp] theorem State.setQue_par (v : Que) : (s.setQue k v).par = s.par := rfl
@[simp] theorem State.setQue_ethPorts (v : Que) : (s.setQue k v).ethPorts = s.ethPorts := rfl
@[simp] theorem State.setQue_flows (v : Que) : (s.setQue k v).flows = s.flows := rfl
@[simp] theorem State.setQue_vlt (v : Que) : (s.setQue k v).vlt = s.vlt := rfl
@[simp] theorem State.setQue_tdis (v : Que) : (s.setQue k v).tdis = s.tdis := rfl
@[simp] theorem State.setQue_rst (v : Que) : (s.setQue k v).rst = s.rst := rfl
@[simp] theorem State.setQue_fw (v : Que) : (s.setQue k v).fw = s.fw := rfl
@[simp] theorem State.setQue_vnt (v : Que) : (s.setQue k v).vnt = s.vnt := rfl
@[simp] theorem State.setQue_tap (v : Que) : (s.setQue k v).tap = s.tap := rfl
@[simp] theorem State.setQue_moves (v : Que) : (s.setQue k v).moves = s.moves := rfl
@[simp] theorem State.setQue_mus (v : Que) : (s.setQue k v).mus = s.mus := rfl
@[simp] theorem State.setQue_lanes (v : Que) : (s.setQue k v).lanes = s.lanes := rfl
@[simp] theorem State.setQue_ahead (v : Que) : (s.setQue k v).ahead = s.ahead := rfl
@[simp] theorem State.setQue_bar2Waits (v : Que) : (s.setQue k v).bar2Waits = s.bar2Waits := rfl
@[simp] theorem State.setQue_hub_ (v : Que) : (s.setQue k v).hub j = s.hub j := rfl
@[simp] theorem State.setQue_port_ (v : Que) : (s.setQue k v).port j = s.port j := rfl
@[simp] theorem State.setQue_link_ (v : Que) : (s.setQue k v).link j = s.link j := rfl
@[simp] theorem State.setQue_mbox_ (v : Que) : (s.setQue k v).mbox j = s.mbox j := rfl
@[simp] theorem State.setQue_fnSt_ (v : Que) : (s.setQue k v).fnSt j = s.fnSt j := rfl
@[simp] theorem State.setQue_msixEnt_ (v : Que) : (s.setQue k v).msixEnt j = s.msixEnt j := rfl
@[simp] theorem State.setQue_peer_ (v : Que) : (s.setQue k v).peer j = s.peer j := rfl
@[simp] theorem State.setQue_half_ (v : Que) : (s.setQue k v).half j = s.half j := rfl
@[simp] theorem State.setQue_cell_ (v : Que) : (s.setQue k v).cell j = s.cell j := rfl
@[simp] theorem State.setQue_ext_ (v : Que) : (s.setQue k v).ext j = s.ext j := rfl
@[simp] theorem State.setQue_vf_ (v : Que) : (s.setQue k v).vf j = s.vf j := rfl
@[simp] theorem State.setQue_unit_ (v : Que) : (s.setQue k v).unit j = s.unit j := rfl
@[simp] theorem State.setQue_wing_ (v : Que) : (s.setQue k v).wing j = s.wing j := rfl
@[simp] theorem State.setQue_doc_ (v : Que) : (s.setQue k v).doc j = s.doc j := rfl
@[simp] theorem State.setQue_arb_ (v : Que) : (s.setQue k v).arb j = s.arb j := rfl
@[simp] theorem State.setQue_table_ (v : Que) : (s.setQue k v).table j = s.table j := rfl
@[simp] theorem State.setQue_cat_ (v : Que) : (s.setQue k v).cat j = s.cat j := rfl
@[simp] theorem State.setQue_line_ (v : Que) : (s.setQue k v).line j = s.line j := rfl
@[simp] theorem State.setQue_stack_ (v : Que) : (s.setQue k v).stack j = s.stack j := rfl
@[simp] theorem State.setQue_die_ (v : Que) : (s.setQue k v).die j = s.die j := rfl
@[simp] theorem State.setQue_eth_ (v : Que) : (s.setQue k v).eth j = s.eth j := rfl
@[simp] theorem State.setQue_flow_ (v : Que) : (s.setQue k v).flow j = s.flow j := rfl
@[simp] theorem State.setQue_tdi_ (v : Que) : (s.setQue k v).tdi j = s.tdi j := rfl
@[simp] theorem State.setQue_mu_ (v : Que) : (s.setQue k v).mu j = s.mu j := rfl
@[simp] theorem State.setQue_lane_ (v : Que) : (s.setQue k v).lane j = s.lane j := rfl

/-! ### setDoc -/

@[simp] theorem State.updDoc_eq (f : Docent → Docent) : s.updDoc k f = s.setDoc k (f (s.doc k)) := rfl
theorem State.doc_setDoc (v : Docent) : (s.setDoc k v).doc j = if j = k then v else s.doc j := Tbl.get_set ..
@[simp] theorem State.doc_setDoc_same (v : Docent) : (s.setDoc k v).doc k = v := Tbl.get_set_same ..
@[simp] theorem State.setDoc_pending (v : Docent) : (s.setDoc k v).pending = s.pending := rfl
@[simp] theorem State.setDoc_out (v : Docent) : (s.setDoc k v).out = s.out := rfl
@[simp] theorem State.setDoc_freeCtr (v : Docent) : (s.setDoc k v).freeCtr = s.freeCtr := rfl
@[simp] theorem State.setDoc_clk (v : Docent) : (s.setDoc k v).clk = s.clk := rfl
@[simp] theorem State.setDoc_plinth (v : Docent) : (s.setDoc k v).plinth = s.plinth := rfl
@[simp] theorem State.setDoc_hubs (v : Docent) : (s.setDoc k v).hubs = s.hubs := rfl
@[simp] theorem State.setDoc_hubLinkUp (v : Docent) : (s.setDoc k v).hubLinkUp = s.hubLinkUp := rfl
@[simp] theorem State.setDoc_ports (v : Docent) : (s.setDoc k v).ports = s.ports := rfl
@[simp] theorem State.setDoc_links (v : Docent) : (s.setDoc k v).links = s.links := rfl
@[simp] theorem State.setDoc_noAuthority (v : Docent) : (s.setDoc k v).noAuthority = s.noAuthority := rfl
@[simp] theorem State.setDoc_lastDispatch (v : Docent) : (s.setDoc k v).lastDispatch = s.lastDispatch := rfl
@[simp] theorem State.setDoc_mbx (v : Docent) : (s.setDoc k v).mbx = s.mbx := rfl
@[simp] theorem State.setDoc_fns (v : Docent) : (s.setDoc k v).fns = s.fns := rfl
@[simp] theorem State.setDoc_msix (v : Docent) : (s.setDoc k v).msix = s.msix := rfl
@[simp] theorem State.setDoc_pcie (v : Docent) : (s.setDoc k v).pcie = s.pcie := rfl
@[simp] theorem State.setDoc_peers (v : Docent) : (s.setDoc k v).peers = s.peers := rfl
@[simp] theorem State.setDoc_halfCells (v : Docent) : (s.setDoc k v).halfCells = s.halfCells := rfl
@[simp] theorem State.setDoc_cells (v : Docent) : (s.setDoc k v).cells = s.cells := rfl
@[simp] theorem State.setDoc_extents (v : Docent) : (s.setDoc k v).extents = s.extents := rfl
@[simp] theorem State.setDoc_vfs (v : Docent) : (s.setDoc k v).vfs = s.vfs := rfl
@[simp] theorem State.setDoc_units (v : Docent) : (s.setDoc k v).units = s.units := rfl
@[simp] theorem State.setDoc_wings (v : Docent) : (s.setDoc k v).wings = s.wings := rfl
@[simp] theorem State.setDoc_noWing (v : Docent) : (s.setDoc k v).noWing = s.noWing := rfl
@[simp] theorem State.setDoc_noWingSince (v : Docent) : (s.setDoc k v).noWingSince = s.noWingSince := rfl
@[simp] theorem State.setDoc_noWingAt (v : Docent) : (s.setDoc k v).noWingAt = s.noWingAt := rfl
@[simp] theorem State.setDoc_queues (v : Docent) : (s.setDoc k v).queues = s.queues := rfl
@[simp] theorem State.setDoc_reqs (v : Docent) : (s.setDoc k v).reqs = s.reqs := rfl
@[simp] theorem State.setDoc_nextReq (v : Docent) : (s.setDoc k v).nextReq = s.nextReq := rfl
@[simp] theorem State.setDoc_images (v : Docent) : (s.setDoc k v).images = s.images := rfl
@[simp] theorem State.setDoc_launches (v : Docent) : (s.setDoc k v).launches = s.launches := rfl
@[simp] theorem State.setDoc_arbs (v : Docent) : (s.setDoc k v).arbs = s.arbs := rfl
@[simp] theorem State.setDoc_batches (v : Docent) : (s.setDoc k v).batches = s.batches := rfl
@[simp] theorem State.setDoc_dups (v : Docent) : (s.setDoc k v).dups = s.dups := rfl
@[simp] theorem State.setDoc_sp (v : Docent) : (s.setDoc k v).sp = s.sp := rfl
@[simp] theorem State.setDoc_spBad (v : Docent) : (s.setDoc k v).spBad = s.spBad := rfl
@[simp] theorem State.setDoc_ckpts (v : Docent) : (s.setDoc k v).ckpts = s.ckpts := rfl
@[simp] theorem State.setDoc_ckptCount (v : Docent) : (s.setDoc k v).ckptCount = s.ckptCount := rfl
@[simp] theorem State.setDoc_tables (v : Docent) : (s.setDoc k v).tables = s.tables := rfl
@[simp] theorem State.setDoc_cats (v : Docent) : (s.setDoc k v).cats = s.cats := rfl
@[simp] theorem State.setDoc_dir (v : Docent) : (s.setDoc k v).dir = s.dir := rfl
@[simp] theorem State.setDoc_cache (v : Docent) : (s.setDoc k v).cache = s.cache := rfl
@[simp] theorem State.setDoc_dram (v : Docent) : (s.setDoc k v).dram = s.dram := rfl
@[simp] theorem State.setDoc_lines (v : Docent) : (s.setDoc k v).lines = s.lines := rfl
@[simp] theorem State.setDoc_dramStacks (v : Docent) : (s.setDoc k v).dramStacks = s.dramStacks := rfl
@[simp] theorem State.setDoc_patrolHours (v : Docent) : (s.setDoc k v).patrolHours = s.patrolHours := rfl
@[simp] theorem State.setDoc_priTimeout (v : Docent) : (s.setDoc k v).priTimeout = s.priTimeout := rfl
@[simp] theorem State.setDoc_rowErrs (v : Docent) : (s.setDoc k v).rowErrs = s.rowErrs := rfl
@[simp] theorem State.setDoc_tlb (v : Docent) : (s.setDoc k v).tlb = s.tlb := rfl
@[simp] theorem State.setDoc_ptw (v : Docent) : (s.setDoc k v).ptw = s.ptw := rfl
@[simp] theorem State.setDoc_lineWaits (v : Docent) : (s.setDoc k v).lineWaits = s.lineWaits := rfl
@[simp] theorem State.setDoc_ats (v : Docent) : (s.setDoc k v).ats = s.ats := rfl
@[simp] theorem State.setDoc_atsReqs (v : Docent) : (s.setDoc k v).atsReqs = s.atsReqs := rfl
@[simp] theorem State.setDoc_priReqs (v : Docent) : (s.setDoc k v).priReqs = s.priReqs := rfl
@[simp] theorem State.setDoc_dies (v : Docent) : (s.setDoc k v).dies = s.dies := rfl
@[simp] theorem State.setDoc_digestPairs (v : Docent) : (s.setDoc k v).digestPairs = s.digestPairs := rfl
@[simp] theorem State.setDoc_log (v : Docent) : (s.setDoc k v).log = s.log := rfl
@[simp] theorem State.setDoc_par (v : Docent) : (s.setDoc k v).par = s.par := rfl
@[simp] theorem State.setDoc_ethPorts (v : Docent) : (s.setDoc k v).ethPorts = s.ethPorts := rfl
@[simp] theorem State.setDoc_flows (v : Docent) : (s.setDoc k v).flows = s.flows := rfl
@[simp] theorem State.setDoc_vlt (v : Docent) : (s.setDoc k v).vlt = s.vlt := rfl
@[simp] theorem State.setDoc_tdis (v : Docent) : (s.setDoc k v).tdis = s.tdis := rfl
@[simp] theorem State.setDoc_rst (v : Docent) : (s.setDoc k v).rst = s.rst := rfl
@[simp] theorem State.setDoc_fw (v : Docent) : (s.setDoc k v).fw = s.fw := rfl
@[simp] theorem State.setDoc_vnt (v : Docent) : (s.setDoc k v).vnt = s.vnt := rfl
@[simp] theorem State.setDoc_tap (v : Docent) : (s.setDoc k v).tap = s.tap := rfl
@[simp] theorem State.setDoc_moves (v : Docent) : (s.setDoc k v).moves = s.moves := rfl
@[simp] theorem State.setDoc_mus (v : Docent) : (s.setDoc k v).mus = s.mus := rfl
@[simp] theorem State.setDoc_lanes (v : Docent) : (s.setDoc k v).lanes = s.lanes := rfl
@[simp] theorem State.setDoc_ahead (v : Docent) : (s.setDoc k v).ahead = s.ahead := rfl
@[simp] theorem State.setDoc_bar2Waits (v : Docent) : (s.setDoc k v).bar2Waits = s.bar2Waits := rfl
@[simp] theorem State.setDoc_hub_ (v : Docent) : (s.setDoc k v).hub j = s.hub j := rfl
@[simp] theorem State.setDoc_port_ (v : Docent) : (s.setDoc k v).port j = s.port j := rfl
@[simp] theorem State.setDoc_link_ (v : Docent) : (s.setDoc k v).link j = s.link j := rfl
@[simp] theorem State.setDoc_mbox_ (v : Docent) : (s.setDoc k v).mbox j = s.mbox j := rfl
@[simp] theorem State.setDoc_fnSt_ (v : Docent) : (s.setDoc k v).fnSt j = s.fnSt j := rfl
@[simp] theorem State.setDoc_msixEnt_ (v : Docent) : (s.setDoc k v).msixEnt j = s.msixEnt j := rfl
@[simp] theorem State.setDoc_peer_ (v : Docent) : (s.setDoc k v).peer j = s.peer j := rfl
@[simp] theorem State.setDoc_half_ (v : Docent) : (s.setDoc k v).half j = s.half j := rfl
@[simp] theorem State.setDoc_cell_ (v : Docent) : (s.setDoc k v).cell j = s.cell j := rfl
@[simp] theorem State.setDoc_ext_ (v : Docent) : (s.setDoc k v).ext j = s.ext j := rfl
@[simp] theorem State.setDoc_vf_ (v : Docent) : (s.setDoc k v).vf j = s.vf j := rfl
@[simp] theorem State.setDoc_unit_ (v : Docent) : (s.setDoc k v).unit j = s.unit j := rfl
@[simp] theorem State.setDoc_wing_ (v : Docent) : (s.setDoc k v).wing j = s.wing j := rfl
@[simp] theorem State.setDoc_que_ (v : Docent) : (s.setDoc k v).que j = s.que j := rfl
@[simp] theorem State.setDoc_arb_ (v : Docent) : (s.setDoc k v).arb j = s.arb j := rfl
@[simp] theorem State.setDoc_table_ (v : Docent) : (s.setDoc k v).table j = s.table j := rfl
@[simp] theorem State.setDoc_cat_ (v : Docent) : (s.setDoc k v).cat j = s.cat j := rfl
@[simp] theorem State.setDoc_line_ (v : Docent) : (s.setDoc k v).line j = s.line j := rfl
@[simp] theorem State.setDoc_stack_ (v : Docent) : (s.setDoc k v).stack j = s.stack j := rfl
@[simp] theorem State.setDoc_die_ (v : Docent) : (s.setDoc k v).die j = s.die j := rfl
@[simp] theorem State.setDoc_eth_ (v : Docent) : (s.setDoc k v).eth j = s.eth j := rfl
@[simp] theorem State.setDoc_flow_ (v : Docent) : (s.setDoc k v).flow j = s.flow j := rfl
@[simp] theorem State.setDoc_tdi_ (v : Docent) : (s.setDoc k v).tdi j = s.tdi j := rfl
@[simp] theorem State.setDoc_mu_ (v : Docent) : (s.setDoc k v).mu j = s.mu j := rfl
@[simp] theorem State.setDoc_lane_ (v : Docent) : (s.setDoc k v).lane j = s.lane j := rfl

/-! ### setArb -/

@[simp] theorem State.updArb_eq (f : Arb → Arb) : s.updArb k f = s.setArb k (f (s.arb k)) := rfl
theorem State.arb_setArb (v : Arb) : (s.setArb k v).arb j = if j = k then v else s.arb j := Tbl.get_set ..
@[simp] theorem State.arb_setArb_same (v : Arb) : (s.setArb k v).arb k = v := Tbl.get_set_same ..
@[simp] theorem State.setArb_pending (v : Arb) : (s.setArb k v).pending = s.pending := rfl
@[simp] theorem State.setArb_out (v : Arb) : (s.setArb k v).out = s.out := rfl
@[simp] theorem State.setArb_freeCtr (v : Arb) : (s.setArb k v).freeCtr = s.freeCtr := rfl
@[simp] theorem State.setArb_clk (v : Arb) : (s.setArb k v).clk = s.clk := rfl
@[simp] theorem State.setArb_plinth (v : Arb) : (s.setArb k v).plinth = s.plinth := rfl
@[simp] theorem State.setArb_hubs (v : Arb) : (s.setArb k v).hubs = s.hubs := rfl
@[simp] theorem State.setArb_hubLinkUp (v : Arb) : (s.setArb k v).hubLinkUp = s.hubLinkUp := rfl
@[simp] theorem State.setArb_ports (v : Arb) : (s.setArb k v).ports = s.ports := rfl
@[simp] theorem State.setArb_links (v : Arb) : (s.setArb k v).links = s.links := rfl
@[simp] theorem State.setArb_noAuthority (v : Arb) : (s.setArb k v).noAuthority = s.noAuthority := rfl
@[simp] theorem State.setArb_lastDispatch (v : Arb) : (s.setArb k v).lastDispatch = s.lastDispatch := rfl
@[simp] theorem State.setArb_mbx (v : Arb) : (s.setArb k v).mbx = s.mbx := rfl
@[simp] theorem State.setArb_fns (v : Arb) : (s.setArb k v).fns = s.fns := rfl
@[simp] theorem State.setArb_msix (v : Arb) : (s.setArb k v).msix = s.msix := rfl
@[simp] theorem State.setArb_pcie (v : Arb) : (s.setArb k v).pcie = s.pcie := rfl
@[simp] theorem State.setArb_peers (v : Arb) : (s.setArb k v).peers = s.peers := rfl
@[simp] theorem State.setArb_halfCells (v : Arb) : (s.setArb k v).halfCells = s.halfCells := rfl
@[simp] theorem State.setArb_cells (v : Arb) : (s.setArb k v).cells = s.cells := rfl
@[simp] theorem State.setArb_extents (v : Arb) : (s.setArb k v).extents = s.extents := rfl
@[simp] theorem State.setArb_vfs (v : Arb) : (s.setArb k v).vfs = s.vfs := rfl
@[simp] theorem State.setArb_units (v : Arb) : (s.setArb k v).units = s.units := rfl
@[simp] theorem State.setArb_wings (v : Arb) : (s.setArb k v).wings = s.wings := rfl
@[simp] theorem State.setArb_noWing (v : Arb) : (s.setArb k v).noWing = s.noWing := rfl
@[simp] theorem State.setArb_noWingSince (v : Arb) : (s.setArb k v).noWingSince = s.noWingSince := rfl
@[simp] theorem State.setArb_noWingAt (v : Arb) : (s.setArb k v).noWingAt = s.noWingAt := rfl
@[simp] theorem State.setArb_queues (v : Arb) : (s.setArb k v).queues = s.queues := rfl
@[simp] theorem State.setArb_reqs (v : Arb) : (s.setArb k v).reqs = s.reqs := rfl
@[simp] theorem State.setArb_nextReq (v : Arb) : (s.setArb k v).nextReq = s.nextReq := rfl
@[simp] theorem State.setArb_images (v : Arb) : (s.setArb k v).images = s.images := rfl
@[simp] theorem State.setArb_docents (v : Arb) : (s.setArb k v).docents = s.docents := rfl
@[simp] theorem State.setArb_launches (v : Arb) : (s.setArb k v).launches = s.launches := rfl
@[simp] theorem State.setArb_batches (v : Arb) : (s.setArb k v).batches = s.batches := rfl
@[simp] theorem State.setArb_dups (v : Arb) : (s.setArb k v).dups = s.dups := rfl
@[simp] theorem State.setArb_sp (v : Arb) : (s.setArb k v).sp = s.sp := rfl
@[simp] theorem State.setArb_spBad (v : Arb) : (s.setArb k v).spBad = s.spBad := rfl
@[simp] theorem State.setArb_ckpts (v : Arb) : (s.setArb k v).ckpts = s.ckpts := rfl
@[simp] theorem State.setArb_ckptCount (v : Arb) : (s.setArb k v).ckptCount = s.ckptCount := rfl
@[simp] theorem State.setArb_tables (v : Arb) : (s.setArb k v).tables = s.tables := rfl
@[simp] theorem State.setArb_cats (v : Arb) : (s.setArb k v).cats = s.cats := rfl
@[simp] theorem State.setArb_dir (v : Arb) : (s.setArb k v).dir = s.dir := rfl
@[simp] theorem State.setArb_cache (v : Arb) : (s.setArb k v).cache = s.cache := rfl
@[simp] theorem State.setArb_dram (v : Arb) : (s.setArb k v).dram = s.dram := rfl
@[simp] theorem State.setArb_lines (v : Arb) : (s.setArb k v).lines = s.lines := rfl
@[simp] theorem State.setArb_dramStacks (v : Arb) : (s.setArb k v).dramStacks = s.dramStacks := rfl
@[simp] theorem State.setArb_patrolHours (v : Arb) : (s.setArb k v).patrolHours = s.patrolHours := rfl
@[simp] theorem State.setArb_priTimeout (v : Arb) : (s.setArb k v).priTimeout = s.priTimeout := rfl
@[simp] theorem State.setArb_rowErrs (v : Arb) : (s.setArb k v).rowErrs = s.rowErrs := rfl
@[simp] theorem State.setArb_tlb (v : Arb) : (s.setArb k v).tlb = s.tlb := rfl
@[simp] theorem State.setArb_ptw (v : Arb) : (s.setArb k v).ptw = s.ptw := rfl
@[simp] theorem State.setArb_lineWaits (v : Arb) : (s.setArb k v).lineWaits = s.lineWaits := rfl
@[simp] theorem State.setArb_ats (v : Arb) : (s.setArb k v).ats = s.ats := rfl
@[simp] theorem State.setArb_atsReqs (v : Arb) : (s.setArb k v).atsReqs = s.atsReqs := rfl
@[simp] theorem State.setArb_priReqs (v : Arb) : (s.setArb k v).priReqs = s.priReqs := rfl
@[simp] theorem State.setArb_dies (v : Arb) : (s.setArb k v).dies = s.dies := rfl
@[simp] theorem State.setArb_digestPairs (v : Arb) : (s.setArb k v).digestPairs = s.digestPairs := rfl
@[simp] theorem State.setArb_log (v : Arb) : (s.setArb k v).log = s.log := rfl
@[simp] theorem State.setArb_par (v : Arb) : (s.setArb k v).par = s.par := rfl
@[simp] theorem State.setArb_ethPorts (v : Arb) : (s.setArb k v).ethPorts = s.ethPorts := rfl
@[simp] theorem State.setArb_flows (v : Arb) : (s.setArb k v).flows = s.flows := rfl
@[simp] theorem State.setArb_vlt (v : Arb) : (s.setArb k v).vlt = s.vlt := rfl
@[simp] theorem State.setArb_tdis (v : Arb) : (s.setArb k v).tdis = s.tdis := rfl
@[simp] theorem State.setArb_rst (v : Arb) : (s.setArb k v).rst = s.rst := rfl
@[simp] theorem State.setArb_fw (v : Arb) : (s.setArb k v).fw = s.fw := rfl
@[simp] theorem State.setArb_vnt (v : Arb) : (s.setArb k v).vnt = s.vnt := rfl
@[simp] theorem State.setArb_tap (v : Arb) : (s.setArb k v).tap = s.tap := rfl
@[simp] theorem State.setArb_moves (v : Arb) : (s.setArb k v).moves = s.moves := rfl
@[simp] theorem State.setArb_mus (v : Arb) : (s.setArb k v).mus = s.mus := rfl
@[simp] theorem State.setArb_lanes (v : Arb) : (s.setArb k v).lanes = s.lanes := rfl
@[simp] theorem State.setArb_ahead (v : Arb) : (s.setArb k v).ahead = s.ahead := rfl
@[simp] theorem State.setArb_bar2Waits (v : Arb) : (s.setArb k v).bar2Waits = s.bar2Waits := rfl
@[simp] theorem State.setArb_hub_ (v : Arb) : (s.setArb k v).hub j = s.hub j := rfl
@[simp] theorem State.setArb_port_ (v : Arb) : (s.setArb k v).port j = s.port j := rfl
@[simp] theorem State.setArb_link_ (v : Arb) : (s.setArb k v).link j = s.link j := rfl
@[simp] theorem State.setArb_mbox_ (v : Arb) : (s.setArb k v).mbox j = s.mbox j := rfl
@[simp] theorem State.setArb_fnSt_ (v : Arb) : (s.setArb k v).fnSt j = s.fnSt j := rfl
@[simp] theorem State.setArb_msixEnt_ (v : Arb) : (s.setArb k v).msixEnt j = s.msixEnt j := rfl
@[simp] theorem State.setArb_peer_ (v : Arb) : (s.setArb k v).peer j = s.peer j := rfl
@[simp] theorem State.setArb_half_ (v : Arb) : (s.setArb k v).half j = s.half j := rfl
@[simp] theorem State.setArb_cell_ (v : Arb) : (s.setArb k v).cell j = s.cell j := rfl
@[simp] theorem State.setArb_ext_ (v : Arb) : (s.setArb k v).ext j = s.ext j := rfl
@[simp] theorem State.setArb_vf_ (v : Arb) : (s.setArb k v).vf j = s.vf j := rfl
@[simp] theorem State.setArb_unit_ (v : Arb) : (s.setArb k v).unit j = s.unit j := rfl
@[simp] theorem State.setArb_wing_ (v : Arb) : (s.setArb k v).wing j = s.wing j := rfl
@[simp] theorem State.setArb_que_ (v : Arb) : (s.setArb k v).que j = s.que j := rfl
@[simp] theorem State.setArb_doc_ (v : Arb) : (s.setArb k v).doc j = s.doc j := rfl
@[simp] theorem State.setArb_table_ (v : Arb) : (s.setArb k v).table j = s.table j := rfl
@[simp] theorem State.setArb_cat_ (v : Arb) : (s.setArb k v).cat j = s.cat j := rfl
@[simp] theorem State.setArb_line_ (v : Arb) : (s.setArb k v).line j = s.line j := rfl
@[simp] theorem State.setArb_stack_ (v : Arb) : (s.setArb k v).stack j = s.stack j := rfl
@[simp] theorem State.setArb_die_ (v : Arb) : (s.setArb k v).die j = s.die j := rfl
@[simp] theorem State.setArb_eth_ (v : Arb) : (s.setArb k v).eth j = s.eth j := rfl
@[simp] theorem State.setArb_flow_ (v : Arb) : (s.setArb k v).flow j = s.flow j := rfl
@[simp] theorem State.setArb_tdi_ (v : Arb) : (s.setArb k v).tdi j = s.tdi j := rfl
@[simp] theorem State.setArb_mu_ (v : Arb) : (s.setArb k v).mu j = s.mu j := rfl
@[simp] theorem State.setArb_lane_ (v : Arb) : (s.setArb k v).lane j = s.lane j := rfl

/-! ### setMu -/

@[simp] theorem State.updMu_eq (f : MuSt → MuSt) : s.updMu k f = s.setMu k (f (s.mu k)) := rfl
theorem State.mu_setMu (v : MuSt) : (s.setMu k v).mu j = if j = k then v else s.mu j := Tbl.get_set ..
@[simp] theorem State.mu_setMu_same (v : MuSt) : (s.setMu k v).mu k = v := Tbl.get_set_same ..
@[simp] theorem State.setMu_pending (v : MuSt) : (s.setMu k v).pending = s.pending := rfl
@[simp] theorem State.setMu_out (v : MuSt) : (s.setMu k v).out = s.out := rfl
@[simp] theorem State.setMu_arbs (v : MuSt) : (s.setMu k v).arbs = s.arbs := rfl
@[simp] theorem State.setMu_freeCtr (v : MuSt) : (s.setMu k v).freeCtr = s.freeCtr := rfl
@[simp] theorem State.setMu_clk (v : MuSt) : (s.setMu k v).clk = s.clk := rfl
@[simp] theorem State.setMu_plinth (v : MuSt) : (s.setMu k v).plinth = s.plinth := rfl
@[simp] theorem State.setMu_hubs (v : MuSt) : (s.setMu k v).hubs = s.hubs := rfl
@[simp] theorem State.setMu_hubLinkUp (v : MuSt) : (s.setMu k v).hubLinkUp = s.hubLinkUp := rfl
@[simp] theorem State.setMu_ports (v : MuSt) : (s.setMu k v).ports = s.ports := rfl
@[simp] theorem State.setMu_links (v : MuSt) : (s.setMu k v).links = s.links := rfl
@[simp] theorem State.setMu_noAuthority (v : MuSt) : (s.setMu k v).noAuthority = s.noAuthority := rfl
@[simp] theorem State.setMu_lastDispatch (v : MuSt) : (s.setMu k v).lastDispatch = s.lastDispatch := rfl
@[simp] theorem State.setMu_mbx (v : MuSt) : (s.setMu k v).mbx = s.mbx := rfl
@[simp] theorem State.setMu_fns (v : MuSt) : (s.setMu k v).fns = s.fns := rfl
@[simp] theorem State.setMu_msix (v : MuSt) : (s.setMu k v).msix = s.msix := rfl
@[simp] theorem State.setMu_pcie (v : MuSt) : (s.setMu k v).pcie = s.pcie := rfl
@[simp] theorem State.setMu_peers (v : MuSt) : (s.setMu k v).peers = s.peers := rfl
@[simp] theorem State.setMu_halfCells (v : MuSt) : (s.setMu k v).halfCells = s.halfCells := rfl
@[simp] theorem State.setMu_cells (v : MuSt) : (s.setMu k v).cells = s.cells := rfl
@[simp] theorem State.setMu_extents (v : MuSt) : (s.setMu k v).extents = s.extents := rfl
@[simp] theorem State.setMu_vfs (v : MuSt) : (s.setMu k v).vfs = s.vfs := rfl
@[simp] theorem State.setMu_units (v : MuSt) : (s.setMu k v).units = s.units := rfl
@[simp] theorem State.setMu_wings (v : MuSt) : (s.setMu k v).wings = s.wings := rfl
@[simp] theorem State.setMu_noWing (v : MuSt) : (s.setMu k v).noWing = s.noWing := rfl
@[simp] theorem State.setMu_noWingSince (v : MuSt) : (s.setMu k v).noWingSince = s.noWingSince := rfl
@[simp] theorem State.setMu_noWingAt (v : MuSt) : (s.setMu k v).noWingAt = s.noWingAt := rfl
@[simp] theorem State.setMu_queues (v : MuSt) : (s.setMu k v).queues = s.queues := rfl
@[simp] theorem State.setMu_reqs (v : MuSt) : (s.setMu k v).reqs = s.reqs := rfl
@[simp] theorem State.setMu_nextReq (v : MuSt) : (s.setMu k v).nextReq = s.nextReq := rfl
@[simp] theorem State.setMu_images (v : MuSt) : (s.setMu k v).images = s.images := rfl
@[simp] theorem State.setMu_docents (v : MuSt) : (s.setMu k v).docents = s.docents := rfl
@[simp] theorem State.setMu_launches (v : MuSt) : (s.setMu k v).launches = s.launches := rfl
@[simp] theorem State.setMu_batches (v : MuSt) : (s.setMu k v).batches = s.batches := rfl
@[simp] theorem State.setMu_dups (v : MuSt) : (s.setMu k v).dups = s.dups := rfl
@[simp] theorem State.setMu_sp (v : MuSt) : (s.setMu k v).sp = s.sp := rfl
@[simp] theorem State.setMu_spBad (v : MuSt) : (s.setMu k v).spBad = s.spBad := rfl
@[simp] theorem State.setMu_ckpts (v : MuSt) : (s.setMu k v).ckpts = s.ckpts := rfl
@[simp] theorem State.setMu_ckptCount (v : MuSt) : (s.setMu k v).ckptCount = s.ckptCount := rfl
@[simp] theorem State.setMu_tables (v : MuSt) : (s.setMu k v).tables = s.tables := rfl
@[simp] theorem State.setMu_cats (v : MuSt) : (s.setMu k v).cats = s.cats := rfl
@[simp] theorem State.setMu_dir (v : MuSt) : (s.setMu k v).dir = s.dir := rfl
@[simp] theorem State.setMu_cache (v : MuSt) : (s.setMu k v).cache = s.cache := rfl
@[simp] theorem State.setMu_dram (v : MuSt) : (s.setMu k v).dram = s.dram := rfl
@[simp] theorem State.setMu_lines (v : MuSt) : (s.setMu k v).lines = s.lines := rfl
@[simp] theorem State.setMu_dramStacks (v : MuSt) : (s.setMu k v).dramStacks = s.dramStacks := rfl
@[simp] theorem State.setMu_patrolHours (v : MuSt) : (s.setMu k v).patrolHours = s.patrolHours := rfl
@[simp] theorem State.setMu_priTimeout (v : MuSt) : (s.setMu k v).priTimeout = s.priTimeout := rfl
@[simp] theorem State.setMu_rowErrs (v : MuSt) : (s.setMu k v).rowErrs = s.rowErrs := rfl
@[simp] theorem State.setMu_tlb (v : MuSt) : (s.setMu k v).tlb = s.tlb := rfl
@[simp] theorem State.setMu_ptw (v : MuSt) : (s.setMu k v).ptw = s.ptw := rfl
@[simp] theorem State.setMu_lineWaits (v : MuSt) : (s.setMu k v).lineWaits = s.lineWaits := rfl
@[simp] theorem State.setMu_ats (v : MuSt) : (s.setMu k v).ats = s.ats := rfl
@[simp] theorem State.setMu_atsReqs (v : MuSt) : (s.setMu k v).atsReqs = s.atsReqs := rfl
@[simp] theorem State.setMu_priReqs (v : MuSt) : (s.setMu k v).priReqs = s.priReqs := rfl
@[simp] theorem State.setMu_dies (v : MuSt) : (s.setMu k v).dies = s.dies := rfl
@[simp] theorem State.setMu_digestPairs (v : MuSt) : (s.setMu k v).digestPairs = s.digestPairs := rfl
@[simp] theorem State.setMu_log (v : MuSt) : (s.setMu k v).log = s.log := rfl
@[simp] theorem State.setMu_par (v : MuSt) : (s.setMu k v).par = s.par := rfl
@[simp] theorem State.setMu_ethPorts (v : MuSt) : (s.setMu k v).ethPorts = s.ethPorts := rfl
@[simp] theorem State.setMu_flows (v : MuSt) : (s.setMu k v).flows = s.flows := rfl
@[simp] theorem State.setMu_vlt (v : MuSt) : (s.setMu k v).vlt = s.vlt := rfl
@[simp] theorem State.setMu_tdis (v : MuSt) : (s.setMu k v).tdis = s.tdis := rfl
@[simp] theorem State.setMu_rst (v : MuSt) : (s.setMu k v).rst = s.rst := rfl
@[simp] theorem State.setMu_fw (v : MuSt) : (s.setMu k v).fw = s.fw := rfl
@[simp] theorem State.setMu_vnt (v : MuSt) : (s.setMu k v).vnt = s.vnt := rfl
@[simp] theorem State.setMu_tap (v : MuSt) : (s.setMu k v).tap = s.tap := rfl
@[simp] theorem State.setMu_moves (v : MuSt) : (s.setMu k v).moves = s.moves := rfl
@[simp] theorem State.setMu_lanes (v : MuSt) : (s.setMu k v).lanes = s.lanes := rfl
@[simp] theorem State.setMu_ahead (v : MuSt) : (s.setMu k v).ahead = s.ahead := rfl
@[simp] theorem State.setMu_bar2Waits (v : MuSt) : (s.setMu k v).bar2Waits = s.bar2Waits := rfl
@[simp] theorem State.setMu_hub_ (v : MuSt) : (s.setMu k v).hub j = s.hub j := rfl
@[simp] theorem State.setMu_port_ (v : MuSt) : (s.setMu k v).port j = s.port j := rfl
@[simp] theorem State.setMu_link_ (v : MuSt) : (s.setMu k v).link j = s.link j := rfl
@[simp] theorem State.setMu_mbox_ (v : MuSt) : (s.setMu k v).mbox j = s.mbox j := rfl
@[simp] theorem State.setMu_fnSt_ (v : MuSt) : (s.setMu k v).fnSt j = s.fnSt j := rfl
@[simp] theorem State.setMu_msixEnt_ (v : MuSt) : (s.setMu k v).msixEnt j = s.msixEnt j := rfl
@[simp] theorem State.setMu_peer_ (v : MuSt) : (s.setMu k v).peer j = s.peer j := rfl
@[simp] theorem State.setMu_half_ (v : MuSt) : (s.setMu k v).half j = s.half j := rfl
@[simp] theorem State.setMu_cell_ (v : MuSt) : (s.setMu k v).cell j = s.cell j := rfl
@[simp] theorem State.setMu_ext_ (v : MuSt) : (s.setMu k v).ext j = s.ext j := rfl
@[simp] theorem State.setMu_vf_ (v : MuSt) : (s.setMu k v).vf j = s.vf j := rfl
@[simp] theorem State.setMu_unit_ (v : MuSt) : (s.setMu k v).unit j = s.unit j := rfl
@[simp] theorem State.setMu_wing_ (v : MuSt) : (s.setMu k v).wing j = s.wing j := rfl
@[simp] theorem State.setMu_que_ (v : MuSt) : (s.setMu k v).que j = s.que j := rfl
@[simp] theorem State.setMu_doc_ (v : MuSt) : (s.setMu k v).doc j = s.doc j := rfl
@[simp] theorem State.setMu_arb_ (v : MuSt) : (s.setMu k v).arb j = s.arb j := rfl
@[simp] theorem State.setMu_table_ (v : MuSt) : (s.setMu k v).table j = s.table j := rfl
@[simp] theorem State.setMu_cat_ (v : MuSt) : (s.setMu k v).cat j = s.cat j := rfl
@[simp] theorem State.setMu_line_ (v : MuSt) : (s.setMu k v).line j = s.line j := rfl
@[simp] theorem State.setMu_stack_ (v : MuSt) : (s.setMu k v).stack j = s.stack j := rfl
@[simp] theorem State.setMu_die_ (v : MuSt) : (s.setMu k v).die j = s.die j := rfl
@[simp] theorem State.setMu_eth_ (v : MuSt) : (s.setMu k v).eth j = s.eth j := rfl
@[simp] theorem State.setMu_flow_ (v : MuSt) : (s.setMu k v).flow j = s.flow j := rfl
@[simp] theorem State.setMu_tdi_ (v : MuSt) : (s.setMu k v).tdi j = s.tdi j := rfl
@[simp] theorem State.setMu_lane_ (v : MuSt) : (s.setMu k v).lane j = s.lane j := rfl

/-! ### setLane -/

@[simp] theorem State.updLane_eq (f : LaneBuf → LaneBuf) : s.updLane k f = s.setLane k (f (s.lane k)) := rfl
theorem State.lane_setLane (v : LaneBuf) : (s.setLane k v).lane j = if j = k then v else s.lane j := Tbl.get_set ..
@[simp] theorem State.lane_setLane_same (v : LaneBuf) : (s.setLane k v).lane k = v := Tbl.get_set_same ..
@[simp] theorem State.setLane_pending (v : LaneBuf) : (s.setLane k v).pending = s.pending := rfl
@[simp] theorem State.setLane_out (v : LaneBuf) : (s.setLane k v).out = s.out := rfl
@[simp] theorem State.setLane_arbs (v : LaneBuf) : (s.setLane k v).arbs = s.arbs := rfl
@[simp] theorem State.setLane_freeCtr (v : LaneBuf) : (s.setLane k v).freeCtr = s.freeCtr := rfl
@[simp] theorem State.setLane_clk (v : LaneBuf) : (s.setLane k v).clk = s.clk := rfl
@[simp] theorem State.setLane_plinth (v : LaneBuf) : (s.setLane k v).plinth = s.plinth := rfl
@[simp] theorem State.setLane_hubs (v : LaneBuf) : (s.setLane k v).hubs = s.hubs := rfl
@[simp] theorem State.setLane_hubLinkUp (v : LaneBuf) : (s.setLane k v).hubLinkUp = s.hubLinkUp := rfl
@[simp] theorem State.setLane_ports (v : LaneBuf) : (s.setLane k v).ports = s.ports := rfl
@[simp] theorem State.setLane_links (v : LaneBuf) : (s.setLane k v).links = s.links := rfl
@[simp] theorem State.setLane_noAuthority (v : LaneBuf) : (s.setLane k v).noAuthority = s.noAuthority := rfl
@[simp] theorem State.setLane_lastDispatch (v : LaneBuf) : (s.setLane k v).lastDispatch = s.lastDispatch := rfl
@[simp] theorem State.setLane_mbx (v : LaneBuf) : (s.setLane k v).mbx = s.mbx := rfl
@[simp] theorem State.setLane_fns (v : LaneBuf) : (s.setLane k v).fns = s.fns := rfl
@[simp] theorem State.setLane_msix (v : LaneBuf) : (s.setLane k v).msix = s.msix := rfl
@[simp] theorem State.setLane_pcie (v : LaneBuf) : (s.setLane k v).pcie = s.pcie := rfl
@[simp] theorem State.setLane_peers (v : LaneBuf) : (s.setLane k v).peers = s.peers := rfl
@[simp] theorem State.setLane_halfCells (v : LaneBuf) : (s.setLane k v).halfCells = s.halfCells := rfl
@[simp] theorem State.setLane_cells (v : LaneBuf) : (s.setLane k v).cells = s.cells := rfl
@[simp] theorem State.setLane_extents (v : LaneBuf) : (s.setLane k v).extents = s.extents := rfl
@[simp] theorem State.setLane_vfs (v : LaneBuf) : (s.setLane k v).vfs = s.vfs := rfl
@[simp] theorem State.setLane_units (v : LaneBuf) : (s.setLane k v).units = s.units := rfl
@[simp] theorem State.setLane_wings (v : LaneBuf) : (s.setLane k v).wings = s.wings := rfl
@[simp] theorem State.setLane_noWing (v : LaneBuf) : (s.setLane k v).noWing = s.noWing := rfl
@[simp] theorem State.setLane_noWingSince (v : LaneBuf) : (s.setLane k v).noWingSince = s.noWingSince := rfl
@[simp] theorem State.setLane_noWingAt (v : LaneBuf) : (s.setLane k v).noWingAt = s.noWingAt := rfl
@[simp] theorem State.setLane_queues (v : LaneBuf) : (s.setLane k v).queues = s.queues := rfl
@[simp] theorem State.setLane_reqs (v : LaneBuf) : (s.setLane k v).reqs = s.reqs := rfl
@[simp] theorem State.setLane_nextReq (v : LaneBuf) : (s.setLane k v).nextReq = s.nextReq := rfl
@[simp] theorem State.setLane_images (v : LaneBuf) : (s.setLane k v).images = s.images := rfl
@[simp] theorem State.setLane_docents (v : LaneBuf) : (s.setLane k v).docents = s.docents := rfl
@[simp] theorem State.setLane_launches (v : LaneBuf) : (s.setLane k v).launches = s.launches := rfl
@[simp] theorem State.setLane_batches (v : LaneBuf) : (s.setLane k v).batches = s.batches := rfl
@[simp] theorem State.setLane_dups (v : LaneBuf) : (s.setLane k v).dups = s.dups := rfl
@[simp] theorem State.setLane_sp (v : LaneBuf) : (s.setLane k v).sp = s.sp := rfl
@[simp] theorem State.setLane_spBad (v : LaneBuf) : (s.setLane k v).spBad = s.spBad := rfl
@[simp] theorem State.setLane_ckpts (v : LaneBuf) : (s.setLane k v).ckpts = s.ckpts := rfl
@[simp] theorem State.setLane_ckptCount (v : LaneBuf) : (s.setLane k v).ckptCount = s.ckptCount := rfl
@[simp] theorem State.setLane_tables (v : LaneBuf) : (s.setLane k v).tables = s.tables := rfl
@[simp] theorem State.setLane_cats (v : LaneBuf) : (s.setLane k v).cats = s.cats := rfl
@[simp] theorem State.setLane_dir (v : LaneBuf) : (s.setLane k v).dir = s.dir := rfl
@[simp] theorem State.setLane_cache (v : LaneBuf) : (s.setLane k v).cache = s.cache := rfl
@[simp] theorem State.setLane_dram (v : LaneBuf) : (s.setLane k v).dram = s.dram := rfl
@[simp] theorem State.setLane_lines (v : LaneBuf) : (s.setLane k v).lines = s.lines := rfl
@[simp] theorem State.setLane_dramStacks (v : LaneBuf) : (s.setLane k v).dramStacks = s.dramStacks := rfl
@[simp] theorem State.setLane_patrolHours (v : LaneBuf) : (s.setLane k v).patrolHours = s.patrolHours := rfl
@[simp] theorem State.setLane_priTimeout (v : LaneBuf) : (s.setLane k v).priTimeout = s.priTimeout := rfl
@[simp] theorem State.setLane_rowErrs (v : LaneBuf) : (s.setLane k v).rowErrs = s.rowErrs := rfl
@[simp] theorem State.setLane_tlb (v : LaneBuf) : (s.setLane k v).tlb = s.tlb := rfl
@[simp] theorem State.setLane_ptw (v : LaneBuf) : (s.setLane k v).ptw = s.ptw := rfl
@[simp] theorem State.setLane_lineWaits (v : LaneBuf) : (s.setLane k v).lineWaits = s.lineWaits := rfl
@[simp] theorem State.setLane_ats (v : LaneBuf) : (s.setLane k v).ats = s.ats := rfl
@[simp] theorem State.setLane_atsReqs (v : LaneBuf) : (s.setLane k v).atsReqs = s.atsReqs := rfl
@[simp] theorem State.setLane_priReqs (v : LaneBuf) : (s.setLane k v).priReqs = s.priReqs := rfl
@[simp] theorem State.setLane_dies (v : LaneBuf) : (s.setLane k v).dies = s.dies := rfl
@[simp] theorem State.setLane_digestPairs (v : LaneBuf) : (s.setLane k v).digestPairs = s.digestPairs := rfl
@[simp] theorem State.setLane_log (v : LaneBuf) : (s.setLane k v).log = s.log := rfl
@[simp] theorem State.setLane_par (v : LaneBuf) : (s.setLane k v).par = s.par := rfl
@[simp] theorem State.setLane_ethPorts (v : LaneBuf) : (s.setLane k v).ethPorts = s.ethPorts := rfl
@[simp] theorem State.setLane_flows (v : LaneBuf) : (s.setLane k v).flows = s.flows := rfl
@[simp] theorem State.setLane_vlt (v : LaneBuf) : (s.setLane k v).vlt = s.vlt := rfl
@[simp] theorem State.setLane_tdis (v : LaneBuf) : (s.setLane k v).tdis = s.tdis := rfl
@[simp] theorem State.setLane_rst (v : LaneBuf) : (s.setLane k v).rst = s.rst := rfl
@[simp] theorem State.setLane_fw (v : LaneBuf) : (s.setLane k v).fw = s.fw := rfl
@[simp] theorem State.setLane_vnt (v : LaneBuf) : (s.setLane k v).vnt = s.vnt := rfl
@[simp] theorem State.setLane_tap (v : LaneBuf) : (s.setLane k v).tap = s.tap := rfl
@[simp] theorem State.setLane_moves (v : LaneBuf) : (s.setLane k v).moves = s.moves := rfl
@[simp] theorem State.setLane_mus (v : LaneBuf) : (s.setLane k v).mus = s.mus := rfl
@[simp] theorem State.setLane_ahead (v : LaneBuf) : (s.setLane k v).ahead = s.ahead := rfl
@[simp] theorem State.setLane_bar2Waits (v : LaneBuf) : (s.setLane k v).bar2Waits = s.bar2Waits := rfl
@[simp] theorem State.setLane_hub_ (v : LaneBuf) : (s.setLane k v).hub j = s.hub j := rfl
@[simp] theorem State.setLane_port_ (v : LaneBuf) : (s.setLane k v).port j = s.port j := rfl
@[simp] theorem State.setLane_link_ (v : LaneBuf) : (s.setLane k v).link j = s.link j := rfl
@[simp] theorem State.setLane_mbox_ (v : LaneBuf) : (s.setLane k v).mbox j = s.mbox j := rfl
@[simp] theorem State.setLane_fnSt_ (v : LaneBuf) : (s.setLane k v).fnSt j = s.fnSt j := rfl
@[simp] theorem State.setLane_msixEnt_ (v : LaneBuf) : (s.setLane k v).msixEnt j = s.msixEnt j := rfl
@[simp] theorem State.setLane_peer_ (v : LaneBuf) : (s.setLane k v).peer j = s.peer j := rfl
@[simp] theorem State.setLane_half_ (v : LaneBuf) : (s.setLane k v).half j = s.half j := rfl
@[simp] theorem State.setLane_cell_ (v : LaneBuf) : (s.setLane k v).cell j = s.cell j := rfl
@[simp] theorem State.setLane_ext_ (v : LaneBuf) : (s.setLane k v).ext j = s.ext j := rfl
@[simp] theorem State.setLane_vf_ (v : LaneBuf) : (s.setLane k v).vf j = s.vf j := rfl
@[simp] theorem State.setLane_unit_ (v : LaneBuf) : (s.setLane k v).unit j = s.unit j := rfl
@[simp] theorem State.setLane_wing_ (v : LaneBuf) : (s.setLane k v).wing j = s.wing j := rfl
@[simp] theorem State.setLane_que_ (v : LaneBuf) : (s.setLane k v).que j = s.que j := rfl
@[simp] theorem State.setLane_doc_ (v : LaneBuf) : (s.setLane k v).doc j = s.doc j := rfl
@[simp] theorem State.setLane_arb_ (v : LaneBuf) : (s.setLane k v).arb j = s.arb j := rfl
@[simp] theorem State.setLane_table_ (v : LaneBuf) : (s.setLane k v).table j = s.table j := rfl
@[simp] theorem State.setLane_cat_ (v : LaneBuf) : (s.setLane k v).cat j = s.cat j := rfl
@[simp] theorem State.setLane_line_ (v : LaneBuf) : (s.setLane k v).line j = s.line j := rfl
@[simp] theorem State.setLane_stack_ (v : LaneBuf) : (s.setLane k v).stack j = s.stack j := rfl
@[simp] theorem State.setLane_die_ (v : LaneBuf) : (s.setLane k v).die j = s.die j := rfl
@[simp] theorem State.setLane_eth_ (v : LaneBuf) : (s.setLane k v).eth j = s.eth j := rfl
@[simp] theorem State.setLane_flow_ (v : LaneBuf) : (s.setLane k v).flow j = s.flow j := rfl
@[simp] theorem State.setLane_tdi_ (v : LaneBuf) : (s.setLane k v).tdi j = s.tdi j := rfl
@[simp] theorem State.setLane_mu_ (v : LaneBuf) : (s.setLane k v).mu j = s.mu j := rfl

/-! ### setTable -/

@[simp] theorem State.updTable_eq (f : Option Table → Option Table) : s.updTable k f = s.setTable k (f (s.table k)) := rfl
theorem State.table_setTable (v : Option Table) : (s.setTable k v).table j = if j = k then v else s.table j := Tbl.get_set ..
@[simp] theorem State.table_setTable_same (v : Option Table) : (s.setTable k v).table k = v := Tbl.get_set_same ..
@[simp] theorem State.setTable_pending (v : Option Table) : (s.setTable k v).pending = s.pending := rfl
@[simp] theorem State.setTable_out (v : Option Table) : (s.setTable k v).out = s.out := rfl
@[simp] theorem State.setTable_freeCtr (v : Option Table) : (s.setTable k v).freeCtr = s.freeCtr := rfl
@[simp] theorem State.setTable_clk (v : Option Table) : (s.setTable k v).clk = s.clk := rfl
@[simp] theorem State.setTable_plinth (v : Option Table) : (s.setTable k v).plinth = s.plinth := rfl
@[simp] theorem State.setTable_hubs (v : Option Table) : (s.setTable k v).hubs = s.hubs := rfl
@[simp] theorem State.setTable_hubLinkUp (v : Option Table) : (s.setTable k v).hubLinkUp = s.hubLinkUp := rfl
@[simp] theorem State.setTable_ports (v : Option Table) : (s.setTable k v).ports = s.ports := rfl
@[simp] theorem State.setTable_links (v : Option Table) : (s.setTable k v).links = s.links := rfl
@[simp] theorem State.setTable_noAuthority (v : Option Table) : (s.setTable k v).noAuthority = s.noAuthority := rfl
@[simp] theorem State.setTable_lastDispatch (v : Option Table) : (s.setTable k v).lastDispatch = s.lastDispatch := rfl
@[simp] theorem State.setTable_mbx (v : Option Table) : (s.setTable k v).mbx = s.mbx := rfl
@[simp] theorem State.setTable_fns (v : Option Table) : (s.setTable k v).fns = s.fns := rfl
@[simp] theorem State.setTable_msix (v : Option Table) : (s.setTable k v).msix = s.msix := rfl
@[simp] theorem State.setTable_pcie (v : Option Table) : (s.setTable k v).pcie = s.pcie := rfl
@[simp] theorem State.setTable_peers (v : Option Table) : (s.setTable k v).peers = s.peers := rfl
@[simp] theorem State.setTable_halfCells (v : Option Table) : (s.setTable k v).halfCells = s.halfCells := rfl
@[simp] theorem State.setTable_cells (v : Option Table) : (s.setTable k v).cells = s.cells := rfl
@[simp] theorem State.setTable_extents (v : Option Table) : (s.setTable k v).extents = s.extents := rfl
@[simp] theorem State.setTable_vfs (v : Option Table) : (s.setTable k v).vfs = s.vfs := rfl
@[simp] theorem State.setTable_units (v : Option Table) : (s.setTable k v).units = s.units := rfl
@[simp] theorem State.setTable_wings (v : Option Table) : (s.setTable k v).wings = s.wings := rfl
@[simp] theorem State.setTable_noWing (v : Option Table) : (s.setTable k v).noWing = s.noWing := rfl
@[simp] theorem State.setTable_noWingSince (v : Option Table) : (s.setTable k v).noWingSince = s.noWingSince := rfl
@[simp] theorem State.setTable_noWingAt (v : Option Table) : (s.setTable k v).noWingAt = s.noWingAt := rfl
@[simp] theorem State.setTable_queues (v : Option Table) : (s.setTable k v).queues = s.queues := rfl
@[simp] theorem State.setTable_reqs (v : Option Table) : (s.setTable k v).reqs = s.reqs := rfl
@[simp] theorem State.setTable_nextReq (v : Option Table) : (s.setTable k v).nextReq = s.nextReq := rfl
@[simp] theorem State.setTable_images (v : Option Table) : (s.setTable k v).images = s.images := rfl
@[simp] theorem State.setTable_docents (v : Option Table) : (s.setTable k v).docents = s.docents := rfl
@[simp] theorem State.setTable_launches (v : Option Table) : (s.setTable k v).launches = s.launches := rfl
@[simp] theorem State.setTable_arbs (v : Option Table) : (s.setTable k v).arbs = s.arbs := rfl
@[simp] theorem State.setTable_batches (v : Option Table) : (s.setTable k v).batches = s.batches := rfl
@[simp] theorem State.setTable_dups (v : Option Table) : (s.setTable k v).dups = s.dups := rfl
@[simp] theorem State.setTable_sp (v : Option Table) : (s.setTable k v).sp = s.sp := rfl
@[simp] theorem State.setTable_spBad (v : Option Table) : (s.setTable k v).spBad = s.spBad := rfl
@[simp] theorem State.setTable_ckpts (v : Option Table) : (s.setTable k v).ckpts = s.ckpts := rfl
@[simp] theorem State.setTable_ckptCount (v : Option Table) : (s.setTable k v).ckptCount = s.ckptCount := rfl
@[simp] theorem State.setTable_cats (v : Option Table) : (s.setTable k v).cats = s.cats := rfl
@[simp] theorem State.setTable_dir (v : Option Table) : (s.setTable k v).dir = s.dir := rfl
@[simp] theorem State.setTable_cache (v : Option Table) : (s.setTable k v).cache = s.cache := rfl
@[simp] theorem State.setTable_dram (v : Option Table) : (s.setTable k v).dram = s.dram := rfl
@[simp] theorem State.setTable_lines (v : Option Table) : (s.setTable k v).lines = s.lines := rfl
@[simp] theorem State.setTable_dramStacks (v : Option Table) : (s.setTable k v).dramStacks = s.dramStacks := rfl
@[simp] theorem State.setTable_patrolHours (v : Option Table) : (s.setTable k v).patrolHours = s.patrolHours := rfl
@[simp] theorem State.setTable_priTimeout (v : Option Table) : (s.setTable k v).priTimeout = s.priTimeout := rfl
@[simp] theorem State.setTable_rowErrs (v : Option Table) : (s.setTable k v).rowErrs = s.rowErrs := rfl
@[simp] theorem State.setTable_tlb (v : Option Table) : (s.setTable k v).tlb = s.tlb := rfl
@[simp] theorem State.setTable_ptw (v : Option Table) : (s.setTable k v).ptw = s.ptw := rfl
@[simp] theorem State.setTable_lineWaits (v : Option Table) : (s.setTable k v).lineWaits = s.lineWaits := rfl
@[simp] theorem State.setTable_ats (v : Option Table) : (s.setTable k v).ats = s.ats := rfl
@[simp] theorem State.setTable_atsReqs (v : Option Table) : (s.setTable k v).atsReqs = s.atsReqs := rfl
@[simp] theorem State.setTable_priReqs (v : Option Table) : (s.setTable k v).priReqs = s.priReqs := rfl
@[simp] theorem State.setTable_dies (v : Option Table) : (s.setTable k v).dies = s.dies := rfl
@[simp] theorem State.setTable_digestPairs (v : Option Table) : (s.setTable k v).digestPairs = s.digestPairs := rfl
@[simp] theorem State.setTable_log (v : Option Table) : (s.setTable k v).log = s.log := rfl
@[simp] theorem State.setTable_par (v : Option Table) : (s.setTable k v).par = s.par := rfl
@[simp] theorem State.setTable_ethPorts (v : Option Table) : (s.setTable k v).ethPorts = s.ethPorts := rfl
@[simp] theorem State.setTable_flows (v : Option Table) : (s.setTable k v).flows = s.flows := rfl
@[simp] theorem State.setTable_vlt (v : Option Table) : (s.setTable k v).vlt = s.vlt := rfl
@[simp] theorem State.setTable_tdis (v : Option Table) : (s.setTable k v).tdis = s.tdis := rfl
@[simp] theorem State.setTable_rst (v : Option Table) : (s.setTable k v).rst = s.rst := rfl
@[simp] theorem State.setTable_fw (v : Option Table) : (s.setTable k v).fw = s.fw := rfl
@[simp] theorem State.setTable_vnt (v : Option Table) : (s.setTable k v).vnt = s.vnt := rfl
@[simp] theorem State.setTable_tap (v : Option Table) : (s.setTable k v).tap = s.tap := rfl
@[simp] theorem State.setTable_moves (v : Option Table) : (s.setTable k v).moves = s.moves := rfl
@[simp] theorem State.setTable_mus (v : Option Table) : (s.setTable k v).mus = s.mus := rfl
@[simp] theorem State.setTable_lanes (v : Option Table) : (s.setTable k v).lanes = s.lanes := rfl
@[simp] theorem State.setTable_ahead (v : Option Table) : (s.setTable k v).ahead = s.ahead := rfl
@[simp] theorem State.setTable_bar2Waits (v : Option Table) : (s.setTable k v).bar2Waits = s.bar2Waits := rfl
@[simp] theorem State.setTable_hub_ (v : Option Table) : (s.setTable k v).hub j = s.hub j := rfl
@[simp] theorem State.setTable_port_ (v : Option Table) : (s.setTable k v).port j = s.port j := rfl
@[simp] theorem State.setTable_link_ (v : Option Table) : (s.setTable k v).link j = s.link j := rfl
@[simp] theorem State.setTable_mbox_ (v : Option Table) : (s.setTable k v).mbox j = s.mbox j := rfl
@[simp] theorem State.setTable_fnSt_ (v : Option Table) : (s.setTable k v).fnSt j = s.fnSt j := rfl
@[simp] theorem State.setTable_msixEnt_ (v : Option Table) : (s.setTable k v).msixEnt j = s.msixEnt j := rfl
@[simp] theorem State.setTable_peer_ (v : Option Table) : (s.setTable k v).peer j = s.peer j := rfl
@[simp] theorem State.setTable_half_ (v : Option Table) : (s.setTable k v).half j = s.half j := rfl
@[simp] theorem State.setTable_cell_ (v : Option Table) : (s.setTable k v).cell j = s.cell j := rfl
@[simp] theorem State.setTable_ext_ (v : Option Table) : (s.setTable k v).ext j = s.ext j := rfl
@[simp] theorem State.setTable_vf_ (v : Option Table) : (s.setTable k v).vf j = s.vf j := rfl
@[simp] theorem State.setTable_unit_ (v : Option Table) : (s.setTable k v).unit j = s.unit j := rfl
@[simp] theorem State.setTable_wing_ (v : Option Table) : (s.setTable k v).wing j = s.wing j := rfl
@[simp] theorem State.setTable_que_ (v : Option Table) : (s.setTable k v).que j = s.que j := rfl
@[simp] theorem State.setTable_doc_ (v : Option Table) : (s.setTable k v).doc j = s.doc j := rfl
@[simp] theorem State.setTable_arb_ (v : Option Table) : (s.setTable k v).arb j = s.arb j := rfl
@[simp] theorem State.setTable_cat_ (v : Option Table) : (s.setTable k v).cat j = s.cat j := rfl
@[simp] theorem State.setTable_line_ (v : Option Table) : (s.setTable k v).line j = s.line j := rfl
@[simp] theorem State.setTable_stack_ (v : Option Table) : (s.setTable k v).stack j = s.stack j := rfl
@[simp] theorem State.setTable_die_ (v : Option Table) : (s.setTable k v).die j = s.die j := rfl
@[simp] theorem State.setTable_eth_ (v : Option Table) : (s.setTable k v).eth j = s.eth j := rfl
@[simp] theorem State.setTable_flow_ (v : Option Table) : (s.setTable k v).flow j = s.flow j := rfl
@[simp] theorem State.setTable_tdi_ (v : Option Table) : (s.setTable k v).tdi j = s.tdi j := rfl
@[simp] theorem State.setTable_mu_ (v : Option Table) : (s.setTable k v).mu j = s.mu j := rfl
@[simp] theorem State.setTable_lane_ (v : Option Table) : (s.setTable k v).lane j = s.lane j := rfl

/-! ### setCat -/

@[simp] theorem State.updCat_eq (f : Cat → Cat) : s.updCat k f = s.setCat k (f (s.cat k)) := rfl
theorem State.cat_setCat (v : Cat) : (s.setCat k v).cat j = if j = k then v else s.cat j := Tbl.get_set ..
@[simp] theorem State.cat_setCat_same (v : Cat) : (s.setCat k v).cat k = v := Tbl.get_set_same ..
@[simp] theorem State.setCat_pending (v : Cat) : (s.setCat k v).pending = s.pending := rfl
@[simp] theorem State.setCat_out (v : Cat) : (s.setCat k v).out = s.out := rfl
@[simp] theorem State.setCat_freeCtr (v : Cat) : (s.setCat k v).freeCtr = s.freeCtr := rfl
@[simp] theorem State.setCat_clk (v : Cat) : (s.setCat k v).clk = s.clk := rfl
@[simp] theorem State.setCat_plinth (v : Cat) : (s.setCat k v).plinth = s.plinth := rfl
@[simp] theorem State.setCat_hubs (v : Cat) : (s.setCat k v).hubs = s.hubs := rfl
@[simp] theorem State.setCat_hubLinkUp (v : Cat) : (s.setCat k v).hubLinkUp = s.hubLinkUp := rfl
@[simp] theorem State.setCat_ports (v : Cat) : (s.setCat k v).ports = s.ports := rfl
@[simp] theorem State.setCat_links (v : Cat) : (s.setCat k v).links = s.links := rfl
@[simp] theorem State.setCat_noAuthority (v : Cat) : (s.setCat k v).noAuthority = s.noAuthority := rfl
@[simp] theorem State.setCat_lastDispatch (v : Cat) : (s.setCat k v).lastDispatch = s.lastDispatch := rfl
@[simp] theorem State.setCat_mbx (v : Cat) : (s.setCat k v).mbx = s.mbx := rfl
@[simp] theorem State.setCat_fns (v : Cat) : (s.setCat k v).fns = s.fns := rfl
@[simp] theorem State.setCat_msix (v : Cat) : (s.setCat k v).msix = s.msix := rfl
@[simp] theorem State.setCat_pcie (v : Cat) : (s.setCat k v).pcie = s.pcie := rfl
@[simp] theorem State.setCat_peers (v : Cat) : (s.setCat k v).peers = s.peers := rfl
@[simp] theorem State.setCat_halfCells (v : Cat) : (s.setCat k v).halfCells = s.halfCells := rfl
@[simp] theorem State.setCat_cells (v : Cat) : (s.setCat k v).cells = s.cells := rfl
@[simp] theorem State.setCat_extents (v : Cat) : (s.setCat k v).extents = s.extents := rfl
@[simp] theorem State.setCat_vfs (v : Cat) : (s.setCat k v).vfs = s.vfs := rfl
@[simp] theorem State.setCat_units (v : Cat) : (s.setCat k v).units = s.units := rfl
@[simp] theorem State.setCat_wings (v : Cat) : (s.setCat k v).wings = s.wings := rfl
@[simp] theorem State.setCat_noWing (v : Cat) : (s.setCat k v).noWing = s.noWing := rfl
@[simp] theorem State.setCat_noWingSince (v : Cat) : (s.setCat k v).noWingSince = s.noWingSince := rfl
@[simp] theorem State.setCat_noWingAt (v : Cat) : (s.setCat k v).noWingAt = s.noWingAt := rfl
@[simp] theorem State.setCat_queues (v : Cat) : (s.setCat k v).queues = s.queues := rfl
@[simp] theorem State.setCat_reqs (v : Cat) : (s.setCat k v).reqs = s.reqs := rfl
@[simp] theorem State.setCat_nextReq (v : Cat) : (s.setCat k v).nextReq = s.nextReq := rfl
@[simp] theorem State.setCat_images (v : Cat) : (s.setCat k v).images = s.images := rfl
@[simp] theorem State.setCat_docents (v : Cat) : (s.setCat k v).docents = s.docents := rfl
@[simp] theorem State.setCat_launches (v : Cat) : (s.setCat k v).launches = s.launches := rfl
@[simp] theorem State.setCat_arbs (v : Cat) : (s.setCat k v).arbs = s.arbs := rfl
@[simp] theorem State.setCat_batches (v : Cat) : (s.setCat k v).batches = s.batches := rfl
@[simp] theorem State.setCat_dups (v : Cat) : (s.setCat k v).dups = s.dups := rfl
@[simp] theorem State.setCat_sp (v : Cat) : (s.setCat k v).sp = s.sp := rfl
@[simp] theorem State.setCat_spBad (v : Cat) : (s.setCat k v).spBad = s.spBad := rfl
@[simp] theorem State.setCat_ckpts (v : Cat) : (s.setCat k v).ckpts = s.ckpts := rfl
@[simp] theorem State.setCat_ckptCount (v : Cat) : (s.setCat k v).ckptCount = s.ckptCount := rfl
@[simp] theorem State.setCat_tables (v : Cat) : (s.setCat k v).tables = s.tables := rfl
@[simp] theorem State.setCat_dir (v : Cat) : (s.setCat k v).dir = s.dir := rfl
@[simp] theorem State.setCat_cache (v : Cat) : (s.setCat k v).cache = s.cache := rfl
@[simp] theorem State.setCat_dram (v : Cat) : (s.setCat k v).dram = s.dram := rfl
@[simp] theorem State.setCat_lines (v : Cat) : (s.setCat k v).lines = s.lines := rfl
@[simp] theorem State.setCat_dramStacks (v : Cat) : (s.setCat k v).dramStacks = s.dramStacks := rfl
@[simp] theorem State.setCat_patrolHours (v : Cat) : (s.setCat k v).patrolHours = s.patrolHours := rfl
@[simp] theorem State.setCat_priTimeout (v : Cat) : (s.setCat k v).priTimeout = s.priTimeout := rfl
@[simp] theorem State.setCat_rowErrs (v : Cat) : (s.setCat k v).rowErrs = s.rowErrs := rfl
@[simp] theorem State.setCat_tlb (v : Cat) : (s.setCat k v).tlb = s.tlb := rfl
@[simp] theorem State.setCat_ptw (v : Cat) : (s.setCat k v).ptw = s.ptw := rfl
@[simp] theorem State.setCat_lineWaits (v : Cat) : (s.setCat k v).lineWaits = s.lineWaits := rfl
@[simp] theorem State.setCat_ats (v : Cat) : (s.setCat k v).ats = s.ats := rfl
@[simp] theorem State.setCat_atsReqs (v : Cat) : (s.setCat k v).atsReqs = s.atsReqs := rfl
@[simp] theorem State.setCat_priReqs (v : Cat) : (s.setCat k v).priReqs = s.priReqs := rfl
@[simp] theorem State.setCat_dies (v : Cat) : (s.setCat k v).dies = s.dies := rfl
@[simp] theorem State.setCat_digestPairs (v : Cat) : (s.setCat k v).digestPairs = s.digestPairs := rfl
@[simp] theorem State.setCat_log (v : Cat) : (s.setCat k v).log = s.log := rfl
@[simp] theorem State.setCat_par (v : Cat) : (s.setCat k v).par = s.par := rfl
@[simp] theorem State.setCat_ethPorts (v : Cat) : (s.setCat k v).ethPorts = s.ethPorts := rfl
@[simp] theorem State.setCat_flows (v : Cat) : (s.setCat k v).flows = s.flows := rfl
@[simp] theorem State.setCat_vlt (v : Cat) : (s.setCat k v).vlt = s.vlt := rfl
@[simp] theorem State.setCat_tdis (v : Cat) : (s.setCat k v).tdis = s.tdis := rfl
@[simp] theorem State.setCat_rst (v : Cat) : (s.setCat k v).rst = s.rst := rfl
@[simp] theorem State.setCat_fw (v : Cat) : (s.setCat k v).fw = s.fw := rfl
@[simp] theorem State.setCat_vnt (v : Cat) : (s.setCat k v).vnt = s.vnt := rfl
@[simp] theorem State.setCat_tap (v : Cat) : (s.setCat k v).tap = s.tap := rfl
@[simp] theorem State.setCat_moves (v : Cat) : (s.setCat k v).moves = s.moves := rfl
@[simp] theorem State.setCat_mus (v : Cat) : (s.setCat k v).mus = s.mus := rfl
@[simp] theorem State.setCat_lanes (v : Cat) : (s.setCat k v).lanes = s.lanes := rfl
@[simp] theorem State.setCat_ahead (v : Cat) : (s.setCat k v).ahead = s.ahead := rfl
@[simp] theorem State.setCat_bar2Waits (v : Cat) : (s.setCat k v).bar2Waits = s.bar2Waits := rfl
@[simp] theorem State.setCat_hub_ (v : Cat) : (s.setCat k v).hub j = s.hub j := rfl
@[simp] theorem State.setCat_port_ (v : Cat) : (s.setCat k v).port j = s.port j := rfl
@[simp] theorem State.setCat_link_ (v : Cat) : (s.setCat k v).link j = s.link j := rfl
@[simp] theorem State.setCat_mbox_ (v : Cat) : (s.setCat k v).mbox j = s.mbox j := rfl
@[simp] theorem State.setCat_fnSt_ (v : Cat) : (s.setCat k v).fnSt j = s.fnSt j := rfl
@[simp] theorem State.setCat_msixEnt_ (v : Cat) : (s.setCat k v).msixEnt j = s.msixEnt j := rfl
@[simp] theorem State.setCat_peer_ (v : Cat) : (s.setCat k v).peer j = s.peer j := rfl
@[simp] theorem State.setCat_half_ (v : Cat) : (s.setCat k v).half j = s.half j := rfl
@[simp] theorem State.setCat_cell_ (v : Cat) : (s.setCat k v).cell j = s.cell j := rfl
@[simp] theorem State.setCat_ext_ (v : Cat) : (s.setCat k v).ext j = s.ext j := rfl
@[simp] theorem State.setCat_vf_ (v : Cat) : (s.setCat k v).vf j = s.vf j := rfl
@[simp] theorem State.setCat_unit_ (v : Cat) : (s.setCat k v).unit j = s.unit j := rfl
@[simp] theorem State.setCat_wing_ (v : Cat) : (s.setCat k v).wing j = s.wing j := rfl
@[simp] theorem State.setCat_que_ (v : Cat) : (s.setCat k v).que j = s.que j := rfl
@[simp] theorem State.setCat_doc_ (v : Cat) : (s.setCat k v).doc j = s.doc j := rfl
@[simp] theorem State.setCat_arb_ (v : Cat) : (s.setCat k v).arb j = s.arb j := rfl
@[simp] theorem State.setCat_table_ (v : Cat) : (s.setCat k v).table j = s.table j := rfl
@[simp] theorem State.setCat_line_ (v : Cat) : (s.setCat k v).line j = s.line j := rfl
@[simp] theorem State.setCat_stack_ (v : Cat) : (s.setCat k v).stack j = s.stack j := rfl
@[simp] theorem State.setCat_die_ (v : Cat) : (s.setCat k v).die j = s.die j := rfl
@[simp] theorem State.setCat_eth_ (v : Cat) : (s.setCat k v).eth j = s.eth j := rfl
@[simp] theorem State.setCat_flow_ (v : Cat) : (s.setCat k v).flow j = s.flow j := rfl
@[simp] theorem State.setCat_tdi_ (v : Cat) : (s.setCat k v).tdi j = s.tdi j := rfl
@[simp] theorem State.setCat_mu_ (v : Cat) : (s.setCat k v).mu j = s.mu j := rfl
@[simp] theorem State.setCat_lane_ (v : Cat) : (s.setCat k v).lane j = s.lane j := rfl

/-! ### setLine -/

@[simp] theorem State.updLine_eq (f : LineMeta → LineMeta) : s.updLine k f = s.setLine k (f (s.line k)) := rfl
theorem State.line_setLine (v : LineMeta) : (s.setLine k v).line j = if j = k then v else s.line j := Tbl.get_set ..
@[simp] theorem State.line_setLine_same (v : LineMeta) : (s.setLine k v).line k = v := Tbl.get_set_same ..
@[simp] theorem State.setLine_pending (v : LineMeta) : (s.setLine k v).pending = s.pending := rfl
@[simp] theorem State.setLine_out (v : LineMeta) : (s.setLine k v).out = s.out := rfl
@[simp] theorem State.setLine_freeCtr (v : LineMeta) : (s.setLine k v).freeCtr = s.freeCtr := rfl
@[simp] theorem State.setLine_clk (v : LineMeta) : (s.setLine k v).clk = s.clk := rfl
@[simp] theorem State.setLine_plinth (v : LineMeta) : (s.setLine k v).plinth = s.plinth := rfl
@[simp] theorem State.setLine_hubs (v : LineMeta) : (s.setLine k v).hubs = s.hubs := rfl
@[simp] theorem State.setLine_hubLinkUp (v : LineMeta) : (s.setLine k v).hubLinkUp = s.hubLinkUp := rfl
@[simp] theorem State.setLine_ports (v : LineMeta) : (s.setLine k v).ports = s.ports := rfl
@[simp] theorem State.setLine_links (v : LineMeta) : (s.setLine k v).links = s.links := rfl
@[simp] theorem State.setLine_noAuthority (v : LineMeta) : (s.setLine k v).noAuthority = s.noAuthority := rfl
@[simp] theorem State.setLine_lastDispatch (v : LineMeta) : (s.setLine k v).lastDispatch = s.lastDispatch := rfl
@[simp] theorem State.setLine_mbx (v : LineMeta) : (s.setLine k v).mbx = s.mbx := rfl
@[simp] theorem State.setLine_fns (v : LineMeta) : (s.setLine k v).fns = s.fns := rfl
@[simp] theorem State.setLine_msix (v : LineMeta) : (s.setLine k v).msix = s.msix := rfl
@[simp] theorem State.setLine_pcie (v : LineMeta) : (s.setLine k v).pcie = s.pcie := rfl
@[simp] theorem State.setLine_peers (v : LineMeta) : (s.setLine k v).peers = s.peers := rfl
@[simp] theorem State.setLine_halfCells (v : LineMeta) : (s.setLine k v).halfCells = s.halfCells := rfl
@[simp] theorem State.setLine_cells (v : LineMeta) : (s.setLine k v).cells = s.cells := rfl
@[simp] theorem State.setLine_extents (v : LineMeta) : (s.setLine k v).extents = s.extents := rfl
@[simp] theorem State.setLine_vfs (v : LineMeta) : (s.setLine k v).vfs = s.vfs := rfl
@[simp] theorem State.setLine_units (v : LineMeta) : (s.setLine k v).units = s.units := rfl
@[simp] theorem State.setLine_wings (v : LineMeta) : (s.setLine k v).wings = s.wings := rfl
@[simp] theorem State.setLine_noWing (v : LineMeta) : (s.setLine k v).noWing = s.noWing := rfl
@[simp] theorem State.setLine_noWingSince (v : LineMeta) : (s.setLine k v).noWingSince = s.noWingSince := rfl
@[simp] theorem State.setLine_noWingAt (v : LineMeta) : (s.setLine k v).noWingAt = s.noWingAt := rfl
@[simp] theorem State.setLine_queues (v : LineMeta) : (s.setLine k v).queues = s.queues := rfl
@[simp] theorem State.setLine_reqs (v : LineMeta) : (s.setLine k v).reqs = s.reqs := rfl
@[simp] theorem State.setLine_nextReq (v : LineMeta) : (s.setLine k v).nextReq = s.nextReq := rfl
@[simp] theorem State.setLine_images (v : LineMeta) : (s.setLine k v).images = s.images := rfl
@[simp] theorem State.setLine_docents (v : LineMeta) : (s.setLine k v).docents = s.docents := rfl
@[simp] theorem State.setLine_launches (v : LineMeta) : (s.setLine k v).launches = s.launches := rfl
@[simp] theorem State.setLine_arbs (v : LineMeta) : (s.setLine k v).arbs = s.arbs := rfl
@[simp] theorem State.setLine_batches (v : LineMeta) : (s.setLine k v).batches = s.batches := rfl
@[simp] theorem State.setLine_dups (v : LineMeta) : (s.setLine k v).dups = s.dups := rfl
@[simp] theorem State.setLine_sp (v : LineMeta) : (s.setLine k v).sp = s.sp := rfl
@[simp] theorem State.setLine_spBad (v : LineMeta) : (s.setLine k v).spBad = s.spBad := rfl
@[simp] theorem State.setLine_ckpts (v : LineMeta) : (s.setLine k v).ckpts = s.ckpts := rfl
@[simp] theorem State.setLine_ckptCount (v : LineMeta) : (s.setLine k v).ckptCount = s.ckptCount := rfl
@[simp] theorem State.setLine_tables (v : LineMeta) : (s.setLine k v).tables = s.tables := rfl
@[simp] theorem State.setLine_cats (v : LineMeta) : (s.setLine k v).cats = s.cats := rfl
@[simp] theorem State.setLine_dir (v : LineMeta) : (s.setLine k v).dir = s.dir := rfl
@[simp] theorem State.setLine_cache (v : LineMeta) : (s.setLine k v).cache = s.cache := rfl
@[simp] theorem State.setLine_dram (v : LineMeta) : (s.setLine k v).dram = s.dram := rfl
@[simp] theorem State.setLine_dramStacks (v : LineMeta) : (s.setLine k v).dramStacks = s.dramStacks := rfl
@[simp] theorem State.setLine_patrolHours (v : LineMeta) : (s.setLine k v).patrolHours = s.patrolHours := rfl
@[simp] theorem State.setLine_priTimeout (v : LineMeta) : (s.setLine k v).priTimeout = s.priTimeout := rfl
@[simp] theorem State.setLine_rowErrs (v : LineMeta) : (s.setLine k v).rowErrs = s.rowErrs := rfl
@[simp] theorem State.setLine_tlb (v : LineMeta) : (s.setLine k v).tlb = s.tlb := rfl
@[simp] theorem State.setLine_ptw (v : LineMeta) : (s.setLine k v).ptw = s.ptw := rfl
@[simp] theorem State.setLine_lineWaits (v : LineMeta) : (s.setLine k v).lineWaits = s.lineWaits := rfl
@[simp] theorem State.setLine_ats (v : LineMeta) : (s.setLine k v).ats = s.ats := rfl
@[simp] theorem State.setLine_atsReqs (v : LineMeta) : (s.setLine k v).atsReqs = s.atsReqs := rfl
@[simp] theorem State.setLine_priReqs (v : LineMeta) : (s.setLine k v).priReqs = s.priReqs := rfl
@[simp] theorem State.setLine_dies (v : LineMeta) : (s.setLine k v).dies = s.dies := rfl
@[simp] theorem State.setLine_digestPairs (v : LineMeta) : (s.setLine k v).digestPairs = s.digestPairs := rfl
@[simp] theorem State.setLine_log (v : LineMeta) : (s.setLine k v).log = s.log := rfl
@[simp] theorem State.setLine_par (v : LineMeta) : (s.setLine k v).par = s.par := rfl
@[simp] theorem State.setLine_ethPorts (v : LineMeta) : (s.setLine k v).ethPorts = s.ethPorts := rfl
@[simp] theorem State.setLine_flows (v : LineMeta) : (s.setLine k v).flows = s.flows := rfl
@[simp] theorem State.setLine_vlt (v : LineMeta) : (s.setLine k v).vlt = s.vlt := rfl
@[simp] theorem State.setLine_tdis (v : LineMeta) : (s.setLine k v).tdis = s.tdis := rfl
@[simp] theorem State.setLine_rst (v : LineMeta) : (s.setLine k v).rst = s.rst := rfl
@[simp] theorem State.setLine_fw (v : LineMeta) : (s.setLine k v).fw = s.fw := rfl
@[simp] theorem State.setLine_vnt (v : LineMeta) : (s.setLine k v).vnt = s.vnt := rfl
@[simp] theorem State.setLine_tap (v : LineMeta) : (s.setLine k v).tap = s.tap := rfl
@[simp] theorem State.setLine_moves (v : LineMeta) : (s.setLine k v).moves = s.moves := rfl
@[simp] theorem State.setLine_mus (v : LineMeta) : (s.setLine k v).mus = s.mus := rfl
@[simp] theorem State.setLine_lanes (v : LineMeta) : (s.setLine k v).lanes = s.lanes := rfl
@[simp] theorem State.setLine_ahead (v : LineMeta) : (s.setLine k v).ahead = s.ahead := rfl
@[simp] theorem State.setLine_bar2Waits (v : LineMeta) : (s.setLine k v).bar2Waits = s.bar2Waits := rfl
@[simp] theorem State.setLine_hub_ (v : LineMeta) : (s.setLine k v).hub j = s.hub j := rfl
@[simp] theorem State.setLine_port_ (v : LineMeta) : (s.setLine k v).port j = s.port j := rfl
@[simp] theorem State.setLine_link_ (v : LineMeta) : (s.setLine k v).link j = s.link j := rfl
@[simp] theorem State.setLine_mbox_ (v : LineMeta) : (s.setLine k v).mbox j = s.mbox j := rfl
@[simp] theorem State.setLine_fnSt_ (v : LineMeta) : (s.setLine k v).fnSt j = s.fnSt j := rfl
@[simp] theorem State.setLine_msixEnt_ (v : LineMeta) : (s.setLine k v).msixEnt j = s.msixEnt j := rfl
@[simp] theorem State.setLine_peer_ (v : LineMeta) : (s.setLine k v).peer j = s.peer j := rfl
@[simp] theorem State.setLine_half_ (v : LineMeta) : (s.setLine k v).half j = s.half j := rfl
@[simp] theorem State.setLine_cell_ (v : LineMeta) : (s.setLine k v).cell j = s.cell j := rfl
@[simp] theorem State.setLine_ext_ (v : LineMeta) : (s.setLine k v).ext j = s.ext j := rfl
@[simp] theorem State.setLine_vf_ (v : LineMeta) : (s.setLine k v).vf j = s.vf j := rfl
@[simp] theorem State.setLine_unit_ (v : LineMeta) : (s.setLine k v).unit j = s.unit j := rfl
@[simp] theorem State.setLine_wing_ (v : LineMeta) : (s.setLine k v).wing j = s.wing j := rfl
@[simp] theorem State.setLine_que_ (v : LineMeta) : (s.setLine k v).que j = s.que j := rfl
@[simp] theorem State.setLine_doc_ (v : LineMeta) : (s.setLine k v).doc j = s.doc j := rfl
@[simp] theorem State.setLine_arb_ (v : LineMeta) : (s.setLine k v).arb j = s.arb j := rfl
@[simp] theorem State.setLine_table_ (v : LineMeta) : (s.setLine k v).table j = s.table j := rfl
@[simp] theorem State.setLine_cat_ (v : LineMeta) : (s.setLine k v).cat j = s.cat j := rfl
@[simp] theorem State.setLine_stack_ (v : LineMeta) : (s.setLine k v).stack j = s.stack j := rfl
@[simp] theorem State.setLine_die_ (v : LineMeta) : (s.setLine k v).die j = s.die j := rfl
@[simp] theorem State.setLine_eth_ (v : LineMeta) : (s.setLine k v).eth j = s.eth j := rfl
@[simp] theorem State.setLine_flow_ (v : LineMeta) : (s.setLine k v).flow j = s.flow j := rfl
@[simp] theorem State.setLine_tdi_ (v : LineMeta) : (s.setLine k v).tdi j = s.tdi j := rfl
@[simp] theorem State.setLine_mu_ (v : LineMeta) : (s.setLine k v).mu j = s.mu j := rfl
@[simp] theorem State.setLine_lane_ (v : LineMeta) : (s.setLine k v).lane j = s.lane j := rfl

/-! ### setStack -/

@[simp] theorem State.updStack_eq (f : Stack → Stack) : s.updStack k f = s.setStack k (f (s.stack k)) := rfl
theorem State.stack_setStack (v : Stack) : (s.setStack k v).stack j = if j = k then v else s.stack j := Tbl.get_set ..
@[simp] theorem State.stack_setStack_same (v : Stack) : (s.setStack k v).stack k = v := Tbl.get_set_same ..
@[simp] theorem State.setStack_pending (v : Stack) : (s.setStack k v).pending = s.pending := rfl
@[simp] theorem State.setStack_out (v : Stack) : (s.setStack k v).out = s.out := rfl
@[simp] theorem State.setStack_freeCtr (v : Stack) : (s.setStack k v).freeCtr = s.freeCtr := rfl
@[simp] theorem State.setStack_clk (v : Stack) : (s.setStack k v).clk = s.clk := rfl
@[simp] theorem State.setStack_plinth (v : Stack) : (s.setStack k v).plinth = s.plinth := rfl
@[simp] theorem State.setStack_hubs (v : Stack) : (s.setStack k v).hubs = s.hubs := rfl
@[simp] theorem State.setStack_hubLinkUp (v : Stack) : (s.setStack k v).hubLinkUp = s.hubLinkUp := rfl
@[simp] theorem State.setStack_ports (v : Stack) : (s.setStack k v).ports = s.ports := rfl
@[simp] theorem State.setStack_links (v : Stack) : (s.setStack k v).links = s.links := rfl
@[simp] theorem State.setStack_noAuthority (v : Stack) : (s.setStack k v).noAuthority = s.noAuthority := rfl
@[simp] theorem State.setStack_lastDispatch (v : Stack) : (s.setStack k v).lastDispatch = s.lastDispatch := rfl
@[simp] theorem State.setStack_mbx (v : Stack) : (s.setStack k v).mbx = s.mbx := rfl
@[simp] theorem State.setStack_fns (v : Stack) : (s.setStack k v).fns = s.fns := rfl
@[simp] theorem State.setStack_msix (v : Stack) : (s.setStack k v).msix = s.msix := rfl
@[simp] theorem State.setStack_pcie (v : Stack) : (s.setStack k v).pcie = s.pcie := rfl
@[simp] theorem State.setStack_peers (v : Stack) : (s.setStack k v).peers = s.peers := rfl
@[simp] theorem State.setStack_halfCells (v : Stack) : (s.setStack k v).halfCells = s.halfCells := rfl
@[simp] theorem State.setStack_cells (v : Stack) : (s.setStack k v).cells = s.cells := rfl
@[simp] theorem State.setStack_extents (v : Stack) : (s.setStack k v).extents = s.extents := rfl
@[simp] theorem State.setStack_vfs (v : Stack) : (s.setStack k v).vfs = s.vfs := rfl
@[simp] theorem State.setStack_units (v : Stack) : (s.setStack k v).units = s.units := rfl
@[simp] theorem State.setStack_wings (v : Stack) : (s.setStack k v).wings = s.wings := rfl
@[simp] theorem State.setStack_noWing (v : Stack) : (s.setStack k v).noWing = s.noWing := rfl
@[simp] theorem State.setStack_noWingSince (v : Stack) : (s.setStack k v).noWingSince = s.noWingSince := rfl
@[simp] theorem State.setStack_noWingAt (v : Stack) : (s.setStack k v).noWingAt = s.noWingAt := rfl
@[simp] theorem State.setStack_queues (v : Stack) : (s.setStack k v).queues = s.queues := rfl
@[simp] theorem State.setStack_reqs (v : Stack) : (s.setStack k v).reqs = s.reqs := rfl
@[simp] theorem State.setStack_nextReq (v : Stack) : (s.setStack k v).nextReq = s.nextReq := rfl
@[simp] theorem State.setStack_images (v : Stack) : (s.setStack k v).images = s.images := rfl
@[simp] theorem State.setStack_docents (v : Stack) : (s.setStack k v).docents = s.docents := rfl
@[simp] theorem State.setStack_launches (v : Stack) : (s.setStack k v).launches = s.launches := rfl
@[simp] theorem State.setStack_arbs (v : Stack) : (s.setStack k v).arbs = s.arbs := rfl
@[simp] theorem State.setStack_batches (v : Stack) : (s.setStack k v).batches = s.batches := rfl
@[simp] theorem State.setStack_dups (v : Stack) : (s.setStack k v).dups = s.dups := rfl
@[simp] theorem State.setStack_sp (v : Stack) : (s.setStack k v).sp = s.sp := rfl
@[simp] theorem State.setStack_spBad (v : Stack) : (s.setStack k v).spBad = s.spBad := rfl
@[simp] theorem State.setStack_ckpts (v : Stack) : (s.setStack k v).ckpts = s.ckpts := rfl
@[simp] theorem State.setStack_ckptCount (v : Stack) : (s.setStack k v).ckptCount = s.ckptCount := rfl
@[simp] theorem State.setStack_tables (v : Stack) : (s.setStack k v).tables = s.tables := rfl
@[simp] theorem State.setStack_cats (v : Stack) : (s.setStack k v).cats = s.cats := rfl
@[simp] theorem State.setStack_dir (v : Stack) : (s.setStack k v).dir = s.dir := rfl
@[simp] theorem State.setStack_cache (v : Stack) : (s.setStack k v).cache = s.cache := rfl
@[simp] theorem State.setStack_dram (v : Stack) : (s.setStack k v).dram = s.dram := rfl
@[simp] theorem State.setStack_lines (v : Stack) : (s.setStack k v).lines = s.lines := rfl
@[simp] theorem State.setStack_patrolHours (v : Stack) : (s.setStack k v).patrolHours = s.patrolHours := rfl
@[simp] theorem State.setStack_priTimeout (v : Stack) : (s.setStack k v).priTimeout = s.priTimeout := rfl
@[simp] theorem State.setStack_rowErrs (v : Stack) : (s.setStack k v).rowErrs = s.rowErrs := rfl
@[simp] theorem State.setStack_tlb (v : Stack) : (s.setStack k v).tlb = s.tlb := rfl
@[simp] theorem State.setStack_ptw (v : Stack) : (s.setStack k v).ptw = s.ptw := rfl
@[simp] theorem State.setStack_lineWaits (v : Stack) : (s.setStack k v).lineWaits = s.lineWaits := rfl
@[simp] theorem State.setStack_ats (v : Stack) : (s.setStack k v).ats = s.ats := rfl
@[simp] theorem State.setStack_atsReqs (v : Stack) : (s.setStack k v).atsReqs = s.atsReqs := rfl
@[simp] theorem State.setStack_priReqs (v : Stack) : (s.setStack k v).priReqs = s.priReqs := rfl
@[simp] theorem State.setStack_dies (v : Stack) : (s.setStack k v).dies = s.dies := rfl
@[simp] theorem State.setStack_digestPairs (v : Stack) : (s.setStack k v).digestPairs = s.digestPairs := rfl
@[simp] theorem State.setStack_log (v : Stack) : (s.setStack k v).log = s.log := rfl
@[simp] theorem State.setStack_par (v : Stack) : (s.setStack k v).par = s.par := rfl
@[simp] theorem State.setStack_ethPorts (v : Stack) : (s.setStack k v).ethPorts = s.ethPorts := rfl
@[simp] theorem State.setStack_flows (v : Stack) : (s.setStack k v).flows = s.flows := rfl
@[simp] theorem State.setStack_vlt (v : Stack) : (s.setStack k v).vlt = s.vlt := rfl
@[simp] theorem State.setStack_tdis (v : Stack) : (s.setStack k v).tdis = s.tdis := rfl
@[simp] theorem State.setStack_rst (v : Stack) : (s.setStack k v).rst = s.rst := rfl
@[simp] theorem State.setStack_fw (v : Stack) : (s.setStack k v).fw = s.fw := rfl
@[simp] theorem State.setStack_vnt (v : Stack) : (s.setStack k v).vnt = s.vnt := rfl
@[simp] theorem State.setStack_tap (v : Stack) : (s.setStack k v).tap = s.tap := rfl
@[simp] theorem State.setStack_moves (v : Stack) : (s.setStack k v).moves = s.moves := rfl
@[simp] theorem State.setStack_mus (v : Stack) : (s.setStack k v).mus = s.mus := rfl
@[simp] theorem State.setStack_lanes (v : Stack) : (s.setStack k v).lanes = s.lanes := rfl
@[simp] theorem State.setStack_ahead (v : Stack) : (s.setStack k v).ahead = s.ahead := rfl
@[simp] theorem State.setStack_bar2Waits (v : Stack) : (s.setStack k v).bar2Waits = s.bar2Waits := rfl
@[simp] theorem State.setStack_hub_ (v : Stack) : (s.setStack k v).hub j = s.hub j := rfl
@[simp] theorem State.setStack_port_ (v : Stack) : (s.setStack k v).port j = s.port j := rfl
@[simp] theorem State.setStack_link_ (v : Stack) : (s.setStack k v).link j = s.link j := rfl
@[simp] theorem State.setStack_mbox_ (v : Stack) : (s.setStack k v).mbox j = s.mbox j := rfl
@[simp] theorem State.setStack_fnSt_ (v : Stack) : (s.setStack k v).fnSt j = s.fnSt j := rfl
@[simp] theorem State.setStack_msixEnt_ (v : Stack) : (s.setStack k v).msixEnt j = s.msixEnt j := rfl
@[simp] theorem State.setStack_peer_ (v : Stack) : (s.setStack k v).peer j = s.peer j := rfl
@[simp] theorem State.setStack_half_ (v : Stack) : (s.setStack k v).half j = s.half j := rfl
@[simp] theorem State.setStack_cell_ (v : Stack) : (s.setStack k v).cell j = s.cell j := rfl
@[simp] theorem State.setStack_ext_ (v : Stack) : (s.setStack k v).ext j = s.ext j := rfl
@[simp] theorem State.setStack_vf_ (v : Stack) : (s.setStack k v).vf j = s.vf j := rfl
@[simp] theorem State.setStack_unit_ (v : Stack) : (s.setStack k v).unit j = s.unit j := rfl
@[simp] theorem State.setStack_wing_ (v : Stack) : (s.setStack k v).wing j = s.wing j := rfl
@[simp] theorem State.setStack_que_ (v : Stack) : (s.setStack k v).que j = s.que j := rfl
@[simp] theorem State.setStack_doc_ (v : Stack) : (s.setStack k v).doc j = s.doc j := rfl
@[simp] theorem State.setStack_arb_ (v : Stack) : (s.setStack k v).arb j = s.arb j := rfl
@[simp] theorem State.setStack_table_ (v : Stack) : (s.setStack k v).table j = s.table j := rfl
@[simp] theorem State.setStack_cat_ (v : Stack) : (s.setStack k v).cat j = s.cat j := rfl
@[simp] theorem State.setStack_line_ (v : Stack) : (s.setStack k v).line j = s.line j := rfl
@[simp] theorem State.setStack_die_ (v : Stack) : (s.setStack k v).die j = s.die j := rfl
@[simp] theorem State.setStack_eth_ (v : Stack) : (s.setStack k v).eth j = s.eth j := rfl
@[simp] theorem State.setStack_flow_ (v : Stack) : (s.setStack k v).flow j = s.flow j := rfl
@[simp] theorem State.setStack_tdi_ (v : Stack) : (s.setStack k v).tdi j = s.tdi j := rfl
@[simp] theorem State.setStack_mu_ (v : Stack) : (s.setStack k v).mu j = s.mu j := rfl
@[simp] theorem State.setStack_lane_ (v : Stack) : (s.setStack k v).lane j = s.lane j := rfl

/-! ### setDie -/

@[simp] theorem State.updDie_eq (f : Die → Die) : s.updDie k f = s.setDie k (f (s.die k)) := rfl
theorem State.die_setDie (v : Die) : (s.setDie k v).die j = if j = k then v else s.die j := Tbl.get_set ..
@[simp] theorem State.die_setDie_same (v : Die) : (s.setDie k v).die k = v := Tbl.get_set_same ..
@[simp] theorem State.setDie_pending (v : Die) : (s.setDie k v).pending = s.pending := rfl
@[simp] theorem State.setDie_out (v : Die) : (s.setDie k v).out = s.out := rfl
@[simp] theorem State.setDie_freeCtr (v : Die) : (s.setDie k v).freeCtr = s.freeCtr := rfl
@[simp] theorem State.setDie_clk (v : Die) : (s.setDie k v).clk = s.clk := rfl
@[simp] theorem State.setDie_plinth (v : Die) : (s.setDie k v).plinth = s.plinth := rfl
@[simp] theorem State.setDie_hubs (v : Die) : (s.setDie k v).hubs = s.hubs := rfl
@[simp] theorem State.setDie_hubLinkUp (v : Die) : (s.setDie k v).hubLinkUp = s.hubLinkUp := rfl
@[simp] theorem State.setDie_ports (v : Die) : (s.setDie k v).ports = s.ports := rfl
@[simp] theorem State.setDie_links (v : Die) : (s.setDie k v).links = s.links := rfl
@[simp] theorem State.setDie_noAuthority (v : Die) : (s.setDie k v).noAuthority = s.noAuthority := rfl
@[simp] theorem State.setDie_lastDispatch (v : Die) : (s.setDie k v).lastDispatch = s.lastDispatch := rfl
@[simp] theorem State.setDie_mbx (v : Die) : (s.setDie k v).mbx = s.mbx := rfl
@[simp] theorem State.setDie_fns (v : Die) : (s.setDie k v).fns = s.fns := rfl
@[simp] theorem State.setDie_msix (v : Die) : (s.setDie k v).msix = s.msix := rfl
@[simp] theorem State.setDie_pcie (v : Die) : (s.setDie k v).pcie = s.pcie := rfl
@[simp] theorem State.setDie_peers (v : Die) : (s.setDie k v).peers = s.peers := rfl
@[simp] theorem State.setDie_halfCells (v : Die) : (s.setDie k v).halfCells = s.halfCells := rfl
@[simp] theorem State.setDie_cells (v : Die) : (s.setDie k v).cells = s.cells := rfl
@[simp] theorem State.setDie_extents (v : Die) : (s.setDie k v).extents = s.extents := rfl
@[simp] theorem State.setDie_vfs (v : Die) : (s.setDie k v).vfs = s.vfs := rfl
@[simp] theorem State.setDie_units (v : Die) : (s.setDie k v).units = s.units := rfl
@[simp] theorem State.setDie_wings (v : Die) : (s.setDie k v).wings = s.wings := rfl
@[simp] theorem State.setDie_noWing (v : Die) : (s.setDie k v).noWing = s.noWing := rfl
@[simp] theorem State.setDie_noWingSince (v : Die) : (s.setDie k v).noWingSince = s.noWingSince := rfl
@[simp] theorem State.setDie_noWingAt (v : Die) : (s.setDie k v).noWingAt = s.noWingAt := rfl
@[simp] theorem State.setDie_queues (v : Die) : (s.setDie k v).queues = s.queues := rfl
@[simp] theorem State.setDie_reqs (v : Die) : (s.setDie k v).reqs = s.reqs := rfl
@[simp] theorem State.setDie_nextReq (v : Die) : (s.setDie k v).nextReq = s.nextReq := rfl
@[simp] theorem State.setDie_images (v : Die) : (s.setDie k v).images = s.images := rfl
@[simp] theorem State.setDie_docents (v : Die) : (s.setDie k v).docents = s.docents := rfl
@[simp] theorem State.setDie_launches (v : Die) : (s.setDie k v).launches = s.launches := rfl
@[simp] theorem State.setDie_arbs (v : Die) : (s.setDie k v).arbs = s.arbs := rfl
@[simp] theorem State.setDie_batches (v : Die) : (s.setDie k v).batches = s.batches := rfl
@[simp] theorem State.setDie_dups (v : Die) : (s.setDie k v).dups = s.dups := rfl
@[simp] theorem State.setDie_sp (v : Die) : (s.setDie k v).sp = s.sp := rfl
@[simp] theorem State.setDie_spBad (v : Die) : (s.setDie k v).spBad = s.spBad := rfl
@[simp] theorem State.setDie_ckpts (v : Die) : (s.setDie k v).ckpts = s.ckpts := rfl
@[simp] theorem State.setDie_ckptCount (v : Die) : (s.setDie k v).ckptCount = s.ckptCount := rfl
@[simp] theorem State.setDie_tables (v : Die) : (s.setDie k v).tables = s.tables := rfl
@[simp] theorem State.setDie_cats (v : Die) : (s.setDie k v).cats = s.cats := rfl
@[simp] theorem State.setDie_dir (v : Die) : (s.setDie k v).dir = s.dir := rfl
@[simp] theorem State.setDie_cache (v : Die) : (s.setDie k v).cache = s.cache := rfl
@[simp] theorem State.setDie_dram (v : Die) : (s.setDie k v).dram = s.dram := rfl
@[simp] theorem State.setDie_lines (v : Die) : (s.setDie k v).lines = s.lines := rfl
@[simp] theorem State.setDie_dramStacks (v : Die) : (s.setDie k v).dramStacks = s.dramStacks := rfl
@[simp] theorem State.setDie_patrolHours (v : Die) : (s.setDie k v).patrolHours = s.patrolHours := rfl
@[simp] theorem State.setDie_priTimeout (v : Die) : (s.setDie k v).priTimeout = s.priTimeout := rfl
@[simp] theorem State.setDie_rowErrs (v : Die) : (s.setDie k v).rowErrs = s.rowErrs := rfl
@[simp] theorem State.setDie_tlb (v : Die) : (s.setDie k v).tlb = s.tlb := rfl
@[simp] theorem State.setDie_ptw (v : Die) : (s.setDie k v).ptw = s.ptw := rfl
@[simp] theorem State.setDie_lineWaits (v : Die) : (s.setDie k v).lineWaits = s.lineWaits := rfl
@[simp] theorem State.setDie_ats (v : Die) : (s.setDie k v).ats = s.ats := rfl
@[simp] theorem State.setDie_atsReqs (v : Die) : (s.setDie k v).atsReqs = s.atsReqs := rfl
@[simp] theorem State.setDie_priReqs (v : Die) : (s.setDie k v).priReqs = s.priReqs := rfl
@[simp] theorem State.setDie_digestPairs (v : Die) : (s.setDie k v).digestPairs = s.digestPairs := rfl
@[simp] theorem State.setDie_log (v : Die) : (s.setDie k v).log = s.log := rfl
@[simp] theorem State.setDie_par (v : Die) : (s.setDie k v).par = s.par := rfl
@[simp] theorem State.setDie_ethPorts (v : Die) : (s.setDie k v).ethPorts = s.ethPorts := rfl
@[simp] theorem State.setDie_flows (v : Die) : (s.setDie k v).flows = s.flows := rfl
@[simp] theorem State.setDie_vlt (v : Die) : (s.setDie k v).vlt = s.vlt := rfl
@[simp] theorem State.setDie_tdis (v : Die) : (s.setDie k v).tdis = s.tdis := rfl
@[simp] theorem State.setDie_rst (v : Die) : (s.setDie k v).rst = s.rst := rfl
@[simp] theorem State.setDie_fw (v : Die) : (s.setDie k v).fw = s.fw := rfl
@[simp] theorem State.setDie_vnt (v : Die) : (s.setDie k v).vnt = s.vnt := rfl
@[simp] theorem State.setDie_tap (v : Die) : (s.setDie k v).tap = s.tap := rfl
@[simp] theorem State.setDie_moves (v : Die) : (s.setDie k v).moves = s.moves := rfl
@[simp] theorem State.setDie_mus (v : Die) : (s.setDie k v).mus = s.mus := rfl
@[simp] theorem State.setDie_lanes (v : Die) : (s.setDie k v).lanes = s.lanes := rfl
@[simp] theorem State.setDie_ahead (v : Die) : (s.setDie k v).ahead = s.ahead := rfl
@[simp] theorem State.setDie_bar2Waits (v : Die) : (s.setDie k v).bar2Waits = s.bar2Waits := rfl
@[simp] theorem State.setDie_hub_ (v : Die) : (s.setDie k v).hub j = s.hub j := rfl
@[simp] theorem State.setDie_port_ (v : Die) : (s.setDie k v).port j = s.port j := rfl
@[simp] theorem State.setDie_link_ (v : Die) : (s.setDie k v).link j = s.link j := rfl
@[simp] theorem State.setDie_mbox_ (v : Die) : (s.setDie k v).mbox j = s.mbox j := rfl
@[simp] theorem State.setDie_fnSt_ (v : Die) : (s.setDie k v).fnSt j = s.fnSt j := rfl
@[simp] theorem State.setDie_msixEnt_ (v : Die) : (s.setDie k v).msixEnt j = s.msixEnt j := rfl
@[simp] theorem State.setDie_peer_ (v : Die) : (s.setDie k v).peer j = s.peer j := rfl
@[simp] theorem State.setDie_half_ (v : Die) : (s.setDie k v).half j = s.half j := rfl
@[simp] theorem State.setDie_cell_ (v : Die) : (s.setDie k v).cell j = s.cell j := rfl
@[simp] theorem State.setDie_ext_ (v : Die) : (s.setDie k v).ext j = s.ext j := rfl
@[simp] theorem State.setDie_vf_ (v : Die) : (s.setDie k v).vf j = s.vf j := rfl
@[simp] theorem State.setDie_unit_ (v : Die) : (s.setDie k v).unit j = s.unit j := rfl
@[simp] theorem State.setDie_wing_ (v : Die) : (s.setDie k v).wing j = s.wing j := rfl
@[simp] theorem State.setDie_que_ (v : Die) : (s.setDie k v).que j = s.que j := rfl
@[simp] theorem State.setDie_doc_ (v : Die) : (s.setDie k v).doc j = s.doc j := rfl
@[simp] theorem State.setDie_arb_ (v : Die) : (s.setDie k v).arb j = s.arb j := rfl
@[simp] theorem State.setDie_table_ (v : Die) : (s.setDie k v).table j = s.table j := rfl
@[simp] theorem State.setDie_cat_ (v : Die) : (s.setDie k v).cat j = s.cat j := rfl
@[simp] theorem State.setDie_line_ (v : Die) : (s.setDie k v).line j = s.line j := rfl
@[simp] theorem State.setDie_stack_ (v : Die) : (s.setDie k v).stack j = s.stack j := rfl
@[simp] theorem State.setDie_eth_ (v : Die) : (s.setDie k v).eth j = s.eth j := rfl
@[simp] theorem State.setDie_flow_ (v : Die) : (s.setDie k v).flow j = s.flow j := rfl
@[simp] theorem State.setDie_tdi_ (v : Die) : (s.setDie k v).tdi j = s.tdi j := rfl
@[simp] theorem State.setDie_mu_ (v : Die) : (s.setDie k v).mu j = s.mu j := rfl
@[simp] theorem State.setDie_lane_ (v : Die) : (s.setDie k v).lane j = s.lane j := rfl

/-! ### setEth -/

@[simp] theorem State.updEth_eq (f : EthPort → EthPort) : s.updEth k f = s.setEth k (f (s.eth k)) := rfl
theorem State.eth_setEth (v : EthPort) : (s.setEth k v).eth j = if j = k then v else s.eth j := Tbl.get_set ..
@[simp] theorem State.eth_setEth_same (v : EthPort) : (s.setEth k v).eth k = v := Tbl.get_set_same ..
@[simp] theorem State.setEth_pending (v : EthPort) : (s.setEth k v).pending = s.pending := rfl
@[simp] theorem State.setEth_out (v : EthPort) : (s.setEth k v).out = s.out := rfl
@[simp] theorem State.setEth_freeCtr (v : EthPort) : (s.setEth k v).freeCtr = s.freeCtr := rfl
@[simp] theorem State.setEth_clk (v : EthPort) : (s.setEth k v).clk = s.clk := rfl
@[simp] theorem State.setEth_plinth (v : EthPort) : (s.setEth k v).plinth = s.plinth := rfl
@[simp] theorem State.setEth_hubs (v : EthPort) : (s.setEth k v).hubs = s.hubs := rfl
@[simp] theorem State.setEth_hubLinkUp (v : EthPort) : (s.setEth k v).hubLinkUp = s.hubLinkUp := rfl
@[simp] theorem State.setEth_ports (v : EthPort) : (s.setEth k v).ports = s.ports := rfl
@[simp] theorem State.setEth_links (v : EthPort) : (s.setEth k v).links = s.links := rfl
@[simp] theorem State.setEth_noAuthority (v : EthPort) : (s.setEth k v).noAuthority = s.noAuthority := rfl
@[simp] theorem State.setEth_lastDispatch (v : EthPort) : (s.setEth k v).lastDispatch = s.lastDispatch := rfl
@[simp] theorem State.setEth_mbx (v : EthPort) : (s.setEth k v).mbx = s.mbx := rfl
@[simp] theorem State.setEth_fns (v : EthPort) : (s.setEth k v).fns = s.fns := rfl
@[simp] theorem State.setEth_msix (v : EthPort) : (s.setEth k v).msix = s.msix := rfl
@[simp] theorem State.setEth_pcie (v : EthPort) : (s.setEth k v).pcie = s.pcie := rfl
@[simp] theorem State.setEth_peers (v : EthPort) : (s.setEth k v).peers = s.peers := rfl
@[simp] theorem State.setEth_halfCells (v : EthPort) : (s.setEth k v).halfCells = s.halfCells := rfl
@[simp] theorem State.setEth_cells (v : EthPort) : (s.setEth k v).cells = s.cells := rfl
@[simp] theorem State.setEth_extents (v : EthPort) : (s.setEth k v).extents = s.extents := rfl
@[simp] theorem State.setEth_vfs (v : EthPort) : (s.setEth k v).vfs = s.vfs := rfl
@[simp] theorem State.setEth_units (v : EthPort) : (s.setEth k v).units = s.units := rfl
@[simp] theorem State.setEth_wings (v : EthPort) : (s.setEth k v).wings = s.wings := rfl
@[simp] theorem State.setEth_noWing (v : EthPort) : (s.setEth k v).noWing = s.noWing := rfl
@[simp] theorem State.setEth_noWingSince (v : EthPort) : (s.setEth k v).noWingSince = s.noWingSince := rfl
@[simp] theorem State.setEth_noWingAt (v : EthPort) : (s.setEth k v).noWingAt = s.noWingAt := rfl
@[simp] theorem State.setEth_queues (v : EthPort) : (s.setEth k v).queues = s.queues := rfl
@[simp] theorem State.setEth_reqs (v : EthPort) : (s.setEth k v).reqs = s.reqs := rfl
@[simp] theorem State.setEth_nextReq (v : EthPort) : (s.setEth k v).nextReq = s.nextReq := rfl
@[simp] theorem State.setEth_images (v : EthPort) : (s.setEth k v).images = s.images := rfl
@[simp] theorem State.setEth_docents (v : EthPort) : (s.setEth k v).docents = s.docents := rfl
@[simp] theorem State.setEth_launches (v : EthPort) : (s.setEth k v).launches = s.launches := rfl
@[simp] theorem State.setEth_arbs (v : EthPort) : (s.setEth k v).arbs = s.arbs := rfl
@[simp] theorem State.setEth_batches (v : EthPort) : (s.setEth k v).batches = s.batches := rfl
@[simp] theorem State.setEth_dups (v : EthPort) : (s.setEth k v).dups = s.dups := rfl
@[simp] theorem State.setEth_sp (v : EthPort) : (s.setEth k v).sp = s.sp := rfl
@[simp] theorem State.setEth_spBad (v : EthPort) : (s.setEth k v).spBad = s.spBad := rfl
@[simp] theorem State.setEth_ckpts (v : EthPort) : (s.setEth k v).ckpts = s.ckpts := rfl
@[simp] theorem State.setEth_ckptCount (v : EthPort) : (s.setEth k v).ckptCount = s.ckptCount := rfl
@[simp] theorem State.setEth_tables (v : EthPort) : (s.setEth k v).tables = s.tables := rfl
@[simp] theorem State.setEth_cats (v : EthPort) : (s.setEth k v).cats = s.cats := rfl
@[simp] theorem State.setEth_dir (v : EthPort) : (s.setEth k v).dir = s.dir := rfl
@[simp] theorem State.setEth_cache (v : EthPort) : (s.setEth k v).cache = s.cache := rfl
@[simp] theorem State.setEth_dram (v : EthPort) : (s.setEth k v).dram = s.dram := rfl
@[simp] theorem State.setEth_lines (v : EthPort) : (s.setEth k v).lines = s.lines := rfl
@[simp] theorem State.setEth_dramStacks (v : EthPort) : (s.setEth k v).dramStacks = s.dramStacks := rfl
@[simp] theorem State.setEth_patrolHours (v : EthPort) : (s.setEth k v).patrolHours = s.patrolHours := rfl
@[simp] theorem State.setEth_priTimeout (v : EthPort) : (s.setEth k v).priTimeout = s.priTimeout := rfl
@[simp] theorem State.setEth_rowErrs (v : EthPort) : (s.setEth k v).rowErrs = s.rowErrs := rfl
@[simp] theorem State.setEth_tlb (v : EthPort) : (s.setEth k v).tlb = s.tlb := rfl
@[simp] theorem State.setEth_ptw (v : EthPort) : (s.setEth k v).ptw = s.ptw := rfl
@[simp] theorem State.setEth_lineWaits (v : EthPort) : (s.setEth k v).lineWaits = s.lineWaits := rfl
@[simp] theorem State.setEth_ats (v : EthPort) : (s.setEth k v).ats = s.ats := rfl
@[simp] theorem State.setEth_atsReqs (v : EthPort) : (s.setEth k v).atsReqs = s.atsReqs := rfl
@[simp] theorem State.setEth_priReqs (v : EthPort) : (s.setEth k v).priReqs = s.priReqs := rfl
@[simp] theorem State.setEth_dies (v : EthPort) : (s.setEth k v).dies = s.dies := rfl
@[simp] theorem State.setEth_digestPairs (v : EthPort) : (s.setEth k v).digestPairs = s.digestPairs := rfl
@[simp] theorem State.setEth_log (v : EthPort) : (s.setEth k v).log = s.log := rfl
@[simp] theorem State.setEth_par (v : EthPort) : (s.setEth k v).par = s.par := rfl
@[simp] theorem State.setEth_flows (v : EthPort) : (s.setEth k v).flows = s.flows := rfl
@[simp] theorem State.setEth_vlt (v : EthPort) : (s.setEth k v).vlt = s.vlt := rfl
@[simp] theorem State.setEth_tdis (v : EthPort) : (s.setEth k v).tdis = s.tdis := rfl
@[simp] theorem State.setEth_rst (v : EthPort) : (s.setEth k v).rst = s.rst := rfl
@[simp] theorem State.setEth_fw (v : EthPort) : (s.setEth k v).fw = s.fw := rfl
@[simp] theorem State.setEth_vnt (v : EthPort) : (s.setEth k v).vnt = s.vnt := rfl
@[simp] theorem State.setEth_tap (v : EthPort) : (s.setEth k v).tap = s.tap := rfl
@[simp] theorem State.setEth_moves (v : EthPort) : (s.setEth k v).moves = s.moves := rfl
@[simp] theorem State.setEth_mus (v : EthPort) : (s.setEth k v).mus = s.mus := rfl
@[simp] theorem State.setEth_lanes (v : EthPort) : (s.setEth k v).lanes = s.lanes := rfl
@[simp] theorem State.setEth_ahead (v : EthPort) : (s.setEth k v).ahead = s.ahead := rfl
@[simp] theorem State.setEth_bar2Waits (v : EthPort) : (s.setEth k v).bar2Waits = s.bar2Waits := rfl
@[simp] theorem State.setEth_hub_ (v : EthPort) : (s.setEth k v).hub j = s.hub j := rfl
@[simp] theorem State.setEth_port_ (v : EthPort) : (s.setEth k v).port j = s.port j := rfl
@[simp] theorem State.setEth_link_ (v : EthPort) : (s.setEth k v).link j = s.link j := rfl
@[simp] theorem State.setEth_mbox_ (v : EthPort) : (s.setEth k v).mbox j = s.mbox j := rfl
@[simp] theorem State.setEth_fnSt_ (v : EthPort) : (s.setEth k v).fnSt j = s.fnSt j := rfl
@[simp] theorem State.setEth_msixEnt_ (v : EthPort) : (s.setEth k v).msixEnt j = s.msixEnt j := rfl
@[simp] theorem State.setEth_peer_ (v : EthPort) : (s.setEth k v).peer j = s.peer j := rfl
@[simp] theorem State.setEth_half_ (v : EthPort) : (s.setEth k v).half j = s.half j := rfl
@[simp] theorem State.setEth_cell_ (v : EthPort) : (s.setEth k v).cell j = s.cell j := rfl
@[simp] theorem State.setEth_ext_ (v : EthPort) : (s.setEth k v).ext j = s.ext j := rfl
@[simp] theorem State.setEth_vf_ (v : EthPort) : (s.setEth k v).vf j = s.vf j := rfl
@[simp] theorem State.setEth_unit_ (v : EthPort) : (s.setEth k v).unit j = s.unit j := rfl
@[simp] theorem State.setEth_wing_ (v : EthPort) : (s.setEth k v).wing j = s.wing j := rfl
@[simp] theorem State.setEth_que_ (v : EthPort) : (s.setEth k v).que j = s.que j := rfl
@[simp] theorem State.setEth_doc_ (v : EthPort) : (s.setEth k v).doc j = s.doc j := rfl
@[simp] theorem State.setEth_arb_ (v : EthPort) : (s.setEth k v).arb j = s.arb j := rfl
@[simp] theorem State.setEth_table_ (v : EthPort) : (s.setEth k v).table j = s.table j := rfl
@[simp] theorem State.setEth_cat_ (v : EthPort) : (s.setEth k v).cat j = s.cat j := rfl
@[simp] theorem State.setEth_line_ (v : EthPort) : (s.setEth k v).line j = s.line j := rfl
@[simp] theorem State.setEth_stack_ (v : EthPort) : (s.setEth k v).stack j = s.stack j := rfl
@[simp] theorem State.setEth_die_ (v : EthPort) : (s.setEth k v).die j = s.die j := rfl
@[simp] theorem State.setEth_flow_ (v : EthPort) : (s.setEth k v).flow j = s.flow j := rfl
@[simp] theorem State.setEth_tdi_ (v : EthPort) : (s.setEth k v).tdi j = s.tdi j := rfl
@[simp] theorem State.setEth_mu_ (v : EthPort) : (s.setEth k v).mu j = s.mu j := rfl
@[simp] theorem State.setEth_lane_ (v : EthPort) : (s.setEth k v).lane j = s.lane j := rfl

/-! ### setFlow -/

@[simp] theorem State.updFlow_eq (f : Flow → Flow) : s.updFlow k f = s.setFlow k (f (s.flow k)) := rfl
theorem State.flow_setFlow (v : Flow) : (s.setFlow k v).flow j = if j = k then v else s.flow j := Tbl.get_set ..
@[simp] theorem State.flow_setFlow_same (v : Flow) : (s.setFlow k v).flow k = v := Tbl.get_set_same ..
@[simp] theorem State.setFlow_pending (v : Flow) : (s.setFlow k v).pending = s.pending := rfl
@[simp] theorem State.setFlow_out (v : Flow) : (s.setFlow k v).out = s.out := rfl
@[simp] theorem State.setFlow_freeCtr (v : Flow) : (s.setFlow k v).freeCtr = s.freeCtr := rfl
@[simp] theorem State.setFlow_clk (v : Flow) : (s.setFlow k v).clk = s.clk := rfl
@[simp] theorem State.setFlow_plinth (v : Flow) : (s.setFlow k v).plinth = s.plinth := rfl
@[simp] theorem State.setFlow_hubs (v : Flow) : (s.setFlow k v).hubs = s.hubs := rfl
@[simp] theorem State.setFlow_hubLinkUp (v : Flow) : (s.setFlow k v).hubLinkUp = s.hubLinkUp := rfl
@[simp] theorem State.setFlow_ports (v : Flow) : (s.setFlow k v).ports = s.ports := rfl
@[simp] theorem State.setFlow_links (v : Flow) : (s.setFlow k v).links = s.links := rfl
@[simp] theorem State.setFlow_noAuthority (v : Flow) : (s.setFlow k v).noAuthority = s.noAuthority := rfl
@[simp] theorem State.setFlow_lastDispatch (v : Flow) : (s.setFlow k v).lastDispatch = s.lastDispatch := rfl
@[simp] theorem State.setFlow_mbx (v : Flow) : (s.setFlow k v).mbx = s.mbx := rfl
@[simp] theorem State.setFlow_fns (v : Flow) : (s.setFlow k v).fns = s.fns := rfl
@[simp] theorem State.setFlow_msix (v : Flow) : (s.setFlow k v).msix = s.msix := rfl
@[simp] theorem State.setFlow_pcie (v : Flow) : (s.setFlow k v).pcie = s.pcie := rfl
@[simp] theorem State.setFlow_peers (v : Flow) : (s.setFlow k v).peers = s.peers := rfl
@[simp] theorem State.setFlow_halfCells (v : Flow) : (s.setFlow k v).halfCells = s.halfCells := rfl
@[simp] theorem State.setFlow_cells (v : Flow) : (s.setFlow k v).cells = s.cells := rfl
@[simp] theorem State.setFlow_extents (v : Flow) : (s.setFlow k v).extents = s.extents := rfl
@[simp] theorem State.setFlow_vfs (v : Flow) : (s.setFlow k v).vfs = s.vfs := rfl
@[simp] theorem State.setFlow_units (v : Flow) : (s.setFlow k v).units = s.units := rfl
@[simp] theorem State.setFlow_wings (v : Flow) : (s.setFlow k v).wings = s.wings := rfl
@[simp] theorem State.setFlow_noWing (v : Flow) : (s.setFlow k v).noWing = s.noWing := rfl
@[simp] theorem State.setFlow_noWingSince (v : Flow) : (s.setFlow k v).noWingSince = s.noWingSince := rfl
@[simp] theorem State.setFlow_noWingAt (v : Flow) : (s.setFlow k v).noWingAt = s.noWingAt := rfl
@[simp] theorem State.setFlow_queues (v : Flow) : (s.setFlow k v).queues = s.queues := rfl
@[simp] theorem State.setFlow_reqs (v : Flow) : (s.setFlow k v).reqs = s.reqs := rfl
@[simp] theorem State.setFlow_nextReq (v : Flow) : (s.setFlow k v).nextReq = s.nextReq := rfl
@[simp] theorem State.setFlow_images (v : Flow) : (s.setFlow k v).images = s.images := rfl
@[simp] theorem State.setFlow_docents (v : Flow) : (s.setFlow k v).docents = s.docents := rfl
@[simp] theorem State.setFlow_launches (v : Flow) : (s.setFlow k v).launches = s.launches := rfl
@[simp] theorem State.setFlow_arbs (v : Flow) : (s.setFlow k v).arbs = s.arbs := rfl
@[simp] theorem State.setFlow_batches (v : Flow) : (s.setFlow k v).batches = s.batches := rfl
@[simp] theorem State.setFlow_dups (v : Flow) : (s.setFlow k v).dups = s.dups := rfl
@[simp] theorem State.setFlow_sp (v : Flow) : (s.setFlow k v).sp = s.sp := rfl
@[simp] theorem State.setFlow_spBad (v : Flow) : (s.setFlow k v).spBad = s.spBad := rfl
@[simp] theorem State.setFlow_ckpts (v : Flow) : (s.setFlow k v).ckpts = s.ckpts := rfl
@[simp] theorem State.setFlow_ckptCount (v : Flow) : (s.setFlow k v).ckptCount = s.ckptCount := rfl
@[simp] theorem State.setFlow_tables (v : Flow) : (s.setFlow k v).tables = s.tables := rfl
@[simp] theorem State.setFlow_cats (v : Flow) : (s.setFlow k v).cats = s.cats := rfl
@[simp] theorem State.setFlow_dir (v : Flow) : (s.setFlow k v).dir = s.dir := rfl
@[simp] theorem State.setFlow_cache (v : Flow) : (s.setFlow k v).cache = s.cache := rfl
@[simp] theorem State.setFlow_dram (v : Flow) : (s.setFlow k v).dram = s.dram := rfl
@[simp] theorem State.setFlow_lines (v : Flow) : (s.setFlow k v).lines = s.lines := rfl
@[simp] theorem State.setFlow_dramStacks (v : Flow) : (s.setFlow k v).dramStacks = s.dramStacks := rfl
@[simp] theorem State.setFlow_patrolHours (v : Flow) : (s.setFlow k v).patrolHours = s.patrolHours := rfl
@[simp] theorem State.setFlow_priTimeout (v : Flow) : (s.setFlow k v).priTimeout = s.priTimeout := rfl
@[simp] theorem State.setFlow_rowErrs (v : Flow) : (s.setFlow k v).rowErrs = s.rowErrs := rfl
@[simp] theorem State.setFlow_tlb (v : Flow) : (s.setFlow k v).tlb = s.tlb := rfl
@[simp] theorem State.setFlow_ptw (v : Flow) : (s.setFlow k v).ptw = s.ptw := rfl
@[simp] theorem State.setFlow_lineWaits (v : Flow) : (s.setFlow k v).lineWaits = s.lineWaits := rfl
@[simp] theorem State.setFlow_ats (v : Flow) : (s.setFlow k v).ats = s.ats := rfl
@[simp] theorem State.setFlow_atsReqs (v : Flow) : (s.setFlow k v).atsReqs = s.atsReqs := rfl
@[simp] theorem State.setFlow_priReqs (v : Flow) : (s.setFlow k v).priReqs = s.priReqs := rfl
@[simp] theorem State.setFlow_dies (v : Flow) : (s.setFlow k v).dies = s.dies := rfl
@[simp] theorem State.setFlow_digestPairs (v : Flow) : (s.setFlow k v).digestPairs = s.digestPairs := rfl
@[simp] theorem State.setFlow_log (v : Flow) : (s.setFlow k v).log = s.log := rfl
@[simp] theorem State.setFlow_par (v : Flow) : (s.setFlow k v).par = s.par := rfl
@[simp] theorem State.setFlow_ethPorts (v : Flow) : (s.setFlow k v).ethPorts = s.ethPorts := rfl
@[simp] theorem State.setFlow_vlt (v : Flow) : (s.setFlow k v).vlt = s.vlt := rfl
@[simp] theorem State.setFlow_tdis (v : Flow) : (s.setFlow k v).tdis = s.tdis := rfl
@[simp] theorem State.setFlow_rst (v : Flow) : (s.setFlow k v).rst = s.rst := rfl
@[simp] theorem State.setFlow_fw (v : Flow) : (s.setFlow k v).fw = s.fw := rfl
@[simp] theorem State.setFlow_vnt (v : Flow) : (s.setFlow k v).vnt = s.vnt := rfl
@[simp] theorem State.setFlow_tap (v : Flow) : (s.setFlow k v).tap = s.tap := rfl
@[simp] theorem State.setFlow_moves (v : Flow) : (s.setFlow k v).moves = s.moves := rfl
@[simp] theorem State.setFlow_mus (v : Flow) : (s.setFlow k v).mus = s.mus := rfl
@[simp] theorem State.setFlow_lanes (v : Flow) : (s.setFlow k v).lanes = s.lanes := rfl
@[simp] theorem State.setFlow_ahead (v : Flow) : (s.setFlow k v).ahead = s.ahead := rfl
@[simp] theorem State.setFlow_bar2Waits (v : Flow) : (s.setFlow k v).bar2Waits = s.bar2Waits := rfl
@[simp] theorem State.setFlow_hub_ (v : Flow) : (s.setFlow k v).hub j = s.hub j := rfl
@[simp] theorem State.setFlow_port_ (v : Flow) : (s.setFlow k v).port j = s.port j := rfl
@[simp] theorem State.setFlow_link_ (v : Flow) : (s.setFlow k v).link j = s.link j := rfl
@[simp] theorem State.setFlow_mbox_ (v : Flow) : (s.setFlow k v).mbox j = s.mbox j := rfl
@[simp] theorem State.setFlow_fnSt_ (v : Flow) : (s.setFlow k v).fnSt j = s.fnSt j := rfl
@[simp] theorem State.setFlow_msixEnt_ (v : Flow) : (s.setFlow k v).msixEnt j = s.msixEnt j := rfl
@[simp] theorem State.setFlow_peer_ (v : Flow) : (s.setFlow k v).peer j = s.peer j := rfl
@[simp] theorem State.setFlow_half_ (v : Flow) : (s.setFlow k v).half j = s.half j := rfl
@[simp] theorem State.setFlow_cell_ (v : Flow) : (s.setFlow k v).cell j = s.cell j := rfl
@[simp] theorem State.setFlow_ext_ (v : Flow) : (s.setFlow k v).ext j = s.ext j := rfl
@[simp] theorem State.setFlow_vf_ (v : Flow) : (s.setFlow k v).vf j = s.vf j := rfl
@[simp] theorem State.setFlow_unit_ (v : Flow) : (s.setFlow k v).unit j = s.unit j := rfl
@[simp] theorem State.setFlow_wing_ (v : Flow) : (s.setFlow k v).wing j = s.wing j := rfl
@[simp] theorem State.setFlow_que_ (v : Flow) : (s.setFlow k v).que j = s.que j := rfl
@[simp] theorem State.setFlow_doc_ (v : Flow) : (s.setFlow k v).doc j = s.doc j := rfl
@[simp] theorem State.setFlow_arb_ (v : Flow) : (s.setFlow k v).arb j = s.arb j := rfl
@[simp] theorem State.setFlow_table_ (v : Flow) : (s.setFlow k v).table j = s.table j := rfl
@[simp] theorem State.setFlow_cat_ (v : Flow) : (s.setFlow k v).cat j = s.cat j := rfl
@[simp] theorem State.setFlow_line_ (v : Flow) : (s.setFlow k v).line j = s.line j := rfl
@[simp] theorem State.setFlow_stack_ (v : Flow) : (s.setFlow k v).stack j = s.stack j := rfl
@[simp] theorem State.setFlow_die_ (v : Flow) : (s.setFlow k v).die j = s.die j := rfl
@[simp] theorem State.setFlow_eth_ (v : Flow) : (s.setFlow k v).eth j = s.eth j := rfl
@[simp] theorem State.setFlow_tdi_ (v : Flow) : (s.setFlow k v).tdi j = s.tdi j := rfl
@[simp] theorem State.setFlow_mu_ (v : Flow) : (s.setFlow k v).mu j = s.mu j := rfl
@[simp] theorem State.setFlow_lane_ (v : Flow) : (s.setFlow k v).lane j = s.lane j := rfl

/-! ### setTdi -/

@[simp] theorem State.updTdi_eq (f : Tdi → Tdi) : s.updTdi k f = s.setTdi k (f (s.tdi k)) := rfl
theorem State.tdi_setTdi (v : Tdi) : (s.setTdi k v).tdi j = if j = k then v else s.tdi j := Tbl.get_set ..
@[simp] theorem State.tdi_setTdi_same (v : Tdi) : (s.setTdi k v).tdi k = v := Tbl.get_set_same ..
@[simp] theorem State.setTdi_pending (v : Tdi) : (s.setTdi k v).pending = s.pending := rfl
@[simp] theorem State.setTdi_out (v : Tdi) : (s.setTdi k v).out = s.out := rfl
@[simp] theorem State.setTdi_freeCtr (v : Tdi) : (s.setTdi k v).freeCtr = s.freeCtr := rfl
@[simp] theorem State.setTdi_clk (v : Tdi) : (s.setTdi k v).clk = s.clk := rfl
@[simp] theorem State.setTdi_plinth (v : Tdi) : (s.setTdi k v).plinth = s.plinth := rfl
@[simp] theorem State.setTdi_hubs (v : Tdi) : (s.setTdi k v).hubs = s.hubs := rfl
@[simp] theorem State.setTdi_hubLinkUp (v : Tdi) : (s.setTdi k v).hubLinkUp = s.hubLinkUp := rfl
@[simp] theorem State.setTdi_ports (v : Tdi) : (s.setTdi k v).ports = s.ports := rfl
@[simp] theorem State.setTdi_links (v : Tdi) : (s.setTdi k v).links = s.links := rfl
@[simp] theorem State.setTdi_noAuthority (v : Tdi) : (s.setTdi k v).noAuthority = s.noAuthority := rfl
@[simp] theorem State.setTdi_lastDispatch (v : Tdi) : (s.setTdi k v).lastDispatch = s.lastDispatch := rfl
@[simp] theorem State.setTdi_mbx (v : Tdi) : (s.setTdi k v).mbx = s.mbx := rfl
@[simp] theorem State.setTdi_fns (v : Tdi) : (s.setTdi k v).fns = s.fns := rfl
@[simp] theorem State.setTdi_msix (v : Tdi) : (s.setTdi k v).msix = s.msix := rfl
@[simp] theorem State.setTdi_pcie (v : Tdi) : (s.setTdi k v).pcie = s.pcie := rfl
@[simp] theorem State.setTdi_peers (v : Tdi) : (s.setTdi k v).peers = s.peers := rfl
@[simp] theorem State.setTdi_halfCells (v : Tdi) : (s.setTdi k v).halfCells = s.halfCells := rfl
@[simp] theorem State.setTdi_cells (v : Tdi) : (s.setTdi k v).cells = s.cells := rfl
@[simp] theorem State.setTdi_extents (v : Tdi) : (s.setTdi k v).extents = s.extents := rfl
@[simp] theorem State.setTdi_vfs (v : Tdi) : (s.setTdi k v).vfs = s.vfs := rfl
@[simp] theorem State.setTdi_units (v : Tdi) : (s.setTdi k v).units = s.units := rfl
@[simp] theorem State.setTdi_wings (v : Tdi) : (s.setTdi k v).wings = s.wings := rfl
@[simp] theorem State.setTdi_noWing (v : Tdi) : (s.setTdi k v).noWing = s.noWing := rfl
@[simp] theorem State.setTdi_noWingSince (v : Tdi) : (s.setTdi k v).noWingSince = s.noWingSince := rfl
@[simp] theorem State.setTdi_noWingAt (v : Tdi) : (s.setTdi k v).noWingAt = s.noWingAt := rfl
@[simp] theorem State.setTdi_queues (v : Tdi) : (s.setTdi k v).queues = s.queues := rfl
@[simp] theorem State.setTdi_reqs (v : Tdi) : (s.setTdi k v).reqs = s.reqs := rfl
@[simp] theorem State.setTdi_nextReq (v : Tdi) : (s.setTdi k v).nextReq = s.nextReq := rfl
@[simp] theorem State.setTdi_images (v : Tdi) : (s.setTdi k v).images = s.images := rfl
@[simp] theorem State.setTdi_docents (v : Tdi) : (s.setTdi k v).docents = s.docents := rfl
@[simp] theorem State.setTdi_launches (v : Tdi) : (s.setTdi k v).launches = s.launches := rfl
@[simp] theorem State.setTdi_arbs (v : Tdi) : (s.setTdi k v).arbs = s.arbs := rfl
@[simp] theorem State.setTdi_batches (v : Tdi) : (s.setTdi k v).batches = s.batches := rfl
@[simp] theorem State.setTdi_dups (v : Tdi) : (s.setTdi k v).dups = s.dups := rfl
@[simp] theorem State.setTdi_sp (v : Tdi) : (s.setTdi k v).sp = s.sp := rfl
@[simp] theorem State.setTdi_spBad (v : Tdi) : (s.setTdi k v).spBad = s.spBad := rfl
@[simp] theorem State.setTdi_ckpts (v : Tdi) : (s.setTdi k v).ckpts = s.ckpts := rfl
@[simp] theorem State.setTdi_ckptCount (v : Tdi) : (s.setTdi k v).ckptCount = s.ckptCount := rfl
@[simp] theorem State.setTdi_tables (v : Tdi) : (s.setTdi k v).tables = s.tables := rfl
@[simp] theorem State.setTdi_cats (v : Tdi) : (s.setTdi k v).cats = s.cats := rfl
@[simp] theorem State.setTdi_dir (v : Tdi) : (s.setTdi k v).dir = s.dir := rfl
@[simp] theorem State.setTdi_cache (v : Tdi) : (s.setTdi k v).cache = s.cache := rfl
@[simp] theorem State.setTdi_dram (v : Tdi) : (s.setTdi k v).dram = s.dram := rfl
@[simp] theorem State.setTdi_lines (v : Tdi) : (s.setTdi k v).lines = s.lines := rfl
@[simp] theorem State.setTdi_dramStacks (v : Tdi) : (s.setTdi k v).dramStacks = s.dramStacks := rfl
@[simp] theorem State.setTdi_patrolHours (v : Tdi) : (s.setTdi k v).patrolHours = s.patrolHours := rfl
@[simp] theorem State.setTdi_priTimeout (v : Tdi) : (s.setTdi k v).priTimeout = s.priTimeout := rfl
@[simp] theorem State.setTdi_rowErrs (v : Tdi) : (s.setTdi k v).rowErrs = s.rowErrs := rfl
@[simp] theorem State.setTdi_tlb (v : Tdi) : (s.setTdi k v).tlb = s.tlb := rfl
@[simp] theorem State.setTdi_ptw (v : Tdi) : (s.setTdi k v).ptw = s.ptw := rfl
@[simp] theorem State.setTdi_lineWaits (v : Tdi) : (s.setTdi k v).lineWaits = s.lineWaits := rfl
@[simp] theorem State.setTdi_ats (v : Tdi) : (s.setTdi k v).ats = s.ats := rfl
@[simp] theorem State.setTdi_atsReqs (v : Tdi) : (s.setTdi k v).atsReqs = s.atsReqs := rfl
@[simp] theorem State.setTdi_priReqs (v : Tdi) : (s.setTdi k v).priReqs = s.priReqs := rfl
@[simp] theorem State.setTdi_dies (v : Tdi) : (s.setTdi k v).dies = s.dies := rfl
@[simp] theorem State.setTdi_digestPairs (v : Tdi) : (s.setTdi k v).digestPairs = s.digestPairs := rfl
@[simp] theorem State.setTdi_log (v : Tdi) : (s.setTdi k v).log = s.log := rfl
@[simp] theorem State.setTdi_par (v : Tdi) : (s.setTdi k v).par = s.par := rfl
@[simp] theorem State.setTdi_ethPorts (v : Tdi) : (s.setTdi k v).ethPorts = s.ethPorts := rfl
@[simp] theorem State.setTdi_flows (v : Tdi) : (s.setTdi k v).flows = s.flows := rfl
@[simp] theorem State.setTdi_vlt (v : Tdi) : (s.setTdi k v).vlt = s.vlt := rfl
@[simp] theorem State.setTdi_rst (v : Tdi) : (s.setTdi k v).rst = s.rst := rfl
@[simp] theorem State.setTdi_fw (v : Tdi) : (s.setTdi k v).fw = s.fw := rfl
@[simp] theorem State.setTdi_vnt (v : Tdi) : (s.setTdi k v).vnt = s.vnt := rfl
@[simp] theorem State.setTdi_tap (v : Tdi) : (s.setTdi k v).tap = s.tap := rfl
@[simp] theorem State.setTdi_moves (v : Tdi) : (s.setTdi k v).moves = s.moves := rfl
@[simp] theorem State.setTdi_mus (v : Tdi) : (s.setTdi k v).mus = s.mus := rfl
@[simp] theorem State.setTdi_lanes (v : Tdi) : (s.setTdi k v).lanes = s.lanes := rfl
@[simp] theorem State.setTdi_ahead (v : Tdi) : (s.setTdi k v).ahead = s.ahead := rfl
@[simp] theorem State.setTdi_bar2Waits (v : Tdi) : (s.setTdi k v).bar2Waits = s.bar2Waits := rfl
@[simp] theorem State.setTdi_hub_ (v : Tdi) : (s.setTdi k v).hub j = s.hub j := rfl
@[simp] theorem State.setTdi_port_ (v : Tdi) : (s.setTdi k v).port j = s.port j := rfl
@[simp] theorem State.setTdi_link_ (v : Tdi) : (s.setTdi k v).link j = s.link j := rfl
@[simp] theorem State.setTdi_mbox_ (v : Tdi) : (s.setTdi k v).mbox j = s.mbox j := rfl
@[simp] theorem State.setTdi_fnSt_ (v : Tdi) : (s.setTdi k v).fnSt j = s.fnSt j := rfl
@[simp] theorem State.setTdi_msixEnt_ (v : Tdi) : (s.setTdi k v).msixEnt j = s.msixEnt j := rfl
@[simp] theorem State.setTdi_peer_ (v : Tdi) : (s.setTdi k v).peer j = s.peer j := rfl
@[simp] theorem State.setTdi_half_ (v : Tdi) : (s.setTdi k v).half j = s.half j := rfl
@[simp] theorem State.setTdi_cell_ (v : Tdi) : (s.setTdi k v).cell j = s.cell j := rfl
@[simp] theorem State.setTdi_ext_ (v : Tdi) : (s.setTdi k v).ext j = s.ext j := rfl
@[simp] theorem State.setTdi_vf_ (v : Tdi) : (s.setTdi k v).vf j = s.vf j := rfl
@[simp] theorem State.setTdi_unit_ (v : Tdi) : (s.setTdi k v).unit j = s.unit j := rfl
@[simp] theorem State.setTdi_wing_ (v : Tdi) : (s.setTdi k v).wing j = s.wing j := rfl
@[simp] theorem State.setTdi_que_ (v : Tdi) : (s.setTdi k v).que j = s.que j := rfl
@[simp] theorem State.setTdi_doc_ (v : Tdi) : (s.setTdi k v).doc j = s.doc j := rfl
@[simp] theorem State.setTdi_arb_ (v : Tdi) : (s.setTdi k v).arb j = s.arb j := rfl
@[simp] theorem State.setTdi_table_ (v : Tdi) : (s.setTdi k v).table j = s.table j := rfl
@[simp] theorem State.setTdi_cat_ (v : Tdi) : (s.setTdi k v).cat j = s.cat j := rfl
@[simp] theorem State.setTdi_line_ (v : Tdi) : (s.setTdi k v).line j = s.line j := rfl
@[simp] theorem State.setTdi_stack_ (v : Tdi) : (s.setTdi k v).stack j = s.stack j := rfl
@[simp] theorem State.setTdi_die_ (v : Tdi) : (s.setTdi k v).die j = s.die j := rfl
@[simp] theorem State.setTdi_eth_ (v : Tdi) : (s.setTdi k v).eth j = s.eth j := rfl
@[simp] theorem State.setTdi_flow_ (v : Tdi) : (s.setTdi k v).flow j = s.flow j := rfl
@[simp] theorem State.setTdi_mu_ (v : Tdi) : (s.setTdi k v).mu j = s.mu j := rfl
@[simp] theorem State.setTdi_lane_ (v : Tdi) : (s.setTdi k v).lane j = s.lane j := rfl

/-! ### updFw -/

@[simp] theorem State.updFw_own (f : Fw → Fw) : (s.updFw f).fw = f s.fw := rfl
@[simp] theorem State.updFw_pending (f : Fw → Fw) : (s.updFw f).pending = s.pending := rfl
@[simp] theorem State.updFw_out (f : Fw → Fw) : (s.updFw f).out = s.out := rfl
@[simp] theorem State.updFw_freeCtr (f : Fw → Fw) : (s.updFw f).freeCtr = s.freeCtr := rfl
@[simp] theorem State.updFw_clk (f : Fw → Fw) : (s.updFw f).clk = s.clk := rfl
@[simp] theorem State.updFw_plinth (f : Fw → Fw) : (s.updFw f).plinth = s.plinth := rfl
@[simp] theorem State.updFw_hubs (f : Fw → Fw) : (s.updFw f).hubs = s.hubs := rfl
@[simp] theorem State.updFw_hubLinkUp (f : Fw → Fw) : (s.updFw f).hubLinkUp = s.hubLinkUp := rfl
@[simp] theorem State.updFw_ports (f : Fw → Fw) : (s.updFw f).ports = s.ports := rfl
@[simp] theorem State.updFw_links (f : Fw → Fw) : (s.updFw f).links = s.links := rfl
@[simp] theorem State.updFw_noAuthority (f : Fw → Fw) : (s.updFw f).noAuthority = s.noAuthority := rfl
@[simp] theorem State.updFw_lastDispatch (f : Fw → Fw) : (s.updFw f).lastDispatch = s.lastDispatch := rfl
@[simp] theorem State.updFw_mbx (f : Fw → Fw) : (s.updFw f).mbx = s.mbx := rfl
@[simp] theorem State.updFw_fns (f : Fw → Fw) : (s.updFw f).fns = s.fns := rfl
@[simp] theorem State.updFw_msix (f : Fw → Fw) : (s.updFw f).msix = s.msix := rfl
@[simp] theorem State.updFw_pcie (f : Fw → Fw) : (s.updFw f).pcie = s.pcie := rfl
@[simp] theorem State.updFw_peers (f : Fw → Fw) : (s.updFw f).peers = s.peers := rfl
@[simp] theorem State.updFw_halfCells (f : Fw → Fw) : (s.updFw f).halfCells = s.halfCells := rfl
@[simp] theorem State.updFw_cells (f : Fw → Fw) : (s.updFw f).cells = s.cells := rfl
@[simp] theorem State.updFw_extents (f : Fw → Fw) : (s.updFw f).extents = s.extents := rfl
@[simp] theorem State.updFw_vfs (f : Fw → Fw) : (s.updFw f).vfs = s.vfs := rfl
@[simp] theorem State.updFw_units (f : Fw → Fw) : (s.updFw f).units = s.units := rfl
@[simp] theorem State.updFw_wings (f : Fw → Fw) : (s.updFw f).wings = s.wings := rfl
@[simp] theorem State.updFw_noWing (f : Fw → Fw) : (s.updFw f).noWing = s.noWing := rfl
@[simp] theorem State.updFw_noWingSince (f : Fw → Fw) : (s.updFw f).noWingSince = s.noWingSince := rfl
@[simp] theorem State.updFw_noWingAt (f : Fw → Fw) : (s.updFw f).noWingAt = s.noWingAt := rfl
@[simp] theorem State.updFw_queues (f : Fw → Fw) : (s.updFw f).queues = s.queues := rfl
@[simp] theorem State.updFw_reqs (f : Fw → Fw) : (s.updFw f).reqs = s.reqs := rfl
@[simp] theorem State.updFw_nextReq (f : Fw → Fw) : (s.updFw f).nextReq = s.nextReq := rfl
@[simp] theorem State.updFw_images (f : Fw → Fw) : (s.updFw f).images = s.images := rfl
@[simp] theorem State.updFw_docents (f : Fw → Fw) : (s.updFw f).docents = s.docents := rfl
@[simp] theorem State.updFw_launches (f : Fw → Fw) : (s.updFw f).launches = s.launches := rfl
@[simp] theorem State.updFw_arbs (f : Fw → Fw) : (s.updFw f).arbs = s.arbs := rfl
@[simp] theorem State.updFw_batches (f : Fw → Fw) : (s.updFw f).batches = s.batches := rfl
@[simp] theorem State.updFw_dups (f : Fw → Fw) : (s.updFw f).dups = s.dups := rfl
@[simp] theorem State.updFw_sp (f : Fw → Fw) : (s.updFw f).sp = s.sp := rfl
@[simp] theorem State.updFw_spBad (f : Fw → Fw) : (s.updFw f).spBad = s.spBad := rfl
@[simp] theorem State.updFw_ckpts (f : Fw → Fw) : (s.updFw f).ckpts = s.ckpts := rfl
@[simp] theorem State.updFw_ckptCount (f : Fw → Fw) : (s.updFw f).ckptCount = s.ckptCount := rfl
@[simp] theorem State.updFw_tables (f : Fw → Fw) : (s.updFw f).tables = s.tables := rfl
@[simp] theorem State.updFw_cats (f : Fw → Fw) : (s.updFw f).cats = s.cats := rfl
@[simp] theorem State.updFw_dir (f : Fw → Fw) : (s.updFw f).dir = s.dir := rfl
@[simp] theorem State.updFw_cache (f : Fw → Fw) : (s.updFw f).cache = s.cache := rfl
@[simp] theorem State.updFw_dram (f : Fw → Fw) : (s.updFw f).dram = s.dram := rfl
@[simp] theorem State.updFw_lines (f : Fw → Fw) : (s.updFw f).lines = s.lines := rfl
@[simp] theorem State.updFw_dramStacks (f : Fw → Fw) : (s.updFw f).dramStacks = s.dramStacks := rfl
@[simp] theorem State.updFw_patrolHours (f : Fw → Fw) : (s.updFw f).patrolHours = s.patrolHours := rfl
@[simp] theorem State.updFw_priTimeout (f : Fw → Fw) : (s.updFw f).priTimeout = s.priTimeout := rfl
@[simp] theorem State.updFw_rowErrs (f : Fw → Fw) : (s.updFw f).rowErrs = s.rowErrs := rfl
@[simp] theorem State.updFw_tlb (f : Fw → Fw) : (s.updFw f).tlb = s.tlb := rfl
@[simp] theorem State.updFw_ptw (f : Fw → Fw) : (s.updFw f).ptw = s.ptw := rfl
@[simp] theorem State.updFw_lineWaits (f : Fw → Fw) : (s.updFw f).lineWaits = s.lineWaits := rfl
@[simp] theorem State.updFw_ats (f : Fw → Fw) : (s.updFw f).ats = s.ats := rfl
@[simp] theorem State.updFw_atsReqs (f : Fw → Fw) : (s.updFw f).atsReqs = s.atsReqs := rfl
@[simp] theorem State.updFw_priReqs (f : Fw → Fw) : (s.updFw f).priReqs = s.priReqs := rfl
@[simp] theorem State.updFw_dies (f : Fw → Fw) : (s.updFw f).dies = s.dies := rfl
@[simp] theorem State.updFw_digestPairs (f : Fw → Fw) : (s.updFw f).digestPairs = s.digestPairs := rfl
@[simp] theorem State.updFw_log (f : Fw → Fw) : (s.updFw f).log = s.log := rfl
@[simp] theorem State.updFw_par (f : Fw → Fw) : (s.updFw f).par = s.par := rfl
@[simp] theorem State.updFw_ethPorts (f : Fw → Fw) : (s.updFw f).ethPorts = s.ethPorts := rfl
@[simp] theorem State.updFw_flows (f : Fw → Fw) : (s.updFw f).flows = s.flows := rfl
@[simp] theorem State.updFw_vlt (f : Fw → Fw) : (s.updFw f).vlt = s.vlt := rfl
@[simp] theorem State.updFw_tdis (f : Fw → Fw) : (s.updFw f).tdis = s.tdis := rfl
@[simp] theorem State.updFw_rst (f : Fw → Fw) : (s.updFw f).rst = s.rst := rfl
@[simp] theorem State.updFw_vnt (f : Fw → Fw) : (s.updFw f).vnt = s.vnt := rfl
@[simp] theorem State.updFw_tap (f : Fw → Fw) : (s.updFw f).tap = s.tap := rfl
@[simp] theorem State.updFw_moves (f : Fw → Fw) : (s.updFw f).moves = s.moves := rfl
@[simp] theorem State.updFw_mus (f : Fw → Fw) : (s.updFw f).mus = s.mus := rfl
@[simp] theorem State.updFw_lanes (f : Fw → Fw) : (s.updFw f).lanes = s.lanes := rfl
@[simp] theorem State.updFw_ahead (f : Fw → Fw) : (s.updFw f).ahead = s.ahead := rfl
@[simp] theorem State.updFw_bar2Waits (f : Fw → Fw) : (s.updFw f).bar2Waits = s.bar2Waits := rfl
@[simp] theorem State.updFw_hub_ (f : Fw → Fw) : (s.updFw f).hub j = s.hub j := rfl
@[simp] theorem State.updFw_port_ (f : Fw → Fw) : (s.updFw f).port j = s.port j := rfl
@[simp] theorem State.updFw_link_ (f : Fw → Fw) : (s.updFw f).link j = s.link j := rfl
@[simp] theorem State.updFw_mbox_ (f : Fw → Fw) : (s.updFw f).mbox j = s.mbox j := rfl
@[simp] theorem State.updFw_fnSt_ (f : Fw → Fw) : (s.updFw f).fnSt j = s.fnSt j := rfl
@[simp] theorem State.updFw_msixEnt_ (f : Fw → Fw) : (s.updFw f).msixEnt j = s.msixEnt j := rfl
@[simp] theorem State.updFw_peer_ (f : Fw → Fw) : (s.updFw f).peer j = s.peer j := rfl
@[simp] theorem State.updFw_half_ (f : Fw → Fw) : (s.updFw f).half j = s.half j := rfl
@[simp] theorem State.updFw_cell_ (f : Fw → Fw) : (s.updFw f).cell j = s.cell j := rfl
@[simp] theorem State.updFw_ext_ (f : Fw → Fw) : (s.updFw f).ext j = s.ext j := rfl
@[simp] theorem State.updFw_vf_ (f : Fw → Fw) : (s.updFw f).vf j = s.vf j := rfl
@[simp] theorem State.updFw_unit_ (f : Fw → Fw) : (s.updFw f).unit j = s.unit j := rfl
@[simp] theorem State.updFw_wing_ (f : Fw → Fw) : (s.updFw f).wing j = s.wing j := rfl
@[simp] theorem State.updFw_que_ (f : Fw → Fw) : (s.updFw f).que j = s.que j := rfl
@[simp] theorem State.updFw_doc_ (f : Fw → Fw) : (s.updFw f).doc j = s.doc j := rfl
@[simp] theorem State.updFw_arb_ (f : Fw → Fw) : (s.updFw f).arb j = s.arb j := rfl
@[simp] theorem State.updFw_table_ (f : Fw → Fw) : (s.updFw f).table j = s.table j := rfl
@[simp] theorem State.updFw_cat_ (f : Fw → Fw) : (s.updFw f).cat j = s.cat j := rfl
@[simp] theorem State.updFw_line_ (f : Fw → Fw) : (s.updFw f).line j = s.line j := rfl
@[simp] theorem State.updFw_stack_ (f : Fw → Fw) : (s.updFw f).stack j = s.stack j := rfl
@[simp] theorem State.updFw_die_ (f : Fw → Fw) : (s.updFw f).die j = s.die j := rfl
@[simp] theorem State.updFw_eth_ (f : Fw → Fw) : (s.updFw f).eth j = s.eth j := rfl
@[simp] theorem State.updFw_flow_ (f : Fw → Fw) : (s.updFw f).flow j = s.flow j := rfl
@[simp] theorem State.updFw_tdi_ (f : Fw → Fw) : (s.updFw f).tdi j = s.tdi j := rfl
@[simp] theorem State.updFw_mu_ (f : Fw → Fw) : (s.updFw f).mu j = s.mu j := rfl
@[simp] theorem State.updFw_lane_ (f : Fw → Fw) : (s.updFw f).lane j = s.lane j := rfl

/-! ### updPar -/

@[simp] theorem State.updPar_own (f : Par → Par) : (s.updPar f).par = f s.par := rfl
@[simp] theorem State.updPar_pending (f : Par → Par) : (s.updPar f).pending = s.pending := rfl
@[simp] theorem State.updPar_out (f : Par → Par) : (s.updPar f).out = s.out := rfl
@[simp] theorem State.updPar_freeCtr (f : Par → Par) : (s.updPar f).freeCtr = s.freeCtr := rfl
@[simp] theorem State.updPar_clk (f : Par → Par) : (s.updPar f).clk = s.clk := rfl
@[simp] theorem State.updPar_plinth (f : Par → Par) : (s.updPar f).plinth = s.plinth := rfl
@[simp] theorem State.updPar_hubs (f : Par → Par) : (s.updPar f).hubs = s.hubs := rfl
@[simp] theorem State.updPar_hubLinkUp (f : Par → Par) : (s.updPar f).hubLinkUp = s.hubLinkUp := rfl
@[simp] theorem State.updPar_ports (f : Par → Par) : (s.updPar f).ports = s.ports := rfl
@[simp] theorem State.updPar_links (f : Par → Par) : (s.updPar f).links = s.links := rfl
@[simp] theorem State.updPar_noAuthority (f : Par → Par) : (s.updPar f).noAuthority = s.noAuthority := rfl
@[simp] theorem State.updPar_lastDispatch (f : Par → Par) : (s.updPar f).lastDispatch = s.lastDispatch := rfl
@[simp] theorem State.updPar_mbx (f : Par → Par) : (s.updPar f).mbx = s.mbx := rfl
@[simp] theorem State.updPar_fns (f : Par → Par) : (s.updPar f).fns = s.fns := rfl
@[simp] theorem State.updPar_msix (f : Par → Par) : (s.updPar f).msix = s.msix := rfl
@[simp] theorem State.updPar_pcie (f : Par → Par) : (s.updPar f).pcie = s.pcie := rfl
@[simp] theorem State.updPar_peers (f : Par → Par) : (s.updPar f).peers = s.peers := rfl
@[simp] theorem State.updPar_halfCells (f : Par → Par) : (s.updPar f).halfCells = s.halfCells := rfl
@[simp] theorem State.updPar_cells (f : Par → Par) : (s.updPar f).cells = s.cells := rfl
@[simp] theorem State.updPar_extents (f : Par → Par) : (s.updPar f).extents = s.extents := rfl
@[simp] theorem State.updPar_vfs (f : Par → Par) : (s.updPar f).vfs = s.vfs := rfl
@[simp] theorem State.updPar_units (f : Par → Par) : (s.updPar f).units = s.units := rfl
@[simp] theorem State.updPar_wings (f : Par → Par) : (s.updPar f).wings = s.wings := rfl
@[simp] theorem State.updPar_noWing (f : Par → Par) : (s.updPar f).noWing = s.noWing := rfl
@[simp] theorem State.updPar_noWingSince (f : Par → Par) : (s.updPar f).noWingSince = s.noWingSince := rfl
@[simp] theorem State.updPar_noWingAt (f : Par → Par) : (s.updPar f).noWingAt = s.noWingAt := rfl
@[simp] theorem State.updPar_queues (f : Par → Par) : (s.updPar f).queues = s.queues := rfl
@[simp] theorem State.updPar_reqs (f : Par → Par) : (s.updPar f).reqs = s.reqs := rfl
@[simp] theorem State.updPar_nextReq (f : Par → Par) : (s.updPar f).nextReq = s.nextReq := rfl
@[simp] theorem State.updPar_images (f : Par → Par) : (s.updPar f).images = s.images := rfl
@[simp] theorem State.updPar_docents (f : Par → Par) : (s.updPar f).docents = s.docents := rfl
@[simp] theorem State.updPar_launches (f : Par → Par) : (s.updPar f).launches = s.launches := rfl
@[simp] theorem State.updPar_arbs (f : Par → Par) : (s.updPar f).arbs = s.arbs := rfl
@[simp] theorem State.updPar_batches (f : Par → Par) : (s.updPar f).batches = s.batches := rfl
@[simp] theorem State.updPar_dups (f : Par → Par) : (s.updPar f).dups = s.dups := rfl
@[simp] theorem State.updPar_sp (f : Par → Par) : (s.updPar f).sp = s.sp := rfl
@[simp] theorem State.updPar_spBad (f : Par → Par) : (s.updPar f).spBad = s.spBad := rfl
@[simp] theorem State.updPar_ckpts (f : Par → Par) : (s.updPar f).ckpts = s.ckpts := rfl
@[simp] theorem State.updPar_ckptCount (f : Par → Par) : (s.updPar f).ckptCount = s.ckptCount := rfl
@[simp] theorem State.updPar_tables (f : Par → Par) : (s.updPar f).tables = s.tables := rfl
@[simp] theorem State.updPar_cats (f : Par → Par) : (s.updPar f).cats = s.cats := rfl
@[simp] theorem State.updPar_dir (f : Par → Par) : (s.updPar f).dir = s.dir := rfl
@[simp] theorem State.updPar_cache (f : Par → Par) : (s.updPar f).cache = s.cache := rfl
@[simp] theorem State.updPar_dram (f : Par → Par) : (s.updPar f).dram = s.dram := rfl
@[simp] theorem State.updPar_lines (f : Par → Par) : (s.updPar f).lines = s.lines := rfl
@[simp] theorem State.updPar_dramStacks (f : Par → Par) : (s.updPar f).dramStacks = s.dramStacks := rfl
@[simp] theorem State.updPar_patrolHours (f : Par → Par) : (s.updPar f).patrolHours = s.patrolHours := rfl
@[simp] theorem State.updPar_priTimeout (f : Par → Par) : (s.updPar f).priTimeout = s.priTimeout := rfl
@[simp] theorem State.updPar_rowErrs (f : Par → Par) : (s.updPar f).rowErrs = s.rowErrs := rfl
@[simp] theorem State.updPar_tlb (f : Par → Par) : (s.updPar f).tlb = s.tlb := rfl
@[simp] theorem State.updPar_ptw (f : Par → Par) : (s.updPar f).ptw = s.ptw := rfl
@[simp] theorem State.updPar_lineWaits (f : Par → Par) : (s.updPar f).lineWaits = s.lineWaits := rfl
@[simp] theorem State.updPar_ats (f : Par → Par) : (s.updPar f).ats = s.ats := rfl
@[simp] theorem State.updPar_atsReqs (f : Par → Par) : (s.updPar f).atsReqs = s.atsReqs := rfl
@[simp] theorem State.updPar_priReqs (f : Par → Par) : (s.updPar f).priReqs = s.priReqs := rfl
@[simp] theorem State.updPar_dies (f : Par → Par) : (s.updPar f).dies = s.dies := rfl
@[simp] theorem State.updPar_digestPairs (f : Par → Par) : (s.updPar f).digestPairs = s.digestPairs := rfl
@[simp] theorem State.updPar_log (f : Par → Par) : (s.updPar f).log = s.log := rfl
@[simp] theorem State.updPar_ethPorts (f : Par → Par) : (s.updPar f).ethPorts = s.ethPorts := rfl
@[simp] theorem State.updPar_flows (f : Par → Par) : (s.updPar f).flows = s.flows := rfl
@[simp] theorem State.updPar_vlt (f : Par → Par) : (s.updPar f).vlt = s.vlt := rfl
@[simp] theorem State.updPar_tdis (f : Par → Par) : (s.updPar f).tdis = s.tdis := rfl
@[simp] theorem State.updPar_rst (f : Par → Par) : (s.updPar f).rst = s.rst := rfl
@[simp] theorem State.updPar_fw (f : Par → Par) : (s.updPar f).fw = s.fw := rfl
@[simp] theorem State.updPar_vnt (f : Par → Par) : (s.updPar f).vnt = s.vnt := rfl
@[simp] theorem State.updPar_tap (f : Par → Par) : (s.updPar f).tap = s.tap := rfl
@[simp] theorem State.updPar_moves (f : Par → Par) : (s.updPar f).moves = s.moves := rfl
@[simp] theorem State.updPar_mus (f : Par → Par) : (s.updPar f).mus = s.mus := rfl
@[simp] theorem State.updPar_lanes (f : Par → Par) : (s.updPar f).lanes = s.lanes := rfl
@[simp] theorem State.updPar_ahead (f : Par → Par) : (s.updPar f).ahead = s.ahead := rfl
@[simp] theorem State.updPar_bar2Waits (f : Par → Par) : (s.updPar f).bar2Waits = s.bar2Waits := rfl
@[simp] theorem State.updPar_hub_ (f : Par → Par) : (s.updPar f).hub j = s.hub j := rfl
@[simp] theorem State.updPar_port_ (f : Par → Par) : (s.updPar f).port j = s.port j := rfl
@[simp] theorem State.updPar_link_ (f : Par → Par) : (s.updPar f).link j = s.link j := rfl
@[simp] theorem State.updPar_mbox_ (f : Par → Par) : (s.updPar f).mbox j = s.mbox j := rfl
@[simp] theorem State.updPar_fnSt_ (f : Par → Par) : (s.updPar f).fnSt j = s.fnSt j := rfl
@[simp] theorem State.updPar_msixEnt_ (f : Par → Par) : (s.updPar f).msixEnt j = s.msixEnt j := rfl
@[simp] theorem State.updPar_peer_ (f : Par → Par) : (s.updPar f).peer j = s.peer j := rfl
@[simp] theorem State.updPar_half_ (f : Par → Par) : (s.updPar f).half j = s.half j := rfl
@[simp] theorem State.updPar_cell_ (f : Par → Par) : (s.updPar f).cell j = s.cell j := rfl
@[simp] theorem State.updPar_ext_ (f : Par → Par) : (s.updPar f).ext j = s.ext j := rfl
@[simp] theorem State.updPar_vf_ (f : Par → Par) : (s.updPar f).vf j = s.vf j := rfl
@[simp] theorem State.updPar_unit_ (f : Par → Par) : (s.updPar f).unit j = s.unit j := rfl
@[simp] theorem State.updPar_wing_ (f : Par → Par) : (s.updPar f).wing j = s.wing j := rfl
@[simp] theorem State.updPar_que_ (f : Par → Par) : (s.updPar f).que j = s.que j := rfl
@[simp] theorem State.updPar_doc_ (f : Par → Par) : (s.updPar f).doc j = s.doc j := rfl
@[simp] theorem State.updPar_arb_ (f : Par → Par) : (s.updPar f).arb j = s.arb j := rfl
@[simp] theorem State.updPar_table_ (f : Par → Par) : (s.updPar f).table j = s.table j := rfl
@[simp] theorem State.updPar_cat_ (f : Par → Par) : (s.updPar f).cat j = s.cat j := rfl
@[simp] theorem State.updPar_line_ (f : Par → Par) : (s.updPar f).line j = s.line j := rfl
@[simp] theorem State.updPar_stack_ (f : Par → Par) : (s.updPar f).stack j = s.stack j := rfl
@[simp] theorem State.updPar_die_ (f : Par → Par) : (s.updPar f).die j = s.die j := rfl
@[simp] theorem State.updPar_eth_ (f : Par → Par) : (s.updPar f).eth j = s.eth j := rfl
@[simp] theorem State.updPar_flow_ (f : Par → Par) : (s.updPar f).flow j = s.flow j := rfl
@[simp] theorem State.updPar_tdi_ (f : Par → Par) : (s.updPar f).tdi j = s.tdi j := rfl
@[simp] theorem State.updPar_mu_ (f : Par → Par) : (s.updPar f).mu j = s.mu j := rfl
@[simp] theorem State.updPar_lane_ (f : Par → Par) : (s.updPar f).lane j = s.lane j := rfl

/-! ### updPcie -/

@[simp] theorem State.updPcie_own (f : Pcie → Pcie) : (s.updPcie f).pcie = f s.pcie := rfl
@[simp] theorem State.updPcie_pending (f : Pcie → Pcie) : (s.updPcie f).pending = s.pending := rfl
@[simp] theorem State.updPcie_out (f : Pcie → Pcie) : (s.updPcie f).out = s.out := rfl
@[simp] theorem State.updPcie_freeCtr (f : Pcie → Pcie) : (s.updPcie f).freeCtr = s.freeCtr := rfl
@[simp] theorem State.updPcie_clk (f : Pcie → Pcie) : (s.updPcie f).clk = s.clk := rfl
@[simp] theorem State.updPcie_plinth (f : Pcie → Pcie) : (s.updPcie f).plinth = s.plinth := rfl
@[simp] theorem State.updPcie_hubs (f : Pcie → Pcie) : (s.updPcie f).hubs = s.hubs := rfl
@[simp] theorem State.updPcie_hubLinkUp (f : Pcie → Pcie) : (s.updPcie f).hubLinkUp = s.hubLinkUp := rfl
@[simp] theorem State.updPcie_ports (f : Pcie → Pcie) : (s.updPcie f).ports = s.ports := rfl
@[simp] theorem State.updPcie_links (f : Pcie → Pcie) : (s.updPcie f).links = s.links := rfl
@[simp] theorem State.updPcie_noAuthority (f : Pcie → Pcie) : (s.updPcie f).noAuthority = s.noAuthority := rfl
@[simp] theorem State.updPcie_lastDispatch (f : Pcie → Pcie) : (s.updPcie f).lastDispatch = s.lastDispatch := rfl
@[simp] theorem State.updPcie_mbx (f : Pcie → Pcie) : (s.updPcie f).mbx = s.mbx := rfl
@[simp] theorem State.updPcie_fns (f : Pcie → Pcie) : (s.updPcie f).fns = s.fns := rfl
@[simp] theorem State.updPcie_msix (f : Pcie → Pcie) : (s.updPcie f).msix = s.msix := rfl
@[simp] theorem State.updPcie_peers (f : Pcie → Pcie) : (s.updPcie f).peers = s.peers := rfl
@[simp] theorem State.updPcie_halfCells (f : Pcie → Pcie) : (s.updPcie f).halfCells = s.halfCells := rfl
@[simp] theorem State.updPcie_cells (f : Pcie → Pcie) : (s.updPcie f).cells = s.cells := rfl
@[simp] theorem State.updPcie_extents (f : Pcie → Pcie) : (s.updPcie f).extents = s.extents := rfl
@[simp] theorem State.updPcie_vfs (f : Pcie → Pcie) : (s.updPcie f).vfs = s.vfs := rfl
@[simp] theorem State.updPcie_units (f : Pcie → Pcie) : (s.updPcie f).units = s.units := rfl
@[simp] theorem State.updPcie_wings (f : Pcie → Pcie) : (s.updPcie f).wings = s.wings := rfl
@[simp] theorem State.updPcie_noWing (f : Pcie → Pcie) : (s.updPcie f).noWing = s.noWing := rfl
@[simp] theorem State.updPcie_noWingSince (f : Pcie → Pcie) : (s.updPcie f).noWingSince = s.noWingSince := rfl
@[simp] theorem State.updPcie_noWingAt (f : Pcie → Pcie) : (s.updPcie f).noWingAt = s.noWingAt := rfl
@[simp] theorem State.updPcie_queues (f : Pcie → Pcie) : (s.updPcie f).queues = s.queues := rfl
@[simp] theorem State.updPcie_reqs (f : Pcie → Pcie) : (s.updPcie f).reqs = s.reqs := rfl
@[simp] theorem State.updPcie_nextReq (f : Pcie → Pcie) : (s.updPcie f).nextReq = s.nextReq := rfl
@[simp] theorem State.updPcie_images (f : Pcie → Pcie) : (s.updPcie f).images = s.images := rfl
@[simp] theorem State.updPcie_docents (f : Pcie → Pcie) : (s.updPcie f).docents = s.docents := rfl
@[simp] theorem State.updPcie_launches (f : Pcie → Pcie) : (s.updPcie f).launches = s.launches := rfl
@[simp] theorem State.updPcie_arbs (f : Pcie → Pcie) : (s.updPcie f).arbs = s.arbs := rfl
@[simp] theorem State.updPcie_batches (f : Pcie → Pcie) : (s.updPcie f).batches = s.batches := rfl
@[simp] theorem State.updPcie_dups (f : Pcie → Pcie) : (s.updPcie f).dups = s.dups := rfl
@[simp] theorem State.updPcie_sp (f : Pcie → Pcie) : (s.updPcie f).sp = s.sp := rfl
@[simp] theorem State.updPcie_spBad (f : Pcie → Pcie) : (s.updPcie f).spBad = s.spBad := rfl
@[simp] theorem State.updPcie_ckpts (f : Pcie → Pcie) : (s.updPcie f).ckpts = s.ckpts := rfl
@[simp] theorem State.updPcie_ckptCount (f : Pcie → Pcie) : (s.updPcie f).ckptCount = s.ckptCount := rfl
@[simp] theorem State.updPcie_tables (f : Pcie → Pcie) : (s.updPcie f).tables = s.tables := rfl
@[simp] theorem State.updPcie_cats (f : Pcie → Pcie) : (s.updPcie f).cats = s.cats := rfl
@[simp] theorem State.updPcie_dir (f : Pcie → Pcie) : (s.updPcie f).dir = s.dir := rfl
@[simp] theorem State.updPcie_cache (f : Pcie → Pcie) : (s.updPcie f).cache = s.cache := rfl
@[simp] theorem State.updPcie_dram (f : Pcie → Pcie) : (s.updPcie f).dram = s.dram := rfl
@[simp] theorem State.updPcie_lines (f : Pcie → Pcie) : (s.updPcie f).lines = s.lines := rfl
@[simp] theorem State.updPcie_dramStacks (f : Pcie → Pcie) : (s.updPcie f).dramStacks = s.dramStacks := rfl
@[simp] theorem State.updPcie_patrolHours (f : Pcie → Pcie) : (s.updPcie f).patrolHours = s.patrolHours := rfl
@[simp] theorem State.updPcie_priTimeout (f : Pcie → Pcie) : (s.updPcie f).priTimeout = s.priTimeout := rfl
@[simp] theorem State.updPcie_rowErrs (f : Pcie → Pcie) : (s.updPcie f).rowErrs = s.rowErrs := rfl
@[simp] theorem State.updPcie_tlb (f : Pcie → Pcie) : (s.updPcie f).tlb = s.tlb := rfl
@[simp] theorem State.updPcie_ptw (f : Pcie → Pcie) : (s.updPcie f).ptw = s.ptw := rfl
@[simp] theorem State.updPcie_lineWaits (f : Pcie → Pcie) : (s.updPcie f).lineWaits = s.lineWaits := rfl
@[simp] theorem State.updPcie_ats (f : Pcie → Pcie) : (s.updPcie f).ats = s.ats := rfl
@[simp] theorem State.updPcie_atsReqs (f : Pcie → Pcie) : (s.updPcie f).atsReqs = s.atsReqs := rfl
@[simp] theorem State.updPcie_priReqs (f : Pcie → Pcie) : (s.updPcie f).priReqs = s.priReqs := rfl
@[simp] theorem State.updPcie_dies (f : Pcie → Pcie) : (s.updPcie f).dies = s.dies := rfl
@[simp] theorem State.updPcie_digestPairs (f : Pcie → Pcie) : (s.updPcie f).digestPairs = s.digestPairs := rfl
@[simp] theorem State.updPcie_log (f : Pcie → Pcie) : (s.updPcie f).log = s.log := rfl
@[simp] theorem State.updPcie_par (f : Pcie → Pcie) : (s.updPcie f).par = s.par := rfl
@[simp] theorem State.updPcie_ethPorts (f : Pcie → Pcie) : (s.updPcie f).ethPorts = s.ethPorts := rfl
@[simp] theorem State.updPcie_flows (f : Pcie → Pcie) : (s.updPcie f).flows = s.flows := rfl
@[simp] theorem State.updPcie_vlt (f : Pcie → Pcie) : (s.updPcie f).vlt = s.vlt := rfl
@[simp] theorem State.updPcie_tdis (f : Pcie → Pcie) : (s.updPcie f).tdis = s.tdis := rfl
@[simp] theorem State.updPcie_rst (f : Pcie → Pcie) : (s.updPcie f).rst = s.rst := rfl
@[simp] theorem State.updPcie_fw (f : Pcie → Pcie) : (s.updPcie f).fw = s.fw := rfl
@[simp] theorem State.updPcie_vnt (f : Pcie → Pcie) : (s.updPcie f).vnt = s.vnt := rfl
@[simp] theorem State.updPcie_tap (f : Pcie → Pcie) : (s.updPcie f).tap = s.tap := rfl
@[simp] theorem State.updPcie_moves (f : Pcie → Pcie) : (s.updPcie f).moves = s.moves := rfl
@[simp] theorem State.updPcie_mus (f : Pcie → Pcie) : (s.updPcie f).mus = s.mus := rfl
@[simp] theorem State.updPcie_lanes (f : Pcie → Pcie) : (s.updPcie f).lanes = s.lanes := rfl
@[simp] theorem State.updPcie_ahead (f : Pcie → Pcie) : (s.updPcie f).ahead = s.ahead := rfl
@[simp] theorem State.updPcie_bar2Waits (f : Pcie → Pcie) : (s.updPcie f).bar2Waits = s.bar2Waits := rfl
@[simp] theorem State.updPcie_hub_ (f : Pcie → Pcie) : (s.updPcie f).hub j = s.hub j := rfl
@[simp] theorem State.updPcie_port_ (f : Pcie → Pcie) : (s.updPcie f).port j = s.port j := rfl
@[simp] theorem State.updPcie_link_ (f : Pcie → Pcie) : (s.updPcie f).link j = s.link j := rfl
@[simp] theorem State.updPcie_mbox_ (f : Pcie → Pcie) : (s.updPcie f).mbox j = s.mbox j := rfl
@[simp] theorem State.updPcie_fnSt_ (f : Pcie → Pcie) : (s.updPcie f).fnSt j = s.fnSt j := rfl
@[simp] theorem State.updPcie_msixEnt_ (f : Pcie → Pcie) : (s.updPcie f).msixEnt j = s.msixEnt j := rfl
@[simp] theorem State.updPcie_peer_ (f : Pcie → Pcie) : (s.updPcie f).peer j = s.peer j := rfl
@[simp] theorem State.updPcie_half_ (f : Pcie → Pcie) : (s.updPcie f).half j = s.half j := rfl
@[simp] theorem State.updPcie_cell_ (f : Pcie → Pcie) : (s.updPcie f).cell j = s.cell j := rfl
@[simp] theorem State.updPcie_ext_ (f : Pcie → Pcie) : (s.updPcie f).ext j = s.ext j := rfl
@[simp] theorem State.updPcie_vf_ (f : Pcie → Pcie) : (s.updPcie f).vf j = s.vf j := rfl
@[simp] theorem State.updPcie_unit_ (f : Pcie → Pcie) : (s.updPcie f).unit j = s.unit j := rfl
@[simp] theorem State.updPcie_wing_ (f : Pcie → Pcie) : (s.updPcie f).wing j = s.wing j := rfl
@[simp] theorem State.updPcie_que_ (f : Pcie → Pcie) : (s.updPcie f).que j = s.que j := rfl
@[simp] theorem State.updPcie_doc_ (f : Pcie → Pcie) : (s.updPcie f).doc j = s.doc j := rfl
@[simp] theorem State.updPcie_arb_ (f : Pcie → Pcie) : (s.updPcie f).arb j = s.arb j := rfl
@[simp] theorem State.updPcie_table_ (f : Pcie → Pcie) : (s.updPcie f).table j = s.table j := rfl
@[simp] theorem State.updPcie_cat_ (f : Pcie → Pcie) : (s.updPcie f).cat j = s.cat j := rfl
@[simp] theorem State.updPcie_line_ (f : Pcie → Pcie) : (s.updPcie f).line j = s.line j := rfl
@[simp] theorem State.updPcie_stack_ (f : Pcie → Pcie) : (s.updPcie f).stack j = s.stack j := rfl
@[simp] theorem State.updPcie_die_ (f : Pcie → Pcie) : (s.updPcie f).die j = s.die j := rfl
@[simp] theorem State.updPcie_eth_ (f : Pcie → Pcie) : (s.updPcie f).eth j = s.eth j := rfl
@[simp] theorem State.updPcie_flow_ (f : Pcie → Pcie) : (s.updPcie f).flow j = s.flow j := rfl
@[simp] theorem State.updPcie_tdi_ (f : Pcie → Pcie) : (s.updPcie f).tdi j = s.tdi j := rfl
@[simp] theorem State.updPcie_mu_ (f : Pcie → Pcie) : (s.updPcie f).mu j = s.mu j := rfl
@[simp] theorem State.updPcie_lane_ (f : Pcie → Pcie) : (s.updPcie f).lane j = s.lane j := rfl

/-! ### updRst -/

@[simp] theorem State.updRst_own (f : Rst → Rst) : (s.updRst f).rst = f s.rst := rfl
@[simp] theorem State.updRst_pending (f : Rst → Rst) : (s.updRst f).pending = s.pending := rfl
@[simp] theorem State.updRst_out (f : Rst → Rst) : (s.updRst f).out = s.out := rfl
@[simp] theorem State.updRst_freeCtr (f : Rst → Rst) : (s.updRst f).freeCtr = s.freeCtr := rfl
@[simp] theorem State.updRst_clk (f : Rst → Rst) : (s.updRst f).clk = s.clk := rfl
@[simp] theorem State.updRst_plinth (f : Rst → Rst) : (s.updRst f).plinth = s.plinth := rfl
@[simp] theorem State.updRst_hubs (f : Rst → Rst) : (s.updRst f).hubs = s.hubs := rfl
@[simp] theorem State.updRst_hubLinkUp (f : Rst → Rst) : (s.updRst f).hubLinkUp = s.hubLinkUp := rfl
@[simp] theorem State.updRst_ports (f : Rst → Rst) : (s.updRst f).ports = s.ports := rfl
@[simp] theorem State.updRst_links (f : Rst → Rst) : (s.updRst f).links = s.links := rfl
@[simp] theorem State.updRst_noAuthority (f : Rst → Rst) : (s.updRst f).noAuthority = s.noAuthority := rfl
@[simp] theorem State.updRst_lastDispatch (f : Rst → Rst) : (s.updRst f).lastDispatch = s.lastDispatch := rfl
@[simp] theorem State.updRst_mbx (f : Rst → Rst) : (s.updRst f).mbx = s.mbx := rfl
@[simp] theorem State.updRst_fns (f : Rst → Rst) : (s.updRst f).fns = s.fns := rfl
@[simp] theorem State.updRst_msix (f : Rst → Rst) : (s.updRst f).msix = s.msix := rfl
@[simp] theorem State.updRst_pcie (f : Rst → Rst) : (s.updRst f).pcie = s.pcie := rfl
@[simp] theorem State.updRst_peers (f : Rst → Rst) : (s.updRst f).peers = s.peers := rfl
@[simp] theorem State.updRst_halfCells (f : Rst → Rst) : (s.updRst f).halfCells = s.halfCells := rfl
@[simp] theorem State.updRst_cells (f : Rst → Rst) : (s.updRst f).cells = s.cells := rfl
@[simp] theorem State.updRst_extents (f : Rst → Rst) : (s.updRst f).extents = s.extents := rfl
@[simp] theorem State.updRst_vfs (f : Rst → Rst) : (s.updRst f).vfs = s.vfs := rfl
@[simp] theorem State.updRst_units (f : Rst → Rst) : (s.updRst f).units = s.units := rfl
@[simp] theorem State.updRst_wings (f : Rst → Rst) : (s.updRst f).wings = s.wings := rfl
@[simp] theorem State.updRst_noWing (f : Rst → Rst) : (s.updRst f).noWing = s.noWing := rfl
@[simp] theorem State.updRst_noWingSince (f : Rst → Rst) : (s.updRst f).noWingSince = s.noWingSince := rfl
@[simp] theorem State.updRst_noWingAt (f : Rst → Rst) : (s.updRst f).noWingAt = s.noWingAt := rfl
@[simp] theorem State.updRst_queues (f : Rst → Rst) : (s.updRst f).queues = s.queues := rfl
@[simp] theorem State.updRst_reqs (f : Rst → Rst) : (s.updRst f).reqs = s.reqs := rfl
@[simp] theorem State.updRst_nextReq (f : Rst → Rst) : (s.updRst f).nextReq = s.nextReq := rfl
@[simp] theorem State.updRst_images (f : Rst → Rst) : (s.updRst f).images = s.images := rfl
@[simp] theorem State.updRst_docents (f : Rst → Rst) : (s.updRst f).docents = s.docents := rfl
@[simp] theorem State.updRst_launches (f : Rst → Rst) : (s.updRst f).launches = s.launches := rfl
@[simp] theorem State.updRst_arbs (f : Rst → Rst) : (s.updRst f).arbs = s.arbs := rfl
@[simp] theorem State.updRst_batches (f : Rst → Rst) : (s.updRst f).batches = s.batches := rfl
@[simp] theorem State.updRst_dups (f : Rst → Rst) : (s.updRst f).dups = s.dups := rfl
@[simp] theorem State.updRst_sp (f : Rst → Rst) : (s.updRst f).sp = s.sp := rfl
@[simp] theorem State.updRst_spBad (f : Rst → Rst) : (s.updRst f).spBad = s.spBad := rfl
@[simp] theorem State.updRst_ckpts (f : Rst → Rst) : (s.updRst f).ckpts = s.ckpts := rfl
@[simp] theorem State.updRst_ckptCount (f : Rst → Rst) : (s.updRst f).ckptCount = s.ckptCount := rfl
@[simp] theorem State.updRst_tables (f : Rst → Rst) : (s.updRst f).tables = s.tables := rfl
@[simp] theorem State.updRst_cats (f : Rst → Rst) : (s.updRst f).cats = s.cats := rfl
@[simp] theorem State.updRst_dir (f : Rst → Rst) : (s.updRst f).dir = s.dir := rfl
@[simp] theorem State.updRst_cache (f : Rst → Rst) : (s.updRst f).cache = s.cache := rfl
@[simp] theorem State.updRst_dram (f : Rst → Rst) : (s.updRst f).dram = s.dram := rfl
@[simp] theorem State.updRst_lines (f : Rst → Rst) : (s.updRst f).lines = s.lines := rfl
@[simp] theorem State.updRst_dramStacks (f : Rst → Rst) : (s.updRst f).dramStacks = s.dramStacks := rfl
@[simp] theorem State.updRst_patrolHours (f : Rst → Rst) : (s.updRst f).patrolHours = s.patrolHours := rfl
@[simp] theorem State.updRst_priTimeout (f : Rst → Rst) : (s.updRst f).priTimeout = s.priTimeout := rfl
@[simp] theorem State.updRst_rowErrs (f : Rst → Rst) : (s.updRst f).rowErrs = s.rowErrs := rfl
@[simp] theorem State.updRst_tlb (f : Rst → Rst) : (s.updRst f).tlb = s.tlb := rfl
@[simp] theorem State.updRst_ptw (f : Rst → Rst) : (s.updRst f).ptw = s.ptw := rfl
@[simp] theorem State.updRst_lineWaits (f : Rst → Rst) : (s.updRst f).lineWaits = s.lineWaits := rfl
@[simp] theorem State.updRst_ats (f : Rst → Rst) : (s.updRst f).ats = s.ats := rfl
@[simp] theorem State.updRst_atsReqs (f : Rst → Rst) : (s.updRst f).atsReqs = s.atsReqs := rfl
@[simp] theorem State.updRst_priReqs (f : Rst → Rst) : (s.updRst f).priReqs = s.priReqs := rfl
@[simp] theorem State.updRst_dies (f : Rst → Rst) : (s.updRst f).dies = s.dies := rfl
@[simp] theorem State.updRst_digestPairs (f : Rst → Rst) : (s.updRst f).digestPairs = s.digestPairs := rfl
@[simp] theorem State.updRst_log (f : Rst → Rst) : (s.updRst f).log = s.log := rfl
@[simp] theorem State.updRst_par (f : Rst → Rst) : (s.updRst f).par = s.par := rfl
@[simp] theorem State.updRst_ethPorts (f : Rst → Rst) : (s.updRst f).ethPorts = s.ethPorts := rfl
@[simp] theorem State.updRst_flows (f : Rst → Rst) : (s.updRst f).flows = s.flows := rfl
@[simp] theorem State.updRst_vlt (f : Rst → Rst) : (s.updRst f).vlt = s.vlt := rfl
@[simp] theorem State.updRst_tdis (f : Rst → Rst) : (s.updRst f).tdis = s.tdis := rfl
@[simp] theorem State.updRst_fw (f : Rst → Rst) : (s.updRst f).fw = s.fw := rfl
@[simp] theorem State.updRst_vnt (f : Rst → Rst) : (s.updRst f).vnt = s.vnt := rfl
@[simp] theorem State.updRst_tap (f : Rst → Rst) : (s.updRst f).tap = s.tap := rfl
@[simp] theorem State.updRst_moves (f : Rst → Rst) : (s.updRst f).moves = s.moves := rfl
@[simp] theorem State.updRst_mus (f : Rst → Rst) : (s.updRst f).mus = s.mus := rfl
@[simp] theorem State.updRst_lanes (f : Rst → Rst) : (s.updRst f).lanes = s.lanes := rfl
@[simp] theorem State.updRst_ahead (f : Rst → Rst) : (s.updRst f).ahead = s.ahead := rfl
@[simp] theorem State.updRst_bar2Waits (f : Rst → Rst) : (s.updRst f).bar2Waits = s.bar2Waits := rfl
@[simp] theorem State.updRst_hub_ (f : Rst → Rst) : (s.updRst f).hub j = s.hub j := rfl
@[simp] theorem State.updRst_port_ (f : Rst → Rst) : (s.updRst f).port j = s.port j := rfl
@[simp] theorem State.updRst_link_ (f : Rst → Rst) : (s.updRst f).link j = s.link j := rfl
@[simp] theorem State.updRst_mbox_ (f : Rst → Rst) : (s.updRst f).mbox j = s.mbox j := rfl
@[simp] theorem State.updRst_fnSt_ (f : Rst → Rst) : (s.updRst f).fnSt j = s.fnSt j := rfl
@[simp] theorem State.updRst_msixEnt_ (f : Rst → Rst) : (s.updRst f).msixEnt j = s.msixEnt j := rfl
@[simp] theorem State.updRst_peer_ (f : Rst → Rst) : (s.updRst f).peer j = s.peer j := rfl
@[simp] theorem State.updRst_half_ (f : Rst → Rst) : (s.updRst f).half j = s.half j := rfl
@[simp] theorem State.updRst_cell_ (f : Rst → Rst) : (s.updRst f).cell j = s.cell j := rfl
@[simp] theorem State.updRst_ext_ (f : Rst → Rst) : (s.updRst f).ext j = s.ext j := rfl
@[simp] theorem State.updRst_vf_ (f : Rst → Rst) : (s.updRst f).vf j = s.vf j := rfl
@[simp] theorem State.updRst_unit_ (f : Rst → Rst) : (s.updRst f).unit j = s.unit j := rfl
@[simp] theorem State.updRst_wing_ (f : Rst → Rst) : (s.updRst f).wing j = s.wing j := rfl
@[simp] theorem State.updRst_que_ (f : Rst → Rst) : (s.updRst f).que j = s.que j := rfl
@[simp] theorem State.updRst_doc_ (f : Rst → Rst) : (s.updRst f).doc j = s.doc j := rfl
@[simp] theorem State.updRst_arb_ (f : Rst → Rst) : (s.updRst f).arb j = s.arb j := rfl
@[simp] theorem State.updRst_table_ (f : Rst → Rst) : (s.updRst f).table j = s.table j := rfl
@[simp] theorem State.updRst_cat_ (f : Rst → Rst) : (s.updRst f).cat j = s.cat j := rfl
@[simp] theorem State.updRst_line_ (f : Rst → Rst) : (s.updRst f).line j = s.line j := rfl
@[simp] theorem State.updRst_stack_ (f : Rst → Rst) : (s.updRst f).stack j = s.stack j := rfl
@[simp] theorem State.updRst_die_ (f : Rst → Rst) : (s.updRst f).die j = s.die j := rfl
@[simp] theorem State.updRst_eth_ (f : Rst → Rst) : (s.updRst f).eth j = s.eth j := rfl
@[simp] theorem State.updRst_flow_ (f : Rst → Rst) : (s.updRst f).flow j = s.flow j := rfl
@[simp] theorem State.updRst_tdi_ (f : Rst → Rst) : (s.updRst f).tdi j = s.tdi j := rfl
@[simp] theorem State.updRst_mu_ (f : Rst → Rst) : (s.updRst f).mu j = s.mu j := rfl
@[simp] theorem State.updRst_lane_ (f : Rst → Rst) : (s.updRst f).lane j = s.lane j := rfl

/-! ### updTap -/

@[simp] theorem State.updTap_own (f : Tap → Tap) : (s.updTap f).tap = f s.tap := rfl
@[simp] theorem State.updTap_pending (f : Tap → Tap) : (s.updTap f).pending = s.pending := rfl
@[simp] theorem State.updTap_out (f : Tap → Tap) : (s.updTap f).out = s.out := rfl
@[simp] theorem State.updTap_moves (f : Tap → Tap) : (s.updTap f).moves = s.moves := rfl
@[simp] theorem State.updTap_mus (f : Tap → Tap) : (s.updTap f).mus = s.mus := rfl
@[simp] theorem State.updTap_lanes (f : Tap → Tap) : (s.updTap f).lanes = s.lanes := rfl
@[simp] theorem State.updTap_ahead (f : Tap → Tap) : (s.updTap f).ahead = s.ahead := rfl
@[simp] theorem State.updTap_bar2Waits (f : Tap → Tap) : (s.updTap f).bar2Waits = s.bar2Waits := rfl
@[simp] theorem State.updTap_freeCtr (f : Tap → Tap) : (s.updTap f).freeCtr = s.freeCtr := rfl
@[simp] theorem State.updTap_clk (f : Tap → Tap) : (s.updTap f).clk = s.clk := rfl
@[simp] theorem State.updTap_plinth (f : Tap → Tap) : (s.updTap f).plinth = s.plinth := rfl
@[simp] theorem State.updTap_hubs (f : Tap → Tap) : (s.updTap f).hubs = s.hubs := rfl
@[simp] theorem State.updTap_hubLinkUp (f : Tap → Tap) : (s.updTap f).hubLinkUp = s.hubLinkUp := rfl
@[simp] theorem State.updTap_ports (f : Tap → Tap) : (s.updTap f).ports = s.ports := rfl
@[simp] theorem State.updTap_links (f : Tap → Tap) : (s.updTap f).links = s.links := rfl
@[simp] theorem State.updTap_noAuthority (f : Tap → Tap) : (s.updTap f).noAuthority = s.noAuthority := rfl
@[simp] theorem State.updTap_lastDispatch (f : Tap → Tap) : (s.updTap f).lastDispatch = s.lastDispatch := rfl
@[simp] theorem State.updTap_mbx (f : Tap → Tap) : (s.updTap f).mbx = s.mbx := rfl
@[simp] theorem State.updTap_fns (f : Tap → Tap) : (s.updTap f).fns = s.fns := rfl
@[simp] theorem State.updTap_msix (f : Tap → Tap) : (s.updTap f).msix = s.msix := rfl
@[simp] theorem State.updTap_pcie (f : Tap → Tap) : (s.updTap f).pcie = s.pcie := rfl
@[simp] theorem State.updTap_peers (f : Tap → Tap) : (s.updTap f).peers = s.peers := rfl
@[simp] theorem State.updTap_halfCells (f : Tap → Tap) : (s.updTap f).halfCells = s.halfCells := rfl
@[simp] theorem State.updTap_cells (f : Tap → Tap) : (s.updTap f).cells = s.cells := rfl
@[simp] theorem State.updTap_extents (f : Tap → Tap) : (s.updTap f).extents = s.extents := rfl
@[simp] theorem State.updTap_vfs (f : Tap → Tap) : (s.updTap f).vfs = s.vfs := rfl
@[simp] theorem State.updTap_units (f : Tap → Tap) : (s.updTap f).units = s.units := rfl
@[simp] theorem State.updTap_wings (f : Tap → Tap) : (s.updTap f).wings = s.wings := rfl
@[simp] theorem State.updTap_noWing (f : Tap → Tap) : (s.updTap f).noWing = s.noWing := rfl
@[simp] theorem State.updTap_noWingSince (f : Tap → Tap) : (s.updTap f).noWingSince = s.noWingSince := rfl
@[simp] theorem State.updTap_noWingAt (f : Tap → Tap) : (s.updTap f).noWingAt = s.noWingAt := rfl
@[simp] theorem State.updTap_queues (f : Tap → Tap) : (s.updTap f).queues = s.queues := rfl
@[simp] theorem State.updTap_reqs (f : Tap → Tap) : (s.updTap f).reqs = s.reqs := rfl
@[simp] theorem State.updTap_nextReq (f : Tap → Tap) : (s.updTap f).nextReq = s.nextReq := rfl
@[simp] theorem State.updTap_images (f : Tap → Tap) : (s.updTap f).images = s.images := rfl
@[simp] theorem State.updTap_docents (f : Tap → Tap) : (s.updTap f).docents = s.docents := rfl
@[simp] theorem State.updTap_launches (f : Tap → Tap) : (s.updTap f).launches = s.launches := rfl
@[simp] theorem State.updTap_arbs (f : Tap → Tap) : (s.updTap f).arbs = s.arbs := rfl
@[simp] theorem State.updTap_batches (f : Tap → Tap) : (s.updTap f).batches = s.batches := rfl
@[simp] theorem State.updTap_dups (f : Tap → Tap) : (s.updTap f).dups = s.dups := rfl
@[simp] theorem State.updTap_sp (f : Tap → Tap) : (s.updTap f).sp = s.sp := rfl
@[simp] theorem State.updTap_spBad (f : Tap → Tap) : (s.updTap f).spBad = s.spBad := rfl
@[simp] theorem State.updTap_ckpts (f : Tap → Tap) : (s.updTap f).ckpts = s.ckpts := rfl
@[simp] theorem State.updTap_ckptCount (f : Tap → Tap) : (s.updTap f).ckptCount = s.ckptCount := rfl
@[simp] theorem State.updTap_tables (f : Tap → Tap) : (s.updTap f).tables = s.tables := rfl
@[simp] theorem State.updTap_cats (f : Tap → Tap) : (s.updTap f).cats = s.cats := rfl
@[simp] theorem State.updTap_dir (f : Tap → Tap) : (s.updTap f).dir = s.dir := rfl
@[simp] theorem State.updTap_cache (f : Tap → Tap) : (s.updTap f).cache = s.cache := rfl
@[simp] theorem State.updTap_dram (f : Tap → Tap) : (s.updTap f).dram = s.dram := rfl
@[simp] theorem State.updTap_lines (f : Tap → Tap) : (s.updTap f).lines = s.lines := rfl
@[simp] theorem State.updTap_dramStacks (f : Tap → Tap) : (s.updTap f).dramStacks = s.dramStacks := rfl
@[simp] theorem State.updTap_patrolHours (f : Tap → Tap) : (s.updTap f).patrolHours = s.patrolHours := rfl
@[simp] theorem State.updTap_priTimeout (f : Tap → Tap) : (s.updTap f).priTimeout = s.priTimeout := rfl
@[simp] theorem State.updTap_rowErrs (f : Tap → Tap) : (s.updTap f).rowErrs = s.rowErrs := rfl
@[simp] theorem State.updTap_tlb (f : Tap → Tap) : (s.updTap f).tlb = s.tlb := rfl
@[simp] theorem State.updTap_ptw (f : Tap → Tap) : (s.updTap f).ptw = s.ptw := rfl
@[simp] theorem State.updTap_lineWaits (f : Tap → Tap) : (s.updTap f).lineWaits = s.lineWaits := rfl
@[simp] theorem State.updTap_ats (f : Tap → Tap) : (s.updTap f).ats = s.ats := rfl
@[simp] theorem State.updTap_atsReqs (f : Tap → Tap) : (s.updTap f).atsReqs = s.atsReqs := rfl
@[simp] theorem State.updTap_priReqs (f : Tap → Tap) : (s.updTap f).priReqs = s.priReqs := rfl
@[simp] theorem State.updTap_dies (f : Tap → Tap) : (s.updTap f).dies = s.dies := rfl
@[simp] theorem State.updTap_digestPairs (f : Tap → Tap) : (s.updTap f).digestPairs = s.digestPairs := rfl
@[simp] theorem State.updTap_log (f : Tap → Tap) : (s.updTap f).log = s.log := rfl
@[simp] theorem State.updTap_par (f : Tap → Tap) : (s.updTap f).par = s.par := rfl
@[simp] theorem State.updTap_ethPorts (f : Tap → Tap) : (s.updTap f).ethPorts = s.ethPorts := rfl
@[simp] theorem State.updTap_flows (f : Tap → Tap) : (s.updTap f).flows = s.flows := rfl
@[simp] theorem State.updTap_vlt (f : Tap → Tap) : (s.updTap f).vlt = s.vlt := rfl
@[simp] theorem State.updTap_tdis (f : Tap → Tap) : (s.updTap f).tdis = s.tdis := rfl
@[simp] theorem State.updTap_rst (f : Tap → Tap) : (s.updTap f).rst = s.rst := rfl
@[simp] theorem State.updTap_fw (f : Tap → Tap) : (s.updTap f).fw = s.fw := rfl
@[simp] theorem State.updTap_vnt (f : Tap → Tap) : (s.updTap f).vnt = s.vnt := rfl
@[simp] theorem State.updTap_hub_ (f : Tap → Tap) : (s.updTap f).hub j = s.hub j := rfl
@[simp] theorem State.updTap_port_ (f : Tap → Tap) : (s.updTap f).port j = s.port j := rfl
@[simp] theorem State.updTap_link_ (f : Tap → Tap) : (s.updTap f).link j = s.link j := rfl
@[simp] theorem State.updTap_mbox_ (f : Tap → Tap) : (s.updTap f).mbox j = s.mbox j := rfl
@[simp] theorem State.updTap_fnSt_ (f : Tap → Tap) : (s.updTap f).fnSt j = s.fnSt j := rfl
@[simp] theorem State.updTap_msixEnt_ (f : Tap → Tap) : (s.updTap f).msixEnt j = s.msixEnt j := rfl
@[simp] theorem State.updTap_peer_ (f : Tap → Tap) : (s.updTap f).peer j = s.peer j := rfl
@[simp] theorem State.updTap_half_ (f : Tap → Tap) : (s.updTap f).half j = s.half j := rfl
@[simp] theorem State.updTap_cell_ (f : Tap → Tap) : (s.updTap f).cell j = s.cell j := rfl
@[simp] theorem State.updTap_ext_ (f : Tap → Tap) : (s.updTap f).ext j = s.ext j := rfl
@[simp] theorem State.updTap_vf_ (f : Tap → Tap) : (s.updTap f).vf j = s.vf j := rfl
@[simp] theorem State.updTap_unit_ (f : Tap → Tap) : (s.updTap f).unit j = s.unit j := rfl
@[simp] theorem State.updTap_wing_ (f : Tap → Tap) : (s.updTap f).wing j = s.wing j := rfl
@[simp] theorem State.updTap_que_ (f : Tap → Tap) : (s.updTap f).que j = s.que j := rfl
@[simp] theorem State.updTap_doc_ (f : Tap → Tap) : (s.updTap f).doc j = s.doc j := rfl
@[simp] theorem State.updTap_arb_ (f : Tap → Tap) : (s.updTap f).arb j = s.arb j := rfl
@[simp] theorem State.updTap_table_ (f : Tap → Tap) : (s.updTap f).table j = s.table j := rfl
@[simp] theorem State.updTap_cat_ (f : Tap → Tap) : (s.updTap f).cat j = s.cat j := rfl
@[simp] theorem State.updTap_line_ (f : Tap → Tap) : (s.updTap f).line j = s.line j := rfl
@[simp] theorem State.updTap_stack_ (f : Tap → Tap) : (s.updTap f).stack j = s.stack j := rfl
@[simp] theorem State.updTap_die_ (f : Tap → Tap) : (s.updTap f).die j = s.die j := rfl
@[simp] theorem State.updTap_eth_ (f : Tap → Tap) : (s.updTap f).eth j = s.eth j := rfl
@[simp] theorem State.updTap_flow_ (f : Tap → Tap) : (s.updTap f).flow j = s.flow j := rfl
@[simp] theorem State.updTap_tdi_ (f : Tap → Tap) : (s.updTap f).tdi j = s.tdi j := rfl
@[simp] theorem State.updTap_mu_ (f : Tap → Tap) : (s.updTap f).mu j = s.mu j := rfl
@[simp] theorem State.updTap_lane_ (f : Tap → Tap) : (s.updTap f).lane j = s.lane j := rfl

/-! ### updVlt -/

@[simp] theorem State.updVlt_own (f : Vlt → Vlt) : (s.updVlt f).vlt = f s.vlt := rfl
@[simp] theorem State.updVlt_pending (f : Vlt → Vlt) : (s.updVlt f).pending = s.pending := rfl
@[simp] theorem State.updVlt_out (f : Vlt → Vlt) : (s.updVlt f).out = s.out := rfl
@[simp] theorem State.updVlt_freeCtr (f : Vlt → Vlt) : (s.updVlt f).freeCtr = s.freeCtr := rfl
@[simp] theorem State.updVlt_clk (f : Vlt → Vlt) : (s.updVlt f).clk = s.clk := rfl
@[simp] theorem State.updVlt_plinth (f : Vlt → Vlt) : (s.updVlt f).plinth = s.plinth := rfl
@[simp] theorem State.updVlt_hubs (f : Vlt → Vlt) : (s.updVlt f).hubs = s.hubs := rfl
@[simp] theorem State.updVlt_hubLinkUp (f : Vlt → Vlt) : (s.updVlt f).hubLinkUp = s.hubLinkUp := rfl
@[simp] theorem State.updVlt_ports (f : Vlt → Vlt) : (s.updVlt f).ports = s.ports := rfl
@[simp] theorem State.updVlt_links (f : Vlt → Vlt) : (s.updVlt f).links = s.links := rfl
@[simp] theorem State.updVlt_noAuthority (f : Vlt → Vlt) : (s.updVlt f).noAuthority = s.noAuthority := rfl
@[simp] theorem State.updVlt_lastDispatch (f : Vlt → Vlt) : (s.updVlt f).lastDispatch = s.lastDispatch := rfl
@[simp] theorem State.updVlt_mbx (f : Vlt → Vlt) : (s.updVlt f).mbx = s.mbx := rfl
@[simp] theorem State.updVlt_fns (f : Vlt → Vlt) : (s.updVlt f).fns = s.fns := rfl
@[simp] theorem State.updVlt_msix (f : Vlt → Vlt) : (s.updVlt f).msix = s.msix := rfl
@[simp] theorem State.updVlt_pcie (f : Vlt → Vlt) : (s.updVlt f).pcie = s.pcie := rfl
@[simp] theorem State.updVlt_peers (f : Vlt → Vlt) : (s.updVlt f).peers = s.peers := rfl
@[simp] theorem State.updVlt_halfCells (f : Vlt → Vlt) : (s.updVlt f).halfCells = s.halfCells := rfl
@[simp] theorem State.updVlt_cells (f : Vlt → Vlt) : (s.updVlt f).cells = s.cells := rfl
@[simp] theorem State.updVlt_extents (f : Vlt → Vlt) : (s.updVlt f).extents = s.extents := rfl
@[simp] theorem State.updVlt_vfs (f : Vlt → Vlt) : (s.updVlt f).vfs = s.vfs := rfl
@[simp] theorem State.updVlt_units (f : Vlt → Vlt) : (s.updVlt f).units = s.units := rfl
@[simp] theorem State.updVlt_wings (f : Vlt → Vlt) : (s.updVlt f).wings = s.wings := rfl
@[simp] theorem State.updVlt_noWing (f : Vlt → Vlt) : (s.updVlt f).noWing = s.noWing := rfl
@[simp] theorem State.updVlt_noWingSince (f : Vlt → Vlt) : (s.updVlt f).noWingSince = s.noWingSince := rfl
@[simp] theorem State.updVlt_noWingAt (f : Vlt → Vlt) : (s.updVlt f).noWingAt = s.noWingAt := rfl
@[simp] theorem State.updVlt_queues (f : Vlt → Vlt) : (s.updVlt f).queues = s.queues := rfl
@[simp] theorem State.updVlt_reqs (f : Vlt → Vlt) : (s.updVlt f).reqs = s.reqs := rfl
@[simp] theorem State.updVlt_nextReq (f : Vlt → Vlt) : (s.updVlt f).nextReq = s.nextReq := rfl
@[simp] theorem State.updVlt_images (f : Vlt → Vlt) : (s.updVlt f).images = s.images := rfl
@[simp] theorem State.updVlt_docents (f : Vlt → Vlt) : (s.updVlt f).docents = s.docents := rfl
@[simp] theorem State.updVlt_launches (f : Vlt → Vlt) : (s.updVlt f).launches = s.launches := rfl
@[simp] theorem State.updVlt_arbs (f : Vlt → Vlt) : (s.updVlt f).arbs = s.arbs := rfl
@[simp] theorem State.updVlt_batches (f : Vlt → Vlt) : (s.updVlt f).batches = s.batches := rfl
@[simp] theorem State.updVlt_dups (f : Vlt → Vlt) : (s.updVlt f).dups = s.dups := rfl
@[simp] theorem State.updVlt_sp (f : Vlt → Vlt) : (s.updVlt f).sp = s.sp := rfl
@[simp] theorem State.updVlt_spBad (f : Vlt → Vlt) : (s.updVlt f).spBad = s.spBad := rfl
@[simp] theorem State.updVlt_ckpts (f : Vlt → Vlt) : (s.updVlt f).ckpts = s.ckpts := rfl
@[simp] theorem State.updVlt_ckptCount (f : Vlt → Vlt) : (s.updVlt f).ckptCount = s.ckptCount := rfl
@[simp] theorem State.updVlt_tables (f : Vlt → Vlt) : (s.updVlt f).tables = s.tables := rfl
@[simp] theorem State.updVlt_cats (f : Vlt → Vlt) : (s.updVlt f).cats = s.cats := rfl
@[simp] theorem State.updVlt_dir (f : Vlt → Vlt) : (s.updVlt f).dir = s.dir := rfl
@[simp] theorem State.updVlt_cache (f : Vlt → Vlt) : (s.updVlt f).cache = s.cache := rfl
@[simp] theorem State.updVlt_dram (f : Vlt → Vlt) : (s.updVlt f).dram = s.dram := rfl
@[simp] theorem State.updVlt_lines (f : Vlt → Vlt) : (s.updVlt f).lines = s.lines := rfl
@[simp] theorem State.updVlt_dramStacks (f : Vlt → Vlt) : (s.updVlt f).dramStacks = s.dramStacks := rfl
@[simp] theorem State.updVlt_patrolHours (f : Vlt → Vlt) : (s.updVlt f).patrolHours = s.patrolHours := rfl
@[simp] theorem State.updVlt_priTimeout (f : Vlt → Vlt) : (s.updVlt f).priTimeout = s.priTimeout := rfl
@[simp] theorem State.updVlt_rowErrs (f : Vlt → Vlt) : (s.updVlt f).rowErrs = s.rowErrs := rfl
@[simp] theorem State.updVlt_tlb (f : Vlt → Vlt) : (s.updVlt f).tlb = s.tlb := rfl
@[simp] theorem State.updVlt_ptw (f : Vlt → Vlt) : (s.updVlt f).ptw = s.ptw := rfl
@[simp] theorem State.updVlt_lineWaits (f : Vlt → Vlt) : (s.updVlt f).lineWaits = s.lineWaits := rfl
@[simp] theorem State.updVlt_ats (f : Vlt → Vlt) : (s.updVlt f).ats = s.ats := rfl
@[simp] theorem State.updVlt_atsReqs (f : Vlt → Vlt) : (s.updVlt f).atsReqs = s.atsReqs := rfl
@[simp] theorem State.updVlt_priReqs (f : Vlt → Vlt) : (s.updVlt f).priReqs = s.priReqs := rfl
@[simp] theorem State.updVlt_dies (f : Vlt → Vlt) : (s.updVlt f).dies = s.dies := rfl
@[simp] theorem State.updVlt_digestPairs (f : Vlt → Vlt) : (s.updVlt f).digestPairs = s.digestPairs := rfl
@[simp] theorem State.updVlt_log (f : Vlt → Vlt) : (s.updVlt f).log = s.log := rfl
@[simp] theorem State.updVlt_par (f : Vlt → Vlt) : (s.updVlt f).par = s.par := rfl
@[simp] theorem State.updVlt_ethPorts (f : Vlt → Vlt) : (s.updVlt f).ethPorts = s.ethPorts := rfl
@[simp] theorem State.updVlt_flows (f : Vlt → Vlt) : (s.updVlt f).flows = s.flows := rfl
@[simp] theorem State.updVlt_tdis (f : Vlt → Vlt) : (s.updVlt f).tdis = s.tdis := rfl
@[simp] theorem State.updVlt_rst (f : Vlt → Vlt) : (s.updVlt f).rst = s.rst := rfl
@[simp] theorem State.updVlt_fw (f : Vlt → Vlt) : (s.updVlt f).fw = s.fw := rfl
@[simp] theorem State.updVlt_vnt (f : Vlt → Vlt) : (s.updVlt f).vnt = s.vnt := rfl
@[simp] theorem State.updVlt_tap (f : Vlt → Vlt) : (s.updVlt f).tap = s.tap := rfl
@[simp] theorem State.updVlt_moves (f : Vlt → Vlt) : (s.updVlt f).moves = s.moves := rfl
@[simp] theorem State.updVlt_mus (f : Vlt → Vlt) : (s.updVlt f).mus = s.mus := rfl
@[simp] theorem State.updVlt_lanes (f : Vlt → Vlt) : (s.updVlt f).lanes = s.lanes := rfl
@[simp] theorem State.updVlt_ahead (f : Vlt → Vlt) : (s.updVlt f).ahead = s.ahead := rfl
@[simp] theorem State.updVlt_bar2Waits (f : Vlt → Vlt) : (s.updVlt f).bar2Waits = s.bar2Waits := rfl
@[simp] theorem State.updVlt_hub_ (f : Vlt → Vlt) : (s.updVlt f).hub j = s.hub j := rfl
@[simp] theorem State.updVlt_port_ (f : Vlt → Vlt) : (s.updVlt f).port j = s.port j := rfl
@[simp] theorem State.updVlt_link_ (f : Vlt → Vlt) : (s.updVlt f).link j = s.link j := rfl
@[simp] theorem State.updVlt_mbox_ (f : Vlt → Vlt) : (s.updVlt f).mbox j = s.mbox j := rfl
@[simp] theorem State.updVlt_fnSt_ (f : Vlt → Vlt) : (s.updVlt f).fnSt j = s.fnSt j := rfl
@[simp] theorem State.updVlt_msixEnt_ (f : Vlt → Vlt) : (s.updVlt f).msixEnt j = s.msixEnt j := rfl
@[simp] theorem State.updVlt_peer_ (f : Vlt → Vlt) : (s.updVlt f).peer j = s.peer j := rfl
@[simp] theorem State.updVlt_half_ (f : Vlt → Vlt) : (s.updVlt f).half j = s.half j := rfl
@[simp] theorem State.updVlt_cell_ (f : Vlt → Vlt) : (s.updVlt f).cell j = s.cell j := rfl
@[simp] theorem State.updVlt_ext_ (f : Vlt → Vlt) : (s.updVlt f).ext j = s.ext j := rfl
@[simp] theorem State.updVlt_vf_ (f : Vlt → Vlt) : (s.updVlt f).vf j = s.vf j := rfl
@[simp] theorem State.updVlt_unit_ (f : Vlt → Vlt) : (s.updVlt f).unit j = s.unit j := rfl
@[simp] theorem State.updVlt_wing_ (f : Vlt → Vlt) : (s.updVlt f).wing j = s.wing j := rfl
@[simp] theorem State.updVlt_que_ (f : Vlt → Vlt) : (s.updVlt f).que j = s.que j := rfl
@[simp] theorem State.updVlt_doc_ (f : Vlt → Vlt) : (s.updVlt f).doc j = s.doc j := rfl
@[simp] theorem State.updVlt_arb_ (f : Vlt → Vlt) : (s.updVlt f).arb j = s.arb j := rfl
@[simp] theorem State.updVlt_table_ (f : Vlt → Vlt) : (s.updVlt f).table j = s.table j := rfl
@[simp] theorem State.updVlt_cat_ (f : Vlt → Vlt) : (s.updVlt f).cat j = s.cat j := rfl
@[simp] theorem State.updVlt_line_ (f : Vlt → Vlt) : (s.updVlt f).line j = s.line j := rfl
@[simp] theorem State.updVlt_stack_ (f : Vlt → Vlt) : (s.updVlt f).stack j = s.stack j := rfl
@[simp] theorem State.updVlt_die_ (f : Vlt → Vlt) : (s.updVlt f).die j = s.die j := rfl
@[simp] theorem State.updVlt_eth_ (f : Vlt → Vlt) : (s.updVlt f).eth j = s.eth j := rfl
@[simp] theorem State.updVlt_flow_ (f : Vlt → Vlt) : (s.updVlt f).flow j = s.flow j := rfl
@[simp] theorem State.updVlt_tdi_ (f : Vlt → Vlt) : (s.updVlt f).tdi j = s.tdi j := rfl
@[simp] theorem State.updVlt_mu_ (f : Vlt → Vlt) : (s.updVlt f).mu j = s.mu j := rfl
@[simp] theorem State.updVlt_lane_ (f : Vlt → Vlt) : (s.updVlt f).lane j = s.lane j := rfl

/-! ### updVnt -/

@[simp] theorem State.updVnt_own (f : Vnt → Vnt) : (s.updVnt f).vnt = f s.vnt := rfl
@[simp] theorem State.updVnt_pending (f : Vnt → Vnt) : (s.updVnt f).pending = s.pending := rfl
@[simp] theorem State.updVnt_out (f : Vnt → Vnt) : (s.updVnt f).out = s.out := rfl
@[simp] theorem State.updVnt_freeCtr (f : Vnt → Vnt) : (s.updVnt f).freeCtr = s.freeCtr := rfl
@[simp] theorem State.updVnt_clk (f : Vnt → Vnt) : (s.updVnt f).clk = s.clk := rfl
@[simp] theorem State.updVnt_plinth (f : Vnt → Vnt) : (s.updVnt f).plinth = s.plinth := rfl
@[simp] theorem State.updVnt_hubs (f : Vnt → Vnt) : (s.updVnt f).hubs = s.hubs := rfl
@[simp] theorem State.updVnt_hubLinkUp (f : Vnt → Vnt) : (s.updVnt f).hubLinkUp = s.hubLinkUp := rfl
@[simp] theorem State.updVnt_ports (f : Vnt → Vnt) : (s.updVnt f).ports = s.ports := rfl
@[simp] theorem State.updVnt_links (f : Vnt → Vnt) : (s.updVnt f).links = s.links := rfl
@[simp] theorem State.updVnt_noAuthority (f : Vnt → Vnt) : (s.updVnt f).noAuthority = s.noAuthority := rfl
@[simp] theorem State.updVnt_lastDispatch (f : Vnt → Vnt) : (s.updVnt f).lastDispatch = s.lastDispatch := rfl
@[simp] theorem State.updVnt_mbx (f : Vnt → Vnt) : (s.updVnt f).mbx = s.mbx := rfl
@[simp] theorem State.updVnt_fns (f : Vnt → Vnt) : (s.updVnt f).fns = s.fns := rfl
@[simp] theorem State.updVnt_msix (f : Vnt → Vnt) : (s.updVnt f).msix = s.msix := rfl
@[simp] theorem State.updVnt_pcie (f : Vnt → Vnt) : (s.updVnt f).pcie = s.pcie := rfl
@[simp] theorem State.updVnt_peers (f : Vnt → Vnt) : (s.updVnt f).peers = s.peers := rfl
@[simp] theorem State.updVnt_halfCells (f : Vnt → Vnt) : (s.updVnt f).halfCells = s.halfCells := rfl
@[simp] theorem State.updVnt_cells (f : Vnt → Vnt) : (s.updVnt f).cells = s.cells := rfl
@[simp] theorem State.updVnt_extents (f : Vnt → Vnt) : (s.updVnt f).extents = s.extents := rfl
@[simp] theorem State.updVnt_vfs (f : Vnt → Vnt) : (s.updVnt f).vfs = s.vfs := rfl
@[simp] theorem State.updVnt_units (f : Vnt → Vnt) : (s.updVnt f).units = s.units := rfl
@[simp] theorem State.updVnt_wings (f : Vnt → Vnt) : (s.updVnt f).wings = s.wings := rfl
@[simp] theorem State.updVnt_noWing (f : Vnt → Vnt) : (s.updVnt f).noWing = s.noWing := rfl
@[simp] theorem State.updVnt_noWingSince (f : Vnt → Vnt) : (s.updVnt f).noWingSince = s.noWingSince := rfl
@[simp] theorem State.updVnt_noWingAt (f : Vnt → Vnt) : (s.updVnt f).noWingAt = s.noWingAt := rfl
@[simp] theorem State.updVnt_queues (f : Vnt → Vnt) : (s.updVnt f).queues = s.queues := rfl
@[simp] theorem State.updVnt_reqs (f : Vnt → Vnt) : (s.updVnt f).reqs = s.reqs := rfl
@[simp] theorem State.updVnt_nextReq (f : Vnt → Vnt) : (s.updVnt f).nextReq = s.nextReq := rfl
@[simp] theorem State.updVnt_images (f : Vnt → Vnt) : (s.updVnt f).images = s.images := rfl
@[simp] theorem State.updVnt_docents (f : Vnt → Vnt) : (s.updVnt f).docents = s.docents := rfl
@[simp] theorem State.updVnt_launches (f : Vnt → Vnt) : (s.updVnt f).launches = s.launches := rfl
@[simp] theorem State.updVnt_arbs (f : Vnt → Vnt) : (s.updVnt f).arbs = s.arbs := rfl
@[simp] theorem State.updVnt_batches (f : Vnt → Vnt) : (s.updVnt f).batches = s.batches := rfl
@[simp] theorem State.updVnt_dups (f : Vnt → Vnt) : (s.updVnt f).dups = s.dups := rfl
@[simp] theorem State.updVnt_sp (f : Vnt → Vnt) : (s.updVnt f).sp = s.sp := rfl
@[simp] theorem State.updVnt_spBad (f : Vnt → Vnt) : (s.updVnt f).spBad = s.spBad := rfl
@[simp] theorem State.updVnt_ckpts (f : Vnt → Vnt) : (s.updVnt f).ckpts = s.ckpts := rfl
@[simp] theorem State.updVnt_ckptCount (f : Vnt → Vnt) : (s.updVnt f).ckptCount = s.ckptCount := rfl
@[simp] theorem State.updVnt_tables (f : Vnt → Vnt) : (s.updVnt f).tables = s.tables := rfl
@[simp] theorem State.updVnt_cats (f : Vnt → Vnt) : (s.updVnt f).cats = s.cats := rfl
@[simp] theorem State.updVnt_dir (f : Vnt → Vnt) : (s.updVnt f).dir = s.dir := rfl
@[simp] theorem State.updVnt_cache (f : Vnt → Vnt) : (s.updVnt f).cache = s.cache := rfl
@[simp] theorem State.updVnt_dram (f : Vnt → Vnt) : (s.updVnt f).dram = s.dram := rfl
@[simp] theorem State.updVnt_lines (f : Vnt → Vnt) : (s.updVnt f).lines = s.lines := rfl
@[simp] theorem State.updVnt_dramStacks (f : Vnt → Vnt) : (s.updVnt f).dramStacks = s.dramStacks := rfl
@[simp] theorem State.updVnt_patrolHours (f : Vnt → Vnt) : (s.updVnt f).patrolHours = s.patrolHours := rfl
@[simp] theorem State.updVnt_priTimeout (f : Vnt → Vnt) : (s.updVnt f).priTimeout = s.priTimeout := rfl
@[simp] theorem State.updVnt_rowErrs (f : Vnt → Vnt) : (s.updVnt f).rowErrs = s.rowErrs := rfl
@[simp] theorem State.updVnt_tlb (f : Vnt → Vnt) : (s.updVnt f).tlb = s.tlb := rfl
@[simp] theorem State.updVnt_ptw (f : Vnt → Vnt) : (s.updVnt f).ptw = s.ptw := rfl
@[simp] theorem State.updVnt_lineWaits (f : Vnt → Vnt) : (s.updVnt f).lineWaits = s.lineWaits := rfl
@[simp] theorem State.updVnt_ats (f : Vnt → Vnt) : (s.updVnt f).ats = s.ats := rfl
@[simp] theorem State.updVnt_atsReqs (f : Vnt → Vnt) : (s.updVnt f).atsReqs = s.atsReqs := rfl
@[simp] theorem State.updVnt_priReqs (f : Vnt → Vnt) : (s.updVnt f).priReqs = s.priReqs := rfl
@[simp] theorem State.updVnt_dies (f : Vnt → Vnt) : (s.updVnt f).dies = s.dies := rfl
@[simp] theorem State.updVnt_digestPairs (f : Vnt → Vnt) : (s.updVnt f).digestPairs = s.digestPairs := rfl
@[simp] theorem State.updVnt_log (f : Vnt → Vnt) : (s.updVnt f).log = s.log := rfl
@[simp] theorem State.updVnt_par (f : Vnt → Vnt) : (s.updVnt f).par = s.par := rfl
@[simp] theorem State.updVnt_ethPorts (f : Vnt → Vnt) : (s.updVnt f).ethPorts = s.ethPorts := rfl
@[simp] theorem State.updVnt_flows (f : Vnt → Vnt) : (s.updVnt f).flows = s.flows := rfl
@[simp] theorem State.updVnt_vlt (f : Vnt → Vnt) : (s.updVnt f).vlt = s.vlt := rfl
@[simp] theorem State.updVnt_tdis (f : Vnt → Vnt) : (s.updVnt f).tdis = s.tdis := rfl
@[simp] theorem State.updVnt_rst (f : Vnt → Vnt) : (s.updVnt f).rst = s.rst := rfl
@[simp] theorem State.updVnt_fw (f : Vnt → Vnt) : (s.updVnt f).fw = s.fw := rfl
@[simp] theorem State.updVnt_tap (f : Vnt → Vnt) : (s.updVnt f).tap = s.tap := rfl
@[simp] theorem State.updVnt_moves (f : Vnt → Vnt) : (s.updVnt f).moves = s.moves := rfl
@[simp] theorem State.updVnt_mus (f : Vnt → Vnt) : (s.updVnt f).mus = s.mus := rfl
@[simp] theorem State.updVnt_lanes (f : Vnt → Vnt) : (s.updVnt f).lanes = s.lanes := rfl
@[simp] theorem State.updVnt_ahead (f : Vnt → Vnt) : (s.updVnt f).ahead = s.ahead := rfl
@[simp] theorem State.updVnt_bar2Waits (f : Vnt → Vnt) : (s.updVnt f).bar2Waits = s.bar2Waits := rfl
@[simp] theorem State.updVnt_hub_ (f : Vnt → Vnt) : (s.updVnt f).hub j = s.hub j := rfl
@[simp] theorem State.updVnt_port_ (f : Vnt → Vnt) : (s.updVnt f).port j = s.port j := rfl
@[simp] theorem State.updVnt_link_ (f : Vnt → Vnt) : (s.updVnt f).link j = s.link j := rfl
@[simp] theorem State.updVnt_mbox_ (f : Vnt → Vnt) : (s.updVnt f).mbox j = s.mbox j := rfl
@[simp] theorem State.updVnt_fnSt_ (f : Vnt → Vnt) : (s.updVnt f).fnSt j = s.fnSt j := rfl
@[simp] theorem State.updVnt_msixEnt_ (f : Vnt → Vnt) : (s.updVnt f).msixEnt j = s.msixEnt j := rfl
@[simp] theorem State.updVnt_peer_ (f : Vnt → Vnt) : (s.updVnt f).peer j = s.peer j := rfl
@[simp] theorem State.updVnt_half_ (f : Vnt → Vnt) : (s.updVnt f).half j = s.half j := rfl
@[simp] theorem State.updVnt_cell_ (f : Vnt → Vnt) : (s.updVnt f).cell j = s.cell j := rfl
@[simp] theorem State.updVnt_ext_ (f : Vnt → Vnt) : (s.updVnt f).ext j = s.ext j := rfl
@[simp] theorem State.updVnt_vf_ (f : Vnt → Vnt) : (s.updVnt f).vf j = s.vf j := rfl
@[simp] theorem State.updVnt_unit_ (f : Vnt → Vnt) : (s.updVnt f).unit j = s.unit j := rfl
@[simp] theorem State.updVnt_wing_ (f : Vnt → Vnt) : (s.updVnt f).wing j = s.wing j := rfl
@[simp] theorem State.updVnt_que_ (f : Vnt → Vnt) : (s.updVnt f).que j = s.que j := rfl
@[simp] theorem State.updVnt_doc_ (f : Vnt → Vnt) : (s.updVnt f).doc j = s.doc j := rfl
@[simp] theorem State.updVnt_arb_ (f : Vnt → Vnt) : (s.updVnt f).arb j = s.arb j := rfl
@[simp] theorem State.updVnt_table_ (f : Vnt → Vnt) : (s.updVnt f).table j = s.table j := rfl
@[simp] theorem State.updVnt_cat_ (f : Vnt → Vnt) : (s.updVnt f).cat j = s.cat j := rfl
@[simp] theorem State.updVnt_line_ (f : Vnt → Vnt) : (s.updVnt f).line j = s.line j := rfl
@[simp] theorem State.updVnt_stack_ (f : Vnt → Vnt) : (s.updVnt f).stack j = s.stack j := rfl
@[simp] theorem State.updVnt_die_ (f : Vnt → Vnt) : (s.updVnt f).die j = s.die j := rfl
@[simp] theorem State.updVnt_eth_ (f : Vnt → Vnt) : (s.updVnt f).eth j = s.eth j := rfl
@[simp] theorem State.updVnt_flow_ (f : Vnt → Vnt) : (s.updVnt f).flow j = s.flow j := rfl
@[simp] theorem State.updVnt_tdi_ (f : Vnt → Vnt) : (s.updVnt f).tdi j = s.tdi j := rfl
@[simp] theorem State.updVnt_mu_ (f : Vnt → Vnt) : (s.updVnt f).mu j = s.mu j := rfl
@[simp] theorem State.updVnt_lane_ (f : Vnt → Vnt) : (s.updVnt f).lane j = s.lane j := rfl

/-! ### emit -/

@[simp] theorem State.emit_own (o : Out) : (s.emit o).out = s.out ++ [o] := rfl
@[simp] theorem State.emit_pending (o : Out) : (s.emit o).pending = s.pending := rfl
@[simp] theorem State.emit_freeCtr (o : Out) : (s.emit o).freeCtr = s.freeCtr := rfl
@[simp] theorem State.emit_clk (o : Out) : (s.emit o).clk = s.clk := rfl
@[simp] theorem State.emit_plinth (o : Out) : (s.emit o).plinth = s.plinth := rfl
@[simp] theorem State.emit_hubs (o : Out) : (s.emit o).hubs = s.hubs := rfl
@[simp] theorem State.emit_hubLinkUp (o : Out) : (s.emit o).hubLinkUp = s.hubLinkUp := rfl
@[simp] theorem State.emit_ports (o : Out) : (s.emit o).ports = s.ports := rfl
@[simp] theorem State.emit_links (o : Out) : (s.emit o).links = s.links := rfl
@[simp] theorem State.emit_noAuthority (o : Out) : (s.emit o).noAuthority = s.noAuthority := rfl
@[simp] theorem State.emit_lastDispatch (o : Out) : (s.emit o).lastDispatch = s.lastDispatch := rfl
@[simp] theorem State.emit_mbx (o : Out) : (s.emit o).mbx = s.mbx := rfl
@[simp] theorem State.emit_fns (o : Out) : (s.emit o).fns = s.fns := rfl
@[simp] theorem State.emit_msix (o : Out) : (s.emit o).msix = s.msix := rfl
@[simp] theorem State.emit_pcie (o : Out) : (s.emit o).pcie = s.pcie := rfl
@[simp] theorem State.emit_peers (o : Out) : (s.emit o).peers = s.peers := rfl
@[simp] theorem State.emit_halfCells (o : Out) : (s.emit o).halfCells = s.halfCells := rfl
@[simp] theorem State.emit_cells (o : Out) : (s.emit o).cells = s.cells := rfl
@[simp] theorem State.emit_extents (o : Out) : (s.emit o).extents = s.extents := rfl
@[simp] theorem State.emit_vfs (o : Out) : (s.emit o).vfs = s.vfs := rfl
@[simp] theorem State.emit_units (o : Out) : (s.emit o).units = s.units := rfl
@[simp] theorem State.emit_wings (o : Out) : (s.emit o).wings = s.wings := rfl
@[simp] theorem State.emit_noWing (o : Out) : (s.emit o).noWing = s.noWing := rfl
@[simp] theorem State.emit_noWingSince (o : Out) : (s.emit o).noWingSince = s.noWingSince := rfl
@[simp] theorem State.emit_noWingAt (o : Out) : (s.emit o).noWingAt = s.noWingAt := rfl
@[simp] theorem State.emit_queues (o : Out) : (s.emit o).queues = s.queues := rfl
@[simp] theorem State.emit_reqs (o : Out) : (s.emit o).reqs = s.reqs := rfl
@[simp] theorem State.emit_nextReq (o : Out) : (s.emit o).nextReq = s.nextReq := rfl
@[simp] theorem State.emit_images (o : Out) : (s.emit o).images = s.images := rfl
@[simp] theorem State.emit_docents (o : Out) : (s.emit o).docents = s.docents := rfl
@[simp] theorem State.emit_launches (o : Out) : (s.emit o).launches = s.launches := rfl
@[simp] theorem State.emit_arbs (o : Out) : (s.emit o).arbs = s.arbs := rfl
@[simp] theorem State.emit_batches (o : Out) : (s.emit o).batches = s.batches := rfl
@[simp] theorem State.emit_dups (o : Out) : (s.emit o).dups = s.dups := rfl
@[simp] theorem State.emit_sp (o : Out) : (s.emit o).sp = s.sp := rfl
@[simp] theorem State.emit_spBad (o : Out) : (s.emit o).spBad = s.spBad := rfl
@[simp] theorem State.emit_ckpts (o : Out) : (s.emit o).ckpts = s.ckpts := rfl
@[simp] theorem State.emit_ckptCount (o : Out) : (s.emit o).ckptCount = s.ckptCount := rfl
@[simp] theorem State.emit_tables (o : Out) : (s.emit o).tables = s.tables := rfl
@[simp] theorem State.emit_cats (o : Out) : (s.emit o).cats = s.cats := rfl
@[simp] theorem State.emit_dir (o : Out) : (s.emit o).dir = s.dir := rfl
@[simp] theorem State.emit_cache (o : Out) : (s.emit o).cache = s.cache := rfl
@[simp] theorem State.emit_dram (o : Out) : (s.emit o).dram = s.dram := rfl
@[simp] theorem State.emit_lines (o : Out) : (s.emit o).lines = s.lines := rfl
@[simp] theorem State.emit_dramStacks (o : Out) : (s.emit o).dramStacks = s.dramStacks := rfl
@[simp] theorem State.emit_patrolHours (o : Out) : (s.emit o).patrolHours = s.patrolHours := rfl
@[simp] theorem State.emit_priTimeout (o : Out) : (s.emit o).priTimeout = s.priTimeout := rfl
@[simp] theorem State.emit_rowErrs (o : Out) : (s.emit o).rowErrs = s.rowErrs := rfl
@[simp] theorem State.emit_tlb (o : Out) : (s.emit o).tlb = s.tlb := rfl
@[simp] theorem State.emit_ptw (o : Out) : (s.emit o).ptw = s.ptw := rfl
@[simp] theorem State.emit_lineWaits (o : Out) : (s.emit o).lineWaits = s.lineWaits := rfl
@[simp] theorem State.emit_ats (o : Out) : (s.emit o).ats = s.ats := rfl
@[simp] theorem State.emit_atsReqs (o : Out) : (s.emit o).atsReqs = s.atsReqs := rfl
@[simp] theorem State.emit_priReqs (o : Out) : (s.emit o).priReqs = s.priReqs := rfl
@[simp] theorem State.emit_dies (o : Out) : (s.emit o).dies = s.dies := rfl
@[simp] theorem State.emit_digestPairs (o : Out) : (s.emit o).digestPairs = s.digestPairs := rfl
@[simp] theorem State.emit_log (o : Out) : (s.emit o).log = s.log := rfl
@[simp] theorem State.emit_par (o : Out) : (s.emit o).par = s.par := rfl
@[simp] theorem State.emit_ethPorts (o : Out) : (s.emit o).ethPorts = s.ethPorts := rfl
@[simp] theorem State.emit_flows (o : Out) : (s.emit o).flows = s.flows := rfl
@[simp] theorem State.emit_vlt (o : Out) : (s.emit o).vlt = s.vlt := rfl
@[simp] theorem State.emit_tdis (o : Out) : (s.emit o).tdis = s.tdis := rfl
@[simp] theorem State.emit_rst (o : Out) : (s.emit o).rst = s.rst := rfl
@[simp] theorem State.emit_fw (o : Out) : (s.emit o).fw = s.fw := rfl
@[simp] theorem State.emit_vnt (o : Out) : (s.emit o).vnt = s.vnt := rfl
@[simp] theorem State.emit_tap (o : Out) : (s.emit o).tap = s.tap := rfl
@[simp] theorem State.emit_moves (o : Out) : (s.emit o).moves = s.moves := rfl
@[simp] theorem State.emit_mus (o : Out) : (s.emit o).mus = s.mus := rfl
@[simp] theorem State.emit_lanes (o : Out) : (s.emit o).lanes = s.lanes := rfl
@[simp] theorem State.emit_ahead (o : Out) : (s.emit o).ahead = s.ahead := rfl
@[simp] theorem State.emit_bar2Waits (o : Out) : (s.emit o).bar2Waits = s.bar2Waits := rfl
@[simp] theorem State.emit_hub_ (o : Out) : (s.emit o).hub j = s.hub j := rfl
@[simp] theorem State.emit_port_ (o : Out) : (s.emit o).port j = s.port j := rfl
@[simp] theorem State.emit_link_ (o : Out) : (s.emit o).link j = s.link j := rfl
@[simp] theorem State.emit_mbox_ (o : Out) : (s.emit o).mbox j = s.mbox j := rfl
@[simp] theorem State.emit_fnSt_ (o : Out) : (s.emit o).fnSt j = s.fnSt j := rfl
@[simp] theorem State.emit_msixEnt_ (o : Out) : (s.emit o).msixEnt j = s.msixEnt j := rfl
@[simp] theorem State.emit_peer_ (o : Out) : (s.emit o).peer j = s.peer j := rfl
@[simp] theorem State.emit_half_ (o : Out) : (s.emit o).half j = s.half j := rfl
@[simp] theorem State.emit_cell_ (o : Out) : (s.emit o).cell j = s.cell j := rfl
@[simp] theorem State.emit_ext_ (o : Out) : (s.emit o).ext j = s.ext j := rfl
@[simp] theorem State.emit_vf_ (o : Out) : (s.emit o).vf j = s.vf j := rfl
@[simp] theorem State.emit_unit_ (o : Out) : (s.emit o).unit j = s.unit j := rfl
@[simp] theorem State.emit_wing_ (o : Out) : (s.emit o).wing j = s.wing j := rfl
@[simp] theorem State.emit_que_ (o : Out) : (s.emit o).que j = s.que j := rfl
@[simp] theorem State.emit_doc_ (o : Out) : (s.emit o).doc j = s.doc j := rfl
@[simp] theorem State.emit_arb_ (o : Out) : (s.emit o).arb j = s.arb j := rfl
@[simp] theorem State.emit_table_ (o : Out) : (s.emit o).table j = s.table j := rfl
@[simp] theorem State.emit_cat_ (o : Out) : (s.emit o).cat j = s.cat j := rfl
@[simp] theorem State.emit_line_ (o : Out) : (s.emit o).line j = s.line j := rfl
@[simp] theorem State.emit_stack_ (o : Out) : (s.emit o).stack j = s.stack j := rfl
@[simp] theorem State.emit_die_ (o : Out) : (s.emit o).die j = s.die j := rfl
@[simp] theorem State.emit_eth_ (o : Out) : (s.emit o).eth j = s.eth j := rfl
@[simp] theorem State.emit_flow_ (o : Out) : (s.emit o).flow j = s.flow j := rfl
@[simp] theorem State.emit_tdi_ (o : Out) : (s.emit o).tdi j = s.tdi j := rfl
@[simp] theorem State.emit_mu_ (o : Out) : (s.emit o).mu j = s.mu j := rfl
@[simp] theorem State.emit_lane_ (o : Out) : (s.emit o).lane j = s.lane j := rfl

end Sys2Proof.Machine
end

