-- ==== Sys2Proof/Tests/Slice0.lean ====
section
/-! SUPPORT. The model's own tests: an ill-formed command refused for each check of WellFormed, Ozol words written out from the
encoding tables of 05, worked examples of the spec, single steps, and a witness for the hypotheses of every statement. -/

namespace Sys2Proof.Tests

open Sys2Proof Sys2Proof.Machine

set_option maxRecDepth 100000
set_option linter.all false

/-! ### Ill-formed commands are refused -/


/-- Refused: a payload longer than MBX_CMD. -/
theorem test_wf_payload : (.hello 0 0 0 0 (List.replicate 4065 0) : Instr).wellFormed = false := by decide +kernel

/-- Refused: a submission entry that is not 64 B. -/
theorem test_wf_entry : (.entryFetch 0 (List.replicate 63 0) [] : Instr).wellFormed = false := by decide

/-- Refused: LOOP with RA 0. -/
theorem test_wf_loop : (.ozLoop 0 0 5 : Instr).wellFormed = false := by decide

/-- Refused: RDSR with a selector above 10. -/
theorem test_wf_rdsr : (.ozRdsr 0 1 11 : Instr).wellFormed = false := by decide

/-- Refused: a matrix unit above 1. -/
theorem test_wf_mmul : (.ozMmul 0 1 0 2 : Instr).wellFormed = false := by decide

/-- Refused: a vector engine above 0. -/
theorem test_wf_vec : (.ozVec 0 1 0 1 : Instr).wellFormed = false := by decide

/-- Refused: a reduction unit above 0. -/
theorem test_wf_red : (.ozRed 0 1 0 1 : Instr).wellFormed = false := by decide

/-- Refused: a gather engine above 0. -/
theorem test_wf_gpeb : (.ozGpeb 0 1 0 1 : Instr).wellFormed = false := by decide

/-- Refused: a DRAM address of 384 GiB. -/
theorem test_wf_line_read : (.dramLineRead 0x6000000000 0 true : Instr).wellFormed = false := by decide

/-- Refused: a line of 63 bytes. -/
theorem test_wf_line_write : (.dramLineWrite 0 (List.replicate 63 0) 0 : Instr).wellFormed = false := by decide

/-- Refused: a scrub above the DRAM. -/
theorem test_wf_scrub : (.patrolScrub 0x6000000000 0 : Instr).wellFormed = false := by decide

/-- Refused: 15 temperatures for 16 layers. -/
theorem test_wf_temps : (.dramTempSample 0 (List.replicate 15 0) : Instr).wellFormed = false := by decide

/-- Refused: a BAR2 access of no bytes. -/
theorem test_wf_bar2_empty : (.bar2Access 1 false 0 0 [] false : Instr).wellFormed = false := by decide

/-- Refused: a BAR2 access that crosses 4 KiB. -/
theorem test_wf_bar2_cross : (.bar2Access 1 false 0xFFF 2 [] false : Instr).wellFormed = false := by decide

/-- Refused: a BAR2 write of 8 bytes with one byte. -/
theorem test_wf_bar2_data : (.bar2Access 1 true 0 8 [1] false : Instr).wellFormed = false := by decide

/-- Refused: a lane that the link does not have. -/
theorem test_wf_lane : (.laneFault 22 256 : Instr).wellFormed = false := by decide

/-- Refused: a level that PAIR_RESET does not carry. -/
theorem test_wf_pair_reset : (.pairResetReceive 2 : Instr).wellFormed = false := by decide

/-- Refused: a SEND longer than a slot. -/
theorem test_wf_roce : (.roceSendReceive 0 false (List.replicate 65537 0) [] : Instr).wellFormed = false := by decide +kernel

/-- Refused: a nonce that is not 32 B. -/
theorem test_wf_challenge : (.challenge 1 0 [] : Instr).wellFormed = false := by decide

/-- Refused: a nonce that is not 32 B. -/
theorem test_wf_measurements : (.getMeasurements 0 0 [] : Instr).wellFormed = false := by decide

/-- Refused: PF0 as an interface. -/
theorem test_wf_lock : (.lockInterface 0 0 : Instr).wellFormed = false := by decide

/-- Refused: PF0 as an interface. -/
theorem test_wf_start : (.startInterface 0 : Instr).wellFormed = false := by decide

/-- Refused: PF0 as an interface. -/
theorem test_wf_stop : (.stopInterface 0 : Instr).wellFormed = false := by decide

/-- Refused: PF0 as a virtual function. -/
theorem test_wf_flr : (.flrVf 0 : Instr).wellFormed = false := by decide

/-- Refused: PF0 as a virtual function. -/
theorem test_wf_d3 : (.vfD3hotEntry 0 : Instr).wellFormed = false := by decide

/-- Refused: PF0 as a virtual function. -/
theorem test_wf_d0 : (.vfD0Return 0 : Instr).wellFormed = false := by decide

/-- Refused: a source that RST_MAP does not have. -/
theorem test_wf_rst_map : (.rstMapWrite 0 12 0 : Instr).wellFormed = false := by decide

/-- Refused: no power sample of any die. -/
theorem test_wf_power : (.powerMonitorTick 0 [] : Instr).wellFormed = false := by decide

/-- Refused: a producer that no die is. -/
theorem test_wf_vent : (.ventRecordReceive { time := 0, kind := 0, sev := 0, resent := false, wing := 0, die := 0, island := 0, code := 0, d0 := 0, d1 := 0, d2 := 0, d3 := 0 } 20 : Instr).wellFormed = false := by decide

/-- Refused: a failing address above the DRAM. -/
theorem test_wf_pattern : (.patternTestDone [0x6000000000] : Instr).wellFormed = false := by decide

/-- A well-formed command. -/
theorem test_wf_good : (Instr.hello 0 0 0 0 (List.replicate 8 0)).wellFormed = true ∧ (Instr.ozRdsr 0 1 10).wellFormed = true := by decide

/-! ### Ozol words, written out from 05 R154 and R155 -/

/-- The word of 05's example, ADDI G5, G2, −8, and its bytes as they are stored. -/
theorem test_word_addi : ozDecode 7 0x20288000FFFFFFF8#64 = some (.ozAddi 7 5 2 0xFFFFFFF8#32) ∧
    leBytes 8 0x20288000FFFFFFF8 = [0xF8, 0xFF, 0xFF, 0xFF, 0x00, 0x80, 0x28, 0x20] := by decide

/-- Format R: RD 3, RA 1, RB 2. -/
theorem test_word_add : ozDecode 7 0x1018440000000000#64 = some (.ozAdd 7 3 1 2) := by decide

/-- Format I, all fields zero. -/
theorem test_word_end : ozDecode 7 0x0200000000000000#64 = some (.ozEnd 7) := by decide

/-- IMM [2:0]. -/
theorem test_word_prio : ozDecode 7 0x0600000000000005#64 = some (.ozPrio 7 5) := by decide

/-- IMM [5:0]. -/
theorem test_word_shli : ozDecode 7 0x252880000000003F#64 = some (.ozShli 7 5 2 63) := by decide

/-- IMM whole. -/
theorem test_word_movi : ozDecode 7 0x29F80000FFFFFFFF#64 = some (.ozMovi 7 31 0xFFFFFFFF#32) := by decide

/-- Format S: RA 30, RB 17, target. -/
theorem test_word_beq : ozDecode 7 0x3107A20000003FFF#64 = some (.ozBeq 7 30 17 0x3FFF) := by decide

/-- Format S with RA. -/
theorem test_word_loop : ozDecode 7 0x3701000000000009#64 = some (.ozLoop 7 4 9) := by decide

/-- Format S: base RA, source RB. -/
theorem test_word_sts : ozDecode 7 0x43018E0000000010#64 = some (.ozSts 7 6 7 0x10#32) := by decide

/-- The selector in IMM. -/
theorem test_word_rdsr : ozDecode 7 0x444800000000000A#64 = some (.ozRdsr 7 9 10) := by decide

/-- Slot in IMM [18:16], word in IMM [2:0]. -/
theorem test_word_dset : ozDecode 7 0x4902000000050006#64 = some (.ozDset 7 8 5 6) := by decide

/-- Slot in IMM [2:0], unit in IMM [10:8]. -/
theorem test_word_mmul : ozDecode 7 0x5050000000000103#64 = some (.ozMmul 7 10 3 1) := by decide

/-- RD and RA. -/
theorem test_word_poll : ozDecode 7 0x5A5B000000000000#64 = some (.ozPoll 7 11 12) := by decide

/-- Opcodes 0x00 and 0xFF are undefined; a reserved bit set spells no instruction. -/
theorem test_word_undefined : ozDecode 7 0x0000000000000000#64 = none ∧ ozDecode 7 0xFF00000000000000#64 = none ∧
    ozDecode 7 0x1000000000000001#64 = none ∧ ozDecode 7 0x0200000000000001#64 = none := by decide

/-- The table gives no row bits. -/
theorem test_table_word : decodeTableWord 64 0x20288000FFFFFFF8 = none := by decide

/-! ### Worked examples of the spec -/

/-- 08's integer example: parameters of column j with PER_COL. -/
def exMx (even : Bool) : MxParam :=
  { mult := 1374389535, shift := 37, scale := 0, za := 128, zb := 3, zout := -5, bias := 0xFFFFFF9C, even := even, sat := false,
    intIn := true, intOut := true, fo := 3 }

/-- 08's integer example: the sum, and the output in either rounding mode. -/
theorem test_matrix_example : mxAccInt (exMx true) [130, 120, 200, 128] [10, -5, 7, 3] = 266 ∧
    mxElemInt (exMx true) [130, 120, 200, 128] [10, -5, 7, 3] = 0xFE ∧
    mxElemInt (exMx false) [130, 120, 200, 128] [10, -5, 7, 3] = 0xFE := by decide +kernel

/-- 08's floating-point example: 460.25 and 500 converted to E4M3. -/
theorem test_e4m3_example : (encodeF 4 false (.fin false 1841 (-2))).1 = 0x7E ∧ (encodeF 4 false (.fin false 500 0)).1 = 0x7F ∧
    (encodeF 4 true (.fin false 500 0)).1 = 0x7E := by decide +kernel

/-- 06's example: a row of INT8 elements, the first with value q. -/
def exRow (scale zp q : Nat) : Bytes :=
  leBytes 4 0 ++ leBytes 2 scale ++ leBytes 2 zp ++ List.replicate 8 1 ++ leBytes 1 q ++ List.replicate 15 0

/-- 06's example: the sum of two rows, element 0, and the BF16 output. -/
theorem test_gather_example :
    (poolPart false 1 [rowTerms 1 1 false 0 (exRow 0x3000 128 200), rowTerms 1 1 false 0 (exRow 0x2E00 120 100)]).1 = [0x40E40000#32] ∧
    pooledBytes 0 1 ([0x40E40000#32], 2) = [0xE4, 0x40] := by decide +kernel

/-- 06 R183: an index equal to SALT hashes to row 0. -/
theorem test_hash_salt : kh64 0x123456789ABCDEF 0x123456789ABCDEF 1000 = 0 := by decide +kernel

/-- 06 R174: strides; an INT8 row of DIM 64 and an INT4 row of DIM 16 (07's example gives their payloads 64 B and 8 B). -/
theorem test_row_stride : rowPayload 1 64 = 64 ∧ rowStride 1 64 = 128 ∧ rowPayload 0 16 = 8 ∧ rowStride 0 16 = 32 := by decide

/-- 11's example of an address: stack 2, pseudo-channel 25, bank 13, row 18. -/
theorem test_dram_address : stackOf 0x1802468AC0 = 2 ∧ pcOf 0x1802468AC0 = 25 ∧ bankOf 0x1802468AC0 = 13 ∧
    rowOf 0x1802468AC0 = 18 := by decide +kernel

/-- 10 R308's example: scratchpad offset 0x123480 of half-cell 7. -/
theorem test_scratchpad_map : spBank 0x123480 = 58 ∧ spRow 0x123480 = 145 ∧ spPhysBank 7 0x123480 = 122 := by decide +kernel

/-- 12 R386: the check value of the digest's CRC-64, of the nine ASCII digits. -/
theorem test_crc64_check : crc64 ([0x31, 0x32, 0x33, 0x34, 0x35, 0x36, 0x37, 0x38, 0x39] : Bytes) = 0x995DC9BBDF1939FA#64 := by
  decide +kernel

/-- 01 R22, by hand: a packet from C0 to C6 goes along its row to C2's column, and only then between rows. -/
theorem test_route : route 0 6 = [0, 1, 2, 6] ∧ route 6 0 = [6, 5, 4, 0] := by decide +kernel

/-- 00's example of a 64-bit value in an entry. -/
theorem test_little_endian : leBytes 8 0x000000123456789A = [0x9A, 0x78, 0x56, 0x34, 0x12, 0, 0, 0] := by decide

/-- An empty queue: a nanosecond passes on the units that count, and nothing else happens. -/
theorem test_reset_idle : step State.reset = .next { State.reset with clk := (idle State.reset).clk } := by rfl

/-- A command that the part does not act on while its first release waits leaves the rest of the queue alone. -/
theorem test_queue_front : step { State.reset with pending := [.jtagBypass true, .perst] } =
    exec (.jtagBypass true) { State.reset with pending := [.perst] } := by rfl

/-! ### Helper states -/


def wS : State := { State.reset with
  rst := { Rst.init with level := none, perst := false }, plinth := { term := 1, beat := 0, holder := 0 },
  hubs := [(0, { HubSt.init with auth := .holder, ready := true, authTerm := 1 }),
           (1, { HubSt.init with auth := .shadow, ready := true, authTerm := 1 })],
  fns := [(0, { FnSt.init with memSpace := true, busMaster := true })],
  vlt := { Vlt.init with mode := .approved, sync := true }, fw := { Fw.init with booted := true, running := true } }

/-- Wing 3 with a configuration. -/
def wWing (w : Wing) (s : State) : State := s.setWing 3 w

def wShadow : Shadow := { Shadow.init with ptRoot := 0x40000000#64 }

/-- Wing 3 with a half-cell, a queue and an extent, in a state, and its snapshot. -/
def wFit (p : WingPhase) : State :=
  ((((wS.setHalf 15 { HalfCell.init with owner := some 3 }).setExt 1 { Extent.init with owner := some 3 }).setQue 9
    { Que.init with owner := some 3 }).setWing 3
    { Wing.init with state := p, enableReq := true, shadow := wShadow, snap := some wShadow, tsyncGen := 1 })

def wReqOf (r : Req) : Req := r

/-- A request of wing 3 on queue 9. -/
def wReq0 : Req :=
  { id := 0, que := 9, wing := 3, kind := .request, cls := 0, irqSup := false, replySup := false, cat := none, seq := 0,
    program := 0, args := 0, argsLen := 0, userTag := 0, timeoutUs := 0, boundUs := 0, targets := [], fetchTs := 0, admitTs := 0,
    startTs := 0, endTs := 0, sqHead := 0, refBefore := none, dupBad := false, lateClock := false, phase := .admitted, result := 0, detail := 0, faultPc := 0, epoch := none,
    imageId := 0, needHalf := 1, reduced := false, wcet := 0, wEnd := 0, gapUs := 0, scratch := 0,
    overlapSafe := false, reserved := [], halves := [], docs := [], term := 1, dispTs := 0, ranNs := 0, dup := false, later := 0,
    ckptReq := false, oldTerm := false, resumed := false, flow := none, haltAt := 0, behind := none,
    ended := false, outStarted := false, dispatched := false, ranOn := 0 }

def wReq (s : State) : State := { s with reqs := [wReq0], nextReq := 1 }

/-- A command in progress in mailbox 0 of PF0. -/
def wRun (op : W16) (p : Bytes) : Run :=
  { op := op, minor := 0, tag := 0, wing := 0xFF, payload := p, start := 0, committed := false, data := [] }

def wRunning (op : W16) (p : Bytes) : State := wS.setMbox 0 { Mbx.init with run := some (wRun op p) }

/-- Queue 9, wing-relative 0, of wing 3, in a state with memory reachable. -/
def wQue (q : Que) : State :=
  ((wFit .enabled).setQue 9 { q with owner := some 3 }).setHalf 15 { HalfCell.init with owner := some 3 }

/-- A one-word image (END) and its request. -/
def wImage : Image :=
  { wing := 3, program := 0, imageId := 7, header := leBytes 24 0 ++ leBytes 8 7 ++ leBytes 32 0, code := [0x0200000000000000#64],
    consts := [], sched := [], lastAdmit := 0, slot := 0 }

def wReqV : Req := { wReq0 with phase := .validating }
def wReqA : Req := { wReq0 with imageId := 7 }
def wReqD : Req := { wReq0 with phase := .finished }

/-- A wing whose root table maps page 0 to its extent 1: one level-0 entry chain of zero-filled tables is not needed, as the
translation of the wing is cached. -/
def wMap (s : State) : State :=
  { s with tlb := [{ loc := 8, wing := 3, page := 0, size := 65536, host := false, target := 0x40000000, writable := true, gen := 0, tag := 0 }] }

def wHm : HostMem := []

/-- A request that is being validated, with its image stored; the image's header is all zero in device memory. -/
def wVal : State :=
  { wMap (wQue { Que.init with state := .enabled, fetched := 1 }) with
    reqs := [wReqV], images := [{ wImage with imageId := 0, header := List.replicate 64 0 }], nextReq := 1 }

def wVal0 : State := { wVal with images := [] }

/-- An admitted request, its image stored. -/
def wDisp : State :=
  { wQue { Que.init with state := .enabled, fetched := 1 } with reqs := [wReqA], images := [wImage], nextReq := 1 }

/-- A finished request on a queue. -/
def wDone (q : Que) : State := { wQue { q with fetched := 1 } with reqs := [wReqD], nextReq := 1 }

/-- The request of a docent, with 1 MiB of scratchpad and 16 B of arguments. -/
def wReqS : Req := { wReq0 with phase := .running, scratch := 0x100000, argsLen := 16, dispatched := true }

/-- Docent `d` runs a program whose first word is `w` and whose second is END; G1 holds 1. -/
def wDocAt (d : Nat) (w : W64) : State :=
  { wS with reqs := [wReqS], nextReq := 1 }.setDoc d { Docent.init with
    state := .running, req := some 0, g := [(1, 1)], code := [w, 0x0200000000000000#64], consts := List.replicate 9 7 }

def wDoc (w : W64) : State := wDocAt 38 w
def wDocR (w : W64) : State := wDocAt 38 w

/-- The same with ticket 1 issued. -/
def wDocT (w : W64) (o : List W16) : State := (wDoc w).updDoc 38 fun x => { x with ticket := 1, issued := 1, openT := o }

/-- The same with a descriptor in a slot. -/
def wDocL (w : W64) (slot : Nat) (desc : Bytes) : State := (wDoc w).updDoc 38 fun x => { x with slots := Mem.write [] (64 * slot) desc }

def wBar : State := { (wDoc 0).updDoc 38 (fun x => { x with stall := .barrier 255 }) with reqs := [{ wReqS with docs := [38] }] }

/-- A docent that waits for an LDA at offset 8. -/
def wLda : State :=
  { (wDoc (0x40F8000000000008#64)).updDoc 38 (fun x => { x with stall := .lda 31 8 }) with
    tlb := [{ loc := 7, wing := 3, page := 0, size := 65536, host := false, target := 0x40000000, writable := true, gen := 0, tag := 0 }] }
def wLda1 : State := (vaRead (wLda) 3 (.docent 38) [] 8 8).1

/-- 64 bytes of which the listed ones are not zero. -/
def wBytes (l : List (Nat × Byte)) : Bytes := (List.range 64).map fun i => match l.find? (fun x => x.1 == i) with | some x => x.2 | none => 0#8

/-- Descriptors that pass the launch checks: GEMM of one INT8 element, a copy of one FP32 element, a sum of one, a row of 16 bytes
and a batch of one empty bag. -/
def wMx : Bytes := wBytes [(1, 0x22), (2, 5), (20, 64), (24, 128), (32, 16), (36, 16), (40, 16)]
def wVe : Bytes := wBytes [(4, 10), (5, 10), (24, 128)]
def wRu : Bytes := wBytes [(1, 0xAA), (24, 128), (28, 4)]
def wSt : Bytes := wBytes [(1, 9), (20, 16)]
def wGb : Bytes := wBytes [(4, 1), (40, 64), (44, 1)]

def wReqG : Req := { wReqS with admitTs := 1, cat := some 0 }
def wTab : Table := { tableOf 3 0 (wBytes [(4, 16)]) with phase := .ready }
def wDocG (w : W64) : State := { (wDocL w 7 wGb) with reqs := [wReqG], tables := [(0, some wTab)] }

def wRunD (op : W16) (d : List Nat) : Run := { wRun op [] with data := d }
/-- A table of wing 3 with two granules of its extent 1. -/
def wCre0 (ph : TabPhase) : Table := { wTab with runs := [{ stack := 0, first := 16384, count := 2 }], phase := ph }
def wCre : Table := wCre0 .creating
def wTabS (ph : TabPhase) : State := { wFit .enabled with tables := [(0, some { wTab with phase := ph })] }
def wTabS2 (ph : TabPhase) : State := { wFit .enabled with tables := [(0, some (wCre0 ph))] }
def wCreS : State := (wTabS2 .creating).setMbox 0 { Mbx.init with run := some (wRunD 0x0201 [0, 0, 1]) }

/-- A table with one row in the wing, and a PIN_QUOTA. -/
def wTabP : Table := wCre0 .ready
def pinLine0 : Nat := 16384 * 1024
def wPinS (q : Nat) : State := (wTabS2 .ready).updWing 3 fun w => { w with cacheCtl := BitVec.ofNat 32 q }
def wPinned : State := { wPinS 8 with cache := [{ stack := 0, line := pinLine0, wing := 3, gen := 0, pinned := true, used := 0 }] }
def wPinBad : State := (wPinS 8).setLine pinLine0 { (wPinS 8).line pinLine0 with bad := .poison, count := 1 }

/-- A batch of one bag with one lookup of row 5, as launched by docent 38 with ticket 1. -/
def wTabR : Table := { tableOf 3 0 (wBytes [(0, 63), (4, 16)]) with phase := .ready, runs := [{ stack := 0, first := 0, count := 1 }] }
def wGb1 : Bytes := wBytes [(4, 1), (40, 64), (44, 1)]
def wLauG : Launch :=
  { doc := 38, ticket := 1, req := 0, eng := .gpe, desc := wGb1, pcOff := 64, after_ := 0, tile := 0, byte_ := 0, halted := false, begun := false,
    rows := 0, flags := 0, dirty := false }
def wBat : Batch :=
  { doc := 38, ticket := 1, req := 0, wing := 3, table := 0, epoch := 1, lookups := [(0, 5, 0)], total := 1, taken := [0], rows := [], remote := [],
    parts := [], since := 0, failed := none }
def wBatD : Batch := { wBat with taken := [], rows := [(0, some (List.replicate 16 0))] }
def wGatOf (b : Batch) (t : Table) : State :=
  { wFit .enabled with tables := [(0, some t)], batches := [b], launches := [wLauG], reqs := [wReqG], docents := (wDocT 0 [1]).docents }
def wGat : State := wGatOf wBat wTabR
def wGatD : State := wGatOf wBatD wTabR
/-- The same with a lookup that no GPE has accepted yet. -/
def wGatW : State := wGatOf { wBat with taken := [] } wTabR
def wGatG : Fin 16 := Fin.ofNat 16 (bagGPE wGatW 0 0)
def wGatBad : State := wGat.setLine 2 { wGat.line 2 with bad := .poison, count := 1 }
/-- The same of a table striped over two stacks, whose row 5 lies at position 1 and has been read. -/
def wTab2 : Table := { tableOf 3 0 (wBytes [(0, 63), (4, 16), (9, 1), (25, 1)]) with phase := .ready }
def wBat2 : Batch := wBatD
def wGat2 : State := wGatOf wBat2 wTab2

/-- A ring with one PUT of row 5 at HEAD, and the host memory that holds it. -/
def wRec : Bytes := [0, 0, 0, 0, 64, 0, 0, 0, 5] ++ List.replicate 17 0 ++ [0x10] ++ List.replicate 37 0
def wRingHm : HostMem := wRec.zipIdx.map fun x => (x.2, x.1)
def wRing : State :=
  { (wFit .enabled).setCat 25 { Cat.init with state := .enabled, isOpen := true, openEp := 1, runCfg := 16, tail := 64 } with
    tables := [(0, some { wTabR with cat := 1 })] }

/-- A catalogue with V 9 and a request that pins epoch 8. -/
def wPinEp : State := { (wFit .enabled).setCat 25 { Cat.init with vis := 9 } with reqs := [{ wReq0 with cat := some 1, epoch := some 8 }] }
def wRet : Run := { wRun 0x0207 [1, 0, 0, 0, 9, 0, 0, 0] with wing := 3, data := [0] }

/-- A record that stalls for a fourth version while a suspended request pins epoch 1. -/
def wStall : State :=
  { (wFit .enabled).setCat 25 { Cat.init with vis := 4, isOpen := true, openEp := 5, state := .enabled, stall := 1, stallRow := some (0, 0, 5) } with
    tables := [(0, some { wTabR with cat := 1 })], dir := [{ stack := 0, table := 0, row := 5, versions := [(4, 0), (3, 64), (2, 65), (1, 66)] }],
    reqs := [{ wReq0 with cat := some 1, epoch := some 1, phase := .suspended }, { wReq0 with id := 1, cat := some 1, epoch := some 2 }, { wReq0 with id := 2, cat := some 1, epoch := some 3 }], nextReq := 3 }

/-- A launch of docent 38 under ticket 1, granted to its engine. -/
def wLau (e : Engine) (desc : Bytes) : Launch :=
  { doc := 38, ticket := 1, req := 0, eng := e, desc := desc, pcOff := 0, after_ := 0, tile := 0, byte_ := 0, halted := false, begun := true,
    rows := 0, flags := 0, dirty := false }
def wEng (l : Launch) : State :=
  { (wDocT 0 [1]) with launches := [l] }.updArb ((engArb l.eng).getD 0) fun x => { x with grant := some 38 }
/-- A GEMM with a column entry whose shift is 64. -/
def wMxE : Bytes := wBytes [(1, 0x22), (2, 0x45), (20, 64), (24, 128), (29, 1), (32, 16), (36, 16), (40, 16)]
def wEngE (l : Launch) : State := { wEng l with sp := Mem.write [] (spBase 15 + 268) [64] }
def wDup : Dup := { origin := 0, checker := 1, req := 5, wing := 3, seq := 0, pcOff := 0, detail := 0, digest := crc64 [1, 2] }

/-- A stream of 16 bytes from a page that is mapped to the host, to extent 1, or not at all. -/
def wHmS : HostMem := []
def wTlbE (p : Nat) (host : Bool) : TlbEntry := { loc := 7, wing := 3, page := 0, size := 65536, host := host, target := p, writable := true, gen := 0, tag := 0 }
def wStr0 : State := wEng (wLau (.strm 120) wSt)
def wStr : State := { wStr0 with tlb := [wTlbE 0x40000000 false] }
def wStrH : State :=
  { ({ wStr0 with tlb := [wTlbE 0x10000 true] }.updWing 3 fun w => { w with lent := true }) with
    fns := [(0, { FnSt.init with memSpace := true, busMaster := true, pri := true })] }

def wReqSus : Req := { wReqS with phase := .suspended }
def wCk : Ckpt := { req := 0, index := 0, slot := 0, mem := [(5, 7)], docs := [], queued := [], root := wingRoot (wFit .enabled) 3 }
def wSus : State := { wFit .enabled with reqs := [wReqSus], nextReq := 1, ckpts := [wCk] }

/-- A line of extent 1 that has been written, or is poisoned. -/
def wLine (b : LineState) : State :=
  ({ wFit .enabled with dram := Mem.write [] 0x40000000 (List.replicate 64 5) }).setLine (0x40000000 / 64)
    { gen := (wFit .enabled |>.ext 1).gen, phase := (wFit .enabled |>.ext 1).phase, count := 3, bad := b }
def wPri : PriReq :=
  { fn := 0, page := 0x10000, who := .strm 120, tries := 0, issued := true, again := false, at_ := 0 }

/-- A unit of a pair, position 1, whose link is up. -/
def wDie : LinkDie := { wS.par.die0 with up := true, active := 256, spareUsed := 0, failed := [] }
def wPair : State :=
  { wFit .enabled with par := { wS.par with enable := true, position := true, pairId := 1, link := .up, lease := .lapsed, die0 := wDie, die1 := wDie, pk := some [] } }
def wPeer : PeerInfo :=
  { up0 := true, up1 := true, badLanes := [], ofs := 0, major := 1, pairId := 1, pos := false, entries := [], cats := [], term := 4, holder := 2, expiry := 0 }
def wAsk (c : Bool) : Asked := { claim := c, nonce := 5, time := 0, afterLoss := false }
/-- The follower of mirrored catalogue 1 of wing 3, epoch 8 open. -/
def wFol : State := (wPair.updPar fun x => { x with lease := .follower }).setCat 25 { Cat.init with mode := 1, isOpen := true, openEp := 8 }
def wFolR : State := { (wFol.updCat 25 fun k => { k with isOpen := false, vis := 0 }) with tables := [(0, some { wTabR with cat := 1 })] }
/-- What the follower's record, and one of a row whose four versions are in use, leave. -/
def wPut1 : State := match (recordPut (followOpen wFolR 3 1 1) 3 wRec 1).2 with | .ok x => x | _ => wS
def wStallF : State :=
  ({ wStall with par := { wPair.par with lease := .follower } }).updCat 25 fun k => { k with mode := 1, stall := 0, stallRow := none }
def wPut2 : State × Nat := match (recordPut (followOpen wStallF 3 1 5) 3 wRec 5).2 with | .stall x c => (x, c) | _ => (wS, 0)
/-- A unit whose acquire waits for the partner, and what it has when the partner gives the lease up. -/
def wAskS : State := { wPair with par := { wPair.par with lease := .lapsed, term := 1 } }.setMbox 0 { Mbx.init with run := some (wRun 0x0502 []) }
def wGot : State :=
  (scpCommit wAskS ((wRun 0x0502 []).cmd 0 0)).updPar fun p =>
    { p with term := nextEven wAskS.par.term, lease := .holder, holderPos := p.position, expiry := 200000000 }
def wTw : TableWait := { fn := 0, hub := 0, wing := 3, delete := false, table := 0, desc := [] }
/-- A striped table at position 0. -/
def wStriped : State :=
  { (wPair.updPar fun x => { x with position := false }).setCat 24 { Cat.init with mode := 2 } with tables := [(0, some wTabR)] }

/-- A unit whose second host port is ready to be moved to; and the move, drained. -/
def wPort : State := wS.updPcie fun p => { p with dlActive0 := true, dlActive1 := true, standby := [(0, { CfgSpace.init with memSpace := true, busMaster := true })] }
def wMoving : State :=
  (wPort.updPcie fun p => { p with moving := true, moveBy := some (0, 0, 1) }).setMbox 0 { Mbx.init with run := some (wRun 0x0A02 [1, 0, 0, 0]) }
def wHeld : State := (wPort.updPcie fun p => { p with dlActive0 := false, held := [{ fn := 0, addr := 0x20000, data := [1, 2], tag := { pasid := none, translated := false } }] })
def wMsix : State :=
  (wS.updFnSt 0 fun f => { f with msixEn := true }).setMsixEnt (msixKey 0 5) { (wS.msixEnt (msixKey 0 5)) with pend := true, mask := true }

/-- Flow 5 of wing 3, which PF0 selects in a platform-owner wing, feeding queue 0 of the wing. -/
def wFl : Flow :=
  { Flow.init with owner := some 3, state := .rts, l2 := 5, dgid := 9, destQpn := 3, slotCfg := 0x20004001, rate := 1500000000 }
def wNetQ (p : QuePhase) : State := wQue { Que.init with state := p, regs := { Que.init.regs with cfg := 0x2000 }, run := { Que.init.run with cfg := 0x2000 } }
def wEth : State := wS.setEth 0 { EthPort.init with linkUp := true, ip := 7 }
def wFlow (f : Flow) : State :=
  (((wNetQ .enabled).setEth 0 { EthPort.init with linkUp := true }).updFnSt 0 fun x => { x with netSel := 5 }).setFlow 5 f
def wFlowQ (p : QuePhase) : State :=
  (((wNetQ p).setEth 0 { EthPort.init with linkUp := true }).updFnSt 0 fun x => { x with netSel := 5 }).setFlow 5 wFl

/-- PF0 with a session, its negotiation done. -/
def wOff (x : Session) : State :=
  (wS.updFnSt 0 fun f => { f with spdm := .negotiated }).updVlt fun v => { v with sessions := [x], linkUp := true }
/-- VF 2 in tenant wing 3, with a session. -/
def wVfT : State :=
  ((((wFit .enabled).updPcie fun p => { p with vfEnable := true, vfMse := true, numVfs := 4 }).setVf 2 { (wS.vf 2) with owner := some 3 }).updWing 3 fun w =>
    { w with tenant := true }).updVlt (fun v => { v with sessions := [{ fn := 2, sid := 1, finished := true, officer := false, seqNo := 0, secret := [] }] }) |>.updFnSt 2 fun f =>
    { f with spdm := .negotiated, memSpace := true, busMaster := true }
def wNon (s : State) : State := s.updVlt fun v => { v with mode := .nonApproved }
def wImp : State := wNon (wVfT.updWing 3 fun w => { w with state := .disabled })
/-- A key of a kind, in the clear. -/
def wKey (kind : Byte) : Bytes := [kind, 1] ++ List.replicate 26 0 ++ List.replicate 32 7 ++ List.replicate 20 0
/-- A log that holds records 1 to 3, of which 0 and 1 have been exported. -/
def wLogOf (s : State) : State :=
  { s with log := { s.log with recs := [List.replicate 192 1, List.replicate 192 2, List.replicate 192 3], oldest := 1, next := 4, exported := [(0, 1)] } }
def wLog : State :=
  { wS with log := { wS.log with recs := [List.replicate 192 2, List.replicate 192 3], oldest := 1, next := 3, exported := [(0, 1)] } }
def wLogO : State := wLogOf (wOff { fn := 0, sid := 1, finished := true, officer := true, seqNo := 4, secret := [] })

/-- A part at the end of a boot of level 5; and a block reset that mailbox 0 of PF0 began. -/
def wBoot : State := { State.reset with rst := { Rst.init with level := none, perst := false }, plinth := { term := 1, beat := 0, holder := 0 } }
def wBlk (level target : Nat) : BlockReset := { fn := 0, hub := 0, level := level, target := target, source := if level = 0 then 5 else 11, since := 0 }
def wBlkS (b : BlockReset) : State :=
  ((wFit .enabled).updRst fun r => { r with blocks := [b] }).setMbox 0 { Mbx.init with run := some (wRun (if b.level = 0 then 0x0104 else 0x0A01) []) }

/-- Vents: no free credit; the log and trace rings configured; an accumulator; an open window. -/
def wNoCr : State := { wS with vnt := { wS.vnt with alarmsOut := 256 } }
def wRingL : State :=
  { wS with vnt := { wS.vnt with rings := [(1, { head := 0, tail := 0, addr := 0x100000, sizeLog2 := 16, mask := 14 }),
                                           (2, { head := 0, tail := 0, addr := 0x200000, sizeLog2 := 16, mask := 0 })] } }
def wAcc : Accum := { kind := 0x1001, sev := 2, wing := 3, count := 9, first := 1, last := 2, due := false }
def wTrc : TraceWin := { id := 7, die := 9, cls := 4, start := 0, len := 1, running := true }
def wWin : State := { wRingL with vnt := { wRingL.vnt with windows := [wTrc] } }

/-- Firmware: slot A committed and booted; slot B receiving; slot B on trial. -/
def wFwS : State :=
  { wS with fw := { wS.fw with slotA := { Slot.init with state := .committed, schema := 16 }, running := false, recovery := false } }
def wLoad : State := { wFwS with fw := { wFwS.fw with slotB := { Slot.init with state := .loading, data := [1, 2] } } }
def wTrial : State := { wFwS with fw := { wFwS.fw with slotB := { Slot.init with state := .trial, schema := 32, data := [1, 2] }, running := true } }
def wMin : State := wS.updFnSt 0 fun f => { f with minor := 2 }
def wUnl : State := wNon (wOff { fn := 0, sid := 1, finished := true, officer := true, seqNo := 4, secret := [] })
def wTdi : State := wVfT.updTdi 2 fun t => { t with state := .run }


/-! ### Every hypothesis is met: one theorem per statement -/

theorem test_met_FabricPortChecksTermThenGeneration :
  (∃ (port : Fin 62) (cls kind : Fin 5) (index : Fin 16384) (gen : W16) (src : Fin 20) (mark : PacketMark) (term : W32) (req : Nat) (s : State),
    onRoute s port src kind index = false) ∧
  (∃ (port : Fin 62) (cls kind : Fin 5) (index : Fin 16384) (gen : W16) (src : Fin 20) (mark : PacketMark) (term : W32) (req : Nat) (s : State),
    (onRoute s port src kind index = true) ∧ (mark.curator = true) ∧ (cls = 0) ∧ (term < (s.port port).term)) ∧
  (∃ (port : Fin 62) (cls kind : Fin 5) (index : Fin 16384) (gen : W16) (src : Fin 20) (mark : PacketMark) (term : W32) (req : Nat) (s : State),
    (onRoute s port src kind index = true) ∧ (¬(mark.curator = true ∧ cls = 0)) ∧ (unitGen s (kind, index) ≠ gen)) ∧
  (∃ (port : Fin 62) (cls kind : Fin 5) (index : Fin 16384) (gen : W16) (src : Fin 20) (mark : PacketMark) (term : W32) (req : Nat) (s : State),
    (onRoute s port src kind index = true) ∧ (mark.curator = true) ∧ (cls = 0) ∧ (¬ term < (s.port port).term) ∧ (unitGen s (kind, index) ≠ gen)) ∧
  (∃ (port : Fin 62) (cls kind : Fin 5) (index : Fin 16384) (gen : W16) (src : Fin 20) (term : W32) (req : Nat) (s : State),
    (onRoute s port src kind index = true) ∧ (cls = 0) ∧ (¬ term < (s.port port).term) ∧ (unitGen s (kind, index) = gen)) ∧
  (∃ (port : Fin 62) (cls kind : Fin 5) (index : Fin 16384) (gen : W16) (src : Fin 20) (curator : Bool) (term : W32) (req : Nat) (s : State),
    (onRoute s port src kind index = true) ∧ (¬(curator = true ∧ cls = 0)) ∧ (unitGen s (kind, index) = gen)) ∧
  (∃ (wing : WingIx) (req : Nat) (s : State),
    (s.liveReqs wing).any (fun r => r.id == req) = true) ∧
  (∃ (wing : WingIx) (req : Nat) (s : State),
    (s.liveReqs wing).any (fun r => r.id == req) = false) ∧
  (∃ (link : Fin 31) (lane : Fin 2048) (s : State),
    (lane.val % 1024 < linkLanes link) ∧ ((s.link link).badLanes.contains lane.val = false)) ∧
  (∃ (cell : Cell) (docent : Bool) (pos : Fin 4) (s : State),
    (subDue s (if docent then uDoc cell pos else uMU cell pos) = true) ∧ ((s.half (unitHalf (if docent then uDoc cell pos else uMU cell pos))).req = none) ∧ ((s.half (unitHalf (if docent then uDoc cell pos else uMU cell pos))).held = false)) ∧
  (∃ (cell : Cell) (docent : Bool) (pos : Fin 4) (s : State),
    (s.half (unitHalf (if docent then uDoc cell pos else uMU cell pos))).req ≠ none) :=
  ⟨⟨0, 0, 0, 15, 0, 0, { curator := true, flit := .clean }, 0, 0, wS, by first | decide | rfl | decide +kernel⟩,
   ⟨1, 0, 0, 15, 0, 0, { curator := true, flit := .clean }, 0, 0, wS.setPort 1 { Port.init with term := 1 }, by refine ⟨?_, ?_, ?_, ?_⟩ <;> first | decide | rfl | decide +kernel⟩,
   ⟨35, 1, 1, 383, 1, 7, { curator := true, flit := .clean }, 0, 0, wS, by refine ⟨?_, ?_, ?_⟩ <;> first | decide | rfl | decide +kernel⟩,
   ⟨35, 0, 1, 383, 1, 7, { curator := true, flit := .clean }, 0, 0, wS, by refine ⟨?_, ?_, ?_, ?_, ?_⟩ <;> first | decide | rfl | decide +kernel⟩,
   ⟨58, 0, 4, 16383, 0, 7, 7, 0, wS, by refine ⟨?_, ?_, ?_, ?_⟩ <;> first | decide | rfl | decide +kernel⟩,
   ⟨35, 4, 1, 383, 0, 7, false, 7, 0, wS, by refine ⟨?_, ?_, ?_⟩ <;> first | decide | rfl | decide +kernel⟩,
   ⟨3, 0, wReq wS, by first | decide | rfl | decide +kernel⟩,
   ⟨15, 0, wS, by first | decide | rfl | decide +kernel⟩,
   ⟨0, 1023, wS, by refine ⟨?_, ?_⟩ <;> first | decide | rfl | decide +kernel⟩,
   ⟨7, true, 3, wS.setUnit (uDoc 7 3) { UnitSt.init with quarantined := true }, by refine ⟨?_, ?_, ?_⟩ <;> first | decide | rfl | decide +kernel⟩,
   ⟨0, false, 0, wS.setHalf 0 { HalfCell.init with req := some 0 }, by first | decide | rfl | decide +kernel⟩⟩

theorem test_met_WingsAreEnabledCheckedAndDisabled :
  (∃ (fn : Fn) (wing : WingIx) (s : State),
    (regOpen s fn = true) ∧ (fn = 0 ∨ (s.fnWing fn).map (·.val) = some wing.val) ∧ (s.fw.quarantine = false) ∧ (canLog s fn) ∧ ((s.wing wing).state = .disabled)) ∧
  (∃ (fn : Fn) (wing : WingIx) (s : State),
    (regOpen s fn = true) ∧ (fn = 0 ∨ (s.fnWing fn).map (·.val) = some wing.val) ∧ (s.fw.quarantine = false) ∧ (canLog s fn) ∧ ((s.wing wing).state = .enabled)) ∧
  (∃ (fn : Fn) (wing : WingIx) (s : State),
    (regOpen s fn = true) ∧ (fn = 0 ∨ (s.fnWing fn).map (·.val) = some wing.val) ∧ (s.fw.quarantine = false) ∧ (canLog s fn) ∧ ((s.wing wing).state = .enabled) ∧ (wingChecks s wing (s.wing wing).shadow = none)) ∧
  (∃ (fn : Fn) (wing : WingIx) (s : State) (n : Nat) (code : Byte),
    (regOpen s fn = true) ∧ (fn = 0 ∨ (s.fnWing fn).map (·.val) = some wing.val) ∧ (s.fw.quarantine = false) ∧ (canLog s fn) ∧ ((s.wing wing).state = .enabled) ∧ (wingChecks s wing (s.wing wing).shadow = some (n, code))) ∧
  (∃ (fn : Fn) (wing : WingIx) (s : State),
    (regOpen s fn = true) ∧ (fn = 0 ∨ (s.fnWing fn).map (·.val) = some wing.val) ∧ ((s.wing wing).state = .checking ∨ (s.wing wing).state = .draining)) ∧
  (∃ (fn : Fn) (wing : WingIx) (s : State),
    (regOpen s fn = true) ∧ (fn = 0 ∨ (s.fnWing fn).map (·.val) = some wing.val) ∧ ((s.wing wing).state = .checking ∨ (s.wing wing).state = .draining)) ∧
  (∃ (wing : WingIx) (x : Shadow) (s : State),
    ((s.wing wing).state = .checking) ∧ ((s.wing wing).snap = some x) ∧ (wingChecks s wing x = none)) ∧
  (∃ (wing : WingIx) (x : Shadow) (n : Nat) (code : Byte) (s : State),
    ((s.wing wing).state = .checking) ∧ ((s.wing wing).snap = some x) ∧ (wingChecks s wing x = some (n, code))) :=
  ⟨⟨0, 3, wS, by refine ⟨?_, ?_, ?_, ?_, ?_⟩ <;> first | decide | rfl | decide +kernel⟩,
   ⟨0, 0, wS.setWing 0 { Wing.init with state := .enabled, enableReq := true }, by refine ⟨?_, ?_, ?_, ?_, ?_⟩ <;> first | decide | rfl | decide +kernel⟩,
   ⟨0, 3, wFit .enabled, by refine ⟨?_, ?_, ?_, ?_, ?_, ?_⟩ <;> first | decide | rfl | decide +kernel⟩,
   ⟨0, 15, wS.setWing 15 { Wing.init with state := .enabled }, 2, rRES_INSUFFICIENT, by refine ⟨?_, ?_, ?_, ?_, ?_, ?_⟩ <;> first | decide | rfl | decide +kernel⟩,
   ⟨0, 3, wS.setWing 3 { Wing.init with state := .draining }, by refine ⟨?_, ?_, ?_⟩ <;> first | decide | rfl | decide +kernel⟩,
   ⟨0, 3, wS.setWing 3 { Wing.init with state := .checking }, by refine ⟨?_, ?_, ?_⟩ <;> first | decide | rfl | decide +kernel⟩,
   ⟨3, wShadow, wFit .checking, by refine ⟨?_, ?_, ?_⟩ <;> first | decide | rfl | decide +kernel⟩,
   ⟨0, Shadow.init, 2, rRES_INSUFFICIENT, wS.setWing 0 { Wing.init with state := .checking, snap := some Shadow.init }, by refine ⟨?_, ?_, ?_⟩ <;> first | decide | rfl | decide +kernel⟩⟩

theorem test_met_GrantQueryAndSummaries :
  (∃ (fn : Fn) (hub : Hub) (tag : W32) (wing : Byte) (p : Bytes) (c : Cmd) (s : State),
    (c = sentCmd s 0x0102 fn hub tag wing p) ∧ (accepts s c) ∧ (wing.toNat < 16) ∧ (zeroAt p 3 1 = true) ∧ (leAt p 0 1 ≤ 1) ∧ (leAt p 1 1 ≤ 1) ∧ (leAt p 2 1 ≤ 1) ∧ ((s.wing wing.toNat).state = .disabled) ∧ ((leAt p 2 1 = 1) = ((s.wing wing.toNat).tenant = true))) ∧
  (∃ (fn : Fn) (hub : Hub) (tag : W32) (wing : Byte) (p : Bytes) (c : Cmd) (s : State),
    (c = sentCmd s 0x0102 fn hub tag wing p) ∧ (accepts s c) ∧ (wing.toNat < 16) ∧ (zeroAt p 3 1 = true) ∧ (leAt p 0 1 ≤ 1) ∧ (leAt p 1 1 ≤ 1) ∧ (leAt p 2 1 ≤ 1) ∧ ((s.wing wing.toNat).state = .disabled) ∧ ((leAt p 2 1 = 1) ≠ ((s.wing wing.toNat).tenant = true)) ∧ (vaultServes s = true)) ∧
  (∃ (fn : Fn) (hub : Hub) (tag : W32) (wing : Byte) (p : Bytes) (c : Cmd) (s : State),
    (c = sentCmd s 0x0103 fn hub tag wing p) ∧ (accepts s c) ∧ (wing.toNat < 16) ∧ (zeroAt p 2 2 = true) ∧ (leAt p 0 2 < (wingUnits s wing.toNat).length ∨ wingUnits s wing.toNat = [])) ∧
  (∃ (wing : WingIx) (s : State),
    ((s.wing wing).state = .draining) ∧ ((s.reqs.any fun r => r.wing == wing) = false)) ∧
  (∃ (wing : Fin 17) (kind : Fin 7) (s : State),
    (wing.val < 16) ∧ (logFull s = false) ∧ (Tbl.get 0 (s.wing wing).violSince kind ≠ 0) ∧ (Tbl.get 0 (s.wing wing).violAt kind = 0 ∨ s.now - Tbl.get 0 (s.wing wing).violAt kind ≥ 1000000)) ∧
  (∃ (wing : Fin 17) (kind : Fin 7) (s : State),
    (wing.val < 16) ∧ (Tbl.get 0 (s.wing wing).violSince kind = 0 ∨ (Tbl.get 0 (s.wing wing).violAt kind ≠ 0 ∧
      s.now - Tbl.get 0 (s.wing wing).violAt kind < 1000000))) :=
  ⟨⟨0, 0, 0, 15, [1, 1, 0, 0], sentCmd (wS) 0x0102 0 0 0 15 [1, 1, 0, 0], wS, by refine ⟨?_, ?_, ?_, ?_, ?_, ?_, ?_, ?_, ?_⟩ <;> first | decide | rfl | decide +kernel⟩,
   ⟨0, 0, 0, 3, [0, 0, 1, 0], sentCmd (wS) 0x0102 0 0 0 3 [0, 0, 1, 0], wS, by refine ⟨?_, ?_, ?_, ?_, ?_, ?_, ?_, ?_, ?_, ?_⟩ <;> first | decide | rfl | decide +kernel⟩,
   ⟨0, 0, 0, 15, [0, 0, 0, 0], sentCmd (wS) 0x0103 0 0 0 15 [0, 0, 0, 0], wS, by refine ⟨?_, ?_, ?_, ?_, ?_⟩ <;> first | decide | rfl | decide +kernel⟩,
   ⟨0, wS.setWing 0 { Wing.init with state := .draining }, by refine ⟨?_, ?_⟩ <;> first | decide | rfl | decide +kernel⟩,
   ⟨15, 6, wS.setWing 15 { Wing.init with violSince := [(6, 2)] }, by refine ⟨?_, ?_, ?_, ?_⟩ <;> first | decide | rfl | decide +kernel⟩,
   ⟨0, 0, wS, by refine ⟨?_, ?_⟩ <;> first | decide | rfl | decide +kernel⟩⟩

theorem test_met_RebindingStartsDrainsAndMoves :
  (∃ (fn : Fn) (hub : Hub) (tag : W32) (wing : Byte) (p : Bytes) (c : Cmd) (s : State),
    (c = sentCmd s 0x0101 fn hub tag wing p) ∧ (accepts s c) ∧ (firstFail (rebindChecks s c) = none)) ∧
  (∃ (fn : Fn) (hub : Hub) (tag : W32) (wing : Byte) (p : Bytes) (c : Cmd) (s : State) (code : Byte),
    (c = sentCmd s 0x0101 fn hub tag wing p) ∧ (accepts s c) ∧ (firstFail (rebindChecks s c) = some code)) ∧
  (∃ (fn : Fn) (hub : Hub) (bad : List HcIx) (r : Run) (s : State),
    (running s fn hub 0x0101 = some r) ∧ ((rebindUnits r.payload).all (unitDrained s r.start) = true) ∧ (s.vlt.mode ≠ .selfTest) ∧ ((rebindUnits r.payload).any (fun u => u.1 == ukExt) = false ∨ vaultServes s = true)) ∧
  (∃ (fn : Fn) (hub : Hub) (bad : List HcIx) (r : Run) (s : State),
    (running s fn hub 0x0101 = some r) ∧ ((rebindUnits r.payload).all (unitDrained s r.start) = false)) ∧
  (∃ (fn : Fn) (hub : Hub) (wing : WingIx) (s : State),
    (s.wing wing).state = .draining) ∧
  (∃ (fn : Fn) (hub : Hub) (r : Run) (s : State),
    (running s fn hub 0x0101 = some r) ∧ ((rebindUnits r.payload).all (unitDrained s r.start) = false)) :=
  ⟨⟨0, 0, 0, 0xFF, [0xFE, 3, 1, 0, 0, 0, 0, 0, 0, 0, 0, 0, 15, 0, 0, 0], sentCmd (wS) 0x0101 0 0 0 0xFF [0xFE, 3, 1, 0, 0, 0, 0, 0, 0, 0, 0, 0, 15, 0, 0, 0], wS, by refine ⟨?_, ?_, ?_⟩ <;> first | decide | rfl | decide +kernel⟩,
   ⟨0, 0, 0, 0xFF, [0xFE, 3, 1, 0, 0, 0, 0, 0, 1, 0, 0, 0, 47, 0, 0, 0], sentCmd (wS) 0x0101 0 0 0 0xFF [0xFE, 3, 1, 0, 0, 0, 0, 0, 1, 0, 0, 0, 47, 0, 0, 0], wS, rADDR_RANGE, by refine ⟨?_, ?_, ?_⟩ <;> first | decide | rfl | decide +kernel⟩,
   ⟨0, 0, [], wRun 0x0101 [0xFE, 3, 1, 0, 0, 0, 0, 0, 0, 0, 0, 0, 15, 0, 0, 0], wRunning 0x0101 [0xFE, 3, 1, 0, 0, 0, 0, 0, 0, 0, 0, 0, 15, 0, 0, 0], by refine ⟨?_, ?_, ?_, ?_⟩ <;> first | decide | rfl | decide +kernel⟩,
   ⟨0, 0, [], wRun 0x0101 [3, 0xFE, 1, 0, 0, 0, 0, 0, 0, 0, 0, 0, 15, 0, 0, 0], (wRunning 0x0101 [3, 0xFE, 1, 0, 0, 0, 0, 0, 0, 0, 0, 0, 15, 0, 0, 0]).setHalf 15 { HalfCell.init with owner := some 3, req := some 0 }, by refine ⟨?_, ?_⟩ <;> first | decide | rfl | decide +kernel⟩,
   ⟨0, 0, 3, wS.setWing 3 { Wing.init with state := .draining }, by first | decide | rfl | decide +kernel⟩,
   ⟨0, 0, wRun 0x0101 [3, 0xFE, 1, 0, 0, 0, 0, 0, 0, 0, 0, 0, 15, 0, 0, 0], (wRunning 0x0101 [3, 0xFE, 1, 0, 0, 0, 0, 0, 0, 0, 0, 0, 15, 0, 0, 0]).setHalf 15 { HalfCell.init with owner := some 3, req := some 0 }, by refine ⟨?_, ?_⟩ <;> first | decide | rfl | decide +kernel⟩⟩

theorem test_met_StepsOfARebindingOnOneUnit :
  (∃ (h : Nat) (a : Nat) (s : State),
    (spBase h ≤ a) ∧ (a < spBase h + spSize)) ∧
  (∃ (h : Nat) (a : Nat) (s : State),
    a < spBase h ∨ spBase h + spSize ≤ a) ∧
  (∃ (w : WingIx) (i : Nat) (s : State),
    (i < 16) ∧ ((s.half i).scrubBad = false)) :=
  ⟨⟨15, 0x2FFFFFFF, wS, by refine ⟨?_, ?_⟩ <;> first | decide | rfl | decide +kernel⟩,
   ⟨1, 0x2FFFFFF, wS, by decide⟩,
   ⟨15, 15, wS, by refine ⟨?_, ?_⟩ <;> first | decide | rfl | decide +kernel⟩⟩

theorem test_met_OneCommandPerWindow :
  (∃ (fn : Fn) (hub : Hub) (s : State),
    (windowOpen s fn hub = true) ∧ ((s.mbox (mbxKey fn hub)).run ≠ none)) ∧
  (∃ (fn : Fn) (hub : Hub) (i : Nat) (v : W64) (s : State),
    (bar0Gate s fn (0x10000 + 0x8000 * hub.val + 0x1000 + i) false true = .pass) ∧ (portHeld s fn = false) ∧ (hubReach s hub = true) ∧ (i < 0x1000) ∧ ((s.mbox (mbxKey fn hub)).run ≠ none)) ∧
  (∃ (fn : Fn) (hub : Hub) (i : Nat) (s : State),
    (bar0Gate s fn (0x10000 + 0x8000 * hub.val + 0x2000 + i) false true = .pass) ∧ (hubReach s hub = true) ∧ (i < 0x1000) ∧ ((s.mbox (mbxKey fn hub)).run ≠ none)) :=
  ⟨⟨0, 0, wRunning 0x0101 [], by refine ⟨?_, ?_⟩ <;> first | decide | rfl | decide +kernel⟩,
   ⟨0, 0, 0xFFC, 0, wRunning 0x0101 [], by refine ⟨?_, ?_, ?_, ?_, ?_⟩ <;> first | decide | rfl | decide +kernel⟩,
   ⟨0, 0, 0xFFC, wRunning 0x0101 [], by refine ⟨?_, ?_, ?_, ?_⟩ <;> first | decide | rfl | decide +kernel⟩⟩

theorem test_met_AnAnswerTouchesOnlyItsMailbox :
  (∃ (c : Cmd) (code : Byte) (p : Bytes) (s : State),
    (c.op < 65536) ∧ (p.length ≤ 4064)) :=
  ⟨sentCmd wS 0xFFFF 255 1 0 0 [], 0xFF, List.replicate 4064 0, wS, by refine ⟨?_, ?_⟩ <;> first | decide | rfl | decide +kernel⟩

theorem test_met_MailboxGoRunsTheNamedRow :
  (∃ (op : Nat) (fn : Fn) (hub : Hub) (tag : W32) (wing : Byte) (p : Bytes) (i : Instr) (s : State),
    (p.length ≤ 4064) ∧ (headerIs s fn hub op tag wing p) ∧ (isScpRow op fn hub tag wing p i)) ∧
  (∃ (fn : Fn) (hub : Hub) (s : State),
    (windowOpen s fn hub = true) ∧ ((s.mbox (mbxKey fn hub)).run = none) ∧ (s.pcie.moving = false) ∧ ((s.hub hub).auth = .holder) ∧ (hubCurrent s hub = true) ∧ (headerIs s fn hub ((s.mbox (mbxKey fn hub)).cmd.le 0 2) (BitVec.ofNat 32 ((s.mbox (mbxKey fn hub)).cmd.le 4 4)) (BitVec.ofNat 8 ((s.mbox (mbxKey fn hub)).cmd.le 10 1)) ((s.mbox (mbxKey fn hub)).cmd.read 32 ((s.mbox (mbxKey fn hub)).cmd.le 8 2))) ∧ (scpRow ((s.mbox (mbxKey fn hub)).cmd.le 0 2) (s.fnSt fn).minor.toNat = none)) :=
  ⟨⟨1, 0, 0, 0, 0xFF, [1, 0, 2, 0], .hello 0 0 0 0xFF [1, 0, 2, 0], wS.setMbox 0 { Mbx.init with cmd := Mem.write [] 0 [1, 0, 1, 0, 0, 0, 0, 0, 4, 0, 0xFF, 0, 0, 0, 0, 0, 0, 0, 0, 0, 0, 0, 0, 0, 0, 0, 0, 0, 0, 0, 0, 0, 1, 0, 2, 0] }, by exact ⟨by decide, by decide, rfl⟩⟩,
   ⟨0, 0, wS.setMbox 0 { Mbx.init with cmd := Mem.write [] 0 [0, 0, 1] }, by refine ⟨?_, ?_, ?_, ?_, ?_, ?_, ?_⟩ <;> first | decide | rfl | decide +kernel⟩⟩

theorem test_met_SessionAndAuthorityCommands :
  (∃ (fn : Fn) (hub : Hub) (tag : W32) (wing : Byte) (p : Bytes) (c : Cmd) (s : State),
    (c = sentCmd s 0x0001 fn hub tag wing p) ∧ (accepts s c) ∧ (wing = 0xFF#8) ∧ (zeroAt p 3 1 = true) ∧ (leAt p 0 1 = 1) ∧ (leAt p 1 1 ≤ leAt p 2 1) ∧ (leAt p 1 1 ≤ 2)) ∧
  (∃ (fn : Fn) (hub : Hub) (tag : W32) (wing : Byte) (p : Bytes) (c : Cmd) (s : State),
    (c = sentCmd s 0x0002 fn hub tag wing p) ∧ (accepts s c) ∧ (wing = 0xFF#8)) ∧
  (∃ (fn : Fn) (hub : Hub) (tag : W32) (wing : Byte) (p : Bytes) (c : Cmd) (s : State) (s1 : State),
    (c = sentCmd s 0x0003 fn hub tag wing p) ∧ (accepts s c) ∧ (wing = 0xFF#8) ∧ (hubCut s (otherHub hub) = false) ∧ ((s.hub (otherHub hub)).auth ≠ .failed) ∧ ((s.hub (otherHub hub)).auth ≠ .booting) ∧ (s.plinth.holder = hub) ∧ (s.plinth.term = (s.hub hub).authTerm) ∧ (plinthClaim s (otherHub hub) = some s1)) ∧
  (∃ (fn : Fn) (hub : Hub) (r : Run) (s : State),
    (s.mbox (mbxKey fn hub)).run = some r) :=
  ⟨⟨0, 0, 0, 0xFF, [1, 0, 9, 0], sentCmd (wS) 0x0001 0 0 0 0xFF [1, 0, 9, 0], wS, by refine ⟨?_, ?_, ?_, ?_, ?_, ?_, ?_⟩ <;> first | decide | rfl | decide +kernel⟩,
   ⟨0, 1, 0, 0xFF, [], sentCmd wS 0x0002 0 1 0 0xFF [], wS, by refine ⟨?_, ?_, ?_⟩ <;> first | decide | rfl | decide +kernel⟩,
   ⟨0, 0, 0, 0xFF, [], sentCmd wS 0x0003 0 0 0 0xFF [], wS, (plinthClaim wS 1).getD wS, by refine ⟨?_, ?_, ?_, ?_, ?_, ?_, ?_, ?_, ?_⟩ <;> first | decide | rfl | decide +kernel⟩,
   ⟨0, 0, wRun 0x0101 [], wRunning 0x0101 [], by first | decide | rfl | decide +kernel⟩⟩

theorem test_met_HubAuthorityFollowsItsTable :
  (∃ (hub : Hub) (s : State),
    ((s.hub hub).auth = .holder) ∧ (s.plinth.holder = hub) ∧ (s.plinth.term = (s.hub hub).authTerm) ∧ (s.hubLinkUp = true)) ∧
  (∃ (hub : Hub) (ok : Bool) (s : State),
    ((s.hub hub).auth = .holder) ∧ (ok = false ∨ s.plinth.holder ≠ hub ∨ s.plinth.term ≠ (s.hub hub).authTerm)) ∧
  (∃ (hub : Hub) (term : W32) (s : State),
    ((s.hub hub).auth = .shadow ∨ (s.hub hub).auth = .suspect ∨ (s.hub hub).auth = .isolated) ∧ (term = s.plinth.term)) ∧
  (∃ (hub : Hub) (s : State),
    ((s.hub hub).auth = .shadow) ∧ ((s.hub hub).slots < 4)) ∧
  (∃ (hub : Hub) (s : State),
    ((s.hub hub).auth = .shadow) ∧ (4 ≤ (s.hub hub).slots)) ∧
  (∃ (hub : Hub) (s : State),
    ((s.hub hub).auth = .suspect) ∧ ((s.hub hub).beatRead ≠ some s.plinth.beat)) ∧
  (∃ (hub : Hub) (s : State),
    ((s.hub hub).auth = .suspect) ∧ ((s.hub hub).beatRead = some s.plinth.beat) ∧ (s.plinth.holder = (s.hub hub).authHolder) ∧ (s.plinth.term = (s.hub hub).authTerm) ∧ (s.plinth.term ≠ 0xFFFFFFFF)) ∧
  (∃ (hub : Hub) (s : State),
    ((s.hub hub).auth = .suspect) ∧ ((s.hub hub).beatRead = some s.plinth.beat) ∧ (s.plinth.holder ≠ (s.hub hub).authHolder ∨ s.plinth.term ≠ (s.hub hub).authTerm)) ∧
  (∃ (hub : Hub) (s : State),
    (s.hub hub).auth = .suspect ∨ (s.hub hub).auth = .isolated) ∧
  (∃ (hub : Hub) (term : W32) (s : State),
    ((s.hub hub).auth = .holder) ∧ ((s.hub hub).authTerm < term)) ∧
  (∃ (hub : Hub) (s : State),
    (s.hub hub).auth = .fencing) ∧
  (∃ (hub : Hub) (s : State),
    (s.hub hub).auth = .booting ∨ (s.hub hub).auth = .failed) ∧
  (∃ (s : State),
    (s.holderHub = none) ∧ (s.noAuthority = false)) ∧
  (∃ (port : Fin 62) (hub : Hub) (s : State),
    claimingHub s = some hub) ∧
  (∃ (port : Fin 62) (hub : Hub) (s : State),
    (claimingHub s = some hub) ∧ ((s.port port).acked = false) ∧ ((s.port port).unreachable = false) ∧ (portDie port < 8)) ∧
  (∃ (hub : Hub) (s : State),
    ((s.hub hub).auth = .claiming) ∧ ((s.hub hub).rebuilding = true)) :=
  ⟨⟨0, wS, by refine ⟨?_, ?_, ?_, ?_⟩ <;> first | decide | rfl | decide +kernel⟩,
   ⟨0, false, wS, by refine ⟨?_, ?_⟩ <;> first | decide | rfl | decide +kernel⟩,
   ⟨1, 1, wS, by refine ⟨?_, ?_⟩ <;> first | decide | rfl | decide +kernel⟩,
   ⟨1, wS, by refine ⟨?_, ?_⟩ <;> first | decide | rfl | decide +kernel⟩,
   ⟨1, wS.setHub 1 { HubSt.init with auth := .shadow, slots := 4 }, by refine ⟨?_, ?_⟩ <;> first | decide | rfl | decide +kernel⟩,
   ⟨1, wS.setHub 1 { HubSt.init with auth := .suspect, beatRead := some 9 }, by refine ⟨?_, ?_⟩ <;> first | decide | rfl | decide +kernel⟩,
   ⟨1, wS.setHub 1 { HubSt.init with auth := .suspect, beatRead := some 0, authTerm := 1 }, by refine ⟨?_, ?_, ?_, ?_, ?_⟩ <;> first | decide | rfl | decide +kernel⟩,
   ⟨1, wS.setHub 1 { HubSt.init with auth := .suspect, beatRead := some 0, authTerm := 0 }, by refine ⟨?_, ?_, ?_⟩ <;> first | decide | rfl | decide +kernel⟩,
   ⟨1, wS.setHub 1 { HubSt.init with auth := .isolated }, by decide⟩,
   ⟨0, 2, wS, by refine ⟨?_, ?_⟩ <;> first | decide | rfl | decide +kernel⟩,
   ⟨0, wS.setHub 0 { HubSt.init with auth := .fencing }, by decide⟩,
   ⟨0, wS.setHub 0 { HubSt.init with auth := .failed }, by decide⟩,
   ⟨wS.setHub 0 { HubSt.init with auth := .fencing }, by refine ⟨?_, ?_⟩ <;> first | decide | rfl | decide +kernel⟩,
   ⟨61, 1, wS.setHub 1 { HubSt.init with auth := .claiming }, by decide⟩,
   ⟨0, 1, wS.setHub 1 { HubSt.init with auth := .claiming }, by refine ⟨?_, ?_, ?_, ?_⟩ <;> first | decide | rfl | decide +kernel⟩,
   ⟨1, wS.setHub 1 { HubSt.init with auth := .claiming, rebuilding := true }, by refine ⟨?_, ?_⟩ <;> first | decide | rfl | decide +kernel⟩⟩

theorem test_met_QueueStatesAndDoorbells :
  (∃ (fn : Fn) (q : Nat) (s : State),
    (regOpen s fn = true) ∧ (queSlot s fn (s.fnSt fn).queSel.toNat = .ok q) ∧ ((s.que q).state = .disabled) ∧ ((s.que q).evaluating = false) ∧ (canLog s fn)) ∧
  (∃ (que : QueIx) (xlat : Bool) (n : Nat) (code : Byte) (s : State),
    ((s.que que).evaluating = true) ∧ (queChecks s (s.que que) xlat = some (n, code))) ∧
  (∃ (que : QueIx) (xlat : Bool) (s : State),
    ((s.que que).evaluating = true) ∧ (queChecks s (s.que que) xlat = none)) ∧
  (∃ (fn : Fn) (q : Nat) (s : State),
    (regOpen s fn = true) ∧ (queSlot s fn (s.fnSt fn).queSel.toNat = .ok q) ∧ ((s.que q).evaluating = false) ∧ ((s.que q).state = .enabled ∨ (s.que q).state = .halted)) ∧
  (∃ (fn : Fn) (q : Nat) (s : State),
    (regOpen s fn = true) ∧ (queSlot s fn (s.fnSt fn).queSel.toNat = .ok q) ∧ ((s.que q).evaluating = false) ∧ ((s.que q).state = .error)) ∧
  (∃ (que : QueIx) (s : State),
    ((s.que que).state = .draining) ∧ ((s.que que).fetched = 0)) ∧
  (∃ (fn : Fn) (q : Nat) (w : WingIx) (s : State),
    (regOpen s fn = true) ∧ (queSlot s fn (s.fnSt fn).queSel.toNat = .ok q) ∧ ((s.que q).state = .halted) ∧ ((s.que q).owner = some w)) ∧
  (∃ (fn : Fn) (slot : QueIx) (q : Nat) (tail : W16) (s : State),
    (regOpen s fn = true) ∧ (queSlot s fn slot = .ok q) ∧ ((s.que q).state = .enabled) ∧ (qNet (s.que q).run = false) ∧ (tail.toNat < 2 ^ qSqLog (s.que q).run)) ∧
  (∃ (fn : Fn) (slot : QueIx) (q : Nat) (tail : W16) (s : State),
    (regOpen s fn = true) ∧ (queSlot s fn slot = .ok q) ∧ ((s.que q).state = .enabled) ∧ (qNet (s.que q).run = false) ∧ (2 ^ qSqLog (s.que q).run ≤ tail.toNat)) ∧
  (∃ (fn : Fn) (slot : QueIx) (q : Nat) (tail : W16) (s : State),
    (regOpen s fn = true) ∧ (queSlot s fn slot = .ok q) ∧ ((s.que q).state = .disabled ∨ (s.que q).state = .error) ∧ (qNet (queNow (s.que q)) = false)) ∧
  (∃ (fn : Fn) (slot : QueIx) (q : Nat) (tail : W16) (s : State),
    (regOpen s fn = true) ∧ (queSlot s fn slot = .ok q) ∧ (qNet (queNow (s.que q)) = true)) ∧
  (∃ (fn : Fn) (slot : QueIx) (q : Nat) (head : W16) (s : State),
    (regOpen s fn = true) ∧ (queSlot s fn slot = .ok q) ∧ ((s.que q).state ≠ .disabled) ∧ (qMode (s.que q).run ≠ 1)) ∧
  (∃ (fn : Fn) (slot : QueIx) (q : Nat) (head : W16) (s : State),
    (regOpen s fn = true) ∧ (queSlot s fn slot = .ok q) ∧ ((s.que q).state ≠ .disabled) ∧ (qMode (s.que q).run = 1)) ∧
  (∃ (fn : Fn) (slot : QueIx) (q : Nat) (s : State),
    (regOpen s fn = true) ∧ (queSlot s fn slot = .ok q)) ∧
  (∃ (fn : Fn) (slot : QueIx) (tail : W16) (w : Option Nat) (s : State),
    (regOpen s fn = true) ∧ (queSlot s fn slot = .error w)) ∧
  (∃ (fn : Fn) (slot : QueIx) (w : Option Nat) (s : State),
    (regOpen s fn = true) ∧ (queSlot s fn slot = .error w)) :=
  ⟨⟨0, 0, wS, by refine ⟨?_, ?_, ?_, ?_, ?_⟩ <;> first | decide | rfl | decide +kernel⟩,
   ⟨9, true, 1, rRESERVED_VALUE, wQue { Que.init with evaluating := true }, by refine ⟨?_, ?_⟩ <;> first | decide | rfl | decide +kernel⟩,
   ⟨9, true, wQue { Que.init with evaluating := true, run := { QueRegs.init with cfg := 0x21000000 } }, by refine ⟨?_, ?_⟩ <;> first | decide | rfl | decide +kernel⟩,
   ⟨0, 0, wS.setQue 0 { Que.init with state := .halted }, by refine ⟨?_, ?_, ?_, ?_⟩ <;> first | decide | rfl | decide +kernel⟩,
   ⟨0, 0, wS.setQue 0 { Que.init with state := .error }, by refine ⟨?_, ?_, ?_, ?_⟩ <;> first | decide | rfl | decide +kernel⟩,
   ⟨0, wS.setQue 0 { Que.init with state := .draining }, by refine ⟨?_, ?_⟩ <;> first | decide | rfl | decide +kernel⟩,
   ⟨0, 0, 3, wS.setQue 0 { Que.init with state := .halted, owner := some 3 }, by refine ⟨?_, ?_, ?_, ?_⟩ <;> first | decide | rfl | decide +kernel⟩,
   ⟨0, 9, 9, 15, wQue { Que.init with state := .enabled, run := { QueRegs.init with cfg := 0x20000000 } }, by refine ⟨?_, ?_, ?_, ?_, ?_⟩ <;> first | decide | rfl | decide +kernel⟩,
   ⟨0, 9, 9, 16, wQue { Que.init with state := .enabled, run := { QueRegs.init with cfg := 0x20000000 } }, by refine ⟨?_, ?_, ?_, ?_, ?_⟩ <;> first | decide | rfl | decide +kernel⟩,
   ⟨0, 4095, 4095, 15, wS, by refine ⟨?_, ?_, ?_, ?_⟩ <;> first | decide | rfl | decide +kernel⟩,
   ⟨0, 9, 9, 0, wNetQ .enabled, by refine ⟨?_, ?_, ?_⟩ <;> first | decide | rfl | decide +kernel⟩,
   ⟨0, 9, 9, 15, wQue { Que.init with state := .enabled, run := { QueRegs.init with cfg := 0x20000000 } }, by refine ⟨?_, ?_, ?_, ?_⟩ <;> first | decide | rfl | decide +kernel⟩,
   ⟨0, 9, 9, 15, wQue { Que.init with state := .enabled, run := { QueRegs.init with cfg := 0x20004000 } }, by refine ⟨?_, ?_, ?_, ?_⟩ <;> first | decide | rfl | decide +kernel⟩,
   ⟨0, 4095, 4095, wS, by refine ⟨?_, ?_⟩ <;> first | decide | rfl | decide +kernel⟩,
   ⟨0, 9, 0, some 3, (wQue Que.init).setWing 3 { Wing.init with tenant := true }, by refine ⟨?_, ?_⟩ <;> first | decide | rfl | decide +kernel⟩,
   ⟨0, 9, some 3, (wQue Que.init).setWing 3 { Wing.init with tenant := true }, by refine ⟨?_, ?_⟩ <;> first | decide | rfl | decide +kernel⟩⟩

theorem test_met_EntriesAreFetchedAndDecided :
  (∃ (que : QueIx) (w : WingIx) (e : Bytes) (hm : HostMem) (s : State),
    ((s.que que).owner = some w) ∧ (takesEntries s que = true) ∧ (qNet (s.que que).run = false) ∧ ((s.que que).sqHead ≠ (s.que que).tail) ∧ (peerBlocked s w ((s.que que).run.sqBase.toNat + 64 * (s.que que).sqHead.toNat) = false)) ∧
  (∃ (req : Nat) (hm : HostMem) (r : Req) (x0 : Scan) (i : Image) (s : State),
    (s.findReq req = some r) ∧ (r.phase = .validating) ∧ (fetchPaused s = false) ∧ (x0 = scan s r.wing (.image req) hm r.program.toNat 64) ∧ (x0.missing = false ∧ x0.stale = false ∧ x0.absent = [] ∧ x0.waits = false ∧ x0.ue = false) ∧ (storedImage x0.s r.wing r.program (phImage x0.data) = some i)) ∧
  (∃ (req : Nat) (hm : HostMem) (r : Req) (x0 x1 x2 : Scan) (s : State),
    (s.findReq req = some r) ∧ (r.phase = .validating) ∧ (fetchPaused s = false) ∧ (x0 = scan s r.wing (.image req) hm r.program.toNat 64) ∧ (x0.missing = false ∧ x0.stale = false ∧ x0.absent = [] ∧ x0.waits = false ∧ x0.ue = false) ∧ (storedImage x0.s r.wing r.program (phImage x0.data) = none) ∧ (x1 = scan x0.s r.wing (.image req) hm r.program.toNat (64 + 8 * phCode x0.data + 8 * phConst x0.data)) ∧ (x2 = scan x1.s r.wing (.image req) hm (phSched x0.data) (32 * phPoints x0.data)) ∧ ((x1.and x2).missing = false ∧ (x1.and x2).stale = false ∧ (x1.and x2).absent = [] ∧
      (x1.and x2).waits = false ∧ (x1.and x2).ue = false)) ∧
  (∃ (r0 : Req) (i : Image) (s : State),
    (s.findReq r0.id = some r0) ∧ (phHalf i.header ≤ (capableHalves (takeLive s r0.wing) r0.wing (phReduced i.header)).length) ∧ (r0.cat = none) ∧ (r0.cls = 0)) ∧
  (∃ (req : Nat) (r : Req) (s : State),
    (s.findReq req = some r) ∧ (r.waitsFence = true) ∧ (r.timeoutUs ≠ 0)) :=
  ⟨⟨9, 3, [], [], wQue { Que.init with state := .enabled, tail := 1, run := { QueRegs.init with cfg := 0x20000000, sqBase := 0x100000 } }, by refine ⟨?_, ?_, ?_, ?_, ?_⟩ <;> first | decide | rfl | decide +kernel⟩,
   ⟨0, wHm, wReqV, scan wVal 3 (.image 0) wHm 0 64, { wImage with imageId := 0, header := List.replicate 64 0 }, wVal, by refine ⟨?_, ?_, ?_, ?_, ?_, ?_⟩ <;> first | decide | rfl | decide +kernel⟩,
   ⟨0, [], wReqV, scan wVal0 3 (.image 0) [] 0 64, scan (scan wVal0 3 (.image 0) [] 0 64).s 3 (.image 0) [] 0 64, scan (scan (scan wVal0 3 (.image 0) [] 0 64).s 3 (.image 0) [] 0 64).s 3 (.image 0) [] 0 0, wVal0, by refine ⟨?_, ?_, ?_, ?_, ?_, ?_, ?_, ?_, ?_⟩ <;> first | decide | rfl | decide +kernel⟩,
   ⟨wReqV, wImage, wVal, by refine ⟨?_, ?_, ?_, ?_⟩ <;> first | decide | rfl | decide +kernel⟩,
   ⟨0, { wReq0 with kind := .fence, timeoutUs := 1 }, { wS with reqs := [{ wReq0 with kind := .fence, timeoutUs := 1 }] }, by refine ⟨?_, ?_, ?_⟩ <;> first | decide | rfl | decide +kernel⟩⟩

theorem test_met_RequestsAreDispatchedAndEnd :
  (∃ (wing : WingIx) (r : Req) (rest : List Req) (want : List Nat) (s : State),
    (dispatches s = true) ∧ (holderStale s = none) ∧ (wingHeads (lapse s wing) wing = r :: rest) ∧ (inflight (lapse s wing) r.que < qMaxInflight ((lapse s wing).que r.que).run) ∧ (r.reserved = []) ∧ (r.needHalf ≤ (capableHalves (lapse s wing) wing r.reduced).length) ∧ (want = ((((capableHalves (lapse s wing) wing r.reduced).filter fun h => halfFree (lapse s wing) h).filter fun h => !((((lapse s wing).reqs.filter fun x => x.wing.val == wing.val && decide (x.phase = .admitted) && x.id != r.id).flatMap fun x => x.reserved.map (·.val)).contains h)).take r.needHalf)) ∧ (want.length = r.needHalf)) ∧
  (∃ (wing : WingIx) (hub : Nat) (s : State),
    (dispatches s = true) ∧ (holderStale s = some hub)) ∧
  (∃ (r : Req) (hs : List Nat) (i : Image) (s : State),
    (s.findReq r.id = some r) ∧ (storedImage s r.wing r.program r.imageId = some i) ∧ (portsAccept s (s.holderHub.getD 0) (dispatchDies hs) = true)) ∧
  (∃ (req : Nat) (r : Req) (s : State),
    (s.findReq req = some r) ∧ (r.phase = .running) ∧ (r.ended = true) ∧ (s.launches.any (fun l => l.req == req) = false) ∧ (s.lineWaits = [])) :=
  ⟨⟨3, wReqA, [], [15], wDisp, by refine ⟨?_, ?_, ?_, ?_, ?_, ?_, ?_, ?_⟩ <;> first | decide | rfl | decide +kernel⟩,
   ⟨3, 0, wDisp.setPort 45 { Port.init with term := 9 }, by refine ⟨?_, ?_⟩ <;> first | decide | rfl | decide +kernel⟩,
   ⟨wReqA, [15], wImage, wDisp, by refine ⟨?_, ?_, ?_⟩ <;> first | decide | rfl | decide +kernel⟩,
   ⟨0, { wReq0 with phase := .running, ended := true }, { wS with reqs := [{ wReq0 with phase := .running, ended := true }] }, by refine ⟨?_, ?_, ?_, ?_, ?_⟩ <;> first | decide | rfl | decide +kernel⟩⟩

theorem test_met_CompletionsBecomeVisibleInOrder :
  (∃ (que : QueIx) (w : WingIx) (r : Req) (s : State),
    ((queReqs s que).head? = some r) ∧ ((s.que que).owner = some w) ∧ (r.isDone = true) ∧ (r.behind = none) ∧ (heldFull s = false) ∧ (hostFnIssues s w = true) ∧ (s.holderHub ≠ none) ∧ (holderStale s = none) ∧ ((hostReady s w (.queue que) ((s.que que).run.cqBase.toNat + 64 * (s.que que).cqTail.toNat) 32).1 = true) ∧ (s.dups.any (fun d => d.req == r.id) = false) ∧ (qMode (s.que que).run ≠ 1) ∧ (((s.que que).cqTail.toNat + 1) % 2 ^ qCqLog (s.que que).run ≠ (s.que que).cqHead.toNat % 2 ^ qCqLog (s.que que).run)) ∧
  (∃ (que : QueIx) (w : WingIx) (r : Req) (s : State),
    ((queReqs s que).head? = some r) ∧ ((s.que que).owner = some w) ∧ (r.isDone = true) ∧ (r.behind = none) ∧ (heldFull s = false) ∧ (hostFnIssues s w = true) ∧ (s.holderHub ≠ none) ∧ (holderStale s = none) ∧ ((hostReady s w (.queue que) (s.que que).run.cqBase.toNat 32).1 = true) ∧ (s.dups.any (fun d => d.req == r.id) = false) ∧ (qMode (s.que que).run = 1) ∧ (r.result = rOK)) ∧
  (∃ (que : QueIx) (s : State),
    ∃ r, (queReqs s que).head? = some r ∧ r.isDone = false) ∧
  (∃ (que : QueIx) (w : Nat) (s : State),
    (wingOfQ (s.que que) = some w) ∧ ((s.que que).unsig ≠ 0) ∧ (fld (s.que que).run.coalesce.toNat 16 16 ≠ 0)) ∧
  (∃ (que : QueIx) (w : Nat) (f : Fn) (s : State),
    hostFnOf s w = some f) ∧
  (∃ (que : QueIx) (hm : HostMem) (f : FlowIx) (slot : Nat) (cqe : Bytes) (rest : List (FlowIx × Nat × Bytes)) (w : WingIx) (b : Bytes) (s s1 : State),
    ((s.que que).awaitRead = (f, slot, cqe) :: rest) ∧ ((s.flow f).owner = some w) ∧ ((s.flow f).state = .rts) ∧ (stillHeld s cqe = false) ∧ (replyRead s w f slot hm = (some b, s1))) :=
  ⟨⟨9, 3, wReqD, wDone { Que.init with state := .enabled, run := { QueRegs.init with cfg := 0x21000000 } }, by refine ⟨?_, ?_, ?_, ?_, ?_, ?_, ?_, ?_, ?_, ?_, ?_, ?_⟩ <;> first | decide | rfl | decide +kernel⟩,
   ⟨9, 3, wReqD, wDone { Que.init with state := .enabled, run := { QueRegs.init with cfg := 0x21004000 } }, by refine ⟨?_, ?_, ?_, ?_, ?_, ?_, ?_, ?_, ?_, ?_, ?_, ?_⟩ <;> first | decide | rfl | decide +kernel⟩,
   ⟨9, wReq (wQue Que.init), by exact ⟨wReq0, by decide⟩⟩,
   ⟨9, 3, wQue { Que.init with unsig := 1, run := { QueRegs.init with coalesce := 0x00010000 } }, by refine ⟨?_, ?_, ?_⟩ <;> first | decide | rfl | decide +kernel⟩,
   ⟨9, 3, 0, wS, by first | decide | rfl | decide +kernel⟩,
   ⟨9, [], 0, 0, [], [], 3, [], (wQue { Que.init with awaitRead := [(0, 0, [])] }).setFlow 0 { Flow.init with owner := some 3, state := .rts }, (replyRead ((wQue { Que.init with awaitRead := [(0, 0, [])] }).setFlow 0 { Flow.init with owner := some 3, state := .rts }) 3 0 0 []).2, by refine ⟨?_, ?_, ?_, ?_, ?_⟩ <;> first | decide | rfl | decide +kernel⟩⟩

theorem test_met_ArithmeticWritesOneRegister :
  (∃ (doc : DocIx) (rd ra rb : R5) (s : State),
    (ozReady s (.ozAdd doc rd ra rb) doc = true) ∧ (wordOk s doc ((s.doc doc).pc + 1))) ∧
  (∃ (doc : DocIx) (rd ra rb : R5) (s : State),
    (ozReady s (.ozSub doc rd ra rb) doc = true) ∧ (wordOk s doc ((s.doc doc).pc + 1))) ∧
  (∃ (doc : DocIx) (rd ra rb : R5) (s : State),
    (ozReady s (.ozAnd doc rd ra rb) doc = true) ∧ (wordOk s doc ((s.doc doc).pc + 1))) ∧
  (∃ (doc : DocIx) (rd ra rb : R5) (s : State),
    (ozReady s (.ozOr doc rd ra rb) doc = true) ∧ (wordOk s doc ((s.doc doc).pc + 1))) ∧
  (∃ (doc : DocIx) (rd ra rb : R5) (s : State),
    (ozReady s (.ozXor doc rd ra rb) doc = true) ∧ (wordOk s doc ((s.doc doc).pc + 1))) ∧
  (∃ (doc : DocIx) (rd ra rb : R5) (s : State),
    (ozReady s (.ozShl doc rd ra rb) doc = true) ∧ (wordOk s doc ((s.doc doc).pc + 1))) ∧
  (∃ (doc : DocIx) (rd ra rb : R5) (s : State),
    (ozReady s (.ozShr doc rd ra rb) doc = true) ∧ (wordOk s doc ((s.doc doc).pc + 1))) ∧
  (∃ (doc : DocIx) (rd ra rb : R5) (s : State),
    (ozReady s (.ozSar doc rd ra rb) doc = true) ∧ (wordOk s doc ((s.doc doc).pc + 1))) ∧
  (∃ (doc : DocIx) (rd ra rb : R5) (s : State),
    (ozReady s (.ozMul doc rd ra rb) doc = true) ∧ (wordOk s doc ((s.doc doc).pc + 1))) ∧
  (∃ (doc : DocIx) (rd ra rb : R5) (s : State),
    (ozReady s (.ozMinu doc rd ra rb) doc = true) ∧ (wordOk s doc ((s.doc doc).pc + 1))) ∧
  (∃ (doc : DocIx) (rd ra rb : R5) (s : State),
    (ozReady s (.ozMaxu doc rd ra rb) doc = true) ∧ (wordOk s doc ((s.doc doc).pc + 1))) ∧
  (∃ (doc : DocIx) (rd ra rb : R5) (s : State),
    (ozReady s (.ozSltu doc rd ra rb) doc = true) ∧ (wordOk s doc ((s.doc doc).pc + 1))) ∧
  (∃ (doc : DocIx) (rd ra rb : R5) (s : State),
    (ozReady s (.ozSlt doc rd ra rb) doc = true) ∧ (wordOk s doc ((s.doc doc).pc + 1))) :=
  ⟨⟨38, 31, 1, 2, (wDoc 0x10F8440000000000#64), by refine ⟨?_, ?_⟩ <;> first | decide | rfl | decide +kernel⟩,
   ⟨38, 31, 1, 2, (wDoc 0x11F8440000000000#64), by refine ⟨?_, ?_⟩ <;> first | decide | rfl | decide +kernel⟩,
   ⟨38, 31, 1, 2, (wDoc 0x12F8440000000000#64), by refine ⟨?_, ?_⟩ <;> first | decide | rfl | decide +kernel⟩,
   ⟨38, 31, 1, 2, (wDoc 0x13F8440000000000#64), by refine ⟨?_, ?_⟩ <;> first | decide | rfl | decide +kernel⟩,
   ⟨38, 31, 1, 2, (wDoc 0x14F8440000000000#64), by refine ⟨?_, ?_⟩ <;> first | decide | rfl | decide +kernel⟩,
   ⟨38, 31, 1, 2, (wDoc 0x15F8440000000000#64), by refine ⟨?_, ?_⟩ <;> first | decide | rfl | decide +kernel⟩,
   ⟨38, 31, 1, 2, (wDoc 0x16F8440000000000#64), by refine ⟨?_, ?_⟩ <;> first | decide | rfl | decide +kernel⟩,
   ⟨38, 31, 1, 2, (wDoc 0x17F8440000000000#64), by refine ⟨?_, ?_⟩ <;> first | decide | rfl | decide +kernel⟩,
   ⟨38, 31, 1, 2, (wDoc 0x18F8440000000000#64), by refine ⟨?_, ?_⟩ <;> first | decide | rfl | decide +kernel⟩,
   ⟨38, 31, 1, 2, (wDoc 0x19F8440000000000#64), by refine ⟨?_, ?_⟩ <;> first | decide | rfl | decide +kernel⟩,
   ⟨38, 31, 1, 2, (wDoc 0x1AF8440000000000#64), by refine ⟨?_, ?_⟩ <;> first | decide | rfl | decide +kernel⟩,
   ⟨38, 31, 1, 2, (wDoc 0x1BF8440000000000#64), by refine ⟨?_, ?_⟩ <;> first | decide | rfl | decide +kernel⟩,
   ⟨38, 31, 1, 2, (wDoc 0x1CF8440000000000#64), by refine ⟨?_, ?_⟩ <;> first | decide | rfl | decide +kernel⟩⟩

theorem test_met_ImmediatesWriteOneRegister :
  (∃ (doc : DocIx) (rd ra : R5) (imm : W32) (s : State),
    (ozReady s (.ozAddi doc rd ra imm) doc = true) ∧ (wordOk s doc ((s.doc doc).pc + 1))) ∧
  (∃ (doc : DocIx) (rd ra : R5) (imm : W32) (s : State),
    (ozReady s (.ozAndi doc rd ra imm) doc = true) ∧ (wordOk s doc ((s.doc doc).pc + 1))) ∧
  (∃ (doc : DocIx) (rd ra : R5) (imm : W32) (s : State),
    (ozReady s (.ozOri doc rd ra imm) doc = true) ∧ (wordOk s doc ((s.doc doc).pc + 1))) ∧
  (∃ (doc : DocIx) (rd ra : R5) (imm : W32) (s : State),
    (ozReady s (.ozXori doc rd ra imm) doc = true) ∧ (wordOk s doc ((s.doc doc).pc + 1))) ∧
  (∃ (doc : DocIx) (rd ra : R5) (imm : W32) (s : State),
    (ozReady s (.ozMovhi doc rd ra imm) doc = true) ∧ (wordOk s doc ((s.doc doc).pc + 1))) ∧
  (∃ (doc : DocIx) (rd ra : R5) (sh : BitVec 6) (s : State),
    (ozReady s (.ozShli doc rd ra sh) doc = true) ∧ (wordOk s doc ((s.doc doc).pc + 1))) ∧
  (∃ (doc : DocIx) (rd ra : R5) (sh : BitVec 6) (s : State),
    (ozReady s (.ozShri doc rd ra sh) doc = true) ∧ (wordOk s doc ((s.doc doc).pc + 1))) ∧
  (∃ (doc : DocIx) (rd ra : R5) (sh : BitVec 6) (s : State),
    (ozReady s (.ozSari doc rd ra sh) doc = true) ∧ (wordOk s doc ((s.doc doc).pc + 1))) ∧
  (∃ (doc : DocIx) (rd : R5) (imm : W32) (s : State),
    (ozReady s (.ozMovi doc rd imm) doc = true) ∧ (wordOk s doc ((s.doc doc).pc + 1))) ∧
  (∃ (doc : DocIx) (rd : R5) (sel : BitVec 4) (s : State),
    (ozReady s (.ozRdsr doc rd sel) doc = true) ∧ (wordOk s doc ((s.doc doc).pc + 1))) ∧
  (∃ (d : Nat) (r : Req) (s : State),
    docReq s d = some r) ∧
  (∃ (doc : DocIx) (s : State),
    (ozReady s (.ozNop doc) doc = true) ∧ (wordOk s doc ((s.doc doc).pc + 1))) ∧
  (∃ (doc : DocIx) (p : BitVec 3) (s : State),
    (ozReady s (.ozPrio doc p) doc = true) ∧ (wordOk s doc ((s.doc doc).pc + 1))) :=
  ⟨⟨38, 5, 2, 0xFFFFFFFF, (wDoc 0x20288000FFFFFFFF#64), by refine ⟨?_, ?_⟩ <;> first | decide | rfl | decide +kernel⟩,
   ⟨38, 5, 2, 0xFFFFFFFF, (wDoc 0x22288000FFFFFFFF#64), by refine ⟨?_, ?_⟩ <;> first | decide | rfl | decide +kernel⟩,
   ⟨38, 5, 2, 0xFFFFFFFF, (wDoc 0x23288000FFFFFFFF#64), by refine ⟨?_, ?_⟩ <;> first | decide | rfl | decide +kernel⟩,
   ⟨38, 5, 2, 0xFFFFFFFF, (wDoc 0x24288000FFFFFFFF#64), by refine ⟨?_, ?_⟩ <;> first | decide | rfl | decide +kernel⟩,
   ⟨38, 5, 2, 0xFFFFFFFF, (wDoc 0x28288000FFFFFFFF#64), by refine ⟨?_, ?_⟩ <;> first | decide | rfl | decide +kernel⟩,
   ⟨38, 5, 2, 63, (wDoc 0x252880000000003F#64), by refine ⟨?_, ?_⟩ <;> first | decide | rfl | decide +kernel⟩,
   ⟨38, 5, 2, 63, (wDoc 0x262880000000003F#64), by refine ⟨?_, ?_⟩ <;> first | decide | rfl | decide +kernel⟩,
   ⟨38, 5, 2, 63, (wDoc 0x272880000000003F#64), by refine ⟨?_, ?_⟩ <;> first | decide | rfl | decide +kernel⟩,
   ⟨38, 0, 0x80000000, (wDoc 0x2900000080000000#64), by refine ⟨?_, ?_⟩ <;> first | decide | rfl | decide +kernel⟩,
   ⟨38, 7, 10, (wDoc 0x443800000000000A#64), by refine ⟨?_, ?_⟩ <;> first | decide | rfl | decide +kernel⟩,
   ⟨38, wReqS, wDoc 0, by decide⟩,
   ⟨0, (wDocAt 0 0x0100000000000000#64), by refine ⟨?_, ?_⟩ <;> first | decide | rfl | decide +kernel⟩,
   ⟨38, 7, (wDoc 0x0600000000000007#64), by refine ⟨?_, ?_⟩ <;> first | decide | rfl | decide +kernel⟩⟩

theorem test_met_BranchesChooseTheNextWord :
  (∃ (doc : DocIx) (ra rb : R5) (target : BitVec 14) (s : State),
    (ozReady s (.ozBeq doc ra rb target) doc = true) ∧ (wordOk s doc (if (s.doc doc).greg ra = (s.doc doc).greg rb then target.toNat else (s.doc doc).pc + 1))) ∧
  (∃ (doc : DocIx) (ra rb : R5) (target : BitVec 14) (s : State),
    (ozReady s (.ozBne doc ra rb target) doc = true) ∧ (wordOk s doc (if (s.doc doc).greg ra ≠ (s.doc doc).greg rb then target.toNat else (s.doc doc).pc + 1))) ∧
  (∃ (doc : DocIx) (ra rb : R5) (target : BitVec 14) (s : State),
    (ozReady s (.ozBltu doc ra rb target) doc = true) ∧ (wordOk s doc (if ((s.doc doc).greg ra).toNat < ((s.doc doc).greg rb).toNat then target.toNat else (s.doc doc).pc + 1))) ∧
  (∃ (doc : DocIx) (ra rb : R5) (target : BitVec 14) (s : State),
    (ozReady s (.ozBgeu doc ra rb target) doc = true) ∧ (wordOk s doc (if ((s.doc doc).greg rb).toNat ≤ ((s.doc doc).greg ra).toNat then target.toNat else (s.doc doc).pc + 1))) ∧
  (∃ (doc : DocIx) (ra rb : R5) (target : BitVec 14) (s : State),
    (ozReady s (.ozBlt doc ra rb target) doc = true) ∧ (wordOk s doc (if ((s.doc doc).greg ra).toInt < ((s.doc doc).greg rb).toInt then target.toNat else (s.doc doc).pc + 1))) ∧
  (∃ (doc : DocIx) (ra rb : R5) (target : BitVec 14) (s : State),
    (ozReady s (.ozBge doc ra rb target) doc = true) ∧ (wordOk s doc (if ((s.doc doc).greg rb).toInt ≤ ((s.doc doc).greg ra).toInt then target.toNat else (s.doc doc).pc + 1))) ∧
  (∃ (doc : DocIx) (target : BitVec 14) (s : State),
    (ozReady s (.ozJmp doc target) doc = true) ∧ (wordOk s doc target.toNat)) ∧
  (∃ (doc : DocIx) (ra : R5) (target : BitVec 14) (s : State),
    (ozReady s (.ozLoop doc ra target) doc = true) ∧ (wordOk s doc (if (s.doc doc).greg ra - 1 ≠ 0 then target.toNat else (s.doc doc).pc + 1))) ∧
  (∃ (doc : DocIx) (target : BitVec 14) (s : State),
    (ozReady s (.ozCall doc target) doc = true) ∧ ((s.doc doc).calls.length < 16) ∧ (wordOk s doc target.toNat)) ∧
  (∃ (doc : DocIx) (target : BitVec 14) (s : State),
    (ozReady s (.ozCall doc target) doc = true) ∧ (16 ≤ (s.doc doc).calls.length)) ∧
  (∃ (doc : DocIx) (i : Nat) (rest : List Nat) (s : State),
    (ozReady s (.ozRet doc) doc = true) ∧ ((s.doc doc).calls = i :: rest) ∧ (wordOk s doc i)) ∧
  (∃ (doc : DocIx) (s : State),
    (ozReady s (.ozRet doc) doc = true) ∧ ((s.doc doc).calls = [])) ∧
  (∃ (doc : DocIx) (ra : R5) (s : State),
    (ozReady s (.ozJr doc ra) doc = true) ∧ (((s.doc doc).greg ra).toNat < (s.doc doc).code.length) ∧ (wordOk s doc ((s.doc doc).greg ra).toNat)) ∧
  (∃ (doc : DocIx) (ra : R5) (s : State),
    (ozReady s (.ozJr doc ra) doc = true) ∧ ((s.doc doc).code.length ≤ ((s.doc doc).greg ra).toNat)) ∧
  (∃ (d pc : Nat) (code : Byte) (s : State),
    (ozCheck ((s.doc d).code.getD pc 0#64) pc (s.doc d).code.length (s.doc d).consts.length (s.doc d).sched.length (docReduced s d) = some code) ∧ ((s.doc d).fault = none)) :=
  ⟨⟨38, 1, 2, 1, (wDoc 0x3100440000000001#64), by refine ⟨?_, ?_⟩ <;> first | decide | rfl | decide +kernel⟩,
   ⟨38, 1, 2, 1, (wDoc 0x3200440000000001#64), by refine ⟨?_, ?_⟩ <;> first | decide | rfl | decide +kernel⟩,
   ⟨38, 1, 2, 1, (wDoc 0x3300440000000001#64), by refine ⟨?_, ?_⟩ <;> first | decide | rfl | decide +kernel⟩,
   ⟨38, 1, 2, 1, (wDoc 0x3400440000000001#64), by refine ⟨?_, ?_⟩ <;> first | decide | rfl | decide +kernel⟩,
   ⟨38, 1, 2, 1, (wDoc 0x3500440000000001#64), by refine ⟨?_, ?_⟩ <;> first | decide | rfl | decide +kernel⟩,
   ⟨38, 1, 2, 1, (wDoc 0x3600440000000001#64), by refine ⟨?_, ?_⟩ <;> first | decide | rfl | decide +kernel⟩,
   ⟨38, 1, (wDoc 0x3000000000000001#64), by refine ⟨?_, ?_⟩ <;> first | decide | rfl | decide +kernel⟩,
   ⟨38, 1, 1, (wDoc 0x3700400000000001#64), by refine ⟨?_, ?_⟩ <;> first | decide | rfl | decide +kernel⟩,
   ⟨38, 1, (wDoc 0x3800000000000001#64), by refine ⟨?_, ?_, ?_⟩ <;> first | decide | rfl | decide +kernel⟩,
   ⟨38, 1, (wDoc 0x3800000000000001#64).updDoc 38 (fun x => { x with calls := List.replicate 16 1 }), by refine ⟨?_, ?_⟩ <;> first | decide | rfl | decide +kernel⟩,
   ⟨38, 1, [], (wDoc 0x3900000000000000#64).updDoc 38 (fun x => { x with calls := [1] }), by refine ⟨?_, ?_, ?_⟩ <;> first | decide | rfl | decide +kernel⟩,
   ⟨38, (wDoc 0x3900000000000000#64), by refine ⟨?_, ?_⟩ <;> first | decide | rfl | decide +kernel⟩,
   ⟨38, 1, (wDoc 0x3A00400000000000#64), by refine ⟨?_, ?_, ?_⟩ <;> first | decide | rfl | decide +kernel⟩,
   ⟨38, 2, (wDoc 0x3A00800000000000#64).updDoc 38 (fun x => { x with g := [(2, 2)] }), by refine ⟨?_, ?_⟩ <;> first | decide | rfl | decide +kernel⟩,
   ⟨38, 5, 0xA0, wDoc 0, by refine ⟨?_, ?_⟩ <;> first | decide | rfl | decide +kernel⟩⟩

theorem test_met_LoadsAndStoresReachTheirBytes :
  (∃ (doc : DocIx) (rd ra : R5) (imm : W32) (r : Req) (s : State),
    (ozReady s (.ozLds doc rd ra imm) doc = true) ∧ (docReq s doc = some r) ∧ (((s.doc doc).greg ra + imm.signExtend 64).toNat % 8 = 0) ∧ (((s.doc doc).greg ra + imm.signExtend 64).toNat + 8 ≤ r.scratch) ∧ (spBadAt s (docHalf s doc) ((s.doc doc).greg ra + imm.signExtend 64).toNat 8 = false) ∧ (wordOk s doc ((s.doc doc).pc + 1))) ∧
  (∃ (doc : DocIx) (ra rb : R5) (imm : W32) (r : Req) (s : State),
    (ozReady s (.ozSts doc ra rb imm) doc = true) ∧ (docReq s doc = some r) ∧ (((s.doc doc).greg ra + imm.signExtend 64).toNat % 8 = 0) ∧ (((s.doc doc).greg ra + imm.signExtend 64).toNat + 8 ≤ r.scratch) ∧ (wordOk s doc ((s.doc doc).pc + 1))) ∧
  (∃ (doc : DocIx) (ra rb : R5) (imm : W32) (r : Req) (s : State),
    (ozReady s (.ozSts doc ra rb imm) doc = true) ∧ (docReq s doc = some r) ∧ (((s.doc doc).greg ra + imm.signExtend 64).toNat % 8 ≠ 0 ∨ r.scratch < ((s.doc doc).greg ra + imm.signExtend 64).toNat + 8)) ∧
  (∃ (doc : DocIx) (rd ra : R5) (imm : W32) (v : W64) (s : State),
    (ozReady s (.ozLdc doc rd ra imm) doc = true) ∧ ((s.doc doc).consts[((s.doc doc).greg ra + imm.setWidth 64).toNat]? = some v) ∧ (wordOk s doc ((s.doc doc).pc + 1))) ∧
  (∃ (doc : DocIx) (rd ra : R5) (imm : W32) (s : State),
    (ozReady s (.ozLdc doc rd ra imm) doc = true) ∧ ((s.doc doc).consts.length ≤ ((s.doc doc).greg ra + imm.setWidth 64).toNat)) ∧
  (∃ (doc : DocIx) (rd ra : R5) (imm : W32) (r : Req) (s : State),
    (ozReady s (.ozLda doc rd ra imm) doc = true) ∧ (docReq s doc = some r) ∧ (((s.doc doc).greg ra + imm.signExtend 64).toNat % 8 = 0) ∧ (((s.doc doc).greg ra + imm.signExtend 64).toNat + 8 ≤ r.argsLen)) ∧
  (∃ (doc : DocIx) (hm : HostMem) (rd : R5) (off : Nat) (r : Req) (b : Bytes) (s s1 : State),
    ((s.doc doc).stall = .lda rd off) ∧ (docReq s doc = some r) ∧ ((s.doc doc).state = .running) ∧ (vaRead s r.wing (.docent doc) hm (r.args.toNat + off) 8 = (s1, .ok b))) ∧
  (∃ (doc : DocIx) (slot : BitVec 3) (cindex : W16) (s : State),
    (ozReady s (.ozDld doc slot cindex) doc = true) ∧ (wordOk s doc ((s.doc doc).pc + 1))) ∧
  (∃ (doc : DocIx) (ra : R5) (slot word : BitVec 3) (s : State),
    (ozReady s (.ozDset doc ra slot word) doc = true) ∧ (wordOk s doc ((s.doc doc).pc + 1))) :=
  ⟨⟨38, 31, 2, 0xFFF8, wReqS, (wDocR 0x42F880000000FFF8#64), by refine ⟨?_, ?_, ?_, ?_, ?_, ?_⟩ <;> first | decide | rfl | decide +kernel⟩,
   ⟨38, 2, 1, 0xFFF8, wReqS, (wDocR 0x430082000000FFF8#64), by refine ⟨?_, ?_, ?_, ?_, ?_⟩ <;> first | decide | rfl | decide +kernel⟩,
   ⟨38, 2, 1, 0xFFF9, wReqS, (wDocR 0x430082000000FFF9#64), by refine ⟨?_, ?_, ?_⟩ <;> first | decide | rfl | decide +kernel⟩,
   ⟨38, 31, 2, 8, 7, (wDoc 0x41F8800000000008#64), by refine ⟨?_, ?_, ?_⟩ <;> first | decide | rfl | decide +kernel⟩,
   ⟨38, 31, 2, 9, (wDoc 0x41F8800000000009#64), by refine ⟨?_, ?_⟩ <;> first | decide | rfl | decide +kernel⟩,
   ⟨38, 31, 2, 8, wReqS, (wDocR 0x40F8800000000008#64), by refine ⟨?_, ?_, ?_, ?_⟩ <;> first | decide | rfl | decide +kernel⟩,
   ⟨38, [], 31, 8, wReqS, List.replicate 8 0, wLda, wLda1, by refine ⟨?_, ?_, ?_, ?_⟩ <;> first | decide | rfl | decide +kernel⟩,
   ⟨38, 7, 1, (wDoc 0x4800000000070001#64), by refine ⟨?_, ?_⟩ <;> first | decide | rfl | decide +kernel⟩,
   ⟨38, 1, 7, 7, (wDoc 0x4900400000070007#64), by refine ⟨?_, ?_⟩ <;> first | decide | rfl | decide +kernel⟩⟩

theorem test_met_LaunchesQueueOneDescriptor :
  (∃ (doc : DocIx) (rd : R5) (slot unit : BitVec 3) (r : Req) (s : State),
    (ozReady s (.ozMmul doc rd slot unit) doc = true) ∧ (docReq s doc = some r) ∧ (mxCheck ((s.doc doc).desc slot.toNat) r.scratch = none) ∧ (launchRoom s doc (.mu (muOf s (docHalf s doc) unit.toNat (docReduced s doc)))) ∧ ((s.unit (muOf s (docHalf s doc) unit.toNat (docReduced s doc))).out = false) ∧ (wordOk s doc ((s.doc doc).pc + 1))) ∧
  (∃ (doc : DocIx) (rd : R5) (slot unit : BitVec 3) (r : Req) (s : State),
    (ozReady s (.ozVec doc rd slot unit) doc = true) ∧ (docReq s doc = some r) ∧ (veCheck ((s.doc doc).desc slot.toNat) r.scratch (s.doc doc) = none) ∧ (launchRoom s doc (.ve (docCell doc))) ∧ ((s.unit (uVE (docCell doc))).out = false) ∧ (wordOk s doc ((s.doc doc).pc + 1))) ∧
  (∃ (doc : DocIx) (rd : R5) (slot unit : BitVec 3) (r : Req) (s : State),
    (ozReady s (.ozRed doc rd slot unit) doc = true) ∧ (docReq s doc = some r) ∧ (ruCheck ((s.doc doc).desc slot.toNat) r.scratch (s.doc doc) = none) ∧ (launchRoom s doc (.ru (docCell doc))) ∧ ((s.unit (uRU (docCell doc))).out = false) ∧ (wordOk s doc ((s.doc doc).pc + 1))) ∧
  (∃ (doc : DocIx) (rd : R5) (slot unit : BitVec 3) (r : Req) (s : State),
    (ozReady s (.ozStrm doc rd slot unit) doc = true) ∧ (docReq s doc = some r) ∧ (strmCheck ((s.doc doc).desc slot.toNat) r.scratch (s.doc doc) = none) ∧ (launchRoom s doc (.strm (docHalf s doc * 8 + unit.toNat))) ∧ (wordOk s doc ((s.doc doc).pc + 1))) ∧
  (∃ (doc : DocIx) (rd : R5) (slot unit : BitVec 3) (r : Req) (tab : Table) (s : State),
    (ozReady s (.ozGpeb doc rd slot unit) doc = true) ∧ (docReq s doc = some r) ∧ (reqTable s r (gbTable ((s.doc doc).desc slot.toNat)) = some tab) ∧ (gpeCheck ((s.doc doc).desc slot.toNat) r.scratch (some tab) r.cat = none) ∧ (r.outStarted = false) ∧ (launchRoom s doc .gpe) ∧ (wordOk s doc ((s.doc doc).pc + 1))) ∧
  (∃ (d : Nat) (rd : R5) (eng : Engine) (desc : Bytes) (r : Req) (k : State → Launch → State) (s : State),
    (docReq s d = some r) ∧ (¬ launchRoom s d eng) ∧ (stopping s r.id = false)) ∧
  (∃ (d : Nat) (rd : R5) (slot : Nat) (eng : Engine) (check : Bytes → Nat → Docent → Option (Nat × Byte)) (r : Req) (n : Nat) (code : Byte) (s : State),
    (docReq s d = some r) ∧ (check ((s.doc d).desc slot) r.scratch (s.doc d) = some (n, code)) ∧ ((s.doc d).fault = none)) :=
  ⟨⟨38, 31, 7, 1, wReqS, (wDocL 0x50F8000000000107#64 7 wMx), by refine ⟨?_, ?_, ?_, ?_, ?_, ?_⟩ <;> first | decide | rfl | decide +kernel⟩,
   ⟨38, 31, 7, 0, wReqS, (wDocL 0x51F8000000000007#64 7 wVe), by refine ⟨?_, ?_, ?_, ?_, ?_, ?_⟩ <;> first | decide | rfl | decide +kernel⟩,
   ⟨38, 31, 7, 0, wReqS, (wDocL 0x52F8000000000007#64 7 wRu), by refine ⟨?_, ?_, ?_, ?_, ?_, ?_⟩ <;> first | decide | rfl | decide +kernel⟩,
   ⟨38, 31, 7, 7, wReqS, (wDocL 0x53F8000000000707#64 7 wSt), by refine ⟨?_, ?_, ?_, ?_, ?_⟩ <;> first | decide | rfl | decide +kernel⟩,
   ⟨38, 31, 7, 0, wReqG, wTab, (wDocG 0x54F8000000000007#64), by refine ⟨?_, ?_, ?_, ?_, ?_, ?_, ?_⟩ <;> first | decide | rfl | decide +kernel⟩,
   ⟨38, 31, .ve 7, [], wReqS, fun s _ => s, (wDocR 0).updDoc 38 (fun x => { x with openT := List.replicate 64 1 }), by refine ⟨?_, ?_, ?_⟩ <;> first | decide | rfl | decide +kernel⟩,
   ⟨38, 31, 7, .ve 7, fun _ _ _ => some (1, 0xA1), wReqS, 1, 0xA1, wDocR 0, by refine ⟨?_, ?_, ?_⟩ <;> first | decide | rfl | decide +kernel⟩⟩

theorem test_met_TicketsAndBarriersHoldDocents :
  (∃ (doc : DocIx) (ra : R5) (k : W16) (id : Nat) (s : State),
    (ozReady s (.ozWait doc ra) doc = true) ∧ (ticketArg (s.doc doc) ((s.doc doc).greg ra) = some k) ∧ ((s.doc doc).ticketOpen k = false) ∧ ((s.doc doc).req = some id) ∧ (wordOk s doc ((s.doc doc).pc + 1))) ∧
  (∃ (doc : DocIx) (ra : R5) (k : W16) (id : Nat) (s : State),
    (ozReady s (.ozWait doc ra) doc = true) ∧ (ticketArg (s.doc doc) ((s.doc doc).greg ra) = some k) ∧ ((s.doc doc).ticketOpen k = true) ∧ ((s.doc doc).req = some id)) ∧
  (∃ (doc : DocIx) (ra : R5) (s : State),
    (ozReady s (.ozWait doc ra) doc = true) ∧ (ticketArg (s.doc doc) ((s.doc doc).greg ra) = none)) ∧
  (∃ (doc : DocIx) (id : Nat) (s : State),
    (ozReady s (.ozWaitall doc) doc = true) ∧ ((s.doc doc).req = some id) ∧ (wordOk s doc ((s.doc doc).pc + 1))) ∧
  (∃ (doc : DocIx) (rd ra : R5) (k : W16) (s : State),
    (ozReady s (.ozPoll doc rd ra) doc = true) ∧ (ticketArg (s.doc doc) ((s.doc doc).greg ra) = some k) ∧ (wordOk s doc ((s.doc doc).pc + 1))) ∧
  (∃ (doc : DocIx) (n : BitVec 8) (id : Nat) (s : State),
    (ozReady s (.ozBarrier doc n) doc = true) ∧ ((s.doc doc).req = some id)) ∧
  (∃ (id : Nat) (ds : List Nat) (n : Nat) (s : State),
    (notEnded s id = ds) ∧ (ds ≠ []) ∧ (∀ d ∈ ds, (s.doc d).stall = .barrier n)) ∧
  (∃ (id : Nat) (ds : List Nat) (s : State),
    (notEnded s id = ds) ∧ (∃ d ∈ ds, (s.doc d).stall.isBarrier = false)) ∧
  (∃ (doc : DocIx) (id : Nat) (s : State),
    (ozReady s (.ozEnd doc) doc = true) ∧ ((s.doc doc).req = some id) ∧ ((s.doc doc).openT = [])) ∧
  (∃ (doc : DocIx) (id : Nat) (s : State),
    (ozReady s (.ozEnd doc) doc = true) ∧ ((s.doc doc).req = some id) ∧ ((s.doc doc).openT ≠ [])) ∧
  (∃ (doc : DocIx) (point : BitVec 12) (s : State),
    ozReady s (.ozSync doc point) doc = true) :=
  ⟨⟨38, 1, 1, 0, (wDocT 0x5800400000000000#64 []), by refine ⟨?_, ?_, ?_, ?_, ?_⟩ <;> first | decide | rfl | decide +kernel⟩,
   ⟨38, 1, 1, 0, (wDocT 0x5800400000000000#64 [1]), by refine ⟨?_, ?_, ?_, ?_⟩ <;> first | decide | rfl | decide +kernel⟩,
   ⟨38, 2, (wDoc 0x5800800000000000#64), by refine ⟨?_, ?_⟩ <;> first | decide | rfl | decide +kernel⟩,
   ⟨38, 0, (wDocT 0x5900000000000000#64 [1]), by refine ⟨?_, ?_, ?_⟩ <;> first | decide | rfl | decide +kernel⟩,
   ⟨38, 5, 1, 1, (wDocT 0x5A28400000000000#64 [1]), by refine ⟨?_, ?_, ?_⟩ <;> first | decide | rfl | decide +kernel⟩,
   ⟨38, 255, 0, (wDoc 0x05000000000000FF#64), by refine ⟨?_, ?_⟩ <;> first | decide | rfl | decide +kernel⟩,
   ⟨0, [38], 255, wBar, by refine ⟨?_, ?_, ?_⟩ <;> first | decide | rfl | decide +kernel⟩,
   ⟨0, [38], { wDocR 0 with reqs := [{ wReqS with docs := [38] }] }, by refine ⟨?_, ?_⟩ <;> first | decide | rfl | decide +kernel⟩,
   ⟨38, 0, (wDoc 0x0200000000000000#64), by refine ⟨?_, ?_, ?_⟩ <;> first | decide | rfl | decide +kernel⟩,
   ⟨38, 0, (wDocT 0x0200000000000000#64 [1]), by refine ⟨?_, ?_, ?_⟩ <;> first | decide | rfl | decide +kernel⟩,
   ⟨38, 0, (wDoc 0x0400000000000000#64).updDoc 38 (fun x => { x with sched := [List.replicate 32 0] }), by decide⟩⟩

theorem test_met_DocentEventsLoadFaultAndExpire :
  (∃ (doc : DocIx) (sram : DocSram) (id : Nat) (s : State),
    ((s.doc doc).req = some id) ∧ ((s.doc doc).state = .loading) ∧ (sram.load = .clean)) ∧
  (∃ (doc : DocIx) (sram : DocSram) (id g : Nat) (s : State),
    ((s.doc doc).req = some id) ∧ ((s.doc doc).state = .loading) ∧ (sram.load = .bad g)) ∧
  (∃ (doc : DocIx) (id : Nat) (f : DocFault) (s : State),
    ((s.doc doc).fault = some f) ∧ ((s.doc doc).req = some id) ∧ (reqDocents s id = [doc.val])) ∧
  (∃ (doc : DocIx) (id : Nat) (f : DocFault) (s : State),
    ((s.doc doc).fault = some f) ∧ ((s.doc doc).req = some id)) ∧
  (∃ (doc : DocIx) (id : Nat) (s : State),
    ((s.doc doc).req = some id) ∧ ((s.doc doc).state = .running) ∧ ((s.doc doc).stall ≠ .ended) ∧ ((s.doc doc).stopped = false) ∧ (dogStopped s id = false)) ∧
  (∃ (u : Fin 40) (s : State),
    granted s (.mu u) = none) ∧
  (∃ (u : Fin 40) (l : Launch) (s : State),
    granted s (.mu u) = some l) ∧
  (∃ (a n : Nat) (cands : List (Nat × Nat)) (w : Nat × Nat) (s : State),
    roundWinner s a n cands = some w) :=
  ⟨⟨38, { load := .clean, upsets := [] }, 0, (wDocR 0).updDoc 38 fun x => { x with state := .loading }, by refine ⟨?_, ?_, ?_⟩ <;> first | decide | rfl | decide +kernel⟩,
   ⟨38, { load := .bad 5, upsets := [] }, 0, 5, (wDocR 0).updDoc 38 fun x => { x with state := .loading }, by refine ⟨?_, ?_, ?_⟩ <;> first | decide | rfl | decide +kernel⟩,
   ⟨38, 0, { code := 0xA2, pc := 64, detail := 0, time := 0 }, { (wDocR 0).updDoc 38 (fun x => { x with fault := some { code := 0xA2, pc := 64, detail := 0, time := 0 } }) with reqs := [{ wReqS with docs := [38] }] }, by refine ⟨?_, ?_, ?_⟩ <;> first | decide | rfl | decide +kernel⟩,
   ⟨38, 0, { code := 0xA2, pc := 64, detail := 0, time := 0 }, (wDocR 0).updDoc 38 (fun x => { x with fault := some { code := 0xA2, pc := 64, detail := 0, time := 0 } }), by refine ⟨?_, ?_⟩ <;> first | decide | rfl | decide +kernel⟩,
   ⟨38, 0, wDocR 0, by refine ⟨?_, ?_, ?_, ?_, ?_⟩ <;> first | decide | rfl | decide +kernel⟩,
   ⟨38, wS, by first | decide | rfl | decide +kernel⟩,
   ⟨38, wLau (.mu 38) wMx, wEng (wLau (.mu 38) wMx), by first | decide | rfl | decide +kernel⟩,
   ⟨0, 2, [(0, 0), (1, 1)], (0, 0), wS, by first | decide | rfl | decide +kernel⟩⟩

theorem test_met_TablesAreCreatedAndDeleted :
  (∃ (fn : Fn) (hub : Hub) (tag : W32) (wing : Byte) (p : Bytes) (c : Cmd) (s : State),
    (c = sentCmd s 0x0201 fn hub tag wing p) ∧ (accepts s c) ∧ (wing.toNat < 16) ∧ ((s.cat (catKey wing.toNat (tdCat p))).mode = 0) ∧ (fenced s (s.cat (catKey wing.toNat (tdCat p))) = false) ∧ (longFull s = false) ∧ (firstFail (createHead p ++ createRest s (Fin.ofNat 16 wing.toNat) p) = none)) ∧
  (∃ (table : TabIx) (t0 : Table) (x : Fn × Hub × Run) (s : State),
    (s.table table = some t0) ∧ (t0.phase = .creating) ∧ (creator s table = some x) ∧ (x.2.2.data.getD 2 0 = 1)) ∧
  (∃ (fn : Fn) (hub : Hub) (tag : W32) (wing : Byte) (p : Bytes) (c : Cmd) (s : State),
    (c = sentCmd s 0x0202 fn hub tag wing p) ∧ (accepts s c) ∧ (wing.toNat < 16) ∧ (zeroAt p 2 2 = true)) ∧
  (∃ (s : State) (id : Nat) (t : Table),
    s.table id = some t) ∧
  (∃ (table : TabIx) (t0 : Table) (s : State),
    (s.table table = some t0) ∧ (t0.phase = .deleted) ∧ (tableIdle s t0 = true)) ∧
  (∃ (table : TabIx) (t0 : Table) (s : State),
    (s.table table = some t0) ∧ (t0.phase = .deleted) ∧ (tableIdle s t0 = false)) ∧
  (∃ (table : TabIx) (t0 : Table) (s : State),
    (s.table table = some t0) ∧ (t0.phase = .clearing)) ∧
  (∃ (s : State) (w : WingIx) (k n : Nat) (l : List Gran),
    (k < 8) ∧ (allocRuns s w k n false = some l)) :=
  ⟨⟨0, 0, 0, 3, (wBytes [(4, 16), (24, 0), (25, 0xFF), (26, 0xFF), (27, 0xFF), (28, 0xFF), (29, 0xFF), (30, 0xFF), (31, 0xFF)]), sentCmd (wFit .enabled) 0x0201 0 0 0 3 (wBytes [(4, 16), (24, 0), (25, 0xFF), (26, 0xFF), (27, 0xFF), (28, 0xFF), (29, 0xFF), (30, 0xFF), (31, 0xFF)]), wFit .enabled, by refine ⟨?_, ?_, ?_, ?_, ?_, ?_, ?_⟩ <;> first | decide | rfl | decide +kernel⟩,
   ⟨0, wCre, (0, 0, wRunD 0x0201 [0, 0, 1]), wCreS, by refine ⟨?_, ?_, ?_, ?_⟩ <;> first | decide | rfl | decide +kernel⟩,
   ⟨0, 0, 0, 3, [0, 0, 0, 0], sentCmd (wTabS .ready) 0x0202 0 0 0 3 [0, 0, 0, 0], wTabS .ready, by refine ⟨?_, ?_, ?_, ?_⟩ <;> first | decide | rfl | decide +kernel⟩,
   ⟨wTabS .ready, 0, { wTab with phase := .ready }, by first | decide | rfl | decide +kernel⟩,
   ⟨0, { wTab with phase := .deleted }, wTabS .deleted, by refine ⟨?_, ?_, ?_⟩ <;> first | decide | rfl | decide +kernel⟩,
   ⟨0, { wTab with phase := .deleted, deletedTs := 5 }, { wTabS .deleted with tables := [(0, some { wTab with phase := .deleted, deletedTs := 5 })], reqs := [{ wReqS with cat := some 0 }] }, by refine ⟨?_, ?_, ?_⟩ <;> first | decide | rfl | decide +kernel⟩,
   ⟨0, wCre0 .clearing, wTabS2 .clearing, by refine ⟨?_, ?_⟩ <;> first | decide | rfl | decide +kernel⟩,
   ⟨wFit .enabled, 3, 0, 2, [{ stack := 0, first := 16384, count := 2 }], by refine ⟨?_, ?_⟩ <;> first | decide | rfl | decide +kernel⟩⟩

theorem test_met_GatherBatchesAndPinnedLines :
  (∃ (doc : DocIx) (ticket : W16) (b : Batch) (t0 : Table) (lookup : W32) (bag : Nat) (row w : W32) (j k home : Nat) (bytes : Bytes) (pieces : List Nat) (l : Launch) (s1 : State) (s : State),
    (findBatch s doc ticket = some b) ∧ (s.table b.table = some t0) ∧ (b.failed = none) ∧ (b.lookups[lookup.toNat]? = some (bag, row, w)) ∧ (b.taken.contains lookup.toNat = true) ∧ (s.vlt.mode ≠ .error) ∧ (rowPlace s t0 row.toNat = some (j, k, home)) ∧ ((servingGPE s (bagGPE s k bag)).isSome = true) ∧ (batchLaunch s b = some l) ∧ (versionSlot s k b.table row.toNat home b.epoch ≠ slotUnwritten) ∧ (pieces = slotPieces t0 k (versionSlot s k b.table row.toNat home b.epoch)) ∧ (s1 = (s.updWing b.wing fun x => { x with lookups := satInc x.lookups }).updBatch b fun x => { x with taken := x.taken.filter (· != lookup.toNat) }) ∧ (slotRead s1 b.wing t0 k (versionSlot s k b.table row.toNat home b.epoch) = .ok bytes) ∧ (headerCheck t0 bytes = none)) ∧
  (∃ (doc : DocIx) (ticket : W16) (b : Batch) (t0 : Table) (lookup : W32) (bag : Nat) (row w : W32) (j k home : Nat) (l : Launch) (s : State),
    (findBatch s doc ticket = some b) ∧ (s.table b.table = some t0) ∧ (b.failed = none) ∧ (b.lookups[lookup.toNat]? = some (bag, row, w)) ∧ (b.taken.contains lookup.toNat = true) ∧ (s.vlt.mode ≠ .error) ∧ (rowPlace s t0 row.toNat = some (j, k, home)) ∧ ((servingGPE s (bagGPE s k bag)).isSome = true) ∧ (batchLaunch s b = some l) ∧ (versionSlot s k b.table row.toNat home b.epoch = slotUnwritten)) ∧
  (∃ (doc : DocIx) (ticket : W16) (b : Batch) (t0 : Table) (lookup : W32) (bag : Nat) (row w : W32) (j k home : Nat) (a : Nat) (s1 : State) (s : State),
    (findBatch s doc ticket = some b) ∧ (s.table b.table = some t0) ∧ (b.failed = none) ∧ (b.lookups[lookup.toNat]? = some (bag, row, w)) ∧ (b.taken.contains lookup.toNat = true) ∧ (s.vlt.mode ≠ .error) ∧ (rowPlace s t0 row.toNat = some (j, k, home)) ∧ ((servingGPE s (bagGPE s k bag)).isSome = true) ∧ (s1 = (s.updWing b.wing fun x => { x with lookups := satInc x.lookups }).updBatch b fun x => { x with taken := x.taken.filter (· != lookup.toNat) }) ∧ (versionSlot s k b.table row.toNat home b.epoch ≠ slotUnwritten) ∧ (slotRead s1 b.wing t0 k (versionSlot s k b.table row.toNat home b.epoch) = .error a)) ∧
  (∃ (doc : DocIx) (ticket : W16) (b : Batch) (t0 : Table) (bag : Fin 65536) (gpos : Fin 16) (remote : Bytes) (v : List W32 × Nat) (l : Launch) (s : State),
    (findBatch s doc ticket = some b) ∧ (s.table b.table = some t0) ∧ (b.failed = none) ∧ ((b.parts.any fun x => x.bag == bag.val && x.gpos == gpos.val) = false) ∧ (ownGpos s t0 gpos = false) ∧ ((bagLookups s b t0 bag gpos).isEmpty = false) ∧ (localGpos s t0 gpos = true) ∧ (batchLaunch s b = some l) ∧ (localPart s b t0 (decide (gbPool l.desc = 2)) bag gpos = some v)) ∧
  (∃ (dim bag gpos : Nat) (v : List W32 × Nat),
    (v.1.length = dim) ∧ (v.2 < 2 ^ 32)) ∧
  (∃ (doc : DocIx) (ticket : W16) (b : Batch) (t0 : Table) (bag : Fin 65536) (gpos : Fin 16) (remote data : Bytes) (digest : W64) (l : Launch) (s : State),
    (findBatch s doc ticket = some b) ∧ (s.table b.table = some t0) ∧ (b.failed = none) ∧ ((b.parts.any fun x => x.bag == bag.val && x.gpos == gpos.val) = false) ∧ (ownGpos s t0 gpos = false) ∧ ((bagLookups s b t0 bag gpos).isEmpty = false) ∧ (localGpos s t0 gpos = true) ∧ (batchLaunch s b = some l) ∧ ((localPart s b t0 (decide (gbPool l.desc = 2)) bag gpos).isSome = true) ∧ (digestOf (partHead s b t0 bag gpos) data ≠ digest)) ∧
  (∃ (doc : DocIx) (ticket : W16) (b : Batch) (t0 : Table) (l : Launch) (rest : List Launch) (vecs : List (List W32 × Nat)) (s : State),
    (findBatch s doc ticket = some b) ∧ (s.table b.table = some t0) ∧ (b.failed = none) ∧ (batchLaunch s b = some l) ∧ (queueAt s doc .gpe = l :: rest) ∧ (((List.range (gbBags l.desc)).map fun bag => (bagParts s b t0 (decide (gbPool l.desc = 2)) bag).map (combineParts (decide (gbPool l.desc = 2)) t0.dim)) = vecs.map some) ∧ (l.dirty = false)) ∧
  (∃ (doc : DocIx) (ticket : W16) (b : Batch) (t0 : Table) (l : Launch) (f : Byte × W32) (ok : List (Nat × Carried)) (s : State),
    (findBatch s doc ticket = some b) ∧ (s.table b.table = some t0) ∧ (b.failed = some f) ∧ (batchLaunch s b = some l)) ∧
  (∃ (fn : Fn) (hub : Hub) (tag : W32) (wing : Byte) (p : Bytes) (c : Cmd) (s : State) (t0 : Table) (new : List Nat),
    (c = sentCmd s 0x0203 fn hub tag wing p) ∧ (accepts s c) ∧ (wing.toNat < 16) ∧ (tableIn s wing.toNat (leAt p 0 2) = some t0) ∧ (firstFail (pinChecks c t0) = none) ∧ (new = (pinLines s t0 (pinRanges p)).filter fun l => !s.cache.any (pinnedBy (Fin.ofNat 16 wing.toNat) l)) ∧ (pinOver s (Fin.ofNat 16 wing.toNat) new = false) ∧ (∀ l ∈ new, (pieceRead s wing.toNat (l * 64) 64).isSome = true)) ∧
  (∃ (fn : Fn) (hub : Hub) (tag : W32) (wing : Byte) (p : Bytes) (c : Cmd) (s : State) (t0 : Table) (new : List Nat) (l : Nat),
    (c = sentCmd s 0x0203 fn hub tag wing p) ∧ (accepts s c) ∧ (wing.toNat < 16) ∧ (tableIn s wing.toNat (leAt p 0 2) = some t0) ∧ (firstFail (pinChecks c t0) = none) ∧ (new = (pinLines s t0 (pinRanges p)).filter fun l => !s.cache.any (pinnedBy (Fin.ofNat 16 wing.toNat) l)) ∧ (pinOver s (Fin.ofNat 16 wing.toNat) new = false) ∧ (new.find? (fun l => (pieceRead s wing.toNat (l * 64) 64).isNone) = some l)) ∧
  (∃ (fn : Fn) (hub : Hub) (tag : W32) (wing : Byte) (p : Bytes) (c : Cmd) (s : State) (t0 : Table),
    (c = sentCmd s 0x0204 fn hub tag wing p) ∧ (accepts s c) ∧ (wing.toNat < 16) ∧ (tableIn s wing.toNat (leAt p 0 2) = some t0) ∧ (firstFail (pinChecks c t0) = none)) :=
  ⟨⟨38, 1, wBat, wTabR, 0, 0, 5, 0, 0, 0, 5, List.replicate 32 0, slotPieces wTabR 0 5, wLauG, (wGat.updWing 3 fun x => { x with lookups := satInc x.lookups }).updBatch wBat fun x => { x with taken := x.taken.filter (· != 0) }, wGat, by refine ⟨?_, ?_, ?_, ?_, ?_, ?_, ?_, ?_, ?_, ?_, ?_, ?_, ?_, ?_⟩ <;> first | decide | rfl | decide +kernel⟩,
   ⟨38, 1, wBat, wTabR, 0, 0, 5, 0, 0, 0, 5, wLauG, { wGat with dir := [{ stack := 0, table := 0, row := 5, versions := [(1, slotUnwritten)] }] }, by refine ⟨?_, ?_, ?_, ?_, ?_, ?_, ?_, ?_, ?_, ?_⟩ <;> first | decide | rfl | decide +kernel⟩,
   ⟨38, 1, wBat, wTabR, 0, 0, 5, 0, 0, 0, 5, 160, (wGatBad.updWing 3 fun x => { x with lookups := satInc x.lookups }).updBatch wBat fun x => { x with taken := x.taken.filter (· != 0) }, wGatBad, by refine ⟨?_, ?_, ?_, ?_, ?_, ?_, ?_, ?_, ?_, ?_, ?_⟩ <;> first | decide | rfl | decide +kernel⟩,
   ⟨38, 1, wBat2, wTab2, 0, 1, [], (List.replicate 16 0, 1), wLauG, wGat2, by refine ⟨?_, ?_, ?_, ?_, ?_, ?_, ?_, ?_, ?_⟩ <;> first | decide | rfl | decide +kernel⟩,
   ⟨1, 0, 1, ([5], 3), by refine ⟨?_, ?_⟩ <;> first | decide | rfl | decide +kernel⟩,
   ⟨38, 1, wBat2, wTab2, 0, 1, [], [], 1, wLauG, wGat2, by refine ⟨?_, ?_, ?_, ?_, ?_, ?_, ?_, ?_, ?_, ?_⟩ <;> first | decide | rfl | decide +kernel⟩,
   ⟨38, 1, wBatD, wTabR, wLauG, [], [(List.replicate 16 0, 1)], wGatD, by refine ⟨?_, ?_, ?_, ?_, ?_, ?_, ?_⟩ <;> first | decide | rfl | decide +kernel⟩,
   ⟨38, 1, { wBat with failed := some (0x42, 7) }, wTabR, wLauG, (0x42, 7), [], { wGat with batches := [{ wBat with failed := some (0x42, 7) }] }, by refine ⟨?_, ?_, ?_, ?_⟩ <;> first | decide | rfl | decide +kernel⟩,
   ⟨0, 0, 0, 3, [0, 0, 1, 0, 0, 0, 0, 0, 0, 0, 0, 0, 1, 0, 0, 0], sentCmd (wPinS 8) 0x0203 0 0 0 3 [0, 0, 1, 0, 0, 0, 0, 0, 0, 0, 0, 0, 1, 0, 0, 0], wPinS 8, wTabP, [pinLine0], by refine ⟨?_, ?_, ?_, ?_, ?_, ?_, ?_, ?_⟩ <;> first | decide | rfl | decide +kernel⟩,
   ⟨0, 0, 0, 3, [0, 0, 1, 0, 0, 0, 0, 0, 0, 0, 0, 0, 1, 0, 0, 0], sentCmd (wPinBad) 0x0203 0 0 0 3 [0, 0, 1, 0, 0, 0, 0, 0, 0, 0, 0, 0, 1, 0, 0, 0], wPinBad, wTabP, [pinLine0], pinLine0, by refine ⟨?_, ?_, ?_, ?_, ?_, ?_, ?_, ?_⟩ <;> first | decide | rfl | decide +kernel⟩,
   ⟨0, 0, 0, 3, [0, 0, 1, 0, 0, 0, 0, 0, 0, 0, 0, 0, 1, 0, 0, 0], sentCmd (wPinned) 0x0204 0 0 0 3 [0, 0, 1, 0, 0, 0, 0, 0, 0, 0, 0, 0, 1, 0, 0, 0], wPinned, wTabP, by refine ⟨?_, ?_, ?_, ?_, ?_⟩ <;> first | decide | rfl | decide +kernel⟩⟩

theorem test_met_UpdateRingsAreControlledAndConsumed :
  (∃ (fn : Fn) (wing : WingIx) (cat : CatIx) (s : State),
    (regOpen s fn = true) ∧ (fn = 0 ∨ (s.fnWing fn).map (·.val) = some wing.val) ∧ ((s.cat (catKey wing cat)).state = .disabled) ∧ (canLog s fn) ∧ (16 ≤ fld (s.cat (catKey wing cat)).cfg.toNat 0 5 ∧ fld (s.cat (catKey wing cat)).cfg.toNat 0 5 ≤ 30) ∧ ((s.cat (catKey wing cat)).base.toNat % 4096 = 0)) ∧
  (∃ (fn : Fn) (wing : WingIx) (cat : CatIx) (xlat : Bool) (n : Nat) (code : Byte) (s : State),
    (regOpen s fn = true) ∧ (fn = 0 ∨ (s.fnWing fn).map (·.val) = some wing.val) ∧ ((s.cat (catKey wing cat)).state = .disabled) ∧ (canLog s fn) ∧ (firstFailAt [(decide (fld (s.cat (catKey wing cat)).cfg.toNat 0 5 < 16 ∨ fld (s.cat (catKey wing cat)).cfg.toNat 0 5 > 30), rRESERVED_VALUE), (decide ((s.cat (catKey wing cat)).base.toNat % 4096 ≠ 0), rADDR_ALIGN), (!xlat, rTRANSLATION_MISSING)] = some (n, code))) ∧
  (∃ (fn : Fn) (wing : WingIx) (cat : CatIx) (s : State),
    (regOpen s fn = true) ∧ (fn = 0 ∨ (s.fnWing fn).map (·.val) = some wing.val) ∧ ((s.cat (catKey wing cat)).state ≠ .disabled) ∧ ((s.cat (catKey wing cat)).busy = none ∨ (s.cat (catKey wing cat)).stall ≠ 0) ∧ ((s.cat (catKey wing cat)).follow = none)) ∧
  (∃ (fn : Fn) (wing : WingIx) (cat : CatIx) (r : HeldRec) (s : State),
    (regOpen s fn = true) ∧ (fn = 0 ∨ (s.fnWing fn).map (·.val) = some wing.val) ∧ ((s.cat (catKey wing cat)).state ≠ .disabled) ∧ ((s.cat (catKey wing cat)).busy = none ∨ (s.cat (catKey wing cat)).stall ≠ 0) ∧ ((s.cat (catKey wing cat)).follow = some r)) ∧
  (∃ (fn : Fn) (wing : WingIx) (cat : CatIx) (s : State),
    (regOpen s fn = true) ∧ (fn = 0 ∨ (s.fnWing fn).map (·.val) = some wing.val) ∧ ((s.cat (catKey wing cat)).state ≠ .disabled) ∧ ((s.cat (catKey wing cat)).busy ≠ none) ∧ ((s.cat (catKey wing cat)).stall = 0)) ∧
  (∃ (fn : Fn) (wing : WingIx) (cat : CatIx) (s : State),
    (regOpen s fn = true) ∧ (fn = 0 ∨ (s.fnWing fn).map (·.val) = some wing.val) ∧ ((s.cat (catKey wing cat)).state = .error)) ∧
  (∃ (fn : Fn) (wing : WingIx) (cat : CatIx) (count : W64) (s : State),
    (regOpen s fn = true) ∧ (fn = 0 ∨ (s.fnWing fn).map (·.val) = some wing.val) ∧ ((s.cat (catKey wing cat)).state ≠ .disabled) ∧ ((s.cat (catKey wing cat)).tail ≤ count) ∧ (count.toNat % 32 = 0) ∧ (count.toNat - (s.cat (catKey wing cat)).head.toNat ≤ 2 ^ fld (s.cat (catKey wing cat)).runCfg.toNat 0 5)) ∧
  (∃ (fn : Fn) (wing : WingIx) (cat : CatIx) (count : W64) (s : State),
    (regOpen s fn = true) ∧ (fn = 0 ∨ (s.fnWing fn).map (·.val) = some wing.val) ∧ ((s.cat (catKey wing cat)).state ≠ .disabled) ∧ (count < (s.cat (catKey wing cat)).tail ∨ count.toNat % 32 ≠ 0 ∨ 2 ^ fld (s.cat (catKey wing cat)).runCfg.toNat 0 5 < count.toNat - (s.cat (catKey wing cat)).head.toNat)) ∧
  (∃ (fn : Fn) (wing : WingIx) (cat : CatIx) (count : W64) (s : State),
    (regOpen s fn = true) ∧ (fn = 0 ∨ (s.fnWing fn).map (·.val) = some wing.val) ∧ ((s.cat (catKey wing cat)).state = .disabled)) ∧
  (∃ (wing : WingIx) (cat : CatIx) (hm : HostMem) (b : Bytes) (tab : TabIx) (t0 : Table) (row : Nat) (s : State),
    ((s.cat (catKey wing cat)).mode = 0) ∧ ((s.cat (catKey wing cat)).state = .enabled) ∧ ((s.cat (catKey wing cat)).isOpen = true) ∧ ((s.cat (catKey wing cat)).discardEp = none) ∧ ((s.wing wing).state = .enabled) ∧ ((s.cat (catKey wing cat)).busy = none) ∧ ((s.cat (catKey wing cat)).head < (s.cat (catKey wing cat)).limit) ∧ ((s.cat (catKey wing cat)).head < (s.cat (catKey wing cat)).tail) ∧ (b = (ringRecord (s.cat (catKey wing cat)) hm).2) ∧ ((s.cat (catKey wing cat)).head.toNat + recLen b ≤ (s.cat (catKey wing cat)).limit.toNat) ∧ ((s.cat (catKey wing cat)).head.toNat + recLen b ≤ (s.cat (catKey wing cat)).tail.toNat) ∧ (recCheck s wing cat (ringRecord (s.cat (catKey wing cat)) hm).1 (ringSize (s.cat (catKey wing cat))) b = .put tab t0 row)) ∧
  (∃ (wing : WingIx) (cat : CatIx) (hm : HostMem) (b : Bytes) (n : Nat) (code : Byte) (s : State),
    ((s.cat (catKey wing cat)).mode = 0) ∧ ((s.cat (catKey wing cat)).state = .enabled) ∧ ((s.cat (catKey wing cat)).isOpen = true) ∧ ((s.cat (catKey wing cat)).discardEp = none) ∧ ((s.wing wing).state = .enabled) ∧ ((s.cat (catKey wing cat)).busy = none) ∧ ((s.cat (catKey wing cat)).head < (s.cat (catKey wing cat)).limit) ∧ ((s.cat (catKey wing cat)).head < (s.cat (catKey wing cat)).tail) ∧ (b = (ringRecord (s.cat (catKey wing cat)) hm).2) ∧ ((s.cat (catKey wing cat)).head.toNat + recLen b ≤ (s.cat (catKey wing cat)).limit.toNat) ∧ ((s.cat (catKey wing cat)).head.toNat + recLen b ≤ (s.cat (catKey wing cat)).tail.toNat) ∧ (recCheck s wing cat (ringRecord (s.cat (catKey wing cat)) hm).1 (ringSize (s.cat (catKey wing cat))) b = .bad n code)) ∧
  (∃ (s : State) (w c n : Nat) (code : Byte),
    ((s.cat (catKey w c)).commit = none) ∧ ((s.cat (catKey w c)).disableAfter = false) ∧ ((s.cat (catKey w c)).follow = none)) ∧
  (∃ (wing : WingIx) (cat : CatIx) (b : Bytes) (s : State),
    ((s.cat (catKey wing cat)).busy = some b) ∧ ((s.cat (catKey wing cat)).mode = 0) ∧ ((s.cat (catKey wing cat)).applied = true) ∧ ((s.cat (catKey wing cat)).disableAfter = false) ∧ ((s.cat (catKey wing cat)).discardEp = none) ∧ ((s.cat (catKey wing cat)).commit = none)) ∧
  (∃ (wing : WingIx) (cat : CatIx) (s : State),
    (s.cat (catKey wing cat)).applied = false) :=
  ⟨⟨0, 3, 1, wS.setCat 25 { Cat.init with cfg := 30 }, by refine ⟨?_, ?_, ?_, ?_, ?_, ?_⟩ <;> first | decide | rfl | decide +kernel⟩,
   ⟨0, 3, 1, false, 3, rTRANSLATION_MISSING, wS.setCat 25 { Cat.init with cfg := 16 }, by refine ⟨?_, ?_, ?_, ?_, ?_⟩ <;> first | decide | rfl | decide +kernel⟩,
   ⟨0, 3, 1, wS.setCat 25 { Cat.init with state := .error }, by refine ⟨?_, ?_, ?_, ?_, ?_⟩ <;> first | decide | rfl | decide +kernel⟩,
   ⟨0, 3, 1, { epoch := 1, head := 0, record := [] }, wS.setCat 25 { Cat.init with state := .enabled, follow := some { epoch := 1, head := 0, record := [] } }, by refine ⟨?_, ?_, ?_, ?_, ?_⟩ <;> first | decide | rfl | decide +kernel⟩,
   ⟨0, 3, 1, wS.setCat 25 { Cat.init with state := .enabled, busy := some [] }, by refine ⟨?_, ?_, ?_, ?_, ?_⟩ <;> first | decide | rfl | decide +kernel⟩,
   ⟨0, 3, 1, wS.setCat 25 { Cat.init with state := .error }, by refine ⟨?_, ?_, ?_⟩ <;> first | decide | rfl | decide +kernel⟩,
   ⟨0, 3, 1, 0x10000, wS.setCat 25 { Cat.init with state := .enabled, runCfg := 16 }, by refine ⟨?_, ?_, ?_, ?_, ?_, ?_⟩ <;> first | decide | rfl | decide +kernel⟩,
   ⟨0, 3, 1, 0x10020, wS.setCat 25 { Cat.init with state := .enabled, runCfg := 16 }, by refine ⟨?_, ?_, ?_, ?_⟩ <;> first | decide | rfl | decide +kernel⟩,
   ⟨0, 3, 1, 32, wS, by refine ⟨?_, ?_, ?_⟩ <;> first | decide | rfl | decide +kernel⟩,
   ⟨3, 1, wRingHm, wRec, 0, { wTabR with cat := 1 }, 5, wRing, by refine ⟨?_, ?_, ?_, ?_, ?_, ?_, ?_, ?_, ?_, ?_, ?_, ?_⟩ <;> first | decide | rfl | decide +kernel⟩,
   ⟨3, 1, [(0, 9)], 9 :: List.replicate 15 0, 1, rRESERVED_VALUE, wRing, by refine ⟨?_, ?_, ?_, ?_, ?_, ?_, ?_, ?_, ?_, ?_, ?_, ?_⟩ <;> first | decide | rfl | decide +kernel⟩,
   ⟨wS, 3, 1, 0, 0x42, by refine ⟨?_, ?_, ?_⟩ <;> first | decide | rfl | decide +kernel⟩,
   ⟨3, 1, [], wS.setCat 25 { Cat.init with busy := some [], applied := true }, by refine ⟨?_, ?_, ?_, ?_, ?_, ?_⟩ <;> first | decide | rfl | decide +kernel⟩,
   ⟨3, 1, wS.setCat 25 { Cat.init with busy := some [] }, by first | decide | rfl | decide +kernel⟩⟩

theorem test_met_EpochsOpenCommitRetireAndDiscard :
  (∃ (fn : Fn) (hub : Hub) (tag : W32) (wing : Byte) (p : Bytes) (c : Cmd) (s : State),
    (c = sentCmd s 0x0205 fn hub tag wing p) ∧ (accepts s c) ∧ (wing.toNat < 16) ∧ (leAt p 0 1 < 8) ∧ ((s.wing wing.toNat).state = .enabled) ∧ ((s.cat (catKey wing.toNat (leAt p 0 1))).mode = 0) ∧ ((s.cat (catKey wing.toNat (leAt p 0 1))).sync ≠ 4) ∧ (zeroAt p 1 3 = true) ∧ ((s.cat (catKey wing.toNat (leAt p 0 1))).isOpen = false) ∧ ((s.cat (catKey wing.toNat (leAt p 0 1))).discardEp = none) ∧ (((s.cat (catKey wing.toNat (leAt p 0 1))).vis + 1 - oldestLive s wing.toNat (leAt p 0 1)).toNat < 2 ^ 31 - 1)) ∧
  (∃ (fn : Fn) (hub : Hub) (tag : W32) (wing : Byte) (p : Bytes) (c : Cmd) (s : State),
    (c = sentCmd s 0x0206 fn hub tag wing p) ∧ (accepts s c) ∧ (wing.toNat < 16) ∧ (leAt p 0 1 < 8) ∧ ((s.wing wing.toNat).state = .enabled) ∧ ((s.cat (catKey wing.toNat (leAt p 0 1))).mode = 0) ∧ ((s.cat (catKey wing.toNat (leAt p 0 1))).sync ≠ 4) ∧ (zeroAt p 1 3 = true) ∧ ((s.cat (catKey wing.toNat (leAt p 0 1))).isOpen = true) ∧ ((s.cat (catKey wing.toNat (leAt p 0 1))).openEp.toNat = leAt p 4 4) ∧ (leAt p 8 8 % 32 = 0) ∧ ((s.cat (catKey wing.toNat (leAt p 0 1))).head = BitVec.ofNat 64 (leAt p 8 8)) ∧ ((s.cat (catKey wing.toNat (leAt p 0 1))).commit = none) ∧ ((s.cat (catKey wing.toNat (leAt p 0 1))).discardEp = none) ∧ ((s.cat (catKey wing.toNat (leAt p 0 1))).busy = none) ∧ (retireRuns s wing.toNat (leAt p 0 1) = [])) ∧
  (∃ (fn : Fn) (hub : Hub) (tag : W32) (wing : Byte) (p : Bytes) (c : Cmd) (s : State),
    (c = sentCmd s 0x0206 fn hub tag wing p) ∧ (accepts s c) ∧ (wing.toNat < 16) ∧ (leAt p 0 1 < 8) ∧ ((s.wing wing.toNat).state = .enabled) ∧ ((s.cat (catKey wing.toNat (leAt p 0 1))).mode = 0) ∧ ((s.cat (catKey wing.toNat (leAt p 0 1))).sync ≠ 4) ∧ (zeroAt p 1 3 = true) ∧ ((s.cat (catKey wing.toNat (leAt p 0 1))).isOpen = true) ∧ ((s.cat (catKey wing.toNat (leAt p 0 1))).openEp.toNat = leAt p 4 4) ∧ (leAt p 8 8 % 32 = 0) ∧ ((s.cat (catKey wing.toNat (leAt p 0 1))).head < BitVec.ofNat 64 (leAt p 8 8)) ∧ ((s.cat (catKey wing.toNat (leAt p 0 1))).commit = none) ∧ ((s.cat (catKey wing.toNat (leAt p 0 1))).discardEp = none) ∧ ((s.cat (catKey wing.toNat (leAt p 0 1))).state ≠ .error)) ∧
  (∃ (wing : WingIx) (cat : CatIx) (m : Commit) (r : Run) (b : Bytes) (s : State),
    ((s.cat (catKey wing cat)).busy = some b) ∧ ((s.cat (catKey wing cat)).mode = 0) ∧ ((s.cat (catKey wing cat)).applied = true) ∧ ((s.cat (catKey wing cat)).disableAfter = false) ∧ ((s.cat (catKey wing cat)).discardEp = none) ∧ ((s.cat (catKey wing cat)).commit = some m) ∧ (m.upto = (s.cat (catKey wing cat)).head + BitVec.ofNat 64 (leAt b 4 2)) ∧ (retireRuns (runFinish (s.setCat (catKey wing cat) { s.cat (catKey wing cat) with commit := none }) m.fn m.hub rOK []) wing cat = [])) ∧
  (∃ (wing : WingIx) (cat : CatIx) (m : Commit) (s : State),
    ((s.cat (catKey wing cat)).commit = some m) ∧ ((s.cat (catKey wing cat)).discardEp = none) ∧ (retireRuns s wing cat = [])) ∧
  (∃ (fn : Fn) (hub : Hub) (tag : W32) (wing : Byte) (p : Bytes) (c : Cmd) (s : State),
    (c = sentCmd s 0x0207 fn hub tag wing p) ∧ (accepts s c) ∧ (wing.toNat < 16) ∧ (leAt p 0 1 < 8) ∧ ((s.wing wing.toNat).state = .enabled) ∧ (leAt p 1 1 ≤ 1) ∧ (zeroAt p 2 2 = true) ∧ ((s.cat (catKey wing.toNat (leAt p 0 1))).isOpen = true) ∧ ((s.cat (catKey wing.toNat (leAt p 0 1))).openEp = BitVec.ofNat 32 (leAt p 4 4)) ∧ ((s.cat (catKey wing.toNat (leAt p 0 1))).mode = 0) ∧ ((s.cat (catKey wing.toNat (leAt p 0 1))).commit = none) ∧ ((s.cat (catKey wing.toNat (leAt p 0 1))).applied = false) ∧ ((s.cat (catKey wing.toNat (leAt p 0 1))).disableAfter = false) ∧ (retireRuns s wing.toNat (leAt p 0 1) = [])) ∧
  (∃ (fn : Fn) (hub : Hub) (tag : W32) (wing : Byte) (p : Bytes) (c : Cmd) (s : State),
    (c = sentCmd s 0x0207 fn hub tag wing p) ∧ (accepts s c) ∧ (wing.toNat < 16) ∧ (leAt p 0 1 < 8) ∧ ((s.wing wing.toNat).state = .enabled) ∧ (leAt p 1 1 = 0) ∧ (zeroAt p 2 2 = true) ∧ (¬ ((s.cat (catKey wing.toNat (leAt p 0 1))).isOpen = true ∧ (s.cat (catKey wing.toNat (leAt p 0 1))).openEp = BitVec.ofNat 32 (leAt p 4 4))) ∧ (epLe (BitVec.ofNat 32 (leAt p 4 4)) (s.cat (catKey wing.toNat (leAt p 0 1))).vis = true) ∧ (epLe (BitVec.ofNat 32 (leAt p 4 4)) (oldestLive s wing.toNat (leAt p 0 1)) = true)) ∧
  (∃ (fn : Fn) (hub : Hub) (tag : W32) (wing : Byte) (p : Bytes) (c : Cmd) (s : State),
    (c = sentCmd s 0x0207 fn hub tag wing p) ∧ (accepts s c) ∧ (wing.toNat < 16) ∧ (leAt p 0 1 < 8) ∧ ((s.wing wing.toNat).state = .enabled) ∧ (leAt p 1 1 = 0) ∧ (zeroAt p 2 2 = true) ∧ (¬ ((s.cat (catKey wing.toNat (leAt p 0 1))).isOpen = true ∧ (s.cat (catKey wing.toNat (leAt p 0 1))).openEp = BitVec.ofNat 32 (leAt p 4 4))) ∧ (epLe (BitVec.ofNat 32 (leAt p 4 4)) (s.cat (catKey wing.toNat (leAt p 0 1))).vis = true) ∧ (epLe (BitVec.ofNat 32 (leAt p 4 4)) (oldestLive s wing.toNat (leAt p 0 1)) = false)) ∧
  (∃ (wing : WingIx) (cat : CatIx) (x : Fn × Hub × Run) (s : State),
    (retireRuns s wing cat = [x]) ∧ (x.2.2.data.headD 0 = waitL) ∧ (x.2.2.committed = false) ∧ ((s.cat (catKey wing cat)).discardEp = none) ∧ (epLe (BitVec.ofNat 32 (leAt x.2.2.payload 4 4)) (oldestLive s wing cat) = false)) ∧
  (∃ (wing : WingIx) (cat : CatIx) (x : Fn × Hub × Run) (s : State),
    (retireRuns s wing cat = [x]) ∧ (x.2.2.data.headD 0 = waitL) ∧ ((s.cat (catKey wing cat)).discardEp = none) ∧ (epLe (BitVec.ofNat 32 (leAt x.2.2.payload 4 4)) (oldestLive s wing cat) = true) ∧ (retireRuns (runFinish s x.1 x.2.1 rOK []) wing cat = [])) ∧
  (∃ (wing : WingIx) (cat : CatIx) (ep : W32) (s : State),
    ((s.cat (catKey wing cat)).discardEp = some ep) ∧ ((s.cat (catKey wing cat)).isOpen = false) ∧ ((s.cat (catKey wing cat)).sync ≠ 2)) ∧
  (∃ (wing : WingIx) (cat : CatIx) (f : W32) (s : State),
    forcedEpoch s wing cat = some f) ∧
  (∃ (table : TabIx) (row : W32) (t0 : Table) (s : State),
    s.table table = some t0) ∧
  (∃ (c : Cat) (use : List W32) (vs : List (W32 × Nat)) (e : W32),
    (e ∈ use) ∧ (∀ v ∈ vs, (v.1 - e).toNat ≠ 2 ^ 31)) :=
  ⟨⟨0, 0, 0, 3, [1, 0, 0, 0], sentCmd (wFit .enabled) 0x0205 0 0 0 3 [1, 0, 0, 0], wFit .enabled, by refine ⟨?_, ?_, ?_, ?_, ?_, ?_, ?_, ?_, ?_, ?_, ?_⟩ <;> first | decide | rfl | decide +kernel⟩,
   ⟨0, 0, 0, 3, [1, 0, 0, 0, 8, 0, 0, 0, 32, 0, 0, 0, 0, 0, 0, 0], sentCmd ((wFit .enabled).setCat 25 { Cat.init with isOpen := true, openEp := 8, head := 32 }) 0x0206 0 0 0 3 [1, 0, 0, 0, 8, 0, 0, 0, 32, 0, 0, 0, 0, 0, 0, 0], (wFit .enabled).setCat 25 { Cat.init with isOpen := true, openEp := 8, head := 32 }, by refine ⟨?_, ?_, ?_, ?_, ?_, ?_, ?_, ?_, ?_, ?_, ?_, ?_, ?_, ?_, ?_, ?_⟩ <;> first | decide | rfl | decide +kernel⟩,
   ⟨0, 0, 0, 3, [1, 0, 0, 0, 8, 0, 0, 0, 32, 0, 0, 0, 0, 0, 0, 0], sentCmd ((wFit .enabled).setCat 25 { Cat.init with isOpen := true, openEp := 8 }) 0x0206 0 0 0 3 [1, 0, 0, 0, 8, 0, 0, 0, 32, 0, 0, 0, 0, 0, 0, 0], (wFit .enabled).setCat 25 { Cat.init with isOpen := true, openEp := 8 }, by refine ⟨?_, ?_, ?_, ?_, ?_, ?_, ?_, ?_, ?_, ?_, ?_, ?_, ?_, ?_, ?_⟩ <;> first | decide | rfl | decide +kernel⟩,
   ⟨3, 1, { fn := 0, hub := 0, epoch := 8, step := 2, upto := 0 }, wRun 0x0206 [], [], (wRunning 0x0206 []).setCat 25 { Cat.init with busy := some [], applied := true, isOpen := true, openEp := 8, commit := some { fn := 0, hub := 0, epoch := 8, step := 2, upto := 0 } }, by refine ⟨?_, ?_, ?_, ?_, ?_, ?_, ?_, ?_⟩ <;> first | decide | rfl | decide +kernel⟩,
   ⟨3, 1, { fn := 0, hub := 0, epoch := 8, step := 2, upto := 64 }, (wRunning 0x0206 []).setCat 25 { Cat.init with isOpen := true, openEp := 8, limit := 64, commit := some { fn := 0, hub := 0, epoch := 8, step := 2, upto := 64 } }, by refine ⟨?_, ?_, ?_⟩ <;> first | decide | rfl | decide +kernel⟩,
   ⟨0, 0, 0, 3, [1, 0, 0, 0, 8, 0, 0, 0], sentCmd ((wFit .enabled).setCat 25 { Cat.init with isOpen := true, openEp := 8 }) 0x0207 0 0 0 3 [1, 0, 0, 0, 8, 0, 0, 0], (wFit .enabled).setCat 25 { Cat.init with isOpen := true, openEp := 8 }, by refine ⟨?_, ?_, ?_, ?_, ?_, ?_, ?_, ?_, ?_, ?_, ?_, ?_, ?_, ?_⟩ <;> first | decide | rfl | decide +kernel⟩,
   ⟨0, 0, 0, 3, [1, 0, 0, 0, 8, 0, 0, 0], sentCmd ((wFit .enabled).setCat 25 { Cat.init with vis := 9 }) 0x0207 0 0 0 3 [1, 0, 0, 0, 8, 0, 0, 0], (wFit .enabled).setCat 25 { Cat.init with vis := 9 }, by refine ⟨?_, ?_, ?_, ?_, ?_, ?_, ?_, ?_, ?_, ?_⟩ <;> first | decide | rfl | decide +kernel⟩,
   ⟨0, 0, 0, 3, [1, 0, 0, 0, 9, 0, 0, 0], sentCmd (wPinEp) 0x0207 0 0 0 3 [1, 0, 0, 0, 9, 0, 0, 0], wPinEp, by refine ⟨?_, ?_, ?_, ?_, ?_, ?_, ?_, ?_, ?_, ?_⟩ <;> first | decide | rfl | decide +kernel⟩,
   ⟨3, 1, (0, 0, wRet), wS.setMbox 0 { Mbx.init with run := some wRet }, by refine ⟨?_, ?_, ?_, ?_, ?_⟩ <;> first | decide | rfl | decide +kernel⟩,
   ⟨3, 1, (0, 0, wRet), (wS.setCat 25 { Cat.init with vis := 9 }).setMbox 0 { Mbx.init with run := some wRet }, by refine ⟨?_, ?_, ?_, ?_, ?_⟩ <;> first | decide | rfl | decide +kernel⟩,
   ⟨3, 1, 8, wS.setCat 25 { Cat.init with discardEp := some 8 }, by refine ⟨?_, ?_, ?_⟩ <;> first | decide | rfl | decide +kernel⟩,
   ⟨3, 1, 2, wStall, by first | decide | rfl | decide +kernel⟩,
   ⟨0, 5, wTabR, wGat, by first | decide | rfl | decide +kernel⟩,
   ⟨Cat.init, [7], [(9, 3), (8, 2), (5, 1)], 7, by refine ⟨?_, ?_⟩ <;> first | decide | rfl | decide +kernel⟩⟩

theorem test_met_MatrixIntegersAreExactRoundedAndClamped :
  (∃ (x : MxParam) (a b : List Int),
    a.length = b.length) ∧
  (∃ (x : MxParam) (fa fb : Nat) (a b : List Int),
    (fa < 4) ∧ (fb < 4) ∧ (a.length = b.length) ∧ (a.length ≤ 32768) ∧ (∀ v ∈ a, fmtLo fa ≤ v ∧ v ≤ fmtHi fa) ∧ (∀ v ∈ b, fmtLo fb ≤ v ∧ v ≤ fmtHi fb) ∧ (fmtLo fa ≤ x.za ∧ x.za ≤ fmtHi fa) ∧ (fmtLo fb ≤ x.zb ∧ x.zb ≤ fmtHi fb)) ∧
  (∃ (x : MxParam) (a b : List Int) (c : Nat),
    (c < 6) ∧ (x.fo = mxOutFmt c) ∧ (x.intOut = true)) :=
  ⟨⟨mxEntry [0, 0x32, 3] ([0x1F, 0x85, 0xEB, 0x51, 0, 0, 0, 0, 0x9C, 0xFF, 0xFF, 0xFF, 37, 0, 3, 0]), [130, 120, 200, 128], [10, -5, 7, 3], by first | decide | rfl | decide +kernel⟩,
   ⟨mxEntry [0, 0x32, 3] ([0x1F, 0x85, 0xEB, 0x51, 0, 0, 0, 0, 0x9C, 0xFF, 0xFF, 0xFF, 37, 0, 3, 0]), 2, 3, [130, 120, 200, 128], [10, -5, 7, 3], by refine ⟨?_, ?_, ?_, ?_, ?_, ?_, ?_, ?_⟩ <;> first | decide | rfl | decide +kernel⟩,
   ⟨mxEntry [0, 0x32, 0] ([0x1F, 0x85, 0xEB, 0x51, 0, 0, 0, 0, 0x9C, 0xFF, 0xFF, 0xFF, 37, 0, 3, 0]), [130, 120, 200, 128], [10, -5, 7, 3], 0, by refine ⟨?_, ?_, ?_⟩ <;> first | decide | rfl | decide +kernel⟩⟩

theorem test_met_VectorIntegersAreExactAndClamped :
  (∃ (ct : Nat) (a b : Int),
    (ct = 8 ∨ ct = 9) ∧ (fmtLo ct ≤ a ∧ a ≤ fmtHi ct) ∧ (fmtLo ct ≤ b ∧ b ≤ fmtHi ct)) :=
  ⟨9, -2147483648, 2147483647, by refine ⟨?_, ?_, ?_⟩ <;> first | decide | rfl | decide +kernel⟩

theorem test_met_EnginesCompleteTheirDescriptors :
  (∃ (unit : Fin 40) (l : Launch) (x : State) (s : State),
    (granted s (.mu unit) = some l) ∧ (mxRun s (docHalf s l.doc) l = (x, none)) ∧ (mxOverlap l.desc = false) ∧ (l.dirty = false)) ∧
  (∃ (unit : Fin 40) (l : Launch) (x : State) (f : Byte × Nat) (s : State),
    (granted s (.mu unit) = some l) ∧ (mxRun s (docHalf s l.doc) l = (x, some f)) ∧ (mxOverlap l.desc = false) ∧ (l.dirty = false)) ∧
  (∃ (unit : Fin 40) (l : Launch) (n : Nat) (bad : Sram) (s : State),
    granted s (.mu unit) = some l) ∧
  (∃ (cell : Cell) (l : Launch) (x : VecRun) (s : State),
    (granted s (.ve cell) = some l) ∧ (veRun s (docHalf s l.doc) l = x) ∧ (x.bad = false) ∧ (veOverlap l.desc = false) ∧ (l.dirty = false)) ∧
  (∃ (cell : Cell) (l : Launch) (x : VecRun) (s : State),
    (granted s (.ru cell) = some l) ∧ (ruRun s (docHalf s l.doc) l = x) ∧ (x.bad = false) ∧ (ruOverlap l.desc = false) ∧ (l.dirty = false)) ∧
  (∃ (cell : Cell) (l : Launch) (x : VecRun) (s : State),
    (granted s (.ve cell) = some l) ∧ (veRun s (docHalf s l.doc) l = x) ∧ (x.bad = true) ∧ (veOverlap l.desc = false) ∧ (l.dirty = false)) ∧
  (∃ (unit : Fin 40) (q : Dup) (s : State),
    s.dups.find? (fun q => q.checker == unit.val) = some q) ∧
  (∃ (unit : Fin 40) (q : Dup) (product : Bytes) (s : State),
    (s.dups.find? (fun q => q.checker == unit.val) = some q) ∧ (crc64 product = q.digest)) ∧
  (∃ (unit : Fin 40) (q : Dup) (product : Bytes) (s : State),
    (s.dups.find? (fun q => q.checker == unit.val) = some q) ∧ (crc64 product ≠ q.digest) ∧ (s.findReq q.req = none)) ∧
  (∃ (unit : Fin 40) (q : Dup) (n : Nat) (s : State),
    s.dups.find? (fun q => q.checker == unit.val) = some q) :=
  ⟨⟨38, wLau (.mu 38) wMx, (mxRun (wEng (wLau (.mu 38) wMx)) 15 (wLau (.mu 38) wMx)).1, wEng (wLau (.mu 38) wMx), by refine ⟨?_, ?_, ?_, ?_⟩ <;> first | decide | rfl | decide +kernel⟩,
   ⟨38, wLau (.mu 38) wMxE, (mxRun (wEngE (wLau (.mu 38) wMxE)) 15 (wLau (.mu 38) wMxE)).1, (rSCALE_INVALID, 8), wEngE (wLau (.mu 38) wMxE), by refine ⟨?_, ?_, ?_, ?_⟩ <;> first | decide | rfl | decide +kernel⟩,
   ⟨38, wLau (.mu 38) wMx, 5, .clean, wEng (wLau (.mu 38) wMx), by first | decide | rfl | decide +kernel⟩,
   ⟨7, wLau (.ve 7) wVe, veRun (wEng (wLau (.ve 7) wVe)) 15 (wLau (.ve 7) wVe), wEng (wLau (.ve 7) wVe), by refine ⟨?_, ?_, ?_, ?_, ?_⟩ <;> first | decide | rfl | decide +kernel⟩,
   ⟨7, wLau (.ru 7) wRu, ruRun (wEng (wLau (.ru 7) wRu)) 15 (wLau (.ru 7) wRu), wEng (wLau (.ru 7) wRu), by refine ⟨?_, ?_, ?_, ?_, ?_⟩ <;> first | decide | rfl | decide +kernel⟩,
   ⟨7, wLau (.ve 7) wVe, veRun (spSpoil (wEng (wLau (.ve 7) wVe)) 15 0) 15 (wLau (.ve 7) wVe), spSpoil (wEng (wLau (.ve 7) wVe)) 15 0, by refine ⟨?_, ?_, ?_, ?_, ?_⟩ <;> first | decide | rfl | decide +kernel⟩,
   ⟨1, wDup, { wS with dups := [wDup] }, by first | decide | rfl | decide +kernel⟩,
   ⟨1, wDup, [1, 2], { wS with dups := [wDup] }, by refine ⟨?_, ?_⟩ <;> first | decide | rfl | decide +kernel⟩,
   ⟨1, wDup, [1, 3], { wS with dups := [wDup] }, by refine ⟨?_, ?_, ?_⟩ <;> first | decide | rfl | decide +kernel⟩,
   ⟨1, wDup, 7, { wS with dups := [wDup] }, by first | decide | rfl | decide +kernel⟩⟩

theorem test_met_StreamsAndCheckpoints :
  (∃ (eng : EngIx) (hm : HostMem) (l : Launch) (wx : WingIx) (m : Moved) (s : State),
    (granted s (.strm eng) = some l) ∧ (l.halted = false) ∧ (l.tile < stTiles l.desc) ∧ (ringFree (s.doc l.doc) eng l.desc = true) ∧ (ckptHeld s l.req = false) ∧ (launchWing s l = some wx) ∧ (moveTile (prefetch s eng l wx) eng l wx hm = m) ∧ (m.stop = none)) ∧
  (∃ (eng : EngIx) (hm : HostMem) (l : Launch) (wx : WingIx) (m : Moved) (x : Access Unit) (s : State),
    (granted s (.strm eng) = some l) ∧ (l.halted = false) ∧ (l.tile < stTiles l.desc) ∧ (ringFree (s.doc l.doc) eng l.desc = true) ∧ (ckptHeld s l.req = false) ∧ (launchWing s l = some wx) ∧ (moveTile (prefetch s eng l wx) eng l wx hm = m) ∧ (m.stop = some x)) ∧
  (∃ (e : Nat) (l : Launch) (s : State),
    (s.doc l.doc).stall = .none) ∧
  (∃ (eng : EngIx) (l : Launch) (s : State),
    (granted s (.strm eng) = some l) ∧ (stTiles l.desc ≤ l.tile) ∧ (l.dirty = false) ∧ (stOverlap l.desc = false)) ∧
  (∃ (s : State) (d i : Nat),
    (stopping s ((s.doc d).req.getD 0) = false) ∧ (clocksStopped s ((s.doc d).req.getD 0) = false) ∧ ((s.doc d).req ≠ none) ∧ (s.now - (s.doc d).intervalStart ≤ ptInterval ((s.doc d).sched.getD i [])) ∧ (∀ k, k < 8 → ptGate ((s.doc d).sched.getD i []) k = true → ptNeed ((s.doc d).sched.getD i []) k ≤ (s.doc d).available k) ∧ (∀ k, k < 8 → ptCons ((s.doc d).sched.getD i []) k = true → ptTake ((s.doc d).sched.getD i []) k ≤ (s.doc d).available k)) ∧
  (∃ (s : State) (d i : Nat),
    (stopping s ((s.doc d).req.getD 0) = false) ∧ (clocksStopped s ((s.doc d).req.getD 0) = false) ∧ ((s.doc d).req ≠ none) ∧ (ptInterval ((s.doc d).sched.getD i []) < s.now - (s.doc d).intervalStart)) ∧
  (∃ (doc : DocIx) (i id : Nat) (s : State),
    (syncPoint (s.doc doc) = some i) ∧ ((s.doc doc).req = some id) ∧ (clocksStopped s id = false) ∧ ((s.doc doc).stopped = false) ∧ ((s.doc doc).state = .running)) ∧
  (∃ (req : Nat) (r : Req) (d : Nat) (rest : List Nat) (s : State),
    (s.findReq req = some r) ∧ (r.phase = .running) ∧ (clocksStopped s req = false) ∧ (r.ended = false) ∧ (notEnded s req = d :: rest)) ∧
  (∃ (s : State) (d kind point : Nat) (id : Nat) (r : Req),
    ((s.doc d).fault = none) ∧ ((s.doc d).req = some id) ∧ (s.findReq id = some r)) ∧
  (∃ (eng : EngIx) (hm : HostMem) (l : Launch) (wx : WingIx) (page f : Nat) (hf : f < 256) (m : Moved) (s : State),
    (granted s (.strm eng) = some l) ∧ (launchWing s l = some wx) ∧ (absentPage s eng l wx = some page) ∧ (s.hostFn wx = some f) ∧ (l.halted = false) ∧ (isLent s wx = true) ∧ (priEnabled s f = true) ∧ (ringFree (s.doc l.doc) eng l.desc = true) ∧ (ckptHeld s l.req = false) ∧ (moveBefore s eng l wx hm page = m) ∧ (m.stop = none)) ∧
  (∃ (req : Nat) (r : Req) (s : State),
    (s.findReq req = some r) ∧ (r.ckptReq = true) ∧ (r.isDone = false) ∧ (r.phase ≠ .suspended) ∧ (ckptStopped s req = false)) ∧
  (∃ (req : Nat) (r : Req) (s : State),
    (s.findReq req = some r) ∧ (r.ckptReq = true) ∧ (r.isDone = false) ∧ (r.phase ≠ .suspended) ∧ (reqDocents s req ≠ []) ∧ (ckptStopped s req = true) ∧ (engineBusy s req = false) ∧ (s.dups.any (fun q => q.req == req) = false) ∧ (s.ckpts.length + r.halves.length ≤ 32) ∧ (copyBad s r = none)) ∧
  (∃ (req : Nat) (r : Req) (s : State),
    (s.findReq req = some r) ∧ (r.ckptReq = true) ∧ (r.isDone = false) ∧ (r.phase ≠ .suspended) ∧ (reqDocents s req ≠ []) ∧ (ckptStopped s req = true) ∧ (engineBusy s req = false) ∧ (s.dups.any (fun q => q.req == req) = false) ∧ (32 < s.ckpts.length + r.halves.length)) ∧
  (∃ (req : Nat) (r : Req) (h o : Nat) (s : State),
    (s.findReq req = some r) ∧ (r.ckptReq = true) ∧ (r.isDone = false) ∧ (r.phase ≠ .suspended) ∧ (reqDocents s req ≠ []) ∧ (ckptStopped s req = true) ∧ (engineBusy s req = false) ∧ (s.dups.any (fun q => q.req == req) = false) ∧ (s.ckpts.length + r.halves.length ≤ 32) ∧ (copyBad s r = some (h, o))) ∧
  (∃ (wing : WingIx) (r : Req) (s : State),
    (((s.reqs.filter fun r => r.wing.val == wing.val && decide (r.phase = .suspended)).find? fun r => decide (r.needHalf ≤ (idleHalves s wing r.reduced).length)) = some r) ∧ (s.holderHub ≠ none) ∧ ((s.ckpts.any fun c => c.req == r.id && c.root != wingRoot s wing) = false)) ∧
  (∃ (wing : WingIx) (r : Req) (s : State),
    (((s.reqs.filter fun r => r.wing.val == wing.val && decide (r.phase = .suspended)).find? fun r => decide (r.needHalf ≤ (idleHalves s wing r.reduced).length)) = some r) ∧ (s.holderHub ≠ none) ∧ ((s.ckpts.any fun c => c.req == r.id && c.root != wingRoot s wing) = true)) ∧
  (∃ (s : State) (r : Req) (h : Nat) (c : Ckpt),
    ((s.ckpts.filter fun c => c.req == r.id) = [c]) ∧ (c.index = 0) ∧ (∀ x ∈ c.mem, x.1 < r.scratch) ∧ (c.mem.wf = true)) :=
  ⟨⟨120, wHmS, wLau (.strm 120) wSt, 3, moveTile (prefetch wStr 120 (wLau (.strm 120) wSt) 3) 120 (wLau (.strm 120) wSt) 3 wHmS, wStr, by refine ⟨?_, ?_, ?_, ?_, ?_, ?_, ?_, ?_⟩ <;> first | decide | rfl | decide +kernel⟩,
   ⟨120, [], wLau (.strm 120) wSt, 3, moveTile (prefetch wStr0 120 (wLau (.strm 120) wSt) 3) 120 (wLau (.strm 120) wSt) 3 [], .missing, wStr0, by refine ⟨?_, ?_, ?_, ?_, ?_, ?_, ?_, ?_⟩ <;> first | decide | rfl | decide +kernel⟩,
   ⟨120, wLau (.strm 120) wSt, wStr, by first | decide | rfl | decide +kernel⟩,
   ⟨120, { wLau (.strm 120) wSt with tile := 1 }, { wStr with launches := [{ wLau (.strm 120) wSt with tile := 1 }] }, by refine ⟨?_, ?_, ?_, ?_⟩ <;> first | decide | rfl | decide +kernel⟩,
   ⟨(wDoc 0).updDoc 38 (fun x => { x with sched := [leBytes 32 1] }), 38, 0, by refine ⟨?_, ?_, ?_, ?_, ?_, ?_⟩ <;> first | decide | rfl | decide +kernel⟩,
   ⟨{ (wDoc 0).updDoc 38 (fun x => { x with sched := [leBytes 32 1] }) with clk := { wS.clk with units := List.replicate 20 9 } }, 38, 0, by refine ⟨?_, ?_, ?_, ?_⟩ <;> first | decide | rfl | decide +kernel⟩,
   ⟨38, 0, 0, (wDocR 0).updDoc 38 fun x => { x with stall := .sync 0 }, by refine ⟨?_, ?_, ?_, ?_, ?_⟩ <;> first | decide | rfl | decide +kernel⟩,
   ⟨0, { wReqS with docs := [38] }, 38, [], { wDocR 0 with reqs := [{ wReqS with docs := [38] }] }, by refine ⟨?_, ?_, ?_, ?_, ?_⟩ <;> first | decide | rfl | decide +kernel⟩,
   ⟨wDocR 0, 38, 1, 0, 0, wReqS, by refine ⟨?_, ?_, ?_⟩ <;> first | decide | rfl | decide +kernel⟩,
   ⟨120, [], wLau (.strm 120) wSt, 3, 16, 0, by decide, moveBefore wStrH 120 (wLau (.strm 120) wSt) 3 [] 16, wStrH, by refine ⟨?_, ?_, ?_, ?_, ?_, ?_, ?_, ?_, ?_, ?_, ?_⟩ <;> first | decide | rfl | decide +kernel⟩,
   ⟨0, { wReqS with ckptReq := true, docs := [38] }, { wDocR 0 with reqs := [{ wReqS with ckptReq := true, docs := [38] }] }, by refine ⟨?_, ?_, ?_, ?_, ?_⟩ <;> first | decide | rfl | decide +kernel⟩,
   ⟨0, { wReqS with ckptReq := true, docs := [38], halves := [15] }, { (wDocR 0).updDoc 38 (fun x => { x with stopped := true, sched := [leBytes 32 1] }) with reqs := [{ wReqS with ckptReq := true, docs := [38], halves := [15] }] }, by refine ⟨?_, ?_, ?_, ?_, ?_, ?_, ?_, ?_, ?_, ?_⟩ <;> first | decide | rfl | decide +kernel⟩,
   ⟨0, { wReqS with ckptReq := true, docs := [38], halves := List.replicate 33 15 }, { (wDocR 0).updDoc 38 (fun x => { x with stopped := true, sched := [leBytes 32 1] }) with reqs := [{ wReqS with ckptReq := true, docs := [38], halves := List.replicate 33 15 }] }, by refine ⟨?_, ?_, ?_, ?_, ?_, ?_, ?_, ?_, ?_⟩ <;> first | decide | rfl | decide +kernel⟩,
   ⟨0, { wReqS with ckptReq := true, docs := [38], halves := [15], scratch := 8 }, 15, 0, { (wDocR 0).updDoc 38 (fun x => { x with stopped := true, sched := [leBytes 32 1] }) with reqs := [{ wReqS with ckptReq := true, docs := [38], halves := [15], scratch := 8 }], spBad := [15 * 6291456] }, by refine ⟨?_, ?_, ?_, ?_, ?_, ?_, ?_, ?_, ?_, ?_⟩ <;> first | decide | rfl | decide +kernel⟩,
   ⟨3, wReqSus, wSus, by refine ⟨?_, ?_, ?_⟩ <;> first | decide | rfl | decide +kernel⟩,
   ⟨3, wReqSus, { wSus with ckpts := [{ wCk with root := [1] }] }, by refine ⟨?_, ?_, ?_⟩ <;> first | decide | rfl | decide +kernel⟩,
   ⟨wSus, wReqSus, 15, wCk, by refine ⟨?_, ?_, ?_, ?_⟩ <;> first | decide | rfl | decide +kernel⟩⟩

theorem test_met_DramLinesAreReadWrittenAndScrubbed :
  (∃ (addr : BitVec 39) (errs : Fin 3) (tagOk : Bool) (data : Bytes) (s : State),
    dramSize ≤ addr.toNat) ∧
  (∃ (addr : BitVec 39) (tagOk : Bool) (errs : Fin 3) (s : State),
    (addr.toNat < dramSize) ∧ (s.vlt.mode ≠ .error) ∧ (errs.val ≠ 2) ∧ (structLine s addr.toNat = none) ∧ ((s.line (lineOf addr.toNat)).bad ≠ .uncorrectable) ∧ ((s.line (lineOf addr.toNat)).gen ≠ (s.ext (extOf addr.toNat)).gen)) ∧
  (∃ (addr : BitVec 39) (errs : Fin 3) (s : State),
    (addr.toNat < dramSize) ∧ (s.vlt.mode ≠ .error) ∧ (errs.val ≠ 2) ∧ (structLine s addr.toNat = none) ∧ (lineFound s addr.toNat = .data)) ∧
  (∃ (addr : BitVec 39) (errs : Fin 3) (tagOk : Bool) (s : State),
    (addr.toNat < dramSize) ∧ (s.vlt.mode ≠ .error) ∧ (lineFound s addr.toNat = .bad ∨ (errs.val = 2 ∧ (s.line (lineOf addr.toNat)).bad ≠ .poison) ∨ (tagOk = false ∧ lineFound s addr.toNat = .data)) ∧ (structLine s addr.toNat = none)) ∧
  (∃ (addr : BitVec 39) (tagOk : Bool) (b : Bytes) (s : State),
    (addr.toNat < dramSize) ∧ (s.vlt.mode ≠ .error) ∧ (structLine s addr.toNat = some b)) ∧
  (∃ (a : Nat) (s : State),
    (s.line (lineOf a)).bad ≠ .poison ∨ (s.line (lineOf a)).gen ≠ (s.ext (extOf a)).gen) ∧
  (∃ (addr : BitVec 39) (data : Bytes) (errs : Fin 3) (s : State),
    (addr.toNat < dramSize) ∧ (s.vlt.mode ≠ .error) ∧ (unused47 addr.toNat = false) ∧ (addr.toNat % 64 = 0) ∧ (data.length = 64) ∧ (nextCount s addr.toNat < 2 ^ 31 - 1)) ∧
  (∃ (addr : BitVec 39) (data : Bytes) (s : State),
    (addr.toNat < dramSize) ∧ (s.vlt.mode ≠ .error) ∧ (unused47 addr.toNat = false) ∧ (data ≠ []) ∧ (addr.toNat % 64 + data.length < 64) ∧ (nextCount s addr.toNat < 2 ^ 31 - 1) ∧ (lineFound s addr.toNat = .data)) ∧
  (∃ (addr : BitVec 39) (data : Bytes) (s : State),
    (addr.toNat < dramSize) ∧ (s.vlt.mode ≠ .error) ∧ (unused47 addr.toNat = false) ∧ (data ≠ []) ∧ (addr.toNat % 64 + data.length < 64) ∧ (nextCount s addr.toNat < 2 ^ 31 - 1) ∧ (lineFound s addr.toNat = .bad) ∧ ((s.line (lineOf addr.toNat)).bad = .poison)) ∧
  (∃ (addr : BitVec 39) (errs : Fin 3) (s : State),
    (addr.toNat < dramSize) ∧ (s.vlt.mode ≠ .error) ∧ (lineFound s addr.toNat = .bad ∨ (errs.val = 2 ∧ (s.line (lineOf addr.toNat)).bad ≠ .poison))) ∧
  (∃ (addr : BitVec 39) (s : State),
    (addr.toNat < dramSize) ∧ (s.vlt.mode ≠ .error) ∧ (lineFound s addr.toNat = .data)) ∧
  (∃ (ext : ExtIx) (s : State),
    ((s.ext ext).rolling = true) ∧ ((s.ext ext).keyLoaded = false) ∧ (s.lineWaits = []) ∧ (s.bar2Waits = [])) ∧
  (∃ (ext : ExtIx) (s : State),
    ((s.ext ext).rolling = true) ∧ ((s.ext ext).keyLoaded = false) ∧ ((s.ext ext).keyLate = false)) ∧
  (∃ (ext : ExtIx) (s : State),
    ((s.ext ext).rolling = true) ∧ ((s.ext ext).keyLoaded = true) ∧ (Tbl.wf LineMeta.init s.lines = true)) :=
  ⟨⟨0x6000000000, 0, true, [], wS, by first | decide | rfl | decide +kernel⟩,
   ⟨0x5FFFFFFFFF, false, 1, wS.setExt 383 { wS.ext 383 with gen := 7 }, by refine ⟨?_, ?_, ?_, ?_, ?_, ?_⟩ <;> first | decide | rfl | decide +kernel⟩,
   ⟨0x40000020, 0, wLine .good, by refine ⟨?_, ?_, ?_, ?_, ?_⟩ <;> first | decide | rfl | decide +kernel⟩,
   ⟨0x40000020, 2, true, wLine .good, by refine ⟨?_, ?_, ?_, ?_⟩ <;> first | decide | rfl | decide +kernel⟩,
   ⟨0xBC00000C0, true, (structLine wLog 0xBC00000C0).getD [], wLog, by refine ⟨?_, ?_, ?_⟩ <;> first | decide | rfl | decide +kernel⟩,
   ⟨0, wS, by first | decide | rfl | decide +kernel⟩,
   ⟨0x40000000, List.replicate 64 7, 0, wLine .poison, by refine ⟨?_, ?_, ?_, ?_, ?_, ?_⟩ <;> first | decide | rfl | decide +kernel⟩,
   ⟨0x40000021, [9, 9], wLine .good, by refine ⟨?_, ?_, ?_, ?_, ?_, ?_, ?_⟩ <;> first | decide | rfl | decide +kernel⟩,
   ⟨0x40000021, [9, 9], wLine .poison, by refine ⟨?_, ?_, ?_, ?_, ?_, ?_, ?_, ?_⟩ <;> first | decide | rfl | decide +kernel⟩,
   ⟨0x40000000, 2, wLine .good, by refine ⟨?_, ?_, ?_⟩ <;> first | decide | rfl | decide +kernel⟩,
   ⟨0x40000000, wLine .good, by refine ⟨?_, ?_, ?_⟩ <;> first | decide | rfl | decide +kernel⟩,
   ⟨1, wS.setExt 1 { wS.ext 1 with rolling := true }, by refine ⟨?_, ?_, ?_, ?_⟩ <;> first | decide | rfl | decide +kernel⟩,
   ⟨383, wS.setExt 383 { wS.ext 383 with rolling := true }, by refine ⟨?_, ?_, ?_⟩ <;> first | decide | rfl | decide +kernel⟩,
   ⟨1, wS.setExt 1 { wS.ext 1 with rolling := true, keyLoaded := true, phase := true, key0 := some [], key1 := some [1] }, by refine ⟨?_, ?_, ?_⟩ <;> first | decide | rfl | decide +kernel⟩⟩

theorem test_met_TranslationsComeAndGo :
  (∃ (fn : Fn) (hub : Hub) (tag : W32) (wing : Byte) (p : Bytes) (c : Cmd) (s : State),
    (c = sentCmd s 0x0301 fn hub tag wing p) ∧ (accepts s c) ∧ (wing.toNat < 16) ∧ (fld (leAt p 6 1) 1 7 = 0) ∧ (zeroAt p 7 1 = true) ∧ (bit (leAt p 6 1) 0 = (syncRanges p).isEmpty) ∧ (∀ r ∈ syncRanges p, r.1 < 2 ^ 48 ∧ r.1 % 65536 = 0 ∧ r.2 % 65536 = 0 ∧ r.2 ≠ 0 ∧ r.1 + r.2 ≤ 2 ^ 48) ∧ (BitVec.ofNat 32 (leAt p 0 4) ≠ 0) ∧ ((s.wing wing.toNat).tsyncGen = 0 ∨ epPrec (s.wing wing.toNat).tsyncGen (BitVec.ofNat 32 (leAt p 0 4)) = true) ∧ (syncRunning s wing = false)) ∧
  (∃ (loc : Fin 10) (wing : WingIx) (va : BitVec 48) (write : Bool) (s s1 : State) (x : Xlat),
    (translate s (walkSite s loc wing) wing va.toNat write = (s1, x)) ∧ (x ≠ .outside)) ∧
  (∃ (loc : Fin 10) (wing : WingIx) (va : BitVec 48) (write : Bool) (s s1 : State),
    translate s (walkSite s loc wing) wing va.toNat write = (s1, .outside)) ∧
  (∃ (s : State) (site : Site) (wx : WingIx) (va : Nat) (write : Bool) (s1 : State) (a : Nat),
    translate s site wx va write = (s1, .dev a)) ∧
  (∃ (s : State) (site : Site) (w va : Nat) (x : TlbEntry),
    tlbHit s site w va = some x) ∧
  (∃ (fn : Fn) (addr bytes : W64) (scope : AtsScope) (s : State),
    (s.alive = true) ∧ (s.dlActive = true)) ∧
  (∃ (fn : Fn) (page : AtsPage) (rd wr need : Bool) (s : State) (q : QueIx),
    (s.alive = true) ∧ ((s.atsReqs.any fun r => r.1 == fn && r.2.1 == page.page.toNat / 4096) = true) ∧ ((if need then wr else rd) = true) ∧ (s.priReqs = []) ∧ (s.ats.length < 16384)) ∧
  (∃ (fn : Fn) (page : AtsPage) (s : State) (q : QueIx),
    (s.alive = true) ∧ ((s.atsReqs.any fun r => r.1 == fn && r.2.1 == page.page.toNat / 4096) = true) ∧ (s.priReqs = []) ∧ ((s.que q).state = .enabled ∨ (s.que q).state = .halted)) ∧
  (∃ (q : QueIx) (poisoned : Bool) (s : State),
    (s.que q).state = .enabled ∨ (s.que q).state = .halted) ∧
  (∃ (w : WingIx) (c : CatIx) (poisoned : Bool) (s : State),
    (s.cat (catKey w c)).state = .enabled) ∧
  (∃ (fn : Fn) (page : BitVec 48) (r : PriReq) (s : State),
    (s.priReqs.filter fun r => r.fn == fn && r.issued && !r.again && r.page.toNat / 4096 == page.toNat / 4096) = [r]) ∧
  (∃ (fn : Fn) (page : BitVec 48) (r : PriReq) (s : State),
    (s.priReqs.filter fun r => r.fn == fn && r.issued && !r.again && r.page.toNat / 4096 == page.toNat / 4096) = [r]) ∧
  (∃ (fn : Fn) (page : BitVec 48) (s : State),
    (s.priReqs.any fun r => r.fn == fn && r.issued && !r.again && r.page.toNat / 4096 == page.toNat / 4096) = true) :=
  ⟨⟨0, 0, 0, 3, [2, 0, 0, 0, 0, 0, 1, 0], sentCmd (wFit .enabled) 0x0301 0 0 0 3 [2, 0, 0, 0, 0, 0, 1, 0], wFit .enabled, by refine ⟨?_, ?_, ?_, ?_, ?_, ?_, ?_, ?_, ?_, ?_⟩ <;> first | decide | rfl | decide +kernel⟩,
   ⟨8, 3, 0, false, wMap (wFit .enabled), wMap (wFit .enabled), .dev 0x40000000, by refine ⟨?_, ?_⟩ <;> first | decide | rfl | decide +kernel⟩,
   ⟨8, 3, 0, false, wMap wS, wMap wS, by first | decide | rfl | decide +kernel⟩,
   ⟨wMap (wFit .enabled), { loc := 8, tag := 0, eng := none }, 3, 5, true, wMap (wFit .enabled), 0x40000005, by first | decide | rfl | decide +kernel⟩,
   ⟨wMap (wFit .enabled), { loc := 8, tag := 0, eng := none }, 3, 0, { loc := 8, wing := 3, page := 0, size := 65536, host := false, target := 0x40000000, writable := true, gen := 0, tag := 0 }, by first | decide | rfl | decide +kernel⟩,
   ⟨0, 0, 4096, { all := false, pasid := none }, wS, by refine ⟨?_, ?_⟩ <;> first | decide | rfl | decide +kernel⟩,
   ⟨0, { page := 0x10000, dest := 0x90000 }, true, false, false, { wS with atsReqs := [(0, 16, .queue 9)] }, 9, by refine ⟨?_, ?_, ?_, ?_, ?_⟩ <;> first | decide | rfl | decide +kernel⟩,
   ⟨0, { page := 0x10000, dest := 0x90000 }, { wS.setQue 9 { Que.init with state := .enabled } with atsReqs := [(0, 16, .queue 9)] }, 9, by refine ⟨?_, ?_, ?_, ?_⟩ <;> first | decide | rfl | decide +kernel⟩,
   ⟨9, true, wS.setQue 9 { Que.init with state := .halted }, by first | decide | rfl | decide +kernel⟩,
   ⟨3, 1, false, wS.setCat 25 { Cat.init with state := .enabled }, by first | decide | rfl | decide +kernel⟩,
   ⟨0, 0x10000, wPri, { wStrH with priReqs := [wPri] }, by first | decide | rfl | decide +kernel⟩,
   ⟨0, 0x10000, wPri, { wStrH with priReqs := [wPri] }, by first | decide | rfl | decide +kernel⟩,
   ⟨0, 0x10000, { wStrH with priReqs := [wPri] }, by first | decide | rfl | decide +kernel⟩⟩

theorem test_met_Bar2ReachesOwnMemoryOnly :
  (∃ (fn : Fn) (off : BitVec 39) (len : Fin 65) (data : Bytes) (tee : Bool) (s : State),
    (s.alive = true) ∧ (s.dlActive = true) ∧ (memOpen s fn = true) ∧ (teeOnly s fn = false ∨ tee = true) ∧ (off.toNat < 0x6000000000) ∧ (s.vlt.mode ≠ .error) ∧ ((bar2Target s off.toNat).2 = true) ∧ (∃ w, (bar2Target s off.toNat).1 = some w ∧ bar2Mine s fn w = true)) ∧
  (∃ (fn : Fn) (off : BitVec 39) (len : Fin 65) (data : Bytes) (tee : Bool) (s : State),
    portHeld s fn = true) ∧
  (∃ (fn : Fn) (off : BitVec 39) (len : Fin 65) (data : Bytes) (tee : Bool) (s : State),
    (s.alive = true) ∧ (s.dlActive = true) ∧ (memOpen s fn = true) ∧ (teeOnly s fn = false ∨ tee = true) ∧ (0x6000000000 ≤ off.toNat) ∧ (off.toNat < 0x6030000000) ∧ ((bar2Target s off.toNat).2 = true) ∧ (∃ w, (bar2Target s off.toNat).1 = some w ∧ bar2Mine s fn w = true)) ∧
  (∃ (fn : Fn) (off : BitVec 39) (len : Fin 65) (data : Bytes) (tee : Bool) (s : State),
    (s.alive = true) ∧ (s.dlActive = true) ∧ (memOpen s fn = true) ∧ (portHeld s fn = false) ∧ (teeOnly s fn = false ∨ tee = true) ∧ (0x6000000000 ≤ off.toNat) ∧ (off.toNat < 0x6030000000) ∧ (spBadAt s ((off.toNat - 0x6000000000) / spSize) ((off.toNat - 0x6000000000) % spSize) (min len.val (4096 - off.toNat % 4096)) = false) ∧ ((bar2Target s off.toNat).2 = true) ∧ (∃ w, (bar2Target s off.toNat).1 = some w ∧ bar2Mine s fn w = true)) ∧
  (∃ (fn : Fn) (off : BitVec 39) (len : Fin 65) (data : Bytes) (tee : Bool) (s : State),
    (s.alive = true) ∧ (s.dlActive = true) ∧ (memOpen s fn = true) ∧ (portHeld s fn = false) ∧ (teeOnly s fn = false ∨ tee = true) ∧ (off.toNat < 0x6030000000) ∧ ((bar2Target s off.toNat).2 = false ∨ ∀ w, (bar2Target s off.toNat).1 = some w → bar2Mine s fn w = false)) ∧
  (∃ (fn : Fn) (off : BitVec 39) (len : Fin 65) (data : Bytes) (tee : Bool) (s : State),
    (s.alive = true) ∧ (s.dlActive = true) ∧ (memOpen s fn = true) ∧ (teeOnly s fn = false ∨ tee = true) ∧ (off.toNat < 0x6030000000) ∧ ((bar2Target s off.toNat).2 = false ∨ ∀ w, (bar2Target s off.toNat).1 = some w → bar2Mine s fn w = false)) ∧
  (∃ (fn : Fn) (off : BitVec 39) (len : Fin 65) (data : Bytes) (tee : Bool) (s : State),
    (s.alive = true) ∧ (s.dlActive = true) ∧ (memOpen s fn = true) ∧ (portHeld s fn = false) ∧ (teeOnly s fn = false ∨ tee = true) ∧ (0x6030000000 ≤ off.toNat)) ∧
  (∃ (fn : Fn) (w : WingIx) (off len : Nat) (s : State) (data : Bytes),
    (s.fnWing fn = some w) ∧ (fn ≠ 0) ∧ (off < 0x6000000000) ∧ ((s.ext (extOf off)).owner ≠ some w)) :=
  ⟨⟨0, 0x40000000, 64, List.replicate 64 1, false, wFit .enabled, by refine ⟨?_, ?_, ?_, ?_, ?_, ?_, ?_, ?_⟩ <;> first | decide | exact ⟨3, by decide, by decide⟩ | exact Or.inr (fun w h => nomatch h)⟩,
   ⟨0, 0x40000000, 64, [], false, { wFit .enabled with bar2Waits := [(0, 1)] }, by first | decide | rfl | decide +kernel⟩,
   ⟨0, 0x602FFFFFF8, 8, [1, 2, 3], false, wFit .enabled, by refine ⟨?_, ?_, ?_, ?_, ?_, ?_, ?_, ?_⟩ <;> first | decide | exact ⟨3, by decide, by decide⟩ | exact Or.inr (fun w h => nomatch h)⟩,
   ⟨0, 0x602FFFFFF8, 8, [], false, wFit .enabled, by refine ⟨?_, ?_, ?_, ?_, ?_, ?_, ?_, ?_, ?_, ?_⟩ <;> first | decide | exact ⟨3, by decide, by decide⟩ | exact Or.inr (fun w h => nomatch h)⟩,
   ⟨0, 0x80000000, 64, [], false, wFit .enabled, by refine ⟨?_, ?_, ?_, ?_, ?_, ?_, ?_⟩ <;> first | decide | exact ⟨3, by decide, by decide⟩ | exact Or.inr (fun w h => nomatch h)⟩,
   ⟨0, 0x80000000, 64, [], false, wFit .enabled, by refine ⟨?_, ?_, ?_, ?_, ?_, ?_⟩ <;> first | decide | exact ⟨3, by decide, by decide⟩ | exact Or.inr (fun w h => nomatch h)⟩,
   ⟨0, 0x6030000000, 64, [], false, wFit .enabled, by refine ⟨?_, ?_, ?_, ?_, ?_, ?_⟩ <;> first | decide | rfl | decide +kernel⟩,
   ⟨2, 3, 0x80000000, 64, (wFit .enabled).setVf 2 { (wFit .enabled).vf 2 with owner := some 3 }, [1], by refine ⟨?_, ?_, ?_, ?_⟩ <;> first | decide | rfl | decide +kernel⟩⟩

theorem test_met_UnitsAreSwappedAndCleared :
  (∃ (fn : Fn) (hub : Hub) (tag : W32) (wing : Byte) (p : Bytes) (c : Cmd) (s : State) (u : Nat),
    (c = sentCmd s 0x0804 fn hub tag wing p) ∧ (accepts s c) ∧ (wing = 0xFF#8) ∧ (leAt p 3 1 = 0) ∧ (leAt p 0 1 ≤ 1) ∧ (leAt p 1 1 ≤ 7) ∧ (leAt p 2 1 ≤ 3) ∧ (u = sparedUnit (leAt p 0 1) (leAt p 1 1) (leAt p 2 1)) ∧ (spareTaken s u = false) ∧ ((s.unit (spareOf u)).quarantined = false)) ∧
  (∃ (fn : Fn) (hub : Hub) (tag : W32) (wing : Byte) (p : Bytes) (c : Cmd) (s : State) (u : Nat),
    (c = sentCmd s 0x0804 fn hub tag wing p) ∧ (accepts s c) ∧ (wing = 0xFF#8) ∧ (leAt p 3 1 = 1) ∧ (leAt p 0 1 ≤ 1) ∧ (leAt p 1 1 ≤ 7) ∧ (leAt p 2 1 ≤ 3) ∧ (u = sparedUnit (leAt p 0 1) (leAt p 1 1) (leAt p 2 1)) ∧ ((s.unit (spareOf u)).subPos = some (leAt p 2 1)) ∧ ((s.unit u).quarantined = false)) ∧
  (∃ (s : State) (u : Nat),
    (u < 40) ∧ (u % 5 < 4) ∧ ((s.half (unitHalf u)).req = none) ∧ ((s.half (unitHalf u)).held = false)) ∧
  (∃ (s : State) (u : Nat) (i : Bool),
    (s.half (unitHalf u)).req ≠ none ∨ (s.half (unitHalf u)).held = true) ∧
  (∃ (fn : Fn) (hub : Hub) (tag : W32) (wing : Byte) (p : Bytes) (c : Cmd) (s : State),
    (c = sentCmd s 0x0805 fn hub tag wing p) ∧ (accepts s c) ∧ (wing = 0xFF#8) ∧ (zeroAt p 3 1 = true) ∧ (leAt p 0 1 ≤ 4) ∧ (2 ≤ leAt p 0 1 → leAt p 2 1 = 0) ∧ (leAt p 0 1 < 2 → leAt p 2 1 ≤ 4) ∧ (if leAt p 0 1 = 2 then leAt p 1 1 ≤ 15 else leAt p 1 1 ≤ 7) ∧ ((s.unit (clearUnit (leAt p 0 1) (leAt p 1 1) (leAt p 2 1))).quarantined = true)) ∧
  (∃ (u : Nat) (s : State),
    (Tbl.wf UnitSt.init s.units = true) ∧ (u < 112)) :=
  ⟨⟨0, 0, 0, 0xFF, [1, 7, 3, 0], sentCmd (wS) 0x0804 0 0 0 0xFF [1, 7, 3, 0], wS, sparedUnit 1 7 3, by refine ⟨?_, ?_, ?_, ?_, ?_, ?_, ?_, ?_, ?_, ?_⟩ <;> first | decide | rfl | decide +kernel⟩,
   ⟨0, 0, 0, 0xFF, [0, 7, 3, 1], sentCmd ((wS.setUnit 39 { wS.unit 39 with subPos := some 3 })) 0x0804 0 0 0 0xFF [0, 7, 3, 1], (wS.setUnit 39 { wS.unit 39 with subPos := some 3 }), sparedUnit 0 7 3, by refine ⟨?_, ?_, ?_, ?_, ?_, ?_, ?_, ?_, ?_, ?_⟩ <;> first | decide | rfl | decide +kernel⟩,
   ⟨wS, 38, by refine ⟨?_, ?_, ?_, ?_⟩ <;> first | decide | rfl | decide +kernel⟩,
   ⟨wS.setHalf 15 { HalfCell.init with req := some 0 }, 38, true, by decide⟩,
   ⟨0, 0, 0, 0xFF, [2, 15, 0, 0], sentCmd ((wS.setUnit (uGPE 15) { wS.unit (uGPE 15) with quarantined := true, mismatches := 3 })) 0x0805 0 0 0 0xFF [2, 15, 0, 0], (wS.setUnit (uGPE 15) { wS.unit (uGPE 15) with quarantined := true, mismatches := 3 }), by refine ⟨?_, ?_, ?_, ?_, ?_, ?_, ?_, ?_, ?_⟩ <;> first | decide | rfl | decide +kernel⟩,
   ⟨111, wS.setUnit 111 { UnitSt.init with quarantined := true, mismatches := 3 }, by refine ⟨?_, ?_⟩ <;> first | decide | rfl | decide +kernel⟩⟩

theorem test_met_PairCommandsConfigureLeaseAndReset :
  (∃ (fn : Fn) (hub : Hub) (tag : W32) (wing : Byte) (p : Bytes) (c : Cmd) (s : State),
    (c = sentCmd s 0x0501 fn hub tag wing p) ∧ (accepts s c) ∧ (wing = 0xFF#8) ∧ (fld (leAt p 1 1) 2 6 = 0) ∧ (zeroAt p 44 20 = true) ∧ (leAt p 0 1 ≤ 1) ∧ (∀ i, i < leAt p 2 2 → zeroAt p (67 + 4 * i) 1 = true) ∧ (∀ e ∈ pairEntries p, e.1 ≤ 15 ∧ e.2.1 ≤ 7 ∧ (e.2.2 = 1 ∨ e.2.2 = 2)) ∧ (bit (leAt p 1 1) 0 = true → BitVec.ofNat 32 (leAt p 4 4) ≠ 0) ∧ (((pairEntries p).map fun e => (e.1, e.2.1)).Nodup) ∧ (∀ w c, holdsTable s w c = false) ∧ (bit (leAt p 1 1) 0 = true → s.par.pk ≠ none)) ∧
  (∃ (fn : Fn) (hub : Hub) (tag : W32) (wing : Byte) (p : Bytes) (c : Cmd) (s : State),
    (c = sentCmd s 0x0502 fn hub tag wing p) ∧ (accepts s c) ∧ (wing = 0xFF#8) ∧ (zeroAt p 5 3 = true) ∧ (leAt p 4 1 = 0) ∧ (BitVec.ofNat 32 (leAt p 0 4) = s.par.term) ∧ (s.par.lease = .holder) ∧ (linkUp s.par.link = true) ∧ (s.par.compareDue = [])) ∧
  (∃ (fn : Fn) (hub : Hub) (tag : W32) (wing : Byte) (p : Bytes) (c : Cmd) (s : State),
    (c = sentCmd s 0x0502 fn hub tag wing p) ∧ (accepts s c) ∧ (wing = 0xFF#8) ∧ (zeroAt p 5 3 = true) ∧ (leAt p 4 1 = 1) ∧ (BitVec.ofNat 32 (leAt p 0 4) = s.par.term) ∧ (s.par.lease ≠ .holder) ∧ (linkUp s.par.link = true) ∧ ((s.par.entries.any fun e => (s.cat (catKey e.1 e.2.1)).commit.isSome) = false) ∧ (askRun s = none) ∧ (canLog s fn)) ∧
  (∃ (fn : Fn) (hub : Hub) (tag : W32) (wing : Byte) (p : Bytes) (c : Cmd) (s : State) (x : State),
    (c = sentCmd s 0x0502 fn hub tag wing p) ∧ (accepts s c) ∧ (wing = 0xFF#8) ∧ (zeroAt p 5 3 = true) ∧ (leAt p 4 1 = 1) ∧ (BitVec.ofNat 32 (leAt p 0 4) = s.par.term) ∧ (s.par.lease = .holder) ∧ (linkUp s.par.link = true) ∧ ((s.par.entries.any fun e => (s.cat (catKey e.1 e.2.1)).commit.isSome) = false) ∧ (askRun s = none) ∧ (canLog s fn) ∧ (s.par.compareDue = []) ∧ (x = (scpCommit s c).updPar fun x => { x with term := nextEven x.term, lease := .holder, holderPos := x.position, expiry := s.now + 200000000 }) ∧ (x.par.compareDue = [])) ∧
  (∃ (fn : Fn) (hub : Hub) (tag : W32) (wing : Byte) (p : Bytes) (c : Cmd) (s : State) (x : State),
    (c = sentCmd s 0x0502 fn hub tag wing p) ∧ (accepts s c) ∧ (wing = 0xFF#8) ∧ (zeroAt p 5 3 = true) ∧ (leAt p 4 1 = 2) ∧ (BitVec.ofNat 32 (leAt p 0 4) = s.par.term) ∧ (s.par.lease = .holder) ∧ (canLog s fn) ∧ (x = (scpCommit s c).updPar fun x => { x with lease := .lapsed, expiry := 0 }) ∧ (x.par.compareDue = [])) ∧
  (∃ (fn : Fn) (hub : Hub) (tag : W32) (wing : Byte) (p : Bytes) (c : Cmd) (s : State),
    (c = sentCmd s 0x0503 fn hub tag wing p) ∧ (accepts s c) ∧ (wing = 0xFF#8) ∧ (s.par.entries = [])) ∧
  (∃ (fn : Fn) (hub : Hub) (tag : W32) (wing : Byte) (p : Bytes) (c : Cmd) (s : State),
    (c = sentCmd s 0x0504 fn hub tag wing p) ∧ (accepts s c) ∧ (wing = 0xFF#8) ∧ (zeroAt p 2 2 = true) ∧ (resyncEntries p ≠ []) ∧ ((resyncEntries p).length ≤ 128) ∧ (∀ e ∈ resyncEntries p, e.1 ≤ 15 ∧ e.2 ≤ 7 ∧ (s.cat (catKey e.1 e.2)).mode ≠ 0 ∧ ¬ ((s.cat (catKey e.1 e.2)).sync = 1 ∧ (s.cat (catKey e.1 e.2)).isOpen = true)) ∧ (s.par.lease = .holder) ∧ (linkUp s.par.link = true) ∧ (longFull s = false)) ∧
  (∃ (fn : Fn) (hub : Hub) (tag : W32) (wing : Byte) (p : Bytes) (c : Cmd) (s : State),
    (c = sentCmd s 0x0505 fn hub tag wing p) ∧ (accepts s c) ∧ (wing = 0xFF#8) ∧ (zeroAt p 1 3 = true) ∧ (leAt p 0 1 = 3 ∨ leAt p 0 1 = 4) ∧ (s.par.lease = .holder) ∧ (linkUp s.par.link = true)) ∧
  (∃ (level : Fin 8) (s : State),
    (level.val = 3 ∨ level.val = 4) ∧ (linkUp s.par.link = true)) :=
  ⟨⟨0, 0, 0, 0xFF, (wBytes [(0, 1), (1, 1), (2, 1), (4, 1)] ++ [3, 1, 2, 0]), sentCmd ({ wPair with tables := [] }) 0x0501 0 0 0 0xFF (wBytes [(0, 1), (1, 1), (2, 1), (4, 1)] ++ [3, 1, 2, 0]), { wPair with tables := [] }, by refine ⟨?_, ?_, ?_, ?_, ?_, ?_, ?_, ?_, ?_, ?_, ?_, ?_⟩ <;> first | decide | rfl | decide +kernel | exact fun _ _ => rfl⟩,
   ⟨0, 0, 0, 0xFF, [1, 0, 0, 0, 0, 0, 0, 0], sentCmd ({ wPair with par := { wPair.par with lease := .holder, term := 1 } }) 0x0502 0 0 0 0xFF [1, 0, 0, 0, 0, 0, 0, 0], { wPair with par := { wPair.par with lease := .holder, term := 1 } }, by refine ⟨?_, ?_, ?_, ?_, ?_, ?_, ?_, ?_, ?_⟩ <;> first | decide | rfl | decide +kernel⟩,
   ⟨0, 0, 0, 0xFF, [1, 0, 0, 0, 1, 0, 0, 0], sentCmd ({ wPair with par := { wPair.par with lease := .lapsed, term := 1 } }) 0x0502 0 0 0 0xFF [1, 0, 0, 0, 1, 0, 0, 0], { wPair with par := { wPair.par with lease := .lapsed, term := 1 } }, by refine ⟨?_, ?_, ?_, ?_, ?_, ?_, ?_, ?_, ?_, ?_, ?_⟩ <;> first | decide | rfl | decide +kernel⟩,
   ⟨0, 0, 0, 0xFF, [1, 0, 0, 0, 1, 0, 0, 0], sentCmd ({ wPair with par := { wPair.par with lease := .holder, term := 1 } }) 0x0502 0 0 0 0xFF [1, 0, 0, 0, 1, 0, 0, 0], { wPair with par := { wPair.par with lease := .holder, term := 1 } }, (scpCommit ({ wPair with par := { wPair.par with lease := .holder, term := 1 } }) (sentCmd ({ wPair with par := { wPair.par with lease := .holder, term := 1 } }) 0x0502 0 0 0 0xFF [1, 0, 0, 0, 1, 0, 0, 0])).updPar fun x => { x with term := nextEven x.term, lease := .holder, holderPos := x.position, expiry := ({ wPair with par := { wPair.par with lease := .holder, term := 1 } }).now + 200000000 }, by refine ⟨?_, ?_, ?_, ?_, ?_, ?_, ?_, ?_, ?_, ?_, ?_, ?_, ?_, ?_⟩ <;> first | decide | rfl | decide +kernel⟩,
   ⟨0, 0, 0, 0xFF, [1, 0, 0, 0, 2, 0, 0, 0], sentCmd ({ wPair with par := { wPair.par with lease := .holder, term := 1 } }) 0x0502 0 0 0 0xFF [1, 0, 0, 0, 2, 0, 0, 0], { wPair with par := { wPair.par with lease := .holder, term := 1 } }, (scpCommit ({ wPair with par := { wPair.par with lease := .holder, term := 1 } }) (sentCmd ({ wPair with par := { wPair.par with lease := .holder, term := 1 } }) 0x0502 0 0 0 0xFF [1, 0, 0, 0, 2, 0, 0, 0])).updPar fun x => { x with lease := .lapsed, expiry := 0 }, by refine ⟨?_, ?_, ?_, ?_, ?_, ?_, ?_, ?_, ?_, ?_⟩ <;> first | decide | rfl | decide +kernel⟩,
   ⟨0, 0, 0, 0xFF, [], sentCmd ({ wPair with par := { wPair.par with entries := [] } }) 0x0503 0 0 0 0xFF [], { wPair with par := { wPair.par with entries := [] } }, by refine ⟨?_, ?_, ?_, ?_⟩ <;> first | decide | rfl | decide +kernel⟩,
   ⟨0, 0, 0, 0xFF, [1, 0, 0, 0, 3, 1], sentCmd (((wPair.updPar fun x => { x with lease := .holder }).setCat 25 { Cat.init with mode := 1, sync := 1 }).updFnSt 0 fun f => { f with minor := 2 }) 0x0504 0 0 0 0xFF [1, 0, 0, 0, 3, 1], ((wPair.updPar fun x => { x with lease := .holder }).setCat 25 { Cat.init with mode := 1, sync := 1 }).updFnSt 0 fun f => { f with minor := 2 }, by refine ⟨?_, ?_, ?_, ?_, ?_, ?_, ?_, ?_, ?_, ?_⟩ <;> first | decide | rfl | decide +kernel⟩,
   ⟨0, 0, 0, 0xFF, [4, 0, 0, 0], sentCmd ({ wPair with par := { wPair.par with lease := .holder } }) 0x0505 0 0 0 0xFF [4, 0, 0, 0], { wPair with par := { wPair.par with lease := .holder } }, by refine ⟨?_, ?_, ?_, ?_, ?_, ?_, ?_⟩ <;> first | decide | rfl | decide +kernel⟩,
   ⟨3, wPair, by refine ⟨?_, ?_⟩ <;> first | decide | rfl | decide +kernel⟩⟩

theorem test_met_TheRanriLinkTrainsCarriesAndFails :
  (∃ (die : Hub) (h : FrameHead) (s : State),
    ((s.par.die die).up = true) ∧ (s.par.link ≠ .mismatch)) ∧
  (∃ (die : Hub) (h : FrameHead) (s : State),
    ((s.par.die die).up = true) ∧ (s.par.link ≠ .mismatch) ∧ (h.again = none)) ∧
  (∃ (die : Hub) (h : FrameHead) (q : W32) (f : Frame) (s : State),
    ((s.par.die die).up = true) ∧ (s.par.link ≠ .mismatch) ∧ (h.again = some q) ∧ (((framesAfter (s.par.die die).replay h.ack).find? fun f => decide (f.seq = q)) = some f)) ∧
  (∃ (l : List Frame) (q : W32) (f : Frame) (rest : List Frame),
    (∀ x ∈ l, x.seq ≠ q) ∧ (f.seq = q)) ∧
  (∃ (s : State) (n : Nat) (msg : PairMsg) (args : List Nat) (data : Bytes) (d : Hub),
    pairDie s n = d) ∧
  (∃ (die : Hub) (h : FrameHead) (ok : Bool) (s : State),
    s.par.link = .mismatch) ∧
  (∃ (die : Hub) (s : State),
    ((s.par.die die).up = true) ∧ (s.par.link ≠ .mismatch) ∧ (5000 ≤ s.now - (s.par.die die).idle)) ∧
  (∃ (die : Hub) (s : State),
    ((s.par.die die).up = true) ∧ (s.par.link ≠ .mismatch) ∧ (s.now - (s.par.die die).idle < 5000)) ∧
  (∃ (die : Hub) (s : State),
    ((s.par.die die).up = true) ∧ (linkUp (linkOf (s.par.setDie die (dieOff (s.par.die die)))) = true) ∧ (linkUp s.par.link = true)) ∧
  (∃ (die : Hub) (s : State),
    ((s.par.die die).up = true) ∧ ((s.par.die (otherHub die)).up = false) ∧ (linkUp s.par.link = true) ∧ (s.par.lease ≠ .holder) ∧ (s.par.tableWait = []) ∧ (askRun s = none)) ∧
  (∃ (die : Hub) (fiber : LaneFiber) (lam : Fin 8) (s : State),
    ((s.par.die die).up = true) ∧ ((s.par.die die).failed = []) ∧ (fiber.fiber.val < 32) ∧ (s.par.link = .up)) ∧
  (∃ (d : LinkDie),
    ∀ rx k, k < 8 → lostAtLambda d rx k ≤ 32) ∧
  (∃ (s : State),
    (s.par.link = .down) ∧ (s.par.enable = true)) ∧
  (∃ (peer : PeerInfo) (k : Bytes) (s : State),
    (s.par.pk = some k) ∧ (s.par.link = .training) ∧ (peer.up0 = false ∧ peer.up1 = false)) ∧
  (∃ (peer : PeerInfo) (k : Bytes) (s : State),
    (s.par.pk = some k) ∧ (s.par.link = .training) ∧ (peer.up0 = true ∧ peer.badLanes = []) ∧ (peer.major ≠ 1 ∨ peer.pairId ≠ s.par.pairId ∨ peer.pos = s.par.position)) ∧
  (∃ (peer : PeerInfo) (k : Bytes) (s : State),
    (s.par.pk = some k) ∧ (s.par.link = .training) ∧ (peer.up0 = true ∧ peer.up1 = true ∧ peer.badLanes = []) ∧ (peer.major = 1) ∧ (peer.pairId = s.par.pairId) ∧ (peer.pos ≠ s.par.position) ∧ (peer.cats = []) ∧ (s.par.entries = []) ∧ (s.par.lease = .follower ∨ s.par.lease = .lapsed)) ∧
  (∃ (s : State) (k : Bytes) (peer : PeerInfo),
    s.par.pk = none) ∧
  (∃ (ofs : Int) (s : State),
    (linkUp s.par.link = true) ∧ (s.par.position = false)) ∧
  (∃ (ofs : Int) (s : State),
    (linkUp s.par.link = true) ∧ (s.par.position = true) ∧ (s.par.stepDue = true) ∧ (ofs < 0)) ∧
  (∃ (s : State),
    linkUp s.par.link = true) ∧
  (∃ (wing : WingIx) (cat : CatIx) (oldest : W32) (s : State),
    ((s.cat (catKey wing cat)).mode = 2) ∧ (linkUp s.par.link = true)) :=
  ⟨⟨1, { seq := 0, ack := none, again := none }, wPair, by refine ⟨?_, ?_⟩ <;> first | decide | rfl | decide +kernel⟩,
   ⟨1, { seq := 0, ack := none, again := none }, wPair, by refine ⟨?_, ?_, ?_⟩ <;> first | decide | rfl | decide +kernel⟩,
   ⟨1, { seq := 0, ack := some 3, again := some 5 }, 5, { seq := 5, msg := .keepalive, args := [], data := [] }, wPair.updPar fun p => { p with die1 := { p.die1 with replay := [{ seq := 3, msg := .keepalive, args := [], data := [] }, { seq := 5, msg := .keepalive, args := [], data := [] }] } }, by refine ⟨?_, ?_, ?_, ?_⟩ <;> first | decide | rfl | decide +kernel⟩,
   ⟨[{ seq := 6, msg := .keepalive, args := [], data := [] }], 5, { seq := 5, msg := .keepalive, args := [], data := [] }, [], by refine ⟨?_, ?_⟩ <;> first | decide | rfl | decide +kernel⟩,
   ⟨wPair, 0, .keepalive, [], [], pairDie wPair 0, by first | decide | rfl | decide +kernel⟩,
   ⟨1, { seq := 0, ack := none, again := none }, true, { wPair with par := { wPair.par with link := .mismatch } }, by first | decide | rfl | decide +kernel⟩,
   ⟨1, { wPair with clk := { wPair.clk with units := List.replicate 20 5000 } }, by refine ⟨?_, ?_, ?_⟩ <;> first | decide | rfl | decide +kernel⟩,
   ⟨1, wPair, by refine ⟨?_, ?_, ?_⟩ <;> first | decide | rfl | decide +kernel⟩,
   ⟨1, wPair, by refine ⟨?_, ?_, ?_⟩ <;> first | decide | rfl | decide +kernel⟩,
   ⟨1, { wPair with par := { wPair.par with die0 := dieOff wPair.par.die0, link := .degraded, entries := [(3, 1, 1)] } }, by refine ⟨?_, ?_, ?_, ?_, ?_, ?_⟩ <;> first | decide | rfl | decide +kernel⟩,
   ⟨1, { receive := false, fiber := 31 }, 7, wPair, by refine ⟨?_, ?_, ?_, ?_⟩ <;> first | decide | rfl | decide +kernel⟩,
   ⟨{ wPair.par.die0 with failed := [(false, 0, 0), (true, 1, 0), (true, 2, 0)] }, by first | decide | rfl | decide +kernel⟩,
   ⟨{ wPair with par := { wPair.par with link := .down, enable := true } }, by refine ⟨?_, ?_⟩ <;> first | decide | rfl | decide +kernel⟩,
   ⟨{ wPeer with up0 := false, up1 := false }, [], { wPair with par := { wPair.par with link := .training } }, by refine ⟨?_, ?_, ?_⟩ <;> first | decide | rfl | decide +kernel⟩,
   ⟨{ wPeer with major := 2 }, [], { wPair with par := { wPair.par with link := .training } }, by refine ⟨?_, ?_, ?_, ?_⟩ <;> first | decide | rfl | decide +kernel⟩,
   ⟨wPeer, [], { wPair with par := { wPair.par with link := .training, entries := [] } }, by refine ⟨?_, ?_, ?_, ?_, ?_, ?_, ?_, ?_, ?_⟩ <;> first | decide | rfl | decide +kernel⟩,
   ⟨{ wPair with par := { wPair.par with pk := none } }, [], wPeer, by first | decide | rfl | decide +kernel⟩,
   ⟨-21, { wPair with par := { wPair.par with position := false } }, by refine ⟨?_, ?_⟩ <;> first | decide | rfl | decide +kernel⟩,
   ⟨-5000, { wPair with par := { wPair.par with position := true, stepDue := true } }, by refine ⟨?_, ?_, ?_, ?_⟩ <;> first | decide | rfl | decide +kernel⟩,
   ⟨wPair, by first | decide | rfl | decide +kernel⟩,
   ⟨3, 1, 7, wPair.setCat 25 { Cat.init with mode := 2 }, by refine ⟨?_, ?_⟩ <;> first | decide | rfl | decide +kernel⟩⟩

theorem test_met_TheLeaseFollowsWitnessAndPartner :
  (∃ (s : State),
    s.par.lease = .holder ∨ s.par.lease = .follower) ∧
  (∃ (s : State),
    s.par.lease = .holder) ∧
  (∃ (s : State),
    (s.par.lease = .follower ∨ s.par.lease = .lapsed) ∧ (hasWitness s.par = true) ∧ (linkUp s.par.link = false)) ∧
  (∃ (s : State),
    (s.par.lease = .claiming) ∧ (hasWitness s.par = true) ∧ (linkUp s.par.link = false)) ∧
  (∃ (s : State),
    linkUp s.par.link = true) ∧
  (∃ (s : State) (type : Nat) (k : Bytes),
    (s.par.pk = some k) ∧ (hasWitness s.par = true)) ∧
  (∃ (term : W32) (nonce : W64) (a : Asked) (s : State),
    (askedFor s nonce = some a) ∧ (a.claim = false) ∧ (s.par.lease = .holder) ∧ (term = s.par.term) ∧ (linkUp s.par.link = true)) ∧
  (∃ (term : W32) (nonce : W64) (a : Asked) (s : State),
    (askedFor s nonce = some a) ∧ (a.claim = true) ∧ (s.par.lease = .claiming)) ∧
  (∃ (term : W32) (nonce : W64) (macOk : Bool) (s : State),
    askedFor s nonce = none ∨ macOk = false) ∧
  (∃ (term : W32) (nonce : W64) (a : Asked) (s : State),
    askedFor s nonce = some a) ∧
  (∃ (term : W32) (holder : Fin 3) (expiry : W64) (s : State),
    (linkUp s.par.link = true) ∧ (askRun s = none) ∧ (s.par.lease ≠ .unpaired) ∧ (s.par.term < term) ∧ (holder.val ≠ 2) ∧ (holder.val ≠ b2n s.par.position) ∧ (s.par.compareDue = [])) ∧
  (∃ (term : W32) (holder : Fin 3) (expiry : W64) (s : State),
    (linkUp s.par.link = true) ∧ (s.par.lease = .holder) ∧ (term < s.par.term) ∧ (askRun s = none) ∧ (s.par.compareDue = [])) ∧
  (∃ (term : W32) (expiry : W64) (s : State),
    (linkUp s.par.link = true) ∧ (term = s.par.term)) ∧
  (∃ (term : W32) (expiry : W64) (x : Fn × Hub × Run) (s : State),
    (linkUp s.par.link = true) ∧ (askRun s = some x)) ∧
  (∃ (holder : Fin 3) (expiry : W64) (x : Fn × Hub × Run) (s u : State),
    (linkUp s.par.link = true) ∧ (askRun s = some x) ∧ (holder.val = b2n s.par.position) ∧ (s.par.compareDue = []) ∧ (u = (scpCommit s (x.2.2.cmd x.1 x.2.1)).updPar (fun p => { p with term := nextEven s.par.term, lease := .holder, holderPos := p.position, expiry := x.2.2.start + 200000000 })) ∧ (u.par.compareDue = [])) ∧
  (∃ (s : State) (k : Cat),
    (k.mode ≠ 0) ∧ (s.par.lease ≠ .holder)) ∧
  (∃ (fn : Fn) (hub : Hub) (tag : W32) (wing : Byte) (p : Bytes) (c : Cmd) (s : State),
    (c = sentCmd s 0x0205 fn hub tag wing p) ∧ (accepts s c) ∧ (wing.toNat < 16) ∧ (zeroAt p 1 3 = true) ∧ (leAt p 0 1 < 8) ∧ ((s.wing wing.toNat).state = .enabled) ∧ ((s.cat (catKey wing.toNat (leAt p 0 1))).mode ≠ 0) ∧ (s.par.lease ≠ .holder)) :=
  ⟨⟨{ wPair with par := { wPair.par with lease := .holder } }, by first | decide | rfl | decide +kernel⟩,
   ⟨{ wPair with par := { wPair.par with lease := .holder } }, by first | decide | rfl | decide +kernel⟩,
   ⟨{ wPair with par := { wPair.par with lease := .follower, link := .down, enable := true, witnessIp := [1] } }, by refine ⟨?_, ?_, ?_⟩ <;> first | decide | rfl | decide +kernel⟩,
   ⟨{ wPair with par := { wPair.par with lease := .claiming, link := .down, enable := true, witnessIp := [1] } }, by refine ⟨?_, ?_, ?_⟩ <;> first | decide | rfl | decide +kernel⟩,
   ⟨wPair, by first | decide | rfl | decide +kernel⟩,
   ⟨{ wPair with par := { wPair.par with enable := true, witnessIp := [1] } }, 0, [], by refine ⟨?_, ?_⟩ <;> first | decide | rfl | decide +kernel⟩,
   ⟨1, 5, wAsk false, { wPair with par := { wPair.par with lease := .holder, term := 1, asked := [wAsk false] } }, by refine ⟨?_, ?_, ?_, ?_, ?_⟩ <;> first | decide | rfl | decide +kernel⟩,
   ⟨2, 5, wAsk true, { wPair with par := { wPair.par with lease := .claiming, term := 1, asked := [wAsk true] } }, by refine ⟨?_, ?_, ?_⟩ <;> first | decide | rfl | decide +kernel⟩,
   ⟨2, 5, true, wPair, by first | decide | rfl | decide +kernel⟩,
   ⟨9, 5, wAsk true, { wPair with par := { wPair.par with lease := .claiming, term := 1, asked := [wAsk true] } }, by first | decide | rfl | decide +kernel⟩,
   ⟨9, 1, 5, { wPair with par := { wPair.par with lease := .holder, term := 1, position := false } }, by refine ⟨?_, ?_, ?_, ?_, ?_, ?_, ?_⟩ <;> first | decide | rfl | decide +kernel⟩,
   ⟨0, 1, 5, { wPair with par := { wPair.par with lease := .holder, term := 1 } }, by refine ⟨?_, ?_, ?_, ?_, ?_⟩ <;> first | decide | rfl | decide +kernel⟩,
   ⟨1, 5, { wPair with par := { wPair.par with term := 1 } }, by refine ⟨?_, ?_⟩ <;> first | decide | rfl | decide +kernel⟩,
   ⟨1, 5, (0, 0, wRun 0x0502 []), wAskS, by refine ⟨?_, ?_⟩ <;> first | decide | rfl | decide +kernel⟩,
   ⟨1, 5, (0, 0, wRun 0x0502 []), wAskS, wGot, by refine ⟨?_, ?_, ?_, ?_, ?_, ?_⟩ <;> first | rfl | decide +kernel⟩,
   ⟨{ wPair with par := { wPair.par with lease := .follower } }, { Cat.init with mode := 1 }, by refine ⟨?_, ?_⟩ <;> first | decide | rfl | decide +kernel⟩,
   ⟨0, 0, 0, 3, [1, 0, 0, 0], sentCmd (((wFit .enabled).setCat 25 { Cat.init with mode := 1 })) 0x0205 0 0 0 3 [1, 0, 0, 0], ((wFit .enabled).setCat 25 { Cat.init with mode := 1 }), by refine ⟨?_, ?_, ?_, ?_, ?_, ?_, ?_, ?_⟩ <;> first | decide | rfl | decide +kernel⟩⟩

theorem test_met_PartnersMirrorRecordsCommitsTablesAndRows :
  (∃ (wing : WingIx) (cat : CatIx) (epoch : W32) (head : W64) (record : Bytes) (s : State),
    ((s.cat (catKey wing cat)).mode ≠ 0) ∧ (s.par.lease ≠ .holder) ∧ (linkUp s.par.link = true) ∧ ((s.cat (catKey wing cat)).sync ≠ 2) ∧ ((s.cat (catKey wing cat)).isOpen = true) ∧ ((s.cat (catKey wing cat)).openEp = epoch) ∧ (recType record = 1)) ∧
  (∃ (wing : WingIx) (cat : CatIx) (epoch : W32) (head : W64) (record : Bytes) (s s1 s2 : State) (row : Option (Nat × Nat × Nat)),
    ((s.cat (catKey wing cat)).mode ≠ 0) ∧ (s.par.lease ≠ .holder) ∧ (linkUp s.par.link = true) ∧ ((s.cat (catKey wing cat)).sync ≠ 2) ∧ (followOpen s wing cat epoch = s1) ∧ (recordPut s1 wing record epoch = (row, .ok s2))) ∧
  (∃ (wing : WingIx) (cat : CatIx) (epoch : W32) (head : W64) (record : Bytes) (s s1 s2 : State) (row : Option (Nat × Nat × Nat)) (cause : Nat),
    ((s.cat (catKey wing cat)).mode ≠ 0) ∧ (s.par.lease ≠ .holder) ∧ (linkUp s.par.link = true) ∧ ((s.cat (catKey wing cat)).sync ≠ 2) ∧ (followOpen s wing cat epoch = s1) ∧ (recordPut s1 wing record epoch = (row, .stall s2 cause))) ∧
  (∃ (wing : WingIx) (cat : CatIx) (epoch : W32) (head : W64) (record data : Bytes) (digest : W64) (s : State),
    ((s.cat (catKey wing cat)).mode ≠ 0) ∧ (s.par.lease ≠ .holder) ∧ (linkUp s.par.link = true) ∧ (digestOf (recHeader cat epoch.toNat head.toNat) data ≠ digest) ∧ (tableIn s wing (recTable record) = none)) ∧
  (∃ (wing : WingIx) (cat : CatIx) (head : W64) (b : Bytes) (s : State),
    ((s.cat (catKey wing cat)).busy = some b) ∧ (s.par.lease = .holder) ∧ ((s.cat (catKey wing cat)).head = head) ∧ ((s.cat (catKey wing cat)).applied = false)) ∧
  (∃ (wing : WingIx) (cat : CatIx) (head : W64) (b : Bytes) (s : State),
    ((s.cat (catKey wing cat)).busy = some b) ∧ (s.par.lease = .holder) ∧ ((s.cat (catKey wing cat)).head = head) ∧ ((s.cat (catKey wing cat)).applied = false) ∧ (3 ≤ (s.cat (catKey wing cat)).resends)) ∧
  (∃ (wing : WingIx) (cat : CatIx) (epoch term : W32) (s : State),
    ((s.cat (catKey wing cat)).mode ≠ 0) ∧ (s.par.lease ≠ .holder) ∧ (linkUp s.par.link = true) ∧ ((s.cat (catKey wing cat)).vis ≠ epoch) ∧ (retireRuns s wing cat = [])) ∧
  (∃ (wing : WingIx) (cat : CatIx) (epoch oldest : W32) (visTs : W64) (m : Commit) (s : State),
    ((s.cat (catKey wing cat)).commit = some m) ∧ (m.step = 3) ∧ (m.epoch = epoch) ∧ (fenced s (s.cat (catKey wing cat)) = false) ∧ (linkUp s.par.link = true)) ∧
  (∃ (wing : WingIx) (cat : CatIx) (epoch oldest : W32) (visTs : W64) (s : State),
    fenced s (s.cat (catKey wing cat)) = true ∨ linkUp s.par.link = false) ∧
  (∃ (wing : WingIx) (table : TabIx) (desc : Bytes) (s : State),
    (s.par.lease ≠ .holder) ∧ (linkUp s.par.link = true) ∧ (firstFail ([((s.table table).isSome, idTaken)] ++ createHead desc ++ createRest s wing desc) = none)) ∧
  (∃ (wing : WingIx) (table : TabIx) (desc : Bytes) (t0 : Table) (s : State),
    (s.par.lease ≠ .holder) ∧ (linkUp s.par.link = true) ∧ (tableIn s wing table = some t0)) ∧
  (∃ (fn : Fn) (hub : Hub) (code : Byte) (x : TableWait) (s : State),
    ((s.par.tableWait.find? fun x => x.fn == fn && x.hub == hub) = some x) ∧ (code ≠ rOK) ∧ (code ≠ idTaken ∨ x.delete = true)) ∧
  (∃ (fn : Fn) (hub : Hub) (x : TableWait) (id : Nat) (t0 : Table) (s : State),
    ((s.par.tableWait.find? fun x => x.fn == fn && x.hub == hub) = some x) ∧ (x.delete = false) ∧ (s.table x.table = some t0) ∧ (nextFree s x.table = some id)) ∧
  (∃ (fn : Fn) (hub : Hub) (x : TableWait) (r : Run) (s : State),
    ((s.par.tableWait.find? fun x => x.fn == fn && x.hub == hub) = some x) ∧ ((s.mbox (mbxKey fn hub)).run = some r) ∧ (x.delete = true)) ∧
  (∃ (wing : WingIx) (table : TabIx) (epoch : W32) (bags : RemoteBags) (weighted mx : Bool) (ls : List (Nat × Nat × W32)) (s : State),
    (linkUp s.par.link = true) ∧ (tableIn s wing table = none)) ∧
  (∃ (wing : WingIx) (table : TabIx) (epoch : W32) (row : Nat) (seq : W64) (t0 : Table) (g : Nat) (v : List W32) (s s2 : State),
    (linkUp s.par.link = true) ∧ (tableIn s wing table = some t0) ∧ ((s.cat (catKey wing t0.cat)).mode = 2) ∧ ((s.cat (catKey wing t0.cat)).sync = 0) ∧ ((s.cat (catKey wing t0.cat)).forcedTo = none) ∧ (remoteRow (s.updWing wing fun x => { x with lookups := satAdd x.lookups 1 }) t0 epoch false (0, row, 0) = (s2, some (g, v)))) ∧
  (∃ (doc : DocIx) (ticket : W16) (b : Batch) (t0 : Table) (i : Nat) (x : Nat × W32 × W32) (s : State),
    (findBatch s doc ticket = some b) ∧ (s.table b.table = some t0) ∧ (i ∈ b.remote) ∧ (b.lookups[i]? = some x) ∧ (b.parts = []) ∧ (b.failed = none) ∧ (linkUp s.par.link = false)) ∧
  (∃ (wing : WingIx) (cat : CatIx) (table : TabIx) (row epoch : W32) (data : Bytes) (s : State),
    ((s.cat (catKey wing cat)).mode ≠ 0) ∧ (s.par.lease = .follower) ∧ (linkUp s.par.link = true) ∧ ((s.cat (catKey wing cat)).resyncBase = none) ∧ ((s.cat (catKey wing cat)).sync = 1)) ∧
  (∃ (wing : WingIx) (cat : CatIx) (table : TabIx) (row epoch : W32) (data : Bytes) (t0 : Table) (i k home : Nat) (s : State),
    ((s.cat (catKey wing cat)).mode ≠ 0) ∧ (s.par.lease = .follower) ∧ (linkUp s.par.link = true) ∧ ((s.cat (catKey wing cat)).resyncBase = none) ∧ ((s.cat (catKey wing cat)).sync = 2) ∧ (tableIn s wing table = some t0) ∧ (rowPlace s t0 row.toNat = some (i, k, home)) ∧ ((s.cat (catKey wing cat)).settled.contains (table.val, row.toNat) = false) ∧ (data ≠ []) ∧ (zeroAt (fitTo (16 + rowPayload t0.elem t0.dim) data) 0 16 = false)) ∧
  (∃ (wing : WingIx) (cat : CatIx) (v term : W32) (s : State),
    ((s.cat (catKey wing cat)).mode ≠ 0) ∧ (linkUp s.par.link = true) ∧ (s.par.lease = .follower) ∧ ((s.cat (catKey wing cat)).resyncBase = none) ∧ ((s.cat (catKey wing cat)).sync = 2)) :=
  ⟨⟨3, 1, 8, 64, (1 :: List.replicate 31 0), wFol, by refine ⟨?_, ?_, ?_, ?_, ?_, ?_, ?_⟩ <;> first | decide | rfl | decide +kernel⟩,
   ⟨3, 1, 1, 0, wRec, wFolR, followOpen wFolR 3 1 1, wPut1, (recordPut (followOpen wFolR 3 1 1) 3 wRec 1).1, by refine ⟨?_, ?_, ?_, ?_, ?_, ?_⟩ <;> first | decide | rfl | decide +kernel⟩,
   ⟨3, 1, 5, 0, wRec, wStallF, followOpen wStallF 3 1 5, wPut2.1, (recordPut (followOpen wStallF 3 1 5) 3 wRec 5).1, wPut2.2, by refine ⟨?_, ?_, ?_, ?_, ?_, ?_⟩ <;> first | decide | rfl | decide +kernel⟩,
   ⟨3, 1, 8, 64, (1 :: List.replicate 31 0), [], 1, wFol, by refine ⟨?_, ?_, ?_, ?_, ?_⟩ <;> first | decide | rfl | decide +kernel⟩,
   ⟨3, 1, 0, [], (wPair.updPar fun x => { x with lease := .holder }).setCat 25 { Cat.init with mode := 1, busy := some [] }, by refine ⟨?_, ?_, ?_, ?_⟩ <;> first | decide | rfl | decide +kernel⟩,
   ⟨3, 1, 0, [], (wPair.updPar fun x => { x with lease := .holder }).setCat 25 { Cat.init with mode := 1, busy := some [], resends := 3 }, by refine ⟨?_, ?_, ?_, ?_, ?_⟩ <;> first | decide | rfl | decide +kernel⟩,
   ⟨3, 1, 9, 2, wFol, by refine ⟨?_, ?_, ?_, ?_, ?_⟩ <;> first | decide | rfl | decide +kernel⟩,
   ⟨3, 1, 8, 7, 0, { fn := 0, hub := 0, epoch := 8, step := 3, upto := 0 }, (wPair.updPar fun x => { x with lease := .holder }).setCat 25 { Cat.init with mode := 1, commit := some { fn := 0, hub := 0, epoch := 8, step := 3, upto := 0 } }, by refine ⟨?_, ?_, ?_, ?_, ?_⟩ <;> first | decide | rfl | decide +kernel⟩,
   ⟨3, 1, 8, 7, 0, { wPair with par := { wPair.par with link := .down } }, by first | decide | rfl | decide +kernel⟩,
   ⟨3, 9, (wBytes [(4, 16), (25, 0xFF), (26, 0xFF), (27, 0xFF), (28, 0xFF), (29, 0xFF), (30, 0xFF), (31, 0xFF)]), { (wFit .enabled) with par := { wPair.par with lease := .follower } }, by refine ⟨?_, ?_, ?_⟩ <;> first | decide | rfl | decide +kernel⟩,
   ⟨3, 0, [], { wTab with phase := .ready }, { (wTabS .ready) with par := { wPair.par with lease := .follower } }, by refine ⟨?_, ?_, ?_⟩ <;> first | decide | rfl | decide +kernel⟩,
   ⟨0, 0, 0x42, wTw, { wPair with par := { wPair.par with tableWait := [wTw] } }, by refine ⟨?_, ?_, ?_⟩ <;> first | decide | rfl | decide +kernel⟩,
   ⟨0, 0, wTw, 1, wTabR, { wPair with tables := [(0, some wTabR)], par := { wPair.par with tableWait := [wTw] } }, by refine ⟨?_, ?_, ?_, ?_⟩ <;> first | decide | rfl | decide +kernel⟩,
   ⟨0, 0, { wTw with delete := true }, wRun 0x0202 [], { (wRunning 0x0202 []) with par := { wPair.par with tableWait := [{ wTw with delete := true }] } }, by refine ⟨?_, ?_, ?_⟩ <;> first | decide | rfl | decide +kernel⟩,
   ⟨3, 9, 1, { count := 1, seq := 0 }, false, false, [], wPair, by refine ⟨?_, ?_⟩ <;> first | decide | rfl | decide +kernel⟩,
   ⟨3, 0, 1, 4, 0, wTabR, 0, List.replicate 16 0, wStriped, (remoteRow (wStriped.updWing 3 fun x => { x with lookups := satAdd x.lookups 1 }) wTabR 1 false (0, 4, 0)).1, by refine ⟨?_, ?_, ?_, ?_, ?_, ?_⟩ <;> first | decide | rfl | decide +kernel⟩,
   ⟨38, 1, { wBat with remote := [0] }, wTabR, 0, (0, 5, 0), { wGat with batches := [{ wBat with remote := [0] }] }, by refine ⟨?_, ?_, ?_, ?_, ?_, ?_, ?_⟩ <;> first | decide | rfl | decide +kernel⟩,
   ⟨3, 1, 0, 5, 8, [], wFol.updCat 25 fun k => { k with sync := 1 }, by refine ⟨?_, ?_, ?_, ?_, ?_⟩ <;> first | decide | rfl | decide +kernel⟩,
   ⟨3, 1, 0, 5, 8, [7], { wTabR with cat := 1 }, 0, 0, 5, { (wFol.updCat 25 fun k => { k with sync := 2 }) with tables := [(0, some { wTabR with cat := 1 })] }, by refine ⟨?_, ?_, ?_, ?_, ?_, ?_, ?_, ?_, ?_, ?_⟩ <;> first | decide | rfl | decide +kernel⟩,
   ⟨3, 1, 9, 2, wFol.updCat 25 fun k => { k with sync := 2 }, by refine ⟨?_, ?_, ?_, ?_, ?_⟩ <;> first | decide | rfl | decide +kernel⟩⟩

theorem test_met_TheHostPortMovesAndIsLost :
  (∃ (fn : Fn) (hub : Hub) (tag : W32) (wing : Byte) (p : Bytes) (c : Cmd) (s : State),
    (c = sentCmd s 0x0A02 fn hub tag wing p) ∧ (accepts s c) ∧ (wing = 0xFF#8) ∧ (zeroAt p 1 3 = true) ∧ (leAt p 0 1 ≤ 1) ∧ (Fin.ofNat 2 (leAt p 0 1) ≠ s.pcie.activeHub) ∧ (portActive s (Fin.ofNat 2 (leAt p 0 1)) = true) ∧ ((s.standbyCfg 0).memSpace = true) ∧ ((s.standbyCfg 0).busMaster = true) ∧ (longFull s = false)) ∧
  (∃ (fn : Fn) (h h2 : Hub) (r : Run) (s : State),
    (s.pcie.moveBy = some (fn, h, h2)) ∧ (s.pcie.moving = true) ∧ (moveDrained s = true) ∧ (running s fn h 0x0A02 = some r) ∧ (s.dlActive = true)) ∧
  (∃ (port : Hub) (s : State),
    (portActive s port = true) ∧ (port = s.pcie.activeHub)) ∧
  (∃ (port : Hub) (fn : Fn) (h t : Hub) (s : State),
    (portActive s port = true) ∧ (port ≠ s.pcie.activeHub) ∧ (s.pcie.moving = true) ∧ (s.pcie.moveBy = some (fn, h, t))) ∧
  (∃ (s : State),
    s.pcie.moving = false) :=
  ⟨⟨0, 0, 0, 0xFF, [1, 0, 0, 0], sentCmd (wPort.updFnSt 0 fun f => { f with minor := 2 }) 0x0A02 0 0 0 0xFF [1, 0, 0, 0], wPort.updFnSt 0 fun f => { f with minor := 2 }, by refine ⟨?_, ?_, ?_, ?_, ?_, ?_, ?_, ?_, ?_, ?_⟩ <;> first | decide | rfl | decide +kernel⟩,
   ⟨0, 0, 1, wRun 0x0A02 [1, 0, 0, 0], wMoving, by refine ⟨?_, ?_, ?_, ?_, ?_⟩ <;> first | decide | rfl | decide +kernel⟩,
   ⟨0, wS, by refine ⟨?_, ?_⟩ <;> first | decide | rfl | decide +kernel⟩,
   ⟨1, 0, 0, 1, wMoving, by refine ⟨?_, ?_, ?_, ?_⟩ <;> first | decide | rfl | decide +kernel⟩,
   ⟨wPort, by decide⟩⟩

theorem test_met_ConfigurationSpaceMasksAndDoe :
  (∃ (fn : Fn) (port : Hub) (val : W16) (s : State),
    (s.alive = true) ∧ (portActive s port = true) ∧ (port = s.pcie.activeHub) ∧ (s.fnEnabled fn = true) ∧ ((s.fnSt fn).ats = true ∨ s.ats = []) ∧ (∀ e ∈ s.msix, e.2.pend = false)) ∧
  (∃ (fn : Fn) (port : Hub) (val : W16) (s : State),
    (s.alive = true) ∧ (portActive s port = true) ∧ (port = s.pcie.activeHub) ∧ (s.fnEnabled fn = true) ∧ ((s.fnSt fn).ats = true ∨ s.ats = []) ∧ (∀ e ∈ s.msix, e.2.pend = false)) ∧
  (∃ (fn : Fn) (port : Hub) (val : W16) (s : State),
    (s.alive = true) ∧ (portActive s port = true) ∧ (port = s.pcie.activeHub) ∧ (s.fnEnabled fn = true) ∧ ((s.fnSt fn).ats = true ∨ s.ats = []) ∧ (∀ e ∈ s.msix, e.2.pend = false)) ∧
  (∃ (fn : Fn) (port : Hub) (val : W16) (s : State),
    (s.alive = true) ∧ (portActive s port = true) ∧ (port = s.pcie.activeHub) ∧ (s.fnEnabled fn = true) ∧ ((s.fnSt fn).ats = true ∨ s.ats = []) ∧ (∀ e ∈ s.msix, e.2.pend = false)) ∧
  (∃ (fn : Fn) (port : Hub) (val : W16) (s : State),
    (s.alive = true) ∧ (portActive s port = true) ∧ (port = s.pcie.activeHub) ∧ (s.fnEnabled fn = true) ∧ ((s.fnSt fn).ats = true ∨ s.ats = []) ∧ (∀ e ∈ s.msix, e.2.pend = false)) ∧
  (∃ (fn : Fn) (port : Hub) (val : W16) (s : State),
    (s.alive = true) ∧ (portActive s port = true) ∧ (port = s.pcie.activeHub) ∧ (s.fnEnabled fn = true) ∧ (bit val.toNat 0 = false) ∧ (∀ e ∈ s.msix, e.2.pend = false)) ∧
  (∃ (fn : Fn) (port : Hub) (val : W16) (s : State),
    (s.alive = true) ∧ (portActive s port = true) ∧ (port = s.pcie.activeHub) ∧ (s.fnEnabled fn = true) ∧ (bit val.toNat 0 = true) ∧ ((s.fnSt fn).pri = false) ∧ ((s.fnSt fn).ats = true) ∧ (∀ e ∈ s.msix, e.2.pend = false)) ∧
  (∃ (port : Hub) (val : W16) (s : State),
    (s.alive = true) ∧ (portActive s port = true) ∧ (port = s.pcie.activeHub)) ∧
  (∃ (port : Hub) (val : W16) (s : State),
    (s.alive = true) ∧ (portActive s port = true) ∧ (port = s.pcie.activeHub)) ∧
  (∃ (port : Hub) (val : W16) (s : State),
    (s.alive = true) ∧ (portActive s port = true) ∧ (port = s.pcie.activeHub) ∧ (s.pcie.vfEnable = false) ∧ (val.toNat ≤ 255)) ∧
  (∃ (fn : Fn) (port : Hub) (field : PcieField) (val : W16) (s : State),
    (s.alive = true) ∧ (portActive s port = true) ∧ (port ≠ s.pcie.activeHub)) ∧
  (∃ (fn : Fn) (vec : Fin 2048) (s : State),
    (regOpen s fn = true) ∧ ((s.msixEnt (msixKey fn vec)).pend = true) ∧ ((s.fnSt fn).msixEn = true) ∧ ((s.fnSt fn).fnMask = false)) ∧
  (∃ (fn : Fn) (vec : Fin 2048) (s : State),
    (regOpen s fn = true) ∧ ((s.msixEnt (msixKey fn vec)).pend = false)) ∧
  (∃ (fn : Fn) (index : Byte) (s : State),
    doeOpen s fn = true) ∧
  (∃ (fn : Fn) (s : State),
    (s.alive = true) ∧ (s.dlActive = true) ∧ (s.fnEnabled fn = true)) ∧
  (∃ (fn : Fn) (s : State),
    doeOpen s fn = true) :=
  ⟨⟨0, 0, 1, wS, by refine ⟨?_, ?_, ?_, ?_, ?_, ?_⟩ <;> first | decide | rfl | decide +kernel⟩,
   ⟨0, 0, 1, wS, by refine ⟨?_, ?_, ?_, ?_, ?_, ?_⟩ <;> first | decide | rfl | decide +kernel⟩,
   ⟨0, 0, 1, wS, by refine ⟨?_, ?_, ?_, ?_, ?_, ?_⟩ <;> first | decide | rfl | decide +kernel⟩,
   ⟨0, 0, 1, wS, by refine ⟨?_, ?_, ?_, ?_, ?_, ?_⟩ <;> first | decide | rfl | decide +kernel⟩,
   ⟨0, 0, 1, wS, by refine ⟨?_, ?_, ?_, ?_, ?_, ?_⟩ <;> first | decide | rfl | decide +kernel⟩,
   ⟨0, 0, 0, wS, by refine ⟨?_, ?_, ?_, ?_, ?_, ?_⟩ <;> first | decide | rfl | decide +kernel⟩,
   ⟨0, 0, 1, wS.updFnSt 0 fun f => { f with ats := true, priStopped := true }, by refine ⟨?_, ?_, ?_, ?_, ?_, ?_, ?_, ?_⟩ <;> first | decide | rfl | decide +kernel⟩,
   ⟨0, 1, wS, by refine ⟨?_, ?_, ?_⟩ <;> first | decide | rfl | decide +kernel⟩,
   ⟨0, 1, wS, by refine ⟨?_, ?_, ?_⟩ <;> first | decide | rfl | decide +kernel⟩,
   ⟨0, 255, wS, by refine ⟨?_, ?_, ?_, ?_, ?_⟩ <;> first | decide | rfl | decide +kernel⟩,
   ⟨0, 1, .busMaster, 1, wPort, by refine ⟨?_, ?_, ?_⟩ <;> first | decide | rfl | decide +kernel⟩,
   ⟨0, 5, wMsix, by refine ⟨?_, ?_, ?_, ?_⟩ <;> first | decide | rfl | decide +kernel⟩,
   ⟨0, 5, wS, by refine ⟨?_, ?_⟩ <;> first | decide | rfl | decide +kernel⟩,
   ⟨0, 1, wS, by first | decide | rfl | decide +kernel⟩,
   ⟨0, wS.updFnSt 0 fun f => { f with doeError := true }, by refine ⟨?_, ?_, ?_⟩ <;> first | decide | rfl | decide +kernel⟩,
   ⟨0, wS, by first | decide | rfl | decide +kernel⟩⟩

theorem test_met_FlowsChangeStateStopAndPace :
  (∃ (fn : Fn) (k : Nat) (s : State),
    (regOpen s fn = true) ∧ (flowSlot s fn = .ok k) ∧ (k < 16384) ∧ ((s.flow k).state = .reset) ∧ (flowQueue s (s.flow k) ≠ none)) ∧
  (∃ (fn : Fn) (k : Nat) (s : State),
    (regOpen s fn = true) ∧ (flowSlot s fn = .ok k) ∧ (k < 16384) ∧ ((s.flow k).state = .reset) ∧ (flowQueue s (s.flow k) = none)) ∧
  (∃ (fn : Fn) (k : Nat) (s : State),
    (regOpen s fn = true) ∧ (flowSlot s fn = .ok k) ∧ (k < 16384) ∧ ((s.flow k).state = .init) ∧ (flowRtrChecks (s.flow k) = none)) ∧
  (∃ (fn : Fn) (k : Nat) (s : State) (code : Byte),
    (regOpen s fn = true) ∧ (flowSlot s fn = .ok k) ∧ (k < 16384) ∧ ((s.flow k).state = .init) ∧ (flowRtrChecks (s.flow k) = some code)) ∧
  (∃ (fn : Fn) (k : Nat) (s : State),
    (regOpen s fn = true) ∧ (flowSlot s fn = .ok k) ∧ (k < 16384) ∧ ((s.flow k).state = .rtr)) ∧
  (∃ (fn : Fn) (k : Nat) (s : State),
    (regOpen s fn = true) ∧ (flowSlot s fn = .ok k) ∧ (k < 16384) ∧ ((s.flow k).state ≠ .rtr)) ∧
  (∃ (fn : Fn) (k : Nat) (s : State),
    (regOpen s fn = true) ∧ (flowSlot s fn = .ok k) ∧ (k < 16384)) ∧
  (∃ (fn : Fn) (k : Nat) (s : State),
    (regOpen s fn = true) ∧ (flowSlot s fn = .ok k) ∧ (k < 16384)) ∧
  (∃ (flow : FlowIx) (seq : W64) (s : State),
    flowOn s flow = true) ∧
  (∃ (flow : FlowIx) (w : WingIx) (s : State),
    (s.alive = true) ∧ ((s.flow flow).state = .rts) ∧ ((s.flow flow).owner = some w)) ∧
  (∃ (flow : FlowIx) (s : State),
    (flowOn s flow = true) ∧ (∀ t, (s.flow flow).lastCut = some t → 50000 ≤ s.now - t)) ∧
  (∃ (flow : FlowIx) (t : Nat) (s : State),
    ((s.flow flow).lastCut = some t) ∧ (s.now - t < 50000)) ∧
  (∃ (flow : FlowIx) (s : State),
    flowOn s flow = true) :=
  ⟨⟨0, 5, wFlow { wFl with state := .reset }, by refine ⟨?_, ?_, ?_, ?_, ?_⟩ <;> first | decide | rfl | decide +kernel⟩,
   ⟨0, 5, (wFlow { wFl with state := .reset, queue := 77 }), by refine ⟨?_, ?_, ?_, ?_, ?_⟩ <;> first | decide | rfl | decide +kernel⟩,
   ⟨0, 5, wFlow { wFl with state := .init }, by refine ⟨?_, ?_, ?_, ?_, ?_⟩ <;> first | decide | rfl | decide +kernel⟩,
   ⟨0, 5, wFlow { wFl with state := .init, slotBase := 1 }, rADDR_ALIGN, by refine ⟨?_, ?_, ?_, ?_, ?_⟩ <;> first | decide | rfl | decide +kernel⟩,
   ⟨0, 5, wFlow { wFl with state := .rtr }, by refine ⟨?_, ?_, ?_, ?_⟩ <;> first | decide | rfl | decide +kernel⟩,
   ⟨0, 5, wFlow { wFl with state := .error }, by refine ⟨?_, ?_, ?_, ?_⟩ <;> first | decide | rfl | decide +kernel⟩,
   ⟨0, 5, wFlow { wFl with slots := [(1, 1, none)] }, by refine ⟨?_, ?_, ?_⟩ <;> first | decide | rfl | decide +kernel⟩,
   ⟨0, 5, wFlow { wFl with slots := [(1, 1, none)] }, by refine ⟨?_, ?_, ?_⟩ <;> first | decide | rfl | decide +kernel⟩,
   ⟨5, 1, wFlow { wFl with slots := [(1, 1, some [])] }, by decide⟩,
   ⟨5, 3, wFlow wFl, by refine ⟨?_, ?_, ?_⟩ <;> first | decide | rfl | decide +kernel⟩,
   ⟨5, wFlow wFl, by exact ⟨by decide, fun t h => nomatch (show (none : Option Nat) = some t from h)⟩⟩,
   ⟨5, 0, wFlow { wFl with lastCut := some 0 }, by refine ⟨?_, ?_⟩ <;> first | decide | rfl | decide +kernel⟩,
   ⟨5, wFlow { wFl with rate := 790000000000 }, by decide⟩⟩

theorem test_met_RoceSendsFillSlotsAndFramesAreCounted :
  (∃ (flow : FlowIx) (data : Bytes) (hm : HostMem) (w : WingIx) (q : Nat) (s : State),
    (flowOn s flow = true) ∧ ((s.flow flow).owner = some w) ∧ (flowQueue s (s.flow flow) = some q) ∧ (takesEntries s q = false)) ∧
  (∃ (flow : FlowIx) (data : Bytes) (hm : HostMem) (w : WingIx) (q : Nat) (s : State),
    (flowOn s flow = true) ∧ ((s.flow flow).owner = some w) ∧ (flowQueue s (s.flow flow) = some q) ∧ (takesEntries s q = true) ∧ (heldUnit s ukFlow flow = false) ∧ (data.length < 64 ∨ 64 + slotBytes (s.flow flow) < data.length)) ∧
  (∃ (flow : FlowIx) (data : Bytes) (hm : HostMem) (w : WingIx) (q : Nat) (s : State),
    (flowOn s flow = true) ∧ ((s.flow flow).owner = some w) ∧ (flowQueue s (s.flow flow) = some q) ∧ (takesEntries s q = true) ∧ (heldUnit s ukFlow flow = false) ∧ (64 ≤ data.length ∧ data.length ≤ 64 + slotBytes (s.flow flow)) ∧ (((s.flow flow).slots.any fun t => t.1 == (leAt data 8 8 % slotCount (s.flow flow))) = true)) ∧
  (∃ (flow : FlowIx) (data : Bytes) (hm : HostMem) (w : WingIx) (q : Nat) (s : State),
    (flowOn s flow = true) ∧ ((s.flow flow).owner = some w) ∧ (flowQueue s (s.flow flow) = some q) ∧ (takesEntries s q = true) ∧ (heldUnit s ukFlow flow = false) ∧ (data.length = 64) ∧ (((s.flow flow).slots.any fun t => t.1 == (leAt data 8 8 % slotCount (s.flow flow))) = false)) ∧
  (∃ (flow : FlowIx) (data : Bytes) (hm : HostMem) (w : WingIx) (q : Nat) (s : State),
    (flowOn s flow = true) ∧ ((s.flow flow).owner = some w) ∧ (flowQueue s (s.flow flow) = some q) ∧ (takesEntries s q = true) ∧ (heldUnit s ukFlow flow = false) ∧ (64 ≤ data.length ∧ data.length ≤ 64 + slotBytes (s.flow flow)) ∧ (((s.flow flow).slots.any fun t => t.1 == (leAt data 8 8 % slotCount (s.flow flow))) = false) ∧ ((slotFill s w flow ((s.flow flow).slotBase.toNat + (leAt data 8 8 % slotCount (s.flow flow)) * slotBytes (s.flow flow)) (data.drop 64)).2 = false)) ∧
  (∃ (flow : FlowIx) (data : Bytes) (hm : HostMem) (s : State),
    (flowOn s flow = true) ∧ (∀ t, (s.flow flow).lastCnp = some t → 50000 ≤ s.now - t)) ∧
  (∃ (port : Fin 2) (x : EthFrame) (s : State),
    (s.alive = true) ∧ ((s.eth port).linkUp = true) ∧ (x.free = 0) ∧ (9216 < x.len)) ∧
  (∃ (port : Fin 2) (x : EthFrame) (s : State),
    (s.alive = true) ∧ ((s.eth port).linkUp = true) ∧ (x.body = .other)) ∧
  (∃ (port : Fin 2) (x : EthFrame) (s : State) (ip : BitVec 128) (s2 : State),
    (s.alive = true) ∧ ((s.eth port).linkUp = true) ∧ (x.len ≤ 9216) ∧ (x.body = .arp ip ∨ x.body = .neighborSolicit ip) ∧ (answersFor (rxFree s port x.prio x.free) port ip = false)) ∧
  (∃ (port : Fin 2) (x : EthFrame) (s : State) (ip : BitVec 128) (s2 : State),
    (s.alive = true) ∧ ((s.eth port).linkUp = true) ∧ (x.len ≤ 9216) ∧ (x.body = .arp ip) ∧ (answersFor (rxFree s port x.prio x.free) port ip = true) ∧ (rxTake (rxFree s port x.prio x.free) port x.prio x.len = some s2)) ∧
  (∃ (port : Fin 2) (x : EthFrame) (s : State),
    (s.alive = true) ∧ ((s.eth port).linkUp = true) ∧ (x.len ≤ 9216) ∧ (x.free = 0) ∧ (x.body = .pause 3 true) ∧ ((s.eth port).paused = [])) ∧
  (∃ (port : Fin 2) (prio len : Nat) (s : State),
    prio < 8) ∧
  (∃ (port : Fin 2) (up : Bool) (s : State),
    s.alive = true) :=
  ⟨⟨5, (leBytes 8 0 ++ leBytes 8 5 ++ List.replicate 48 0), [], 3, 9, wFlowQ .disabled, by refine ⟨?_, ?_, ?_, ?_⟩ <;> first | decide | rfl | decide +kernel⟩,
   ⟨5, [], [], 3, 9, wFlowQ .enabled, by refine ⟨?_, ?_, ?_, ?_, ?_, ?_⟩ <;> first | decide | rfl | decide +kernel⟩,
   ⟨5, (leBytes 8 0 ++ leBytes 8 5 ++ List.replicate 48 0), [], 3, 9, (wFlowQ .enabled).updFlow 5 fun x => { x with slots := [(1, 1, none)] }, by refine ⟨?_, ?_, ?_, ?_, ?_, ?_, ?_⟩ <;> first | decide | rfl | decide +kernel⟩,
   ⟨5, (leBytes 8 0 ++ leBytes 8 5 ++ List.replicate 48 0), [], 3, 9, wFlowQ .enabled, by refine ⟨?_, ?_, ?_, ?_, ?_, ?_, ?_⟩ <;> first | decide | rfl | decide +kernel⟩,
   ⟨5, (leBytes 8 0 ++ leBytes 8 5 ++ List.replicate 48 0) ++ [1], [], 3, 9, wFlowQ .enabled, by refine ⟨?_, ?_, ?_, ?_, ?_, ?_, ?_, ?_⟩ <;> first | decide | rfl | decide +kernel⟩,
   ⟨5, (leBytes 8 0 ++ leBytes 8 5 ++ List.replicate 48 0), [], wFlow wFl, by exact ⟨by decide, fun t h => nomatch (show (none : Option Nat) = some t from h)⟩⟩,
   ⟨0, { len := 9217, prio := 3, free := 0, body := .other }, wEth, by refine ⟨?_, ?_, ?_, ?_⟩ <;> first | decide | rfl | decide +kernel⟩,
   ⟨0, { len := 1518, prio := 3, free := 0, body := .other }, wEth, by refine ⟨?_, ?_, ?_⟩ <;> first | decide | rfl | decide +kernel⟩,
   ⟨0, { len := 1518, prio := 3, free := 0, body := .arp 5 }, wEth, 5, wEth, by refine ⟨?_, ?_, ?_, ?_, ?_⟩ <;> first | decide | rfl | decide +kernel⟩,
   ⟨0, { len := 1518, prio := 3, free := 0, body := .arp 7 }, wEth, 7, ((rxTake (rxFree wEth 0 3 0) 0 3 1518).getD wEth), by refine ⟨?_, ?_, ?_, ?_, ?_, ?_⟩ <;> first | decide | rfl | decide +kernel⟩,
   ⟨0, { len := 1518, prio := 3, free := 0, body := .pause 3 true }, wEth, by refine ⟨?_, ?_, ?_, ?_, ?_, ?_⟩ <;> first | decide | rfl | decide +kernel⟩,
   ⟨0, 3, 64, wEth, by decide⟩,
   ⟨1, true, wS, by decide⟩⟩

theorem test_met_AttestationAndSessions :
  (∃ (fn : Fn) (s : State),
    (doeOpen s fn = true) ∧ (s.vlt.mode ≠ .selfTest) ∧ (vaultServes s = true)) ∧
  (∃ (fn : Fn) (s : State),
    (doeOpen s fn = true) ∧ (s.vlt.mode ≠ .selfTest) ∧ (vaultServes s = true) ∧ ((s.fnSt fn).spdm ≠ .none)) ∧
  (∃ (fn : Fn) (s : State),
    (doeOpen s fn = true) ∧ (s.vlt.mode ≠ .selfTest) ∧ (vaultServes s = true) ∧ ((s.fnSt fn).spdm = .capabilities)) ∧
  (∃ (fn : Fn) (s : State),
    (doeOpen s fn = true) ∧ (s.vlt.mode ≠ .selfTest) ∧ (vaultServes s = true) ∧ ((s.fnSt fn).spdm = .negotiated)) ∧
  (∃ (fn : Fn) (slot : Fin 8) (s : State),
    (doeOpen s fn = true) ∧ (s.vlt.mode ≠ .selfTest) ∧ (vaultServes s = true) ∧ ((s.fnSt fn).spdm = .negotiated) ∧ (slot.val ≤ 1)) ∧
  (∃ (fn : Fn) (slot : Fin 8) (nonce : Bytes) (s : State) (body : Bytes),
    (doeOpen s fn = true) ∧ (s.vlt.mode ≠ .selfTest) ∧ (vaultServes s = true) ∧ ((s.fnSt fn).spdm = .negotiated) ∧ (slot.val ≤ 1) ∧ (body = [0x12, 0x03, BitVec.ofNat 8 slot, BitVec.ofNat 8 (2 ^ slot.val)] ++ sha384 (chainOf s slot) ++
      (s.free 32).1 ++ leBytes 2 0)) ∧
  (∃ (fn : Fn) (index : Byte) (nonce : Bytes) (s : State) (n : Nat) (r body : Bytes),
    (doeOpen s fn = true) ∧ (s.vlt.mode ≠ .selfTest) ∧ (vaultServes s = true) ∧ ((s.fnSt fn).spdm = .negotiated) ∧ (index ≠ 0) ∧ (measRecord s fn index.toNat nonce = some (n, r)) ∧ (body = [0x12, 0x60, 0, 1, BitVec.ofNat 8 n] ++ leBytes 3 r.length ++ r ++ (s.free 32).1 ++
      leBytes 2 0)) ∧
  (∃ (s : State) (fn : Fn) (w : WingIx),
    (s.fnWing fn = some w) ∧ (fn ≠ 0)) ∧
  (∃ (s : State) (fn : Fn),
    (s.fnWing fn = none) ∧ (fn ≠ 0)) ∧
  (∃ (fn : Fn) (sid : W32) (anchor : BitVec 384) (both : Bool) (s : State),
    (doeOpen s fn = true) ∧ (s.vlt.mode ≠ .selfTest) ∧ (vaultServes s = true) ∧ ((s.fnSt fn).spdm = .negotiated) ∧ ((s.vlt.sessions.filter fun x => x.fn == fn).length < 4) ∧ (s.vlt.sessions.length < 256) ∧ (((s.vlt.sessions.filter fun x => x.fn == fn).any fun x => x.sid == sid) = false)) ∧
  (∃ (fn : Fn) (sid : W32) (anchor : BitVec 384) (both : Bool) (s : State),
    (doeOpen s fn = true) ∧ (s.vlt.mode ≠ .selfTest) ∧ (vaultServes s = true) ∧ ((s.fnSt fn).spdm = .negotiated) ∧ (4 ≤ (s.vlt.sessions.filter fun x => x.fn == fn).length ∨ 256 ≤ s.vlt.sessions.length)) ∧
  (∃ (fn : Fn) (sid : W32) (s : State) (x : Session),
    (doeOpen s fn = true) ∧ (s.vlt.mode ≠ .selfTest) ∧ (vaultServes s = true) ∧ ((s.fnSt fn).spdm = .negotiated) ∧ (findSession s fn sid = some x) ∧ (x.finished = false)) ∧
  (∃ (fn : Fn) (sid : W32) (s : State) (x : Session),
    (doeOpen s fn = true) ∧ (s.vlt.mode ≠ .selfTest) ∧ (vaultServes s = true) ∧ ((s.fnSt fn).spdm = .negotiated) ∧ (findSession s fn sid = some x) ∧ (x.finished = false)) ∧
  (∃ (fn : Fn) (sid : W32) (s : State) (x : Session),
    (doeOpen s fn = true) ∧ (s.vlt.mode ≠ .selfTest) ∧ (vaultServes s = true) ∧ ((s.fnSt fn).spdm = .negotiated) ∧ (findSession s fn sid = some x) ∧ (x.finished = true)) ∧
  (∃ (fn : Fn) (sid : W32) (s : State) (x : Session),
    (doeOpen s fn = true) ∧ (s.vlt.mode ≠ .selfTest) ∧ (vaultServes s = true) ∧ ((s.fnSt fn).spdm = .negotiated) ∧ (findSession s fn sid = some x) ∧ (x.finished = true)) ∧
  (∃ (fn : Fn) (sid : W32) (s : State) (x : Session),
    (doeOpen s fn = true) ∧ (s.vlt.mode ≠ .selfTest) ∧ (vaultServes s = true) ∧ ((s.fnSt fn).spdm = .negotiated) ∧ (findSession s fn sid = some x) ∧ (x.finished = true)) :=
  ⟨⟨0, wS, by refine ⟨?_, ?_, ?_⟩ <;> first | decide | rfl | decide +kernel⟩,
   ⟨0, wS.updFnSt 0 fun f => { f with spdm := .version }, by refine ⟨?_, ?_, ?_, ?_⟩ <;> first | decide | rfl | decide +kernel⟩,
   ⟨0, wS.updFnSt 0 fun f => { f with spdm := .capabilities }, by refine ⟨?_, ?_, ?_, ?_⟩ <;> first | decide | rfl | decide +kernel⟩,
   ⟨0, wS.updFnSt 0 fun f => { f with spdm := .negotiated }, by refine ⟨?_, ?_, ?_, ?_⟩ <;> first | decide | rfl | decide +kernel⟩,
   ⟨0, 1, wS.updFnSt 0 fun f => { f with spdm := .negotiated }, by refine ⟨?_, ?_, ?_, ?_, ?_⟩ <;> first | decide | rfl | decide +kernel⟩,
   ⟨0, 1, [], wS.updFnSt 0 fun f => { f with spdm := .negotiated }, ([0x12, 0x03, 1, 2] ++ sha384 (chainOf (wS.updFnSt 0 fun f => { f with spdm := .negotiated }) 1) ++ ((wS.updFnSt 0 fun f => { f with spdm := .negotiated }).free 32).1 ++ leBytes 2 0), by refine ⟨?_, ?_, ?_, ?_, ?_, ?_⟩ <;> first | decide | rfl | decide +kernel⟩,
   ⟨0, 5, [], wS.updFnSt 0 fun f => { f with spdm := .negotiated }, 1, (measBlock 5 (((measValue (wS.updFnSt 0 fun f => { f with spdm := .negotiated }) 5).getD ([], true)).1) true), ([0x12, 0x60, 0, 1, 1] ++ leBytes 3 39 ++ (measBlock 5 (((measValue (wS.updFnSt 0 fun f => { f with spdm := .negotiated }) 5).getD ([], true)).1) true) ++ ((wS.updFnSt 0 fun f => { f with spdm := .negotiated }).free 32).1 ++ leBytes 2 0), by refine ⟨?_, ?_, ?_, ?_, ?_, ?_, ?_⟩ <;> first | decide | rfl | decide +kernel⟩,
   ⟨wVfT, 2, 3, by refine ⟨?_, ?_⟩ <;> first | decide | rfl | decide +kernel⟩,
   ⟨wS, 2, by refine ⟨?_, ?_⟩ <;> first | decide | rfl | decide +kernel⟩,
   ⟨0, 1, 5, true, wS.updFnSt 0 fun f => { f with spdm := .negotiated }, by refine ⟨?_, ?_, ?_, ?_, ?_, ?_, ?_⟩ <;> first | decide | rfl | decide +kernel⟩,
   ⟨0, 9, 5, true, { wOff { fn := 0, sid := 1, finished := true, officer := true, seqNo := 4, secret := [] } with vlt := { (wOff { fn := 0, sid := 1, finished := true, officer := true, seqNo := 4, secret := [] }).vlt with sessions := List.replicate 4 { fn := 0, sid := 1, finished := true, officer := true, seqNo := 4, secret := [] } } }, by refine ⟨?_, ?_, ?_, ?_, ?_⟩ <;> first | decide | rfl | decide +kernel⟩,
   ⟨0, 1, wOff { fn := 0, sid := 1, finished := false, officer := true, seqNo := 4, secret := [] }, { fn := 0, sid := 1, finished := false, officer := true, seqNo := 4, secret := [] }, by refine ⟨?_, ?_, ?_, ?_, ?_, ?_⟩ <;> first | decide | rfl | decide +kernel⟩,
   ⟨0, 1, wOff { fn := 0, sid := 1, finished := false, officer := true, seqNo := 4, secret := [] }, { fn := 0, sid := 1, finished := false, officer := true, seqNo := 4, secret := [] }, by refine ⟨?_, ?_, ?_, ?_, ?_, ?_⟩ <;> first | decide | rfl | decide +kernel⟩,
   ⟨0, 1, wOff { fn := 0, sid := 1, finished := true, officer := true, seqNo := 4, secret := [] }, { fn := 0, sid := 1, finished := true, officer := true, seqNo := 4, secret := [] }, by refine ⟨?_, ?_, ?_, ?_, ?_, ?_⟩ <;> first | decide | rfl | decide +kernel⟩,
   ⟨0, 1, wOff { fn := 0, sid := 1, finished := true, officer := true, seqNo := 4, secret := [] }, { fn := 0, sid := 1, finished := true, officer := true, seqNo := 4, secret := [] }, by refine ⟨?_, ?_, ?_, ?_, ?_, ?_⟩ <;> first | decide | rfl | decide +kernel⟩,
   ⟨0, 1, wOff { fn := 0, sid := 1, finished := true, officer := true, seqNo := 4, secret := [] }, { fn := 0, sid := 1, finished := true, officer := true, seqNo := 4, secret := [] }, by refine ⟨?_, ?_, ?_, ?_, ?_, ?_⟩ <;> first | decide | rfl | decide +kernel⟩⟩

theorem test_met_IdeStreamsAndTdispInterfaces :
  (∃ (fn : Fn) (stream : Fin 9) (keySet : Fin 2) (sub : Fin 6) (vf : Fn) (s : State),
    (doeOpen s fn = true) ∧ (s.vlt.mode ≠ .selfTest) ∧ (vaultServes s = true) ∧ ((s.fnSt fn).spdm = .negotiated) ∧ (isOfficer s fn = true) ∧ (stream.val < 8)) ∧
  (∃ (fn : Fn) (stream : Fin 9) (keySet : Fin 2) (s : State),
    (doeOpen s fn = true) ∧ (s.vlt.mode ≠ .selfTest) ∧ (vaultServes s = true) ∧ ((s.fnSt fn).spdm = .negotiated) ∧ (isOfficer s fn = true) ∧ ((if keySet = 0 then (s.ide stream).keys0 else (s.ide stream).keys1).length = 6)) ∧
  (∃ (stream : Fin 9) (s : State),
    ((s.ide stream).secure = true) ∧ (s.alive = true)) ∧
  (∃ (fn : Fn) (stream : Fin 8) (s : State) (w : WingIx),
    (doeOpen s fn = true) ∧ (s.vlt.mode ≠ .selfTest) ∧ (vaultServes s = true) ∧ ((s.fnSt fn).spdm = .negotiated) ∧ (isTenantUser s fn = true) ∧ ((s.tdi fn).state = .unlocked) ∧ (s.fnWing fn = some w) ∧ (s.hostFn w = some fn.val) ∧ (streamCovers s stream fn = true) ∧ (logFull s = false)) ∧
  (∃ (fn : Fn) (stream : Fin 8) (s : State),
    (doeOpen s fn = true) ∧ (s.vlt.mode ≠ .selfTest) ∧ (vaultServes s = true) ∧ ((s.fnSt fn).spdm = .negotiated) ∧ (isTenantUser s fn = true) ∧ ((s.tdi fn).state = .unlocked) ∧ (streamCovers s stream fn = false)) ∧
  (∃ (fn : Fn) (s : State),
    (doeOpen s fn = true) ∧ (s.vlt.mode ≠ .selfTest) ∧ (vaultServes s = true) ∧ ((s.fnSt fn).spdm = .negotiated) ∧ (isTenantUser s fn = true) ∧ ((s.tdi fn).state = .locked) ∧ (logFull s = false)) ∧
  (∃ (fn : Fn) (s : State),
    (doeOpen s fn = true) ∧ (s.vlt.mode ≠ .selfTest) ∧ (vaultServes s = true) ∧ ((s.fnSt fn).spdm = .negotiated) ∧ (isTenantUser s fn = true) ∧ ((s.tdi fn).state ≠ .unlocked) ∧ (logFull s = false)) ∧
  (∃ (fn : Fn) (s : State),
    (doeOpen s fn = true) ∧ (s.vlt.mode ≠ .selfTest) ∧ (vaultServes s = true) ∧ ((s.fnSt fn).spdm = .negotiated) ∧ (isTenantUser s fn = true)) ∧
  (∃ (s : State) (vf : Nat) (x : TdiState),
    (logFull s = false) ∧ ((s.tdi vf).state ≠ x)) :=
  ⟨⟨0, 2, 1, 5, 2, wOff { fn := 0, sid := 1, finished := true, officer := true, seqNo := 4, secret := [] }, by refine ⟨?_, ?_, ?_, ?_, ?_, ?_⟩ <;> first | decide | rfl | decide +kernel⟩,
   ⟨0, 2, 1, { wOff { fn := 0, sid := 1, finished := true, officer := true, seqNo := 4, secret := [] } with vlt := { (wOff { fn := 0, sid := 1, finished := true, officer := true, seqNo := 4, secret := [] }).vlt with streams := [(2, { IdeStream.init with keys1 := [0, 1, 2, 3, 4, 5], vf := some 2 })] } }, by refine ⟨?_, ?_, ?_, ?_, ?_, ?_⟩ <;> first | decide | rfl | decide +kernel⟩,
   ⟨2, { wVfT with vlt := { wVfT.vlt with streams := [(2, { IdeStream.init with secure := true, vf := some 2 })] } }, by refine ⟨?_, ?_⟩ <;> first | decide | rfl | decide +kernel⟩,
   ⟨2, 2, { wVfT with vlt := { wVfT.vlt with streams := [(2, { IdeStream.init with secure := true, vf := some 2 })] } }, 3, by refine ⟨?_, ?_, ?_, ?_, ?_, ?_, ?_, ?_, ?_, ?_⟩ <;> first | decide | rfl | decide +kernel⟩,
   ⟨2, 3, { wVfT with vlt := { wVfT.vlt with streams := [(2, { IdeStream.init with secure := true, vf := some 2 })] } }, by refine ⟨?_, ?_, ?_, ?_, ?_, ?_, ?_⟩ <;> first | decide | rfl | decide +kernel⟩,
   ⟨2, wVfT.updTdi 2 fun t => { t with state := .locked }, by refine ⟨?_, ?_, ?_, ?_, ?_, ?_, ?_⟩ <;> first | decide | rfl | decide +kernel⟩,
   ⟨2, wVfT.updTdi 2 fun t => { t with state := .error }, by refine ⟨?_, ?_, ?_, ?_, ?_, ?_, ?_⟩ <;> first | decide | rfl | decide +kernel⟩,
   ⟨2, wVfT, by refine ⟨?_, ?_, ?_, ?_, ?_⟩ <;> first | decide | rfl | decide +kernel⟩,
   ⟨wVfT, 2, .run, by refine ⟨?_, ?_⟩ <;> first | decide | rfl | decide +kernel⟩⟩

theorem test_met_TheVaultServesItsOfficerAndTenants :
  (∃ (fn : Fn) (hub : Hub) (tag : W32) (wing : Byte) (p : Bytes) (c : Cmd) (s : State),
    (c = sentCmd s 0x0601 fn hub tag wing p) ∧ (accepts s c) ∧ (wing = 0xFF#8) ∧ (vaultServes s = true)) ∧
  (∃ (fn : Fn) (hub : Hub) (tag : W32) (wing : Byte) (p : Bytes) (c : Cmd) (s : State),
    (c = sentCmd s 0x0601 fn hub tag wing p) ∧ (accepts s c) ∧ (wing = 0xFF#8) ∧ (vaultServes s = false)) ∧
  (∃ (fn : Fn) (hub : Hub) (tag : W32) (wing : Byte) (p : Bytes) (c : Cmd) (s : State),
    (c = sentCmd s 0x0602 fn hub tag wing p) ∧ (accepts s c) ∧ (wing = 0xFF#8) ∧ (isOfficer s fn = true) ∧ (vaultServes s = true) ∧ (longFull s = false)) ∧
  (∃ (fn : Fn) (hub : Hub) (tag : W32) (wing : Byte) (p : Bytes) (c : Cmd) (s : State) (key : Bytes),
    (c = sentCmd s 0x0603 fn hub tag wing p) ∧ (accepts s c) ∧ (firstFail (importChecks s c) = none) ∧ (importedKey s c = some key) ∧ (leAt p 0 1 = 0)) ∧
  (∃ (fn : Fn) (hub : Hub) (tag : W32) (wing : Byte) (p : Bytes) (c : Cmd) (s : State) (key : Bytes),
    (c = sentCmd s 0x0603 fn hub tag wing p) ∧ (accepts s c) ∧ (firstFail (importChecks s c) = none) ∧ (importedKey s c = some key) ∧ (leAt p 0 1 = 1)) ∧
  (∃ (fn : Fn) (hub : Hub) (tag : W32) (wing : Byte) (p : Bytes) (c : Cmd) (s : State) (code : Byte),
    (c = sentCmd s 0x0603 fn hub tag wing p) ∧ (accepts s c) ∧ (firstFail (importChecks s c) = some code)) ∧
  (∃ (fn : Fn) (hub : Hub) (tag : W32) (wing : Byte) (p : Bytes) (c : Cmd) (s : State),
    (c = sentCmd s 0x0604 fn hub tag wing p) ∧ (accepts s c) ∧ (wing.toNat < 16) ∧ (zeroAt p 1 3 = true) ∧ (leAt p 0 1 = 0) ∧ (isOfficer s fn = true) ∧ (vaultServes s = true) ∧ (longFull s = false) ∧ (zeroizeWaits s 0 wing.toNat = false)) ∧
  (∃ (fn : Fn) (hub : Hub) (tag : W32) (wing : Byte) (p : Bytes) (c : Cmd) (s : State),
    (c = sentCmd s 0x0604 fn hub tag wing p) ∧ (accepts s c) ∧ (wing = 0xFF#8) ∧ (zeroAt p 1 3 = true) ∧ (leAt p 0 1 = 1) ∧ (isOfficer s fn = true) ∧ (vaultServes s = true) ∧ (longFull s = false) ∧ (zeroizeWaits s 1 wing.toNat = false)) ∧
  (∃ (fn : Fn) (hub : Hub) (tag : W32) (wing : Byte) (p : Bytes) (c : Cmd) (s : State),
    (c = sentCmd s 0x0604 fn hub tag wing p) ∧ (accepts s c) ∧ (wing = 0xFF#8) ∧ (zeroAt p 1 3 = true) ∧ (leAt p 0 1 = 2) ∧ (isOfficer s fn = true) ∧ (vaultServes s = true) ∧ (longFull s = false)) ∧
  (∃ (s : State) (w : Nat),
    w < 16) :=
  ⟨⟨0, 0, 0, 0xFF, [], sentCmd (wS) 0x0601 0 0 0 0xFF [], wS, by refine ⟨?_, ?_, ?_, ?_⟩ <;> first | decide | rfl | decide +kernel⟩,
   ⟨0, 0, 0, 0xFF, [], sentCmd (wS.updVlt fun v => { v with mode := .error }) 0x0601 0 0 0 0xFF [], wS.updVlt fun v => { v with mode := .error }, by refine ⟨?_, ?_, ?_, ?_⟩ <;> first | decide | rfl | decide +kernel⟩,
   ⟨0, 0, 0, 0xFF, [], sentCmd (wOff { fn := 0, sid := 1, finished := true, officer := true, seqNo := 4, secret := [] }) 0x0602 0 0 0 0xFF [], wOff { fn := 0, sid := 1, finished := true, officer := true, seqNo := 4, secret := [] }, by refine ⟨?_, ?_, ?_, ?_, ?_, ?_⟩ <;> first | decide | rfl | decide +kernel⟩,
   ⟨2, 0, 0, 3, wKey 0, sentCmd wImp 0x0603 2 0 0 3 (wKey 0), wImp, List.replicate 32 7, by refine ⟨?_, ?_, ?_, ?_, ?_⟩ <;> first | decide | rfl | decide +kernel⟩,
   ⟨0, 0, 0, 0xFF, wKey 1, sentCmd (wNon (wOff { fn := 0, sid := 1, finished := true, officer := true, seqNo := 4, secret := [] })) 0x0603 0 0 0 0xFF (wKey 1), wNon (wOff { fn := 0, sid := 1, finished := true, officer := true, seqNo := 4, secret := [] }), List.replicate 32 7, by refine ⟨?_, ?_, ?_, ?_, ?_⟩ <;> first | decide | rfl | decide +kernel⟩,
   ⟨0, 0, 0, 0xFF, wKey 1, sentCmd (wOff { fn := 0, sid := 1, finished := true, officer := true, seqNo := 4, secret := [] }) 0x0603 0 0 0 0xFF (wKey 1), wOff { fn := 0, sid := 1, finished := true, officer := true, seqNo := 4, secret := [] }, rNOT_APPROVED_MODE, by refine ⟨?_, ?_, ?_⟩ <;> first | decide | rfl | decide +kernel⟩,
   ⟨0, 0, 0, 3, [0, 0, 0, 0], sentCmd (wOff { fn := 0, sid := 1, finished := true, officer := true, seqNo := 4, secret := [] }) 0x0604 0 0 0 3 [0, 0, 0, 0], wOff { fn := 0, sid := 1, finished := true, officer := true, seqNo := 4, secret := [] }, by refine ⟨?_, ?_, ?_, ?_, ?_, ?_, ?_, ?_, ?_⟩ <;> first | decide | rfl | decide +kernel⟩,
   ⟨0, 0, 0, 0xFF, [1, 0, 0, 0], sentCmd (wOff { fn := 0, sid := 1, finished := true, officer := true, seqNo := 4, secret := [] }) 0x0604 0 0 0 0xFF [1, 0, 0, 0], wOff { fn := 0, sid := 1, finished := true, officer := true, seqNo := 4, secret := [] }, by refine ⟨?_, ?_, ?_, ?_, ?_, ?_, ?_, ?_, ?_⟩ <;> first | decide | rfl | decide +kernel⟩,
   ⟨0, 0, 0, 0xFF, [2, 0, 0, 0], sentCmd (wOff { fn := 0, sid := 1, finished := true, officer := true, seqNo := 4, secret := [] }) 0x0604 0 0 0 0xFF [2, 0, 0, 0], wOff { fn := 0, sid := 1, finished := true, officer := true, seqNo := 4, secret := [] }, by refine ⟨?_, ?_, ?_, ?_, ?_, ?_, ?_, ?_⟩ <;> first | decide | rfl | decide +kernel⟩,
   ⟨wFit .enabled, 3, by decide⟩⟩

theorem test_met_TheAccessionLogIsReadExportedAndFreed :
  (∃ (fn : Fn) (hub : Hub) (tag : W32) (wing : Byte) (p : Bytes) (c : Cmd) (s : State) (rs : List Bytes),
    (c = sentCmd s 0x0605 fn hub tag wing p) ∧ (accepts s c) ∧ (wing = 0xFF#8) ∧ (zeroAt p 10 6 = true) ∧ (1 ≤ leAt p 8 2) ∧ (leAt p 8 2 ≤ 21) ∧ (s.log.oldest.toNat ≤ leAt p 0 8) ∧ (leAt p 0 8 < s.log.next.toNat) ∧ (rs = (s.log.recs.drop (leAt p 0 8 - s.log.oldest.toNat)).take (leAt p 8 2))) ∧
  (∃ (fn : Fn) (hub : Hub) (tag : W32) (wing : Byte) (p : Bytes) (c : Cmd) (s : State) (s1 : State),
    (c = sentCmd s 0x0606 fn hub tag wing p) ∧ (accepts s c) ∧ (wing = 0xFF#8) ∧ (isOfficer s fn = true) ∧ (leAt p 12 1 = 0) ∧ (zeroAt p 13 3 = true) ∧ (1 ≤ leAt p 8 4) ∧ (leAt p 8 4 ≤ 1048576) ∧ (s.log.oldest.toNat ≤ leAt p 0 8) ∧ (leAt p 0 8 + leAt p 8 4 ≤ s.log.next.toNat) ∧ (leAt p 16 8 % 4096 = 0) ∧ (224 + 192 * leAt p 8 4 ≤ leAt p 24 8) ∧ (vaultServes s = true) ∧ (longFull s = false) ∧ (s1 = hostWrite s 0 (BitVec.ofNat 64 (leAt p 16 8)) (logBundle s (leAt p 0 8) (leAt p 8 4) false))) ∧
  (∃ (fn : Fn) (hub : Hub) (tag : W32) (wing : Byte) (p : Bytes) (c : Cmd) (s : State) (q : Nat),
    (c = sentCmd s 0x0607 fn hub tag wing p) ∧ (accepts s c) ∧ (wing = 0xFF#8) ∧ (q = leAt p 0 8) ∧ (q < s.log.next.toNat) ∧ (s.log.oldest.toNat ≤ q) ∧ ((s.log.exported.any fun x => decide (x.1 ≤ q) && decide (q ≤ x.2)) = true)) ∧
  (∃ (fn : Fn) (hub : Hub) (tag : W32) (wing : Byte) (p : Bytes) (c : Cmd) (s : State),
    (c = sentCmd s 0x0607 fn hub tag wing p) ∧ (accepts s c) ∧ (wing = 0xFF#8) ∧ (leAt p 0 8 < s.log.oldest.toNat) ∧ (leAt p 0 8 < s.log.next.toNat) ∧ ((s.log.exported.any fun x => decide (x.1 ≤ leAt p 0 8) && decide (leAt p 0 8 ≤ x.2)) = true)) ∧
  (∃ (fn : Fn) (hub : Hub) (tag : W32) (wing : Byte) (p : Bytes) (c : Cmd) (s : State),
    (c = sentCmd s 0x0607 fn hub tag wing p) ∧ (accepts s c) ∧ (wing = 0xFF#8) ∧ (leAt p 0 8 < s.log.next.toNat) ∧ ((s.log.exported.any fun x => decide (x.1 ≤ leAt p 0 8) && decide (leAt p 0 8 ≤ x.2)) = false)) :=
  ⟨⟨0, 0, 0, 0xFF, [1, 0, 0, 0, 0, 0, 0, 0, 3, 0, 0, 0, 0, 0, 0, 0], sentCmd (wLog) 0x0605 0 0 0 0xFF [1, 0, 0, 0, 0, 0, 0, 0, 3, 0, 0, 0, 0, 0, 0, 0], wLog, [List.replicate 192 2, List.replicate 192 3], by refine ⟨?_, ?_, ?_, ?_, ?_, ?_, ?_, ?_, ?_⟩ <;> first | decide | rfl | decide +kernel⟩,
   ⟨0, 0, 0, 0xFF, ([1] ++ List.replicate 7 0 ++ [2] ++ List.replicate 9 0 ++ [16] ++ List.replicate 6 0 ++ [16] ++ List.replicate 6 0), sentCmd (wLogO) 0x0606 0 0 0 0xFF ([1] ++ List.replicate 7 0 ++ [2] ++ List.replicate 9 0 ++ [16] ++ List.replicate 6 0 ++ [16] ++ List.replicate 6 0), wLogO, hostWrite wLogO 0 (BitVec.ofNat 64 0x100000) (logBundle wLogO 1 2 false), by refine ⟨?_, ?_, ?_, ?_, ?_, ?_, ?_, ?_, ?_, ?_, ?_, ?_, ?_, ?_, ?_⟩ <;> first | decide | rfl | decide +kernel⟩,
   ⟨0, 0, 0, 0xFF, [1, 0, 0, 0, 0, 0, 0, 0], sentCmd (wLog) 0x0607 0 0 0 0xFF [1, 0, 0, 0, 0, 0, 0, 0], wLog, 1, by refine ⟨?_, ?_, ?_, ?_, ?_, ?_, ?_⟩ <;> first | decide | rfl | decide +kernel⟩,
   ⟨0, 0, 0, 0xFF, [0, 0, 0, 0, 0, 0, 0, 0], sentCmd (wLog) 0x0607 0 0 0 0xFF [0, 0, 0, 0, 0, 0, 0, 0], wLog, by refine ⟨?_, ?_, ?_, ?_, ?_, ?_⟩ <;> first | decide | rfl | decide +kernel⟩,
   ⟨0, 0, 0, 0xFF, [2, 0, 0, 0, 0, 0, 0, 0], sentCmd (wLog) 0x0607 0 0 0 0xFF [2, 0, 0, 0, 0, 0, 0, 0], wLog, by refine ⟨?_, ?_, ?_, ?_, ?_⟩ <;> first | decide | rfl | decide +kernel⟩⟩

theorem test_met_ModesTamperAndTheVaultLink :
  (∃ (s : State),
    (regOpen s 0 = true) ∧ (isOfficer s 0 = true) ∧ (((List.range 16).any fun w => bit (s.wing w).live.policy.toNat 3 && decide ((s.wing w).state = .enabled)) = false) ∧ (vaultServes s = true) ∧ (canLog s 0)) ∧
  (∃ (s : State),
    (regOpen s 0 = true) ∧ (isOfficer s 0 = true) ∧ (((List.range 16).any fun w => bit (s.wing w).live.policy.toNat 3 && decide ((s.wing w).state = .enabled)) = false) ∧ (vaultServes s = true) ∧ (s.fw.unlock = false) ∧ (s.vlt.selftestFail = 0) ∧ (canLog s 0)) ∧
  (∃ (s : State) (fails : Byte) (w : Nat),
    (regOpen s 0 = true) ∧ (w < 16) ∧ (bit (s.wing w).live.policy.toNat 3 = true) ∧ ((s.wing w).state = .enabled)) ∧
  (∃ (s : State),
    s.vlt.sync = true) ∧
  (∃ (s : State),
    s.vlt.mode ≠ .selfTest) ∧
  (∃ (sensor : Fin 4) (s s1 : State),
    (s.rst.pwrOk = true) ∧ (s1 = (zeroizeAll s).updVlt fun v => { v with tamper := BitVec.ofNat 32 ((if s.vlt.tamper.toNat / 65536 < 0xFFFF then s.vlt.tamper.toNat / 65536 + 1 else 0xFFFF) * 65536 + (fld s.vlt.tamper.toNat 0 5 ||| 1 ||| 2 ^ (sensor.val + 1))) })) ∧
  (∃ (bits : BitVec 5) (s : State),
    (regOpen s 0 = true) ∧ (isOfficer s 0 = true) ∧ (canLog s 0)) ∧
  (∃ (bits : BitVec 5) (s : State),
    (regOpen s 0 = true) ∧ (isOfficer s 0 = false)) ∧
  (∃ (s : State),
    (s.alive = true) ∧ (s.vlt.mode ≠ .error)) :=
  ⟨⟨wOff { fn := 0, sid := 1, finished := true, officer := true, seqNo := 4, secret := [] }, by refine ⟨?_, ?_, ?_, ?_, ?_⟩ <;> first | decide | rfl | decide +kernel⟩,
   ⟨wNon (wOff { fn := 0, sid := 1, finished := true, officer := true, seqNo := 4, secret := [] }), by refine ⟨?_, ?_, ?_, ?_, ?_, ?_, ?_⟩ <;> first | decide | rfl | decide +kernel⟩,
   ⟨(wFit .enabled).updWing 3 fun w => { w with live := { w.live with policy := 8 } }, 0, 3, by refine ⟨?_, ?_, ?_, ?_⟩ <;> first | decide | rfl | decide +kernel⟩,
   ⟨wS, by decide⟩,
   ⟨wS.updVlt fun v => { v with linkUp := false, sync := false }, by decide⟩,
   ⟨2, wS, ((zeroizeAll wS).updVlt fun v => { v with tamper := 0x10009 }), by refine ⟨?_, ?_⟩ <;> first | decide | rfl | decide +kernel⟩,
   ⟨31, (wOff { fn := 0, sid := 1, finished := true, officer := true, seqNo := 4, secret := [] }).updVlt fun v => { v with tamper := 0x10009 }, by refine ⟨?_, ?_, ?_⟩ <;> first | decide | rfl | decide +kernel⟩,
   ⟨31, wS, by refine ⟨?_, ?_⟩ <;> first | decide | rfl | decide +kernel⟩,
   ⟨wS, by refine ⟨?_, ?_⟩ <;> first | decide | rfl | decide +kernel⟩⟩

theorem test_met_DeviceResetsComeFromTheirSources :
  (∃ (s : State) (src asked v : Nat),
    (src < 12) ∧ (mapValue s src = v) ∧ (3 ≤ v ∧ v ≤ 5) ∧ (s.rst.level = none)) ∧
  (∃ (s : State) (src asked v l : Nat),
    (src < 12) ∧ (mapValue s src = v) ∧ (v ≤ 5) ∧ (s.rst.level = some l) ∧ (v ≤ l)) ∧
  (∃ (s : State) (src asked v l : Nat),
    (src < 12) ∧ (mapValue s src = v) ∧ (v ≤ 5) ∧ (3 ≤ l) ∧ (s.rst.level = some l) ∧ (l < v) ∧ (s.rst.pwrOk = true)) ∧
  (∃ (s : State) (src asked : Nat),
    (src < 12) ∧ (mapValue s src = 6)) ∧
  (∃ (s : State) (src asked : Nat),
    (src < 12) ∧ (mapValue s src = 7) ∧ (3 ≤ asked ∧ asked ≤ 5) ∧ (s.rst.level = none)) ∧
  (∃ (s : State) (src : Nat),
    (src < 12) ∧ (Tbl.get RstMap.init s.rst.map src = RstMap.init)) ∧
  (∃ (s : State) (level src : Nat),
    (3 ≤ level ∧ level ≤ 5) ∧ (src < 12)) ∧
  (∃ (fn : Fn) (src : Fin 16) (val : W32) (s : State),
    (regOpen s 0 = true) ∧ (src.val < 12) ∧ (s.fw.quarantine = false) ∧ (bit val.toNat 11 = true) ∧ (bit (allowedMask.getD src.val 0) (fld val.toNat 8 3) = false)) ∧
  (∃ (src : Fin 16) (val : W32) (s : State),
    (regOpen s 0 = true) ∧ (src.val < 12) ∧ (s.fw.quarantine = false) ∧ (bit val.toNat 11 = true → bit (allowedMask.getD src.val 0) (fld val.toNat 8 3) = true) ∧ (canLog s 0)) :=
  ⟨⟨wS, 1, 7, 4, by refine ⟨?_, ?_, ?_, ?_⟩ <;> first | decide | rfl | decide +kernel⟩,
   ⟨{ wS with rst := { wS.rst with level := some 4 } }, 2, 7, 3, 4, by refine ⟨?_, ?_, ?_, ?_, ?_⟩ <;> first | decide | rfl | decide +kernel⟩,
   ⟨{ wS with rst := { wS.rst with level := some 3 } }, 1, 7, 4, 3, by refine ⟨?_, ?_, ?_, ?_, ?_, ?_, ?_⟩ <;> first | decide | rfl | decide +kernel⟩,
   ⟨wS, 6, 7, by refine ⟨?_, ?_⟩ <;> first | decide | rfl | decide +kernel⟩,
   ⟨wS, 11, 4, by refine ⟨?_, ?_, ?_, ?_⟩ <;> first | decide | rfl | decide +kernel⟩,
   ⟨wS, 6, by refine ⟨?_, ?_⟩ <;> first | decide | rfl | decide +kernel⟩,
   ⟨wS, 3, 2, by refine ⟨?_, ?_⟩ <;> first | decide | rfl | decide +kernel⟩,
   ⟨0, 1, 0xE00, wS, by refine ⟨?_, ?_, ?_, ?_, ?_⟩ <;> first | decide | rfl | decide +kernel⟩,
   ⟨1, 0xD00, wS, by refine ⟨?_, ?_, ?_, ?_, ?_⟩ <;> first | decide | rfl | decide +kernel⟩⟩

theorem test_met_LevelsKeepAndClearAsTheTableSays :
  (∃ (s : State) (level : Nat),
    3 ≤ level ∧ level ≤ 5) ∧
  (∃ (s : State),
    (Tbl.wf Wing.init s.wings = true) ∧ (Tbl.wf UnitSt.init s.units = true)) ∧
  (∃ (s : State) (level : Nat),
    level = 4 ∨ level = 5) ∧
  (∃ (s : State),
    s.rst.pwrOk = true) ∧
  (∃ (straps : BitVec 4) (s : State),
    (s.rst.pwrOk = false) ∧ (s.rst.railLatch = false)) ∧
  (∃ (imageOk archiveOk : Bool) (bad : List (Fin 31)) (s : State) (l : Nat),
    (s.rst.level = some l) ∧ (3 ≤ l ∧ l ≤ 5) ∧ (s.rst.pwrOk = true) ∧ (s.rst.railLatch = false) ∧ (s.rst.thermtrip = false)) ∧
  (∃ (imageOk archiveOk : Bool) (bad : List (Fin 31)) (s : State),
    s.rst.thermtrip = true) ∧
  (∃ (h : Hub) (s : State),
    (s.alive = true) ∧ ((s.hub h).auth = .booting) ∧ ((s.hub h).mains = true) ∧ (s.vlt.mode = .selfTest) ∧ (s.plinth.holder ≠ h)) ∧
  (∃ (s : State),
    (s.alive = true) ∧ ((s.hub s.plinth.holder).auth = .booting) ∧ ((s.hub s.plinth.holder).mains = true)) :=
  ⟨⟨wFit .enabled, 3, by decide⟩,
   ⟨wS, by refine ⟨?_, ?_⟩ <;> first | decide | rfl | decide +kernel⟩,
   ⟨wS, 4, by decide⟩,
   ⟨wS, by decide⟩,
   ⟨5, powerDown wS false, by refine ⟨?_, ?_⟩ <;> first | decide | rfl | decide +kernel⟩,
   ⟨true, true, [], State.reset, 5, by refine ⟨?_, ?_, ?_, ?_, ?_⟩ <;> first | decide | rfl | decide +kernel⟩,
   ⟨true, true, [], { State.reset with rst := { State.reset.rst with thermtrip := true } }, by decide⟩,
   ⟨1, wBoot, by refine ⟨?_, ?_, ?_, ?_, ?_⟩ <;> first | decide | rfl | decide +kernel⟩,
   ⟨wBoot, by refine ⟨?_, ?_, ?_⟩ <;> first | decide | rfl | decide +kernel⟩⟩

theorem test_met_BlockResetsStopScrubAndAnswer :
  (∃ (fn : Fn) (hub : Hub) (tag : W32) (wing : Byte) (p : Bytes) (c : Cmd) (s : State),
    (c = sentCmd s 0x0104 fn hub tag wing p) ∧ (accepts s c) ∧ (wing.toNat < 16) ∧ (blockHeld s 0 wing.toNat = false) ∧ ((s.rst.blocks.any fun b => b.level == 0 && b.target == wing.toNat) = false) ∧ (longFull s = false)) ∧
  (∃ (fn : Fn) (hub : Hub) (tag : W32) (wing : Byte) (p : Bytes) (c : Cmd) (s : State),
    (c = sentCmd s 0x0A01 fn hub tag wing p) ∧ (accepts s c) ∧ (wing = 0xFF#8) ∧ (zeroAt p 2 2 = true) ∧ ((leAt p 0 1 = 1 ∧ leAt p 1 1 ≤ 15) ∨ (leAt p 0 1 = 2 ∧ leAt p 1 1 ≤ 7)) ∧ (blockHeld s (leAt p 0 1) (leAt p 1 1) = false) ∧ (longFull s = false)) ∧
  (∃ (fn : Fn) (hub : Hub) (tag : W32) (wing : Byte) (p : Bytes) (c : Cmd) (s : State),
    (c = sentCmd s 0x0A01 fn hub tag wing p) ∧ (accepts s c) ∧ (wing = 0xFF#8) ∧ (zeroAt p 2 2 = true) ∧ (leAt p 1 1 = 0) ∧ (leAt p 0 1 = 3 ∨ leAt p 0 1 = 4) ∧ (longFull s = false)) ∧
  (∃ (fn : Fn) (hub : Hub) (bad : List HcIx) (b : BlockReset) (s : State),
    (blockOf s fn hub = some b) ∧ (blockIdle s b = true) ∧ (b.level = 1 ∨ b.level = 2) ∧ (1 ≤ b.level) ∧ (b.source = 11)) ∧
  (∃ (fn : Fn) (hub : Hub) (bad : List HcIx) (b : BlockReset) (s : State),
    (blockOf s fn hub = some b) ∧ (blockIdle s b = true) ∧ (b.level = 0) ∧ (∀ r ∈ s.reqs, r.wing.val ≠ b.target)) ∧
  (∃ (s : State) (b : BlockReset),
    (b.level = 0) ∧ (b.target < 16)) ∧
  (∃ (fn : Fn) (hub : Hub) (b : BlockReset) (s : State) (r : Req) (rest : List Req),
    (blockOf s fn hub = some b) ∧ (b.level ≠ 0) ∧ ((s.reqs.filter fun r => !r.isDone && (r.halves.any fun h => (blockHalves s b.level b.target).contains h.val)) = r :: rest)) ∧
  (∃ (fn : Fn) (w : WingIx) (s : State),
    (fn ≠ 0) ∧ (s.alive = true) ∧ (s.fnEnabled fn = true) ∧ ((s.tdi fn).state = .unlocked ∨ (s.tdi fn).state = .error) ∧ (s.fnWing fn = some w) ∧ (mapValue s 4 = 6)) ∧
  (∃ (fn : Fn) (w : WingIx) (s : State),
    (fn ≠ 0) ∧ (s.alive = true) ∧ (s.fnEnabled fn = true) ∧ ((s.tdi fn).state = .unlocked) ∧ (s.fnWing fn = some w) ∧ (mapValue s 4 = 0) ∧ (s.rst.blocks = [])) ∧
  (∃ (fn : Fn) (s : State),
    (fn ≠ 0) ∧ (s.alive = true) ∧ (s.fnEnabled fn = true) ∧ ((s.tdi fn).state = .locked ∨ (s.tdi fn).state = .run) ∧ (mapValue s 4 = 6)) ∧
  (∃ (x : CuratorStop) (s : State),
    (s.alive = true) ∧ (mapValue s 6 = 6)) :=
  ⟨⟨0, 0, 0, 3, [], sentCmd (wFit .enabled) 0x0104 0 0 0 3 [], wFit .enabled, by refine ⟨?_, ?_, ?_, ?_, ?_, ?_⟩ <;> first | decide | rfl | decide +kernel⟩,
   ⟨0, 0, 0, 0xFF, [2, 7, 0, 0], sentCmd (wS) 0x0A01 0 0 0 0xFF [2, 7, 0, 0], wS, by refine ⟨?_, ?_, ?_, ?_, ?_, ?_, ?_⟩ <;> first | decide | rfl | decide +kernel⟩,
   ⟨0, 0, 0, 0xFF, [4, 0, 0, 0], sentCmd (wS) 0x0A01 0 0 0 0xFF [4, 0, 0, 0], wS, by refine ⟨?_, ?_, ?_, ?_, ?_, ?_, ?_⟩ <;> first | decide | rfl | decide +kernel⟩,
   ⟨0, 0, [], wBlk 1 7, wBlkS (wBlk 1 7), by refine ⟨?_, ?_, ?_, ?_, ?_⟩ <;> first | decide | rfl | decide +kernel⟩,
   ⟨0, 0, [15], wBlk 0 3, wBlkS (wBlk 0 3), by refine ⟨?_, ?_, ?_, ?_⟩ <;> first | decide | rfl | decide +kernel⟩,
   ⟨wFit .enabled, wBlk 0 3, by refine ⟨?_, ?_⟩ <;> first | decide | rfl | decide +kernel⟩,
   ⟨0, 0, wBlk 1 7, { wBlkS (wBlk 1 7) with reqs := [{ wReqS with halves := [7] }] }, { wReqS with halves := [7] }, [], by refine ⟨?_, ?_, ?_⟩ <;> first | decide | rfl | decide +kernel⟩,
   ⟨2, 3, wVfT, by refine ⟨?_, ?_, ?_, ?_, ?_, ?_⟩ <;> first | decide | rfl | decide +kernel⟩,
   ⟨2, 3, { wVfT with rst := { wVfT.rst with map := [(4, { en := true, value := 0 })] } }, by refine ⟨?_, ?_, ?_, ?_, ?_, ?_, ?_⟩ <;> first | decide | rfl | decide +kernel⟩,
   ⟨2, wVfT.updTdi 2 fun t => { t with state := .run }, by refine ⟨?_, ?_, ?_, ?_, ?_⟩ <;> first | decide | rfl | decide +kernel⟩,
   ⟨{ hub := 1, mem := .clean }, wS, by refine ⟨?_, ?_⟩ <;> first | decide | rfl | decide +kernel⟩⟩

theorem test_met_ClocksPowerAndTemperature :
  (∃ (island : Fin 128) (c l : Nat) (s : State),
    (s.alive = true) ∧ (island.val = 12 * c + l) ∧ (c < 8) ∧ (l < 5)) ∧
  (∃ (island : Fin 128) (c l : Nat) (s : State),
    (s.alive = true) ∧ (island.val = 12 * c + l) ∧ (c < 8) ∧ (l = 7 ∨ l = 8)) ∧
  (∃ (island : Fin 128) (k : Nat) (s : State),
    (s.alive = true) ∧ (island.val = 96 + 2 * k ∨ island.val = 97 + 2 * k) ∧ (k < 8) ∧ ((s.stack k).failed = false) ∧ ((clockAlarm s island (8 + k)).stack k = s.stack k)) ∧
  (∃ (island : Fin 128) (s : State),
    (s.alive = true) ∧ (112 ≤ island.val) ∧ (island.val < 120)) ∧
  (∃ (island : Fin 128) (s : State),
    (s.alive = true) ∧ (120 ≤ island.val)) ∧
  (∃ (pkg : Nat) (dies : List Nat) (s s1 : State),
    (s.alive = true) ∧ (s.holderHub ≠ none) ∧ (dies.length = 20) ∧ (∀ d, d < 20 → 8 ≤ d → dies.getD d 0 * 10 ≤ dieBudget d * 11) ∧ (s1 = (List.range 20).foldl (fun s d => s.updDie d fun x => { x with power := dies.getD d 0 }) s)) ∧
  (∃ (c p : Nat) (s : State),
    (850 < p) ∧ (passed s (s.cell c).lastStep 1000000 = true) ∧ ((s.cell c).underSince = none) ∧ ((s.cell c).tempStep ≤ (s.cell c).step) ∧ ((s.cell c).step < 4)) ∧
  (∃ (s : State),
    (s.alive = true) ∧ (s.rst.excursion = true) ∧ (s.holderHub ≠ none)) ∧
  (∃ (c : Cell) (temps : List (Nat × Nat)) (t0 : Nat) (s : State),
    (s.alive = true) ∧ (temps = [(32 * c.val, t0)]) ∧ (105 ≤ t0) ∧ (t0 ≤ 112) ∧ ((s.cell c).step < 4) ∧ ((s.cell c).powStep ≤ 4)) ∧
  (∃ (d : Fin 20) (temps : List (Nat × Nat)) (t0 : Nat) (s : State),
    (s.alive = true) ∧ (temps = [(32 * d.val, t0)]) ∧ (d.val < 8 ∨ 16 ≤ d.val) ∧ (112 < t0) ∧ (s.rst.overTrip = [32 * d.val]) ∧ (s.rst.thermtrip = false) ∧ (mapValue s 8 = 4 ∨ mapValue s 8 = 5)) ∧
  (∃ (stack : StackIx) (temps : List Nat) (s : State),
    (s.alive = true) ∧ (temps ≠ []) ∧ (∀ x ∈ temps, x ≤ 105) ∧ (∃ x ∈ temps, 95 ≤ x) ∧ ((s.stack stack).throttle = false) ∧ (s.rst.thermtrip = false)) ∧
  (∃ (cell : Cell) (s : State),
    (s.alive = true) ∧ (cellBusy s cell = false) ∧ ((s.half (2 * cell.val)).owner = none) ∧ ((s.half (2 * cell.val + 1)).owner = none)) ∧
  (∃ (cell : Cell) (s : State),
    (s.alive = true) ∧ (cellBusy s cell = false) ∧ ((s.fnSt 0).d3 = false) ∧ ((s.half (2 * cell.val)).owner ≠ none) ∧ (∀ h w, (h = 2 * cell.val ∨ h = 2 * cell.val + 1) → (s.half h).owner = some w → (s.wing w).state ≠ .enabled)) ∧
  (∃ (s : State),
    s.alive = true) ∧
  (∃ (s : State),
    (s.alive = true) ∧ ((s.fnSt 0).d3 = true)) ∧
  (∃ (fn : Fn) (s : State),
    (fn ≠ 0) ∧ (s.alive = true) ∧ (s.fnEnabled fn = true)) ∧
  (∃ (fn : Fn) (s : State),
    (fn ≠ 0) ∧ (s.alive = true)) :=
  ⟨⟨4, 0, 4, wS, by refine ⟨?_, ?_, ?_, ?_⟩ <;> first | decide | rfl | decide +kernel⟩,
   ⟨8, 0, 8, wS, by refine ⟨?_, ?_, ?_, ?_⟩ <;> first | decide | rfl | decide +kernel⟩,
   ⟨111, 7, wS, by refine ⟨?_, ?_, ?_, ?_, ?_⟩ <;> first | decide | rfl | decide +kernel⟩,
   ⟨119, wS, by refine ⟨?_, ?_, ?_⟩ <;> first | decide | rfl | decide +kernel⟩,
   ⟨127, wS, by refine ⟨?_, ?_⟩ <;> first | decide | rfl | decide +kernel⟩,
   ⟨1300, List.replicate 20 100, wS, ((List.range 20).foldl (fun s d => s.updDie d fun x => { x with power := 100 }) wS), by refine ⟨?_, ?_, ?_, ?_, ?_⟩ <;> first | decide | rfl | decide +kernel⟩,
   ⟨3, 851, wS, by refine ⟨?_, ?_, ?_, ?_, ?_⟩ <;> first | decide | rfl | decide +kernel⟩,
   ⟨wS.updRst fun r => { r with excursion := true }, by refine ⟨?_, ?_, ?_⟩ <;> first | decide | rfl | decide +kernel⟩,
   ⟨7, [(224, 105)], 105, wS, by refine ⟨?_, ?_, ?_, ?_, ?_, ?_⟩ <;> first | decide | rfl | decide +kernel⟩,
   ⟨16, [(512, 113)], 113, wS.updRst fun r => { r with overTrip := [512] }, by refine ⟨?_, ?_, ?_, ?_, ?_, ?_, ?_⟩ <;> first | decide | rfl | decide +kernel⟩,
   ⟨7, [95, 40], wS, by exact ⟨by decide, by decide, by decide, ⟨95, by decide, by decide⟩, by decide, by decide⟩⟩,
   ⟨0, wS, by refine ⟨?_, ?_, ?_, ?_⟩ <;> first | decide | rfl | decide +kernel⟩,
   ⟨0, (wS.setHalf 0 { HalfCell.init with owner := some 3 }), by exact ⟨by decide, by decide, by decide, by decide, fun h w hh hw => by rcases hh with rfl | rfl <;> revert hw <;> revert w <;> decide⟩⟩,
   ⟨wS, by decide⟩,
   ⟨(wFit .enabled).updFnSt 0 fun f => { f with d3 := true }, by refine ⟨?_, ?_⟩ <;> first | decide | rfl | decide +kernel⟩,
   ⟨2, wVfT, by refine ⟨?_, ?_, ?_⟩ <;> first | decide | rfl | decide +kernel⟩,
   ⟨2, wVfT, by refine ⟨?_, ?_⟩ <;> first | decide | rfl | decide +kernel⟩⟩

theorem test_met_VentsStoreLatchCountAndDeliver :
  (∃ (rec : VentRec) (producer : Nat) (s : State),
    s.alive = true) ∧
  (∃ (s : State) (r : VentRec) (pr : Nat),
    (s.vnt.bothFailed = false) ∧ (s.vnt.fallback = false) ∧ (alarmCredits s ≠ 0)) ∧
  (∃ (s : State) (r : VentRec) (pr : Nat),
    (s.vnt.bothFailed = false) ∧ (s.vnt.fallback = false) ∧ (alarmCredits s = 0) ∧ ((s.vnt.latches.any fun l => l.producer == pr && l.r.kind == r.kind) = false)) ∧
  (∃ (s : State) (r : VentRec) (pr : Nat),
    (s.vnt.bothFailed = false) ∧ (s.vnt.fallback = false) ∧ (alarmCredits s = 0) ∧ ((s.vnt.latches.any fun l => l.producer == pr && l.r.kind == r.kind) = true)) ∧
  (∃ (s : State) (r : VentRec),
    (r.sev ≠ 0) ∧ (bit (s.vnt.ring 1).mask r.sev.toNat = false)) ∧
  (∃ (s : State) (r : VentRec),
    (r.sev.toNat ∈ [1, 2, 3]) ∧ (bit (s.vnt.ring 1).mask r.sev.toNat = true) ∧ (s.vnt.bothFailed = false) ∧ (s.vnt.fallback = false) ∧ (s.vnt.logs.length + s.vnt.logsOut < logLimit r.sev)) ∧
  (∃ (s : State) (r : VentRec),
    (r.sev.toNat ∈ [1, 2, 3]) ∧ (bit (s.vnt.ring 1).mask r.sev.toNat = true) ∧ (s.vnt.bothFailed = false) ∧ (s.vnt.fallback = false) ∧ (logLimit r.sev ≤ s.vnt.logs.length + s.vnt.logsOut)) ∧
  (∃ (acc : Fin 64) (a : Accum) (s : State),
    (Tbl.get Accum.init s.vnt.accs acc = a) ∧ (a.count ≠ 0) ∧ (s.vnt.bothFailed = false) ∧ (s.vnt.fallback = false) ∧ (s.vnt.summaries.length < 64)) ∧
  (∃ (fn : Fn) (hub : Hub) (tag : W32) (wing : Byte) (p : Bytes) (c : Cmd) (s : State),
    (c = sentCmd s 0x0701 fn hub tag wing p) ∧ (accepts s c) ∧ (wing = 0xFF#8) ∧ (zeroAt p 3 5 = true) ∧ (leAt p 0 1 = 1) ∧ (leAt p 1 1 ≤ 15) ∧ (16 ≤ leAt p 2 1 ∧ leAt p 2 1 ≤ 26) ∧ (leAt p 8 8 % 4096 = 0)) ∧
  (∃ (fn : Fn) (hub : Hub) (tag : W32) (wing : Byte) (p : Bytes) (c : Cmd) (s : State),
    (c = sentCmd s 0x0702 fn hub tag wing p) ∧ (accepts s c) ∧ (wing = 0xFF#8)) ∧
  (∃ (fn : Fn) (hub : Hub) (tag : W32) (wing : Byte) (p : Bytes) (c : Cmd) (s : State),
    (c = sentCmd s 0x0703 fn hub tag wing p) ∧ (accepts s c) ∧ (wing = 0xFF#8) ∧ (zeroAt p 2 2 = true) ∧ (leAt p 1 1 ≤ 6) ∧ (1 ≤ leAt p 4 4 ∧ leAt p 4 4 ≤ 10000) ∧ (dieClass (leAt p 0 1) (leAt p 1 1) = true) ∧ (leAt p 8 8 = 0) ∧ ((s.vnt.ring 2).sizeLog2 ≠ 0) ∧ (s.vnt.windows.length < 16) ∧ (s.vnt.fallback = false) ∧ (s.vnt.bothFailed = false)) ∧
  (∃ (win : W32) (recs : List Bytes) (w : TraceWin) (s : State),
    ((s.vnt.windows.find? fun w => w.id == win) = some w) ∧ (recs.length ≤ captureSize w.die) ∧ ((windowBytes w recs false 0).length + traceUsed s ≤ 0x300000)) ∧
  (∃ (win : W32) (recs : List Bytes) (w : TraceWin) (s : State),
    ((s.vnt.windows.find? fun w => w.id == win) = some w) ∧ (64 + traceUsed s ≤ 0x300000)) ∧
  (∃ (vent : Fin 3) (head : W64) (s : State),
    (regOpen s 0 = true) ∧ (head.toNat ≤ (s.vnt.ring vent).tail.toNat) ∧ ((s.vnt.ring vent).head.toNat ≤ head.toNat) ∧ (vent ≠ 0)) ∧
  (∃ (vent : Fin 3) (head : W64) (s : State),
    (regOpen s 0 = true) ∧ ((s.vnt.ring vent).tail.toNat < head.toNat ∨ head.toNat < (s.vnt.ring vent).head.toNat)) ∧
  (∃ (cause : Fin 4) (s : State),
    (s.alive = true) ∧ (cause ≠ 0) ∧ (s.vnt.fallback = false) ∧ (s.vnt.bothFailed = false) ∧ (hubCut s (otherHub s.pcie.activeHub) = false)) ∧
  (∃ (cause : Fin 4) (s : State),
    (s.alive = true) ∧ (s.vnt.fallback = true) ∧ (s.vnt.bothFailed = false)) :=
  ⟨⟨{ VentRec.mk0 wS 0x0202 4 with die := 9 }, 9, wS, by decide⟩,
   ⟨wS, { VentRec.mk0 wS 0x0202 4 with die := 9 }, 9, by refine ⟨?_, ?_, ?_⟩ <;> first | decide | rfl | decide +kernel⟩,
   ⟨wNoCr, { VentRec.mk0 wS 0x0202 4 with die := 9 }, 9, by refine ⟨?_, ?_, ?_, ?_⟩ <;> first | decide | rfl | decide +kernel⟩,
   ⟨{ wNoCr with vnt := { wNoCr.vnt with latches := [{ producer := 9, r := { VentRec.mk0 wS 0x0202 4 with die := 9 }, rep := 0 }] } }, { VentRec.mk0 wS 0x0202 4 with die := 9 }, 9, by refine ⟨?_, ?_, ?_, ?_⟩ <;> first | decide | rfl | decide +kernel⟩,
   ⟨{ wRingL with vnt := { wRingL.vnt with rings := [(1, { head := 0, tail := 0, addr := 0, sizeLog2 := 16, mask := 3 })] } }, { VentRec.mk0 wS 0x1001 2 with wing := 3 }, by refine ⟨?_, ?_⟩ <;> first | decide | rfl | decide +kernel⟩,
   ⟨wRingL, { VentRec.mk0 wS 0x1001 2 with wing := 3 }, by refine ⟨?_, ?_, ?_, ?_, ?_⟩ <;> first | decide | rfl | decide +kernel⟩,
   ⟨{ wRingL with vnt := { wRingL.vnt with logsOut := 14744 } }, { VentRec.mk0 wS 0x1001 2 with wing := 3 }, by refine ⟨?_, ?_, ?_, ?_, ?_⟩ <;> first | decide | rfl | decide +kernel⟩,
   ⟨5, wAcc, { wS with vnt := { wS.vnt with accs := [(5, wAcc)] } }, by refine ⟨?_, ?_, ?_, ?_, ?_⟩ <;> first | decide | rfl | decide +kernel⟩,
   ⟨0, 0, 0, 0xFF, [1, 14, 16, 0, 0, 0, 0, 0, 0, 0, 0x10, 0, 0, 0, 0, 0], sentCmd (wS) 0x0701 0 0 0 0xFF [1, 14, 16, 0, 0, 0, 0, 0, 0, 0, 0x10, 0, 0, 0, 0, 0], wS, by refine ⟨?_, ?_, ?_, ?_, ?_, ?_, ?_, ?_⟩ <;> first | decide | rfl | decide +kernel⟩,
   ⟨0, 0, 0, 0xFF, [], sentCmd (wRingL) 0x0702 0 0 0 0xFF [], wRingL, by refine ⟨?_, ?_, ?_⟩ <;> first | decide | rfl | decide +kernel⟩,
   ⟨0, 0, 0, 0xFF, [9, 4, 0, 0, 1, 0, 0, 0, 0, 0, 0, 0, 0, 0, 0, 0], sentCmd (wRingL) 0x0703 0 0 0 0xFF [9, 4, 0, 0, 1, 0, 0, 0, 0, 0, 0, 0, 0, 0, 0, 0], wRingL, by refine ⟨?_, ?_, ?_, ?_, ?_, ?_, ?_, ?_, ?_, ?_, ?_, ?_⟩ <;> first | decide | rfl | decide +kernel⟩,
   ⟨7, [[1, 2]], wTrc, wWin, by refine ⟨?_, ?_, ?_⟩ <;> first | decide | rfl | decide +kernel⟩,
   ⟨7, [[1, 2]], wTrc, wWin, by refine ⟨?_, ?_⟩ <;> first | decide | rfl | decide +kernel⟩,
   ⟨1, 0, wRingL, by refine ⟨?_, ?_, ?_, ?_⟩ <;> first | decide | rfl | decide +kernel⟩,
   ⟨1, 64, wRingL, by refine ⟨?_, ?_⟩ <;> first | decide | rfl | decide +kernel⟩,
   ⟨1, wRingL, by refine ⟨?_, ?_, ?_, ?_, ?_⟩ <;> first | decide | rfl | decide +kernel⟩,
   ⟨0, { wRingL with vnt := { wRingL.vnt with fallback := true } }, by refine ⟨?_, ?_, ?_⟩ <;> first | decide | rfl | decide +kernel⟩⟩

theorem test_met_AlertSidebandLasersAndTestPort :
  (∃ (s : State),
    (regOpen s 0 = true) ∧ (s.fw.quarantine = false) ∧ (canLog s 0)) ∧
  (∃ (index : Byte) (b : Bytes) (s : State),
    sidebandContent s index.toNat = some (b, false)) ∧
  (∃ (index : Byte) (b : Bytes) (s : State),
    (sidebandContent s index.toNat = some (b, true)) ∧ (s.rst.pwrOk = false ∨ s.rst.level ≠ none)) ∧
  (∃ (index : Byte) (b : Bytes) (s : State),
    (sidebandContent s index.toNat = some (b, true)) ∧ (s.rst.pwrOk = true) ∧ (s.rst.level = none)) ∧
  (∃ (die : Hub) (fiber : Fin 34) (s : State),
    s.alive = true) ∧
  (∃ (tdi : Bool) (s : State),
    s.tap.ir = .bypass) ∧
  (∃ (s : State),
    (s.rst.perst = true) ∧ (s.rst.level = some 5)) ∧
  (∃ (s : State),
    (s.rst.perst = true) ∧ (s.rst.level = some 5)) ∧
  (∃ (s : State),
    (s.rst.perst = true) ∧ (s.rst.level = some 5)) ∧
  (∃ (s : State),
    s.rst.perst = false ∨ s.rst.level ≠ some 5) :=
  ⟨⟨wRingL, by refine ⟨?_, ?_, ?_⟩ <;> first | decide | rfl | decide +kernel⟩,
   ⟨1, [0, 0, 0, 0], State.reset, by decide⟩,
   ⟨5, (leBytes 4 (pwrStatus State.reset)), State.reset, by refine ⟨?_, ?_⟩ <;> first | decide | rfl | decide +kernel⟩,
   ⟨5, (leBytes 4 (pwrStatus wS)), wS, by refine ⟨?_, ?_, ?_⟩ <;> first | decide | rfl | decide +kernel⟩,
   ⟨1, 33, wS, by decide⟩,
   ⟨true, wS.updTap fun t => { t with ir := .bypass }, by decide⟩,
   ⟨State.reset, by refine ⟨?_, ?_⟩ <;> first | decide | rfl | decide +kernel⟩,
   ⟨State.reset, by refine ⟨?_, ?_⟩ <;> first | decide | rfl | decide +kernel⟩,
   ⟨State.reset, by refine ⟨?_, ?_⟩ <;> first | decide | rfl | decide +kernel⟩,
   ⟨wS, by decide⟩⟩

theorem test_met_FirmwareIsLoadedActivatedCommittedAndRolledBack :
  (∃ (fn : Fn) (hub : Hub) (tag : W32) (wing : Byte) (p : Bytes) (c : Cmd) (s : State),
    (c = sentCmd s 0x0401 fn hub tag wing p) ∧ (accepts s c) ∧ (wing = 0xFF#8) ∧ (leAt p 0 1 ≤ 1) ∧ (zeroAt p 2 2 = true) ∧ (zeroAt p 8 24 = true) ∧ (leAt p 1 1 = 1) ∧ (isBooted s.fw (bit (leAt p 0 1) 0) = false) ∧ (¬ ((s.fw.slot (bit (leAt p 0 1) 0)).state = .committed ∧ onTrial s.fw = true)) ∧ (leAt p 4 4 = 0) ∧ ((p.drop 32).length ≤ 0x2000000) ∧ (bothHubs s = true)) ∧
  (∃ (fn : Fn) (hub : Hub) (tag : W32) (wing : Byte) (p : Bytes) (c : Cmd) (s : State),
    (c = sentCmd s 0x0401 fn hub tag wing p) ∧ (accepts s c) ∧ (wing = 0xFF#8) ∧ (leAt p 0 1 ≤ 1) ∧ (zeroAt p 2 2 = true) ∧ (zeroAt p 8 24 = true) ∧ (leAt p 1 1 = 0) ∧ (isBooted s.fw (bit (leAt p 0 1) 0) = false) ∧ ((s.fw.slot (bit (leAt p 0 1) 0)).state = .loading) ∧ (leAt p 4 4 = (s.fw.slot (bit (leAt p 0 1) 0)).data.length) ∧ (leAt p 4 4 + (p.drop 32).length ≤ 0x2000000) ∧ (bothHubs s = true)) ∧
  (∃ (fn : Fn) (hub : Hub) (tag : W32) (wing : Byte) (p : Bytes) (c : Cmd) (s : State),
    (c = sentCmd s 0x0401 fn hub tag wing p) ∧ (accepts s c) ∧ (wing = 0xFF#8) ∧ (leAt p 0 1 ≤ 1) ∧ (zeroAt p 2 2 = true) ∧ (zeroAt p 8 24 = true) ∧ (leAt p 1 1 = 0) ∧ (isBooted s.fw (bit (leAt p 0 1) 0) = false) ∧ ((s.fw.slot (bit (leAt p 0 1) 0)).state = .loading) ∧ (leAt p 4 4 ≠ (s.fw.slot (bit (leAt p 0 1) 0)).data.length)) ∧
  (∃ (fn : Fn) (hub : Hub) (tag : W32) (wing : Byte) (p : Bytes) (c : Cmd) (s : State),
    (c = sentCmd s 0x0401 fn hub tag wing p) ∧ (accepts s c) ∧ (wing = 0xFF#8) ∧ (leAt p 0 1 ≤ 1) ∧ (zeroAt p 2 2 = true) ∧ (zeroAt p 8 24 = true) ∧ (leAt p 1 1 = 2) ∧ (isBooted s.fw (bit (leAt p 0 1) 0) = false) ∧ ((s.fw.slot (bit (leAt p 0 1) 0)).state = .loading) ∧ (leAt p 4 4 = (s.fw.slot (bit (leAt p 0 1) 0)).data.length) ∧ (leAt p 4 4 + (p.drop 32).length ≤ 0x2000000) ∧ (bothHubs s = true)) ∧
  (∃ (fn : Fn) (hub : Hub) (tag : W32) (wing : Byte) (p : Bytes) (c : Cmd) (s : State),
    (c = sentCmd s 0x0402 fn hub tag wing p) ∧ (accepts s c) ∧ (wing = 0xFF#8) ∧ (leAt p 0 1 ≤ 1) ∧ (zeroAt p 1 3 = true) ∧ ((s.fw.slot (bit (leAt p 0 1) 0)).state = .valid) ∧ (onTrial s.fw = false) ∧ (longFull s = false) ∧ (bothHubs s = true)) ∧
  (∃ (fn : Fn) (hub : Hub) (tag : W32) (wing : Byte) (p : Bytes) (c : Cmd) (s : State),
    (c = sentCmd s 0x0402 fn hub tag wing p) ∧ (accepts s c) ∧ (wing = 0xFF#8) ∧ (leAt p 0 1 ≤ 1) ∧ (zeroAt p 1 3 = true) ∧ ((s.fw.slot (bit (leAt p 0 1) 0)).state ≠ .valid ∨ onTrial s.fw = true)) ∧
  (∃ (fn : Fn) (hub : Hub) (tag : W32) (wing : Byte) (p : Bytes) (c : Cmd) (s : State),
    (c = sentCmd s 0x0403 fn hub tag wing p) ∧ (accepts s c) ∧ (wing = 0xFF#8) ∧ (leAt p 0 1 = 0) ∧ (zeroAt p 1 3 = true) ∧ (onTrial s.fw = true) ∧ (s.fw.quarantine = false) ∧ (s.vlt.mode ≠ .error) ∧ (bothHubs s = true)) ∧
  (∃ (s : State) (c : Cmd) (discard : Bool),
    (s.fw.recovery = false) ∧ ((s.fw.slot s.fw.running).state = .trial) ∧ (s.fw.archA.gen.toNat < 2 ^ 63) ∧ (s.fw.archB.gen.toNat < 2 ^ 63)) ∧
  (∃ (fn : Fn) (hub : Hub) (tag : W32) (wing : Byte) (p : Bytes) (c : Cmd) (s : State),
    (c = sentCmd s 0x0404 fn hub tag wing p) ∧ (accepts s c) ∧ (wing = 0xFF#8) ∧ (onTrial s.fw = true) ∧ (longFull s = false) ∧ (bothHubs s = true)) ∧
  (∃ (s : State),
    (bothHubs s = true) ∧ (s.alive = true) ∧ (s.fw.archDirty = true) ∧ ((s.fw.slot s.fw.running).state = .committed) ∧ (s.fw.quarantine = false)) ∧
  (∃ (s : State),
    (s.fw.slot s.fw.running).state = .trial) :=
  ⟨⟨0, 0, 0, 0xFF, ([1, 1] ++ List.replicate 30 0 ++ [7, 8]), sentCmd (wFwS) 0x0401 0 0 0 0xFF ([1, 1] ++ List.replicate 30 0 ++ [7, 8]), wFwS, by refine ⟨?_, ?_, ?_, ?_, ?_, ?_, ?_, ?_, ?_, ?_, ?_, ?_⟩ <;> first | decide | rfl | decide +kernel⟩,
   ⟨0, 0, 0, 0xFF, ([1, 0, 0, 0, 2] ++ List.replicate 27 0 ++ [7, 8]), sentCmd (wLoad) 0x0401 0 0 0 0xFF ([1, 0, 0, 0, 2] ++ List.replicate 27 0 ++ [7, 8]), wLoad, by refine ⟨?_, ?_, ?_, ?_, ?_, ?_, ?_, ?_, ?_, ?_, ?_, ?_⟩ <;> first | decide | rfl | decide +kernel⟩,
   ⟨0, 0, 0, 0xFF, ([1, 0, 0, 0, 3] ++ List.replicate 27 0), sentCmd (wLoad) 0x0401 0 0 0 0xFF ([1, 0, 0, 0, 3] ++ List.replicate 27 0), wLoad, by refine ⟨?_, ?_, ?_, ?_, ?_, ?_, ?_, ?_, ?_, ?_⟩ <;> first | decide | rfl | decide +kernel⟩,
   ⟨0, 0, 0, 0xFF, ([1, 2, 0, 0, 2] ++ List.replicate 27 0), sentCmd (wLoad) 0x0401 0 0 0 0xFF ([1, 2, 0, 0, 2] ++ List.replicate 27 0), wLoad, by refine ⟨?_, ?_, ?_, ?_, ?_, ?_, ?_, ?_, ?_, ?_, ?_, ?_⟩ <;> first | decide | rfl | decide +kernel⟩,
   ⟨0, 0, 0, 0xFF, [1, 0, 0, 0], sentCmd ((wFwS.updFw fun f => { f with slotB := { Slot.init with state := .valid } })) 0x0402 0 0 0 0xFF [1, 0, 0, 0], (wFwS.updFw fun f => { f with slotB := { Slot.init with state := .valid } }), by refine ⟨?_, ?_, ?_, ?_, ?_, ?_, ?_, ?_, ?_⟩ <;> first | decide | rfl | decide +kernel⟩,
   ⟨0, 0, 0, 0xFF, [1, 0, 0, 0], sentCmd (wS) 0x0402 0 0 0 0xFF [1, 0, 0, 0], wS, by refine ⟨?_, ?_, ?_, ?_, ?_, ?_⟩ <;> first | decide | rfl | decide +kernel⟩,
   ⟨0, 0, 0, 0xFF, [0, 0, 0, 0], sentCmd (wTrial) 0x0403 0 0 0 0xFF [0, 0, 0, 0], wTrial, by refine ⟨?_, ?_, ?_, ?_, ?_, ?_, ?_, ?_, ?_⟩ <;> first | decide | rfl | decide +kernel⟩,
   ⟨wTrial, sentCmd wTrial 0x0403 0 0 0 0xFF [0, 0, 0, 0], false, by refine ⟨?_, ?_, ?_, ?_⟩ <;> first | decide | rfl | decide +kernel⟩,
   ⟨0, 0, 0, 0xFF, [], sentCmd (wTrial) 0x0404 0 0 0 0xFF [], wTrial, by refine ⟨?_, ?_, ?_, ?_, ?_, ?_⟩ <;> first | decide | rfl | decide +kernel⟩,
   ⟨{ wFwS with fw := { wFwS.fw with archDirty := true } }, by refine ⟨?_, ?_, ?_, ?_, ?_⟩ <;> first | decide | rfl | decide +kernel⟩,
   ⟨wTrial, by decide⟩⟩

theorem test_met_MarginsRepairsAndTestModes :
  (∃ (fn : Fn) (hub : Hub) (tag : W32) (wing : Byte) (p : Bytes) (c : Cmd) (s : State),
    (c = sentCmd s 0x0901 fn hub tag wing p) ∧ (accepts s c) ∧ (wing = 0xFF#8) ∧ (zeroAt p 4 4 = true) ∧ (leAt p 2 1 ≤ 3) ∧ (1 ≤ leAt p 3 1 ∧ leAt p 3 1 ≤ 8) ∧ (leAt p 0 1 ≤ 7 ∧ leAt p 1 1 ≤ 31) ∧ ((s.stack (leAt p 0 1)).failed = false) ∧ (stackInUse s (leAt p 0 1) = false) ∧ (longFull s = false)) ∧
  (∃ (step : Nat) (a b : Byte),
    1 ≤ step ∧ step ≤ 8) ∧
  (∃ (fn : Fn) (hub : Hub) (tag : W32) (wing : Byte) (p : Bytes) (c : Cmd) (s : State),
    (c = sentCmd s 0x0902 fn hub tag wing p) ∧ (accepts s c) ∧ (wing = 0xFF#8) ∧ (zeroAt p 4 4 = true) ∧ (leAt p 2 1 = 0) ∧ (leAt p 3 1 ≤ 31 ∨ 224 ≤ leAt p 3 1) ∧ (leAt p 0 1 ≤ 7 ∧ leAt p 1 1 ≤ 31) ∧ ((s.stack (leAt p 0 1)).failed = false) ∧ (stackInUse s (leAt p 0 1) = false)) ∧
  (∃ (fn : Fn) (hub : Hub) (tag : W32) (wing : Byte) (p : Bytes) (c : Cmd) (s : State) (x : Stack),
    (c = sentCmd s 0x0801 fn hub tag wing p) ∧ (accepts s c) ∧ (wing = 0xFF#8) ∧ (zeroAt p 2 2 = true) ∧ (leAt p 0 1 = 0) ∧ (leAt p 1 1 ≤ 7) ∧ (x = s.stack (leAt p 1 1))) ∧
  (∃ (fn : Fn) (hub : Hub) (tag : W32) (wing : Byte) (p : Bytes) (c : Cmd) (s : State),
    (c = sentCmd s 0x0801 fn hub tag wing p) ∧ (accepts s c) ∧ (wing = 0xFF#8) ∧ (zeroAt p 2 2 = true) ∧ (leAt p 0 1 = 1) ∧ (leAt p 1 1 ≤ 30)) ∧
  (∃ (fn : Fn) (hub : Hub) (tag : W32) (wing : Byte) (p : Bytes) (c : Cmd) (s : State),
    (c = sentCmd s 0x0802 fn hub tag wing p) ∧ (accepts s c) ∧ (wing = 0xFF#8) ∧ (zeroAt p 6 2 = true) ∧ (leAt p 0 1 ≤ 7 ∧ leAt p 1 1 ≤ 31 ∧ leAt p 2 1 ≤ 63 ∧ leAt p 4 2 < 24576) ∧ ((s.stack (leAt p 0 1)).failed = false) ∧ (∀ w, (s.ext (48 * leAt p 0 1 + leAt p 4 2 / 512)).owner = some w → (s.wing w).state ≠ .enabled) ∧ ((leAt p 1 1, leAt p 2 1, leAt p 4 2) ∉ (s.stack (leAt p 0 1)).hardRows) ∧ (longFull s = false) ∧ (leAt p 3 1 = 0) ∧ (((s.stack (leAt p 0 1)).softRows.filter fun y => y.1 == leAt p 1 1 && y.2.1 == leAt p 2 1).length + ((s.stack (leAt p 0 1)).hardRows.filter fun y => y.1 == leAt p 1 1 && y.2.1 == leAt p 2 1).length < 4)) ∧
  (∃ (fn : Fn) (hub : Hub) (tag : W32) (wing : Byte) (p : Bytes) (c : Cmd) (s : State),
    (c = sentCmd s 0x0802 fn hub tag wing p) ∧ (accepts s c) ∧ (wing = 0xFF#8) ∧ (zeroAt p 6 2 = true) ∧ (leAt p 0 1 ≤ 7 ∧ leAt p 1 1 ≤ 31 ∧ leAt p 2 1 ≤ 63 ∧ leAt p 4 2 < 24576) ∧ ((s.stack (leAt p 0 1)).failed = false) ∧ (∀ w, (s.ext (48 * leAt p 0 1 + leAt p 4 2 / 512)).owner = some w → (s.wing w).state ≠ .enabled) ∧ ((leAt p 1 1, leAt p 2 1, leAt p 4 2) ∉ (s.stack (leAt p 0 1)).hardRows) ∧ (longFull s = false) ∧ (leAt p 3 1 = 1) ∧ (((s.stack (leAt p 0 1)).softRows.filter fun y => y.1 == leAt p 1 1 && y.2.1 == leAt p 2 1).length + ((s.stack (leAt p 0 1)).hardRows.filter fun y => y.1 == leAt p 1 1 && y.2.1 == leAt p 2 1).length < 4) ∧ (((s.stack (leAt p 0 1)).hardRows.filter fun y => y.1 == leAt p 1 1 && y.2.1 == leAt p 2 1).length < 2)) ∧
  (∃ (fn : Fn) (hub : Hub) (tag : W32) (wing : Byte) (p : Bytes) (c : Cmd) (s : State),
    (c = sentCmd s 0x0802 fn hub tag wing p) ∧ (accepts s c) ∧ (wing = 0xFF#8) ∧ (zeroAt p 6 2 = true) ∧ (leAt p 0 1 ≤ 7 ∧ leAt p 1 1 ≤ 31 ∧ leAt p 2 1 ≤ 63 ∧ leAt p 4 2 < 24576) ∧ ((s.stack (leAt p 0 1)).failed = false) ∧ (∀ w, (s.ext (48 * leAt p 0 1 + leAt p 4 2 / 512)).owner = some w → (s.wing w).state ≠ .enabled) ∧ ((leAt p 1 1, leAt p 2 1, leAt p 4 2) ∉ (s.stack (leAt p 0 1)).hardRows) ∧ (longFull s = false) ∧ (leAt p 3 1 = 2) ∧ ((leAt p 1 1, leAt p 2 1, leAt p 4 2) ∈ (s.stack (leAt p 0 1)).softRows)) ∧
  (∃ (fn : Fn) (hub : Hub) (tag : W32) (wing : Byte) (p : Bytes) (c : Cmd) (s : State),
    (c = sentCmd s 0x0803 fn hub tag wing p) ∧ (accepts s c) ∧ (wing = 0xFF#8) ∧ (zeroAt p 4 4 = true) ∧ (leAt p 0 1 = 0) ∧ (leAt p 1 1 ≤ 7) ∧ (leAt p 2 2 < 2560) ∧ ((s.stack (leAt p 1 1)).failed = false) ∧ (stackInUse s (leAt p 1 1) = false) ∧ (stackGroup (leAt p 2 2) ∉ (s.stack (leAt p 1 1)).laneGroups) ∧ (longFull s = false)) ∧
  (∃ (fn : Fn) (hub : Hub) (tag : W32) (wing : Byte) (p : Bytes) (c : Cmd) (s : State),
    (c = sentCmd s 0x0803 fn hub tag wing p) ∧ (accepts s c) ∧ (wing = 0xFF#8) ∧ (zeroAt p 4 4 = true) ∧ (leAt p 0 1 = 1) ∧ (leAt p 1 1 ≤ 30) ∧ (leAt p 2 2 % 32768 < linkLanes (leAt p 1 1)) ∧ ((s.link (leAt p 1 1)).spares = []) ∧ ((s.link (leAt p 1 1)).repairs = []) ∧ (longFull s = false)) ∧
  (∃ (s : State),
    (regOpen s 0 = true) ∧ (mayUnlock s 0 = true) ∧ (s.fw.unlock = false) ∧ (canLog s 0)) ∧
  (∃ (s : State),
    (regOpen s 0 = true) ∧ (mayUnlock s 0 = false)) ∧
  (∃ (s : State),
    (regOpen s 0 = true) ∧ (canLog s 0)) ∧
  (∃ (s : State),
    (regOpen s 0 = true) ∧ (mayUnlock s 0 = true) ∧ (s.fw.unlock = true) ∧ (s.fw.patternRun = false) ∧ (canLog s 0)) ∧
  (∃ (s : State),
    (regOpen s 0 = true) ∧ (mayUnlock s 0 = true) ∧ (s.fw.unlock = true) ∧ (s.fw.mbistRun = false) ∧ (canLog s 0)) ∧
  (∃ (s : State),
    (s.alive = true) ∧ (s.fw.patternRun = true)) ∧
  (∃ (s : State),
    (s.alive = true) ∧ (s.fw.mbistRun = true)) ∧
  (∃ (u : Fin 112) (granule : Nat) (s : State),
    (s.alive = true) ∧ (s.fw.mbistRun = true)) :=
  ⟨⟨0, 0, 0, 0xFF, [7, 31, 3, 8, 0, 0, 0, 0], sentCmd (wMin) 0x0901 0 0 0 0xFF [7, 31, 3, 8, 0, 0, 0, 0], wMin, by refine ⟨?_, ?_, ?_, ?_, ?_, ?_, ?_, ?_, ?_, ?_⟩ <;> first | decide | rfl | decide +kernel⟩,
   ⟨3, 5, 255, by first | decide | rfl | decide +kernel⟩,
   ⟨0, 0, 0, 0xFF, [7, 31, 0, 0xE0, 0, 0, 0, 0], sentCmd (wMin) 0x0902 0 0 0 0xFF [7, 31, 0, 0xE0, 0, 0, 0, 0], wMin, by refine ⟨?_, ?_, ?_, ?_, ?_, ?_, ?_, ?_, ?_⟩ <;> first | decide | rfl | decide +kernel⟩,
   ⟨0, 0, 0, 0xFF, [0, 7, 0, 0], sentCmd (wS) 0x0801 0 0 0 0xFF [0, 7, 0, 0], wS, wS.stack 7, by refine ⟨?_, ?_, ?_, ?_, ?_, ?_, ?_⟩ <;> first | decide | rfl | decide +kernel⟩,
   ⟨0, 0, 0, 0xFF, [1, 30, 0, 0], sentCmd (wS) 0x0801 0 0 0 0xFF [1, 30, 0, 0], wS, by refine ⟨?_, ?_, ?_, ?_, ?_, ?_⟩ <;> first | decide | rfl | decide +kernel⟩,
   ⟨0, 0, 0, 0xFF, [7, 31, 63, 0, 0xFF, 0x5F, 0, 0], sentCmd (wS) 0x0802 0 0 0 0xFF [7, 31, 63, 0, 0xFF, 0x5F, 0, 0], wS, by refine ⟨?_, ?_, ?_, ?_, ?_, ?_, ?_, ?_, ?_, ?_, ?_⟩ <;> first | decide | rfl | decide +kernel | exact fun w h => nomatch h⟩,
   ⟨0, 0, 0, 0xFF, [7, 31, 63, 1, 0xFF, 0x5F, 0, 0], sentCmd (wS) 0x0802 0 0 0 0xFF [7, 31, 63, 1, 0xFF, 0x5F, 0, 0], wS, by refine ⟨?_, ?_, ?_, ?_, ?_, ?_, ?_, ?_, ?_, ?_, ?_, ?_⟩ <;> first | decide | rfl | decide +kernel | exact fun w h => nomatch h⟩,
   ⟨0, 0, 0, 0xFF, [7, 31, 63, 2, 0xFF, 0x5F, 0, 0], sentCmd ((wS.setStack 7 { wS.stack 7 with softRows := [(31, 63, 24575)] })) 0x0802 0 0 0 0xFF [7, 31, 63, 2, 0xFF, 0x5F, 0, 0], (wS.setStack 7 { wS.stack 7 with softRows := [(31, 63, 24575)] }), by refine ⟨?_, ?_, ?_, ?_, ?_, ?_, ?_, ?_, ?_, ?_, ?_⟩ <;> first | decide | rfl | decide +kernel | exact fun w h => nomatch h⟩,
   ⟨0, 0, 0, 0xFF, [0, 7, 0xFF, 9, 0, 0, 0, 0], sentCmd (wMin) 0x0803 0 0 0 0xFF [0, 7, 0xFF, 9, 0, 0, 0, 0], wMin, by refine ⟨?_, ?_, ?_, ?_, ?_, ?_, ?_, ?_, ?_, ?_, ?_⟩ <;> first | decide | rfl | decide +kernel⟩,
   ⟨0, 0, 0, 0xFF, [1, 30, 5, 0x80, 0, 0, 0, 0], sentCmd (wS) 0x0803 0 0 0 0xFF [1, 30, 5, 0x80, 0, 0, 0, 0], wS, by refine ⟨?_, ?_, ?_, ?_, ?_, ?_, ?_, ?_, ?_, ?_⟩ <;> first | decide | rfl | decide +kernel⟩,
   ⟨wUnl, by refine ⟨?_, ?_, ?_, ?_⟩ <;> first | decide | rfl | decide +kernel⟩,
   ⟨wS, by refine ⟨?_, ?_⟩ <;> first | decide | rfl | decide +kernel⟩,
   ⟨wS, by refine ⟨?_, ?_⟩ <;> first | decide | rfl | decide +kernel⟩,
   ⟨{ wUnl with fw := { wUnl.fw with unlock := true, patternDone := true } }, by refine ⟨?_, ?_, ?_, ?_, ?_⟩ <;> first | decide | rfl | decide +kernel⟩,
   ⟨{ wUnl with fw := { wUnl.fw with unlock := true, mbistDone := true } }, by refine ⟨?_, ?_, ?_, ?_, ?_⟩ <;> first | decide | rfl | decide +kernel⟩,
   ⟨{ wLine .good with fw := { wUnl.fw with patternRun := true } }, by refine ⟨?_, ?_⟩ <;> first | decide | rfl | decide +kernel⟩,
   ⟨{ wUnl with fw := { wUnl.fw with mbistRun := true } }, by refine ⟨?_, ?_⟩ <;> first | decide | rfl | decide +kernel⟩,
   ⟨111, 5, { wUnl with fw := { wUnl.fw with mbistRun := true } }, by refine ⟨?_, ?_⟩ <;> first | decide | rfl | decide +kernel⟩⟩

theorem test_met_AStepRunsTheFrontCommand :
  (∃ (s : State),
    s.pending = []) :=
  ⟨wS, by decide⟩

theorem test_met_TheMachineAfterReset :
  (∃ (src : Nat),
    src < 12) :=
  ⟨11, by decide⟩

theorem test_met_RegistersReadAndWriteAsTheirTablesSay :
  (∃ (fn : Fn) (tee : Bool) (s : State),
    bar0Gate s fn 0 false tee = .pass) ∧
  (∃ (tee : Bool) (s : State),
    bar0Gate s 0 0x140000 false tee = .pass) ∧
  (∃ (tee : Bool) (s : State) (v : W64),
    (portHeld s 0 = false) ∧ (bar0Gate s 0 0x140004 false tee = .pass) ∧ (100 ≤ v.toNat ∧ v.toNat ≤ 10000) ∧ (s.fw.quarantine = false) ∧ (canLog s 0)) ∧
  (∃ (tee : Bool) (s : State) (v : W64),
    (portHeld s 0 = false) ∧ (bar0Gate s 0 0x140004 false tee = .pass) ∧ (v.toNat < 100 ∨ (10000 < v.toNat ∧ v.toNat < 16384))) ∧
  (∃ (tee : Bool) (s : State) (v : W64) (off : BitVec 24),
    (bar0Gate s 0 off.toNat false tee = .pass) ∧ (off ∈ [0x140000, 0x140008, 0x140010, 0x140080, 0x140104, 0x140240, 0x140300, 0x140020, 0x000000, 0x1A0000])) ∧
  (∃ (tee : Bool) (s : State) (off : BitVec 24),
    (bar0Gate s 0 off.toNat false tee = .pass) ∧ (off ∈ [0x14000C, 0x140020, 0x140318, 0x1A0000, 0xFFFFFC])) ∧
  (∃ (fn : Fn) (tee : Bool) (s : State) (off : BitVec 24) (wide : Bool),
    (bar0Gate s fn off.toNat wide tee = .pass) ∧ (fn ≠ 0) ∧ (0x140000 ≤ off.toNat) ∧ (off.toNat < 0x180000)) ∧
  (∃ (fn : Fn) (s : State) (off : BitVec 24) (wide : Bool) (v : W64),
    bar0Gate s fn off.toNat wide false = .nonTee) ∧
  (∃ (fn : Fn) (s : State) (off : BitVec 24) (wide tee : Bool) (v : W64),
    bar0Gate s fn off.toNat wide tee = .zero) ∧
  (∃ (fn : Fn) (s : State) (off : BitVec 24) (wide tee : Bool) (v : W64),
    portHeld s fn = true) :=
  ⟨⟨0, false, wS, by first | decide | rfl | decide +kernel⟩,
   ⟨false, wS, by first | decide | rfl | decide +kernel⟩,
   ⟨false, wS, 10000, by refine ⟨?_, ?_, ?_, ?_, ?_⟩ <;> first | decide | rfl | decide +kernel⟩,
   ⟨false, wS, 99, by refine ⟨?_, ?_, ?_⟩ <;> first | decide | rfl | decide +kernel⟩,
   ⟨false, wS, 5, 0x140008, by refine ⟨?_, ?_⟩ <;> first | decide | rfl | decide +kernel⟩,
   ⟨false, wS, 0xFFFFFC, by refine ⟨?_, ?_⟩ <;> first | decide | rfl | decide +kernel⟩,
   ⟨2, false, wVfT, 0x140000, true, by refine ⟨?_, ?_, ?_, ?_⟩ <;> first | decide | rfl | decide +kernel⟩,
   ⟨2, wTdi, 0x10000, false, 5, by first | decide | rfl | decide +kernel⟩,
   ⟨0, wS, 0x140002, false, false, 5, by first | decide | rfl | decide +kernel⟩,
   ⟨0, { wS with bar2Waits := [(0, 1)] }, 0x140004, false, false, 5, by first | decide | rfl | decide +kernel⟩⟩

theorem test_met_EveryStepKeepsMemoryCanonical :
  (∃ (s t : State),
    (s.memOk) ∧ (step s = .next t)) :=
  ⟨wS, idle wS, by exact ⟨⟨rfl, rfl⟩, rfl⟩⟩

theorem test_met_OzolWordsAndInstructionsAgree :
  (∃ (i : Instr) (d : DocIx) (w : W64),
    (ozDoc i = some d) ∧ (ozEncode i = some w)) ∧
  (∃ (i : Instr) (d : DocIx) (w : W64),
    ozDecode d w = some i) ∧
  (∃ (i : Instr) (d : DocIx),
    ozDoc i = some d) ∧
  (∃ (op : Nat),
    op < 256) ∧
  (∃ (d : DocIx) (w : W64),
    ozReserved (ozOp w).toNat = none) ∧
  (∃ (d : DocIx) (w m : W64),
    (ozReserved (ozOp w).toNat = some m) ∧ (w &&& m ≠ 0)) :=
  ⟨⟨.ozAddi 38 5 2 0xFFFFFFF8, 38, 0x20288000FFFFFFF8, by refine ⟨?_, ?_⟩ <;> first | decide | rfl | decide +kernel⟩,
   ⟨.ozAddi 38 5 2 0xFFFFFFF8, 38, 0x20288000FFFFFFF8, by decide⟩,
   ⟨.ozEnd 38, 38, by decide⟩,
   ⟨0x21, by decide⟩,
   ⟨38, 0x0000000000000000, by decide⟩,
   ⟨38, 0x0200000000000001, (ozReserved 2).getD 0, by refine ⟨?_, ?_⟩ <;> first | decide | rfl | decide +kernel⟩⟩

theorem test_met_DocentEventsRoundsAndBar2Complete :
  (∃ (doc : DocIx) (sram : DocSram) (id : Nat) (s : State),
    ((s.doc doc).req = some id) ∧ ((s.doc doc).state = .loading) ∧ (∀ g, sram.load ≠ .bad g)) ∧
  (∃ (doc : DocIx) (sram : DocSram) (id g : Nat) (s : State),
    ((s.doc doc).req = some id) ∧ ((s.doc doc).state = .loading) ∧ (sram.load = .bad g)) ∧
  (∃ (doc : DocIx) (sram : DocSram) (s : State),
    (s.doc doc).req = none ∨ (s.doc doc).state ≠ .loading) ∧
  (∃ (doc : DocIx) (id : Nat) (f : DocFault) (r : Req) (s : State),
    ((s.doc doc).fault = some f) ∧ ((s.doc doc).req = some id) ∧ (s.findReq id = some r) ∧ (r.phase ≠ .finished) ∧ ((reqDocents s id).filter (fun k => ((s.doc k).fault).isSome) = [doc.val])) ∧
  (∃ (doc : DocIx) (s : State),
    (s.doc doc).fault = none ∨ (s.doc doc).req = none) ∧
  (∃ (doc : DocIx) (id : Nat) (s : State),
    ((s.doc doc).req = some id) ∧ ((s.doc doc).state = .running) ∧ ((s.doc doc).stall ≠ .ended) ∧ ((s.doc doc).stopped = false) ∧ ((s.doc doc).fault = none) ∧ (dogStopped s id = false)) ∧
  (∃ (doc : DocIx) (id : Nat) (s : State),
    ((s.doc doc).req = some id) ∧ ((s.doc doc).state ≠ .running ∨ (s.doc doc).stall = .ended ∨ (s.doc doc).stopped = true ∨ dogStopped s id = true)) ∧
  (∃ (arb : ArbIx) (s s1 : State) (w : Nat × Nat),
    (s1 = endedBurst s arb) ∧ (∀ u, arb = .mu u → granted s (.mu u) = none) ∧ (∀ g v, arb ≠ .gpe g v) ∧ (roundWinner s1 (arbKey arb) (arbDocs s1 arb).length (arbCands s1 arb) = some w)) ∧
  (∃ (u : Fin 40) (l : Launch) (s : State),
    granted s (.mu u) = some l) ∧
  (∃ (arb : ArbIx) (s s1 : State),
    (s1 = endedBurst s arb) ∧ (∀ u, arb = .mu u → granted s (.mu u) = none) ∧ (arbCands s1 arb = [])) ∧
  (∃ (g : Fin 16) (v : WingIx) (s s1 : State) (w : Nat × Nat) (b : Batch),
    (roundWinner s (arbKey (.gpe g v)) 32 (arbCands s (.gpe g v)) = some w) ∧ (s1 = holdRound s (arbKey (.gpe g v)) 32 (arbCands s (.gpe g v))) ∧ ((s1.batches.find? fun b => b.doc.val == w.2 && b.wing.val == v.val && !(waitingAt s1 g b).isEmpty) = some b)) ∧
  (∃ (s : State) (a n : Nat) (cands : List (Nat × Nat)) (w : Nat × Nat),
    (roundWinner s a n cands = some w) ∧ ((cands.map (·.2)).Nodup) ∧ ((cands.map (·.1)).Nodup)) ∧
  (∃ (fn : Fn) (w : WingIx) (write : Bool) (off : BitVec 39) (len : Fin 65) (data : Bytes) (tee : Bool) (s : State) (n : Nat),
    (s.alive = true) ∧ (s.dlActive = true) ∧ (memOpen s fn = true) ∧ (write = false → portHeld s fn = false) ∧ (teeOnly s fn = false ∨ tee = true) ∧ (off.toNat < bar2End) ∧ (bar2Target s off.toNat = (some w, true)) ∧ (bar2Mine s fn w = true) ∧ (n = min len.val (4096 - off.toNat % 4096))) ∧
  (∃ (fn : Fn) (off n : Nat) (b : Bytes) (s : State),
    (off < bar2Sp) ∧ (s.vlt.mode ≠ .error)) ∧
  (∃ (fn : Fn) (off n : Nat) (data : Bytes) (s : State),
    bar2Sp ≤ off) ∧
  (∃ (fn : Fn) (write : Bool) (off : BitVec 39) (len : Fin 65) (data : Bytes) (tee : Bool) (s : State) (n : Nat),
    (s.alive = true) ∧ (s.dlActive = true) ∧ (memOpen s fn = true) ∧ (write = false → portHeld s fn = false) ∧ (teeOnly s fn = false ∨ tee = true) ∧ (n = min len.val (4096 - off.toNat % 4096)) ∧ (off.toNat < bar2End) ∧ ((bar2Target s off.toNat).2 = false ∨ ∀ w, (bar2Target s off.toNat).1 = some w → bar2Mine s fn w = false)) ∧
  (∃ (fn : Fn) (write : Bool) (off : BitVec 39) (len : Fin 65) (data : Bytes) (tee : Bool) (s : State) (n : Nat),
    (s.alive = true) ∧ (s.dlActive = true) ∧ (memOpen s fn = true) ∧ (write = false → portHeld s fn = false) ∧ (teeOnly s fn = false ∨ tee = true) ∧ (n = min len.val (4096 - off.toNat % 4096)) ∧ (bar2End ≤ off.toNat)) :=
  ⟨⟨38, { load := .corrected, upsets := [] }, 0, (wDocR 0).updDoc 38 fun x => { x with state := .loading }, by refine ⟨?_, ?_, ?_⟩ <;> first | decide | rfl | decide +kernel | (intro g h; cases h)⟩,
   ⟨38, { load := .bad 5, upsets := [] }, 0, 5, (wDocR 0).updDoc 38 fun x => { x with state := .loading }, by refine ⟨?_, ?_, ?_⟩ <;> first | decide | rfl | decide +kernel⟩,
   ⟨38, { load := .clean, upsets := [] }, wS, by first | decide | rfl | decide +kernel⟩,
   ⟨38, 0, { code := 0x60, pc := 64, detail := 7, time := 5 }, { wReqS with docs := [38, 35] }, { (wDocR 0).updDoc 38 (fun x => { x with fault := some { code := 0x60, pc := 64, detail := 7, time := 5 } }) with reqs := [{ wReqS with docs := [38, 35] }] }, by refine ⟨?_, ?_, ?_, ?_, ?_⟩ <;> first | decide | rfl | decide +kernel⟩,
   ⟨38, wDocR 0, by first | decide | rfl | decide +kernel⟩,
   ⟨38, 0, wDocR 0, by refine ⟨?_, ?_, ?_, ?_, ?_, ?_⟩ <;> first | decide | rfl | decide +kernel⟩,
   ⟨38, 0, (wDocR 0).updDoc 38 fun x => { x with stopped := true }, by refine ⟨?_, ?_⟩ <;> first | decide | rfl | decide +kernel⟩,
   ⟨.ve 7 1, wEng (wLau (.ve 7) wVe), endedBurst (wEng (wLau (.ve 7) wVe)) (.ve 7 1), (3, 38), by refine ⟨?_, ?_, ?_, ?_⟩ <;> first | (intro _ _ h; cases h; done) | (intro _ h; cases h; done) | rfl | decide +kernel⟩,
   ⟨38, wLau (.mu 38) wMx, wEng (wLau (.mu 38) wMx), by first | decide | rfl | decide +kernel⟩,
   ⟨.ru 7 1, wS, wS, by refine ⟨?_, ?_, ?_⟩ <;> first | (intro _ h; cases h) | rfl | decide +kernel⟩,
   ⟨wGatG, 3, wGatW, holdRound wGatW (arbKey (.gpe wGatG 3)) 32 (arbCands wGatW (.gpe wGatG 3)), (31, 38), { wBat with taken := [] }, by refine ⟨?_, ?_, ?_⟩ <;> first | decide | rfl | decide +kernel⟩,
   ⟨wS, 0, 4, [(1, 36), (3, 38)], (1, 36), by refine ⟨?_, ?_, ?_⟩ <;> first | decide | rfl | decide +kernel⟩,
   ⟨0, 3, false, 0x40000000, 64, [], false, wFit .enabled, 64, by refine ⟨?_, ?_, ?_, ?_, ?_, ?_, ?_, ?_, ?_⟩ <;> first | decide | rfl | decide +kernel⟩,
   ⟨0, 0x40000000, 64, [], wFit .enabled, by refine ⟨?_, ?_⟩ <;> first | decide | rfl | decide +kernel⟩,
   ⟨0, 0x6000000000, 64, [], wFit .enabled, by first | decide | rfl | decide +kernel⟩,
   ⟨0, true, 0x80000000, 64, [], false, wFit .enabled, 64, by refine ⟨?_, ?_, ?_, ?_, ?_, ?_, ?_, ?_⟩ <;> first | decide | rfl | decide +kernel⟩,
   ⟨0, false, 0x6030000000, 64, [], false, wFit .enabled, 64, by refine ⟨?_, ?_, ?_, ?_, ?_, ?_, ?_⟩ <;> first | decide | rfl | decide +kernel⟩⟩


end Sys2Proof.Tests
end

section
/-! PROOF. The four outcomes of a packet at a fabric port, the other events of the fabric, and O1 from them. -/

open Sys2Proof Sys2Proof.Machine

namespace Sys2Proof.Machine

/-! ### The meanings of the four commands -/

section
variable (s : State)

theorem exec_fabricPacketReceive (port : Fin 62) (cls kind : Fin 5) (index : Fin 16384) (gen : W16) (src : Fin 20)
    (mark : PacketMark) (term : W32) (req : Nat) :
    exec (.fabricPacketReceive port cls kind index gen src mark term req) s =
      .next (fabricPacket s port cls kind index gen src mark term req) := rfl

theorem exec_staleBindingReply (wing : WingIx) (req : Nat) :
    exec (.staleBindingReply wing req) s = .next (staleReply s wing req) := rfl

theorem exec_laneFault (link : Fin 31) (lane : Fin 2048) :
    exec (.laneFault link lane) s = .next (laneFault s link lane) := rfl

theorem exec_spareSubstitution (cell : Cell) (docent : Bool) (pos : Fin 4) :
    exec (.spareSubstitution cell docent pos) s =
      .next (autoSubstitute s (if docent then uDoc cell pos else uMU cell pos)) := rfl

end

/-! ### What a port does with a packet (01 R25, 02 R58, 03 R99) -/

section
variable {s : State} {port : Fin 62} {cls kind index : Nat} {gen : W16} {src : Fin 20} {mark : PacketMark} {term : W32} {req : Nat}

theorem fabricPacket_offRoute (h : onRoute s port src kind index = false) :
    fabricPacket s port cls kind index gen src mark term req = s := by
  simp [fabricPacket, h]

theorem fabricPacket_staleTerm (h : onRoute s port src kind index = true) (hm : mark.curator = true) (hc : cls = 0)
    (ht : term < (s.port port).term) :
    fabricPacket s port cls kind index gen src mark term req =
      s.emit (.termStale (Fin.ofNat 2 src) (s.port port).term) := by
  simp [fabricPacket, h, hm, hc, ht]

/-- A packet whose term is not checked: its generation alone decides, and the port keeps its term. -/
theorem fabricPacket_unchecked (h : onRoute s port src kind index = true) (hc : ¬(mark.curator = true ∧ cls = 0)) :
    fabricPacket s port cls kind index gen src mark term req =
      if unitGen s (kind, index) ≠ gen then s.emit (.stale port req) else flitError s port req mark.flit := by
  have hchecked : (mark.curator && decide (cls = 0)) = false := by simpa using hc
  simp [fabricPacket, h, hchecked]

@[simp] theorem flitError_clean (s : State) (port req : Nat) : flitError s port req .clean = s := rfl

/-- A corrected flit counts at the port's die (12 R372). -/
theorem flitError_corrected (s : State) (port req : Nat) :
    flitError s port req .corrected =
      s.setDie (portDie port) { s.die (portDie port) with sramCe := satInc (s.die (portDie port)).sramCe } := rfl

/-- The binding generation of a unit is not in its port. -/
@[simp] theorem unitGen_setPort (s : State) (k : Nat) (v : Port) (u : UnitId) : unitGen (s.setPort k v) u = unitGen s u := rfl

/-- A packet that passes the term check: the port takes its term before the generation decides. -/
theorem fabricPacket_currentTerm (h : onRoute s port src kind index = true) (hm : mark.curator = true) (hc : cls = 0)
    (ht : ¬ term < (s.port port).term) :
    fabricPacket s port cls kind index gen src mark term req =
      if unitGen s (kind, index) ≠ gen then (s.setPort port { s.port port with term := term }).emit (.stale port req)
      else flitError (s.setPort port { s.port port with term := term }) port req mark.flit := by
  simp [fabricPacket, h, hm, hc, ht]

end

/-! ### Stale replies, lane faults and spares -/

/-- A stale reply counts, and aborts the request when the wing has it without a result (02 R58, R59). -/
theorem staleReply_eq (s : State) (wing req : Nat) :
    staleReply s wing req =
      if (s.liveReqs wing).any (fun r => r.id == req) then
        retireAll (abortStale (s.setWing wing { s.wing wing with staleCnt := satInc (s.wing wing).staleCnt }) req)
      else s.setWing wing { s.wing wing with staleCnt := satInc (s.wing wing).staleCnt } := rfl

theorem laneFault_noted {s : State} {link lane : Nat} (hl : lane % 1024 < linkLanes link)
    (hn : (s.link link).badLanes.contains lane = false) :
    laneFault s link lane = s.setLink link { s.link link with badLanes := (s.link link).badLanes ++ [lane] } := by
  rw [laneFault, if_pos ⟨hl, by rw [hn]; rfl⟩, State.updLink_eq]

theorem autoSubstitute_idle {s : State} {u : Nat} (hd : subDue s u = true) (hr : (s.half (unitHalf u)).req = none)
    (hh : (s.half (unitHalf u)).held = false) :
    autoSubstitute s u = curatorLog (substitute s u) 0xFF u 0 := by
  simp [autoSubstitute, hd, hr, hh]

theorem autoSubstitute_busy {s : State} {u : Nat} (hr : (s.half (unitHalf u)).req ≠ none) : autoSubstitute s u = s := by
  simp [autoSubstitute, hr]

end Sys2Proof.Machine

/-- Settles O1: each clause is one outcome of `fabricPacket`, `staleReply`, `laneFault` or `autoSubstitute`. -/
theorem fabricPortChecksTermThenGeneration : Obligations.FabricPortChecksTermThenGeneration := by
  unfold Obligations.FabricPortChecksTermThenGeneration
  refine ⟨?offRoute, ?staleTerm, ?staleGen, ?staleGenRaised, ?delivered, ?deliveredUnchecked, ?counted, ?countedOnly,
    ?lane, ?spare, ?spareLater⟩
  case offRoute =>
    intro port cls kind index gen src mark term req s h
    rw [exec_fabricPacketReceive, fabricPacket_offRoute h]
  case staleTerm =>
    intro port cls kind index gen src mark term req s h hm hc ht
    rw [exec_fabricPacketReceive, fabricPacket_staleTerm h hm (Fin.val_eq_zero_iff.mpr hc) ht]
  case staleGen =>
    intro port cls kind index gen src mark term req s h hc hg
    rw [exec_fabricPacketReceive, fabricPacket_unchecked h (by rwa [Fin.val_eq_zero_iff]), if_pos hg]
  case staleGenRaised =>
    intro port cls kind index gen src mark term req s h hm hc ht hg
    rw [exec_fabricPacketReceive, fabricPacket_currentTerm h hm (Fin.val_eq_zero_iff.mpr hc) ht, if_pos hg]
  case delivered =>
    intro port cls kind index gen src term req s h hc ht hg
    rw [exec_fabricPacketReceive, fabricPacket_currentTerm h rfl (Fin.val_eq_zero_iff.mpr hc) ht,
      if_neg (not_not_intro hg), flitError_clean]
  case deliveredUnchecked =>
    intro port cls kind index gen src curator term req s h hc hg
    have hpass (flit : Sram) :
        exec (.fabricPacketReceive port cls kind index gen src { curator := curator, flit := flit } term req) s =
          .next (flitError s port req flit) := by
      rw [exec_fabricPacketReceive, fabricPacket_unchecked h (by rwa [Fin.val_eq_zero_iff]), if_neg (not_not_intro hg)]
    exact ⟨by rw [hpass, flitError_clean], by rw [hpass, flitError_corrected]⟩
  case counted =>
    intro wing req s hlive
    rw [exec_staleBindingReply, staleReply_eq, if_pos hlive]
  case countedOnly =>
    intro wing req s hlive
    rw [exec_staleBindingReply, staleReply_eq, if_neg (by simp [hlive])]
  case lane =>
    intro link lane s hl hn
    rw [exec_laneFault, laneFault_noted hl hn]
  case spare =>
    intro cell docent pos s hd hr hh
    rw [exec_spareSubstitution, autoSubstitute_idle hd hr hh]
  case spareLater =>
    intro cell docent pos s hr
    rw [exec_spareSubstitution, autoSubstitute_busy hr]

end

section
/-! PROOF. SPARE_SWAP and QUARANTINE_CLEAR (12 R384, R385), and why O33 fails as it is written. In its fifth clause the
`if` that bounds the index of QUARANTINE_CLEAR stands without parentheses, so its `else` takes in the rest of the clause.
For kind 2 the clause then says nothing of the answer, and claims that every accepted command names a GPE below 16, which
nothing makes true. The theorems before the refutation give the other clauses, and the fifth with the bound as a hypothesis
of its own: those hold. -/

open Sys2Proof Sys2Proof.Machine

namespace Sys2Proof.Machine

/-! ### A unit after a swap -/

theorem spareOf_ne {u : Nat} (h : u % 5 < 4) : spareOf u ≠ u := by unfold spareOf; omega

section
variable {s : State} {u : Nat}

theorem swapNow_waits (i : Bool) (h : (s.half (unitHalf u)).req ≠ none ∨ (s.half (unitHalf u)).held = true) :
    swapNow s u i = s.setUnit u { s.unit u with swapPending := some i } := by
  rw [swapNow, if_pos (by simpa [Option.isSome_iff_ne_none] using h), State.updUnit_eq]

theorem swapNow_acts (i : Bool) (hr : (s.half (unitHalf u)).req = none) (hh : (s.half (unitHalf u)).held = false) :
    swapNow s u i = if i then substitute s u else unsubstitute s u := by
  rw [swapNow, if_neg (by simp [hr, hh])]

/-- A matrix unit's spare put in its place changes the records of the two, and no other unit's. -/
theorem substitute_unit (hu : u < 40) (hp : u % 5 < 4) (k : Nat) :
    (substitute s u).unit k =
      if k = spareOf u then { s.unit (spareOf u) with subPos := some (u % 5), credit := 0 }
      else if k = u then { s.unit u with replaced := true, swapPending := none } else s.unit k := by
  rw [substitute, if_neg (by omega)]
  simp [clearMu, State.unit_setUnit, spareOf_ne hp]

theorem unsubstitute_unit (hp : u % 5 < 4) (k : Nat) :
    (unsubstitute s u).unit k =
      if k = spareOf u then { s.unit (spareOf u) with subPos := none, credit := 0 }
      else if k = u then { s.unit u with replaced := false, swapPending := none } else s.unit k := by
  simp [unsubstitute, State.unit_setUnit, spareOf_ne hp]

/-! ### A unit after its quarantine is cleared -/

/-- Whether a unit is free rests on its place and its half-cells, not on its quarantine. -/
theorem unitFree_setUnit {x : UnitSt} (hr : x.replaced = (s.unit u).replaced) (hp : x.subPos = (s.unit u).subPos) :
    unitFree (s.setUnit u x) u = unitFree s u := by
  simp only [unitFree, State.unit_setUnit_same, hr, hp]
  rfl

/-- The unit waits to return exactly while a request runs on its half-cells; no other unit changes. -/
theorem unquarantine_unit (k : Nat) :
    (unquarantine s u).unit k =
      if k = u then { s.unit u with quarantined := false, mismatches := 0, returning := !unitFree s u } else s.unit k := by
  have hfree : unitFree (s.setUnit u { s.unit u with quarantined := false, returning := true, mismatches := 0 }) u =
      unitFree s u := unitFree_setUnit rfl rfl
  cases h : unitFree s u with
  | false => simp [unquarantine, returnUnit, hfree, h, State.unit_setUnit]
  | true =>
    simp only [unquarantine, returnUnit, State.updUnit_eq, hfree, h, State.unit_setUnit_same, Bool.and_self, if_true]
    split_ifs <;> simp [docClear, State.unit_setUnit, *]

theorem returnUnit_frame : (returnUnit s u).halfCells = s.halfCells ∧ (returnUnit s u).reqs = s.reqs := by
  unfold returnUnit
  split
  · dsimp only
    split <;> exact ⟨rfl, rfl⟩
  · exact ⟨rfl, rfl⟩

/-- Clearing a quarantine leaves half-cells and requests as they are. -/
theorem unquarantine_frame : (unquarantine s u).halfCells = s.halfCells ∧ (unquarantine s u).reqs = s.reqs := by
  rw [unquarantine]
  exact returnUnit_frame

end

/-! ### The two commands, once they are accepted -/

/-- A list of checks passes when none of its conditions holds. -/
theorem firstFail_eq_none_iff (l : List (Bool × Byte)) : firstFail l = none ↔ ∀ x ∈ l, x.1 = false := by
  simp [firstFail]

section
variable {s : State} {c : Cmd} {fn : Fn} {hub : Hub} {tag : W32} {wing : Byte} {p : Bytes}

/-- SPARE_SWAP whose checks pass: `dir` 0 puts the spare in, and 1 takes it out. -/
theorem exec_spareSwap_done {u : Nat} (hc : c = sentCmd s 0x0804 fn hub tag wing p) (ha : accepts s c)
    (hw : wing = 0xFF#8) (hdir : leAt p 3 1 ≤ 1) (hkind : leAt p 0 1 ≤ 1) (hcell : leAt p 1 1 ≤ 7) (hpos : leAt p 2 1 ≤ 3)
    (hu : u = sparedUnit (leAt p 0 1) (leAt p 1 1) (leAt p 2 1)) (hin : leAt p 3 1 = 0 → spareTaken s u = false)
    (hout : leAt p 3 1 = 1 → (s.unit (spareOf u)).subPos = some (leAt p 2 1) ∧ (s.unit u).quarantined = false) :
    exec (.spareSwap fn hub tag wing p) s =
      .next (scpFinish (swapNow (scpCommit s c) u (decide (leAt p 3 1 = 0))) c rOK []) := by
  subst hc hw hu
  have hinn : (!bit (leAt p 3 1) 0) = decide (leAt p 3 1 = 0) := by
    obtain hd | hd : leAt p 3 1 = 0 ∨ leAt p 3 1 = 1 := by omega
    all_goals simp [bit, hd]
  refine scpExec_done ha ?_
  unfold spareSwap
  rw [checked_pass]
  · simp only [sentCmd, hinn]
  · obtain hd | hd : leAt p 3 1 = 0 ∨ leAt p 3 1 = 1 := by omega
    · simp [firstFail_eq_none_iff, noWing, sentCmd, bit, fld, hd, hin hd, hkind, hcell, hpos]
    · obtain ⟨hs, hq⟩ := hout hd
      simp [firstFail_eq_none_iff, noWing, sentCmd, bit, fld, hd, hs, hq, hkind, hcell, hpos]

/-- QUARANTINE_CLEAR of a quarantined unit whose index is in its kind's range. -/
theorem exec_quarantineClear_done (hc : c = sentCmd s 0x0805 fn hub tag wing p) (ha : accepts s c) (hw : wing = 0xFF#8)
    (hz : zeroAt p 3 1 = true) (hkind : leAt p 0 1 ≤ 4) (hnoPos : 2 ≤ leAt p 0 1 → leAt p 2 1 = 0)
    (hpos : leAt p 0 1 < 2 → leAt p 2 1 ≤ 4) (hindex : if leAt p 0 1 = 2 then leAt p 1 1 ≤ 15 else leAt p 1 1 ≤ 7)
    (hq : (s.unit (clearUnit (leAt p 0 1) (leAt p 1 1) (leAt p 2 1))).quarantined = true) :
    exec (.quarantineClear fn hub tag wing p) s =
      .next (scpFinish (unquarantine (scpCommit s c) (clearUnit (leAt p 0 1) (leAt p 1 1) (leAt p 2 1))) c rOK []) := by
  subst hc hw
  have hrange : (if leAt p 0 1 = 2 then decide (15 < leAt p 1 1) else decide (7 < leAt p 1 1)) = false := by
    split_ifs at hindex ⊢ <;> simpa using hindex
  refine scpExec_done ha ?_
  unfold quarantineClear
  rw [checked_pass]
  · rfl
  · simpa [firstFail_eq_none_iff, noWing, sentCmd, hz, hkind, hq, hrange] using
      ⟨fun h2 => by simp [hnoPos h2], fun h2 => hpos (by omega)⟩

end

/-! ### The command that refutes O33 -/

/-- PF0's host runs, hub 0 holds authority, and its mailbox is idle. -/
def servingState : State := { State.reset with
  rst := { Rst.init with level := none, perst := false },
  plinth := { term := 1, beat := 0, holder := 0 },
  hubs := [(0, { HubSt.init with auth := .holder, ready := true, authTerm := 1 })],
  fns := [(0, { FnSt.init with memSpace := true })],
  fw := { Fw.init with booted := true, running := true } }

/-- QUARANTINE_CLEAR of GPE 16, which there is not. -/
def clearGpe16 : Cmd := sentCmd servingState 0x0805 0 0 0 0xFF#8 [2#8, 16#8, 0#8, 0#8]

theorem accepts_clearGpe16 : accepts servingState clearGpe16 := by
  decide

end Sys2Proof.Machine

/-- Refutes O33 by its fifth clause, which claims an index of at most 15 of every accepted QUARANTINE_CLEAR of kind 2: the
command for GPE 16 meets all that the clause asks for. -/
theorem not_unitsAreSwappedAndCleared : ¬ Obligations.UnitsAreSwappedAndCleared := by
  unfold Obligations.UnitsAreSwappedAndCleared
  rintro ⟨-, -, -, -, clearClause, -⟩
  have hbound : (16 : Nat) ≤ 15 :=
    clearClause 0 0 0 0xFF#8 [2#8, 16#8, 0#8, 0#8] clearGpe16 servingState rfl accepts_clearGpe16 rfl
      (by decide) (by decide) (by decide) (by decide)
  omega

end

section
/-! PROOF. WNG_CTL, the enable check and its table (02 R66 to R72), and O2 from them. -/

open Sys2Proof Sys2Proof.Machine

namespace Sys2Proof.Machine

/-! ### The first failing check, with its number -/

section
variable (l : List (Bool × Byte))

theorem firstFailAt_eq_none_iff : firstFailAt l = none ↔ ∀ x ∈ l, x.1 = false := by
  simp only [firstFailAt, Option.map_eq_none_iff, List.find?_eq_none, Bool.not_eq_true]
  constructor
  · intro h x hx
    obtain ⟨i, hi, rfl⟩ := List.mem_iff_getElem.mp hx
    exact h (l[i], i) (List.mk_mem_zipIdx_iff_getElem?.mpr (by simp [hi]))
  · intro h x hx
    exact h x.1 (List.fst_mem_of_mem_zipIdx hx)

/-- The number of a failing check is its place in the list, from 1. -/
theorem firstFailAt_range {n : Nat} {code : Byte} (h : firstFailAt l = some (n, code)) : 1 ≤ n ∧ n ≤ l.length := by
  simp only [firstFailAt, Option.map_eq_some_iff] at h
  obtain ⟨x, hx, heq⟩ := h
  have hlt := List.snd_lt_of_mem_zipIdx (List.mem_of_find?_eq_some hx)
  simp only [Prod.mk.injEq] at heq
  omega

/-- The answer is check 1 exactly where the first condition holds. -/
theorem firstFailAt_cons_eq_one_iff (b : Bool) (code : Byte) : firstFailAt ((b, code) :: l) = some (1, code) ↔ b = true := by
  constructor
  · intro h
    simp only [firstFailAt, Option.map_eq_some_iff] at h
    obtain ⟨⟨x, i⟩, hx, heq⟩ := h
    simp only [Prod.mk.injEq] at heq
    have hi : i = 0 := by omega
    have hmem := List.mem_of_find?_eq_some hx
    rw [List.mk_mem_zipIdx_iff_getElem?, hi] at hmem
    have hfail := List.find?_some hx
    simp only [List.getElem?_cons_zero, Option.some.injEq] at hmem
    simpa [← hmem] using hfail
  · rintro rfl
    simp [firstFailAt, List.zipIdx_cons]

end

/-! ### The table of checks (02 R69) -/

section
variable {s : State} {w : Nat} {x : Shadow} {n : Nat} {code : Byte}

theorem wingChecks_number (h : wingChecks s w x = some (n, code)) : 1 ≤ n ∧ n ≤ 11 := firstFailAt_range _ h

theorem wingChecks_weight_iff : wingChecks s w x = some (1, rRESERVED_VALUE) ↔
    fld x.weight.toNat 0 8 = 0 ∨ fld x.weight.toNat 8 8 = 0 ∨ fld x.weight.toNat 16 8 = 0 := by
  unfold wingChecks
  rw [firstFailAt_cons_eq_one_iff]
  simp

/-- A wing that passes, condition by condition. -/
theorem wingChecks_eq_none_iff : wingChecks s w x = none ↔
    (∀ lo ∈ [0, 8, 16], fld x.weight.toNat lo 8 ≠ 0) ∧
    (s.wingHalves w ≠ [] ∧ s.wingQueues w ≠ [] ∧ ((s.wing w).tenant = true → s.wingVfs w ≠ [])) ∧
    ((∀ h ∈ s.wingHalves w, halfDegraded s h = false ∧ halfQuarantined s h = false ∧ (s.half h).unavailable = false) ∧
      ∀ e ∈ s.wingExtents w, stackOut s e = false ∧ (s.ext e).unavailable = false) ∧
    ((s.wing w).netOwning = true → netWings s w < 4) ∧
    (8 ≤ (s.wingHalves w).length → ∀ q ∈ s.wingQueues w, seqQueue s q = false) ∧
    fld x.ptRoot.toNat 0 48 % 4096 = 0 ∧
    (fld x.ptRoot.toNat 0 48 < dramSize ∧ (s.ext (extOf (fld x.ptRoot.toNat 0 48))).owner.map (·.val) = some w) ∧
    (s.wing w).tsyncGen ≠ 0 ∧ ((s.wing w).tenant = true → (s.wing w).tk ≠ none) ∧
    (bit x.policy.toNat 3 = true → s.vlt.mode = .approved) ∧
    floorsMet (x :: ((List.range 16).filter fun v => decide (v ≠ w) && decide ((s.wing v).state = .enabled)).map
      fun v => (s.wing v).live) = true := by
  unfold wingChecks
  rw [firstFailAt_eq_none_iff]
  simp only [List.forall_mem_cons, List.not_mem_nil, false_imp_iff, implies_true, and_true]
  refine and_congr ?weights <| and_congr ?units <| and_congr ?unavailable <| and_congr ?network <| and_congr ?sequence <|
    and_congr ?rootAligned <| and_congr ?rootOwn <| and_congr ?translated <| and_congr ?keyed <| and_congr ?approved ?floors
  case weights => simp
  case units => simp [and_assoc]
  case unavailable => simp [and_assoc]
  case network => simp
  case sequence => simp
  case rootAligned => simp
  case rootOwn => simp
  case translated => simp
  case keyed => simp [Option.isSome_iff_ne_none]
  case approved => simp
  case floors => simp

end

/-! ### Duplicate credits (12 R377) -/

/-- Nothing but the credits of some units, which are 0, differs between the two states. -/
def CreditsDropped (s t : State) : Prop :=
  t = { s with units := t.units } ∧ ∀ u, t.unit u = s.unit u ∨ t.unit u = { s.unit u with credit := 0 }

theorem CreditsDropped.refl (s : State) : CreditsDropped s s := ⟨rfl, fun _ => .inl rfl⟩

theorem CreditsDropped.updUnit {s t : State} (h : CreditsDropped s t) (k : Nat) :
    CreditsDropped s (t.updUnit k fun x => { x with credit := 0 }) := by
  obtain ⟨hframe, hunits⟩ := h
  refine ⟨by rw [hframe]; rfl, fun u => ?_⟩
  by_cases hu : u = k
  · subst hu
    rcases hunits u with h | h <;> simp [h]
  · simpa [State.unit_setUnit, hu] using hunits u

theorem CreditsDropped.wing {s t : State} (h : CreditsDropped s t) (k : Nat) : t.wing k = s.wing k := by
  rw [h.1]
  rfl

theorem dupRepair_creditsDropped (old s : State) (w : Nat) : CreditsDropped s (dupRepair old s w) := by
  unfold dupRepair
  refine List.foldlRecOn _ _ (CreditsDropped.refl s) fun t ht h _ => ?_
  exact List.foldlRecOn _ _ ht fun t' ht' p _ => ht'.updUnit _

/-! ### The enable check (02 R69) -/

section
variable {s : State} {w : Nat} {x : Shadow}

theorem wingCheckDone_passes (hstate : (s.wing w).state = .checking) (hsnap : (s.wing w).snap = some x)
    (hpass : wingChecks s w x = none) :
    CreditsDropped
      (s.setWing w
        { s.wing w with
          state := .enabled, live := x, snap := none, applyNext := none, reason := rOK, check := 0, bubStart := 1000,
          stopAdmit := false })
      (wingCheckDone s w) := by
  simpa only [wingCheckDone, hstate, hsnap, hpass] using dupRepair_creditsDropped _ _ _

theorem wingCheckDone_fails {n : Nat} {code : Byte} (hstate : (s.wing w).state = .checking) (hsnap : (s.wing w).snap = some x)
    (hfail : wingChecks s w x = some (n, code)) :
    wingCheckDone s w =
      s.setWing w { s.wing w with state := .disabled, enableReq := false, snap := none, reason := code, check := n } := by
  simp only [wingCheckDone, hstate, hsnap, hfail]

end

/-! ### WNG_CTL (02 R69 to R73) -/

section
variable {s : State} {fn : Fn} {w : WingIx} {enable apply : Bool}

/-- A write to a wing of the function that stands between ENABLED and DISABLED is ignored and recorded. -/
theorem wngCtl_ignored (hopen : regOpen s fn = true) (hreach : fn = 0 ∨ (s.fnWing fn).map (·.val) = some w.val)
    (hbusy : (s.wing w).state = .checking ∨ (s.wing w).state = .draining) :
    wngCtl s fn w enable apply = ignoredWrite s fn w (wngOff fn w 0) 4 (b2n (s.wing w).enableReq) (b2n enable) := by
  have hskip : (s.fw.quarantine || decide ((s.wing w).state = .checking) || decide ((s.wing w).state = .draining)) = true := by
    rcases hbusy with h | h <;> simp [h]
  simp only [wngCtl, wingReg, hopen, Bool.not_true, Bool.false_eq_true, if_false, if_pos hreach, hskip, if_true]

/-- An accepted write acts, is logged as a register write, and trips the wing's TDIs. -/
theorem wngCtl_logged (hopen : regOpen s fn = true) (hreach : fn = 0 ∨ (s.fnWing fn).map (·.val) = some w.val)
    (hq : s.fw.quarantine = false) (hlog : canLog s fn)
    (hstate : (s.wing w).state = .disabled ∨ (s.wing w).state = .enabled) :
    wngCtl s fn w enable apply = tdiTrip (logAppend (wngCtlAct s w enable apply) fn w 0 (wngOff fn w 0) 0
      (leBytes 4 (b2n (s.wing w).enableReq)) (leBytes 4 (b2n enable))) w fn := by
  obtain ⟨hroom, hrate⟩ := hlog
  have hskip : (s.fw.quarantine || decide ((s.wing w).state = .checking) || decide ((s.wing w).state = .draining)) = false := by
    rcases hstate with h | h <;> simp [h, hq]
  simp only [wngCtl, wingReg, loggedWrite, loggedChange, hopen, Bool.not_true, Bool.false_eq_true, if_false, if_pos hreach, hskip,
    hroom, hrate]

end

section
variable {s : State} {w : Nat}

theorem wngCtlAct_enable (h : (s.wing w).state = .disabled) (apply : Bool) : wngCtlAct s w true apply =
    s.setWing w { s.wing w with enableReq := true, state := .checking, snap := some (s.wing w).shadow } := by
  simp only [wngCtlAct, h, if_true]

theorem wngCtlAct_disable (h : (s.wing w).state = .enabled) (apply : Bool) : wngCtlAct s w false apply =
    s.setWing w { s.wing w with enableReq := false, state := .draining } := by
  simp [wngCtlAct, h]

theorem wngCtlAct_apply_passes (h : (s.wing w).state = .enabled) (hpass : wingChecks s w (s.wing w).shadow = none) :
    wngCtlAct s w true true =
      s.setWing w { s.wing w with reason := rOK, check := 0, applyNext := some (s.wing w).shadow } := by
  simp [wngCtlAct, h, hpass]

theorem wngCtlAct_apply_fails {n : Nat} {code : Byte} (h : (s.wing w).state = .enabled)
    (hfail : wingChecks s w (s.wing w).shadow = some (n, code)) :
    wngCtlAct s w true true = s.setWing w { s.wing w with reason := code, check := n } := by
  simp [wngCtlAct, h, hfail]

end

/-! ### The commands -/

section
variable (s : State) (fn : Fn) (wing : WingIx)

theorem exec_wingEnable : exec (.wingEnable fn wing) s = .next (wngCtl s fn wing true false) := rfl

theorem exec_wingDisable : exec (.wingDisable fn wing) s = .next (wngCtl s fn wing false false) := rfl

/-- APPLY is written with ENABLE as it stands. -/
theorem exec_wingApply (h : (s.wing wing).state = .enabled) :
    exec (.wingApply fn wing) s = .next (wngCtl s fn wing true true) := by
  show Host.Outcome.next (wngCtl s fn wing (decide ((s.wing wing).state ≠ .disabled)) true) = _
  rw [h]
  rfl

theorem exec_wingCheckDone : exec (.wingCheckDone wing) s = .next (wingCheckDone s wing) := rfl

end

end Sys2Proof.Machine

/-- Settles O2: WNG_CTL by what an accepted write does in each state of the wing, WING_CHECK_DONE by the outcome of the check,
and the order of the checks by `wingChecks_eq_none_iff`. -/
theorem wingsAreEnabledCheckedAndDisabled : Obligations.WingsAreEnabledCheckedAndDisabled := by
  unfold Obligations.WingsAreEnabledCheckedAndDisabled
  refine ⟨?enable, ?disable, ?applied, ?applyRefused, ?enableIgnored, ?disableIgnored, ?passes, ?fails, ?table⟩
  case enable =>
    intro fn wing s hopen hreach hq hlog hstate
    rw [exec_wingEnable, wngCtl_logged hopen hreach hq hlog (.inl hstate), wngCtlAct_enable hstate]
    rfl
  case disable =>
    intro fn wing s hopen hreach hq hlog hstate
    rw [exec_wingDisable, wngCtl_logged hopen hreach hq hlog (.inr hstate), wngCtlAct_disable hstate]
    rfl
  case applied =>
    intro fn wing s hopen hreach hq hlog hstate hpass
    rw [exec_wingApply _ _ _ hstate, wngCtl_logged hopen hreach hq hlog (.inr hstate), wngCtlAct_apply_passes hstate hpass]
    rfl
  case applyRefused =>
    intro fn wing s n code hopen hreach hq hlog hstate hfail
    rw [exec_wingApply _ _ _ hstate, wngCtl_logged hopen hreach hq hlog (.inr hstate), wngCtlAct_apply_fails hstate hfail]
    rfl
  case enableIgnored =>
    intro fn wing s hopen hreach hbusy
    rw [exec_wingEnable, wngCtl_ignored hopen hreach hbusy]
    rfl
  case disableIgnored =>
    intro fn wing s hopen hreach hbusy
    rw [exec_wingDisable, wngCtl_ignored hopen hreach hbusy]
    rfl
  case passes =>
    intro wing x s hstate hsnap hpass
    have hdone := wingCheckDone_passes hstate hsnap hpass
    refine ⟨_, exec_wingCheckDone s wing, by rw [hdone.1]; rfl, hdone.2, fun k hk => ?_, by simp [hdone.wing]⟩
    rw [hdone.wing, State.wing_setWing, if_neg hk]
  case fails =>
    intro wing x n code s hstate hsnap hfail
    refine ⟨_, exec_wingCheckDone s wing, ?_⟩
    rw [wingCheckDone_fails hstate hsnap hfail]
    exact ⟨rfl, fun k hk => Tbl.get_set_other _ _ _ hk, by simp⟩
  case table =>
    intro wing x s
    refine ⟨fun n code => wingChecks_number, wingChecks_weight_iff.symm, fun hpass => ?_⟩
    obtain ⟨-, ⟨hhalves, hqueues, hvfs⟩, ⟨hcells, hstacks⟩, hnet, hseq, haligned, ⟨-, hown⟩, hsync, hkey, happroved, hfloors⟩ :=
      wingChecks_eq_none_iff.mp hpass
    exact ⟨hhalves, hqueues, hvfs, fun h hh => ⟨(hcells h hh).1, (hcells h hh).2.1⟩, fun e he => (hstacks e he).1, hnet, hseq,
      haligned, hown, hsync, hkey, happroved, hfloors⟩

end

section
/-! PROOF. Steps 2, 3, 5 and 9 of a re-binding on one unit (02 R50), and O5 from them. -/

open Sys2Proof Sys2Proof.Machine

namespace Sys2Proof.Machine

/-! ### What a fold and a table keep -/

/-- A fold whose every step keeps `g` keeps `g`. -/
theorem foldl_keeps {α β γ : Type} (g : α → γ) {f : α → β → α} {l : List β} {a : α} (hf : ∀ a b, g (f a b) = g a) :
    g (l.foldl f a) = g a :=
  List.foldlRecOn l f (motive := fun x => g x = g a) rfl fun x hx b _ => (hf x b).trans hx

/-- A key that a filter lets through reads as before. -/
theorem Tbl.get_filter_key {α : Type} (d : α) (t : Tbl α) (p : Nat → Bool) {k : Nat} (hk : p k = true) :
    Tbl.get d (t.filter fun e => p e.1) k = Tbl.get d t k := by
  induction t with
  | nil => rfl
  | cons e t ih =>
    obtain ⟨k', v⟩ := e
    by_cases hkk : k' = k
    · simp [Tbl.get, hkk, hk]
    · cases hp : p k' <;> simp [Tbl.get, hp, hkk, ih]

/-- Clearing a range of memory leaves the bytes outside it. -/
theorem Mem.get_clear_other (m : Mem) (a n : Nat) {j : Nat} (h : j < a ∨ a + n ≤ j) :
    Tbl.get 0#8 (m.clear a n) j = Tbl.get 0#8 m j :=
  Tbl.get_filter_key 0#8 m (fun k => decide (k < a) || decide (a + n ≤ k)) (by simpa using h)

/-! ### Step 2: the fence (02 R61) -/

section
variable (s : State)

theorem unitGen_fenceUnit_same (u : UnitId) : unitGen (fenceUnit s u) u = unitGen s u + 1 := by
  obtain ⟨kind, i⟩ := u
  rcases kind with _ | _ | _ | _ | kind <;> simp [unitGen, fenceUnit]

theorem unitGen_fenceUnit_other {u v : UnitId} (hu : u.1 ≤ 4) (hv : v.1 ≤ 4) (h : v ≠ u) :
    unitGen (fenceUnit s u) v = unitGen s v := by
  obtain ⟨kind, i⟩ := u
  obtain ⟨kind', j⟩ := v
  by_cases hkind : kind' = kind
  · have hij : j ≠ i := fun hij => h (by rw [hkind, hij])
    subst hkind
    rcases kind' with _ | _ | _ | _ | kind' <;>
      simp [unitGen, fenceUnit, hij, State.half_setHalf, State.ext_setExt, State.que_setQue, State.vf_setVf, State.flow_setFlow]
  · interval_cases kind <;> interval_cases kind' <;> simp_all [unitGen, fenceUnit]

/-! ### Step 3: the new key (11 R370) -/

@[simp] theorem dramZero_ext (a n e : Nat) : (dramZero s a n).ext e = s.ext e := rfl

/-- An extent as its rekeying leaves it, before the new key is loaded (11 R347, R370). -/
def Extent.rekeyed (x : Extent) : Extent :=
  { x with keySeq := x.keySeq + 1, roll := 0, rolling := false, keyLoaded := false, keyLate := false, clearPending := false }

/-- An extent that is rekeyed keeps its phase: the slot of that phase holds a key, the other none. -/
theorem rekeyExtent_ext (w : WingIx) (e : Nat) : ∃ key : Bytes,
    (rekeyExtent s (some w) e).ext e =
      ((s.ext e).rekeyed.setKey (s.ext e).phase (some key)).setKey (!(s.ext e).phase) none := by
  have hzero (c : Prop) [Decidable c] (a n : Nat) : (if c then dramZero s a n else s).ext e = s.ext e := by split <;> rfl
  have hrekeyed (t : State) (c : Prop) [Decidable c] (a n : Nat)
      (ht : t.extents = ((if c then dramZero s a n else s).updExt e Extent.rekeyed).extents) : t.ext e = (s.ext e).rekeyed := by
    rw [State.ext, ht, ← State.ext, State.updExt_eq, State.ext_setExt_same, hzero]
  obtain ⟨t, key, hstep, ht⟩ : ∃ (t : State) (key : Bytes), rekeyExtent s (some w) e =
      (t.updExt e fun x => (x.setKey x.phase (some key)).setKey (!x.phase) none) ∧ t.ext e = (s.ext e).rekeyed := by
    refine ⟨_, _, rfl, ?_⟩
    split
    · exact hrekeyed _ _ _ _ rfl
    · exact hrekeyed _ _ _ _ rfl
  refine ⟨key, ?_⟩
  rw [hstep, State.updExt_eq, State.ext_setExt_same, ht]
  rfl

/-! ### Step 5: the scrub (02 R55, R59) -/

theorem dropGrants_sp (docs : List Nat) : (dropGrants s docs).sp = s.sp :=
  foldl_keeps State.sp fun t a => by split <;> rfl

theorem stopWork_sp (id : Nat) : (stopWork s id).sp = s.sp := by
  simp only [stopWork, dropGrants_sp]
  exact foldl_keeps State.sp fun _ _ => rfl

theorem settleHeld_sp (id : Nat) : (settleHeld s id).sp = s.sp := by
  unfold settleHeld
  split <;> rfl

theorem abortReq_sp (id : Nat) (code : Byte) (pc detail : W32) : (abortReq s id code pc detail).sp = s.sp := by
  rw [abortReq, stopWork_sp]
  exact settleHeld_sp s id

theorem releaseHalves_sp (id : Nat) : (releaseHalves s id).sp = s.sp := by
  simp only [releaseHalves]

theorem halfLost_sp (h : Nat) : (halfLost s h).sp = s.sp := by
  unfold halfLost
  split
  · rw [releaseHalves_sp]
    split
    · rw [stopWork_sp]
    · rw [abortStale, abortReq_sp]
  · rfl

/-- The scrub clears the half-cell's scratchpad and touches no other byte. -/
theorem scrubHalf_sp (h : Nat) : (scrubHalf s h).sp = s.sp.clear (spBase h) spSize := by
  have hreset : ((halfAllDocs (halfLost s h) h).foldl docClear (halfLost s h)).sp = s.sp := by
    rw [← halfLost_sp s h]
    exact foldl_keeps State.sp fun _ _ => rfl
  rw [← hreset]
  exact congrArg (Mem.clear · (spBase h) spSize) (foldl_keeps State.sp fun _ _ => rfl)

/-- No granule of the half-cell's scratchpad is bad after the scrub. -/
theorem scrubHalf_spBad (h : Nat) : ∀ g ∈ (scrubHalf s h).spBad, g / (spSize / 8) ≠ h := by
  intro g hg
  simpa using (List.mem_filter.mp hg).2

/-! ### Step 9: the binding -/

theorem bindUnit_half (w : WingIx) (i : Nat) (hclean : (s.half i).scrubBad = false) :
    ((bindUnit (some w) s (ukHalf, i)).half i).owner = some w := by
  simp [bindUnit, ukHalf, hclean]

theorem bindUnit_ext (w : WingIx) (i : Nat) : ((bindUnit (some w) s (ukExt, i)).ext i).owner = some w := by
  simp [bindUnit, ukExt]

theorem bindUnit_que (w : WingIx) (i : Nat) : ((bindUnit (some w) s (ukQueue, i)).que i).owner = some w := by
  simp [bindUnit, ukQueue]

theorem bindUnit_vf (w : WingIx) (i : Nat) : ((bindUnit (some w) s (ukVf, i)).vf i).owner = some w := by
  simp [bindUnit, ukVf]

theorem bindUnit_flow (w : WingIx) (i : Nat) : ((bindUnit (some w) s (ukFlow, i)).flow i).owner = some w := by
  simp [bindUnit, ukFlow]

end

end Sys2Proof.Machine

/-- Settles O5: one clause for each step on the unit that the step acts on. -/
theorem stepsOfARebindingOnOneUnit : Obligations.StepsOfARebindingOnOneUnit := by
  unfold Obligations.StepsOfARebindingOnOneUnit
  refine ⟨?fence, ?rekey, ?scrubbed, ?kept, ?half, ?others⟩
  case fence =>
    exact fun u s => ⟨unitGen_fenceUnit_same s u, fun v hv hu hne => unitGen_fenceUnit_other s hu hv hne⟩
  case rekey =>
    intro w e s
    obtain ⟨key, hext⟩ := rekeyExtent_ext s w e
    rw [hext]
    cases (s.ext e).phase <;> exact ⟨⟨key, rfl, rfl⟩, rfl⟩
  case scrubbed =>
    intro h a s hlo hhi
    rw [scrubHalf_sp]
    exact ⟨Mem.get_clear _ _ _ _ hlo hhi, scrubHalf_spBad s h⟩
  case kept =>
    intro h a s hout
    rw [scrubHalf_sp]
    exact Mem.get_clear_other _ _ _ hout
  case half => exact fun w i s _ hclean => bindUnit_half s w i hclean
  case others => exact fun w i s => ⟨bindUnit_ext s w i, bindUnit_vf s w i, bindUnit_que s w i, bindUnit_flow s w i⟩

end

section
/-! PROOF. LOG_READ, LOG_EXPORT and LOG_ACK (15 R488 to R490), once they are accepted, and O45 from them. -/

open Sys2Proof Sys2Proof.Machine

namespace Sys2Proof.Machine

/-! ### The commands' own parts -/

section
variable {s : State} {c : Cmd}

/-- The records that LOG_READ answers: from FIRST, as many as COUNT asks for and the log has. -/
def recordsRead (s : State) (p : Bytes) : List Bytes :=
  (s.log.recs.drop (leAt p 0 8 - s.log.oldest.toNat)).take (leAt p 8 2)

theorem logRead_answers (hw : c.wing = 0xFF#8) (hz : zeroAt c.payload 10 6 = true) (hsome : 1 ≤ leAt c.payload 8 2)
    (hmost : leAt c.payload 8 2 ≤ 21) (hold : s.log.oldest.toNat ≤ leAt c.payload 0 8)
    (hnew : leAt c.payload 0 8 < s.log.next.toNat) :
    logRead s c = (s, .done rOK (leBytes 8 (leAt c.payload 0 8) ++ leBytes 2 (recordsRead s c.payload).length ++
      List.replicate 6 0#8 ++ leBytes 8 s.log.oldest.toNat ++ leBytes 8 s.log.next.toNat ++
      (recordsRead s c.payload).flatten)) := by
  unfold logRead
  rw [checked_pass]
  · rfl
  · simp [firstFail_eq_none_iff, noWing, hw, hz]
    omega

/-- LOG_EXPORT of a range that the log holds, without ML-DSA, into a buffer that it fits. -/
theorem logExport_writes (hw : c.wing = 0xFF#8) (ho : isOfficer s c.fn = true) (hclassic : leAt c.payload 12 1 = 0)
    (hz : zeroAt c.payload 13 3 = true) (hsome : 1 ≤ leAt c.payload 8 4) (hmost : leAt c.payload 8 4 ≤ 1048576)
    (hold : s.log.oldest.toNat ≤ leAt c.payload 0 8) (hnew : leAt c.payload 0 8 + leAt c.payload 8 4 ≤ s.log.next.toNat)
    (halign : leAt c.payload 16 8 % 4096 = 0) (hfits : 224 + 192 * leAt c.payload 8 4 ≤ leAt c.payload 24 8)
    (hvault : vaultServes s = true) (hlong : longFull s = false) {s1 : State}
    (hs1 : s1 = hostWrite s 0 (BitVec.ofNat 64 (leAt c.payload 16 8)) (logBundle s (leAt c.payload 0 8) (leAt c.payload 8 4) false)) :
    logExport s c =
      ({ s1 with log := { s1.log with
          exported := s1.log.exported ++ [(leAt c.payload 0 8, leAt c.payload 0 8 + leAt c.payload 8 4 - 1)] } },
       .done rOK (leBytes 8 (224 + 192 * leAt c.payload 8 4))) := by
  have hmldsa : bit (leAt c.payload 12 1) 0 = false := by rw [hclassic]; rfl
  have hsize : 128 + 192 * leAt c.payload 8 4 + 96 + 0 = 224 + 192 * leAt c.payload 8 4 := by omega
  subst hs1
  unfold logExport
  simp only [hmldsa, Bool.false_eq_true, if_false, hsize]
  rw [checked_pass]
  · rfl
  · simp [firstFail_eq_none_iff, noWing, needOfficer, hw, hz, ho, hclassic, hvault, hlong, halign, hfits]
    omega

/-- The range checks of LOG_ACK, for a record that was written. -/
theorem logAck_firstFail (hw : c.wing = 0xFF#8) {q next : Nat} (hnew : q < next) (exported : Bool) :
    firstFail [noWing c, (decide (q ≥ next), rADDR_RANGE), (!exported, rNOT_PERMITTED)] =
      if exported then none else some rNOT_PERMITTED := by
  cases exported <;> simp [firstFail_cons, noWing, hw, hnew]

section
variable (hw : c.wing = 0xFF#8) (hnew : leAt c.payload 0 8 < s.log.next.toNat)
include hw hnew

theorem logAck_refused
    (hnone : s.log.exported.any (fun x => decide (x.1 ≤ leAt c.payload 0 8) && decide (leAt c.payload 0 8 ≤ x.2)) = false) :
    logAck s c = (s, .done rNOT_PERMITTED []) := by
  unfold logAck
  exact checked_fail ((logAck_firstFail hw hnew _).trans (if_neg (by simp [hnone])))

variable (hexported : s.log.exported.any
  (fun x => decide (x.1 ≤ leAt c.payload 0 8) && decide (leAt c.payload 0 8 ≤ x.2)) = true)
include hexported

/-- A record below the oldest one is free already: the command alone is recorded. -/
theorem logAck_old (hold : leAt c.payload 0 8 < s.log.oldest.toNat) :
    logAck s c = (if logFull s then s else scpCommit s c, .done rOK (leBytes 8 0)) := by
  unfold logAck
  rw [checked_pass ((logAck_firstFail hw hnew _).trans (if_pos hexported)), if_pos hold]

theorem logAck_frees (hold : s.log.oldest.toNat ≤ leAt c.payload 0 8) :
    logAck s c =
      (scpCommit { s with log := { s.log with
          recs := s.log.recs.drop (leAt c.payload 0 8 + 1 - s.log.oldest.toNat),
          oldest := BitVec.ofNat 64 (leAt c.payload 0 8 + 1), base := chainBefore s (leAt c.payload 0 8 + 1) } } c,
       .done rOK (leBytes 8 (leAt c.payload 0 8 + 1 - s.log.oldest.toNat))) := by
  unfold logAck
  rw [checked_pass ((logAck_firstFail hw hnew _).trans (if_pos hexported)), if_neg (Nat.not_lt.mpr hold)]

end

end

end Sys2Proof.Machine

/-- Settles O45: LOG_READ and LOG_EXPORT pass their checks, and LOG_ACK has its three outcomes. -/
theorem theAccessionLogIsReadExportedAndFreed : Obligations.TheAccessionLogIsReadExportedAndFreed := by
  unfold Obligations.TheAccessionLogIsReadExportedAndFreed
  refine ⟨?read, ?exportRange, ?ackFrees, ?ackOld, ?ackRefused⟩
  case read =>
    rintro fn hub tag wing p c s rs rfl ha hw hz hsome hmost hold hnew rfl
    exact scpExec_done ha (logRead_answers hw hz hsome hmost hold hnew)
  case exportRange =>
    rintro fn hub tag wing p c s s1 rfl ha hw ho hclassic hz hsome hmost hold hnew halign hfits hvault hlong hs1
    exact scpExec_done ha (logExport_writes hw ho hclassic hz hsome hmost hold hnew halign hfits hvault hlong hs1)
  case ackFrees =>
    rintro fn hub tag wing p c s q rfl ha hw rfl hnew hold hexported
    exact scpExec_done ha (logAck_frees hw hnew hexported hold)
  case ackOld =>
    rintro fn hub tag wing p c s rfl ha hw hold hnew hexported
    exact scpExec_done ha (logAck_old hw hnew hexported hold)
  case ackRefused =>
    rintro fn hub tag wing p c s rfl ha hw hnew hexported
    exact scpExec_done ha (logAck_refused hw hnew hexported)

end

section
/-! PROOF. What the vents and the interrupts leave unchanged (14 R444, 17): a record that is raised changes no more than the
part's outputs, its host port, its interrupt table and the vents. -/

open Sys2Proof Sys2Proof.Machine

namespace Sys2Proof.Machine

/-- The state outside the ports, the interrupt table and the vents. -/
def State.outsideVents (s : State) : State := { s with out := [], pcie := Pcie.init, msix := [], vnt := Vnt.init }

section
variable (s : State)

/-! ### Host writes and interrupts -/

@[simp] theorem emit_outsideVents (o : Out) : (s.emit o).outsideVents = s.outsideVents := rfl

@[simp] theorem setVnt_outsideVents (v : Vnt) : ({ s with vnt := v } : State).outsideVents = s.outsideVents := rfl

@[simp] theorem hostWrite_outsideVents (fn : Fn) (a : W64) (data : Bytes) :
    (hostWrite s fn a data).outsideVents = s.outsideVents := by
  unfold hostWrite hostWriteAs
  split <;> rfl

@[simp] theorem msixSend_outsideVents (fn : Fn) (e : Msix) : (msixSend s fn e).outsideVents = s.outsideVents := by
  unfold msixSend
  split <;> rfl

@[simp] theorem msixRaise_outsideVents (fn : Fn) (vec : Nat) : (msixRaise s fn vec).outsideVents = s.outsideVents := by
  simp only [msixRaise]
  split
  · rfl
  split
  · rfl
  · exact msixSend_outsideVents s fn _

/-! ### The rings -/

@[simp] theorem ringPut_outsideVents (k : Nat) (data : Bytes) : (ringPut s k data).outsideVents = s.outsideVents := by
  simp only [ringPut, setVnt_outsideVents]
  split <;> simp

@[simp] theorem ringStatus_outsideVents (k : Nat) : (ringStatus s k).outsideVents = s.outsideVents := by
  simp only [ringStatus]
  split <;> simp

@[simp] theorem fallbackTake_outsideVents (r : VentRec) (rep : W32) :
    (fallbackTake s r rep).outsideVents = s.outsideVents := by
  simp only [fallbackTake]
  split <;> simp only [setVnt_outsideVents]

@[simp] theorem alarmTake_outsideVents (r : VentRec) (rep : W32) : (alarmTake s r rep).outsideVents = s.outsideVents := by
  unfold alarmTake
  split
  · exact fallbackTake_outsideVents s r rep
  · exact setVnt_outsideVents s _

@[simp] theorem serveLatches_outsideVents (fuel : Nat) : (serveLatches fuel s).outsideVents = s.outsideVents := by
  induction fuel generalizing s with
  | zero => rfl
  | succ fuel ih =>
    unfold serveLatches
    split
    · rfl
    · split
      · rfl
      · simp [ih]

@[simp] theorem stormShut_outsideVents (i : Nat) : (stormShut s i).outsideVents = s.outsideVents := by
  simp only [stormShut]
  split_ifs <;> simp

@[simp] theorem stormDue_outsideVents : (stormDue s).outsideVents = s.outsideVents := by
  unfold stormDue
  split
  · split <;> simp
  · rfl

/-- The status line closes a delivery that wrote something. -/
theorem ringStatus_if_outsideVents (wrote : Bool) (k : Nat) :
    (if wrote then ringStatus s k else s).outsideVents = s.outsideVents := by
  split <;> simp

@[simp] theorem pumpAlarms_outsideVents (fuel : Nat) (wrote : Bool) :
    (pumpAlarms fuel s wrote).outsideVents = s.outsideVents := by
  induction fuel generalizing s wrote with
  | zero => exact ringStatus_if_outsideVents s wrote 0
  | succ fuel ih =>
    unfold pumpAlarms
    split
    · exact ringStatus_if_outsideVents s wrote 0
    · split
      · simp [ih]
      · exact ringStatus_if_outsideVents s wrote 0

@[simp] theorem pumpLogs_outsideVents (fuel : Nat) (wrote : Bool) : (pumpLogs fuel s wrote).outsideVents = s.outsideVents := by
  induction fuel generalizing s wrote with
  | zero => exact ringStatus_if_outsideVents s wrote 1
  | succ fuel ih =>
    unfold pumpLogs
    split
    · split
      · simp [ih]
      · exact ringStatus_if_outsideVents s wrote 1
    · split
      · simp [ih]
      · exact ringStatus_if_outsideVents s wrote 1
    · exact ringStatus_if_outsideVents s wrote 1

@[simp] theorem pumpTraces_outsideVents (fuel : Nat) (wrote : Bool) :
    (pumpTraces fuel s wrote).outsideVents = s.outsideVents := by
  induction fuel generalizing s wrote with
  | zero => exact ringStatus_if_outsideVents s wrote 2
  | succ fuel ih =>
    unfold pumpTraces
    split
    · exact ringStatus_if_outsideVents s wrote 2
    · split
      · simp [ih]
      · exact ringStatus_if_outsideVents s wrote 2

@[simp] theorem pumpFallback_outsideVents (fuel : Nat) : (pumpFallback fuel s).outsideVents = s.outsideVents := by
  induction fuel generalizing s with
  | zero => rfl
  | succ fuel ih =>
    unfold pumpFallback
    split
    · rfl
    · dsimp only
      split_ifs <;> simp [ih]

@[simp] theorem setAlert_outsideVents (i : Nat) (v : Bool) : (setAlert s i v).outsideVents = s.outsideVents := rfl

@[simp] theorem alertClear_outsideVents : (alertClear s).outsideVents = s.outsideVents := by
  unfold alertClear
  split <;> rfl

@[simp] theorem ventPump_outsideVents : (ventPump s).outsideVents = s.outsideVents := by
  unfold ventPump
  split_ifs <;> simp

/-! ### A record that is raised -/

theorem ventAlarm_outsideVents (producer : Nat) (r : VentRec) : (ventAlarm s producer r).outsideVents = s.outsideVents := by
  unfold ventAlarm alarmLatch
  split_ifs <;> simp

theorem ventLog_outsideVents (r : VentRec) : (ventLog s r).outsideVents = s.outsideVents := by
  unfold ventLog logDrop
  split_ifs <;> simp

@[simp] theorem raise_outsideVents (producer : Nat) (r : VentRec) : (raise s producer r).outsideVents = s.outsideVents := by
  have hlast (c : Bool) : (if c then lastWord s r else s).outsideVents = s.outsideVents := by
    split <;> simp only [lastWord, setVnt_outsideVents]
  simp only [raise, ventPump_outsideVents]
  split
  · rw [ventAlarm_outsideVents, hlast]
  · rw [ventLog_outsideVents, hlast]

@[simp] theorem alarm_outsideVents (kind : W16) (wing die d0 d1 d2 d3 : Nat) :
    (alarm s kind wing die d0 d1 d2 d3).outsideVents = s.outsideVents :=
  raise_outsideVents s _ _

end

end Sys2Proof.Machine
end

section
/-! PROOF. Accesses to BAR0: what the gate answers, the registers of RST and GLB, and O57 from them (14 R438 to R440, 16 R519). -/

open Sys2Proof Sys2Proof.Machine

namespace Sys2Proof.Machine

/-! ### A record that names no wing (02 R76) -/

/-- Outside the vents, a record that names no wing changes the log alone, and takes the next number. -/
theorem logPut_noWing (s : State) (fnId : Nat) {w : Nat} (kind target detail : Nat) (oldH newH : Bytes) (hw : 16 ≤ w) :
    ∃ log : Log, (logPut s fnId w kind target detail oldH newH).outsideVents = { s.outsideVents with log := log } ∧
      log.next = s.log.next + 1 := by
  have halarm (c : Prop) [Decidable c] (t : State) (n : Nat) :
      (if c then alarm t 0x0108 0xFF 16 n 0 0 0 else t).outsideVents = t.outsideVents := by
    split
    · exact alarm_outsideVents ..
    · rfl
  simp only [logPut, if_neg (Nat.not_lt.mpr hw), halarm]
  split
  · exact ⟨_, rfl, rfl⟩
  · exact ⟨_, rfl, rfl⟩

/-- What such a record leaves as it is, and its number. -/
theorem logAppend_noWing (s : State) (fnId : Nat) {w : Nat} (kind target detail : Nat) (old new : Bytes) (hw : 16 ≤ w) {t : State}
    (ht : t = logAppend s fnId w kind target detail old new) :
    t.log.next = s.log.next + 1 ∧ t.rst = s.rst ∧ t.fw = s.fw ∧ t.hubs = s.hubs ∧ t.wings = s.wings ∧ t.reqs = s.reqs := by
  obtain ⟨log, hframe, hnext⟩ := logPut_noWing s fnId kind target detail (sha384 old) (sha384 new) hw
  rw [← logAppend, ← ht] at hframe
  have hlog := congrArg State.log hframe
  have hrst := congrArg State.rst hframe
  have hfw := congrArg State.fw hframe
  have hhubs := congrArg State.hubs hframe
  have hwings := congrArg State.wings hframe
  have hreqs := congrArg State.reqs hframe
  exact ⟨(congrArg Log.next hlog).trans hnext, hrst, hfw, hhubs, hwings, hreqs⟩

theorem tdiTrip_noWing (s : State) {w : Nat} (fn : Nat) (hw : 16 ≤ w) : tdiTrip s w fn = s := if_pos hw

/-! ### Reads -/

section
variable {s : State} {fn : Fn} {off : Nat} {wide tee : Bool}

theorem bar0Read_word {v : Nat} (hgate : bar0Gate s fn off false tee = .pass) (hword : bar0Word s fn off = .ok v) :
    bar0Read s fn off false tee = s.emit (.readReturn fn (BitVec.ofNat 64 v)) := by
  simp [bar0Read, hgate, bar0Value, hword]

theorem bar0Read_violates {w : Option Nat} (hgate : bar0Gate s fn off wide tee = .pass) (hword : bar0Word s fn off = .error w) :
    bar0Read s fn off wide tee = (violate s w 1).emit (.readReturn fn 0) := by
  simp [bar0Read, hgate, bar0Value, hword]

theorem bar0Read_nonTee (hgate : bar0Gate s fn off wide tee = .nonTee) :
    bar0Read s fn off wide tee = (countNonTee s fn).emit (.unsupported fn) := by
  simp only [bar0Read, hgate]

theorem bar0Read_zero (hgate : bar0Gate s fn off wide tee = .zero) :
    bar0Read s fn off wide tee = s.emit (.readReturn fn 0) := by
  simp only [bar0Read, hgate]

/-- A VF does not see RST and VNT (14 R438). -/
theorem bar0Word_rstVnt (hfn : fn ≠ 0) (hlo : 0x140000 ≤ off) (hhi : off < 0x180000) :
    bar0Word s fn off = .error ((s.fnWing fn).map (·.val)) := by
  have hblock : off / 0x20000 = 10 ∨ off / 0x20000 = 11 := by omega
  have hunseen : sees s fn off = false := by
    rcases hblock with h | h <;> simp [sees, hfn, h] <;> omega
  simp [bar0Word, hunseen]

theorem bar0Word_ident : bar0Word s fn 0 = .ok (if fn = 0 then 0x48201FC7 else 0x48211FC7) := by
  by_cases hfn : fn = 0 <;> simp [bar0Word, sees, glbWord, hfn]

/-- Offsets at which no register stands, and one past every block. -/
theorem bar0Word_reserved (s : State) :
    ∀ off ∈ ([0x14000C, 0x140020, 0x140318, 0x1A0000, 0xFFFFFC] : List (BitVec 24)), bar0Word s 0 off.toNat = .ok 0 := by
  simp only [List.forall_mem_cons]
  exact ⟨rfl, rfl, rfl, rfl, rfl, by simp⟩

end

/-! ### Writes -/

section
variable {s : State} {fn : Fn} {off v : Nat} {wide tee : Bool}

/-- While an earlier BAR2 write waits, a register write has no effect (11 R367). -/
theorem registerWrite_held (h : portHeld s fn = true) : registerWrite s fn off wide v tee = s := if_pos h

theorem registerWrite_nonTee (h : portHeld s fn = false) (hgate : bar0Gate s fn off wide tee = .nonTee) :
    registerWrite s fn off wide v tee = countNonTee s fn := by
  simp [registerWrite, h, hgate]

theorem registerWrite_zero (hgate : bar0Gate s fn off wide tee = .zero) : registerWrite s fn off wide v tee = s := by
  simp [registerWrite, hgate]

/-- PF0 sees every offset: its word is written. -/
theorem registerWrite_pf0 (h : portHeld s 0 = false) (hgate : bar0Gate s 0 off false tee = .pass) :
    registerWrite s 0 off false v tee = bar0Put s 0 off (v % 2 ^ 32) := by
  have hseen : sees s 0 off = true := by simp [sees]
  simp [registerWrite, h, hgate, bar0Write, hseen]

/-- Read-only registers of RST and GLB, and reserved offsets, take no word. -/
theorem bar0Put_readOnly (s : State) (v : Nat) :
    ∀ off ∈ ([0x140000, 0x140008, 0x140010, 0x140080, 0x140104, 0x140240, 0x140300, 0x140020, 0x000000, 0x1A0000] :
      List (BitVec 24)), bar0Put s 0 off.toNat v = s := by
  simp only [List.forall_mem_cons]
  exact ⟨rfl, rfl, rfl, rfl, rfl, rfl, rfl, rfl, rfl, rfl, by simp⟩

end

/-! ### RST_IDLE_TIMEOUT (16 R500) -/

section
variable {s : State} {v : Nat}

/-- The timeout takes effect, and the archive is to be written. -/
def setIdleTimeout (v : Nat) (s : State) : State := archived (s.updRst fun r => { r with idleTimeout := v })

theorem bar0Put_idleTimeout (hfield : v < 2 ^ 14) :
    bar0Put s 0 0x140004 (v % 2 ^ 32) =
      setReg s 0 0xFF 0x140004 s.rst.idleTimeout v (decide (v < 100 ∨ v > 10000) || s.fw.quarantine) (setIdleTimeout v) := by
  have hlow : v % 2 ^ 32 % 2 ^ 14 = v := by omega
  show (let new := v % 2 ^ 32 % 2 ^ 14
    setReg s 0 0xFF 0x140004 s.rst.idleTimeout new (decide (new < 100 ∨ new > 10000) || s.fw.quarantine)
      (setIdleTimeout new)) = _
  rw [hlow]

theorem bar0Put_idleTimeout_refused (hfield : v < 2 ^ 14) (hbad : v < 100 ∨ 10000 < v) :
    bar0Put s 0 0x140004 (v % 2 ^ 32) = ignoredWrite s 0 0xFF 0x140004 4 s.rst.idleTimeout v := by
  rw [bar0Put_idleTimeout hfield, setReg, if_pos (by simp [hbad])]

theorem bar0Put_idleTimeout_taken (hlo : 100 ≤ v) (hhi : v ≤ 10000) (hq : s.fw.quarantine = false) (hlog : canLog s 0) :
    bar0Put s 0 0x140004 (v % 2 ^ 32) =
      logAppend (setIdleTimeout v s) 0 0xFF 0 0x140004 0 (leBytes 4 s.rst.idleTimeout) (leBytes 4 v) := by
  obtain ⟨hroom, hrate⟩ := hlog
  have hrate0 : ¬ rateFull s 0 = true := ne_true_of_eq_false hrate
  rw [bar0Put_idleTimeout (by omega), setReg, if_neg (by simpa using ⟨⟨hlo, hhi⟩, hq⟩), loggedWrite, loggedChange,
    if_neg hrate0,
    if_neg (ne_true_of_eq_false hroom), tdiTrip_noWing _ _ (by decide)]

end

end Sys2Proof.Machine

/-- Settles O57: reads by `bar0Word` at the offset, writes by `bar0Put`, and the accesses that the gate or the port stops. -/
theorem registersReadAndWriteAsTheirTablesSay : Obligations.RegistersReadAndWriteAsTheirTablesSay := by
  unfold Obligations.RegistersReadAndWriteAsTheirTablesSay
  refine ⟨?ident, ?cap, ?timeoutTaken, ?timeoutRefused, ?readOnly, ?reserved, ?unseen, ?nonTee, ?zero, ?held⟩
  case ident =>
    intro fn tee s hgate
    have hread := bar0Read_word hgate bar0Word_ident
    exact congrArg Host.Outcome.next (hread.trans (by split <;> rfl))
  case cap =>
    intro tee s hgate
    exact congrArg Host.Outcome.next (bar0Read_word hgate (v := 0x0C060580) rfl)
  case timeoutTaken =>
    intro tee s v hheld hgate hrange hq hlog
    have hwrite := (registerWrite_pf0 (v := v.toNat) hheld hgate).trans (bar0Put_idleTimeout_taken hrange.1 hrange.2 hq hlog)
    obtain ⟨hnext, hrst, -, -, hwings, hreqs⟩ := logAppend_noWing (setIdleTimeout v.toNat s) 0 0 0x140004 0
      (leBytes 4 s.rst.idleTimeout) (leBytes 4 v.toNat) (w := 0xFF) (by decide) rfl
    have hmap := congrArg Rst.map hrst
    exact ⟨_, congrArg Host.Outcome.next hwrite, congrArg Rst.idleTimeout hrst, hmap, hnext, hreqs, hwings⟩
  case timeoutRefused =>
    intro tee s v hheld hgate hrange
    exact congrArg Host.Outcome.next
      ((registerWrite_pf0 hheld hgate).trans (bar0Put_idleTimeout_refused (by omega) (by omega)))
  case readOnly =>
    intro tee s v off hgate hoff
    cases hheld : portHeld s 0 with
    | true => exact congrArg Host.Outcome.next (registerWrite_held hheld)
    | false => exact congrArg Host.Outcome.next ((registerWrite_pf0 hheld hgate).trans (bar0Put_readOnly s _ off hoff))
  case reserved =>
    intro tee s off hgate hoff
    exact congrArg Host.Outcome.next (bar0Read_word hgate (bar0Word_reserved s off hoff))
  case unseen =>
    intro fn tee s off wide hgate hfn hlo hhi
    exact congrArg Host.Outcome.next (bar0Read_violates hgate (bar0Word_rstVnt hfn hlo hhi))
  case nonTee =>
    intro fn s off wide v hgate
    exact ⟨fun hheld => congrArg Host.Outcome.next (registerWrite_nonTee hheld hgate),
      congrArg Host.Outcome.next (bar0Read_nonTee hgate)⟩
  case zero =>
    intro fn s off wide tee v hgate
    exact ⟨congrArg Host.Outcome.next (registerWrite_zero hgate), congrArg Host.Outcome.next (bar0Read_zero hgate)⟩
  case held =>
    intro fn s off wide tee v hheld
    exact congrArg Host.Outcome.next (registerWrite_held hheld)

end

section
/-! PROOF. WING_GRANT, WING_QUERY, the end of a drain and the violation summaries (02 R48, R49, R65, R71), and O3 from them. -/

open Sys2Proof Sys2Proof.Machine

namespace Sys2Proof.Machine

/-! ### WING_GRANT (02 R48) -/

section
variable {s : State} {c : Cmd}

/-- The properties that bytes 0, 1 and 2 of a WING_GRANT give a wing. -/
def withGrant (p : Bytes) (x : Wing) : Wing :=
  { x with lent := leAt p 0 1 == 1, netOwning := leAt p 1 1 == 1, tenant := leAt p 2 1 == 1 }

section
variable (hw : c.wing.toNat < 16) (hz : zeroAt c.payload 3 1 = true) (hkind : leAt c.payload 0 1 ≤ 1)
  (hnet : leAt c.payload 1 1 ≤ 1) (howner : leAt c.payload 2 1 ≤ 1) (hstate : (s.wing c.wing.toNat).state = .disabled)
include hw hz hkind hnet howner hstate

/-- The checks of WING_GRANT come down to the Vault, which a change of OWNER needs. -/
theorem wingGrant_firstFail (changes : Bool) (hvault : changes = true → vaultServes s = true) :
    firstFail [(!zeroAt c.payload 3 1, rRESERVED_FIELD_SET),
      (decide (leAt c.payload 0 1 > 1 ∨ leAt c.payload 1 1 > 1 ∨ leAt c.payload 2 1 > 1), rRESERVED_VALUE), badWing c,
      (decide ((s.wing c.wing.toNat).state ≠ .disabled), rNOT_PERMITTED), (changes && !vaultServes s, rINTERNAL)] = none := by
  simp [firstFail_eq_none_iff, badWing, hz, hstate, hkind, hnet, howner, hw]
  exact hvault

theorem wingGrant_keepsOwner (hsame : (leAt c.payload 2 1 = 1) = ((s.wing c.wing.toNat).tenant = true)) :
    wingGrant s c = ((scpCommit s c).updWing c.wing.toNat (withGrant c.payload), .done rOK []) := by
  have hchanges : decide ((leAt c.payload 2 1 = 1) ≠ ((s.wing c.wing.toNat).tenant = true)) = false := by simp [hsame]
  unfold wingGrant
  simp only [hchanges]
  rw [checked_pass (wingGrant_firstFail hw hz hkind hnet howner hstate false (by simp))]
  rfl

theorem wingGrant_changesOwner (hdiff : (leAt c.payload 2 1 = 1) ≠ ((s.wing c.wing.toNat).tenant = true))
    (hvault : vaultServes s = true) :
    wingGrant s c =
      (regenWing (((scpCommit s c).updWing c.wing.toNat (withGrant c.payload)).updWing c.wing.toNat fun x =>
        { x with tk := none, lookups := 0, hits := 0, skipped := 0 }) c.wing.toNat, .done rOK []) := by
  have hchanges : decide ((leAt c.payload 2 1 = 1) ≠ ((s.wing c.wing.toNat).tenant = true)) = true := decide_eq_true hdiff
  unfold wingGrant
  simp only [hchanges]
  rw [checked_pass (wingGrant_firstFail hw hz hkind hnet howner hstate true fun _ => hvault)]
  rfl

end

/-! ### WING_QUERY (02 R49) -/

/-- A wing's units of each kind are the lists of the wing. -/
theorem wingUnits_count (w : Nat) :
    ((wingUnits s w).filter fun u => u.1 == ukQueue).length = (s.wingQueues w).length ∧
    ((wingUnits s w).filter fun u => u.1 == ukVf).length = (s.wingVfs w).length ∧
    ((wingUnits s w).filter fun u => u.1 == ukExt).length = (s.wingExtents w).length ∧
    ((wingUnits s w).filter fun u => u.1 == ukFlow).length = (s.wingFlows w).length := by
  simp [wingUnits, List.filter_append, List.filter_map, Function.comp_def, ukQueue, ukVf, ukExt, ukFlow]

theorem wingQuery_answers (hw : c.wing.toNat < 16) (hz : zeroAt c.payload 2 2 = true)
    (hfirst : leAt c.payload 0 2 < (wingUnits s c.wing.toNat).length ∨ wingUnits s c.wing.toNat = []) :
    wingQuery s c = (s, .done rOK ([BitVec.ofNat 8 (wingCode (s.wing c.wing.toNat).state),
        BitVec.ofNat 8 (grantBits (s.wing c.wing.toNat))] ++
      leBytes 2 (wingHalfMask s c.wing.toNat) ++ leBytes 2 (s.wingQueues c.wing.toNat).length ++
      leBytes 2 (s.wingVfs c.wing.toNat).length ++ leBytes 2 (s.wingExtents c.wing.toNat).length ++
      leBytes 2 (s.wingFlows c.wing.toNat).length ++ leBytes 2 (wingUnits s c.wing.toNat).length ++
      leBytes 2 (((wingUnits s c.wing.toNat).drop (leAt c.payload 0 2)).take 504).length ++
      leBytes 2 (leAt c.payload 0 2) ++ List.replicate 14 0#8 ++
      (((wingUnits s c.wing.toNat).drop (leAt c.payload 0 2)).take 504).flatMap (queryEntry s))) := by
  obtain ⟨hqueues, hvfs, hextents, hflows⟩ := wingUnits_count (s := s) c.wing.toNat
  unfold wingQuery
  simp only [hqueues, hvfs, hextents, hflows]
  refine checked_pass ?_
  rcases hfirst with h | h <;> simp [firstFail_eq_none_iff, badWing, hz, hw, h]

end

/-! ### The end of a drain (02 R71) -/

theorem wingOff_frame (s : State) (w : Nat) :
    wingOff s w = { s with wings := (wingOff s w).wings, images := s.images.filter fun i => i.wing.val != w } := rfl

theorem wingOff_wing (s : State) (w k : Nat) : (wingOff s w).wing k =
    if k = w then
      { s.wing w with state := .disabled, enableReq := false, snap := none, applyNext := none, stopAdmit := false, bubStart := 0 }
    else s.wing k := Tbl.get_set ..

/-! ### Violation summaries (02 R65) -/

section
variable {s : State} {w kind : Nat}

theorem violationSummary_written (hw : w < 16) (hroom : logFull s = false)
    (hdue : summaryDue s (Tbl.get 0 (s.wing w).violSince kind) (Tbl.get 0 (s.wing w).violAt kind) = true) :
    violationSummary s w kind =
      (logAppend s 0xFFFF w 3 kind (Tbl.get 0 (s.wing w).violSince kind) [] []).updWing w fun x =>
        { x with violSince := Tbl.set 0 x.violSince kind 0, violAt := Tbl.set 0 x.violAt kind s.now } := by
  rw [violationSummary, if_neg (ne_true_of_eq_false hroom), if_pos hw]
  exact if_pos hdue

theorem violationSummary_notDue (hw : w < 16)
    (hdue : summaryDue s (Tbl.get 0 (s.wing w).violSince kind) (Tbl.get 0 (s.wing w).violAt kind) = false) :
    violationSummary s w kind = s := by
  rw [violationSummary, if_pos hw]
  split
  · rfl
  · exact if_neg (ne_true_of_eq_false hdue)

end

end Sys2Proof.Machine

/-- Settles O3: the two grants and the query pass their checks; a drain ends by `wingOff`; a summary is written where it is due. -/
theorem grantQueryAndSummaries : Obligations.GrantQueryAndSummaries := by
  unfold Obligations.GrantQueryAndSummaries
  refine ⟨?grant, ?grantOwner, ?query, ?drained, ?summary, ?noSummary⟩
  case grant =>
    rintro fn hub tag wing p c s rfl ha hw hz hkind hnet howner hstate hsame
    exact scpExec_done ha (wingGrant_keepsOwner hw hz hkind hnet howner hstate hsame)
  case grantOwner =>
    rintro fn hub tag wing p c s rfl ha hw hz hkind hnet howner hstate hdiff hvault
    exact scpExec_done ha (wingGrant_changesOwner hw hz hkind hnet howner hstate hdiff hvault)
  case query =>
    rintro fn hub tag wing p c s rfl ha hw hz hfirst
    exact scpExec_done ha (wingQuery_answers hw hz hfirst)
  case drained =>
    intro wing s hstate hnone
    have hoff : exec (.wingDrainDone wing) s = .next (wingOff s wing) :=
      congrArg Host.Outcome.next (if_pos ⟨hstate, by simp [hnone]⟩)
    refine ⟨_, hoff, wingOff_frame s wing, fun k hk => by rw [wingOff_wing, if_neg hk], ?_⟩
    simp [wingOff_wing]
  case summary =>
    intro wing kind s hw hroom hsome hold
    exact congrArg Host.Outcome.next (violationSummary_written hw hroom (by simp [summaryDue, hsome, hold]))
  case noSummary =>
    intro wing kind s hw hnone
    refine congrArg Host.Outcome.next (violationSummary_notDue hw ?_)
    rcases hnone with h | ⟨h, hrecent⟩
    · simp [summaryDue, h]
    · simp [summaryDue, h, hrecent]

end

section
/-! PROOF. WING_REBIND, the end of its drain and the drain's bound (02 R45 to R52), and O4 from them. -/

open Sys2Proof Sys2Proof.Machine

namespace Sys2Proof.Machine

/-! ### WING_REBIND (02 R46, R47) -/

section
variable {s : State} {c : Cmd}

theorem wingRebind_begins (hpass : firstFail (rebindChecks s c) = none) :
    wingRebind s c =
      (drainBegin (match rbSource c.payload with | some w => tdiTrip s w c.fn | none => s) (rebindUnits c.payload),
       .pend false []) :=
  checked_pass hpass

theorem wingRebind_refused {code : Byte} (hfail : firstFail (rebindChecks s c) = some code) :
    wingRebind s c = (s, .done code []) :=
  checked_fail hfail

end

/-! ### The end of the drain (02 R50) -/

section
variable {s : State} {fn : Fn} {hub : Hub} {bad : List HcIx} {r : Run}

theorem rebindDrainDone_waits (hrun : running s fn hub 0x0101 = some r)
    (hopen : (rebindUnits r.payload).all (unitDrained s r.start) = false) : rebindDrainDone s fn hub bad = s := by
  simp only [rebindDrainDone, hrun, hopen, Bool.false_and, Bool.false_eq_true, if_false]

theorem rebindDrainDone_finishes (hrun : running s fn hub 0x0101 = some r)
    (hdrained : (rebindUnits r.payload).all (unitDrained s r.start) = true) (htest : s.vlt.mode ≠ .selfTest) :
    rebindDrainDone s fn hub bad = rebindFinish s fn hub r bad := by
  simp only [rebindDrainDone, hrun, hdrained, decide_eq_false htest, Bool.and_false, Bool.not_false, Bool.and_self, if_true]

/-- The part after steps 2 to 8: the binding, and the credits of the checkers that change with it. -/
def rebindMoved (s : State) (us : List UnitId) (dst : Option WingIx) (bad : List HcIx) : State :=
  let reset := us.foldl resetUnit (scrubUnits s us dst false bad)
  (List.range 16).foldl (dupRepair reset) (us.foldl (bindUnit dst) reset)

/-- The record of step 9 (02 R57). -/
def rebindLogged (s : State) (fn : Fn) (us : List UnitId) (dst : Option WingIx) (moved : State) : State :=
  logAppend moved fn ((dst.map (·.val)).getD 0xFF) 5 ((us.head?.map (·.2)).getD 0)
    (((us.head?.map (unitGen s)).getD 0).toNat + 2 ^ 32 * ((us.head?.map (unitGen moved)).getD 0).toNat)
    (us.flatMap fun u => unitRecord s u false) (us.flatMap fun u => unitRecord moved u true)

/-- Steps 2 to 9 while the keys that they need can be had. -/
theorem rebindSteps_moves (p : Bytes) (hkeys : (rebindUnits p).any (fun u => u.1 == ukExt) = false ∨ vaultServes s = true)
    {us : List UnitId} {dst : Option WingIx} {logged : State} (hus : us = rebindUnits p) (hdst : dst = rbDest p)
    (hlogged : logged = rebindLogged s fn us dst (rebindMoved s us dst bad)) :
    rebindSteps s fn p bad =
      (retireAll (fencePoll ((us.filter fun u => u.1 == ukHalf).foldl (fun s u => afterRequest s u.2)
        (tdiTrip logged ((dst.map (·.val)).getD 0xFF) fn))),
       if us.any (fun u => u.1 == ukHalf && (logged.half u.2).scrubBad) then rINTERNAL else rOK, rebindReply logged us) := by
  subst hus hdst hlogged
  refine if_neg ?_
  rcases hkeys with h | h <;> simp [h]

end

/-! ### The bound of a drain (02 R52) -/

section
variable {s : State} {fn : Fn} {hub : Hub} {r : Run}

theorem rebindTimeout_continues (hopen : (rebindUnits r.payload).all (unitDrained s r.start) = false) :
    rebindTimeout s fn hub r =
      rebindFinish ((((rebindUnits r.payload).filter fun u => u.1 == ukQueue).map (·.2)).foldl flushCompletions
        (if ((rebindUnits r.payload).flatMap (drainReqs s r.start)).isEmpty then
          drainAlarm s (((rbSource r.payload).map (·.val)).getD 0xFF)
        else abortAll s ((rebindUnits r.payload).flatMap (drainReqs s r.start)) 0)) fn hub r [] :=
  if_neg (ne_true_of_eq_false hopen)

/-- The run of a mailbox that runs an opcode. -/
theorem running_eq_some {op : Nat} (h : running s fn hub op = some r) :
    (s.mbox (mbxKey fn hub)).run = some r ∧ r.op.toNat = op := by
  unfold running at h
  split at h
  · next r' hr' =>
    split at h
    · next hop => obtain rfl := Option.some.inj h; exact ⟨hr', hop⟩
    · contradiction
  · contradiction

theorem exec_drainTimeout_rebind (hrun : running s fn hub 0x0101 = some r) :
    exec (.drainTimeout fn hub none) s = .next (rebindTimeout s fn hub r) := by
  obtain ⟨hmbox, hop⟩ := running_eq_some hrun
  have hopcode : r.op = 0x0101 := BitVec.eq_of_toNat_eq hop
  show Host.Outcome.next (match (s.mbox (mbxKey fn hub)).run with | some r => _ | none => _) = _
  rw [hmbox]
  exact congrArg Host.Outcome.next (if_pos hopcode)

end

end Sys2Proof.Machine

/-- Settles O4: WING_REBIND by its checks, the end of its drain by `rebindSteps`, and its bound by `rebindTimeout`. -/
theorem rebindingStartsDrainsAndMoves : Obligations.RebindingStartsDrainsAndMoves := by
  unfold Obligations.RebindingStartsDrainsAndMoves
  refine ⟨?begins, ?refused, ?moves, ?waits, ?wingTimeout, ?timeout⟩
  case begins =>
    rintro fn hub tag wing p c s rfl ha hpass
    exact scpExec_pend ha (wingRebind_begins hpass)
  case refused =>
    rintro fn hub tag wing p c s code rfl ha hfail
    exact scpExec_done ha (wingRebind_refused hfail)
  case moves =>
    intro fn hub bad r s hrun hdrained htest hkeys
    let moved := rebindMoved s (rebindUnits r.payload) (rbDest r.payload) bad
    let logged := rebindLogged s fn (rebindUnits r.payload) (rbDest r.payload) moved
    have hsteps := rebindSteps_moves (fn := fn) (bad := bad) r.payload hkeys rfl rfl (logged := logged) rfl
    refine ⟨_, congrArg (fun t => Host.Outcome.next (zeroizePoll t)) (rebindDrainDone_finishes hrun hdrained htest),
      rebindUnits r.payload, rbDest r.payload, moved, logged, rfl, rfl, rfl, rfl, ?_⟩
    rw [rebindFinish, hsteps]
  case waits =>
    intro fn hub bad r s hrun hopen
    exact congrArg (fun t => Host.Outcome.next (zeroizePoll t)) (rebindDrainDone_waits hrun hopen)
  case wingTimeout =>
    intro fn hub wing s hstate
    exact congrArg Host.Outcome.next (if_pos hstate)
  case timeout =>
    intro fn hub r s hrun hopen
    exact ⟨_, rfl, (exec_drainTimeout_rebind hrun).trans (congrArg Host.Outcome.next (rebindTimeout_continues hopen))⟩

end

section
/-! PROOF. The fields of the state after reset (16 R493, R494, R506, R519), and O56 from them. -/

open Sys2Proof Sys2Proof.Machine

namespace Sys2Proof.Machine

/-- RST_MAP of each source at reset: what it may be mapped to, no override, and the fused level (16 R494, R519). -/
theorem rstWord_reset_map {src : Nat} (h : src < 12) :
    rstWord State.reset (0x40 + 4 * src) = allowedMask.getD src 0 * 65536 + factoryMap.getD src 0 := by
  have hword : rstWord State.reset (0x40 + 4 * src) = rstMapReg State.reset ((0x40 + 4 * src - 0x40) / 4) :=
    if_pos (by omega)
  have hsrc : (0x40 + 4 * src - 0x40) / 4 = src := by omega
  rw [hword, hsrc]
  simp [rstMapReg, State.reset, Rst.init, RstMap.init, b2n]

end Sys2Proof.Machine

/-- Settles O56: every indexed part reads its reset value, since State.reset lists none. -/
theorem theMachineAfterReset : Obligations.TheMachineAfterReset := by
  unfold Obligations.TheMachineAfterReset
  refine ⟨?core, ?parts, ?hubs, ?map, ?words⟩
  case core => exact ⟨rfl, rfl, rfl, rfl, rfl, ⟨rfl, rfl⟩, rfl, rfl, rfl, rfl, rfl, rfl⟩
  case parts => exact fun w h e q v f => ⟨rfl, rfl, rfl, rfl, rfl, rfl, rfl, rfl, rfl, rfl, rfl⟩
  case hubs => exact fun h => ⟨rfl, rfl⟩
  case map => exact fun src => rstWord_reset_map
  case words => exact ⟨rfl, rfl, rfl, rfl⟩

end

section
/-! PROOF. What the boot after a device reset leaves unchanged (16 R505, 18 R547): from the choice of a slot to the training of the
links nothing touches the plinth, the clocks, the level in progress, the boot counter or the counts of the sources. -/

open Sys2Proof Sys2Proof.Machine

namespace Sys2Proof.Machine

/-- The parts that the reset logic itself sets at a release. -/
def State.bootView (s : State) : State :=
  { State.reset with
    plinth := s.plinth, clk := s.clk, rst := { Rst.init with level := s.rst.level, boot := s.rst.boot, count := s.rst.count } }

/-- What is kept outside the vents is kept in the view. -/
theorem bootView_of_outsideVents {s t : State} (h : t.outsideVents = s.outsideVents) : t.bootView = s.bootView := by
  have hview := congrArg State.bootView h
  exact hview

section
variable (s : State)

@[simp] theorem emit_bootView (o : Out) : (s.emit o).bootView = s.bootView := rfl
@[simp] theorem free_bootView (n : Nat) : (s.free n).2.bootView = s.bootView := rfl
@[simp] theorem updPar_bootView (f : Par → Par) : (s.updPar f).bootView = s.bootView := rfl
@[simp] theorem updFw_bootView (f : Fw → Fw) : (s.updFw f).bootView = s.bootView := rfl
@[simp] theorem setFw_bootView (f : Fw) : ({ s with fw := f } : State).bootView = s.bootView := rfl
@[simp] theorem setHubLinkUp_bootView (up : Bool) : ({ s with hubLinkUp := up } : State).bootView = s.bootView := rfl
@[simp] theorem setMbox_bootView (k : Nat) (v : Mbx) : (s.setMbox k v).bootView = s.bootView := rfl
@[simp] theorem setTable_bootView (k : Nat) (v : Option Table) : (s.setTable k v).bootView = s.bootView := rfl
@[simp] theorem setCat_bootView (k : Nat) (v : Cat) : (s.setCat k v).bootView = s.bootView := rfl
@[simp] theorem setStack_bootView (k : Nat) (v : Stack) : (s.setStack k v).bootView = s.bootView := rfl
@[simp] theorem setLink_bootView (k : Nat) (v : Link) : (s.setLink k v).bootView = s.bootView := rfl
@[simp] theorem setPeer_bootView (k : Nat) (v : Peer) : (s.setPeer k v).bootView = s.bootView := rfl
@[simp] theorem setExt_bootView (k : Nat) (v : Extent) : (s.setExt k v).bootView = s.bootView := rfl
@[simp] theorem setWing_bootView (k : Nat) (v : Wing) : (s.setWing k v).bootView = s.bootView := rfl
@[simp] theorem setAlert_bootView (i : Nat) (v : Bool) : (setAlert s i v).bootView = s.bootView := rfl
@[simp] theorem alarm_bootView (kind : W16) (wing die d0 d1 d2 d3 : Nat) :
    (alarm s kind wing die d0 d1 d2 d3).bootView = s.bootView := bootView_of_outsideVents (alarm_outsideVents ..)

@[simp] theorem msixRaise_bootView (fn : Fn) (vec : Nat) : (msixRaise s fn vec).bootView = s.bootView :=
  bootView_of_outsideVents (msixRaise_outsideVents ..)

/-! ### Answers and the catalogues -/

@[simp] theorem scpFinish_bootView (c : Cmd) (code : Byte) (p : Bytes) : (scpFinish s c code p).bootView = s.bootView := by
  simp only [scpFinish]
  split <;> simp

@[simp] theorem runFinish_bootView (fn : Fn) (hub : Hub) (code : Byte) (p : Bytes) :
    (runFinish s fn hub code p).bootView = s.bootView := by
  unfold runFinish
  split <;> simp

@[simp] theorem catUpd_bootView (w c : Nat) (f : Cat → Cat) : (catUpd s w c f).bootView = s.bootView := rfl

@[simp] theorem pairSend_bootView (n : Nat) (msg : PairMsg) (args : List Nat) (data : Bytes) :
    (pairSend s n msg args data).bootView = s.bootView := rfl

@[simp] theorem disablePoll_bootView (w c : Nat) : (disablePoll s w c).bootView = s.bootView := by
  simp only [disablePoll]
  split <;> rfl

@[simp] theorem commitDrop_bootView (w c : Nat) (code : Byte) : (commitDrop s w c code).bootView = s.bootView := by
  unfold commitDrop
  split <;> simp

@[simp] theorem sendDiscard_bootView (w c : Nat) (ep : W32) : (sendDiscard s w c ep).bootView = s.bootView := by
  simp only [sendDiscard]
  split_ifs <;> simp

@[simp] theorem discardAnswer_bootView (w c : Nat) : (discardAnswer s w c).bootView = s.bootView :=
  foldl_keeps State.bootView fun t x => by split <;> simp

@[simp] theorem discardBegin_bootView (w c : Nat) : (discardBegin s w c).bootView = s.bootView := by
  simp [discardBegin]

@[simp] theorem retirePoll_bootView (w c : Nat) : (retirePoll s w c).bootView = s.bootView := by
  unfold retirePoll
  rw [foldl_keeps State.bootView fun t x => by dsimp only; split_ifs <;> simp [runUpdate]]
  split <;> simp

@[simp] theorem commitPoint_bootView (w c : Nat) : (commitPoint s w c).bootView = s.bootView := by
  unfold commitPoint
  split <;> simp [commitVisible]

@[simp] theorem commitProgress_bootView (w c : Nat) : (commitProgress s w c).bootView = s.bootView := by
  unfold commitProgress
  dsimp only
  split
  · rfl
  · split_ifs <;> simp

/-! ### The archive (18 R551, R552) -/

theorem pairSettings_bootView (p : Bytes) : (pairSettings s p).bootView = s.bootView := by
  have hmodes (l : List Nat) (f : Nat → Cat → Cat) (t : State) :
      (l.foldl (fun t i => t.updCat i (f i)) t).bootView = t.bootView := foldl_keeps State.bootView fun _ _ => rfl
  have hcommits (l : List Nat) (t : State) :
      (l.foldl (fun t i => if (t.cat i).mode = 0 ∧ (t.cat i).commit.isSome then commitProgress t (i / 8) (i % 8) else t)
        t).bootView = t.bootView := foldl_keeps State.bootView fun t i => by split <;> simp
  simp only [pairSettings, hcommits, hmodes, updPar_bootView]

theorem applyEntry_bootView (e : Nat × Bytes) : (applyEntry s e).bootView = s.bootView := by
  unfold applyEntry
  dsimp only
  split
  case h_6 => exact pairSettings_bootView s _
  case h_7 => exact foldl_keeps State.bootView fun _ _ => rfl
  case h_8 => exact foldl_keeps State.bootView fun _ _ => rfl
  case h_9 => exact foldl_keeps State.bootView fun _ _ => rfl
  case h_10 => exact foldl_keeps State.bootView fun t r => by split <;> rfl
  all_goals rfl

theorem archiveBoot_bootView (ok : Bool) : (archiveBoot s ok).bootView = s.bootView := by
  unfold archiveBoot
  split
  · split
    · rw [updFw_bootView]
      exact foldl_keeps State.bootView applyEntry_bootView
    · rfl
  · rfl

/-! ### The slots (18 R547, R548) -/

theorem fallBack_bootView (b trial : Bool) (left : SlotPhase) : (fallBack s b trial left).bootView = s.bootView := by
  simp only [fallBack]
  split_ifs <;> rfl

theorem bootSlots_bootView (imageOk : Bool) : (bootSlots s imageOk).bootView = s.bootView := by
  simp only [bootSlots]
  split_ifs <;> simp [fallBack_bootView]

/-! ### The links (01 R26, 13 R400) -/

theorem trainLinks_bootView (level : Nat) (bad : List (Fin 31)) : (trainLinks s level bad).bootView = s.bootView := by
  have hlinks (l : List Nat) (f : Nat → Link → Link) (t : State) :
      (l.foldl (fun t n => t.updLink n (f n)) t).bootView = t.bootView := foldl_keeps State.bootView fun _ _ => rfl
  have halarms (l : List Nat) (t : State) :
      (l.foldl (fun t n => alarm t 0x0101 0xFF 16 ((linkDies n).1 + 256 * (linkDies n).2) 0 0 0) t).bootView = t.bootView :=
    foldl_keeps State.bootView fun _ _ => alarm_bootView ..
  unfold trainLinks
  dsimp only
  split
  · split
    · rw [setAlert_bootView, updFw_bootView, setHubLinkUp_bootView, hlinks]
    · rw [setHubLinkUp_bootView, hlinks]
  · rw [setAlert_bootView, updFw_bootView, halarms, setHubLinkUp_bootView, hlinks]

theorem tableWaitFail_bootView (x : TableWait) (code : Byte) : (tableWaitFail s x code).bootView = s.bootView := by
  have hcancel (t : State) (id : Nat) : (tableCancel t id).bootView = t.bootView := by
    unfold tableCancel
    split
    · split <;> rfl
    · rfl
  simp only [tableWaitFail, runFinish_bootView]
  split
  · rfl
  · exact hcancel _ _

theorem askWitness_bootView (type : Nat) : (askWitness s type).bootView = s.bootView := by
  unfold askWitness
  split
  · rfl
  · split <;> rfl

theorem linkLost_bootView : (linkLost s).bootView = s.bootView := by
  have hask (t : State) (code : Byte) : (askEnd t code).bootView = t.bootView := by
    unfold askEnd
    split <;> simp
  have hcats (l : List (Nat × Nat × Nat)) (t : State) :
      (l.foldl (fun t e => t.updCat (catKey e.1 e.2.1) fun k => { k with lossV := some k.vis }) t).bootView = t.bootView :=
    foldl_keeps State.bootView fun _ _ => rfl
  have htables (l : List TableWait) (t : State) :
      (l.foldl (fun t x => tableWaitFail t x rPARTNER_LOST) t).bootView = t.bootView :=
    foldl_keeps State.bootView fun t x => tableWaitFail_bootView t x _
  simp only [linkLost]
  split
  · rw [askWitness_bootView, hask, htables, hcats, updPar_bootView]
  · rw [hask, htables, hcats, updPar_bootView]

theorem setLinkState_bootView (l : PairLink) : (setLinkState s l).bootView = s.bootView := by
  simp only [setLinkState]
  split
  · rw [linkLost_bootView, updPar_bootView]
  · rfl

theorem retrain_bootView : (retrain s).bootView = s.bootView := by
  simp only [retrain]
  split <;> rw [updPar_bootView, setLinkState_bootView]

/-! ### The release (16 R505) -/

/-- The boot that follows what the reset logic does at a release. -/
theorem resetRelease_bootView {s : State} {l : Nat} {imageOk archiveOk : Bool} {bad : List (Fin 31)} (hl : s.rst.level = some l)
    (hpwr : s.rst.pwrOk = true) (hrail : s.rst.railLatch = false) (htrip : s.rst.thermtrip = false) :
    (resetRelease s imageOk archiveOk bad).bootView =
      (releaseCore (s.updRst fun r => { r with level := none, perst := false }) l).bootView := by
  have harchive (t : State) : (if t.fw.recovery then t else archiveBoot t archiveOk).bootView = t.bootView := by
    split
    · rfl
    · exact archiveBoot_bootView t archiveOk
  have htrain (t : State) : (if t.par.enable then retrain t else t).bootView = t.bootView := by
    split
    · exact retrain_bootView t
    · rfl
  simp only [resetRelease, hl]
  rw [if_neg (by simp [hpwr, hrail, htrip]), htrain, trainLinks_bootView, harchive, bootSlots_bootView]

end

end Sys2Proof.Machine
end

section
/-! PROOF. What a reset of level 3, 4 or 5 clears and keeps, power, release and the end of the boot (16 R493 to R505, 18 R547), and
O48 from them. -/

open Sys2Proof Sys2Proof.Machine

namespace Sys2Proof.Machine

/-! ### Tables that are rebuilt part by part -/

section
variable {α β : Type}

/-- What every listed value and the default satisfy, a read satisfies. -/
theorem Tbl.get_of_forall {P : α → Prop} {d : α} {t : Tbl α} (hd : P d) (ht : ∀ e ∈ t, P e.2) (k : Nat) : P (Tbl.get d t k) := by
  induction t with
  | nil => exact hd
  | cons e t ih =>
    obtain ⟨k', v⟩ := e
    rw [Tbl.get]
    split
    · exact ht (k', v) (by simp)
    · exact ih fun e he => ht e (by simp [he])

theorem Tbl.get_of_not_mem (d : α) {t : Tbl α} {k : Nat} (h : k ∉ t.map (·.1)) : Tbl.get d t k = d := by
  induction t with
  | nil => rfl
  | cons e t ih =>
    obtain ⟨k', v⟩ := e
    simp only [List.map_cons, List.mem_cons, not_or] at h
    rw [Tbl.get, if_neg (Ne.symm h.1), ih h.2]

theorem Tbl.get_map (f : α → β) (d : α) (t : Tbl α) (k : Nat) :
    Tbl.get (f d) (t.map fun e => (e.1, f e.2)) k = f (Tbl.get d t k) := by
  induction t with
  | nil => rfl
  | cons e t ih =>
    obtain ⟨k', v⟩ := e
    simp only [List.map_cons, Tbl.get, ih]
    split <;> rfl

/-- A table that lists each index of a list with its value. -/
theorem Tbl.get_listed (d : α) (l : List Nat) (g : Nat → α) (k : Nat) :
    Tbl.get d (l.map fun e => (e, g e)) k = if k ∈ l then g k else d := by
  induction l with
  | nil => rfl
  | cons i l ih =>
    simp only [List.map_cons, Tbl.get, ih, List.mem_cons]
    by_cases hik : i = k
    · simp [hik]
    · simp [hik, Ne.symm hik]

variable [DecidableEq α]

/-- Dropping the entries that equal the default changes no read, where no key stands twice. -/
theorem Tbl.get_filter_default (d : α) {t : Tbl α} (h : (t.map (·.1)).Pairwise (· < ·)) (k : Nat) :
    Tbl.get d (t.filter fun e => decide (e.2 ≠ d)) k = Tbl.get d t k := by
  induction t with
  | nil => rfl
  | cons e t ih =>
    obtain ⟨k', v⟩ := e
    simp only [List.map_cons, List.pairwise_cons] at h
    by_cases hv : v = d
    · have hnot (hk : k' = k) : Tbl.get d t k = d :=
        Tbl.get_of_not_mem d fun hmem => absurd (h.1 k hmem) (by omega)
      rw [List.filter_cons_of_neg (by simp [hv]), ih h.2, Tbl.get]
      split
      · next hk => rw [hnot hk, hv]
      · rfl
    · rw [List.filter_cons_of_pos (by simp [hv]), Tbl.get, Tbl.get, ih h.2]

/-- A table kept part by part reads, at each key, what is kept of the part. -/
theorem Tbl.get_tblMap {d : α} {f : α → α} {t : Tbl α} (hf : f d = d) (ht : Tbl.wf d t = true) (k : Nat) :
    Tbl.get d (tblMap d f t) k = f (Tbl.get d t k) := by
  have hkeys : ((t.map fun e => (e.1, f e.2)).map (·.1)).Pairwise (· < ·) := by
    simpa [Function.comp_def] using ((Tbl.wf_iff d t).mp ht).1
  have hmap := Tbl.get_map f d t k
  rw [hf] at hmap
  rw [tblMap, Tbl.get_filter_default d hkeys, hmap]

/-- What the default and every value that is kept satisfy, a read satisfies. -/
theorem Tbl.get_tblMap_of_forall {P : α → Prop} {d : α} {f : α → α} (hd : P d) (hf : ∀ x, P (f x)) (t : Tbl α) (k : Nat) :
    P (Tbl.get d (tblMap d f t) k) := by
  refine Tbl.get_of_forall hd (fun e he => ?_) k
  obtain ⟨e', -, rfl⟩ := List.mem_map.mp (List.mem_filter.mp he).1
  exact hf e'.2

end

/-! ### The parts after a reset (16 R503) -/

section
variable (s : State) (level k : Nat)

theorem cleared_wing_disabled : ((cleared s level).wing k).state = .disabled ∧ ((cleared s level).wing k).tenant = false := by
  have hwings : (cleared s level).wings = if level = 3 then tblMap Wing.init keepWing s.wings else [] := by
    simp only [cleared, decide_eq_true_eq]
  rw [State.wing, hwings]
  split
  · exact Tbl.get_tblMap_of_forall (P := fun x : Wing => x.state = .disabled ∧ x.tenant = false) ⟨rfl, rfl⟩ (fun _ => ⟨rfl, rfl⟩) _ _
  · exact ⟨rfl, rfl⟩

theorem cleared_half_free : ((cleared s level).half k).owner = none ∧ ((cleared s level).half k).gen = 0 := by
  have hhalves : (cleared s level).halfCells = if level = 3 then tblMap HalfCell.init
      (fun h => { HalfCell.init with scrubBad := h.scrubBad, clockBad := h.clockBad }) s.halfCells else [] := by
    simp only [cleared, decide_eq_true_eq]
  rw [State.half, hhalves]
  split
  · exact Tbl.get_tblMap_of_forall (P := fun x : HalfCell => x.owner = none ∧ x.gen = 0) ⟨rfl, rfl⟩ (fun _ => ⟨rfl, rfl⟩) _ _
  · exact ⟨rfl, rfl⟩

theorem cleared_hub_booting : ((cleared s level).hub k).auth = .booting ∧ ((cleared s level).hub k).ready = false := by
  have hhubs : (cleared s level).hubs = tblMap HubSt.init (fun h => { HubSt.init with mains := h.mains }) s.hubs := by
    simp only [cleared]
  rw [State.hub, hhubs]
  exact Tbl.get_tblMap_of_forall (P := fun x : HubSt => x.auth = .booting ∧ x.ready = false) ⟨rfl, rfl⟩ (fun _ => ⟨rfl, rfl⟩) _ _

theorem cleared_ext {e : Nat} (he : e < 384) : (cleared s level).ext e = extentReset s (decide (level = 3)) e := by
  have hkeys : (((List.range 384).map fun e => (e, extentReset s (decide (level = 3)) e)).map (·.1)).Pairwise (· < ·) := by
    rw [List.map_map]
    exact List.pairwise_map.mpr List.pairwise_lt_range
  have hread := Tbl.get_filter_default Extent.init hkeys e
  rw [Tbl.get_listed, if_pos (List.mem_range.mpr he)] at hread
  exact hread

theorem extentReset_free (low : Bool) : (extentReset s low k).owner = none ∧ (extentReset s low k).gen = 0 := by
  unfold extentReset
  dsimp only
  split_ifs <;> exact ⟨rfl, rfl⟩

/-! ### Level 3 -/

theorem cleared3_wing (hwf : Tbl.wf Wing.init s.wings = true) : (cleared s 3).wing k = keepWing (s.wing k) :=
  Tbl.get_tblMap rfl hwf k

theorem cleared3_unit (hwf : Tbl.wf UnitSt.init s.units = true) : (cleared s 3).unit k =
    { UnitSt.init with quarantined := (s.unit k).quarantined, replaced := (s.unit k).replaced, subPos := (s.unit k).subPos } :=
  Tbl.get_tblMap (f := fun u : UnitSt =>
    { UnitSt.init with quarantined := u.quarantined, replaced := u.replaced, subPos := u.subPos }) rfl hwf k

/-- A bindable extent waits to be cleared (16 R504). -/
theorem cleared3_clearPending {e : Nat} (he : e < 384) (hbind : isExt47 e = false) : ((cleared s 3).ext e).clearPending = true := by
  rw [cleared_ext s 3 he]
  simp [extentReset, hbind]

theorem cleared3_doc {d : Nat} (hd : d < 40) :
    ((cleared s 3).doc d).state = if (s.unit (40 + d)).quarantined then .quarantined else .idle := by
  have hread : (cleared s 3).doc d = _ := Tbl.get_listed Docent.init
    ((List.range 40).filter fun d => (s.unit (40 + d)).quarantined) (fun _ => { Docent.init with state := .quarantined }) d
  rw [hread]
  cases h : (s.unit (40 + d)).quarantined <;> simp [h, hd, Docent.init]

end

/-! ### The release of the reset (16 R505) -/

section
variable (s : State)

/-- The term that a release writes into the plinth, with no beat and hub 0 as the holder (03 R96). -/
def Plinth.released (p : Plinth) : Plinth :=
  { term := if p.term = 0xFFFFFFFF then 1 else p.term + 1, beat := 0, holder := 0 }

theorem freshKeys_bootView : (freshKeys s).bootView = s.bootView := by
  have hroots (l : List Nat) (t : State) :
      (l.foldl (fun t w => (t.free 32).2.updWing w fun x => { x with wr := (t.free 32).1 }) t).bootView = t.bootView :=
    foldl_keeps State.bootView fun _ _ => rfl
  have hexts (l : List Nat) (t : State) :
      (l.foldl (fun t k => t.updExt (48 * k + 47) fun x => { x with key0 := some (ext47Key t k), key1 := some (ext47Key t k) })
        t).bootView = t.bootView :=
    foldl_keeps State.bootView fun _ _ => rfl
  simp only [freshKeys]
  rw [hexts, hroots]
  exact free_bootView s 32

/-- A release from level 3 writes the plinth and makes a hub with mains the master of the time. -/
theorem releaseCore_of_lt {level : Nat} (hlow : level < 4) : releaseCore s level =
    { s with plinth := s.plinth.released, clk := { s.clk with master := if (s.hub 0).mains then 0 else 1 } } := by
  simp only [releaseCore, if_pos hlow, Plinth.released]

/-- A release from level 4 or 5 also counts the boot and starts every clock at 0. -/
theorem releaseCore_bootView_of_le {level : Nat} (hhigh : 4 ≤ level) : (releaseCore s level).bootView =
    { s with
      plinth := s.plinth.released
      rst := { s.rst with boot := s.rst.boot + 1 }
      clk := { units := List.replicate 20 0, master := if (s.hub 0).mains then 0 else 1, slew := 0 } }.bootView := by
  have hlog (t : State) (l : Log) : ({ t with log := l } : State).bootView = t.bootView := rfl
  simp only [releaseCore, if_neg (Nat.not_lt.mpr hhigh), Plinth.released]
  rw [hlog, freshKeys_bootView]
  rfl

/-- What the reset logic sets at a release. -/
theorem releaseCore_sets {level : Nat} {t : State} (ht : t.bootView = (releaseCore s level).bootView) :
    t.rst.level = s.rst.level ∧ t.plinth = s.plinth.released ∧
    t.rst.boot = (if 4 ≤ level then s.rst.boot + 1 else s.rst.boot) ∧
    (4 ≤ level → t.clk.units = List.replicate 20 0) ∧ t.rst.count = s.rst.count := by
  have hlevel := congrArg (fun v => v.rst.level) ht
  have hboot := congrArg (fun v => v.rst.boot) ht
  have hcount := congrArg (fun v => v.rst.count) ht
  have hplinth := congrArg State.plinth ht
  have hunits := congrArg (fun v => v.clk.units) ht
  by_cases hhigh : 4 ≤ level
  · rw [releaseCore_bootView_of_le s hhigh] at hlevel hboot hcount hplinth hunits
    rw [if_pos hhigh]
    exact ⟨hlevel, hplinth, hboot, fun _ => hunits, hcount⟩
  · rw [releaseCore_of_lt s (Nat.not_le.mp hhigh)] at hlevel hboot hcount hplinth
    rw [if_neg hhigh]
    exact ⟨hlevel, hplinth, hboot, fun h => absurd h hhigh, hcount⟩

/-- Nothing is released while THERMTRIP# is asserted. -/
theorem resetRelease_thermtrip (imageOk archiveOk : Bool) (bad : List (Fin 31)) (htrip : s.rst.thermtrip = true) :
    resetRelease s imageOk archiveOk bad = s := by
  unfold resetRelease
  split
  · rfl
  · exact if_pos (.inr (.inr htrip))

end

/-! ### The end of the boot (18 R547) -/

section
variable (s : State)

/-- A vent test that passes reaches nothing outside the vents. -/
theorem ventTest_pass_outsideVents : (ventTest s true).outsideVents = s.outsideVents := by
  simp only [ventTest, Bool.not_true, Bool.false_eq_true, if_false]
  rw [setAlert_outsideVents, setAlert_outsideVents, serveLatches_outsideVents]
  rfl

/-- The tests at the end of a boot: the vault's self-test without a failure, and a vent test that passes. -/
def bootTested (s : State) (h : Hub) : State :=
  let s1 := if s.vlt.mode = .selfTest then selfTestEnds s 0 else s
  if h = s.pcie.activeHub ∧ !s.fw.booted then ventTest s1 true else s1

theorem bootTested_outsideVents (h : Hub) : (bootTested s h).outsideVents =
    (if s.vlt.mode = .selfTest then selfTestEnds s 0 else s).outsideVents := by
  unfold bootTested
  dsimp only
  split
  · exact ventTest_pass_outsideVents _
  · rfl

/-- The tests leave the hubs, the plinth and the firmware as they are. -/
theorem bootTested_keeps (h : Hub) :
    (bootTested s h).hubs = s.hubs ∧ (bootTested s h).plinth = s.plinth ∧ (bootTested s h).fw = s.fw := by
  have hself : (if s.vlt.mode = .selfTest then selfTestEnds s 0 else s).hubs = s.hubs ∧
      (if s.vlt.mode = .selfTest then selfTestEnds s 0 else s).plinth = s.plinth ∧
      (if s.vlt.mode = .selfTest then selfTestEnds s 0 else s).fw = s.fw := by
    split <;> exact ⟨rfl, rfl, rfl⟩
  obtain ⟨hhubs, hplinth, hfw⟩ := hself
  have hframe := bootTested_outsideVents s h
  exact ⟨(congrArg State.hubs hframe).trans hhubs, (congrArg State.plinth hframe).trans hplinth,
    (congrArg State.fw hframe).trans hfw⟩

/-- The vault after a self-test without a failure is in APPROVED mode. -/
theorem bootTested_vlt (h : Hub) (hmode : s.vlt.mode = .selfTest) : (bootTested s h).vlt = (selfTestEnds s 0).vlt := by
  have hframe := bootTested_outsideVents s h
  rw [if_pos hmode] at hframe
  have hvlt := congrArg State.vlt hframe
  exact hvlt

/-- The hub after its tests: it claims where the plinth names it, and shadows else. -/
def bootHub (s : State) (h : Hub) : State :=
  let s3 :=
    if (bootTested s h).plinth.holder = h then startClaim (bootTested s h) h
    else (plinthRead (bootTested s h) h).updHub h fun x => { x with auth := .shadow }
  s3.updHub h fun x => { x with ready := true }

theorem bootHub_shadow {h : Hub} (hholder : s.plinth.holder ≠ h) :
    ((bootHub s h).hub h).auth = .shadow ∧ ((bootHub s h).hub h).ready = true ∧ (bootHub s h).vlt = (bootTested s h).vlt := by
  simp [bootHub, (bootTested_keeps s h).2.1, hholder, plinthRead]

theorem bootHub_claim {h : Hub} (hholder : s.plinth.holder = h) :
    ((bootHub s h).hub h).auth = .claiming ∧ ((bootHub s h).hub h).ready = true ∧ (bootHub s h).fw = s.fw := by
  obtain ⟨-, hplinth, hfw⟩ := bootTested_keeps s h
  have hclaim (t : State) : ((startClaim t h).hub h).auth = .claiming ∧ (startClaim t h).fw = t.fw := by
    have hhub : (startClaim t h).hub h =
        (plinthRead (t.updHub h fun x => { x with auth := .claiming, rebuilding := true, beatRead := none, slots := 0 }) h).hub h :=
      rfl
    rw [hhub]
    exact ⟨by simp [plinthRead], rfl⟩
  simp [bootHub, hplinth, hholder, hclaim, hfw]

/-- The boot of the hub that the plinth names is noted, and a fallback is recorded. -/
def bootNoted (s : State) (h : Hub) : State :=
  let t := (bootHub s h).updFw fun f => { f with booted := true, fails := if strapRecovery s then f.fails else 0 }
  if t.fw.autoFallback then curatorLog t 0xFF 0 0 else t

/-- The end of a boot whose tests pass. -/
theorem bootComplete_pass {h : Hub} (halive : s.alive = true) (hauth : (s.hub h).auth = .booting) (hmains : (s.hub h).mains = true) :
    bootComplete s h true 0 true = if h = s.plinth.holder ∧ !s.fw.booted then bootNoted s h else bootHub s h :=
  if_neg (by simp [halive, hauth, hmains])

/-- A curator's record without a wing leaves the hubs and the firmware as they are. -/
theorem curatorLog_noWing (target detail : Nat) :
    (curatorLog s 0xFF target detail).hubs = s.hubs ∧ (curatorLog s 0xFF target detail).fw = s.fw := by
  unfold curatorLog
  split
  · exact ⟨rfl, rfl⟩
  · obtain ⟨-, -, hfw, hhubs, -, -⟩ := logAppend_noWing s 0xFFFF 2 target detail [] [] (w := 0xFF) (by decide) rfl
    exact ⟨hhubs, hfw⟩

theorem bootNoted_keeps (h : Hub) : (bootNoted s h).hubs = (bootHub s h).hubs ∧ (bootNoted s h).fw.booted = true := by
  have hfallback (t : State) : (if t.fw.autoFallback then curatorLog t 0xFF 0 0 else t).hubs = t.hubs ∧
      (if t.fw.autoFallback then curatorLog t 0xFF 0 0 else t).fw = t.fw := by
    split
    · exact curatorLog_noWing t 0 0
    · exact ⟨rfl, rfl⟩
  obtain ⟨hhubs, hfw⟩ := hfallback
    ((bootHub s h).updFw fun f => { f with booted := true, fails := if strapRecovery s then f.fails else 0 })
  exact ⟨hhubs, congrArg Fw.booted hfw⟩

end

end Sys2Proof.Machine

/-- Settles O48: what a reset clears and keeps is read part by part of the tables; the boot after a release leaves what the reset
logic set, and the tests after it reach only the vault and the vents. -/
theorem levelsKeepAndClearAsTheTableSays : Obligations.LevelsKeepAndClearAsTheTableSays := by
  unfold Obligations.LevelsKeepAndClearAsTheTableSays
  refine ⟨?levels, ?level3, ?level45, ?pwrOkFall, ?railFault, ?powerDown, ?powerOn, ?ember, ?release, ?thermtrip, ?shadow, ?claim⟩
  case levels =>
    intro s level _
    refine ⟨rfl, rfl, rfl, rfl, rfl, rfl, cleared_wing_disabled s level, cleared_half_free s level, fun e he => ?_,
      cleared_hub_booting s level⟩
    rw [cleared_ext s level he]
    exact extentReset_free s e _
  case level3 =>
    intro s hwings hunits
    refine ⟨rfl, rfl, rfl, rfl, rfl, rfl, fun w => ?_, fun u => ?_, fun e => cleared3_clearPending s, rfl, rfl,
      fun d => cleared3_doc s⟩
    · rw [cleared3_wing s w hwings]
      exact ⟨rfl, rfl, rfl⟩
    · rw [cleared3_unit s u hunits]
      exact ⟨rfl, rfl⟩
  case level45 =>
    rintro s level (rfl | rfl) <;>
      exact ⟨rfl, rfl, rfl, rfl, rfl, rfl, fun _ => ⟨rfl, rfl⟩, fun _ => rfl, rfl, rfl⟩
  case pwrOkFall =>
    intro s
    rfl
  case railFault =>
    intro s hpwr
    exact congrArg Host.Outcome.next (if_pos hpwr)
  case powerDown =>
    intro s l
    exact ⟨rfl, rfl, rfl, rfl, rfl, rfl⟩
  case powerOn =>
    intro straps s hpwr hrail
    exact ⟨_, congrArg Host.Outcome.next (if_neg (by simp [hpwr, hrail])), rfl, rfl, rfl, rfl, rfl, Tbl.get_set_same .., rfl, rfl⟩
  case ember =>
    intro s
    exact ⟨_, rfl, rfl, rfl, rfl, rfl, fun _ => rfl, fun _ => rfl, rfl, rfl, rfl, rfl, rfl⟩
  case release =>
    intro imageOk archiveOk bad s l hl _ hpwr hrail htrip
    obtain ⟨hlevel, hplinth, hboot, hunits, hcount⟩ := releaseCore_sets _
      (resetRelease_bootView (imageOk := imageOk) (archiveOk := archiveOk) (bad := bad) hl hpwr hrail htrip)
    exact ⟨_, rfl, hlevel, congrArg Plinth.term hplinth, congrArg Plinth.beat hplinth, congrArg Plinth.holder hplinth, hboot, hunits,
      hcount⟩
  case thermtrip =>
    intro imageOk archiveOk bad s htrip
    exact congrArg Host.Outcome.next (resetRelease_thermtrip s imageOk archiveOk bad htrip)
  case shadow =>
    intro h s halive hauth hmains hmode hholder
    have hboot := bootComplete_pass s halive hauth hmains
    rw [if_neg (fun hc => hholder hc.1.symm)] at hboot
    obtain ⟨hshadow, hready, hvlt⟩ := bootHub_shadow s hholder
    rw [bootTested_vlt s h hmode] at hvlt
    exact ⟨_, congrArg Host.Outcome.next hboot, hshadow, hready, congrArg Vlt.mode hvlt, congrArg Vlt.selftestFail hvlt,
      congrArg Vlt.lastTest hvlt⟩
  case claim =>
    intro s halive hauth hmains
    have hboot := bootComplete_pass s halive hauth hmains
    obtain ⟨hclaim, hready, hfw⟩ := bootHub_claim s rfl
    cases hbooted : s.fw.booted with
    | true =>
      rw [if_neg (by simp [hbooted])] at hboot
      exact ⟨_, congrArg Host.Outcome.next hboot, hclaim, hready, (congrArg Fw.booted hfw).trans hbooted⟩
    | false =>
      obtain ⟨hhubs, hnoted⟩ := bootNoted_keeps s s.plinth.holder
      rw [if_pos (by simp [hbooted])] at hboot
      rw [State.hub, ← hhubs] at hclaim hready
      exact ⟨_, congrArg Host.Outcome.next hboot, hclaim, hready, hnoted⟩
end

section
/-! PROOF. Little-endian fields of byte strings: where a field of a string of parts lies, and that a number written is read
back (00 R7). -/

open Sys2Proof Sys2Proof.Machine

namespace Sys2Proof.Machine

@[simp] theorem length_leBytes (n v : Nat) : (leBytes n v).length = n := by
  induction n generalizing v with
  | zero => rfl
  | succ n ih => simp [leBytes, ih]

@[simp] theorem fromLE_nil : fromLE [] = 0 := rfl

@[simp] theorem fromLE_cons (x : Byte) (b : Bytes) : fromLE (x :: b) = x.toNat + 256 * fromLE b := rfl

theorem fromLE_leBytes (n v : Nat) : fromLE (leBytes n v) = v % 256 ^ n := by
  induction n generalizing v with
  | zero => simp [leBytes, Nat.mod_one]
  | succ n ih => simp [leBytes, ih, Nat.pow_succ', Nat.mod_mul]

section
variable {a b : Bytes} {off n : Nat}

theorem slice_append_left (h : off + n ≤ a.length) : slice (a ++ b) off n = slice a off n := by
  simp [slice, List.drop_append_of_le_length (show off ≤ a.length by omega),
    List.take_append_of_le_length (show n ≤ (a.drop off).length by simp; omega)]

theorem slice_append_right (h : a.length ≤ off) : slice (a ++ b) off n = slice b (off - a.length) n := by
  simp [slice, List.drop_append, List.drop_eq_nil_of_le h]

theorem slice_zero_length (h : n = a.length) : slice a 0 n = a := by
  simp [slice, h]

/-- A field that lies in the left part. -/
theorem leAt_append_left (h : off + n ≤ a.length) : leAt (a ++ b) off n = leAt a off n :=
  congrArg fromLE (slice_append_left h)

/-- A field that lies in the right part. -/
theorem leAt_append_right (h : a.length ≤ off) : leAt (a ++ b) off n = leAt b (off - a.length) n :=
  congrArg fromLE (slice_append_right h)

end

theorem leAt_leBytes (n v : Nat) : leAt (leBytes n v) 0 n = v % 256 ^ n := by
  rw [leAt, slice_zero_length (length_leBytes n v).symm, fromLE_leBytes]

@[simp] theorem leAt_cons_zero (x : Byte) (b : Bytes) : leAt (x :: b) 0 1 = x.toNat := by
  simp [leAt, slice]

@[simp] theorem leAt_cons_succ (x : Byte) (b : Bytes) (off n : Nat) : leAt (x :: b) (off + 1) n = leAt b off n := rfl

/-- A number that fits its field is read back. -/
theorem leAt_leBytes_of_lt {n v : Nat} (h : v < 256 ^ n) : leAt (leBytes n v) 0 n = v := by
  rw [leAt_leBytes, Nat.mod_eq_of_lt h]

/-- A word in a field that is wide enough is read back. -/
theorem leAt_leBytes_toNat {w n : Nat} (h : w ≤ 8 * n) (x : BitVec w) : leAt (leBytes n x.toNat) 0 n = x.toNat := by
  refine leAt_leBytes_of_lt (x.isLt.trans_le ?_)
  rw [show 256 = 2 ^ 8 by rfl, ← pow_mul]
  exact Nat.pow_le_pow_right (by decide) h

end Sys2Proof.Machine
end

section
/-! PROOF. The mailbox (03 R82 to R84): what the operation that answers a command does and leaves, what MBX_GO and accesses to
MBX do while a command runs, and O6 and O7 from them. -/

open Sys2Proof Sys2Proof.Machine

namespace Sys2Proof.Machine

/-! ### The operation that answers a command -/

section
variable (s : State)

/-- An interrupt changes the pending bits, the outbox or the writes that the host port holds (14 R444). -/
theorem msixSend_frame (fn : Fn) (e : Msix) : msixSend s fn e =
    { s with out := (msixSend s fn e).out, pcie := { s.pcie with held := (msixSend s fn e).pcie.held } } := by
  unfold msixSend
  split <;> rfl

@[simp] theorem msixSend_msix (fn : Fn) (e : Msix) : (msixSend s fn e).msix = s.msix := by
  rw [msixSend_frame]

theorem msixRaise_frame (fn : Fn) (vec : Nat) : msixRaise s fn vec =
    { s with
      msix := (msixRaise s fn vec).msix, out := (msixRaise s fn vec).out,
      pcie := { s.pcie with held := (msixRaise s fn vec).pcie.held } } := by
  simp only [msixRaise]
  split
  · rfl
  split
  · rfl
  · rw [msixSend_msix]
    exact msixSend_frame s fn _

@[simp] theorem msixRaise_mbox (fn : Fn) (vec k : Nat) : (msixRaise s fn vec).mbox k = s.mbox k := by
  rw [msixRaise_frame]
  rfl

/-- The mailbox of a command that is answered. -/
def Mbx.answered (m : Mbx) (rsp : Bytes) (code : Byte) : Mbx :=
  { m with rsp := rsp, result := code, done := true, run := none }

variable (c : Cmd) (code : Byte) (p : Bytes)

theorem scpFinish_eq : scpFinish s c code p =
    let s1 := s.setMbox (mbxKey c.fn c.hub) ((s.mbox (mbxKey c.fn c.hub)).answered (scpResponse s c code p) code)
    if (s.mbox (mbxKey c.fn c.hub)).irqEn then msixRaise s1 c.fn (s.fnSt c.fn).mbxVector.toNat else s1 := rfl

theorem scpFinish_mbox (k : Nat) : (scpFinish s c code p).mbox k =
    if k = mbxKey c.fn c.hub then (s.mbox k).answered (scpResponse s c code p) code else s.mbox k := by
  have hset : (s.setMbox (mbxKey c.fn c.hub)
      ((s.mbox (mbxKey c.fn c.hub)).answered (scpResponse s c code p) code)).mbox k =
      if k = mbxKey c.fn c.hub then (s.mbox k).answered (scpResponse s c code p) code else s.mbox k := by
    rw [State.mbox_setMbox]
    split_ifs with hk
    · rw [hk]
    · rfl
  rw [scpFinish_eq]
  dsimp only
  by_cases hirq : (s.mbox (mbxKey c.fn c.hub)).irqEn = true
  · rw [if_pos hirq, msixRaise_mbox, hset]
  · rw [if_neg hirq, hset]

theorem scpFinish_frame : scpFinish s c code p =
    { s with
      mbx := (scpFinish s c code p).mbx, msix := (scpFinish s c code p).msix, out := (scpFinish s c code p).out,
      pcie := { s.pcie with held := (scpFinish s c code p).pcie.held } } := by
  rw [scpFinish_eq]
  dsimp only
  split_ifs
  · conv_lhs => rw [msixRaise_frame]
    conv_rhs => rw [msixRaise_frame]
    rfl
  · rfl

end

/-! ### The response header (03 R84) -/

section
variable (s : State) (c : Cmd) (code : Byte) (p : Bytes)

/-- The part of a response before its payload. -/
def scpHeader (n : Nat) : Bytes :=
  leBytes 2 c.op ++ [1#8, c.minor] ++ leBytes 4 c.tag.toNat ++ leBytes 2 n ++
  [code, BitVec.ofNat 8 c.hub] ++ leBytes 4 (s.hub c.hub).authTerm.toNat ++ leBytes 8 s.now ++
  leBytes 2 0x0100 ++ leBytes 2 0x0102 ++
  [if code = rBUSY_REDIRECT then BitVec.ofNat 8 (s.hub c.hub).authHolder else 0xFF#8] ++ List.replicate 3 0#8

theorem scpResponse_eq : scpResponse s c code p = scpHeader s c code p.length ++ p := rfl

@[simp] theorem length_scpHeader (n : Nat) : (scpHeader s c code n).length = 32 := by simp [scpHeader]

theorem leAt_scpResponse {off n : Nat} (h : off + n ≤ 32) :
    leAt (scpResponse s c code p) off n = leAt (scpHeader s c code p.length) off n := by
  rw [scpResponse_eq, leAt_append_left (by simpa using h)]

end

/-! ### Accesses to the mailbox while a command runs (03 R82) -/

section
variable {s : State} {fn : Fn} {hub : Hub}

/-- The command that MBX_CMD holds (03 R83). -/
def mbxCmd (s : State) (fn : Fn) (hub : Hub) : Cmd :=
  let m := (s.mbox (mbxKey fn hub)).cmd
  sentCmd s (m.le 0 2) fn hub (BitVec.ofNat 32 (m.le 4 4)) (BitVec.ofNat 8 (m.le 10 1)) (m.read 32 (min (m.le 8 2) 4064))

/-- MBX_GO submits the command that MBX_CMD holds, under what the header says of its version and length. -/
theorem exec_mbxGo : exec (.mbxGo fn hub) s =
    let m := (s.mbox (mbxKey fn hub)).cmd
    .next (scpSubmitThen s (mbxCmd s fn hub) (m.le 2 1) (m.le 3 1) (!allZero (m.read 11 21)) (m.le 8 2)
      (scpHandler (m.le 0 2)) (scpAfter (m.le 0 2))) := rfl

/-- A command submitted to an open window whose mailbox is busy sets COLLIDE alone. -/
theorem scpSubmitThen_collides {c : Cmd} (hopen : windowOpen s c.fn c.hub = true) (hrun : (s.mbox (mbxKey c.fn c.hub)).run ≠ none)
    (major minor : Nat) (reserved : Bool) (length : Nat) (h : Handler) (after : State → Cmd → State) :
    scpSubmitThen s c major minor reserved length h after =
      s.setMbox (mbxKey c.fn c.hub) { s.mbox (mbxKey c.fn c.hub) with collide := true } := by
  have hsome : (s.mbox (mbxKey c.fn c.hub)).run.isSome = true := Option.isSome_iff_ne_none.mpr hrun
  simp [scpSubmitThen, scpAccepted, scpSubmit, hopen, hsome, hrun]

/-- The window of a hub in the mailbox block. -/
theorem mbxWindow_hub (hub : Hub) {i : Nat} (hi : i < 0x8000) : Fin.ofNat 2 ((0x8000 * hub.val + i) / 0x8000) = hub := by
  apply Fin.ext
  simp only [Fin.ofNat]
  omega

theorem sees_mbx (s : State) (fn : Fn) {o : Nat} (ho : o < 0x10000) : sees s fn (0x10000 + o) = true := by
  have hblock : (0x10000 + o) / 0x20000 = 0 := by omega
  simp [sees, hblock]

/-- A write to MBX goes to the function's window. -/
theorem registerWrite_mbx {o v : Nat} {tee : Bool} (ho : o < 0x10000) (hheld : portHeld s fn = false)
    (hgate : bar0Gate s fn (0x10000 + o) false tee = .pass) :
    registerWrite s fn (0x10000 + o) false v tee = mbxPut s fn o (v % 2 ^ 32) := by
  have hblock : (0x10000 + o) / 0x20000 = 0 := by omega
  simp [registerWrite, hheld, hgate, bar0Write, sees_mbx s fn ho, bar0Put, hblock]

theorem bar0Word_mbx {o : Nat} (ho : o < 0x10000) : bar0Word s fn (0x10000 + o) = .ok (mbxWord s fn o) := by
  have hblock : (0x10000 + o) / 0x20000 = 0 := by omega
  simp [bar0Word, sees_mbx s fn ho, hblock]

/-- MBX_CMD of a busy mailbox drops what is written to it. -/
theorem mbxPut_cmd_collides {i : Nat} (v : Nat) (hreach : hubReach s hub = true) (hi : i < 0x1000)
    (hrun : (s.mbox (mbxKey fn hub)).run ≠ none) :
    mbxPut s fn (0x8000 * hub.val + (0x1000 + i)) v =
      s.setMbox (mbxKey fn hub) { s.mbox (mbxKey fn hub) with collide := true } := by
  have hoff : (0x8000 * hub.val + (0x1000 + i)) % 0x8000 = 0x1000 + i := by omega
  have hsome : (s.mbox (mbxKey fn hub)).run.isSome = true := Option.isSome_iff_ne_none.mpr hrun
  have hcmd : 0x1000 ≤ 0x1000 + i ∧ 0x1000 + i < 0x2000 := by omega
  simp only [mbxPut, mbxWindow_hub hub (show 0x1000 + i < 0x8000 by omega), hoff, hreach, if_pos hcmd]
  simp [hsome]

/-- MBX_RSP reads as the response that stands there. -/
theorem mbxWord_rsp {i : Nat} (hreach : hubReach s hub = true) (hi : i < 0x1000) :
    mbxWord s fn (0x8000 * hub.val + (0x2000 + i)) = leAt (s.mbox (mbxKey fn hub)).rsp i 4 := by
  have hoff : (0x8000 * hub.val + (0x2000 + i)) % 0x8000 = 0x2000 + i := by omega
  have hcmd : ¬(0x1000 ≤ 0x2000 + i ∧ 0x2000 + i < 0x2000) := by omega
  have hrsp : 0x2000 ≤ 0x2000 + i ∧ 0x2000 + i < 0x3000 := by omega
  simp only [mbxWord, mbxWindow_hub hub (show 0x2000 + i < 0x8000 by omega), hoff, hreach, if_neg hcmd, if_pos hrsp]
  simp

end

end Sys2Proof.Machine

/-- Settles O6: MBX_GO and MBX_CMD of a busy mailbox collide, MBX_RSP stands, and the answer is one update of the mailbox. -/
theorem oneCommandPerWindow : Obligations.OneCommandPerWindow := by
  unfold Obligations.OneCommandPerWindow
  refine ⟨?go, ?write, ?read, ?answer⟩
  case go =>
    intro fn hub s hopen hrun
    exact exec_mbxGo.trans (congrArg Host.Outcome.next (scpSubmitThen_collides (c := mbxCmd s fn hub) hopen hrun ..))
  case write =>
    intro fn hub i v s hgate hheld hreach hi hrun
    have hoff : (BitVec.ofNat 24 (0x10000 + 0x8000 * hub.val + 0x1000 + i)).toNat =
        0x10000 + (0x8000 * hub.val + (0x1000 + i)) := by
      rw [BitVec.toNat_ofNat]
      omega
    rw [show 0x10000 + 0x8000 * hub.val + 0x1000 + i = 0x10000 + (0x8000 * hub.val + (0x1000 + i)) by omega] at hgate
    refine congrArg Host.Outcome.next ?_
    rw [hoff, registerWrite_mbx (by omega) hheld hgate, mbxPut_cmd_collides _ hreach hi hrun]
  case read =>
    intro fn hub i s hgate hreach hi _
    have hoff : (BitVec.ofNat 24 (0x10000 + 0x8000 * hub.val + 0x2000 + i)).toNat =
        0x10000 + (0x8000 * hub.val + (0x2000 + i)) := by
      rw [BitVec.toNat_ofNat]
      omega
    rw [show 0x10000 + 0x8000 * hub.val + 0x2000 + i = 0x10000 + (0x8000 * hub.val + (0x2000 + i)) by omega] at hgate
    refine congrArg Host.Outcome.next ?_
    rw [hoff, bar0Read_word hgate (bar0Word_mbx (by omega)), mbxWord_rsp hreach hi]
  case answer =>
    intro c code p s
    rw [scpFinish_mbox, if_pos rfl]
    exact ⟨rfl, rfl, rfl, rfl⟩

/-- Settles O7: the frame of `scpFinish`, and the response field by field. -/
theorem anAnswerTouchesOnlyItsMailbox : Obligations.AnAnswerTouchesOnlyItsMailbox := by
  unfold Obligations.AnAnswerTouchesOnlyItsMailbox
  refine ⟨?frame, ?header⟩
  case frame =>
    intro c code p s
    exact ⟨scpFinish_frame s c code p, fun k hk => by rw [scpFinish_mbox, if_neg hk]⟩
  case header =>
    intro c code p s hop hlen
    have hfield {off n : Nat} (h : off + n ≤ 32) := leAt_scpResponse s c code p h
    have hhub : c.hub.val < 256 := by omega
    have hlength : p.length < 65536 := by omega
    refine ⟨?op, ?major, ?minor, ?tag, ?length, ?result, ?hub, ?term, ?time, ?salwic, ?highest, ?redirect, ?payload⟩
    case payload => rw [scpResponse_eq, List.drop_left' (length_scpHeader ..)]
    all_goals
      simp +contextual [hfield, scpHeader, leAt_append_left, leAt_append_right, leAt_leBytes_of_lt, leAt_leBytes_toNat, hop,
        hlength, hhub]

end

section
/-! PROOF. MBX_GO and the rows of the command set (03 R83, R86, R87, R92), and O8 from them. -/

open Sys2Proof Sys2Proof.Machine

namespace Sys2Proof.Machine

/-! ### The meaning of a row -/

section
variable {op : Nat} {fn : Fn} {hub : Hub} {tag : W32} {wing : Byte} {p : Bytes} {s : State}

/-- A row with nothing that follows its response. -/
theorem scpExec_eq_then (h : Handler) : scpExec op h fn hub tag wing p s = scpExecThen op h (fun s _ => s) fn hub tag wing p s := by
  simp [scpExec, scpExecThen, scpSubmitThen]

/-- Each row runs the handler of its opcode, and what follows the response: four opcodes have such a part. -/
theorem exec_scpRow {i : Instr} (h : isScpRow op fn hub tag wing p i) :
    exec i s = scpExecThen op (scpHandler op) (scpAfter op) fn hub tag wing p s := by
  unfold isScpRow at h
  split at h
  case h_44 => exact h.elim
  case h_17 | h_19 | h_28 | h_42 => subst h; rfl
  all_goals
    subst h
    exact scpExec_eq_then _

end

/-! ### What MBX_GO submits -/

section
variable {op : Nat} {fn : Fn} {hub : Hub} {tag : W32} {wing : Byte} {p : Bytes} {s : State}

theorem mbxCmd_of_headerIs (hlen : p.length ≤ 4064) (h : headerIs s fn hub op tag wing p) :
    mbxCmd s fn hub = sentCmd s op fn hub tag wing p := by
  obtain ⟨hop, -, -, htag, hlength, hwing, -, hpayload⟩ := h
  simp [mbxCmd, hop, htag, hlength, hwing, Nat.min_eq_left hlen, hpayload]

/-- MBX_GO over the header of a row submits the row's command. -/
theorem exec_mbxGo_of_headerIs (hlen : p.length ≤ 4064) (h : headerIs s fn hub op tag wing p) :
    exec (.mbxGo fn hub) s = scpExecThen op (scpHandler op) (scpAfter op) fn hub tag wing p s := by
  have hcmd := mbxCmd_of_headerIs hlen h
  obtain ⟨hop, hmajor, hminor, -, hlength, -, hzero, -⟩ := h
  rw [exec_mbxGo]
  dsimp only
  rw [hcmd, hop, hmajor, hminor, hlength, hzero]
  rfl

/-- A command of no row that passes checks 1 to 3 fails check 4. -/
theorem scpChecks_unknown {c : Cmd} {major minor length : Nat} {reserved : Bool} (hauth : (s.hub c.hub).auth = .holder)
    (hmajor : major = 1) (hminor : minor = c.minor.toNat) (hrow : scpRow c.op c.minor.toNat = none) :
    scpChecks s c major minor reserved length = some (4, rUNKNOWN_COMMAND) := by
  simp [scpChecks, firstFailAt, List.zipIdx_cons, hauth, hmajor, hminor, hrow]

/-- A command refused by one of checks 1 to 10, with what would have followed its response. -/
theorem scpSubmitThen_refused {c : Cmd} {major minor length : Nat} {reserved : Bool} {f : Nat × Byte}
    (hopen : windowOpen s c.fn c.hub = true) (hrun : (s.mbox (mbxKey c.fn c.hub)).run = none) (hmoving : s.pcie.moving = false)
    (hcurrent : superseded s c = false) (hfail : scpChecks s c major minor reserved length = some f)
    (h : Handler) (after : State → Cmd → State) :
    scpSubmitThen s c major minor reserved length h after = scpFinish (scpRefusal s c f.1) c f.2 [] := by
  simp [scpSubmitThen, scpAccepted, scpSubmit, hopen, hrun, hmoving, hcurrent, hfail]

end

end Sys2Proof.Machine

/-- Settles O8: MBX_GO and the row both run the row's handler; without a row, check 4 answers. -/
theorem mailboxGoRunsTheNamedRow : Obligations.MailboxGoRunsTheNamedRow := by
  unfold Obligations.MailboxGoRunsTheNamedRow
  refine ⟨?row, ?unknown⟩
  case row =>
    intro op fn hub tag wing p i s hlen hheader hrow
    rw [exec_mbxGo_of_headerIs hlen hheader, exec_scpRow hrow]
  case unknown =>
    intro fn hub s hopen hrun hmoving hauth hcurrent hheader hrow
    obtain ⟨-, hmajor, hminor, -⟩ := hheader
    have hcurrent' : superseded s (mbxCmd s fn hub) = false := by
      simp [superseded, mbxCmd, sentCmd, hcurrent]
    have hfail := scpChecks_unknown (c := mbxCmd s fn hub) (length := (s.mbox (mbxKey fn hub)).cmd.le 8 2)
      (reserved := !allZero ((s.mbox (mbxKey fn hub)).cmd.read 11 21)) hauth hmajor hminor hrow
    exact exec_mbxGo.trans (congrArg Host.Outcome.next
      (scpSubmitThen_refused (c := mbxCmd s fn hub) hopen hrun hmoving hcurrent' hfail _ _))

end

section
/-! PROOF. HELLO, AUTH_QUERY, AUTH_HANDOVER and a command at its class bound (03 R85, R90, R106, R107), and O9 from them. -/

open Sys2Proof Sys2Proof.Machine

namespace Sys2Proof.Machine

section
variable {s : State} {c : Cmd}

theorem noWing_passes (hw : c.wing = 0xFF#8) : noWing c = (false, rRESERVED_VALUE) := by
  simp [noWing, hw]

/-- The wing of a function, as HELLO reports it (03 R85). -/
def helloWing (s : State) (fn : Fn) : Byte := match s.fnWing fn with | some w => BitVec.ofNat 8 w | none => 0xFF#8

/-- The age of the last heartbeat, as AUTH_QUERY reports it (03 R107). -/
def beatAge (s : State) (h : Hub) : Nat := match (s.hub h).lastBeat with | some t => s.now - t | none => 2 ^ 64 - 1

theorem hello_answers (hw : c.wing = 0xFF#8) (hz : zeroAt c.payload 3 1 = true) (hmajor : leAt c.payload 0 1 = 1)
    (hrange : leAt c.payload 1 1 ≤ leAt c.payload 2 1) (hmin : leAt c.payload 1 1 ≤ 2) :
    hello s c =
      (s.updFnSt c.fn fun f => { f with minor := BitVec.ofNat 8 (min (leAt c.payload 2 1) 2) },
       .done rOK ([1#8, BitVec.ofNat 8 (min (leAt c.payload 2 1) 2)] ++ leBytes 2 c.fn ++
         [helloWing s c.fn] ++ List.replicate 3 0#8)) := by
  unfold hello
  rw [checked_pass]
  · rfl
  · simp [firstFail_cons, noWing_passes hw, hz, hmajor, hrange, hmin]

/-- What AUTH_QUERY answers (03 R107). -/
def authReport (s : State) (h : Hub) : Bytes :=
  leBytes 4 (s.hub h).authTerm.toNat ++
    [BitVec.ofNat 8 (s.hub h).authHolder,
     (if 0 ≠ h ∧ hubCut s 0 then 0xFF#8 else BitVec.ofNat 8 (authCode (s.hub 0).auth)),
     (if 1 ≠ h ∧ hubCut s 1 then 0xFF#8 else BitVec.ofNat 8 (authCode (s.hub 1).auth)), BitVec.ofNat 8 h] ++
    leBytes 8 (beatAge s h) ++ leBytes 2 (s.hub h).authBeat.toNat ++ List.replicate 14 0#8

theorem authQuery_answers (hw : c.wing = 0xFF#8) : authQuery s c = (s, .done rOK (authReport s c.hub)) := by
  unfold authQuery
  rw [checked_pass]
  · rfl
  · simp [firstFail_cons, noWing_passes hw]

/-- The hub that answers an AUTH_HANDOVER, after its claim for the other hub: SHADOW, with what the plinth now says. -/
def handedOver (s1 : State) (c : Cmd) : State :=
  plinthRead ((scpCommit s1 c).updHub c.hub fun x => { x with auth := .shadow, slots := 0, beatRead := none }) c.hub

theorem authHandover_claims {s1 : State} (hw : c.wing = 0xFF#8) (hcut : hubCut s (otherHub c.hub) = false)
    (hfailed : (s.hub (otherHub c.hub)).auth ≠ .failed) (hbooting : (s.hub (otherHub c.hub)).auth ≠ .booting)
    (hholder : s.plinth.holder = c.hub) (hterm : s.plinth.term = (s.hub c.hub).authTerm)
    (hclaim : plinthClaim s (otherHub c.hub) = some s1) :
    authHandover s c =
      (handedOver s1 c, .done rOK (leBytes 4 (handedOver s1 c).plinth.term.toNat ++ [BitVec.ofNat 8 (otherHub c.hub)] ++
        List.replicate 3 0#8)) := by
  unfold authHandover
  rw [checked_pass]
  · rw [if_neg (by simp [hholder, hterm]), hclaim]
    rfl
  · simp [firstFail_cons, noWing_passes hw, hcut, hfailed, hbooting]

/-- A command at its class bound: what has not passed its commit point is undone. -/
theorem commandTimeout_running {fn : Fn} {hub : Hub} {r : Run} (hrun : (s.mbox (mbxKey fn hub)).run = some r) :
    commandTimeout s fn hub = zeroizePoll (alarm (runFinish (if r.committed then s else undoRun s fn hub r) fn hub rINTERNAL [])
      0x0104 0xFF (16 + hub) r.op.toNat fn 0 0) := by
  rw [commandTimeout, hrun]

end

end Sys2Proof.Machine

/-- Settles O9: the three handlers past their checks, and COMMAND_TIMEOUT of a running command. -/
theorem sessionAndAuthorityCommands : Obligations.SessionAndAuthorityCommands := by
  unfold Obligations.SessionAndAuthorityCommands
  refine ⟨?hello, ?query, ?handover, ?timeout⟩
  case hello =>
    rintro fn hub tag wing p c s rfl ha hw hz hmajor hrange hmin
    exact scpExec_done ha (hello_answers hw hz hmajor hrange hmin)
  case query =>
    rintro fn hub tag wing p c s rfl ha hw
    exact scpExec_done ha (authQuery_answers hw)
  case handover =>
    rintro fn hub tag wing p c s s1 rfl ha hw hcut hfailed hbooting hholder hterm hclaim
    exact ⟨_, scpExec_done ha (authHandover_claims hw hcut hfailed hbooting hholder hterm hclaim), _, rfl, rfl⟩
  case timeout =>
    intro fn hub r s hrun
    exact congrArg Host.Outcome.next (commandTimeout_running hrun)

end

section
/-! PROOF. The events of a hub's authority (03 R97 to R108), one lemma for each row of the table of R103, and O10 from them. -/

open Sys2Proof Sys2Proof.Machine

namespace Sys2Proof.Machine

/-! ### Reads of the plinth -/

section
variable (s : State) (h : Nat) (x : HubSt)

/-- A hub's record with what the plinth says. -/
def HubSt.reading (x : HubSt) (p : Plinth) : HubSt := { x with authTerm := p.term, authHolder := p.holder, authBeat := p.beat }

theorem plinthRead_eq : plinthRead s h = s.setHub h ((s.hub h).reading s.plinth) := rfl

theorem plinthRead_hub (k : Nat) : (plinthRead s h).hub k = if k = h then (s.hub h).reading s.plinth else s.hub k := by
  rw [plinthRead_eq, State.hub_setHub]

/-- One hub's record changes, and it reads the plinth: nothing but the records of the hubs differs. -/
theorem plinthRead_setHub_frame : plinthRead (s.setHub h x) h = { s with hubs := (plinthRead (s.setHub h x) h).hubs } := rfl

theorem plinthRead_setHub_hub (k : Nat) : (plinthRead (s.setHub h x) h).hub k = if k = h then x.reading s.plinth else s.hub k := by
  rw [plinthRead_hub, State.hub_setHub_same, State.hub_setHub]
  split_ifs <;> rfl

end

/-! ### Heartbeats (03 R102, R103) -/

section
variable {s : State} {h : Hub}

/-- The plinth counts a Beat. -/
def State.beaten (s : State) : State := { s with plinth := { s.plinth with beat := s.plinth.beat + 1 } }

/-- The holder's Beat has succeeded: it has read the plinth, and its heartbeat carries the term. -/
def beatSent (s : State) (h : Hub) : State :=
  ((plinthRead s.beaten h).updHub h fun x => { x with lastBeat := some s.now }).emit (.heartbeat h s.plinth.term)

theorem beatSent_hub (k : Nat) : (beatSent s h).hub k =
    if k = h then { (s.hub h).reading s.beaten.plinth with lastBeat := some s.now } else s.hub k := by
  refine (State.hub_setHub (plinthRead s.beaten h) h k
    { (plinthRead s.beaten h).hub h with lastBeat := some s.now }).trans ?_
  rw [plinthRead_hub, plinthRead_hub, if_pos rfl]
  split_ifs <;> rfl

theorem heartbeatTimer_beats (hauth : (s.hub h).auth = .holder) (hholder : s.plinth.holder = h)
    (hterm : s.plinth.term = (s.hub h).authTerm) (hup : s.hubLinkUp = true) : heartbeatTimer s h true = beatSent s h :=
  (if_neg (not_not_intro hauth)).trans <| (if_pos ⟨rfl, hholder, hterm⟩).trans (if_pos hup)

theorem heartbeatTimer_fences {ok : Bool} (hauth : (s.hub h).auth = .holder)
    (hfail : ok = false ∨ s.plinth.holder ≠ h ∨ s.plinth.term ≠ (s.hub h).authTerm) :
    heartbeatTimer s h ok = s.setHub h { s.hub h with auth := .fencing } := by
  have hno : ¬(ok = true ∧ s.plinth.holder = h ∧ s.plinth.term = (s.hub h).authTerm) := by
    rintro ⟨hok, hholder, hterm⟩
    simp [hok, hholder, hterm] at hfail
  simp only [heartbeatTimer, hauth, if_neg hno]
  simp

/-- A heartbeat of the current term makes a suspecting hub a shadow again. -/
theorem heartbeatReceive_current (hauth : (s.hub h).auth = .shadow ∨ (s.hub h).auth = .suspect ∨ (s.hub h).auth = .isolated) :
    heartbeatReceive s h s.plinth.term =
      plinthRead (s.setHub h { s.hub h with auth := .shadow, slots := 0, beatRead := none, lastBeat := some s.now }) h :=
  if_pos ⟨hauth, rfl⟩

theorem heartbeatSlot_counts (hauth : (s.hub h).auth = .shadow) (hslots : (s.hub h).slots < 4) (ok : Bool) :
    heartbeatSlot s h ok = s.setHub h { s.hub h with slots := (s.hub h).slots + 1 } := by
  have hfew : (s.hub h).slots + 1 < 5 := by omega
  simp only [heartbeatSlot, hauth, if_pos hfew]
  simp

/-- The fifth slot without a heartbeat: BEAT is read. -/
theorem heartbeatSlot_suspects (hauth : (s.hub h).auth = .shadow) (hslots : 4 ≤ (s.hub h).slots) (ok : Bool) :
    heartbeatSlot s h ok = if ok then
        plinthRead (s.setHub h { s.hub h with slots := 5, auth := .suspect, beatRead := some s.plinth.beat }) h
      else hubFail s h := by
  have hmany : ¬(s.hub h).slots + 1 < 5 := by omega
  cases ok <;> simp [heartbeatSlot, hauth, if_neg hmany]

/-! ### The second read of BEAT, and the Claim (03 R97, R103) -/

theorem beatConfirm_fails (hauth : (s.hub h).auth = .suspect ∨ (s.hub h).auth = .isolated) :
    beatConfirm s h false = hubFail s h := by
  rcases hauth with hauth | hauth <;> simp [beatConfirm, hauth]

theorem beatConfirm_isolates (hauth : (s.hub h).auth = .suspect) (hchanged : (s.hub h).beatRead ≠ some s.plinth.beat) :
    beatConfirm s h true =
      authAlarm (plinthRead (s.setHub h { s.hub h with auth := .isolated, beatRead := some s.plinth.beat }) h) h 6 := by
  simp [beatConfirm, hauth, hchanged]

theorem beatConfirm_stopped (hauth : (s.hub h).auth = .suspect) (hsame : (s.hub h).beatRead = some s.plinth.beat) :
    beatConfirm s h true = tryClaim s h := by
  simp [beatConfirm, hauth, hsame]

/-- The plinth no longer holds what the hub last read of it. -/
theorem tryClaim_loses (hother : s.plinth.holder ≠ (s.hub h).authHolder ∨ s.plinth.term ≠ (s.hub h).authTerm) :
    tryClaim s h = plinthRead (s.setHub h { s.hub h with auth := .shadow, slots := 0, beatRead := none }) h := by
  refine if_neg ?_
  rintro ⟨hholder, hterm⟩
  simp [hholder, hterm] at hother

theorem tryClaim_wins {t : State} (hholder : s.plinth.holder = (s.hub h).authHolder) (hterm : s.plinth.term = (s.hub h).authTerm)
    (hclaim : plinthClaim s h = some t) : tryClaim s h = t := by
  simp only [tryClaim, if_pos (And.intro hholder hterm), hclaim]

end

/-! ### What a Claim that succeeds leaves (03 R97, R103) -/

section
variable (s : State) (h : Hub)

theorem startClaim_hub (k : Nat) : (startClaim s h).hub k = if k = h then
    { s.hub h with auth := .claiming, rebuilding := true, beatRead := none, slots := 0 }.reading s.plinth else s.hub k :=
  plinthRead_setHub_hub ..

/-- Every port has yet to acknowledge the new term. -/
theorem startClaim_port_acked (k : Nat) : ((startClaim s h).port k).acked = false := by
  refine Tbl.get_of_forall (P := fun p : Port => p.acked = false) rfl (fun e he => ?_) k
  obtain ⟨e', -, rfl⟩ := List.mem_map.mp (List.mem_filter.mp he).1
  rfl

theorem startClaim_plinth : (startClaim s h).plinth = s.plinth := rfl

theorem startClaim_out : (startClaim s h).out = s.out ++ [.termAdvance h s.plinth.term] := rfl

/-- A Claim under a term that is not exhausted starts from a state whose plinth names the hub under the next term. -/
theorem plinthClaim_starts (hterm : s.plinth.term ≠ 0xFFFFFFFF) : ∃ s1, plinthClaim s h = some (startClaim s1 h) ∧
    s1.plinth = { term := s.plinth.term + 1, beat := 0, holder := h } ∧ s1.hubs = s.hubs ∧ s1.out = s.out := by
  refine ⟨_, if_neg hterm, ?_, ?_, ?_⟩
  · exact foldl_keeps State.plinth fun _ _ => rfl
  · exact foldl_keeps State.hubs fun _ _ => rfl
  · exact foldl_keeps State.out fun _ _ => rfl

end

/-! ### Fencing, and the events that a state does not list (03 R103) -/

section
variable {s : State} {h : Hub}

theorem fenceDone_fencing (hauth : (s.hub h).auth = .fencing) (ok : Bool) : fenceDone s h ok =
    if ok then plinthRead (s.setHub h { s.hub h with auth := .shadow, slots := 0, beatRead := none }) h else hubFail s h := by
  simp [fenceDone, hauth]

/-- BOOTING and FAILED are left by none of the events. -/
theorem outOfAuthority_keeps (hauth : (s.hub h).auth = .booting ∨ (s.hub h).auth = .failed) :
    (∀ ok, heartbeatTimer s h ok = s) ∧ (∀ term, heartbeatReceive s h term = s) ∧ (∀ ok, heartbeatSlot s h ok = s) ∧
    (∀ ok, beatConfirm s h ok = s) ∧ (∀ ok, fenceDone s h ok = s) := by
  rcases hauth with hauth | hauth <;>
    exact ⟨fun ok => by simp [heartbeatTimer, hauth], fun term => by simp [heartbeatReceive, hauth],
      fun ok => by simp [heartbeatSlot, hauth], fun ok => by simp [beatConfirm, hauth], fun ok => by simp [fenceDone, hauth]⟩

end

/-! ### The end of a claim (03 R103 to R105) -/

section
variable {s : State} {h : Hub}

theorem portsReady_iff : portsReady s = true ↔ ∀ p < 62, (s.port p).acked = true ∨ (s.port p).unreachable = true := by
  simp [portsReady]

/-- The hub takes authority. -/
def holderFrom (s : State) (h : Hub) : State :=
  setAlert { (s.updHub h fun x => { x with auth := .holder }) with noAuthority := false } 1 false

theorem claimEnds_ready (hports : portsReady s = true) (hdone : (s.hub h).rebuilding = false) : claimEnds s h = holderFrom s h :=
  if_pos (by simp [hports, hdone])

theorem claimEnds_waits (h' : (s.hub h).rebuilding = true ∨ portsReady s = false) : claimEnds s h = s :=
  if_neg (by rcases h' with h' | h' <;> simp [h'])

theorem holderFrom_hub (k : Nat) : (holderFrom s h).hub k = if k = h then { s.hub h with auth := .holder } else s.hub k :=
  State.hub_setHub s h k { s.hub h with auth := .holder }

theorem claimEnds_hub_other {k : Nat} (hk : k ≠ h.val) : (claimEnds s h).hub k = s.hub k := by
  unfold claimEnds
  split_ifs
  · exact (holderFrom_hub k).trans (if_neg hk)
  · rfl

theorem claimEnds_frame : claimEnds s h = { s with
    hubs := (claimEnds s h).hubs, noAuthority := (claimEnds s h).noAuthority,
    vnt := { s.vnt with alert := (claimEnds s h).vnt.alert } } := by
  unfold claimEnds
  split_ifs <;> rfl

theorem termAdvanceTimeout_half {port : Nat} (hclaim : claimingHub s = some h) (hacked : (s.port port).acked = false)
    (hreach : (s.port port).unreachable = false) (hdie : portDie port < 8) : termAdvanceTimeout s port =
      claimEnds (alarm (((s.setPort port { s.port port with unreachable := true }).updHalf (2 * portDie port) fun x =>
        { x with unavailable := true }).updHalf (2 * portDie port + 1) fun x => { x with unavailable := true })
        0x0106 0xFF (portDie port) (portDie port) port 0 0) h := by
  simp only [termAdvanceTimeout, hclaim, hacked, hreach, if_pos hdie, Bool.or_self, Bool.false_eq_true, if_false, State.updPort_eq]

theorem rebuildDone_claiming (hauth : (s.hub h).auth = .claiming) (hbuild : (s.hub h).rebuilding = true) : rebuildDone s h =
    claimEnds ((rebindRestart (endOrphans (redispatch (s.queues.foldl (fun s q => refetch s q.1) s)))).updHub h fun x =>
      { x with rebuilding := false }) h :=
  if_neg (by simp [hauth, hbuild])

end

end Sys2Proof.Machine

/-- Settles O10: one clause for each row of the table of R103, and the claim's end by `claimEnds`. -/
theorem hubAuthorityFollowsItsTable : Obligations.HubAuthorityFollowsItsTable := by
  unfold Obligations.HubAuthorityFollowsItsTable
  refine ⟨?beats, ?beatFails, ?heartbeat, ?slot, ?fifthSlot, ?changed, ?claims, ?loses, ?readFails, ?stale, ?fenced, ?outside,
    ?noAuthority, ?ack, ?unacknowledged, ?rebuilt, ?claimEnd⟩
  case beats =>
    intro h s hauth hholder hterm hup
    refine ⟨_, congrArg Host.Outcome.next (heartbeatTimer_beats hauth hholder hterm hup), rfl, ?_, ?_, fun k hk => ?_⟩
    · rw [beatSent_hub, if_pos rfl]
      exact hauth
    · rw [beatSent_hub, if_pos rfl]
      rfl
    · rw [beatSent_hub, if_neg hk]
  case beatFails =>
    intro h ok s hauth hfail
    exact congrArg Host.Outcome.next (heartbeatTimer_fences hauth hfail)
  case heartbeat =>
    rintro h term s hauth rfl
    refine ⟨_, congrArg Host.Outcome.next (heartbeatReceive_current hauth), plinthRead_setHub_frame .., ?_, ?_, ?_, fun k hk => ?_⟩
    all_goals simp [plinthRead_setHub_hub, HubSt.reading, *]
  case slot =>
    intro h s hauth hslots ok
    exact congrArg Host.Outcome.next (heartbeatSlot_counts hauth hslots ok)
  case fifthSlot =>
    intro h s hauth hslots
    refine ⟨congrArg Host.Outcome.next (heartbeatSlot_suspects hauth hslots false), _,
      congrArg Host.Outcome.next (heartbeatSlot_suspects hauth hslots true), plinthRead_setHub_frame .., ?_, ?_, fun k hk => ?_⟩
    all_goals simp [plinthRead_setHub_hub, HubSt.reading, *]
  case changed =>
    intro h s hauth hchanged
    exact congrArg Host.Outcome.next (beatConfirm_isolates hauth hchanged)
  case claims =>
    intro h s hauth hsame hholder hterm hleft
    obtain ⟨s1, hclaim, hplinth, hhubs, hout⟩ := plinthClaim_starts s h hleft
    have hhub (k : Nat) : s1.hub k = s.hub k := by rw [State.hub, hhubs, State.hub]
    refine ⟨_, congrArg Host.Outcome.next ((beatConfirm_stopped hauth hsame).trans (tryClaim_wins hholder hterm hclaim)),
      (startClaim_plinth s1 h).trans hplinth, ?_, ?_, ?_, fun k hk => ?_, startClaim_port_acked s1 h, ?_⟩
    · rw [startClaim_hub, if_pos rfl]
      rfl
    · rw [startClaim_hub, if_pos rfl]
      rfl
    · rw [startClaim_hub, if_pos rfl, hplinth]
      rfl
    · rw [startClaim_hub, if_neg hk, hhub]
    · rw [startClaim_out, hout, hplinth]
  case loses =>
    intro h s hauth hsame hother
    exact congrArg Host.Outcome.next ((beatConfirm_stopped hauth hsame).trans (tryClaim_loses hother))
  case readFails =>
    intro h s hauth
    exact congrArg Host.Outcome.next (beatConfirm_fails hauth)
  case stale =>
    intro h term s hauth hterm
    exact congrArg Host.Outcome.next (if_pos ⟨hauth, hterm⟩)
  case fenced =>
    intro h s hauth
    refine ⟨congrArg Host.Outcome.next (fenceDone_fencing hauth false), _,
      congrArg Host.Outcome.next (fenceDone_fencing hauth true), plinthRead_setHub_frame .., ?_, ?_, ?_, fun k hk => ?_⟩
    all_goals simp [plinthRead_setHub_hub, HubSt.reading, *]
  case outside =>
    intro h s hauth
    obtain ⟨htimer, hreceive, hslot, hconfirm, hfence⟩ := outOfAuthority_keeps hauth
    refine ⟨fun ok => congrArg Host.Outcome.next (htimer ok), fun term => congrArg Host.Outcome.next (hreceive term),
      fun ok => congrArg Host.Outcome.next (hslot ok), fun ok => congrArg Host.Outcome.next (hconfirm ok),
      fun term => congrArg Host.Outcome.next (if_neg ?_), fun ok => congrArg Host.Outcome.next (hfence ok)⟩
    rcases hauth with hauth | hauth <;> simp [hauth]
  case noAuthority =>
    intro s hholder hauthority
    exact congrArg Host.Outcome.next ((if_pos (by rw [hholder]; rfl)).trans (if_neg (by simp [hauthority])))
  case ack =>
    intro port h s hclaim
    show Host.Outcome.next (match claimingHub s with | some h => _ | none => s) = _
    rw [hclaim]
    rfl
  case unacknowledged =>
    intro port h s hclaim hacked hreach hdie
    exact congrArg Host.Outcome.next (termAdvanceTimeout_half hclaim hacked hreach hdie)
  case rebuilt =>
    intro h s hauth hbuild
    exact congrArg Host.Outcome.next (rebuildDone_claiming hauth hbuild)
  case claimEnd =>
    intro h s
    refine ⟨fun hports hdone => ?_, fun hwait => claimEnds_waits ?_, fun k hk => claimEnds_hub_other hk, claimEnds_frame⟩
    · rw [claimEnds_ready (portsReady_iff.mpr hports) hdone, holderFrom_hub, if_pos rfl]
      exact ⟨rfl, rfl⟩
    · refine hwait.imp id fun ⟨p, hp, hacked, hreach⟩ => ?_
      rw [Bool.eq_false_iff, ne_eq, portsReady_iff]
      intro hall
      simpa [hacked, hreach] using hall p hp

end

section
/-! PROOF. The dispatch of a request, its end, and its completion entry (03 R101, 04 R124, R131, 05 R141, R153, R159), and O13
from them. -/

open Sys2Proof Sys2Proof.Machine

namespace Sys2Proof.Machine

/-! ### Which request is dispatched, and where (04 R131) -/

section
variable {s : State} {w : Nat}

theorem requestDispatch_passes (hon : dispatches s = true) (hcurrent : holderStale s = none) :
    requestDispatch s w = retireAll (dispatchPass w (wingHeads (lapse s w) w) [] false (lapse s w)) := by
  simp only [requestDispatch, hon, hcurrent, Bool.not_true, Bool.false_eq_true, if_false]

theorem requestDispatch_stale {hub : Nat} (hon : dispatches s = true) (hstale : holderStale s = some hub) :
    requestDispatch s w = staleSend s hub recordDies := by
  simp only [requestDispatch, hon, hstale, Bool.not_true, Bool.false_eq_true, if_false]

/-- The half-cells that other admitted requests of the wing keep reserved. -/
def keptHalves (s : State) (w : Nat) (r : Req) : List Nat :=
  (s.reqs.filter fun x => x.wing.val == w && decide (x.phase = .admitted) && x.id != r.id).flatMap fun x => x.reserved.map (·.val)

/-- The first head, without a reservation, goes to the lowest free capable half-cells that no other request keeps. -/
theorem dispatchPass_unreserved {r : Req} {rest : List Req} {want : List Nat}
    (hroom : inflight s r.que < qMaxInflight (s.que r.que).run) (hfree : r.reserved = [])
    (hcap : r.needHalf ≤ (capableHalves s w r.reduced).length)
    (hwant : want = (((capableHalves s w r.reduced).filter fun h => halfFree s h).filter fun h =>
      !(keptHalves s w r).contains h).take r.needHalf)
    (hlen : want.length = r.needHalf) :
    dispatchPass w (r :: rest) [] false s = dispatchTo s r want none := by
  have hcond : ¬(r.reserved.isEmpty && decide ((capableHalves s w r.reduced).length < r.needHalf)) = true := by
    simpa [hfree] using hcap
  subst hwant
  rw [dispatchPass, if_neg (Nat.not_le.mpr hroom)]
  dsimp only
  rw [if_neg hcond, if_neg (by simp)]
  simp only [hfree, List.isEmpty_nil, if_true, List.contains_nil, Bool.not_false, Bool.and_true]
  exact if_pos hlen

end

/-! ### What a dispatch does to the ports, the docents and the half-cells (03 R101, 05 R141, R153) -/

/-- A fold establishes what one of its steps sets and every step keeps. -/
theorem foldl_establishes {α β : Type} {P : α → Prop} {f : α → β → α} {l : List β} {b : β} (hb : b ∈ l)
    (hset : ∀ a, P (f a b)) (hkeep : ∀ a b, P a → P (f a b)) (a : α) : P (l.foldl f a) := by
  induction l generalizing a with
  | nil => simp at hb
  | cons x l ih =>
    rw [List.foldl_cons]
    rcases List.mem_cons.mp hb with rfl | hb
    · exact List.foldlRecOn l f (hset a) fun t ht y _ => hkeep t y ht
    · exact ih hb _

section
variable (s : State)

theorem raiseTerms_frame (h : Nat) (dies : List Nat) : raiseTerms s h dies = { s with ports := (raiseTerms s h dies).ports } := by
  refine List.foldlRecOn _ _ (motive := fun t : State => t = { s with ports := t.ports }) rfl fun t ht p _ => ?_
  rw [ht]
  split <;> rfl

/-- The docents load the image, ranked in the order of the list. -/
def loadDocs (r : Req) (i : Image) (prio : Nat) (docs : List Nat) (s : State) : State :=
  docs.zipIdx.foldl (fun s d => s.setDoc d.1 { Docent.init with
    state := .loading, req := some r.id, rank := d.2, prio := prio, code := i.code, consts := i.consts, sched := i.sched }) s

/-- A docent that has been sent a request, and has not begun. -/
def Docent.loads (x : Docent) (r : Req) (i : Image) : Prop :=
  x.state = .loading ∧ x.req = some r.id ∧ x.code = i.code ∧ x.pc = 0

theorem loadDocs_doc (r : Req) (i : Image) (prio : Nat) {docs : List Nat} {d : Nat} (hd : d ∈ docs) :
    ((loadDocs r i prio docs s).doc d).loads r i := by
  obtain ⟨n, hn, rfl⟩ := List.mem_iff_getElem.mp hd
  have hmem : (docs[n], n) ∈ docs.zipIdx := List.mk_mem_zipIdx_iff_getElem?.mpr (by simp [hn])
  refine foldl_establishes (P := fun t : State => (t.doc docs[n]).loads r i) hmem (fun t => ?_) (fun t b ht => ?_) s
  · rw [State.doc_setDoc_same]
    exact ⟨rfl, rfl, rfl, rfl⟩
  · rw [State.doc_setDoc]
    split
    · exact ⟨rfl, rfl, rfl, rfl⟩
    · exact ht

theorem loadDocs_frame (r : Req) (i : Image) (prio : Nat) (docs : List Nat) :
    loadDocs r i prio docs s = { s with docents := (loadDocs r i prio docs s).docents } := by
  refine List.foldlRecOn _ _ (motive := fun t : State => t = { s with docents := t.docents }) rfl fun t ht d _ => ?_
  rw [ht]
  rfl

/-- The dispatch packet of a docent: the binding generation of its half-cell, and the term. -/
def dispatchPacket (s : State) (term : W32) (d : Nat) : Out := .dispatch (Fin.ofNat 40 d) (s.half (docHalf s d)).gen term

theorem dispatchPacket_raiseTerms (h : Nat) (dies : List Nat) (term : W32) :
    dispatchPacket (raiseTerms s h dies) term = dispatchPacket s term := by
  rw [raiseTerms_frame]
  rfl

theorem dispatchPacket_loadDocs (r : Req) (i : Image) (prio : Nat) (docs : List Nat) (term : W32) :
    dispatchPacket (loadDocs r i prio docs s) term = dispatchPacket s term := by
  rw [loadDocs_frame]
  rfl

/-- The dispatch packets go out, in the order of the list. -/
def sendDispatches (term : W32) (docs : List Nat) (s : State) : State := docs.foldl (fun s d => s.emit (dispatchPacket s term d)) s

theorem sendDispatches_eq (term : W32) (docs : List Nat) :
    sendDispatches term docs s = { s with out := s.out ++ docs.map (dispatchPacket s term) } := by
  unfold sendDispatches
  induction docs generalizing s with
  | nil => simp
  | cons d docs ih =>
    rw [List.foldl_cons, ih, List.map_cons, List.append_cons]
    rfl

/-- The half-cells run the request. -/
def takeHalves (id : Nat) (hs : List Nat) (s : State) : State :=
  hs.foldl (fun s h => (s.updHalf h fun x => { x with req := some id }).updCell (h / 2) fun c => { c with gate := .running }) s

theorem takeHalves_half (id : Nat) {hs : List Nat} {h : Nat} (hh : h ∈ hs) : ((takeHalves id hs s).half h).req = some id := by
  refine foldl_establishes (P := fun t : State => (t.half h).req = some id) hh (fun t => ?_) (fun t b ht => ?_) s
  · simp
  · by_cases hb : h = b <;> simp [State.half_setHalf, hb, ht]

theorem takeHalves_frame (id : Nat) (hs : List Nat) : takeHalves id hs s =
    { s with halfCells := (takeHalves id hs s).halfCells, cells := (takeHalves id hs s).cells } := by
  refine List.foldlRecOn _ _ (motive := fun t : State => t = { s with halfCells := t.halfCells, cells := t.cells }) rfl
    fun t ht h _ => ?_
  rw [ht]
  rfl

variable (r : Req) (i : Image) (prio h id : Nat) (term : W32) (dies docs hs : List Nat)

@[simp] theorem raiseTerms_out : (raiseTerms s h dies).out = s.out := by rw [raiseTerms_frame]
@[simp] theorem raiseTerms_reqs : (raiseTerms s h dies).reqs = s.reqs := by rw [raiseTerms_frame]
@[simp] theorem loadDocs_out : (loadDocs r i prio docs s).out = s.out := by rw [loadDocs_frame]
@[simp] theorem loadDocs_reqs : (loadDocs r i prio docs s).reqs = s.reqs := by rw [loadDocs_frame]
@[simp] theorem sendDispatches_out : (sendDispatches term docs s).out = s.out ++ docs.map (dispatchPacket s term) := by
  rw [sendDispatches_eq]
@[simp] theorem sendDispatches_reqs : (sendDispatches term docs s).reqs = s.reqs := by rw [sendDispatches_eq]
@[simp] theorem sendDispatches_docents : (sendDispatches term docs s).docents = s.docents := by rw [sendDispatches_eq]
@[simp] theorem takeHalves_out : (takeHalves id hs s).out = s.out := by rw [takeHalves_frame]
@[simp] theorem takeHalves_reqs : (takeHalves id hs s).reqs = s.reqs := by rw [takeHalves_frame]
@[simp] theorem takeHalves_docents : (takeHalves id hs s).docents = s.docents := by rw [takeHalves_frame]

end

/-- A request as its dispatch leaves it. -/
def Req.dispatchedTo (r : Req) (hs docs : List Nat) (term : W32) (now : Nat) : Req :=
  { r with
    phase := .running, dispatched := true, halves := hs.map (Fin.ofNat 16), docs := docs.map (Fin.ofNat 40), reserved := [],
    term := term, dispTs := now, wEnd := max r.wEnd (now + r.wcet), behind := none,
    ranOn := r.ranOn ||| maskOf 16 fun k => hs.contains k }

/-- The state in which the docents of a dispatched request load and its half-cells run it. -/
def dispatchSent (s : State) (r : Req) (i : Image) (hs : List Nat) (prio : Nat) (hub : Nat) : State :=
  let docs := chooseDocs s hs r.reduced
  let term := (s.hub hub).authTerm
  takeHalves r.id hs (sendDispatches term docs (loadDocs r i prio docs (raiseTerms s hub (dispatchDies hs))))

section
variable {s : State} {r : Req} {hs : List Nat} {i : Image} {prio hub : Nat}

theorem dispatchTo_sent (himage : storedImage s r.wing r.program r.imageId = some i)
    (haccept : portsAccept s (s.holderHub.getD 0) (dispatchDies hs) = true) : ∃ prio, dispatchTo s r hs none =
      State.updReq { dispatchSent s r i hs prio (s.holderHub.getD 0) with lastDispatch := s.now } r.id fun x =>
        x.dispatchedTo hs (chooseDocs s hs r.reduced) (s.hub (s.holderHub.getD 0)).authTerm s.now := by
  have hnow : (raiseTerms s (s.holderHub.getD 0) (dispatchDies hs)).now = s.now := by
    rw [raiseTerms_frame]
    rfl
  refine ⟨if (s.wing r.wing).lent then 0 else 2 * r.cls, ?_⟩
  simp only [dispatchTo, haccept, himage, Bool.not_true, Bool.false_eq_true, if_false]
  rw [hnow]
  rfl

theorem dispatchSent_out : (dispatchSent s r i hs prio hub).out =
    s.out ++ (chooseDocs s hs r.reduced).map (dispatchPacket s (s.hub hub).authTerm) := by
  simp [dispatchSent, dispatchPacket_loadDocs, dispatchPacket_raiseTerms]

theorem dispatchSent_reqs : (dispatchSent s r i hs prio hub).reqs = s.reqs := by
  simp [dispatchSent]

theorem dispatchSent_half {h : Nat} (hh : h ∈ hs) : ((dispatchSent s r i hs prio hub).half h).req = some r.id :=
  takeHalves_half _ r.id hh

theorem dispatchSent_doc {d : Nat} (hd : d ∈ chooseDocs s hs r.reduced) : ((dispatchSent s r i hs prio hub).doc d).loads r i := by
  rw [State.doc, dispatchSent, takeHalves_docents, sendDispatches_docents]
  exact loadDocs_doc _ r i prio hd

end

/-- A request that is there is found as its update leaves it. -/
theorem findReq_updReq {s : State} {id : Nat} {r : Req} {f : Req → Req} (hid : ∀ x, (f x).id = x.id) (h : s.findReq id = some r) :
    (s.updReq id f).findReq id = some (f r) := by
  have hr : r.id = id := by simpa using List.find?_some h
  have hkey : ((fun x : Req => x.id == id) ∘ fun x => if x.id = id then f x else x) = fun x => x.id == id := by
    funext x
    by_cases hx : x.id = id <;> simp [hx, hid]
  rw [State.findReq] at h
  simp only [State.findReq, State.updReq, List.find?_map, hkey, h, Option.map_some, hr, if_true]

/-! ### The end of a request (05 R159) -/

theorem requestEnd_ends {s : State} {req : Nat} {r : Req} (hreq : s.findReq req = some r) (hrun : r.phase = .running)
    (hended : r.ended = true) (hlaunches : (s.launches.any fun l => l.req == req) = false) (hlines : s.lineWaits = []) :
    requestEnd s req = retireAll (stopWork (finish s req rOK 0 0) req) := by
  simp only [requestEnd, hreq, hlaunches]
  exact if_neg (by simp [hrun, hended, hlines])

/-! ### The completion entry (04 R124) -/

theorem bit_zero_of_flag (p : Bool) (n : Nat) : bit (b2n p + 2 * n) 0 = p := by
  cases p <;> simp [bit, b2n]

theorem bit_succ_of_flag (p : Bool) (n i : Nat) : bit (b2n p + 2 * n) (i + 1) = bit n i := by
  have hhalf : (b2n p + 2 * n) / 2 = n := by
    cases p
    · simp [b2n]
    · simp only [b2n, if_true]
      omega
  rw [bit, Nat.pow_succ', ← Nat.div_div_eq_div_mul, hhalf, bit]

/-- The flags of a completion entry, from bit 0. -/
def cqFlags (r : Req) (phase : Bool) : Nat :=
  b2n phase + 2 * (b2n r.dup + 2 * (b2n r.epoch.isSome + 2 * (b2n r.flow.isSome + 2 * b2n (decide (r.kind = .fence)))))

theorem cqEntry_eq (r : Req) (phase : Bool) : cqEntry r phase =
    [r.result, 0x10#8] ++ leBytes 2 (cqFlags r phase) ++ leBytes 2 r.ranOn ++ leBytes 2 r.sqHead.toNat ++ leBytes 8 r.seq.toNat ++
    leBytes 8 r.admitTs ++ leBytes 8 r.startTs ++ leBytes 8 r.endTs ++ leBytes 4 (r.epoch.getD 0).toNat ++
    leBytes 4 r.faultPc.toNat ++ leBytes 8 r.userTag.toNat ++ leBytes 4 r.detail.toNat ++ List.replicate 4 0#8 := by
  have hflags : cqFlags r phase = b2n phase + 2 * b2n r.dup + 4 * b2n r.epoch.isSome + 8 * b2n r.flow.isSome +
      16 * b2n (decide (r.kind = .fence)) := by
    unfold cqFlags
    omega
  rw [hflags]
  rfl

theorem cqFlags_lt (r : Req) (phase : Bool) : cqFlags r phase < 65536 := by
  have hle (p : Bool) : b2n p ≤ 1 := by cases p <;> decide
  have h0 := hle phase
  have h1 := hle r.dup
  have h2 := hle r.epoch.isSome
  have h3 := hle r.flow.isSome
  have h4 := hle (decide (r.kind = .fence))
  unfold cqFlags
  omega

end Sys2Proof.Machine

/-- Settles O13: the dispatch by `dispatchPass_unreserved` and `dispatchTo_sent`, the end by `requestEnd_ends`, the entry field by
field. -/
theorem requestsAreDispatchedAndEnd : Obligations.RequestsAreDispatchedAndEnd := by
  unfold Obligations.RequestsAreDispatchedAndEnd
  refine ⟨?next, ?stale, ?dispatch, ?ends, ?entry⟩
  case next =>
    intro wing r rest want s hon hcurrent hheads hroom hfree hcap hwant hlen
    refine congrArg Host.Outcome.next ((requestDispatch_passes hon hcurrent).trans ?_)
    rw [hheads, dispatchPass_unreserved hroom hfree hcap hwant hlen]
  case stale =>
    intro wing hub s hon hstale
    exact congrArg Host.Outcome.next (requestDispatch_stale hon hstale)
  case dispatch =>
    intro r hs i s hreq himage haccept
    obtain ⟨prio, hsent⟩ := dispatchTo_sent himage haccept
    have hfound : State.findReq { dispatchSent s r i hs prio (s.holderHub.getD 0) with lastDispatch := s.now } r.id = some r := by
      rw [State.findReq, dispatchSent_reqs]
      exact hreq
    rw [hsent]
    refine ⟨⟨_, findReq_updReq (fun _ => rfl) hfound, rfl, rfl, rfl, rfl, rfl⟩, fun h hh => dispatchSent_half hh,
      fun d hd => dispatchSent_doc hd, dispatchSent_out⟩
  case ends =>
    intro req r s hreq hrun hended hlaunches hlines
    exact congrArg Host.Outcome.next (requestEnd_ends hreq hrun hended hlaunches hlines)
  case entry =>
    intro r ph s
    have hlt := cqFlags_lt r ph
    have hflags : leAt (cqEntry r ph) 2 2 = cqFlags r ph := by
      simp [cqEntry_eq, leAt_append_left, leAt_leBytes_of_lt, hlt]
    refine ⟨by simp [cqEntry_eq], ?result, ?version, ?phase, ?dup, ?sqHead, ?seq, ?admitTs, ?endTs, ?epoch, ?faultPc, ?userTag,
      ?detail, ?reserved⟩
    case phase =>
      rw [hflags]
      exact bit_zero_of_flag ph _
    case dup =>
      rw [hflags]
      exact (bit_succ_of_flag ph _ 0).trans (bit_zero_of_flag r.dup _)
    case reserved =>
      simp only [cqEntry_eq]
      rw [leAt_append_right (by simp)]
      simp [leAt, slice]
    all_goals simp +contextual [cqEntry_eq, leAt_append_left, leAt_append_right, leAt_leBytes_of_lt, leAt_leBytes_toNat]

end

section
/-! PROOF. The space that an allocation finds (06 R175): which granules the free runs of a wing on a stack hold, and what is taken
from them. -/

open Sys2Proof Sys2Proof.Machine

namespace Sys2Proof.Machine

/-! ### The granules of runs -/

/-- The granule lies in the run. -/
def Run2.holds (r : Run2) (g : Nat) : Prop := r.1 ≤ g ∧ g < r.1 + r.2

/-- The granule lies in one of the runs. -/
def runsHold (l : List Run2) (g : Nat) : Prop := ∃ r ∈ l, Run2.holds r g

section
variable {g : Nat}

theorem runsHold_nil : ¬runsHold [] g := by simp [runsHold]

theorem runsHold_cons {r : Run2} {l : List Run2} : runsHold (r :: l) g ↔ Run2.holds r g ∨ runsHold l g := by simp [runsHold]

theorem runsHold_append {l m : List Run2} : runsHold (l ++ m) g ↔ runsHold l g ∨ runsHold m g := by
  simp [runsHold, or_and_right, exists_or]

/-- A run without another holds the granules of the first that are not in the second. -/
theorem runsHold_runSub (f r : Run2) : runsHold (runSub f r) g ↔ Run2.holds f g ∧ ¬Run2.holds r g := by
  unfold runSub
  dsimp only
  split_ifs <;>
    simp only [runsHold_append, runsHold_cons, runsHold_nil, Run2.holds, or_false, false_or, false_iff] <;>
    omega

theorem runsHold_flatMap_runSub (l : List Run2) (r : Run2) :
    runsHold (l.flatMap fun f => runSub f r) g ↔ runsHold l g ∧ ¬Run2.holds r g := by
  induction l with
  | nil => simp [runsHold_nil]
  | cons f l ih => rw [List.flatMap_cons, runsHold_append, runsHold_runSub, ih, runsHold_cons]; tauto

/-- Runs without all of `taken`. -/
theorem runsHold_foldl_runSub (taken l : List Run2) : runsHold (taken.foldl (fun l r => l.flatMap fun f => runSub f r) l) g ↔
    runsHold l g ∧ ∀ r ∈ taken, ¬Run2.holds r g := by
  induction taken generalizing l with
  | nil => simp
  | cons r taken ih => rw [List.foldl_cons, ih, runsHold_flatMap_runSub, List.forall_mem_cons, and_assoc]

/-- Joining a run keeps every granule. -/
theorem runsHold_runJoin (l : List Run2) (r : Run2) : runsHold (runJoin l r) g ↔ runsHold l g ∨ Run2.holds r g := by
  rcases List.eq_nil_or_concat l with rfl | ⟨m, x, rfl⟩
  · simp [runJoin, runsHold]
  · simp only [runJoin, List.concat_eq_append, List.getLast?_concat, List.dropLast_concat]
    split_ifs with hjoin <;> simp only [runsHold_append, runsHold_cons, runsHold_nil, or_false]
    rw [or_assoc]
    refine or_congr Iff.rfl ?_
    simp only [Run2.holds]
    omega

theorem runsHold_foldl_runJoin {β : Type} (run : β → Run2) (bs : List β) (l : List Run2) :
    runsHold (bs.foldl (fun l b => runJoin l (run b)) l) g ↔ runsHold l g ∨ ∃ b ∈ bs, Run2.holds (run b) g := by
  induction bs generalizing l with
  | nil => simp
  | cons b bs ih => rw [List.foldl_cons, ih, runsHold_runJoin, or_assoc]; simp

end

theorem mem_runInsert {r x : Run2} {l : List Run2} : x ∈ runInsert r l ↔ x = r ∨ x ∈ l := by
  induction l with
  | nil => simp [runInsert]
  | cons y l ih =>
    rw [runInsert]
    split_ifs
    · exact List.mem_cons
    · rw [List.mem_cons, ih, List.mem_cons]
      tauto

theorem mem_foldl_runInsert {x : Run2} (rs l : List Run2) : x ∈ rs.foldl (fun l r => runInsert r l) l ↔ x ∈ rs ∨ x ∈ l := by
  induction rs generalizing l with
  | nil => simp
  | cons r rs ih =>
    rw [List.foldl_cons, ih, mem_runInsert, List.mem_cons]
    tauto

/-! ### The free runs of a wing -/

/-- The runs that the tables hold on a stack. -/
def takenRuns (s : State) (k : Nat) : List Run2 :=
  s.tables.flatMap fun x => (x.2.map fun t => (t.runs.filter fun r => r.stack == k).map fun r => (r.first, r.count)).getD []

/-- The wing's extents on a stack that a table may use. -/
def tableExtents (s : State) (w k : Nat) : List Nat := (s.wingExtents w).filter fun e => decide (e / 48 = k) && !isExt47 e

theorem freeRuns_eq (s : State) (w k : Nat) : freeRuns s w k false =
    (takenRuns s k).foldl (fun l r => l.flatMap fun f => runSub f r)
      ((tableExtents s w k).foldl (fun l e => runJoin l (e % 48 * extGranules, extGranules)) []) := by
  have htaken : takenRuns s k = s.tables.flatMap fun x => match x.2 with
      | some t => if false && (t.phase == .deleted || t.phase == .clearing) then [] else
        (t.runs.filter fun r => r.stack == k).map fun r => (r.first, r.count)
      | none => [] := List.flatMap_congr fun x _ => by cases x.2 <;> rfl
  rw [htaken]
  rfl

/-- A free granule lies in an extent of the wing on the stack, other than extent 47, and in no table's run. -/
theorem runsHold_freeRuns {s : State} {w k g : Nat} (h : runsHold (freeRuns s w k false) g) :
    (∃ e ∈ s.wingExtents w, e = 48 * k + g / 16384 ∧ isExt47 e = false) ∧
    ∀ x ∈ s.tables, ∀ t, x.2 = some t → ∀ q ∈ t.runs, q.stack = k → g < q.first ∨ q.first + q.count ≤ g := by
  rw [freeRuns_eq, runsHold_foldl_runSub, runsHold_foldl_runJoin fun e => (e % 48 * extGranules, extGranules)] at h
  obtain ⟨hnil | ⟨e, he, hg⟩, htaken⟩ := h
  · exact (runsHold_nil hnil).elim
  refine ⟨?_, fun x hx t ht q hq hstack => ?_⟩
  · obtain ⟨hwing, hown⟩ := List.mem_filter.mp he
    simp only [Bool.and_eq_true, decide_eq_true_eq, Bool.not_eq_true'] at hown
    obtain ⟨hstack, hbind⟩ := hown
    simp only [Run2.holds, extGranules] at hg
    exact ⟨e, hwing, by omega, hbind⟩
  · have hmem : (q.first, q.count) ∈ takenRuns s k := by
      refine List.mem_flatMap.mpr ⟨x, hx, ?_⟩
      rw [ht]
      exact List.mem_map.mpr ⟨q, by simp [hq, hstack], rfl⟩
    have hout := htaken _ hmem
    simp only [Run2.holds] at hout
    omega

/-! ### What is taken -/

/-- The runs taken hold `n` granules together, and each is the first part of a free run. -/
theorem takeRuns_takes {k n : Nat} {rs : List Run2} {l : List Gran} (h : takeRuns k n rs = some l) :
    (l.map (·.count)).sum = n ∧ ∀ r ∈ l, r.stack = k ∧ ∃ f ∈ rs, r.first = f.1 ∧ r.count ≤ f.2 := by
  fun_induction takeRuns k n rs generalizing l with
  | case1 rs =>
    cases h
    simp
  | case2 => simp at h
  | case3 n r rest _ hfits =>
    cases h
    simpa using Or.inl hfits
  | case4 n r rest _ hmore ih =>
    obtain ⟨l, hrest, rfl⟩ := Option.map_eq_some_iff.mp h
    obtain ⟨hsum, hruns⟩ := ih hrest
    refine ⟨by simp [hsum]; omega, List.forall_mem_cons.mpr ⟨⟨rfl, r, by simp⟩, fun x hx => ?_⟩⟩
    obtain ⟨hstack, f, hf, hpart⟩ := hruns x hx
    exact ⟨hstack, f, List.mem_cons_of_mem _ hf, hpart⟩

/-- An allocation: at most 64 runs, together as large as asked for, all of free granules (06 R175). -/
theorem allocRuns_finds {s : State} {w k n : Nat} {l : List Gran} (h : allocRuns s w k n false = some l) :
    l.length ≤ 64 ∧ (l.map (·.count)).sum = n ∧
    ∀ r ∈ l, r.stack = k ∧ ∀ g, r.first ≤ g → g < r.first + r.count → runsHold (freeRuns s w k false) g := by
  unfold allocRuns at h
  split at h
  case h_2 => simp at h
  case h_1 l' htake =>
    split_ifs at h with hlen
    cases h
    obtain ⟨hsum, hruns⟩ := takeRuns_takes htake
    refine ⟨hlen, hsum, fun r hr => ?_⟩
    obtain ⟨hstack, f, hf, hfirst, hcount⟩ := hruns r hr
    have hfree : f ∈ freeRuns s w k false := by simpa [mem_foldl_runInsert] using hf
    exact ⟨hstack, fun g hlo hhi => ⟨f, hfree, by omega, by omega⟩⟩

end Sys2Proof.Machine
end

section
/-! PROOF. CAT_TABLE_CREATE and CAT_TABLE_DELETE past their checks, and the storage of a table (06 R173, R176, R177), and O22 from
them. -/

open Sys2Proof Sys2Proof.Machine

namespace Sys2Proof.Machine

/-! ### Lists of checks -/

theorem firstFail_append (l m : List (Bool × Byte)) : firstFail (l ++ m) = (firstFail l).or (firstFail m) := by
  induction l with
  | nil => simp [firstFail]
  | cons x l ih =>
    obtain ⟨b, code⟩ := x
    rw [List.cons_append, firstFail_cons, firstFail_cons, ih]
    cases b <;> simp

theorem firstFail_append_eq_none_iff {l m : List (Bool × Byte)} :
    firstFail (l ++ m) = none ↔ firstFail l = none ∧ firstFail m = none := by
  rw [firstFail_append, Option.or_eq_none_iff]

section
variable {s : State} {c : Cmd}

theorem badWing_passes (hw : c.wing.toNat < 16) : badWing c = (false, rADDR_RANGE) := by
  simp [badWing, hw]

/-- A catalogue that is not paired, in a wing (13 R406). -/
theorem pairAccept_unpaired {w : WingIx} {k : Nat} (hmode : (s.cat (catKey w k)).mode = 0)
    (hfence : fenced s (s.cat (catKey w k)) = false) : firstFail (pairAccept s w k) = none := by
  simp [pairAccept, firstFail_cons, hmode, hfence]

/-! ### The two commands (06 R173, R176, R177) -/

theorem wingOf_lt (hw : c.wing.toNat < 16) : (Fin.ofNat 16 c.wing.toNat).val = c.wing.toNat := Nat.mod_eq_of_lt hw

theorem catTableCreate_reserves (hw : c.wing.toNat < 16) (hmode : (s.cat (catKey c.wing.toNat (tdCat c.payload))).mode = 0)
    (hfence : fenced s (s.cat (catKey c.wing.toNat (tdCat c.payload))) = false) (hlong : longFull s = false)
    (hpass : firstFail (createHead c.payload ++ createRest s (Fin.ofNat 16 c.wing.toNat) c.payload) = none) :
    catTableCreate s c =
      (tableReserve s (Fin.ofNat 16 c.wing.toNat) (freeTable s) c.payload, .pend false [freeTable s, 0, 1]) := by
  rw [← wingOf_lt hw] at hmode hfence
  obtain ⟨hhead, hrest⟩ := firstFail_append_eq_none_iff.mp hpass
  unfold catTableCreate
  dsimp only
  rw [checked_pass, if_pos hmode]
  simp only [firstFail_append_eq_none_iff, hhead, hrest, pairAccept_unpaired hmode hfence, firstFail_cons, badWing_passes hw, hlong]
  simp

theorem catTableDelete_deletes {t : Table} (hw : c.wing.toNat < 16) (hz : zeroAt c.payload 2 2 = true)
    (htable : s.table (leAt c.payload 0 2) = some t) (hmode : (s.cat (catKey c.wing.toNat t.cat)).mode = 0)
    (hfence : fenced s (s.cat (catKey c.wing.toNat t.cat)) = false) :
    catTableDelete s c = (advance (scpCommit (tableDelete (advance s 1) (leAt c.payload 0 2)) c) 1, .done rOK []) := by
  rw [← wingOf_lt hw] at hmode hfence
  unfold catTableDelete
  dsimp only
  rw [htable]
  dsimp only
  rw [checked_pass, if_pos hmode]
  simp only [firstFail_append_eq_none_iff, pairAccept_unpaired hmode hfence, firstFail_cons, badWing_passes hw, hz]
  simp

/-- The ten checks of 06 R173 answer in its order. -/
theorem createChecks_codes (w : WingIx) (d : Bytes) : (createHead d ++ createRest s w d).map (·.2) =
    [rRESERVED_FIELD_SET, rRESERVED_VALUE, rSHAPE_INVALID, rADDR_RANGE, rRES_OVERLAP, rRES_INSUFFICIENT, rRES_UNAVAILABLE,
     rRES_UNAVAILABLE, rRES_INSUFFICIENT, rBUSY] := rfl

end

/-! ### The storage of a table (06 R176) -/

section
variable (s : State) (t : Table)

theorem clearStorage_frame : clearStorage s t =
    { s with dram := (clearStorage s t).dram, lines := (clearStorage s t).lines } := by
  refine List.foldlRecOn _ _ (motive := fun x : State => x = { s with dram := x.dram, lines := x.lines }) rfl fun x hx r _ => ?_
  rw [hx]
  rfl

@[simp] theorem clearStorage_table (k : Nat) : (clearStorage s t).table k = s.table k := by
  rw [clearStorage_frame]
  rfl

@[simp] theorem creator_clearStorage (id : Nat) : creator (clearStorage s t) id = creator s id := by
  rw [clearStorage_frame]
  rfl

/-- Where the storage of a run of granules begins (06 R175). -/
def Gran.base (r : Gran) : Nat := r.stack * (48 * 2 ^ 30) + r.first * 65536

/-- The address lies in the storage of the run. -/
def Gran.holds (r : Gran) (a : Nat) : Prop := r.base ≤ a ∧ a < r.base + r.count * 65536

theorem Gran.holds_iff (r : Gran) (a : Nat) : r.holds a ↔
    r.stack * (48 * 2 ^ 30) + r.first * 65536 ≤ a ∧ a < r.stack * (48 * 2 ^ 30) + (r.first + r.count) * 65536 := by
  rw [Gran.holds, Gran.base, Nat.add_mul r.first, Nat.add_assoc]

theorem clearStorage_dram : (clearStorage s t).dram =
    t.runs.foldl (fun m r => m.clear r.base (r.count * 65536)) s.dram :=
  (List.foldl_hom State.dram fun _ _ => rfl).symm

variable {a : Nat}

theorem clearStorage_zero {r : Gran} (hr : r ∈ t.runs) (ha : r.holds a) : Tbl.get 0#8 (clearStorage s t).dram a = 0 := by
  rw [clearStorage_dram]
  refine foldl_establishes (P := fun m : Mem => Tbl.get 0#8 m a = 0) hr (fun m => ?_) (fun m x hm => ?_) _
  · exact Mem.get_clear _ _ _ _ ha.1 ha.2
  · by_cases hx : x.holds a
    · exact Mem.get_clear _ _ _ _ hx.1 hx.2
    · rw [Mem.get_clear_other _ _ _ (by unfold Gran.holds at hx; omega), hm]

theorem clearStorage_other (ha : ∀ r ∈ t.runs, ¬r.holds a) : Tbl.get 0#8 (clearStorage s t).dram a = Tbl.get 0#8 s.dram a := by
  rw [clearStorage_dram]
  refine List.foldlRecOn _ _ (motive := fun m : Mem => Tbl.get 0#8 m a = Tbl.get 0#8 s.dram a) rfl fun m hm r hr => ?_
  have hout := ha r hr
  unfold Gran.holds at hout
  rw [Mem.get_clear_other _ _ _ (by omega), hm]

end

/-! ### The events of a table's storage -/

section
variable {s : State} {id : Nat} {t : Table}

/-- The commit point of a creation whose storage is clear, in the mailbox that reserved the table. -/
theorem tableCreateClearDone_commits {x : Fn × Hub × Run} (htable : s.table id = some t) (hphase : t.phase = .creating)
    (hcreator : creator s id = some x) (hagreed : x.2.2.data.getD 2 0 = 1) : tableCreateClearDone s id =
      advance (runFinish (scpCommit ((advance (clearStorage s t) 1).setTable id (some { t with
        phase := .ready, createdTs := (advance (clearStorage s t) 1).now })) (x.2.2.cmd x.1 x.2.1)) x.1 x.2.1 rOK
        (leBytes 2 id ++ [0#8, 0#8] ++ leBytes 4 (granules t))) 1 := by
  simp only [tableCreateClearDone, htable, hphase, hcreator, hagreed, tableCommit, creator_clearStorage, clearStorage_table]
  simp

theorem tableDelete_table (htable : s.table id = some t) (k : Nat) : (tableDelete s id).table k =
    if k = id then some { t with phase := .deleted, deletedTs := s.now } else s.table k := by
  rw [tableDelete, State.updTable_eq, State.table_setTable, htable]
  rfl

theorem tableStorageClear_clears (htable : s.table id = some t) (hphase : t.phase = .deleted) (hidle : tableIdle s t = true) :
    tableStorageClear s id =
      (dropLines { s with dir := s.dir.filter fun e => e.table.val != id } t).setTable id
        (some { t with phase := .clearing, used := [] }) := by
  simp only [tableStorageClear, htable]
  exact if_neg (by simp [hphase, hidle])

theorem tableStorageClear_waits (htable : s.table id = some t) (hbusy : tableIdle s t = false) : tableStorageClear s id = s := by
  simp only [tableStorageClear, htable]
  exact if_pos (by simp [hbusy])

theorem tableStorageClearDone_frees (htable : s.table id = some t) (hphase : t.phase = .clearing) :
    tableStorageClearDone s id = (clearStorage s t).setTable id none := by
  simp only [tableStorageClearDone, htable]
  exact if_pos hphase

end

end Sys2Proof.Machine

/-- Settles O22: the two commands past their checks, the storage events, and the space of `allocRuns`. -/
theorem tablesAreCreatedAndDeleted : Obligations.TablesAreCreatedAndDeleted := by
  unfold Obligations.TablesAreCreatedAndDeleted
  refine ⟨?create, ?codes, ?created, ?delete, ?deleted, ?clear, ?waits, ?cleared, ?space⟩
  case create =>
    rintro fn hub tag wing p c s rfl ha hw hmode hfence hlong hpass
    exact scpExec_pend ha (catTableCreate_reserves hw hmode hfence hlong hpass)
  case codes => exact fun s w d => createChecks_codes w d
  case created =>
    intro table t x s htable hphase hcreator hagreed
    exact congrArg Host.Outcome.next (tableCreateClearDone_commits htable hphase hcreator hagreed)
  case delete =>
    rintro fn hub tag wing p c s rfl ha hw hz ⟨t, htable, hmode, hfence⟩
    exact scpExec_done ha (catTableDelete_deletes hw hz htable hmode hfence)
  case deleted =>
    intro s id t htable
    exact ⟨(tableDelete_table htable id).trans (if_pos rfl), fun k hk => (tableDelete_table htable k).trans (if_neg hk)⟩
  case clear =>
    intro table t s htable hphase hidle
    refine ⟨_, congrArg Host.Outcome.next (tableStorageClear_clears htable hphase hidle), rfl, State.table_setTable_same ..,
      fun k hk => ?_⟩
    exact (State.table_setTable ..).trans (if_neg hk)
  case waits =>
    intro table t s htable _ hbusy
    exact congrArg Host.Outcome.next (tableStorageClear_waits htable hbusy)
  case cleared =>
    intro table t s htable hphase
    refine ⟨_, congrArg Host.Outcome.next (tableStorageClearDone_frees htable hphase), ?frame, State.table_setTable_same ..,
      fun k hk => ?others, fun r hr a hlo hhi => ?zero, fun a ha => ?kept⟩
    case frame =>
      rw [clearStorage_frame]
      rfl
    case others => exact (State.table_setTable ..).trans ((if_neg hk).trans (clearStorage_table s t k))
    case zero => exact clearStorage_zero s t hr ((Gran.holds_iff r a).mpr ⟨hlo, hhi⟩)
    case kept =>
      refine clearStorage_other s t fun r hr hin => ?_
      obtain ⟨hlo, hhi⟩ := (Gran.holds_iff r a).mp hin
      exact (ha r hr).elim (Nat.not_lt.mpr hlo) (Nat.not_le.mpr hhi)
  case space =>
    intro s w k n l _ halloc
    obtain ⟨hlen, hsum, hruns⟩ := allocRuns_finds halloc
    refine ⟨hlen, hsum, fun r hr => ?_⟩
    obtain ⟨hstack, hfree⟩ := hruns r hr
    exact ⟨hstack, fun g hlo hhi => runsHold_freeRuns (hfree g hlo hhi)⟩

end

section
/-! PROOF. The controls of the selected queue and its doorbells (04 R112 to R117, R123, R126), and O11 from them. -/

open Sys2Proof Sys2Proof.Machine

namespace Sys2Proof.Machine

/-! ### What reaches a queue (04 R111, R112) -/

/-- A logged change is applied and recorded while the log has room and the function's rate is not spent (02 R77, R78). -/
theorem loggedChange_applies {s : State} {fn : Fn} (hlog : canLog s fn) (w off : Nat) (old new : Bytes) (apply : State → State) :
    loggedChange s fn w off old new apply = tdiTrip (logAppend (apply s) fn w 0 off 0 old new) w fn := by
  obtain ⟨hroom, hrate⟩ := hlog
  simp only [loggedChange, hroom, hrate, Bool.false_eq_true, if_false]

section
variable {s : State} {fn : Fn} (hopen : regOpen s fn = true)
include hopen

theorem queReg_reaches {q : Nat} (hslot : queSlot s fn (s.fnSt fn).queSel.toNat = .ok q) (f : Nat → State → State) :
    queReg s fn f = f q s := by
  simp only [queReg, hopen, hslot, Bool.not_true, Bool.false_eq_true, if_false]

theorem queDb_reaches {slot q : Nat} (hslot : queSlot s fn slot = .ok q) (f : Nat → State → State) :
    queDb s fn slot f = f q s := by
  simp only [queDb, hopen, hslot, Bool.not_true, Bool.false_eq_true, if_false]

theorem queDb_violates {slot : Nat} {w : Option Nat} (hslot : queSlot s fn slot = .error w) (f : Nat → State → State) :
    queDb s fn slot f = violate s w 2 := by
  simp only [queDb, hopen, hslot, Bool.not_true, Bool.false_eq_true, if_false]

theorem exec_queSelWrite_reaches {slot : QueIx} {q : Nat} (hslot : queSlot s fn slot = .ok q) :
    exec (.queSelWrite fn slot) s = .next (s.updFnSt fn fun f => { f with queSel := BitVec.ofNat 12 slot }) := by
  show Host.Outcome.next _ = _
  simp only [hopen, hslot, Bool.not_true, Bool.false_eq_true, if_false]

theorem exec_queSelWrite_violates {slot : QueIx} {w : Option Nat} (hslot : queSlot s fn slot = .error w) :
    exec (.queSelWrite fn slot) s = .next (violate s w 1) := by
  show Host.Outcome.next _ = _
  simp only [hopen, hslot, Bool.not_true, Bool.false_eq_true, if_false]

end

/-! ### Enabling (04 R113, R114) -/

section
variable {s : State} {fn : Fn} {q : Nat}

theorem queueEnable_snapshots (hopen : regOpen s fn = true) (hslot : queSlot s fn (s.fnSt fn).queSel.toNat = .ok q)
    (hstate : (s.que q).state = .disabled) (hidle : (s.que q).evaluating = false) (hlog : canLog s fn) :
    queueEnable s fn = tdiTrip (logAppend (s.updQue q fun x =>
      { x with run := x.regs, evaluating := true, disableAfter := false }) fn ((wingOfQ (s.que q)).getD 0xFF) 0 (queOff 8) 0
      (s.que q).run.bytes (s.que q).regs.bytes) ((wingOfQ (s.que q)).getD 0xFF) fn := by
  rw [queueEnable, queReg_reaches hopen hslot]
  exact (if_neg (by simp [hstate, hidle])).trans (loggedChange_applies hlog ..)

theorem queueEvalDone_fails {xlat : Bool} {n : Nat} {code : Byte} (heval : (s.que q).evaluating = true)
    (hfail : queChecks s (s.que q) xlat = some (n, code)) : queueEvalDone s q xlat =
      s.setQue q { s.que q with evaluating := false, disableAfter := false, reason := code, check := n } := by
  simp only [queueEvalDone, heval, hfail, Bool.not_true, Bool.false_eq_true, if_false]

/-- A queue as the evaluation that passes leaves it. -/
def Que.enabledFresh (x : Que) : Que :=
  { x with
    evaluating := false, reason := rOK, check := 0, tail := 0, sqHead := 0, cqTail := 0, cqHead := 0, phase := true,
    fetched := 0, lastSeq := 0, seen := false, refSeq := none, failSeq := 0, failCode := 0, failCount := 0,
    halting := false, unsig := 0, unsigAt := none, disableAfter := false,
    state := if x.disableAfter then .draining else .enabled }

theorem queueEvalDone_passes {xlat : Bool} (heval : (s.que q).evaluating = true) (hpass : queChecks s (s.que q) xlat = none) :
    queueEvalDone s q xlat = s.setQue q (s.que q).enabledFresh := by
  simp only [queueEvalDone, heval, hpass, Bool.not_true, Bool.false_eq_true, if_false]
  rfl

end

/-! ### Disabling and resuming (04 R115, R126) -/

section
variable {s : State} {fn : Fn} {q : Nat} (hopen : regOpen s fn = true)
  (hslot : queSlot s fn (s.fnSt fn).queSel.toNat = .ok q)
include hopen hslot

theorem queueDisable_drains (hidle : (s.que q).evaluating = false)
    (hstate : (s.que q).state = .enabled ∨ (s.que q).state = .halted) :
    queueDisable s fn = s.setQue q { s.que q with state := .draining } := by
  rw [queueDisable, queReg_reaches hopen hslot]
  rcases hstate with h | h <;> simp [hidle, h]

theorem queueDisable_leavesError (hidle : (s.que q).evaluating = false) (hstate : (s.que q).state = .error) :
    queueDisable s fn = fencePoll (s.setQue q { s.que q with state := .disabled }) := by
  rw [queueDisable, queReg_reaches hopen hslot]
  simp [hidle, hstate]

/-- RESUME, with the record of a queue without a failure (04 R125). -/
theorem queueResume_leavesHalted {w : WingIx} (hstate : (s.que q).state = .halted) (howner : (s.que q).owner = some w) :
    queueResume s fn = wingHostWrite
      (s.setQue q { s.que q with state := .enabled, failSeq := 0, failCode := 0, failCount := 0, halting := false }) w
      (s.que q).run.cqBase.toNat (leBytes 8 (s.que q).lastSeq.toNat ++ leBytes 8 0 ++ [0#8] ++ List.replicate 3 0#8 ++
        leBytes 4 0 ++ leBytes 8 s.now) := by
  have hwing : wingOfQ (s.que q) = some w.val := congrArg (Option.map Fin.val) howner
  rw [queueResume, queReg_reaches hopen hslot]
  simp only [hstate, hwing, ne_eq, not_true_eq_false, if_false]
  rfl

end

theorem exec_queueDrainDone_drained {s : State} {q : QueIx} (hstate : (s.que q).state = .draining)
    (hempty : (s.que q).fetched = 0) :
    exec (.queueDrainDone q) s = .next (fencePoll (s.setQue q { s.que q with state := .disabled })) :=
  congrArg Host.Outcome.next (if_pos ⟨hstate, hempty⟩)

/-! ### Doorbells (04 R116, R117, R123) -/

theorem queNow_running {x : Que} (h : x.state ≠ .disabled) : queNow x = x.run := if_neg h

/-- A queue that is ENABLED keeps its mark, whatever it holds. -/
theorem Que.keepDropped_of_enabled {x : Que} (h : x.state = .enabled) :
    (x.dbDropped || decide (x.state ≠ .enabled)) = x.dbDropped := by simp [h]

section
variable {s : State} {fn : Fn} {slot q : Nat} (hopen : regOpen s fn = true) (hslot : queSlot s fn slot = .ok q)
include hopen hslot

theorem queSqDb_setsTail {tail : W16} (hstate : (s.que q).state = .enabled) (hring : qNet (s.que q).run = false)
    (hin : tail.toNat < 2 ^ qSqLog (s.que q).run) : queSqDb s fn slot tail = s.setQue q { s.que q with tail := tail } := by
  have hnet : qNet (queNow (s.que q)) = false := by rwa [queNow_running (by simp [hstate])]
  rw [queSqDb, queDb_reaches hopen hslot]
  simp only [hnet, Que.keepDropped_of_enabled hstate, Bool.false_eq_true, if_false]
  rw [if_neg (by simp [hstate]), if_neg (by simpa [hstate] using hin)]

theorem queSqDb_outOfRing {tail : W16} (hstate : (s.que q).state = .enabled) (hring : qNet (s.que q).run = false)
    (hout : 2 ^ qSqLog (s.que q).run ≤ tail.toNat) :
    queSqDb s fn slot tail = s.setQue q { s.que q with state := .error, reason := rADDR_RANGE, check := 0 } := by
  have hnet : qNet (queNow (s.que q)) = false := by rwa [queNow_running (by simp [hstate])]
  rw [queSqDb, queDb_reaches hopen hslot]
  simp only [hnet, Que.keepDropped_of_enabled hstate, Bool.false_eq_true, if_false]
  rw [if_neg (by simp [hstate]), if_pos ⟨.inl hstate, hout⟩]

theorem queSqDb_dropped {tail : W16} (hstate : (s.que q).state = .disabled ∨ (s.que q).state = .error)
    (hring : qNet (queNow (s.que q)) = false) : queSqDb s fn slot tail = s.setQue q { s.que q with dbDropped := true } := by
  have hlate : ((s.que q).dbDropped || decide ((s.que q).state ≠ .enabled)) = true := by
    rcases hstate with h | h <;> simp [h]
  rw [queSqDb, queDb_reaches hopen hslot]
  simp only [hring, hlate, Bool.false_eq_true, if_false]
  exact if_pos hstate

theorem queSqDb_network {tail : W16} (hnet : qNet (queNow (s.que q)) = true) : queSqDb s fn slot tail = s := by
  rw [queSqDb, queDb_reaches hopen hslot]
  exact if_pos hnet

theorem queCqDb_setsHead {head : W16} (hstate : (s.que q).state ≠ .disabled) (hmode : qMode (s.que q).run ≠ 1) :
    queCqDb s fn slot head = s.setQue q { s.que q with
      cqHead := head, dbDropped := (s.que q).dbDropped || decide ((s.que q).state ≠ .enabled) } := by
  rw [queCqDb, queDb_reaches hopen hslot]
  exact if_neg (not_or.mpr ⟨hstate, hmode⟩)

theorem queCqDb_sequence {head : W16} (hmode : qMode (s.que q).run = 1) : queCqDb s fn slot head =
    s.setQue q { s.que q with dbDropped := (s.que q).dbDropped || decide ((s.que q).state ≠ .enabled) } := by
  rw [queCqDb, queDb_reaches hopen hslot]
  exact if_pos (.inr hmode)

end

end Sys2Proof.Machine

/-- Settles O11: one clause for each control and doorbell past what reaches the queue. -/
theorem queueStatesAndDoorbells : Obligations.QueueStatesAndDoorbells := by
  unfold Obligations.QueueStatesAndDoorbells
  refine ⟨?enable, ?refused, ?enabled, ?drains, ?leavesError, ?drained, ?resume, ?tail, ?outOfRing, ?dropped, ?network, ?head,
    ?sequence, ?select, ?doorbellViolates, ?selectViolates⟩
  case enable =>
    intro fn q s hopen hslot hstate hidle hlog
    exact congrArg Host.Outcome.next (queueEnable_snapshots hopen hslot hstate hidle hlog)
  case refused =>
    intro que xlat n code s heval hfail
    exact congrArg Host.Outcome.next (queueEvalDone_fails heval hfail)
  case enabled =>
    intro que xlat s heval hpass
    refine ⟨_, congrArg Host.Outcome.next (queueEvalDone_passes heval hpass), rfl, fun k hk => ?others, ?_⟩
    case others => rw [State.que_setQue, if_neg hk]
    rw [State.que_setQue_same]
    exact ⟨rfl, rfl, rfl, rfl, rfl, rfl, rfl, rfl, rfl, rfl, rfl, rfl, rfl⟩
  case drains =>
    intro fn q s hopen hslot hidle hstate
    exact congrArg Host.Outcome.next (queueDisable_drains hopen hslot hidle hstate)
  case leavesError =>
    intro fn q s hopen hslot hidle hstate
    exact congrArg Host.Outcome.next (queueDisable_leavesError hopen hslot hidle hstate)
  case drained => exact fun que s hstate hempty => exec_queueDrainDone_drained hstate hempty
  case resume =>
    intro fn q w s hopen hslot hstate howner
    exact congrArg Host.Outcome.next (queueResume_leavesHalted hopen hslot hstate howner)
  case tail =>
    intro fn slot q tail s hopen hslot hstate hring hin
    exact congrArg Host.Outcome.next (queSqDb_setsTail hopen hslot hstate hring hin)
  case outOfRing =>
    intro fn slot q tail s hopen hslot hstate hring hout
    exact congrArg Host.Outcome.next (queSqDb_outOfRing hopen hslot hstate hring hout)
  case dropped =>
    intro fn slot q tail s hopen hslot hstate hring
    exact congrArg Host.Outcome.next (queSqDb_dropped hopen hslot hstate hring)
  case network =>
    intro fn slot q tail s hopen hslot hnet
    exact congrArg Host.Outcome.next (queSqDb_network hopen hslot hnet)
  case head =>
    intro fn slot q head s hopen hslot hstate hmode
    exact congrArg Host.Outcome.next (queCqDb_setsHead hopen hslot hstate hmode)
  case sequence =>
    intro fn slot q head s hopen hslot _ hmode
    exact congrArg Host.Outcome.next (queCqDb_sequence hopen hslot hmode)
  case select => exact fun fn slot q s hopen hslot => exec_queSelWrite_reaches hopen hslot
  case doorbellViolates =>
    intro fn slot tail w s hopen hslot
    exact congrArg Host.Outcome.next (queDb_violates hopen hslot _)
  case selectViolates => exact fun fn slot w s hopen hslot => exec_queSelWrite_violates hopen hslot

end

section
/-! PROOF. The fetch of an entry, its checks, the validation of its image and its admission (04 R116 to R130, R138, 05 R145 to
R152), and O12 from them. -/

open Sys2Proof Sys2Proof.Machine

namespace Sys2Proof.Machine

/-! ### Entries (04 R116, R119, R120) -/

section
variable {s : State} {q : QueIx} {w : WingIx} {e : Bytes} {flow : Option (FlowIx × Nat)} {hm : HostMem}

theorem entryFetch_takes (howner : (s.que q).owner = some w) (htakes : takesEntries s q = true)
    (hring : qNet (s.que q).run = false) (hnew : (s.que q).sqHead ≠ (s.que q).tail)
    (hopen : peerBlocked s w ((s.que q).run.sqBase.toNat + 64 * (s.que q).sqHead.toNat) = false) :
    entryFetch s q e hm = entryArrives (s.setQue q { s.que q with
      sqHead := BitVec.ofNat 16 (((s.que q).sqHead.toNat + 1) % 2 ^ qSqLog (s.que q).run) }) q w (fitTo 64 e) none hm := by
  unfold entryFetch
  dsimp only
  split
  next hnone => simp [howner] at hnone
  next w' hsome =>
    obtain rfl := Option.some.inj (howner.symm.trans hsome)
    rw [if_neg (by simp [htakes, hring, hnew]), hopen]
    rfl

/-- An entry as it is recorded, with REF_SEQ as its checks leave it (04 R120). -/
def entryRecorded (s : State) (q : QueIx) (r : Req) (ref : Option W64) : State :=
  State.updQue { s with reqs := s.reqs ++ [r], nextReq := s.nextReq + 1 } q fun x =>
    { x with fetched := x.fetched + 1, refSeq := ref }

theorem entryRecorded_reqs {r : Req} {ref : Option W64} (x : Req) :
    x ∈ (entryRecorded s q r ref).reqs ↔ x ∈ s.reqs ∨ x = r := by
  simp [entryRecorded]

theorem entryRecorded_que {r : Req} {ref : Option W64} :
    ((entryRecorded s q r ref).que q).fetched = (s.que q).fetched + 1 ∧ ((entryRecorded s q r ref).que q).refSeq = ref := by
  rw [entryRecorded, State.updQue_eq, State.que_setQue_same]
  exact ⟨rfl, rfl⟩

theorem entryArrives_refused {n : Nat} {code : Byte} (hbad : sqeChecks s w q e = some (n, code)) :
    entryArrives s q w e flow hm = finish (entryRecorded s q (reqOf s q w e flow)
      (if n > 3 then some (sqeSeq e) else (s.que q).refSeq)) s.nextReq code 0 0 := by
  simp only [entryArrives, hbad, decide_eq_true_eq]
  rfl

theorem entryArrives_nop (hpass : sqeChecks s w q e = none) (htype : sqeType e = 2) :
    entryArrives s q w e flow hm = finish (entryRecorded s q (reqOf s q w e flow) (some (sqeSeq e))) s.nextReq rOK 0 0 := by
  have hkind : (reqOf s q w e flow).kind = .nop := by simp only [reqOf, htype]
  simp only [entryArrives, hpass, hkind]
  rfl

theorem sqeChecks_undefinedType (h : 2 < sqeType e) : sqeChecks s w q e = some (1, rRESERVED_VALUE) := by
  unfold sqeChecks
  exact (firstFailAt_cons_eq_one_iff _ _ _).mpr (decide_eq_true h)

end

/-! ### Images (05 R145, R149, R150) -/

/-- The reads got every byte (checks 1 to 3 of 05 R150). -/
def Scan.complete (x : Scan) : Prop :=
  x.missing = false ∧ x.stale = false ∧ x.absent = [] ∧ x.waits = false ∧ x.ue = false

theorem scanEnds_complete {x : Scan} (h : x.complete) (r : Req) (go : State → State) : scanEnds x r go = go x.s := by
  obtain ⟨hmissing, hstale, habsent, hwaits, hue⟩ := h
  simp only [scanEnds, hmissing, hstale, habsent, hwaits, hue, Bool.false_eq_true, if_false]

/-- The image and its schedule table, as an admission stores them. -/
def imageRead (s : State) (r : Req) (b sched : Bytes) : Image :=
  { wing := r.wing, program := r.program, imageId := phImage b, header := slice b 0 64, code := words8 b 64 (phCode b),
    consts := words8 b (64 + 8 * phCode b) (phConst b), sched := points32 sched (phPoints b), lastAdmit := s.now, slot := 0 }

/-- The decision on an image that was read. -/
def imageDecided (s : State) (r : Req) (b sched : Bytes) : State :=
  match imageChecks s r.wing b sched with
  | some f => finish s r.id f.1 f.2.1 f.2.2
  | none => storeImage s r (imageRead s r b sched)

section
variable {s : State} {id : Nat} {r : Req} {hm : HostMem} {x0 : Scan}

theorem findReq_id (h : s.findReq id = some r) : r.id = id := by
  simpa using List.find?_some h

theorem imageValidated_stored {i : Image} (hreq : s.findReq id = some r) (hphase : r.phase = .validating)
    (hfetch : fetchPaused s = false) (hx0 : x0 = scan s r.wing (.image id) hm r.program.toNat 64) (hread : x0.complete)
    (hstored : storedImage x0.s r.wing r.program (phImage x0.data) = some i) :
    imageValidated s id hm = admitReq x0.s r i := by
  have hgo : ¬(r.phase ≠ .validating ∨ fetchPaused s = true) := by simp [hphase, hfetch]
  simp only [imageValidated, hreq, hgo, if_false, ← hx0, scanEnds_complete hread, hstored]

theorem imageValidated_read {x1 x2 : Scan} (hreq : s.findReq id = some r) (hphase : r.phase = .validating)
    (hfetch : fetchPaused s = false) (hx0 : x0 = scan s r.wing (.image id) hm r.program.toNat 64) (hread0 : x0.complete)
    (hnew : storedImage x0.s r.wing r.program (phImage x0.data) = none)
    (hx1 : x1 = scan x0.s r.wing (.image id) hm r.program.toNat (64 + 8 * phCode x0.data + 8 * phConst x0.data))
    (hx2 : x2 = scan x1.s r.wing (.image id) hm (phSched x0.data) (32 * phPoints x0.data)) (hread : (x1.and x2).complete) :
    imageValidated s id hm = imageDecided x2.s r x1.data x2.data := by
  have hgo : ¬(r.phase ≠ .validating ∨ fetchPaused s = true) := by simp [hphase, hfetch]
  simp only [imageValidated, hreq, hgo, if_false, ← hx0, scanEnds_complete hread0, hnew, ← hx1, ← hx2, scanEnds_complete hread]
  rw [imageDecided, findReq_id hreq]
  rfl

end

/-! ### Admission (04 R128 to R130) -/

theorem CreditsDropped.reqs {s t : State} (h : CreditsDropped s t) : t.reqs = s.reqs := by rw [h.1]

/-- The snapshot of an APPLY changes no request. -/
@[simp] theorem takeLive_reqs (s : State) (w : Nat) : (takeLive s w).reqs = s.reqs := by
  unfold takeLive
  split
  next => exact (dupRepair_creditsDropped ..).reqs
  next => rfl

/-- A request with its image's figures. -/
def Req.imaged (r : Req) (i : Image) (now : Nat) : Req :=
  { r with
    imageId := i.imageId, needHalf := phHalf i.header, reduced := phReduced i.header, wcet := phWcet i.header,
    gapUs := phGap i.header, scratch := phScratch i.header, admitTs := now,
    overlapSafe := match i.sched.head? with | some e => bit (leAt e 6 1) 0 | none => false }

/-- A class 0 request without a catalogue, once admitted. -/
def Req.admitted0 (r : Req) : Req := { r with phase := .admitted, epoch := none, reserved := [], wEnd := 0 }

theorem findReq_admitReq {s : State} {r : Req} {i : Image} (hreq : s.findReq r.id = some r)
    (hcap : phHalf i.header ≤ (capableHalves (takeLive s r.wing) r.wing (phReduced i.header)).length) (hcat : r.cat = none)
    (hcls : r.cls = 0) :
    (admitReq s r i).findReq r.id = some (r.imaged i (takeLive s r.wing).now).admitted0 := by
  have hlive : (takeLive s r.wing).findReq r.id = some r := by
    rw [State.findReq, takeLive_reqs]
    exact hreq
  have himaged : ((takeLive s r.wing).updReq r.id fun x => x.imaged i (takeLive s r.wing).now).findReq r.id =
      some (r.imaged i (takeLive s r.wing).now) := findReq_updReq (fun _ => rfl) hlive
  simp only [admitReq, Nat.not_lt.mpr hcap, hcat, hcls, ne_eq, not_true_eq_false, false_and, Bool.false_eq_true, if_false]
  refine (findReq_updReq ?keepsId himaged).trans (congrArg some ?figures)
  case keepsId => exact fun _ => rfl
  case figures => simp [Req.imaged, Req.admitted0, hcls]

/-! ### Fences (04 R138) -/

theorem exec_fenceTimeout_ends {s : State} {id : Nat} {r : Req} (hreq : s.findReq id = some r) (hwaits : r.waitsFence = true)
    (hbound : r.timeoutUs ≠ 0) : exec (.fenceTimeout id) s = .next (finish s id rBUSY 0 1) := by
  show Host.Outcome.next _ = _
  simp only [hreq, hwaits, hbound, ne_eq, not_false_eq_true, decide_true, Bool.and_self, if_true]

end Sys2Proof.Machine

/-- Settles O12: an entry by the outcome of its checks, an image by whether it is stored, the admission by the request that it
leaves, and the fence's end. -/
theorem entriesAreFetchedAndDecided : Obligations.EntriesAreFetchedAndDecided := by
  unfold Obligations.EntriesAreFetchedAndDecided
  refine ⟨?fetched, ?checked, ?stored, ?read, ?admitted, ?fence⟩
  case fetched =>
    intro que w e hm s howner htakes hring hnew hopen
    exact congrArg Host.Outcome.next (entryFetch_takes howner htakes hring hnew hopen)
  case checked =>
    intro q w e flow hm s
    refine ⟨fun n code hbad => ?_, fun hpass htype => ?_, fun htype => sqeChecks_undefinedType htype⟩
    · exact ⟨_, entryRecorded_reqs, rfl, entryRecorded_que.1, entryArrives_refused hbad⟩
    · exact ⟨_, entryRecorded_que.2, rfl, entryArrives_nop hpass htype⟩
  case stored =>
    intro req hm r x0 i s hreq hphase hfetch hx0 hread hstored
    exact congrArg Host.Outcome.next (imageValidated_stored hreq hphase hfetch hx0 hread hstored)
  case read =>
    intro req hm r x0 x1 x2 s hreq hphase hfetch hx0 hread0 hnew hx1 hx2 hread
    refine ⟨_, congrArg Host.Outcome.next (imageValidated_read hreq hphase hfetch hx0 hread0 hnew hx1 hx2 hread),
      fun f hbad => ?_, fun hpass => ⟨imageRead x2.s r x1.data x2.data, rfl, rfl, rfl, rfl, rfl, ?_⟩⟩
    · simp only [imageDecided, hbad, findReq_id hreq]
    · simp only [imageDecided, hpass]
  case admitted =>
    intro r0 i s hreq hcap hcat hcls
    exact ⟨_, findReq_admitReq hreq hcap hcat hcls, rfl, rfl, rfl, rfl, rfl, rfl, rfl⟩
  case fence => exact fun req r s hreq hwaits hbound => exec_fenceTimeout_ends hreq hwaits hbound

end

section
/-! PROOF. The completion of a queue's oldest entry, its interrupt and its reply (04 R121 to R127, R134 to R136), and O14 from
them. -/

open Sys2Proof Sys2Proof.Machine

namespace Sys2Proof.Machine

/-! ### Completions (04 R121 to R126) -/

/-- The oldest entry of the queue has its result and its verdicts, and nothing but the ring and its translation can hold it
back. -/
structure CompletionDue (s : State) (q : QueIx) (w : WingIx) (r : Req) : Prop where
  oldest : (queReqs s q).head? = some r
  owner : (s.que q).owner = some w
  done : r.isDone = true
  alone : r.behind = none
  room : heldFull s = false
  issues : hostFnIssues s w = true
  authority : s.holderHub.isNone = false
  current : holderStale s = none
  verdicts : (s.dups.any fun d => d.req == r.id) = false

/-- A queue with `r` as its last completion. -/
def Que.completes (x : Que) (r : Req) : Que := { x with lastSeq := r.seq, seen := true }

/-- The place of the next completion in the ring of `n` slots, whose phase bit turns at its end (04 R123, R124). -/
def Que.ringAdvance (x : Que) (n : Nat) : Que :=
  { x with
    cqTail := BitVec.ofNat 16 ((x.cqTail.toNat + 1) % n)
    phase := if (x.cqTail.toNat + 1) % n = 0 then !x.phase else x.phase }

section
variable {s : State} {q : QueIx} {w : WingIx} {r : Req}

theorem completionWrite_ring (h : CompletionDue s q w r) (hmode : qMode (s.que q).run ≠ 1)
    (hready : (hostReady s w (.queue q) ((s.que q).run.cqBase.toNat + 64 * (s.que q).cqTail.toNat) 32).1 = true)
    (hspace : ((s.que q).cqTail.toNat + 1) % 2 ^ qCqLog (s.que q).run ≠ (s.que q).cqHead.toNat % 2 ^ qCqLog (s.que q).run) :
    completionWrite s q = queSignal (completed (wingHostWrite
      ((failRecord s r).setQue q (((s.que q).completes r).ringAdvance (2 ^ qCqLog (s.que q).run))) w
      ((s.que q).run.cqBase.toNat + 64 * (s.que q).cqTail.toNat) (cqEntry r (s.que q).phase))
      r (cqEntry r (s.que q).phase)) q w r.irqSup := by
  simp only [completionWrite, h.oldest, h.owner, h.done, h.alone, h.room, h.issues, h.authority, h.current, h.verdicts,
    Fin.ofNat_val_eq_self, hmode, hspace, hready, decide_false, Bool.not_false, Bool.not_true, Bool.and_false, Bool.or_false,
    Option.isSome_none, Bool.false_eq_true, if_false, Que.completes, Que.ringAdvance]

/-- The sequence record of the queue as a completion without a failure leaves it (04 R125). -/
theorem completionWrite_sequence (h : CompletionDue s q w r) (hmode : qMode (s.que q).run = 1)
    (hready : (hostReady s w (.queue q) (s.que q).run.cqBase.toNat 32).1 = true) (hok : r.result = rOK) :
    completionWrite s q = queSignal (completed (wingHostWrite ((failRecord s r).setQue q ((s.que q).completes r)) w
      (s.que q).run.cqBase.toNat (seqRecord s ((s.que q).completes r))) r (cqEntry r (s.que q).phase)) q w r.irqSup := by
  simp only [completionWrite, h.oldest, h.owner, h.done, h.alone, h.room, h.issues, h.authority, h.current, h.verdicts,
    Fin.ofNat_val_eq_self, hmode, hready, hok, ne_eq, not_true_eq_false, decide_true, decide_false, Bool.not_true,
    Bool.false_and, Bool.or_false, Option.isSome_none, Bool.false_eq_true, if_true, if_false, Que.completes]

theorem completionWrite_waits (holdest : (queReqs s q).head? = some r) (hlive : r.isDone = false) : completionWrite s q = s := by
  simp only [completionWrite, holdest]
  split
  next _ w heq _ =>
    obtain rfl := Option.some.inj heq
    exact if_pos (by simp [hlive])
  next => rfl

end

/-! ### Interrupts (04 R127) and replies (04 R134 to R136) -/

section
variable {s : State} {q : Nat}

theorem exec_irqCoalesceTimeout_raises {q : QueIx} {w : Nat} (hwing : wingOfQ (s.que q) = some w) (hunsig : (s.que q).unsig ≠ 0)
    (htime : fld (s.que q).run.coalesce.toNat 16 16 ≠ 0) : exec (.irqCoalesceTimeout q) s = .next (queIrq s q w) := by
  show Host.Outcome.next _ = _
  simp only [hwing]
  rw [if_pos ⟨hunsig, htime⟩]

theorem queIrq_raises {w : Nat} {f : Fn} (hfn : hostFnOf s w = some f) :
    queIrq s q w = msixRaise (s.updQue q fun x => { x with unsig := 0, unsigAt := none }) f (qVector (s.que q).run) := by
  simp only [queIrq, hfn]

theorem replyReadReturn_posts {hm : HostMem} {f : FlowIx} {slot : Nat} {cqe : Bytes} {rest : List (FlowIx × Nat × Bytes)}
    {w : WingIx} {b : Bytes} {s1 : State} (hnext : (s.que q).awaitRead = (f, slot, cqe) :: rest)
    (howner : (s.flow f).owner = some w) (hrts : (s.flow f).state = .rts) (hissued : stillHeld s cqe = false)
    (hread : replyRead s w f slot hm = (some b, s1)) :
    replyReadReturn s q hm = (((s1.updQue q fun x => { x with awaitRead := rest }).updFlow f fun y =>
      { y with slots := y.slots.map fun t => if t.1 = slot then (t.1, t.2.1, some cqe) else t }).emit
      (.net f .reply (cqe ++ b))) := by
  simp only [replyReadReturn, hnext, howner, hrts, hissued, hread, Bool.false_eq_true, if_false, ne_eq, not_true_eq_false,
    reduceCtorEq]

end

end Sys2Proof.Machine

/-- Settles O14: a completion by the mode of its queue, then the interrupt and the reply. -/
theorem completionsBecomeVisibleInOrder : Obligations.CompletionsBecomeVisibleInOrder := by
  unfold Obligations.CompletionsBecomeVisibleInOrder
  refine ⟨?ring, ?sequence, ?waits, ?coalesced, ?raised, ?reply⟩
  case ring =>
    intro que w r s holdest howner hdone halone hroom hissues hauthority hcurrent hready hverdicts hmode hspace
    have hdue : CompletionDue s que w r := ⟨holdest, howner, hdone, halone, hroom, hissues,
      Option.isNone_eq_false_iff.mpr (Option.isSome_iff_ne_none.mpr hauthority), hcurrent, hverdicts⟩
    exact ⟨_, congrArg Host.Outcome.next (completionWrite_ring hdue hmode hready hspace), rfl⟩
  case sequence =>
    intro que w r s holdest howner hdone halone hroom hissues hauthority hcurrent hready hverdicts hmode hok
    have hdue : CompletionDue s que w r := ⟨holdest, howner, hdone, halone, hroom, hissues,
      Option.isNone_eq_false_iff.mpr (Option.isSome_iff_ne_none.mpr hauthority), hcurrent, hverdicts⟩
    exact ⟨_, congrArg Host.Outcome.next (completionWrite_sequence hdue hmode hready hok), rfl⟩
  case waits =>
    rintro que s ⟨r, holdest, hlive⟩
    exact congrArg Host.Outcome.next (completionWrite_waits holdest hlive)
  case coalesced => exact fun que w s hwing hunsig htime => exec_irqCoalesceTimeout_raises hwing hunsig htime
  case raised => exact fun que w f s hfn => queIrq_raises hfn
  case reply =>
    intro que hm f slot cqe rest w b s s1 hnext howner hrts hissued hread
    exact congrArg Host.Outcome.next (replyReadReturn_posts hnext howner hrts hissued hread)

end

section
/-! PROOF. The registers of an update ring, its errors, and the record at HEAD (07 R219 to R227), and O24 from them. -/

open Sys2Proof Sys2Proof.Machine

namespace Sys2Proof.Machine

/-! ### The ring's registers (07 R219 to R222) -/

/-- The checks of 07 R220, on the registers as they stand. -/
def ringChecks (k : Cat) (xlat : Bool) : Option (Nat × Byte) :=
  firstFailAt [
    (decide (fld k.cfg.toNat 0 5 < 16 ∨ fld k.cfg.toNat 0 5 > 30), rRESERVED_VALUE),
    (decide (k.base.toNat % 4096 ≠ 0), rADDR_ALIGN), (!xlat, rTRANSLATION_MISSING)]

theorem ringChecks_passes {k : Cat} (hsize : 16 ≤ fld k.cfg.toNat 0 5 ∧ fld k.cfg.toNat 0 5 ≤ 30)
    (hbase : k.base.toNat % 4096 = 0) : ringChecks k true = none := by
  obtain ⟨hlo, hhi⟩ := hsize
  simp [ringChecks, firstFailAt_eq_none_iff, hbase, hlo, hhi]

/-- A ring as the ENABLE that passes its checks leaves it (07 R221). -/
def Cat.ringEnabled (k : Cat) : Cat :=
  { k with reason := rOK, check := 0, head := 0, tail := 0, limit := maxLimit, state := .enabled, runCfg := k.cfg,
           runBase := k.base, pairHead := 0, resends := 0 }

/-- A ring after the ENABLE write, by the first failing check. -/
def Cat.ringChecked (k : Cat) (xlat : Bool) : Cat :=
  match ringChecks k xlat with
  | some f => { k with reason := f.2, check := f.1 }
  | none => k.ringEnabled

/-- The bytes of CFG and BASE. -/
def ringRegs (cfg : W32) (base : W64) : Bytes := leBytes 4 cfg.toNat ++ leBytes 8 base.toNat

section
variable {s : State} {fn : Fn} {w : WingIx} (c : Nat) (hopen : regOpen s fn = true)
  (hreach : fn = 0 ∨ (s.fnWing fn).map (·.val) = some w.val)
include hopen hreach

theorem wingReg_reaches (f : State → State) : wingReg s fn w f = f s := by
  simp only [wingReg, hopen, Bool.not_true, Bool.false_eq_true, if_false]
  exact if_pos hreach

theorem catUpdEnable_logs (xlat : Bool) (hstate : (s.cat (catKey w c)).state = .disabled) (hlog : canLog s fn) :
    catUpdEnable s fn w c xlat = tdiTrip (logAppend (s.setCat (catKey w c) ((s.cat (catKey w c)).ringChecked xlat)) fn w 0
      (catOff fn w c 0) 0 (ringRegs (s.cat (catKey w c)).runCfg (s.cat (catKey w c)).runBase)
      (ringRegs (s.cat (catKey w c)).cfg (s.cat (catKey w c)).base)) w fn := by
  rw [catUpdEnable, wingReg_reaches hopen hreach]
  refine (if_neg (by simp [hstate])).trans ((loggedChange_applies hlog ..).trans ?_)
  cases hchecks : ringChecks (s.cat (catKey w c)) xlat
  all_goals
    simp only [Cat.ringChecked, hchecks]
    rw [ringChecks] at hchecks
    simp only [hchecks]
    rfl

theorem catUpdDisable_atRest (hstate : (s.cat (catKey w c)).state ≠ .disabled)
    (hrest : (s.cat (catKey w c)).busy = none ∨ (s.cat (catKey w c)).stall ≠ 0) :
    catUpdDisable s fn w c = ringDisable s w c := by
  have hidle : (s.cat (catKey w c)).inProgress = false := by
    rcases hrest with h | h <;> simp [Cat.inProgress, h]
  rw [catUpdDisable, wingReg_reaches hopen hreach]
  simp only [hstate, hidle, Bool.false_eq_true, if_false]

theorem catUpdDisable_waits (hstate : (s.cat (catKey w c)).state ≠ .disabled) (hbusy : (s.cat (catKey w c)).busy ≠ none)
    (hstall : (s.cat (catKey w c)).stall = 0) :
    catUpdDisable s fn w c = s.setCat (catKey w c) { s.cat (catKey w c) with disableAfter := true } := by
  have hprogress : (s.cat (catKey w c)).inProgress = true := by
    simp [Cat.inProgress, hstall, Option.isSome_iff_ne_none, hbusy]
  rw [catUpdDisable, wingReg_reaches hopen hreach]
  simp only [hstate, hprogress, if_true, if_false]
  rfl

theorem catUpdResume_leavesError (hstate : (s.cat (catKey w c)).state = .error) :
    catUpdResume s fn w c = s.setCat (catKey w c) { s.cat (catKey w c) with state := .enabled, resends := 0 } := by
  rw [catUpdResume, wingReg_reaches hopen hreach]
  exact if_pos hstate

theorem catUpdTail_records {count : W64} (hstate : (s.cat (catKey w c)).state ≠ .disabled)
    (hcount : (s.cat (catKey w c)).tail ≤ count ∧ count.toNat % 32 = 0 ∧
      count.toNat - (s.cat (catKey w c)).head.toNat ≤ ringSize (s.cat (catKey w c))) :
    catUpdTail s fn w c count = s.setCat (catKey w c) { s.cat (catKey w c) with tail := count } := by
  rw [catUpdTail, wingReg_reaches hopen hreach]
  exact (if_neg hstate).trans (if_pos hcount)

theorem catUpdTail_errs {count : W64} (hstate : (s.cat (catKey w c)).state ≠ .disabled)
    (hcount : ¬((s.cat (catKey w c)).tail ≤ count ∧ count.toNat % 32 = 0 ∧
      count.toNat - (s.cat (catKey w c)).head.toNat ≤ ringSize (s.cat (catKey w c)))) :
    catUpdTail s fn w c count = ringError s w c 0 rADDR_RANGE := by
  rw [catUpdTail, wingReg_reaches hopen hreach]
  exact (if_neg hstate).trans (if_neg hcount)

theorem catUpdTail_drops {count : W64} (hstate : (s.cat (catKey w c)).state = .disabled) :
    catUpdTail s fn w c count = s.setCat (catKey w c) { s.cat (catKey w c) with dbDropped := true } := by
  rw [catUpdTail, wingReg_reaches hopen hreach]
  exact if_pos hstate

end

/-! ### The ring at rest, and in ERROR (07 R221, R226) -/

section
variable {k : Cat}

theorem Cat.clearBusy_own (h : k.follow = none) :
    k.clearBusy = { k with busy := none, applied := false, stall := 0, stallAt := none, stallRow := none } := by
  have hk : (if k.follow.isSome then k else k.unstall) = k.unstall := if_neg (by simp [h])
  rw [Cat.clearBusy, hk]
  rfl

theorem Cat.clearBusy_held {r : HeldRec} (h : k.follow = some r) : k.clearBusy = { k with busy := none, applied := false } := by
  have hk : (if k.follow.isSome then k else k.unstall) = k := if_pos (by simp [h])
  rw [Cat.clearBusy, hk]

end

section
variable {s : State} {w c : Nat}

theorem ringDisable_eq : ringDisable s w c =
    s.setCat (catKey w c) { (s.cat (catKey w c)).clearBusy with state := .disabled, disableAfter := false } := rfl

theorem disablePoll_idle (h : (s.cat (catKey w c)).disableAfter = false) : disablePoll s w c = s := by
  simp [disablePoll, h]

/-- The catalogue's part of an error: a record whose writes have begun stays (07 R223). -/
def Cat.errs (k : Cat) (n : Nat) (code : Byte) : Cat :=
  { (if k.applied then k else k.clearBusy) with state := .error, reason := code, check := n }

theorem Cat.errs_kept (k : Cat) (n : Nat) (code : Byte) :
    (k.errs n code).disableAfter = k.disableAfter ∧ (k.errs n code).commit = k.commit := by
  unfold Cat.errs Cat.clearBusy
  split_ifs <;> exact ⟨rfl, rfl⟩

/-- An error of a ring that nothing waits for. -/
theorem ringError_alone (n : Nat) (code : Byte) (hcommit : (s.cat (catKey w c)).commit = none)
    (hdisable : (s.cat (catKey w c)).disableAfter = false) :
    ringError s w c n code = s.setCat (catKey w c) ((s.cat (catKey w c)).errs n code) := by
  obtain ⟨hafter, hnone⟩ := (s.cat (catKey w c)).errs_kept n code
  have hpoll : disablePoll (catUpd s w c fun k =>
      { (if k.applied then k else k.clearBusy) with state := .error, reason := code, check := n }) w c =
      s.setCat (catKey w c) ((s.cat (catKey w c)).errs n code) :=
    disablePoll_idle (by rw [catUpd, State.updCat_eq, State.cat_setCat_same]; exact hafter.trans hdisable)
  simp only [ringError, hpoll, State.cat_setCat_same, hnone, hcommit]

end

/-! ### The record at HEAD (07 R223, R225, R231) -/

/-- The ring of a catalogue that is not paired consumes records, and its next one lies below TAIL and the limit. -/
structure RecordAtHead (s : State) (w : WingIx) (c : Nat) (b : Bytes) : Prop where
  unpaired : (s.cat (catKey w c)).mode = 0
  enabled : (s.cat (catKey w c)).state = .enabled
  isOpen : (s.cat (catKey w c)).isOpen = true
  noDiscard : (s.cat (catKey w c)).discardEp = none
  wing : (s.wing w).state = .enabled
  idle : (s.cat (catKey w c)).busy = none
  belowLimit : (s.cat (catKey w c)).head < (s.cat (catKey w c)).limit
  belowTail : (s.cat (catKey w c)).head < (s.cat (catKey w c)).tail
  endsBelowLimit : (s.cat (catKey w c)).head.toNat + recLen b ≤ (s.cat (catKey w c)).limit.toNat
  endsBelowTail : (s.cat (catKey w c)).head.toNat + recLen b ≤ (s.cat (catKey w c)).tail.toNat

theorem Cat.alone_of_unpaired (s : State) {k : Cat} (h : k.mode = 0) : k.alone s = true := by simp [Cat.alone, h]

section
variable {s : State} {w : WingIx} {c : Nat} {hm : HostMem}

/-- What the engine does with a record that it can take, by what it finds of it. -/
def recordTaken (s : State) (w : WingIx) (c : Nat) (b : Bytes) : Record → State
  | .bad check code => ringError s w c check code
  | .skip => recPass (violate s (some w.val) 4) w c b
  | .nop => recPass s w c b
  | .put _ _ _ => recBegin s w c b

theorem updateRecordApply_taken {b : Bytes} (hb : b = (ringRecord (s.cat (catKey w c)) hm).2) (h : RecordAtHead s w c b) :
    updateRecordApply s w c hm .clean = recordTaken s w c b
      (recCheck s w c (ringRecord (s.cat (catKey w c)) hm).1 (ringSize (s.cat (catKey w c))) b) := by
  have hmine : (decide ((s.cat (catKey w c)).mode = 0) || decide (s.par.lease = .holder)) = true := by simp [h.unpaired]
  have hlimit : ¬(s.cat (catKey w c)).limit ≤ (s.cat (catKey w c)).head := BitVec.not_le.mpr h.belowLimit
  have htail : ¬(s.cat (catKey w c)).tail ≤ (s.cat (catKey w c)).head := BitVec.not_le.mpr h.belowTail
  simp only [updateRecordApply, ← hb, hmine, h.enabled, h.isOpen, h.noDiscard, h.wing, h.idle, Cat.alone_of_unpaired s h.unpaired,
    hlimit, htail, gt_iff_lt, Nat.not_lt.mpr h.endsBelowLimit, Nat.not_lt.mpr h.endsBelowTail, and_false, Bool.not_true,
    Bool.false_and, Bool.false_eq_true, Option.isSome_none, ne_eq, not_true_eq_false, or_false, if_false]
  cases recCheck s w c (ringRecord (s.cat (catKey w c)) hm).1 (ringSize (s.cat (catKey w c))) b <;> rfl

theorem recBegin_unpaired {b : Bytes} (h : (s.cat (catKey w c)).mode = 0) : recBegin s w c b =
    applyBusy (s.setCat (catKey w c) { s.cat (catKey w c) with busy := some b, applied := false, follow := none, resends := 0 })
      w c b (s.cat (catKey w c)).openEp :=
  if_pos (Cat.alone_of_unpaired s h)

/-- Nothing waits for the record at HEAD to be settled. -/
theorem recordSettled_alone (hdisable : (s.cat (catKey w c)).disableAfter = false)
    (hdiscard : (s.cat (catKey w c)).discardEp = none) (hcommit : (s.cat (catKey w c)).commit = none) :
    recordSettled s w c = s := by
  simp [recordSettled, disablePoll_idle hdisable, Cat.discardDue, hdiscard, hcommit]

/-- The ring with HEAD past the record `b`. -/
def Cat.passed (k : Cat) (b : Bytes) : Cat :=
  { k with head := k.head + BitVec.ofNat 64 (recLen b), busy := none, applied := false }

theorem recordFinish_passes {b : Bytes} (hbusy : (s.cat (catKey w c)).busy = some b) :
    recordFinish s w c = s.setCat (catKey w c) ((s.cat (catKey w c)).passed b) := by
  simp only [recordFinish, catUpd, State.updCat_eq, hbusy, Cat.passed]

theorem updateRecordDone_passes {b : Bytes} (hbusy : (s.cat (catKey w c)).busy = some b) (hmode : (s.cat (catKey w c)).mode = 0)
    (happlied : (s.cat (catKey w c)).applied = true) (hdisable : (s.cat (catKey w c)).disableAfter = false)
    (hdiscard : (s.cat (catKey w c)).discardEp = none) (hcommit : (s.cat (catKey w c)).commit = none) :
    updateRecordDone s w c = s.setCat (catKey w c) ((s.cat (catKey w c)).passed b) := by
  have hdone : updateRecordDone s w c = recordSettled (recordFinish s w c) w c := by
    simp only [updateRecordDone, hbusy]
    exact if_neg (by simp [hmode, happlied, Cat.alone_of_unpaired s hmode])
  rw [hdone, recordFinish_passes hbusy]
  refine recordSettled_alone ?_ ?_ ?_ <;> rw [State.cat_setCat_same] <;> assumption

theorem updateRecordDone_waits (happlied : (s.cat (catKey w c)).applied = false) : updateRecordDone s w c = s := by
  simp only [updateRecordDone]
  split
  next => rfl
  next => exact if_pos (by simp [happlied])

end

end Sys2Proof.Machine

/-- Settles O24: the registers past what reaches the wing's page, the two kinds of error, and the record at HEAD by what the
engine finds of it. -/
theorem updateRingsAreControlledAndConsumed : Obligations.UpdateRingsAreControlledAndConsumed := by
  unfold Obligations.UpdateRingsAreControlledAndConsumed
  refine ⟨?enable, ?refused, ?disable, ?disableHeld, ?disableWaits, ?resume, ?tail, ?tailErrs, ?tailDrops, ?put, ?bad, ?error,
    ?done, ?waits⟩
  case enable =>
    intro fn wing cat s hopen hreach hstate hlog hsize hbase
    refine congrArg Host.Outcome.next ((catUpdEnable_logs cat hopen hreach true hstate hlog).trans ?_)
    simp only [Cat.ringChecked, ringChecks_passes hsize hbase]
    rfl
  case refused =>
    intro fn wing cat xlat n code s hopen hreach hstate hlog hfail
    have hfail' : ringChecks (s.cat (catKey wing cat)) xlat = some (n, code) := hfail
    refine congrArg Host.Outcome.next ((catUpdEnable_logs cat hopen hreach xlat hstate hlog).trans ?_)
    simp only [Cat.ringChecked, hfail']
    rfl
  case disable =>
    intro fn wing cat s hopen hreach hstate hrest hfollow
    refine congrArg Host.Outcome.next ((catUpdDisable_atRest cat hopen hreach hstate hrest).trans ?_)
    rw [ringDisable_eq, Cat.clearBusy_own hfollow]
  case disableHeld =>
    intro fn wing cat r s hopen hreach hstate hrest hfollow
    refine congrArg Host.Outcome.next ((catUpdDisable_atRest cat hopen hreach hstate hrest).trans ?_)
    rw [ringDisable_eq, Cat.clearBusy_held hfollow]
  case disableWaits =>
    intro fn wing cat s hopen hreach hstate hbusy hstall
    exact congrArg Host.Outcome.next (catUpdDisable_waits cat hopen hreach hstate hbusy hstall)
  case resume =>
    intro fn wing cat s hopen hreach hstate
    exact congrArg Host.Outcome.next (catUpdResume_leavesError cat hopen hreach hstate)
  case tail =>
    intro fn wing cat count s hopen hreach hstate hafter haligned hwithin
    exact congrArg Host.Outcome.next (catUpdTail_records cat hopen hreach hstate ⟨hafter, haligned, hwithin⟩)
  case tailErrs =>
    rintro fn wing cat count s hopen hreach hstate hout
    refine congrArg Host.Outcome.next (catUpdTail_errs cat hopen hreach hstate ?_)
    rintro ⟨hafter, haligned, hwithin⟩
    rcases hout with h | h | h
    · exact BitVec.not_le.mpr h hafter
    · exact h haligned
    · exact Nat.not_lt.mpr hwithin h
  case tailDrops =>
    intro fn wing cat count s hopen hreach hstate
    exact congrArg Host.Outcome.next (catUpdTail_drops cat hopen hreach hstate)
  case put =>
    intro wing cat hm b tab t0 row s hmode hstate hisOpen hdiscard hwing hidle hlimit htail hb hendLimit hendTail hput
    have hhead : RecordAtHead s wing cat b :=
      ⟨hmode, hstate, hisOpen, hdiscard, hwing, hidle, hlimit, htail, hendLimit, hendTail⟩
    refine congrArg Host.Outcome.next ((updateRecordApply_taken hb hhead).trans ?_)
    rw [hput, recordTaken, recBegin_unpaired hmode]
  case bad =>
    intro wing cat hm b n code s hmode hstate hisOpen hdiscard hwing hidle hlimit htail hb hendLimit hendTail hbad
    have hhead : RecordAtHead s wing cat b :=
      ⟨hmode, hstate, hisOpen, hdiscard, hwing, hidle, hlimit, htail, hendLimit, hendTail⟩
    refine congrArg Host.Outcome.next ((updateRecordApply_taken hb hhead).trans ?_)
    rw [hbad, recordTaken]
  case error =>
    intro s w c n code hcommit hdisable hfollow
    refine ⟨fun happlied => ?_, fun happlied => ?_⟩
    · rw [ringError_alone n code hcommit hdisable, Cat.errs, happlied]
      rfl
    · rw [ringError_alone n code hcommit hdisable, Cat.errs, happlied, Cat.clearBusy_own hfollow]
      rfl
  case done =>
    intro wing cat b s hbusy hmode happlied hdisable hdiscard hcommit
    exact congrArg Host.Outcome.next (updateRecordDone_passes hbusy hmode happlied hdisable hdiscard hcommit)
  case waits =>
    intro wing cat s happlied
    exact congrArg Host.Outcome.next (updateRecordDone_waits happlied)

end

section
/-! PROOF. Ozol words (05 R154 to R156): a word is its fields, the reserved bits of an opcode are fields that must be zero, and O59 from
them. -/

open Sys2Proof Sys2Proof.Machine

namespace Sys2Proof

/-! ### Fields of a word -/

section
variable {n m : Nat}

/-- A word is two pieces put together exactly when they are its high and its low part. -/
theorem eq_append_iff {a : BitVec n} {b : BitVec m} {c : BitVec (n + m)} :
    c = a ++ b ↔ c.extractLsb' m n = a ∧ c.extractLsb' 0 m = b := by
  constructor
  · rintro rfl
    exact ⟨BitVec.extractLsb'_append_eq_left, BitVec.extractLsb'_append_eq_right⟩
  · rintro ⟨rfl, rfl⟩
    exact BitVec.extractLsb'_append_extractLsb'.symm

/-- A field of a field is a field of the word. -/
theorem extractLsb'_of_extractLsb' {lo len lo' len' : Nat} (x : BitVec n) (h : lo + len ≤ len') :
    (x.extractLsb' lo' len').extractLsb' lo len = x.extractLsb' (lo' + lo) len :=
  BitVec.eq_of_getLsbD_eq fun i hi => by simp [hi, show lo + i < len' by omega, Nat.add_assoc]

/-- A short operand fills IMM exactly when it is IMM's low part and the rest of IMM is zero. -/
theorem eq_setWidth_iff (hn : n ≤ 32) {x : BitVec n} {imm : W32} :
    imm = x.setWidth 32 ↔ imm.extractLsb' 0 n = x ∧ imm.extractLsb' n (32 - n) = 0 := by
  constructor
  · rintro rfl
    refine ⟨BitVec.eq_of_getLsbD_eq fun i hi => ?_, BitVec.eq_of_getLsbD_eq fun i hi => ?_⟩
    · simp [hi, show i < 32 by omega]
    · simp
  · rintro ⟨rfl, hzero⟩
    refine BitVec.eq_of_getLsbD_eq fun i hi => ?_
    by_cases hin : i < n
    · simp [hi, hin]
    · have hbit := congrArg (fun y => BitVec.getLsbD y (i - n)) hzero
      simp only [BitVec.getLsbD_extractLsb', show n + (i - n) = i by omega, show i - n < 32 - n by omega] at hbit
      simpa [hin] using hbit.symm

/-- IMM is below 2^n exactly when its bits from n up are zero. -/
theorem toNat_lt_two_pow_iff (hn : n ≤ 32) {imm : W32} : imm.toNat < 2 ^ n ↔ imm.extractLsb' n (32 - n) = 0 := by
  rw [← BitVec.toNat_inj, BitVec.extractLsb'_toNat, Nat.shiftRight_eq_div_pow, Nat.mod_eq_of_lt]
  · exact ((Nat.div_eq_zero_iff).trans (by simp)).symm
  · rw [Nat.div_lt_iff_lt_mul (by positivity), ← pow_add, Nat.sub_add_cancel hn]
    exact imm.isLt

end

/-- Bits [40:32], which no format uses (05 R154). -/
def ozRest (w : W64) : BitVec 9 := w.extractLsb' 32 9

section
variable {op : BitVec 8} {rd ra rb : R5} {imm : W32} {w : W64}

/-- A word with [40:32] zero is made of its fields. -/
theorem eq_ozWord_iff : w = ozWord op rd ra rb imm ↔
    ozOp w = op ∧ ozRd w = rd ∧ ozRa w = ra ∧ ozRb w = rb ∧ ozRest w = 0 ∧ ozImm w = imm := by
  refine (eq_append_iff (a := op ++ rd ++ ra ++ rb ++ 0#9) (b := imm)).trans ?_
  simp only [eq_append_iff, and_assoc]
  simp [ozOp, ozRd, ozRa, ozRb, ozRest, ozImm, extractLsb'_of_extractLsb']

end

/-! ### Reserved bits -/

section
variable {w : W64}

/-- The mask of `n` bits from bit `lo`. -/
def fieldMask (lo n : Nat) : W64 := (BitVec.allOnes n).setWidth 64 <<< lo

theorem and_fieldMask_eq_zero_iff {lo n : Nat} (h : lo + n ≤ 64) : w &&& fieldMask lo n = 0 ↔ w.extractLsb' lo n = 0 := by
  constructor
  · intro hz
    refine BitVec.eq_of_getLsbD_eq fun i hi => ?_
    have hbit := congrArg (fun y => BitVec.getLsbD y (lo + i)) hz
    simpa [fieldMask, hi, show lo + i < 64 by omega, show i < 64 by omega] using hbit
  · intro hz
    refine BitVec.eq_of_getLsbD_eq fun i hi => ?_
    have hbit := congrArg (fun y => BitVec.getLsbD y (i - lo)) hz
    by_cases hlo : i < lo
    · simp [fieldMask, hlo]
    · by_cases hin : i - lo < n
      · have hoff : w.getLsbD i = false := by simpa [hin, show lo + (i - lo) = i by omega] using hbit
        simp [hoff]
      · simp [fieldMask, hin]

theorem and_or_eq_zero_iff {a b : W64} : w &&& (a ||| b) = 0 ↔ w &&& a = 0 ∧ w &&& b = 0 := by
  rw [BitVec.and_or_distrib_left]
  exact BitVec.or_eq_zero_iff


/-- IMM[31:lo]. -/
theorem ozMaskImm_eq {lo : Nat} (h : lo ≤ 32) : ozMaskImm lo = fieldMask lo (32 - lo) := by
  revert h
  exact (by decide : ∀ k < 33, ozMaskImm k = fieldMask k (32 - k)) lo ∘ Nat.lt_succ_of_le

theorem and_ozMaskImm {lo : Nat} (h : lo ≤ 32) : w &&& ozMaskImm lo = 0 ↔ (ozImm w).extractLsb' lo (32 - lo) = 0 := by
  rw [ozMaskImm_eq h, and_fieldMask_eq_zero_iff (by omega), ozImm, extractLsb'_of_extractLsb' w (by omega), Nat.zero_add]

theorem and_ozMaskRd : w &&& ozMaskRd = 0 ↔ ozRd w = 0 := and_fieldMask_eq_zero_iff (lo := 51) (n := 5) (by decide)
theorem and_ozMaskRa : w &&& ozMaskRa = 0 ↔ ozRa w = 0 := and_fieldMask_eq_zero_iff (lo := 46) (n := 5) (by decide)
theorem and_ozMaskRb : w &&& ozMaskRb = 0 ↔ ozRb w = 0 := and_fieldMask_eq_zero_iff (lo := 41) (n := 5) (by decide)
theorem and_ozMaskRest : w &&& fieldMask 32 9 = 0 ↔ ozRest w = 0 := and_fieldMask_eq_zero_iff (by decide)

theorem and_ozMaskR : w &&& ozMaskR = 0 ↔ ozRest w = 0 ∧ ozImm w = 0 := by
  rw [show ozMaskR = fieldMask 32 9 ||| fieldMask 0 32 from rfl, and_or_eq_zero_iff, and_ozMaskRest,
    and_fieldMask_eq_zero_iff (by decide), ozImm]

theorem and_ozMaskI : w &&& ozMaskI = 0 ↔ ozRb w = 0 ∧ ozRest w = 0 := by
  rw [show ozMaskI = ozMaskRb ||| fieldMask 32 9 from rfl, and_or_eq_zero_iff, and_ozMaskRb, and_ozMaskRest]

theorem and_ozMaskS : w &&& ozMaskS = 0 ↔ ozRd w = 0 ∧ ozRest w = 0 := by
  rw [show ozMaskS = ozMaskRd ||| fieldMask 32 9 from rfl, and_or_eq_zero_iff, and_ozMaskRd, and_ozMaskRest]

/-- The bits of DSET's IMM between WORD and SLOT. -/
theorem and_ozMaskDset : w &&& 0xFFF8#64 = 0 ↔ (ozImm w).extractLsb' 3 13 = 0 := by
  rw [show 0xFFF8#64 = fieldMask 3 13 from rfl, and_fieldMask_eq_zero_iff (by decide), ozImm, extractLsb'_of_extractLsb' w (by decide)]

/-- The bits of a launch's IMM between SLOT and UNIT. -/
theorem and_ozMaskLaunch : w &&& 0xF8#64 = 0 ↔ (ozImm w).extractLsb' 3 5 = 0 := by
  rw [show 0xF8#64 = fieldMask 3 5 from rfl, and_fieldMask_eq_zero_iff (by decide), ozImm, extractLsb'_of_extractLsb' w (by decide)]

end

/-- The IMM of a launch is UNIT over SLOT. -/
theorem eq_ozLaunchImm_iff {slot unit : BitVec 3} {imm : W32} : imm = ozLaunchImm slot unit ↔
    imm.extractLsb' 11 21 = 0 ∧ imm.extractLsb' 8 3 = unit ∧ imm.extractLsb' 3 5 = 0 ∧ imm.extractLsb' 0 3 = slot := by
  refine (eq_append_iff (a := 0#21 ++ unit ++ 0#5) (b := slot)).trans ?_
  simp only [eq_append_iff, and_assoc]
  simp [extractLsb'_of_extractLsb']

/-- The IMM of DLD is SLOT over CINDEX. -/
theorem eq_dldImm_iff {slot : BitVec 3} {ci : W16} {imm : W32} : imm = 0#13 ++ slot ++ ci ↔
    imm.extractLsb' 19 13 = 0 ∧ imm.extractLsb' 16 3 = slot ∧ imm.extractLsb' 0 16 = ci := by
  refine (eq_append_iff (a := 0#13 ++ slot) (b := ci)).trans ?_
  simp only [eq_append_iff, and_assoc]
  simp [extractLsb'_of_extractLsb']

/-- The IMM of DSET is SLOT over WORD. -/
theorem eq_dsetImm_iff {slot word : BitVec 3} {imm : W32} : imm = 0#13 ++ slot ++ 0#13 ++ word ↔
    imm.extractLsb' 19 13 = 0 ∧ imm.extractLsb' 16 3 = slot ∧ imm.extractLsb' 3 13 = 0 ∧ imm.extractLsb' 0 3 = word := by
  refine (eq_append_iff (a := 0#13 ++ slot ++ 0#13) (b := word)).trans ?_
  simp only [eq_append_iff, and_assoc]
  simp [extractLsb'_of_extractLsb']

/-! ### A word and its instruction -/

section
variable {d : DocIx} {w : W64} {i : Instr}

/-- A word that decodes has a defined opcode and its reserved bits zero. -/
theorem ozReserved_of_ozDecode (h : ozDecode d w = some i) : ∃ m, ozReserved (ozOp w).toNat = some m ∧ w &&& m = 0 := by
  unfold ozDecode at h
  dsimp only at h
  split at h
  · cases h
  next m hm =>
    split at h
    · cases h
    next hz => exact ⟨m, hm, not_not.mp hz⟩

/-- An instruction's word decodes to it: the word's fields are the instruction's, so its reserved bits are zero and its opcode picks
the instruction. RDSR alone (`h_43`) has its operand checked beside them. -/
theorem ozDecode_of_ozEncode (hd : ozDoc i = some d) (hw : ozEncode i = some w) : ozDecode d w = some i := by
  unfold ozDoc at hd
  split at hd
  case h_54 => cases hd
  all_goals
    cases hd
    simp only [ozEncode, Option.some.injEq, eq_comm (b := w), eq_ozWord_iff, eq_setWidth_iff, eq_dsetImm_iff, eq_dldImm_iff,
      eq_ozLaunchImm_iff, Nat.reduceLeDiff] at hw
    obtain ⟨hop, hrd, hra, hrb, hrest, himm⟩ := hw
    rw [ozDecode, hop]
    refine (if_neg (not_not.mpr ?_)).trans ?_
    on_goal 1 =>
      simp only [and_or_eq_zero_iff, and_ozMaskR, and_ozMaskI, and_ozMaskS, and_ozMaskRd, and_ozMaskRa, and_ozMaskRb,
        and_ozMaskDset, and_ozMaskLaunch, and_ozMaskImm, Nat.reduceLeDiff, Nat.reduceSub, BitVec.extractLsb'_eq_self, hrd, hra, hrb,
        hrest, himm, and_self]
  case h_43.refl.refine_2 =>
    have hlow : (ozImm w).toNat < 16 := (toNat_lt_two_pow_iff (n := 4) (by decide)).mpr himm.2
    exact (if_pos hlow).trans (by rw [hrd, himm.1])
  all_goals
    refine congrArg some ?_
    simp only [hrd, hra, hrb, himm]

/-- The word of the instruction that a word decodes to is that word: with its reserved bits zero, it is made of the fields that the
instruction takes. -/
theorem ozEncode_of_ozDecode (h : ozDecode d w = some i) : ozEncode i = some w ∧ ozDoc i = some d := by
  obtain ⟨m, hm, hz⟩ := ozReserved_of_ozDecode h
  simp only [ozDecode, hm, hz, ne_eq, not_true, if_false] at h
  split at h
  all_goals rename_i hop
  case h_54 => cases h
  case' h_43 =>
    split at h
    case isFalse => cases h
    have hlow := (toNat_lt_two_pow_iff (n := 4) (by decide)).mp ‹_›
  all_goals
    rw [hop] at hm
    obtain rfl : _ = m := Option.some.inj hm
    simp only [and_or_eq_zero_iff, and_ozMaskR, and_ozMaskI, and_ozMaskS, and_ozMaskRd, and_ozMaskRa, and_ozMaskRb, and_ozMaskDset,
      and_ozMaskLaunch, and_ozMaskImm, Nat.reduceLeDiff, Nat.reduceSub, BitVec.extractLsb'_eq_self] at hz
    cases h
    refine ⟨congrArg some (eq_ozWord_iff.mpr ⟨BitVec.eq_of_toNat_eq hop, ?_⟩).symm, rfl⟩
    simp only [*, eq_setWidth_iff, eq_dsetImm_iff, eq_dldImm_iff, eq_ozLaunchImm_iff, Nat.reduceLeDiff, Nat.reduceSub, and_self]

/-- Every Ozol instruction has a word. -/
theorem exists_ozEncode (hd : ozDoc i = some d) : ∃ w, ozEncode i = some w := by
  unfold ozDoc at hd
  split at hd
  case h_54 => cases hd
  all_goals exact ⟨_, rfl⟩

theorem ozDecode_undefined (h : ozReserved (ozOp w).toNat = none) : ozDecode d w = none := by
  rw [ozDecode, h]

theorem ozDecode_reserved {m : W64} (h : ozReserved (ozOp w).toNat = some m) (hm : w &&& m ≠ 0) : ozDecode d w = none := by
  rw [ozDecode, h]
  exact if_pos hm

end

end Sys2Proof

/-- Settles O59: each instruction takes its operands from fields that make up its word with the reserved bits zero, so the word and
the instruction give each other. -/
theorem ozolWordsAndInstructionsAgree : Obligations.OzolWordsAndInstructionsAgree := by
  unfold Obligations.OzolWordsAndInstructionsAgree
  refine ⟨fun i d w => ozDecode_of_ozEncode, fun i d w => ozEncode_of_ozDecode, fun i d => exists_ozEncode, ?opcodes,
    fun d w => ozDecode_undefined, fun d w m => ozDecode_reserved⟩
  case opcodes => decide +kernel

end

section
/-! PROOF. What one docent does while nothing else changes (05 R153, R160): `docBecomes` composes, a docent goes to a word that passes
its checks or faults there, and an Ozol instruction acts where it is the docent's word. -/

open Sys2Proof Sys2Proof.Machine

namespace Sys2Proof.Machine

/-! ### Changes of one docent -/

section
variable {s t u : State} {d pc : Nat} {x y : Docent}

theorem docBecomes_setDoc (s : State) (d : Nat) (x : Docent) : docBecomes s (s.setDoc d x) d x :=
  ⟨rfl, State.doc_setDoc_same .., fun k hk => by rw [State.doc_setDoc, if_neg hk]⟩

theorem docBecomes.trans (hst : docBecomes s t d x) (htu : docBecomes t u d y) : docBecomes s u d y := by
  obtain ⟨ht, -, htk⟩ := hst
  obtain ⟨hu, hud, huk⟩ := htu
  exact ⟨hu.trans (congrArg (fun v : State => { v with docents := u.docents }) ht), hud,
    fun k hk => (huk k hk).trans (htk k hk)⟩

/-- A docent whose program and request are those of another. -/
structure SameProgram (x y : Docent) : Prop where
  code : x.code = y.code
  consts : x.consts = y.consts
  sched : x.sched = y.sched
  req : x.req = y.req

theorem setG_eq (x : Docent) (r : R5) (v : W64) : x.setG r v = { x with g := (x.setG r v).g } := by
  unfold Docent.setG
  split <;> rfl

theorem sameProgram_setG (x : Docent) (r : R5) (v : W64) : SameProgram (x.setG r v) x := by
  rw [setG_eq]
  exact ⟨rfl, rfl, rfl, rfl⟩

theorem docReduced_setDoc (hx : x.req = (s.doc d).req) : docReduced (s.setDoc d x) d = docReduced s d := by
  rw [docReduced, State.doc_setDoc_same, hx]
  rfl

/-- The checks of a word depend on the docent's program and its request alone. -/
theorem wordOk_setDoc (hx : SameProgram x (s.doc d)) : wordOk (s.setDoc d x) d pc ↔ wordOk s d pc := by
  rw [wordOk, docReduced_setDoc hx.req, State.doc_setDoc_same, hx.code, hx.consts, hx.sched]

end

/-! ### The next word (05 R151, R160) -/

section
variable {s : State} {d pc : Nat} {x : Docent}

theorem docGoto_becomes (hpc : wordOk s d pc) : docBecomes s (docGoto s d pc) d { s.doc d with pc := pc, stall := .none } := by
  simp only [docGoto, hpc]
  exact docBecomes_setDoc ..

theorem docNext_becomes (hpc : wordOk s d ((s.doc d).pc + 1)) :
    docBecomes s (docNext s d) d { s.doc d with pc := (s.doc d).pc + 1, stall := .none } := docGoto_becomes hpc

/-- A docent that changed goes to a word of its program. -/
theorem docGoto_setDoc_becomes (hx : SameProgram x (s.doc d)) (hpc : wordOk s d pc) :
    docBecomes s (docGoto (s.setDoc d x) d pc) d { x with pc := pc, stall := .none } := by
  have hgoto := docGoto_becomes ((wordOk_setDoc hx).mpr hpc)
  rw [State.doc_setDoc_same] at hgoto
  exact (docBecomes_setDoc s d x).trans hgoto

theorem docNext_setDoc_becomes (hx : SameProgram x (s.doc d)) (hpc : wordOk s d (x.pc + 1)) :
    docBecomes s (docNext (s.setDoc d x) d) d { x with pc := x.pc + 1, stall := .none } := by
  rw [docNext, State.doc_setDoc_same]
  exact docGoto_setDoc_becomes hx hpc

/-- A register result, then the next word. -/
theorem docResult_becomes (rd : R5) (v : W64) (hpc : wordOk s d ((s.doc d).pc + 1)) :
    docBecomes s (docResult s d rd v) d { (s.doc d).setG rd v with pc := (s.doc d).pc + 1, stall := .none } := by
  have hg : ((s.doc d).setG rd v).pc = (s.doc d).pc := by rw [setG_eq]
  rw [docResult, State.updDoc_eq, ← hg]
  exact docNext_setDoc_becomes (sameProgram_setG ..) (by rwa [hg])

/-- The first fault of a docent: it stops there and holds its report. -/
theorem docFaultWith_first (code : Byte) (pc detail : W32) (hfault : (s.doc d).fault = none) :
    docFaultWith s d code pc detail = s.setDoc d { s.doc d with
      stall := .faulted, fault := some { code := code, pc := pc, detail := detail, time := s.now } } := by
  simp only [docFaultWith, hfault, State.updDoc_eq]

theorem docFaultWith_becomes (code : Byte) (pc detail : W32) (hfault : (s.doc d).fault = none) :
    docBecomes s (docFaultWith s d code pc detail) d
      { s.doc d with stall := .faulted, fault := some { code := code, pc := pc, detail := detail, time := s.now } } := by
  rw [docFaultWith_first code pc detail hfault]
  exact docBecomes_setDoc ..

/-- A word that fails a check of 05 R151 faults the docent there. -/
theorem docGoto_faults {code : Byte} (hcheck : ozCheck ((s.doc d).code.getD pc 0#64) pc (s.doc d).code.length
    (s.doc d).consts.length (s.doc d).sched.length (docReduced s d) = some code) (hfault : (s.doc d).fault = none) :
    docBecomes s (docGoto s d pc) d { s.doc d with
      pc := pc, stall := .faulted
      fault := some { code := code, pc := wordOffset pc, detail := faultDetail d (s.doc d).rank, time := s.now } } := by
  have hset := docBecomes_setDoc s d { s.doc d with pc := pc, stall := .none }
  have hfaults := docFaultWith_becomes (s := s.setDoc d { s.doc d with pc := pc, stall := .none }) (d := d) code (wordOffset pc)
    (faultDetail d (s.doc d).rank) (by rw [State.doc_setDoc_same]; exact hfault)
  rw [State.doc_setDoc_same] at hfaults
  simp only [docGoto, hcheck, docFault, State.doc_setDoc_same]
  exact hset.trans hfaults

end

/-! ### An instruction at the docent's word (05 R144, log entry 15) -/

section
variable {s : State} {i : Instr} {d : Nat} {f : State → State} {x : Docent}

theorem ozRun_ready (hready : ozReady s i d = true) : ozRun s i d f = .next (f s) := by
  rw [ozRun, if_pos hready]

/-- An instruction that changes its docent alone. -/
theorem exec_becomes (hexec : exec i s = ozRun s i d f) (hready : ozReady s i d = true) (hf : docBecomes s (f s) d x) :
    ∃ t, exec i s = .next t ∧ docBecomes s t d x := ⟨f s, hexec.trans (ozRun_ready hready), hf⟩

/-- An instruction whose whole effect is known. -/
theorem exec_leaves {t : State} (hexec : exec i s = ozRun s i d f) (hready : ozReady s i d = true) (hf : f s = t) :
    ∃ t', exec i s = .next t' ∧ t' = t := ⟨f s, hexec.trans (ozRun_ready hready), hf⟩

end

end Sys2Proof.Machine
end

section
/-! PROOF. The register and immediate instructions of Ozol (05 R154), and O15 and O16 from them. -/

open Sys2Proof Sys2Proof.Machine

namespace Sys2Proof.Machine

section
variable {s : State} {i : Instr} {d : Nat} {rd ra rb : R5}

/-- An instruction that computes RD from RA and RB. -/
theorem alu_writes {f : W64 → W64 → W64} (hexec : exec i s = ozRun s i d (ozAlu d rd ra rb f)) (hready : ozReady s i d = true)
    (hpc : wordOk s d ((s.doc d).pc + 1)) :
    ∃ t, exec i s = .next t ∧ docBecomes s t d
      { (s.doc d).setG rd (f ((s.doc d).greg ra) ((s.doc d).greg rb)) with pc := (s.doc d).pc + 1, stall := .none } :=
  exec_becomes hexec hready (docResult_becomes rd _ hpc)

/-- An instruction that computes RD from RA. -/
theorem aluI_writes {f : W64 → W64} (hexec : exec i s = ozRun s i d (ozAluI d rd ra f)) (hready : ozReady s i d = true)
    (hpc : wordOk s d ((s.doc d).pc + 1)) :
    ∃ t, exec i s = .next t ∧ docBecomes s t d
      { (s.doc d).setG rd (f ((s.doc d).greg ra)) with pc := (s.doc d).pc + 1, stall := .none } :=
  exec_becomes hexec hready (docResult_becomes rd _ hpc)

end

theorem ofNat_min_toNat (a b : W64) : BitVec.ofNat 64 (min a.toNat b.toNat) = if a.toNat ≤ b.toNat then a else b := by
  rw [Nat.min_def]
  split <;> exact BitVec.ofNat_toNat ..

theorem ofNat_max_toNat (a b : W64) : BitVec.ofNat 64 (max a.toNat b.toNat) = if a.toNat ≤ b.toNat then b else a := by
  rw [Nat.max_def]
  split <;> exact BitVec.ofNat_toNat ..

/-- MOVHI puts IMM over the low half of the register. -/
theorem append_setWidth_eq (imm : W32) (a : W64) : imm ++ a.setWidth 32 = (zext imm <<< 32) ||| (a &&& 0xFFFFFFFF#64) := by
  refine BitVec.eq_of_getLsbD_eq fun k hk => ?_
  have hmask : (0xFFFFFFFF#64).getLsbD k = decide (k < 32) := by
    rw [show 0xFFFFFFFF#64 = (BitVec.allOnes 32).setWidth 64 from rfl, BitVec.getLsbD_setWidth, BitVec.getLsbD_allOnes,
      decide_eq_true hk, Bool.true_and]
  rw [BitVec.getLsbD_append, BitVec.getLsbD_or, BitVec.getLsbD_and, hmask]
  by_cases hlow : k < 32
  · simp [hlow]
  · simp [hlow, zext, hk]

end Sys2Proof.Machine

/-- Settles O15: each instruction is `ozAlu` with its operation. -/
theorem arithmeticWritesOneRegister : Obligations.ArithmeticWritesOneRegister := by
  unfold Obligations.ArithmeticWritesOneRegister
  refine ⟨fun _ _ _ _ _ => alu_writes (f := (· + ·)) rfl, fun _ _ _ _ _ => alu_writes (f := (· - ·)) rfl,
    fun _ _ _ _ _ => alu_writes (f := (· &&& ·)) rfl, fun _ _ _ _ _ => alu_writes (f := (· ||| ·)) rfl,
    fun _ _ _ _ _ => alu_writes (f := (· ^^^ ·)) rfl, fun _ _ _ _ _ => alu_writes (f := fun a b => a <<< (b.toNat % 64)) rfl,
    fun _ _ _ _ _ => alu_writes (f := fun a b => a >>> (b.toNat % 64)) rfl,
    fun _ _ _ _ _ => alu_writes (f := fun a b => a.sshiftRight (b.toNat % 64)) rfl,
    fun _ _ _ _ _ => alu_writes (f := (· * ·)) rfl, ?minu, ?maxu,
    fun _ _ _ _ _ => alu_writes (f := fun a b => if a.toNat < b.toNat then 1 else 0) rfl,
    fun _ _ _ _ _ => alu_writes (f := fun a b => if a.toInt < b.toInt then 1 else 0) rfl⟩
  case minu =>
    intro doc rd ra rb s
    rw [ofNat_min_toNat]
    exact alu_writes (f := fun a b => if a.toNat ≤ b.toNat then a else b) rfl
  case maxu =>
    intro doc rd ra rb s
    rw [ofNat_max_toNat]
    exact alu_writes (f := fun a b => if a.toNat ≤ b.toNat then b else a) rfl

/-- Settles O16: each instruction but NOP and PRIO is a register result. -/
theorem immediatesWriteOneRegister : Obligations.ImmediatesWriteOneRegister := by
  unfold Obligations.ImmediatesWriteOneRegister
  refine ⟨fun _ _ _ _ _ => aluI_writes (f := (· + sext _)) rfl, fun _ _ _ _ _ => aluI_writes (f := (· &&& zext _)) rfl,
    fun _ _ _ _ _ => aluI_writes (f := (· ||| zext _)) rfl, fun _ _ _ _ _ => aluI_writes (f := (· ^^^ zext _)) rfl, ?movhi,
    fun _ _ _ sh _ => aluI_writes (f := (· <<< sh.toNat)) rfl, fun _ _ _ sh _ => aluI_writes (f := (· >>> sh.toNat)) rfl,
    fun _ _ _ sh _ => aluI_writes (f := (·.sshiftRight sh.toNat)) rfl, ?movi, ?rdsr, ?special, ?nop, ?prio⟩
  case movhi =>
    intro doc rd ra imm s
    rw [append_setWidth_eq]
    exact aluI_writes (f := fun a => (zext imm <<< 32) ||| (a &&& 0xFFFFFFFF#64)) rfl
  case movi =>
    intro doc rd imm s hready hpc
    exact exec_becomes (f := fun s => docResult s doc rd (sext imm)) rfl hready (docResult_becomes rd _ hpc)
  case rdsr =>
    intro doc rd sel s hready hpc
    exact exec_becomes (f := fun s => docResult s doc rd (BitVec.ofNat 64 (specialValue s doc sel.toNat))) rfl hready
      (docResult_becomes rd _ hpc)
  case special =>
    intro d r s hreq
    simp only [specialValue, hreq, and_self]
  case nop => exact fun doc s hready hpc => exec_becomes (f := fun s => docNext s doc) rfl hready (docNext_becomes hpc)
  case prio =>
    intro doc p s hready hpc
    exact exec_becomes (f := ozPrio doc p.toNat) rfl hready
      (docNext_setDoc_becomes (x := { s.doc doc with prio := _ }) ⟨rfl, rfl, rfl, rfl⟩ hpc)

end

section
/-! PROOF. The branches of Ozol, LOOP, CALL, RET and JR (05 R154, R160), and O17 from them. -/

open Sys2Proof Sys2Proof.Machine

namespace Sys2Proof.Machine

section
variable {s : State} {i : Instr} {d : Nat} {ra rb : R5}

/-- A conditional branch goes to its target where its comparison holds, and to the next word else. -/
theorem branch_chooses {target : BitVec 14} {p : W64 → W64 → Bool} {c : Prop} [Decidable c]
    (hexec : exec i s = ozRun s i d (ozBranch d ra rb target p)) (hp : p ((s.doc d).greg ra) ((s.doc d).greg rb) = true ↔ c)
    (hready : ozReady s i d = true) (hpc : wordOk s d (if c then target.toNat else (s.doc d).pc + 1)) :
    ∃ t, exec i s = .next t ∧ docBecomes s t d
      { s.doc d with pc := if c then target.toNat else (s.doc d).pc + 1, stall := .none } := by
  have hgoto : ozBranch d ra rb target p s = docGoto s d (if c then target.toNat else (s.doc d).pc + 1) := by
    by_cases hc : c
    · rw [ozBranch, if_pos (hp.mpr hc), if_pos hc]
    · rw [ozBranch, if_neg (mt hp.mp hc), if_neg hc, docNext]
  exact exec_becomes hexec hready (hgoto ▸ docGoto_becomes hpc)

theorem ozLoop_becomes {target : Nat} (hpc : wordOk s d (if (s.doc d).greg ra - 1 ≠ 0 then target else (s.doc d).pc + 1)) :
    docBecomes s (ozLoop d ra target s) d { (s.doc d).setG ra ((s.doc d).greg ra - 1) with
      pc := if (s.doc d).greg ra - 1 ≠ 0 then target else (s.doc d).pc + 1, stall := .none } := by
  have hg : ((s.doc d).setG ra ((s.doc d).greg ra - 1)).pc = (s.doc d).pc := by rw [setG_eq]
  have hsame := sameProgram_setG (s.doc d) ra ((s.doc d).greg ra - 1)
  rw [ozLoop]
  dsimp only
  rw [State.updDoc_eq]
  split
  next hv =>
    rw [if_pos hv] at hpc
    exact docGoto_setDoc_becomes hsame hpc
  next hv =>
    rw [if_neg hv] at hpc
    rw [docNext, State.doc_setDoc_same, hg]
    exact docGoto_setDoc_becomes hsame hpc

theorem ozCall_becomes {target : Nat} (hroom : (s.doc d).calls.length < 16) (hpc : wordOk s d target) :
    docBecomes s (ozCall d target s) d
      { s.doc d with calls := ((s.doc d).pc + 1) :: (s.doc d).calls, pc := target, stall := .none } := by
  rw [ozCall, if_neg (Nat.not_le.mpr hroom)]
  exact docGoto_setDoc_becomes ⟨rfl, rfl, rfl, rfl⟩ hpc

theorem ozRet_becomes {k : Nat} {rest : List Nat} (hcalls : (s.doc d).calls = k :: rest) (hpc : wordOk s d k) :
    docBecomes s (ozRet d s) d { s.doc d with calls := rest, pc := k, stall := .none } := by
  simp only [ozRet, hcalls]
  exact docGoto_setDoc_becomes (x := { s.doc d with calls := rest }) ⟨rfl, rfl, rfl, rfl⟩ hpc

theorem ozRet_empty (hcalls : (s.doc d).calls = []) : ozRet d s = docFault s d rPROGRAM_BOUNDS (s.doc d).pc := by
  simp only [ozRet, hcalls]

end

end Sys2Proof.Machine

/-- Settles O17: a branch is `docGoto` to the word that its comparison picks, and the call stack is the docent's own. -/
theorem branchesChooseTheNextWord : Obligations.BranchesChooseTheNextWord := by
  unfold Obligations.BranchesChooseTheNextWord
  refine ⟨fun _ _ _ _ _ => branch_chooses (p := (· == ·)) rfl beq_iff_eq,
    fun _ _ _ _ _ => branch_chooses (p := (· != ·)) rfl bne_iff_ne,
    fun _ _ _ _ _ => branch_chooses (p := fun a b => decide (a.toNat < b.toNat)) rfl decide_eq_true_iff,
    fun _ _ _ _ _ => branch_chooses (p := fun a b => decide (b.toNat ≤ a.toNat)) rfl decide_eq_true_iff,
    fun _ _ _ _ _ => branch_chooses (p := fun a b => decide (a.toInt < b.toInt)) rfl decide_eq_true_iff,
    fun _ _ _ _ _ => branch_chooses (p := fun a b => decide (b.toInt ≤ a.toInt)) rfl decide_eq_true_iff,
    ?jmp, ?loop, ?call, ?callFull, ?ret, ?retEmpty, ?jr, ?jrOut, ?badWord⟩
  case jmp =>
    intro doc target s hready hpc
    exact exec_becomes (f := fun s => docGoto s doc target.toNat) rfl hready (docGoto_becomes hpc)
  case loop =>
    intro doc ra target s hready hpc
    exact exec_becomes (f := ozLoop doc ra target.toNat) rfl hready (ozLoop_becomes hpc)
  case call =>
    intro doc target s hready hroom hpc
    exact exec_becomes (f := ozCall doc target.toNat) rfl hready (ozCall_becomes hroom hpc)
  case callFull =>
    intro doc target s hready hfull
    exact exec_leaves (f := ozCall doc target.toNat) rfl hready (if_pos hfull)
  case ret =>
    intro doc k rest s hready hcalls hpc
    exact exec_becomes (f := ozRet doc) rfl hready (ozRet_becomes hcalls hpc)
  case retEmpty =>
    intro doc s hready hcalls
    exact exec_leaves (f := ozRet doc) rfl hready (ozRet_empty hcalls)
  case jr =>
    intro doc ra s hready hin hpc
    exact exec_becomes (f := ozJr doc ra) rfl hready (by rw [ozJr, if_neg (Nat.not_le.mpr hin)]; exact docGoto_becomes hpc)
  case jrOut =>
    intro doc ra s hready hout
    exact exec_leaves (f := ozJr doc ra) rfl hready (if_pos hout)
  case badWord => exact fun d pc code s hcheck hfault => ⟨docGoto s d pc, rfl, docGoto_faults hcheck hfault⟩

end

section
/-! PROOF. The loads, stores and descriptor slots of Ozol (05 R154, R160, 10 R307), and O18 from them. -/

open Sys2Proof Sys2Proof.Machine

namespace Sys2Proof.Machine

/-! ### The scratchpad -/

/-- The bounds of a scratchpad access are those of the docent's request. -/
theorem spOffsetFault_eq {s : State} {d off : Nat} {r : Req} (hreq : docReq s d = some r) :
    spOffsetFault s d off =
      if off % 8 ≠ 0 then some rADDR_ALIGN else if off + 8 > r.scratch then some rPROGRAM_BOUNDS else none := by
  rw [spOffsetFault, hreq]

/-- A word that is written is read back, and every other byte reads as before. -/
theorem Mem.write_word (m : Mem) (a : Nat) (v : W64) : (m.write a (leBytes 8 v.toNat)).le a 8 = v.toNat ∧
    ∀ j, j < a ∨ a + 8 ≤ j → Tbl.get 0#8 (m.write a (leBytes 8 v.toNat)) j = Tbl.get 0#8 m j := by
  constructor
  · have hread := Mem.read_write_same m a (leBytes 8 v.toNat)
    rw [length_leBytes] at hread
    rw [Mem.le, hread, fromLE_leBytes]
    exact Nat.mod_eq_of_lt v.isLt
  · intro j hj
    exact Mem.get_write_other m a _ j (by rwa [length_leBytes])

/-- A write of the scratchpad, and what a docent then does, leave everything but the bytes, the bad words, the launches that the write
disturbs, and the docent. -/
theorem docBecomes.of_spWrite {s t : State} {h off d : Nat} {b : Bytes} {writer : Option (Nat × W16)} {x : Docent}
    (hbecomes : docBecomes (spWrite s h off b writer) t d x) : t.sp = s.sp.write (spBase h + off) b ∧
    t = { s with docents := t.docents, sp := t.sp, spBad := t.spBad, launches := t.launches } ∧ t.spBad.Sublist s.spBad := by
  obtain ⟨ht, -, -⟩ := hbecomes
  have hsp := congrArg State.sp ht
  have hbad := congrArg State.spBad ht
  have hlaunches := congrArg State.launches ht
  refine ⟨hsp, ?_, ?_⟩
  · rw [hsp, hbad, hlaunches]
    exact ht
  · rw [hbad]
    exact List.filter_sublist

section
variable {s : State} {d : Nat} {rd ra rb : R5} {imm : W32} {r : Req}

theorem ozLds_becomes (hreq : docReq s d = some r) (halign : ((s.doc d).greg ra + sext imm).toNat % 8 = 0)
    (hin : ((s.doc d).greg ra + sext imm).toNat + 8 ≤ r.scratch)
    (hgood : spBadAt s (docHalf s d) ((s.doc d).greg ra + sext imm).toNat 8 = false) (hpc : wordOk s d ((s.doc d).pc + 1)) :
    docBecomes s (ozLds d rd ra imm s) d
      { (s.doc d).setG rd (BitVec.ofNat 64 (s.sp.le (spBase (docHalf s d) + ((s.doc d).greg ra + sext imm).toNat) 8)) with
        pc := (s.doc d).pc + 1, stall := .none } := by
  simp only [ozLds, spOffsetFault_eq hreq, halign, ne_eq, not_true, if_false, if_neg (Nat.not_lt.mpr hin), hgood,
    Bool.false_eq_true]
  exact docResult_becomes rd _ hpc

/-- The state after STS: the word is stored and the docent goes on. -/
theorem ozSts_stores (hreq : docReq s d = some r) (halign : ((s.doc d).greg ra + sext imm).toNat % 8 = 0)
    (hin : ((s.doc d).greg ra + sext imm).toNat + 8 ≤ r.scratch) :
    ozSts d ra rb imm s =
      docNext (spWrite s (docHalf s d) ((s.doc d).greg ra + sext imm).toNat (leBytes 8 ((s.doc d).greg rb).toNat) none) d := by
  simp only [ozSts, spOffsetFault_eq hreq, halign, ne_eq, not_true, if_false, if_neg (Nat.not_lt.mpr hin)]

theorem ozSts_faults (hreq : docReq s d = some r)
    (hbad : ((s.doc d).greg ra + sext imm).toNat % 8 ≠ 0 ∨ r.scratch < ((s.doc d).greg ra + sext imm).toNat + 8) :
    ozSts d ra rb imm s = docFault s d
      (if ((s.doc d).greg ra + sext imm).toNat % 8 ≠ 0 then rADDR_ALIGN else rPROGRAM_BOUNDS) (s.doc d).pc := by
  simp only [ozSts, spOffsetFault_eq hreq]
  by_cases halign : ((s.doc d).greg ra + sext imm).toNat % 8 = 0
  · simp only [halign, ne_eq, not_true, if_false, if_pos (hbad.resolve_left (not_not.mpr halign))]
  · simp only [halign, ne_eq, not_false_eq_true, if_true]

end

/-! ### Constants, arguments and slots -/

section
variable {s : State} {d : Nat} {rd ra : R5} {imm : W32}

theorem ozLdc_becomes {v : W64} (hconst : (s.doc d).consts[((s.doc d).greg ra + zext imm).toNat]? = some v)
    (hpc : wordOk s d ((s.doc d).pc + 1)) :
    docBecomes s (ozLdc d rd ra imm s) d { (s.doc d).setG rd v with pc := (s.doc d).pc + 1, stall := .none } := by
  simp only [ozLdc, hconst]
  exact docResult_becomes rd v hpc

theorem ozLdc_faults (hout : (s.doc d).consts.length ≤ ((s.doc d).greg ra + zext imm).toNat) :
    ozLdc d rd ra imm s = docFault s d rPROGRAM_BOUNDS (s.doc d).pc := by
  simp only [ozLdc, List.getElem?_eq_none hout]

theorem ozLda_waits {r : Req} (hreq : docReq s d = some r) (halign : ((s.doc d).greg ra + sext imm).toNat % 8 = 0)
    (hin : ((s.doc d).greg ra + sext imm).toNat + 8 ≤ r.argsLen) :
    ozLda d rd ra imm s = s.setDoc d { s.doc d with stall := .lda rd ((s.doc d).greg ra + sext imm).toNat } := by
  simp only [ozLda, hreq, halign, ne_eq, not_true, if_false, if_neg (Nat.not_lt.mpr hin)]

theorem ldaReturn_reads {doc : DocIx} {hm : HostMem} {off : Nat} {r : Req} {b : Bytes} {s1 : State}
    (hstall : (s.doc doc).stall = .lda rd off) (hreq : docReq s doc = some r) (hrun : (s.doc doc).state = .running)
    (hread : vaRead s r.wing (.docent doc) hm (r.args.toNat + off) 8 = (s1, .ok b)) :
    ldaReturn s doc hm = docResult s1 doc rd (BitVec.ofNat 64 (fromLE b)) := by
  simp only [ldaReturn, hstall, hreq, hrun, ne_eq, not_true, if_false, doc.isLt, dif_pos, Fin.eta, hread]

end

end Sys2Proof.Machine

/-- Settles O18: an offset inside the bounds is the word that is read or written, and one outside faults before anything is. -/
theorem loadsAndStoresReachTheirBytes : Obligations.LoadsAndStoresReachTheirBytes := by
  unfold Obligations.LoadsAndStoresReachTheirBytes
  refine ⟨?lds, ?sts, ?stsFault, ?ldc, ?ldcFault, ?lda, ?ldaReturn, ?dld, ?dset⟩
  case lds =>
    intro doc rd ra imm r s hready hreq halign hin hgood hpc
    exact exec_becomes (f := ozLds doc rd ra imm) rfl hready (ozLds_becomes hreq halign hin hgood hpc)
  case sts =>
    intro doc ra rb imm r s hready hreq halign hin hpc
    have hbecomes := docNext_becomes (s := spWrite s (docHalf s doc) ((s.doc doc).greg ra + sext imm).toNat
      (leBytes 8 ((s.doc doc).greg rb).toNat) none) (d := doc) hpc
    rw [← ozSts_stores hreq halign hin] at hbecomes
    obtain ⟨hsp, hframe, hbad⟩ := hbecomes.of_spWrite
    obtain ⟨-, hdoc, hother⟩ := hbecomes
    obtain ⟨hword, hbytes⟩ := Mem.write_word s.sp (spBase (docHalf s doc) + ((s.doc doc).greg ra + sext imm).toNat)
      ((s.doc doc).greg rb)
    refine ⟨_, ozRun_ready hready, hsp, ?_, ?_, hdoc, hother, hframe, hbad⟩
    · rw [hsp]
      exact hbytes
    · rw [hsp]
      exact hword
  case stsFault =>
    intro doc ra rb imm r s hready hreq hbad
    exact exec_leaves (f := ozSts doc ra rb imm) rfl hready (ozSts_faults hreq hbad)
  case ldc =>
    intro doc rd ra imm v s hready hconst hpc
    exact exec_becomes (f := ozLdc doc rd ra imm) rfl hready (ozLdc_becomes hconst hpc)
  case ldcFault =>
    intro doc rd ra imm s hready hout
    exact exec_leaves (f := ozLdc doc rd ra imm) rfl hready (ozLdc_faults hout)
  case lda =>
    intro doc rd ra imm r s hready hreq halign hin
    exact exec_becomes (f := ozLda doc rd ra imm) rfl hready (ozLda_waits hreq halign hin ▸ docBecomes_setDoc ..)
  case ldaReturn =>
    intro doc hm rd off r b s s1 hstall hreq hrun hread
    exact congrArg Host.Outcome.next (ldaReturn_reads hstall hreq hrun hread)
  case dld =>
    intro doc slot cindex s hready hpc
    exact exec_becomes (f := ozDld doc slot.toNat cindex.toNat) rfl hready
      (docNext_setDoc_becomes (x := { s.doc doc with slots := _ }) ⟨rfl, rfl, rfl, rfl⟩ hpc)
  case dset =>
    intro doc ra slot word s hready hpc
    exact exec_becomes (f := ozDset doc ra slot.toNat word.toNat) rfl hready
      (docNext_setDoc_becomes (x := { s.doc doc with slots := _ }) ⟨rfl, rfl, rfl, rfl⟩ hpc)

end

section
/-! PROOF. The launches of Ozol (05 R157, R160), and O19 from them. -/

open Sys2Proof Sys2Proof.Machine

namespace Sys2Proof.Machine

section
variable {s : State} {r : Req} {eng : Engine} {desc : Bytes} {rd : R5}

/-- A docent joins a launch to the queues and goes to its next word. -/
theorem docLaunches_docNext {d : Nat} {x : Docent} (l : Launch) (hx : SameProgram x (s.doc d)) (hpc : wordOk s d (x.pc + 1)) :
    docLaunches s (docNext { s.setDoc d x with launches := s.launches ++ [l] } d) d { x with pc := x.pc + 1, stall := .none } l := by
  have hset : State.doc { s.setDoc d x with launches := s.launches ++ [l] } d = x := State.doc_setDoc_same ..
  obtain ⟨ht, hdoc, hother⟩ := docNext_becomes (s := { s.setDoc d x with launches := s.launches ++ [l] }) (d := d)
    (by rw [hset]; exact (wordOk_setDoc hx).mpr hpc)
  rw [hset] at hdoc
  exact ⟨ht, hdoc, fun k hk => (hother k hk).trans ((docBecomes_setDoc s d x).2.2 k hk)⟩

/-- A launch that finds room, at a unit in service: it joins its queue, and what follows it acts on that state. -/
theorem ozLaunch_launches {doc : DocIx} {k : State → Launch → State} (hreq : docReq s doc = some r) (hroom : launchRoom s doc eng)
    (hunit : ∀ u, eng.unit = some u → (s.unit u).out = false) (hpc : wordOk s doc ((s.doc doc).pc + 1)) :
    ∃ s2, docLaunches s s2 doc (afterLaunch (s.doc doc) rd) (launchOf s doc r.id eng desc) ∧
      ozLaunch doc rd eng desc s k = k s2 (launchOf s doc r.id eng desc) := by
  have hg : ((s.doc doc).setG rd ((nextTicket (s.doc doc).ticket).setWidth 64)).pc = (s.doc doc).pc := by rw [setG_eq]
  have hsame := sameProgram_setG (s.doc doc) rd ((nextTicket (s.doc doc).ticket).setWidth 64)
  have hfull : ¬((queueAt s doc eng).length ≥ queueDepth eng ∨ (s.doc doc).openT.length ≥ 64) := by
    obtain ⟨hqueue, htickets⟩ := hroom
    omega
  have hjoins := docLaunches_docNext (d := doc) (launchOf s doc r.id eng desc)
    (x := { (s.doc doc).setG rd ((nextTicket (s.doc doc).ticket).setWidth 64) with
      ticket := nextTicket (s.doc doc).ticket, issued := (s.doc doc).issued + 1,
      openT := (s.doc doc).openT ++ [nextTicket (s.doc doc).ticket], stall := .none })
    ⟨hsame.code, hsame.consts, hsame.sched, hsame.req⟩ (by rwa [hg])
  refine ⟨_, ⟨hjoins.1, hjoins.2.1.trans ?_, hjoins.2.2⟩, ?_⟩
  · simp only [afterLaunch, hg]
  · simp only [ozLaunch, hreq, if_neg hfull]
    rw [show Fin.ofNat 40 doc.val = doc from Fin.ofNat_val_eq_self doc]
    cases hu : eng.unit with
    | none => rfl
    | some u =>
      simp only [hunit u hu]
      rfl

/-- A launch without room stalls at the word. -/
theorem ozLaunch_stalls {d : Nat} {k : State → Launch → State} (hreq : docReq s d = some r) (hroom : ¬launchRoom s d eng)
    (hstop : stopping s r.id = false) : ozLaunch d rd eng desc s k = s.setDoc d { s.doc d with stall := .launch } := by
  have hfull : (queueAt s d eng).length ≥ queueDepth eng ∨ (s.doc d).openT.length ≥ 64 := by
    rw [launchRoom] at hroom
    omega
  have hstop' : stopping (s.setDoc d { s.doc d with stall := .launch }) r.id = false := hstop
  simp only [ozLaunch, hreq, if_pos hfull, haltCheck, hstop', Bool.false_and, Bool.false_eq_true, if_false]

/-- A checked launch whose descriptor passes. -/
theorem ozLaunchOn_launches {doc : DocIx} {slot : Nat} {check : Bytes → Nat → Docent → Option (Nat × Byte)}
    (hreq : docReq s doc = some r) (hcheck : check ((s.doc doc).desc slot) r.scratch (s.doc doc) = none)
    (hroom : launchRoom s doc eng) (hunit : ∀ u, eng.unit = some u → (s.unit u).out = false)
    (hpc : wordOk s doc ((s.doc doc).pc + 1)) :
    docLaunches s (ozLaunchOn doc rd slot eng check s) doc (afterLaunch (s.doc doc) rd)
      (launchOf s doc r.id eng ((s.doc doc).desc slot)) := by
  obtain ⟨s2, hjoins, heq⟩ := ozLaunch_launches (rd := rd) (desc := (s.doc doc).desc slot) (k := fun s _ => s) hreq hroom hunit hpc
  simp only [ozLaunchOn, hreq, hcheck, heq]
  exact hjoins

/-- A checked launch whose descriptor fails its check. -/
theorem ozLaunchOn_refuses {d slot n : Nat} {check : Bytes → Nat → Docent → Option (Nat × Byte)} {code : Byte}
    (hreq : docReq s d = some r) (hcheck : check ((s.doc d).desc slot) r.scratch (s.doc d) = some (n, code)) :
    ozLaunchOn d rd slot eng check s = ozRefuse s d eng (n, code) := by
  simp only [ozLaunchOn, hreq, hcheck]

/-- GPEB of a batch that passes its checks begins it. -/
theorem ozGpeb_launches {doc : DocIx} {slot : Nat} {tab : Table} (hreq : docReq s doc = some r)
    (htab : reqTable s r (gbTable ((s.doc doc).desc slot)) = some tab)
    (hcheck : gpeCheck ((s.doc doc).desc slot) r.scratch (some tab) r.cat = none) (hout : r.outStarted = false)
    (hroom : launchRoom s doc .gpe) (hpc : wordOk s doc ((s.doc doc).pc + 1)) :
    ∃ s2, docLaunches s s2 doc (afterLaunch (s.doc doc) rd) (launchOf s doc r.id .gpe ((s.doc doc).desc slot)) ∧
      ozGpeb doc rd slot s = batchBegin s2 (launchOf s doc r.id .gpe ((s.doc doc).desc slot)) r tab := by
  obtain ⟨s2, hjoins, heq⟩ := ozLaunch_launches (rd := rd) (desc := (s.doc doc).desc slot) (k := fun s l => batchBegin s l r tab)
    hreq hroom (fun u hu => by cases hu) hpc
  refine ⟨s2, hjoins, ?_⟩
  simp only [ozGpeb, hreq, htab, hcheck, hout, Bool.false_and, Bool.false_eq_true, if_false]
  exact heq

end

section
variable {s : State} {i : Instr} {d : Nat} {f : State → State} {x : Docent} {l : Launch}

/-- An instruction that launches. -/
theorem exec_launches (hexec : exec i s = ozRun s i d f) (hready : ozReady s i d = true) (hf : docLaunches s (f s) d x l) :
    ∃ t, exec i s = .next t ∧ docLaunches s t d x l := ⟨f s, hexec.trans (ozRun_ready hready), hf⟩

end

end Sys2Proof.Machine

/-- Settles O19: a launch that its checks and its queue let through joins the queue with the docent's next ticket. -/
theorem launchesQueueOneDescriptor : Obligations.LaunchesQueueOneDescriptor := by
  unfold Obligations.LaunchesQueueOneDescriptor
  refine ⟨?mmul, ?vec, ?red, ?strm, ?gpeb, ?stalls, ?refuses⟩
  case mmul =>
    intro doc rd slot unit r s hready hreq hcheck hroom hunit hpc
    exact exec_launches (f := ozMmul doc rd slot.toNat unit.toNat) rfl hready
      (ozLaunchOn_launches (check := fun b n _ => mxCheck b n) hreq hcheck hroom (fun u hu => Option.some.inj hu ▸ hunit) hpc)
  case vec =>
    intro doc rd slot unit r s hready hreq hcheck hroom hunit hpc
    exact exec_launches (f := ozLaunchOn doc rd slot.toNat (.ve (docCell doc)) veCheck) rfl hready
      (ozLaunchOn_launches hreq hcheck hroom (fun u hu => Option.some.inj hu ▸ hunit) hpc)
  case red =>
    intro doc rd slot unit r s hready hreq hcheck hroom hunit hpc
    exact exec_launches (f := ozLaunchOn doc rd slot.toNat (.ru (docCell doc)) ruCheck) rfl hready
      (ozLaunchOn_launches hreq hcheck hroom (fun u hu => Option.some.inj hu ▸ hunit) hpc)
  case strm =>
    intro doc rd slot unit r s hready hreq hcheck hroom hpc
    exact exec_launches (f := fun s => ozLaunchOn doc rd slot.toNat (.strm (docHalf s doc * 8 + unit.toNat)) strmCheck s) rfl hready
      (ozLaunchOn_launches hreq hcheck hroom (fun u hu => by cases hu) hpc)
  case gpeb =>
    intro doc rd slot unit r tab s hready hreq htab hcheck hout hroom hpc
    exact ⟨_, ozRun_ready hready, ozGpeb_launches hreq htab hcheck hout hroom hpc⟩
  case stalls => exact fun d rd eng desc r k s hreq hroom hstop => ozLaunch_stalls hreq hroom hstop
  case refuses =>
    intro d rd slot eng check r n code s hreq hcheck hfault
    rw [ozLaunchOn_refuses hreq hcheck]
    exact docFaultWith_becomes _ _ _ hfault

end

section
/-! PROOF. What holds a docent: tickets, barriers and END (05 R154, R157 to R159), and O20 from them. -/

open Sys2Proof Sys2Proof.Machine

namespace Sys2Proof.Machine

/-! ### Tickets (05 R157, R160) -/

section
variable {s : State} {d id : Nat} {ra rd : R5} {k : W16}

/-- The docent once it waits for a ticket: it goes on where the ticket is complete. -/
theorem wake_wait : wake (s.setDoc d { s.doc d with stall := .wait k }) d =
    if (s.doc d).ticketOpen k then s.setDoc d { s.doc d with stall := .wait k }
    else docNext (s.setDoc d { s.doc d with stall := .wait k }) d := by
  simp only [wake, State.doc_setDoc_same]
  rfl

theorem wake_waitall : wake (s.setDoc d { s.doc d with stall := .waitall }) d =
    if (s.doc d).openT.isEmpty then docNext (s.setDoc d { s.doc d with stall := .waitall }) d
    else s.setDoc d { s.doc d with stall := .waitall } := by
  simp only [wake, State.doc_setDoc_same]

theorem wake_ending (hreq : (s.doc d).req = some id) : wake (s.setDoc d { s.doc d with stall := .ending }) d =
    if (s.doc d).openT.isEmpty then
      barrierCheck ((s.setDoc d { s.doc d with stall := .ending }).setDoc d { s.doc d with stall := .ended }) id
    else s.setDoc d { s.doc d with stall := .ending } := by
  simp only [wake, State.doc_setDoc_same, hreq]

theorem ozWait_eq (harg : ticketArg (s.doc d) ((s.doc d).greg ra) = some k) (hreq : (s.doc d).req = some id) :
    ozWait d ra s = haltCheck (wake (s.setDoc d { s.doc d with stall := .wait k }) d) id := by
  simp only [ozWait, harg, hreq]

theorem ozWait_faults (harg : ticketArg (s.doc d) ((s.doc d).greg ra) = none) :
    ozWait d ra s = docFault s d rPROGRAM_BOUNDS (s.doc d).pc := by
  simp only [ozWait, harg]

theorem ozWaitall_eq (hreq : (s.doc d).req = some id) :
    ozWaitall d s = haltCheck (wake (s.setDoc d { s.doc d with stall := .waitall }) d) id := by
  simp only [ozWaitall, hreq, State.updDoc_eq]

theorem ozPoll_becomes (harg : ticketArg (s.doc d) ((s.doc d).greg ra) = some k) (hpc : wordOk s d ((s.doc d).pc + 1)) :
    docBecomes s (ozPoll d rd ra s) d
      { (s.doc d).setG rd (if (s.doc d).ticketOpen k then 0 else 1) with pc := (s.doc d).pc + 1, stall := .none } := by
  simp only [ozPoll, harg]
  exact docResult_becomes rd _ hpc

end

/-! ### Barriers and END (05 R158, R159) -/

section
variable {s : State} {d id n : Nat} {ds : List Nat}

theorem ozBarrier_eq (hreq : (s.doc d).req = some id) :
    ozBarrier d n s = barrierCheck (s.setDoc d { s.doc d with stall := .barrier n }) id := by
  simp only [ozBarrier, hreq, State.updDoc_eq]

theorem ozEnd_eq (hreq : (s.doc d).req = some id) :
    ozEnd d s = haltCheck (wake (s.setDoc d { s.doc d with stall := .ending }) d) id := by
  simp only [ozEnd, hreq, State.updDoc_eq]

/-- Every docent that has not ended waits at one barrier: each goes to its next word. -/
theorem barrierCheck_releases (hds : notEnded s id = ds) (hne : ds ≠ []) (hall : ∀ d ∈ ds, (s.doc d).stall = .barrier n) :
    barrierCheck s id = ds.foldl docNext s := by
  cases ds with
  | nil => exact absurd rfl hne
  | cons d0 rest =>
    have hwait : (d0 :: rest).all (fun d => (s.doc d).stall.isBarrier) = true := by
      simp only [List.all_eq_true]
      intro d hd
      rw [hall d hd]
      rfl
    have hsame : (d0 :: rest).all (fun d => decide ((s.doc d).stall = (s.doc d0).stall)) = true := by
      simp only [List.all_eq_true, decide_eq_true_eq]
      intro d hd
      rw [hall d hd, hall d0 List.mem_cons_self]
    simp only [barrierCheck, hds, hwait, hsame, if_true]

/-- A docent that has not ended does not wait at a barrier: nothing happens yet. -/
theorem barrierCheck_waits (hds : notEnded s id = ds) (hsome : ∃ d ∈ ds, (s.doc d).stall.isBarrier = false) :
    barrierCheck s id = s := by
  obtain ⟨d, hd, hd_free⟩ := hsome
  have hwait : ds.all (fun d => (s.doc d).stall.isBarrier) = false := List.all_eq_false.mpr ⟨d, hd, by rw [hd_free]; decide⟩
  cases ds with
  | nil => cases hd
  | cons d0 rest => simp only [barrierCheck, hds, hwait, Bool.false_eq_true, if_false]

end

end Sys2Proof.Machine

/-- Settles O20: a docent waits or goes on, and then its request is looked at for a halt. -/
theorem ticketsAndBarriersHoldDocents : Obligations.TicketsAndBarriersHoldDocents := by
  unfold Obligations.TicketsAndBarriersHoldDocents
  refine ⟨?waitDone, ?waitOpen, ?waitBad, ?waitall, ?poll, ?barrier, ?released, ?held, ?ended, ?ending, ?sync⟩
  case waitDone =>
    intro doc ra k id s hready harg hdone hreq hpc
    refine ⟨_, ozRun_ready hready, _, ?_, ozWait_eq harg hreq⟩
    rw [wake_wait, hdone]
    exact docNext_setDoc_becomes (x := { s.doc doc with stall := .wait k }) ⟨rfl, rfl, rfl, rfl⟩ hpc
  case waitOpen =>
    intro doc ra k id s hready harg hopen hreq
    refine ⟨_, ozRun_ready hready, _, ?_, ozWait_eq harg hreq⟩
    rw [wake_wait, hopen]
    exact docBecomes_setDoc ..
  case waitBad =>
    intro doc ra s hready harg
    exact exec_leaves (f := ozWait doc ra) rfl hready (ozWait_faults harg)
  case waitall =>
    intro doc id s hready hreq hpc
    refine ⟨_, ozRun_ready hready, _, ?_, ozWaitall_eq hreq⟩
    rw [wake_waitall]
    by_cases hopen : (s.doc doc).openT = []
    · rw [if_pos (List.isEmpty_iff.mpr hopen), if_pos hopen]
      exact docNext_setDoc_becomes (x := { s.doc doc with stall := .waitall }) ⟨rfl, rfl, rfl, rfl⟩ hpc
    · rw [if_neg (mt List.isEmpty_iff.mp hopen), if_neg hopen]
      exact docBecomes_setDoc ..
  case poll =>
    intro doc rd ra k s hready harg hpc
    exact exec_becomes (f := ozPoll doc rd ra) rfl hready (ozPoll_becomes harg hpc)
  case barrier =>
    intro doc n id s hready hreq
    exact ⟨_, ozRun_ready hready, _, docBecomes_setDoc .., ozBarrier_eq hreq⟩
  case released => exact fun id ds n s hds hne hall => barrierCheck_releases hds hne hall
  case held => exact fun id ds s hds hsome => barrierCheck_waits hds hsome
  case ended =>
    intro doc id s hready hreq hopen
    have hends := ozEnd_eq hreq
    rw [wake_ending hreq, if_pos (List.isEmpty_iff.mpr hopen)] at hends
    exact ⟨_, ozRun_ready hready, _, (docBecomes_setDoc s doc _).trans (docBecomes_setDoc ..), hends⟩
  case ending =>
    intro doc id s hready hreq hopen
    have hwaits := ozEnd_eq hreq
    rw [wake_ending hreq, if_neg (mt List.isEmpty_iff.mp hopen)] at hwaits
    exact ⟨_, ozRun_ready hready, _, docBecomes_setDoc .., hwaits⟩
  case sync => exact fun doc point s hready => exec_leaves (f := fun s => sync s doc point.toNat) rfl hready rfl

end

section
/-! PROOF. The events of a docent: the end of loading, the fault report, the watchdog, and the rounds of the arbiters (05 R143, R161 to
R167), and O21 from them. -/

open Sys2Proof Sys2Proof.Machine

namespace Sys2Proof.Machine

/-! ### The end of loading (05 R143, R144) -/

section
variable {s : State} {d id : Nat} {sram : DocSram}

/-- A docent that begins to execute. -/
def Docent.begins (x : Docent) (now : Nat) (sram : DocSram) : Docent :=
  { x with state := .running, dogStart := now, intervalStart := now, upsets := sram.upsets }

/-- A request one of whose docents begins to execute (10 R330). -/
def Req.begins (r : Req) (now : Nat) : Req :=
  { r with startTs := if r.startTs = 0 then now else r.startTs, dispTs := if r.lateClock then now else r.dispTs }

theorem docentLoadDone_starts (hreq : (s.doc d).req = some id) (hstate : (s.doc d).state = .loading)
    (hgood : ∀ g, sram.load ≠ .bad g) :
    docentLoadDone s d sram =
      (sramSaw (s.setDoc d ((s.doc d).begins s.now sram)) (docCell d) sram.load).updReq id fun r => r.begins s.now := by
  simp only [docentLoadDone, hreq, hstate, ne_eq, not_true, if_false]
  rw [← hreq]
  cases hload : sram.load with
  | bad g => exact absurd hload (hgood g)
  | clean => rfl
  | corrected => rfl

theorem docentLoadDone_bad {g : Nat} (hreq : (s.doc d).req = some id) (hstate : (s.doc d).state = .loading)
    (hload : sram.load = .bad g) :
    docentLoadDone s d sram = quarantine (sramUE s (docCell d) stDocent g) (40 + d) stDocent := by
  simp only [docentLoadDone, hreq, hstate, hload, ne_eq, not_true, if_false]

/-- The event finds no docent that loads. -/
theorem docentLoadDone_ignored (hnone : (s.doc d).req = none ∨ (s.doc d).state ≠ .loading) : docentLoadDone s d sram = s := by
  unfold docentLoadDone
  dsimp only
  split
  · rfl
  next hreq => exact if_pos (hnone.resolve_left (by rw [hreq]; exact Option.some_ne_none _))

end

/-! ### The report that stands (05 R164) -/

section
variable {a b c : DocFault × Nat}

theorem faultBefore_iff : faultBefore a b = true ↔ a.1.time < b.1.time ∨ a.1.time = b.1.time ∧
    (a.1.code.toNat < b.1.code.toNat ∨ a.1.code.toNat = b.1.code.toNat ∧ a.2 < b.2) := by
  simp [faultBefore, BitVec.toNat_inj]

/-- Reports that do not stand one before the other compare alike with a third. -/
theorem faultBefore_cotrans (h : faultBefore a c = true) : faultBefore a b = true ∨ faultBefore b c = true := by
  rw [faultBefore_iff] at h ⊢
  rw [faultBefore_iff]
  omega

/-- A report that does not stand before another is not earlier, and of two at one time has no lower code. -/
theorem order_of_not_faultBefore (h : faultBefore a b = false) :
    b.1.time < a.1.time ∨ b.1.time = a.1.time ∧ b.1.code.toNat ≤ a.1.code.toNat := by
  have hnot := mt faultBefore_iff.mpr (Bool.eq_false_iff.mp h)
  omega

/-- The first of some reports, where `a` is held already. -/
def earliestReport (a : DocFault × Nat) (l : List (DocFault × Nat)) : DocFault × Nat :=
  l.foldl (fun a b => if faultBefore b a then b else a) a

/-- The first report is one of them, and none stands before it. -/
theorem earliestReport_spec (a : DocFault × Nat) (l : List (DocFault × Nat)) :
    (earliestReport a l = a ∨ earliestReport a l ∈ l) ∧ ∀ x ∈ a :: l, faultBefore x (earliestReport a l) = false := by
  induction l generalizing a with
  | nil =>
    refine ⟨.inl rfl, fun x hx => ?_⟩
    obtain rfl := List.mem_singleton.mp hx
    simp [faultBefore, earliestReport]
  | cons b l ih =>
    have hstep : earliestReport a (b :: l) = earliestReport (if faultBefore b a then b else a) l := rfl
    obtain ⟨hmem, hmin⟩ := ih (if faultBefore b a then b else a)
    have hhead := hmin _ List.mem_cons_self
    rw [← hstep] at hmem hmin hhead
    have hboth : faultBefore a (earliestReport a (b :: l)) = false ∧ faultBefore b (earliestReport a (b :: l)) = false := by
      by_cases hb : faultBefore b a = true
      · rw [if_pos hb] at hhead
        refine ⟨Bool.eq_false_iff.mpr fun ha => ?_, hhead⟩
        rcases faultBefore_cotrans (b := b) ha with h | h
        · have h1 := faultBefore_iff.mp h
          have h2 := faultBefore_iff.mp hb
          omega
        · exact Bool.eq_false_iff.mp hhead h
      · rw [if_neg hb] at hhead
        refine ⟨hhead, Bool.eq_false_iff.mpr fun h => ?_⟩
        exact (faultBefore_cotrans h).elim hb (Bool.eq_false_iff.mp hhead)
    refine ⟨?_, ?_⟩
    · rcases hmem with h | h
      · rw [h]
        split
        · exact .inr List.mem_cons_self
        · exact .inl rfl
      · exact .inr (List.mem_cons_of_mem _ h)
    · intro x hx
      rcases List.mem_cons.mp hx with rfl | hx
      · exact hboth.1
      · rcases List.mem_cons.mp hx with rfl | hx
        · exact hboth.2
        · exact hmin x (List.mem_cons_of_mem _ hx)

end

/-! ### The fault report (05 R161, R164) -/

section
variable {s : State} {id : Nat} {f : DocFault}

/-- The reports of a request's docents, each with its docent's rank. -/
def faultReports (s : State) (id : Nat) : List (DocFault × Nat) :=
  (reqDocents s id).filterMap fun k => (s.doc k).fault.map fun g => (g, (s.doc k).rank)

/-- A request takes a report as its result, and counts the others. -/
def faultTaken (s : State) (id : Nat) (f : DocFault) (others : Nat) : State :=
  (settle s id f.code f.pc f.detail f.time).updReq id fun r => { r with later := r.later + others }

/-- The request ends with the report that stands, its work stops, and what its pin held up goes on. -/
theorem exec_docentFaultReport {doc : DocIx} (hfault : (s.doc doc).fault = some f) (hreq : (s.doc doc).req = some id) :
    exec (.docentFaultReport doc) s = .next (retireAll (stopWork (faultTaken s id
      (earliestReport (f, (s.doc doc).rank) (faultReports s id)).1 ((faultReports s id).length - 1)) id)) := by
  refine congrArg Host.Outcome.next ?_
  simp only [docentFaultReport, hfault, hreq]
  rfl

/-- The event finds no report. -/
theorem docentFaultReport_ignored {d : Nat} (hnone : (s.doc d).fault = none ∨ (s.doc d).req = none) :
    docentFaultReport s d = s := by
  unfold docentFaultReport
  dsimp only
  split
  next hfault hreq =>
    rcases hnone with h | h
    · exact absurd (h.symm.trans hfault) nofun
    · exact absurd (h.symm.trans hreq) nofun
  · rfl

theorem mem_faultReports {x : DocFault × Nat} :
    x ∈ faultReports s id ↔ ∃ k ∈ reqDocents s id, (s.doc k).fault = some x.1 ∧ (s.doc k).rank = x.2 := by
  simp only [faultReports, List.mem_filterMap, Option.map_eq_some_iff, Prod.ext_iff]
  exact ⟨fun ⟨k, hk, g, hg, hx1, hx2⟩ => ⟨k, hk, hx1 ▸ hg, hx2⟩,
    fun ⟨k, hk, hg, hx2⟩ => ⟨k, hk, x.1, hg, rfl, hx2⟩⟩

/-- With one report, it stands. -/
theorem earliestReport_single (a : DocFault × Nat) : earliestReport a [a] = a := ite_self a

end

/-! ### The watchdog (05 R163) -/

theorem exec_watchdogExpiry {doc : DocIx} {id : Nat} {s : State} (hreq : (s.doc doc).req = some id) :
    exec (.watchdogExpiry doc) s = .next (if (s.doc doc).state = .running ∧ (s.doc doc).stall ≠ .ended ∧
      (s.doc doc).stopped = false ∧ dogStopped s id = false then docFault s doc rWATCHDOG (s.doc doc).pc else s) := by
  show execWatchdogExpiry doc s = _
  simp only [execWatchdogExpiry, hreq, Bool.and_eq_true, decide_eq_true_eq, Bool.not_eq_true', and_assoc]

/-! ### A round (05 R166, R167) -/

section
variable {s : State} {a n : Nat} {cands : List (Nat × Nat)} {w : Nat × Nat}

theorem le_foldl_max (p : Nat × Nat → Nat) (l : List (Nat × Nat)) (m : Nat) :
    m ≤ l.foldl (fun m c => max m (p c)) m ∧ ∀ c ∈ l, p c ≤ l.foldl (fun m c => max m (p c)) m := by
  induction l generalizing m with
  | nil => exact ⟨le_rfl, fun _ hc => absurd hc List.not_mem_nil⟩
  | cons x l ih =>
    obtain ⟨hm, hl⟩ := ih (max m (p x))
    refine ⟨(le_max_left ..).trans hm, fun c hc => ?_⟩
    rcases List.mem_cons.mp hc with rfl | hc
    · exact (le_max_right ..).trans hm
    · exact hl c hc

/-- A fold that takes an element or keeps what it has ends with what it began with or with an element. -/
theorem foldl_takes_mem {α : Type} {f : Option α → α → Option α} (hf : ∀ o c, f o c = some c ∨ f o c = o)
    {l : List α} {o : Option α}
    {w : α} (h : l.foldl f o = some w) : o = some w ∨ w ∈ l := by
  induction l generalizing o with
  | nil => exact .inl h
  | cons x l ih =>
    rcases ih h with hx | hl
    · rcases hf o x with hfx | hfx
      · exact .inr (Option.some.inj (hfx.symm.trans hx) ▸ List.mem_cons_self)
      · exact .inl (hfx.symm.trans hx)
    · exact .inr (List.mem_cons_of_mem _ hl)

/-- The winner is a candidate, and no candidate has a higher effective priority. -/
theorem roundWinner_spec (h : roundWinner s a n cands = some w) :
    w ∈ cands ∧ ∀ c ∈ cands, effPrio s a c.2 ≤ effPrio s a w.2 := by
  unfold roundWinner at h
  dsimp only at h
  have hmem := (foldl_takes_mem (fun o c => ?takes) h).resolve_left nofun
  case takes =>
    cases o with
    | none => exact .inl rfl
    | some x =>
      dsimp only
      split
      · exact .inl rfl
      · exact .inr rfl
  obtain ⟨hw, hbest⟩ := List.mem_filter.mp hmem
  refine ⟨hw, fun c hc => ?_⟩
  rw [beq_iff_eq.mp hbest]
  exact (le_foldl_max (fun c => effPrio s a c.2) cands 0).2 c hc

theorem holdRound_arb (h : roundWinner s a n cands = some w) :
    ((holdRound s a n cands).arb a).grant = some w.2 ∧ ((holdRound s a n cands).arb a).last = w.1 := by
  simp only [holdRound, h, State.updArb_eq, State.arb_setArb_same, and_self]

/-- A candidate stands at its place among the arbiter's docents. -/
theorem mem_arbCands {arb : ArbIx} {c : Nat × Nat} (hc : c ∈ arbCands s arb) : (arbDocs s arb)[c.1]? = some c.2 := by
  obtain ⟨x, hx, hready⟩ := List.mem_filterMap.mp hc
  obtain ⟨-, hc⟩ := Option.ite_none_right_eq_some.mp hready
  cases hc
  exact List.mem_zipIdx_iff_getElem?.mp hx

end

end Sys2Proof.Machine

/-- Settles O21: the report that stands is the first of those that the request's docents hold. -/
theorem docentEventsLoadFaultAndExpire : Obligations.DocentEventsLoadFaultAndExpire := by
  unfold Obligations.DocentEventsLoadFaultAndExpire
  refine ⟨?loaded, ?loadBad, ?reportOne, ?report, ?watchdog, ?round, ?roundNone, ?winner⟩
  case loaded =>
    intro doc sram id s hreq hstate hload
    refine congrArg Host.Outcome.next ((docentLoadDone_starts hreq hstate (by rw [hload]; exact nofun)).trans ?_)
    rw [hload]
    rfl
  case loadBad => exact fun doc sram id g s hreq hstate hload => congrArg Host.Outcome.next (docentLoadDone_bad hreq hstate hload)
  case reportOne =>
    intro doc id f s hfault hreq hone
    have hreports : faultReports s id = [(f, (s.doc doc).rank)] := by simp [faultReports, hone, hfault]
    rw [exec_docentFaultReport hfault hreq, hreports, earliestReport_single]
    rfl
  case report =>
    intro doc id f s hfault hreq
    obtain ⟨hmem, hmin⟩ := earliestReport_spec (f, (s.doc doc).rank) (faultReports s id)
    have horder (j : Nat) (hj : j ∈ reqDocents s id) (h : DocFault) (hh : (s.doc j).fault = some h) :=
      order_of_not_faultBefore (hmin (h, (s.doc j).rank) (List.mem_cons_of_mem _ (mem_faultReports.mpr ⟨j, hj, hh, rfl⟩)))
    have hexec := exec_docentFaultReport hfault hreq
    rcases hmem with hown | hother
    · exact ⟨_, hexec, _, doc, _, .inl (congrArg Prod.fst hown), horder, rfl⟩
    · obtain ⟨k, hk, hg, -⟩ := mem_faultReports.mp hother
      exact ⟨_, hexec, _, k, _, .inr ⟨hk, hg⟩, horder, rfl⟩
  case watchdog =>
    intro doc id s hreq hstate hstall hstopped hdog
    rw [exec_watchdogExpiry hreq, if_pos ⟨hstate, hstall, hstopped, hdog⟩]
  case round =>
    intro u s hfree
    refine ⟨congrArg Host.Outcome.next ?_, fun c => mem_arbCands⟩
    simp only [arbiterRound, hfree, Option.isSome_none, Bool.false_eq_true, if_false]
  case roundNone =>
    intro u l s hruns
    refine congrArg Host.Outcome.next ?_
    simp only [arbiterRound, hruns, Option.isSome_some, if_true]
  case winner =>
    intro a n cands w s h
    obtain ⟨hmem, hmax⟩ := roundWinner_spec h
    exact ⟨hmem, hmax, holdRound_arb h⟩

end

section
/-! PROOF. A docent that begins, and what the end of a request's work leaves (05 R143, R161, R164). -/

open Sys2Proof Sys2Proof.Machine

namespace Sys2Proof.Machine

/-! ### A docent that begins (05 R143) -/

/-- A request that is updated is found as the update leaves it, and one that is not there is not found. -/
theorem findReq_updReq_map (s : State) (id : Nat) {f : Req → Req} (hid : ∀ x, (f x).id = x.id) :
    (s.updReq id f).findReq id = (s.findReq id).map f := by
  cases hreq : s.findReq id with
  | some r => exact findReq_updReq hid hreq
  | none =>
    have hnone := List.find?_eq_none.mp hreq
    refine List.find?_eq_none.mpr fun x hx => ?_
    obtain ⟨y, hy, rfl⟩ := List.mem_map.mp hx
    have hne : y.id ≠ id := by simpa using hnone y hy
    rw [if_neg hne]
    exact hnone y hy

/-- What an SRAM answered touches its die alone, and counts there where it corrected. -/
theorem sramSaw_frame {x : Sram} (s : State) (k : Nat) (hx : ∀ g, x ≠ .bad g) :
    sramSaw s k x = { s with dies := (sramSaw s k x).dies } ∧
    ((sramSaw s k x).die k).sramCe = if x = .corrected then satInc (s.die k).sramCe else (s.die k).sramCe := by
  cases x with
  | bad g => exact absurd rfl (hx g)
  | clean => exact ⟨rfl, rfl⟩
  | corrected => exact ⟨rfl, congrArg Die.sramCe (State.die_setDie_same ..)⟩

/-- A docent whose buffer is good begins, and its request's clocks with it; its cell counts a corrected error. -/
theorem docentLoadDone_spec {s : State} {d id : Nat} {sram : DocSram} (hreq : (s.doc d).req = some id)
    (hstate : (s.doc d).state = .loading) (hgood : ∀ g, sram.load ≠ .bad g) :
    (docentLoadDone s d sram).doc d = (s.doc d).begins s.now sram ∧
    (∀ k, k ≠ d → (docentLoadDone s d sram).doc k = s.doc k) ∧
    (docentLoadDone s d sram).findReq id = (s.findReq id).map (fun r => r.begins s.now) ∧
    ((docentLoadDone s d sram).die (docCell d)).sramCe =
      (if sram.load = .corrected then satInc (s.die (docCell d)).sramCe else (s.die (docCell d)).sramCe) ∧
    (docentLoadDone s d sram).units = s.units ∧ (docentLoadDone s d sram).launches = s.launches ∧
    (docentLoadDone s d sram).dram = s.dram ∧ (docentLoadDone s d sram).sp = s.sp ∧
    (docentLoadDone s d sram).cats = s.cats ∧ (docentLoadDone s d sram).arbs = s.arbs := by
  obtain ⟨hframe, hcounted⟩ := sramSaw_frame (s.setDoc d ((s.doc d).begins s.now sram)) (docCell d) hgood
  have hrequest := findReq_updReq_map (sramSaw (s.setDoc d ((s.doc d).begins s.now sram)) (docCell d) sram.load) id
    (f := fun r => r.begins s.now) fun _ => rfl
  rw [docentLoadDone_starts hreq hstate hgood, hrequest]
  rw [hframe] at hcounted ⊢
  obtain ⟨-, hdoc, hothers⟩ := docBecomes_setDoc s d ((s.doc d).begins s.now sram)
  exact ⟨hdoc, hothers, rfl, hcounted, rfl, rfl, rfl, rfl, rfl, rfl⟩

/-! ### The end of a request's work (05 R161) -/

section
variable (s : State) (id : Nat)

theorem dropGrants_frame (docs : List Nat) : dropGrants s docs = { s with arbs := (dropGrants s docs).arbs } := by
  refine List.foldlRecOn _ _ (motive := fun t : State => t = { s with arbs := t.arbs }) rfl fun t ht a _ => ?_
  rw [ht]
  split <;> rfl

/-- A docent that holds no request any more. -/
def clearedDoc (s : State) (d : Nat) : Docent :=
  { Docent.init with state := if (s.unit (40 + d)).out then .quarantined else .idle }

theorem foldl_docClear (docs : List Nat) :
    docs.foldl docClear s = { s with docents := (docs.foldl docClear s).docents } ∧
      ∀ d, (docs.foldl docClear s).doc d = if d ∈ docs then clearedDoc s d else s.doc d := by
  induction docs generalizing s with
  | nil => exact ⟨rfl, fun d => rfl⟩
  | cons e docs ih =>
    obtain ⟨hframe, hdoc⟩ := ih (docClear s e)
    refine ⟨hframe, fun d => (hdoc d).trans ?_⟩
    by_cases hd : d ∈ docs
    · rw [if_pos hd, if_pos (List.mem_cons_of_mem _ hd)]
      rfl
    · rw [if_neg hd, docClear, State.doc_setDoc]
      by_cases he : d = e
      · subst he
        rw [if_pos rfl]
        exact (if_pos List.mem_cons_self).symm
      · rw [if_neg he, if_neg (by simp [he, hd])]

/-- A read that is not the default is listed. -/
theorem Tbl.mem_of_get_ne {α : Type} {d : α} {t : Tbl α} {k : Nat} (h : Tbl.get d t k ≠ d) : (k, Tbl.get d t k) ∈ t := by
  induction t with
  | nil => exact absurd rfl h
  | cons e t ih =>
    obtain ⟨k', v⟩ := e
    rw [Tbl.get] at h ⊢
    split at h
    next hk => rw [if_pos hk, hk]; exact List.mem_cons_self
    next hk => rw [if_neg hk]; exact List.mem_cons_of_mem _ (ih h)

/-- The docents that hold a request. -/
def docsOf (s : State) (id : Nat) : List Nat := (s.docents.filter fun e => decide (e.2.req = some id)).map (·.1)

/-- What remains of the state once the docents are cleared and their grants dropped. -/
theorem stopWork_frame : stopWork s id = { s with
    docents := (stopWork s id).docents, arbs := (stopWork s id).arbs,
    launches := s.launches.filter (fun l => l.req != id), batches := s.batches.filter (fun b => b.req != id),
    ckpts := s.ckpts.filter (fun c => c.req != id) } := by
  have hdrop := dropGrants_frame ((docsOf s id).foldl docClear s) (docsOf s id)
  rw [(foldl_docClear s (docsOf s id)).1] at hdrop
  unfold stopWork
  dsimp only
  rw [← docsOf, (foldl_docClear s (docsOf s id)).1, hdrop]

theorem stopWork_keeps : (stopWork s id).reqs = s.reqs ∧
    (stopWork s id).launches = s.launches.filter (fun l => l.req != id) ∧
    (stopWork s id).batches = s.batches.filter (fun b => b.req != id) ∧ (stopWork s id).dram = s.dram ∧
    (stopWork s id).sp = s.sp ∧ (stopWork s id).units = s.units ∧ (stopWork s id).cats = s.cats := by
  rw [stopWork_frame]
  exact ⟨rfl, rfl, rfl, rfl, rfl, rfl, rfl⟩

theorem stopWork_doc (d : Nat) : (stopWork s id).doc d = if d ∈ docsOf s id then clearedDoc s d else s.doc d := by
  rw [← (foldl_docClear s (docsOf s id)).2 d]
  have hdrop := congrArg (fun t : State => t.doc d) (dropGrants_frame ((docsOf s id).foldl docClear s) (docsOf s id))
  exact hdrop

variable {s id}

/-- A docent whose request is `id` holds it. -/
theorem mem_docsOf {d : Nat} (hreq : (s.doc d).req = some id) : d ∈ docsOf s id := by
  have hlisted : (d, s.doc d) ∈ s.docents := Tbl.mem_of_get_ne fun hinit : s.doc d = Docent.init => by
    rw [hinit] at hreq
    cases hreq
  exact List.mem_map.mpr ⟨(d, s.doc d), List.mem_filter.mpr ⟨hlisted, decide_eq_true hreq⟩, rfl⟩

theorem not_mem_docsOf {d : Nat} (hnone : ∀ e ∈ s.docents, e.1 = d → e.2.req ≠ some id) : d ∉ docsOf s id := by
  intro hd
  obtain ⟨e, he, hkey⟩ := List.mem_map.mp hd
  obtain ⟨hlisted, hreq⟩ := List.mem_filter.mp he
  exact hnone e hlisted hkey (of_decide_eq_true hreq)

/-- A request in progress ends with the failure that settles it. -/
theorem findReq_settle {r : Req} {code : Byte} {pc detail : W32} {time : Nat} (hreq : s.findReq id = some r)
    (hphase : r.phase ≠ .finished) : (settle s id code pc detail time).findReq id =
      some { r with result := code, faultPc := pc, detail := detail, endTs := time, phase := .finished } := by
  rw [settle]
  refine (findReq_updReq (fun x => ?_) hreq).trans (congrArg some (if_neg fun h => hphase h.1))
  dsimp only
  split_ifs <;> rfl

theorem findReq_faultTaken {r : Req} {f : DocFault} (hreq : s.findReq id = some r) (hphase : r.phase ≠ .finished) :
    (faultTaken s id f 0).findReq id =
      some { r with result := f.code, faultPc := f.pc, detail := f.detail, endTs := f.time, phase := .finished } :=
  findReq_updReq (f := fun r => { r with later := r.later + 0 }) (fun _ => rfl) (findReq_settle hreq hphase)

end

/-- Where one docent of a request has faulted, its report is the only one. -/
theorem faultReports_single {s : State} {d id : Nat} {f : DocFault} (hfault : (s.doc d).fault = some f)
    (hone : (reqDocents s id).filter (fun k => ((s.doc k).fault).isSome) = [d]) : faultReports s id = [(f, (s.doc d).rank)] := by
  have hskip : faultReports s id = ((reqDocents s id).filter (fun k => ((s.doc k).fault).isSome)).filterMap
      fun k => (s.doc k).fault.map fun g => (g, (s.doc k).rank) := by
    rw [List.filterMap_filter]
    refine List.filterMap_congr fun k _ => ?_
    cases (s.doc k).fault <;> rfl
  rw [hskip, hone]
  simp [hfault]

end Sys2Proof.Machine
end

section
/-! PROOF. The rounds of every arbiter and the ages of their candidates (05 R166, R167, 06 R191). -/

open Sys2Proof Sys2Proof.Machine

namespace Sys2Proof.Machine

/-! ### A round at an arbiter (05 R166, R167) -/

section
variable {s : State}

theorem engArb_arbEngine {arb : ArbIx} (hgpe : ∀ g v, arb ≠ .gpe g v) : engArb (arbEngine arb) = some (arbKey arb) := by
  cases arb with
  | gpe g v => exact absurd rfl (hgpe g v)
  | mu u => rfl
  | ve c rows => rfl
  | ru c rows => rfl
  | strm e lines hm => rfl

/-- The burst ends, a round is held, and the winner's work begins. -/
theorem arbiterRound_eq {arb : ArbIx} (hmu : ∀ u, arb = .mu u → granted s (.mu u) = none) (hgpe : ∀ g v, arb ≠ .gpe g v) :
    arbiterRound s arb = beginWork (holdRound (endedBurst s arb) (arbKey arb) (arbDocs (endedBurst s arb) arb).length
      (arbCands (endedBurst s arb) arb)) (arbEngine arb) := by
  cases arb with
  | gpe g v => exact absurd rfl (hgpe g v)
  | mu u =>
    simp only [arbiterRound, hmu u rfl, Option.isSome_none, Bool.false_eq_true, if_false]
    rfl
  | ve c rows => rfl
  | ru c rows => rfl
  | strm e lines hm => rfl

/-- What begins keeps the grants. -/
theorem beginWork_arbs (e : Engine) : (beginWork s e).arbs = s.arbs := by
  unfold beginWork
  cases granted s e with
  | none => rfl
  | some l => cases e <;> dsimp only <;> split_ifs <;> rfl

/-- The launch that an engine is granted has begun. -/
theorem beginWork_begun {e : Engine} {l : Launch} (hgrant : granted s e = some l) (hnew : l.begun = false) :
    ∀ x ∈ (beginWork s e).launches, x.doc = l.doc → x.ticket = l.ticket → x.begun = true := by
  intro x hx hdoc hticket
  simp only [beginWork, hgrant, hnew, Bool.false_eq_true, if_false] at hx
  obtain ⟨y, -, rfl⟩ := List.mem_map.mp hx
  by_cases hy : y.doc = l.doc ∧ y.ticket = l.ticket
  · rw [if_pos hy]
  · rw [if_neg hy] at hdoc hticket
    exact absurd ⟨hdoc, hticket⟩ hy

theorem granted_of_grant {e : Engine} {a d : Nat} (he : engArb e = some a) (hgrant : (s.arb a).grant = some d) :
    granted s e = readyHead s d e := by
  simp only [granted, he, hgrant]

theorem holdRound_nil (a n : Nat) : holdRound s a n [] = s.updArb a fun x => { x with grant := none } := rfl

/-- Without a grant no work begins. -/
theorem beginWork_free {e : Engine} {a : Nat} (he : engArb e = some a) (hfree : (s.arb a).grant = none) : beginWork s e = s := by
  simp only [beginWork, granted, he, hfree]

/-- A round without candidates grants nothing. -/
theorem arbiterRound_nil {arb : ArbIx} (hmu : ∀ u, arb = .mu u → granted s (.mu u) = none)
    (hnone : arbCands (endedBurst s arb) arb = []) :
    arbiterRound s arb = (endedBurst s arb).updArb (arbKey arb) fun x => { x with grant := none } := by
  have hfree : (((endedBurst s arb).updArb (arbKey arb) fun x => { x with grant := none }).arb (arbKey arb)).grant = none := by
    rw [State.updArb_eq, State.arb_setArb_same]
  by_cases hgpe : ∃ g v, arb = .gpe g v
  · obtain ⟨g, v, rfl⟩ := hgpe
    have hkey : arbKey (.gpe (Fin.ofNat 16 g.val) (Fin.ofNat 16 v.val)) = arbKey (.gpe g v) := by simp
    have hcands : arbCands s (.gpe g v) = [] := hnone
    simp only [arbiterRound, hcands, holdRound_nil, gpeAccept, hkey]
    rw [show ((s.updArb (arbKey (.gpe g v)) fun x => { x with grant := none }).arb (arbKey (.gpe g v))).grant = none from hfree]
    rfl
  · have hne (g : Fin 16) (v : WingIx) : arb ≠ .gpe g v := fun h => hgpe ⟨g, v, h⟩
    rw [arbiterRound_eq hmu hne, hnone, holdRound_nil]
    exact beginWork_free (engArb_arbEngine hne) hfree

theorem length_arbDocs_gpe (g : Fin 16) (v : WingIx) : (arbDocs s (.gpe g v)).length = 32 := by
  simp [arbDocs, posDocs]

/-- A round at a GPE's port accepts lookups of the winner's head batch. -/
theorem arbiterRound_gpe {g : Fin 16} {v : WingIx} {w : Nat × Nat} {s1 : State} {b : Batch}
    (hwin : roundWinner s (arbKey (.gpe g v)) 32 (arbCands s (.gpe g v)) = some w)
    (hround : s1 = holdRound s (arbKey (.gpe g v)) 32 (arbCands s (.gpe g v)))
    (hhead : (s1.batches.find? fun b => b.doc.val == w.2 && b.wing.val == v.val && !(waitingAt s1 g b).isEmpty) = some b) :
    arbiterRound s (.gpe g v) =
      s1.updBatch b fun x => { x with taken := x.taken ++ (waitingAt s1 g b).take (min 64 (gpeRoom s1 g v)) } := by
  have hkey : arbKey (.gpe (Fin.ofNat 16 g.val) (Fin.ofNat 16 v.val)) = arbKey (.gpe g v) := by simp
  have hgrant : (s1.arb (arbKey (.gpe g v))).grant = some w.2 := hround ▸ (holdRound_arb hwin).1
  simp only [arbiterRound, length_arbDocs_gpe, ← hround, gpeAccept, hkey, hgrant, hhead]

end

/-! ### The ages of a round's candidates (05 R167) -/

section
variable {s : State} {a n : Nat} {cands : List (Nat × Nat)} {w : Nat × Nat}

/-- What a round makes of a candidate. -/
def Docent.aged (x : Docent) (a : Nat) (won : Prop) [Decidable won] : Docent :=
  { x with ages := Tbl.set 0 x.ages a (if won then 0 else min 63 (x.age a + 1)) }

/-- Where each docent stands once, each is aged once. -/
theorem foldl_aged_doc {c : Nat × Nat} (won : Nat × Nat → Prop) [DecidablePred won]
    (hdocs : (cands.map (·.2)).Nodup) (hc : c ∈ cands) :
    (cands.foldl (fun s c => s.updDoc c.2 fun x => x.aged a (won c)) s).doc c.2 = (s.doc c.2).aged a (won c) := by
  induction cands generalizing s with
  | nil => cases hc
  | cons x l ih =>
    obtain ⟨hx, hl⟩ := List.nodup_cons.mp hdocs
    rw [List.foldl_cons]
    rcases List.mem_cons.mp hc with rfl | hc
    · refine List.foldlRecOn l _ (motive := fun t : State => t.doc c.2 = (s.doc c.2).aged a (won c))
        (State.doc_setDoc_same s c.2 ((s.doc c.2).aged a (won c))) fun t ht y hy => ?_
      rw [State.updDoc_eq, State.doc_setDoc, if_neg, ht]
      exact fun h => hx (List.mem_map.mpr ⟨y, hy, h.symm⟩)
    · rw [ih hl hc, State.updDoc_eq, State.doc_setDoc, if_neg]
      exact fun h => hx (List.mem_map.mpr ⟨c, hc, h⟩)

/-- The winner's age is 0, and a loser's rises by one to at most 63. -/
theorem holdRound_age {c : Nat × Nat} (hwin : roundWinner s a n cands = some w) (hdocs : (cands.map (·.2)).Nodup)
    (hplaces : (cands.map (·.1)).Nodup) (hc : c ∈ cands) :
    ((holdRound s a n cands).doc c.2).age a = if c = w then 0 else min 63 ((s.doc c.2).age a + 1) := by
  have haged := foldl_aged_doc (s := s) (a := a) (fun c => c.1 = w.1) hdocs hc
  have hdoc : (holdRound s a n cands).doc c.2 = (s.doc c.2).aged a (c.1 = w.1) := by
    rw [← haged]
    simp only [holdRound, hwin]
    rfl
  have hplace : c.1 = w.1 ↔ c = w :=
    ⟨fun h => List.inj_on_of_nodup_map hplaces hc (roundWinner_spec hwin).1 h, fun h => h ▸ rfl⟩
  rw [hdoc, Docent.aged, Docent.age, Tbl.get_set_same]
  simp only [hplace]

end

end Sys2Proof.Machine
end

section
/-! PROOF. Accesses to BAR2 (11 R365 to R367), and O60 from them and from the events of docents and arbiters. -/

open Sys2Proof Sys2Proof.Machine

namespace Sys2Proof.Machine

/-- An access to a function's BAR2 that reaches it: the part and its link are up, the function takes it, no earlier write holds a read
back, and its TDI takes it. -/
structure Bar2Open (s : State) (fn : Fn) (write tee : Bool) : Prop where
  alive : s.alive = true
  link : s.dlActive = true
  mem : memOpen s fn = true
  free : write = false → portHeld s fn = false
  tdi : teeOnly s fn = false ∨ tee = true

section
variable {s : State} {fn : Fn} {write tee : Bool} {off len n : Nat} {data : Bytes} (hopen : Bar2Open s fn write tee)
  (hn : n = min len (4096 - off % 4096))
include hopen hn

/-- What an access that is open does: it answers zeros past the scratchpads, reaches a target of its own, and violates another's. -/
theorem bar2Access_open : bar2Access s fn write off len data tee =
    if bar2End ≤ off then (if write then s else s.emit (.bar2Return fn (List.replicate n 0#8) false))
    else if (bar2Target s off).2 && (bar2Target s off).1.any (bar2Mine s fn) then
      (if write then bar2Write s fn off (fitTo n data) else bar2Read s fn off n)
    else if write then violate s (bar2Victim s fn off) 0
    else (violate s (bar2Victim s fn off) 0).emit (.bar2Return fn (List.replicate n 0#8) false) := by
  have hheld : (!write && portHeld s fn) = false := by
    cases hw : write with
    | true => rfl
    | false => exact hopen.free hw
  have htee : (teeOnly s fn && !tee) = false := by
    rcases hopen.tdi with h | h <;> simp [h]
  simp only [bar2Access, hopen.alive, hopen.link, hopen.mem, hheld, htee, Bool.not_true, Bool.or_false,
    Bool.false_eq_true, if_false, ← hn]
  cases (bar2Target s off).1 <;> rfl

theorem bar2Access_outside (hoff : bar2End ≤ off) : bar2Access s fn write off len data tee =
    if write then s else s.emit (.bar2Return fn (List.replicate n 0#8) false) := by
  rw [bar2Access_open hopen hn, if_pos hoff]

theorem bar2Access_mine {w : WingIx} (hoff : off < bar2End) (htarget : bar2Target s off = (some w, true))
    (hmine : bar2Mine s fn w = true) : bar2Access s fn write off len data tee =
      if write then bar2Write s fn off (fitTo n data) else bar2Read s fn off n := by
  rw [bar2Access_open hopen hn, if_neg (Nat.not_le.mpr hoff), htarget]
  exact if_pos hmine

theorem bar2Access_violates (hoff : off < bar2End)
    (hother : (bar2Target s off).2 = false ∨ ∀ w, (bar2Target s off).1 = some w → bar2Mine s fn w = false) :
    bar2Access s fn write off len data tee = if write then violate s (bar2Victim s fn off) 0
      else (violate s (bar2Victim s fn off) 0).emit (.bar2Return fn (List.replicate n 0#8) false) := by
  rw [bar2Access_open hopen hn, if_neg (Nat.not_le.mpr hoff), if_neg]
  rcases hother with h | h
  · simp [h]
  · rw [Bool.and_eq_true, not_and, Bool.not_eq_true, Option.any_eq_false]
    exact fun _ w hw => by rw [h w hw]

end

theorem bar2Read_dram {s : State} {fn : Fn} {off n : Nat} (hoff : off < bar2Sp) (hmode : s.vlt.mode ≠ .error) :
    bar2Read s fn off n = match dramRead s off n with
      | some b => s.emit (.bar2Return fn b false)
      | none => (dramReadFail s off n).emit (.bar2Return fn (List.replicate n 0#8) true) :=
  (if_pos hoff).trans (if_neg hmode)

end Sys2Proof.Machine

/-- Settles O60: a docent's event or an arbiter's round leaves what its operation leaves, and an access to BAR2 that is open comes to its
target. -/
theorem docentEventsRoundsAndBar2Complete : Obligations.DocentEventsRoundsAndBar2Complete := by
  unfold Obligations.DocentEventsRoundsAndBar2Complete
  refine ⟨?loaded, ?loadBad, ?loadNone, ?report, ?reportNone, ?watchdog, ?watchdogStopped, ?round, ?roundBusy, ?roundNone, ?roundGpe,
    ?ages, ?mine, ?dram, ?scratchpad, ?violation, ?outside⟩
  case loaded =>
    intro doc sram id s hreq hstate hgood
    obtain ⟨hdoc, hothers, hrequest, hcounted, hkept⟩ := docentLoadDone_spec hreq hstate hgood
    exact ⟨docentLoadDone s doc sram, rfl, hdoc, hothers, hrequest, hcounted, hkept⟩
  case loadBad => exact fun doc sram id g s hreq hstate hload => congrArg Host.Outcome.next (docentLoadDone_bad hreq hstate hload)
  case loadNone => exact fun doc sram s hnone => congrArg Host.Outcome.next (docentLoadDone_ignored hnone)
  case report =>
    intro doc id f r s hfault hreq hfound hphase hone
    have hexec := exec_docentFaultReport hfault hreq
    rw [faultReports_single hfault hone, earliestReport_single] at hexec
    obtain ⟨hreqs, hkept⟩ := stopWork_keeps (faultTaken s id f 0) id
    refine ⟨_, stopWork (faultTaken s id f 0) id, hexec, rfl, ?result, ?cleared, ?kept, hkept⟩
    case result => exact (congrArg (List.find? _) hreqs).trans (findReq_faultTaken hfound hphase)
    case cleared => exact fun d hd => (stopWork_doc _ id d).trans (if_pos (mem_docsOf (s := s) hd))
    case kept => exact fun d hd => (stopWork_doc _ id d).trans (if_neg (not_mem_docsOf (s := s) hd))
  case reportNone => exact fun doc s hnone => congrArg Host.Outcome.next (docentFaultReport_ignored hnone)
  case watchdog =>
    intro doc id s hreq hstate hstall hstopped hfault hdog
    rw [exec_watchdogExpiry hreq, if_pos ⟨hstate, hstall, hstopped, hdog⟩, docFault, docFaultWith_first _ _ _ hfault]
  case watchdogStopped =>
    intro doc id s hreq hidle
    rw [exec_watchdogExpiry hreq, if_neg]
    rintro ⟨hstate, hstall, hstopped, hdog⟩
    simp [hstate, hstall, hstopped, hdog] at hidle
  case round =>
    intro arb s s1 w hs1 hmu hgpe hwin
    subst hs1
    have hgrant := holdRound_arb hwin
    refine ⟨_, congrArg Host.Outcome.next (arbiterRound_eq hmu hgpe), rfl, ?_, ?_, fun l hl x hx hdoc hticket hnew => ?_⟩
    · rw [State.arb, beginWork_arbs]
      exact hgrant.1
    · rw [State.arb, beginWork_arbs]
      exact hgrant.2
    · exact beginWork_begun ((granted_of_grant (engArb_arbEngine hgpe) hgrant.1).trans hl) hnew x hx hdoc hticket
  case roundBusy =>
    intro u l s hruns
    refine congrArg Host.Outcome.next ?_
    simp only [arbiterRound, hruns, Option.isSome_some, if_true]
  case roundNone =>
    intro arb s s1 hs1 hmu hnone
    subst hs1
    exact congrArg Host.Outcome.next (arbiterRound_nil hmu hnone)
  case roundGpe =>
    exact fun g v s s1 w b hwin hround hhead => congrArg Host.Outcome.next (arbiterRound_gpe hwin hround hhead)
  case ages => exact fun s a n cands w hwin hdocs hplaces c hc => holdRound_age hwin hdocs hplaces hc
  case mine =>
    intro fn w write off len data tee s n halive hlink hmem hfree htdi hoff htarget hmine hn
    exact congrArg Host.Outcome.next (bar2Access_mine ⟨halive, hlink, hmem, hfree, htdi⟩ hn hoff htarget hmine)
  case dram =>
    intro fn off n b s hoff hmode
    rw [bar2Read_dram hoff hmode]
    exact ⟨fun h => by rw [h], fun h => by rw [h]⟩
  case scratchpad =>
    intro fn off n data s hoff
    exact ⟨if_neg (Nat.not_lt.mpr hoff), if_neg (Nat.not_lt.mpr hoff)⟩
  case violation =>
    intro fn write off len data tee s n halive hlink hmem hfree htdi hn hoff hother
    exact congrArg Host.Outcome.next (bar2Access_violates ⟨halive, hlink, hmem, hfree, htdi⟩ hn hoff hother)
  case outside =>
    intro fn write off len data tee s n halive hlink hmem hfree htdi hn hoff
    exact congrArg Host.Outcome.next (bar2Access_outside ⟨halive, hlink, hmem, hfree, htdi⟩ hn hoff)

end

section
/-! PROOF. The reads, partials and end of a gather batch, the scratchpad it writes, and the pins of the row cache (06 R181, R188 to
R199, 12 R387), and O23 from them. -/

open Sys2Proof Sys2Proof.Machine

namespace Sys2Proof.Machine

/-! ### The read of a lookup's row (06 R191, R193, R196) -/

/-- Nothing upsets a read that every SRAM on its way answers cleanly. -/
theorem rowUpset_clean (s : State) (k g : Nat) (b : Batch) (entry : Bool) : rowUpset s k g b entry .clean = (s, true) := rfl

/-- Lookup `i` of a batch, accepted by a GPE that serves its bag, whose row this unit holds on stack `k` at home slot `home`. -/
structure RowAccepted (s : State) (d : Nat) (ticket : W16) (b : Batch) (t : Table) (i bag : Nat) (row w : W32) (j k home : Nat) :
    Prop where
  batch : findBatch s d ticket = some b
  table : s.table b.table = some t
  running : b.failed = none
  lookup : b.lookups[i]? = some (bag, row, w)
  taken : b.taken.contains i = true
  vault : s.vlt.mode ≠ .error
  place : rowPlace s t row.toNat = some (j, k, home)
  served : (servingGPE s (bagGPE s k bag)).isSome = true

/-- The lookup is counted and its read no longer outstanding. -/
def rowCounted (s : State) (b : Batch) (i : Nat) : State :=
  (s.updWing b.wing fun x => { x with lookups := satInc x.lookups }).updBatch b fun x =>
    { x with taken := x.taken.filter (· != i) }

section
variable {s : State} {d : Nat} {ticket : W16} {b : Batch} {t : Table} {i bag : Nat} {row w : W32} {j k home : Nat}
  (hrow : RowAccepted s d ticket b t i bag row w j k home)
include hrow

/-- Nothing drops the read. -/
theorem RowAccepted.goesOn : (b.failed.isSome || !b.taken.contains i || decide (s.vlt.mode = .error)) = false := by
  rw [hrow.running, hrow.taken, decide_eq_false hrow.vault]
  rfl

theorem RowAccepted.serving : (servingGPE s (bagGPE s k bag)).isNone = false := Option.isNone_eq_false_iff.mpr hrow.served

theorem gpeRowRead_unwritten {l : Launch} (hlaunch : batchLaunch s b = some l)
    (hslot : versionSlot s k b.table row.toNat home b.epoch = slotUnwritten) :
    gpeRowRead s d ticket i .clean = (rowCounted s b i).updBatch b fun x => { x with
      rows := Tbl.set none x.rows i (some (rowTerms t.elem t.dim (decide (gbPool l.desc = 3)) w (List.replicate 16 0#8))) } := by
  rw [rowCounted]
  simp only [gpeRowRead, hrow.batch, hrow.table, hrow.lookup, hrow.goesOn, hrow.place, hrow.serving, rowUpset_clean,
    Bool.not_true, Bool.false_eq_true, if_false, hslot, hlaunch, if_true]

theorem gpeRowRead_uncorrectable {a : Nat} (hslot : versionSlot s k b.table row.toNat home b.epoch ≠ slotUnwritten)
    (hbad : slotRead (rowCounted s b i) b.wing t k (versionSlot s k b.table row.toNat home b.epoch) = .error a) :
    gpeRowRead s d ticket i .clean =
      gpeFail (poison (rowCounted s b i) a) b rUNCORRECTABLE_MEMORY (bagGPE s k bag) := by
  rw [rowCounted] at hbad ⊢
  simp only [gpeRowRead, hrow.batch, hrow.table, hrow.lookup, hrow.goesOn, hrow.place, hrow.serving, rowUpset_clean,
    Bool.not_true, Bool.false_eq_true, if_false, hslot, hbad]

theorem gpeRowRead_written {l : Launch} {bytes : Bytes} (hlaunch : batchLaunch s b = some l)
    (hslot : versionSlot s k b.table row.toNat home b.epoch ≠ slotUnwritten)
    (hread : slotRead (rowCounted s b i) b.wing t k (versionSlot s k b.table row.toNat home b.epoch) = .ok bytes)
    (hheader : headerCheck t bytes = none) :
    gpeRowRead s d ticket i .clean =
      (cacheRead
        (if (slotPieces t k (versionSlot s k b.table row.toNat home b.epoch)).all (cacheHit (rowCounted s b i) b.wing) then
          (rowCounted s b i).updWing b.wing fun x => { x with hits := satInc x.hits } else rowCounted s b i)
        b.wing
        (decide ((if gbCache l.desc = 0 then tdCacheMode t.desc else if gbCache l.desc = 1 then 1 else 0) = 0))
        (slotPieces t k (versionSlot s k b.table row.toNat home b.epoch))).updBatch b fun x => { x with
          rows := Tbl.set none x.rows i (some (rowTerms t.elem t.dim (decide (gbPool l.desc = 3)) w bytes)) } := by
  rw [rowCounted] at hread ⊢
  simp only [gpeRowRead, hrow.batch, hrow.table, hrow.lookup, hrow.goesOn, hrow.place, hrow.serving, rowUpset_clean,
    Bool.not_true, Bool.false_eq_true, if_false, hslot, hlaunch, hread, hheader]
  rfl

end

/-! ### Row headers (06 R181, R182) -/

section
variable {t : Table} {row : Bytes}

theorem headerCheck_zero (hzero : allZero (slice row 0 16) = true) : headerCheck t row = none := if_pos hzero

theorem headerCheck_version (hsome : allZero (slice row 0 16) = false) (hmajor : leAt row 10 1 / 16 ≠ 1) :
    headerCheck t row = some rVERSION_UNSUPPORTED := by
  rw [headerCheck, if_neg (by simp [hsome]), if_pos hmajor]

theorem headerCheck_format (hsome : allZero (slice row 0 16) = false) (hmajor : leAt row 10 1 / 16 = 1)
    (hformat : leAt row 8 1 ≠ t.elem) : headerCheck t row = some rFORMAT_UNSUPPORTED := by
  rw [headerCheck, if_neg (by simp [hsome]), if_neg (not_not.mpr hmajor), if_pos hformat]

theorem headerCheck_passes (hmajor : leAt row 10 1 / 16 = 1) (hformat : leAt row 8 1 = t.elem) : headerCheck t row = none := by
  rw [headerCheck, if_neg (not_not.mpr hmajor), if_neg (not_not.mpr hformat), ite_self]

end

/-! ### Partials (06 R193, 12 R387) -/

/-- Word `i` of a row of words, whatever follows them. -/
theorem leAt_words (l : List W32) (rest : Bytes) {i : Nat} (hi : i < l.length) :
    leAt (l.flatMap (fun e => leBytes 4 e.toNat) ++ rest) (4 * i) 4 = l[i].toNat := by
  induction l generalizing i with
  | nil => simp at hi
  | cons x l ih =>
    rw [List.flatMap_cons, List.append_assoc]
    cases i with
    | zero =>
      rw [leAt_append_left (by simp)]
      exact leAt_leBytes_toNat (by decide) x
    | succ i =>
      rw [leAt_append_right (by simp), length_leBytes, show 4 * (i + 1) - 4 = 4 * i by omega, ih (by simpa using hi)]
      rfl

theorem length_words (l : List W32) : (l.flatMap fun e => leBytes 4 e.toNat).length = 4 * l.length := by
  induction l with
  | nil => rfl
  | cons x l ih => simp only [List.flatMap_cons, List.length_append, length_leBytes, List.length_cons, ih]; omega

/-- The receiver reads the partial that the producer formed. -/
theorem partOf_partBytes {dim : Nat} (bag g : Nat) {v : List W32 × Nat} (hlen : v.1.length = dim) (hcount : v.2 < 2 ^ 32) :
    partOf dim bag g (partBytes v) = { bag := bag, gpos := g, vec := v.1, n := v.2 } := by
  have hvec : ((List.range dim).map fun i => BitVec.ofNat 32 (leAt (partBytes v) (4 * i) 4)) = v.1 := by
    refine List.ext_getElem (by simp [hlen]) fun i _ hi => ?_
    simp [partBytes, leAt_words v.1 _ hi]
  have hn : leAt (partBytes v) (4 * dim) 4 = v.2 := by
    have hwords := length_words v.1
    rw [partBytes, leAt_append_right (by omega), hwords, hlen, Nat.sub_self, leAt_leBytes_of_lt (by omega)]
  rw [partOf, hvec, hn]

/-- Altered bytes under a digest that is not theirs are not taken. -/
theorem takeCarried_mismatch {head data payload : Bytes} {digest : W64} (hdigest : digestOf head data ≠ digest) :
    takeCarried (.altered data digest) head payload = none := if_neg hdigest

/-- A batch waits for the partial `v` of a bag from a stripe position above 0 of this unit, whose stack has pooled it. -/
structure PartialDue (s : State) (d : Nat) (ticket : W16) (b : Batch) (t : Table) (bag g : Nat) (l : Launch)
    (v : List W32 × Nat) : Prop where
  batch : findBatch s d ticket = some b
  table : s.table b.table = some t
  running : b.failed = none
  fresh : (b.parts.any fun x => x.bag == bag && x.gpos == g) = false
  other : ownGpos s t g = false
  lookups : (bagLookups s b t bag g).isEmpty = false
  localPos : localGpos s t g = true
  launch : batchLaunch s b = some l
  pooled : localPart s b t (decide (gbPool l.desc = 2)) bag g = some v

section
variable {s : State} {d : Nat} {ticket : W16} {b : Batch} {t : Table} {bag g : Nat} {l : Launch} {v : List W32 × Nat}
  (hdue : PartialDue s d ticket b t bag g l v) {carried : Carried} (remote : Bytes)
include hdue

/-- Nothing drops the partial. -/
theorem PartialDue.waits : (b.failed.isSome || (b.parts.any fun x => x.bag == bag && x.gpos == g) || ownGpos s t g ||
    (bagLookups s b t bag g).isEmpty) = false := by
  rw [hdue.running, hdue.fresh, hdue.other, hdue.lookups]
  rfl

theorem partialReceive_taken {x : Bytes} (htake : takeCarried carried (partHead s b t bag g) (partBytes v) = some x) :
    partialReceive s d ticket bag g remote carried =
      s.updBatch b fun y => { y with parts := y.parts ++ [partOf t.dim bag g x] } := by
  simp only [partialReceive, hdue.batch, hdue.table, hdue.launch, hdue.waits, hdue.localPos, hdue.pooled, htake,
    Bool.false_eq_true, if_false, if_true]

theorem partialReceive_refused (htake : takeCarried carried (partHead s b t bag g) (partBytes v) = none) :
    partialReceive s d ticket bag g remote carried =
      gpeFail (digestFail s b.wing (8 + gposStack s t g) (8 + combineStack t) 0) b rDIGEST_MISMATCH
        (bagGPE s (combineStack t) bag) := by
  simp only [partialReceive, hdue.batch, hdue.table, hdue.launch, hdue.waits, hdue.localPos, hdue.pooled, htake,
    Bool.false_eq_true, if_false, if_true]

end

/-! ### The scratchpad -/

section
variable (s : State) (h off : Nat) (data : Bytes) (writer : Option (Nat × W16))

theorem spWrite_frame : spWrite s h off data writer =
    { s with sp := (spWrite s h off data writer).sp, spBad := (spWrite s h off data writer).spBad,
             launches := (spWrite s h off data writer).launches } := rfl

/-- A write moves no docent to another half-cell. -/
@[simp] theorem docHalf_spWrite (d : Nat) : docHalf (spWrite s h off data writer) d = docHalf s d := rfl

end

/-- A docent's writes, one after another, all go to the half-cell it stands in. -/
theorem foldl_spWrite_docHalf {α : Type} (d : Nat) (off : α → Nat) (data : α → Bytes) (writer : Option (Nat × W16)) (l : List α)
    (s : State) :
    l.foldl (fun t v => spWrite t (docHalf t d) (off v) (data v) writer) s =
      l.foldl (fun t v => spWrite t (docHalf s d) (off v) (data v) writer) s := by
  induction l generalizing s with
  | nil => rfl
  | cons x l ih => rw [List.foldl_cons, List.foldl_cons, ih, docHalf_spWrite]

/-! ### The end of a batch (06 R188, R189, 12 R387) -/

/-- Vectors that arrive as they were formed are all taken. -/
theorem takeVectors_intact (head : Nat → Bytes) (vs : List (Nat × Bytes)) :
    takeVectors head (arrivalOf []) vs = (vs, none) := by
  induction vs with
  | nil => rfl
  | cons v vs ih =>
    rw [takeVectors, show takeCarried (arrivalOf [] v.1) (head v.1) v.2 = some v.2 from rfl]
    dsimp only
    rw [ih]

section
variable {s : State} {d : Nat} {ticket : W16} {b : Batch} {t : Table} {l : Launch}

theorem gpeBatchDone_failed {f : Byte × W32} (hbatch : findBatch s d ticket = some b) (htable : s.table b.table = some t)
    (hfailed : b.failed = some f) (hlaunch : batchLaunch s b = some l) (arrivals : List (Nat × Carried)) :
    gpeBatchDone s d ticket arrivals = launchFail s l f.1 f.2 := by
  simp only [gpeBatchDone, hbatch, hlaunch, htable, hfailed]

/-- Every vector of the docent's head batch is written, and its ticket completes. -/
theorem gpeBatchDone_completes {rest : List Launch} {vecs : List (List W32 × Nat)} (hbatch : findBatch s d ticket = some b)
    (htable : s.table b.table = some t) (hrunning : b.failed = none) (hlaunch : batchLaunch s b = some l)
    (hhead : queueAt s d .gpe = l :: rest)
    (hvecs : ((List.range (gbBags l.desc)).map fun bag => (bagParts s b t (decide (gbPool l.desc = 2)) bag).map
      (combineParts (decide (gbPool l.desc = 2)) t.dim)) = vecs.map some)
    (hclean : l.dirty = false) :
    gpeBatchDone s d ticket [] = ticketDone (vecs.zipIdx.foldl (fun s' v => spWrite s' (docHalf s d)
      (gbOut l.desc + v.2 * gbStride l.desc) (pooledBytes (gbPool l.desc) (gbFmt l.desc) v.1) (some (d, ticket))) s) d ticket := by
  have hall : (vecs.map some).any Option.isNone = false := by simp
  have hformed : (vecs.map some).filterMap id = vecs := by simp
  have hfirst : decide ((queueAt s d .gpe).head? = some l) = true := by simp [hhead]
  simp only [gpeBatchDone, hbatch, hlaunch, htable, hrunning, hvecs, hall, hformed, hfirst, hclean, takeVectors_intact,
    Bool.not_true, Bool.or_self, Bool.false_eq_true, if_false, List.zipIdx_map, List.foldl_map, Prod.map_fst, Prod.map_snd]
  rfl

end

/-! ### Pinned lines (06 R198) -/

theorem cacheEvict_eq (s : State) (p : CacheLine → Bool) : cacheEvict s p = { s with cache := s.cache.eraseP p } := by
  rw [cacheEvict, List.eraseP_eq_eraseIdx]
  cases s.cache.findIdx? p <;> rfl

section
variable (s : State) (w : WingIx) (l : Nat)

theorem pinLine_frame : pinLine s w l = { s with cache := (pinLine s w l).cache } := by
  simp only [pinLine, cacheEvict_eq]
  split_ifs <;> rfl

theorem pinLine_pinned : ∃ x ∈ (pinLine s w l).cache, x.line = l ∧ x.wing = w ∧ x.pinned = true :=
  ⟨_, List.mem_append_right _ (List.mem_singleton_self _), rfl, rfl, rfl⟩

/-- What gives way is the wing's own older copy of the line, or a line that is not pinned. -/
theorem pinLine_keeps {x : CacheLine} (hx : x ∈ s.cache) (hpinned : x.pinned = true) (hother : ¬(x.line = l ∧ x.wing = w)) :
    x ∈ (pinLine s w l).cache := by
  have hstays : x ∈ s.cache.filter fun c => !(c.line == l && c.wing == w) := by
    refine List.mem_filter.mpr ⟨hx, ?_⟩
    simpa only [Bool.not_eq_true', Bool.and_eq_false_iff, beq_eq_false_iff_ne, ← not_and_or] using hother
  simp only [pinLine, cacheEvict_eq]
  refine List.mem_append_left _ ?_
  split_ifs
  · exact hstays
  · exact (List.mem_eraseP_of_neg (by simp [hpinned])).mpr hstays

end

/-! ### CAT_PIN and CAT_UNPIN (06 R198, R199) -/

/-- The lines that CAT_PIN adds: those of the named rows that the wing has not pinned. -/
def pinNew (s : State) (c : Cmd) (t : Table) : List Nat :=
  (pinLines s t (pinRanges c.payload)).filter fun l => !s.cache.any (pinnedBy (Fin.ofNat 16 c.wing.toNat) l)

section
variable {s : State} {c : Cmd} {t : Table} (hw : c.wing.toNat < 16) (htable : tableIn s c.wing.toNat (leAt c.payload 0 2) = some t)
  (hpass : firstFail (pinChecks c t) = none)
include hw htable hpass

/-- CAT_PIN past its checks looks for a line that it cannot read. -/
theorem catPin_passes (hroom : pinOver s (Fin.ofNat 16 c.wing.toNat) (pinNew s c t) = false) :
    catPin s c = match (pinNew s c t).find? fun l => (pieceRead s c.wing.toNat (l * 64) 64).isNone with
      | some l => (poison s (l * 64), .done rUNCORRECTABLE_MEMORY [])
      | none => ((pinNew s c t).foldl (fun s l => pinLine s (Fin.ofNat 16 c.wing.toNat) l) (scpCommit s c),
          .done rOK (leBytes 4 (pinNew s c t).length)) := by
  have hall : firstFail (pinChecks c t ++ [(pinOver s (Fin.ofNat 16 c.wing.toNat) (pinNew s c t), rRES_INSUFFICIENT)]) = none :=
    firstFail_append_eq_none_iff.mpr ⟨hpass, by rw [hroom]; rfl⟩
  simp only [catPin, wingOf_lt hw, htable]
  exact checked_pass hall

theorem catPin_pins (hroom : pinOver s (Fin.ofNat 16 c.wing.toNat) (pinNew s c t) = false)
    (hread : ∀ l ∈ pinNew s c t, (pieceRead s c.wing.toNat (l * 64) 64).isSome = true) :
    catPin s c = ((pinNew s c t).foldl (fun s l => pinLine s (Fin.ofNat 16 c.wing.toNat) l) (scpCommit s c),
      .done rOK (leBytes 4 (pinNew s c t).length)) := by
  have hfind : (pinNew s c t).find? (fun l => (pieceRead s c.wing.toNat (l * 64) 64).isNone) = none :=
    List.find?_eq_none.mpr fun l hl => by simpa using Option.isSome_iff_ne_none.mp (hread l hl)
  rw [catPin_passes hw htable hpass hroom, hfind]

theorem catPin_uncorrectable {l : Nat} (hroom : pinOver s (Fin.ofNat 16 c.wing.toNat) (pinNew s c t) = false)
    (hbad : (pinNew s c t).find? (fun l => (pieceRead s c.wing.toNat (l * 64) 64).isNone) = some l) :
    catPin s c = (poison s (l * 64), .done rUNCORRECTABLE_MEMORY []) := by
  rw [catPin_passes hw htable hpass hroom, hbad]

theorem catUnpin_releases {ls : List Nat} (hls : ls = (pinLines s t (pinRanges c.payload)).filter fun l =>
      s.cache.any (pinnedBy (Fin.ofNat 16 c.wing.toNat) l)) :
    catUnpin s c = ({ scpCommit s c with
        cache := (scpCommit s c).cache.map fun x =>
          if ls.any (fun l => pinnedBy (Fin.ofNat 16 c.wing.toNat) l x) then { x with pinned := false } else x },
      .done rOK (leBytes 4 ls.length)) := by
  subst hls
  simp only [catUnpin, wingOf_lt hw, htable]
  exact checked_pass hpass

end

end Sys2Proof.Machine

/-- Settles O23: a lookup's read, a partial's arrival and the end of a batch, what one write of a scratchpad and one pinned line
leave, and the two commands past their checks. -/
theorem gatherBatchesAndPinnedLines : Obligations.GatherBatchesAndPinnedLines := by
  unfold Obligations.GatherBatchesAndPinnedLines
  refine ⟨?written, ?unwritten, ?rowBad, ?header, ?partialKept, ?partialBytes, ?partialAltered, ?batchDone, ?batchFailed, ?write,
    ?pin, ?pinBad, ?unpin, ?line⟩
  case written =>
    rintro doc ticket b t lookup bag row w j k home bytes pieces l s1 s hbatch htable hrunning hlookup htaken hvault hplace hserved
      hlaunch hslot rfl rfl hread hheader
    exact congrArg Host.Outcome.next (gpeRowRead_written
      ⟨hbatch, htable, hrunning, hlookup, htaken, hvault, hplace, hserved⟩ hlaunch hslot hread hheader)
  case unwritten =>
    intro doc ticket b t lookup bag row w j k home l s hbatch htable hrunning hlookup htaken hvault hplace hserved hlaunch hslot
    exact congrArg Host.Outcome.next (gpeRowRead_unwritten
      ⟨hbatch, htable, hrunning, hlookup, htaken, hvault, hplace, hserved⟩ hlaunch hslot)
  case rowBad =>
    rintro doc ticket b t lookup bag row w j k home a s1 s hbatch htable hrunning hlookup htaken hvault hplace hserved rfl hslot hbad
    exact congrArg Host.Outcome.next (gpeRowRead_uncorrectable
      ⟨hbatch, htable, hrunning, hlookup, htaken, hvault, hplace, hserved⟩ hslot hbad)
  case header => exact fun t row => ⟨headerCheck_zero, headerCheck_version, headerCheck_format, headerCheck_passes⟩
  case partialKept =>
    intro doc ticket b t bag g remote v l s hbatch htable hrunning hfresh hother hlookups hlocal hlaunch hpooled
    exact congrArg Host.Outcome.next (partialReceive_taken
      ⟨hbatch, htable, hrunning, hfresh, hother, hlookups, hlocal, hlaunch, hpooled⟩ remote rfl)
  case partialBytes => exact fun dim bag g v hlen hcount => partOf_partBytes bag g hlen hcount
  case partialAltered =>
    intro doc ticket b t bag g remote data digest l s hbatch htable hrunning hfresh hother hlookups hlocal hlaunch hpooled hdigest
    obtain ⟨v, hv⟩ := Option.isSome_iff_exists.mp hpooled
    exact congrArg Host.Outcome.next (partialReceive_refused
      ⟨hbatch, htable, hrunning, hfresh, hother, hlookups, hlocal, hlaunch, hv⟩ remote (takeCarried_mismatch hdigest))
  case batchDone =>
    intro doc ticket b t l rest vecs s hbatch htable hrunning hlaunch hhead hvecs hclean
    rw [foldl_spWrite_docHalf doc.val (fun v : (List W32 × Nat) × Nat => gbOut l.desc + v.2 * gbStride l.desc)
      (fun v => pooledBytes (gbPool l.desc) (gbFmt l.desc) v.1)]
    exact congrArg Host.Outcome.next (gpeBatchDone_completes hbatch htable hrunning hlaunch hhead hvecs hclean)
  case batchFailed =>
    intro doc ticket b t l f ok s hbatch htable hfailed hlaunch
    exact congrArg Host.Outcome.next (gpeBatchDone_failed hbatch htable hfailed hlaunch ok)
  case write =>
    exact fun s h off data w => ⟨Mem.read_write_same s.sp _ data, fun a ha => Mem.get_write_other s.sp _ data a ha,
      spWrite_frame s h off data w⟩
  case pin =>
    rintro fn hub tag wing p c s t new rfl ha hw htable hpass rfl hroom hread
    exact scpExec_done ha (catPin_pins hw htable hpass hroom hread)
  case pinBad =>
    rintro fn hub tag wing p c s t new l rfl ha hw htable hpass rfl hroom hbad
    exact scpExec_done ha (catPin_uncorrectable hw htable hpass hroom hbad)
  case unpin =>
    rintro fn hub tag wing p c s t rfl ha hw htable hpass
    exact scpExec_done ha (catUnpin_releases hw htable hpass rfl)
  case line =>
    exact fun s w l => ⟨pinLine_pinned s w l, fun x hx hpinned hother => pinLine_keeps s w l hx hpinned hother, pinLine_frame s w l⟩

end

section
/-! PROOF. What an answer leaves of the catalogues and of the EPOCH_RETIREs that wait, and what becomes of a catalogue at its commit
point and at its discard (07 R230, R234 to R237). -/

open Sys2Proof Sys2Proof.Machine

namespace Sys2Proof.Machine

/-! ### A key that is written twice -/

section
variable {α β : Type}

theorem Tbl.put_put (t : Tbl α) (k : Nat) (a b : α) : Tbl.put (Tbl.put t k a) k b = Tbl.put t k b := by
  induction t with
  | nil => simp [Tbl.put]
  | cons e t ih =>
    obtain ⟨k', v'⟩ := e
    simp only [Tbl.put]
    split_ifs with heq hlt
    · simp [Tbl.put]
    · simp [Tbl.put]
    · simp [Tbl.put, heq, hlt, ih]

theorem Tbl.erase_put (t : Tbl α) (k : Nat) (a : α) :
    (Tbl.put t k a).filter (fun e => e.1 != k) = t.filter fun e => e.1 != k := by
  induction t with
  | nil => simp [Tbl.put]
  | cons e t ih =>
    obtain ⟨k', v'⟩ := e
    simp only [Tbl.put]
    split_ifs with heq hlt
    · simp [heq]
    · simp
    · simp [List.filter_cons, ih]

/-- The first write of a key leaves no trace once it is written again, if it listed an entry. -/
theorem Tbl.set_set [DecidableEq α] {d a : α} (ha : a ≠ d) (t : Tbl α) (k : Nat) (b : α) :
    Tbl.set d (Tbl.set d t k a) k b = Tbl.set d t k b := by
  simp only [Tbl.set, if_neg ha, Tbl.erase_put, Tbl.put_put]

/-- What is drawn from a table with a key listed depends on the listed value only by what is drawn from it. -/
theorem Tbl.filterMap_put {f : Nat × α → Option β} {k : Nat} {a b : α} (h : f (k, a) = f (k, b)) (t : Tbl α) :
    (Tbl.put t k a).filterMap f = (Tbl.put t k b).filterMap f := by
  induction t with
  | nil => simp [Tbl.put, List.filterMap_cons, h]
  | cons e t ih =>
    obtain ⟨k', v'⟩ := e
    simp only [Tbl.put]
    split_ifs <;> simp only [List.filterMap_cons, h, ih]

end

/-- Two writes of a catalogue, the first of one that has an open epoch. -/
theorem State.setCat_setCat (s : State) (k : Nat) {a : Cat} (ha : a.isOpen = true) (b : Cat) :
    (s.setCat k a).setCat k b = s.setCat k b := by
  have hne : a ≠ Cat.init := fun h => absurd (h ▸ ha) (by decide)
  simp only [State.setCat, Tbl.set_set hne]

/-! ### The answer of a command in progress (03 R82) -/

section
variable (s : State) (fn : Fn) (hub : Hub) (code : Byte) (p : Bytes)

theorem runFinish_frame : runFinish s fn hub code p =
    { s with
      mbx := (runFinish s fn hub code p).mbx, msix := (runFinish s fn hub code p).msix, out := (runFinish s fn hub code p).out,
      pcie := { s.pcie with held := (runFinish s fn hub code p).pcie.held } } := by
  unfold runFinish
  split
  next => exact scpFinish_frame ..
  next => rfl

@[simp] theorem runFinish_cats : (runFinish s fn hub code p).cats = s.cats := by rw [runFinish_frame]

@[simp] theorem runFinish_cat (k : Nat) : (runFinish s fn hub code p).cat k = s.cat k := by rw [State.cat, runFinish_cats]; rfl

/-- An answered mailbox is listed: its DONE is set. -/
theorem scpFinish_mbx (c : Cmd) : (scpFinish s c code p).mbx =
    Tbl.put s.mbx (mbxKey c.fn c.hub) ((s.mbox (mbxKey c.fn c.hub)).answered (scpResponse s c code p) code) := by
  have hlisted : (s.mbox (mbxKey c.fn c.hub)).answered (scpResponse s c code p) code ≠ Mbx.init :=
    fun h => absurd (congrArg Mbx.done h) (by simp [Mbx.answered, Mbx.init])
  rw [scpFinish_eq]
  dsimp only
  split_ifs
  · rw [msixRaise_frame]
    exact if_neg hlisted
  · exact if_neg hlisted

end

/-! ### The EPOCH_RETIREs that wait (07 R236) -/

section
variable {s : State} {w c : Nat}

/-- The EPOCH_RETIRE of a catalogue that one mailbox holds in progress. -/
def retireRun (w c : Nat) (e : Nat × Mbx) : Option (Fn × Hub × Run) :=
  match e.2.run with
  | some r =>
    if r.op = 0x0207 ∧ r.wing.toNat = w ∧ leAt r.payload 0 1 = c then some (Fin.ofNat 256 (e.1 / 2), Fin.ofNat 2 e.1, r) else none
  | none => none

theorem retireRuns_eq : retireRuns s w c = s.mbx.filterMap (retireRun w c) := rfl

@[simp] theorem retireRuns_setCat (k : Nat) (v : Cat) : retireRuns (s.setCat k v) w c = retireRuns s w c := rfl

theorem retireRun_answered (k : Nat) (m : Mbx) (rsp : Bytes) (code : Byte) : retireRun w c (k, m.answered rsp code) = none := rfl

/-- Which EPOCH_RETIREs wait after an answer does not depend on what the answer is. -/
theorem retireRuns_runFinish {t : State} (hmbx : t.mbx = s.mbx) (fn : Fn) (hub : Hub) (code code' : Byte) (p p' : Bytes) :
    retireRuns (runFinish t fn hub code p) w c = retireRuns (runFinish s fn hub code' p') w c := by
  have hbox : t.mbox (mbxKey fn hub) = s.mbox (mbxKey fn hub) := by rw [State.mbox, hmbx]; rfl
  unfold runFinish
  rw [hbox]
  split
  next =>
    rw [retireRuns_eq, retireRuns_eq, scpFinish_mbx, scpFinish_mbx, hmbx]
    exact Tbl.filterMap_put ((retireRun_answered ..).trans (retireRun_answered ..).symm) _
  next => rw [retireRuns_eq, retireRuns_eq, hmbx]

/-- An answer makes no EPOCH_RETIRE wait. -/
theorem retireRuns_runFinish_nil (hruns : retireRuns s w c = []) (fn : Fn) (hub : Hub) (code : Byte) (p : Bytes) :
    retireRuns (runFinish s fn hub code p) w c = [] := by
  unfold runFinish
  split
  next =>
    rw [retireRuns_eq, List.filterMap_eq_nil_iff] at hruns ⊢
    intro e he
    rw [scpFinish_mbx] at he
    obtain rfl | hmem := Tbl.mem_put _ _ _ _ he
    · exact retireRun_answered ..
    · exact hruns e hmem
  next => exact hruns

/-- What the look at the waiting EPOCH_RETIREs does with one of them. -/
def retireLook (w c : Nat) (s : State) (x : Fn × Hub × Run) : State :=
  let k := s.cat (catKey w c)
  let f := BitVec.ofNat 32 (leAt x.2.2.payload 4 4)
  let stage := x.2.2.data.headD 0
  if stage = waitL then
    if epLe f (oldestLive s w c) then runFinish s x.1 x.2.1 rOK [] else s
  else if stage = waitCommit ∧ k.commit.isNone then
    if k.isOpen then
      if fenced s k then runFinish s x.1 x.2.1 rPAIR_FENCED [] else runFinish (discardBegin s w c) x.1 x.2.1 rOK []
    else if epLe f (oldestLive s w c) then runFinish s x.1 x.2.1 rOK []
    else runUpdate s x.1 x.2.1 fun r => { r with data := [waitL] }
  else s

theorem retireLook_waitL {x : Fn × Hub × Run} (hstage : x.2.2.data.headD 0 = waitL) : retireLook w c s x =
    if epLe (BitVec.ofNat 32 (leAt x.2.2.payload 4 4)) (oldestLive s w c) then runFinish s x.1 x.2.1 rOK [] else s := if_pos hstage

theorem retirePoll_looks (hdue : (s.cat (catKey w c)).discardDue = false) :
    retirePoll s w c = (retireRuns s w c).foldl (retireLook w c) s := by
  have hs : (if (s.cat (catKey w c)).discardDue then discardBegin s w c else s) = s := if_neg (by simp [hdue])
  unfold retirePoll
  rw [hs]
  rfl

/-- No EPOCH_RETIRE waits, nor a discard. -/
theorem retirePoll_idle (hdue : (s.cat (catKey w c)).discardDue = false) (hruns : retireRuns s w c = []) : retirePoll s w c = s := by
  rw [retirePoll_looks hdue, hruns]
  rfl

theorem Cat.discardDue_of_none {k : Cat} (h : k.discardEp = none) : k.discardDue = false := by simp [Cat.discardDue, h]

theorem Cat.discardDue_of_closed {k : Cat} (h : k.isOpen = false) : k.discardDue = false := by simp [Cat.discardDue, h]

end

/-! ### The commit point and the end of a commit (07 R230) -/

section
variable {s : State} {w c : Nat}

/-- A catalogue that is not paired, at its commit point. -/
def Cat.committed (k : Cat) : Cat :=
  { k with vis := k.openEp, isOpen := false, limit := maxLimit, commit := none, discardEp := none }

theorem commitVisible_unpaired (hmode : (s.cat (catKey w c)).mode = 0) :
    commitVisible s w c = s.setCat (catKey w c) (s.cat (catKey w c)).committed := by
  simp only [commitVisible, catUpd, State.updCat_eq, hmode, if_true, Cat.committed]

theorem retirePoll_closed {k : Cat} (hopen : k.isOpen = false) (hruns : retireRuns s w c = []) :
    retirePoll (s.setCat (catKey w c) k) w c = s.setCat (catKey w c) k :=
  retirePoll_idle (Cat.discardDue_of_closed (by rw [State.cat_setCat_same, hopen])) hruns

/-- The commit point of a commit that no EPOCH_RETIRE waits for. -/
theorem commitPoint_unpaired {m : Commit} (hcommit : (s.cat (catKey w c)).commit = some m) (hmode : (s.cat (catKey w c)).mode = 0)
    (hruns : retireRuns (runFinish s m.fn m.hub rOK []) w c = []) : commitPoint s w c =
      runFinish (s.setCat (catKey w c) (s.cat (catKey w c)).committed) m.fn m.hub rOK (leBytes 8 s.now) := by
  have htail : retireRuns (runFinish (s.setCat (catKey w c) (s.cat (catKey w c)).committed) m.fn m.hub rOK (leBytes 8 s.now)) w c = [] :=
    (retireRuns_runFinish (State.setCat_mbx ..) m.fn m.hub rOK rOK _ []).trans hruns
  rw [commitPoint, hcommit]
  dsimp only
  rw [commitVisible_unpaired hmode]
  refine retirePoll_idle (Cat.discardDue_of_closed ?_) htail
  rw [runFinish_cat, State.cat_setCat_same]
  rfl

/-- A commit in progress ends with a code, and no EPOCH_RETIRE waits for that. -/
theorem commitEnd_alone {m : Commit} (code : Byte) (hcommit : (s.cat (catKey w c)).commit = some m)
    (hdiscard : (s.cat (catKey w c)).discardEp = none) (hruns : retireRuns s w c = []) : commitEnd s w c code =
      runFinish (s.setCat (catKey w c) { s.cat (catKey w c) with commit := none }) m.fn m.hub code [] := by
  have hdrop : commitDrop s w c code =
      runFinish (s.setCat (catKey w c) { s.cat (catKey w c) with commit := none }) m.fn m.hub code [] := by
    rw [commitDrop, hcommit]
    rfl
  rw [commitEnd, if_pos (Option.isSome_of_eq_some hcommit), hdrop]
  refine retirePoll_idle (Cat.discardDue_of_none ?_) (retireRuns_runFinish_nil ((retireRuns_setCat ..).trans hruns) ..)
  rw [runFinish_cat, State.cat_setCat_same]
  exact hdiscard

end

/-! ### The discard of the open epoch (07 R234) -/

section
variable {s : State} {w c : Nat}

/-- A catalogue whose open epoch begins to be discarded while it commits nothing. -/
def Cat.discards (k : Cat) : Cat :=
  { k with isOpen := false, discardEp := some k.openEp, busy := none, applied := false, follow := none, stall := 0, stallAt := none,
           stallRow := none }

theorem Cat.unstall_clearBusy (k : Cat) :
    k.clearBusy.unstall = { k with busy := none, applied := false, stall := 0, stallAt := none, stallRow := none } := by
  unfold Cat.clearBusy
  split_ifs <;> rfl

/-- The discard of a catalogue that is not paired, where nothing waits for it. -/
theorem discardBegin_alone (hmode : (s.cat (catKey w c)).mode = 0) (hcommit : (s.cat (catKey w c)).commit = none)
    (hdisable : (s.cat (catKey w c)).disableAfter = false) (hruns : retireRuns s w c = []) :
    discardBegin s w c = s.setCat (catKey w c) (s.cat (catKey w c)).discards := by
  have hbegin : (catUpd s w c fun k => { k.clearBusy.unstall with
      isOpen := false, discardEp := some k.openEp, follow := none,
      limit := if k.commit.isSome then maxLimit else k.limit }) = s.setCat (catKey w c) (s.cat (catKey w c)).discards := by
    rw [catUpd, State.updCat_eq, Cat.unstall_clearBusy, hcommit, Cat.discards, hcommit]
    rfl
  have hdrop : commitDrop (s.setCat (catKey w c) (s.cat (catKey w c)).discards) w c rNOT_PERMITTED =
      s.setCat (catKey w c) (s.cat (catKey w c)).discards := by
    rw [commitDrop, State.cat_setCat_same, Cat.discards, hcommit]
  have hsend : sendDiscard (s.setCat (catKey w c) (s.cat (catKey w c)).discards) w c (s.cat (catKey w c)).openEp =
      s.setCat (catKey w c) (s.cat (catKey w c)).discards := by
    rw [sendDiscard, State.cat_setCat_same]
    exact if_pos (.inl hmode)
  rw [discardBegin]
  dsimp only
  rw [hbegin, disablePoll_idle (by rw [State.cat_setCat_same]; exact hdisable), hdrop, hsend, discardAnswer, retireRuns_setCat, hruns]
  rfl

end

end Sys2Proof.Machine

end

section
/-! PROOF. The epoch commands, the ends of their waits, the discard, the forced retirement and the versions that are reclaimed (07 R206,
R216, R228 to R238), and O25 from them. -/

open Sys2Proof Sys2Proof.Machine

namespace Sys2Proof.Machine

/-! ### EPOCH_OPEN and EPOCH_COMMIT (07 R228 to R230) -/

theorem fenced_unpaired (s : State) {k : Cat} (hmode : k.mode = 0) : fenced s k = false := by simp [fenced, hmode]

section
variable {s : State} {c : Cmd} {w n : Nat} {k : Cat} (hw : c.wing.toNat = w) (hn : leAt c.payload 0 1 = n)
  (hk : s.cat (catKey w n) = k)
include hw hn hk

/-- The checks that the two commands share, for a catalogue that is not paired. -/
theorem epochChecks_unpaired (hwing : w < 16) (hcat : n < 8) (hstate : (s.wing w).state = .enabled) (hmode : k.mode = 0)
    (hsync : k.sync ≠ 4) (hz : zeroAt c.payload 1 3 = true) : firstFail (epochChecks s c) = none := by
  subst hw hn hk
  simp [epochChecks, firstFail_cons, badWing_passes hwing, hz, hcat, hstate, fenced_unpaired s hmode, hsync]

section
variable (hpass : firstFail (epochChecks s c) = none)
include hpass

theorem epochOpen_opens (hopen : k.isOpen = false) (hdiscard : k.discardEp = none)
    (hroom : (k.vis + 1 - oldestLive s w n).toNat < 2 ^ 31 - 1) : epochOpen s c =
      (s.setCat (catKey w n) { k with openEp := k.vis + 1, isOpen := true }, .done rOK (leBytes 4 (k.vis + 1).toNat)) := by
  subst hw hn hk
  unfold epochOpen
  dsimp only
  rw [checked_pass (firstFail_append_eq_none_iff.mpr ⟨hpass, ?_⟩)]
  · rfl
  · simp only [firstFail_cons, hopen, hdiscard, decide_eq_false (Nat.not_le.mpr hroom)]
    rfl

/-- What EPOCH_COMMIT does once it passes its checks: its UPTO is the limit, and it commits at once or waits. -/
def commitBegins (s : State) (c : Cmd) (w n : Nat) (k : Cat) (upto : W64) : State × Res :=
  let s1 := s.setCat (catKey w n) { k with limit := upto }
  if k.state = .error ∧ k.head ≠ upto then (s1, .done rNOT_PERMITTED [])
  else if k.head = upto ∧ !k.inProgress ∧ k.alone s then
    (retirePoll (commitVisible s1 w n) w n, .done rOK (leBytes 8 s.now))
  else
    (commitProgress (catUpd s1 w n fun k =>
      { k with commit := some { fn := c.fn, hub := c.hub, epoch := k.openEp, step := 2, upto := upto } }) w n, .pend false [])

section
variable {upto : W64} (hupto : BitVec.ofNat 64 (leAt c.payload 8 8) = upto) (hopen : k.isOpen = true)
  (hepoch : k.openEp.toNat = leAt c.payload 4 4) (haligned : leAt c.payload 8 8 % 32 = 0) (hcommit : k.commit = none)
  (hdiscard : k.discardEp = none)
include hupto hopen hepoch haligned hcommit hdiscard

/-- An EPOCH_COMMIT of the open epoch, of which no record has passed UPTO and which nothing ends, passes its checks. -/
theorem epochCommit_begins (hahead : k.head ≤ upto) : epochCommit s c = commitBegins s c w n k upto := by
  subst hw hn hk hupto
  unfold epochCommit
  dsimp only
  rw [checked_pass (firstFail_append_eq_none_iff.mpr ⟨hpass, ?_⟩)]
  · rfl
  · simp [firstFail_cons, hopen, hepoch, haligned, decide_eq_false (BitVec.not_lt.mpr hahead), hcommit, hdiscard]

/-- With HEAD at UPTO, the commit point is at once. -/
theorem epochCommit_atOnce (hmode : k.mode = 0) (hhead : k.head = upto) (hbusy : k.busy = none) (hruns : retireRuns s w n = []) :
    epochCommit s c =
      (s.setCat (catKey w n) { k with vis := k.openEp, isOpen := false, limit := maxLimit }, .done rOK (leBytes 8 s.now)) := by
  have hcommitted : k.committed = { k with vis := k.openEp, isOpen := false, limit := maxLimit } := by
    rw [Cat.committed, hcommit, hdiscard]
  have hvisible : commitVisible (s.setCat (catKey w n) { k with limit := upto }) w n = s.setCat (catKey w n) k.committed := by
    rw [commitVisible_unpaired (by rw [State.cat_setCat_same]; exact hmode), State.cat_setCat_same,
      State.setCat_setCat _ _ (by exact hopen)]
    rfl
  have hidle : (!k.inProgress) = true := by simp [Cat.inProgress, hbusy]
  rw [epochCommit_begins hw hn hk hpass hupto hopen hepoch haligned hcommit hdiscard (hhead ▸ BitVec.le_refl _), commitBegins,
    if_neg fun h => h.2 hhead, if_pos ⟨hhead, hidle, Cat.alone_of_unpaired s hmode⟩, hvisible, retirePoll_closed rfl hruns,
    hcommitted]

/-- With UPTO ahead of HEAD, the commit waits under the limit. -/
theorem epochCommit_waits (hhead : k.head < upto) (hstate : k.state ≠ .error) : epochCommit s c =
    (s.setCat (catKey w n) { k with
        limit := upto, commit := some { fn := c.fn, hub := c.hub, epoch := k.openEp, step := 2, upto := upto } },
      .pend false []) := by
  have hne : k.head ≠ upto := BitVec.ne_of_lt hhead
  rw [epochCommit_begins hw hn hk hpass hupto hopen hepoch haligned hcommit hdiscard (BitVec.le_of_lt hhead), commitBegins,
    if_neg fun h => hstate h.1, if_neg fun h => hne h.1, catUpd, State.updCat_eq, State.cat_setCat_same,
    State.setCat_setCat _ _ (by exact hopen), commitProgress, State.cat_setCat_same]
  exact congrArg (·, Res.pend false []) (if_pos (.inl hne))

end
end
end

/-! ### The record that ends a commit's wait (07 R230) -/

section
variable {s : State} {w c : Nat}

/-- Every record up to UPTO is settled. -/
theorem recordSettled_commits {k : Cat} {m : Commit} (hk : s.cat (catKey w c) = k) (hdisable : k.disableAfter = false)
    (hdiscard : k.discardEp = none) (hcommit : k.commit = some m) (hmode : k.mode = 0) (hhead : k.head = m.upto)
    (hbusy : k.busy = none) : recordSettled s w c = commitPoint s w c := by
  subst hk
  have hpast : ¬(m.step = 2 ∧ m.upto < (s.cat (catKey w c)).head) := fun h => absurd (hhead ▸ h.2) (BitVec.lt_irrefl _)
  have hdone : ¬((s.cat (catKey w c)).head ≠ m.upto ∨ (s.cat (catKey w c)).inProgress ∨
      ((s.cat (catKey w c)).busy.isSome && !(s.cat (catKey w c)).alone s)) := by
    simp [hhead, Cat.inProgress, hbusy]
  rw [recordSettled, disablePoll_idle hdisable, Cat.discardDue_of_none hdiscard, hcommit]
  simp only [Bool.false_eq_true, if_false, if_neg hpast, commitProgress, hcommit]
  rw [if_neg hdone, if_pos (Cat.alone_of_unpaired s hmode)]

theorem updateRecordDone_finishes {w : WingIx} {b : Bytes} (hbusy : (s.cat (catKey w c)).busy = some b)
    (hmode : (s.cat (catKey w c)).mode = 0) (happlied : (s.cat (catKey w c)).applied = true) :
    updateRecordDone s w c = recordSettled (s.setCat (catKey w c) ((s.cat (catKey w c)).passed b)) w c := by
  rw [← recordFinish_passes hbusy]
  simp only [updateRecordDone, hbusy]
  exact if_neg (by simp [hmode, happlied, Cat.alone_of_unpaired s hmode])

theorem Cat.committed_passed {k : Cat} {b : Bytes} {upto : W64} (hupto : upto = k.head + BitVec.ofNat 64 (recLen b))
    (hdiscard : k.discardEp = none) : (k.passed b).committed = { k with
      head := upto, busy := none, applied := false, vis := k.openEp, isOpen := false, limit := maxLimit, commit := none } := by
  subst hupto
  rw [Cat.committed, Cat.passed, hdiscard]

/-- The record that brings HEAD to UPTO. -/
theorem updateRecordDone_commits {w : WingIx} {b : Bytes} {m : Commit} (hbusy : (s.cat (catKey w c)).busy = some b)
    (hmode : (s.cat (catKey w c)).mode = 0) (happlied : (s.cat (catKey w c)).applied = true)
    (hdisable : (s.cat (catKey w c)).disableAfter = false) (hdiscard : (s.cat (catKey w c)).discardEp = none)
    (hcommit : (s.cat (catKey w c)).commit = some m) (hupto : m.upto = (s.cat (catKey w c)).head + BitVec.ofNat 64 (recLen b))
    (hruns : retireRuns (runFinish s m.fn m.hub rOK []) w c = []) : updateRecordDone s w c =
      runFinish ((s.setCat (catKey w c) ((s.cat (catKey w c)).passed b)).setCat (catKey w c)
        ((s.cat (catKey w c)).passed b).committed) m.fn m.hub rOK (leBytes 8 s.now) := by
  have hpassed : (s.setCat (catKey w c) ((s.cat (catKey w c)).passed b)).cat (catKey w c) = (s.cat (catKey w c)).passed b :=
    State.cat_setCat_same ..
  have hruns' : retireRuns (runFinish (s.setCat (catKey w c) ((s.cat (catKey w c)).passed b)) m.fn m.hub rOK []) w c = [] :=
    (retireRuns_runFinish (State.setCat_mbx ..) ..).trans hruns
  rw [updateRecordDone_finishes hbusy hmode happlied,
    recordSettled_commits hpassed hdisable hdiscard hcommit hmode hupto.symm rfl,
    commitPoint_unpaired (by rw [hpassed]; exact hcommit) (by rw [hpassed]; exact hmode) hruns', hpassed]
  rfl

end

/-! ### EPOCH_RETIRE (07 R234 to R237) -/

section
variable {s : State} {c : Cmd} {w n : Nat} {k : Cat} {f : W32} (hw : c.wing.toNat = w) (hn : leAt c.payload 0 1 = n)
  (hk : s.cat (catKey w n) = k) (hf : BitVec.ofNat 32 (leAt c.payload 4 4) = f) (hwing : w < 16) (hcat : n < 8)
  (hstate : (s.wing w).state = .enabled) (hz : zeroAt c.payload 2 2 = true)
include hw hn hk hf hwing hcat hstate hz

/-- The open epoch is discarded at once while nothing of a record or of a commit is under way. -/
theorem epochRetire_discards (hforce : leAt c.payload 1 1 ≤ 1) (hopen : k.isOpen = true) (hepoch : k.openEp = f) (hmode : k.mode = 0)
    (hcommit : k.commit = none) (happlied : k.applied = false) : epochRetire s c = (discardBegin s w n, .done rOK []) := by
  subst hw hn hk hf
  unfold epochRetire
  dsimp only
  rw [checked_pass]
  · simp [hopen, hepoch, hcommit, epochRetire.discardNow, happlied]
  · simp [firstFail_cons, badWing_passes hwing, Nat.not_lt.mpr hforce, hz, Nat.not_le.mpr hcat, hstate, hopen, hepoch,
      fenced_unpaired s hmode]

/-- The retirement of a committed epoch without force is answered once L has reached it. -/
theorem epochRetire_committed (hforce : leAt c.payload 1 1 = 0) (hother : ¬(k.isOpen = true ∧ k.openEp = f))
    (hvisible : epLe f k.vis = true) : epochRetire s c =
      if epLe f (oldestLive s w n) then (s, .done rOK []) else (s, .pend false [waitL]) := by
  subst hw hn hk hf
  have hisO : ((s.cat (catKey c.wing.toNat (leAt c.payload 0 1))).isOpen &&
      decide ((s.cat (catKey c.wing.toNat (leAt c.payload 0 1))).openEp = BitVec.ofNat 32 (leAt c.payload 4 4))) = false := by
    simpa using hother
  unfold epochRetire
  dsimp only
  rw [hisO, hforce, checked_pass]
  · rfl
  · simp [firstFail_cons, badWing_passes hwing, hz, hcat, hstate, hvisible, bit]

end

section
variable {s : State} {wing : WingIx} {cat : CatIx} {x : Fn × Hub × Run} (hruns : retireRuns s wing cat = [x])
  (hstage : x.2.2.data.headD 0 = waitL) (hdiscard : (s.cat (catKey wing cat)).discardEp = none)
include hruns hstage hdiscard

theorem retirePoll_single : retirePoll s wing cat =
    if epLe (BitVec.ofNat 32 (leAt x.2.2.payload 4 4)) (oldestLive s wing cat) then runFinish s x.1 x.2.1 rOK [] else s := by
  rw [retirePoll_looks (Cat.discardDue_of_none hdiscard), hruns]
  exact retireLook_waitL hstage

/-- The time is over for the one EPOCH_RETIRE that waits, and L has not reached its epoch. -/
theorem execEpochRetireTimeout_busy (hopen : x.2.2.committed = false)
    (hlive : epLe (BitVec.ofNat 32 (leAt x.2.2.payload 4 4)) (oldestLive s wing cat) = false) :
    execEpochRetireTimeout wing cat s = .next (runFinish s x.1 x.2.1 rBUSY []) := by
  have hpoll : retirePoll s wing cat = s := by rw [retirePoll_single hruns hstage hdiscard, hlive]; rfl
  simp only [execEpochRetireTimeout, hpoll, hruns, List.filter_cons, hstage, hopen]
  rfl

/-- L has reached its epoch by then. -/
theorem execEpochRetireTimeout_reached
    (hlive : epLe (BitVec.ofNat 32 (leAt x.2.2.payload 4 4)) (oldestLive s wing cat) = true)
    (hrest : retireRuns (runFinish s x.1 x.2.1 rOK []) wing cat = []) :
    execEpochRetireTimeout wing cat s = .next (runFinish s x.1 x.2.1 rOK []) := by
  have hpoll : retirePoll s wing cat = runFinish s x.1 x.2.1 rOK [] := by rw [retirePoll_single hruns hstage hdiscard, if_pos hlive]
  simp only [execEpochRetireTimeout, hpoll, hrest, List.filter_nil]

end

/-! ### Rows that are restored, and epochs that are retired by force (07 R234, R238) -/

section
variable {s : State} {w : WingIx} {c : Nat}

/-- The entry is of a row of the catalogue whose newest version is of the epoch. -/
def rowWrittenIn (s : State) (w c : Nat) (ep : W32) (e : DirEntry) : Bool :=
  (match s.table e.table with | some t => t.wing.val == w && t.cat.val == c | none => false) &&
    decide ((e.versions.head?.map (·.1)) = some ep)

/-- The row goes back to what it was before its newest version. -/
def rowBack (s : State) (e : DirEntry) : State := match s.table e.table with | some t => restoreRow s t e | none => s

theorem discardRestoreDone_restores {ep : W32} (hdiscard : (s.cat (catKey w c)).discardEp = some ep)
    (hclosed : (s.cat (catKey w c)).isOpen = false) (hsync : (s.cat (catKey w c)).sync ≠ 2) : discardRestoreDone s w c =
      ((s.dir.filter (rowWrittenIn s w c ep)).foldl rowBack s).updCat (catKey w c) fun k => { k with discardEp := none } := by
  simp only [discardRestoreDone, hdiscard, hclosed, Bool.false_eq_true, if_false, if_neg hsync]
  rfl

theorem stallForcedRetire_retires {f : W32} (hforced : forcedEpoch s w c = some f) : stallForcedRetire s w c =
    retirePoll (forceRetire (curatorLog s w 0x0207 f.toNat) w c f) w c := by
  simp only [stallForcedRetire, hforced]

theorem versionReclaim_table {tab row : Nat} {t : Table} (htable : s.table tab = some t) : versionReclaim s tab row =
    (s.dir.filter fun e => e.table.val == tab && e.row.toNat == row).foldl (fun s e => reclaimRow s t e) s := by
  simp only [versionReclaim, htable]

end

/-! ### What a lookup reads of live versions (07 R205, R208, R212) -/

section
variable {k : Cat} {use : List W32} {e : W32}

/-- The order of two epochs is decided unless they lie half the range apart. -/
theorem epPrec_of_not_epLe {a : W32} (hle : epLe a e = false) (hgap : (a - e).toNat ≠ 2 ^ 31) : epPrec e a = true := by
  simp only [epLe, epPrec, Bool.or_eq_false_iff, Bool.and_eq_false_iff, decide_eq_false_iff_not, Bool.and_eq_true,
    decide_eq_true_eq] at hle ⊢
  bv_omega

/-- The version serves a lookup that is pinned at the epoch. -/
def versionServes (e : W32) (v : W32 × Nat) : Bool := v.2 == slotUnwritten || epLe v.1 e

theorem versionLive_of_serves {newer : Option W32} {v : W32 × Nat} (he : e ∈ use) (hv : versionServes e v = true)
    (hnewer : ∀ n ∈ newer, epPrec e n = true) : versionLive k use newer v = true := by
  refine Bool.or_eq_true_iff.mpr (.inr (List.any_eq_true.mpr ⟨e, he, ?_⟩))
  rw [show (v.2 == slotUnwritten || epLe v.1 e) = true from hv]
  cases newer with
  | none => rfl
  | some n => exact hnewer n rfl

/-- Of a row's versions, what a lookup reads is live: the versions before it are of later epochs than its own. -/
theorem find?_liveVersions (he : e ∈ use) (vs : List (W32 × Nat)) (newer : Option W32) (hnewer : ∀ n ∈ newer, epPrec e n = true)
    (hgap : ∀ v ∈ vs, (v.1 - e).toNat ≠ 2 ^ 31) :
    (liveVersions k use newer vs).find? (versionServes e) = vs.find? (versionServes e) := by
  induction vs generalizing newer with
  | nil => rfl
  | cons v rest ih =>
    obtain ⟨hgapv, hgaps⟩ := List.forall_mem_cons.mp hgap
    rw [liveVersions]
    cases hv : versionServes e v with
    | true => rw [if_pos (versionLive_of_serves he hv hnewer), List.find?_cons_of_pos hv, List.find?_cons_of_pos hv]
    | false =>
      have hlater : epLe v.1 e = false := (Bool.or_eq_false_iff.mp hv).2
      have hrest := ih (some v.1) (fun n hn => Option.mem_some.mp hn ▸ epPrec_of_not_epLe hlater hgapv) hgaps
      rw [List.find?_cons_of_neg (by simp [hv]), ← hrest]
      split_ifs
      · exact List.find?_cons_of_neg (by simp [hv])
      · rfl

end

end Sys2Proof.Machine

/-- Settles O25: the two commands past their checks, the record that ends a commit's wait, the retirements by what they find, and
the versions that a lookup reads. -/
theorem epochsOpenCommitRetireAndDiscard : Obligations.EpochsOpenCommitRetireAndDiscard := by
  unfold Obligations.EpochsOpenCommitRetireAndDiscard
  refine ⟨?opens, ?atOnce, ?waits, ?recordCommits, ?commitTimeout, ?discards, ?reached, ?retireWaits, ?retireTimeout,
    ?retireReached, ?restore, ?forced, ?reclaim, ?reads⟩
  case opens =>
    rintro fn hub tag wing p c s rfl ha hwing hcat hstate hmode hsync hz hopen hdiscard hroom
    exact scpExec_done ha
      (epochOpen_opens rfl rfl rfl (epochChecks_unpaired rfl rfl rfl hwing hcat hstate hmode hsync hz) hopen hdiscard hroom)
  case atOnce =>
    rintro fn hub tag wing p c s rfl ha hwing hcat hstate hmode hsync hz hopen hepoch haligned hhead hcommit hdiscard hbusy hruns
    exact scpExec_done ha (epochCommit_atOnce (w := wing.toNat) (n := leAt p 0 1) rfl rfl rfl
      (epochChecks_unpaired rfl rfl rfl hwing hcat hstate hmode hsync hz) rfl hopen hepoch haligned hcommit hdiscard hmode hhead hbusy
      hruns)
  case waits =>
    rintro fn hub tag wing p c s rfl ha hwing hcat hstate hmode hsync hz hopen hepoch haligned hhead hcommit hdiscard hring
    have hpass : firstFail (epochChecks s (sentCmd s 0x0206 fn hub tag wing p)) = none :=
      epochChecks_unpaired rfl rfl rfl hwing hcat hstate hmode hsync hz
    exact scpExec_pend ha (epochCommit_waits (w := wing.toNat) (n := leAt p 0 1) rfl rfl rfl hpass rfl hopen hepoch haligned hcommit
      hdiscard hhead hring)
  case recordCommits =>
    intro wing cat m _ b s hbusy hmode happlied hdisable hdiscard hcommit hupto hruns
    have hruns' : retireRuns (runFinish s m.fn m.hub rOK []) wing cat = [] :=
      (retireRuns_runFinish (State.setCat_mbx ..).symm m.fn m.hub rOK rOK [] []).trans hruns
    have hstep := updateRecordDone_commits hbusy hmode happlied hdisable hdiscard hcommit hupto hruns'
    refine ⟨_, congrArg Host.Outcome.next hstep, ?_, fun k hk => ?_, ?_⟩
    · rw [runFinish_cat, State.cat_setCat_same, Cat.committed_passed hupto hdiscard]
      rfl
    · rw [runFinish_cat, State.cat_setCat, if_neg hk, State.cat_setCat, if_neg hk]
    · rw [runFinish_cats]
      rfl
  case commitTimeout =>
    intro wing cat m s hcommit hdiscard hruns
    exact congrArg Host.Outcome.next (commitEnd_alone rBUSY hcommit hdiscard hruns)
  case discards =>
    rintro fn hub tag wing p c s rfl ha hwing hcat hstate hforce hz hopen hepoch hmode hcommit happlied hdisable hruns
    have hdiscards := epochRetire_discards (c := sentCmd s 0x0207 fn hub tag wing p) rfl rfl rfl rfl hwing hcat hstate hz hforce hopen
      hepoch hmode hcommit happlied
    exact scpExec_done ha (hdiscards.trans (congrArg (·, Res.done rOK []) (discardBegin_alone hmode hcommit hdisable hruns)))
  case reached =>
    rintro fn hub tag wing p c s rfl ha hwing hcat hstate hforce hz hother hvisible hlive
    have hcommitted := epochRetire_committed (c := sentCmd s 0x0207 fn hub tag wing p) rfl rfl rfl rfl hwing hcat hstate hz hforce
      hother hvisible
    exact scpExec_done ha (hcommitted.trans (if_pos hlive))
  case retireWaits =>
    rintro fn hub tag wing p c s rfl ha hwing hcat hstate hforce hz hother hvisible hlive
    have hcommitted := epochRetire_committed (c := sentCmd s 0x0207 fn hub tag wing p) rfl rfl rfl rfl hwing hcat hstate hz hforce
      hother hvisible
    exact scpExec_pend ha (hcommitted.trans (if_neg (Bool.eq_false_iff.mp hlive)))
  case retireTimeout =>
    exact fun wing cat x s hruns hstage hopen hdiscard hlive => execEpochRetireTimeout_busy hruns hstage hdiscard hopen hlive
  case retireReached =>
    exact fun wing cat x s hruns hstage hdiscard hlive hrest => execEpochRetireTimeout_reached hruns hstage hdiscard hlive hrest
  case restore =>
    exact fun wing cat ep s hdiscard hclosed hsync =>
      congrArg Host.Outcome.next (discardRestoreDone_restores hdiscard hclosed hsync)
  case forced => exact fun wing cat f s hforced => congrArg Host.Outcome.next (stallForcedRetire_retires hforced)
  case reclaim => exact fun table row t0 s htable => congrArg Host.Outcome.next (versionReclaim_table htable)
  case reads => exact fun k use vs e he hgap => find?_liveVersions he vs none (by simp) hgap

end

section
/-! PROOF. What the units of a pair do for each other's catalogues: records, commits, tables, lookups and the copy (07 R241 to R244,
12 R388, 13 R404 to R411, R427, R428), and O37 from them. -/

open Sys2Proof Sys2Proof.Machine

namespace Sys2Proof.Machine

/-! ### Messages over the link (13 R401) -/

section
variable (s : State) (n : Nat) (msg : PairMsg) (args : List Nat) (data : Bytes)

theorem pairSend_frame : pairSend s n msg args data =
    { s with par := (pairSend s n msg args data).par, out := s.out ++ [.pair (pairDie s n) msg args data] } := rfl

@[simp] theorem pairSend_cat (k : Nat) : (pairSend s n msg args data).cat k = s.cat k := rfl

end

/-- A paired catalogue whose unit follows the holder, over a link that is connected. -/
structure Follows (s : State) (k : Cat) : Prop where
  paired : k.mode ≠ 0
  notHolder : s.par.lease ≠ .holder
  linked : linkUp s.par.link = true

theorem Follows.takes {s : State} {k : Cat} (h : Follows s k) : ¬(k.mode = 0 ∨ s.par.lease = .holder ∨ !linkUp s.par.link) := by
  simp [h.paired, h.notHolder, h.linked]

/-! ### Records (07 R241, 12 R388) -/

section
variable {s : State} {w c : Nat}

theorem recordPut_nop {b : Bytes} (h : recType b = 1) (ep : W32) : recordPut s w b ep = (none, .ok s) := if_pos h

theorem followOpen_known (h : (s.cat (catKey w c)).isOpen = true) (ep : W32) :
    followOpen s w c ep = s.setCat (catKey w c) (s.cat (catKey w c)) := by
  rw [followOpen, catUpd, State.updCat_eq, if_pos (.inl h)]

theorem followOpen_sync (ep : W32) : ((followOpen s w c ep).cat (catKey w c)).sync = (s.cat (catKey w c)).sync := by
  rw [followOpen, catUpd, State.updCat_eq, State.cat_setCat_same]
  split_ifs <;> rfl

theorem settleRow_settled (h : (s.cat (catKey w c)).sync ≠ 2) (b : Bytes) (ep : W32) : settleRow s w c b ep = none :=
  if_pos (.inl h)

section
variable {r : HeldRec} {s2 : State} {row : Option (Nat × Nat × Nat)}

theorem followerApply_writes (hput : recordPut s w r.record r.epoch = (row, .ok s2)) : followerApply s w c r =
    ackRecord (s2.setCat (catKey w c) { (s2.cat (catKey w c)).unstall with follow := none }) w c r.head true := by
  simp only [followerApply, hput, catUpd, State.updCat_eq]

theorem followerApply_stalls {cause : Nat} (hput : recordPut s w r.record r.epoch = (row, .stall s2 cause)) : followerApply s w c r =
    s2.setCat (catKey w c) { (s2.cat (catKey w c)).stalled cause s2.now row with follow := some r } := by
  simp only [followerApply, hput, catUpd, State.updCat_eq]

end

/-- A record that arrives as it was sent, of a catalogue whose rows are all settled. -/
theorem pairRecordReceive_applies {w : WingIx} (h : Follows s (s.cat (catKey w c))) (hsync : (s.cat (catKey w c)).sync ≠ 2)
    (ep : W32) (head : W64) (b : Bytes) : pairRecordReceive s w c ep head b .intact =
      followerApply (followOpen s w c ep) w c { epoch := ep, head := head, record := b } := by
  have hsettled : settleRow (followOpen s w c ep) w c b ep = none := settleRow_settled (by rwa [followOpen_sync]) b ep
  rw [pairRecordReceive]
  dsimp only
  rw [if_neg h.takes]
  simp only [takeCarried, hsettled]

/-- A NOP of the epoch that the follower has open. -/
theorem pairRecordReceive_nop {w : WingIx} (h : Follows s (s.cat (catKey w c))) (hsync : (s.cat (catKey w c)).sync ≠ 2)
    (hopen : (s.cat (catKey w c)).isOpen = true) {b : Bytes} (hnop : recType b = 1) (ep : W32) (head : W64) :
    pairRecordReceive s w c ep head b .intact =
      ackRecord (s.setCat (catKey w c) { (s.cat (catKey w c)).unstall with follow := none }) w c head true := by
  rw [pairRecordReceive_applies h hsync, followerApply_writes (recordPut_nop hnop ep), followOpen_known hopen,
    State.cat_setCat_same, State.setCat_setCat _ _ hopen]

theorem recStack_none {b : Bytes} (h : tableIn s w (recTable b) = none) : recStack s w b = 0 := by rw [recStack, h]

/-- A record whose digest is not that of the bytes that arrived. -/
theorem pairRecordReceive_refused {w : WingIx} (h : Follows s (s.cat (catKey w c))) {ep : W32} {head : W64} {data : Bytes}
    {digest : W64} (hdigest : digestOf (recHeader c ep.toNat head.toNat) data ≠ digest) (sent : Bytes) :
    pairRecordReceive s w c ep head sent (.altered data digest) =
      ackRecord (digestFail s w (0x80 + 8 + recStack s w sent) (8 + recStack s w sent) 3) w c head false := by
  rw [pairRecordReceive]
  dsimp only
  rw [if_neg h.takes, takeCarried_mismatch hdigest]

/-- The holder's record at HEAD, which it has sent and not yet applied. -/
structure RecordSent (s : State) (k : Cat) (head : W64) (b : Bytes) : Prop where
  busy : k.busy = some b
  holder : s.par.lease = .holder
  head : k.head = head
  waits : k.applied = false

theorem RecordSent.takes {k : Cat} {head : W64} {b : Bytes} (h : RecordSent s k head b) :
    ¬(s.par.lease ≠ .holder ∨ k.head ≠ head ∨ k.applied) := by simp [h.holder, h.head, h.waits]

section
variable {head : W64} {b : Bytes} (h : RecordSent s (s.cat (catKey w c)) head b)
include h

theorem pairRecordAck_taken (ok : Bool) : pairRecordAck s w c head ok =
    if ok then applyBusy (s.setCat (catKey w c)
      { s.cat (catKey w c) with pairHead := head + BitVec.ofNat 64 (recLen b), resends := 0 }) w c b (s.cat (catKey w c)).openEp
    else if (s.cat (catKey w c)).resends ≥ 3 then ringError s w c 0 rDIGEST_MISMATCH
    else sendRecord (s.setCat (catKey w c) { s.cat (catKey w c) with resends := (s.cat (catKey w c)).resends + 1 }) w c b := by
  unfold pairRecordAck
  dsimp only
  split
  next hnone => exact absurd (h.busy.symm.trans hnone) nofun
  next b' hbusy =>
    obtain rfl : b = b' := Option.some.inj (h.busy.symm.trans hbusy)
    exact if_neg h.takes

theorem pairRecordAck_applies : pairRecordAck s w c head true =
    applyBusy (s.setCat (catKey w c) { s.cat (catKey w c) with pairHead := head + BitVec.ofNat 64 (recLen b), resends := 0 })
      w c b (s.cat (catKey w c)).openEp :=
  (pairRecordAck_taken h true).trans (if_pos rfl)

theorem pairRecordAck_fails (hresends : 3 ≤ (s.cat (catKey w c)).resends) :
    pairRecordAck s w c head false = ringError s w c 0 rDIGEST_MISMATCH :=
  (pairRecordAck_taken h false).trans ((if_neg nofun).trans (if_pos hresends))

end
end

/-! ### Commits (07 R244, R246, 13 R408) -/

section
variable {s : State} {w c : Nat}

/-- A follower's catalogue at its commit point. -/
def Cat.mirrored (k : Cat) (ep term : W32) : Cat :=
  { k with vis := ep, openEp := ep, isOpen := false, termOfV := term, limit := maxLimit }

theorem partnerCommitRequest_commits {ep : W32} (h : Follows s (s.cat (catKey w c))) (hep : (s.cat (catKey w c)).vis ≠ ep)
    (hruns : retireRuns s w c = []) (term : W32) : partnerCommitRequest s w c ep false term =
      pairSend (s.setCat (catKey w c) ((s.cat (catKey w c)).mirrored ep term)) (w + c) .commitReply [w, c, ep.toNat, s.now,
        (oldestOwn (s.setCat (catKey w c) ((s.cat (catKey w c)).mirrored ep term)) w c).toNat] [] := by
  have hpoll : retirePoll (s.setCat (catKey w c) ((s.cat (catKey w c)).mirrored ep term)) w c =
      s.setCat (catKey w c) ((s.cat (catKey w c)).mirrored ep term) := retirePoll_closed rfl hruns
  rw [Cat.mirrored] at hpoll
  simp only [partnerCommitRequest, if_neg h.takes, Bool.false_eq_true, if_false, if_neg hep, catUpd, State.updCat_eq, hpoll]
  rfl

theorem partnerCommitReply_commits {ep oldest : W32} {m : Commit} (hcommit : (s.cat (catKey w c)).commit = some m) (hstep : m.step = 3)
    (hep : m.epoch = ep) (hholds : fenced s (s.cat (catKey w c)) = false) (hlink : linkUp s.par.link = true) :
    partnerCommitReply s w c ep oldest =
      commitPoint (s.setCat (catKey w c) { s.cat (catKey w c) with partnerOldest := some oldest }) w c := by
  unfold partnerCommitReply
  dsimp only
  split
  next m' hm =>
    obtain rfl : m = m' := Option.some.inj (hcommit.symm.trans hm)
    exact if_pos ⟨hstep, hep, by simp [hholds], hlink⟩
  next hnone => exact absurd (hcommit.symm.trans hnone) nofun

/-- Without the lease or the link, only the partner's report is kept. -/
theorem partnerCommitReply_keeps (h : fenced s (s.cat (catKey w c)) = true ∨ linkUp s.par.link = false) (ep oldest : W32) :
    partnerCommitReply s w c ep oldest = s.setCat (catKey w c) { s.cat (catKey w c) with partnerOldest := some oldest } := by
  unfold partnerCommitReply
  dsimp only
  split
  next =>
    refine if_neg ?_
    rintro ⟨-, -, hholds, hlink⟩
    rcases h with hfenced | hdown
    · simp [hfenced] at hholds
    · simp [hdown] at hlink
  next => rfl

end

/-! ### Tables (13 R406) -/

section
variable {s : State}

theorem tableIn_eq_some {w id : Nat} {t : Table} (h : tableIn s w id = some t) : s.table id = some t := by
  unfold tableIn at h
  split at h
  next t' ht =>
    split_ifs at h
    rw [ht, h]
  next => simp at h

theorem tableIn_free {w id : Nat} (h : s.table id = none) : tableIn s w id = none := by rw [tableIn, h]

section
variable (w : WingIx) {id : Nat} (hlease : s.par.lease ≠ .holder) (hlink : linkUp s.par.link = true)
include hlease hlink

theorem partnerTableRequest_reserves {d : Bytes}
    (hpass : firstFail ([((s.table id).isSome, idTaken)] ++ createHead d ++ createRest s w d) = none) :
    partnerTableRequest s w false id d = tableReserve s w id d := by
  have hserve : ¬(s.par.lease = .holder ∨ !linkUp s.par.link) := by simp [hlease, hlink]
  have hfree : s.table id = none := by
    rw [List.append_assoc, firstFail_append_eq_none_iff, firstFail_cons] at hpass
    simpa using hpass.1
  have hlacks : resyncHas s w (tdCat d) id d = false := by simp [resyncHas, tableIn_free hfree]
  simp only [partnerTableRequest, if_neg hserve, Bool.false_eq_true, if_false, hlacks, hpass]

theorem partnerTableRequest_deletes {t : Table} (htable : tableIn s w id = some t) (d : Bytes) :
    partnerTableRequest s w true id d =
      pairSend (advance (tableDelete (advance s 1) id) 1) (w.val + t.cat.val) .tableReply [id, 0] [] := by
  have hserve : ¬(s.par.lease = .holder ∨ !linkUp s.par.link) := by simp [hlease, hlink]
  simp only [partnerTableRequest, if_neg hserve, if_true, htable, tableIn_eq_some htable]
  rfl

end

section
variable {fn : Fn} {hub : Hub} {x : TableWait} (hwait : (s.par.tableWait.find? fun x => x.fn == fn && x.hub == hub) = some x)
include hwait

theorem partnerTableReply_fails {code : Byte} (hcode : code ≠ rOK) (hends : code ≠ idTaken ∨ x.delete = true) :
    partnerTableReply s fn hub code = tableWaitFail s x code := by
  have hkeeps : ¬(code = idTaken ∧ !x.delete) := by
    rintro ⟨htaken, hcreates⟩
    rcases hends with hother | hdelete
    · exact hother htaken
    · simp [hdelete] at hcreates
  simp only [partnerTableReply, hwait, if_neg hkeeps, if_pos hcode]

theorem partnerTableReply_renames (hcreates : x.delete = false) : partnerTableReply s fn hub idTaken = tableRename s x := by
  simp only [partnerTableReply, hwait]
  exact if_pos (by simp [hcreates])

theorem partnerTableReply_deletes {r : Run} (hrun : (s.mbox (mbxKey fn hub)).run = some r) (hdelete : x.delete = true) :
    partnerTableReply s fn hub rOK = runFinish (advance (scpCommit (tableDelete (advance
      { s with par := { s.par with tableWait := s.par.tableWait.filter (· != x) } } 1) x.table) (r.cmd fn hub)) 1) fn hub rOK [] := by
  have hkeeps : ¬(rOK = idTaken ∧ !x.delete) := by simp [hdelete]
  rw [partnerTableReply, hwait]
  dsimp only
  rw [if_neg hkeeps, if_neg (not_not_intro rfl)]
  split
  next hnone => exact absurd (hrun.symm.trans hnone) nofun
  next r' hr =>
    obtain rfl : r = r' := Option.some.inj (hrun.symm.trans hr)
    exact if_pos hdelete

end

/-- The creation goes on under another ID, with the same storage. -/
theorem tableRename_table {x : TableWait} {id : Nat} {t : Table} (htable : s.table x.table = some t)
    (hfree : nextFree s x.table = some id) (k : Nat) : (tableRename s x).table k =
      if k = id then some { t with id := id } else if k = x.table then none else s.table k := by
  have htables : (tableRename s x).table k = ((s.setTable x.table none).setTable id (some { t with id := id })).table k := by
    simp only [tableRename, hfree, htable]
    rfl
  rw [htables, State.table_setTable, State.table_setTable]

end

/-! ### Lookups in a striped catalogue (13 R408, R409, R411) -/

section
variable {s : State}

theorem remoteRows_single {t : Table} {ep : W32} {weighted : Bool} {l : Nat × Nat × W32} {s2 : State} {x : Nat × List W32}
    (hrow : remoteRow s t ep weighted l = (s2, some x)) : remoteRows s t ep weighted [l] = (s2, some [(l.1, x)]) := by
  simp only [remoteRows, hrow]
  rfl

theorem partnerLookup_refuses {w : WingIx} {tab : TabIx} (hlink : linkUp s.par.link = true) (htable : tableIn s w tab = none)
    (ep : W32) (bags : RemoteBags) (weighted mx : Bool) (ls : List (Nat × Nat × W32)) :
    partnerLookup s w tab ep bags weighted mx ls = pairSend s 0 .contribution [w.val, tab.val] [] := by
  simp only [partnerLookup, hlink, Bool.not_true, Bool.false_eq_true, if_false, htable]

/-- One lookup of one bag, of a striped catalogue that is in step: the bag's partial goes back. -/
theorem partnerLookup_pools {w : WingIx} {tab : TabIx} {ep : W32} {seq : W64} {row g : Nat} {v : List W32} {t : Table} {s2 : State}
    (hlink : linkUp s.par.link = true) (htable : tableIn s w tab = some t) (hmode : (s.cat (catKey w t.cat)).mode = 2)
    (hsync : (s.cat (catKey w t.cat)).sync = 0) (hforced : (s.cat (catKey w t.cat)).forcedTo = none)
    (hrow : remoteRow (s.updWing w fun x => { x with lookups := satAdd x.lookups 1 }) t ep false (0, row, 0) = (s2, some (g, v))) :
    partnerLookup s w tab ep { count := 1, seq := seq } false false [(0, row, 0)] =
      sendPart s2 t seq 0 g (poolPart false t.dim [v]) := by
  have hserves : ¬((s.cat (catKey w t.cat)).mode ≠ 2 ∨ (s.cat (catKey w t.cat)).sync = 1 ∨ (s.cat (catKey w t.cat)).sync = 3) := by
    simp [hmode, hsync]
  have hrows := remoteRows_single hrow
  simp only [partnerLookup, hlink, Bool.not_true, Bool.false_eq_true, if_false, htable, if_neg hserves, hforced, List.length_singleton,
    hrows]
  simp [List.eraseDups_cons]

/-- The partial of a remote lookup of a batch has not come. -/
def partMissing (s : State) (b : Batch) (t : Table) (i : Nat) : Bool :=
  match b.lookups[i]? with
  | some x => !(b.parts.any fun p => p.bag == x.1 && p.gpos == rowGpos s t x.2.1.toNat)
  | none => false

theorem partMissing_of_none {b : Batch} {i : Nat} {x : Nat × W32 × W32} (hlookup : b.lookups[i]? = some x) (hparts : b.parts = [])
    (t : Table) : partMissing s b t i = true := by
  rw [partMissing, hlookup, hparts]
  rfl

theorem remoteTimeout_eq {d : Nat} {ticket : W16} {b : Batch} {t : Table} (hbatch : findBatch s d ticket = some b)
    (htable : s.table b.table = some t) : remoteTimeout s d ticket =
      if b.failed.isSome || linkUp s.par.link || !b.remote.any (partMissing s b t) then s
      else gpeFail s b rPARTNER_LOST (bagGPE s (combineStack t) 0) := by
  simp only [remoteTimeout, hbatch, htable]
  rfl

end

/-! ### The copy of a stale catalogue (13 R427, R428) -/

section
variable {s : State} {w : WingIx} {c : Nat}

/-- The copy goes on at the follower: the catalogue is paired, and not the holder's to send. -/
structure CopyTaken (s : State) (k : Cat) : Prop where
  paired : k.mode ≠ 0
  receives : k.resyncBase = none
  linked : linkUp s.par.link = true

theorem CopyTaken.goesOn {k : Cat} (h : CopyTaken s k) : ¬(k.mode = 0 ∨ k.resyncBase.isSome ∨ !linkUp s.par.link) := by
  simp [h.paired, h.receives, h.linked]

section
variable (h : CopyTaken s (s.cat (catKey w c)))
include h

theorem resyncReceive_begins (hsync : (s.cat (catKey w c)).sync = 1) (hlease : s.par.lease = .follower) (tab : TabIx) (row : Nat)
    (ep : W32) (data : Bytes) : resyncReceive s w c tab row ep data = resyncRow (resyncBegin s w c) w c tab row ep data := by
  rw [resyncReceive]
  rw [if_neg h.goesOn, if_pos ⟨hsync, hlease⟩]

theorem resyncReceive_copies (hsync : (s.cat (catKey w c)).sync = 2) (tab : TabIx) (row : Nat) (ep : W32) (data : Bytes) :
    resyncReceive s w c tab row ep data = resyncRow s w c tab row ep data := by
  rw [resyncReceive]
  rw [if_neg h.goesOn, if_neg (by simp [hsync]), if_pos hsync]

theorem resyncDone_inSync (hsync : (s.cat (catKey w c)).sync = 2) (v term : W32) : resyncDone s w c v term =
    retirePoll (s.setCat (catKey w c) { s.cat (catKey w c) with
      vis := v, termOfV := term, sync := 0, settled := [], resyncBase := none, forcedTo := none }) w c := by
  have htaken : ¬((s.cat (catKey w c)).mode = 0 ∨ !linkUp s.par.link) := by simp [h.paired, h.linked]
  simp only [resyncDone, if_neg htaken, h.receives, Option.isSome_none, Bool.false_eq_true, if_false, hsync, true_or, if_true,
    catUpd, State.updCat_eq]
  rfl

end

/-- A row that awaits its copy is written to its home slot, once. -/
theorem resyncRow_writes {tab : TabIx} {row : Nat} {ep : W32} {data : Bytes} {t : Table} {i k home : Nat}
    (htable : tableIn s w tab = some t) (hplace : rowPlace s t row = some (i, k, home))
    (hawaits : (s.cat (catKey w c)).settled.contains (tab.val, row) = false) (hdata : data ≠ [])
    (hwritten : zeroAt (fitTo (16 + rowPayload t.elem t.dim) data) 0 16 = false) : resyncRow s w c tab row ep data =
      slotWrite (s.setCat (catKey w c) { s.cat (catKey w c) with settled := (s.cat (catKey w c)).settled ++ [(tab.val, row)] })
        t k home (rowImage (fitTo (16 + rowPayload t.elem t.dim) data) ep slotNone) := by
  simp only [resyncRow, htable, hplace, List.isEmpty_eq_false_iff.mpr hdata, hawaits, hwritten, Bool.false_eq_true, if_false,
    Bool.not_false, if_true]
  rfl

end

end Sys2Proof.Machine

/-- Settles O37: each clause is what one message of the partner does, by what the unit finds of the catalogue, the table or the
batch that it names. -/
theorem partnersMirrorRecordsCommitsTablesAndRows : Obligations.PartnersMirrorRecordsCommitsTablesAndRows := by
  unfold Obligations.PartnersMirrorRecordsCommitsTablesAndRows
  refine ⟨?nop, ?put, ?stalls, ?altered, ?acked, ?ackFails, ?commitRequest, ?commitReply, ?commitLost, ?tableCreate, ?tableDelete,
    ?tableFails, ?tableTaken, ?tableDeleted, ?lookupNone, ?lookup, ?lookupLost, ?copyBegins, ?copy, ?copyDone⟩
  case nop =>
    intro wing cat epoch head record s hmode hlease hlink hsync hopen hepoch hnop
    have hstep := pairRecordReceive_nop ⟨hmode, hlease, hlink⟩ hsync hopen hnop epoch head
    refine ⟨_, congrArg Host.Outcome.next hstep, rfl, rfl, ?_⟩
    rw [ackRecord, pairSend_cat, State.cat_setCat_same]
    rfl
  case put =>
    rintro wing cat epoch head record s s1 s2 row hmode hlease hlink hsync rfl hput
    exact congrArg Host.Outcome.next ((pairRecordReceive_applies ⟨hmode, hlease, hlink⟩ hsync epoch head record).trans
      (followerApply_writes hput))
  case stalls =>
    rintro wing cat epoch head record s s1 s2 row cause hmode hlease hlink hsync rfl hput
    have hstep := (pairRecordReceive_applies ⟨hmode, hlease, hlink⟩ hsync epoch head record).trans (followerApply_stalls hput)
    refine ⟨_, congrArg Host.Outcome.next hstep, ?_, ?_, ?_, rfl⟩ <;> rw [State.cat_setCat_same] <;> rfl
  case altered =>
    intro wing cat epoch head record data digest s hmode hlease hlink hdigest htable
    refine congrArg Host.Outcome.next ((pairRecordReceive_refused ⟨hmode, hlease, hlink⟩ hdigest record).trans ?_)
    rw [recStack_none htable]
    rfl
  case acked =>
    exact fun wing cat head b s hbusy hlease hhead happlied =>
      congrArg Host.Outcome.next (pairRecordAck_applies ⟨hbusy, hlease, hhead, happlied⟩)
  case ackFails =>
    exact fun wing cat head b s hbusy hlease hhead happlied hresends =>
      congrArg Host.Outcome.next (pairRecordAck_fails ⟨hbusy, hlease, hhead, happlied⟩ hresends)
  case commitRequest =>
    intro wing cat epoch term s hmode hlease hlink hnew hruns
    have hstep := partnerCommitRequest_commits ⟨hmode, hlease, hlink⟩ hnew hruns term
    refine ⟨_, congrArg Host.Outcome.next hstep, ?_, rfl, ?_, fun k hk => ?_⟩
    · rw [pairSend_cat, State.cat_setCat_same]
      rfl
    · rw [pairSend_frame]
      exact List.length_append
    · rw [pairSend_cat, State.cat_setCat, if_neg hk]
  case commitReply =>
    exact fun wing cat epoch oldest visTs m s hcommit hstep hepoch hholds hlink =>
      congrArg Host.Outcome.next (partnerCommitReply_commits hcommit hstep hepoch hholds hlink)
  case commitLost =>
    exact fun wing cat epoch oldest visTs s hlost => congrArg Host.Outcome.next (partnerCommitReply_keeps hlost epoch oldest)
  case tableCreate =>
    exact fun wing table desc s hlease hlink hpass =>
      congrArg Host.Outcome.next (partnerTableRequest_reserves wing hlease hlink hpass)
  case tableDelete =>
    exact fun wing table desc t0 s hlease hlink htable =>
      congrArg Host.Outcome.next (partnerTableRequest_deletes wing hlease hlink htable desc)
  case tableFails =>
    exact fun fn hub code x s hwait hcode hends => congrArg Host.Outcome.next (partnerTableReply_fails hwait hcode hends)
  case tableTaken =>
    intro fn hub x id t0 s hwait hcreates htable hfree
    refine ⟨_, congrArg Host.Outcome.next (partnerTableReply_renames hwait hcreates), ?_, fun hne => ?_, fun k hid hold => ?_⟩
    · rw [tableRename_table htable hfree, if_pos rfl]
    · rw [tableRename_table htable hfree, if_neg hne.symm, if_pos rfl]
    · rw [tableRename_table htable hfree, if_neg hid, if_neg hold]
  case tableDeleted =>
    exact fun fn hub x r s hwait hrun hdelete => congrArg Host.Outcome.next (partnerTableReply_deletes hwait hrun hdelete)
  case lookupNone =>
    exact fun wing table epoch bags weighted mx ls s hlink htable =>
      congrArg Host.Outcome.next (partnerLookup_refuses hlink htable epoch bags weighted mx ls)
  case lookup =>
    exact fun wing table epoch row seq t0 g v s s2 hlink htable hmode hsync hforced hrow =>
      congrArg Host.Outcome.next (partnerLookup_pools hlink htable hmode hsync hforced hrow)
  case lookupLost =>
    intro doc ticket b t0 i x s hbatch htable hremote hlookup hparts hrunning hlink
    have hmissing : b.remote.any (partMissing s b t0) = true :=
      List.any_eq_true.mpr ⟨i, hremote, partMissing_of_none hlookup hparts t0⟩
    refine congrArg Host.Outcome.next ((remoteTimeout_eq hbatch htable).trans ?_)
    rw [hrunning, hlink, hmissing]
    rfl
  case copyBegins =>
    exact fun wing cat table row epoch data s hmode hlease hlink hbase hsync =>
      congrArg Host.Outcome.next (resyncReceive_begins ⟨hmode, hbase, hlink⟩ hsync hlease table row.toNat epoch data)
  case copy =>
    intro wing cat table row epoch data t0 i k home s hmode hlease hlink hbase hsync htable hplace hawaits hdata hwritten
    exact congrArg Host.Outcome.next ((resyncReceive_copies ⟨hmode, hbase, hlink⟩ hsync table row.toNat epoch data).trans
      (resyncRow_writes htable hplace hawaits hdata hwritten))
  case copyDone =>
    exact fun wing cat v term s hmode hlink hlease hbase hsync =>
      congrArg Host.Outcome.next (resyncDone_inSync ⟨hmode, hbase, hlink⟩ hsync v term)

end

section
/-! PROOF. Integer elements of a matrix descriptor (08 R262 to R265): the corrected sum and its bound, the rounding shift, and the
clamped element that is stored; O26 from them. -/

open Sys2Proof Sys2Proof.Machine

namespace Sys2Proof.Machine

/-! ### The corrected sum (08 R262, R263) -/

theorem mxAccInt_eq_sum (x : MxParam) (a b : List Int) :
    mxAccInt x a b = ((a.zip b).map fun y : Int × Int => (y.1 - x.za) * (y.2 - x.zb)).sum + signed 32 x.bias := by
  rw [mxAccInt, List.sum_eq_foldl, List.foldl_map]

/-- Zero points may be subtracted afterwards, from the sums of the raw elements. -/
theorem sum_zip_sub_mul_sub (u v : Int) {a b : List Int} (hlen : a.length = b.length) :
    ((a.zip b).map fun y : Int × Int => (y.1 - u) * (y.2 - v)).sum =
      ((a.zip b).map fun y : Int × Int => y.1 * y.2).sum - u * b.sum - v * a.sum + a.length * u * v := by
  induction a generalizing b with
  | nil => simp [List.length_eq_zero_iff.mp hlen.symm]
  | cons x a ih =>
    obtain ⟨y, b, rfl⟩ := List.exists_cons_of_length_eq_add_one hlen.symm
    simp only [List.zip_cons_cons, List.map_cons, List.sum_cons, List.length_cons, ih (Nat.succ.inj hlen)]
    push_cast
    ring

/-- A sum of terms that are each at most `m`. -/
theorem natAbs_sum_map_le {α : Type} {f : α → Int} {l : List α} {m : Nat} (h : ∀ y ∈ l, (f y).natAbs ≤ m) :
    (l.map f).sum.natAbs ≤ l.length * m := by
  induction l with
  | nil => simp
  | cons y l ih =>
    obtain ⟨hy, hl⟩ := List.forall_mem_cons.mp h
    have hsum := ih hl
    simp only [List.map_cons, List.sum_cons, List.length_cons, Nat.succ_mul]
    omega

/-- An integer format of four or eight bits holds 0 and spans at most 255. -/
theorem fmt_spans {c : Nat} (hc : c < 4) : fmtLo c ≤ 0 ∧ 0 ≤ fmtHi c ∧ fmtHi c - fmtLo c ≤ 255 := by
  interval_cases c <;> decide

/-- At most 32,768 products of elements of four or eight bits, less zero points of their formats (08 R262). -/
theorem natAbs_sum_zip_sub_le {fa fb : Nat} {a b : List Int} {u v : Int} (hfa : fa < 4) (hfb : fb < 4) (hlen : a.length ≤ 32768)
    (ha : ∀ x ∈ a, fmtLo fa ≤ x ∧ x ≤ fmtHi fa) (hb : ∀ y ∈ b, fmtLo fb ≤ y ∧ y ≤ fmtHi fb)
    (hu : fmtLo fa ≤ u ∧ u ≤ fmtHi fa) (hv : fmtLo fb ≤ v ∧ v ≤ fmtHi fb) :
    ((a.zip b).map fun y : Int × Int => (y.1 - u) * (y.2 - v)).sum.natAbs ≤ 2130739200 := by
  have hterm : ∀ y ∈ a.zip b, ((y.1 - u) * (y.2 - v)).natAbs ≤ 255 * 255 := by
    intro y hy
    obtain ⟨hya, hyb⟩ := List.of_mem_zip hy
    have hra := ha _ hya
    have hrb := hb _ hyb
    have hspanA := fmt_spans hfa
    have hspanB := fmt_spans hfb
    rw [Int.natAbs_mul]
    exact Nat.mul_le_mul (by omega) (by omega)
  have hsum := natAbs_sum_map_le hterm
  rw [List.length_zip] at hsum
  omega

/-! ### The rounding shift (08 R264) -/

section
variable {r : Int} {n : Nat}

@[simp] theorem mxRound_zero (even : Bool) : mxRound even r 0 = r := rfl

theorem mxRound_halfUp (hn : 0 < n) : mxRound false r n = (r + 2 ^ (n - 1)) / 2 ^ n := by
  simp [mxRound, hn.ne']

/-- Half to even, from the quotient and the remainder. -/
theorem mxRound_even (hn : 0 < n) : mxRound true r n =
    if 2 ^ (n - 1) < r - r / 2 ^ n * 2 ^ n ∨ r - r / 2 ^ n * 2 ^ n = 2 ^ (n - 1) ∧ r / 2 ^ n % 2 = 1 then r / 2 ^ n + 1
    else r / 2 ^ n := by
  have hrem : r % 2 ^ n = r - r / 2 ^ n * 2 ^ n := by rw [Int.emod_def, mul_comm]
  simp [mxRound, hn.ne', hrem]

end

/-! ### The stored element (08 R265) -/

theorem clampI_eq (c : Nat) (i : Int) (hc : fmtLo c ≤ fmtHi c) : (clampI c i).1 = max (fmtLo c) (min (fmtHi c) i) := by
  unfold clampI
  split_ifs <;> omega

/-- The bits of an integer of a format are read back as that integer. -/
theorem decodeI_intBits {c : Nat} {i : Int} (hc : c = 0 ∨ c = 1 ∨ c = 2 ∨ c = 3 ∨ c = 8 ∨ c = 9) (hlo : fmtLo c ≤ i)
    (hhi : i ≤ fmtHi c) : decodeI c (intBits c i) = i := by
  rcases hc with rfl | rfl | rfl | rfl | rfl | rfl <;>
    simp only [fmtLo, fmtHi] at hlo hhi <;>
    norm_num [decodeI, intBits, wrapTo, signed, fmtLo, fmtBits] <;>
    omega

/-- The element codes of the integer outputs (08 R253). -/
theorem mxOutFmt_int {c : Nat} (hc : c < 6) : mxOutFmt c = 0 ∨ mxOutFmt c = 1 ∨ mxOutFmt c = 2 ∨ mxOutFmt c = 3 ∨
    mxOutFmt c = 8 ∨ mxOutFmt c = 9 := by
  interval_cases c <;> decide

/-- An integer output is the shifted product plus ZOUT, clamped to its format. -/
theorem decodeI_mxElemInt {x : MxParam} {c : Nat} (hc : c < 6) (hfo : x.fo = mxOutFmt c) (hint : x.intOut = true) (a b : List Int) :
    decodeI x.fo (mxElemInt x a b) =
      max (fmtLo x.fo) (min (fmtHi x.fo) (mxRound x.even (mxAccInt x a b * x.mult) x.shift + x.zout)) := by
  have hcode := mxOutFmt_int hc
  rw [← hfo] at hcode
  have hrange : fmtLo x.fo ≤ fmtHi x.fo := by rcases hcode with h | h | h | h | h | h <;> rw [h] <;> decide
  rw [mxElemInt, if_pos hint, clampI_eq _ _ hrange]
  exact decodeI_intBits hcode (le_max_left ..) (max_le hrange (min_le_left ..))

end Sys2Proof.Machine

/-- Settles O26: the sum by its corrected form, its bound term by term, and the stored element by the clamp that is read back. -/
theorem matrixIntegersAreExactRoundedAndClamped : Obligations.MatrixIntegersAreExactRoundedAndClamped := by
  unfold Obligations.MatrixIntegersAreExactRoundedAndClamped
  refine ⟨?sum, ?bounds, ?shift, ?stored⟩
  case sum =>
    intro x a b hlen
    rw [mxAccInt_eq_sum, sum_zip_sub_mul_sub _ _ hlen]
  case bounds =>
    intro x fa fb a b hfa hfb _ hlen ha hb hza hzb
    obtain ⟨hloA, hhiA, _⟩ := fmt_spans hfa
    obtain ⟨hloB, hhiB, _⟩ := fmt_spans hfb
    have hraw := natAbs_sum_zip_sub_le hfa hfb hlen ha hb ⟨hloA, hhiA⟩ ⟨hloB, hhiB⟩
    simp only [sub_zero] at hraw
    rw [mxAccInt_eq_sum, add_sub_cancel_right]
    exact ⟨hraw, natAbs_sum_zip_sub_le hfa hfb hlen ha hb hza hzb⟩
  case shift =>
    intro even r n
    refine ⟨mxRound_zero even, mxRound_halfUp, fun hn hover => ?_, fun hn htie hodd => ?_, fun hn hunder => ?_,
      fun hn htie heven => ?_⟩ <;> rw [mxRound_even hn]
    · exact if_pos (.inl hover)
    · exact if_pos (.inr ⟨htie, hodd⟩)
    · exact if_neg (by omega)
    · exact if_neg (by omega)
  case stored =>
    intro x a b c hc hfo hint
    have hstored := decodeI_mxElemInt hc hfo hint a b
    refine ⟨hstored, fun hc5 hmult hshift hzout => ?_⟩
    rw [hstored, hmult, hshift, hzout, mxRound_zero, mul_one, add_zero, hfo, hc5]
    rfl

end

section
/-! PROOF. What a run of an engine leaves of the scratchpad (08 R260, 09 R287, R296): it writes inside its output region alone. -/

open Sys2Proof Sys2Proof.Machine

namespace Sys2Proof.Machine

/-! ### Writes inside a region -/

/-- A run of the region holds the `n` bytes from `o`. -/
def Region.holds (r : Region) (o n : Nat) : Prop := ∃ x ∈ r.runs, x.1 ≤ o ∧ o + n ≤ x.1 + x.2

/-- No byte of scratchpad outside a region of half-cell `h` differs between two states. -/
def SpWithin (h : Nat) (r : Region) (s t : State) : Prop :=
  ∀ a, (∀ x ∈ r.runs, a < spBase h + x.1 ∨ spBase h + x.1 + x.2 ≤ a) → Tbl.get 0#8 t.sp a = Tbl.get 0#8 s.sp a

theorem Region.mem_runs {r : Region} {p i : Nat} (hp : p < r.planes) (hi : i < r.rows) :
    (r.addr + p * r.ps + i * r.rs, r.len) ∈ r.runs :=
  List.mem_flatMap.mpr ⟨p, List.mem_range.mpr hp, List.mem_map.mpr ⟨i, List.mem_range.mpr hi, rfl⟩⟩

/-- Bytes within one run, from `k` bytes after its beginning. -/
theorem Region.holds_of_run {r : Region} {p i k n : Nat} (hp : p < r.planes) (hi : i < r.rows) (hn : k + n ≤ r.len) :
    r.holds (r.addr + p * r.ps + i * r.rs + k) n :=
  ⟨_, Region.mem_runs hp hi, Nat.le_add_right .., by omega⟩

section
variable {h : Nat} {r : Region} {s t u : State}

theorem SpWithin.trans (hst : SpWithin h r s t) (htu : SpWithin h r t u) : SpWithin h r s u :=
  fun a ha => (htu a ha).trans (hst a ha)

theorem SpWithin.of_sp (hsp : t.sp = s.sp) : SpWithin h r s t := fun _ _ => by rw [hsp]

theorem SpWithin.refl (s : State) : SpWithin h r s s := .of_sp rfl

theorem SpWithin.spWrite {off : Nat} {data : Bytes} (hin : r.holds off data.length) (writer : Option (Nat × W16)) :
    SpWithin h r s (spWrite s h off data writer) := by
  intro a ha
  obtain ⟨x, hx, hlo, hhi⟩ := hin
  have hout := ha x hx
  exact Mem.get_write_other s.sp (spBase h + off) data a (by omega)

/-- A fold that writes inside the region at each step. -/
theorem SpWithin.foldl {α β : Type} (g : α → State) {f : α → β → α} {l : List β} {x : α}
    (hf : ∀ y, ∀ b ∈ l, SpWithin h r (g y) (g (f y b))) : SpWithin h r (g x) (g (l.foldl f x)) :=
  List.foldlRecOn l f (motive := fun y => SpWithin h r (g x) (g y)) (.refl _) fun y hy b hb => hy.trans (hf y b hb)

end

/-! ### Lengths of rows -/

theorem length_packNibbles (l : List Nat) : (packNibbles l).length = (l.length + 1) / 2 := by
  induction l using packNibbles.induct with
  | case1 => rfl
  | case2 a => simp [packNibbles]
  | case3 a b t ih =>
    simp only [packNibbles, List.length_cons, ih]
    omega

theorem fmtBits_cases (c : Nat) : fmtBits c = 4 ∨ fmtBits c = 8 ∨ fmtBits c = 16 ∨ fmtBits c = 32 := by
  unfold fmtBits
  split <;> simp

@[simp] theorem length_packElems (c : Nat) (l : List Nat) : (packElems c l).length = rowBytes c l.length := by
  unfold packElems rowBytes
  split_ifs with h4
  · rw [length_packNibbles, h4]
    omega
  · have hbytes : (l.map fun v => leBytes (fmtBits c / 8) v).flatten.length = l.length * (fmtBits c / 8) := by
      simp [List.length_flatten, Function.comp_def]
    rw [hbytes]
    rcases fmtBits_cases c with hc | hc | hc | hc
    · exact absurd hc h4
    all_goals rw [hc]; omega

/-- Elements from an even one on lie inside a row that holds them. -/
theorem rowBytes_from {c j n m : Nat} (heven : j % 2 = 0) (hin : j + n ≤ m) : j * fmtBits c / 8 + rowBytes c n ≤ rowBytes c m := by
  unfold rowBytes
  rcases fmtBits_cases c with hc | hc | hc | hc <;> rw [hc] <;> omega

theorem rowBytes_mono {c n m : Nat} (hin : n ≤ m) : rowBytes c n ≤ rowBytes c m :=
  Nat.div_le_div_right (Nat.add_le_add_right (Nat.mul_le_mul_right _ hin) 7)

/-! ### What leaves the scratchpad as it is -/

theorem sp_of_outsideVents {s t : State} (h : t.outsideVents = s.outsideVents) : t.sp = s.sp :=
  show t.outsideVents.sp = s.outsideVents.sp by rw [h]

theorem logEvent_outsideVents (s : State) (kind : W16) (sev : Byte) (wing die : Nat) (code : Byte) (d0 d1 d2 d3 : Nat) :
    (logEvent s kind sev wing die code d0 d1 d2 d3).outsideVents = s.outsideVents :=
  raise_outsideVents s _ _

section
variable (s : State) (h : Nat)

theorem spReadError_sp (off : Nat) : (spReadError s h off).sp = s.sp :=
  (sp_of_outsideVents (logEvent_outsideVents ..)).trans (State.setDie_sp ..)

theorem dupPass_sp (l : Launch) (r : Req) (u h' c n p : Nat) (product : Bytes) : (dupPass l r u h' c n p product s).sp = s.sp := by
  simp only [dupPass]
  split <;> rfl

theorem startPass_sp (u : Nat) (l : Launch) (p : Nat) (product : Bytes) : (startPass h u l p product s).sp = s.sp := by
  unfold startPass
  split
  · rfl
  split
  · rfl
  split
  · rfl
  · exact dupPass_sp s ..

/-- The passes of a block touch the unit's own memories alone. -/
theorem mxPassRun_sp (l : Launch) (u half : Nat) (a b : List (List Nat)) (bias : List Nat) :
    (mxPassRun h l u half a b bias s).sp = s.sp :=
  foldl_keeps State.sp fun t _ => startPass_sp t h ..

end

/-! ### The matrix unit (08 R249, R260) -/

/-- Each of the tiles of `m` that cover `n` begins below `n`. -/
theorem mul_lt_of_lt_ceilDiv {j m n : Nat} (h : j < ceilDiv n m) : m * j < n := by
  have hm : 0 < m := by
    by_contra hm
    obtain rfl : m = 0 := by omega
    simp [ceilDiv] at h
  have hle := (Nat.le_div_iff_mul_le hm).mp (Nat.succ_le_of_lt h)
  rw [Nat.succ_mul, Nat.mul_comm] at hle
  omega

theorem mxOutput_holds {d : Bytes} {i k n : Nat} (hi : i < mxM d)
    (hn : k + n ≤ rowBytes (mxOutFmt (mxFo d)) (if mxOp d = 1 then mxPairs d else mxN d)) :
    (mxOutput d).holds (mxOut d + i * mxOs d + k) n := by
  simpa [mxOutput] using Region.holds_of_run (r := mxOutput d) (p := 0) Nat.one_pos hi hn

/-- A list of pairs below `n`, with or without the diagonal. -/
theorem two_mul_length_pairs {α : Type} (diag : Bool) (f : Nat → Nat → α) (n : Nat) :
    2 * ((List.range n).flatMap fun j => (List.range (if diag then j + 1 else j)).map fun i => f i j).length =
      if diag then n * (n + 1) else n * (n - 1) := by
  induction n with
  | zero => split_ifs <;> rfl
  | succ n ih =>
    rw [List.range_succ, List.flatMap_append, List.length_append, Nat.mul_add, ih, List.flatMap_singleton, List.length_map,
      List.length_range]
    split_ifs
    · ring
    · cases n
      · rfl
      · simp only [Nat.add_sub_cancel]
        ring

/-- The outputs of one sample are its pairs (08 R273). -/
theorem length_samplePairs {α : Type} (d : Bytes) (f : Nat → Nat → α) :
    ((List.range (mxN d)).flatMap fun j => (List.range (if mxDiag d then j + 1 else j)).map fun i => f i j).length = mxPairs d := by
  have hdouble := two_mul_length_pairs (mxDiag d) f (mxN d)
  unfold mxPairs
  split_ifs at hdouble ⊢ <;> omega

section
variable (h u : Nat) (l : Launch)

/-- A tile that an earlier failure, a bad word or a bad entry stops writes nothing; any other writes its part of its rows. -/
theorem mxTile_within (half : Nat) {b0 j0 : Nat} (heven : j0 % 2 = 0) (hb : b0 < mxM l.desc) (hj : j0 < mxN l.desc)
    (hop : mxOp l.desc ≠ 1) (x : EngRun) : SpWithin h (mxOutput l.desc) x.1 (mxTile h u l b0 j0 half x).1 := by
  simp only [mxTile]
  split
  · exact .refl _
  split
  · exact .of_sp (spReadError_sp ..)
  split
  · exact .refl _
  split
  · exact .of_sp (spReadError_sp ..)
  · refine SpWithin.trans (.of_sp (mxPassRun_sp ..)) (SpWithin.foldl id fun t row hrow => .spWrite ?_ _)
    obtain ⟨a, ha, rfl⟩ := List.mem_map.mp hrow
    have hi := List.snd_lt_of_mem_zipIdx ha
    simp only [List.length_map, List.length_range] at hi
    refine mxOutput_holds (by omega) ?_
    rw [length_packElems, if_neg hop, List.length_map, List.length_zip, List.length_map, List.length_range]
    exact (Nat.add_le_add_left (rowBytes_mono (Nat.min_le_left ..)) _).trans (rowBytes_from heven (by omega))

/-- A sample that an earlier failure or a bad word stops writes nothing; any other writes its output row. -/
theorem mxSample_within {n : Nat} (hn : n < mxM l.desc) (hop : mxOp l.desc = 1) (x : EngRun) :
    SpWithin h (mxOutput l.desc) x.1 (mxSample h u l n x).1 := by
  simp only [mxSample]
  split
  · exact .refl _
  split
  · exact .of_sp (spReadError_sp ..)
  · refine SpWithin.trans (.of_sp (foldl_keeps State.sp fun t _ => mxPassRun_sp ..)) (.spWrite ?_ _)
    refine mxOutput_holds (k := 0) hn ?_
    rw [length_packElems, if_pos hop, Nat.zero_add]
    exact rowBytes_mono (length_samplePairs ..).le

/-- A whole matrix descriptor (08 R249, R260). -/
theorem mxRun_within (s : State) : SpWithin h (mxOutput l.desc) s (mxRun s h l).1 := by
  unfold mxRun
  dsimp only
  split_ifs with hop
  · exact .foldl Prod.fst fun x n hn => mxSample_within h _ l (List.mem_range.mp hn) hop x
  · refine .foldl Prod.fst fun x b hb => .foldl Prod.fst fun x j hj => ?_
    have heven : mxNt (mxFa l.desc) * j % 2 = 0 := by
      unfold mxNt
      split <;> omega
    have hrow := mul_lt_of_lt_ceilDiv (List.mem_range.mp hb)
    have hcol := mul_lt_of_lt_ceilDiv (List.mem_range.mp hj)
    exact mxTile_within h _ l _ heven hrow hcol hop x

end

/-! ### The vector engine (09 R286, R287, R296) -/

section
variable (h : Nat) (l : Launch)

theorem veLoadRow_sp (p : Nat) (x : VecRun) : (veLoadRow h l p x).s.sp = x.s.sp := by
  simp only [veLoadRow]
  split
  · exact spReadError_sp ..
  · rfl

theorem veRow_within {p r : Nat} (hp : p < vePlanes l.desc) (hr : r < veRows l.desc) (x : VecRun) :
    SpWithin h (veOutput l.desc) x.s (veRow h l p r x).s := by
  simp only [veRow]
  split
  · exact .refl _
  split
  · exact .of_sp (spReadError_sp ..)
  split
  · exact .of_sp (spReadError_sp ..)
  · refine .spWrite ?_ _
    rw [length_packElems, List.length_map, List.length_map, List.length_range]
    exact Region.holds_of_run (r := veOutput l.desc) (k := 0) hp hr (Nat.zero_add _).le

theorem veStep_within {i : Nat} (hi : i < veTotal l.desc) (x : VecRun) :
    SpWithin h (veOutput l.desc) x.s (veStep h l i x).s := by
  have hrows : 0 < veRows l.desc := Nat.succ_pos _
  simp only [veStep]
  split
  · exact .refl _
  · refine SpWithin.trans (.of_sp ?_) (veRow_within h l (Nat.div_lt_of_lt_mul (Nat.mul_comm .. ▸ hi)) (Nat.mod_lt _ hrows) _)
    split
    · exact veLoadRow_sp ..
    · rfl

/-- A whole vector descriptor, but for its flag word. -/
theorem veRun_within (s : State) : SpWithin h (veOutput l.desc) s (veRun s h l).s :=
  .foldl VecRun.s fun x _ hi => veStep_within h l (List.mem_range.mp (List.mem_of_mem_drop hi)) x

end

/-! ### The reduction unit (09 R298, R299, R302) -/

section
variable (h : Nat) (l : Launch)

theorem length_ruLineF {op : Nat} (hop : op ≤ 5) (es : List Num) : (ruLineF op es).1.length = if op = 5 then 16 else 4 := by
  interval_cases op <;> rfl

/-- The result of a line lies in its place (09 R298). -/
theorem length_ruLine_le {d : Bytes} (hop : ruOp d ≤ 5) (raw : List Nat) : (ruLine d raw).1.length ≤ ruSize d := by
  unfold ruLine
  split
  · exact (length_ruLineF hop _).le
  · simp only [length_leBytes, ruSize]
    split_ifs <;> decide

theorem ruWrite_within {p first : Nat} {outs : List (Bytes × Nat)} (hp : p < ruPlanes l.desc)
    (hfirst : first + outs.length ≤ ruCount l.desc) (hsize : ∀ o ∈ outs, o.1.length ≤ ruSize l.desc) (x : VecRun) :
    SpWithin h (ruOutput l.desc) x.s (ruWrite h l p first outs x).s := by
  refine .foldl id fun t o ho => .spWrite ?_ _
  have hi := List.snd_lt_of_mem_zipIdx ho
  have hlen := hsize o.1 (List.fst_mem_of_mem_zipIdx ho)
  have hplace : first + o.2 < ruCount l.desc := by omega
  exact Region.holds_of_run (r := ruOutput l.desc) (k := 0) hp hplace ((Nat.zero_add _).trans_le hlen)

theorem ruStep_within {i : Nat} (hop : ruOp l.desc ≤ 5) (hi : i < ruTotal l.desc) (x : VecRun) :
    SpWithin h (ruOutput l.desc) x.s (ruStep h l i x).s := by
  have hplane : i / ruRows l.desc < ruPlanes l.desc := Nat.div_lt_of_lt_mul (Nat.mul_comm .. ▸ hi)
  have hrow : i % ruRows l.desc < ruRows l.desc := Nat.mod_lt _ (Nat.succ_pos _)
  simp only [ruStep]
  split
  · exact .refl _
  split
  · exact .of_sp (spReadError_sp ..)
  split
  next haxis =>
    split
    · refine SpWithin.trans (.of_sp rfl) (ruWrite_within h l hplane ?_ ?_ _)
      · simp [ruCount, haxis]
      · simpa using fun _ _ => length_ruLine_le hop _
    · exact .of_sp rfl
  next haxis =>
    refine ruWrite_within h l hplane ?_ ?_ x
    · simpa [ruCount, haxis] using hrow
    · simpa using length_ruLine_le hop _

/-- A whole reduction descriptor, but for its flag word. -/
theorem ruRun_within (hop : ruOp l.desc ≤ 5) (s : State) : SpWithin h (ruOutput l.desc) s (ruRun s h l).s :=
  .foldl VecRun.s fun x _ hi => ruStep_within h l hop (List.mem_range.mp (List.mem_of_mem_drop hi)) x

end

end Sys2Proof.Machine
end

section
/-! PROOF. The ends of descriptors and the verdicts on passes: MATRIX_DESCRIPTOR_DONE, VECTOR_DESCRIPTOR_DONE,
REDUCTION_DESCRIPTOR_DONE, DUPLICATE_VERDICT and MISMATCH_DECAY (08 R261, 09 R292, R295, 12 R378 to R383); O28 from them. -/

open Sys2Proof Sys2Proof.Machine

namespace Sys2Proof.Machine

/-! ### The end of a descriptor on an error-free SRAM -/

section
variable {s : State} {l : Launch}

theorem matrixDone_completes {u : Nat} {x : State} (hgrant : granted s (.mu u) = some l)
    (hrun : mxRun s (docHalf s l.doc) l = (x, none)) (hover : mxOverlap l.desc = false) (hclean : l.dirty = false) :
    matrixDone s u .clean .clean = ticketDone (endBurst x (.mu u)) l.doc l.ticket := by
  simp [matrixDone, hgrant, spUpset, sramSaw, hrun, mxUndef, hover, hclean]

theorem matrixDone_fails {u : Nat} {x : State} {f : Byte × Nat} (hgrant : granted s (.mu u) = some l)
    (hrun : mxRun s (docHalf s l.doc) l = (x, some f)) (hover : mxOverlap l.desc = false) (hclean : l.dirty = false) :
    matrixDone s u .clean .clean = launchFail (endBurst x (.mu u)) l f.1 (l.detail (endBurst x (.mu u)) f.2) := by
  simp [matrixDone, hgrant, spUpset, sramSaw, hrun, mxUndef, hover, hclean]

theorem matrixDone_bad {u g : Nat} (hgrant : granted s (.mu u) = some l) (bad : Sram) :
    matrixDone s u (.bad g) bad = quarantine (sramUE s (u / 5) stMatrix g) u stMatrix := by
  simp [matrixDone, hgrant]

theorem vectorDone_clean {c : Nat} (hgrant : granted s (.ve c) = some l) (hover : veOverlap l.desc = false) (hclean : l.dirty = false) :
    vectorDone s c .clean .clean = finishRun l (docHalf s l.doc) (veOutput l.desc) (veFlagsEn l.desc) (veFlags l.desc) false
      (veRun s (docHalf s l.doc) l) := by
  simp [vectorDone, hgrant, spUpset, sramSaw, veUndef, hover, hclean]

theorem reductionDone_clean {c : Nat} (hgrant : granted s (.ru c) = some l) (hover : ruOverlap l.desc = false)
    (hclean : l.dirty = false) :
    reductionDone s c .clean .clean = finishRun l (docHalf s l.doc) (ruOutput l.desc) (ruFlagsEn l.desc) (ruFlags l.desc) false
      (ruRun s (docHalf s l.doc) l) := by
  simp [reductionDone, hgrant, spUpset, sramSaw, ruUndef, hover, hclean]

section
variable {h flagsAt : Nat} {out : Region} {flagsEn : Bool} {x : VecRun}

/-- A run without a bad read writes its flag word, where it has one, and its ticket completes (09 R292). -/
theorem finishRun_completes (hgood : x.bad = false) : finishRun l h out flagsEn flagsAt false x =
    ticketDone (if flagsEn then spWrite (endBurst x.s l.eng) h flagsAt (leBytes 4 x.flags) (some (l.doc.val, l.ticket))
      else endBurst x.s l.eng) l.doc l.ticket := by
  simp [finishRun, hgood]

/-- A run that a bad read ended writes no flag word and fails (09 R295). -/
theorem finishRun_fails (hbad : x.bad = true) : finishRun l h out flagsEn flagsAt false x =
    launchFail (endBurst x.s l.eng) l rUNCORRECTABLE_MEMORY (l.detail (endBurst x.s l.eng) 0) := by
  simp [finishRun, hbad]

end
end

/-! ### Verdicts (12 R378, R381, R383) -/

theorem alarmCode_outsideVents (s : State) (kind : W16) (wing die : Nat) (code : Byte) (d0 d1 d2 d3 : Nat) :
    (alarmCode s kind wing die code d0 d1 d2 d3).outsideVents = s.outsideVents :=
  raise_outsideVents s _ _

theorem findReq_of_outsideVents {s t : State} (h : t.outsideVents = s.outsideVents) (id : Nat) : t.findReq id = s.findReq id :=
  show t.outsideVents.findReq id = s.outsideVents.findReq id by rw [h]

/-- A request that is not there is not updated. -/
theorem updReq_of_findReq_none {s : State} {id : Nat} (hnone : s.findReq id = none) (f : Req → Req) : s.updReq id f = s := by
  have hkeep : s.reqs.map (fun r => if r.id = id then f r else r) = s.reqs :=
    (List.map_congr_left fun r hr => if_neg (by simpa using List.find?_eq_none.mp hnone r hr)).trans (List.map_id' _)
  rw [State.updReq, hkeep]

section
variable {s : State} {c : Nat} {q : Dup} (holdest : s.dups.find? (fun q => q.checker == c) = some q)
include holdest

theorem duplicateVerdict_agrees {v : CheckRun} (hv : passAgrees v q.digest = true) : duplicateVerdict s c v =
    { s with dups := s.dups.erase q }.updReq q.req fun r => { r with dup := !r.dupBad } := by
  cases v with
  | bad g => cases hv
  | agrees => simp only [duplicateVerdict, holdest]; rfl
  | product b => simp only [duplicateVerdict, holdest, hv, if_true]

theorem duplicateVerdict_bad (g : Nat) : duplicateVerdict s c (.bad g) =
    quarantine (sramUE { s with dups := s.dups.erase q } (unitDie c) stCheck g) c stCheck := by
  simp only [duplicateVerdict, holdest]

/-- A mismatch whose request is gone: the alarm, and the counts of both units. -/
theorem duplicateVerdict_differs {product : Bytes} (hdiffers : crc64 product ≠ q.digest) (hgone : s.findReq q.req = none) :
    duplicateVerdict s c (.product product) =
      countMismatch (countMismatch (alarmCode ({ s with dups := s.dups.erase q }.updWing q.wing fun w =>
        { w with dupMismatch := satInc w.dupMismatch }) 0x0302 q.wing (unitDie q.origin) rDUPLICATE_MISMATCH q.origin q.checker
        q.seq.toNat 0) q.origin) q.checker := by
  have hv : passAgrees (.product product) q.digest = false := decide_eq_false hdiffers
  have hnone := (findReq_of_outsideVents (alarmCode_outsideVents ({ s with dups := s.dups.erase q }.updWing q.wing fun w =>
    { w with dupMismatch := satInc w.dupMismatch }) 0x0302 q.wing (unitDie q.origin) rDUPLICATE_MISMATCH q.origin q.checker
    q.seq.toNat 0) q.req).trans hgone
  simp only [duplicateVerdict, holdest, hv, updReq_of_findReq_none hnone, hnone, Bool.false_eq_true, if_false, Option.isSome_none]

end

section
variable {s : State} {u : Nat}

theorem countMismatch_counts (h : (s.unit u).mismatches < 2) :
    countMismatch s u = s.setUnit u { s.unit u with mismatches := (s.unit u).mismatches + 1 } := by
  have hmin : min 3 ((s.unit u).mismatches + 1) = (s.unit u).mismatches + 1 := by omega
  simp only [countMismatch, hmin]
  exact if_neg (by omega)

theorem countMismatch_quarantines (h : 2 ≤ (s.unit u).mismatches) :
    countMismatch s u = quarantine (s.setUnit u { s.unit u with mismatches := 3 }) u 0xFF := by
  have hmin : min 3 ((s.unit u).mismatches + 1) = 3 := by omega
  simp only [countMismatch, hmin, if_true]
  rfl

end

end Sys2Proof.Machine

/-- Settles O28: a run that ends well or badly, what it leaves of the scratchpad, and the verdicts by what the checker answers. -/
theorem enginesCompleteTheirDescriptors : Obligations.EnginesCompleteTheirDescriptors := by
  unfold Obligations.EnginesCompleteTheirDescriptors
  refine ⟨?matrix, ?matrixFails, ?matrixBad, ?vector, ?reduction, ?vectorFails, ?frame, ?agrees, ?agreesProduct, ?differs,
    ?checkBad, ?counts, ?decay⟩
  case matrix =>
    exact fun unit l x s hgrant hrun hover hclean => congrArg Host.Outcome.next (matrixDone_completes hgrant hrun hover hclean)
  case matrixFails =>
    exact fun unit l x f s hgrant hrun hover hclean => congrArg Host.Outcome.next (matrixDone_fails hgrant hrun hover hclean)
  case matrixBad =>
    exact fun unit l n bad s hgrant => congrArg Host.Outcome.next (matrixDone_bad hgrant bad)
  case vector =>
    rintro cell l x s hgrant rfl hgood hover hclean
    exact congrArg Host.Outcome.next ((vectorDone_clean hgrant hover hclean).trans (finishRun_completes hgood))
  case reduction =>
    rintro cell l x s hgrant rfl hgood hover hclean
    exact congrArg Host.Outcome.next ((reductionDone_clean hgrant hover hclean).trans (finishRun_completes hgood))
  case vectorFails =>
    rintro cell l x s hgrant rfl hbad hover hclean
    exact congrArg Host.Outcome.next ((vectorDone_clean hgrant hover hclean).trans (finishRun_fails hbad))
  case frame =>
    exact fun h a l s => ⟨mxRun_within h l s a, veRun_within h l s a, fun hop => ruRun_within h l hop s a⟩
  case agrees =>
    exact fun unit q s holdest => congrArg Host.Outcome.next (duplicateVerdict_agrees holdest rfl)
  case agreesProduct =>
    intro unit q product s holdest hsame
    have hv : passAgrees (.product product) q.digest = true := decide_eq_true hsame
    exact congrArg Host.Outcome.next ((duplicateVerdict_agrees holdest hv).trans (duplicateVerdict_agrees holdest rfl).symm)
  case differs =>
    exact fun unit q product s holdest hdiffers hgone =>
      congrArg Host.Outcome.next (duplicateVerdict_differs holdest hdiffers hgone)
  case checkBad =>
    intro unit q n s holdest
    have hdie : unitDie unit.val = unit.val / 5 := if_pos unit.isLt
    exact congrArg Host.Outcome.next (hdie ▸ duplicateVerdict_bad holdest n)
  case counts =>
    exact fun u s => ⟨countMismatch_counts, countMismatch_quarantines⟩
  case decay =>
    exact fun unit s => rfl

end

section
/-! PROOF. The operations of the vector engine in an integer compute type (09 R288, R290); O27 from them. -/

open Sys2Proof Sys2Proof.Machine

namespace Sys2Proof.Machine

/-! ### Numbers as words of two's complement -/

theorem wrapTo_eq_toNat (w : Nat) (i : Int) : wrapTo w i = (BitVec.ofInt w i).toNat := (BitVec.toNat_ofInt ..).symm

theorem signed_eq_toInt (w v : Nat) : signed w v = (BitVec.ofNat w v).toInt := by
  have hhalf : v % 2 ^ w < 2 ^ (w - 1) ↔ 2 * (v % 2 ^ w) < 2 ^ w := by
    cases w with
    | zero => simp [Nat.mod_one]
    | succ n => rw [Nat.add_sub_cancel, pow_succ']; omega
  simp only [signed, BitVec.toInt, BitVec.toNat_ofNat, hhalf]

/-- A bitwise operation on the values is the operation of words `g` that acts on their bits as `f` does. -/
theorem bitwiseI_eq_toInt {f : Nat → Nat → Nat} {g : BitVec 32 → BitVec 32 → BitVec 32}
    (hg : ∀ x y, (g x y).toNat = f x.toNat y.toNat) (a b : Int) :
    bitwiseI f a b = (g (BitVec.ofInt 32 a) (BitVec.ofInt 32 b)).toInt := by
  rw [bitwiseI, wrapTo_eq_toNat, wrapTo_eq_toNat, ← hg, signed_eq_toInt, BitVec.ofNat_toNat, BitVec.setWidth_eq]

/-! ### The range of an integer compute type -/

/-- The range holds 0 and reaches below it by one more than above, so only the least value has no exact negative. -/
theorem fmtLo_eq_neg_fmtHi_sub_one {ct : Nat} (hct : ct = 8 ∨ ct = 9) : 0 ≤ fmtHi ct ∧ fmtLo ct = -fmtHi ct - 1 := by
  rcases hct with rfl | rfl <;> decide

/-- A number that is not below the range is clamped at its top alone. -/
theorem clampI_eq_min {c : Nat} {i : Int} (hc : fmtLo c ≤ fmtHi c) (hlo : fmtLo c ≤ i) : (clampI c i).1 = min (fmtHi c) i :=
  (clampI_eq c i hc).trans (max_eq_right (le_min hc hlo))

end Sys2Proof.Machine

/-- Settles O27: the arithmetic operations are `clampI` of the exact result, of which ABS and NEG can leave the range only at its
top, and the bitwise ones are those of the words. -/
theorem vectorIntegersAreExactAndClamped : Obligations.VectorIntegersAreExactAndClamped := by
  unfold Obligations.VectorIntegersAreExactAndClamped
  rintro ct a b hct ⟨-, ha⟩ -
  obtain ⟨hhi, hlo⟩ := fmtLo_eq_neg_fmtHi_sub_one hct
  have hrange : fmtLo ct ≤ fmtHi ct := by omega
  refine ⟨?add, ?sub, ?mul, ?abs, ?neg, ?and, ?or, ?xor, ?gt, ?eq, ?max, ?min, ?relu⟩
  case add => exact clampI_eq ct (a + b) hrange
  case sub => exact clampI_eq ct (a - b) hrange
  case mul => exact clampI_eq ct (a * b) hrange
  case abs => exact clampI_eq_min hrange (by omega)
  case neg => exact clampI_eq_min hrange (by omega)
  case and => exact bitwiseI_eq_toInt BitVec.toNat_and a b
  case or => exact bitwiseI_eq_toInt BitVec.toNat_or a b
  case xor => exact bitwiseI_eq_toInt BitVec.toNat_xor a b
  case gt => rfl
  case eq => rfl
  case max => rfl
  case min => rfl
  case relu =>
    show (if a > 0 then a else 0) = max a 0
    split_ifs <;> omega

end

section
/-! PROOF. The tiles of a stream, the schedule points of a docent and a stream that reaches an absent page (10 R318 to R334). -/

open Sys2Proof Sys2Proof.Machine

namespace Sys2Proof.Machine

/-! ### Tiles (10 R318, R321, R322) -/

/-- The stream that holds the engine may move its tile: it is not halted, tiles are left, its ring has a free slot, and no checkpoint
holds it. -/
structure StreamMoves (s : State) (e : Nat) (l : Launch) (wx : WingIx) : Prop where
  holds : granted s (.strm e) = some l
  live : l.halted = false
  more : l.tile < stTiles l.desc
  room : ringFree (s.doc l.doc) e l.desc = true
  free : ckptHeld s l.req = false
  wing : launchWing s l = some wx

section
variable {s : State} {e : Nat} {l : Launch} {wx : WingIx} {hm : HostMem} {m : Moved}

theorem tileDelivered_counts (h : StreamMoves s e l wx) (hmove : moveTile (prefetch s e l wx) e l wx hm = m) (hall : m.stop = none) :
    tileDelivered s e hm = countTile m.s e l := by
  simp [tileDelivered, h.holds, h.live, h.more, h.room, h.free, h.wing, hmove, hall]

theorem tileDelivered_stops {x : Access Unit} (h : StreamMoves s e l wx) (hmove : moveTile (prefetch s e l wx) e l wx hm = m)
    (hstop : m.stop = some x) : tileDelivered s e hm = moveEnd m l wx := by
  simp [tileDelivered, h.holds, h.live, h.more, h.room, h.free, h.wing, hmove, hstop]

theorem streamDone_completes (hgrant : granted s (.strm e) = some l) (hlast : stTiles l.desc ≤ l.tile) (hclean : l.dirty = false)
    (hover : stOverlap l.desc = false) : streamDone s e = ticketDone (endBurst s (.strm e)) l.doc l.ticket := by
  simp [streamDone, hgrant, hlast, hclean, hover]

/-- A docent whose stream has delivered one more tile, which a linear stream consumes at once. -/
def Docent.delivers (x : Docent) (k : Nat) (linear : Prop) [Decidable linear] : Docent :=
  { x with delivered := Tbl.set 0#32 x.delivered k (x.deliveredAt k + 1),
           consumed := if linear then Tbl.set 0#32 x.consumed k (x.consumedAt k + 1) else x.consumed }

theorem deliveredAt_delivers (x : Docent) (k : Nat) (linear : Prop) [Decidable linear] :
    (x.delivers k linear).deliveredAt k = x.deliveredAt k + 1 := Tbl.get_set_same ..

theorem consumedAt_delivers (x : Docent) (k : Nat) (linear : Prop) [Decidable linear] :
    (x.delivers k linear).consumedAt k = if linear then x.consumedAt k + 1 else x.consumedAt k := by
  by_cases hlinear : linear <;> simp [Docent.delivers, Docent.consumedAt, hlinear]

/-- A docent that waits at no gate has nothing to try again. -/
theorem syncRetry_running {d : Nat} (hstall : (s.doc d).stall = .none) : syncRetry s d = s := by
  simp only [syncRetry, hstall]

/-- A tile that is counted while the docent runs changes the launch and the docent's counters alone. -/
theorem countTile_running (hstall : (s.doc l.doc).stall = .none) : countTile s e l =
    (s.updLaunch l fun x => { x with tile := x.tile + 1, byte_ := 0 }).setDoc l.doc
      ((s.doc l.doc).delivers (engNo e) (stRing l.desc = 0)) :=
  syncRetry_running ((congrArg Docent.stall (State.doc_setDoc_same ..)).trans hstall)

end

/-! ### Schedule points (10 R326, R327) -/

/-- What a fold over the keys below `n` leaves at a key: it changes each of them that `p` picks, and no other. -/
theorem Tbl.get_foldl_range {α : Type} [DecidableEq α] (d : α) (p : Nat → Bool) (f : Nat → α → α) (t : Tbl α) (n j : Nat) :
    Tbl.get d ((List.range n).foldl (fun t k => if p k then Tbl.set d t k (f k (Tbl.get d t k)) else t) t) j =
      if j < n ∧ p j then f j (Tbl.get d t j) else Tbl.get d t j := by
  induction n with
  | zero => simp
  | succ n ih =>
    rw [List.range_succ, List.foldl_append, List.foldl_cons, List.foldl_nil]
    by_cases hj : j = n
    · subst hj
      cases hp : p j <;> simp [ih]
    · have hlt : j < n + 1 ↔ j < n := by omega
      cases hp : p n <;> simp [Tbl.get_set_other, hj, ih, hlt]

/-- A docent whose SYNC passes: it takes the tiles of the schedule entry, and its interval and watchdog restart. -/
def Docent.synced (x : Docent) (e : Bytes) (now : Nat) : Docent :=
  { x with
    consumed := (List.range 8).foldl (fun t k =>
      if ptCons e k then Tbl.set 0#32 t k (Tbl.get 0#32 t k + BitVec.ofNat 32 (ptTake e k)) else t) x.consumed
    gated := (List.range 8).foldl (fun t k =>
      if ptGate e k then Tbl.set 0#32 t k (laterCount (Tbl.get 0#32 t k) (x.consumedAt k + BitVec.ofNat 32 (ptNeed e k))) else t)
      x.gated
    intervalStart := now, dogStart := now, stall := .none }

theorem consumedAt_synced (x : Docent) (e : Bytes) (now : Nat) {k : Nat} (hk : k < 8) :
    (x.synced e now).consumedAt k = x.consumedAt k + (if ptCons e k then BitVec.ofNat 32 (ptTake e k) else 0) := by
  refine (Tbl.get_foldl_range 0#32 (ptCons e) (fun k v => v + BitVec.ofNat 32 (ptTake e k)) x.consumed 8 k).trans ?_
  cases hcons : ptCons e k <;> simp [hk, Docent.consumedAt]

section
variable {s : State} {d p id : Nat}

theorem sync_goes (hreq : (s.doc d).req = some id) (hgoes : stopping s id = false) : sync s d p = syncStep s d p := by
  simp [sync, hreq, hgoes]

theorem syncStep_late (hreq : (s.doc d).req = some id) (hclocks : clocksStopped s id = false)
    (hlate : ptInterval ((s.doc d).sched.getD p []) < s.now - (s.doc d).intervalStart) : syncStep s d p = overrun s d 1 p := by
  simp only [syncStep, hreq, hclocks]
  exact if_pos (by simpa using hlate)

/-- A SYNC past its gates goes on as `synced`. -/
theorem syncStep_passes {x : Docent} {e : Bytes} (hx : s.doc d = x) (he : x.sched.getD p [] = e)
    (hinterval : s.now - x.intervalStart ≤ ptInterval e)
    (hgates : ∀ k, k < 8 → ptGate e k = true → ptNeed e k ≤ x.available k)
    (htakes : ∀ k, k < 8 → ptCons e k = true → ptTake e k ≤ x.available k) :
    syncStep s d p = docNext (s.setDoc d (x.synced e s.now)) d := by
  have hnotLate (free : Bool) : ¬(!free && decide (s.now - x.intervalStart > ptInterval e)) = true := by simp [hinterval]
  have hopen : ¬((List.range 8).any fun k => ptGate e k && decide (x.available k < ptNeed e k)) = true := by
    simpa using hgates
  have henough : ¬((List.range 8).any fun k => ptCons e k && decide (x.available k < ptTake e k)) = true := by
    simpa using htakes
  simp only [syncStep, hx, he]
  rw [if_neg (hnotLate _), if_neg hopen, if_neg henough]
  rfl

theorem exec_scheduleIntervalExpiry_overruns {doc : DocIx} (hpoint : syncPoint (s.doc doc) = some p)
    (hreq : (s.doc doc).req = some id) (hclocks : clocksStopped s id = false) (hgoes : (s.doc doc).stopped = false)
    (hrun : (s.doc doc).state = .running) : exec (.scheduleIntervalExpiry doc) s = .next (overrun s doc 2 p) := by
  have hexec : exec (.scheduleIntervalExpiry doc) s = execScheduleIntervalExpiry doc s := rfl
  simp [hexec, execScheduleIntervalExpiry, hpoint, hreq, hclocks, hgoes, hrun]

theorem exec_wcetExpiry_overruns {r : Req} {rest : List Nat} (hreq : s.findReq id = some r) (hrun : r.phase = .running)
    (hclocks : clocksStopped s id = false) (hopen : r.ended = false) (hfirst : notEnded s id = d :: rest) :
    exec (.wcetExpiry id) s = .next (overrun s d 3 0) := by
  have hexec : exec (.wcetExpiry id) s = execWcetExpiry id s := rfl
  simp [hexec, execWcetExpiry, hreq, hrun, hclocks, hopen, hfirst]

/-- An overrun is counted for the wing of the docent's request, and faults the docent. -/
theorem overrun_counts {kind point : Nat} {r : Req} (hreq : (s.doc d).req = some id) (hfound : s.findReq id = some r) :
    overrun s d kind point = docFaultWith (s.updWing r.wing fun w => { w with overruns := satInc w.overruns }) d
      rDEADLINE_MISSED (wordOffset (s.doc d).pc) (overrunDetail s kind point d) := by
  simp only [overrun, hreq, Option.bind_some, hfound]

end

/-! ### Absent pages (10 R331, R332) -/

/-- The stream that holds the engine halts where its tile reaches the absent page, for which its lent wing's host function can ask. -/
theorem streamPageFault_halts {s : State} {e page f : Nat} {hm : HostMem} {l : Launch} {wx : WingIx} {m : Moved}
    (hgrant : granted s (.strm e) = some l) (hwing : launchWing s l = some wx) (hpage : absentPage s e l wx = some page)
    (hfn : s.hostFn wx = some f) (hf : f < 256) (hlive : l.halted = false) (hlent : isLent s wx = true)
    (hpri : priEnabled s f = true) (hroom : ringFree (s.doc l.doc) e l.desc = true) (hfree : ckptHeld s l.req = false)
    (hmove : moveBefore s e l wx hm page = m) (hall : m.stop = none) :
    streamPageFault s e hm = haltCheck (priAsk (((stopClocks m.s l.req).updLaunch l fun x =>
      { x with byte_ := m.done, halted := true }).updWing wx fun w => { w with halts := satInc w.halts }) wx ⟨f, hf⟩ (page * 4096)
      (strmReader e) 0) l.req := by
  simp only [streamPageFault, hgrant, hwing, hpage, hfn, dif_pos hf, hlive, hlent, hpri, hroom, hfree, hmove, hall]
  rfl

end Sys2Proof.Machine
end

section
/-! PROOF. Checkpoints: the stop, the copy of a request's half-cells and its return to others (10 R335 to R337), and O29 from them and
from the streams and schedule points. -/

open Sys2Proof Sys2Proof.Machine

namespace Sys2Proof.Machine

/-! ### The work of the requests and the checkpoints -/

/-- The queued launches, the checkpoints and their count. -/
def State.workView (s : State) : List Launch × List Ckpt × W64 := (s.launches, s.ckpts, s.ckptCount)

theorem workView_of_outsideVents {s t : State} (h : t.outsideVents = s.outsideVents) : t.workView = s.workView :=
  show t.outsideVents.workView = s.outsideVents.workView by rw [h]

section
variable (s : State)

theorem curatorLog_noWing_workView (target detail : Nat) : (curatorLog s 0xFF target detail).workView = s.workView := by
  unfold curatorLog
  split
  · rfl
  · obtain ⟨log, hframe, -⟩ := logPut_noWing s 0xFFFF 2 target detail (sha384 []) (sha384 []) (w := 0xFF) (by decide)
    exact workView_of_outsideVents (s := { s with log := log }) hframe

theorem substitute_workView (u : Nat) : (substitute s u).workView = s.workView := by
  simp only [substitute]
  split <;> simp [State.workView, clearLane, clearMu, docClear]

theorem swapIn_workView (u : Nat) : (swapIn s u).workView = s.workView := by
  unfold swapIn
  split
  · rfl
  · exact substitute_workView s u

theorem autoSubstitute_workView (u : Nat) : (autoSubstitute s u).workView = s.workView := by
  unfold autoSubstitute
  split
  · rw [curatorLog_noWing_workView, substitute_workView]
  · rfl

theorem returnUnit_workView (u : Nat) : (returnUnit s u).workView = s.workView := by
  unfold returnUnit
  split
  · dsimp only
    split <;> rfl
  · rfl

/-- What waits for a half-cell's request touches units alone. -/
theorem afterRequest_workView (h : Nat) : (afterRequest s h).workView = s.workView := by
  refine (foldl_keeps State.workView fun t u => ?_).trans (foldl_keeps State.workView returnUnit_workView)
  split
  · exact swapIn_workView t u
  · rfl
  · exact autoSubstitute_workView t u

theorem priSend_workView : (priSend s).workView = s.workView :=
  foldl_keeps State.workView fun _ _ => by dsimp only; split <;> rfl

theorem foldl_docClear_workView (docs : List Nat) : (docs.foldl docClear s).workView = s.workView :=
  foldl_keeps State.workView fun _ _ => rfl

end

/-! ### Reads of a copy -/

section
variable {α : Type} (d : α)

/-- A table whose keys are counted from `b` on. -/
theorem Tbl.get_map_sub {t : Tbl α} {b : Nat} (hb : ∀ x ∈ t, b ≤ x.1) (a : Nat) :
    Tbl.get d (t.map fun x => (x.1 - b, x.2)) a = Tbl.get d t (b + a) := by
  induction t with
  | nil => rfl
  | cons x t ih =>
    have hx := hb x List.mem_cons_self
    have hkey : x.1 - b = a ↔ x.1 = b + a := by omega
    simp only [List.map_cons, Tbl.get, hkey, ih fun y hy => hb y (List.mem_cons_of_mem _ hy)]

variable [DecidableEq α]

/-- Writing the entries of a table from `b` on leaves the other keys. -/
theorem Tbl.get_foldl_set_other {t : Tbl α} {b j : Nat} (hj : ∀ x ∈ t, j ≠ b + x.1) (m : Tbl α) :
    Tbl.get d (t.foldl (fun m x => Tbl.set d m (b + x.1) x.2) m) j = Tbl.get d m j :=
  List.foldlRecOn t _ (motive := fun m' => Tbl.get d m' j = Tbl.get d m j) rfl
    fun _ hm x hx => (Tbl.get_set_other d _ _ (hj x hx)).trans hm

/-- Writing the entries of a table from `b` on, where nothing stood, makes the table readable there. -/
theorem Tbl.get_foldl_set {t : Tbl α} (hsorted : (t.map (·.1)).Pairwise (· < ·)) (b a : Nat) {m : Tbl α}
    (hempty : Tbl.get d m (b + a) = d) :
    Tbl.get d (t.foldl (fun m x => Tbl.set d m (b + x.1) x.2) m) (b + a) = Tbl.get d t a := by
  induction t generalizing m with
  | nil => exact hempty
  | cons x t ih =>
    obtain ⟨k, v⟩ := x
    obtain ⟨hlater, hrest⟩ := List.pairwise_cons.mp hsorted
    rw [List.foldl_cons, Tbl.get]
    split
    next hk =>
      subst hk
      have hother : ∀ y ∈ t, b + k ≠ b + y.1 := fun y hy => by
        have hlt : k < y.1 := hlater y.1 (List.mem_map_of_mem hy)
        omega
      rw [Tbl.get_foldl_set_other d hother, Tbl.get_set_same]
    next hk => exact ih hrest (by rw [Tbl.get_set_other d m v (by omega), hempty])

end

/-- The copy of a half-cell holds its bytes below the bound. -/
theorem get_spCopy (s : State) (h : Nat) {a n : Nat} (ha : a < n) :
    Tbl.get 0#8 (spCopy s h n) a = Tbl.get 0#8 s.sp (spBase h + a) := by
  unfold spCopy
  generalize spBase h = b
  have hkeys : ∀ x ∈ s.sp.filter fun c => decide (b ≤ c.1) && decide (c.1 < b + n), b ≤ x.1 := fun x hx => by
    simpa using (Bool.and_eq_true_iff.mp (List.mem_filter.mp hx).2).1
  rw [Tbl.get_map_sub 0#8 hkeys]
  exact Tbl.get_filter_key 0#8 s.sp (fun k => decide (b ≤ k) && decide (k < b + n)) (by simp [ha])

/-! ### The copy (10 R335, R336) -/

/-- The abort of a request that a drain's bound ends, with its alarm and the Curator's record. -/
theorem abortDrained_drain (s : State) (r : Req) : abortDrained s r 0 =
    curatorLog (alarmCode (retireAll (abortStale s r.id)) 0x0102 r.wing 16 rSTALE_BINDING r.seq.toNat r.que 0 0) r.wing r.que 0 := by
  unfold abortDrained
  exact if_pos rfl

theorem exec_checkpointStopTimeout_aborts {s : State} {id : Nat} {r : Req} (hfound : s.findReq id = some r)
    (hasked : r.ckptReq = true) (hlive : r.isDone = false) (hphase : r.phase ≠ .suspended) (hgoes : ckptStopped s id = false) :
    exec (.checkpointStopTimeout id) s = .next (abortDrained s r 0) := by
  have hexec : exec (.checkpointStopTimeout id) s = execCheckpointStopTimeout id s := rfl
  simp [hexec, execCheckpointStopTimeout, hfound, hasked, hlive, hphase, hgoes]

/-- The copy of a request for its checkpoint is due: its docents have stopped, its engine work and its verdicts are in. -/
structure CopyDue (s : State) (id : Nat) (r : Req) : Prop where
  found : s.findReq id = some r
  asked : r.ckptReq = true
  live : r.isDone = false
  phase : r.phase ≠ .suspended
  docents : reqDocents s id ≠ []
  stopped : ckptStopped s id = true
  idle : engineBusy s id = false
  verdicts : s.dups.any (fun q => q.req == id) = false

/-- The checkpoint of one half-cell of a request. -/
def halfCheckpoint (s : State) (id : Nat) (r : Req) (h : HcIx × Nat) : Ckpt :=
  { req := id, index := h.2, slot := (freeCkptSlots s).getD h.2 0, mem := spCopy s h.1 r.scratch,
    docs := ((reqDocents s id).filter fun d => docHalf s d == h.1.val).map s.doc,
    queued := if h.2 = 0 then (s.launches.filter fun l => l.req == id).map (parkLaunch s) else [],
    root := wingRoot s r.wing }

section
variable {s : State} {id : Nat} {r : Req} (h : CopyDue s id r)
include h

theorem CopyDue.goesOn : ¬(!r.ckptReq || r.isDone || decide (r.phase = .suspended) || (reqDocents s id).isEmpty ||
    !ckptStopped s id || engineBusy s id || s.dups.any (fun q => q.req == id)) = true := by
  simp [h.asked, h.live, h.phase, h.docents, h.stopped, h.idle, h.verdicts]

theorem checkpointCopyDone_full (hfull : 32 < s.ckpts.length + r.halves.length) :
    checkpointCopyDone s id = abortDrained s r 0 := by
  simp only [checkpointCopyDone, h.found]
  rw [if_neg h.goesOn, if_pos hfull]

theorem checkpointCopyDone_bad {half o : Nat} (hroom : s.ckpts.length + r.halves.length ≤ 32)
    (hbad : copyBad s r = some (half, o)) : checkpointCopyDone s id =
      abortPinned (sramUE s (half / 2) stScratch (o / 8)) id rUNCORRECTABLE_MEMORY 0xFFFFFFFF 0 := by
  simp only [checkpointCopyDone, h.found]
  rw [if_neg h.goesOn, if_neg (Nat.not_lt.mpr hroom), hbad]
  rfl

/-- A copy that succeeds takes the request's launches and adds a checkpoint for each of its half-cells. -/
theorem checkpointCopyDone_copies (hroom : s.ckpts.length + r.halves.length ≤ 32) (hgood : copyBad s r = none) :
    (checkpointCopyDone s id).workView = (s.launches.filter (fun l => l.req != id),
      s.ckpts ++ r.halves.zipIdx.map (halfCheckpoint s id r), s.ckptCount + BitVec.ofNat 64 r.halves.length) := by
  obtain ⟨hlaunches, hrest⟩ := Prod.mk.inj (foldl_docClear_workView s (reqDocents s id))
  obtain ⟨hckpts, hcount⟩ := Prod.mk.inj hrest
  simp only [checkpointCopyDone, h.found]
  rw [if_neg h.goesOn, if_neg (Nat.not_lt.mpr hroom), hgood]
  dsimp only
  rw [priSend_workView, foldl_keeps State.workView afterRequest_workView]
  simp only [State.workView, releaseHalves, State.updWing_eq, State.updReq, State.setWing, hlaunches, hckpts, hcount,
    List.length_map, List.length_zipIdx]
  rfl

end

/-! ### The return (10 R337) -/

section
variable {s : State} {r : Req}

/-- The wing's oldest suspended request for which enough idle half-cells stand by. -/
def resumable (s : State) (w : Nat) : Option Req :=
  (s.reqs.filter fun r => r.wing.val == w && decide (r.phase = .suspended)).find? fun r =>
    decide (r.needHalf ≤ (idleHalves s w r.reduced).length)

theorem checkpointResume_resumes {w : Nat} (hr : resumable s w = some r) (hholder : s.holderHub ≠ none)
    (hkeys : (s.ckpts.any fun c => c.req == r.id && c.root != wingRoot s w) = false) : checkpointResume s w =
      resumeDocents ((checkpointRestore s r ((idleHalves s w r.reduced).take r.needHalf)).updWing w fun x =>
        { x with bubRecover := true }) r.id := by
  rw [resumable] at hr
  simp only [checkpointResume, hr, hkeys, Option.isNone_eq_false_iff.mpr (Option.isSome_iff_ne_none.mpr hholder),
    Bool.false_eq_true, if_false]

theorem checkpointResume_keysGone {w : Nat} (hr : resumable s w = some r) (hholder : s.holderHub ≠ none)
    (hkeys : (s.ckpts.any fun c => c.req == r.id && c.root != wingRoot s w) = true) :
    checkpointResume s w = abortPinned s r.id rKEY_MISSING 0xFFFFFFFF 0 := by
  rw [resumable] at hr
  simp only [checkpointResume, hr, hkeys, Option.isNone_eq_false_iff.mpr (Option.isSome_iff_ne_none.mpr hholder),
    Bool.false_eq_true, if_false, if_true]

/-- A request of one half-cell: the scratchpad is cleared below SCRATCH_BYTES, and the checkpoint's bytes are written there. -/
theorem checkpointRestore_sp {h : Nat} {c : Ckpt} (hone : (s.ckpts.filter fun c => c.req == r.id) = [c]) (hindex : c.index = 0) :
    (checkpointRestore s r [h]).sp =
      c.mem.foldl (fun m x => Tbl.set 0#8 m (spBase h + x.1) x.2) (s.sp.clear (spBase h) r.scratch) := by
  simp only [checkpointRestore, hone, List.foldl_cons, List.foldl_nil, hindex, List.getD_cons_zero]
  exact foldl_keeps State.sp fun t x => by split <;> rfl

/-- The request's checkpoints are gone once it is restored. -/
theorem checkpointRestore_ckpts (halves : List Nat) : ∀ c ∈ (checkpointRestore s r halves).ckpts, c.req ≠ r.id := by
  obtain ⟨l, hkept⟩ : ∃ l : List Ckpt, (checkpointRestore s r halves).ckpts = l.filter (fun c => c.req != r.id) :=
    ⟨_, foldl_keeps State.ckpts fun _ _ => rfl⟩
  simp [hkept]

end

end Sys2Proof.Machine

/-- Settles O29: a stream, a schedule point and a clock by what they find of the docent and its request, the copy by the checkpoints it
adds, and the restored half-cell byte by byte. -/
theorem streamsAndCheckpoints : Obligations.StreamsAndCheckpoints := by
  unfold Obligations.StreamsAndCheckpoints
  refine ⟨?tile, ?tileStops, ?counts, ?streamDone, ?syncPasses, ?syncLate, ?interval, ?wcet, ?overrun, ?startup, ?pageFault,
    ?stopTimeout, ?copies, ?copyFull, ?copyBad, ?resumes, ?keysGone, ?restores⟩
  case tile =>
    exact fun eng hm l wx m s hgrant hlive hmore hroom hfree hwing hmove hall =>
      congrArg Host.Outcome.next (tileDelivered_counts ⟨hgrant, hlive, hmore, hroom, hfree, hwing⟩ hmove hall)
  case tileStops =>
    exact fun eng hm l wx m x s hgrant hlive hmore hroom hfree hwing hmove hstop =>
      congrArg Host.Outcome.next (tileDelivered_stops ⟨hgrant, hlive, hmore, hroom, hfree, hwing⟩ hmove hstop)
  case counts =>
    intro e l s hstall
    rw [countTile_running hstall, State.doc_setDoc_same]
    exact ⟨deliveredAt_delivers .., consumedAt_delivers .., rfl⟩
  case streamDone =>
    exact fun eng l s hgrant hlast hclean hover => congrArg Host.Outcome.next (streamDone_completes hgrant hlast hclean hover)
  case syncPasses =>
    intro s d i hgoes hclocks hsome hinterval hgates htakes
    obtain ⟨id, hreq⟩ := Option.ne_none_iff_exists'.mp hsome
    rw [hreq, Option.getD_some] at hgoes
    exact ⟨_, (sync_goes hreq hgoes).trans (syncStep_passes rfl rfl hinterval hgates htakes), rfl, rfl,
      fun k hk => consumedAt_synced _ _ _ hk, rfl⟩
  case syncLate =>
    intro s d i hgoes hclocks hsome hlate
    obtain ⟨id, hreq⟩ := Option.ne_none_iff_exists'.mp hsome
    rw [hreq, Option.getD_some] at hgoes hclocks
    exact (sync_goes hreq hgoes).trans (syncStep_late hreq hclocks hlate)
  case interval =>
    exact fun doc i id s => exec_scheduleIntervalExpiry_overruns
  case wcet =>
    exact fun req r d rest s => exec_wcetExpiry_overruns
  case overrun =>
    exact fun s d kind point id r _ => overrun_counts
  case startup =>
    exact fun wing s => rfl
  case pageFault =>
    exact fun eng hm l wx page f hf m s hgrant hwing hpage hfn hlive hlent hpri hroom hfree hmove hall =>
      congrArg Host.Outcome.next
        (streamPageFault_halts hgrant hwing hpage hfn hf hlive hlent hpri hroom hfree hmove hall)
  case stopTimeout =>
    exact fun req r s hfound hasked hlive hphase hgoes =>
      (exec_checkpointStopTimeout_aborts hfound hasked hlive hphase hgoes).trans (congrArg Host.Outcome.next (abortDrained_drain s r))
  case copies =>
    intro req r s hfound hasked hlive hphase hdocents hstopped hidle hverdicts hroom hgood
    have hwork := checkpointCopyDone_copies ⟨hfound, hasked, hlive, hphase, hdocents, hstopped, hidle, hverdicts⟩ hroom hgood
    obtain ⟨hlaunches, hrest⟩ := Prod.mk.inj hwork
    obtain ⟨hckpts, hcount⟩ := Prod.mk.inj hrest
    refine ⟨checkpointCopyDone s req, rfl, ?_, ?_, ?_, ?_, hcount⟩
    · simp [hckpts]
    · exact fun c hc => hckpts ▸ List.mem_append_left _ hc
    · intro i h hh
      have hmem : (h, i) ∈ r.halves.zipIdx := List.mk_mem_zipIdx_iff_getElem?.mpr hh
      exact ⟨halfCheckpoint s req r (h, i), hckpts ▸ List.mem_append_right _ (List.mem_map_of_mem hmem), rfl, rfl,
        fun a ha => get_spCopy s h ha⟩
    · simp [hlaunches]
  case copyFull =>
    exact fun req r s hfound hasked hlive hphase hdocents hstopped hidle hverdicts hfull => congrArg Host.Outcome.next
      ((checkpointCopyDone_full ⟨hfound, hasked, hlive, hphase, hdocents, hstopped, hidle, hverdicts⟩ hfull).trans
        (abortDrained_drain s r))
  case copyBad =>
    exact fun req r h o s hfound hasked hlive hphase hdocents hstopped hidle hverdicts hroom hbad => congrArg Host.Outcome.next
      (checkpointCopyDone_bad ⟨hfound, hasked, hlive, hphase, hdocents, hstopped, hidle, hverdicts⟩ hroom hbad)
  case resumes =>
    exact fun wing r s hr hholder hkeys => congrArg Host.Outcome.next (checkpointResume_resumes hr hholder hkeys)
  case keysGone =>
    exact fun wing r s hr hholder hkeys => congrArg Host.Outcome.next (checkpointResume_keysGone hr hholder hkeys)
  case restores =>
    intro s r h c hone hindex hbelow hwf
    rw [checkpointRestore_sp hone hindex]
    refine ⟨fun a ha => ?_, fun a ha => ?_, checkpointRestore_ckpts [h]⟩
    · have hcleared := Mem.get_clear s.sp (spBase h) r.scratch (spBase h + a) (by omega) (by omega)
      exact Tbl.get_foldl_set 0#8 ((Tbl.wf_iff 0#8 c.mem).mp hwf).1 (spBase h) a hcleared
    · have hother : ∀ x ∈ c.mem, a ≠ spBase h + x.1 := fun x hx => by
        have := hbelow x hx
        omega
      rw [Tbl.get_foldl_set_other 0#8 hother, Mem.get_clear_other s.sp (spBase h) r.scratch ha]

end

section
/-! PROOF. What every operation does to the two memories (log entry 5): most leave both as they were, and those that write or
clear one leave it in its canonical form. The sections follow the files of the model, so that each operation is passed once,
with the laws of what it calls; O58 follows, arm by arm. -/

open Sys2Proof Sys2Proof.Machine

namespace Sys2Proof.Machine

/-! ### The two memories -/

/-- Device memory and the scratchpads. -/
def State.memView (s : State) : Mem × Mem := (s.dram, s.sp)

/-- Both memories are in canonical form. -/
def MemCanon (m : Mem × Mem) : Prop := m.1.wf = true ∧ m.2.wf = true

theorem State.memOk_iff (s : State) : s.memOk ↔ MemCanon s.memView := Iff.rfl

/- The laws below are proved by `(rfl)` where they hold by definition, so that simp takes them as equations and can use them for
the side condition of `foldl_memView`. -/

@[simp] theorem State.memView_eta (s : State) : (s.dram, s.sp) = s.memView := (rfl)

/-- A record update of other fields is read off the constructor. -/
@[simp] theorem State.memView_mk (pending : List Instr) (out : List Out) (freeCtr : Nat) (clk : Clk) (plinth : Plinth)
    (hubs : Tbl HubSt) (hubLinkUp : Bool) (ports : Tbl Port) (links : Tbl Link) (noAuthority : Bool) (lastDispatch : Nat)
    (mbx : Tbl Mbx) (fns : Tbl FnSt) (msix : Tbl Msix) (pcie : Pcie) (peers : Tbl Peer) (moves : List Move)
    (halfCells : Tbl HalfCell) (cells : Tbl CellSt) (extents : Tbl Extent) (vfs : Tbl Vf) (units : Tbl UnitSt)
    (wings : Tbl Wing) (noWing : Tbl W64) (noWingSince : Tbl Nat) (noWingAt : Tbl Nat) (queues : Tbl Que) (reqs : List Req)
    (nextReq : Nat) (images : List Image) (docents : Tbl Docent) (launches : List Launch) (arbs : Tbl Arb) (mus : Tbl MuSt)
    (lanes : Tbl LaneBuf) (batches : List Batch) (dups : List Dup) (sp : Mem) (spBad : List Nat) (ckpts : List Ckpt)
    (ckptCount : W64) (tables : Tbl (Option Table)) (cats : Tbl Cat) (dir : List DirEntry) (cache : List CacheLine) (dram : Mem)
    (lines : Tbl LineMeta) (dramStacks : Tbl Stack) (patrolHours : Byte) (priTimeout : W16) (rowErrs : Tbl (List Nat))
    (tlb : List TlbEntry) (ptw : List PtwEntry) (ahead : Tbl (List TlbEntry)) (lineWaits : List (Nat × Bytes))
    (bar2Waits : List (Fn × Nat)) (ats : List AtsEntry) (atsReqs : List (Fn × Nat × HostReader)) (priReqs : List PriReq)
    (dies : Tbl Die) (digestPairs : List (Nat × Nat × Nat)) (log : Log) (par : Par) (ethPorts : Tbl EthPort) (flows : Tbl Flow)
    (vlt : Vlt) (tdis : Tbl Tdi) (rst : Rst) (fw : Fw) (vnt : Vnt) (tap : Tap) :
    State.memView ⟨pending, out, freeCtr, clk, plinth, hubs, hubLinkUp, ports, links, noAuthority, lastDispatch, mbx, fns, msix,
      pcie, peers, moves, halfCells, cells, extents, vfs, units, wings, noWing, noWingSince, noWingAt, queues, reqs, nextReq,
      images, docents, launches, arbs, mus, lanes, batches, dups, sp, spBad, ckpts, ckptCount, tables, cats, dir, cache, dram,
      lines, dramStacks, patrolHours, priTimeout, rowErrs, tlb, ptw, ahead, lineWaits, bar2Waits, ats, atsReqs, priReqs, dies,
      digestPairs, log, par, ethPorts, flows, vlt, tdis, rst, fw, vnt, tap⟩ = (dram, sp) := (rfl)

@[simp] theorem ite_memView (c : Prop) [Decidable c] (s t : State) :
    (if c then s else t).memView = if c then s.memView else t.memView := apply_ite State.memView c s t

section
variable {β : Type} {f : State → β → State} {l : List β} {s : State}

@[simp] theorem foldl_memView (hf : ∀ s x, (f s x).memView = s.memView) : (l.foldl f s).memView = s.memView :=
  foldl_keeps State.memView hf

theorem foldl_memCanon (hf : ∀ s x, MemCanon s.memView → MemCanon (f s x).memView) (hmem : MemCanon s.memView) :
    MemCanon (l.foldl f s).memView :=
  List.foldlRecOn l f (motive := fun x => MemCanon x.memView) hmem fun s hs x _ => hf s x hs

end

/-! ### The named updates of the state -/

section
variable {s : State} {k : Nat}

@[simp] theorem State.setHub_memView {v : HubSt} : (s.setHub k v).memView = s.memView := (rfl)
@[simp] theorem State.setPort_memView {v : Port} : (s.setPort k v).memView = s.memView := (rfl)
@[simp] theorem State.setLink_memView {v : Link} : (s.setLink k v).memView = s.memView := (rfl)
@[simp] theorem State.setMbox_memView {v : Mbx} : (s.setMbox k v).memView = s.memView := (rfl)
@[simp] theorem State.setFnSt_memView {v : FnSt} : (s.setFnSt k v).memView = s.memView := (rfl)
@[simp] theorem State.setMsixEnt_memView {v : Msix} : (s.setMsixEnt k v).memView = s.memView := (rfl)
@[simp] theorem State.setPeer_memView {v : Peer} : (s.setPeer k v).memView = s.memView := (rfl)
@[simp] theorem State.setHalf_memView {v : HalfCell} : (s.setHalf k v).memView = s.memView := (rfl)
@[simp] theorem State.setCell_memView {v : CellSt} : (s.setCell k v).memView = s.memView := (rfl)
@[simp] theorem State.setExt_memView {v : Extent} : (s.setExt k v).memView = s.memView := (rfl)
@[simp] theorem State.setVf_memView {v : Vf} : (s.setVf k v).memView = s.memView := (rfl)
@[simp] theorem State.setUnit_memView {v : UnitSt} : (s.setUnit k v).memView = s.memView := (rfl)
@[simp] theorem State.setWing_memView {v : Wing} : (s.setWing k v).memView = s.memView := (rfl)
@[simp] theorem State.setQue_memView {v : Que} : (s.setQue k v).memView = s.memView := (rfl)
@[simp] theorem State.setDoc_memView {v : Docent} : (s.setDoc k v).memView = s.memView := (rfl)
@[simp] theorem State.setArb_memView {v : Arb} : (s.setArb k v).memView = s.memView := (rfl)
@[simp] theorem State.setMu_memView {v : MuSt} : (s.setMu k v).memView = s.memView := (rfl)
@[simp] theorem State.setLane_memView {v : LaneBuf} : (s.setLane k v).memView = s.memView := (rfl)
@[simp] theorem State.setTable_memView {v : Option Table} : (s.setTable k v).memView = s.memView := (rfl)
@[simp] theorem State.setCat_memView {v : Cat} : (s.setCat k v).memView = s.memView := (rfl)
@[simp] theorem State.setLine_memView {v : LineMeta} : (s.setLine k v).memView = s.memView := (rfl)
@[simp] theorem State.setStack_memView {v : Stack} : (s.setStack k v).memView = s.memView := (rfl)
@[simp] theorem State.setDie_memView {v : Die} : (s.setDie k v).memView = s.memView := (rfl)
@[simp] theorem State.setEth_memView {v : EthPort} : (s.setEth k v).memView = s.memView := (rfl)
@[simp] theorem State.setFlow_memView {v : Flow} : (s.setFlow k v).memView = s.memView := (rfl)
@[simp] theorem State.setTdi_memView {v : Tdi} : (s.setTdi k v).memView = s.memView := (rfl)
@[simp] theorem State.emit_memView {o : Out} : (s.emit o).memView = s.memView := (rfl)
@[simp] theorem State.free_memView {n : Nat} : (s.free n).2.memView = s.memView := (rfl)
@[simp] theorem State.updReq_memView {id : Nat} {f : Req → Req} : (s.updReq id f).memView = s.memView := (rfl)

end

/-! ### The fabric and its terms (01, 03) -/

section
variable {s : State} {h : Nat} {dies : List Nat}

@[simp] theorem raiseTerms_memView : (raiseTerms s h dies).memView = s.memView := by simp [raiseTerms]

@[simp] theorem staleSend_memView : (staleSend s h dies).memView = s.memView := by
  unfold staleSend
  split <;> simp

end

/-! ### Frames of the pair link (13 R397) -/

section
variable {s : State} {n : Hub} {msg : PairMsg} {args : List Nat} {data : Bytes}

@[simp] theorem State.updPar_memView {f : Par → Par} : (s.updPar f).memView = s.memView := (rfl)
@[simp] theorem sendFrame_memView : (sendFrame s n msg args data).memView = s.memView := (rfl)
@[simp] theorem pairSend_memView {n : Nat} : (pairSend s n msg args data).memView = s.memView := (rfl)

@[simp] theorem repeatFrame_memView {again : Option W32} : (repeatFrame s n again).memView = s.memView := by
  unfold repeatFrame
  split <;> simp

@[simp] theorem resendFrames_memView {l : List Frame} : (resendFrames s n l).memView = s.memView := by simp [resendFrames]

end

/-! ### Vents and interrupts (14 R444, 17) -/

section
variable {s : State} {fn : Fn} {addr : W64} {data : Bytes} {r : VentRec} {rep : W32}
  {producer fuel i k wing die d0 d1 d2 d3 : Nat} {wrote : Bool} {kind : W16} {code : Byte}

@[simp] theorem hostWriteAs_memView {tag : HostTag} : (hostWriteAs s fn addr data tag).memView = s.memView := by
  simp [hostWriteAs]

@[simp] theorem hostWrite_memView : (hostWrite s fn addr data).memView = s.memView := by simp [hostWrite]
@[simp] theorem msixSend_memView {e : Msix} : (msixSend s fn e).memView = s.memView := by simp [msixSend]
@[simp] theorem msixRaise_memView {vec : Nat} : (msixRaise s fn vec).memView = s.memView := by simp [msixRaise]
@[simp] theorem lastWord_memView : (lastWord s r).memView = s.memView := by simp [lastWord]
@[simp] theorem alarmAccept_memView : (alarmAccept s r rep).memView = s.memView := (rfl)
@[simp] theorem fallbackTake_memView : (fallbackTake s r rep).memView = s.memView := by simp [fallbackTake]
@[simp] theorem alarmTake_memView : (alarmTake s r rep).memView = s.memView := by simp [alarmTake]
@[simp] theorem alarmLatch_memView : (alarmLatch s producer r).memView = s.memView := by simp [alarmLatch]

@[simp] theorem serveLatches_memView : (serveLatches fuel s).memView = s.memView := by
  induction fuel generalizing s with
  | zero => rfl
  | succ fuel ih =>
    simp only [serveLatches]
    split
    · rfl
    · split <;> simp [ih]

@[simp] theorem stormShut_memView : (stormShut s i).memView = s.memView := by simp [stormShut]

@[simp] theorem stormDue_memView : (stormDue s).memView = s.memView := by
  unfold stormDue
  split <;> simp

@[simp] theorem ringPut_memView : (ringPut s k data).memView = s.memView := by simp [ringPut]
@[simp] theorem ringStatus_memView : (ringStatus s k).memView = s.memView := by simp [ringStatus]

@[simp] theorem pumpAlarms_memView : (pumpAlarms fuel s wrote).memView = s.memView := by
  induction fuel generalizing s wrote with
  | zero => simp [pumpAlarms]
  | succ fuel ih =>
    simp only [pumpAlarms]
    repeat' split
    all_goals simp [ih]

@[simp] theorem pumpLogs_memView : (pumpLogs fuel s wrote).memView = s.memView := by
  induction fuel generalizing s wrote with
  | zero => simp [pumpLogs]
  | succ fuel ih =>
    simp only [pumpLogs]
    repeat' split
    all_goals simp [ih]

@[simp] theorem pumpTraces_memView : (pumpTraces fuel s wrote).memView = s.memView := by
  induction fuel generalizing s wrote with
  | zero => simp [pumpTraces]
  | succ fuel ih =>
    simp only [pumpTraces]
    repeat' split
    all_goals simp [ih]

@[simp] theorem pumpFallback_memView : (pumpFallback fuel s).memView = s.memView := by
  induction fuel generalizing s with
  | zero => rfl
  | succ fuel ih =>
    simp only [pumpFallback]
    split
    · rfl
    · split <;> simp [ih]

@[simp] theorem setAlert_memView {v : Bool} : (setAlert s i v).memView = s.memView := (rfl)
@[simp] theorem alertClear_memView : (alertClear s).memView = s.memView := by simp [alertClear]
@[simp] theorem ventPump_memView : (ventPump s).memView = s.memView := by simp [ventPump]
@[simp] theorem logDrop_memView : (logDrop s r).memView = s.memView := (rfl)
@[simp] theorem ventAlarm_memView : (ventAlarm s producer r).memView = s.memView := by simp [ventAlarm]
@[simp] theorem ventLog_memView : (ventLog s r).memView = s.memView := by simp [ventLog]
@[simp] theorem raise_memView : (raise s producer r).memView = s.memView := by simp [raise]
@[simp] theorem alarm_memView : (alarm s kind wing die d0 d1 d2 d3).memView = s.memView := by simp [alarm]
@[simp] theorem alarmCode_memView : (alarmCode s kind wing die code d0 d1 d2 d3).memView = s.memView := by simp [alarmCode]

@[simp] theorem logEvent_memView {sev : Byte} : (logEvent s kind sev wing die code d0 d1 d2 d3).memView = s.memView := by
  simp [logEvent]

end

/-! ### Requests, docents and their launches (04, 05) -/

section
variable {s : State} {id d : Nat} {code : Byte} {pc detail : W32}

@[simp] theorem settle_memView {time : Nat} : (settle s id code pc detail time).memView = s.memView := (rfl)
@[simp] theorem docClear_memView : (docClear s d).memView = s.memView := (rfl)
@[simp] theorem dropGrants_memView {docs : List Nat} : (dropGrants s docs).memView = s.memView := by simp [dropGrants]
@[simp] theorem stopWork_memView : (stopWork s id).memView = s.memView := by simp [stopWork]

@[simp] theorem settleHeld_memView : (settleHeld s id).memView = s.memView := by
  unfold settleHeld
  split <;> simp

@[simp] theorem abortReq_memView : (abortReq s id code pc detail).memView = s.memView := by simp [abortReq]
@[simp] theorem abortStale_memView : (abortStale s id).memView = s.memView := by simp [abortStale]

@[simp] theorem docFaultWith_memView : (docFaultWith s d code pc detail).memView = s.memView := by
  unfold docFaultWith
  split <;> simp

@[simp] theorem docFault_memView {pc : Nat} : (docFault s d code pc).memView = s.memView := by simp [docFault]

@[simp] theorem docGoto_memView {pc : Nat} : (docGoto s d pc).memView = s.memView := by
  simp only [docGoto]
  split <;> simp

@[simp] theorem docNext_memView : (docNext s d).memView = s.memView := by simp [docNext]
@[simp] theorem docResult_memView {rd : R5} {v : W64} : (docResult s d rd v).memView = s.memView := by simp [docResult]

@[simp] theorem barrierCheck_memView : (barrierCheck s id).memView = s.memView := by
  simp only [barrierCheck]
  split <;> simp

@[simp] theorem wake_memView : (wake s d).memView = s.memView := by
  unfold wake
  generalize s.doc d = x
  dsimp only
  cases x.stall
  case wait t => dsimp only; split <;> simp
  case waitall => dsimp only; split <;> simp
  case ending =>
    dsimp only
    split
    · split <;> simp
    · rfl
  all_goals rfl

@[simp] theorem endBurst_memView {e : Engine} : (endBurst s e).memView = s.memView := by
  unfold endBurst
  split <;> simp

@[simp] theorem ticketEnds_memView {t : W16} : (ticketEnds s d t).memView = s.memView := by simp [ticketEnds]
@[simp] theorem launchFail_memView {l : Launch} : (launchFail s l code detail).memView = s.memView := by simp [launchFail]

end

/-! ### The accession log (02 R73 to R78) -/

section
variable {s : State} {fn fnId wing kind target detail : Nat}

@[simp] theorem rateCount_memView : (rateCount s fn).memView = s.memView := (rfl)

@[simp] theorem logPut_memView {oldH newH : Bytes} : (logPut s fnId wing kind target detail oldH newH).memView = s.memView := by
  simp [logPut]

@[simp] theorem logAppend_memView {old new : Bytes} : (logAppend s fnId wing kind target detail old new).memView = s.memView := by
  simp [logAppend]

@[simp] theorem violate_memView {w : Option Nat} : (violate s w kind).memView = s.memView := by
  unfold violate
  split <;> simp

@[simp] theorem violateFn_memView : (violateFn s fn kind).memView = s.memView := by simp [violateFn]
@[simp] theorem rateRefuse_memView : (rateRefuse s fn).memView = s.memView := by simp [rateRefuse]

@[simp] theorem ignoredWrite_memView {off width old new : Nat} :
    (ignoredWrite s fn wing off width old new).memView = s.memView := by
  simp [ignoredWrite]

@[simp] theorem tdiError_memView {vf : Nat} : (tdiError s vf).memView = s.memView := by
  simp only [tdiError]
  repeat' split
  all_goals simp

@[simp] theorem tdiTrip_memView {w : Nat} : (tdiTrip s w fn).memView = s.memView := by simp [tdiTrip]

end

/-! ### Commands of the Curator (03 R82 to R87) -/

section
variable {s : State} {c : Cmd} {code : Byte} {payload : Bytes} {fn : Fn} {hub : Hub}

@[simp] theorem scpFinish_memView : (scpFinish s c code payload).memView = s.memView := by simp [scpFinish]

@[simp] theorem runFinish_memView : (runFinish s fn hub code payload).memView = s.memView := by
  unfold runFinish
  split <;> simp

@[simp] theorem runUpdate_memView {f : Run → Run} : (runUpdate s fn hub f).memView = s.memView := (rfl)
@[simp] theorem scpCommit_memView : (scpCommit s c).memView = s.memView := by simp [scpCommit]
@[simp] theorem answer_memView : (answer code payload s).1.memView = s.memView := (rfl)

@[simp] theorem scpRefusal_memView {check : Nat} : (scpRefusal s c check).memView = s.memView := by
  unfold scpRefusal
  repeat' split
  all_goals simp

@[simp] theorem redirectStale_memView : (redirectStale s c).memView = s.memView := by simp [redirectStale]

end

/-! ### Epochs and their retirement (07) -/

section
variable {s : State} {w c : Nat} {code : Byte}

@[simp] theorem catUpd_memView {f : Cat → Cat} : (catUpd s w c f).memView = s.memView := (rfl)
@[simp] theorem ringDisable_memView : (ringDisable s w c).memView = s.memView := (rfl)
@[simp] theorem disablePoll_memView : (disablePoll s w c).memView = s.memView := by simp [disablePoll]
@[simp] theorem discardAnswer_memView : (discardAnswer s w c).memView = s.memView := by simp [discardAnswer]

@[simp] theorem commitDrop_memView : (commitDrop s w c code).memView = s.memView := by
  unfold commitDrop
  split <;> simp

@[simp] theorem commitVisible_memView : (commitVisible s w c).memView = s.memView := (rfl)
@[simp] theorem sendDiscard_memView {ep : W32} : (sendDiscard s w c ep).memView = s.memView := by simp [sendDiscard]
@[simp] theorem discardBegin_memView : (discardBegin s w c).memView = s.memView := by simp [discardBegin]
@[simp] theorem retirePoll_memView {s0 : State} : (retirePoll s0 w c).memView = s0.memView := by simp [retirePoll]
@[simp] theorem commitEnd_memView : (commitEnd s w c code).memView = s.memView := by simp [commitEnd]
@[simp] theorem retireAll_memView : (retireAll s).memView = s.memView := by simp [retireAll]

@[simp] theorem abortPinned_memView {id : Nat} {pc detail : W32} : (abortPinned s id code pc detail).memView = s.memView := by
  simp [abortPinned]

@[simp] theorem ringError_memView {check : Nat} : (ringError s w c check code).memView = s.memView := by
  simp only [ringError]
  split <;> simp

end

/-! ### Units, their quarantine and their spares (12) -/

section
variable {s : State} {die u : Nat}

@[simp] theorem dupRepair_memView {old : State} {w : Nat} : (dupRepair old s w).memView = s.memView := by simp [dupRepair]
@[simp] theorem sramCE_memView : (sramCE s die).memView = s.memView := (rfl)

@[simp] theorem sramSaw_memView {x : Sram} : (sramSaw s die x).memView = s.memView := by
  unfold sramSaw
  split <;> simp

@[simp] theorem sramUE_memView {structure_ granule : Nat} : (sramUE s die structure_ granule).memView = s.memView := by
  simp [sramUE]

@[simp] theorem curatorLog_memView {wing target detail : Nat} : (curatorLog s wing target detail).memView = s.memView := by
  simp [curatorLog]

@[simp] theorem failUnitWork_memView : (failUnitWork s u).memView = s.memView := by simp [failUnitWork]

@[simp] theorem failGpeWork_memView {g : Nat} : (failGpeWork s g).memView = s.memView :=
  foldl_keeps State.memView fun _ _ => by dsimp only; split <;> simp

@[simp] theorem clearMu_memView : (clearMu s u).memView = s.memView := (rfl)
@[simp] theorem clearLane_memView {cell pos : Nat} : (clearLane s cell pos).memView = s.memView := (rfl)

@[simp] theorem failDocent_memView {d : Nat} : (failDocent s d).memView = s.memView := by
  simp only [failDocent]
  split <;> simp

@[simp] theorem quarantine_memView {cause : Nat} : (quarantine s u cause).memView = s.memView := by simp [quarantine]
@[simp] theorem substitute_memView : (substitute s u).memView = s.memView := by simp [substitute]
@[simp] theorem unsubstitute_memView : (unsubstitute s u).memView = s.memView := (rfl)
@[simp] theorem autoSubstitute_memView : (autoSubstitute s u).memView = s.memView := by simp [autoSubstitute]
@[simp] theorem returnUnit_memView : (returnUnit s u).memView = s.memView := by simp [returnUnit]
@[simp] theorem unquarantine_memView : (unquarantine s u).memView = s.memView := by simp [unquarantine]
@[simp] theorem swapIn_memView : (swapIn s u).memView = s.memView := by simp [swapIn]

@[simp] theorem afterRequest_memView {h : Nat} : (afterRequest s h).memView = s.memView := by
  refine (foldl_keeps State.memView fun _ _ => ?_).trans (by simp)
  split <;> simp

end

/-! ### Engines and scratchpads (05 R157, 10) -/

section
variable {s : State} {h off n : Nat} {writer : Option (Nat × W16)}

@[simp] theorem haltCheck_memView {id : Nat} : (haltCheck s id).memView = s.memView := by simp [haltCheck]

@[simp] theorem ticketDone_memView {d : Nat} {t : W16} : (ticketDone s d t).memView = s.memView := by
  unfold ticketDone
  split <;> simp

@[simp] theorem markDirty_memView : (markDirty s h off n writer).memView = s.memView := (rfl)

@[simp] theorem spWrite_memCanon {data : Bytes} (hmem : MemCanon s.memView) : MemCanon (spWrite s h off data writer).memView := by
  obtain ⟨hdram, hsp⟩ := (markDirty_memView (h := h) (off := off) (n := data.length) (writer := writer)).symm ▸ hmem
  exact ⟨hdram, Mem.write_wf _ _ _ hsp⟩

@[simp] theorem spSpoil_memView : (spSpoil s h off).memView = s.memView := by simp [spSpoil]

@[simp] theorem spUpset_memView {x : Sram} : (spUpset s h x).memView = s.memView := by
  unfold spUpset
  split <;> simp

@[simp] theorem spReadError_memView : (spReadError s h off).memView = s.memView := by simp [spReadError]

@[simp] theorem freeRegion_memCanon {r : Region} (hmem : MemCanon s.memView) : MemCanon (freeRegion s h r writer).memView :=
  foldl_memCanon (fun _ _ hmem => spWrite_memCanon (by simpa using hmem)) hmem

@[simp] theorem holdRound_memView {a : Nat} {cands : List (Nat × Nat)} : (holdRound s a n cands).memView = s.memView := by
  unfold holdRound
  split <;> simp

end

/-! ### Lines of device memory (11 R341 to R349) -/

section
variable {s : State} {a n e errs : Nat} {data : Bytes}

@[simp] theorem reportUE_memView : (reportUE s a).memView = s.memView := by simp [reportUE]
@[simp] theorem poison_memView : (poison s a).memView = s.memView := by simp [poison]
@[simp] theorem reportCE_memView : (reportCE s a).memView = s.memView := by simp [reportCE]
@[simp] theorem dramReadFail_memView : (dramReadFail s a n).memView = s.memView := by simp [dramReadFail]
@[simp] theorem rolloverBegin_memView : (rolloverBegin s e).memView = s.memView := by simp [rolloverBegin]

@[simp] theorem lineStore_memCanon (hmem : MemCanon s.memView) : MemCanon (lineStore s a data).memView := by
  have hwrite : MemCanon (s.dram.write (lineOf a * 64) (fitTo 64 data), s.sp) := ⟨Mem.write_wf _ _ _ hmem.1, hmem.2⟩
  simp only [lineStore]
  split <;> simpa using hwrite

@[simp] theorem lineWrite_memCanon (hmem : MemCanon s.memView) : MemCanon (lineWrite s a data).memView := by
  simp only [lineWrite]
  repeat' split
  all_goals simp [hmem]

@[simp] theorem dramWrite_memCanon (hmem : MemCanon s.memView) : MemCanon (dramWrite s a data).memView :=
  foldl_memCanon (fun _ _ hmem => lineWrite_memCanon hmem) hmem

@[simp] theorem dramZero_memCanon (hmem : MemCanon s.memView) : MemCanon (dramZero s a n).memView :=
  ⟨Mem.clear_wf _ _ _ hmem.1, hmem.2⟩

@[simp] theorem releaseLineWaits_memCanon (hmem : MemCanon s.memView) : MemCanon (releaseLineWaits s e).memView :=
  foldl_memCanon (fun _ _ hmem => lineWrite_memCanon hmem) hmem

@[simp] theorem dramLineRead_memView {tagOk : Bool} : (dramLineRead s a errs tagOk).memView = s.memView := by
  unfold dramLineRead
  repeat' split
  all_goals simp

@[simp] theorem dramLineWrite_memCanon (hmem : MemCanon s.memView) : MemCanon (dramLineWrite s a data errs).memView := by
  simp only [dramLineWrite]
  repeat' split
  all_goals simp [hmem]

@[simp] theorem patrolScrub_memView : (patrolScrub s a errs).memView = s.memView := by
  unfold patrolScrub
  repeat' split
  all_goals simp

@[simp] theorem rolloverKeyLoaded_memCanon (hmem : MemCanon s.memView) : MemCanon (rolloverKeyLoaded s e).memView := by
  simp only [rolloverKeyLoaded]
  split <;> simp [hmem]

@[simp] theorem rolloverSweepDone_memView : (rolloverSweepDone s e).memView = s.memView := by simp [rolloverSweepDone]

end

/-! ### Translation (11 R351 to R363) -/

section
variable {site : Site} {w va a n : Nat} {wx : WingIx} {s : State} {write : Bool} {who : HostReader} {data : Bytes} {hm : HostMem}

@[simp] theorem walkFrom_memView {level base : Nat} : (walkFrom site w va wx level base s).1.memView = s.memView := by
  induction level generalizing base s with
  | zero => rfl
  | succ level ih =>
    simp only [walkFrom]
    repeat' split
    all_goals simp [ih]

@[simp] theorem walk_memView : (walk s site wx va).1.memView = s.memView := by
  simp only [walk]
  split <;> simp

@[simp] theorem leafFor_memView : (leafFor s site wx va).1.memView = s.memView := by
  unfold leafFor
  split <;> simp

@[simp] theorem translate_memView : (translate s site wx va write).1.memView = s.memView := by
  simp only [translate]
  repeat' split
  all_goals simp

@[simp] theorem keepLeaves_memView {keep : TlbEntry → Bool} : (keepLeaves s keep).memView = s.memView := (rfl)
@[simp] theorem flushXlat_memView {hit : Nat → Nat → Bool} : (flushXlat s w hit).memView = s.memView := (rfl)

@[simp] theorem atsAsk_memView {pages : List Nat} : (atsAsk s w who pages).memView = s.memView := by
  unfold atsAsk
  repeat' split
  all_goals simp

@[simp] theorem wingWrite_memView {fn : Fn} : (wingWrite s w fn a data).memView = s.memView := by simp [wingWrite]

@[simp] theorem atsForget_memView : (atsForget s w a n write).memView = s.memView := by
  unfold atsForget
  split <;> simp

@[simp] theorem chunkRead_memView : (chunkRead s wx who hm va n).1.memView = s.memView := by
  simp only [chunkRead]
  repeat' split
  all_goals simp

@[simp] theorem chunkWrite_memCanon (hmem : MemCanon s.memView) : MemCanon (chunkWrite s wx who va data).1.memView := by
  simp only [chunkWrite]
  repeat' split
  all_goals simp [hmem]

@[simp] theorem vaRead_memView : (vaRead s wx who hm va n).1.memView = s.memView :=
  foldl_keeps (fun x : State × Access Bytes => x.1.memView) fun _ _ => by
    dsimp only
    repeat' split
    all_goals simp

@[simp] theorem staleReply_memView {id : Nat} : (staleReply s w id).memView = s.memView := by simp [staleReply]

end

/-! ### Streams and checkpoints (10) -/

section
variable {s : State} {d p id w page e lines va : Nat} {l : Launch} {wx : WingIx} {hm : HostMem} {m : Moved} {write : Bool}
  {r : Req}

@[simp] theorem overrun_memView {kind point : Nat} : (overrun s d kind point).memView = s.memView := by
  unfold overrun
  split <;> simp

@[simp] theorem syncStep_memView : (syncStep s d p).memView = s.memView := by simp [syncStep]

@[simp] theorem sync_memView : (sync s d p).memView = s.memView := by
  unfold sync
  split <;> simp

@[simp] theorem syncRetry_memView : (syncRetry s d).memView = s.memView := by
  simp only [syncRetry]
  split <;> simp

@[simp] theorem resumeDocents_memView : (resumeDocents s id).memView = s.memView := by
  refine (foldl_keeps State.memView fun _ _ => ?_).trans (by simp)
  dsimp only
  repeat' split
  all_goals simp

@[simp] theorem replaceDocent_memView : (replaceDocent s id d).memView = s.memView := by simp [replaceDocent]

@[simp] theorem resumeRequest_memView : (resumeRequest s id).memView = s.memView := by
  unfold resumeRequest
  split <;> simp

@[simp] theorem priSend_memView : (priSend s).memView = s.memView := by simp [priSend]

@[simp] theorem priAsk_memView {fn : Fn} {who : HostReader} {tries : Nat} :
    (priAsk s w fn page who tries).memView = s.memView := by
  simp [priAsk]

@[simp] theorem moveRun_memCanon {row o n : Nat} (hmem : MemCanon m.s.memView) :
    MemCanon (moveRun e l wx hm row o n m).s.memView := by
  simp only [moveRun]
  repeat' split
  all_goals simp [hmem]

@[simp] theorem moveTile_memCanon (hmem : MemCanon s.memView) : MemCanon (moveTile s e l wx hm).s.memView :=
  List.foldlRecOn _ _ (motive := fun m : Moved => MemCanon m.s.memView) hmem fun _ hm _ _ => moveRun_memCanon hm

@[simp] theorem moveLines_memCanon (hmem : MemCanon s.memView) : MemCanon (moveLines s e l wx hm lines).s.memView :=
  List.foldlRecOn _ _ (motive := fun m : Moved => MemCanon m.s.memView) hmem fun _ hm _ _ => moveRun_memCanon hm

@[simp] theorem State.updLaunch_memView {f : Launch → Launch} : (s.updLaunch l f).memView = s.memView := (rfl)

@[simp] theorem aheadHost_memView {t : TlbEntry} : (aheadHost s e wx t va write).memView = s.memView := by
  unfold aheadHost
  split <;> simp

@[simp] theorem aheadStep_memView {x : Ahead} : (aheadStep e wx write x va).s.memView = x.s.memView := by
  simp only [aheadStep]
  repeat' split
  all_goals simp

@[simp] theorem prefetch_memView : (prefetch s e l wx).memView = s.memView := by
  simp only [prefetch]
  split
  · rfl
  · simp [foldl_keeps (fun x : Ahead => x.s.memView) fun _ _ => aheadStep_memView]

@[simp] theorem streamFail_memView {code : Byte} : (streamFail s l code).memView = s.memView := by simp [streamFail]

@[simp] theorem moveEnd_memView : (moveEnd m l wx).memView = m.s.memView := by
  unfold moveEnd
  split <;> simp

@[simp] theorem countTile_memView : (countTile s e l).memView = s.memView := by simp [countTile]

@[simp] theorem tileDelivered_memCanon (hmem : MemCanon s.memView) : MemCanon (tileDelivered s e hm).memView := by
  simp only [tileDelivered]
  repeat' split
  all_goals simp [hmem]

@[simp] theorem streamBurst_memCanon (hmem : MemCanon s.memView) : MemCanon (streamBurst s e lines hm).memView := by
  simp only [streamBurst]
  repeat' split
  all_goals simp [hmem]

@[simp] theorem streamDone_memCanon (hmem : MemCanon s.memView) : MemCanon (streamDone s e).memView := by
  unfold streamDone
  split
  · exact hmem
  · split
    · exact hmem
    · dsimp only
      rw [ticketDone_memView]
      split
      · exact foldl_memCanon (fun _ _ hmem => freeRegion_memCanon hmem) (by simpa using hmem)
      · simpa using hmem

@[simp] theorem moveBefore_memCanon (hmem : MemCanon s.memView) : MemCanon (moveBefore s e l wx hm page).s.memView :=
  List.foldlRecOn _ _ (motive := fun m : Moved => MemCanon m.s.memView) hmem fun _ hm _ _ => moveRun_memCanon hm

@[simp] theorem stopClocks_memView : (stopClocks s id).memView = s.memView := by simp [stopClocks]

@[simp] theorem streamPageFault_memCanon (hmem : MemCanon s.memView) : MemCanon (streamPageFault s e hm).memView := by
  simp only [streamPageFault]
  repeat' split
  all_goals simp [hmem]

@[simp] theorem streamResume_memView : (streamResume s e).memView = s.memView := by
  unfold streamResume
  split <;> simp

@[simp] theorem abortDrained_memView {why : Nat} : (abortDrained s r why).memView = s.memView := by simp [abortDrained]
@[simp] theorem releaseHalves_memView : (releaseHalves s id).memView = s.memView := by simp [releaseHalves]

@[simp] theorem checkpointCopyDone_memView : (checkpointCopyDone s id).memView = s.memView := by
  unfold checkpointCopyDone
  repeat' split
  all_goals simp

@[simp] theorem checkpointRestore_memCanon {halves : List Nat} (hmem : MemCanon s.memView) :
    MemCanon (checkpointRestore s r halves).memView := by
  unfold checkpointRestore
  extract_lets mine docs s1 saved s2 queued s3 s4
  have hcopied : MemCanon s1.memView := foldl_memCanon (fun s c hmem => ⟨hmem.1, List.foldlRecOn c.mem _
    (motive := fun m => Mem.wf m = true) (Mem.clear_wf _ _ _ hmem.2) fun _ hm _ _ => Tbl.set_wf 0#8 _ _ _ hm⟩) hmem
  have hdocs : s2.memView = s1.memView := foldl_keeps State.memView fun _ _ => by split <;> simp
  have hhalves : s4.memView = s2.memView := foldl_keeps State.memView fun _ _ => by simp
  rw [State.updReq_memView, hhalves, hdocs]
  exact hcopied

@[simp] theorem checkpointResume_memCanon (hmem : MemCanon s.memView) : MemCanon (checkpointResume s w).memView := by
  unfold checkpointResume
  repeat' split
  all_goals simp [hmem]

end

/-! ### Gathers (06) -/

section
variable {s : State} {w la g k granule a d : Nat} {wx : WingIx} {b : Batch} {l : Launch} {err : RowSram} {ticket : W16}

@[simp] theorem cacheTouch_memView : (cacheTouch s w la).memView = s.memView := (rfl)

@[simp] theorem cacheEvict_memView {p : CacheLine → Bool} : (cacheEvict s p).memView = s.memView := by
  unfold cacheEvict
  split <;> simp

@[simp] theorem cacheFill_memView : (cacheFill s wx la).memView = s.memView := by simp [cacheFill]
@[simp] theorem State.updBatch_memView {f : Batch → Batch} : (s.updBatch b f).memView = s.memView := (rfl)

@[simp] theorem gpeFail_memView {code : Byte} : (gpeFail s b code g).memView = s.memView := by
  unfold gpeFail
  split <;> simp

@[simp] theorem batchBegin_memView {r : Req} {t : Table} : (batchBegin s l r t).memView = s.memView := by
  simp only [batchBegin]
  repeat' split
  all_goals simp

@[simp] theorem batchOutside_memCanon {h : Nat} (hmem : MemCanon s.memView) : MemCanon (batchOutside s h l w).memView :=
  foldl_memCanon (fun _ _ hmem => spWrite_memCanon hmem) (by simpa using hmem)

@[simp] theorem stackFail_memView : (stackFail s k granule).memView = s.memView := by simp [stackFail]
@[simp] theorem cacheLineBad_memView : (cacheLineBad s w a granule).memView = s.memView := by simp [cacheLineBad]
@[simp] theorem rowLineBad_memView : (rowLineBad s w a granule).memView = s.memView := by simp [rowLineBad]

@[simp] theorem cacheRead_memView {alloc : Bool} {pieces : List Nat} : (cacheRead s wx alloc pieces).memView = s.memView := by
  simp [cacheRead]

@[simp] theorem rowUpset_memView {entry : Bool} : (rowUpset s k g b entry err).1.memView = s.memView := by
  unfold rowUpset
  repeat' split
  all_goals simp

@[simp] theorem gpeRowRead_memView {i : Nat} : (gpeRowRead s d ticket i err).memView = s.memView := by
  simp only [gpeRowRead]
  repeat' split
  all_goals simp

@[simp] theorem digestFail_memView {producer receiver contribution : Nat} :
    (digestFail s w producer receiver contribution).memView = s.memView := by
  simp [digestFail]

@[simp] theorem partialReceive_memView {bag : Nat} {remote : Bytes} {digestOk : Carried} :
    (partialReceive s d ticket bag g remote digestOk).memView = s.memView := by
  simp only [partialReceive]
  repeat' split
  all_goals simp

@[simp] theorem gpeBatchDone_memCanon {arrivals : List (Nat × Carried)} (hmem : MemCanon s.memView) :
    MemCanon (gpeBatchDone s d ticket arrivals).memView := by
  unfold gpeBatchDone
  split
  · exact hmem
  · split
    · extract_lets first desc max_ h k vecs me formed took s1 s2
      have hs1 : MemCanon s1.memView := foldl_memCanon (fun _ _ hmem => spWrite_memCanon hmem) hmem
      have hs2 : MemCanon s2.memView := by
        dsimp only [s2]
        split <;> simp [hs1]
      repeat' split
      all_goals simp [hmem, hs2]
    · exact hmem

@[simp] theorem gpeAccept_memView : (gpeAccept s g w).memView = s.memView := by
  unfold gpeAccept
  repeat' split
  all_goals simp

@[simp] theorem beginWork_memView {e : Engine} : (beginWork s e).memView = s.memView := by
  unfold beginWork
  repeat' split
  all_goals simp

end

/-! ### Time -/

section
variable {s : State}

@[simp] theorem advance_memView {n : Nat} : (advance s n).memView = s.memView := (rfl)
@[simp] theorem idle_memView : (idle s).memView = s.memView := by simp [idle]

end

/-! ### Update rings and versions of rows (07) -/

section
variable {s s0 : State} {t : Table} {k slot tab row home w c : Nat} {e : DirEntry} {ep : W32} {b : Bytes} {fn : Fn} {head : W64}
  {ok : Bool}

@[simp] theorem slotWrite_memCanon {bytes : Bytes} (hmem : MemCanon s.memView) : MemCanon (slotWrite s t k slot bytes).memView :=
  foldl_memCanon (fun _ _ hmem => lineWrite_memCanon hmem) hmem

@[simp] theorem olderWrite_memCanon {older : Nat} (hmem : MemCanon s.memView) :
    MemCanon (olderWrite s t k slot older).memView := by
  simp [olderWrite, hmem]

@[simp] theorem dirSet_memView : (dirSet s e).memView = s.memView := (rfl)
@[simp] theorem tableUse_memView {f : List (Nat × Nat) → List (Nat × Nat)} : (tableUse s tab f).memView = s.memView := (rfl)

@[simp] theorem reclaimRow_memCanon (hmem : MemCanon s.memView) : MemCanon (reclaimRow s t e).memView := by
  unfold reclaimRow
  dsimp only
  split
  · exact hmem
  · refine foldl_memCanon (fun _ _ hmem => ?_) (by simpa using hmem)
    split <;> simp [hmem]

/-- The state that a PUT leaves, whatever its outcome. -/
def Put.state : Put → State
  | .ok s => s
  | .stall s _ => s
  | .ue s => s

theorem putRow_copy_memCanon {t : Table} {tab : TabIx} {k home : Nat} {body : Bytes} {ep : W32} {s0 : State} {fail : Nat → Put}
    {entry : List (W32 × Nat) → DirEntry} {vs : List (W32 × Nat)} (hmem : MemCanon s0.memView)
    (hfail : ∀ a, MemCanon (fail a).state.memView) :
    MemCanon (putRow.copy t tab k home body ep s0 fail entry vs).state.memView := by
  unfold putRow.copy
  repeat' split
  all_goals first | exact hfail _ | simp [Put.state, hmem]

@[simp] theorem putRow_memCanon {tab : TabIx} {body : Bytes} (hmem : MemCanon s.memView) :
    MemCanon (putRow s t tab k row home body ep).state.memView := by
  unfold putRow
  extract_lets w s0 fail entry n ent first
  have hreclaimed : MemCanon s0.memView := by
    dsimp only [s0]
    split <;> simp [hmem]
  clear_value s0
  have hfail (a : Nat) : MemCanon (fail a).state.memView := by simpa [fail, Put.state] using hreclaimed
  repeat' first | split | extract_lets e
  all_goals first | exact putRow_copy_memCanon hreclaimed hfail | simp [fail, Put.state, hreclaimed]

@[simp] theorem applyPut_memCanon {tab : TabIx} (hmem : MemCanon s.memView) :
    MemCanon (applyPut s tab t row b ep).state.memView := by
  unfold applyPut
  split
  · exact hmem
  · exact putRow_memCanon hmem

@[simp] theorem commitPoint_memView : (commitPoint s w c).memView = s.memView := by
  unfold commitPoint
  split <;> simp

@[simp] theorem commitProgress_memView : (commitProgress s w c).memView = s.memView := by
  simp only [commitProgress]
  split <;> simp

@[simp] theorem catUpdEnable_memView {xlat : Bool} : (catUpdEnable s fn w c xlat).memView = s.memView := by
  simp only [catUpdEnable, loggedChange, wingReg]
  repeat' split
  all_goals simp

@[simp] theorem catUpdDisable_memView : (catUpdDisable s fn w c).memView = s.memView := by simp [catUpdDisable, wingReg]
@[simp] theorem catUpdResume_memView : (catUpdResume s fn w c).memView = s.memView := by simp [catUpdResume, wingReg]

@[simp] theorem catUpdTail_memView {count : W64} : (catUpdTail s fn w c count).memView = s.memView := by
  simp [catUpdTail, wingReg]

@[simp] theorem putDone_memView {row : Option (Nat × Nat × Nat)} {p : Put} : (putDone w c row p).memView = p.state.memView := by
  unfold putDone
  split <;> simp [Put.state]

@[simp] theorem recordPut_memCanon (hmem : MemCanon s.memView) : MemCanon (recordPut s w b ep).2.state.memView := by
  unfold recordPut
  repeat' split
  all_goals first | exact hmem | exact applyPut_memCanon hmem

@[simp] theorem applyBusy_memCanon (hmem : MemCanon s.memView) : MemCanon (applyBusy s w c b ep).memView := by
  simp [applyBusy, hmem]

@[simp] theorem sendRecord_memView : (sendRecord s w c b).memView = s.memView := (rfl)
@[simp] theorem ackRecord_memView : (ackRecord s w c head ok).memView = s.memView := (rfl)

@[simp] theorem followerApply_memCanon {r : HeldRec} (hmem : MemCanon s.memView) : MemCanon (followerApply s w c r).memView := by
  have hput := recordPut_memCanon (w := w) (b := r.record) (ep := r.epoch) hmem
  simp only [followerApply]
  split <;> rename_i heq <;> rw [heq] at hput <;> simpa [Put.state] using hput

@[simp] theorem followerRetry_memCanon (hmem : MemCanon s.memView) : MemCanon (followerRetry s w c).memView := by
  simp only [followerRetry]
  repeat' split
  all_goals simp [hmem]

@[simp] theorem busyRetry_memCanon (hmem : MemCanon s.memView) : MemCanon (busyRetry s w c b).memView := by
  simp only [busyRetry]
  repeat' split
  all_goals simp [hmem]

@[simp] theorem recBegin_memCanon (hmem : MemCanon s.memView) : MemCanon (recBegin s w c b).memView := by
  simp only [recBegin]
  split <;> simp [hmem]

@[simp] theorem recPass_memView : (recPass s w c b).memView = s.memView := (rfl)

@[simp] theorem pastLimit_memView : (pastLimit s w c).memView = s.memView := by
  simp only [pastLimit]
  split <;> simp

@[simp] theorem updateRecordApply_memCanon {w : WingIx} {hm : HostMem} {sram : Sram} (hmem : MemCanon s0.memView) :
    MemCanon (updateRecordApply s0 w c hm sram).memView := by
  simp only [updateRecordApply]
  repeat' split
  all_goals simp [hmem]

@[simp] theorem recordSettled_memView : (recordSettled s w c).memView = s.memView := by
  simp only [recordSettled]
  repeat' split
  all_goals simp

@[simp] theorem recordFinish_memView : (recordFinish s w c).memView = s.memView := (rfl)

@[simp] theorem updateRecordDone_memView : (updateRecordDone s w c).memView = s.memView := by
  simp only [updateRecordDone]
  split <;> simp

@[simp] theorem versionReclaim_memCanon (hmem : MemCanon s.memView) : MemCanon (versionReclaim s tab row).memView := by
  unfold versionReclaim
  split
  · exact hmem
  · exact foldl_memCanon (fun _ _ hmem => reclaimRow_memCanon hmem) hmem

@[simp] theorem epochOpen_memView {c : Cmd} : (epochOpen s c).1.memView = s.memView := by
  simp only [epochOpen, checked]
  split <;> simp

@[simp] theorem epochCommit_memView {c : Cmd} : (epochCommit s c).1.memView = s.memView := by
  simp only [epochCommit, checked]
  repeat' split
  all_goals simp

@[simp] theorem retireReq_memView {r : Req} : (retireReq s r).memView = s.memView := by
  unfold retireReq
  repeat' split
  all_goals simp

@[simp] theorem forceRetire_memView {f : W32} : (forceRetire s0 w c f).memView = s0.memView := by simp [forceRetire]
@[simp] theorem epochRetire_discardNow_memView {w n : Nat} {k : Cat} :
    (epochRetire.discardNow s w n k).1.memView = s.memView := by
  unfold epochRetire.discardNow
  split <;> simp

@[simp] theorem epochRetire_memView {c : Cmd} : (epochRetire s c).1.memView = s.memView := by
  simp only [epochRetire, checked]
  repeat' split
  all_goals simp

@[simp] theorem cacheDrop_memView {a : Nat} : (cacheDrop s a).memView = s.memView := (rfl)

@[simp] theorem restorePiece_memCanon {n copy : Nat} (hmem : MemCanon s.memView) :
    MemCanon (restorePiece s w n home copy).memView := by
  unfold restorePiece
  split <;> simp [hmem]

@[simp] theorem restoreRow_memCanon (hmem : MemCanon s.memView) : MemCanon (restoreRow s t e).memView := by
  have hpieces (s : State) (w n : Nat) (ps : List (Nat × Nat)) (hmem : MemCanon s.memView) :
      MemCanon (ps.foldl (fun s p => restorePiece s w n p.1 p.2) s).memView :=
    foldl_memCanon (fun _ _ hmem => restorePiece_memCanon hmem) hmem
  simp only [restoreRow]
  repeat' split
  all_goals simp [hmem, hpieces]

@[simp] theorem unsettle_memView : (unsettle s w c ep).memView = s.memView := (rfl)

@[simp] theorem discardRestoreDone_memCanon (hmem : MemCanon s.memView) : MemCanon (discardRestoreDone s w c).memView := by
  unfold discardRestoreDone
  dsimp only
  split
  · exact hmem
  · split
    · exact hmem
    · rw [catUpd_memView]
      refine foldl_memCanon (fun _ _ hmem => ?_) (by split <;> simp [hmem])
      split <;> simp [hmem]

@[simp] theorem stallForcedRetire_memView {w : WingIx} : (stallForcedRetire s w c).memView = s.memView := by
  unfold stallForcedRetire
  split <;> simp

@[simp] theorem followOpen_memView : (followOpen s w c ep).memView = s.memView := (rfl)

theorem settleRow_memCanon {t : State} (hmem : MemCanon s.memView) (ht : settleRow s w c b ep = some t) : MemCanon t.memView := by
  simp only [settleRow] at ht
  repeat' split at ht
  all_goals simp at ht
  all_goals subst ht
  all_goals simp [hmem]

@[simp] theorem pairRecordReceive_memCanon {w : WingIx} {sent : Bytes} {digestOk : Carried} (hmem : MemCanon s.memView) :
    MemCanon (pairRecordReceive s w c ep head sent digestOk).memView := by
  unfold pairRecordReceive
  dsimp only
  split
  · exact hmem
  · split
    · simp [hmem]
    · split
      · rename_i hsettled
        rw [ackRecord_memView]
        exact settleRow_memCanon (by simpa using hmem) hsettled
      · simp [hmem]

@[simp] theorem pairRecordAck_memCanon (hmem : MemCanon s.memView) : MemCanon (pairRecordAck s w c head ok).memView := by
  simp only [pairRecordAck]
  repeat' split
  all_goals simp [hmem]

@[simp] theorem partnerCommitRequest_memView {discard : Bool} {term : W32} :
    (partnerCommitRequest s w c ep discard term).memView = s.memView := by
  simp [partnerCommitRequest]

@[simp] theorem partnerCommitReply_memView {oldest : W32} : (partnerCommitReply s w c ep oldest).memView = s.memView := by
  simp only [partnerCommitReply]
  split <;> simp

end

/-! ### Catalogues and tables (06) -/

section
variable {s : State} {w : WingIx} {id : Nat} {d : Bytes} {c : Cmd} {delete : Bool} {t : Table} {x : TableWait} {code : Byte}

@[simp] theorem tableReserve_memView : (tableReserve s w id d).memView = s.memView := (rfl)
@[simp] theorem askPartner_memView {cat : Nat} : (askPartner s c w cat delete id d).memView = s.memView := (rfl)

@[simp] theorem catTableCreate_memView : (catTableCreate s c).1.memView = s.memView := by
  simp only [catTableCreate, checked]
  repeat' split
  all_goals simp

@[simp] theorem clearStorage_memCanon (hmem : MemCanon s.memView) : MemCanon (clearStorage s t).memView :=
  foldl_memCanon (fun _ _ hmem => dramZero_memCanon hmem) hmem

@[simp] theorem tableCommit_memView : (tableCommit s id).memView = s.memView := by
  unfold tableCommit
  split <;> simp

@[simp] theorem tableCreateClearDone_memCanon (hmem : MemCanon s.memView) : MemCanon (tableCreateClearDone s id).memView := by
  unfold tableCreateClearDone
  repeat' split
  all_goals simp [hmem]

@[simp] theorem tableCancel_memView : (tableCancel s id).memView = s.memView := by
  unfold tableCancel
  split <;> simp

@[simp] theorem tableDelete_memView : (tableDelete s id).memView = s.memView := (rfl)
@[simp] theorem noTable_memView : (noTable c s).1.memView = s.memView := (rfl)

@[simp] theorem catTableDelete_memView : (catTableDelete s c).1.memView = s.memView := by
  simp only [catTableDelete, checked]
  repeat' split
  all_goals simp

@[simp] theorem dropLines_memView : (dropLines s t).memView = s.memView := (rfl)

@[simp] theorem tableStorageClear_memView : (tableStorageClear s id).memView = s.memView := by
  unfold tableStorageClear
  split <;> simp

@[simp] theorem tableStorageClearDone_memCanon (hmem : MemCanon s.memView) : MemCanon (tableStorageClearDone s id).memView := by
  unfold tableStorageClearDone
  repeat' split
  all_goals simp [hmem]

@[simp] theorem resyncFailed_memView {w c : Nat} : (resyncFailed s w c).memView = s.memView := by simp [resyncFailed]

@[simp] theorem partnerTableRequest_memView : (partnerTableRequest s w delete id d).memView = s.memView := by
  unfold partnerTableRequest
  repeat' split
  all_goals simp

@[simp] theorem tableWaitFail_memView : (tableWaitFail s x code).memView = s.memView := by simp [tableWaitFail]

@[simp] theorem tableRename_memView : (tableRename s x).memView = s.memView := by
  unfold tableRename
  split <;> simp

@[simp] theorem partnerTableReply_memView {fn : Fn} {hub : Hub} : (partnerTableReply s fn hub code).memView = s.memView := by
  simp only [partnerTableReply]
  repeat' split
  all_goals simp

@[simp] theorem pinLine_memView {l : Nat} : (pinLine s w l).memView = s.memView := by simp [pinLine]

@[simp] theorem catPin_memView : (catPin s c).1.memView = s.memView := by
  simp only [catPin, checked]
  repeat' split
  all_goals simp

@[simp] theorem catUnpin_memView : (catUnpin s c).1.memView = s.memView := by
  simp only [catUnpin, checked]
  repeat' split
  all_goals simp

end

/-! ### Bindings -/

section
variable {s : State} {w a : Nat}

@[simp] theorem wingHostWrite_memView {data : Bytes} : (wingHostWrite s w a data).memView = s.memView := by
  unfold wingHostWrite
  repeat' split
  all_goals simp

@[simp] theorem hostReady_memView {who : HostReader} {n : Nat} : (hostReady s w who a n).2.memView = s.memView := by
  unfold hostReady
  repeat' split
  all_goals simp

end

/-! ### Queues and admission (04) -/

section
variable {s t : State} {id q slot w : Nat} {code : Byte} {pc : W32} {fn : Fn} {hm : HostMem} {i : Image} {r : Req} {e : Bytes}

@[simp] theorem finish_memView {detail : W32} : (finish s id code pc detail).memView = s.memView := (rfl)
@[simp] theorem fencePoll_memView : (fencePoll s).memView = s.memView := by simp [fencePoll]

@[simp] theorem queueEnable_memView : (queueEnable s fn).memView = s.memView := by
  simp only [queueEnable, loggedChange, queReg]
  repeat' split
  all_goals simp

@[simp] theorem queueEvalDone_memView {xlat : Bool} : (queueEvalDone s q xlat).memView = s.memView := by
  simp only [queueEvalDone]
  repeat' split
  all_goals simp

@[simp] theorem queueDisable_memView : (queueDisable s fn).memView = s.memView := by
  simp only [queueDisable, queReg]
  repeat' split
  all_goals simp

@[simp] theorem queueResume_memView : (queueResume s fn).memView = s.memView := by
  simp only [queueResume, queReg]
  repeat' split
  all_goals simp

@[simp] theorem queSqDb_memView {tail : W16} : (queSqDb s fn slot tail).memView = s.memView := by
  simp only [queSqDb, queDb]
  repeat' split
  all_goals simp

@[simp] theorem queCqDb_memView {head : W16} : (queCqDb s fn slot head).memView = s.memView := by
  simp only [queCqDb, queDb]
  repeat' split
  all_goals simp

@[simp] theorem scan_memView {w : WingIx} {who : HostReader} {va n : Nat} : (scan s w who hm va n).s.memView = s.memView :=
  foldl_keeps (fun x : Scan => x.s.memView) fun _ _ => by
    dsimp only
    split <;> simp

@[simp] theorem Scan.and_memView {a b : Scan} : (Scan.and a b).s.memView = b.s.memView := (rfl)
@[simp] theorem refuseImage_memView : (refuseImage s id code pc).memView = s.memView := (rfl)

theorem evictImage_memView (ht : evictImage s w = some t) : t.memView = s.memView := by
  simp only [evictImage] at ht
  repeat' split at ht
  all_goals simp at ht
  all_goals subst ht
  all_goals simp

theorem makeRoom_memView (ht : makeRoom s w = some t) : t.memView = s.memView := by
  simp only [makeRoom] at ht
  split at ht
  · exact evictImage_memView ht
  · split at ht
    · exact congrArg State.memView (Option.some.inj ht).symm
    · split at ht
      · exact evictImage_memView ht
      · obtain ⟨w, -, hw⟩ := List.exists_of_findSome?_eq_some ht
        exact evictImage_memView hw

@[simp] theorem takeLive_memView : (takeLive s w).memView = s.memView := by
  unfold takeLive
  split <;> simp

@[simp] theorem admitReq_memView {r0 : Req} : (admitReq s r0 i).memView = s.memView := by simp [admitReq]

@[simp] theorem storeImage_memView : (storeImage s r i).memView = s.memView := by
  unfold storeImage
  split
  · simp
  · rename_i hroom
    simp [makeRoom_memView hroom]

theorem scanEnds_memView {x : Scan} {r : Req} {go : State → State} (hgo : (go x.s).memView = x.s.memView) :
    (scanEnds x r go).memView = x.s.memView := by
  unfold scanEnds
  repeat' split
  all_goals simp [hgo]

@[simp] theorem imageValidated_memView : (imageValidated s id hm).memView = s.memView := by
  unfold imageValidated
  split
  · rfl
  · split
    · rfl
    · dsimp only
      rw [scanEnds_memView, scan_memView]
      split
      · simp
      · rw [scanEnds_memView, Scan.and_memView, scan_memView, scan_memView]
        split <;> simp

@[simp] theorem requestArrives_memView : (requestArrives s r hm).memView = s.memView := by
  simp only [requestArrives, scanEnds]
  repeat' split
  all_goals simp

@[simp] theorem entryArrives_memView {q : QueIx} {w : WingIx} {flow : Option (FlowIx × Nat)} :
    (entryArrives s q w e flow hm).memView = s.memView := by
  simp only [entryArrives]
  repeat' split
  all_goals simp

@[simp] theorem entryFetch_memView {q : QueIx} : (entryFetch s q e hm).memView = s.memView := by
  simp only [entryFetch]
  split <;> simp

@[simp] theorem lapse_memView : (lapse s w).memView = s.memView := (rfl)

@[simp] theorem dispatchTo_memView {hs : List Nat} {behind : Option Nat} : (dispatchTo s r hs behind).memView = s.memView := by
  unfold dispatchTo
  split <;> simp

@[simp] theorem dispatchPass_memView {rs : List Req} {claimed : List Nat} {blocked0 : Bool} :
    (dispatchPass w rs claimed blocked0 s).memView = s.memView := by
  induction rs generalizing claimed blocked0 s with
  | nil => rfl
  | cons r rest ih =>
    simp only [dispatchPass]
    repeat' split
    all_goals simp [ih]

@[simp] theorem requestDispatch_memView : (requestDispatch s w).memView = s.memView := by
  unfold requestDispatch
  repeat' split
  all_goals simp

@[simp] theorem requestEnd_memView : (requestEnd s id).memView = s.memView := by
  unfold requestEnd
  split <;> simp

@[simp] theorem failRecord_memView : (failRecord s r).memView = s.memView := by simp [failRecord]

@[simp] theorem queIrq_memView : (queIrq s q w).memView = s.memView := by
  unfold queIrq
  split <;> simp

@[simp] theorem queSignal_memView {sup : Bool} : (queSignal s q w sup).memView = s.memView := by simp [queSignal]

@[simp] theorem overlapStarts_memView : (overlapStarts s id).memView = s.memView := by
  unfold overlapStarts
  split <;> simp

@[simp] theorem completed_memView {cqe : Bytes} : (completed s r cqe).memView = s.memView := by
  unfold completed
  split <;> simp

@[simp] theorem completionWrite_memView : (completionWrite s q).memView = s.memView := by
  simp only [completionWrite]
  repeat' split
  all_goals simp

@[simp] theorem replyRead_memView {w : WingIx} {fx : FlowIx} : (replyRead s w fx slot hm).2.memView = s.memView := by
  simp only [replyRead]
  split <;> simp

@[simp] theorem replyReadReturn_memView : (replyReadReturn s q hm).memView = s.memView := by
  simp only [replyReadReturn]
  repeat' split
  all_goals simp

end

/-! ### Re-binding and scrub (02 R49 to R57) -/

section
variable {s : State} {u : UnitId} {w e h : Nat} {us : List UnitId} {dest : Option WingIx} {bad : List HcIx} {fn : Fn} {hub : Hub}
  {r : Run}

@[simp] theorem fenceUnit_memView : (fenceUnit s u).memView = s.memView := by
  unfold fenceUnit
  split <;> simp

@[simp] theorem rekeyExtent_memCanon {w : Option WingIx} (hmem : MemCanon s.memView) : MemCanon (rekeyExtent s w e).memView := by
  simp only [rekeyExtent]
  repeat' split
  all_goals simp [hmem]

@[simp] theorem dropExtentLines_memView : (dropExtentLines s e).memView = s.memView := (rfl)

@[simp] theorem halfLost_memView : (halfLost s h).memView = s.memView := by
  unfold halfLost
  split <;> simp

@[simp] theorem scrubHalf_memCanon (hmem : MemCanon s.memView) : MemCanon (scrubHalf s h).memView := by
  have hlost : MemCanon (halfLost s h).memView := by simpa using hmem
  simp only [scrubHalf, State.memView_mk]
  generalize hs2 : List.foldl _ _ (halfPositions h) = s2
  have hkept : s2.memView = (halfLost s h).memView := by simp [← hs2]
  rw [← hkept] at hlost
  exact ⟨hlost.1, Mem.clear_wf _ _ _ hlost.2⟩

@[simp] theorem scrubFailed_memView : (scrubFailed s w h).memView = s.memView := by simp [scrubFailed]

@[simp] theorem flushUnit_memView : (flushUnit s u).memView = s.memView := by
  unfold flushUnit
  repeat' split
  all_goals simp

@[simp] theorem scrubUnits_memCanon {stay : Bool} (hmem : MemCanon s.memView) :
    MemCanon (scrubUnits s us dest stay bad).memView := by
  simp only [scrubUnits]
  rw [foldl_keeps State.memView fun _ _ => flushUnit_memView, foldl_keeps State.memView fun _ _ => scrubFailed_memView]
  refine foldl_memCanon (fun _ _ => scrubHalf_memCanon) (foldl_memCanon (fun _ _ hmem => ?_) (by simpa using hmem))
  simp [hmem]

@[simp] theorem vfClear_memView {fn : Nat} : (vfClear s fn).memView = s.memView := (rfl)
@[simp] theorem mbxClear_memView {fn : Nat} : (mbxClear s fn).memView = s.memView := (rfl)

@[simp] theorem resetUnit_memView : (resetUnit s u).memView = s.memView := by
  unfold resetUnit
  split <;> simp

@[simp] theorem cutTables_memView : (cutTables s e).memView = s.memView := by simp [cutTables]

@[simp] theorem bindUnit_memView : (bindUnit dest s u).memView = s.memView := by
  unfold bindUnit
  split <;> simp

@[simp] theorem drainBegin_memView : (drainBegin s us).memView = s.memView := foldl_keeps State.memView fun _ _ => by
  dsimp only
  repeat' split
  all_goals simp

@[simp] theorem wingRebind_memView {c : Cmd} : (wingRebind s c).1.memView = s.memView := by
  simp only [wingRebind, checked]
  repeat' split
  all_goals simp

@[simp] theorem releaseHeld_memView : (releaseHeld s us).memView = s.memView := by
  refine (foldl_keeps State.memView fun _ _ => ?_).trans (foldl_keeps State.memView fun _ _ => ?_)
  · split <;> simp
  · split <;> simp

@[simp] theorem rebindSteps_memCanon {payload : Bytes} (hmem : MemCanon s.memView) :
    MemCanon (rebindSteps s fn payload bad).1.memView := by
  simp only [rebindSteps]
  split <;> simp [hmem]

@[simp] theorem rebindFinish_memCanon (hmem : MemCanon s.memView) : MemCanon (rebindFinish s fn hub r bad).memView := by
  simp [rebindFinish, hmem]

@[simp] theorem rebindRestart_memCanon (hmem : MemCanon s.memView) : MemCanon (rebindRestart s).memView := by
  unfold rebindRestart
  refine foldl_memCanon (fun _ _ hmem => rebindSteps_memCanon hmem) (foldl_memCanon (fun _ _ hmem => ?_) hmem)
  repeat' split
  all_goals simp [hmem]

@[simp] theorem rebindDrainDone_memCanon (hmem : MemCanon s.memView) : MemCanon (rebindDrainDone s fn hub bad).memView := by
  simp only [rebindDrainDone]
  repeat' split
  all_goals simp [hmem]

@[simp] theorem abortAll_memView {rs : List Req} {why : Nat} : (abortAll s rs why).memView = s.memView := by simp [abortAll]
@[simp] theorem flushCompletions_memView {q : Nat} : (flushCompletions s q).memView = s.memView := by simp [flushCompletions]
@[simp] theorem drainAlarm_memView : (drainAlarm s w).memView = s.memView := by simp [drainAlarm]

@[simp] theorem rebindTimeout_memCanon (hmem : MemCanon s.memView) : MemCanon (rebindTimeout s fn hub r).memView := by
  simp only [rebindTimeout]
  split <;> simp [hmem]

@[simp] theorem regenWing_memCanon (hmem : MemCanon s.memView) : MemCanon (regenWing s w).memView := by simp [regenWing, hmem]

end

/-! ### Wings (02) -/

section
variable {s : State} {c : Cmd} {w : Nat} {enable apply : Bool}

@[simp] theorem wingGrant_memCanon (hmem : MemCanon s.memView) : MemCanon (wingGrant s c).1.memView := by
  simp only [wingGrant, checked]
  repeat' split
  all_goals simp [hmem]

@[simp] theorem wingQuery_memView : (wingQuery s c).1.memView = s.memView := by
  simp only [wingQuery, checked]
  split <;> simp

@[simp] theorem violationSummary_memView {kind : Nat} : (violationSummary s w kind).memView = s.memView := by
  simp [violationSummary]

@[simp] theorem wingCheckDone_memView : (wingCheckDone s w).memView = s.memView := by
  simp only [wingCheckDone]
  repeat' split
  all_goals simp

@[simp] theorem wngCtlAct_memView : (wngCtlAct s w enable apply).memView = s.memView := by
  simp only [wngCtlAct]
  repeat' split
  all_goals simp

@[simp] theorem wngCtl_memView {fn : Fn} {w : WingIx} : (wngCtl s fn w enable apply).memView = s.memView := by
  simp [wngCtl, loggedChange, loggedWrite, wingReg]

@[simp] theorem wingOff_memView : (wingOff s w).memView = s.memView := (rfl)

end

/-! ### The Curator and its authority (03) -/

section
variable {s : State} {c : Cmd} {h : Hub} {ok : Bool}

@[simp] theorem hello_memView : (hello s c).1.memView = s.memView := by
  simp only [hello, checked]
  split <;> simp

@[simp] theorem authQuery_memView : (authQuery s c).1.memView = s.memView := by
  simp only [authQuery, checked]
  split <;> simp

@[simp] theorem plinthRead_memView {h : Nat} : (plinthRead s h).memView = s.memView := (rfl)
@[simp] theorem authAlarm_memView {h code : Nat} : (authAlarm s h code).memView = s.memView := by simp [authAlarm]
@[simp] theorem loseAuthority_memView : (loseAuthority s).memView = s.memView := by simp [loseAuthority]

@[simp] theorem hubFail_memView : (hubFail s h).memView = s.memView := by
  simp only [hubFail]
  split <;> simp

@[simp] theorem startClaim_memView : (startClaim s h).memView = s.memView := (rfl)

theorem plinthClaim_memView {t : State} (ht : plinthClaim s h = some t) : t.memView = s.memView := by
  simp only [plinthClaim] at ht
  repeat' split at ht
  all_goals simp at ht
  all_goals subst ht
  all_goals simp

@[simp] theorem authHandover_memView : (authHandover s c).1.memView = s.memView := by
  simp only [authHandover, checked]
  repeat' split
  all_goals simp
  rename_i hclaim
  simp [plinthClaim_memView hclaim]

@[simp] theorem heartbeatTimer_memView : (heartbeatTimer s h ok).memView = s.memView := by
  simp only [heartbeatTimer]
  repeat' split
  all_goals simp

@[simp] theorem heartbeatReceive_memView {term : W32} : (heartbeatReceive s h term).memView = s.memView := by
  simp [heartbeatReceive]

@[simp] theorem heartbeatSlot_memView : (heartbeatSlot s h ok).memView = s.memView := by simp [heartbeatSlot]

@[simp] theorem tryClaim_memView : (tryClaim s h).memView = s.memView := by
  unfold tryClaim
  dsimp only
  split
  · split
    · rename_i hclaim
      exact plinthClaim_memView hclaim
    · simp
  · simp

@[simp] theorem beatConfirm_memView : (beatConfirm s h ok).memView = s.memView := by simp [beatConfirm]
@[simp] theorem fenceDone_memView : (fenceDone s h ok).memView = s.memView := by simp [fenceDone]
@[simp] theorem claimEnds_memView : (claimEnds s h).memView = s.memView := by simp [claimEnds]

@[simp] theorem termAdvanceTimeout_memView {port : Nat} : (termAdvanceTimeout s port).memView = s.memView := by
  unfold termAdvanceTimeout
  split <;> simp

@[simp] theorem refetch_memView {q : Nat} : (refetch s q).memView = s.memView := by simp [refetch]

@[simp] theorem redispatch_memView : (redispatch s).memView = s.memView := foldl_keeps State.memView fun _ _ => by
  repeat' split
  all_goals simp

@[simp] theorem endOrphans_memView : (endOrphans s).memView = s.memView := by
  refine (foldl_keeps State.memView fun _ _ => ?_).trans (foldl_keeps State.memView fun _ _ => ?_)
  · repeat' split
    all_goals simp
  · split <;> simp

@[simp] theorem rebuildDone_memCanon (hmem : MemCanon s.memView) : MemCanon (rebuildDone s h).memView := by
  simp only [rebuildDone]
  split <;> simp [hmem]

end

/-! ### The pair (13) -/

section
variable {s : State} {n : Hub} {c w holder row : Nat} {claimed macOk weighted : Bool} {term epoch : W32} {expiry nonce : W64}
  {t : Table} {ls : List (Nat × Nat × W32)} {tab : TabIx} {data : Bytes}

@[simp] theorem askWitness_memView {type : Nat} : (askWitness s type).memView = s.memView := by
  unfold askWitness
  split <;> simp

@[simp] theorem askEnd_memView {code : Byte} : (askEnd s code).memView = s.memView := by
  unfold askEnd
  split <;> simp

@[simp] theorem linkLost_memView : (linkLost s).memView = s.memView := by
  simp only [linkLost]
  split <;> simp

@[simp] theorem setLinkState_memView {l : PairLink} : (setLinkState s l).memView = s.memView := by simp [setLinkState]
@[simp] theorem linkDieDown_memView : (linkDieDown s n).memView = s.memView := by simp [linkDieDown]
@[simp] theorem ranriFrame_memView {h : FrameHead} {ok : Bool} : (ranriFrame s n h ok).memView = s.memView := by simp [ranriFrame]
@[simp] theorem keepaliveTick_memView : (keepaliveTick s n).memView = s.memView := by simp [keepaliveTick]

@[simp] theorem laneFailure_memView {rx : Bool} {fiber lam : Nat} : (laneFailure s n rx fiber lam).memView = s.memView := by
  simp [laneFailure]

@[simp] theorem retrain_memView : (retrain s).memView = s.memView := by simp [retrain]
@[simp] theorem archived_memView : (archived s).memView = s.memView := (rfl)
@[simp] theorem pairSettings_memView {p : Bytes} : (pairSettings s p).memView = s.memView := by simp [pairSettings]

@[simp] theorem pairConfigure_memView {c : Cmd} : (pairConfigure s c).1.memView = s.memView := by
  simp only [pairConfigure, checked]
  split <;> simp

@[simp] theorem declareCat_memCanon {e : Nat × Nat × Nat} (hmem : MemCanon s.memView) :
    MemCanon (declareCat claimed s e).memView := by
  simp only [declareCat]
  repeat' split
  all_goals simp [hmem]

@[simp] theorem declareLost_memCanon (hmem : MemCanon s.memView) : MemCanon (declareLost s claimed).memView := by
  unfold declareLost
  split
  · exact hmem
  · exact foldl_memCanon (fun _ _ => declareCat_memCanon) (by simpa using hmem)

@[simp] theorem orphan_memView {n : Nat} : (orphan s w c n).memView = s.memView := by simp [orphan]

@[simp] theorem resendCat_memView {owed : Option W32} : (resendCat s w c owed).memView = s.memView := by
  simp only [resendCat]
  repeat' split
  all_goals simp

@[simp] theorem compareCat_memView {p : PeerCat} : (compareCat s p).memView = s.memView := by simp [compareCat]
@[simp] theorem compareAll_memView {cats : List PeerCat} : (compareAll s cats).memView = s.memView := by simp [compareAll]
@[simp] theorem compareWaiting_memView : (compareWaiting s).memView = s.memView := by simp [compareWaiting]
@[simp] theorem sendLease_memView : (sendLease s).memView = s.memView := by simp [sendLease]
@[simp] theorem leaseFrom_memView {expiry : Nat} : (leaseFrom s term holder expiry).memView = s.memView := by simp [leaseFrom]
@[simp] theorem leaseAcquire_memView {start : Nat} : (leaseAcquire s start).memView = s.memView := by simp [leaseAcquire]
@[simp] theorem leaseAsked_memView : (leaseAsked s term expiry).memView = s.memView := by simp [leaseAsked]

theorem askAnswered_memView {t : State} (ht : askAnswered s term holder = some t) : t.memView = s.memView := by
  simp only [askAnswered] at ht
  repeat' split at ht
  all_goals simp at ht
  all_goals subst ht
  all_goals simp

@[simp] theorem leaseReport_memView : (leaseReport s term holder expiry).memView = s.memView := by simp [leaseReport]

@[simp] theorem leaseMessage_memView {m : LeaseSays} : (leaseMessage s term m expiry).memView = s.memView := by
  unfold leaseMessage
  split
  · rfl
  · split
    · simp
    · simp
    · rename_i h
      cases hans : askAnswered s term h with
      | none => simp
      | some t => exact askAnswered_memView hans

@[simp] theorem pairLease_memView {c : Cmd} : (pairLease s c).1.memView = s.memView := by
  simp only [pairLease, checked]
  repeat' split
  all_goals simp

@[simp] theorem claimNow_memView : (claimNow s).memView = s.memView := by simp [claimNow]
@[simp] theorem witnessDrop_memView : (witnessDrop s).memView = s.memView := (rfl)

@[simp] theorem witnessGrant_memCanon (hmem : MemCanon s.memView) : MemCanon (witnessGrant s term nonce macOk).memView := by
  simp only [witnessGrant]
  repeat' split
  all_goals simp [hmem]

@[simp] theorem witnessRefuse_memView : (witnessRefuse s term nonce macOk).memView = s.memView := by
  unfold witnessRefuse
  split <;> simp

@[simp] theorem stepClock_memView {d : ℤ} : (stepClock s d).memView = s.memView := (rfl)
@[simp] theorem timeOffset_memView {ofs : ℤ} : (timeOffset s ofs).memView = s.memView := by simp [timeOffset]

@[simp] theorem agreeEntries_memView {peer : List (Nat × Nat × Nat)} : (agreeEntries s peer).memView = s.memView := by
  simp [agreeEntries]

@[simp] theorem sendExchange_memView : (sendExchange s).memView = s.memView := (rfl)
@[simp] theorem sendTrained_memView : (sendTrained s).memView = s.memView := (rfl)

@[simp] theorem linkTrained_memView {q : PeerInfo} : (linkTrained s q).memView = s.memView := by
  unfold linkTrained
  split <;> simp

@[simp] theorem epochReport_memView : (epochReport s).memView = s.memView := by simp [epochReport]

@[simp] theorem remoteRow_memView {l : Nat × Nat × W32} : (remoteRow s t epoch weighted l).1.memView = s.memView := by
  simp only [remoteRow]
  repeat' split
  all_goals simp

@[simp] theorem remoteRows_memView : (remoteRows s t epoch weighted ls).1.memView = s.memView := by
  induction ls generalizing s with
  | nil => rfl
  | cons l ls ih =>
    simp only [remoteRows]
    split <;> simp [ih]

@[simp] theorem sendPart_memView {seq : W64} {bag g : Nat} {p : List W32 × Nat} :
    (sendPart s t seq bag g p).memView = s.memView :=
  (rfl)

@[simp] theorem partnerLookup_memView {w : WingIx} {bags : RemoteBags} {max_ : Bool} :
    (partnerLookup s w tab epoch bags weighted max_ ls).memView = s.memView := by
  simp only [partnerLookup]
  repeat' split
  all_goals simp

@[simp] theorem remoteTimeout_memView {d : Nat} {ticket : W16} : (remoteTimeout s d ticket).memView = s.memView := by
  unfold remoteTimeout
  repeat' split
  all_goals simp

@[simp] theorem pairStatus_memView {c : Cmd} : (pairStatus s c).1.memView = s.memView := by
  simp only [pairStatus, checked]
  split <;> simp

@[simp] theorem resyncSend_memView : (resyncSend s w c).memView = s.memView :=
  foldl_keeps State.memView fun _ _ => foldl_keeps State.memView fun _ _ => by
      split
      · simp
      · split
        · rfl
        · extract_lets slot
          repeat' split
          all_goals simp

@[simp] theorem resyncTables_memView : (resyncTables s w c).memView = s.memView := by simp [resyncTables]
@[simp] theorem resyncStart_memView : (resyncStart s w c).memView = s.memView := by simp [resyncStart]

@[simp] theorem resyncEntry_memView {x : State × Bytes} {e : Nat × Nat} : (resyncEntry x e).1.memView = x.1.memView := by
  simp only [resyncEntry]
  repeat' split
  all_goals simp

@[simp] theorem pairResync_memView {c : Cmd} : (pairResync s c).1.memView = s.memView := by
  simp only [pairResync, checked]
  split
  · rfl
  · exact (foldl_keeps (fun x : State × Bytes => x.1.memView) fun _ _ => resyncEntry_memView).trans (scpCommit_memView)

@[simp] theorem resyncBegin_memView : (resyncBegin s w c).memView = s.memView := by simp [resyncBegin]

@[simp] theorem resyncRow_memCanon {w : WingIx} (hmem : MemCanon s.memView) :
    MemCanon (resyncRow s w c tab row epoch data).memView := by
  simp only [resyncRow]
  repeat' split
  all_goals simp [hmem]

@[simp] theorem resyncReceive_memCanon {w : WingIx} (hmem : MemCanon s.memView) :
    MemCanon (resyncReceive s w c tab row epoch data).memView := by
  simp only [resyncReceive]
  repeat' split
  all_goals simp [hmem]

@[simp] theorem resyncDone_memView {v : W32} : (resyncDone s w c v term).memView = s.memView := by simp [resyncDone]

@[simp] theorem pairReset_memView {c : Cmd} : (pairReset s c).1.memView = s.memView := by
  simp only [pairReset, checked]
  split <;> simp

end

/-! ### The settings archive (18 R554) -/

section
variable {s : State}

@[simp] theorem State.updFw_memView {f : Fw → Fw} : (s.updFw f).memView = s.memView := (rfl)
@[simp] theorem State.updRst_memView {f : Rst → Rst} : (s.updRst f).memView = s.memView := (rfl)

@[simp] theorem applyEntry_memView {e : Nat × Bytes} : (applyEntry s e).memView = s.memView := by
  unfold applyEntry
  split <;> simp

@[simp] theorem archiveWrite_memView : (archiveWrite s).memView = s.memView := by simp [archiveWrite]

@[simp] theorem archiveBoot_memView {ok : Bool} : (archiveBoot s ok).memView = s.memView := by
  unfold archiveBoot
  split <;> simp

end

/-! ### Events of the fabric (01) -/

section
variable {s : State} {req : Nat}

@[simp] theorem flitError_memView {port : Nat} {x3 : Sram} : (flitError s port req x3).memView = s.memView := by
  simp only [flitError]
  repeat' split
  all_goals simp

@[simp] theorem fabricPacket_memView {port : Fin 62} {cls kind index : Nat} {gen : W16} {src : Fin 20} {mark : PacketMark}
    {term : W32} :
    (fabricPacket s port cls kind index gen src mark term req).memView = s.memView := by
  simp [fabricPacket]

@[simp] theorem laneFault_memView {n lane : Nat} : (laneFault s n lane).memView = s.memView := by simp [laneFault]

end

/-! ### Matrix units (08) -/

section
variable {l : Launch} {u c n p h half : Nat} {product : Bytes} {s : State} {x : EngRun}

@[simp] theorem dupPass_memView {r : Req} {h' : Nat} : (dupPass l r u h' c n p product s).memView = s.memView := by simp [dupPass]

@[simp] theorem startPass_memView : (startPass h u l p product s).memView = s.memView := by
  unfold startPass
  repeat' split
  all_goals simp

@[simp] theorem loadWeights_memView {pass : Nat} {tile : List Nat} : (loadWeights s u pass tile).memView = s.memView := (rfl)
@[simp] theorem setAccum_memView {acc : List W32} : (setAccum s u half acc).memView = s.memView := (rfl)

@[simp] theorem mxPassRun_memView {a b : List (List Nat)} {bias : List Nat} :
    (mxPassRun h l u half a b bias s).memView = s.memView := by
  simp [mxPassRun]

@[simp] theorem mxTile_memCanon {b0 j0 : Nat} (hmem : MemCanon x.1.memView) : MemCanon (mxTile h u l b0 j0 half x).1.memView := by
  have hrows (s : State) (rows : List (Nat × Bytes)) (me : Option (Nat × W16)) (hmem : MemCanon s.memView) :
      MemCanon (rows.foldl (fun s r => spWrite s h r.1 r.2 me) s).memView :=
    foldl_memCanon (fun _ _ hmem => spWrite_memCanon hmem) hmem
  unfold mxTile
  dsimp only
  split
  · exact hmem
  · split
    · simpa using hmem
    · split
      · exact hmem
      · split
        · simpa using hmem
        · exact hrows _ _ _ (by simpa using hmem)

@[simp] theorem mxSample_memCanon (hmem : MemCanon x.1.memView) : MemCanon (mxSample h u l n x).1.memView := by
  simp only [mxSample]
  repeat' split
  all_goals simp [hmem]

@[simp] theorem mxRun_memCanon (hmem : MemCanon s.memView) : MemCanon (mxRun s h l).1.memView := by
  have hkeeps {β : Type} (f : EngRun → β → EngRun) (hf : ∀ x b, MemCanon x.1.memView → MemCanon (f x b).1.memView)
      (l : List β) (x : EngRun) (hmem : MemCanon x.1.memView) : MemCanon (l.foldl f x).1.memView :=
    List.foldlRecOn l f (motive := fun x => MemCanon x.1.memView) hmem fun _ hx b _ => hf _ b hx
  simp only [mxRun]
  split
  · exact hkeeps _ (fun _ _ hx => mxSample_memCanon hx) _ _ hmem
  · exact hkeeps _ (fun _ _ hx => hkeeps _ (fun _ _ hx => mxTile_memCanon hx) _ _ hx) _ _ hmem

@[simp] theorem mxUndef_memCanon (hmem : MemCanon s.memView) : MemCanon (mxUndef s h l).memView := by
  unfold mxUndef
  split <;> simp [hmem]

@[simp] theorem matrixDone_memCanon {err bad : Sram} (hmem : MemCanon s.memView) : MemCanon (matrixDone s u err bad).memView := by
  simp only [matrixDone]
  repeat' split
  all_goals simp [hmem]

@[simp] theorem countMismatch_memView : (countMismatch s u).memView = s.memView := by simp [countMismatch]

@[simp] theorem duplicateVerdict_memView {verdict : CheckRun} : (duplicateVerdict s c verdict).memView = s.memView := by
  simp only [duplicateVerdict]
  repeat' split
  all_goals simp

end

/-! ### Vector engines and reduction units (09) -/

section
variable {h p i n flagsAt c rows : Nat} {l : Launch} {x : VecRun} {s : State} {out : Region} {flagsEn undef : Bool}
  {err bad : Sram}

@[simp] theorem veLoadRow_memView : (veLoadRow h l p x).s.memView = x.s.memView := by
  simp only [veLoadRow]
  split <;> simp

@[simp] theorem veRow_memCanon {r : Nat} (hmem : MemCanon x.s.memView) : MemCanon (veRow h l p r x).s.memView := by
  simp only [veRow]
  repeat' split
  all_goals simp [hmem]

@[simp] theorem veStep_memCanon (hmem : MemCanon x.s.memView) : MemCanon (veStep h l i x).s.memView := by
  simp only [veStep]
  repeat' split
  all_goals simp [hmem]

@[simp] theorem veRunTo_memCanon (hmem : MemCanon s.memView) : MemCanon (veRunTo s h l n).s.memView :=
  List.foldlRecOn _ _ (motive := fun x : VecRun => MemCanon x.s.memView) hmem fun _ hx _ _ => veStep_memCanon hx

@[simp] theorem veRun_memCanon (hmem : MemCanon s.memView) : MemCanon (veRun s h l).s.memView := by simp [veRun, hmem]

@[simp] theorem laneUndef_memCanon (hmem : MemCanon s.memView) : MemCanon (laneUndef s l h out flagsEn flagsAt).memView := by
  unfold laneUndef
  split <;> simp [hmem]

@[simp] theorem finishRun_memCanon (hmem : MemCanon x.s.memView) :
    MemCanon (finishRun l h out flagsEn flagsAt undef x).memView := by
  unfold finishRun
  repeat' split
  all_goals simp [hmem]

@[simp] theorem cutRun_memCanon (hmem : MemCanon x.s.memView) : MemCanon (cutRun l h n out undef x).memView := by
  unfold cutRun
  repeat' split
  all_goals simp [hmem]

@[simp] theorem vectorBurst_memCanon (hmem : MemCanon s.memView) : MemCanon (vectorBurst s c rows).memView := by
  simp only [vectorBurst]
  repeat' split
  all_goals simp [hmem]

@[simp] theorem vectorDone_memCanon (hmem : MemCanon s.memView) : MemCanon (vectorDone s c err bad).memView := by
  unfold vectorDone
  repeat' split
  all_goals simp [hmem]

@[simp] theorem ruWrite_memCanon {first : Nat} {outs : List (Bytes × Nat)} (hmem : MemCanon x.s.memView) :
    MemCanon (ruWrite h l p first outs x).s.memView :=
  foldl_memCanon (fun _ _ hmem => spWrite_memCanon hmem) hmem

@[simp] theorem ruStep_memCanon (hmem : MemCanon x.s.memView) : MemCanon (ruStep h l i x).s.memView := by
  simp only [ruStep]
  repeat' split
  all_goals simp [hmem]

@[simp] theorem ruRunTo_memCanon (hmem : MemCanon s.memView) : MemCanon (ruRunTo s h l n).s.memView :=
  List.foldlRecOn _ _ (motive := fun x : VecRun => MemCanon x.s.memView) hmem fun _ hx _ _ => ruStep_memCanon hx

@[simp] theorem ruRun_memCanon (hmem : MemCanon s.memView) : MemCanon (ruRun s h l).s.memView := by simp [ruRun, hmem]

@[simp] theorem reductionBurst_memCanon (hmem : MemCanon s.memView) : MemCanon (reductionBurst s c rows).memView := by
  simp only [reductionBurst]
  repeat' split
  all_goals simp [hmem]

@[simp] theorem reductionDone_memCanon (hmem : MemCanon s.memView) : MemCanon (reductionDone s c err bad).memView := by
  unfold reductionDone
  repeat' split
  all_goals simp [hmem]

end

/-! ### Docent instructions (05) -/

section
variable {s : State} {d target slot : Nat} {rd ra rb : R5} {imm : W32} {eng : Engine}

@[simp] theorem docUpset_memView : (docUpset s d).1.memView = s.memView := by
  simp only [docUpset]
  split <;> simp

@[simp] theorem ozAlu_memView {f : W64 → W64 → W64} : (ozAlu d rd ra rb f s).memView = s.memView := by simp [ozAlu]
@[simp] theorem ozAluI_memView {f : W64 → W64} : (ozAluI d rd ra f s).memView = s.memView := by simp [ozAluI]

@[simp] theorem ozBranch_memView {target : BitVec 14} {p : W64 → W64 → Bool} :
    (ozBranch d ra rb target p s).memView = s.memView := by
  simp [ozBranch]

@[simp] theorem ozEnd_memView : (ozEnd d s).memView = s.memView := by
  unfold ozEnd
  split <;> simp

@[simp] theorem ozBarrier_memView {n : Nat} : (ozBarrier d n s).memView = s.memView := by
  unfold ozBarrier
  split <;> simp

@[simp] theorem ozPrio_memView {p : Nat} : (ozPrio d p s).memView = s.memView := by simp [ozPrio]
@[simp] theorem ozLoop_memView : (ozLoop d ra target s).memView = s.memView := by simp [ozLoop]
@[simp] theorem ozCall_memView : (ozCall d target s).memView = s.memView := by simp [ozCall]

@[simp] theorem ozRet_memView : (ozRet d s).memView = s.memView := by
  simp only [ozRet]
  split <;> simp

@[simp] theorem ozJr_memView : (ozJr d ra s).memView = s.memView := by simp [ozJr]
@[simp] theorem ozLda_memView : (ozLda d rd ra imm s).memView = s.memView := by simp [ozLda]

@[simp] theorem ldaReturn_memView {hm : HostMem} : (ldaReturn s d hm).memView = s.memView := by
  simp only [ldaReturn]
  repeat' split
  all_goals simp

@[simp] theorem ozLdc_memView : (ozLdc d rd ra imm s).memView = s.memView := by
  simp only [ozLdc]
  split <;> simp

@[simp] theorem ozLds_memView : (ozLds d rd ra imm s).memView = s.memView := by
  simp only [ozLds]
  split <;> simp

@[simp] theorem ozSts_memCanon (hmem : MemCanon s.memView) : MemCanon (ozSts d ra rb imm s).memView := by
  simp only [ozSts]
  split <;> simp [hmem]

@[simp] theorem ozDld_memView {ci : Nat} : (ozDld d slot ci s).memView = s.memView := by simp [ozDld]
@[simp] theorem ozDset_memView {word : Nat} : (ozDset d ra slot word s).memView = s.memView := by simp [ozDset]
@[simp] theorem ozRefuse_memView {check : Nat × Byte} : (ozRefuse s d eng check).memView = s.memView := by simp [ozRefuse]

@[simp] theorem ozLaunchOn_memView {check : Bytes → Nat → Docent → Option (Nat × Byte)} :
    (ozLaunchOn d rd slot eng check s).memView = s.memView := by
  simp only [ozLaunchOn, ozLaunch]
  repeat' split
  all_goals simp

@[simp] theorem ozMmul_memView {unit : Nat} : (ozMmul d rd slot unit s).memView = s.memView := by simp [ozMmul]

@[simp] theorem ozGpeb_memCanon (hmem : MemCanon s.memView) : MemCanon (ozGpeb d rd slot s).memView := by
  simp only [ozGpeb, ozLaunch]
  repeat' split
  all_goals simp [hmem]

@[simp] theorem ozWait_memView : (ozWait d ra s).memView = s.memView := by
  simp only [ozWait]
  repeat' split
  all_goals simp

@[simp] theorem ozWaitall_memView : (ozWaitall d s).memView = s.memView := by
  unfold ozWaitall
  split <;> simp

@[simp] theorem ozPoll_memView : (ozPoll d rd ra s).memView = s.memView := by
  simp only [ozPoll]
  split <;> simp

@[simp] theorem docentLoadDone_memView {sram : DocSram} : (docentLoadDone s d sram).memView = s.memView := by
  simp only [docentLoadDone]
  repeat' split
  all_goals simp

@[simp] theorem docentFaultReport_memView : (docentFaultReport s d).memView = s.memView := by
  simp only [docentFaultReport]
  split <;> simp

end

/-! ### Page requests and BAR2 (11 R361 to R367) -/

section
variable {s : State} {fn : Fn} {addr page off len : Nat} {write : Bool} {who : HostReader} {r : PriReq} {data : Bytes}

@[simp] theorem translationSync_memView {c : Cmd} : (translationSync s c).1.memView = s.memView := by
  simp only [translationSync, checked]
  split <;> simp

@[simp] theorem atsInvalidate_memView {addr bytes : W64} {scope : AtsScope} :
    (atsInvalidate s fn addr bytes scope).memView = s.memView := by
  simp [atsInvalidate]

@[simp] theorem ringReadFails_memView {q : Nat} {code : Byte} : (ringReadFails s q code).memView = s.memView := by
  simp [ringReadFails]

@[simp] theorem pageRefused_memView {x2 : HostReader} : (pageRefused s page x2).memView = s.memView := by
  unfold pageRefused
  repeat' split
  all_goals simp

@[simp] theorem atsAnswer_memView {ok was : Bool} : (atsAnswer s fn page ok was write who).memView = s.memView := by
  simp only [atsAnswer]
  repeat' split
  all_goals simp

@[simp] theorem atsCompletion_memView {addr : AtsPage} {rd wr need : Bool} :
    (atsCompletion s fn addr rd wr need who).memView = s.memView := by
  simp [atsCompletion]

@[simp] theorem hostError_memView {poisoned : Bool} : (hostError s who poisoned).memView = s.memView := by
  unfold hostError
  repeat' split
  all_goals simp

@[simp] theorem askAgain_memView {w : Nat} : (askAgain s w r page).memView = s.memView := by simp [askAgain]

@[simp] theorem translateAgain_memView : (translateAgain s r).memView = s.memView := by
  unfold translateAgain
  repeat' split
  all_goals simp

@[simp] theorem priResponse_memView {code : Nat} : (priResponse s fn addr code).memView = s.memView := by simp [priResponse]
@[simp] theorem priTimeout_memView : (priTimeout s fn addr).memView = s.memView := by simp [priTimeout]

@[simp] theorem bar2Read_memView : (bar2Read s fn off len).memView = s.memView := by
  unfold bar2Read
  repeat' split
  all_goals simp

@[simp] theorem bar2Write_memCanon (hmem : MemCanon s.memView) : MemCanon (bar2Write s fn off data).memView := by
  unfold bar2Write
  repeat' split
  all_goals simp [hmem]

@[simp] theorem bar2Access_memCanon {tee : Bool} (hmem : MemCanon s.memView) :
    MemCanon (bar2Access s fn write off len data tee).memView := by
  simp only [bar2Access]
  repeat' split
  all_goals simp [hmem]

end

/-! ### The host port (14) -/

section
variable {s : State} {fn : Fn} {vec : Nat} {field : PcieField} {val : W16} {port : Hub}

@[simp] theorem State.updPcie_memView {f : Pcie → Pcie} : (s.updPcie f).memView = s.memView := (rfl)
@[simp] theorem issueHeld_memView : (issueHeld s).memView = s.memView := (rfl)
@[simp] theorem msixFlush_memView : (msixFlush s fn vec).memView = s.memView := by simp [msixFlush]
@[simp] theorem msixFlushAll_memView : (msixFlushAll s fn).memView = s.memView := by simp [msixFlushAll]
@[simp] theorem msixMask_memView {m : Bool} : (msixMask s fn vec m).memView = s.memView := by simp [msixMask]

@[simp] theorem cfgWriteActive_memView : (cfgWriteActive s fn field val).memView = s.memView := by
  unfold cfgWriteActive
  split <;> simp

@[simp] theorem cfgWriteStandby_memView : (cfgWriteStandby s fn field val).memView = s.memView := by
  unfold cfgWriteStandby
  split <;> simp

@[simp] theorem pcieConfigWrite_memView : (pcieConfigWrite s fn port field val).memView = s.memView := by simp [pcieConfigWrite]
@[simp] theorem setPortActive_memView {h : Hub} {v : Bool} : (setPortActive s h v).memView = s.memView := (rfl)
@[simp] theorem drainRunning_memView : (drainRunning s).memView = s.memView := (rfl)

@[simp] theorem hostPortMove_memView {c : Cmd} : (hostPortMove s c).1.memView = s.memView := by
  simp only [hostPortMove, checked]
  split <;> simp

@[simp] theorem moveFails_memView : (moveFails s).memView = s.memView := by
  unfold moveFails
  split <;> simp

@[simp] theorem switchPort_memView {t : Hub} : (switchPort s t).memView = s.memView := by simp [switchPort]

@[simp] theorem reissuePri_memView {r : PriReq} : (reissuePri s r).memView = s.memView := by
  unfold reissuePri
  split <;> simp

@[simp] theorem hostPortMoved_memView : (hostPortMoved s).memView = s.memView := by
  unfold hostPortMoved
  repeat' split
  all_goals simp

@[simp] theorem standbyReset_memView : (standbyReset s).memView = s.memView := by
  simp only [standbyReset]
  repeat' split
  all_goals simp

@[simp] theorem hostLinkDown_memView : (hostLinkDown s port).memView = s.memView := by simp [hostLinkDown]
@[simp] theorem hostLinkUp_memView : (hostLinkUp s port).memView = s.memView := by simp [hostLinkUp]
@[simp] theorem doeAnswer_memView {data : Bytes} : (doeAnswer s fn data).memView = s.memView := (rfl)
@[simp] theorem doeDiscovery_memView {index : Byte} : (doeDiscovery s fn index).memView = s.memView := by simp [doeDiscovery]

end

/-! ### The network (14) -/

section
variable {s : State} {f : FlowIx} {ce : Bool} {data : Bytes} {port : Fin 2} {prio : Nat}

@[simp] theorem netVector_memView {w : Nat} : (netVector s w).memView = s.memView := by simp [netVector]
@[simp] theorem flowDrop_memView : (flowDrop s f).memView = s.memView := by simp [flowDrop]

@[simp] theorem flowStop_memView {reason : Byte} : (flowStop s f reason).memView = s.memView := by
  unfold flowStop
  split <;> simp

@[simp] theorem flowRefuse_memView {f : Nat} {code : Byte} : (flowRefuse s f code).memView = s.memView := (rfl)

@[simp] theorem flowModify_memView {fn : Fn} {goal : FlowPhase} : (flowModify s fn goal).memView = s.memView := by
  simp only [flowModify, flowReg]
  repeat' split
  all_goals simp

@[simp] theorem ceMark_memView : (ceMark s f ce).memView = s.memView := by simp [ceMark]
@[simp] theorem cnpReceive_memView : (cnpReceive s f).memView = s.memView := by simp [cnpReceive]

@[simp] theorem slotFill_memCanon {w : WingIx} {va : Nat} (hmem : MemCanon s.memView) :
    MemCanon (slotFill s w f va data).1.memView := by
  refine List.foldlRecOn _ _ (motive := fun x : State × Bool => MemCanon x.1.memView) hmem fun x hx c _ => ?_
  dsimp only
  repeat' split
  all_goals simp [hx]

@[simp] theorem roceSend_memCanon {hm : HostMem} (hmem : MemCanon s.memView) : MemCanon (roceSend s f ce data hm).memView := by
  simp only [roceSend]
  repeat' split
  all_goals simp [hmem]

@[simp] theorem frameDrop_memView {port : Nat} : (frameDrop s port).memView = s.memView := (rfl)
@[simp] theorem rxFree_memView {free : Nat} : (rxFree s port prio free).memView = s.memView := by simp [rxFree]

theorem rxTake_memView {len : Nat} {t : State} (ht : rxTake s port prio len = some t) : t.memView = s.memView := by
  simp only [rxTake] at ht
  repeat' split at ht
  all_goals simp at ht
  all_goals subst ht
  all_goals simp

@[simp] theorem witnessDatagram_memCanon {b : Bytes} (hmem : MemCanon s.memView) : MemCanon (witnessDatagram s b).memView := by
  unfold witnessDatagram
  repeat' split
  all_goals simp [hmem]

@[simp] theorem roceBad_memView {qpn : Nat} : (roceBad s port qpn ce).memView = s.memView := by
  unfold roceBad
  dsimp only
  split
  · exact frameDrop_memView
  · rw [flowStop_memView, State.emit_memView, ceMark_memView]

@[simp] theorem ethFrame_memCanon {x : EthFrame} (hmem : MemCanon s.memView) : MemCanon (ethFrame s port x).memView := by
  unfold ethFrame
  dsimp only
  repeat' split
  all_goals first | (rename_i htake; simp [rxTake_memView htake, hmem]) | simp [hmem]

end

/-! ### The Vault (15) -/

section
variable {s : State} {vf k : Nat}

@[simp] theorem State.updVlt_memView {f : Vlt → Vlt} : (s.updVlt f).memView = s.memView := (rfl)
@[simp] theorem tdiSet_memView {t : TdiState} : (tdiSet s vf t).memView = s.memView := by simp [tdiSet]

@[simp] theorem tdiUnlock_memCanon (hmem : MemCanon s.memView) : MemCanon (tdiUnlock s vf).memView := by
  simp only [tdiUnlock]
  repeat' split
  all_goals simp [hmem]

@[simp] theorem State.setIde_memView {v : IdeStream} : (s.setIde k v).memView = s.memView := (rfl)
@[simp] theorem ideInsecure_memView : (ideInsecure s k).memView = s.memView := by simp [ideInsecure]
@[simp] theorem zeroizeEngines_memView : (zeroizeEngines s).memView = s.memView := by simp [zeroizeEngines]
@[simp] theorem zeroizeAll_memView : (zeroizeAll s).memView = s.memView := by simp [zeroizeAll]
@[simp] theorem vaultError_memView : (vaultError s).memView = s.memView := by simp [vaultError]

@[simp] theorem regenWings_memCanon (hmem : MemCanon s.memView) : MemCanon (regenWings s).memView :=
  foldl_memCanon (fun _ _ hmem => regenWing_memCanon hmem) hmem

end

/-! ### Events of the vents (17) -/

section
variable {s : State} {c : Cmd} {fn : Fn} {cause : Nat}

@[simp] theorem State.updVnt_memView {f : Vnt → Vnt} : (s.updVnt f).memView = s.memView := (rfl)
@[simp] theorem alarmCreditReturn_memView : (alarmCreditReturn s).memView = s.memView := by simp [alarmCreditReturn]

@[simp] theorem ventConfigure_memView : (ventConfigure s c).1.memView = s.memView := by
  simp only [ventConfigure, checked]
  split <;> simp

@[simp] theorem ventStatus_memView : (ventStatus s c).1.memView = s.memView := by
  simp only [ventStatus, checked]
  split <;> simp

@[simp] theorem ventTraceWindow_memView : (ventTraceWindow s c).1.memView = s.memView := by
  simp only [ventTraceWindow, checked]
  split <;> simp

@[simp] theorem traceEnd_memView {win : W32} {recs : List Bytes} {lost : Bool} :
    (traceEnd s win recs lost).memView = s.memView := by
  unfold traceEnd
  split <;> simp

@[simp] theorem alertPoll_memView : (alertPoll s).memView = s.memView := (rfl)
@[simp] theorem vntHead_memView {k : Nat} {head : W64} : (vntHead s fn k head).memView = s.memView := by simp [vntHead, pf0Reg]

@[simp] theorem vntCtlWrite_memView {v : Nat} : (vntCtlWrite s fn v).memView = s.memView := by
  simp [vntCtlWrite, loggedChange, loggedWrite, pf0Reg]

@[simp] theorem lastWordPut_memView {off : Nat} {b : Bytes} : (lastWordPut s off b).memView = s.memView := (rfl)
@[simp] theorem bothFail_memView : (bothFail s cause).memView = s.memView := by simp [bothFail]
@[simp] theorem ventFail_memView : (ventFail s cause).memView = s.memView := by simp [ventFail]

end

/-! ### Resets (16) -/

section
variable {s : State} {src level : Nat} {b : BlockReset} {c : Cmd} {bad : List (Fin 31)} {fn : Fn} {h : Hub} {x : CuratorStop}
  {imageOk : Bool}

@[simp] theorem countSource_memView : (countSource s src).memView = s.memView := (rfl)

@[simp] theorem cleared_memCanon (hmem : MemCanon s.memView) : MemCanon (cleared s level).memView := by
  refine ⟨?_, rfl⟩
  show (if decide (level = 3) then s.dram else []).wf = true
  split
  · exact hmem.1
  · rfl

@[simp] theorem resetBegins_memCanon (hmem : MemCanon s.memView) : MemCanon (resetBegins s level src).memView := by
  simp [resetBegins, hmem]

@[simp] theorem performLevel_memCanon (hmem : MemCanon s.memView) : MemCanon (performLevel s src level).memView := by
  unfold performLevel
  repeat' split
  all_goals simp [hmem]

@[simp] theorem assertSource_memCanon {asked : Nat} (hmem : MemCanon s.memView) :
    MemCanon (assertSource s src asked).memView := by
  simp [assertSource, hmem]

@[simp] theorem blockBegin_memView : (blockBegin s b).memView = s.memView := by
  simp only [blockBegin]
  rw [State.updRst_memView, ite_memView, State.updWing_eq, State.setWing_memView, ite_self]
  refine foldl_keeps State.memView fun _ _ => ?_
  repeat' split
  all_goals simp

@[simp] theorem blockRelease_memView : (blockRelease s b).memView = s.memView := by simp [blockRelease]

@[simp] theorem wingReset_memView : (wingReset s c).1.memView = s.memView := by
  simp only [wingReset, checked]
  split <;> simp

@[simp] theorem resetRequest_memView : (resetRequest s c).1.memView = s.memView := by
  simp only [resetRequest, checked]
  repeat' split
  all_goals simp

@[simp] theorem afterReset_memCanon (hmem : MemCanon s.memView) : MemCanon (afterReset s c).memView := by
  unfold afterReset
  split <;> simp [hmem]

@[simp] theorem ringsOff_memView {w : Nat} : (ringsOff s w).memView = s.memView := foldl_keeps State.memView fun _ _ => by
  dsimp only
  repeat' split
  all_goals simp

@[simp] theorem blockEffects_memView : (blockEffects s b).memView = s.memView := by
  unfold blockEffects
  split <;> simp

@[simp] theorem blockAnswer_memView {code : Byte} : (blockAnswer s b code).memView = s.memView := by
  unfold blockAnswer
  split <;> simp

@[simp] theorem blockFinish_memCanon {bad : List HcIx} (hmem : MemCanon s.memView) : MemCanon (blockFinish s b bad).memView := by
  simp only [blockFinish]
  repeat' split
  all_goals simp [hmem]

@[simp] theorem blockDups_memView : (blockDups s b).memView = s.memView := (rfl)

@[simp] theorem blockTimeout_memView {s0 : State} : (blockTimeout s0 b).memView = s0.memView := by
  simp only [blockTimeout]
  split <;> simp

@[simp] theorem flrVf_memCanon (hmem : MemCanon s.memView) : MemCanon (flrVf s fn).memView := by
  simp only [flrVf]
  repeat' split
  all_goals simp [hmem]

@[simp] theorem undoRun_memView {hub : Hub} {r : Run} : (undoRun s fn hub r).memView = s.memView := by
  unfold undoRun
  repeat' split
  all_goals simp

@[simp] theorem curatorRestart_memCanon (hmem : MemCanon s.memView) : MemCanon (curatorRestart s h).memView := by
  unfold curatorRestart
  split <;> simp [hmem]

@[simp] theorem curatorMem_memView : (curatorMem s x).memView = s.memView := by
  unfold curatorMem
  split <;> simp

@[simp] theorem curatorWdog_memCanon (hmem : MemCanon s.memView) : MemCanon (curatorWdog s x).memView := by
  simp [curatorWdog, hmem]

@[simp] theorem powerDown_memCanon {latch : Bool} (hmem : MemCanon s.memView) : MemCanon (powerDown s latch).memView := by
  simp [powerDown, hmem]

@[simp] theorem powerOn_memCanon {straps : BitVec 4} (hmem : MemCanon s.memView) : MemCanon (powerOn s straps).memView := by
  unfold powerOn
  split <;> simp [hmem]

@[simp] theorem emberLoss_memView : (emberLoss s).memView = s.memView := (rfl)

@[simp] theorem trainLinks_memView : (trainLinks s level bad).memView = s.memView := by
  simp only [trainLinks]
  split <;> simp

@[simp] theorem freshKeys_memView : (freshKeys s).memView = s.memView := by simp [freshKeys]
@[simp] theorem releaseCore_memView : (releaseCore s level).memView = s.memView := by simp [releaseCore]

@[simp] theorem fallBack_memView {b trial : Bool} {left : SlotPhase} : (fallBack s b trial left).memView = s.memView := by
  simp [fallBack]

@[simp] theorem bootSlots_memView : (bootSlots s imageOk).memView = s.memView := by simp [bootSlots]

@[simp] theorem resetRelease_memView {archiveOk : Bool} : (resetRelease s imageOk archiveOk bad).memView = s.memView := by
  unfold resetRelease
  split <;> simp

@[simp] theorem selfTestEnds_memView {fails : Byte} : (selfTestEnds s fails).memView = s.memView := by simp [selfTestEnds]
@[simp] theorem ventTest_memView {ok : Bool} : (ventTest s ok).memView = s.memView := by simp [ventTest]

@[simp] theorem bootComplete_memView {plinthOk : Bool} {selftest : Byte} {ventOk : Bool} :
    (bootComplete s h plinthOk selftest ventOk).memView = s.memView := by
  simp [bootComplete]

@[simp] theorem rstMapWrite_memView {val : W32} : (rstMapWrite s fn src val).memView = s.memView := by
  simp [rstMapWrite, loggedChange, loggedWrite, pf0Reg]

end

/-! ### Clocks, power and temperature (16) -/

section
variable {s : State} {die c n pkg d t : Nat} {reads : List (Nat × Nat)}

@[simp] theorem clockAlarm_memView {island : Nat} : (clockAlarm s island die).memView = s.memView := by simp [clockAlarm]
@[simp] theorem clockHalves_memView : (clockHalves s c).memView = s.memView := (rfl)
@[simp] theorem failLinks_memView : (failLinks s die).memView = s.memView := by simp [failLinks]

@[simp] theorem clockTrip_memCanon {i : Nat} (hmem : MemCanon s.memView) : MemCanon (clockTrip s i).memView := by
  unfold clockTrip
  repeat' split
  all_goals simp [hmem]

@[simp] theorem cellMove_memView {jump : Bool} : (cellMove s c jump).memView = s.memView := by simp [cellMove]
@[simp] theorem askPower_memView : (askPower s c n).memView = s.memView := (rfl)
@[simp] theorem askTemp_memView : (askTemp s c n).memView = s.memView := (rfl)
@[simp] theorem allDeeper_memView : (allDeeper s).memView = s.memView := by simp [allDeeper]

@[simp] theorem cellPower_memView {p : Nat} : (cellPower s c p).memView = s.memView := by
  simp only [cellPower]
  repeat' split
  all_goals simp

@[simp] theorem packagePower_memView : (packagePower s pkg).memView = s.memView := by simp [packagePower]
@[simp] theorem powerTick_memView {dies : List Nat} : (powerTick s pkg dies).memView = s.memView := by simp [powerTick]
@[simp] theorem gateCell_memView {g : CellGate} : (gateCell s c g).memView = s.memView := (rfl)
@[simp] theorem pf0Sleep_memView : (pf0Sleep s).memView = s.memView := by simp [pf0Sleep]
@[simp] theorem pf0Wake_memView : (pf0Wake s).memView = s.memView := by simp [pf0Wake]

@[simp] theorem cellLost_memCanon (hmem : MemCanon s.memView) : MemCanon (cellLost s c).memView := by
  rw [← keepLeaves_memView (keep := fun x => x.loc != c)] at hmem
  exact ⟨hmem.1, Mem.clear_wf _ _ _ hmem.2⟩

@[simp] theorem idleGate_memCanon (hmem : MemCanon s.memView) : MemCanon (idleGate s c).memView := by
  simp only [idleGate]
  repeat' split
  all_goals simp [hmem]

@[simp] theorem tripCheck_memCanon (hmem : MemCanon s.memView) : MemCanon (tripCheck s reads).memView := by
  simp only [tripCheck]
  repeat' split
  all_goals simp [hmem]

@[simp] theorem dieTemp_memView {sensor : Nat} {hot : Bool} : (dieTemp s d sensor t hot).memView = s.memView := (rfl)

@[simp] theorem cellTemp_memView : (cellTemp s c t).memView = s.memView := by
  simp only [cellTemp]
  repeat' split
  all_goals simp

@[simp] theorem dieSample_memView : (dieSample s d reads).memView = s.memView := by
  simp only [dieSample]
  split <;> simp

@[simp] theorem thermalSample_memCanon (hmem : MemCanon s.memView) : MemCanon (thermalSample s reads).memView := by
  simp only [thermalSample]
  repeat' split
  all_goals simp [hmem]

@[simp] theorem dramTemp_memCanon {k : Nat} {temps : List Nat} (hmem : MemCanon s.memView) :
    MemCanon (dramTemp s k temps).memView := by
  simp only [dramTemp]
  repeat' split
  all_goals simp [hmem]

end

/-! ### SPDM, IDE and TDISP (15) -/

section
variable {s : State} {fn : Fn} {data : Bytes} {code sub k set_ : Nat} {sid : W32}

@[simp] theorem spdmSend_memView : (spdmSend s fn data).memView = s.memView := (rfl)
@[simp] theorem spdmSecure_memView : (spdmSecure s fn data).memView = s.memView := (rfl)
@[simp] theorem spdmError_memView : (spdmError s fn code).memView = s.memView := (rfl)

@[simp] theorem getMeasurements_memView {i : Nat} {nonce : Bytes} : (getMeasurements s fn i nonce).memView = s.memView := by
  unfold getMeasurements
  split <;> simp

@[simp] theorem keyExchange_memView {anchor : BitVec 384} {both : Bool} :
    (keyExchange s fn sid anchor both).memView = s.memView := by
  simp [keyExchange]

@[simp] theorem dropSession_memView : (dropSession s fn sid).memView = s.memView := (rfl)
@[simp] theorem updSession_memView {f : Session → Session} : (updSession s fn sid f).memView = s.memView := (rfl)
@[simp] theorem ideAck_memView {obj stream status : Nat} : (ideAck s fn obj stream status sub).memView = s.memView := (rfl)
@[simp] theorem ideKeyProgram_memView {vf : Fn} : (ideKeyProgram s fn k set_ sub vf).memView = s.memView := (rfl)
@[simp] theorem kSetGo_memView : (kSetGo s fn k set_).memView = s.memView := by simp [kSetGo]
@[simp] theorem tdispSend_memView {body : Bytes} : (tdispSend s fn code body).memView = s.memView := (rfl)
@[simp] theorem tdispError_memView : (tdispError s fn code).memView = s.memView := (rfl)
@[simp] theorem lockInterface_memView : (lockInterface s fn k).memView = s.memView := by simp [lockInterface]

end

/-! ### Commands of the Vault and tamper events (15) -/

section
variable {s : State} {c : Cmd} {w : Nat} {fn : Fn}

@[simp] theorem vaultStatus__memView : (vaultStatus_ s c).1.memView = s.memView := by
  simp only [vaultStatus_, checked]
  split <;> simp

@[simp] theorem vaultSelftest_memView : (vaultSelftest s c).1.memView = s.memView := by
  simp only [vaultSelftest, checked]
  split <;> simp

@[simp] theorem vaultKeyImport_memCanon (hmem : MemCanon s.memView) : MemCanon (vaultKeyImport s c).1.memView := by
  simp only [vaultKeyImport, checked]
  repeat' split
  all_goals simp [hmem]

@[simp] theorem zeroizeWing_memCanon (hmem : MemCanon s.memView) : MemCanon (zeroizeWing s w).memView := by
  simp [zeroizeWing, hmem]

@[simp] theorem zeroizeKeys_memCanon (hmem : MemCanon s.memView) : MemCanon (zeroizeKeys s).memView := by
  have hwings : MemCanon ((List.range 16).foldl zeroizeWing s).memView :=
    foldl_memCanon (fun _ _ hmem => zeroizeWing_memCanon hmem) hmem
  simp only [zeroizeKeys]
  split <;> simpa using hwings

@[simp] theorem zeroizeNow_memCanon {scope : Nat} (hmem : MemCanon s.memView) : MemCanon (zeroizeNow s scope w).memView := by
  unfold zeroizeNow
  split <;> simp [hmem]

@[simp] theorem vaultZeroize_memCanon (hmem : MemCanon s.memView) : MemCanon (vaultZeroize s c).1.memView := by
  simp only [vaultZeroize, checked]
  repeat' split
  all_goals simp [hmem]

@[simp] theorem afterZeroize_memCanon (hmem : MemCanon s.memView) : MemCanon (afterZeroize s c).memView := by
  unfold afterZeroize
  split <;> simp [hmem]

@[simp] theorem zeroizePoll_memCanon (hmem : MemCanon s.memView) : MemCanon (zeroizePoll s).memView := by
  refine foldl_memCanon (fun _ _ hmem => ?_) hmem
  dsimp only
  split <;> simp [hmem]

@[simp] theorem logRead_memView : (logRead s c).1.memView = s.memView := by
  simp only [logRead, checked]
  split <;> simp

@[simp] theorem logExport_memView : (logExport s c).1.memView = s.memView := by
  simp only [logExport, checked]
  split <;> simp

@[simp] theorem logAck_memView : (logAck s c).1.memView = s.memView := by
  simp only [logAck, checked]
  repeat' split
  all_goals simp

@[simp] theorem modeReq_memCanon {non : Bool} {fails : Byte} (hmem : MemCanon s.memView) :
    MemCanon (modeReq s fn non fails).memView := by
  simp only [modeReq, loggedChange, loggedWrite, pf0Reg]
  repeat' split
  all_goals simp [hmem]

@[simp] theorem tamperTrip_memCanon {sensor : Nat} (hmem : MemCanon s.memView) : MemCanon (tamperTrip s sensor).memView := by
  unfold tamperTrip
  split <;> simp [hmem]

@[simp] theorem tamperClear_memView {bits : Nat} : (tamperClear s fn bits).memView = s.memView := by
  simp [tamperClear, loggedChange, loggedWrite, pf0Reg]

end

/-! ### Firmware and test modes (18) -/

section
variable {s : State} {c : Cmd}

@[simp] theorem firmwareLoad_memView : (firmwareLoad s c).1.memView = s.memView := by
  simp only [firmwareLoad, checked]
  repeat' split
  all_goals simp

@[simp] theorem firmwareActivate_memView : (firmwareActivate s c).1.memView = s.memView := by
  simp only [firmwareActivate, checked]
  split <;> simp

@[simp] theorem afterFirmware_memCanon {x1 : Cmd} (hmem : MemCanon s.memView) : MemCanon (afterFirmware s x1).memView := by
  simp [afterFirmware, hmem]

@[simp] theorem commitImage_memView {discard : Bool} : (commitImage s c discard).memView = s.memView := by simp [commitImage]

@[simp] theorem firmwareCommit_memView : (firmwareCommit s c).1.memView = s.memView := by
  simp only [firmwareCommit, checked]
  split <;> simp

@[simp] theorem rollback_memView : (rollback s c).1.memView = s.memView := by
  simp only [rollback, checked]
  split <;> simp

@[simp] theorem marginRun_memView : (marginRun s c).1.memView = s.memView := by
  simp only [marginRun, checked]
  split <;> simp

@[simp] theorem marginApply_memView : (marginApply s c).1.memView = s.memView := by
  simp only [marginApply, checked]
  split <;> simp

@[simp] theorem repairQuery_memView : (repairQuery s c).1.memView = s.memView := by
  simp only [repairQuery, checked]
  split <;> simp

@[simp] theorem moveRow_memView {k pc bank row : Nat} : (moveRow s k pc bank row).memView = s.memView := by simp [moveRow]

@[simp] theorem repairRow_memView : (repairRow s c).1.memView = s.memView := by
  simp only [repairRow, checked]
  split <;> simp

@[simp] theorem repairLane_memView : (repairLane s c).1.memView = s.memView := by
  simp only [repairLane, checked]
  split <;> simp

@[simp] theorem testCtlWrite_memCanon {fn : Fn} {v : Nat} (hmem : MemCanon s.memView) :
    MemCanon (testCtlWrite s fn v).memView := by
  simp only [testCtlWrite, loggedChange, loggedWrite, pf0Reg]
  repeat' split
  all_goals simp [hmem]

@[simp] theorem patternDone_memCanon {bad : List Nat} (hmem : MemCanon s.memView) : MemCanon (patternDone s bad).memView := by
  unfold patternDone
  split
  · exact hmem
  · dsimp only
    rw [foldl_keeps State.memView fun _ _ => reportUE_memView]
    exact ⟨Tbl.filter_wf 0#8 _ _ hmem.1, hmem.2⟩

@[simp] theorem mbistDone_memCanon {bad : List (Fin 112 × Nat)} (hmem : MemCanon s.memView) :
    MemCanon (mbistDone s bad).memView := by
  unfold mbistDone
  split
  · exact hmem
  · dsimp only
    rw [foldl_keeps State.memView fun _ _ => by simp]
    exact ⟨hmem.1, rfl⟩

end

/-! ### SPARE_SWAP and QUARANTINE_CLEAR (12) -/

section
variable {s : State} {c : Cmd}

@[simp] theorem swapNow_memView {u : Nat} {inn : Bool} : (swapNow s u inn).memView = s.memView := by simp [swapNow]

@[simp] theorem spareSwap_memView : (spareSwap s c).1.memView = s.memView := by
  simp only [spareSwap, checked]
  split <;> simp

@[simp] theorem quarantineClear_memView : (quarantineClear s c).1.memView = s.memView := by
  simp only [quarantineClear, checked]
  split <;> simp

end

/-! ### Registers of BAR0 -/

section
variable {s : State} {fn : Fn}

@[simp] theorem countNonTee_memView : (countNonTee s fn).memView = s.memView := by
  unfold countNonTee
  split <;> simp

@[simp] theorem bar0Read_memView {off : Nat} {wide tee : Bool} : (bar0Read s fn off wide tee).memView = s.memView := by
  unfold bar0Read
  repeat' split
  all_goals simp

end

/-! ### Mailboxes (03 R79 to R83) -/

section
variable {op : Nat} {s : State} {c : Cmd} {fn : Fn} {hub : Hub}

@[simp] theorem scpHandler1_memCanon (hmem : MemCanon s.memView) : MemCanon (scpHandler1 op s c).1.memView := by
  unfold scpHandler1
  split <;> simp [hmem]

@[simp] theorem scpHandler2_memCanon (hmem : MemCanon s.memView) : MemCanon (scpHandler2 op s c).1.memView := by
  unfold scpHandler2
  split <;> simp [hmem]

@[simp] theorem scpHandler_memCanon (hmem : MemCanon s.memView) : MemCanon (scpHandler op s c).1.memView := by
  unfold scpHandler
  split <;> simp [hmem]

@[simp] theorem scpAfter_memCanon {x1 : State} {x2 : Cmd} (hmem : MemCanon x1.memView) :
    MemCanon (scpAfter op x1 x2).memView := by
  unfold scpAfter
  split <;> simp [hmem]

@[simp] theorem mbxGo_memCanon (hmem : MemCanon s.memView) : MemCanon (mbxGo s fn hub).memView := by
  simp only [mbxGo, scpSubmit, scpSubmitThen]
  repeat' split
  all_goals simp [hmem]

@[simp] theorem commandTimeout_memCanon (hmem : MemCanon s.memView) : MemCanon (commandTimeout s fn hub).memView := by
  unfold commandTimeout
  split <;> simp [hmem]

end

/-! ### Package pins, JTAG and the sideband (19) -/

section
variable {s : State}

@[simp] theorem sidebandRead_memView {i : Nat} : (sidebandRead s i).memView = s.memView := by
  unfold sidebandRead
  split <;> simp

@[simp] theorem laserProbe_memView {n : Hub} {fiber : Nat} {locked : Bool} :
    (laserProbe s n fiber locked).memView = s.memView := by
  simp [laserProbe]

@[simp] theorem State.updTap_memView {f : Tap → Tap} : (s.updTap f).memView = s.memView := (rfl)
@[simp] theorem tapBypass_memView {ir : JtagIr} : (tapBypass s ir).memView = s.memView := (rfl)
@[simp] theorem jtagBypass_memView {tdi : Bool} : (jtagBypass s tdi).memView = s.memView := (rfl)
@[simp] theorem jtagSamplePreload_memView {preload : List Bool} : (jtagSamplePreload s preload).memView = s.memView := (rfl)
@[simp] theorem jtagExtest_memView : (jtagExtest s).memView = s.memView := by simp [jtagExtest]
@[simp] theorem jtagClamp_memView : (jtagClamp s).memView = s.memView := by simp [jtagClamp]
@[simp] theorem jtagHighz_memView : (jtagHighz s).memView = s.memView := by simp [jtagHighz]

end

/-! ### Register writes -/

section
variable {s : State} {fn : Fn} {off k width old new v o w c : Nat} {wide : Bool}

@[simp] theorem peerPut_memView {p : Peer} : (peerPut s fn off k width old new p).memView = s.memView := by
  simp [peerPut, loggedChange, loggedWrite]

@[simp] theorem glbPut_memView : (glbPut s fn off v).memView = s.memView := by simp [glbPut]

@[simp] theorem glbPut64_memView : (glbPut64 s fn off v).memView = s.memView := by
  unfold glbPut64
  split <;> simp

@[simp] theorem mbxPut_memCanon (hmem : MemCanon s.memView) : MemCanon (mbxPut s fn o v).memView := by
  simp only [mbxPut]
  repeat' split
  all_goals simp [hmem]

@[simp] theorem quePutCfg_memView {get : QueRegs → Nat} {f : QueRegs → QueRegs} :
    (quePutCfg s fn o width get f).memView = s.memView := by
  simp only [quePutCfg, queReg]
  repeat' split
  all_goals simp

@[simp] theorem quePutCtl_memView : (quePutCtl s fn v).memView = s.memView := by
  simp only [quePutCtl, queReg]
  repeat' split
  all_goals simp

@[simp] theorem classPut_memView : (classPut s fn w c o v).memView = s.memView := by simp [classPut, loggedChange, loggedWrite]

@[simp] theorem queSelPut_memView {slot : Nat} : (queSelPut s fn slot).memView = s.memView := by
  unfold queSelPut
  split <;> simp

@[simp] theorem quePut_memView : (quePut s fn o v).memView = s.memView := by
  simp only [quePut, queReg]
  repeat' split
  all_goals simp

@[simp] theorem quePut64_memView : (quePut64 s fn o v).memView = s.memView := by simp [quePut64]

@[simp] theorem shadowPut_memView {i : Nat} : (shadowPut s fn w i off new).memView = s.memView := by
  simp only [shadowPut, loggedChange, loggedWrite]
  split <;> simp

@[simp] theorem wngPut_memView : (wngPut s fn o v).memView = s.memView := by
  unfold wngPut
  repeat' split
  all_goals simp

@[simp] theorem xltPut_memView : (xltPut s fn o v).memView = s.memView := by simp [xltPut, loggedChange, loggedWrite, setReg]
@[simp] theorem memPut_memView : (memPut s fn o v).memView = s.memView := by simp [memPut, loggedChange, loggedWrite, setReg]
@[simp] theorem stmPut_memView : (stmPut s fn o v).memView = s.memView := by simp [stmPut, loggedChange, loggedWrite]
@[simp] theorem catPutCtl_memView : (catPutCtl s fn w c v).memView = s.memView := by simp [catPutCtl]

@[simp] theorem catPutCfg_memView {get : Cat → Nat} {f : Cat → Cat} :
    (catPutCfg s fn w c o width get f).memView = s.memView := by
  simp [catPutCfg]

@[simp] theorem catPut_memView : (catPut s fn o v).memView = s.memView := by
  simp only [catPut, loggedChange, loggedWrite, setReg]
  repeat' split
  all_goals simp

@[simp] theorem catPut64_memView : (catPut64 s fn o v).memView = s.memView := by simp [catPut64]

@[simp] theorem flowPut_memView {f : Flow → Flow} : (flowPut s fn o width old new k f).memView = s.memView := by
  simp [flowPut, loggedChange, loggedWrite]

@[simp] theorem flowCtl_memView : (flowCtl s fn v).memView = s.memView := by
  simp only [flowCtl, flowReg]
  repeat' split
  all_goals simp

@[simp] theorem flowPut32_memView : (flowPut32 s fn o v).memView = s.memView := by
  simp only [flowPut32, flowReg]
  repeat' split
  all_goals simp

@[simp] theorem flowPut64_memView : (flowPut64 s fn o v).memView = s.memView := by
  simp only [flowPut64, flowReg]
  repeat' split
  all_goals simp

@[simp] theorem portPut_memView : (portPut s fn o v).memView = s.memView := by
  simp only [portPut, loggedChange, loggedWrite]
  split <;> simp

@[simp] theorem netPut_memView : (netPut s fn o v).memView = s.memView := by simp [netPut]
@[simp] theorem netPut64_memView : (netPut64 s fn o v).memView = s.memView := by simp [netPut64, loggedChange, loggedWrite]
@[simp] theorem anchorPut_memView : (anchorPut s fn o v).memView = s.memView := by simp [anchorPut, loggedChange, loggedWrite]

@[simp] theorem vltPut_memCanon (hmem : MemCanon s.memView) : MemCanon (vltPut s fn o v).memView := by
  unfold vltPut
  repeat' split
  all_goals simp [hmem]

@[simp] theorem rstPut_memCanon (hmem : MemCanon s.memView) : MemCanon (rstPut s fn o v).memView := by
  simp only [rstPut, loggedChange, loggedWrite, setReg]
  repeat' split
  all_goals simp [hmem]

@[simp] theorem vntPut64_memView : (vntPut64 s fn o v).memView = s.memView := by simp [vntPut64]

@[simp] theorem intPut_memView : (intPut s fn o v).memView = s.memView := by
  unfold intPut
  repeat' split
  all_goals simp

@[simp] theorem bar0Put_memCanon (hmem : MemCanon s.memView) : MemCanon (bar0Put s fn off v).memView := by
  unfold bar0Put
  repeat' split
  all_goals simp [hmem]

@[simp] theorem bar0Put64_memView : (bar0Put64 s fn off v).memView = s.memView := by
  unfold bar0Put64
  split <;> simp

@[simp] theorem bar0Write_memCanon (hmem : MemCanon s.memView) : MemCanon (bar0Write s fn off v wide).memView := by
  unfold bar0Write
  repeat' split
  all_goals simp [hmem]

@[simp] theorem registerWrite_memCanon {tee : Bool} (hmem : MemCanon s.memView) :
    MemCanon (registerWrite s fn off wide v tee).memView := by
  unfold registerWrite
  repeat' split
  all_goals simp [hmem]

end

/-! ### Arbiter rounds (05 R166) -/

section
variable {s : State} {a : ArbIx}

@[simp] theorem endedBurst_memCanon (hmem : MemCanon s.memView) : MemCanon (endedBurst s a).memView := by
  unfold endedBurst
  split <;> simp [hmem]

@[simp] theorem arbiterRound_memCanon (hmem : MemCanon s.memView) : MemCanon (arbiterRound s a).memView := by
  unfold arbiterRound
  split <;> simp [hmem]

end

/-! ### Outcomes -/

/-- An outcome whose next state, where it has one, holds its memories in canonical form. -/
def OutcomeCanon (o : Host.Outcome State Fault Refusal) : Prop := ∀ t, o = .next t → MemCanon t.memView

section
variable {s t : State}

theorem next_canon (ht : MemCanon t.memView) : OutcomeCanon (.next t) := fun _ heq => Host.Outcome.next.inj heq ▸ ht

theorem next_canon_of_memView (ht : t.memView = s.memView) (hmem : MemCanon s.memView) : OutcomeCanon (.next t) :=
  next_canon (ht ▸ hmem)

theorem fault_canon (f : Fault) : OutcomeCanon (.fault f) := fun _ heq => nomatch heq

/-- A line command stops at an address without DRAM. -/
theorem ite_fault_canon {c : Prop} [Decidable c] {f : Fault} (ht : MemCanon t.memView) :
    OutcomeCanon (if c then .fault f else .next t) := by
  split
  · exact fault_canon f
  · exact next_canon ht

end

section
variable {s : State} {d : Nat} {i : Instr} {f : State → State}

/-- An Ozol row does its own part, after what the docent's SRAMs answer, or nothing. -/
theorem ozRun_canon (hf : ∀ {t}, MemCanon t.memView → MemCanon (f t).memView) (hmem : MemCanon s.memView) :
    OutcomeCanon (ozRun s i d f) := by
  have hupset : MemCanon (docUpset s d).1.memView := by simpa using hmem
  refine next_canon ?_
  split
  · exact hf hmem
  · split
    · dsimp only
      split
      · exact hf hupset
      · exact hupset
    · exact hmem

theorem ozRun_canon_of_memView (hf : ∀ {t}, (f t).memView = t.memView) (hmem : MemCanon s.memView) :
    OutcomeCanon (ozRun s i d f) :=
  ozRun_canon (fun ht => hf.symm ▸ ht) hmem

end

section
variable {s : State} {c : Cmd} {major minor length op : Nat} {reserved : Bool} {h : Handler} {after : State → Cmd → State}
  {fn : Fn} {hub : Hub} {tag : W32} {wing : Byte} {payload : Bytes}

/-- A command's own part is the only one of its submission that can reach the memories. -/
theorem scpSubmit_memCanon (hh : ∀ {s c}, MemCanon s.memView → MemCanon (h s c).1.memView) (hmem : MemCanon s.memView) :
    MemCanon (scpSubmit s c major minor reserved length h).memView := by
  have hown := hh (c := c) hmem
  simp only [scpSubmit]
  repeat' split
  all_goals simp [hmem, hown]

theorem scpExec_canon (hh : ∀ {s c}, MemCanon s.memView → MemCanon (h s c).1.memView) (hmem : MemCanon s.memView) :
    OutcomeCanon (scpExec op h fn hub tag wing payload s) := next_canon (scpSubmit_memCanon hh hmem)

theorem scpExec_canon_of_memView (hh : ∀ {s c}, (h s c).1.memView = s.memView) (hmem : MemCanon s.memView) :
    OutcomeCanon (scpExec op h fn hub tag wing payload s) := scpExec_canon (fun hmem => hh.symm ▸ hmem) hmem

theorem scpExecThen_canon (hh : ∀ {s c}, MemCanon s.memView → MemCanon (h s c).1.memView)
    (ha : ∀ {s c}, MemCanon s.memView → MemCanon (after s c).memView) (hmem : MemCanon s.memView) :
    OutcomeCanon (scpExecThen op h after fn hub tag wing payload s) := by
  refine next_canon ?_
  unfold scpSubmitThen
  dsimp only
  split
  · exact ha (scpSubmit_memCanon hh hmem)
  · exact scpSubmit_memCanon hh hmem

end

/-- No command breaks the canonical form: one arm per command, by the law of its meaning. -/
theorem exec_canon {s : State} (hmem : MemCanon s.memView) : (i : Instr) → OutcomeCanon (exec i s)
  | .registerWrite .. => next_canon (registerWrite_memCanon hmem)
  | .bar0Read .. => next_canon_of_memView bar0Read_memView hmem
  | .fabricPacketReceive .. => next_canon_of_memView fabricPacket_memView hmem
  | .staleBindingReply .. => next_canon_of_memView staleReply_memView hmem
  | .laneFault .. => next_canon_of_memView laneFault_memView hmem
  | .spareSubstitution .. => next_canon_of_memView (by simp) hmem
  | .wingRebind .. => scpExec_canon_of_memView wingRebind_memView hmem
  | .rebindDrainDone .. => next_canon (by simp [hmem])
  | .drainTimeout .. => next_canon (by repeat' split; all_goals simp [hmem])
  | .wingGrant .. => scpExec_canon wingGrant_memCanon hmem
  | .wingQuery .. => scpExec_canon_of_memView wingQuery_memView hmem
  | .violationSummary .. => next_canon_of_memView violationSummary_memView hmem
  | .wingEnable .. => next_canon_of_memView wngCtl_memView hmem
  | .wingApply .. => next_canon_of_memView (by simp) hmem
  | .wingDisable .. => next_canon_of_memView wngCtl_memView hmem
  | .wingDrainDone .. => next_canon_of_memView (by simp) hmem
  | .wingCheckDone .. => next_canon_of_memView wingCheckDone_memView hmem
  | .mbxGo .. => next_canon (mbxGo_memCanon hmem)
  | .commandTimeout .. => next_canon (commandTimeout_memCanon hmem)
  | .hello .. => scpExec_canon_of_memView hello_memView hmem
  | .authQuery .. => scpExec_canon_of_memView authQuery_memView hmem
  | .authHandover .. => scpExec_canon_of_memView authHandover_memView hmem
  | .heartbeatTimer .. => next_canon_of_memView heartbeatTimer_memView hmem
  | .heartbeatReceive .. => next_canon_of_memView heartbeatReceive_memView hmem
  | .heartbeatSlot .. => next_canon_of_memView heartbeatSlot_memView hmem
  | .beatConfirmTimer .. => next_canon_of_memView beatConfirm_memView hmem
  | .termAdvanceAck .. => next_canon (by split <;> simp [hmem])
  | .termAdvanceTimeout .. => next_canon_of_memView termAdvanceTimeout_memView hmem
  | .rebuildDone .. => next_canon (rebuildDone_memCanon hmem)
  | .termStaleReply .. => next_canon_of_memView (by simp) hmem
  | .fenceDone .. => next_canon_of_memView fenceDone_memView hmem
  | .noAuthorityTimeout .. => next_canon_of_memView (by simp) hmem
  | .queSqDb .. => next_canon_of_memView queSqDb_memView hmem
  | .queCqDb .. => next_canon_of_memView queCqDb_memView hmem
  | .queSelWrite .. => next_canon (by repeat' split; all_goals simp [hmem])
  | .queueEnable .. => next_canon_of_memView queueEnable_memView hmem
  | .queueDisable .. => next_canon_of_memView queueDisable_memView hmem
  | .queueDrainDone .. => next_canon_of_memView (by simp) hmem
  | .queueResume .. => next_canon_of_memView queueResume_memView hmem
  | .queueEnableEvalDone .. => next_canon_of_memView queueEvalDone_memView hmem
  | .entryFetch .. => next_canon_of_memView entryFetch_memView hmem
  | .imageValidated .. => next_canon_of_memView imageValidated_memView hmem
  | .requestDispatch .. => next_canon_of_memView requestDispatch_memView hmem
  | .requestEnd .. => next_canon_of_memView requestEnd_memView hmem
  | .completionWrite .. => next_canon_of_memView completionWrite_memView hmem
  | .irqCoalesceTimeout .. => next_canon (by split <;> simp [hmem])
  | .replyReadReturn .. => next_canon_of_memView replyReadReturn_memView hmem
  | .fenceTimeout .. => next_canon (by split <;> simp [hmem])
  | .docentLoadDone .. => next_canon_of_memView docentLoadDone_memView hmem
  | .ozNop .. => ozRun_canon_of_memView docNext_memView hmem
  | .ozEnd .. => ozRun_canon_of_memView ozEnd_memView hmem
  | .ozSync .. => ozRun_canon_of_memView sync_memView hmem
  | .ozBarrier .. => ozRun_canon_of_memView ozBarrier_memView hmem
  | .ozPrio .. => ozRun_canon_of_memView ozPrio_memView hmem
  | .ozAdd .. => ozRun_canon_of_memView ozAlu_memView hmem
  | .ozSub .. => ozRun_canon_of_memView ozAlu_memView hmem
  | .ozAnd .. => ozRun_canon_of_memView ozAlu_memView hmem
  | .ozOr .. => ozRun_canon_of_memView ozAlu_memView hmem
  | .ozXor .. => ozRun_canon_of_memView ozAlu_memView hmem
  | .ozShl .. => ozRun_canon_of_memView ozAlu_memView hmem
  | .ozShr .. => ozRun_canon_of_memView ozAlu_memView hmem
  | .ozSar .. => ozRun_canon_of_memView ozAlu_memView hmem
  | .ozMul .. => ozRun_canon_of_memView ozAlu_memView hmem
  | .ozMinu .. => ozRun_canon_of_memView ozAlu_memView hmem
  | .ozMaxu .. => ozRun_canon_of_memView ozAlu_memView hmem
  | .ozSltu .. => ozRun_canon_of_memView ozAlu_memView hmem
  | .ozSlt .. => ozRun_canon_of_memView ozAlu_memView hmem
  | .ozAddi .. => ozRun_canon_of_memView ozAluI_memView hmem
  | .ozAndi .. => ozRun_canon_of_memView ozAluI_memView hmem
  | .ozOri .. => ozRun_canon_of_memView ozAluI_memView hmem
  | .ozXori .. => ozRun_canon_of_memView ozAluI_memView hmem
  | .ozShli .. => ozRun_canon_of_memView ozAluI_memView hmem
  | .ozShri .. => ozRun_canon_of_memView ozAluI_memView hmem
  | .ozSari .. => ozRun_canon_of_memView ozAluI_memView hmem
  | .ozMovhi .. => ozRun_canon_of_memView ozAluI_memView hmem
  | .ozMovi .. => ozRun_canon_of_memView docResult_memView hmem
  | .ozJmp .. => ozRun_canon_of_memView docGoto_memView hmem
  | .ozBeq .. => ozRun_canon_of_memView ozBranch_memView hmem
  | .ozBne .. => ozRun_canon_of_memView ozBranch_memView hmem
  | .ozBltu .. => ozRun_canon_of_memView ozBranch_memView hmem
  | .ozBgeu .. => ozRun_canon_of_memView ozBranch_memView hmem
  | .ozBlt .. => ozRun_canon_of_memView ozBranch_memView hmem
  | .ozBge .. => ozRun_canon_of_memView ozBranch_memView hmem
  | .ozLoop .. => ozRun_canon_of_memView ozLoop_memView hmem
  | .ozCall .. => ozRun_canon_of_memView ozCall_memView hmem
  | .ozRet .. => ozRun_canon_of_memView ozRet_memView hmem
  | .ozJr .. => ozRun_canon_of_memView ozJr_memView hmem
  | .ozLda .. => ozRun_canon_of_memView ozLda_memView hmem
  | .ldaDataReturn .. => next_canon_of_memView ldaReturn_memView hmem
  | .ozLdc .. => ozRun_canon_of_memView ozLdc_memView hmem
  | .ozLds .. => ozRun_canon_of_memView ozLds_memView hmem
  | .ozSts .. => ozRun_canon ozSts_memCanon hmem
  | .ozRdsr .. => ozRun_canon_of_memView
      (f := fun t => docResult t _ _ (BitVec.ofNat 64 (specialValue t _ _))) docResult_memView hmem
  | .ozDld .. => ozRun_canon_of_memView ozDld_memView hmem
  | .ozDset .. => ozRun_canon_of_memView ozDset_memView hmem
  | .ozMmul .. => ozRun_canon_of_memView ozMmul_memView hmem
  | .ozVec .. => ozRun_canon_of_memView ozLaunchOn_memView hmem
  | .ozRed .. => ozRun_canon_of_memView ozLaunchOn_memView hmem
  | .ozStrm .. => ozRun_canon_of_memView
      (f := fun t => ozLaunchOn _ _ _ (.strm (docHalf t _ * 8 + _)) strmCheck t) ozLaunchOn_memView hmem
  | .ozGpeb .. => ozRun_canon ozGpeb_memCanon hmem
  | .ozWait .. => ozRun_canon_of_memView ozWait_memView hmem
  | .ozWaitall .. => ozRun_canon_of_memView ozWaitall_memView hmem
  | .ozPoll .. => ozRun_canon_of_memView ozPoll_memView hmem
  | .docentFaultReport .. => next_canon_of_memView docentFaultReport_memView hmem
  | .watchdogExpiry .. => next_canon (by split <;> simp [hmem])
  | .arbiterRound .. => next_canon (arbiterRound_memCanon hmem)
  | .catTableCreate .. => scpExec_canon_of_memView catTableCreate_memView hmem
  | .tableCreateClearDone .. => next_canon (tableCreateClearDone_memCanon hmem)
  | .catTableDelete .. => scpExec_canon_of_memView catTableDelete_memView hmem
  | .tableStorageClear .. => next_canon_of_memView tableStorageClear_memView hmem
  | .tableStorageClearDone .. => next_canon (tableStorageClearDone_memCanon hmem)
  | .catPin .. => scpExec_canon_of_memView catPin_memView hmem
  | .catUnpin .. => scpExec_canon_of_memView catUnpin_memView hmem
  | .gpeRowReadDone .. => next_canon_of_memView gpeRowRead_memView hmem
  | .partialReceive .. => next_canon_of_memView partialReceive_memView hmem
  | .gpeBatchDone .. => next_canon (gpeBatchDone_memCanon hmem)
  | .catUpdEnable .. => next_canon_of_memView catUpdEnable_memView hmem
  | .catUpdDisable .. => next_canon_of_memView catUpdDisable_memView hmem
  | .catUpdResume .. => next_canon_of_memView catUpdResume_memView hmem
  | .catUpdTail .. => next_canon_of_memView catUpdTail_memView hmem
  | .updateRecordApply .. => next_canon (updateRecordApply_memCanon hmem)
  | .updateRecordDone .. => next_canon_of_memView updateRecordDone_memView hmem
  | .versionReclaim .. => next_canon (versionReclaim_memCanon hmem)
  | .epochOpen .. => scpExec_canon_of_memView epochOpen_memView hmem
  | .epochCommit .. => scpExec_canon_of_memView epochCommit_memView hmem
  | .epochCommitTimeout .. => next_canon_of_memView commitEnd_memView hmem
  | .epochRetire .. => scpExec_canon_of_memView epochRetire_memView hmem
  | .epochRetireTimeout .. => next_canon (by split <;> simp [hmem])
  | .discardRestoreDone .. => next_canon (discardRestoreDone_memCanon hmem)
  | .stallForcedRetire .. => next_canon_of_memView stallForcedRetire_memView hmem
  | .pairRecordReceive .. => next_canon (pairRecordReceive_memCanon hmem)
  | .pairRecordAck .. => next_canon (pairRecordAck_memCanon hmem)
  | .partnerCommitRequest .. => next_canon_of_memView partnerCommitRequest_memView hmem
  | .partnerCommitReply .. => next_canon_of_memView (by simp) hmem
  | .matrixDescriptorDone .. => next_canon (matrixDone_memCanon hmem)
  | .duplicateVerdict .. => next_canon_of_memView duplicateVerdict_memView hmem
  | .mismatchDecay .. => next_canon_of_memView (by simp) hmem
  | .vectorDescriptorDone .. => next_canon (vectorDone_memCanon hmem)
  | .reductionDescriptorDone .. => next_canon (reductionDone_memCanon hmem)
  | .tileDelivered .. => next_canon (tileDelivered_memCanon hmem)
  | .streamDescriptorDone .. => next_canon (streamDone_memCanon hmem)
  | .streamPageFault .. => next_canon (streamPageFault_memCanon hmem)
  | .scheduleIntervalExpiry .. => next_canon (by split <;> simp [hmem])
  | .wcetExpiry .. => by
      refine next_canon ?_
      repeat' split
      all_goals simp [hmem]
  | .bubbleStartupTimeout .. => next_canon_of_memView (by simp) hmem
  | .checkpointStopTimeout .. => next_canon (by split <;> simp [hmem])
  | .checkpointCopyDone .. => next_canon_of_memView checkpointCopyDone_memView hmem
  | .checkpointResume .. => next_canon (checkpointResume_memCanon hmem)
  | .dramTempSample .. => next_canon (dramTemp_memCanon hmem)
  | .bankRefresh .. => next_canon_of_memView (by simp) hmem
  | .dramLineRead .. => ite_fault_canon (by simp [hmem])
  | .dramLineWrite .. => ite_fault_canon (dramLineWrite_memCanon hmem)
  | .rolloverKeyLoaded .. => next_canon (rolloverKeyLoaded_memCanon hmem)
  | .rolloverKeyTimeout .. => next_canon_of_memView (by simp) hmem
  | .rolloverSweepDone .. => next_canon_of_memView rolloverSweepDone_memView hmem
  | .patrolScrub .. => ite_fault_canon (by simp [hmem])
  | .translationSync .. => scpExec_canon_of_memView translationSync_memView hmem
  | .walkComplete .. => next_canon (by split <;> simp [hmem])
  | .atsInvalidate .. => next_canon_of_memView atsInvalidate_memView hmem
  | .atsTranslationCompletion .. => next_canon_of_memView atsCompletion_memView hmem
  | .hostErrorCompletion .. => next_canon_of_memView hostError_memView hmem
  | .priResponse .. => next_canon_of_memView priResponse_memView hmem
  | .priTimeout .. => next_canon_of_memView priTimeout_memView hmem
  | .bar2Access .. => next_canon (bar2Access_memCanon hmem)
  | .spareSwap .. => scpExec_canon_of_memView spareSwap_memView hmem
  | .quarantineClear .. => scpExec_canon_of_memView quarantineClear_memView hmem
  | .pairConfigure .. => scpExec_canon_of_memView pairConfigure_memView hmem
  | .pairLease .. => scpExec_canon_of_memView pairLease_memView hmem
  | .pairStatus .. => scpExec_canon_of_memView pairStatus_memView hmem
  | .pairResync .. => scpExec_canon_of_memView pairResync_memView hmem
  | .pairReset .. => scpExec_canon_of_memView pairReset_memView hmem
  | .pairResetReceive .. => next_canon (by split <;> simp [hmem])
  | .ranriFrameReceive .. => next_canon_of_memView ranriFrame_memView hmem
  | .keepaliveTick .. => next_canon_of_memView keepaliveTick_memView hmem
  | .laneFailure .. => next_canon_of_memView laneFailure_memView hmem
  | .linkDieDown .. => next_canon_of_memView linkDieDown_memView hmem
  | .trainingRetryTimer .. => next_canon_of_memView (by simp) hmem
  | .linkTrained .. => next_canon_of_memView linkTrained_memView hmem
  | .timeOffsetMeasure .. => next_canon_of_memView timeOffset_memView hmem
  | .epochReportTick .. => next_canon_of_memView epochReport_memView hmem
  | .epochReportReceive .. => next_canon_of_memView (by simp) hmem
  | .partnerLookupReceive .. => next_canon_of_memView partnerLookup_memView hmem
  | .remoteBatchTimeout .. => next_canon_of_memView remoteTimeout_memView hmem
  | .leaseMessageReceive .. => next_canon_of_memView leaseMessage_memView hmem
  | .leaseExpiry .. => next_canon_of_memView (by simp) hmem
  | .witnessRenewTimer .. => next_canon_of_memView (by simp) hmem
  | .claimDelayExpiry .. => next_canon_of_memView (by simp) hmem
  | .claimTimer .. => next_canon_of_memView (by simp) hmem
  | .witnessGrant .. => next_canon (witnessGrant_memCanon hmem)
  | .witnessRefuse .. => next_canon_of_memView witnessRefuse_memView hmem
  | .partnerTableRequest .. => next_canon_of_memView partnerTableRequest_memView hmem
  | .partnerTableReply .. => next_canon_of_memView partnerTableReply_memView hmem
  | .resyncRowReceive .. => next_canon (resyncReceive_memCanon hmem)
  | .resyncDone .. => next_canon_of_memView resyncDone_memView hmem
  | .hostPortMove .. => scpExec_canon_of_memView hostPortMove_memView hmem
  | .hostPortMoveDrained .. => next_canon_of_memView hostPortMoved_memView hmem
  | .hostLinkDown .. => next_canon_of_memView hostLinkDown_memView hmem
  | .hostLinkUp .. => next_canon_of_memView hostLinkUp_memView hmem
  | .standbyPortReset .. => next_canon_of_memView standbyReset_memView hmem
  | .msixUnmask .. => next_canon_of_memView (by simp) hmem
  | .pcieConfigWrite .. => next_canon_of_memView pcieConfigWrite_memView hmem
  | .doeDiscovery .. => next_canon_of_memView doeDiscovery_memView hmem
  | .doeAbort .. => next_canon_of_memView (by simp) hmem
  | .doeUnsupportedObject .. => next_canon_of_memView (by simp) hmem
  | .ethFrameReceive .. => next_canon (ethFrame_memCanon hmem)
  | .roceSendReceive .. => next_canon (roceSend_memCanon hmem)
  | .roceAckReceive .. => next_canon_of_memView (by simp) hmem
  | .roceRetryTimeout .. => next_canon_of_memView (by simp) hmem
  | .cnpReceive .. => next_canon_of_memView cnpReceive_memView hmem
  | .rateIncreaseTimer .. => next_canon_of_memView (by simp) hmem
  | .flowModifyInit .. => next_canon_of_memView flowModify_memView hmem
  | .flowModifyRtr .. => next_canon_of_memView flowModify_memView hmem
  | .flowModifyRts .. => next_canon_of_memView flowModify_memView hmem
  | .flowModifyReset .. => next_canon_of_memView flowModify_memView hmem
  | .flowModifyError .. => next_canon_of_memView flowModify_memView hmem
  | .ethPcsLockChange .. => next_canon_of_memView (by simp) hmem
  | .getVersion .. => next_canon_of_memView (by simp [spdmTake]) hmem
  | .getCapabilities .. => next_canon_of_memView (by simp [spdmTake]) hmem
  | .negotiateAlgorithms .. => next_canon_of_memView (by simp [spdmTake]) hmem
  | .getDigests .. => next_canon_of_memView (by simp [spdmAfter, spdmTake]) hmem
  | .getCertificate .. => next_canon_of_memView (by simp [spdmAfter, spdmTake]) hmem
  | .challenge .. => next_canon_of_memView (by simp [spdmAfter, spdmTake]) hmem
  | .getMeasurements .. => next_canon_of_memView (by simp [spdmAfter, spdmTake]) hmem
  | .keyExchange .. => next_canon_of_memView (by simp [spdmAfter, spdmTake]) hmem
  | .finish .. => by
      refine next_canon ?_
      simp only [spdmAfter, spdmTake]
      repeat' split
      all_goals simp [hmem]
  | .spdmHeartbeat .. => by
      refine next_canon ?_
      simp only [inSession, spdmAfter, spdmTake]
      repeat' split
      all_goals simp [hmem]
  | .keyUpdate .. => by
      refine next_canon ?_
      simp only [inSession, spdmAfter, spdmTake]
      repeat' split
      all_goals simp [hmem]
  | .endSession .. => by
      refine next_canon ?_
      simp only [inSession, spdmAfter, spdmTake]
      repeat' split
      all_goals simp [hmem]
  | .ideKeyProgram .. => next_canon_of_memView (by simp [ideKm, spdmAfter, spdmTake]) hmem
  | .kSetGo .. => next_canon_of_memView (by simp [ideKm, spdmAfter, spdmTake]) hmem
  | .ideIntegrityFailure .. => next_canon_of_memView (by simp) hmem
  | .lockInterface .. => next_canon_of_memView (by simp [spdmAfter, spdmTake, tdisp]) hmem
  | .startInterface .. => next_canon_of_memView (by simp [spdmAfter, spdmTake, tdisp]) hmem
  | .stopInterface .. => by
      refine next_canon ?_
      simp only [spdmAfter, spdmTake, tdisp]
      repeat' split
      all_goals simp [hmem]
  | .getDeviceInterfaceReport .. => next_canon_of_memView (by simp [spdmAfter, spdmTake, tdisp]) hmem
  | .vaultStatus .. => scpExec_canon_of_memView vaultStatus__memView hmem
  | .vaultSelftest .. => scpExec_canon_of_memView vaultSelftest_memView hmem
  | .vaultKeyImport .. => scpExec_canon vaultKeyImport_memCanon hmem
  | .vaultZeroize .. => scpExecThen_canon vaultZeroize_memCanon afterZeroize_memCanon hmem
  | .logRead .. => scpExec_canon_of_memView logRead_memView hmem
  | .logExport .. => scpExec_canon_of_memView logExport_memView hmem
  | .logAck .. => scpExec_canon_of_memView logAck_memView hmem
  | .modeReqNonApproved .. => next_canon (modeReq_memCanon hmem)
  | .modeReqApproved .. => next_canon (modeReq_memCanon hmem)
  | .vaultLinkRestore .. => next_canon_of_memView (by simp) hmem
  | .vaultLinkLoss .. => next_canon_of_memView (by simp) hmem
  | .tamperTrip .. => next_canon (tamperTrip_memCanon hmem)
  | .tamperClear .. => next_canon_of_memView tamperClear_memView hmem
  | .entropyHealthFail .. => next_canon_of_memView (by simp) hmem
  | .powerOn .. => next_canon (powerOn_memCanon hmem)
  | .perst .. => next_canon (by simp [hmem])
  | .hotReset .. => next_canon (assertSource_memCanon hmem)
  | .flrPf0 .. => next_canon (assertSource_memCanon hmem)
  | .flrVf .. => next_canon (flrVf_memCanon hmem)
  | .wingReset .. => scpExec_canon_of_memView wingReset_memView hmem
  | .resetRequest .. => scpExecThen_canon (fun hmem => resetRequest_memView.symm ▸ hmem) afterReset_memCanon hmem
  | .curatorWdog .. => next_canon (curatorWdog_memCanon hmem)
  | .deviceWdog .. => next_canon (assertSource_memCanon hmem)
  | .blockResetIdle .. => next_canon (by split <;> simp [hmem])
  | .blockResetIdleTimeout .. => next_canon (by split <;> simp [hmem])
  | .resetRelease .. => next_canon_of_memView resetRelease_memView hmem
  | .bootComplete .. => next_canon_of_memView bootComplete_memView hmem
  | .rstMapWrite .. => next_canon_of_memView rstMapWrite_memView hmem
  | .clockMonitorTrip .. => next_canon (by split <;> simp [hmem])
  | .timestampSyncTick .. => next_canon_of_memView (by simp) hmem
  | .powerMonitorTick .. => next_canon_of_memView powerTick_memView hmem
  | .excursionTimeout .. => next_canon_of_memView (by simp) hmem
  | .thermalSample .. => next_canon (thermalSample_memCanon hmem)
  | .cellIdleGate .. => next_canon (idleGate_memCanon hmem)
  | .pf0D3hotEntry .. => next_canon_of_memView pf0Sleep_memView hmem
  | .pf0D0Return .. => next_canon_of_memView (by simp) hmem
  | .vfD3hotEntry .. => next_canon_of_memView (by simp) hmem
  | .vfD0Return .. => next_canon_of_memView (by simp) hmem
  | .pwrOkFall .. => next_canon (powerDown_memCanon hmem)
  | .railFault .. => next_canon (by split <;> simp [hmem])
  | .emberPowerLoss .. => next_canon_of_memView emberLoss_memView hmem
  | .ventRecordReceive .. => next_canon_of_memView (by simp) hmem
  | .alarmCreditReturn .. => next_canon_of_memView alarmCreditReturn_memView hmem
  | .stormAccumulatorClose .. => next_canon_of_memView (by simp) hmem
  | .ventConfigure .. => scpExec_canon_of_memView ventConfigure_memView hmem
  | .ventStatus .. => scpExec_canon_of_memView ventStatus_memView hmem
  | .ventTraceWindow .. => scpExec_canon_of_memView ventTraceWindow_memView hmem
  | .traceWindowStart .. => next_canon_of_memView (by simp) hmem
  | .traceWindowEnd .. => next_canon_of_memView traceEnd_memView hmem
  | .vntRingHeadWrite .. => next_canon_of_memView vntHead_memView hmem
  | .ventMemoryFail .. => next_canon_of_memView (by simp) hmem
  | .alarmUnackedTimeout .. => next_canon_of_memView alertPoll_memView hmem
  | .lwClear .. => next_canon_of_memView (by simp) hmem
  | .ventWriteAccepted .. => next_canon_of_memView (by simp) hmem
  | .firmwareLoad .. => scpExec_canon_of_memView firmwareLoad_memView hmem
  | .firmwareActivate .. => scpExecThen_canon (fun hmem => firmwareActivate_memView.symm ▸ hmem) afterFirmware_memCanon hmem
  | .firmwareCommit .. => scpExec_canon_of_memView firmwareCommit_memView hmem
  | .rollback .. => scpExecThen_canon (fun hmem => rollback_memView.symm ▸ hmem) afterFirmware_memCanon hmem
  | .archiveWrite .. => next_canon_of_memView (by simp) hmem
  | .marginRun .. => scpExec_canon_of_memView marginRun_memView hmem
  | .marginApply .. => scpExec_canon_of_memView marginApply_memView hmem
  | .repairQuery .. => scpExec_canon_of_memView repairQuery_memView hmem
  | .repairRow .. => scpExec_canon_of_memView repairRow_memView hmem
  | .repairLane .. => scpExec_canon_of_memView repairLane_memView hmem
  | .testUnlock .. => next_canon (by simp [hmem])
  | .testLock .. => next_canon (testCtlWrite_memCanon hmem)
  | .patternTest .. => next_canon (by simp [hmem])
  | .patternTestDone .. => next_canon (by simp [hmem])
  | .mbist .. => next_canon (by simp [hmem])
  | .mbistDone .. => next_canon (mbistDone_memCanon hmem)
  | .jtagBypass .. => next_canon_of_memView jtagBypass_memView hmem
  | .jtagIdcode .. => next_canon_of_memView (by simp) hmem
  | .jtagSamplePreload .. => next_canon_of_memView jtagSamplePreload_memView hmem
  | .jtagExtest .. => next_canon_of_memView jtagExtest_memView hmem
  | .jtagClamp .. => next_canon_of_memView jtagClamp_memView hmem
  | .jtagHighz .. => next_canon_of_memView jtagHighz_memView hmem
  | .sidebandRead .. => next_canon_of_memView sidebandRead_memView hmem
  | .sidebandWrite .. => next_canon_of_memView (by simp) hmem
  | .laserProbe .. => next_canon_of_memView laserProbe_memView hmem

end Sys2Proof.Machine

/-- Settles O58: a command by `exec_canon`, and a nanosecond on an empty queue by `idle`. -/
theorem everyStepKeepsMemoryCanonical : Obligations.EveryStepKeepsMemoryCanonical := by
  unfold Obligations.EveryStepKeepsMemoryCanonical
  intro s t hmem hstep
  rw [State.memOk_iff] at hmem ⊢
  unfold step at hstep
  split at hstep
  · exact next_canon (by simpa using hmem) t hstep
  · exact exec_canon (by simpa using hmem) _ t hstep

end

section
/-! PROOF. Stacked memory, line by line (11 R341 to R349): what a report and a poisoned line leave unchanged, what a stored line
becomes, and O30 from them. -/

open Sys2Proof Sys2Proof.Machine

namespace Sys2Proof.Machine

section
variable {s t : State} {a : Nat}

/-! ### What a line is found as (R348) -/

theorem lineFound_data_iff : lineFound s a = .data ↔ (s.line (lineOf a)).bad = .good ∧ (s.ext (extOf a)).clearPending = false ∧
    (s.line (lineOf a)).gen = (s.ext (extOf a)).gen ∧ (s.line (lineOf a)).count ≠ 0 := by
  simp only [lineFound]
  cases hbad : (s.line (lineOf a)).bad
  case uncorrectable => simp
  case poison => simp; split <;> simp
  case good => simp only [reduceCtorEq, ↓reduceIte, true_and]; grind

theorem lineFound_zero (hbad : (s.line (lineOf a)).bad ≠ .uncorrectable)
    (hgen : (s.line (lineOf a)).gen ≠ (s.ext (extOf a)).gen) : lineFound s a = .zero := by
  simp [lineFound, hbad, hgen]

theorem linePlain_data (h : lineFound s a = .data) : linePlain s a = s.dram.read (lineOf a * 64) 64 := by
  simp only [linePlain, h]

theorem lineOf_mul (k : Nat) : lineOf (k * 64) = k := Nat.mul_div_cancel k (by decide)

/-! ### Reports and poison -/

theorem reportUE_outsideVents : (reportUE s a).outsideVents =
    (s.updStack (stackOf a) fun k => { k with dramUe := satInc k.dramUe, lastUe := BitVec.ofNat 64 (lineOf a * 64) }).outsideVents :=
  logEvent_outsideVents ..

theorem reportUE_lines : (reportUE s a).lines = s.lines :=
  (congrArg State.lines reportUE_outsideVents :)

theorem reportUE_extents : (reportUE s a).extents = s.extents :=
  (congrArg State.extents reportUE_outsideVents :)

theorem reportUE_dram : (reportUE s a).dram = s.dram :=
  (congrArg State.dram reportUE_outsideVents :)

theorem poison_extents : (poison s a).extents = s.extents := by
  simp only [poison]
  split
  · rfl
  · exact reportUE_extents

theorem poison_dram : (poison s a).dram = s.dram := by
  simp only [poison]
  split
  · rfl
  · exact reportUE_dram

/-- A line that is not yet poisoned under its extent's generation. -/
theorem poison_lines (h : (s.line (lineOf a)).bad ≠ .poison ∨ (s.line (lineOf a)).gen ≠ (s.ext (extOf a)).gen) :
    (poison s a).lines = (s.setLine (lineOf a)
      { s.line (lineOf a) with bad := .poison, gen := (s.ext (extOf a)).gen }).lines := by
  rw [poison, if_neg (by tauto)]
  exact reportUE_lines

theorem poison_line_same (h : (s.line (lineOf a)).bad ≠ .poison ∨ (s.line (lineOf a)).gen ≠ (s.ext (extOf a)).gen) :
    (poison s a).line (lineOf a) = { s.line (lineOf a) with bad := .poison, gen := (s.ext (extOf a)).gen } := by
  rw [State.line, poison_lines h]
  exact State.line_setLine_same ..

theorem poison_line_other {k : Nat} (hk : k ≠ lineOf a) : (poison s a).line k = s.line k := by
  by_cases h : (s.line (lineOf a)).bad ≠ .poison ∨ (s.line (lineOf a)).gen ≠ (s.ext (extOf a)).gen
  · rw [State.line, poison_lines h]
    exact Tbl.get_set_other _ _ _ hk
  · rw [poison, if_pos (by tauto)]

/-! ### A line that is stored (R347) -/

/-- The state with the line's bytes and its record, before a rollover begins. -/
def lineStored (s : State) (a : Nat) (data : Bytes) : State :=
  ({ s with dram := s.dram.write (lineOf a * 64) (fitTo 64 data) }).setLine (lineOf a)
    { gen := (s.ext (extOf a)).gen, phase := (s.ext (extOf a)).phase, count := nextCount s a, bad := .good }

theorem lineStore_eq (data : Bytes) : lineStore s a data =
    if nextCount s a = rollCount then rolloverBegin (lineStored s a data) (extOf a) else lineStored s a data := rfl

theorem rolloverBegin_frame (e : Nat) : rolloverBegin s e =
    { s with extents := (rolloverBegin s e).extents, dramStacks := (rolloverBegin s e).dramStacks } := by
  unfold rolloverBegin
  split <;> rfl

theorem rolloverBegin_ext (e k : Nat) : ((rolloverBegin s e).ext k).gen = (s.ext k).gen ∧
    ((rolloverBegin s e).ext k).clearPending = (s.ext k).clearPending := by
  unfold rolloverBegin
  split
  · exact ⟨rfl, rfl⟩
  · simp only [State.updExt_eq, State.updStack_eq, State.setStack_ext_, State.ext_setExt]
    split <;> simp [*]

theorem lineStore_frame (data : Bytes) : lineStore s a data = { s with
    dram := (lineStore s a data).dram, lines := (lineStore s a data).lines, extents := (lineStore s a data).extents
    dramStacks := (lineStore s a data).dramStacks } := by
  rw [lineStore_eq]
  split
  · rw [rolloverBegin_frame]; rfl
  · rfl

theorem lineStore_dram (data : Bytes) : (lineStore s a data).dram = s.dram.write (lineOf a * 64) (fitTo 64 data) := by
  rw [lineStore_eq]
  split
  · rw [rolloverBegin_frame]; rfl
  · rfl

theorem lineStore_lines (data : Bytes) : (lineStore s a data).lines = (lineStored s a data).lines := by
  rw [lineStore_eq]
  split
  · rw [rolloverBegin_frame]
  · rfl

theorem lineStore_line_same (data : Bytes) : (lineStore s a data).line (lineOf a) =
    { gen := (s.ext (extOf a)).gen, phase := (s.ext (extOf a)).phase, count := nextCount s a, bad := .good } := by
  rw [State.line, lineStore_lines]
  exact Tbl.get_set_same ..

theorem lineStore_line_other (data : Bytes) {k : Nat} (hk : k ≠ lineOf a) : (lineStore s a data).line k = s.line k := by
  rw [State.line, lineStore_lines]
  exact Tbl.get_set_other _ _ _ hk

theorem lineStore_ext (data : Bytes) (k : Nat) : ((lineStore s a data).ext k).gen = (s.ext k).gen ∧
    ((lineStore s a data).ext k).clearPending = (s.ext k).clearPending := by
  rw [lineStore_eq]
  split
  · exact rolloverBegin_ext ..
  · exact ⟨rfl, rfl⟩

theorem nextCount_pos : nextCount s a ≠ 0 := by
  simp only [nextCount]
  split <;> simp

theorem lineFound_lineStore (data : Bytes) (h : (s.ext (extOf a)).clearPending = false) :
    lineFound (lineStore s a data) a = .data := by
  obtain ⟨hgen, hclear⟩ := lineStore_ext (s := s) (a := a) data (extOf a)
  rw [lineFound_data_iff, lineStore_line_same, hgen, hclear]
  exact ⟨rfl, h, rfl, nextCount_pos⟩

/-! ### A write within a line (R347, R348) -/

theorem slice_within {b : Bytes} {off n : Nat} (h : off + n ≤ b.length) : slice b off n = (b.drop off).take n := by
  have hlen : ((b.drop off).take n).length = n := by rw [List.length_take, List.length_drop]; omega
  rw [slice, hlen, Nat.sub_self, List.replicate_zero, List.append_nil]

/-- The line's bytes with those from `off` replaced. -/
def merged (old : Bytes) (off : Nat) (data : Bytes) : Bytes := old.take off ++ data ++ old.drop (off + data.length)

theorem slice_merged {old data : Bytes} {off n : Nat} (hold : old.length = n) (h : off + data.length ≤ n) :
    slice old 0 off ++ data ++ slice old (off + data.length) (n - off - data.length) = merged old off data := by
  have hrest : (old.drop (off + data.length)).length ≤ n - off - data.length := by rw [List.length_drop]; omega
  rw [slice_within (by omega), slice_within (by omega), List.drop_zero, merged, List.take_of_length_le hrest]

theorem merged_length {old data : Bytes} {off n : Nat} (hold : old.length = n) (h : off + data.length ≤ n) :
    (merged old off data).length = n := by
  simp only [merged, List.length_append, List.length_take, List.length_drop]
  omega

theorem merged_new {old data : Bytes} {off : Nat} (h : off ≤ old.length) {i : Nat} (hi : i < data.length)
    (hlen : off + i < (merged old off data).length) : (merged old off data)[off + i] = data[i] := by
  have htake : (old.take off).length = off := by rw [List.length_take]; omega
  simp [merged, htake, hi]

theorem merged_old {old data : Bytes} {off i : Nat} (h : off + data.length ≤ old.length) (hi : i < off ∨ off + data.length ≤ i)
    (hlen : i < (merged old off data).length) (hlen' : i < old.length) : (merged old off data)[i] = old[i] := by
  rcases hi with hi | hi
  · simp [merged, hi, hlen']
  · have hge : ¬i < off := by omega
    have hge' : ¬i - off < data.length := by omega
    simp [merged, List.getElem_append, hge, hge', show min off old.length = off by omega]
    congr 1
    omega

theorem Mem.read_length (m : Mem) (n : Nat) : (m.read a n).length = n := by simp [Mem.read]

theorem Mem.read_eq {m : Mem} {b : Bytes} (h : ∀ i, (hi : i < b.length) → Tbl.get 0#8 m (a + i) = b[i]) : m.read a b.length = b := by
  apply List.ext_getElem
  · simp [Mem.read]
  · intro i _ hi
    simp only [Mem.read, List.getElem_map, List.getElem_range]
    exact h i hi

section
variable {data : Bytes}

/-- A line written with its own bytes and some new ones holds the new ones, and all other bytes are as they were. -/
theorem write_merged (m : Mem) (h : a % 64 + data.length ≤ 64) :
    let t := m.write (lineOf a * 64) (merged (m.read (lineOf a * 64) 64) (a % 64) data)
    t.read a data.length = data ∧
      ∀ j, j < a ∨ a + data.length ≤ j → Tbl.get 0#8 t j = Tbl.get 0#8 m j := by
  have hold := Mem.read_length (a := lineOf a * 64) m 64
  have hlen := merged_length hold h
  have hsplit : lineOf a * 64 + a % 64 = a := Nat.div_add_mod' a 64
  refine ⟨Mem.read_eq fun i hi => ?_, fun j hj => ?_⟩
  · have hget := Mem.get_write_same m (lineOf a * 64) (merged (m.read (lineOf a * 64) 64) (a % 64) data) (a % 64 + i) (by omega)
    rw [← Nat.add_assoc, hsplit] at hget
    rw [hget, merged_new (by omega) hi]
  · by_cases hin : lineOf a * 64 ≤ j ∧ j < lineOf a * 64 + 64
    · obtain ⟨i, rfl⟩ := Nat.exists_eq_add_of_le hin.1
      rw [Mem.get_write_same _ _ _ _ (by omega), merged_old (by omega) (by omega) _ (by omega)]
      simp [Mem.read]
    · exact Mem.get_write_other _ _ _ _ (by omega)

theorem lineWrite_whole (hlast : nextCount s a < lastCount) (hoff : a % 64 = 0) (hlen : data.length = 64) :
    lineWrite s a data = lineStore s a data := by
  simp [lineWrite, Nat.not_le.mpr hlast, hoff, hlen]

theorem lineWrite_merges (hlast : nextCount s a < lastCount) (hlen : a % 64 + data.length < 64) (h : lineFound s a = .data) :
    lineWrite s a data = lineStore s a (merged (s.dram.read (lineOf a * 64) 64) (a % 64) data) := by
  obtain ⟨hgood, -, -, -⟩ := lineFound_data_iff.mp h
  have hpart : ¬(a % 64 = 0 ∧ data.length = 64) := by omega
  simp only [lineWrite, Nat.not_le.mpr hlast, hpart, hgood, h, linePlain_data h, reduceCtorEq, ↓reduceIte]
  rw [slice_merged (Mem.read_length ..) (by omega)]

theorem lineWrite_poisoned (hlast : nextCount s a < lastCount) (hlen : a % 64 + data.length < 64) (h : lineFound s a = .bad)
    (hbad : (s.line (lineOf a)).bad = .poison) : lineWrite s a data = reportUE s a := by
  have hpart : ¬(a % 64 = 0 ∧ data.length = 64) := by omega
  simp [lineWrite, Nat.not_le.mpr hlast, hpart, hbad, h]

end

/-! ### The commands on a line -/

section
variable {addr : BitVec 39} {data : Bytes} {errs : Fin 3} {tagOk : Bool}

theorem exec_dramLineRead (haddr : addr.toNat < dramSize) :
    exec (.dramLineRead addr errs tagOk) s = .next (dramLineRead s addr.toNat errs tagOk) := if_neg (by omega)

theorem exec_dramLineWrite (haddr : addr.toNat < dramSize) :
    exec (.dramLineWrite addr data errs) s = .next (dramLineWrite s addr.toNat data errs) := if_neg (by omega)

theorem exec_patrolScrub (haddr : addr.toNat < dramSize) :
    exec (.patrolScrub addr errs) s = .next (patrolScrub s addr.toNat errs) := if_neg (by omega)

end

section
variable {data : Bytes} {errs : Nat} {tagOk : Bool}

theorem dramLineRead_zero (hmode : s.vlt.mode ≠ .error) (herrs : errs ≠ 2) (hstruct : structLine s a = none)
    (hfound : lineFound s a = .zero) :
    dramLineRead s a errs tagOk = s.emit (.dramLine (lineOf a * 64) (some (List.replicate 64 0#8))) := by
  simp [dramLineRead, hmode, herrs, hstruct, hfound]

theorem dramLineRead_data (hmode : s.vlt.mode ≠ .error) (herrs : errs ≠ 2) (hstruct : structLine s a = none)
    (hfound : lineFound s a = .data) : dramLineRead s a errs true =
      (if errs = 1 then reportCE s a else s).emit (.dramLine (lineOf a * 64) (some (s.dram.read (lineOf a * 64) 64))) := by
  simp [dramLineRead, hmode, herrs, hstruct, hfound, linePlain_data hfound]

theorem dramLineRead_hard (hmode : s.vlt.mode ≠ .error) (herrs : errs = 2) (hbad : (s.line (lineOf a)).bad ≠ .poison) :
    dramLineRead s a errs tagOk = (poison s a).emit (.dramLine (lineOf a * 64) none) := by
  simp [dramLineRead, hmode, herrs, hbad]

/-- A bad line, or data with a wrong tag. -/
theorem dramLineRead_poisons (hmode : s.vlt.mode ≠ .error) (hstruct : structLine s a = none)
    (hfound : lineFound s a = .bad ∨ (tagOk = false ∧ lineFound s a = .data)) :
    dramLineRead s a errs tagOk = (poison s a).emit (.dramLine (lineOf a * 64) none) := by
  by_cases hhard : errs = 2 ∧ (s.line (lineOf a)).bad ≠ .poison
  · exact dramLineRead_hard hmode hhard.1 hhard.2
  · have hsoft : (decide (errs = 2) && decide ((s.line (lineOf a)).bad ≠ .poison)) = false := by simpa using hhard
    rcases hfound with hfound | ⟨rfl, hfound⟩
    · simp only [dramLineRead, hmode, hsoft, hstruct, hfound, ↓reduceIte, Bool.false_eq_true]
    · simp only [dramLineRead, hmode, hsoft, hstruct, hfound, ↓reduceIte, Bool.false_eq_true, Bool.not_false]

theorem dramLineRead_struct {b : Bytes} (hmode : s.vlt.mode ≠ .error) (hstruct : structLine s a = some b) :
    dramLineRead s a 0 tagOk = s.emit (.dramLine (lineOf a * 64) (some b)) := by
  simp [dramLineRead, hmode, hstruct]

theorem dramLineWrite_whole (hmode : s.vlt.mode ≠ .error) (hused : unused47 a = false) (hoff : a % 64 = 0)
    (hlen : data.length = 64) : dramLineWrite s a data errs = lineWrite s a data := by
  have hdata : data ≠ [] := by rintro rfl; simp at hlen
  have htake : data.take 64 = data := List.take_of_length_le (by omega)
  simp [dramLineWrite, hmode, hused, hoff, hlen, htake, hdata]

theorem dramLineWrite_part (hmode : s.vlt.mode ≠ .error) (hused : unused47 a = false) (hdata : data ≠ [])
    (hlen : a % 64 + data.length < 64) : dramLineWrite s a data 0 = lineWrite s a data := by
  have htake : data.take (64 - a % 64) = data := List.take_of_length_le (by omega)
  simp [dramLineWrite, hmode, hused, htake, hdata]

theorem patrolScrub_poisons (hmode : s.vlt.mode ≠ .error)
    (h : lineFound s a = .bad ∨ (errs = 2 ∧ (s.line (lineOf a)).bad ≠ .poison)) : patrolScrub s a errs = poison s a := by
  by_cases hhard : errs = 2 ∧ (s.line (lineOf a)).bad ≠ .poison
  · simp [patrolScrub, hmode, hhard]
  · simp [patrolScrub, hmode, hhard, h.resolve_right hhard]

theorem patrolScrub_corrects (hmode : s.vlt.mode ≠ .error) (h : lineFound s a = .data) : patrolScrub s a 1 = reportCE s a := by
  simp [patrolScrub, hmode, h]

end

/-! ### Rollovers of an extent's key (R347, R470) -/

theorem releaseLineWaits_none (hwaits : s.lineWaits = []) (hbar2 : s.bar2Waits = []) (e : Nat) : releaseLineWaits s e = s := by
  cases s
  dsimp only at hwaits hbar2
  subst hwaits hbar2
  rfl

theorem currentKey_setKey (e : Nat) (phase : Bool) (k : Option Bytes) :
    currentKey (s.updExt e fun x => x.setKey phase k) e = currentKey s e := by
  have howner : ((s.ext e).setKey phase k).owner = (s.ext e).owner := by cases phase <;> rfl
  have hkey (w : Nat) : extentKey (s.updExt e fun x => x.setKey phase k) w e = extentKey s w e := by
    cases phase <;> simp [extentKey, wingKey, Extent.setKey]
  have hkey47 : ext47Key (s.updExt e fun x => x.setKey phase k) (e / 48) = ext47Key s (e / 48) := by
    simp only [ext47Key, State.updExt_eq, State.ext_setExt, State.setExt_vlt]
    split
    next h => cases phase <;> simp [Extent.setKey, h]
    next => rfl
  simp only [currentKey, hkey, hkey47]
  rw [State.updExt_eq, State.ext_setExt_same, howner]

/-- The extent's record once the next key is in its slot. -/
def Extent.nextPhase (x : Extent) : Extent := { x with roll := x.roll + 1, phase := !x.phase, keyLoaded := true, keyLate := false }

theorem rolloverKeyLoaded_eq {e : Nat} (hrolling : (s.ext e).rolling = true) (hloaded : (s.ext e).keyLoaded = false)
    (hwaits : s.lineWaits = []) (hbar2 : s.bar2Waits = []) : rolloverKeyLoaded s e =
      (s.updExt e Extent.nextPhase).updExt e fun x => x.setKey x.phase (currentKey (s.updExt e Extent.nextPhase) e) := by
  simp only [rolloverKeyLoaded, hrolling, hloaded, Bool.not_true, Bool.or_false, Bool.false_eq_true, ↓reduceIte]
  exact releaseLineWaits_none (by exact hwaits) (by exact hbar2) e

theorem rolloverKeyLoaded_keeps {e : Nat} (hrolling : (s.ext e).rolling = true) (hloaded : (s.ext e).keyLoaded = false)
    (hwaits : s.lineWaits = []) (hbar2 : s.bar2Waits = []) :
    let t := rolloverKeyLoaded s e
    t = { s with extents := t.extents } ∧ (∀ k, k ≠ e → t.ext k = s.ext k) ∧ (t.ext e).roll = (s.ext e).roll + 1 ∧
      (t.ext e).phase = !(s.ext e).phase ∧ (t.ext e).keyLoaded = true ∧
      (if (t.ext e).phase then (t.ext e).key1 else (t.ext e).key0) = currentKey t e := by
  intro t
  have ht : t = (s.updExt e Extent.nextPhase).updExt e fun x =>
      x.setKey (!(s.ext e).phase) (currentKey (s.updExt e Extent.nextPhase) e) := by
    rw [show t = rolloverKeyLoaded s e from rfl, rolloverKeyLoaded_eq hrolling hloaded hwaits hbar2]
    simp [Extent.nextPhase]
  have hext : t.ext e = (s.ext e).nextPhase.setKey (!(s.ext e).phase) (currentKey (s.updExt e Extent.nextPhase) e) := by
    rw [ht]; simp
  have hkey : currentKey t e = currentKey (s.updExt e Extent.nextPhase) e := by rw [ht]; exact currentKey_setKey ..
  rw [hkey, hext]
  refine ⟨by rw [ht]; rfl, fun k hk => by simp [ht, State.ext_setExt, hk], ?_⟩
  generalize currentKey (s.updExt e Extent.nextPhase) e = key
  cases h : (s.ext e).phase <;> simp [Extent.nextPhase, Extent.setKey, h]

theorem rolloverKeyTimeout_late {e : ExtIx} (hrolling : (s.ext e).rolling = true) (hloaded : (s.ext e).keyLoaded = false)
    (hlate : (s.ext e).keyLate = false) : exec (.rolloverKeyTimeout e) s =
      .next (alarm (s.setExt e { s.ext e with keyLate := true }) 0x0204 (((s.ext e).owner.map (·.val)).getD 0xFF)
        (8 + e.val / 48) e 0 0 0) := by
  change execRolloverKeyTimeout e s = _
  simp [execRolloverKeyTimeout, hrolling, hloaded, hlate]

/-! ### The sweep -/

/-- In a table in order, an entry is what its key reads. -/
theorem Tbl.get_of_mem {α : Type} [DecidableEq α] {d : α} {t : Tbl α} (ht : Tbl.wf d t = true) {e : Nat × α} (he : e ∈ t) :
    Tbl.get d t e.1 = e.2 := by
  obtain ⟨hsorted, -⟩ := (Tbl.wf_iff d t).mp ht
  clear ht
  induction t with
  | nil => cases he
  | cons x t ih =>
    obtain ⟨hx, ht⟩ := List.pairwise_cons.mp hsorted
    rw [Tbl.get]
    rcases List.mem_cons.mp he with rfl | he
    · exact if_pos rfl
    · rw [if_neg (hx e.1 (List.mem_map_of_mem he)).ne]
      exact ih he ht

/-- The sweep at one line: it is rewritten under the extent's phase, or poisoned where it cannot be read. -/
def sweepLine (phase : Bool) (s : State) (l : Nat × LineMeta) : State :=
  if l.2.bad = .good then s.setLine l.1 { l.2 with phase := phase, count := 1 } else poison s (l.1 * 64)

theorem sweepLine_extents (phase : Bool) (l : Nat × LineMeta) : (sweepLine phase s l).extents = s.extents := by
  unfold sweepLine
  split
  · rfl
  · exact poison_extents

theorem sweepLine_dram (phase : Bool) (l : Nat × LineMeta) : (sweepLine phase s l).dram = s.dram := by
  unfold sweepLine
  split
  · rfl
  · exact poison_dram

theorem sweepLine_line_other (phase : Bool) {l : Nat × LineMeta} {k : Nat} (hk : k ≠ l.1) :
    (sweepLine phase s l).line k = s.line k := by
  unfold sweepLine
  split
  · exact Tbl.get_set_other _ _ _ hk
  · exact poison_line_other (by rwa [lineOf_mul])

/-- The lines of the extent that still stand under the old phase. -/
def sweptLines (s : State) (e : Nat) : List (Nat × LineMeta) :=
  s.lines.filter fun l => decide (l.1 * 64 / 2 ^ 30 = e) && decide (l.2.gen = (s.ext e).gen) &&
    decide (l.2.phase ≠ (s.ext e).phase) && decide (l.2.count ≠ 0 ∨ l.2.bad ≠ .good)

def swept (s : State) (e : Nat) : State := (sweptLines s e).foldl (sweepLine (s.ext e).phase) s

/-- The extent's record once the sweep is done. -/
def Extent.sweepDone (x : Extent) : Extent :=
  ({ x with rolling := false, keyLoaded := false, keyLate := false }).setKey (!x.phase) none

theorem rolloverSweepDone_eq {e : Nat} (hrolling : (s.ext e).rolling = true) (hloaded : (s.ext e).keyLoaded = true) :
    rolloverSweepDone s e = ((swept s e).updExt e Extent.sweepDone).updStack (e / 48) fun k => k.rollEnd (e % 48) := by
  simp only [rolloverSweepDone, hrolling, hloaded, Bool.not_true, Bool.or_false, Bool.false_eq_true, ↓reduceIte]
  rfl

theorem swept_ext (e k : Nat) : (swept s e).ext k = s.ext k :=
  congrArg (Tbl.get Extent.init · k) (foldl_keeps State.extents fun _ _ => sweepLine_extents ..)

theorem swept_dram (e : Nat) : (swept s e).dram = s.dram := foldl_keeps State.dram fun _ _ => sweepLine_dram ..

/-- A line that holds data holds it still, of the same generation. -/
theorem swept_line {e k : Nat} (hwf : Tbl.wf LineMeta.init s.lines = true) (hgood : (s.line k).bad = .good)
    (hcount : (s.line k).count ≠ 0) : ((swept s e).line k).bad = .good ∧ ((swept s e).line k).gen = (s.line k).gen ∧
      ((swept s e).line k).count ≠ 0 := by
  refine List.foldlRecOn (sweptLines s e) (sweepLine (s.ext e).phase) (b := s)
    (motive := fun t => (t.line k).bad = .good ∧ (t.line k).gen = (s.line k).gen ∧ (t.line k).count ≠ 0)
    ⟨hgood, rfl, hcount⟩ fun t ht l hl => ?_
  by_cases hk : k = l.1
  · have hline : s.line l.1 = l.2 := Tbl.get_of_mem hwf (List.mem_of_mem_filter hl)
    rw [hk, hline] at hgood
    rw [sweepLine, if_pos hgood, hk, State.line_setLine_same, hline]
    exact ⟨hgood, rfl, Nat.one_ne_zero⟩
  · rwa [sweepLine_line_other _ hk]

theorem rolloverSweepDone_keeps {e : Nat} (hrolling : (s.ext e).rolling = true) (hloaded : (s.ext e).keyLoaded = true)
    (hwf : Tbl.wf LineMeta.init s.lines = true) :
    let t := rolloverSweepDone s e
    (t.ext e).rolling = false ∧ (t.ext e).keyLoaded = false ∧
      (if (s.ext e).phase then (t.ext e).key0 else (t.ext e).key1) = none ∧ (∀ k, k ≠ e → t.ext k = s.ext k) ∧
      t.dram = s.dram ∧ ∀ k, lineFound s (k * 64) = .data → lineFound t (k * 64) = .data := by
  intro t
  have ht : t = ((swept s e).updExt e Extent.sweepDone).updStack (e / 48) fun k => k.rollEnd (e % 48) :=
    rolloverSweepDone_eq hrolling hloaded
  have hext (k : Nat) : t.ext k = if k = e then (s.ext e).sweepDone else s.ext k := by
    simp [ht, State.ext_setExt, swept_ext]
  have hline (k : Nat) : t.line k = (swept s e).line k := by simp [ht]
  have hkeeps (k : Nat) : (t.ext k).gen = (s.ext k).gen ∧ (t.ext k).clearPending = (s.ext k).clearPending := by
    rw [hext]
    split
    next hk => subst hk; cases h : (s.ext k).phase <;> simp [Extent.sweepDone, Extent.setKey, h]
    next => exact ⟨rfl, rfl⟩
  have hdone : (t.ext e).rolling = false ∧ (t.ext e).keyLoaded = false ∧
      (if (s.ext e).phase then (t.ext e).key0 else (t.ext e).key1) = none := by
    rw [hext, if_pos rfl]
    cases h : (s.ext e).phase <;> simp [Extent.sweepDone, Extent.setKey, h]
  obtain ⟨hroll, hkey, hslot⟩ := hdone
  refine ⟨hroll, hkey, hslot, fun k hk => by rw [hext, if_neg hk], by simp [ht, swept_dram], fun k hk => ?_⟩
  obtain ⟨hgood, hclear, hgen, hcount⟩ := lineFound_data_iff.mp hk
  rw [lineOf_mul] at hgood hgen hcount
  obtain ⟨hgood', hgen', hcount'⟩ := swept_line (e := e) hwf hgood hcount
  obtain ⟨hextGen, hextClear⟩ := hkeeps (extOf (k * 64))
  rw [lineFound_data_iff, lineOf_mul, hline, hextGen, hextClear]
  exact ⟨hgood', hclear, hgen'.trans hgen, hcount'⟩

end

end Sys2Proof.Machine

/-- Settles O30: what a line is found as decides a read; a whole write and a merge store one line; the rollover's steps move one
extent's record, and the sweep keeps every line that holds data. -/
theorem dramLinesAreReadWrittenAndScrubbed : Obligations.DramLinesAreReadWrittenAndScrubbed := by
  unfold Obligations.DramLinesAreReadWrittenAndScrubbed
  refine ⟨?above, ?zero, ?data, ?bad, ?struct, ?poisoned, ?whole, ?merge, ?dropped, ?scrubBad, ?scrub, ?loaded, ?late, ?swept,
    ?refresh⟩
  case above => exact fun _ _ _ _ _ h => ⟨if_pos h, if_pos h, if_pos h⟩
  case zero =>
    intro addr tagOk errs s haddr hmode herrs hstruct hbad hgen
    rw [exec_dramLineRead haddr, dramLineRead_zero hmode herrs hstruct (lineFound_zero hbad hgen)]
  case data =>
    intro addr errs s haddr hmode herrs hstruct hfound
    rw [exec_dramLineRead haddr, dramLineRead_data hmode herrs hstruct hfound]
  case bad =>
    intro addr errs tagOk s haddr hmode hfound hstruct
    rw [exec_dramLineRead haddr]
    rcases hfound with hbad | ⟨herrs, hbad⟩ | hdata
    · rw [dramLineRead_poisons hmode hstruct (.inl hbad)]
    · rw [dramLineRead_hard hmode herrs hbad]
    · rw [dramLineRead_poisons hmode hstruct (.inr hdata)]
  case struct =>
    intro addr tagOk b s haddr hmode hstruct
    exact (exec_dramLineRead haddr).trans (congrArg _ (dramLineRead_struct hmode hstruct))
  case poisoned => exact fun a s h => ⟨poison_line_same h, fun _ => poison_line_other, poison_dram⟩
  case whole =>
    intro addr data errs s haddr hmode hused hoff hlen hlast
    have hat : lineOf addr.toNat * 64 = addr.toNat := Nat.div_mul_cancel (Nat.dvd_of_mod_eq_zero hoff)
    have hdram : (lineStore s addr.toNat data).dram = s.dram.write addr.toNat data := by
      rw [lineStore_dram, hat, fitTo, slice_zero_length hlen.symm]
    refine ⟨lineStore s addr.toNat data, ?_, hdram, ?_, lineStore_line_same data, fun _ => lineStore_line_other data,
      lineStore_frame data, fun hroll => ?_⟩
    · rw [exec_dramLineWrite haddr, dramLineWrite_whole hmode hused hoff hlen, lineWrite_whole hlast hoff hlen]
    · exact fun a ha => hdram ▸ Mem.get_write_other _ _ _ _ (hlen ▸ ha)
    · rw [lineStore_eq, if_neg (show ¬nextCount s addr.toNat = rollCount from hroll)]; rfl
  case merge =>
    intro addr data s haddr hmode hused hdata hlen hlast hfound
    have hdram := lineStore_dram (s := s) (a := addr.toNat)
      (merged (s.dram.read (lineOf addr.toNat * 64) 64) (addr.toNat % 64) data)
    rw [fitTo, slice_zero_length (merged_length (Mem.read_length ..) hlen.le).symm] at hdram
    obtain ⟨hnew, hold⟩ := write_merged s.dram hlen.le
    obtain ⟨-, hclear, -, -⟩ := lineFound_data_iff.mp hfound
    refine ⟨_, (exec_dramLineWrite haddr).trans (congrArg _ ((dramLineWrite_part hmode hused hdata hlen).trans
      (lineWrite_merges hlast hlen hfound))), hdram ▸ hnew, hdram ▸ hold, lineFound_lineStore _ hclear⟩
  case dropped =>
    intro addr data s haddr hmode hused hdata hlen hlast hfound hbad
    exact (exec_dramLineWrite haddr).trans (congrArg _ ((dramLineWrite_part hmode hused hdata hlen).trans
      (lineWrite_poisoned hlast hlen hfound hbad)))
  case scrubBad =>
    intro addr errs s haddr hmode h
    rw [exec_patrolScrub haddr, patrolScrub_poisons hmode h]
  case scrub =>
    intro addr s haddr hmode h
    exact (exec_patrolScrub haddr).trans (congrArg _ (patrolScrub_corrects hmode h))
  case loaded =>
    exact fun ext s hrolling hloaded hwaits hbar2 => ⟨_, rfl, rolloverKeyLoaded_keeps hrolling hloaded hwaits hbar2⟩
  case late => exact fun ext s hrolling hloaded hlate => rolloverKeyTimeout_late hrolling hloaded hlate
  case swept => exact fun ext s hrolling hloaded hwf => ⟨_, rfl, rolloverSweepDone_keeps hrolling hloaded hwf⟩
  case refresh => exact fun _ _ _ _ => rfl

end

section
/-! PROOF. Translations come and go (11 R351 to R364): TRANSLATION_SYNC and the invalidations, what a translation answers, and how
the host's answers reach a queue; O31 from them. -/

open Sys2Proof Sys2Proof.Machine

namespace Sys2Proof.Machine

/-! ### TRANSLATION_SYNC (R356 to R358) -/

section
variable {s : State} {c : Cmd}

/-- The checks of TRANSLATION_SYNC, in their order. -/
def syncChecks (s : State) (c : Cmd) : List (Bool × Byte) := [
  badWing c,
  (decide (fld (leAt c.payload 6 1) 1 7 ≠ 0) || !zeroAt c.payload 7 1 || (syncRanges c.payload).any fun r => decide (2 ^ 48 ≤ r.1),
    rRESERVED_FIELD_SET),
  (bit (leAt c.payload 6 1) 0 != (syncRanges c.payload).isEmpty, rRESERVED_VALUE),
  ((syncRanges c.payload).any fun r => decide (r.1 % 65536 ≠ 0) || decide (r.2 % 65536 ≠ 0), rADDR_ALIGN),
  ((syncRanges c.payload).any fun r => decide (r.2 = 0) || decide (r.1 + r.2 > 2 ^ 48), rADDR_RANGE),
  (decide (BitVec.ofNat 32 (leAt c.payload 0 4) = 0), rRESERVED_VALUE),
  (decide ((s.wing c.wing.toNat).tsyncGen ≠ 0) &&
    !epPrec (s.wing c.wing.toNat).tsyncGen (BitVec.ofNat 32 (leAt c.payload 0 4)), rNOT_PERMITTED),
  (syncRunning s c.wing, rBUSY)]

/-- A cached span that TRANSLATION_SYNC drops: all, or one that meets a range. -/
def syncHit (c : Cmd) (a n : Nat) : Bool :=
  bit (leAt c.payload 6 1) 0 || (syncRanges c.payload).any fun r => decide (r.1 < a + n) && decide (a < r.1 + r.2)

/-- The wing's translations and images are dropped, and the generation is taken. -/
def synced (s : State) (c : Cmd) : State :=
  { flushXlat s c.wing.toNat (syncHit c) with images := s.images.filter fun i => i.wing.val != c.wing.toNat }.updWing c.wing.toNat
    fun x => { x with tsyncGen := BitVec.ofNat 32 (leAt c.payload 0 4) }

theorem translationSync_eq (h : firstFail (syncChecks s c) = none) : translationSync s c =
    (synced s c, .done rOK (leBytes 4 (BitVec.ofNat 32 (leAt c.payload 0 4)).toNat)) := by
  unfold translationSync
  exact checked_pass h

/-- Each check of TRANSLATION_SYNC lets a new generation through. -/
theorem syncChecks_pass (hw : c.wing.toNat < 16) (hflags : fld (leAt c.payload 6 1) 1 7 = 0)
    (hzero : zeroAt c.payload 7 1 = true) (hall : bit (leAt c.payload 6 1) 0 = (syncRanges c.payload).isEmpty)
    (hranges : ∀ r ∈ syncRanges c.payload, r.1 < 2 ^ 48 ∧ r.1 % 65536 = 0 ∧ r.2 % 65536 = 0 ∧ r.2 ≠ 0 ∧ r.1 + r.2 ≤ 2 ^ 48)
    (hgen : BitVec.ofNat 32 (leAt c.payload 0 4) ≠ 0)
    (hnew : (s.wing c.wing.toNat).tsyncGen = 0 ∨
      epPrec (s.wing c.wing.toNat).tsyncGen (BitVec.ofNat 32 (leAt c.payload 0 4)) = true)
    (hidle : syncRunning s c.wing = false) : firstFail (syncChecks s c) = none := by
  have hnone {p : Nat × Nat → Bool} (hp : ∀ r, r.1 < 2 ^ 48 → r.1 % 65536 = 0 → r.2 % 65536 = 0 → r.2 ≠ 0 →
      r.1 + r.2 ≤ 2 ^ 48 → p r = false) : (syncRanges c.payload).any p = false := by
    refine List.any_eq_false.mpr fun r hr => ?_
    obtain ⟨hbase, hstart, hbytes, hsome, hend⟩ := hranges r hr
    simp [hp r hbase hstart hbytes hsome hend]
  have hbase := hnone (p := fun r => decide (2 ^ 48 ≤ r.1)) fun r h _ _ _ _ => by simpa using h
  have halign := hnone (p := fun r => decide (r.1 % 65536 ≠ 0) || decide (r.2 % 65536 ≠ 0)) fun r _ h h' _ _ => by simp [h, h']
  have hspan := hnone (p := fun r => decide (r.2 = 0) || decide (r.1 + r.2 > 2 ^ 48)) fun r _ _ _ h h' => by
    simpa using ⟨h, h'⟩
  have hlater : (decide ((s.wing c.wing.toNat).tsyncGen ≠ 0) &&
      !epPrec (s.wing c.wing.toNat).tsyncGen (BitVec.ofNat 32 (leAt c.payload 0 4))) = false := by
    rcases hnew with h | h <;> simp [h]
  simp only [syncChecks, firstFail_cons, badWing_passes hw, hflags, hzero, hbase, hall, halign, hspan, hgen, hlater, hidle]
  simp

end

/-! ### Walks and translations (R351, R354, R359) -/

section
variable {s s1 : State} {site : Site} {wx : WingIx} {w va a : Nat} {write : Bool}

theorem wingOwns_iff : wingOwns s wx a = true ↔ a < dramSize ∧ (s.ext (extOf a)).owner = some wx ∧ isExt47 (extOf a) = false ∧
    inTableStorage s a = false := by
  have howner : (s.ext (extOf a)).owner.map (·.val) = some wx.val ↔ (s.ext (extOf a)).owner = some wx := by
    cases (s.ext (extOf a)).owner <;> simp [Fin.ext_iff]
  simp only [wingOwns, Bool.and_eq_true, decide_eq_true_eq, howner, Bool.not_eq_true', and_assoc]

/-- Only an address that the wing owns resolves to device memory. -/
theorem resolve_dev {host writable : Bool} {target size : Nat} (h : resolve s w va write host target size writable = .dev a) :
    wingOwns s w a = true := by
  unfold resolve at h
  split_ifs at h with _ _ howns
  obtain rfl := Xlat.dev.inj h
  exact howns

theorem translate_dev (h : translate s site wx va write = (s1, .dev a)) : wingOwns s1 wx a = true := by
  simp only [translate] at h
  split at h
  · cases h
  · cases h
  · split at h
    · cases h
    · obtain ⟨rfl, hdev⟩ := Prod.mk.inj h
      exact resolve_dev hdev

theorem tlbHit_spec {x : TlbEntry} (h : tlbHit s site w va = some x) :
    x.loc = site.loc ∧ x.wing.val = w ∧ x.tag = site.tag ∧ x.page = va / x.size ∧
      (x ∈ s.tlb ∨ ∃ e, site.eng = some e ∧ x ∈ Tbl.get [] s.ahead e) := by
  have hserves := List.find?_some h
  have hmem := List.mem_of_find?_eq_some h
  simp only [TlbEntry.serves, Bool.and_eq_true, beq_iff_eq, and_assoc] at hserves
  obtain ⟨hloc, hwing, htag, hpage⟩ := hserves
  refine ⟨hloc, hwing, htag, hpage, ?_⟩
  cases heng : site.eng with
  | none => simp [heng] at hmem; exact .inl hmem
  | some e =>
    simp only [heng, Option.map_some, Option.getD_some, List.mem_append] at hmem
    exact hmem.symm.imp id fun h => ⟨e, rfl, h⟩

theorem walkComplete_eq {loc : Fin 10} {va : BitVec 48} {x : Xlat}
    (h : translate s (walkSite s loc wx) wx va.toNat write = (s1, x)) : exec (.walkComplete loc wx va write) s =
      .next (if x = .outside then violate s1 (some wx.val) 3 else s1) := by
  change execWalkComplete loc wx va write s = _
  simp only [execWalkComplete, h]
  cases x <;> rfl

end

/-! ### The host's answers (R118, R226, R361 to R363) -/

section
variable {s : State}

theorem atsInvalidate_eq (halive : s.alive = true) (hlink : s.dlActive = true) (fn : Fn) (addr bytes : W64) (scope : AtsScope) :
    atsInvalidate s fn addr bytes scope = ({ s with
      ats := s.ats.filter fun e => !(e.fn == fn && decide (e.pasid = scope.pasid.map BitVec.toNat) &&
        (scope.all || (decide (addr.toNat < (e.page + 1) * 4096) && decide (e.page * 4096 < addr.toNat + bytes.toNat))))
      ahead := keepAhead s.ahead fun x => !aheadHit s fn addr bytes scope x }).emit (.atsInvalidated fn) := by
  simp only [atsInvalidate, halive, hlink, invalHits, Nat.add_mul, Nat.one_mul, Bool.not_true, Bool.or_false, Bool.false_eq_true,
    ↓reduceIte]

/-- The answer for a page as it is kept. -/
def atsKept (s : State) (fn : Fn) (page : AtsPage) (rd wr : Bool) (who : HostReader) : AtsEntry :=
  { fn := fn
    pasid := match readerWing s who with | some w => wingPasid s w | none => (fnHostWing s fn).bind (wingPasid s)
    page := page.page.toNat / 4096, dest := page.dest.toNat / 4096, rd := rd, wr := wr }

/-- The requests for the page are over, and its answer is in the ATS cache. -/
def atsTaken (s : State) (fn : Fn) (page : AtsPage) (e : AtsEntry) : State :=
  let rest := s.ats.filter fun x => !(x.fn == fn && decide (x.pasid = e.pasid) && x.page == page.page.toNat / 4096)
  { s with
    atsReqs := s.atsReqs.filter fun r => !(r.1 == fn && r.2.1 == page.page.toNat / 4096)
    ats := (if rest.length < atsCap then rest else rest.drop 1) ++ [e] }

/-- The answer reaches a queue that asked, while no page request stands. -/
theorem atsCompletion_queue {fn : Fn} {page : AtsPage} {rd wr need : Bool} {q : QueIx} (halive : s.alive = true)
    (hasked : (s.atsReqs.any fun r => r.1 == fn && r.2.1 == page.page.toNat / 4096) = true) (hpri : s.priReqs = []) :
    atsCompletion s fn page rd wr need (.queue q) =
      let t := atsTaken s fn page (atsKept s fn page rd wr (.queue q))
      if (if need then wr else rd) || need then t else ringReadFails t q rTRANSLATION_MISSING := by
  have hnone (t : State) (ht : t.priReqs = []) : { t with priReqs := [] } = t := by rw [← ht]
  have hothers (p : PriReq → Bool) : s.priReqs.filter p = [] := by rw [hpri, List.filter_nil]
  simp only [atsCompletion, hasked, halive, Bool.not_true, Bool.or_false, Bool.false_eq_true, ↓reduceIte, hothers, List.map_nil,
    List.map_cons, List.foldl_cons, List.foldl_nil]
  have hkept : (atsTaken s fn page (atsKept s fn page rd wr (.queue q))).priReqs = [] := hpri
  change atsAnswer (atsTaken s fn page (atsKept s fn page rd wr (.queue q))) fn _ _ _ need (.queue q) = _
  simp only [atsAnswer, hkept, List.filter_nil, hnone _ hkept]
  cases (if need then wr else rd) <;> cases need <;> simp

theorem ringReadFails_eq {q : Nat} (code : Byte) (hstate : (s.que q).state = .enabled ∨ (s.que q).state = .halted) :
    ringReadFails s q code = s.setQue q { s.que q with state := .error, reason := code, check := 0 } := if_pos hstate

end

/-! ### Page requests (R364) -/

section
variable {s : State}

/-- The page requests of a function that the host answers. -/
def pageAsked (s : State) (fn : Fn) (page : Nat) : List PriReq :=
  s.priReqs.filter fun r => r.fn == fn && r.issued && !r.again && r.page.toNat / 4096 == page / 4096

theorem priResponse_again {fn : Fn} {page : Nat} {r : PriReq} (h : pageAsked s fn page = [r]) :
    priResponse s fn page 0 = priSend (translateAgain s r) := by
  simp only [pageAsked] at h
  simp [priResponse, h]

theorem priResponse_refused {fn : Fn} {page : Nat} {r : PriReq} (h : pageAsked s fn page = [r]) :
    priResponse s fn page 1 = priSend (pageRefused { s with priReqs := s.priReqs.filter fun x => !([r].contains x) }
      (page / 4096) r.who) := by
  simp only [pageAsked] at h
  simp only [priResponse, h, List.isEmpty_cons, Bool.false_eq_true, ↓reduceIte, Nat.one_ne_zero, List.foldl_cons, List.foldl_nil]

theorem priSend_fns : (priSend s).fns = s.fns := foldl_keeps State.fns fun _ _ => by dsimp only; split <;> rfl

theorem docFaultWith_fns (d : Nat) (code : Byte) (pc detail : W32) : (docFaultWith s d code pc detail).fns = s.fns := by
  simp only [docFaultWith]
  split <;> rfl

theorem streamFail_fns (l : Launch) (code : Byte) : (streamFail s l code).fns = s.fns := by
  have hburst : (if atWork s l then endBurst s l.eng else s).fns = s.fns := by
    simp only [endBurst]
    split
    · split <;> rfl
    · rfl
  exact (docFaultWith_fns ..).trans hburst

theorem pageRefused_fns (page : Nat) (who : HostReader) : (pageRefused s page who).fns = s.fns := by
  unfold pageRefused
  split
  · split
    · split
      · exact streamFail_fns ..
      · rfl
    · rfl
  · split
    · split <;> rfl
    · rfl
  · rfl

theorem priResponse_stops {fn : Fn} {page : Nat} (h : (pageAsked s fn page).isEmpty = false) :
    ((priResponse s fn page 2).fnSt fn).priStopped = true := by
  simp only [pageAsked] at h
  simp only [priResponse, h, Bool.false_eq_true, ↓reduceIte, OfNat.ofNat_ne_zero, OfNat.ofNat_ne_one]
  rw [State.fnSt, priSend_fns, foldl_keeps State.fns fun _ _ => pageRefused_fns .., ← State.fnSt, State.updFnSt_eq,
    State.fnSt_setFnSt_same]

end

end Sys2Proof.Machine

/-- Settles O31: TRANSLATION_SYNC and the invalidations filter the caches, a translation to device memory is one that the wing owns, and
each answer of the host comes to the reader that waits. -/
theorem translationsComeAndGo : Obligations.TranslationsComeAndGo := by
  unfold Obligations.TranslationsComeAndGo
  refine ⟨?sync, ?walk, ?walkOutside, ?dev, ?hit, ?invalidate, ?answer, ?denied, ?ringError, ?updateError, ?again, ?timeout, ?stop⟩
  case sync =>
    rintro fn hub tag wing p c s rfl ha hw hflags hzero hall hranges hgen hnew hidle
    exact scpExec_done ha (translationSync_eq (syncChecks_pass hw hflags hzero hall hranges hgen hnew hidle))
  case walk =>
    intro loc wing va write s s1 x h hx
    rw [walkComplete_eq h, if_neg hx]
  case walkOutside =>
    intro loc wing va write s s1 h
    rw [walkComplete_eq h, if_pos rfl]
  case dev =>
    intro s site wx va write s1 a h
    obtain ⟨hsize, howner, h47, htable⟩ := wingOwns_iff.mp (translate_dev h)
    exact ⟨howner, h47, htable, hsize⟩
  case hit => exact fun s site w va x h => tlbHit_spec h
  case invalidate =>
    exact fun fn addr bytes scope s halive hlink => congrArg Host.Outcome.next (atsInvalidate_eq halive hlink fn addr bytes scope)
  case answer =>
    intro fn page rd wr need s q halive hasked hok hpri hroom
    have hanswer := atsCompletion_queue (rd := rd) (wr := wr) (need := need) (q := q) halive hasked hpri
    simp only [hok, Bool.true_or, ↓reduceIte] at hanswer
    refine ⟨_, congrArg Host.Outcome.next hanswer, rfl, fun r hr => ?_, atsKept s fn page rd wr (.queue q), ?_, rfl, rfl, rfl, rfl,
      rfl⟩
    · simpa [atsTaken, imp_iff_not_or] using hr
    · simp [atsTaken]
  case denied =>
    intro fn page s q halive hasked hpri hstate
    have hanswer := atsCompletion_queue (rd := false) (wr := false) (need := false) (q := q) halive hasked hpri
    simp only [Bool.false_eq_true, Bool.or_self, ↓reduceIte] at hanswer
    rw [ringReadFails_eq _ (by exact hstate)] at hanswer
    refine ⟨_, congrArg Host.Outcome.next hanswer, ?_⟩
    simp only [State.que_setQue_same, true_and]
    intro k hk
    rw [State.que_setQue, if_neg hk]
    rfl
  case ringError => exact fun q poisoned s hstate => congrArg Host.Outcome.next (ringReadFails_eq _ hstate)
  case updateError => exact fun w c poisoned s hstate => congrArg Host.Outcome.next (if_pos hstate)
  case again => exact fun fn page r s h => congrArg Host.Outcome.next (priResponse_again h)
  case timeout => exact fun fn page r s h => congrArg Host.Outcome.next (priResponse_refused h)
  case stop =>
    intro fn page s h
    refine ⟨_, rfl, priResponse_stops ?_⟩
    simpa [pageAsked, and_assoc] using h

end

section
/-! PROOF. Who reaches what through BAR2 (11 R365 to R367): O32, from the laws of an access that is open. -/

open Sys2Proof Sys2Proof.Machine

namespace Sys2Proof.Machine

section
variable {s : State} {fn : Fn} {off len : Nat} {data : Bytes} {tee : Bool}

theorem bar2Access_readHeld (h : portHeld s fn = true) : bar2Access s fn false off len data tee = s := by
  simp [bar2Access, h]

/-- An access that is open, to a target of the function's own. -/
theorem bar2Access_own {write : Bool} (hopen : Bar2Open s fn write tee) (hoff : off < bar2End)
    (hreach : (bar2Target s off).2 = true) (hmine : ∃ w, (bar2Target s off).1 = some w ∧ bar2Mine s fn w = true) :
    bar2Access s fn write off len data tee = if write then bar2Write s fn off (fitTo (min len (4096 - off % 4096)) data)
      else bar2Read s fn off (min len (4096 - off % 4096)) := by
  obtain ⟨w, howner, hmine⟩ := hmine
  exact bar2Access_mine hopen rfl hoff (Prod.ext howner hreach) hmine

theorem bar2Write_dram (hoff : off < bar2Sp) (hmode : s.vlt.mode ≠ .error) : bar2Write s fn off data =
    { dramWrite s off data with bar2Waits := (dramWrite s off data).bar2Waits ++
        (((dramWrite s off data).lineWaits.drop s.lineWaits.length).map fun w => (fn, extOf w.1)) } :=
  (if_pos hoff).trans (if_neg hmode)

theorem bar2Write_sp (hoff : bar2Sp ≤ off) : bar2Write s fn off data =
    spWrite s ((off - bar2Sp) / spSize) ((off - bar2Sp) % spSize) data none := if_neg (Nat.not_lt.mpr hoff)

theorem bar2Read_sp {n : Nat} (hoff : bar2Sp ≤ off)
    (hgood : spBadAt s ((off - bar2Sp) / spSize) ((off - bar2Sp) % spSize) n = false) : bar2Read s fn off n =
      s.emit (.bar2Return fn (spRead s ((off - bar2Sp) / spSize) ((off - bar2Sp) % spSize) n) false) := by
  simp only [bar2Read, if_neg (Nat.not_lt.mpr hoff), hgood, Bool.false_eq_true, ↓reduceIte]

/-- An extent that the wing of a VF does not own is not the VF's. -/
theorem bar2Target_other {w : WingIx} (hfn : s.fnWing fn = some w) (hvf : fn ≠ 0) (hoff : off < bar2Sp)
    (howner : (s.ext (extOf off)).owner ≠ some w) : (bar2Target s off).1.any (bar2Mine s fn) = false := by
  have htarget : (bar2Target s off).1 = (s.ext (extOf off)).owner := by rw [bar2Target, if_pos hoff]
  rw [htarget, Option.any_eq_false]
  intro v hv
  rw [bar2Mine, if_neg hvf, hfn]
  exact decide_eq_false fun h => howner (hv.trans h.symm)

/-- Whether it is open or not, an access that does not reach memory of the function's own writes no device memory. -/
theorem bar2Access_otherDram (hother : (bar2Target s off).1.any (bar2Mine s fn) = false) :
    (bar2Access s fn true off len data tee).dram = s.dram := by
  have hviolate (v : Option Nat) : (violate s v 0).dram = s.dram := congrArg Prod.fst violate_memView
  simp only [bar2Access, ↓reduceIte]
  split_ifs
  · rfl
  · rfl
  · split <;> rfl
  · rfl
  · cases howner : (bar2Target s off).1 <;> simp_all
  · exact hviolate _

end

end Sys2Proof.Machine

/-- Settles O32: an access that is open reaches its own target or counts a violation, and one of a VF to another wing's extent never
comes to a write of device memory. -/
theorem bar2ReachesOwnMemoryOnly : Obligations.Bar2ReachesOwnMemoryOnly := by
  unfold Obligations.Bar2ReachesOwnMemoryOnly
  refine ⟨?dramWrite, ?held, ?spWrite, ?spRead, ?violatingRead, ?violatingWrite, ?pastEnd, ?vf⟩
  case dramWrite =>
    intro fn off len data tee s halive hlink hmem htee hoff hmode hreach hmine
    have hopen : Bar2Open s fn true tee := ⟨halive, hlink, hmem, nofun, htee⟩
    exact ⟨_, rfl, congrArg Host.Outcome.next
      ((bar2Access_own hopen (hoff.trans (by decide)) hreach hmine).trans (bar2Write_dram hoff hmode))⟩
  case held => exact fun _ _ _ _ _ _ hheld => congrArg Host.Outcome.next (bar2Access_readHeld hheld)
  case spWrite =>
    intro fn off len data tee s halive hlink hmem htee hoff hend hreach hmine
    have hopen : Bar2Open s fn true tee := ⟨halive, hlink, hmem, nofun, htee⟩
    exact congrArg Host.Outcome.next ((bar2Access_own hopen hend hreach hmine).trans (bar2Write_sp hoff))
  case spRead =>
    intro fn off len data tee s halive hlink hmem hfree htee hoff hend hgood hreach hmine
    have hopen : Bar2Open s fn false tee := ⟨halive, hlink, hmem, fun _ => hfree, htee⟩
    exact congrArg Host.Outcome.next ((bar2Access_own hopen hend hreach hmine).trans (bar2Read_sp hoff hgood))
  case violatingRead =>
    intro fn off len data tee s halive hlink hmem hfree htee hend hother
    have hopen : Bar2Open s fn false tee := ⟨halive, hlink, hmem, fun _ => hfree, htee⟩
    exact congrArg Host.Outcome.next (bar2Access_violates hopen rfl hend hother)
  case violatingWrite =>
    intro fn off len data tee s halive hlink hmem htee hend hother
    have hopen : Bar2Open s fn true tee := ⟨halive, hlink, hmem, nofun, htee⟩
    exact congrArg Host.Outcome.next (bar2Access_violates hopen rfl hend hother)
  case pastEnd =>
    intro fn off len data tee s halive hlink hmem hfree htee hend
    have hopen : Bar2Open s fn false tee := ⟨halive, hlink, hmem, fun _ => hfree, htee⟩
    exact congrArg Host.Outcome.next (bar2Access_outside hopen rfl hend)
  case vf =>
    intro fn w off len s data hfn hvf hoff howner
    have hother := bar2Target_other hfn hvf hoff howner
    exact ⟨bar2Access_otherDram hother, bar2Access_otherDram hother⟩

end

section
/-! PROOF. Configuration space, MSI-X masks and the DOE (14 R435, R444 to R446): O39. -/

open Sys2Proof Sys2Proof.Machine

namespace Sys2Proof.Machine

section
variable {s : State} {fn : Fn} {port : Hub} {field : PcieField} {val : W16}

/-! ### Configuration writes (R435, R446) -/

/-- Only the SR-IOV fields are no field of the function's own space. -/
def OwnField (field : PcieField) : Prop := field ≠ .vfEnable ∧ field ≠ .vfMse ∧ field ≠ .numVfs

theorem pcieConfigWrite_active (halive : s.alive = true) (hup : portActive s port = true) (hport : port = s.pcie.activeHub)
    (hfn : s.fnEnabled fn = true) : pcieConfigWrite s fn port field val = cfgWriteActive s fn field val := by
  simp [pcieConfigWrite, halive, hup, ← hport, hfn]

theorem fnEnabled_pf0 : s.fnEnabled (0 : Fn) = true := rfl

/-- With nothing pending, no message is sent. -/
theorem msixFlushAll_none (h : ∀ e ∈ s.msix, e.2.pend = false) (fn : Fn) : msixFlushAll s fn = s := by
  have hnone : s.msix.filter (fun e => e.1 / 2048 == fn.val && e.2.pend) = [] := by
    refine List.filter_eq_nil_iff.mpr fun e he => ?_
    simp [h e he]
  rw [msixFlushAll, hnone]
  rfl

/-- The function's record with one field of its configuration space written. -/
def FnSt.withCfg (f : FnSt) (field : PcieField) (v : Bool) : FnSt := cfgPut (cfgField (cfgOf f) field v) f

theorem cfgWriteActive_own (hfield : OwnField field) (hquiet : ∀ e ∈ s.msix, e.2.pend = false) : cfgWriteActive s fn field val =
    let t := s.updFnSt fn fun f => f.withCfg field (bit val.toNat 0)
    if (t.fnSt fn).ats then t else { t with ats := s.ats.filter fun e => e.fn != fn } := by
  obtain ⟨henable, hmse, hnum⟩ := hfield
  have hflush (t : State) (ht : t.msix = s.msix) : msixFlushAll t fn = t := msixFlushAll_none (ht ▸ hquiet) fn
  unfold cfgWriteActive
  split
  · contradiction
  · contradiction
  · contradiction
  · dsimp only
    rw [hflush _ (by split <;> rfl)]
    rfl

/-- A field other than ATS of a function whose cached translations, if any, may stay. -/
theorem cfgWriteActive_keepsAts (hfield : OwnField field) (hquiet : ∀ e ∈ s.msix, e.2.pend = false)
    (hats : ((s.fnSt fn).withCfg field (bit val.toNat 0)).ats = true ∨ s.ats = []) :
    cfgWriteActive s fn field val = s.updFnSt fn fun f => f.withCfg field (bit val.toNat 0) := by
  rw [cfgWriteActive_own hfield hquiet]
  dsimp only
  rw [State.updFnSt_eq, State.fnSt_setFnSt_same]
  rcases hats with h | h
  · rw [if_pos h]
  · rw [h, List.filter_nil]
    split
    · rfl
    · rw [show ([] : List AtsEntry) = (s.setFnSt fn ((s.fnSt fn).withCfg field (bit val.toNat 0))).ats from h.symm]

/-- What a write of a function's own field leaves, where the field's own effect is known. -/
theorem cfgWriteActive_field {f : FnSt} (hfield : OwnField field) (hquiet : ∀ e ∈ s.msix, e.2.pend = false)
    (hput : (s.fnSt fn).withCfg field (bit val.toNat 0) = f) (hats : f.ats = true ∨ s.ats = []) :
    let t := cfgWriteActive s fn field val
    t = { s with fns := t.fns } ∧ t.fnSt fn = f ∧ ∀ k, k ≠ fn.val → t.fnSt k = s.fnSt k := by
  subst hput
  rw [cfgWriteActive_keepsAts hfield hquiet hats]
  exact ⟨rfl, State.fnSt_setFnSt_same .., fun k hk => Tbl.get_set_other _ _ _ hk⟩

theorem withCfg_memSpace (f : FnSt) (v : Bool) : f.withCfg .memSpace v = { f with memSpace := v } := by
  simp [FnSt.withCfg, cfgPut, cfgField, cfgOf]

theorem withCfg_busMaster (f : FnSt) (v : Bool) : f.withCfg .busMaster v = { f with busMaster := v } := by
  simp [FnSt.withCfg, cfgPut, cfgField, cfgOf]

theorem withCfg_ats (f : FnSt) (v : Bool) : f.withCfg .ats v = { f with ats := v } := by
  simp [FnSt.withCfg, cfgPut, cfgField, cfgOf]

theorem withCfg_pasid (f : FnSt) (v : Bool) : f.withCfg .pasid v = { f with pasid := v } := by
  simp [FnSt.withCfg, cfgPut, cfgField, cfgOf]

theorem withCfg_msixEnable (f : FnSt) (v : Bool) : f.withCfg .msixEnable v = { f with msixEn := v } := by
  simp [FnSt.withCfg, cfgPut, cfgField, cfgOf]

theorem withCfg_functionMask (f : FnSt) (v : Bool) : f.withCfg .functionMask v = { f with fnMask := v } := by
  simp [FnSt.withCfg, cfgPut, cfgField, cfgOf]

/-- Enabling PRI ends its stop (R364). -/
theorem withCfg_pri {f : FnSt} (h : f.pri = false) : f.withCfg .pri true = { f with pri := true, priStopped := false } := by
  simp [FnSt.withCfg, cfgPut, cfgField, cfgOf, h]

/-- Disabling ATS drops the function's cached translations (R361). -/
theorem cfgWriteActive_atsOff (hquiet : ∀ e ∈ s.msix, e.2.pend = false) (hoff : bit val.toNat 0 = false) :
    cfgWriteActive s fn .ats val =
      { s.setFnSt fn { s.fnSt fn with ats := false } with ats := s.ats.filter fun e => e.fn != fn } := by
  rw [cfgWriteActive_own (field := .ats) ⟨nofun, nofun, nofun⟩ hquiet, hoff]
  simp [withCfg_ats]

/-- The standby port's space holds none of the active one's state. -/
theorem cfgWriteStandby_frame : cfgWriteStandby s fn field val = { s with pcie := { s.pcie with
    standby := (cfgWriteStandby s fn field val).pcie.standby
    standbyVfEnable := (cfgWriteStandby s fn field val).pcie.standbyVfEnable
    standbyVfMse := (cfgWriteStandby s fn field val).pcie.standbyVfMse
    standbyNumVfs := (cfgWriteStandby s fn field val).pcie.standbyNumVfs } } := by
  unfold cfgWriteStandby
  split
  · split <;> rfl
  · split <;> rfl
  · split <;> rfl
  · rfl

theorem pcieConfigWrite_standby (hport : port ≠ s.pcie.activeHub) :
    pcieConfigWrite s fn port field val = s ∨ pcieConfigWrite s fn port field val = cfgWriteStandby s fn field val := by
  simp only [pcieConfigWrite, if_neg hport]
  split
  · exact .inl rfl
  · split
    · exact .inr rfl
    · exact .inl rfl

theorem pcieConfigWrite_standbyKeeps (hport : port ≠ s.pcie.activeHub) :
    let t := pcieConfigWrite s fn port field val
    t = { s with pcie := t.pcie } ∧ t.pcie.activeHub = s.pcie.activeHub ∧ t.pcie.vfEnable = s.pcie.vfEnable ∧
      t.pcie.vfMse = s.pcie.vfMse ∧ t.pcie.numVfs = s.pcie.numVfs ∧ t.pcie.held = s.pcie.held ∧
      t.pcie.moving = s.pcie.moving := by
  rcases pcieConfigWrite_standby (fn := fn) (field := field) (val := val) hport with h | h
  · rw [h]
    exact ⟨rfl, rfl, rfl, rfl, rfl, rfl, rfl⟩
  · rw [h, cfgWriteStandby_frame]
    exact ⟨rfl, rfl, rfl, rfl, rfl, rfl, rfl⟩

/-! ### MSI-X (R444) -/

theorem fnEnabled_of_regOpen (h : regOpen s fn = true) : s.fnEnabled fn = true := by
  simp only [regOpen, regReady, memOpen, Bool.and_eq_true] at h
  tauto

theorem msixUnmask_sends {vec : Nat} (hopen : regOpen s fn = true) (hpend : (s.msixEnt (msixKey fn vec)).pend = true)
    (henabled : (s.fnSt fn).msixEn = true) (hmask : (s.fnSt fn).fnMask = false) : msixMask s fn vec false =
      msixSend ((s.updMsixEnt (msixKey fn vec) fun e => { e with mask := false }).updMsixEnt (msixKey fn vec)
        fun e => { e with pend := false }) fn { s.msixEnt (msixKey fn vec) with mask := false } := by
  have hfn (e : Msix) : (s.setMsixEnt (msixKey fn vec) e).fnEnabled fn = true := fnEnabled_of_regOpen hopen
  simp [msixMask, msixFlush, hpend, henabled, hmask, hfn]

theorem msixUnmask_silent {vec : Nat} (hpend : (s.msixEnt (msixKey fn vec)).pend = false) :
    msixMask s fn vec false = s.updMsixEnt (msixKey fn vec) fun e => { e with mask := false } := by
  simp [msixMask, msixFlush, hpend]

/-! ### DOE Discovery (R445) -/

/-- The entry of a discovery response: the protocols 0 to 2 in a chain, and none past them. -/
def doeEntry (index : Byte) : Bytes :=
  if index.toNat ≤ 2 then leBytes 2 1 ++ [index, if index.toNat < 2 then index + 1 else 0#8] else leBytes 2 0xFFFF ++ [0xFF#8, 0#8]

theorem doeDiscovery_open {index : Byte} (h : doeOpen s fn = true) :
    doeDiscovery s fn index = doeAnswer s fn (leBytes 4 1 ++ leBytes 4 3 ++ doeEntry index) := by
  simp only [doeDiscovery, h, Bool.not_true, Bool.false_eq_true, ↓reduceIte]
  rfl

theorem doeAnswer_rsp (data : Bytes) : ((doeAnswer s fn data).fnSt fn).doeRsp = data :=
  congrArg FnSt.doeRsp (State.fnSt_setFnSt_same ..)

theorem doeAnswer_keeps (data : Bytes) :
    let t := doeAnswer s fn data
    t = { s with fns := t.fns, out := t.out } ∧ (∀ k, k ≠ fn.val → t.fnSt k = s.fnSt k) ∧
      t.fnSt fn = { s.fnSt fn with doeRsp := (t.fnSt fn).doeRsp } ∧ t.out = s.out ++ [.doe fn (t.fnSt fn).doeRsp] := by
  intro t
  have hrsp : (t.fnSt fn).doeRsp = data := doeAnswer_rsp data
  rw [hrsp]
  exact ⟨rfl, fun k hk => Tbl.get_set_other _ _ _ hk, State.fnSt_setFnSt_same .., rfl⟩

theorem doeEntry_next {index : Byte} (h : index.toNat < 2) : doeEntry index = [1, 0, index, index + 1] := by
  rw [doeEntry, if_pos (by omega), if_pos h]
  rfl

theorem doeEntry_last {index : Byte} (h : index.toNat = 2) : doeEntry index = [1, 0, 2, 0] := by
  obtain rfl : index = 2#8 := BitVec.eq_of_toNat_eq h
  rfl

end

end Sys2Proof.Machine

/-- Settles O39: a write at the active port puts one field into one function's record, one at the standby port stays there, an entry
that is unmasked sends what it held pending, and DOE answers its chain. -/
theorem configurationSpaceMasksAndDoe : Obligations.ConfigurationSpaceMasksAndDoe := by
  unfold Obligations.ConfigurationSpaceMasksAndDoe
  refine ⟨?memSpace, ?busMaster, ?pasid, ?msixEnable, ?functionMask, ?atsOff, ?priOn, ?vfEnable, ?vfMse, ?numVfs, ?standby, ?sends,
    ?silent, ?discovery, ?abort, ?unsupported⟩
  case memSpace =>
    intro fn port val s halive hup hport hfn hats hquiet
    exact ⟨_, congrArg Host.Outcome.next (pcieConfigWrite_active halive hup hport hfn),
      cfgWriteActive_field ⟨nofun, nofun, nofun⟩ hquiet (withCfg_memSpace ..) hats⟩
  case busMaster =>
    intro fn port val s halive hup hport hfn hats hquiet
    exact ⟨_, congrArg Host.Outcome.next (pcieConfigWrite_active halive hup hport hfn),
      cfgWriteActive_field ⟨nofun, nofun, nofun⟩ hquiet (withCfg_busMaster ..) hats⟩
  case pasid =>
    intro fn port val s halive hup hport hfn hats hquiet
    exact ⟨_, congrArg Host.Outcome.next (pcieConfigWrite_active halive hup hport hfn),
      cfgWriteActive_field ⟨nofun, nofun, nofun⟩ hquiet (withCfg_pasid ..) hats⟩
  case msixEnable =>
    intro fn port val s halive hup hport hfn hats hquiet
    exact ⟨_, congrArg Host.Outcome.next (pcieConfigWrite_active halive hup hport hfn),
      cfgWriteActive_field ⟨nofun, nofun, nofun⟩ hquiet (withCfg_msixEnable ..) hats⟩
  case functionMask =>
    intro fn port val s halive hup hport hfn hats hquiet
    exact ⟨_, congrArg Host.Outcome.next (pcieConfigWrite_active halive hup hport hfn),
      cfgWriteActive_field ⟨nofun, nofun, nofun⟩ hquiet (withCfg_functionMask ..) hats⟩
  case atsOff =>
    intro fn port val s halive hup hport hfn hoff hquiet
    have hwrite := (pcieConfigWrite_active (field := .ats) (val := val) halive hup hport hfn).trans (cfgWriteActive_atsOff hquiet hoff)
    exact ⟨_, congrArg Host.Outcome.next hwrite, rfl, State.fnSt_setFnSt_same .., fun k hk => Tbl.get_set_other _ _ _ hk, rfl⟩
  case priOn =>
    intro fn port val s halive hup hport hfn hon hpri hats hquiet
    exact ⟨_, congrArg Host.Outcome.next (pcieConfigWrite_active halive hup hport hfn),
      cfgWriteActive_field ⟨nofun, nofun, nofun⟩ hquiet (hon ▸ withCfg_pri hpri) (.inl hats)⟩
  case vfEnable =>
    exact fun port val s halive hup hport => congrArg Host.Outcome.next (pcieConfigWrite_active halive hup hport fnEnabled_pf0)
  case vfMse =>
    exact fun port val s halive hup hport => congrArg Host.Outcome.next (pcieConfigWrite_active halive hup hport fnEnabled_pf0)
  case numVfs =>
    intro port val s halive hup hport hclear hnum
    exact congrArg Host.Outcome.next ((pcieConfigWrite_active halive hup hport fnEnabled_pf0).trans
      (if_pos ⟨rfl, by rw [hclear]; rfl, hnum⟩))
  case standby => exact fun fn port field val s _ _ hport => ⟨_, rfl, pcieConfigWrite_standbyKeeps hport⟩
  case sends =>
    intro fn vec s hopen hpend henabled hmask
    exact congrArg Host.Outcome.next ((if_pos hopen).trans (msixUnmask_sends hopen hpend henabled hmask))
  case silent =>
    intro fn vec s hopen hpend
    exact congrArg Host.Outcome.next ((if_pos hopen).trans (msixUnmask_silent hpend))
  case discovery =>
    intro fn index s hopen
    obtain ⟨hframe, hothers, hfn, hout⟩ := doeAnswer_keeps (s := s) (fn := fn) (leBytes 4 1 ++ leBytes 4 3 ++ doeEntry index)
    refine ⟨_, congrArg Host.Outcome.next (doeDiscovery_open hopen), hframe, hothers, hfn, hout, fun h => ?_, fun h => ?_⟩
    · rw [doeAnswer_rsp, doeEntry_next h]
    · rw [doeAnswer_rsp, doeEntry_last h]
  case abort =>
    intro fn s halive hlink hfn
    exact congrArg Host.Outcome.next (if_pos (by rw [halive, hlink, hfn]; rfl))
  case unsupported => exact fun fn s hopen => congrArg Host.Outcome.next (if_pos hopen)

end

section
/-! PROOF. Clocks, throttle steps, temperatures and power states (16 R508 to R518): O50. -/

open Sys2Proof Sys2Proof.Machine

namespace Sys2Proof.Machine

section
variable {s : State} {c d : Nat}

/-! ### Clock monitors (R508) -/

/-- An island of a cell, as the monitor's number gives it. -/
theorem clockTrip_cell {i l : Nat} (hi : i = 12 * c + l) (hc : c < 8) (hl : l < 12) :
    i < 96 ∧ i / 12 = c ∧ i % 12 = l := by omega

theorem clockTrip_matrix {i l : Nat} (hi : i = 12 * c + l) (hc : c < 8) (hl : l < 5) :
    clockTrip s i = quarantine (clockAlarm (s.free 1).2 i c) (uMU c l) (fromLE (s.free 1).1) := by
  obtain ⟨hcell, hdiv, hmod⟩ := clockTrip_cell hi hc (hl.trans (by decide))
  simp only [clockTrip, if_pos hcell, hdiv, hmod, if_pos hl]

theorem clockTrip_scratchpad {i l : Nat} (hi : i = 12 * c + l) (hc : c < 8) (hl : l = 7 ∨ l = 8) :
    clockTrip s i = clockHalves (clockAlarm (s.free 1).2 i c) c := by
  obtain ⟨hcell, hdiv, hmod⟩ := clockTrip_cell hi hc (by omega)
  simp only [clockTrip, if_pos hcell, hdiv, hmod]
  rcases hl with rfl | rfl <;> rfl

theorem clockTrip_stack {i k : Nat} (hi : i = 96 + 2 * k ∨ i = 97 + 2 * k) (hk : k < 8)
    (hgood : (s.stack k).failed = false) (hkept : (clockAlarm s i (8 + k)).stack k = s.stack k) : clockTrip s i =
      alarm ((clockAlarm s i (8 + k)).setStack k { s.stack k with failed := true }) 0x0202 0xFF (8 + k) k 0 0 0 := by
  have hdiv : (i - 96) / 2 = k := by omega
  simp only [clockTrip, if_neg (show ¬i < 96 by omega), if_pos (show i < 112 by omega), hdiv, hkept, hgood,
    Bool.false_eq_true, ↓reduceIte, State.updStack_eq]

theorem clockTrip_hub {i : Nat} (hlow : 112 ≤ i) (hhigh : i < 120) : clockTrip s i =
    curatorRestart (clockAlarm s i (16 + (i - 112) / 4)) (Fin.ofNat 2 ((i - 112) / 4)) := by
  simp only [clockTrip, if_neg (show ¬i < 96 by omega), if_neg (show ¬i < 112 by omega), if_pos hhigh]

theorem clockTrip_link {i : Nat} (hlow : 120 ≤ i) : clockTrip s i =
    linkDieDown (clockAlarm s i (18 + (i - 120) / 4)) (Fin.ofNat 2 ((i - 120) / 4)) := by
  simp only [clockTrip, if_neg (show ¬i < 96 by omega), if_neg (show ¬i < 112 by omega), if_neg (show ¬i < 120 by omega)]

/-! ### Throttle steps (R510 to R512) -/

/-- The step a cell moves to: at once the deeper of the two asked for, or by one toward it. -/
def nextStep (x : CellSt) (jump : Bool) : Nat :=
  if jump then max x.tempStep x.powStep
  else if max x.tempStep x.powStep > x.step then x.step + 1
  else if max x.tempStep x.powStep < x.step then x.step - 1 else x.step

/-- A move before its records are written. -/
def stepped (s : State) (c : Nat) (jump : Bool) : State :=
  if nextStep (s.cell c) jump = (s.cell c).step ∨ (!jump ∧ !passed s (s.cell c).lastStep 100000) then s
  else s.setCell c { s.cell c with step := nextStep (s.cell c) jump, lastStep := s.now }

theorem cellMove_outsideVents (jump : Bool) : (cellMove s c jump).outsideVents = (stepped s c jump).outsideVents := by
  have halarm (p : Prop) [Decidable p] (t : State) (n cause : Nat) :
      (if p then alarm t 0x0702 0xFF c c n cause 0 else t).outsideVents = t.outsideVents := by
    split
    · exact alarm_outsideVents ..
    · rfl
  by_cases hstays : nextStep (s.cell c) jump = (s.cell c).step ∨ (!jump ∧ !passed s (s.cell c).lastStep 100000)
  · rw [stepped, if_pos hstays]
    exact congrArg State.outsideVents (if_pos hstays)
  · rw [stepped, if_neg hstays]
    exact (congrArg State.outsideVents (if_neg hstays)).trans ((halarm ..).trans (logEvent_outsideVents ..))

theorem cellMove_cell (jump : Bool) (k : Nat) : (cellMove s c jump).cell k = (stepped s c jump).cell k :=
  (congrArg (·.cell k) (cellMove_outsideVents jump) :)

theorem cellMove_rst (jump : Bool) : (cellMove s c jump).rst = s.rst := by
  have h : (cellMove s c jump).rst = (stepped s c jump).rst := (congrArg State.rst (cellMove_outsideVents jump) :)
  rw [h, stepped]
  split <;> rfl

theorem stepped_other {k : Nat} (hk : k ≠ c) (jump : Bool) : (stepped s c jump).cell k = s.cell k := by
  unfold stepped
  split
  · rfl
  · exact Tbl.get_set_other _ _ _ hk

/-- A cell that may move has taken its step, and the time of it. -/
theorem stepped_moves {jump : Bool} {n : Nat} (hnext : nextStep (s.cell c) jump = n) (hne : n ≠ (s.cell c).step)
    (hdue : jump = true ∨ passed s (s.cell c).lastStep 100000 = true) :
    (stepped s c jump).cell c = { s.cell c with step := n, lastStep := s.now } := by
  have hmove : ¬(nextStep (s.cell c) jump = (s.cell c).step ∨ (!jump ∧ !passed s (s.cell c).lastStep 100000)) := by
    rcases hdue with rfl | h
    · simp [hnext, hne]
    · simp [hnext, hne, h]
  rw [stepped, if_neg hmove, State.cell_setCell_same, hnext]

theorem stepped_byOne : ((stepped s c false).cell c).step ≤ (s.cell c).step + 1 ∧
    (s.cell c).step ≤ ((stepped s c false).cell c).step + 1 := by
  have hnext : nextStep (s.cell c) false ≤ (s.cell c).step + 1 ∧ (s.cell c).step ≤ nextStep (s.cell c) false + 1 := by
    simp only [nextStep, Bool.false_eq_true, ↓reduceIte]
    split_ifs <;> omega
  unfold stepped
  split
  · omega
  · simpa using hnext

/-- A time that has passed for the power controller has passed for the throttle. -/
theorem passed_sooner {t m n : Nat} (hmn : m ≤ n) (h : passed s t n = true) : passed s t m = true := by
  simp only [passed, Bool.or_eq_true, decide_eq_true_eq] at h ⊢
  omega

/-! ### Power (R513) -/

/-- A cell above its budget asks for one step more, and takes it. -/
theorem cellPower_deeper {p : Nat} (hover : 850 < p) (hdue : passed s (s.cell c).lastStep 1000000 = true)
    (hunder : (s.cell c).underSince = none) (htemp : (s.cell c).tempStep ≤ (s.cell c).step) (hstep : (s.cell c).step < 4) :
    ((cellPower s c p).cell c).step = (s.cell c).step + 1 ∧ ((cellPower s c p).cell c).lastStep = s.now := by
  have hmin : min 4 ((s.cell c).step + 1) = (s.cell c).step + 1 := by omega
  have hpower : cellPower s c p =
      cellMove (askPower (s.setCell c { s.cell c with underSince := none }) c ((s.cell c).step + 1)) c false := by
    simp only [cellPower, if_pos hover, hdue, ↓reduceIte]
  have hasked : (askPower (s.setCell c { s.cell c with underSince := none }) c ((s.cell c).step + 1)).cell c =
      { s.cell c with powStep := (s.cell c).step + 1 } := by
    simp [askPower, hmin, hunder]
  have hnext : nextStep { s.cell c with powStep := (s.cell c).step + 1 } false = (s.cell c).step + 1 := by
    simp only [nextStep, Bool.false_eq_true, ↓reduceIte]
    rw [if_pos (by omega)]
  have hnow : (askPower (s.setCell c { s.cell c with underSince := none }) c ((s.cell c).step + 1)).now = s.now := rfl
  rw [hpower]
  generalize askPower (s.setCell c { s.cell c with underSince := none }) c ((s.cell c).step + 1) = u at hasked hnow ⊢
  have hdue' : passed u (s.cell c).lastStep 100000 = true := by
    rw [passed, hnow]
    exact passed_sooner (by decide) hdue
  rw [cellMove_cell, stepped_moves (hasked ▸ hnext) (by rw [hasked]; exact Nat.succ_ne_self _) (.inr (by rwa [hasked])), hnow]
  exact ⟨rfl, rfl⟩

/-- Dies within their budgets raise no alarm, so the tick keeps their averages and goes on to the controller. -/
theorem powerTick_quiet {pkg : Nat} {dies : List Nat} {s1 : State} (halive : s.alive = true) (hholder : s.holderHub ≠ none)
    (hquiet : ∀ d, d < 20 → 8 ≤ d → dies.getD d 0 * 10 ≤ dieBudget d * 11)
    (hs1 : s1 = (List.range 20).foldl (fun s d => s.updDie d fun x => { x with power := dies.getD d 0 }) s) :
    powerTick s pkg dies = packagePower ((List.range 8).foldl (fun s c => cellPower s c (dies.getD c 0)) s1) pkg := by
  have hheld : s1.holderHub.isNone = false := by
    have hkept : s1.holderHub = s.holderHub := hs1 ▸ foldl_keeps State.holderHub fun _ _ => rfl
    rw [hkept, Option.isNone_eq_false_iff, Option.isSome_iff_ne_none]
    exact hholder
  simp only [powerTick, halive, Bool.not_true, Bool.false_eq_true, ↓reduceIte]
  rw [List.foldl_ext _ _ s fun t d hd => ?_, ← hs1, hheld]
  · rfl
  · have hlow : (decide (d ≥ 8) && (decide (d < 16) || decide (d ≥ 18)) && decide (dies.getD d 0 * 10 > dieBudget d * 11)) =
        false := by
      by_cases hd8 : 8 ≤ d
      · rw [decide_eq_false (Nat.not_lt.mpr (hquiet d (List.mem_range.mp hd) hd8)), Bool.and_false]
      · rw [decide_eq_false (p := d ≥ 8) hd8, Bool.false_and, Bool.false_and]
    simp only [hlow, Bool.false_and, Bool.false_eq_true, ↓reduceIte]

/-! ### Power states (R514, R515) -/

/-- What a fold over the cells below `n` leaves: it gates those that `p` picks, where `p` does not read the cells. -/
theorem foldl_gateCell {p : State → Nat → Bool} (hp : ∀ (t : State) (x : Tbl CellSt) (k : Nat), p { t with cells := x } k = p t k)
    (g : CellGate) (n : Nat) :
    let t := (List.range n).foldl (fun s c => if p s c then gateCell s c g else s) s
    t = { s with cells := t.cells } ∧ ∀ k, t.cell k = if k < n ∧ p s k then { s.cell k with gate := g } else s.cell k := by
  induction n with
  | zero => simp
  | succ n ih =>
    simp only [List.range_succ, List.foldl_append, List.foldl_cons, List.foldl_nil]
    generalize (List.range n).foldl (fun s c => if p s c then gateCell s c g else s) s = t at ih ⊢
    obtain ⟨hframe, hcell⟩ := ih
    have hpt : p t n = p s n := by rw [hframe]; exact hp ..
    rw [hpt]
    cases hpn : p s n
    · refine ⟨hframe, fun k => (hcell k).trans ?_⟩
      by_cases hk : k = n
      · simp [hk, hpn]
      · simp [show k < n + 1 ↔ k < n by omega]
    · refine ⟨by rw [hframe]; rfl, fun k => ?_⟩
      simp only [↓reduceIte, gateCell, State.updCell_eq, State.cell_setCell, hcell]
      by_cases hk : k = n
      · simp [hk, hpn]
      · simp [hk, show k < n + 1 ↔ k < n by omega]

/-- PF0's sleep before the cells are gated. -/
def drained (s : State) : State := drainRunning (s.updFnSt 0 fun f => { f with d3 := true })

theorem pf0Sleep_keeps (halive : s.alive = true) :
    let t := pf0Sleep s
    (t.fnSt 0).d3 = true ∧ (∀ k, k ≠ 0 → t.fnSt k = s.fnSt k) ∧
      (∀ c, c < 8 → cellBusy s c = false → (t.cell c).gate = .power) ∧
      t = { s with fns := t.fns, reqs := t.reqs, cells := t.cells } := by
  obtain ⟨hframe, hcell⟩ := foldl_gateCell (s := drained s) (p := fun t c => !cellBusy t c) (fun _ _ _ => rfl) .power 8
  have hfold : pf0Sleep s = (List.range 8).foldl (fun s c => if !cellBusy s c then gateCell s c .power else s) (drained s) := by
    have hswap : (fun (s : State) c => if cellBusy s c then s else gateCell s c .power) =
        fun s c => if !cellBusy s c then gateCell s c .power else s := by
      funext t c
      cases cellBusy t c <;> rfl
    simp only [pf0Sleep, halive, Bool.not_true, Bool.false_eq_true, ↓reduceIte, hswap]
    rfl
  rw [← hfold] at hframe hcell
  dsimp only
  generalize pf0Sleep s = t at hframe hcell ⊢
  refine ⟨?_, fun k hk => ?_, fun c hc hidle => ?_, ?_⟩
  · rw [hframe]
    exact congrArg FnSt.d3 (State.fnSt_setFnSt_same ..)
  · rw [hframe]
    exact Tbl.get_set_other _ _ _ hk
  · rw [hcell, if_pos ⟨hc, by rw [show cellBusy (drained s) c = cellBusy s c from rfl, hidle]; rfl⟩]
  · rw [hframe]
    rfl

theorem pf0Wake_keeps :
    let t := pf0Wake s
    (t.fnSt 0).d3 = false ∧ (∀ k, k ≠ 0 → t.fnSt k = s.fnSt k) ∧
      (∀ c, c < 8 → (s.half (2 * c)).owner ≠ none ∨ (s.half (2 * c + 1)).owner ≠ none → (t.cell c).gate = .running) ∧
      t = { s with fns := t.fns, cells := t.cells } := by
  obtain ⟨hframe, hcell⟩ := foldl_gateCell (s := s.updFnSt 0 fun f => { f with d3 := false })
    (p := fun _ c => (s.half (2 * c)).owner.isSome || (s.half (2 * c + 1)).owner.isSome) (fun _ _ _ => rfl) .running 8
  rw [show (List.range 8).foldl _ _ = pf0Wake s from rfl] at hframe hcell
  dsimp only
  generalize pf0Wake s = t at hframe hcell ⊢
  refine ⟨?_, fun k hk => ?_, fun c hc hbound => ?_, ?_⟩
  · rw [hframe]
    exact congrArg FnSt.d3 (State.fnSt_setFnSt_same ..)
  · rw [hframe]
    exact Tbl.get_set_other _ _ _ hk
  · rw [hcell, if_pos ⟨hc, Bool.or_eq_true_iff.mpr (hbound.imp Option.isSome_iff_ne_none.mpr Option.isSome_iff_ne_none.mpr)⟩]
  · rw [hframe]
    rfl

theorem idleGate_free (halive : s.alive = true) (hidle : cellBusy s c = false) (hlow : (s.half (2 * c)).owner = none)
    (hhigh : (s.half (2 * c + 1)).owner = none) : idleGate s c = cellLost (gateCell s c .power) c := by
  simp [idleGate, halive, hidle, hlow, hhigh]

theorem idleGate_bound (halive : s.alive = true) (hidle : cellBusy s c = false) (hd3 : (s.fnSt 0).d3 = false)
    (hbound : (s.half (2 * c)).owner ≠ none)
    (hoff : ∀ h w, (h = 2 * c ∨ h = 2 * c + 1) → (s.half h).owner = some w → (s.wing w).state ≠ .enabled) :
    idleGate s c = gateCell s c .clock := by
  have hsome : (s.half (2 * c)).owner.isNone = false := Option.isNone_eq_false_iff.mpr (Option.isSome_iff_ne_none.mpr hbound)
  have hquiet (h : Nat) (hh : h = 2 * c ∨ h = 2 * c + 1) : (match (s.half h).owner with
      | some w => decide ((s.wing w).state = .enabled) | none => false) = false := by
    cases howner : (s.half h).owner with
    | none => rfl
    | some w => exact decide_eq_false (hoff h w hh howner)
  have hlow := hquiet (2 * c) (.inl rfl)
  have hhigh := hquiet (2 * c + 1) (.inr rfl)
  simp only [idleGate, halive, hidle, hd3, hsome, List.all_cons, List.any_cons, List.any_nil, Bool.not_true, Bool.or_false,
    Bool.false_and, Bool.false_eq_true, ↓reduceIte]
  rw [if_pos]
  rw [Bool.not_eq_true', Bool.or_eq_false_iff]
  exact ⟨hlow, hhigh⟩

/-! ### The logic dies' sensors (R516 to R518) -/

theorem hottest_spec {l : List (Nat × Nat)} (hl : l ≠ []) : ∃ h, hottest l = some h ∧ h ∈ l ∧ ∀ x ∈ l, x.2 ≤ h.2 := by
  induction l using List.reverseRecOn with
  | nil => exact absurd rfl hl
  | append_singleton l x ih =>
    by_cases hnil : l = []
    · subst hnil
      exact ⟨x, rfl, by simp⟩
    · obtain ⟨h, hfound, hmem, hmax⟩ := ih hnil
      have hlast : hottest (l ++ [x]) = if x.2 > h.2 then some x else some h := by
        rw [hottest, List.foldl_append, ← hottest, hfound]
        rfl
      simp only [hlast, List.mem_append, List.mem_singleton]
      split
      next hgt =>
        refine ⟨x, rfl, .inr rfl, ?_⟩
        rintro y (hy | rfl)
        · exact (hmax y hy).trans hgt.le
        · exact le_rfl
      next hle =>
        refine ⟨h, rfl, .inl hmem, ?_⟩
        rintro y (hy | rfl)
        · exact hmax y hy
        · exact Nat.not_lt.mp hle

theorem cellTemp_rst (t : Nat) : (cellTemp s c t).rst = s.rst := by
  unfold cellTemp
  dsimp only
  split_ifs
  · exact cellMove_rst _
  · exact cellMove_rst _
  · rfl
  · split
    · exact cellMove_rst _
    · split <;> exact cellMove_rst _
  · exact cellMove_rst _

theorem dieSample_rst (reads : List (Nat × Nat)) : (dieSample s d reads).rst = s.rst := by
  have halarm (p : Prop) [Decidable p] (t : State) (d0 d1 d2 : Nat) :
      (if p then alarm t 0x0704 0xFF d d0 d1 d2 0 else t).rst = t.rst := by
    split
    · exact (congrArg State.rst (alarm_outsideVents ..) :)
    · rfl
  unfold dieSample
  dsimp only
  split
  · rfl
  · split_ifs
    · exact cellTemp_rst _
    · rfl
    · exact (congrArg State.rst (alarm_outsideVents ..) :)
    · rfl

/-- A die without a reading keeps its cell, and no other die's record changes. -/
theorem dieSample_other {k t0 : Nat} (hk : sensorDie k ≠ d) :
    (dieSample s d [(k, t0)]).cells = s.cells ∧ ∀ j, j ≠ d → (dieSample s d [(k, t0)]).die j = s.die j := by
  have hmine : [(k, t0)].filter (fun x => sensorDie x.1 == d) = [] := by simp [hk]
  by_cases hstack : 8 ≤ d ∧ d < 16 ∧ (s.stack (d - 8)).temp ≠ 0
  · obtain ⟨hlow, hhigh, -⟩ := id hstack
    have hsample : dieSample s d [(k, t0)] = dieTemp s d ((d * 32 + 2 + (s.stack (d - 8)).hotLayer) % 32) (s.stack (d - 8)).temp
        false := by
      simp only [dieSample, hmine, if_pos hstack, List.nil_append, hottest, List.foldl_cons, List.foldl_nil, if_pos hhigh,
        if_neg (Nat.not_lt.mpr hlow)]
    rw [hsample]
    exact ⟨rfl, fun j hj => Tbl.get_set_other _ _ _ hj⟩
  · have hsample : dieSample s d [(k, t0)] = s := by
      simp only [dieSample, hmine, if_neg hstack, List.nil_append, hottest, List.foldl_nil]
    rw [hsample]
    exact ⟨rfl, fun _ _ => rfl⟩

theorem dieSample_own {k t0 : Nat} (hk : sensorDie k = c) (hc : c < 8) : dieSample s c [(k, t0)] =
    dieTemp (cellTemp s c t0) c (k % 32) t0 (decide (t0 ≥ 100) || decide (((cellTemp s c t0).cell c).tempStep ≠ 0)) := by
  have hmine : [(k, t0)].filter (fun x => sensorDie x.1 == c) = [(k, t0)] := by simp [hk]
  simp only [dieSample, hmine, if_neg (show ¬(8 ≤ c ∧ c < 16 ∧ (s.stack (c - 8)).temp ≠ 0) by omega), List.append_nil, hottest,
    List.foldl_cons, List.foldl_nil, if_pos hc]

/-- A cell at 105 °C jumps to step 4. -/
theorem cellTemp_jumps {t0 : Nat} (hhot : 105 ≤ t0) (hstep : (s.cell c).step < 4) (hpow : (s.cell c).powStep ≤ 4) :
    ((cellTemp s c t0).cell c).step = 4 := by
  have hmove : cellTemp s c t0 = cellMove (askTemp (s.setCell c { s.cell c with coolSince := none }) c 4) c true := if_pos hhot
  have hasked : (askTemp (s.setCell c { s.cell c with coolSince := none }) c 4).cell c =
      { s.cell c with coolSince := none, tempStep := 4 } := by
    simp [askTemp]
  have hnext : nextStep { s.cell c with coolSince := none, tempStep := 4 } true = 4 := max_eq_left hpow
  rw [hmove, cellMove_cell, stepped_moves (hasked ▸ hnext) (by rw [hasked]; exact hstep.ne') (.inl rfl)]

/-- What a cell that is about to jump has asked for so far. -/
def MayJump (c : Nat) (s : State) : Prop := (s.cell c).step < 4 ∧ (s.cell c).powStep ≤ 4

/-- What a hot cell and its die hold after the sample. -/
def Jumped (c t0 : Nat) (s : State) : Prop := (s.cell c).step = 4 ∧ (s.die c).temp = t0 ∧ (s.die c).hot = true

theorem Jumped.updRst {t0 : Nat} (h : Jumped c t0 s) (f : Rst → Rst) : Jumped c t0 (s.updRst f) := h

theorem dieSample_jumps {k t0 : Nat} (hk : sensorDie k = c) (hc : c < 8) (hhot : 105 ≤ t0) (hmay : MayJump c s) :
    Jumped c t0 (dieSample s c [(k, t0)]) := by
  rw [dieSample_own hk hc, decide_eq_true (show t0 ≥ 100 by omega), Bool.true_or]
  obtain ⟨hstep, hpow⟩ := hmay
  refine ⟨cellTemp_jumps hhot hstep hpow, ?_⟩
  simp [dieTemp]

end

/-- A fold over distinct items reaches `P` at one of them and keeps it, where the others keep what it needs. -/
theorem foldl_reaches {α β : Type} {P Q : α → Prop} {f : α → β → α} {b : β} (hset : ∀ a, Q a → P (f a b))
    (hwait : ∀ a x, x ≠ b → Q a → Q (f a x)) (hkeep : ∀ a x, x ≠ b → P a → P (f a x)) {l : List β} (hb : b ∈ l)
    (hnodup : l.Nodup) {a : α} (ha : Q a) : P (l.foldl f a) := by
  induction l generalizing a with
  | nil => cases hb
  | cons x l ih =>
    obtain ⟨hx, hnodup⟩ := List.nodup_cons.mp hnodup
    by_cases hxb : x = b
    · subst hxb
      exact List.foldlRecOn l f (motive := P) (hset a ha) fun a ha y hy => hkeep a y (fun h => hx (h ▸ hy)) ha
    · exact ih ((List.mem_cons.mp hb).resolve_left (Ne.symm hxb)) hnodup (hwait a x hxb ha)

section
variable {s : State} {c d : Nat}

/-- The dies' records after the sensors are read. -/
def sampled (s : State) (reads : List (Nat × Nat)) : State := (List.range 20).foldl (fun s d => dieSample s d reads) s

theorem sampled_rst (reads : List (Nat × Nat)) : (sampled s reads).rst = s.rst :=
  foldl_keeps State.rst fun _ _ => dieSample_rst _

theorem sampled_jumps {k t0 : Nat} (hk : sensorDie k = c) (hc : c < 8) (hhot : 105 ≤ t0) (hmay : MayJump c s) :
    Jumped c t0 (sampled s [(k, t0)]) := by
  have hother (t : State) (d : Nat) (hd : d ≠ c) : (dieSample t d [(k, t0)]).cell c = t.cell c ∧
      (dieSample t d [(k, t0)]).die c = t.die c := by
    obtain ⟨hcells, hdies⟩ := dieSample_other (s := t) (d := d) (k := k) (t0 := t0) (fun h => hd (h.symm.trans hk))
    exact ⟨congrArg (Tbl.get CellSt.init · c) hcells, hdies c hd.symm⟩
  have hlisted : c ∈ List.range 20 := List.mem_range.mpr (hc.trans (by decide))
  refine foldl_reaches (f := fun s d => dieSample s d [(k, t0)]) (P := Jumped c t0) (Q := MayJump c)
    (fun t ht => dieSample_jumps hk hc hhot ht) (fun t d hd ht => ?_) (fun t d hd ht => ?_) hlisted List.nodup_range hmay
  · obtain ⟨hcell, -⟩ := hother t d hd
    rwa [MayJump, hcell]
  · obtain ⟨hcell, hdie⟩ := hother t d hd
    rwa [Jumped, hcell, hdie]

theorem rst_of_alive (halive : s.alive = true) : s.rst.pwrOk = true ∧ s.rst.level = none := by
  simp only [State.alive, Bool.and_eq_true, Option.isNone_iff_eq_none] at halive
  exact halive.left

theorem thermalSample_hot {k t0 : Nat} (halive : s.alive = true) (hhot : 90 ≤ t0) :
    thermalSample s [(k, t0)] = tripCheck (sampled s [(k, t0)]) [(k, t0)] := by
  obtain ⟨hpower, -⟩ := rst_of_alive halive
  simp [thermalSample, hpower, halive, Nat.not_lt.mpr hhot, sampled]

/-! ### The thermal trip (R517, R518) -/

theorem tripValue_ge (k : Nat) : 112 ≤ tripValue k := by
  unfold tripValue
  split <;> decide

/-- Where no reading is above its trip value, only the count of such readings changes. -/
theorem tripCheck_below {reads : List (Nat × Nat)} (h : ∀ x ∈ reads, x.2 ≤ 112) : tripCheck s reads =
    s.updRst fun r => { r with overTrip := r.overTrip.filter fun k => !(reads.map (·.1)).contains k } := by
  have hnone : reads.filter (fun x => decide (x.2 > tripValue x.1)) = [] := by
    refine List.filter_eq_nil_iff.mpr fun x hx => ?_
    simpa using (h x hx).trans (tripValue_ge x.1)
  simp only [tripCheck, hnone, List.map_nil, List.filter_nil, List.append_nil]

/-- The part once a sensor has read above its trip value twice: the alarm goes first. -/
def secondOver (s : State) (k t0 : Nat) : State :=
  (alarm (s.updRst fun r => { r with overTrip := (r.overTrip.filter fun j => !([k].contains j)) ++ [k] }) 0x0704 0xFF (sensorDie k)
    (sensorDie k) (k % 32) t0 1).updRst fun r => { r with thermtrip := true }

theorem secondOver_rst (k t0 : Nat) : (secondOver s k t0).rst =
    { s.rst with overTrip := (s.rst.overTrip.filter fun j => !([k].contains j)) ++ [k], thermtrip := true } := by
  have hrst (t : State) (d0 d1 d2 d3 : Nat) : (alarm t 0x0704 0xFF (sensorDie k) d0 d1 d2 d3).rst = t.rst :=
    (congrArg State.rst (alarm_outsideVents ..) :)
  change { (alarm _ _ _ _ _ _ _ _).rst with thermtrip := true } = _
  rw [hrst]
  rfl

/-- A second reading above the trip value asserts source 8. -/
theorem tripCheck_again {k t0 : Nat} (hover : tripValue k < t0) (hagain : s.rst.overTrip = [k]) (hfirst : s.rst.thermtrip = false) :
    tripCheck s [(k, t0)] = assertSource (secondOver s k t0) 8 7 := by
  have habove : [(k, t0)].filter (fun x => decide (x.2 > tripValue x.1)) = [(k, t0)] := by simp [hover]
  have htwice : [k].filter s.rst.overTrip.contains = [k] := by simp [hagain]
  have hread : ([(k, t0)].find? fun x => x.1 == k) = some (k, t0) := by simp
  simp only [tripCheck, habove, List.map_cons, List.map_nil, htwice, hfirst, Bool.false_eq_true, ↓reduceIte, hread]
  rfl

/-- A source whose map gives level 4 or 5 begins that reset; the trip stays asserted. -/
theorem assertSource_resets {src asked n : Nat} (hfree : s.rst.level = none) (hmap : mapValue s src = n) (hn : n = 4 ∨ n = 5) :
    (assertSource s src asked).rst.level = some n ∧ (assertSource s src asked).rst.thermtrip = s.rst.thermtrip := by
  have hbegins : assertSource s src asked = resetBegins (countSource s src) n src := by
    have hcounted : (countSource s src).rst.level = none := hfree
    rcases hn with rfl | rfl <;> simp [assertSource, performLevel, hmap, hcounted]
  have hlow : n ≠ 3 := by omega
  rw [hbegins, resetBegins, if_neg hlow]
  exact ⟨rfl, rfl⟩

/-! ### DRAM layers (R343, R344) -/

/-- The layers of a stack as sensors. -/
def layerReads (k : Nat) (temps : List Nat) : List (Nat × Nat) :=
  (temps.zipIdx.map fun y => (y.2, y.1)).map fun y => ((8 + k) * 32 + 2 + y.1, y.2)

theorem mem_zipIdx_swap {temps : List Nat} {y : Nat × Nat} (h : y ∈ temps.zipIdx.map fun y => (y.2, y.1)) : y.2 ∈ temps := by
  obtain ⟨z, hz, rfl⟩ := List.mem_map.mp h
  exact List.fst_mem_of_mem_zipIdx hz

theorem zipIdx_swap_of_mem {temps : List Nat} {x : Nat} (h : x ∈ temps) : ∃ i, (i, x) ∈ temps.zipIdx.map fun y => (y.2, y.1) := by
  obtain ⟨i, hi⟩ := List.getElem?_of_mem h
  exact ⟨i, List.mem_map.mpr ⟨(x, i), List.mem_zipIdx_iff_getElem?.mpr hi, rfl⟩⟩

/-- No condition for a lower rate holds back the highest one. -/
theorem refresh_fastest (rate : Nat) {down : Nat} (h : down ≤ 2) : (if 2 ≥ rate then 2 else max 2 (min rate down)) = 2 := by
  split
  · rfl
  · omega

/-- A stack whose hottest layer, at `h`, is between 95 and 105 °C: it refreshes at 4×, and does not throttle. -/
def hotStack (x : Stack) (now : Nat) (h : Nat × Nat) : Stack :=
  { x with
    temp := h.2, hotLayer := h.1
    coolAt := sinceWhen (decide (h.2 ≤ 82)) x.coolAt now
    coolAt2 := sinceWhen (decide (h.2 ≤ 92)) x.coolAt2 now
    throttleCoolAt := sinceWhen (decide (h.2 ≤ 102)) x.throttleCoolAt now
    refresh := 2, throttle := false }

theorem dramTemp_hot {k : Nat} {temps : List Nat} (halive : s.alive = true) (hmax : ∀ x ∈ temps, x ≤ 105)
    (hhot : ∃ x ∈ temps, 95 ≤ x) (hthrottle : (s.stack k).throttle = false) :
    ∃ h, dramTemp s k temps = tripCheck (s.setStack k (hotStack (s.stack k) s.now h)) (layerReads k temps) := by
  obtain ⟨x, hx, hx95⟩ := hhot
  obtain ⟨i, hi⟩ := zipIdx_swap_of_mem hx
  obtain ⟨h, hfound, hmem, hhottest⟩ := hottest_spec (List.ne_nil_of_mem hi)
  have hlow : 95 ≤ h.2 := hx95.trans (hhottest _ hi)
  have hhigh : ¬h.2 > 105 := Nat.not_lt.mpr (hmax _ (mem_zipIdx_swap hmem))
  have hwant : refreshFor h.2 = 2 := by
    rw [refreshFor, if_neg (by omega), if_neg (by omega)]
  refine ⟨h, ?_⟩
  simp only [dramTemp, hfound, halive, hthrottle, hwant, decide_eq_false hhigh, Bool.not_true, Bool.false_eq_true, ↓reduceIte,
    Bool.false_and, Bool.or_false]
  rw [refresh_fastest _ (by split_ifs <;> decide)]
  rfl

theorem dramTemp_keeps {k : Nat} {temps : List Nat} (halive : s.alive = true) (hmax : ∀ x ∈ temps, x ≤ 105)
    (hhot : ∃ x ∈ temps, 95 ≤ x) (hthrottle : (s.stack k).throttle = false) :
    let t := dramTemp s k temps
    (t.stack k).refresh = 2 ∧ (t.stack k).throttle = false ∧ (∀ j, j ≠ k → t.stack j = s.stack j) ∧ t.dram = s.dram := by
  obtain ⟨h, hdram⟩ := dramTemp_hot halive hmax hhot hthrottle
  have hbelow : ∀ x ∈ layerReads k temps, x.2 ≤ 112 := by
    intro x hx
    obtain ⟨y, hy, rfl⟩ := List.mem_map.mp hx
    exact (hmax _ (mem_zipIdx_swap hy)).trans (by decide)
  intro t
  rw [show t = _ from hdram.trans (tripCheck_below hbelow)]
  have hstack := State.stack_setStack_same s k (hotStack (s.stack k) s.now h)
  exact ⟨congrArg Stack.refresh hstack, congrArg Stack.throttle hstack, fun j hj => Tbl.get_set_other _ _ _ hj, rfl⟩

end

end Sys2Proof.Machine

/-- Settles O50: each trip is its unit's, a cell moves toward the deeper step by one or jumps at 105 °C, a second reading above the trip
value resets the part, and the power states gate the cells that do not work. -/
theorem clocksPowerAndTemperature : Obligations.ClocksPowerAndTemperature := by
  unfold Obligations.ClocksPowerAndTemperature
  refine ⟨?matrix, ?scratchpad, ?stack, ?hub, ?link, ?sync, ?power, ?deeper, ?move, ?excursion, ?jump, ?trip, ?dram, ?gated, ?clockGated,
    ?sleep, ?wake, ?vfSleep, ?vfWake⟩
  case matrix =>
    intro island c l s halive hi hc hl
    exact congrArg Host.Outcome.next ((if_pos halive).trans (clockTrip_matrix hi hc hl))
  case scratchpad =>
    intro island c l s halive hi hc hl
    exact congrArg Host.Outcome.next ((if_pos halive).trans (clockTrip_scratchpad hi hc hl))
  case stack =>
    intro island k s halive hi hk hgood hkept
    exact congrArg Host.Outcome.next ((if_pos halive).trans (clockTrip_stack hi hk hgood hkept))
  case hub =>
    intro island s halive hlow hhigh
    exact congrArg Host.Outcome.next ((if_pos halive).trans (clockTrip_hub hlow hhigh))
  case link =>
    intro island s halive hlow
    exact congrArg Host.Outcome.next ((if_pos halive).trans (clockTrip_link hlow))
  case sync => exact fun s => ⟨_, rfl, rfl, rfl, rfl⟩
  case power =>
    intro pkg dies s s1 halive hholder _ hquiet hs1
    exact congrArg Host.Outcome.next (powerTick_quiet halive hholder hquiet hs1)
  case deeper => exact fun c p s hover hdue hunder htemp hstep => cellPower_deeper hover hdue hunder htemp hstep
  case move =>
    intro s c jump
    simp only [cellMove_cell]
    exact ⟨fun hjump => hjump ▸ stepped_byOne, fun k hk => stepped_other hk jump⟩
  case excursion =>
    intro s halive hexcursion hholder
    exact congrArg Host.Outcome.next (if_pos ⟨halive, hexcursion, Option.isSome_iff_ne_none.mpr hholder⟩)
  case jump =>
    rintro c temps t0 s halive rfl hhot hbelow hstep hpow
    have hsensor : sensorDie (32 * c.val) = c.val := Nat.mul_div_cancel_left _ (by decide)
    have hjumped : Jumped c t0 (sampled s [(32 * c.val, t0)]) := sampled_jumps hsensor c.isLt hhot ⟨hstep, hpow⟩
    have hsample := (thermalSample_hot (k := 32 * c.val) halive (show 90 ≤ t0 by omega)).trans
      (tripCheck_below (by simpa using hbelow))
    exact ⟨_, congrArg Host.Outcome.next hsample, hjumped.updRst _⟩
  case trip =>
    rintro d temps t0 s halive rfl hlogic hover hagain hfirst hmap
    have hsensor : sensorDie (32 * d.val) = d.val := Nat.mul_div_cancel_left _ (by decide)
    have hvalue : tripValue (32 * d.val) = 112 := by
      rw [tripValue, if_neg (by rw [hsensor]; omega)]
    obtain ⟨-, hnoReset⟩ := rst_of_alive halive
    have hrst := sampled_rst (s := s) [(32 * d.val, t0)]
    have hcheck := tripCheck_again (k := 32 * d.val) (s := sampled s [(32 * d.val, t0)]) (hvalue ▸ hover) (by rw [hrst, hagain])
      (by rw [hrst, hfirst])
    have hover := secondOver_rst (s := sampled s [(32 * d.val, t0)]) (32 * d.val) t0
    rw [hrst] at hover
    have hfree : (secondOver (sampled s [(32 * d.val, t0)]) (32 * d.val) t0).rst.level = none := by
      rw [hover]
      exact hnoReset
    have hsame : mapValue (secondOver (sampled s [(32 * d.val, t0)]) (32 * d.val) t0) 8 = mapValue s 8 := by
      rw [mapValue, hover, mapValue]
    obtain ⟨hbegun, hkept⟩ := assertSource_resets (asked := 7) hfree hsame hmap
    exact ⟨_, congrArg Host.Outcome.next ((thermalSample_hot halive (by omega)).trans hcheck), hkept.trans (by rw [hover]), hbegun⟩
  case dram =>
    intro stack temps s halive _ hmax hhot hthrottle _
    exact ⟨_, rfl, dramTemp_keeps halive hmax hhot hthrottle⟩
  case gated =>
    intro cell s halive hidle hlow hhigh
    exact congrArg Host.Outcome.next (idleGate_free halive hidle hlow hhigh)
  case clockGated =>
    intro cell s halive hidle hd3 hbound hoff
    exact congrArg Host.Outcome.next (idleGate_bound halive hidle hd3 hbound hoff)
  case sleep => exact fun s halive => ⟨_, rfl, pf0Sleep_keeps halive⟩
  case wake => exact fun s halive hd3 => ⟨_, congrArg Host.Outcome.next (if_pos ⟨halive, hd3⟩), pf0Wake_keeps⟩
  case vfSleep => exact fun fn s hvf halive hfn => congrArg Host.Outcome.next (if_pos ⟨hvf, halive, hfn⟩)
  case vfWake => exact fun fn s hvf halive => congrArg Host.Outcome.next (if_pos ⟨hvf, halive⟩)

end

section
/-! PROOF. A step and the queue of commands (log entry 1): O55. -/

open Sys2Proof Sys2Proof.Machine

namespace Sys2Proof.Machine

section
variable {s : State}

/-- The command at the front of the queue runs with the rest of the queue. -/
theorem step_front (c : Instr) (rest : List Instr) (s : State) :
    step { s with pending := c :: rest } = exec c { s with pending := rest } := rfl

theorem step_empty (h : s.pending = []) : step s = .next (idle s) := by
  simp only [step, h]

/-- On an empty queue only the clock changes, and no counter of it is handed on. -/
theorem idle_frame : idle s = { s with clk := (idle s).clk } ∧ (idle s).clk.master = s.clk.master := by
  unfold idle
  split
  · exact ⟨rfl, rfl⟩
  · exact ⟨rfl, rfl⟩

/-- A counter that does not slew back counts the nanosecond on every unit. -/
theorem idle_advances (h : 0 ≤ s.clk.slew) : idle s = advance s 1 := if_neg (not_lt.mpr h)

end

end Sys2Proof.Machine

/-- Settles O55: a step is a case of the queue, and an empty queue lets 1 ns pass. -/
theorem aStepRunsTheFrontCommand : Obligations.AStepRunsTheFrontCommand := by
  unfold Obligations.AStepRunsTheFrontCommand
  refine ⟨step_front, fun s hempty => ?_⟩
  obtain ⟨hframe, hmaster⟩ := idle_frame (s := s)
  refine ⟨idle s, step_empty hempty, hframe, hmaster, fun hslew => ?_⟩
  rw [idle_advances hslew]
  exact ⟨rfl, rfl⟩

end

section
/-! PROOF. Why O52 fails as it is written (17 R539, 02 R77). Its second clause claims that the last word is zero after every logged
LW_CLEAR. The record of the write can be the one that brings the accession log to 90 %: the alarm that this raises is written
into the last word. -/

open Sys2Proof Sys2Proof.Machine

namespace Sys2Proof.Machine

section
variable {s : State}

/-- An alarm is in the last word once it is raised; while both rings have failed nothing else happens to it (17 R539, R540). -/
theorem alarm_lastword (hfailed : s.vnt.bothFailed = true) (kind : W16) (wing die d0 d1 d2 d3 : Nat) :
    (alarm s kind wing die d0 d1 d2 d3).vnt.lastword ≠ [] := by
  have hput (r : VentRec) : (lastWord s r).vnt.bothFailed = true ∧ (lastWord s r).vnt.lastword ≠ [] := by
    simp [lastWord, leBytes, hfailed]
  have hraise (r : VentRec) (hsev : r.sev = sevAlarm) (producer : Nat) : raise s producer r = lastWord s r := by
    obtain ⟨hboth, -⟩ := hput r
    simp [raise, hsev, ventAlarm, ventPump, ventWrites, hboth]
  rw [alarm, hraise _ rfl]
  exact (hput _).2

/-- The record that brings the log to 90 % raises an alarm (02 R77). -/
theorem logPut_nearFull {w : Nat} (hw : 16 ≤ w) (hlast : s.log.recs.length + 1 = logNearFull) (fnId kind target detail : Nat)
    (oldH newH : Bytes) :
    ∃ u n, u.vnt = s.vnt ∧ logPut s fnId w kind target detail oldH newH = alarm u 0x0108 0xFF 16 n 0 0 0 := by
  have hraises (u : State) (hvnt : u.vnt = s.vnt) (hrecs : ∃ entry, u.log.recs = s.log.recs ++ [entry]) : ∃ v n, v.vnt = s.vnt ∧
      (if u.log.recs.length = logNearFull then alarm u 0x0108 0xFF 16 u.log.recs.length 0 0 0 else u) =
        alarm v 0x0108 0xFF 16 n 0 0 0 := by
    obtain ⟨entry, hrecs⟩ := hrecs
    exact ⟨u, _, hvnt, if_pos (by simp [hrecs, hlast])⟩
  unfold logPut
  simp only [if_neg (Nat.not_lt.mpr hw)]
  split
  · exact hraises _ rfl ⟨_, rfl⟩
  · exact hraises _ rfl ⟨_, rfl⟩

/-- The last word after the LW_CLEAR whose record brings the log to 90 %. -/
theorem vntCtlWrite_nearFull (hopen : regOpen s 0 = true) (hquarantine : s.fw.quarantine = false) (hlog : canLog s 0)
    (hfailed : s.vnt.bothFailed = true) (hlast : s.log.recs.length + 1 = logNearFull) (v : Nat) :
    (vntCtlWrite s 0 v).vnt.lastword ≠ [] := by
  simp only [vntCtlWrite, pf0Reg, hopen, hquarantine, Bool.not_true, Bool.false_eq_true, ↓reduceIte, loggedWrite]
  rw [loggedChange_applies hlog, tdiTrip_noWing _ _ (by decide)]
  obtain ⟨u, n, hvnt, halarm⟩ := logPut_nearFull (s := archived (alertPoll (s.updVnt fun x =>
    { x with irqEn := BitVec.ofNat 3 v, alertEn := bit v 3, alertDelay := BitVec.ofNat 8 (v / 256),
             lastword := if bit v 4 then [] else x.lastword }))) (w := 0xFF) (by decide) hlast ((0 : Fn) : Nat) 0 0x160004 0
    (sha384 (leBytes 4 (vntCtl s))) (sha384 (leBytes 4 (v &&& vntCtlMask)))
  rw [logAppend, halarm]
  exact alarm_lastword ((congrArg Vnt.bothFailed hvnt).trans hfailed) _ _ _ _ _ _ _

end

/-- PF0's host runs, the accession log lacks one record to 90 %, and both rings have failed. -/
def nearFullState : State := { servingState with
  log := { Log.init with recs := List.replicate 2516581 [] }
  vnt := { Vnt.init with bothFailed := true } }

theorem nearFullState_records : nearFullState.log.recs.length = 2516581 := List.length_replicate

theorem nearFullState_canLog : canLog nearFullState 0 := by
  have hroom : logFull nearFullState = false := by rw [logFull, nearFullState_records]; rfl
  exact ⟨hroom, by decide⟩

end Sys2Proof.Machine

/-- Refutes O52 by its second clause: the record of LW_CLEAR itself can raise the alarm of 02 R77, which the last word then holds. -/
theorem not_alertSidebandLasersAndTestPort : ¬ Obligations.AlertSidebandLasersAndTestPort := by
  unfold Obligations.AlertSidebandLasersAndTestPort
  rintro ⟨-, lwClause, -⟩
  have hopen : regOpen nearFullState 0 = true := by decide
  obtain ⟨t, hexec, hcleared, -⟩ := lwClause nearFullState hopen rfl nearFullState_canLog
  obtain rfl : vntCtlWrite nearFullState 0 (vntCtl nearFullState + 16) = t := Host.Outcome.next.inj hexec
  exact vntCtlWrite_nearFull hopen rfl nearFullState_canLog rfl (by rw [nearFullState_records, logNearFull]) _ hcleared

end

section
/-! PROOF. Why O40 fails as it is written (14 R456, R458). Its clause of FLOW_MODIFY_RESET claims for every state that no entry of
the table of queues waits for the flow afterwards. A table may list a key twice; a write reaches the first entry of a key only. -/

open Sys2Proof Sys2Proof.Machine

namespace Sys2Proof.Machine

/-- A queue that waits for the read of a reply of flow 0. -/
def waitingQue : Que := { Que.init with state := .enabled, awaitRead := [(0, 0, [])] }

/-- PF0's host runs with flow 0 selected, and the table lists queue 0 twice. -/
def twiceListedState : State := { servingState with queues := [(0, waitingQue), (0, waitingQue)] }

/-- The second entry of queue 0 still waits for flow 0 after the flow is reset. -/
theorem reset_keeps_secondEntry : (flowModify twiceListedState 0 .reset).queues[1]? = some (0, waitingQue) := by
  decide

end Sys2Proof.Machine

/-- Refutes O40 by its eighth clause: the second entry of the queue still holds the reply of the flow that was reset. -/
theorem not_flowsChangeStateStopAndPace : ¬ Obligations.FlowsChangeStateStopAndPace := by
  unfold Obligations.FlowsChangeStateStopAndPace
  rintro ⟨-, -, -, -, -, -, -, resetClause, -⟩
  have hslot : flowSlot twiceListedState 0 = .ok 0 := by decide
  obtain ⟨t, hexec, -, -, -, -, hnone⟩ := resetClause 0 0 twiceListedState (by decide) hslot (by decide)
  obtain rfl : flowModify twiceListedState 0 .reset = t := Host.Outcome.next.inj hexec
  exact hnone _ (List.mem_of_getElem? reset_keeps_secondEntry) (0, 0, []) List.mem_cons_self rfl

end

section
/-! PROOF. What follows the response of a command (03 R92 class D), and what a logged change leaves unchanged: outside requests and
the work for them, the wings, the TDIs, the log and the vents it is the change alone (02 R75 to R78, 05 R161, 15 R481). -/

open Sys2Proof Sys2Proof.Machine

namespace Sys2Proof.Machine

/-! ### Commands with an effect after their response -/

section
variable {op : Nat} {h : Handler} {after : State → Cmd → State} {fn : Fn} {hub : Hub} {tag : W32} {wing : Byte} {payload : Bytes}
  {s s1 : State} (ha : accepts s (sentCmd s op fn hub tag wing payload))
include ha

theorem scpAccepted_done {code : Byte} {data : Bytes} (hr : h s (sentCmd s op fn hub tag wing payload) = (s1, .done code data)) :
    scpAccepted s (sentCmd s op fn hub tag wing payload) 1 (s.fnSt fn).minor.toNat false payload.length h = decide (code = rOK) := by
  obtain ⟨hopen, hidle, hcurrent, hstill, hchecks⟩ := ha
  simp only [sentCmd] at hopen hidle hcurrent hchecks hr ⊢
  simp [scpAccepted, hopen, hidle, hcurrent, hstill, hchecks, hr]

omit ha in
theorem scpAccepted_pend {committed : Bool} {data : List Nat}
    (hr : h s (sentCmd s op fn hub tag wing payload) = (s1, .pend committed data)) :
    scpAccepted s (sentCmd s op fn hub tag wing payload) 1 (s.fnSt fn).minor.toNat false payload.length h = false := by
  simp [scpAccepted, hr]

/-- The command's own part answers as that of any other command; what follows comes after an OK. -/
theorem scpExecThen_done {code : Byte} {data : Bytes} (hr : h s (sentCmd s op fn hub tag wing payload) = (s1, .done code data)) :
    scpExecThen op h after fn hub tag wing payload s = .next
      (if code = rOK then after (scpFinish s1 (sentCmd s op fn hub tag wing payload) code data) (sentCmd s op fn hub tag wing payload)
        else scpFinish s1 (sentCmd s op fn hub tag wing payload) code data) := by
  have hsubmit := Host.Outcome.next.inj (scpExec_done ha hr)
  have haccepted := scpAccepted_done ha hr
  simp only [sentCmd] at hsubmit haccepted ⊢
  simp [scpExecThen, scpSubmitThen, hsubmit, haccepted]

theorem scpExecThen_ok {data : Bytes} (hr : h s (sentCmd s op fn hub tag wing payload) = (s1, .done rOK data)) :
    scpExecThen op h after fn hub tag wing payload s =
      .next (after (scpFinish s1 (sentCmd s op fn hub tag wing payload) rOK data) (sentCmd s op fn hub tag wing payload)) :=
  (scpExecThen_done ha hr).trans (by rw [if_pos rfl])

theorem scpExecThen_fails {code : Byte} {data : Bytes} (hr : h s (sentCmd s op fn hub tag wing payload) = (s1, .done code data))
    (hcode : code ≠ rOK) : scpExecThen op h after fn hub tag wing payload s =
      .next (scpFinish s1 (sentCmd s op fn hub tag wing payload) code data) :=
  (scpExecThen_done ha hr).trans (by rw [if_neg hcode])

theorem scpExecThen_pend {committed : Bool} {data : List Nat}
    (hr : h s (sentCmd s op fn hub tag wing payload) = (s1, .pend committed data)) :
    scpExecThen op h after fn hub tag wing payload s =
      .next (s1.updMbox (mbxKey fn hub) fun m => { m with run := some (Run.mk
        (BitVec.ofNat 16 op) (s.fnSt fn).minor tag wing payload s.now committed data) }) := by
  have hsubmit := Host.Outcome.next.inj (scpExec_pend ha hr)
  have haccepted := scpAccepted_pend (s1 := s1) hr
  simp only [sentCmd] at hsubmit haccepted ⊢
  simp [scpExecThen, scpSubmitThen, hsubmit, haccepted]

end

/-! ### What a logged change leaves unchanged -/

/-- The state outside requests and the work for them, the wings, the TDIs, the log, the host port, its interrupts and the vents. -/
def State.outsideTrips (s : State) : State := { s.outsideVents with
  reqs := [], docents := [], arbs := [], launches := [], batches := [], ckpts := [], wings := [], tdis := [], log := Log.init }

theorem outsideTrips_of_outsideVents {s t : State} (h : t.outsideVents = s.outsideVents) : t.outsideTrips = s.outsideTrips := by
  have hview := congrArg State.outsideTrips h
  exact hview

section
variable (s : State)

@[simp] theorem updWing_outsideTrips (w : Nat) (f : Wing → Wing) : (s.updWing w f).outsideTrips = s.outsideTrips := rfl
@[simp] theorem updTdi_outsideTrips (vf : Nat) (f : Tdi → Tdi) : (s.updTdi vf f).outsideTrips = s.outsideTrips := rfl
@[simp] theorem rateCount_outsideTrips (fn : Nat) : (rateCount s fn).outsideTrips = s.outsideTrips := rfl
@[simp] theorem setLog_outsideTrips (l : Log) : ({ s with log := l } : State).outsideTrips = s.outsideTrips := rfl

theorem settleHeld_outsideTrips (id : Nat) : (settleHeld s id).outsideTrips = s.outsideTrips := by
  unfold settleHeld
  split
  · rfl
  · rfl

theorem abortReq_outsideTrips (id : Nat) (code : Byte) (pc detail : W32) :
    (abortReq s id code pc detail).outsideTrips = s.outsideTrips := by
  rw [abortReq, stopWork_frame]
  exact settleHeld_outsideTrips s id

theorem logPut_outsideTrips (fnId wing kind target detail : Nat) (oldH newH : Bytes) :
    (logPut s fnId wing kind target detail oldH newH).outsideTrips = s.outsideTrips := by
  have halarm (c : Prop) [Decidable c] (t : State) (n : Nat) :
      (if c then alarm t 0x0108 0xFF 16 n 0 0 0 else t).outsideTrips = t.outsideTrips := by
    split
    · exact outsideTrips_of_outsideVents (alarm_outsideVents ..)
    · rfl
  simp only [logPut, halarm, apply_ite State.outsideTrips, updWing_outsideTrips, rateCount_outsideTrips, setLog_outsideTrips, ite_self]

theorem tdiError_outsideTrips (vf : Nat) : (tdiError s vf).outsideTrips = s.outsideTrips := by
  have haborts (l : List Req) (t : State) :
      (l.foldl (fun t r => abortReq t r.id rKEY_MISSING 0xFFFFFFFF 0) t).outsideTrips = t.outsideTrips :=
    foldl_keeps State.outsideTrips fun t r => abortReq_outsideTrips t r.id _ _ _
  simp only [tdiError]
  split
  · split
    · rw [haborts, updWing_outsideTrips, updTdi_outsideTrips]
    · rw [logAppend, logPut_outsideTrips, haborts, updWing_outsideTrips, updTdi_outsideTrips]
  · rw [updTdi_outsideTrips]

theorem tdiTrip_outsideTrips (w fn : Nat) : (tdiTrip s w fn).outsideTrips = s.outsideTrips := by
  unfold tdiTrip
  split
  · rfl
  · exact foldl_keeps State.outsideTrips tdiError_outsideTrips

theorem scpCommit_outsideTrips (c : Cmd) : (scpCommit s c).outsideTrips = s.outsideTrips :=
  (tdiTrip_outsideTrips ..).trans (logPut_outsideTrips ..)

end

end Sys2Proof.Machine

end

section
/-! PROOF. The sources of a device reset and their map (16 R493 to R506) : O47. -/

open Sys2Proof Sys2Proof.Machine

namespace Sys2Proof.Machine

section
variable {s : State}

/-! ### The level that a source performs (16 R496 to R498) -/

theorem performLevel_none {src level : Nat} (hlevel : ¬ (3 ≤ level ∧ level ≤ 5)) : performLevel s src level = s :=
  if_pos (by omega)

theorem performLevel_begins {src level : Nat} (hlevel : 3 ≤ level ∧ level ≤ 5) (hidle : s.rst.level = none) :
    performLevel s src level = resetBegins s level src := by
  rw [performLevel, if_neg (by omega), hidle]

theorem performLevel_absorbed {src level l : Nat} (hl : s.rst.level = some l) (hle : level ≤ l) : performLevel s src level = s := by
  rw [performLevel, hl]
  split
  · rfl
  · exact if_neg fun h => absurd h.1 (Nat.not_lt.mpr hle)

theorem performLevel_escalates {src level l : Nat} (hlevel : 3 ≤ level ∧ level ≤ 5) (hl : s.rst.level = some l) (hlt : l < level)
    (hpower : s.rst.pwrOk = true) : performLevel s src level = resetBegins s level src := by
  rw [performLevel, if_neg (by omega), hl]
  exact if_pos ⟨hlt, hpower⟩

/-- The level of a source is that of its map entry, or the one asked for under AS_REQUESTED. -/
theorem assertSource_mapped {src asked v : Nat} (hv : mapValue s src = v) (hmapped : v ≠ 7) :
    assertSource s src asked = performLevel (countSource s src) src v := by
  rw [assertSource, hv, if_neg hmapped]

theorem assertSource_asRequested {src asked : Nat} (hv : mapValue s src = 7) :
    assertSource s src asked = performLevel (countSource s src) src asked := by
  rw [assertSource, if_pos hv]

/-! ### What a reset keeps (16 R503, R505) -/

/-- The archive's write changes the firmware domain alone. -/
theorem archiveWrite_frame (s : State) : archiveWrite s = { s with fw := (archiveWrite s).fw } := by
  unfold archiveWrite
  split
  · rfl
  · rfl

/-- The ember domain is kept, and RST_LAST names the source and the level. -/
theorem resetBegins_ember (s : State) (level src : Nat) :
    (resetBegins s level src).rst.level = some level ∧ (resetBegins s level src).rst.source = src ∧
    (resetBegins s level src).rst.last = BitVec.ofNat 32 (src * 4096 + level * 256) ∧
    (resetBegins s level src).rst.boot = s.rst.boot ∧ (resetBegins s level src).rst.count = s.rst.count ∧
    (resetBegins s level src).rst.map = s.rst.map ∧ (resetBegins s level src).plinth = s.plinth ∧
    (resetBegins s level src).par.term = s.par.term ∧ (resetBegins s level src).vlt.tamper = s.vlt.tamper := by
  unfold resetBegins
  split
  · rw [archiveWrite_frame s]
    exact ⟨rfl, rfl, rfl, rfl, rfl, rfl, rfl, rfl, rfl⟩
  · exact ⟨rfl, rfl, rfl, rfl, rfl, rfl, rfl, rfl, rfl⟩

/-! ### The map (16 R494) -/

/-- Without an override the fused table holds. -/
theorem mapValue_factory {src : Nat} (hfused : Tbl.get RstMap.init s.rst.map src = RstMap.init) :
    mapValue s src = factoryMap.getD src 6 := by
  rw [mapValue, hfused]
  rfl

/-- The value of a source is that of its map entry. -/
theorem mapValue_congr {t : State} {k : Nat} (h : Tbl.get RstMap.init t.rst.map k = Tbl.get RstMap.init s.rst.map k) :
    mapValue t k = mapValue s k := by
  rw [mapValue, mapValue, h]

/-- A register of the device block acts for PF0 (14 R438). -/
theorem pf0Reg_reaches (hopen : regOpen s 0 = true) (f : State → State) : pf0Reg s 0 f = f s := by
  simp only [pf0Reg, hopen, Bool.not_true, Bool.false_eq_true, if_false, if_true]

/-- A logged write that names no wing: outside the log and the vents it is the write, and its record is the log's next. -/
theorem loggedWrite_noWing {fn : Fn} (hlog : canLog s fn) {w : Nat} (hw : 16 ≤ w) (off width old new : Nat) (apply : State → State) :
    ∃ log : Log, (loggedWrite s fn w off width old new apply).outsideVents = { (apply s).outsideVents with log := log } ∧
      log.next = (apply s).log.next + 1 := by
  rw [loggedWrite, loggedChange_applies hlog, tdiTrip_noWing _ _ hw]
  exact logPut_noWing _ _ _ _ _ _ _ hw

/-- An entry of the map is written, a setting that the archive holds. -/
def mapped (s : State) (src : Nat) (m : RstMap) : State :=
  archived { s with rst := { s.rst with map := Tbl.set RstMap.init s.rst.map src m } }

section
variable {src : Nat} {val : W32} (hopen : regOpen s 0 = true) (hsrc : src < 12) (hquarantine : s.fw.quarantine = false)
include hopen hsrc hquarantine

theorem rstMapWrite_ignored (hen : bit val.toNat 11 = true) (hbad : bit (allowedMask.getD src 0) (fld val.toNat 8 3) = false) :
    rstMapWrite s 0 src val = ignoredWrite s 0 0xFF (0x140040 + 4 * src) 4 (rstMapReg s src)
      (rstMapReg (mapped s src { en := true, value := fld val.toNat 8 3 }) src) := by
  simp only [rstMapWrite, pf0Reg, hopen, if_neg (Nat.not_le.mpr hsrc), hquarantine, hen, hbad]
  rfl

/-- The state that an allowed override leaves: its record is the log's next, and the map holds it. -/
theorem rstMapWrite_applies (hallowed : bit val.toNat 11 = true → bit (allowedMask.getD src 0) (fld val.toNat 8 3) = true)
    (hlog : canLog s 0) :
    (rstMapWrite s 0 src val).rst.map =
      Tbl.set RstMap.init s.rst.map src { en := bit val.toNat 11, value := fld val.toNat 8 3 } ∧
    (rstMapWrite s 0 src val).log.next = s.log.next + 1 := by
  have hok : ¬ (s.fw.quarantine = true ∨
      bit val.toNat 11 = true ∧ (!bit (allowedMask.getD src 0) (fld val.toNat 8 3)) = true) := by
    simpa [hquarantine] using hallowed
  have hwrite : rstMapWrite s 0 src val = loggedWrite s (0 : Fn) 0xFF (0x140040 + 4 * src) 4 (rstMapReg s src)
      (rstMapReg (mapped s src { en := bit val.toNat 11, value := fld val.toNat 8 3 }) src)
      fun s => mapped s src { en := bit val.toNat 11, value := fld val.toNat 8 3 } := by
    rw [rstMapWrite, pf0Reg_reaches hopen, if_neg (Nat.not_le.mpr hsrc)]
    exact if_neg hok
  obtain ⟨log, hframe, hnext⟩ := loggedWrite_noWing hlog (w := 0xFF) (by decide) (0x140040 + 4 * src) 4 (rstMapReg s src)
    (rstMapReg (mapped s src { en := bit val.toNat 11, value := fld val.toNat 8 3 }) src)
    fun s => mapped s src { en := bit val.toNat 11, value := fld val.toNat 8 3 }
  have hmap := congrArg (Rst.map ∘ State.rst) hframe
  have hlog := congrArg (Log.next ∘ State.log) hframe
  rw [hwrite]
  exact ⟨hmap, hlog.trans hnext⟩

end

end

end Sys2Proof.Machine

/-- Settles O47: each command is its source's assertion, and the level it performs follows from the map and from the level in
progress. -/
theorem deviceResetsComeFromTheirSources : Obligations.DeviceResetsComeFromTheirSources := by
  unfold Obligations.DeviceResetsComeFromTheirSources
  refine ⟨fun _ => rfl, fun _ => rfl, fun _ => rfl, fun _ => rfl, ?begins, ?absorbed, ?escalates, ?countsOnly, ?asRequested, ?fused,
    ?ember, ?ignored, ?logged⟩
  case begins =>
    rintro s src asked v - hv hlevel hidle
    rw [assertSource_mapped hv (by omega)]
    exact performLevel_begins hlevel hidle
  case absorbed =>
    rintro s src asked v l - hv hlevel hl hle
    rw [assertSource_mapped hv (by omega)]
    exact performLevel_absorbed hl hle
  case escalates =>
    rintro s src asked v l - hv hlevel hthree hl hlt hpower
    rw [assertSource_mapped hv (by omega)]
    exact performLevel_escalates (by omega) hl hlt hpower
  case countsOnly =>
    rintro s src asked - hv
    rw [assertSource_mapped hv (by decide)]
    exact performLevel_none (by decide)
  case asRequested =>
    rintro s src asked - hv hlevel hidle
    rw [assertSource_asRequested hv]
    exact performLevel_begins hlevel hidle
  case fused => exact fun s src _ hfused => mapValue_factory hfused
  case ember => exact fun s level src _ _ => resetBegins_ember s level src
  case ignored =>
    rintro fn src val s hopen hsrc hquarantine hen hbad
    exact congrArg Host.Outcome.next (rstMapWrite_ignored hopen hsrc hquarantine hen hbad)
  case logged =>
    rintro src val s hopen hsrc hquarantine hallowed hlog
    obtain ⟨hmap, hnext⟩ := rstMapWrite_applies hopen hsrc hquarantine hallowed hlog
    refine ⟨_, rfl, ?_, fun k hk => mapValue_congr ?_, hnext⟩
    · rw [hmap, Tbl.get_set_same]
    · rw [hmap, Tbl.get_set_other _ _ _ hk]

end

section
/-! PROOF. SPDM over a DOE that takes objects: the negotiation, the evidence and the sessions (15 R465, R475 to R477) : O42. -/

open Sys2Proof Sys2Proof.Machine

namespace Sys2Proof.Machine

section
variable {s : State} {fn : Fn}

/-! ### Which requests are taken -/

section
variable (hopen : doeOpen s fn = true) (htested : s.vlt.mode ≠ .selfTest) (hserves : vaultServes s = true)
include hopen htested hserves

theorem spdmTake_takes (f : State → State) : spdmTake s fn f = f s := by
  simp only [spdmTake, hopen, hserves, Bool.not_true, Bool.false_eq_true, if_false, if_neg htested]

theorem spdmAfter_takes (hnegotiated : (s.fnSt fn).spdm = .negotiated) (f : State → State) : spdmAfter s fn f = f s := by
  rw [spdmAfter, spdmTake_takes hopen htested hserves, if_pos hnegotiated]

theorem inSession_takes (hnegotiated : (s.fnSt fn).spdm = .negotiated) {sid : W32} {x : Session}
    (hfound : findSession s fn sid = some x) (hfinished : x.finished = true) (f : State → State) : inSession s fn sid f = f s := by
  simp only [inSession, spdmAfter_takes hopen htested hserves hnegotiated, hfound, hfinished, if_true]

end

/-! ### The octets of an object (log entry 31) -/

/-- The version and the code of a message stand behind the two words of its object's header. -/
theorem doeObject_head (proto : Nat) (version code : Byte) (rest : Bytes) :
    slice (doeObject proto (version :: code :: rest)) 8 2 = [version, code] := by
  have hwords : ∃ m, 4 * ((rest.length + 1 + 1 + 3) / 4) = m + 1 + 1 := ⟨4 * ((rest.length + 1 + 1 + 3) / 4) - 2, by omega⟩
  obtain ⟨m, hm⟩ := hwords
  simp [slice, doeObject, fitTo, hm, leBytes]

/-- An answered request leaves what its own part left, but for the function's response. -/
theorem spdmSend_keeps (data : Bytes) :
    let t := spdmSend s fn data
    t = { s with fns := t.fns, out := t.out } ∧ (∀ k, k ≠ fn.val → t.fnSt k = s.fnSt k) ∧
      t.fnSt fn = { s.fnSt fn with doeRsp := doeObject 1 data } ∧ t.out = s.out ++ [.doe fn (t.fnSt fn).doeRsp] := by
  obtain ⟨hframe, hothers, hown, hout⟩ := doeAnswer_keeps (s := s) (fn := fn) (doeObject 1 data)
  exact ⟨hframe, hothers, hown.trans (by rw [doeAnswer_rsp]), hout⟩

/-- A step of the negotiation is answered once, and touches its function alone. -/
theorem spdmStep_keeps (phase : SpdmPhase) (version code : Byte) (rest : Bytes) :
    let t := spdmSend (s.updFnSt fn fun x => { x with spdm := phase }) fn (version :: code :: rest)
    t = { s with fns := t.fns, out := t.out } ∧ (t.fnSt fn).spdm = phase ∧ (∀ k, k ≠ fn.val → t.fnSt k = s.fnSt k) ∧
      t.out = s.out ++ [.doe fn (t.fnSt fn).doeRsp] ∧ slice (t.fnSt fn).doeRsp 8 2 = [version, code] := by
  intro t
  obtain ⟨hframe, hothers, hown, hout⟩ :=
    spdmSend_keeps (s := s.updFnSt fn fun x => { x with spdm := phase }) (fn := fn) (version :: code :: rest)
  have hrsp : (t.fnSt fn).doeRsp = doeObject 1 (version :: code :: rest) := congrArg FnSt.doeRsp hown
  refine ⟨hframe, (congrArg FnSt.spdm hown).trans ?_, fun k hk => (hothers k hk).trans ?_, hout, hrsp ▸ doeObject_head ..⟩
  · exact congrArg FnSt.spdm (State.fnSt_setFnSt_same ..)
  · exact Tbl.get_set_other _ _ _ hk

/-! ### Evidence (R476, R477) -/

theorem getMeasurements_answers {index : Byte} {nonce r : Bytes} {n : Nat} (hindex : index ≠ 0)
    (hrecord : measRecord s fn index.toNat nonce = some (n, r)) :
    let body : Bytes := [0x12#8, 0x60#8, 0#8, 1#8, BitVec.ofNat 8 n] ++ leBytes 3 r.length ++ r ++ (s.free 32).1 ++ leBytes 2 0
    getMeasurements s fn index.toNat nonce =
      spdmSend (s.free 32).2 fn (body ++ fitTo 96 (Config.sign (sha384 (fitTo 32 nonce ++ body)))) := by
  have hne : index.toNat ≠ 0 := fun h => hindex (BitVec.eq_of_toNat_eq h)
  simp only [getMeasurements, hrecord, if_neg hne]

/-- A VF of a wing obtains the device's blocks, its wing's and the signature; a VF of none the device's alone. -/
theorem measIndices_vf (hvf : fn ≠ 0) :
    measIndices s fn = [1, 2, 3, 4, 5, 6, 7, 8] ++ (match s.fnWing fn with | some w => [16 + w.val] | none => []) ∧
      measSigned s fn = (s.fnWing fn).isSome := by
  simp only [measIndices, measSigned, if_neg hvf, decide_eq_false hvf, Bool.false_or]
  cases s.fnWing fn with
  | none => exact ⟨rfl, trivial⟩
  | some w => exact ⟨rfl, trivial⟩

/-! ### Sessions (R465, R475) -/

theorem keyExchange_full {sid : W32} {anchor : BitVec 384} {both : Bool}
    (hfull : 4 ≤ (s.vlt.sessions.filter fun x => x.fn == fn).length ∨ 256 ≤ s.vlt.sessions.length) :
    keyExchange s fn sid anchor both = spdmError s fn 3 := if_pos hfull

/-- The session that a key exchange opens, with the secret that its free values give. -/
def newSession (s : State) (fn : Fn) (sid : W32) (anchor : BitVec 384) (both : Bool) : Session :=
  { fn := fn, sid := sid, finished := false, seqNo := 0, secret := (s.free 272).1.drop 224,
    officer := both && decide (fn = 0) && decide (anchor = s.vlt.anchor) && decide (anchor ≠ 0) }

theorem keyExchange_opens {sid : W32} {anchor : BitVec 384} {both : Bool}
    (hmine : (s.vlt.sessions.filter fun x => x.fn == fn).length < 4) (hall : s.vlt.sessions.length < 256)
    (hfresh : ((s.vlt.sessions.filter fun x => x.fn == fn).any fun x => x.sid == sid) = false) :
    ∃ data, keyExchange s fn sid anchor both = spdmSend ((s.free 272).2.updVlt fun v =>
      { v with sessions := v.sessions ++ [newSession s fn sid anchor both] }) fn data := by
  have hroom : ¬ ((s.vlt.sessions.filter fun x => x.fn == fn).length ≥ 4 ∨ s.vlt.sessions.length ≥ 256) := by omega
  simp only [keyExchange, if_neg hroom, hfresh]
  exact ⟨_, rfl⟩

end

end Sys2Proof.Machine

/-- Settles O42: a taken request comes to its own part, which answers once. -/
theorem attestationAndSessions : Obligations.AttestationAndSessions := by
  unfold Obligations.AttestationAndSessions
  refine ⟨?version, ?capabilities, ?algorithms, ?digests, ?certificate, ?challenge, ?measurements, ?blocksOfWing, ?blocksOfNone,
    ?exchange, ?exchangeFull, ?finish, ?finishBad, ?heartbeat, ?keyUpdate, ?endSession⟩
  case version =>
    intro fn s hopen htested hserves
    exact congrArg Host.Outcome.next (spdmTake_takes hopen htested hserves _)
  case capabilities =>
    intro fn s hopen htested hserves hversion
    refine ⟨_, congrArg Host.Outcome.next ((spdmTake_takes hopen htested hserves _).trans (if_neg hversion)), ?_⟩
    obtain ⟨hframe, hphase, hothers, hout, hhead⟩ := spdmStep_keeps (s := (s.free 1).2) (fn := fn) .capabilities 0x12 0x61
      ([0#8, 0#8, 0#8] ++ (s.free 1).1 ++ [0#8, 0#8] ++ leBytes 4 0x63D6 ++ leBytes 4 0x4000 ++ leBytes 4 0x4000)
    exact ⟨hframe, hphase, hothers, hout, hhead⟩
  case algorithms =>
    intro fn s hopen htested hserves hcapabilities
    refine ⟨_, congrArg Host.Outcome.next ((spdmTake_takes hopen htested hserves _).trans (if_neg (not_not.mpr hcapabilities))), ?_⟩
    exact spdmStep_keeps .negotiated 0x12 0x63 _
  case digests =>
    intro fn s hopen htested hserves hnegotiated
    exact congrArg Host.Outcome.next (spdmAfter_takes hopen htested hserves hnegotiated _)
  case certificate =>
    intro fn slot s hopen htested hserves hnegotiated hslot
    exact congrArg Host.Outcome.next ((spdmAfter_takes hopen htested hserves hnegotiated _).trans (if_neg (Nat.not_lt.mpr hslot)))
  case challenge =>
    rintro fn slot nonce s body hopen htested hserves hnegotiated hslot rfl
    exact congrArg Host.Outcome.next ((spdmAfter_takes hopen htested hserves hnegotiated _).trans (if_neg (Nat.not_lt.mpr hslot)))
  case measurements =>
    rintro fn index nonce s n r body hopen htested hserves hnegotiated hindex hrecord rfl
    exact congrArg Host.Outcome.next
      ((spdmAfter_takes hopen htested hserves hnegotiated _).trans (getMeasurements_answers hindex hrecord))
  case blocksOfWing =>
    intro s fn w hwing hvf
    simpa [hwing] using measIndices_vf (s := s) hvf
  case blocksOfNone =>
    intro s fn hwing hvf
    simpa [hwing] using measIndices_vf (s := s) hvf
  case exchange =>
    intro fn sid anchor both s hopen htested hserves hnegotiated hmine hall hfresh
    obtain ⟨data, hopens⟩ := keyExchange_opens (anchor := anchor) (both := both) hmine hall hfresh
    refine ⟨_, congrArg Host.Outcome.next ((spdmAfter_takes hopen htested hserves hnegotiated _).trans hopens),
      (newSession s fn sid anchor both).secret, rfl, rfl, rfl, fun k hk => Tbl.get_set_other _ _ _ hk⟩
  case exchangeFull =>
    intro fn sid anchor both s hopen htested hserves hnegotiated hfull
    exact congrArg Host.Outcome.next ((spdmAfter_takes hopen htested hserves hnegotiated _).trans (keyExchange_full hfull))
  case finish =>
    intro fn sid s x hopen htested hserves hnegotiated hfound hopenSession
    refine congrArg Host.Outcome.next ((spdmAfter_takes hopen htested hserves hnegotiated _).trans ?_)
    simp only [hfound, hopenSession]
    rfl
  case finishBad =>
    intro fn sid s x hopen htested hserves hnegotiated hfound hopenSession
    refine congrArg Host.Outcome.next ((spdmAfter_takes hopen htested hserves hnegotiated _).trans ?_)
    simp only [hfound, hopenSession]
    rfl
  case heartbeat =>
    intro fn sid s x hopen htested hserves hnegotiated hfound hfinished
    exact congrArg Host.Outcome.next (inSession_takes hopen htested hserves hnegotiated hfound hfinished _)
  case keyUpdate =>
    intro fn sid s x hopen htested hserves hnegotiated hfound hfinished
    exact congrArg Host.Outcome.next (inSession_takes hopen htested hserves hnegotiated hfound hfinished _)
  case endSession =>
    intro fn sid s x hopen htested hserves hnegotiated hfound hfinished
    exact congrArg Host.Outcome.next (inSession_takes hopen htested hserves hnegotiated hfound hfinished _)

end

section
/-! PROOF. The firmware slots and the archive (18 R544 to R556) : O53. -/

open Sys2Proof Sys2Proof.Machine

namespace Sys2Proof.Machine

/-! ### FIRMWARE_LOAD (R549, R550) -/

section
variable {s : State} {c : Cmd}

section
variable (hw : c.wing = 0xFF#8) (hslot : leAt c.payload 0 1 ≤ 1) (hz : zeroAt c.payload 2 2 = true) (hz8 : zeroAt c.payload 8 24 = true)
  (hbooted : isBooted s.fw (bit (leAt c.payload 0 1) 0) = false)
include hw hslot hz hz8 hbooted

/-- The first chunk starts the slot anew. -/
theorem firmwareLoad_first (hfirst : leAt c.payload 1 1 = 1)
    (hkept : ¬ ((s.fw.slot (bit (leAt c.payload 0 1) 0)).state = .committed ∧ onTrial s.fw = true)) (hoffset : leAt c.payload 4 4 = 0)
    (hfits : (c.payload.drop 32).length ≤ 0x2000000) (hboth : bothHubs s = true) :
    firmwareLoad s c =
      (s.updFw fun f => f.setSlot (bit (leAt c.payload 0 1) 0) (Slot.init.chunk true (c.payload.drop 32)), .done rOK []) := by
  have hkept' : (s.fw.slot (bit (leAt c.payload 0 1) 0)).state = .committed → onTrial s.fw = false := by
    simpa using hkept
  have hbit : bit 1 0 = true := rfl
  have hflags : fld 1 2 6 = 0 := rfl
  unfold firmwareLoad
  rw [checked_pass]
  · simp only [hfirst, hoffset, hboth, hbit, if_true, Nat.zero_add, ne_eq, not_true, false_or, if_neg (Nat.not_lt.mpr hfits)]
    rfl
  · simp [firstFail_cons, noWing_passes hw, hfirst, hbit, hflags, hz, hz8, hbooted, Nat.not_lt.mpr hslot]
    exact hkept'

section
variable (hloading : (s.fw.slot (bit (leAt c.payload 0 1) 0)).state = .loading)
include hloading

/-- A later chunk passes the checks of a slot that is loading. -/
theorem firmwareLoad_later (hlater : bit (leAt c.payload 1 1) 0 = false) (hflags : fld (leAt c.payload 1 1) 2 6 = 0) :
    firmwareLoad s c =
      if leAt c.payload 4 4 ≠ (s.fw.slot (bit (leAt c.payload 0 1) 0)).data.length ∨
        leAt c.payload 4 4 + (c.payload.drop 32).length > 0x2000000 then
        (s, .done rADDR_RANGE (leBytes 4 (s.fw.slot (bit (leAt c.payload 0 1) 0)).data.length))
      else if !bothHubs s then (s, .done rRES_UNAVAILABLE [])
      else if !bit (leAt c.payload 1 1) 1 then
        (s.updFw fun f => f.setSlot (bit (leAt c.payload 0 1) 0) ((s.fw.slot (bit (leAt c.payload 0 1) 0)).chunk false (c.payload.drop 32)), .done rOK [])
      else if imageVerifies s ((s.fw.slot (bit (leAt c.payload 0 1) 0)).data ++ c.payload.drop 32) then
        (s.updFw fun f => f.setSlot (bit (leAt c.payload 0 1) 0)
          { (s.fw.slot (bit (leAt c.payload 0 1) 0)).chunk false (c.payload.drop 32) with state := .valid }, .done rOK [])
      else (s.updFw fun f => f.setSlot (bit (leAt c.payload 0 1) 0) Slot.init, .done rIMAGE_INVALID []) := by
  unfold firmwareLoad
  rw [checked_pass]
  · simp only [hlater]
    rfl
  · simp [firstFail_cons, noWing_passes hw, hlater, hflags, hz, hz8, hbooted, Nat.not_lt.mpr hslot, hloading]

theorem firmwareLoad_appends (hflags : leAt c.payload 1 1 = 0)
    (hoffset : leAt c.payload 4 4 = (s.fw.slot (bit (leAt c.payload 0 1) 0)).data.length)
    (hfits : leAt c.payload 4 4 + (c.payload.drop 32).length ≤ 0x2000000) (hboth : bothHubs s = true) :
    firmwareLoad s c =
      (s.updFw fun f => f.setSlot (bit (leAt c.payload 0 1) 0) ((s.fw.slot (bit (leAt c.payload 0 1) 0)).chunk false (c.payload.drop 32)), .done rOK []) := by
  rw [firmwareLoad_later hw hslot hz hz8 hbooted hloading (by rw [hflags]; rfl) (by rw [hflags]; rfl), if_neg (by omega), hboth, hflags]
  rfl

theorem firmwareLoad_misplaced (hflags : leAt c.payload 1 1 = 0)
    (hoffset : leAt c.payload 4 4 ≠ (s.fw.slot (bit (leAt c.payload 0 1) 0)).data.length) :
    firmwareLoad s c = (s, .done rADDR_RANGE (leBytes 4 (s.fw.slot (bit (leAt c.payload 0 1) 0)).data.length)) := by
  rw [firmwareLoad_later hw hslot hz hz8 hbooted hloading (by rw [hflags]; rfl) (by rw [hflags]; rfl), if_pos (.inl hoffset)]

/-- The last chunk makes a slot that verifies VALID, and any other EMPTY. -/
theorem firmwareLoad_last (hflags : leAt c.payload 1 1 = 2)
    (hoffset : leAt c.payload 4 4 = (s.fw.slot (bit (leAt c.payload 0 1) 0)).data.length)
    (hfits : leAt c.payload 4 4 + (c.payload.drop 32).length ≤ 0x2000000) (hboth : bothHubs s = true) :
    firmwareLoad s c =
      (if imageVerifies s ((s.fw.slot (bit (leAt c.payload 0 1) 0)).data ++ c.payload.drop 32) then s.updFw (fun f => f.setSlot (bit (leAt c.payload 0 1) 0)
          { (s.fw.slot (bit (leAt c.payload 0 1) 0)).chunk false (c.payload.drop 32) with state := .valid })
        else s.updFw (fun f => f.setSlot (bit (leAt c.payload 0 1) 0) Slot.init),
       .done (if imageVerifies s ((s.fw.slot (bit (leAt c.payload 0 1) 0)).data ++ c.payload.drop 32) then rOK else rIMAGE_INVALID) []) := by
  rw [firmwareLoad_later hw hslot hz hz8 hbooted hloading (by rw [hflags]; rfl) (by rw [hflags]; rfl), if_neg (by omega), hboth, hflags]
  cases imageVerifies s ((s.fw.slot (bit (leAt c.payload 0 1) 0)).data ++ c.payload.drop 32) <;> rfl

end

end

/-! ### Activation, commit and rollback (R555, R556) -/

section
variable (hw : c.wing = 0xFF#8)
include hw

section
variable (hslot : leAt c.payload 0 1 ≤ 1) (hz : zeroAt c.payload 1 3 = true)
include hslot hz

theorem firmwareActivate_tries (hvalid : (s.fw.slot (bit (leAt c.payload 0 1) 0)).state = .valid) (htrial : onTrial s.fw = false)
    (hlong : longFull s = false) (hboth : bothHubs s = true)
    (hverifies : imageVerifies s (s.fw.slot (bit (leAt c.payload 0 1) 0)).data = true) :
    firmwareActivate s c = (scpCommit (s.updFw fun f =>
      { f.setSlot (bit (leAt c.payload 0 1) 0) { s.fw.slot (bit (leAt c.payload 0 1) 0) with state := .trial } with fails := 0 }) c, .done rOK []) := by
  unfold firmwareActivate
  rw [checked_pass]
  simp [firstFail_cons, noWing_passes hw, hz, Nat.not_lt.mpr hslot, hvalid, htrial, hlong, hboth, hverifies]

theorem firmwareActivate_invalid (hvalid : (s.fw.slot (bit (leAt c.payload 0 1) 0)).state = .valid) (htrial : onTrial s.fw = false)
    (hverifies : imageVerifies s (s.fw.slot (bit (leAt c.payload 0 1) 0)).data = false) :
    firmwareActivate s c = (s, .done rIMAGE_INVALID []) := by
  unfold firmwareActivate
  apply checked_fail
  simp [firstFail_cons, noWing_passes hw, hz, Nat.not_lt.mpr hslot, hvalid, htrial, hverifies]

theorem firmwareActivate_refused (hstate : (s.fw.slot (bit (leAt c.payload 0 1) 0)).state ≠ .valid ∨ onTrial s.fw = true) :
    firmwareActivate s c = (s, .done rNOT_PERMITTED []) := by
  unfold firmwareActivate
  apply checked_fail
  by_cases hvalid : (s.fw.slot (bit (leAt c.payload 0 1) 0)).state = .valid
  · simp [firstFail_cons, noWing_passes hw, hz, Nat.not_lt.mpr hslot, hstate.resolve_left (not_not.mpr hvalid)]
  · simp [firstFail_cons, noWing_passes hw, hz, Nat.not_lt.mpr hslot, hvalid]

end

theorem firmwareCommit_commits (hkeep : leAt c.payload 0 1 = 0) (hz : zeroAt c.payload 1 3 = true) (htrial : onTrial s.fw = true)
    (hquarantine : s.fw.quarantine = false) (hmode : s.vlt.mode ≠ .error) (hboth : bothHubs s = true) :
    firmwareCommit s c = (commitImage s c false, .done rOK [s.fw.booted_.schema, 0#8, 0#8, 0#8]) := by
  unfold firmwareCommit
  rw [checked_pass]
  · rw [hkeep]
    rfl
  · simp [firstFail_cons, noWing_passes hw, hkeep, hz, htrial, hquarantine, hmode, hboth, fld]

theorem rollback_rolls (htrial : onTrial s.fw = true) (hlong : longFull s = false) (hboth : bothHubs s = true) :
    rollback s c =
      (scpCommit (s.updFw fun f => f.setSlot f.running { f.booted_ with state := .valid }) c, .done rOK []) := by
  unfold rollback
  rw [checked_pass]
  simp [firstFail_cons, noWing_passes hw, htrial, hlong, hboth]

end

end

/-! ### The archive (R551, R554) -/

section
variable (f : Fw) (schema : Byte) (tag : Bytes) (entries : List (Nat × Bytes))

/-- A write puts the copy over the one of lower GENERATION. -/
theorem writeCopy_of_le (h : f.archA.gen.toNat ≤ f.archB.gen.toNat) :
    writeCopy f schema tag entries = { f with archA := { schema := schema, gen := f.archB.gen + 1, tag := tag, entries := entries } } := by
  simp only [writeCopy, if_pos h]

theorem writeCopy_of_lt (h : f.archB.gen.toNat < f.archA.gen.toNat) :
    writeCopy f schema tag entries = { f with archB := { schema := schema, gen := f.archA.gen + 1, tag := tag, entries := entries } } := by
  simp only [writeCopy, if_neg (Nat.not_le.mpr h)]

/-- A write leaves the slots and the quarantine as they are. -/
theorem writeCopy_keeps : (writeCopy f schema tag entries).running = f.running ∧ (writeCopy f schema tag entries).slot = f.slot ∧
    (writeCopy f schema tag entries).quarantine = f.quarantine := by
  rcases Nat.lt_or_ge f.archB.gen.toNat f.archA.gen.toNat with h | h
  · rw [writeCopy_of_lt f schema tag entries h]
    exact ⟨rfl, rfl, rfl⟩
  · rw [writeCopy_of_le f schema tag entries h]
    exact ⟨rfl, rfl, rfl⟩

/-- Two writes in a row, whatever the slots in between: both copies carry the tag. -/
theorem writeCopy_twice {g : Fw} (hA : f.archA.gen.toNat < 2 ^ 63) (hB : f.archB.gen.toNat < 2 ^ 63)
    (hgA : g.archA = (writeCopy f schema tag entries).archA) (hgB : g.archB = (writeCopy f schema tag entries).archB) :
    (writeCopy g schema tag entries).archA.tag = tag ∧ (writeCopy g schema tag entries).archB.tag = tag := by
  have hnext {x : W64} (hx : x.toNat < 2 ^ 63) : (x + 1).toNat = x.toNat + 1 := by
    have hone : (1 : W64).toNat = 1 := rfl
    rw [BitVec.toNat_add, hone]
    omega
  rcases Nat.lt_or_ge f.archB.gen.toNat f.archA.gen.toNat with h | h
  · rw [writeCopy_of_lt f schema tag entries h] at hgA hgB
    have hle : g.archA.gen.toNat ≤ g.archB.gen.toNat := by rw [hgA, hgB, hnext hA]; exact Nat.le_succ _
    rw [writeCopy_of_le g schema tag entries hle]
    exact ⟨rfl, congrArg ArchCopy.tag hgB⟩
  · rw [writeCopy_of_le f schema tag entries h] at hgA hgB
    have hlt : g.archB.gen.toNat < g.archA.gen.toNat := by rw [hgA, hgB, hnext hB]; exact Nat.lt_succ_self _
    rw [writeCopy_of_lt g schema tag entries hlt]
    exact ⟨congrArg ArchCopy.tag hgA, rfl⟩

end

section
variable {s : State}

theorem archiveWrite_writes (hdirty : s.fw.archDirty = true) (hcommitted : (s.fw.slot s.fw.running).state = .committed)
    (hquarantine : s.fw.quarantine = false) : (archiveWrite s).fw =
      { writeCopy s.fw s.fw.booted_.schema (imageTag s.fw.committed.data) (liveEntries s ++ keptEntries s.fw) with
        archDirty := false } := by
  have hwrites : s.fw.archDirty = true ∧ s.fw.booted_.state = .committed ∧ (!s.fw.quarantine) = true :=
    ⟨hdirty, hcommitted, by rw [hquarantine]; rfl⟩
  rw [archiveWrite, if_pos hwrites]
  rfl

/-- A TRIAL image writes none. -/
theorem archiveWrite_trial (htrial : (s.fw.slot s.fw.running).state = .trial) : archiveWrite s = s :=
  if_neg fun h => by simp [Fw.booted_, htrial] at h

/-! ### The slots of a commit -/

/-- The slots that a commit leaves: the trial image is COMMITTED, and the former one VALID. -/
def commitSlots (f : Fw) : Fw :=
  { (f.setSlot f.running { f.slot f.running with state := .committed }).setSlot (!f.running)
      { f.slot (!f.running) with
        state := if (f.slot (!f.running)).state = .committed then .valid else (f.slot (!f.running)).state } with
    quarantine := false, archDirty := false }

/-- The entries that a commit archives. -/
def commitEntries (s : State) (discard : Bool) : List (Nat × Bytes) :=
  if discard then liveEntries State.reset else liveEntries s ++ keptEntries s.fw

/-- A commit writes one copy, moves the slots, and writes the other copy. -/
theorem commitImage_fw (s : State) (c : Cmd) (discard : Bool) :
    let put (f : Fw) : Fw := writeCopy f (s.fw.slot s.fw.running).schema (imageTag (s.fw.slot s.fw.running).data)
      (commitEntries s discard)
    (commitImage s c discard).fw = put (commitSlots (put s.fw)) := by
  intro put
  have hcommit := congrArg State.fw (scpCommit_outsideTrips (s.updFw put) c)
  have hfw : (scpCommit (s.updFw put) c).fw = put s.fw := hcommit
  obtain ⟨hrunning, hslots, -⟩ : (put s.fw).running = s.fw.running ∧ (put s.fw).slot = s.fw.slot ∧ _ := writeCopy_keeps _ _ _ _
  have hmoves (f : Fw) (hf : f = put s.fw) :
      ({ (f.setSlot s.fw.running { s.fw.slot s.fw.running with state := .committed }).setSlot (!s.fw.running)
          { f.slot (!s.fw.running) with
            state := if (f.slot (!s.fw.running)).state = .committed then .valid else (f.slot (!s.fw.running)).state } with
        quarantine := false, archDirty := false } : Fw) = commitSlots (put s.fw) := by
    rw [hf, commitSlots, hrunning, hslots]
  exact congrArg put (hmoves _ hfw)

/-- What a commit leaves in the slots. -/
theorem commitSlots_moves (f : Fw) : ((commitSlots f).slot f.running).state = .committed ∧
    ((f.slot (!f.running)).state = .committed → ((commitSlots f).slot (!f.running)).state = .valid) ∧
    (commitSlots f).quarantine = false ∧ (commitSlots f).archA = f.archA ∧ (commitSlots f).archB = f.archB := by
  unfold commitSlots
  cases f.running
  · exact ⟨rfl, fun h => if_pos h, rfl, rfl, rfl⟩
  · exact ⟨rfl, fun h => if_pos h, rfl, rfl, rfl⟩

theorem commitImage_commits {s : State} (hA : s.fw.archA.gen.toNat < 2 ^ 63) (hB : s.fw.archB.gen.toNat < 2 ^ 63) (c : Cmd)
    (discard : Bool) :
    ((commitImage s c discard).fw.slot s.fw.running).state = .committed ∧
    ((s.fw.slot (!s.fw.running)).state = .committed → ((commitImage s c discard).fw.slot (!s.fw.running)).state = .valid) ∧
    (commitImage s c discard).fw.quarantine = false ∧
    (commitImage s c discard).fw.archA.tag = imageTag (s.fw.slot s.fw.running).data ∧
    (commitImage s c discard).fw.archB.tag = imageTag (s.fw.slot s.fw.running).data := by
  rw [commitImage_fw]
  dsimp only
  generalize (s.fw.slot s.fw.running).schema = schema
  generalize imageTag (s.fw.slot s.fw.running).data = tag
  generalize commitEntries s discard = entries
  obtain ⟨hcommitted, hvalid, hquarantine, harchA, harchB⟩ := commitSlots_moves (writeCopy s.fw schema tag entries)
  obtain ⟨htagA, htagB⟩ := writeCopy_twice s.fw schema tag entries hA hB harchA harchB
  obtain ⟨hrunning, hslots, -⟩ := writeCopy_keeps s.fw schema tag entries
  obtain ⟨-, hslots', hquarantine'⟩ := writeCopy_keeps (commitSlots (writeCopy s.fw schema tag entries)) schema tag entries
  rw [hrunning] at hcommitted hvalid
  rw [hslots] at hvalid
  rw [hslots', hquarantine']
  exact ⟨hcommitted, hvalid, hquarantine, htagA, htagB⟩

end

end Sys2Proof.Machine

/-- Settles O53: each command past its checks, and the copies that a write of the archive leaves. -/
theorem firmwareIsLoadedActivatedCommittedAndRolledBack : Obligations.FirmwareIsLoadedActivatedCommittedAndRolledBack := by
  unfold Obligations.FirmwareIsLoadedActivatedCommittedAndRolledBack
  refine ⟨?first, ?appends, ?misplaced, ?last, ?activate, ?activateRefused, ?commit, ?committed, ?rollback, ?archive, ?trial⟩
  case first =>
    rintro fn hub tag wing p c s rfl ha hw hslot hz hz8 hflags hbooted hkept hoffset hfits hboth
    exact scpExec_done ha (firmwareLoad_first hw hslot hz hz8 hbooted hflags hkept hoffset hfits hboth)
  case appends =>
    rintro fn hub tag wing p c s rfl ha hw hslot hz hz8 hflags hbooted hloading hoffset hfits hboth
    exact scpExec_done ha (firmwareLoad_appends hw hslot hz hz8 hbooted hloading hflags hoffset hfits hboth)
  case misplaced =>
    rintro fn hub tag wing p c s rfl ha hw hslot hz hz8 hflags hbooted hloading hoffset
    exact scpExec_done ha (firmwareLoad_misplaced hw hslot hz hz8 hbooted hloading hflags hoffset)
  case last =>
    rintro fn hub tag wing p c s rfl ha hw hslot hz hz8 hflags hbooted hloading hoffset hfits hboth
    exact scpExec_done ha (firmwareLoad_last hw hslot hz hz8 hbooted hloading hflags hoffset hfits hboth)
  case activate =>
    rintro fn hub tag wing p c s rfl ha hw hslot hz hvalid htrial hlong hboth
    cases hverifies : imageVerifies s (s.fw.slot (bit (leAt p 0 1) 0)).data with
    | true => exact scpExecThen_ok ha (firmwareActivate_tries hw hslot hz hvalid htrial hlong hboth hverifies)
    | false => exact scpExecThen_fails ha (firmwareActivate_invalid hw hslot hz hvalid htrial hverifies) (by decide)
  case activateRefused =>
    rintro fn hub tag wing p c s rfl ha hw hslot hz hstate
    exact scpExecThen_fails ha (firmwareActivate_refused hw hslot hz hstate) (by decide)
  case commit =>
    rintro fn hub tag wing p c s rfl ha hw hkeep hz htrial hquarantine hmode hboth
    exact scpExec_done ha (firmwareCommit_commits hw hkeep hz htrial hquarantine hmode hboth)
  case committed =>
    exact fun s c discard _ _ hA hB => commitImage_commits hA hB c discard
  case rollback =>
    rintro fn hub tag wing p c s rfl ha hw htrial hlong hboth
    exact scpExecThen_ok ha (rollback_rolls hw htrial hlong hboth)
  case archive =>
    intro s hboth halive hdirty hcommitted hquarantine
    have hfw := archiveWrite_writes hdirty hcommitted hquarantine
    refine ⟨archiveWrite s, congrArg Host.Outcome.next (if_pos ⟨hboth, halive⟩), archiveWrite_frame s, ?_⟩
    rw [hfw]
    rcases Nat.lt_or_ge s.fw.archB.gen.toNat s.fw.archA.gen.toNat with hlt | hle
    · rw [writeCopy_of_lt _ _ _ _ hlt]
      exact ⟨rfl, .inl rfl, fun h => absurd h (Nat.not_le.mpr hlt), fun _ => ⟨rfl, rfl⟩, rfl, rfl⟩
    · rw [writeCopy_of_le _ _ _ _ hle]
      exact ⟨rfl, .inr rfl, fun _ => ⟨rfl, rfl⟩, fun h => absurd hle (Nat.not_le.mpr h), rfl, rfl⟩
  case trial =>
    intro s htrial
    exact congrArg Host.Outcome.next ((ite_eq_right_iff.mpr fun _ => archiveWrite_trial htrial))

end

section
/-! PROOF. Margins, repairs and the test modes (18 R557 to R566) : O54. -/

open Sys2Proof Sys2Proof.Machine

namespace Sys2Proof.Machine

/-! ### Margins (R557 to R559) -/

/-- A byte of a payload. -/
theorem leAt_byte_lt (b : Bytes) (off : Nat) : leAt b off 1 < 256 := by
  have hone : ∃ x, slice b off 1 = [x] := by
    rcases h : b.drop off with _ | ⟨x, rest⟩
    · exact ⟨0#8, by simp [slice, h]⟩
    · exact ⟨x, by simp [slice, h]⟩
  obtain ⟨x, hx⟩ := hone
  simp only [leAt, hx, fromLE_cons, fromLE_nil]
  omega

/-- A sweep of −32 to 31 in steps: the last setting is at most 31. -/
theorem marginPin_within {step : Nat} (hstep : 1 ≤ step) (a b : Byte) : marginPin step a b = [0x80, 0x80] ∨
    ∃ lo hi : Int, marginPin step a b = [BitVec.ofInt 8 lo, BitVec.ofInt 8 hi] ∧ -32 ≤ lo ∧ lo ≤ hi ∧ hi ≤ 31 := by
  unfold marginPin
  generalize hn : ceilDiv 64 step = n
  have hlast : step * n ≤ 63 + step := by
    have hdiv := Nat.mul_div_le (64 + step - 1) step
    rw [← hn, ceilDiv]
    omega
  dsimp only
  split
  · exact .inl rfl
  next hi =>
    have hin : a.toNat % (n + 1) < n := by
      have hle : a.toNat % (n + 1) < n + 1 := Nat.mod_lt _ n.succ_pos
      omega
    have hwidth : b.toNat % (n - a.toNat % (n + 1)) < n - a.toNat % (n + 1) := Nat.mod_lt _ (by omega)
    generalize a.toNat % (n + 1) = i at hin hwidth
    generalize b.toNat % (n - i) = j at hwidth
    have hhigh : step * (i + j) + step ≤ step * n := by
      rw [← Nat.mul_succ]
      exact Nat.mul_le_mul_left step (by omega)
    have hlow : step * i ≤ step * (i + j) := Nat.mul_le_mul_left step (by omega)
    refine .inr ⟨_, _, rfl, ?_, ?_, ?_⟩
    · omega
    · omega
    · omega

section
variable {s : State} {c : Cmd} (hw : c.wing = 0xFF#8)
include hw

theorem marginRun_measures (hz : zeroAt c.payload 4 4 = true) (hmode : leAt c.payload 2 1 ≤ 3)
    (hstep : 1 ≤ leAt c.payload 3 1 ∧ leAt c.payload 3 1 ≤ 8) (hrange : leAt c.payload 0 1 ≤ 7 ∧ leAt c.payload 1 1 ≤ 31)
    (hfailed : (s.stack (leAt c.payload 0 1)).failed = false) (huse : stackInUse s (leAt c.payload 0 1) = false)
    (hlong : longFull s = false) :
    marginRun s c = ((s.free 160).2, .done rOK ([BitVec.ofNat 8 (leAt c.payload 2 1), 0] ++ leBytes 2 80 ++
      [BitVec.ofNat 8 (marginAt s (leAt c.payload 0 1) (leAt c.payload 1 1) (leAt c.payload 2 1)),
        BitVec.ofNat 8 (leAt c.payload 3 1), 0, 0] ++ leBytes 8 s.now ++
      (List.range 80).flatMap fun i =>
        marginPin (leAt c.payload 3 1) ((s.free 160).1.getD (2 * i) 0) ((s.free 160).1.getD (2 * i + 1) 0))) := by
  unfold marginRun
  rw [checked_pass]
  · rfl
  · simp [firstFail_eq_none_iff, noWing_passes hw, stackBusy, hz, hfailed, huse, hlong]
    omega

/-- A setting of mode 0 is bits 7 to 0 of its MEM_TRAIN register. -/
theorem marginApply_timing (hz : zeroAt c.payload 4 4 = true) (hmode : leAt c.payload 2 1 = 0)
    (hoffset : leAt c.payload 3 1 ≤ 31 ∨ 224 ≤ leAt c.payload 3 1) (hrange : leAt c.payload 0 1 ≤ 7 ∧ leAt c.payload 1 1 ≤ 31)
    (hfailed : (s.stack (leAt c.payload 0 1)).failed = false) (huse : stackInUse s (leAt c.payload 0 1) = false) :
    marginApply s c = (archived ((scpCommit s c).updStack (leAt c.payload 0 1) fun x =>
      { x with train := Tbl.set 0#32 x.train (leAt c.payload 1 1) (BitVec.ofNat 32
        ((Tbl.get 0#32 (s.stack (leAt c.payload 0 1)).train (leAt c.payload 1 1)).toNat / 256 * 256 + leAt c.payload 3 1)) }),
      .done rOK []) := by
  have hbyte := leAt_byte_lt c.payload 3
  have hsigned : -32 ≤ signed 8 (leAt c.payload 3 1) ∧ signed 8 (leAt c.payload 3 1) ≤ 31 := by
    simp only [signed]
    split
    · omega
    · omega
  have hvalue (v off : Nat) : v - fld v (8 * 0) 8 * 2 ^ (8 * 0) + off * 2 ^ (8 * 0) = v / 256 * 256 + off := by
    simp only [fld]
    omega
  unfold marginApply
  rw [checked_pass]
  · simp only [hmode, marginAt, hvalue]
  · simp [firstFail_eq_none_iff, noWing_passes hw, stackBusy, hz, hfailed, huse, hmode]
    omega

/-! ### Repairs (R560 to R563) -/

theorem repairQuery_stack (hz : zeroAt c.payload 2 2 = true) (hkind : leAt c.payload 0 1 = 0) (hstack : leAt c.payload 1 1 ≤ 7)
    {x : Stack} (hx : x = s.stack (leAt c.payload 1 1)) :
    repairQuery s c = (s, .done rOK (leBytes 4 (8192 - x.softRows.length - x.hardRows.length) ++ leBytes 4 x.softRows.length ++
      leBytes 4 x.hardRows.length ++ leBytes 4 (4096 - x.hardRows.length) ++ leBytes 4 x.laneGroups.length ++
      leBytes 8 (maskOf 64 fun g => x.laneGroups.contains g) ++ leBytes 4 0)) := by
  subst hx
  unfold repairQuery
  rw [checked_pass]
  · simp only [hkind, if_true]
  · simp [firstFail_cons, noWing_passes hw, hz, hkind, Nat.not_lt.mpr hstack]

theorem repairQuery_link (hz : zeroAt c.payload 2 2 = true) (hkind : leAt c.payload 0 1 = 1) (hlink : leAt c.payload 1 1 ≤ 30) :
    repairQuery s c = (s, .done rOK (leBytes 2 (linkLanes (leAt c.payload 1 1)) ++
      [BitVec.ofNat 8 (linkSpares s (leAt c.payload 1 1) 0), BitVec.ofNat 8 (linkSpares s (leAt c.payload 1 1) 1)] ++
      List.replicate 28 0)) := by
  unfold repairQuery
  rw [checked_pass]
  · simp only [hkind]
    rfl
  · simp [firstFail_cons, noWing_passes hw, hz, hkind, Nat.not_lt.mpr hlink]

/-- The repairs of the command's bank among those of a kind. -/
def bankRepairs (c : Cmd) (l : List (Nat × Nat × Nat)) : Nat :=
  (l.filter fun y => y.1 == leAt c.payload 1 1 && y.2.1 == leAt c.payload 2 1).length

/-- A stack whose row has a soft repair (mode 0), a hard one (1), or no soft one any more (2). -/
def rowRepaired (mode : Nat) (r : Nat × Nat × Nat) (x : Stack) : Stack :=
  match mode with
  | 0 => { x with softRows := x.softRows.filter (· != r) ++ [r] }
  | 1 => { x with softRows := x.softRows.filter (· != r), hardRows := x.hardRows ++ [r] }
  | _ => { x with softRows := x.softRows.filter (· != r) }

section
variable (hlong : longFull s = false)
include hlong

/-- A row of a stack in service that no ENABLED wing holds, with a spare for what is asked. -/
theorem repairRow_repairs (hz : zeroAt c.payload 6 2 = true)
    (hrange : leAt c.payload 0 1 ≤ 7 ∧ leAt c.payload 1 1 ≤ 31 ∧ leAt c.payload 2 1 ≤ 63 ∧ leAt c.payload 4 2 < 24576)
    (hfailed : (s.stack (leAt c.payload 0 1)).failed = false)
    (hunused : ∀ w, (s.ext (48 * leAt c.payload 0 1 + leAt c.payload 4 2 / 512)).owner = some w → (s.wing w).state ≠ .enabled)
    (hnew : (leAt c.payload 1 1, leAt c.payload 2 1, leAt c.payload 4 2) ∉ (s.stack (leAt c.payload 0 1)).hardRows)
    {mode : Nat} (hmode : leAt c.payload 3 1 = mode) (hmodes : mode ≤ 2)
    (hundo : mode = 2 →
      (leAt c.payload 1 1, leAt c.payload 2 1, leAt c.payload 4 2) ∈ (s.stack (leAt c.payload 0 1)).softRows)
    (hspare : mode < 2 → bankRepairs c (s.stack (leAt c.payload 0 1)).softRows +
      bankRepairs c (s.stack (leAt c.payload 0 1)).hardRows < 4)
    (hhard : mode = 1 → bankRepairs c (s.stack (leAt c.payload 0 1)).hardRows < 2) :
    repairRow s c = (archived ((moveRow (scpCommit s c) (leAt c.payload 0 1) (leAt c.payload 1 1) (leAt c.payload 2 1)
      (leAt c.payload 4 2)).updStack (leAt c.payload 0 1)
        (rowRepaired mode (leAt c.payload 1 1, leAt c.payload 2 1, leAt c.payload 4 2))), .done rOK []) := by
  obtain ⟨hstack, hpc, hbank, hrow⟩ := hrange
  subst hmode
  unfold bankRepairs at hspare hhard
  unfold repairRow
  rw [checked_pass]
  · rfl
  · cases howner : (s.ext (48 * leAt c.payload 0 1 + leAt c.payload 4 2 / 512)).owner with
    | none =>
      simp [firstFail_eq_none_iff, noWing_passes hw, hz, hfailed, hlong, hnew]
      exact ⟨hmodes, ⟨hstack, hpc, hbank, hrow⟩, hundo, fun h => hspare (by omega), fun h => Nat.le_of_lt_succ (hhard h)⟩
    | some w =>
      simp [firstFail_eq_none_iff, noWing_passes hw, hz, hfailed, hlong, hnew, hunused w howner]
      exact ⟨hmodes, ⟨hstack, hpc, hbank, hrow⟩, hundo, fun h => hspare (by omega), fun h => Nat.le_of_lt_succ (hhard h)⟩

section
variable (hz : zeroAt c.payload 4 4 = true)
include hz

theorem repairLane_stack (hkind : leAt c.payload 0 1 = 0) (hstack : leAt c.payload 1 1 ≤ 7) (hlane : leAt c.payload 2 2 < 2560)
    (hfailed : (s.stack (leAt c.payload 1 1)).failed = false) (huse : stackInUse s (leAt c.payload 1 1) = false)
    (hgroup : stackGroup (leAt c.payload 2 2) ∉ (s.stack (leAt c.payload 1 1)).laneGroups) :
    repairLane s c = (archived ((scpCommit s c).updStack (leAt c.payload 1 1) fun x =>
      { x with laneGroups := x.laneGroups ++ [stackGroup (leAt c.payload 2 2)] }), .done rOK []) := by
  unfold repairLane
  rw [checked_pass]
  · simp only [hkind, if_true]
  · simp [firstFail_eq_none_iff, noWing_passes hw, stackBusy, hz, hkind, hfailed, huse, hgroup, hlong]
    omega

theorem repairLane_link (hkind : leAt c.payload 0 1 = 1) (hlink : leAt c.payload 1 1 ≤ 30)
    (hlane : leAt c.payload 2 2 % 32768 < linkLanes (leAt c.payload 1 1)) (hspares : (s.link (leAt c.payload 1 1)).spares = [])
    (hrepairs : (s.link (leAt c.payload 1 1)).repairs = []) :
    repairLane s c = (archived ((scpCommit s c).updLink (leAt c.payload 1 1) fun l =>
      { l with repairs := l.repairs ++ [leAt c.payload 2 2 / 32768 * 1024 + leAt c.payload 2 2 % 32768] }), .done rOK []) := by
  unfold repairLane
  rw [checked_pass]
  · simp only [hkind]
    rfl
  · simp [firstFail_cons, noWing_passes hw, hz, hkind, hspares, hrepairs, hlong, Nat.not_le.mpr hlane, Nat.not_lt.mpr hlink]

end

end

end

/-! ### TEST_CTL (R565, R566) -/

section
variable {s : State} (hopen : regOpen s 0 = true)
include hopen

/-- UNLOCK 1 of one who may is logged, and sets the bits that it may set. -/
theorem testCtlWrite_unlocks (hmay : mayUnlock s 0 = true) (hlog : canLog s 0) {v : Nat} (hv : bit v 0 = true) :
    (testCtlWrite s 0 v).fw = testBits s.fw v ∧ (testCtlWrite s 0 v).log.next = s.log.next + 1 := by
  have hwrite : testCtlWrite s 0 v = loggedWrite s (0 : Fn) 0xFF 0x140310 4 (testCtl s) (testCtl (s.updFw fun f => testBits f v))
      fun s => s.updFw fun f => testBits f v := by
    rw [testCtlWrite, pf0Reg_reaches hopen, if_pos hv, if_pos hmay]
  obtain ⟨log, hframe, hnext⟩ := loggedWrite_noWing hlog (w := 0xFF) (by decide) 0x140310 4 (testCtl s)
    (testCtl (s.updFw fun f => testBits f v)) fun s => s.updFw fun f => testBits f v
  have hfw := congrArg State.fw hframe
  have hlog := congrArg (Log.next ∘ State.log) hframe
  rw [hwrite]
  exact ⟨hfw, hlog.trans hnext⟩

theorem testCtlWrite_ignored (hmay : mayUnlock s 0 = false) {v : Nat} (hv : bit v 0 = true) :
    testCtlWrite s 0 v = ignoredWrite s 0 0xFF 0x140310 4 (testCtl s) (testCtl (s.updFw fun f => testBits f v)) := by
  rw [testCtlWrite, pf0Reg_reaches hopen, if_pos hv, if_neg (by simp [hmay])]
  rfl

/-- UNLOCK 0 performs reset level 4 (log entry 38). -/
theorem testCtlWrite_locks (hlog : canLog s 0) : testCtlWrite s 0 0 = assertSource s 11 4 := by
  obtain ⟨hroom, hrate⟩ := hlog
  have hrate' : ¬ rateFull s (0 : Fn) = true := by rw [hrate]; decide
  rw [testCtlWrite, pf0Reg_reaches hopen, if_neg (by decide), if_neg hrate', if_neg (by simp [hroom])]

end

section
variable {f : Fw}

/-- What a write sets beside UNLOCK while the part is locked: nothing. -/
theorem testBits_locked (h : f.unlock = false) (v : Nat) : testBits f v = { f with unlock := true } := by
  simp [testBits, h]

/-- The mode bits that a write carries over: UNLOCK, and DEBUG_LOG as it stands. -/
theorem bits_kept (d : Bool) (k : Nat) (hk : k = 4 ∨ k = 8) :
    bit (1 + 2 * b2n d + k) 0 = true ∧ bit (1 + 2 * b2n d + k) 1 = d ∧ bit (1 + 2 * b2n d + k) 2 = decide (k = 4) ∧
      bit (1 + 2 * b2n d + k) 3 = decide (k = 8) := by
  rcases hk with rfl | rfl
  · cases d <;> decide
  · cases d <;> decide

theorem testBits_pattern (hunlock : f.unlock = true) (hidle : f.patternRun = false) :
    testBits f (1 + 2 * b2n f.debugLog + 8) = { f with patternRun := true, patternDone := false, patternFail := false } := by
  obtain ⟨-, hdebug, hmbist, hpattern⟩ := bits_kept f.debugLog 8 (.inr rfl)
  cases f
  simp_all [testBits]

theorem testBits_mbist (hunlock : f.unlock = true) (hidle : f.mbistRun = false) :
    testBits f (1 + 2 * b2n f.debugLog + 4) = { f with mbistRun := true, mbistDone := false, mbistFail := false } := by
  obtain ⟨-, hdebug, hmbist, hpattern⟩ := bits_kept f.debugLog 4 (.inl rfl)
  cases f
  simp_all [testBits]

end

/-! ### The ends of the tests -/

/-- A key that a filter stops reads as the default. -/
theorem Tbl.get_filter_out {α : Type} (d : α) (t : Tbl α) (p : Nat → Bool) {k : Nat} (hk : p k = false) :
    Tbl.get d (t.filter fun e => p e.1) k = d := by
  refine Tbl.get_of_not_mem d fun hmem => ?_
  obtain ⟨e, he, rfl⟩ := List.mem_map.mp hmem
  simpa [hk] using (List.mem_filter.mp he).2

theorem extOf_line (a : Nat) : extOf (64 * lineOf a) = extOf a := by
  simp only [extOf, lineOf]
  omega

section
variable {s : State} (halive : s.alive = true)
include halive

/-- A pattern test without a failing line clears every line outside extent 47. -/
theorem patternDone_clears (hrun : s.fw.patternRun = true) : patternDone s [] = { s with
    dram := s.dram.filter (fun (x : Host.Cell) => isExt47 (extOf x.1)),
    lines := s.lines.filter (fun (x : Nat × LineMeta) => isExt47 (extOf (64 * x.1))),
    fw := { s.fw with patternRun := false, patternDone := true, patternFail := false } } := by
  rw [patternDone, if_neg (by simp [halive, hrun])]
  rfl

theorem mbistDone_clears (hrun : s.fw.mbistRun = true) (bad : List (Fin 112 × Nat)) : mbistDone s bad =
    bad.foldl (fun s u => quarantine (sramUE s (unitDie u.1) (unitSram u.1) u.2) u.1 (unitSram u.1))
      { s with
        sp := [], spBad := [], cache := [], mus := [], lanes := []
        fw := { s.fw with mbistRun := false, mbistDone := true, mbistFail := !bad.isEmpty } } := by
  rw [mbistDone, if_neg (by simp [halive, hrun])]
  rfl

end

end Sys2Proof.Machine

/-- Settles O54: the commands past their checks, what a write of TEST_CTL sets, and what the tests leave. -/
theorem marginsRepairsAndTestModes : Obligations.MarginsRepairsAndTestModes := by
  unfold Obligations.MarginsRepairsAndTestModes
  refine ⟨?run, ?pins, ?apply, ?queryStack, ?queryLink, ?soft, ?hard, ?undo, ?stackLane, ?linkLane, ?unlock, ?ignored, ?lock,
    ?pattern, ?mbist, ?patternDone, ?mbistDone, ?mbistFails⟩
  case run =>
    rintro fn hub tag wing p c s rfl ha hw hz hmode hstep hrange hfailed huse hlong
    exact scpExec_done ha (marginRun_measures hw hz hmode hstep hrange hfailed huse hlong)
  case pins => exact fun step a b hstep => marginPin_within hstep.1 a b
  case apply =>
    rintro fn hub tag wing p c s rfl ha hw hz hmode hoffset hrange hfailed huse
    exact scpExec_done ha (marginApply_timing hw hz hmode hoffset hrange hfailed huse)
  case queryStack =>
    rintro fn hub tag wing p c s x rfl ha hw hz hkind hstack hx
    exact scpExec_done ha (repairQuery_stack hw hz hkind hstack hx)
  case queryLink =>
    rintro fn hub tag wing p c s rfl ha hw hz hkind hlink
    exact scpExec_done ha (repairQuery_link hw hz hkind hlink)
  case soft =>
    rintro fn hub tag wing p c s rfl ha hw hz hrange hfailed hunused hnew hlong hmode hspare
    exact scpExec_done ha (repairRow_repairs hw hlong hz hrange hfailed hunused hnew (mode := 0) hmode (by decide) nofun (fun _ => hspare) nofun)
  case hard =>
    rintro fn hub tag wing p c s rfl ha hw hz hrange hfailed hunused hnew hlong hmode hspare hhard
    exact scpExec_done ha
      (repairRow_repairs hw hlong hz hrange hfailed hunused hnew (mode := 1) hmode (by decide) nofun (fun _ => hspare) fun _ => hhard)
  case undo =>
    rintro fn hub tag wing p c s rfl ha hw hz hrange hfailed hunused hnew hlong hmode hundo
    exact scpExec_done ha
      (repairRow_repairs hw hlong hz hrange hfailed hunused hnew (mode := 2) hmode (by decide) (fun _ => hundo)
        (fun h => absurd h (by decide)) nofun)
  case stackLane =>
    rintro fn hub tag wing p c s rfl ha hw hz hkind hstack hlane hfailed huse hgroup hlong
    exact scpExec_done ha (repairLane_stack hw hlong hz hkind hstack hlane hfailed huse hgroup)
  case linkLane =>
    rintro fn hub tag wing p c s rfl ha hw hz hkind hlink hlane hspares hrepairs hlong
    exact scpExec_done ha (repairLane_link hw hlong hz hkind hlink hlane hspares hrepairs)
  case unlock =>
    intro s hopen hmay hlocked hlog
    have hbit : bit (1 + 2 * b2n s.fw.debugLog) 0 = true := by cases s.fw.debugLog <;> rfl
    obtain ⟨hfw, hnext⟩ := testCtlWrite_unlocks hopen hmay hlog hbit
    exact ⟨_, rfl, hfw.trans (testBits_locked hlocked _), hnext⟩
  case ignored =>
    intro s hopen hmay
    have hbit : bit (1 + 2 * b2n s.fw.debugLog) 0 = true := by cases s.fw.debugLog <;> rfl
    exact congrArg Host.Outcome.next (testCtlWrite_ignored hopen hmay hbit)
  case lock =>
    intro s hopen hlog
    exact congrArg Host.Outcome.next (testCtlWrite_locks hopen hlog)
  case pattern =>
    intro s hopen hmay hunlock hidle hlog
    obtain ⟨hbit, -⟩ := bits_kept s.fw.debugLog 8 (.inr rfl)
    obtain ⟨hfw, -⟩ := testCtlWrite_unlocks hopen hmay hlog hbit
    exact ⟨_, rfl, hfw.trans (testBits_pattern hunlock hidle)⟩
  case mbist =>
    intro s hopen hmay hunlock hidle hlog
    obtain ⟨hbit, -⟩ := bits_kept s.fw.debugLog 4 (.inl rfl)
    obtain ⟨hfw, -⟩ := testCtlWrite_unlocks hopen hmay hlog hbit
    exact ⟨_, rfl, hfw.trans (testBits_mbist hunlock hidle)⟩
  case patternDone =>
    intro s halive hrun
    refine ⟨_, congrArg Host.Outcome.next (patternDone_clears halive hrun), rfl, fun a ha => ⟨?_, ?_⟩, fun a ha => ?_, rfl⟩
    · exact Tbl.get_filter_out _ _ (fun k => isExt47 (extOf k)) ha
    · exact Tbl.get_filter_out _ _ (fun k => isExt47 (extOf (64 * k))) (by rw [extOf_line]; exact ha)
    · exact Tbl.get_filter_key _ _ (fun k => isExt47 (extOf k)) ha
  case mbistDone =>
    intro s halive hrun
    exact congrArg Host.Outcome.next (mbistDone_clears halive hrun [])
  case mbistFails =>
    intro u granule s halive hrun
    exact congrArg Host.Outcome.next (mbistDone_clears halive hrun [(u, granule)])

end

section
/-! PROOF. The stores, latches, storms, trace windows and rings of the vents, and the failure of their memory (17 R525 to R540) : O51. -/

open Sys2Proof Sys2Proof.Machine

namespace Sys2Proof.Machine

/-! ### Records at the primary (R527 to R531) -/

section
variable {s : State} {r : VentRec}

section
variable (hworks : s.vnt.bothFailed = false) (hprimary : s.vnt.fallback = false)
include hworks hprimary

theorem ventAlarm_accepts (hcredit : alarmCredits s ≠ 0) (producer : Nat) : ventAlarm s producer r = alarmAccept s r 0 := by
  simp [ventAlarm, alarmRoom, alarmTake, hworks, hprimary, hcredit]

theorem ventAlarm_latches (hcredit : alarmCredits s = 0) (producer : Nat) : ventAlarm s producer r = alarmLatch s producer r := by
  simp [ventAlarm, alarmRoom, hworks, hprimary, hcredit]

section
variable (hsev : r.sev.toNat ∈ [1, 2, 3]) (hmask : bit (s.vnt.ring 1).mask r.sev.toNat = true)
include hsev hmask

/-- A record that is produced and not excluded meets the limit of its severity. -/
theorem ventLog_limited : ventLog s r =
    if s.vnt.logs.length + s.vnt.logsOut < logLimit r.sev then
      { s with vnt := { s.vnt with
          logs := s.vnt.logs ++ [{ r := r, vseq := s.vnt.vseqL, fallback := false, rep := 0 }], vseqL := s.vnt.vseqL + 1 } }
    else logDrop s r := by
  have hproduced : ¬ (r.sev = 0 ∧ (!s.fw.debugLog) = true) := by
    rintro ⟨hzero, -⟩
    simp [hzero] at hsev
  rw [ventLog, if_neg hproduced]
  simp [hmask, hworks, hprimary]

/-- A record at its limit is counted, and not stored. -/
theorem ventLog_drops (hfull : logLimit r.sev ≤ s.vnt.logs.length + s.vnt.logsOut) :
    (ventLog s r).vnt.logs = s.vnt.logs ∧ (ventLog s r).vnt.vseqL = s.vnt.vseqL ∧
    Tbl.get 0 (ventLog s r).vnt.logDrops r.sev.toNat = satInc (Tbl.get 0 s.vnt.logDrops r.sev.toNat) := by
  rw [ventLog_limited hworks hprimary hsev hmask, if_neg (Nat.not_lt.mpr hfull)]
  exact ⟨rfl, rfl, Tbl.get_set_same ..⟩

end

end

theorem ventLog_filters (hproduced : r.sev ≠ 0) (hmask : bit (s.vnt.ring 1).mask r.sev.toNat = false) :
    ventLog s r = { s with vnt := { s.vnt with filtered := satInc s.vnt.filtered } } := by
  rw [ventLog, if_neg fun h => hproduced h.1, hmask]
  rfl

section
variable {producer : Nat}

/-- A latch of the record's producer and kind. -/
theorem alarmLatch_free (hfree : (s.vnt.latches.any fun l => l.producer == producer && l.r.kind == r.kind) = false) :
    alarmLatch s producer r =
      { s with vnt := { s.vnt with latches := s.vnt.latches ++ [{ producer := producer, r := r, rep := 0 }] } } :=
  if_neg (by simp [hfree])

theorem alarmLatch_repeats (hheld : (s.vnt.latches.any fun l => l.producer == producer && l.r.kind == r.kind) = true) :
    (alarmLatch s producer r).vnt.coalesced = satInc s.vnt.coalesced ∧
    (alarmLatch s producer r).vnt.latches.length = s.vnt.latches.length ∧
    (alarmLatch s producer r).vnt.alarms = s.vnt.alarms := by
  rw [alarmLatch, if_pos hheld]
  exact ⟨rfl, List.length_map _, rfl⟩

end

/-- An accumulator with a summary slot free becomes a summary. -/
theorem stormShut_summary {i : Nat} {a : Accum} (ha : Tbl.get Accum.init s.vnt.accs i = a) (hopen : a.count ≠ 0)
    (hworks : s.vnt.bothFailed = false) (hprimary : s.vnt.fallback = false) (hroom : s.vnt.summaries.length < 64) :
    stormShut s i = { s with vnt := { s.vnt with
      summaries := s.vnt.summaries ++ [{ r := stormRecord s a, vseq := s.vnt.vseqL, fallback := false, rep := a.count }]
      vseqL := s.vnt.vseqL + 1, accs := Tbl.set Accum.init s.vnt.accs i Accum.init } } := by
  subst ha
  simp only [stormShut, summaryRoom, hopen, hworks, hprimary, hroom]
  rfl

/-! ### Commands and trace windows (R532 to R536) -/

theorem ventConfigure_log {c : Cmd} (hw : c.wing = 0xFF#8) (hz : zeroAt c.payload 3 5 = true) (hvent : leAt c.payload 0 1 = 1)
    (hmask : leAt c.payload 1 1 ≤ 15) (hsize : 16 ≤ leAt c.payload 2 1 ∧ leAt c.payload 2 1 ≤ 26)
    (halign : leAt c.payload 8 8 % 4096 = 0) :
    ventConfigure s c = (ventPump ((scpCommit s c).updVnt fun x => x.setRing 1
      { head := 0, tail := 0, addr := BitVec.ofNat 64 (leAt c.payload 8 8), sizeLog2 := leAt c.payload 2 1,
        mask := leAt c.payload 1 1 }), .done rOK []) := by
  unfold ventConfigure
  rw [checked_pass]
  · simp only [hvent]
    rfl
  · simp [firstFail_eq_none_iff, noWing_passes hw, hz, hvent, halign]
    omega

theorem ventStatus_reports {c : Cmd} (hw : c.wing = 0xFF#8) : ventStatus s c =
    (s, .done rOK (leBytes 2 (alarmCredits s) ++ [0, 0] ++ leBytes 4 (16384 - (s.vnt.logs.length + s.vnt.logsOut)) ++
      leBytes 4 ((0x300000 - traceUsed s) / 1024) ++ [BitVec.ofNat 8 (vntState s), 0, 0, 0] ++ s.vnt.counters)) := by
  unfold ventStatus
  rw [checked_pass]
  · simp [List.replicate]
  · simp [firstFail_cons, noWing_passes hw]

theorem ventTraceWindow_opens {c : Cmd} (hw : c.wing = 0xFF#8) (hz : zeroAt c.payload 2 2 = true) (hcls : leAt c.payload 1 1 ≤ 6)
    (hlen : 1 ≤ leAt c.payload 4 4 ∧ leAt c.payload 4 4 ≤ 10000)
    (hdie : dieClass (leAt c.payload 0 1) (leAt c.payload 1 1) = true) (hstart : leAt c.payload 8 8 = 0)
    (hring : (s.vnt.ring 2).sizeLog2 ≠ 0) (hroom : s.vnt.windows.length < 16) (hprimary : s.vnt.fallback = false)
    (hworks : s.vnt.bothFailed = false) :
    ventTraceWindow s c = ({ s with vnt := { s.vnt with
      windows := s.vnt.windows ++ [{ id := s.vnt.nextWin, die := leAt c.payload 0 1, cls := leAt c.payload 1 1, start := s.now,
                                     len := leAt c.payload 4 4, running := true }]
      nextWin := s.vnt.nextWin + 1 } }, .done rOK (leBytes 4 s.vnt.nextWin.toNat)) := by
  unfold ventTraceWindow
  rw [checked_pass]
  · simp only [hstart]
    rfl
  · simp [firstFail_eq_none_iff, noWing_passes hw, hz, hdie, hstart, hring, hprimary, hworks]
    omega

section
variable {win : W32} {recs : List Bytes} {w : TraceWin} (hwin : (s.vnt.windows.find? fun w => w.id == win) = some w)
include hwin

theorem traceEnd_whole (hrecs : recs.length ≤ captureSize w.die)
    (hroom : (windowBytes w recs false 0).length + traceUsed s ≤ 0x300000) :
    traceEnd s win recs false = ventPump { s with vnt := { s.vnt with
      windows := s.vnt.windows.filter (fun x => x.id != win), traces := s.vnt.traces ++ [windowBytes w recs false 0] } } := by
  have hfits : (windowBytes w recs false 0).length ≤ 0x300000 - traceUsed s := by omega
  simp only [traceEnd, hwin, hrecs, hfits, Bool.not_false, decide_true, Bool.and_true, if_true, State.updVnt]

theorem traceEnd_lost (hroom : 64 + traceUsed s ≤ 0x300000) :
    traceEnd s win recs true = ventPump { s with vnt := { s.vnt with
      windows := s.vnt.windows.filter (fun x => x.id != win), traceDrops := satInc s.vnt.traceDrops
      traces := s.vnt.traces ++ [windowBytes w [] true recs.length] } } := by
  have hheader : 64 ≤ 0x300000 - traceUsed s := by omega
  simp only [traceEnd, hwin, Bool.not_true, Bool.false_and, Bool.false_eq_true, if_false, if_pos hheader, State.updVnt]

end

/-! ### The host's side of a ring (R536) -/

section
variable {vent : Nat} {head : W64} (hopen : regOpen s 0 = true)
include hopen

theorem vntHead_returns (htail : head.toNat ≤ (s.vnt.ring vent).tail.toNat) (hhead : (s.vnt.ring vent).head.toNat ≤ head.toNat)
    (hvent : vent ≠ 0) : vntHead s 0 vent head =
      alertPoll (ventPump { s with vnt := s.vnt.setRing vent { s.vnt.ring vent with head := head } }) := by
  have hbetween : ¬ (head.toNat > (s.vnt.ring vent).tail.toNat ∨ head.toNat < (s.vnt.ring vent).head.toNat) := by omega
  rw [vntHead, pf0Reg_reaches hopen, if_neg hbetween]
  simp only [if_neg hvent]
  rfl

theorem vntHead_ignores (hout : (s.vnt.ring vent).tail.toNat < head.toNat ∨ head.toNat < (s.vnt.ring vent).head.toNat) :
    vntHead s 0 vent head = s := by
  rw [vntHead, pf0Reg_reaches hopen]
  exact if_pos hout

end

end

/-! ### The fallback ring (R537, R538) -/

/-- What the primary lost with its memory, and which ring is in use. -/
def State.lossView (s : State) : Bool × List VSlot × List VSlot × W64 := (s.vnt.fallback, s.vnt.logs, s.vnt.alarms, s.vnt.lost)

section
variable (s : State)

theorem hostWrite_vnt (fn : Fn) (a : W64) (data : Bytes) : (hostWrite s fn a data).vnt = s.vnt := by
  unfold hostWrite hostWriteAs
  split
  · rfl
  · rfl

theorem msixRaise_vnt (fn : Fn) (vec : Nat) : (msixRaise s fn vec).vnt = s.vnt := by
  simp only [msixRaise, msixSend]
  split
  · rfl
  split
  · rfl
  split
  · rfl
  · rfl

theorem ringPut_lossView (k : Nat) (data : Bytes) : (ringPut s k data).lossView = s.lossView := by
  simp only [ringPut]
  split
  · simp only [State.lossView, Vnt.setRing, hostWrite_vnt]
  · simp only [State.lossView, Vnt.setRing, hostWrite_vnt]

theorem ringStatus_lossView (k : Nat) : (ringStatus s k).lossView = s.lossView := by
  simp only [ringStatus]
  split
  · simp only [State.lossView, msixRaise_vnt, hostWrite_vnt]
  · simp only [State.lossView, hostWrite_vnt]

theorem setAlert_lossView (i : Nat) (v : Bool) : (setAlert s i v).lossView = s.lossView := rfl

theorem lastWord_lossView (r : VentRec) : (lastWord s r).lossView = s.lossView := by
  simp only [lastWord, State.lossView]

theorem fallbackTake_lossView (r : VentRec) (rep : W32) : (fallbackTake s r rep).lossView = s.lossView := by
  simp only [fallbackTake]
  split
  · rfl
  · rfl

end

section
variable {s : State} (hfallback : s.vnt.fallback = true)
include hfallback

theorem alarmTake_lossView (r : VentRec) (rep : W32) : (alarmTake s r rep).lossView = s.lossView := by
  rw [alarmTake, if_pos hfallback]
  exact fallbackTake_lossView s r rep

/-- A state of the same view is in fallback too. -/
theorem fallback_of_lossView {t : State} (h : t.lossView = s.lossView) : t.vnt.fallback = true :=
  (congrArg Prod.fst h).trans hfallback

theorem serveLatches_lossView (fuel : Nat) : (serveLatches fuel s).lossView = s.lossView := by
  induction fuel generalizing s with
  | zero => rfl
  | succ fuel ih =>
    unfold serveLatches
    split
    · rfl
    next l rest _ =>
      split
      · rfl
      · have htake := alarmTake_lossView (s := { s with vnt := { s.vnt with latches := rest } }) hfallback l.r l.rep
        exact (ih (fallback_of_lossView hfallback htake)).trans htake

theorem stormDue_lossView : (stormDue s).lossView = s.lossView := by
  unfold stormDue
  split
  · split
    · unfold stormShut
      dsimp only
      split
      · rfl
      split
      · rfl
      · exact fallbackTake_lossView ..
    · rfl
  · rfl

theorem pumpFallback_lossView (fuel : Nat) : (pumpFallback fuel s).lossView = s.lossView := by
  induction fuel generalizing s with
  | zero => rfl
  | succ fuel ih =>
    unfold pumpFallback
    split
    · rfl
    next a rest _ =>
      dsimp only
      generalize (if (a.r.sev == sevAlarm) = true then 0 else 1) = k
      have hput := ringPut_lossView s k a.bytes
      generalize ringPut s k a.bytes = s1 at hput ⊢
      have hwritten (v : Vnt) (hv : ({ s1 with vnt := v } : State).lossView = s1.lossView) (n : Nat) :
          (pumpFallback fuel (stormDue (serveLatches n (ringStatus { s1 with vnt := v } k)))).lossView = s.lossView := by
        have hstatus := (ringStatus_lossView { s1 with vnt := v } k).trans (hv.trans hput)
        have hserve := (serveLatches_lossView (fallback_of_lossView hfallback hstatus) n).trans hstatus
        have hdue := (stormDue_lossView (fallback_of_lossView hfallback hserve)).trans hserve
        exact (ih (fallback_of_lossView hfallback hdue)).trans hdue
      split
      · refine hwritten _ ?_ _
        rfl
      · rfl

theorem ventPump_lossView : (ventPump s).lossView = s.lossView := by
  have hclear (t : State) : (alertClear t).lossView = t.lossView := by
    unfold alertClear
    split
    · rfl
    · rfl
  unfold ventPump
  split
  · rfl
  · rw [hclear]
    exact pumpFallback_lossView hfallback _

theorem alarm_lossView (kind : W16) (wing die d0 d1 d2 d3 : Nat) : (alarm s kind wing die d0 d1 d2 d3).lossView = s.lossView := by
  have halarm {t : State} (ht : t.vnt.fallback = true) (producer : Nat) (r : VentRec) :
      (ventAlarm t producer r).lossView = t.lossView := by
    unfold ventAlarm
    split
    · rfl
    split
    · exact alarmTake_lossView ht r 0
    · unfold alarmLatch
      split
      · rfl
      · rfl
  have hput (r : VentRec) (producer : Nat) : (ventAlarm (lastWord s r) producer r).lossView = s.lossView :=
    (halarm (fallback_of_lossView hfallback (lastWord_lossView s r)) producer r).trans (lastWord_lossView s r)
  unfold alarm raise
  simp only [beq_self_eq_true, Bool.true_or, if_true, VentRec.mk0]
  exact (ventPump_lossView (fallback_of_lossView hfallback (hput _ _))).trans (hput _ _)

end

/-- Bit 5 of VNT_ALERT stands once it is set. -/
theorem setAlert_set (s : State) : (setAlert s 5 true).vnt.alert.getLsbD 5 = true := by
  simp [setAlert]

/-- The first failure of the vent memory: the fallback ring is in use, and what the primary held is counted. -/
theorem ventFail_falls {s : State} {cause : Nat} (hprimary : s.vnt.fallback = false) (hworks : s.vnt.bothFailed = false)
    (hreach : hubCut s (otherHub s.pcie.activeHub) = false) :
    (ventFail s cause).vnt.alert.getLsbD 5 = true ∧ (ventFail s cause).lossView = (true, [], [], satAdd s.vnt.lost
      (s.vnt.alarms.length + s.vnt.summaries.length + s.vnt.logs.length + (s.vnt.traces.map fun t => leAt t 24 4).sum)) := by
  simp only [ventFail, hworks, hprimary, Bool.false_eq_true, if_false]
  rw [if_neg (by simpa using hreach)]
  refine ⟨setAlert_set _, ?_⟩
  rw [setAlert_lossView]
  generalize hs2 : (lastWordPut (lastWordPut s 72 (leBytes 8 s.now ++ leBytes 8 0)) 88 [BitVec.ofNat 8 cause, 0#8]).updVnt _ = s2
  have hloss : s2.lossView = (true, [], [], satAdd s.vnt.lost
      (s.vnt.alarms.length + s.vnt.summaries.length + s.vnt.logs.length + (s.vnt.traces.map fun t => leAt t 24 4).sum)) := by
    rw [← hs2]
    simp only [State.lossView, lastWordPut, State.updVnt]
  have hfallback : s2.vnt.fallback = true := congrArg Prod.fst hloss
  generalize hs3 : alarm s2 _ _ _ _ _ _ _ = s3
  have halarm : s3.lossView = s2.lossView := hs3 ▸ alarm_lossView hfallback _ _ _ _ _ _ _
  have hfallback3 := fallback_of_lossView hfallback halarm
  have hserve := serveLatches_lossView hfallback3 s3.vnt.latches.length
  rw [ventPump_lossView (fallback_of_lossView hfallback3 hserve), hserve, halarm, hloss]

/-- The fallback ring fails too. -/
theorem ventFail_bothFail {s : State} {cause : Nat} (hfallback : s.vnt.fallback = true) (hworks : s.vnt.bothFailed = false) :
    ventFail s cause = bothFail s (if cause = 0 then 4 else cause) := by
  simp only [ventFail, hworks, hfallback, Bool.false_eq_true, if_false, if_true]

end Sys2Proof.Machine

/-- Settles O51: the stores, latches and limits, the commands past their checks, and the fallback ring, which keeps what the primary
lost. -/
theorem ventsStoreLatchCountAndDeliver : Obligations.VentsStoreLatchCountAndDeliver := by
  unfold Obligations.VentsStoreLatchCountAndDeliver
  refine ⟨?receive, ?credit, ?latch, ?coalesce, ?creditReturn, ?filter, ?store, ?drop, ?summary, ?configure, ?status, ?window,
    ?start, ?whole, ?lost, ?head, ?headIgnored, ?accepted, ?fail, ?failAgain⟩
  case receive => exact fun rec producer s halive => congrArg Host.Outcome.next (if_pos halive)
  case credit => exact fun s r pr hworks hprimary hcredit => ventAlarm_accepts hworks hprimary hcredit pr
  case latch =>
    intro s r pr hworks hprimary hcredit hfree
    rw [ventAlarm_latches hworks hprimary hcredit, alarmLatch_free hfree]
  case coalesce =>
    intro s r pr hworks hprimary hcredit hheld
    rw [ventAlarm_latches hworks hprimary hcredit]
    exact alarmLatch_repeats hheld
  case creditReturn => exact fun s => rfl
  case filter => exact fun s r hproduced hmask => ventLog_filters hproduced hmask
  case store =>
    intro s r hsev hmask hworks hprimary hroom
    rw [ventLog_limited hworks hprimary hsev hmask, if_pos hroom]
  case drop => exact fun s r hsev hmask hworks hprimary hfull => ventLog_drops hworks hprimary hsev hmask hfull
  case summary =>
    intro acc a s ha hopen hworks hprimary hroom
    exact congrArg (fun t => Host.Outcome.next (ventPump t)) (stormShut_summary ha hopen hworks hprimary hroom)
  case configure =>
    rintro fn hub tag wing p c s rfl ha hw hz hvent hmask hsize halign
    exact scpExec_done ha (ventConfigure_log hw hz hvent hmask hsize halign)
  case status =>
    rintro fn hub tag wing p c s rfl ha hw
    exact scpExec_done ha (ventStatus_reports hw)
  case window =>
    rintro fn hub tag wing p c s rfl ha hw hz hcls hlen hdie hstart hring hroom hprimary hworks
    exact scpExec_done ha (ventTraceWindow_opens hw hz hcls hlen hdie hstart hring hroom hprimary hworks)
  case start => exact fun win s => rfl
  case whole =>
    intro win recs w s hwin hrecs hroom
    exact congrArg Host.Outcome.next (traceEnd_whole hwin hrecs hroom)
  case lost =>
    intro win recs w s hwin hroom
    exact congrArg Host.Outcome.next (traceEnd_lost hwin hroom)
  case head =>
    intro vent head s hopen htail hhead hvent
    exact congrArg Host.Outcome.next (vntHead_returns hopen htail hhead (Fin.val_ne_of_ne hvent))
  case headIgnored =>
    intro vent head s hopen hout
    exact congrArg Host.Outcome.next (vntHead_ignores hopen hout)
  case accepted => exact fun s => rfl
  case fail =>
    intro cause s halive hcause hprimary hworks hreach
    obtain ⟨halert, hloss⟩ := ventFail_falls (cause := cause) hprimary hworks hreach
    have hfallback := congrArg (fun v => v.1) hloss
    have hlogs := congrArg (fun v => v.2.1) hloss
    have halarms := congrArg (fun v => v.2.2.1) hloss
    have hlost := congrArg (fun v => v.2.2.2) hloss
    exact ⟨ventFail s cause, congrArg Host.Outcome.next (if_neg (by simp [halive, hcause])), hfallback, halert, hlogs, halarms, hlost⟩
  case failAgain =>
    intro cause s halive hfallback hworks
    refine congrArg Host.Outcome.next ((if_neg (by simp [halive, hfallback])).trans (ventFail_bothFail hfallback hworks))

end

section
/-! PROOF. Messages and frames from the network (14 R450 to R459) : O41. -/

open Sys2Proof Sys2Proof.Machine

namespace Sys2Proof.Machine

/-! ### A SEND (R452 to R454) -/

section
variable {s : State} {f : FlowIx} {data : Bytes} {hm : HostMem}

theorem ceMark_unmarked (s : State) (f : FlowIx) : ceMark s f false = s := by
  simp [ceMark]

/-- The state after the CNP of a marked packet. -/
def cnpSent (s : State) (f : FlowIx) : State := (s.setFlow f { s.flow f with lastCnp := some s.now }).emit (.net f .cnp [])

theorem ceMark_due (hdue : ∀ t, (s.flow f).lastCnp = some t → 50000 ≤ s.now - t) : ceMark s f true = cnpSent s f := by
  unfold ceMark
  cases hlast : (s.flow f).lastCnp with
  | none => simp [hlast, cnpSent, State.updFlow]
  | some t => simp [hlast, hdue t hlast, cnpSent, State.updFlow]

/-- The CNP leaves the flow connected. -/
theorem flowOn_cnpSent (hon : flowOn s f = true) : flowOn (cnpSent s f) f = true := by
  have hflow : (cnpSent s f).flow f = { s.flow f with lastCnp := some s.now } := State.flow_setFlow_same ..
  unfold flowOn at hon ⊢
  rw [hflow]
  exact hon

theorem roceSend_marked (hon : flowOn s f = true) (hdue : ∀ t, (s.flow f).lastCnp = some t → 50000 ≤ s.now - t) :
    roceSend s f true data hm = roceSend (cnpSent s f) f false data hm := by
  simp only [roceSend, hon, flowOn_cnpSent hon, ceMark_due hdue, ceMark_unmarked, Bool.not_true, Bool.false_eq_true, if_false]

section
variable {w : WingIx} {q : Nat} (hon : flowOn s f = true) (howner : (s.flow f).owner = some w)
  (hqueue : flowQueue s (s.flow f) = some q)
include hon howner hqueue

theorem roceSend_notReady (htakes : takesEntries s q = false) : roceSend s f false data hm = s.emit (.net f .rnrNak []) := by
  simp [roceSend, hon, ceMark_unmarked, howner, hqueue, htakes]

section
variable (htakes : takesEntries s q = true) (hheld : heldUnit s ukFlow f = false)
include htakes hheld

theorem roceSend_badLength (hlen : data.length < 64 ∨ 64 + slotBytes (s.flow f) < data.length) :
    roceSend s f false data hm = flowStop (s.emit (.net f .nakInvalid [])) f rADDR_RANGE := by
  simp [roceSend, hon, ceMark_unmarked, howner, hqueue, htakes, hheld, hlen]

section
variable (hlen : 64 ≤ data.length ∧ data.length ≤ 64 + slotBytes (s.flow f))
include hlen

theorem roceSend_slotHeld (hslot : ((s.flow f).slots.any fun t => t.1 == (leAt data 8 8 % slotCount (s.flow f))) = true) :
    roceSend s f false data hm = s.emit (.net f .rnrNak []) := by
  simp only [roceSend, hon, ceMark_unmarked, howner, hqueue, htakes, hheld, Bool.not_true, Bool.or_false, Bool.false_eq_true, if_false,
    if_neg (not_or.mpr ⟨Nat.not_lt.mpr hlen.1, Nat.not_lt.mpr hlen.2⟩), hslot, if_true]

/-- A SEND whose bytes reach their slot takes it, enters the queue and is acknowledged. -/
theorem roceSend_accepts (hslot : ((s.flow f).slots.any fun t => t.1 == (leAt data 8 8 % slotCount (s.flow f))) = false)
    {s1 : State} (hfill : slotFill s w f ((s.flow f).slotBase.toNat + (leAt data 8 8 % slotCount (s.flow f)) * slotBytes (s.flow f))
      (data.drop 64) = (s1, false)) :
    roceSend s f false data hm = (entryArrives (s1.updFlow f fun y =>
      { y with slots := y.slots ++ [((leAt data 8 8 % slotCount (s.flow f)), BitVec.ofNat 64 (leAt data 8 8), none)] })
      (Fin.ofNat 4096 q) w (data.take 64) (some (f, (leAt data 8 8 % slotCount (s.flow f)))) hm).emit (.net f .ack []) := by
  simp only [roceSend, hon, ceMark_unmarked, howner, hqueue, htakes, hheld, Bool.not_true, Bool.or_false, Bool.false_eq_true, if_false,
    if_neg (not_or.mpr ⟨Nat.not_lt.mpr hlen.1, Nat.not_lt.mpr hlen.2⟩), hslot, hfill]

end

end

end

/-- A SEND of 64 bytes leaves its slot as it is. -/
theorem slotFill_nil (w : WingIx) (va : Nat) : slotFill s w f va [] = (s, false) := by
  simp [slotFill, chunksOf, pageChunks]

end

/-! ### Frames (R450, R451) -/

section
variable {s : State} {port : Fin 2} {x : EthFrame}

section
variable (halive : s.alive = true) (hup : (s.eth port).linkUp = true)
include halive hup

theorem ethFrame_oversized (hlen : 9216 < x.len) : ethFrame s port x = frameDrop (rxFree s port x.prio x.free) port := by
  simp only [ethFrame, halive, hup, Bool.not_true, Bool.or_false, Bool.false_eq_true, if_false, if_pos hlen]

theorem ethFrame_other (hbody : x.body = .other) : ethFrame s port x = frameDrop (rxFree s port x.prio x.free) port := by
  simp only [ethFrame, halive, hup, hbody, Bool.not_true, Bool.or_false, Bool.false_eq_true, if_false, ite_self]

section
variable (hlen : x.len ≤ 9216)
include hlen

omit hlen in
theorem ethFrame_otherAddress {ip : BitVec 128} (hbody : x.body = .arp ip ∨ x.body = .neighborSolicit ip)
    (hforeign : answersFor (rxFree s port x.prio x.free) port ip = false) :
    ethFrame s port x = frameDrop (rxFree s port x.prio x.free) port := by
  rcases hbody with hbody | hbody
  · simp only [ethFrame, halive, hup, hbody, hforeign, Bool.not_true, Bool.or_false, Bool.false_eq_true, if_false, ite_self]
  · simp only [ethFrame, halive, hup, hbody, hforeign, Bool.not_true, Bool.or_false, Bool.false_eq_true, if_false, ite_self]

theorem ethFrame_arp {ip : BitVec 128} {s2 : State} (hbody : x.body = .arp ip)
    (hours : answersFor (rxFree s port x.prio x.free) port ip = true)
    (htake : rxTake (rxFree s port x.prio x.free) port x.prio x.len = some s2) :
    ethFrame s port x = s2.emit (.eth port .arpReply ip.toNat) := by
  simp only [ethFrame, halive, hup, hbody, hours, htake, Bool.not_true, Bool.or_false, Bool.false_eq_true, if_false, if_true,
    if_neg (Nat.not_lt.mpr hlen)]

/-- XOFF of a priority that is not paused yet. -/
theorem ethFrame_pause {prio : Fin 8} (hbody : x.body = .pause prio true)
    (hnot : ((rxFree s port x.prio x.free).eth port).paused.contains prio = false) :
    ethFrame s port x =
      (rxFree s port x.prio x.free).updEth port fun e => { e with paused := e.paused ++ [prio.val] } := by
  simp only [ethFrame, halive, hup, hbody, Bool.not_true, Bool.or_false, Bool.false_eq_true, if_false, if_true,
    if_neg (Nat.not_lt.mpr hlen), State.updEth, hnot]

end

end

/-- The room that a priority gives back changes its buffer, and what it stops, alone. -/
theorem rxFree_keeps (prio free : Nat) : ((rxFree s port prio free).eth port).paused = (s.eth port).paused ∧
    ((rxFree s port prio free).eth port).drops = (s.eth port).drops := by
  simp only [rxFree]
  split
  · simp only [State.emit_eth_, State.updEth, State.eth_setEth_same, and_self]
  · simp only [State.eth_setEth_same, and_self]

theorem rxTake_full {prio len : Nat} (hfull : Tbl.get 0 (s.eth port).rx prio + len > rxSize) : rxTake s port prio len = none :=
  if_pos hfull

/-- A frame that fits takes its bytes; at 1.5 MiB an enabled priority is stopped. -/
theorem rxTake_fits {prio len : Nat} (hfits : Tbl.get 0 (s.eth port).rx prio + len ≤ rxSize) :
    ∃ t, rxTake s port prio len = some t ∧ Tbl.get 0 (t.eth port).rx prio = Tbl.get 0 (s.eth port).rx prio + len ∧
      (rxXoff ≤ Tbl.get 0 (s.eth port).rx prio + len → bit (s.eth port).pfc.toNat prio = true → prio ∈ (t.eth port).xoff) := by
  refine ⟨_, if_neg (Nat.not_lt.mpr hfits), ?_⟩
  split
  next hstop =>
    have hport := State.eth_setEth_same (s := s) (k := port)
      { s.eth port with rx := Tbl.set 0 (s.eth port).rx prio (Tbl.get 0 (s.eth port).rx prio + len) }
    simp only [State.emit_eth_, State.updEth, State.eth_setEth_same, hport]
    exact ⟨Tbl.get_set_same .., fun _ _ => List.mem_append_right _ List.mem_cons_self⟩
  next hpass =>
    simp only [State.eth_setEth_same]
    refine ⟨Tbl.get_set_same .., fun hmany henabled => ?_⟩
    by_contra hfree
    exact hpass ⟨henabled, hmany, by simpa using hfree⟩

end

end Sys2Proof.Machine

/-- Settles O41: what a SEND and a frame meet first decides what becomes of them. -/
theorem roceSendsFillSlotsAndFramesAreCounted : Obligations.RoceSendsFillSlotsAndFramesAreCounted := by
  unfold Obligations.RoceSendsFillSlotsAndFramesAreCounted
  refine ⟨?notReady, ?badLength, ?slotHeld, ?bare, ?filled, ?marked, ?oversized, ?other, ?foreign, ?arp, ?pause, ?buffer, ?lock⟩
  case notReady =>
    intro flow data hm w q s hon howner hqueue htakes
    exact congrArg Host.Outcome.next (roceSend_notReady hon howner hqueue htakes)
  case badLength =>
    intro flow data hm w q s hon howner hqueue htakes hheld hlen
    exact congrArg Host.Outcome.next (roceSend_badLength hon howner hqueue htakes hheld hlen)
  case slotHeld =>
    intro flow data hm w q s hon howner hqueue htakes hheld hlen hslot
    exact congrArg Host.Outcome.next (roceSend_slotHeld hon howner hqueue htakes hheld hlen hslot)
  case bare =>
    intro flow data hm w q s hon howner hqueue htakes hheld hlen hslot
    have hdrop : data.drop 64 = [] := List.drop_of_length_le hlen.le
    have htake : data.take 64 = data := List.take_of_length_le hlen.le
    have haccepts := roceSend_accepts (hm := hm) hon howner hqueue htakes hheld (by omega) hslot (hdrop ▸ slotFill_nil w _)
    rw [htake] at haccepts
    exact congrArg Host.Outcome.next haccepts
  case filled =>
    intro flow data hm w q s hon howner hqueue htakes hheld hlen hslot hfill
    exact congrArg Host.Outcome.next (roceSend_accepts hon howner hqueue htakes hheld hlen hslot (Prod.ext rfl hfill))
  case marked =>
    intro flow data hm s hon hdue
    exact congrArg Host.Outcome.next (roceSend_marked hon hdue)
  case oversized =>
    intro port x s halive hup hfree hlen
    have hframe := ethFrame_oversized halive hup hlen
    rw [hfree] at hframe
    exact congrArg Host.Outcome.next hframe
  case other =>
    intro port x s halive hup hbody
    exact congrArg Host.Outcome.next (ethFrame_other halive hup hbody)
  case foreign =>
    intro port x s ip s2 halive hup hlen hbody hforeign
    exact congrArg Host.Outcome.next (ethFrame_otherAddress halive hup hbody hforeign)
  case arp =>
    intro port x s ip s2 halive hup hlen hbody hours htake
    exact congrArg Host.Outcome.next (ethFrame_arp halive hup hlen hbody hours htake)
  case pause =>
    intro port x s halive hup hlen hfree hbody hpaused
    obtain ⟨hsame, hdrops⟩ := rxFree_keeps (s := s) (port := port) x.prio x.free
    have hframe := ethFrame_pause halive hup hlen hbody (by rw [hsame, hpaused]; rfl)
    refine ⟨_, congrArg Host.Outcome.next hframe, ?_, ?_⟩
    · rw [State.updEth, State.eth_setEth_same, hsame, hpaused]
      rfl
    · rw [State.updEth, State.eth_setEth_same]
      exact hdrops
  case buffer => exact fun port prio len s _ => ⟨rxTake_full, rxTake_fits⟩
  case lock => exact fun port up s halive => congrArg Host.Outcome.next (if_pos halive)

end

section
/-! PROOF. The host port's move, and the loss and return of its link (14 R446 to R449, 19 R587) : O38. -/

open Sys2Proof Sys2Proof.Machine

namespace Sys2Proof.Machine

section
variable {s : State}

/-! ### The move (R447, R448) -/

theorem hostPortMove_begins {c : Cmd} (hw : c.wing = 0xFF#8) (hz : zeroAt c.payload 1 3 = true) (hport : leAt c.payload 0 1 ≤ 1)
    (hother : Fin.ofNat 2 (leAt c.payload 0 1) ≠ s.pcie.activeHub) (hready : portActive s (Fin.ofNat 2 (leAt c.payload 0 1)) = true)
    (hmem : (s.standbyCfg 0).memSpace = true) (hmaster : (s.standbyCfg 0).busMaster = true) (hlong : longFull s = false) :
    hostPortMove s c = (drainRunning (((List.range 16).foldl (fun s w => tdiTrip s w c.fn) s).updPcie fun q =>
      { q with moving := true, moveBy := some (c.fn, c.hub, Fin.ofNat 2 (leAt c.payload 0 1)) }), .pend false []) := by
  unfold hostPortMove
  rw [checked_pass]
  simp [-Fin.ofNat_eq_cast, firstFail_cons, noWing_passes hw, hz, Nat.not_lt.mpr hport, hother, hready, hmem, hmaster, hlong]

/-- A drained move issues what is held, switches, is logged, and issues the recorded page requests (R448). -/
theorem hostPortMoved_switches {fn : Fn} {h t : Hub} {r : Run} (hby : s.pcie.moveBy = some (fn, h, t)) (hmoving : s.pcie.moving = true)
    (hdrained : moveDrained s = true) (hrun : running s fn h 0x0A02 = some r) (hlink : s.dlActive = true) :
    hostPortMoved s = ventPump (runFinish (s.priReqs.foldl reissuePri (issueHeld (scpCommit
      (switchPort { issueHeld s with priReqs := [], ats := [], atsReqs := [] } t) (r.cmd fn h)))) fn h rOK []) := by
  simp only [hostPortMoved, hby, hmoving, hdrained, hrun, hlink, Bool.not_true, Bool.or_false, Bool.false_eq_true, if_false, if_true]

/-- The target port's configuration is in force after the switch. -/
theorem switchPort_fnSt {t : Hub} {k : Nat} (hk : k < 256) : (switchPort s t).fnSt k = cfgPut (s.standbyCfg k) (s.fnSt k) := by
  have hread := Tbl.get_foldl_range FnSt.init (fun _ => true) (fun k => cfgPut (s.standbyCfg k)) s.fns 256 k
  rw [if_pos ⟨hk, rfl⟩] at hread
  simp only [if_true] at hread
  simp only [State.fnSt, switchPort]
  exact hread

/-- The switch leaves queues, tables and flows, and takes the target port's VF settings. -/
theorem switchPort_keeps {t : Hub} : (switchPort s t).pcie.activeHub = t ∧ (switchPort s t).pcie.moving = false ∧
    (switchPort s t).queues = s.queues ∧ (switchPort s t).msix = s.msix ∧ (switchPort s t).cats = s.cats ∧
    (switchPort s t).flows = s.flows ∧ (switchPort s t).pcie.vfEnable = s.pcie.standbyVfEnable := by
  simp only [switchPort, and_self]

/-! ### The loss of a link (R449, R587) -/

theorem hostLinkDown_active {port : Hub} (hup : portActive s port = true) (hactive : port = s.pcie.activeHub) :
    hostLinkDown s port = alarm (setPortActive s port false) 0x0501 0xFF (16 + port) port
      ((s.pcie.held.map fun h => h.data.length).sum) 0 0 := by
  simp only [hostLinkDown, hup, Bool.not_true, Bool.false_eq_true, if_false, if_pos hactive]

/-- The state of a port's link is apart from the rest of the host port's. -/
theorem setPortActive_move (h : Hub) (v : Bool) : (setPortActive s h v).pcie.moving = s.pcie.moving ∧
    (setPortActive s h v).pcie.moveBy = s.pcie.moveBy := by
  simp only [setPortActive, State.updPcie]
  split
  · exact ⟨rfl, rfl⟩
  · exact ⟨rfl, rfl⟩

theorem hostLinkDown_target {port : Hub} {fn : Fn} {h t : Hub} (hup : portActive s port = true) (hstandby : port ≠ s.pcie.activeHub)
    (hmoving : s.pcie.moving = true) (hby : s.pcie.moveBy = some (fn, h, t)) :
    hostLinkDown s port = runFinish ((setPortActive s port false).updPcie fun p => { p with moving := false, moveBy := none })
      fn h rRES_UNAVAILABLE [] := by
  obtain ⟨hmoving', hby'⟩ := setPortActive_move (s := s) port false
  simp only [hostLinkDown, hup, Bool.not_true, Bool.false_eq_true, if_false, if_neg hstandby, hmoving', hmoving, if_true, moveFails, hby',
    hby]

theorem hostLinkUp_active : hostLinkUp s s.pcie.activeHub = ventPump (issueHeld (setPortActive s s.pcie.activeHub true)) :=
  if_pos rfl

/-- No read is owed where no queue waits for one. -/
theorem heldReads_nil (hnone : ∀ q ∈ s.queues, q.2.awaitRead = []) : heldReads s = [] := by
  rw [heldReads, List.flatMap_eq_nil_iff]
  intro q hq
  rw [hnone q hq]
  rfl

/-- The standby port's link and configuration space are reset, and nothing else (R446). -/
theorem standbyReset_still (hstill : s.pcie.moving = false) : standbyReset s =
    (setPortActive s (otherHub s.pcie.activeHub) false).updPcie fun p =>
      { p with standby := [], standbyVfEnable := false, standbyVfMse := false, standbyNumVfs := 0 } := by
  obtain ⟨hmoving, -⟩ := setPortActive_move (s := s) (otherHub s.pcie.activeHub) false
  rw [hstill] at hmoving
  exact if_neg (ne_true_of_eq_false hmoving)

theorem standbyReset_keeps (hstill : s.pcie.moving = false) :
    let t := standbyReset s
    t = { s with pcie := t.pcie } ∧ t.pcie.activeHub = s.pcie.activeHub ∧
    portActive t s.pcie.activeHub = portActive s s.pcie.activeHub ∧
    (∀ h, h ≠ s.pcie.activeHub → portActive t h = false) ∧ (∀ k, t.standbyCfg k = CfgSpace.init) ∧
    t.pcie.standbyVfEnable = false ∧ t.pcie.standbyNumVfs = 0 ∧ t.pcie.vfEnable = s.pcie.vfEnable ∧
    t.pcie.numVfs = s.pcie.numVfs ∧ t.pcie.held = s.pcie.held := by
  rw [standbyReset_still hstill]
  have hcases : ∀ h : Hub, h = 0 ∨ h = 1 := by decide
  rcases hcases s.pcie.activeHub with hhub | hhub
  · simp [hhub, otherHub, setPortActive, State.updPcie, portActive, State.standbyCfg]
  · simp [hhub, otherHub, setPortActive, State.updPcie, portActive, State.standbyCfg]

end

end Sys2Proof.Machine

/-- Settles O38: the move past its checks and its drain, and what each event of a port's link leaves. -/
theorem theHostPortMovesAndIsLost : Obligations.TheHostPortMovesAndIsLost := by
  unfold Obligations.TheHostPortMovesAndIsLost
  refine ⟨?move, ?drained, ?switched, ?down, ?targetDown, ?up, ?issued, ?reset⟩
  case move =>
    rintro fn hub tag wing p c s rfl ha hw hz hport hother hready hmem hmaster hlong
    exact scpExec_pend ha (hostPortMove_begins hw hz hport hother hready hmem hmaster hlong)
  case drained =>
    intro fn h h2 r s hby hmoving hdrained hrun hlink
    exact congrArg Host.Outcome.next (hostPortMoved_switches hby hmoving hdrained hrun hlink)
  case switched =>
    intro s t
    obtain ⟨hhub, hmoving, hqueues, hmsix, hcats, hflows, hvf⟩ := switchPort_keeps (s := s) (t := t)
    refine ⟨hhub, hmoving, hqueues, hmsix, hcats, hflows, hvf, fun k hk => ?_⟩
    rw [switchPort_fnSt hk]
    exact ⟨rfl, rfl, rfl⟩
  case down =>
    intro port s hup hactive
    exact congrArg Host.Outcome.next (hostLinkDown_active hup hactive)
  case targetDown =>
    intro port fn h t s hup hstandby hmoving hby
    exact congrArg Host.Outcome.next (hostLinkDown_target hup hstandby hmoving hby)
  case up => exact fun s => congrArg Host.Outcome.next hostLinkUp_active
  case issued => exact fun s => ⟨rfl, rfl, heldReads_nil⟩
  case reset => exact fun s hstill => ⟨_, rfl, standbyReset_keeps hstill⟩

end

section
/-! PROOF. The pair's commands: the settings, the lease, the status, the copy and the partner's reset (13 R394, R395, R415, R426 to
R430) : O34. -/

open Sys2Proof Sys2Proof.Machine

namespace Sys2Proof.Machine

section
variable {s : State} {c : Cmd}

/-! ### PAIR_CONFIGURE (13 R394, R395) -/

/-- A list without duplicates has none to erase. -/
theorem eraseDups_of_nodup {α : Type} [BEq α] [LawfulBEq α] {l : List α} (h : l.Nodup) : l.eraseDups = l := by
  induction l with
  | nil => rfl
  | cons a l ih =>
    obtain ⟨hnew, hrest⟩ := List.nodup_cons.mp h
    have hfilter : l.filter (fun b => !b == a) = l :=
      List.filter_eq_self.mpr fun b hb => by simpa using ne_of_mem_of_not_mem hb hnew
    rw [List.eraseDups_cons, hfilter, ih hrest]

theorem length_pairEntries (p : Bytes) : (pairEntries p).length = leAt p 2 2 := by simp [pairEntries]

/-- The settings are taken, the archive is marked, and the link is trained again. -/
theorem pairConfigure_retrains (hw : c.wing = 0xFF#8) (hflags : fld (leAt c.payload 1 1) 2 6 = 0) (hz : zeroAt c.payload 44 20 = true)
    (hpos : leAt c.payload 0 1 ≤ 1) (hpad : ∀ i, i < leAt c.payload 2 2 → zeroAt c.payload (67 + 4 * i) 1 = true)
    (hes : ∀ e ∈ pairEntries c.payload, e.1 ≤ 15 ∧ e.2.1 ≤ 7 ∧ (e.2.2 = 1 ∨ e.2.2 = 2))
    (hid : bit (leAt c.payload 1 1) 0 = true → BitVec.ofNat 32 (leAt c.payload 4 4) ≠ 0)
    (hnodup : ((pairEntries c.payload).map fun e => (e.1, e.2.1)).Nodup) (hempty : ∀ w k, holdsTable s w k = false)
    (hkey : bit (leAt c.payload 1 1) 0 = true → s.par.pk ≠ none) :
    pairConfigure s c = (retrain (archived (pairSettings (scpCommit s c) c.payload)), .done rOK []) := by
  have hpads : ((List.range (pairEntries c.payload).length).any fun i => !zeroAt c.payload (67 + 4 * i) 1) = false := by
    rw [length_pairEntries]
    simpa using hpad
  have hmodes : ((pairEntries c.payload).any fun e => decide (e.2.2 = 0 ∨ e.2.2 > 2)) = false := by
    simp only [List.any_eq_false, decide_eq_true_eq]
    intro e he
    have hmode := (hes e he).2.2
    omega
  have hranges : ((pairEntries c.payload).any fun e => decide (e.1 > 15) || decide (e.2.1 > 7)) = false := by
    simp only [List.any_eq_false, Bool.or_eq_true, decide_eq_true_eq]
    intro e he
    obtain ⟨hwing, hcat, -⟩ := hes e he
    omega
  have hid' : (bit (leAt c.payload 1 1) 0 && decide (BitVec.ofNat 32 (leAt c.payload 4 4) = 0)) = false := by
    simpa using hid
  have hkey' : (bit (leAt c.payload 1 1) 0 && s.par.pk.isNone) = false := by
    cases hen : bit (leAt c.payload 1 1) 0
    · rfl
    · simpa [Option.isSome_iff_ne_none] using hkey hen
  have hones : ((pairEntries c.payload).map fun e => (e.1, e.2.1)).eraseDups.length = (pairEntries c.payload).length := by
    rw [eraseDups_of_nodup hnodup, List.length_map]
  unfold pairConfigure
  rw [checked_pass]
  rw [firstFail_eq_none_iff]
  simp only [List.mem_cons, List.not_mem_nil, or_false, forall_eq_or_imp, forall_eq, noWing_passes hw, hflags, hz, hpads, hmodes, hranges,
    hid', hkey', hones, hempty]
  simp [hpos]

/-! ### PAIR_LEASE (13 R415, R419) -/

@[simp] theorem sendLease_compareDue (s : State) : (sendLease s).par.compareDue = s.par.compareDue := by
  unfold sendLease
  split
  · unfold pairSend sendFrame
    simp only [State.emit, State.updPar, Par.setDie]
    split <;> rfl
  · rfl

/-- No compare waits. -/
theorem compareWaiting_none (h : s.par.compareDue = []) : compareWaiting s = s := by
  simp [compareWaiting, h]

theorem compareWaiting_sendLease (h : s.par.compareDue = []) : compareWaiting (sendLease s) = sendLease s :=
  compareWaiting_none ((sendLease_compareDue s).trans h)

/-- The lease that a reply gives is that before it was told to the partner. -/
theorem leaseReply_sendLease (s : State) : leaseReply (sendLease s) = leaseReply s := by
  unfold sendLease
  split
  · unfold pairSend sendFrame
    simp only [State.emit, State.updPar, Par.setDie]
    split <;> rfl
  · rfl

theorem pairLease_renews (hw : c.wing = 0xFF#8) (hz : zeroAt c.payload 5 3 = true) (hact : leAt c.payload 4 1 = 0)
    (hterm : BitVec.ofNat 32 (leAt c.payload 0 4) = s.par.term) (hhold : s.par.lease = .holder) (hup : linkUp s.par.link = true)
    (hdue : s.par.compareDue = []) :
    pairLease s c = (sendLease (s.updPar fun x => { x with expiry := s.now + 200000000 }),
      .done rOK (leaseReply (s.updPar fun x => { x with expiry := s.now + 200000000 }))) := by
  have hwait : compareWaiting (sendLease (s.updPar fun x => { x with expiry := s.now + leaseNs })) =
      sendLease (s.updPar fun x => { x with expiry := s.now + leaseNs }) := compareWaiting_sendLease hdue
  unfold pairLease
  rw [checked_pass]
  · simp only [hact, hhold, decide_true, Bool.not_true, Bool.false_eq_true, and_false, if_false, if_true, hwait, leaseReply_sendLease]
    rfl
  · simp [firstFail_cons, noWing_passes hw, hz, hact, hterm, hhold, hup]

/-- A unit that is not holder asks its partner, and waits. -/
theorem pairLease_asks (hw : c.wing = 0xFF#8) (hz : zeroAt c.payload 5 3 = true) (hact : leAt c.payload 4 1 = 1)
    (hterm : BitVec.ofNat 32 (leAt c.payload 0 4) = s.par.term) (hhold : s.par.lease ≠ .holder) (hup : linkUp s.par.link = true)
    (hcommit : committing s = false) (hask : askRun s = none) (hlog : canLog s c.fn) :
    pairLease s c = (pairSend s 0 .leaseAsk [s.par.term.toNat, b2n s.par.position, s.now + 200000000] [], .pend false []) := by
  obtain ⟨hroom, hrate⟩ := hlog
  unfold pairLease
  rw [checked_pass]
  · simp only [hact, hhold, decide_false, Bool.not_false, and_self, if_true]
    rfl
  · simp [firstFail_cons, noWing_passes hw, hz, hact, hterm, hup, hcommit, hask, hroom, hrate]

theorem pairLease_acquires (hw : c.wing = 0xFF#8) (hz : zeroAt c.payload 5 3 = true) (hact : leAt c.payload 4 1 = 1)
    (hterm : BitVec.ofNat 32 (leAt c.payload 0 4) = s.par.term) (hhold : s.par.lease = .holder) (hup : linkUp s.par.link = true)
    (hcommit : committing s = false) (hask : askRun s = none) (hlog : canLog s c.fn)
    {x : State} (hx : x = (scpCommit s c).updPar fun x => { x with
      term := nextEven x.term, lease := .holder, holderPos := x.position, expiry := s.now + 200000000 })
    (hdue : x.par.compareDue = []) :
    pairLease s c = (sendLease x, .done rOK (leaseReply (sendLease x))) := by
  obtain ⟨hroom, hrate⟩ := hlog
  have hacquired : leaseAcquire (scpCommit s c) s.now = sendLease x := by rw [hx]; rfl
  unfold pairLease
  rw [checked_pass]
  · simp only [hact, hhold, decide_true, Bool.not_true, Bool.false_eq_true, and_false, if_false, if_true, hacquired,
      compareWaiting_sendLease hdue, one_ne_zero]
  · simp [firstFail_cons, noWing_passes hw, hz, hact, hterm, hup, hcommit, hask, hroom, hrate]

theorem pairLease_releases (hw : c.wing = 0xFF#8) (hz : zeroAt c.payload 5 3 = true) (hact : leAt c.payload 4 1 = 2)
    (hterm : BitVec.ofNat 32 (leAt c.payload 0 4) = s.par.term) (hhold : s.par.lease = .holder) (hlog : canLog s c.fn)
    {x : State} (hx : x = (scpCommit s c).updPar fun x => { x with lease := .lapsed, expiry := 0 }) (hdue : x.par.compareDue = []) :
    pairLease s c = (sendLease x, .done rOK (leaseReply (sendLease x))) := by
  obtain ⟨hroom, hrate⟩ := hlog
  unfold pairLease
  rw [checked_pass]
  · simp only [hact, hhold, decide_true, Bool.not_true, Bool.false_eq_true, and_false, if_false, ← hx,
      compareWaiting_sendLease hdue, OfNat.ofNat_ne_zero, OfNat.ofNat_ne_one]
  · simp [firstFail_cons, noWing_passes hw, hz, hact, hterm, hhold, hroom, hrate]

/-! ### PAIR_STATUS, PAIR_RESYNC and PAIR_RESET (13 R426 to R430) -/

theorem pairStatus_answers (hw : c.wing = 0xFF#8) (hnone : s.par.entries = []) : pairStatus s c = (s, .done rOK
    ([BitVec.ofNat 8 (linkCode s.par.link), BitVec.ofNat 8 (leaseCode s.par.lease),
      if holderNow s = 2 then 0xFF#8 else BitVec.ofNat 8 (holderNow s), BitVec.ofNat 8 (b2n s.par.declared + 2 * b2n s.par.aligned)] ++
    leBytes 4 s.par.term.toNat ++ leBytes 8 s.par.expiry ++ leBytes 2 s.par.die0.active ++
    leBytes 2 s.par.die1.active ++ [BitVec.ofNat 8 s.par.die0.spareUsed, BitVec.ofNat 8 s.par.die1.spareUsed] ++
    leBytes 2 0 ++ leBytes 4 (satInt32 s.par.timeOfs) ++ List.replicate 4 0#8)) := by
  unfold pairStatus
  rw [checked_pass]
  · simp only [hnone, List.length_nil, List.flatMap_nil, List.append_nil]
  · simp [firstFail_cons, noWing_passes hw]

theorem pairResync_copies (hw : c.wing = 0xFF#8) (hz : zeroAt c.payload 2 2 = true) (hsome : resyncEntries c.payload ≠ [])
    (hfew : (resyncEntries c.payload).length ≤ 128)
    (hes : ∀ e ∈ resyncEntries c.payload, e.1 ≤ 15 ∧ e.2 ≤ 7 ∧ (s.cat (catKey e.1 e.2)).mode ≠ 0 ∧
      ¬ ((s.cat (catKey e.1 e.2)).sync = 1 ∧ (s.cat (catKey e.1 e.2)).isOpen = true))
    (hhold : s.par.lease = .holder) (hup : linkUp s.par.link = true) (hlong : longFull s = false) :
    pairResync s c = (((resyncEntries c.payload).foldl resyncEntry (scpCommit s c, [])).1,
      .done rOK ((resyncEntries c.payload).foldl resyncEntry (scpCommit s c, [])).2) := by
  have hranges : ((resyncEntries c.payload).any fun e =>
      decide (e.1 > 15) || decide (e.2 > 7) || decide ((s.cat (catKey e.1 e.2)).mode = 0)) = false := by
    simp only [List.any_eq_false, Bool.or_eq_true, decide_eq_true_eq]
    intro e he
    obtain ⟨hwing, hcat, hmode, -⟩ := hes e he
    omega
  have hclosed : ((resyncEntries c.payload).any fun e =>
      decide ((s.cat (catKey e.1 e.2)).sync = 1) && (s.cat (catKey e.1 e.2)).isOpen) = false := by
    simp only [List.any_eq_false, Bool.and_eq_true, decide_eq_true_eq]
    exact fun e he => (hes e he).2.2.2
  unfold pairResync
  rw [checked_pass]
  simp only [firstFail_cons, noWing_passes hw, hz, hranges, hclosed, hhold, hup, hlong]
  simp [hsome, hfew, firstFail]

theorem pairReset_tells (hw : c.wing = 0xFF#8) (hz : zeroAt c.payload 1 3 = true)
    (hlevel : leAt c.payload 0 1 = 3 ∨ leAt c.payload 0 1 = 4) (hhold : s.par.lease = .holder) (hup : linkUp s.par.link = true) :
    pairReset s c = (pairSend (scpCommit s c) 0 .reset [leAt c.payload 0 1] [], .done rOK []) := by
  unfold pairReset
  rw [checked_pass]
  rcases hlevel with h | h
  · simp [firstFail_cons, noWing_passes hw, hz, h, hhold, hup]
  · simp [firstFail_cons, noWing_passes hw, hz, h, hhold, hup]

end

end Sys2Proof.Machine

/-- Settles O34: each command past its checks; a message keeps the compare that waits, so the reply gives the lease as it was set. -/
theorem pairCommandsConfigureLeaseAndReset : Obligations.PairCommandsConfigureLeaseAndReset := by
  unfold Obligations.PairCommandsConfigureLeaseAndReset
  refine ⟨?configure, ?renew, ?ask, ?acquire, ?release, ?status, ?resync, ?reset, ?received⟩
  case configure =>
    rintro fn hub tag wing p c s rfl ha hw hflags hz hpos hpad hes hid hnodup hempty hkey
    exact scpExec_done ha (pairConfigure_retrains hw hflags hz hpos hpad hes hid hnodup hempty hkey)
  case renew =>
    rintro fn hub tag wing p c s rfl ha hw hz hact hterm hhold hup hdue
    exact scpExec_done ha (pairLease_renews hw hz hact hterm hhold hup hdue)
  case ask =>
    rintro fn hub tag wing p c s rfl ha hw hz hact hterm hhold hup hcommit hask hlog
    exact scpExec_pend ha (pairLease_asks hw hz hact hterm hhold hup hcommit hask hlog)
  case acquire =>
    rintro fn hub tag wing p c s x rfl ha hw hz hact hterm hhold hup hcommit hask hlog - hx hdue
    exact scpExec_done ha (pairLease_acquires hw hz hact hterm hhold hup hcommit hask hlog hx hdue)
  case release =>
    rintro fn hub tag wing p c s x rfl ha hw hz hact hterm hhold hlog hx hdue
    exact scpExec_done ha (pairLease_releases hw hz hact hterm hhold hlog hx hdue)
  case status =>
    rintro fn hub tag wing p c s rfl ha hw hnone
    exact scpExec_done ha (pairStatus_answers hw hnone)
  case resync =>
    rintro fn hub tag wing p c s rfl ha hw hz hsome hfew hes hhold hup hlong
    exact scpExec_done ha (pairResync_copies hw hz hsome hfew hes hhold hup hlong)
  case reset =>
    rintro fn hub tag wing p c s rfl ha hw hz hlevel hhold hup
    exact scpExec_done ha (pairReset_tells hw hz hlevel hhold hup)
  case received =>
    intro level s _ hup
    exact congrArg Host.Outcome.next (if_pos hup)

end

section
/-! PROOF. The lease: its end, the witness's datagrams and answers, the partner's messages, and the fence of a unit without it (07 R242,
13 R412 to R423) : O36. -/

open Sys2Proof Sys2Proof.Machine

namespace Sys2Proof.Machine

/-! ### Witness datagrams (13 R416) -/

theorem length_beBytes (n v : Nat) : (beBytes n v).length = n := by
  induction n generalizing v with
  | zero => rfl
  | succ n ih => rw [beBytes, List.length_append, ih, List.length_singleton]

theorem length_shaRounds (ks ws v : List W64) : (shaRounds ks ws v).length = v.length := by
  induction ks, ws, v using shaRounds.induct with
  | case1 k ks w ws a b c d e f g h t1 t2 ih =>
    rw [shaRounds, ih]
    rfl
  | case2 ks ws v hstop => rw [shaRounds.eq_2 ks ws v hstop]

theorem length_shaBlock {h : List W64} {blk : Bytes} : (shaBlock h blk).length = h.length := by
  simp [shaBlock, length_shaRounds]

theorem length_sha384 (m : Bytes) : (sha384 m).length = 48 := by
  have hwords (l : List Bytes) : (l.foldl shaBlock sha384H).length = 8 := by
    rw [foldl_keeps List.length fun h blk => length_shaBlock]
    rfl
  simp [sha384, List.length_flatten, Function.comp_def, length_beBytes, hwords]

theorem length_hmac384 (key m : Bytes) : (hmac384 key m).length = 48 := length_sha384 _

section
variable {s : State}

/-- The bytes of a RENEW or CLAIM before its MAC, with its nonce (13 R416). -/
def witnessHead (s : State) (type : Nat) (nonce : Bytes) : Bytes :=
  [0x52#8, 0x4E#8, 0x57#8, 0x54#8, 0x10#8, BitVec.ofNat 8 type, BitVec.ofNat 8 (b2n s.par.position), 0#8] ++
    beBytes 4 s.par.pairId.toNat ++ beBytes 4 s.par.term.toNat ++ nonce ++ beBytes 8 s.now ++ List.replicate 16 0#8

/-- What is noted of a request until its answer. -/
def witnessNote (s : State) (type : Nat) (nonce : Bytes) : Asked :=
  { claim := decide (type = 1), nonce := BitVec.ofNat 64 (fromLE nonce), time := s.now, afterLoss := !linkUp s.par.link }

/-- The datagram: those bytes, and its MAC under the pair key `k`. -/
def witnessAsks (s : State) (type : Nat) (nonce k : Bytes) : Bytes :=
  witnessHead s type nonce ++ (hmac384 k (witnessHead s type nonce)).take 16

theorem askWitness_asks {type : Nat} {k : Bytes} (hkey : s.par.pk = some k) (hwitness : hasWitness s.par = true) :
    askWitness s type = ((s.free 8).2.updPar fun p => { p with asked := p.asked ++ [witnessNote s type (s.free 8).1] }).emit
      (.witness (witnessAsks s type (s.free 8).1 k)) := by
  simp only [askWitness, hkey, hwitness, Bool.not_true, Bool.false_eq_true, if_false]
  rfl

theorem length_witnessHead {type : Nat} {nonce : Bytes} (h : nonce.length = 8) : (witnessHead s type nonce).length = 48 := by
  simp [witnessHead, length_beBytes, h]

theorem length_witnessAsks {type : Nat} {nonce k : Bytes} (h : nonce.length = 8) : (witnessAsks s type nonce k).length = 64 := by
  simp [witnessAsks, length_witnessHead h, length_hmac384]

theorem witnessGrant_drops {term : W32} {nonce : W64} {macOk : Bool} (h : askedFor s nonce = none ∨ macOk = false) :
    witnessGrant s term nonce macOk = witnessDrop s := by
  unfold witnessGrant
  split
  case h_1 => rfl
  case h_2 a hask =>
    have hmac : macOk = false := h.resolve_left (by rw [hask]; exact nofun)
    simp [hmac]

theorem witnessRefuse_drops {term : W32} {nonce : W64} {macOk : Bool} (h : askedFor s nonce = none ∨ macOk = false) :
    witnessRefuse s term nonce macOk = witnessDrop s := by
  unfold witnessRefuse
  split
  case h_1 => rfl
  case h_2 a hask =>
    have hmac : macOk = false := h.resolve_left (by rw [hask]; exact nofun)
    simp [hmac]

section
variable {term : W32} {nonce : W64} {a : Asked} (hask : askedFor s nonce = some a)
include hask

theorem witnessGrant_renews (hclaim : a.claim = false) (hhold : s.par.lease = .holder) (hterm : term = s.par.term)
    (hup : linkUp s.par.link = true) : witnessGrant s term nonce true = sendLease (s.updPar fun p =>
      { p with asked := p.asked.filter (· != a), expiry := a.time + 200000000 }) := by
  simp [witnessGrant, hask, hclaim, State.updPar, hhold, hterm, hup, leaseNs]

theorem witnessGrant_claims (hclaim : a.claim = true) (hlease : s.par.lease = .claiming) :
    witnessGrant s term nonce true = declareLost (s.updPar fun p => { p with
      asked := p.asked.filter (· != a), lease := .holder, term := term, holderPos := p.position, expiry := a.time + 200000000 }) true := by
  simp [witnessGrant, hask, hclaim, State.updPar, hlease, leaseNs]

theorem witnessRefuse_ends : witnessRefuse s term nonce true = s.updPar fun p => { p with
    asked := p.asked.filter (· != a), term := if p.term < term then term else p.term,
    lease := if p.lease = .claiming then .lapsed else p.lease } := by
  simp [witnessRefuse, hask]

end

/-! ### Claims (13 R418) -/

theorem mayClaim_linked (hup : linkUp s.par.link = true) : mayClaim s = false := by simp [mayClaim, hup]

theorem mayClaim_alone (hlease : s.par.lease = .follower ∨ s.par.lease = .lapsed ∨ s.par.lease = .claiming)
    (hwitness : hasWitness s.par = true) (hdown : linkUp s.par.link = false) : mayClaim s = true := by
  simp [mayClaim, hlease, hwitness, hdown]

/-- A unit that is CLAIMING goes on with a CLAIM. -/
theorem claimNow_claiming (h : s.par.lease = .claiming) : claimNow s = askWitness s 1 := by
  have hsame : (s.updPar fun p => { p with lease := .claiming }) = s := by rw [State.updPar, ← h]
  rw [claimNow, hsame]

/-! ### Messages of the partner (13 R415, R420) -/

theorem askEnd_none (code : Byte) (h : askRun s = none) : askEnd s code = s := by rw [askEnd, h]

theorem leaseMessage_holds {term : W32} {holder : Fin 3} {expiry : W64} (hup : linkUp s.par.link = true) (hask : askRun s = none) :
    leaseMessage s term (.holds holder) expiry = leaseReport s term holder expiry := by
  simp [leaseMessage, hup, askAnswered, hask]

/-- The partner holds a higher term. -/
theorem leaseReport_higher {term : W32} {holder : Nat} {expiry : W64} (hask : askRun s = none) (hpaired : s.par.lease ≠ .unpaired)
    (hhigher : s.par.term < term) (hheld : holder ≠ 2) (hother : holder ≠ b2n s.par.position) (hdue : s.par.compareDue = []) :
    leaseReport s term holder expiry = s.updPar fun p =>
      { p with term := term, lease := .follower, holderPos := !p.position, expiry := expiry.toNat } := by
  have hfrom : leaseFrom s term holder expiry.toNat = s.updPar fun p =>
      { p with term := term, lease := .follower, holderPos := !p.position, expiry := expiry.toNat } := by
    simp [leaseFrom, hpaired, hhigher, hheld, hother, myPos, State.updPar]
  have hne : term ≠ s.par.term := by bv_omega
  have hnot : ¬term < s.par.term := by bv_omega
  simp only [leaseReport, hne, false_and, if_false, hhigher, if_true, hfrom]
  rw [if_neg (by bv_omega), askEnd_none _ (by exact hask), compareWaiting_none (by exact hdue)]

/-- A holder answers a lower term with its lease. -/
theorem leaseReport_lower {term : W32} {holder : Nat} {expiry : W64} (hhold : s.par.lease = .holder) (hlower : term < s.par.term)
    (hdue : s.par.compareDue = []) : leaseReport s term holder expiry = sendLease s := by
  have hnot : ¬s.par.term < term := by bv_omega
  have hne : term ≠ s.par.term := by bv_omega
  have hfrom : leaseFrom s term holder expiry.toNat = s := by simp [leaseFrom, hhold, hnot, hne]
  simp only [leaseReport, hne, false_and, if_false, hfrom, hnot, hlower, if_true]
  exact compareWaiting_sendLease hdue

theorem leaseMessage_asks {term : W32} {expiry : W64} (hup : linkUp s.par.link = true) :
    leaseMessage s term .asks expiry = leaseAsked s term expiry := by
  simp [leaseMessage, hup]

theorem leaseMessage_refuses {term : W32} {expiry : W64} {x : Fn × Hub × Run} (hup : linkUp s.par.link = true) (hask : askRun s = some x) :
    leaseMessage s term .refuses expiry = runFinish s x.1 x.2.1 rBUSY [] := by
  simp [leaseMessage, hup, askEnd, hask]

/-- The grant ends the waiting command with the lease. -/
theorem leaseMessage_granted {holder : Fin 3} {expiry : W64} {x : Fn × Hub × Run} {u : State} (hup : linkUp s.par.link = true)
    (hask : askRun s = some x) (hmine : holder.val = b2n s.par.position)
    (hu : u = (scpCommit s (x.2.2.cmd x.1 x.2.1)).updPar (fun p => { p with
      term := nextEven s.par.term, lease := .holder, holderPos := p.position, expiry := x.2.2.start + 200000000 }))
    (hdue : u.par.compareDue = []) :
    leaseMessage s (nextEven s.par.term) (.holds holder) expiry = runFinish u x.1 x.2.1 rOK (leaseReply u) := by
  simp only [leaseMessage, hup, Bool.not_true, Bool.false_eq_true, if_false, askAnswered, hask, hmine, myPos, and_self, if_true,
    Option.getD_some, leaseNs, ← hu, compareWaiting_none hdue]

/-! ### The fence (07 R242, 13 R413) -/

theorem fenced_of_not_holder {k : Cat} (hmode : k.mode ≠ 0) (hhold : s.par.lease ≠ .holder) : fenced s k = true := by
  simp [fenced, hmode, hhold]

theorem epochOpen_fenced {c : Cmd} (hwing : c.wing.toNat < 16) (hz : zeroAt c.payload 1 3 = true) (hcat : leAt c.payload 0 1 < 8)
    (hstate : (s.wing c.wing.toNat).state = .enabled) (hmode : (s.cat (catKey c.wing.toNat (leAt c.payload 0 1))).mode ≠ 0)
    (hhold : s.par.lease ≠ .holder) : epochOpen s c = (s, .done rPAIR_FENCED []) := by
  unfold epochOpen
  apply checked_fail
  simp [epochChecks, firstFail_cons, badWing_passes hwing, hz, hcat, hstate, fenced_of_not_holder hmode hhold]

end

end Sys2Proof.Machine

/-- Settles O36: the timers and the witness's answers, the partner's messages, and the fence, each as its own rule says. -/
theorem theLeaseFollowsWitnessAndPartner : Obligations.TheLeaseFollowsWitnessAndPartner := by
  unfold Obligations.TheLeaseFollowsWitnessAndPartner
  refine ⟨?expiry, ?renew, ?delay, ?claim, ?linked, ?datagram, ?grant, ?granted, ?dropped, ?refuse, ?higher, ?lower, ?asks, ?refuses,
    ?answered, ?fenced, ?opens⟩
  case expiry => exact fun s hlease => congrArg Host.Outcome.next (if_pos hlease)
  case renew => exact fun s hhold => congrArg Host.Outcome.next (if_pos hhold)
  case delay =>
    intro s hlease hwitness hdown
    have hidle : s.par.lease ≠ .claiming := by rcases hlease with h | h <;> simp [h]
    have hmay := mayClaim_alone (by tauto) hwitness hdown
    exact congrArg Host.Outcome.next (if_pos (by simp [hmay, hidle]))
  case claim =>
    intro s hlease hwitness hdown
    have hmay := mayClaim_alone (.inr (.inr hlease)) hwitness hdown
    exact congrArg Host.Outcome.next ((if_pos hmay).trans (claimNow_claiming hlease))
  case linked =>
    intro s hup
    have hmay := mayClaim_linked hup
    exact ⟨congrArg Host.Outcome.next (if_neg (by simp [hmay])), congrArg Host.Outcome.next (if_neg (by simp [hmay]))⟩
  case datagram =>
    intro s type k hkey hwitness
    have hnonce : (s.free 8).1.length = 8 := by simp [State.free]
    rw [askWitness_asks hkey hwitness]
    exact ⟨witnessNote s type (s.free 8).1, witnessAsks s type (s.free 8).1 k, rfl, rfl, rfl, rfl, length_witnessAsks hnonce,
      rfl, rfl⟩
  case grant =>
    exact fun term nonce a s hask hclaim hhold hterm hup =>
      congrArg Host.Outcome.next (witnessGrant_renews hask hclaim hhold hterm hup)
  case granted =>
    exact fun term nonce a s hask hclaim hlease => congrArg Host.Outcome.next (witnessGrant_claims hask hclaim hlease)
  case dropped =>
    exact fun term nonce macOk s h =>
      ⟨congrArg Host.Outcome.next (witnessGrant_drops h), congrArg Host.Outcome.next (witnessRefuse_drops h)⟩
  case refuse => exact fun term nonce a s hask => congrArg Host.Outcome.next (witnessRefuse_ends hask)
  case higher =>
    intro term holder expiry s hup hask hpaired hhigher hheld hother hdue
    exact congrArg Host.Outcome.next ((leaseMessage_holds hup hask).trans
      (leaseReport_higher hask hpaired hhigher hheld hother hdue))
  case lower =>
    intro term holder expiry s hup hhold hlower hask hdue
    exact congrArg Host.Outcome.next ((leaseMessage_holds hup hask).trans (leaseReport_lower hhold hlower hdue))
  case asks =>
    rintro term expiry s hup rfl
    refine ⟨fun hidle => ?_, fun hbusy => ?_⟩
    · refine congrArg Host.Outcome.next ((leaseMessage_asks hup).trans ?_)
      simp only [leaseAsked, ne_eq, not_true_eq_false, if_false, committing, hidle, Bool.false_eq_true, State.updPar]
    · refine congrArg Host.Outcome.next ((leaseMessage_asks hup).trans ?_)
      simp only [leaseAsked, ne_eq, not_true_eq_false, if_false, committing, hbusy, if_true]
  case refuses => exact fun term expiry x s hup hask => congrArg Host.Outcome.next (leaseMessage_refuses hup hask)
  case answered =>
    exact fun holder expiry x s u hup hask hmine _ hu hdue =>
      congrArg Host.Outcome.next (leaseMessage_granted hup hask hmine hu hdue)
  case fenced => exact fun s k hmode hhold => fenced_of_not_holder hmode hhold
  case opens =>
    rintro fn hub tag wing p c s rfl ha hwing hz hcat hstate hmode hhold
    exact scpExec_done ha (epochOpen_fenced hwing hz hcat hstate hmode hhold)

end

section
/-! PROOF. IDE streams and TDISP: the keys of a stream, and the states of a TDI, each of which is recorded (02 R76, 15 R478 to R481) :
O43. -/

open Sys2Proof Sys2Proof.Machine

namespace Sys2Proof.Machine

section
variable {s : State} {fn : Fn}

/-! ### Which requests are taken -/

section
variable (hopen : doeOpen s fn = true) (htested : s.vlt.mode ≠ .selfTest) (hserves : vaultServes s = true)
  (hnegotiated : (s.fnSt fn).spdm = .negotiated)
include hopen htested hserves hnegotiated

theorem ideKm_takes (hofficer : isOfficer s fn = true) (f : State → State) : ideKm s fn f = f s := by
  rw [ideKm, spdmAfter_takes hopen htested hserves hnegotiated, if_pos hofficer]

theorem tdisp_takes (huser : isTenantUser s fn = true) (f : State → State) : tdisp s fn f = f s := by
  rw [tdisp, spdmAfter_takes hopen htested hserves hnegotiated, if_pos huser]

end

/-! ### IDE streams (15 R478) -/

theorem ide_setIde_same (k : Nat) (v : IdeStream) : (s.setIde k v).ide k = v := Tbl.get_set_same ..

theorem ide_setIde_other {k j : Nat} (h : j ≠ k) (v : IdeStream) : (s.setIde k v).ide j = s.ide j := Tbl.get_set_other _ _ _ h

theorem ideAck_vlt (obj stream status sub : Nat) : (ideAck s fn obj stream status sub).vlt = s.vlt := by
  simp [ideAck, spdmSecure, doeAnswer]

@[simp] theorem ideAck_ide (obj stream status sub j : Nat) : (ideAck s fn obj stream status sub).ide j = s.ide j := by
  rw [State.ide, ideAck_vlt, State.ide]

theorem ideAck_frame (obj stream status sub k : Nat) (v : IdeStream) :
    let t := ideAck (s.setIde k v) fn obj stream status sub
    t = { s with vlt := t.vlt, fns := t.fns, out := t.out } := by
  intro t
  obtain ⟨hframe, -⟩ := doeAnswer_keeps (s := s.setIde k v) (fn := fn) (doeObject 2 (vendorRsp 0
    ([BitVec.ofNat 8 obj, 0#8, 0#8] ++ [BitVec.ofNat 8 stream, BitVec.ofNat 8 status, BitVec.ofNat 8 sub, 0#8])))
  have hvlt : t.vlt = (s.setIde k v).vlt := ideAck_vlt ..
  rw [hvlt]
  exact hframe

/-- The keys of a set with one more loaded. -/
def withKey (l : List Nat) (sub : Nat) : List Nat := if l.contains sub then l else l ++ [sub]

theorem mem_withKey (l : List Nat) (sub : Nat) : sub ∈ withKey l sub := by
  unfold withKey
  split
  case isTrue h => simpa using h
  case isFalse => simp

/-- A stream after IDE_KEY_PROGRAM. -/
def ideKeyed (x : IdeStream) (set_ sub : Nat) (vf : Fn) : IdeStream :=
  let y := if set_ = 0 then { x with keys0 := withKey x.keys0 sub } else { x with keys1 := withKey x.keys1 sub }
  { y with vf := some vf }

theorem ideKeyProgram_keys {k set_ sub : Nat} {vf : Fn} (hk : k < 8) : ideKeyProgram s fn k set_ sub vf =
    ideAck (s.setIde k (ideKeyed (s.ide k) set_ sub vf)) fn 3 k 0 (set_ + 2 * sub) := by
  simp only [ideKeyProgram, if_pos hk]
  rfl

/-- One key of one set is loaded, for a VF; the other set and the stream's security stand. -/
theorem ideKeyed_keeps (x : IdeStream) (keySet : Fin 2) (sub : Nat) (vf : Fn) :
    let y := ideKeyed x keySet sub vf
    sub ∈ (if keySet = 0 then y.keys0 else y.keys1) ∧ (if keySet = 0 then y.keys1 = x.keys1 else y.keys0 = x.keys0) ∧
      y.vf = some vf ∧ y.secure = x.secure := by
  have hcases : ∀ k : Fin 2, k = 0 ∨ k = 1 := by decide
  rcases hcases keySet with rfl | rfl
  · exact ⟨mem_withKey .., rfl, rfl, rfl⟩
  · exact ⟨mem_withKey .., rfl, rfl, rfl⟩

/-- A stream whose set has its six keys switches to it. -/
theorem kSetGo_switches {k : Nat} {keySet : Fin 2}
    (hfull : (if keySet = 0 then (s.ide k).keys0 else (s.ide k).keys1).length = 6) :
    kSetGo s fn k keySet =
      ideAck (s.setIde k { s.ide k with cur := some (decide (keySet = 1)), secure := true }) fn 6 k 0 keySet := by
  have hcases : ∀ k : Fin 2, k = 0 ∨ k = 1 := by decide
  rcases hcases keySet with rfl | rfl
  · exact if_pos hfull
  · exact if_pos hfull

/-! ### TDISP (15 R479 to R481) -/

theorem lockInterface_locks {k : Nat} {w : WingIx} (hstate : (s.tdi fn).state = .unlocked) (hwing : s.fnWing fn = some w)
    (hhost : s.hostFn w = some fn.val) (hcovers : streamCovers s k fn = true) (hroom : logFull s = false) :
    lockInterface s fn k = tdispSend (((tdiSet s fn .locked).free 32).2.updTdi fn fun t => { t with stream := some k }) fn 3
      ((tdiSet s fn .locked).free 32).1 := by
  simp [lockInterface, hstate, hwing, hhost, hcovers, hroom]

theorem lockInterface_uncovered {k : Nat} (hstate : (s.tdi fn).state = .unlocked) (hcovers : streamCovers s k fn = false) :
    lockInterface s fn k = tdispError s fn 1 := by
  simp [lockInterface, hstate, hcovers]

/-- A record takes the next number of the log, and leaves the TDIs. -/
theorem logAppend_tdis (s : State) (fnId wing kind target detail : Nat) (old new : Bytes) :
    (logAppend s fnId wing kind target detail old new).tdis = s.tdis ∧
      (logAppend s fnId wing kind target detail old new).log.next = s.log.next + 1 := by
  have halarm (c : Prop) [Decidable c] (t : State) (n : Nat) :
      (if c then alarm t 0x0108 0xFF 16 n 0 0 0 else t).tdis = t.tdis ∧
        (if c then alarm t 0x0108 0xFF 16 n 0 0 0 else t).log = t.log := by
    split
    · have hview := alarm_outsideVents t 0x0108 0xFF 16 n 0 0 0
      have htdis := congrArg State.tdis hview
      have hlog := congrArg State.log hview
      exact ⟨htdis, hlog⟩
    · exact ⟨rfl, rfl⟩
  simp only [logAppend, logPut, (halarm ..).1, (halarm ..).2]
  split_ifs <;> exact ⟨rfl, rfl⟩

/-- A change of a TDI's state is one record. -/
theorem tdiSet_records {vf : Nat} {x : TdiState} (hroom : logFull s = false) (hchange : (s.tdi vf).state ≠ x) :
    ((tdiSet s vf x).tdi vf).state = x ∧ (∀ k, k ≠ vf → (tdiSet s vf x).tdi k = s.tdi k) ∧
      (tdiSet s vf x).log.next = s.log.next + 1 := by
  have hno : ¬((s.tdi vf).state = x ∨ logFull s = true) := by simp [hchange, hroom]
  have hset : tdiSet s vf x = logAppend (s.updTdi vf fun y =>
      { y with state := x, stream := if x = .unlocked then none else y.stream }) vf (((s.vf vf).owner.map (·.val)).getD 0xFF) 1 0 0
      [BitVec.ofNat 8 (tdiCode (s.tdi vf).state)] [BitVec.ofNat 8 (tdiCode x)] := if_neg hno
  obtain ⟨htdis, hnext⟩ := logAppend_tdis (s.updTdi vf fun y =>
      { y with state := x, stream := if x = .unlocked then none else y.stream }) vf (((s.vf vf).owner.map (·.val)).getD 0xFF) 1 0 0
      [BitVec.ofNat 8 (tdiCode (s.tdi vf).state)] [BitVec.ofNat 8 (tdiCode x)]
  rw [← hset] at htdis hnext
  have hread (k : Nat) := congrArg (Tbl.get Tdi.init · k) htdis
  refine ⟨?_, fun k hk => (hread k).trans (Tbl.get_set_other _ _ _ hk), hnext⟩
  exact congrArg Tdi.state ((hread vf).trans (Tbl.get_set_same ..))

end

end Sys2Proof.Machine

/-- Settles O43: a taken request comes to its own part, whose answer touches its function alone; a change of a TDI's state is logged. -/
theorem ideStreamsAndTdispInterfaces : Obligations.IdeStreamsAndTdispInterfaces := by
  unfold Obligations.IdeStreamsAndTdispInterfaces
  refine ⟨?key, ?go, ?integrity, ?lock, ?uncovered, ?start, ?stop, ?report, ?recorded⟩
  case key =>
    intro fn stream keySet sub vf s hopen htested hserves hnegotiated hofficer hstream
    refine ⟨_, congrArg Host.Outcome.next ((ideKm_takes hopen htested hserves hnegotiated hofficer _).trans
      (ideKeyProgram_keys hstream)), ?_⟩
    obtain ⟨hkey, hothers, hvf, hsecure⟩ := ideKeyed_keeps (s.ide stream) keySet sub vf
    simp only [ideAck_ide, ide_setIde_same]
    exact ⟨hkey, hothers, hvf, hsecure, fun k hk => ide_setIde_other hk _, ideAck_frame ..⟩
  case go =>
    intro fn stream keySet s hopen htested hserves hnegotiated hofficer hfull
    exact ⟨_, congrArg Host.Outcome.next ((ideKm_takes hopen htested hserves hnegotiated hofficer _).trans (kSetGo_switches hfull)),
      ide_setIde_same _ _, fun k hk => ide_setIde_other hk _⟩
  case integrity => exact fun stream s hsecure halive => congrArg Host.Outcome.next (if_pos ⟨hsecure, halive⟩)
  case lock =>
    intro fn stream s w hopen htested hserves hnegotiated huser hstate hwing hhost hcovers hroom
    exact congrArg Host.Outcome.next ((tdisp_takes hopen htested hserves hnegotiated huser _).trans
      (lockInterface_locks hstate hwing hhost hcovers hroom))
  case uncovered =>
    intro fn stream s hopen htested hserves hnegotiated huser hstate hcovers
    exact congrArg Host.Outcome.next ((tdisp_takes hopen htested hserves hnegotiated huser _).trans
      (lockInterface_uncovered hstate hcovers))
  case start =>
    intro fn s hopen htested hserves hnegotiated huser hstate hroom
    exact congrArg Host.Outcome.next ((tdisp_takes hopen htested hserves hnegotiated huser _).trans
      (if_neg (by simp [hstate, hroom])))
  case stop =>
    intro fn s hopen htested hserves hnegotiated huser hstate hroom
    refine congrArg Host.Outcome.next ((tdisp_takes hopen htested hserves hnegotiated huser _).trans ?_)
    simp only [hroom, Bool.false_eq_true, false_and, if_false, hstate]
  case report =>
    intro fn s hopen htested hserves hnegotiated huser
    obtain ⟨hframe, hothers, -, hout⟩ := doeAnswer_keeps (s := s) (fn := fn) (doeObject 2 _)
    exact ⟨_, congrArg Host.Outcome.next (tdisp_takes hopen htested hserves hnegotiated huser _), hframe, hothers, hout⟩
  case recorded => exact fun s vf x hroom hchange => tdiSet_records hroom hchange

end

section
/-! PROOF. The Ranri link: frames, the loss of a die and of the link, lanes, training, time and the reports of striped catalogues
(13 R396 to R408, 15 R471) : O35. -/

open Sys2Proof Sys2Proof.Machine

namespace Sys2Proof.Machine

/-! ### Link dies -/

theorem hub_cases (h : Hub) : h = 0 ∨ h = 1 := by
  have hall : ∀ h : Hub, h = 0 ∨ h = 1 := by decide
  exact hall h

theorem otherHub_ne (h : Hub) : otherHub h ≠ h := by
  have hall : ∀ h : Hub, otherHub h ≠ h := by decide
  exact hall h

section
variable (p : Par)

@[simp] theorem Par.die_setDie_same (n : Nat) (d : LinkDie) : (p.setDie n d).die n = d := by
  by_cases h : n = 0
  · simp [Par.die, Par.setDie, h]
  · simp [Par.die, Par.setDie, h]

theorem Par.die_setDie_other {n m : Hub} (h : m ≠ n) (d : LinkDie) : (p.setDie n d).die m = p.die m := by
  rcases hub_cases n with rfl | rfl
  · rw [(hub_cases m).resolve_left h]
    rfl
  · rw [(hub_cases m).resolve_right h]
    rfl

/-- A change of a die leaves the rest of the pair's state. -/
theorem Par.setDie_frame (n : Nat) (d : LinkDie) :
    p.setDie n d = { p with die0 := (p.setDie n d).die0, die1 := (p.setDie n d).die1 } := by
  unfold Par.setDie
  split <;> rfl

@[simp] theorem Par.setDie_link (n : Nat) (d : LinkDie) : (p.setDie n d).link = p.link := by rw [Par.setDie_frame]
@[simp] theorem Par.setDie_repeats (n : Nat) (d : LinkDie) : (p.setDie n d).repeats = p.repeats := by rw [Par.setDie_frame]
@[simp] theorem Par.setDie_entries (n : Nat) (d : LinkDie) : (p.setDie n d).entries = p.entries := by rw [Par.setDie_frame]
@[simp] theorem Par.setDie_lease (n : Nat) (d : LinkDie) : (p.setDie n d).lease = p.lease := by rw [Par.setDie_frame]
@[simp] theorem Par.setDie_tableWait (n : Nat) (d : LinkDie) : (p.setDie n d).tableWait = p.tableWait := by rw [Par.setDie_frame]

/-- The link is up only while a die is. -/
theorem linkOf_up {die : Hub} (h : (p.die die).up = true) : linkUp (linkOf p) = true := by
  have hany : (p.die0.up || p.die1.up) = true := by
    rcases hub_cases die with rfl | rfl
    · exact Bool.or_eq_true_iff.mpr (.inl h)
    · exact Bool.or_eq_true_iff.mpr (.inr h)
  unfold linkOf
  rw [hany]
  split <;> rfl

/-- A link whose one die is down is DEGRADED or down. -/
theorem linkOf_degraded {die : Hub} (hdown : (p.die die).up = false) (hup : linkUp (linkOf p) = true) : linkOf p = .degraded := by
  have hnot : (p.die0.up && p.die1.up) = false := by
    rcases hub_cases die with rfl | rfl
    · exact Bool.and_eq_false_iff.mpr (.inl hdown)
    · exact Bool.and_eq_false_iff.mpr (.inr hdown)
  unfold linkOf at hup ⊢
  simp only [hnot, Bool.false_and, Bool.false_eq_true, if_false] at hup ⊢
  split at hup
  case isTrue h => rw [if_pos h]
  case isFalse => exact absurd hup (by decide)

theorem linkOf_down {die : Hub} (hdown : (p.die die).up = false) (hother : (p.die (otherHub die)).up = false) : linkOf p = .down := by
  have hboth : p.die0.up = false ∧ p.die1.up = false := by
    rcases hub_cases die with rfl | rfl
    · exact ⟨hdown, hother⟩
    · exact ⟨hother, hdown⟩
  simp [linkOf, hboth]

end

/-! ### Frames (R397, R401) -/

section
variable {s : State} {die : Hub} {h : FrameHead}

theorem ranriFrame_bad (hup : (s.par.die die).up = true) (hlink : s.par.link ≠ .mismatch) :
    ranriFrame s die h false = s.emit (.pair die .frameRepeat [h.seq.toNat] []) := by
  simp [ranriFrame, hup, hlink]

/-- A die that has taken a good frame. -/
def LinkDie.takes (d : LinkDie) (h : FrameHead) (now : Nat) : LinkDie :=
  { d with idle := now, rxSeq := if h.seq = d.rxSeq then d.rxSeq + 1 else d.rxSeq, replay := framesAfter d.replay h.ack }

theorem ranriFrame_good (hup : (s.par.die die).up = true) (hlink : s.par.link ≠ .mismatch) : ranriFrame s die h true =
    repeatFrame ((s.updPar fun p => p.setDie die ((s.par.die die).takes h s.now)).emit (.pair die .frameAck [h.seq.toNat] []))
      die h.again := by
  simp [ranriFrame, hup, hlink, LinkDie.takes]

/-- A frame that is asked for stands in the replay buffer: it is sent again, and counted. -/
theorem repeatFrame_found {q : W32} {f : Frame} (hfind : ((s.par.die die).replay.find? fun f => decide (f.seq = q)) = some f) :
    repeatFrame s die (some q) =
      (s.updPar fun p => { p with repeats := satInc p.repeats }).emit (.pair die f.msg f.args f.data) := by
  simp only [repeatFrame, Option.bind_some, hfind]

theorem framesAfter_acked {l : List Frame} {q : W32} {f : Frame} (rest : List Frame) (hbefore : ∀ x ∈ l, x.seq ≠ q) (hf : f.seq = q) :
    framesAfter (l ++ f :: rest) (some q) = rest := by
  have hindex : (l ++ f :: rest).findIdx? (fun f => decide (f.seq = q)) = some l.length := by
    rw [List.findIdx?_append, List.findIdx?_eq_none_iff.mpr (by simpa using hbefore)]
    simp [List.findIdx?_cons, hf]
  simp only [framesAfter, hindex]
  rw [List.append_cons, List.drop_left' (by simp)]

/-- In MISMATCH the link carries nothing. -/
theorem ranriFrame_mismatch (ok : Bool) (hlink : s.par.link = .mismatch) : ranriFrame s die h ok = s := by
  simp [ranriFrame, hlink]

theorem keepaliveTick_mismatch (hlink : s.par.link = .mismatch) : keepaliveTick s die = s := by simp [keepaliveTick, hlink]

theorem keepaliveTick_silent (hup : (s.par.die die).up = true) (hlink : s.par.link ≠ .mismatch)
    (hsilent : 5000 ≤ s.now - (s.par.die die).idle) : keepaliveTick s die = linkDieDown s die := by
  simp only [keepaliveTick, hup, decide_eq_false hlink, Bool.not_true, Bool.or_false, Bool.false_eq_true, if_false, ge_iff_le, if_pos hsilent]

theorem keepaliveTick_heard (hup : (s.par.die die).up = true) (hlink : s.par.link ≠ .mismatch)
    (hheard : s.now - (s.par.die die).idle < 5000) : keepaliveTick s die = s.emit (.pair die .keepalive [] []) := by
  simp only [keepaliveTick, hup, decide_eq_false hlink, Bool.not_true, Bool.or_false, Bool.false_eq_true, if_false, ge_iff_le,
    if_neg (Nat.not_le.mpr hheard)]

/-- A die that has sent a frame. -/
def LinkDie.sends (d : LinkDie) (msg : PairMsg) (args : List Nat) (data : Bytes) : LinkDie :=
  { d with txSeq := d.txSeq + 1, replay := d.replay ++ [{ seq := d.txSeq, msg := msg, args := args, data := data }] }

theorem sendFrame_frame (u : State) (n : Hub) (msg : PairMsg) (args : List Nat) (data : Bytes) : sendFrame u n msg args data =
    { u with par := u.par.setDie n ((u.par.die n).sends msg args data), out := u.out ++ [.pair n msg args data] } := rfl

/-- What one frame sent again leaves. -/
theorem sendFrame_keeps (s : State) (n : Hub) (msg : PairMsg) (args : List Nat) (data : Bytes) :
    let t := sendFrame (s.updPar fun p => { p with repeats := satInc p.repeats }) n msg args data
    t = { s with par := t.par, out := t.out } ∧ t.par.link = s.par.link ∧ t.out = s.out ++ [.pair n msg args data] ∧
      (∀ m : Hub, m ≠ n → t.par.die m = s.par.die m) ∧ (t.par.die n).txSeq = (s.par.die n).txSeq + 1 ∧
      { t.par.die n with txSeq := (s.par.die n).txSeq, replay := (s.par.die n).replay } = s.par.die n := by
  intro t
  have hsend : t = { s with
      par := ({ s.par with repeats := satInc s.par.repeats } : Par).setDie n ((s.par.die n).sends msg args data),
      out := s.out ++ [.pair n msg args data] } := sendFrame_frame ..
  clear_value t
  subst hsend
  refine ⟨rfl, Par.setDie_link .., rfl, fun m hm => Par.die_setDie_other _ hm _, ?_, ?_⟩
  · rw [Par.die_setDie_same]
    rfl
  · rw [Par.die_setDie_same]
    rfl

/-- Frames sent again on a die: each is counted and takes the die's next number; nothing but the pair's state and the output moves. -/
theorem resendFrames_keeps (l : List Frame) (s : State) (n : Hub) :
    let t := resendFrames s n l
    t = { s with par := t.par, out := t.out } ∧ t.par.link = s.par.link ∧
      t.out = s.out ++ l.map (fun f => .pair n f.msg f.args f.data) ∧ (∀ m : Hub, m ≠ n → t.par.die m = s.par.die m) ∧
      (t.par.die n).txSeq = (s.par.die n).txSeq + BitVec.ofNat 32 l.length ∧
      { t.par.die n with txSeq := (s.par.die n).txSeq, replay := (s.par.die n).replay } = s.par.die n := by
  induction l generalizing s with
  | nil => exact ⟨rfl, rfl, (List.append_nil _).symm, fun m _ => rfl, (BitVec.add_zero _).symm, rfl⟩
  | cons f l ih =>
    obtain ⟨hframe1, hlink1, hout1, hothers1, hseq1, hrest1⟩ := sendFrame_keeps s n f.msg f.args f.data
    generalize hs : sendFrame (s.updPar fun p => { p with repeats := satInc p.repeats }) n f.msg f.args f.data = u at *
    obtain ⟨hframe, hlink, hout, hothers, hseq, hrest⟩ := ih u
    have hfold : resendFrames s n (f :: l) = resendFrames u n l := by rw [← hs]; rfl
    simp only [hfold]
    generalize resendFrames u n l = t at *
    refine ⟨?_, hlink.trans hlink1, ?_, fun m hm => (hothers m hm).trans (hothers1 m hm), ?_, ?_⟩
    · rw [hframe, hframe1]
    · rw [hout, hout1, List.map_cons, List.append_assoc]
      rfl
    · rw [hseq, hseq1, List.length_cons]
      bv_omega
    · rw [← hrest1, ← hrest]

/-! ### A die and the link go down (R399, R401, R414) -/

theorem updPar_link_same : (s.updPar fun p => { p with link := s.par.link }) = s := rfl

/-- The other die serves the link, and sends what was not acknowledged. -/
theorem linkDieDown_degrades (hup : (s.par.die die).up = true)
    (hserved : linkUp (linkOf (s.par.setDie die (dieOff (s.par.die die)))) = true) (hlink : linkUp s.par.link = true) :
    linkDieDown s die = resendFrames (s.updPar fun p => { p.setDie die (dieOff (p.die die)) with link := .degraded })
      (otherHub die) (s.par.die die).replay := by
  have hstate : linkOf (s.par.setDie die (dieOff (s.par.die die))) = .degraded :=
    linkOf_degraded (die := die) _ (by rw [Par.die_setDie_same]; rfl) hserved
  have hstill : (linkUp s.par.link && !linkUp .degraded) = false := by simp [linkUp]
  have hdeg : linkUp .degraded = true := rfl
  simp only [linkDieDown, hup, hlink, hstate, setLinkState, State.updPar, Par.setDie_link, hdeg, Bool.not_true, Bool.and_false,
    Bool.false_eq_true, if_false, if_true]

theorem linkDieDown_degraded (hup : (s.par.die die).up = true)
    (hserved : linkUp (linkOf (s.par.setDie die (dieOff (s.par.die die)))) = true) (hlink : linkUp s.par.link = true) :
    let t := linkDieDown s die
    (t.par.die die).up = false ∧ (t.par.die die).active = 0 ∧
    t = { s with par := t.par, out := t.out } ∧ t.par.link = .degraded ∧
    t.out = s.out ++ (s.par.die die).replay.map (fun f => .pair (otherHub die) f.msg f.args f.data) ∧
    (t.par.die (otherHub die)).txSeq = (s.par.die (otherHub die)).txSeq + BitVec.ofNat 32 (s.par.die die).replay.length ∧
    { t.par.die (otherHub die) with
      txSeq := (s.par.die (otherHub die)).txSeq, replay := (s.par.die (otherHub die)).replay } = s.par.die (otherHub die) := by
  intro t
  have ht : t = _ := linkDieDown_degrades hup hserved hlink
  obtain ⟨hframe, hstate, hout, hothers, hseq, hrest⟩ := resendFrames_keeps (s.par.die die).replay
    (s.updPar fun p => { p.setDie die (dieOff (p.die die)) with link := .degraded }) (otherHub die)
  rw [← ht] at hframe hstate hout hothers hseq hrest
  have hoff : t.par.die die = dieOff (s.par.die die) :=
    (hothers die (otherHub_ne die).symm).trans (Par.die_setDie_same s.par die _)
  have hother : (s.updPar fun p => { p.setDie die (dieOff (p.die die)) with link := .degraded }).par.die (otherHub die) =
      s.par.die (otherHub die) := Par.die_setDie_other s.par (otherHub_ne die) _
  rw [hother] at hseq hrest
  rw [hoff]
  exact ⟨rfl, rfl, hframe, hstate, hout, hseq, hrest⟩

/-- The V of each paired catalogue is noted. -/
def noteV (s : State) (l : List (Nat × Nat × Nat)) : State :=
  l.foldl (fun s e => s.updCat (catKey e.1 e.2.1) fun k => { k with lossV := some k.vis }) s

theorem noteV_frame (l : List (Nat × Nat × Nat)) (s : State) : noteV s l = { s with cats := (noteV s l).cats } := by
  induction l generalizing s with
  | nil => rfl
  | cons e l ih => exact (ih _).trans rfl

/-- A catalogue of the list has its V noted; one whose V was noted keeps it so. -/
theorem noteV_lossV (l : List (Nat × Nat × Nat)) (s : State) (j : Nat)
    (hj : j ∈ l.map (fun e => catKey e.1 e.2.1) ∨ (s.cat j).lossV = some (s.cat j).vis) :
    ((noteV s l).cat j).lossV = some (s.cat j).vis := by
  induction l generalizing s with
  | nil => exact hj.resolve_left (List.not_mem_nil)
  | cons e l ih =>
    have hstep := ih (s.updCat (catKey e.1 e.2.1) fun k => { k with lossV := some k.vis })
    rw [State.updCat_eq, State.cat_setCat] at hstep
    by_cases hkey : j = catKey e.1 e.2.1
    · subst hkey
      rw [if_pos rfl] at hstep
      exact hstep (.inr rfl)
    · rw [if_neg hkey] at hstep
      rw [List.map_cons, List.mem_cons] at hj
      exact hstep (hj.imp_left fun h => h.resolve_left hkey)

/-- What the loss of the link notes, and the compare that it drops. -/
def Par.noted (p : Par) (now : Nat) : Par := { p with lostAt := some now, aligned := false, compareDue := [] }

/-- The loss of the link of a unit that does not hold the lease, and on which no command waits for the partner. -/
theorem linkLost_notes (hhold : s.par.lease ≠ .holder) (hwait : s.par.tableWait = []) (hask : askRun s = none) :
    linkLost s = noteV (s.updPar fun p => p.noted s.now) s.par.entries := by
  have hframe := noteV_frame s.par.entries (s.updPar fun p => p.noted s.now)
  have hpar : (noteV (s.updPar fun p => p.noted s.now) s.par.entries).par = s.par.noted s.now := by rw [hframe]; rfl
  have hmbx : askRun (noteV (s.updPar fun p => p.noted s.now) s.par.entries) = none := by
    rw [hframe]
    exact hask
  have hlost : linkLost s = (
      let s2 := noteV (s.updPar fun p => p.noted s.now) s.par.entries
      let s3 := askEnd (s2.par.tableWait.foldl (fun s x => tableWaitFail s x rPARTNER_LOST) s2) rNOT_PERMITTED
      if s3.par.lease = .holder then askWitness s3 0 else s3) := rfl
  have htable : (s.par.noted s.now).tableWait = [] := hwait
  have hlease : (s.par.noted s.now).lease ≠ .holder := hhold
  rw [hlost]
  simp only [hpar, htable, List.foldl_nil, askEnd_none _ hmbx, if_neg hlease]

/-- A die is off, and the link with it. -/
def Par.unlinked (p : Par) (n : Nat) : Par := { p.setDie n (dieOff (p.die n)) with link := .down }

@[simp] theorem Par.unlinked_entries (p : Par) (n : Nat) : (p.unlinked n).entries = p.entries := Par.setDie_entries ..
@[simp] theorem Par.unlinked_lease (p : Par) (n : Nat) : (p.unlinked n).lease = p.lease := Par.setDie_lease ..
@[simp] theorem Par.unlinked_tableWait (p : Par) (n : Nat) : (p.unlinked n).tableWait = p.tableWait := Par.setDie_tableWait ..

theorem linkDieDown_ends (hup : (s.par.die die).up = true) (hother : (s.par.die (otherHub die)).up = false)
    (hlink : linkUp s.par.link = true) (hstill : linkUp (linkLost (s.updPar fun p => p.unlinked die)).par.link = false) :
    linkDieDown s die = linkLost (s.updPar fun p => p.unlinked die) := by
  have hstate : linkOf (s.par.setDie die (dieOff (s.par.die die))) = .down :=
    linkOf_down (die := die) _ (by rw [Par.die_setDie_same]; rfl) (by rw [Par.die_setDie_other _ (otherHub_ne die)]; exact hother)
  have hends : setLinkState (s.updPar fun _ => s.par.setDie die (dieOff (s.par.die die))) .down =
      linkLost (s.updPar fun p => p.unlinked die) :=
    if_pos (by simp [State.updPar, hlink, show linkUp .down = false from rfl])
  simp only [linkDieDown, hup, hlink, hstate, hends, hstill, Bool.not_true, Bool.false_eq_true, if_false, if_true]

theorem linkDieDown_lost (hup : (s.par.die die).up = true) (hother : (s.par.die (otherHub die)).up = false)
    (hlink : linkUp s.par.link = true) (hhold : s.par.lease ≠ .holder) (hwait : s.par.tableWait = []) (hask : askRun s = none) :
    let t := linkDieDown s die
    t.par.link = .down ∧ t.par.lostAt = some s.now ∧ t.par.aligned = false ∧
    (∀ e ∈ s.par.entries, (t.cat (catKey e.1 e.2.1)).lossV = some (s.cat (catKey e.1 e.2.1)).vis) ∧
    t = { s with par := t.par, cats := t.cats } := by
  have hlost : linkLost (s.updPar fun p => p.unlinked die) =
      noteV (s.updPar fun p => (p.unlinked die).noted s.now) (s.par.unlinked die).entries :=
    linkLost_notes (s := s.updPar fun p => p.unlinked die) ((Par.unlinked_lease ..).trans_ne hhold)
      ((Par.unlinked_tableWait ..).trans hwait) hask
  rw [Par.unlinked_entries] at hlost
  have hframe := noteV_frame s.par.entries (s.updPar fun p => (p.unlinked die).noted s.now)
  have hpar : (noteV (s.updPar fun p => (p.unlinked die).noted s.now) s.par.entries).par = (s.par.unlinked die).noted s.now := by
    rw [hframe]
    rfl
  rw [linkDieDown_ends hup hother hlink (by rw [hlost, hpar]; rfl), hlost]
  refine ⟨by rw [hpar]; rfl, by rw [hpar]; rfl, by rw [hpar]; rfl, fun e he => ?_, ?_⟩
  · exact noteV_lossV s.par.entries (s.updPar fun p => (p.unlinked die).noted s.now) _ (.inl (List.mem_map.mpr ⟨e, he, rfl⟩))
  · rw [hpar]
    exact hframe

/-! ### Lanes (R398) -/

theorem setLinkState_up {l : PairLink} (h : linkUp l = true) : setLinkState s l = s.updPar fun p => { p with link := l } := by
  simp only [setLinkState, h, Bool.not_true, Bool.and_false, Bool.false_eq_true, if_false]

section
variable {d : LinkDie}

theorem sparesUsedAt_le (rx : Bool) (k : Nat) :
    (sparesUsedAt d rx k).length ≤ 2 ∧ (sparesUsedAt d rx k).length ≤ lostAtLambda d rx k := by
  have hspares : (sparesAt d rx k).length ≤ 2 := List.length_filter_le _ [32, 33]
  rw [sparesUsedAt, List.length_take]
  omega

/-- A sum over the wavelengths is at most eight times the largest. -/
theorem sum_lambdas_le {f : Nat → Nat} {n : Nat} (h : ∀ k, k < 8 → f k ≤ n) : ((List.range 8).map f).sum ≤ 8 * n := by
  have hall : ∀ x ∈ (List.range 8).map f, x ≤ n := by
    intro x hx
    obtain ⟨k, hk, rfl⟩ := List.mem_map.mp hx
    exact h k (List.mem_range.mp hk)
  simpa using List.sum_le_card_nsmul _ n hall

theorem servedLanes_add (rx : Bool) (h : ∀ k, k < 8 → lostAtLambda d rx k ≤ 32) :
    servedLanes d rx + ((List.range 8).map fun k => lostAtLambda d rx k - (sparesUsedAt d rx k).length).sum = 256 := by
  have hsum : ((List.range 8).map fun k => lostAtLambda d rx k - (sparesUsedAt d rx k).length).sum ≤ 8 * 32 :=
    sum_lambdas_le fun k hk => (Nat.sub_le _ _).trans (h k hk)
  rw [servedLanes]
  omega

theorem spareLanes_le (rx : Bool) : spareLanes d rx ≤ 16 := sum_lambdas_le fun k _ => (sparesUsedAt_le rx k).1

/-- A die without failed lanes serves every position. -/
theorem servedLanes_sound (h : d.failed = []) (rx : Bool) : servedLanes d rx = 256 := by
  simp [servedLanes, lostAtLambda, h]

section
variable {rx : Bool} {fiber : Nat} {lam : Fin 8} (hfailed : d.failed = [(rx, fiber, lam.val)]) (hfiber : fiber < 32)
include hfailed hfiber

theorem lostAtLambda_one (r : Bool) (k : Nat) : lostAtLambda d r k = if rx = r ∧ lam.val = k then 1 else 0 := by
  by_cases h : rx = r ∧ lam.val = k
  · simp [lostAtLambda, hfailed, hfiber, h]
  · simp [lostAtLambda, hfailed, hfiber, h]

theorem length_sparesUsedAt_one (r : Bool) (k : Nat) : (sparesUsedAt d r k).length = lostAtLambda d r k := by
  have h32 : fiber ≠ 32 := by omega
  have h33 : fiber ≠ 33 := by omega
  have hspares : sparesAt d r k = [32, 33] := by simp [sparesAt, hfailed, h32.symm, h33.symm]
  rw [sparesUsedAt, hspares, List.length_take, lostAtLambda_one hfailed hfiber]
  split <;> rfl

/-- The one failed lane has its spare: every position is served. -/
theorem servedLanes_one (r : Bool) : servedLanes d r = 256 := by
  simp [servedLanes, length_sparesUsedAt_one hfailed hfiber]

theorem spareLanes_one (r : Bool) : spareLanes d r = if rx = r then 1 else 0 := by
  have hsum : ∀ (rx r : Bool) (lam : Fin 8),
      ((List.range 8).map fun k => if rx = r ∧ lam.val = k then 1 else 0).sum = if rx = r then 1 else 0 := by decide
  simp only [spareLanes, length_sparesUsedAt_one hfailed hfiber, lostAtLambda_one hfailed hfiber, hsum]

theorem laneCounts_one : (laneCounts d).active = 256 ∧ (laneCounts d).spareUsed = 1 := by
  refine ⟨?_, ?_⟩
  · simp [laneCounts, servedLanes_one hfailed hfiber]
  · cases rx <;> simp [laneCounts, spareLanes_one hfailed hfiber]

end

end

/-- A die with one more failed lane, before its lanes are counted again; and with them counted. -/
def LinkDie.failing (d : LinkDie) (rx : Bool) (fiber lam : Nat) : LinkDie :=
  { d with
    failed := d.failed ++ [(rx, fiber, lam)],
    lasersOff := (d.lasersOff ++ (darkFibers (d.failed ++ [(rx, fiber, lam)])).filter (· == fiber)).eraseDups }

def LinkDie.loses (d : LinkDie) (rx : Bool) (fiber lam : Nat) : LinkDie := laneCounts (d.failing rx fiber lam)

theorem LinkDie.loses_up (d : LinkDie) (rx : Bool) (fiber lam : Nat) : (d.loses rx fiber lam).up = d.up := by
  simp only [LinkDie.loses, laneCounts, LinkDie.failing]

theorem LinkDie.loses_failed (d : LinkDie) (rx : Bool) (fiber lam : Nat) :
    (d.loses rx fiber lam).failed = d.failed ++ [(rx, fiber, lam)] := by
  simp only [LinkDie.loses, laneCounts, LinkDie.failing]

theorem logEvent_par (s : State) (kind : W16) (sev : Byte) (wing die : Nat) (code : Byte) (d0 d1 d2 d3 : Nat) :
    (logEvent s kind sev wing die code d0 d1 d2 d3).par = s.par := by
  have hview := congrArg State.par (logEvent_outsideVents s kind sev wing die code d0 d1 d2 d3)
  exact hview

/-- The state that has taken the loss of a lane, and logged it where the lane was in use. -/
def lostLane (s : State) (n : Hub) (rx : Bool) (fiber lam : Nat) : State :=
  let d := s.par.die n
  let s1 := s.updPar fun _ => s.par.setDie n (d.loses rx fiber lam)
  if decide (fiber < 32) || (sparesUsedAt d rx lam).contains fiber then
    logEvent s1 0x1005 1 0xFF (18 + n) 0 (n + 256 * fiber + 65536 * lam)
      (b2n (decide (servedLanes (d.loses rx fiber lam) rx < servedLanes d rx))) 0 0
  else s1

theorem lostLane_par (s : State) (n : Hub) (rx : Bool) (fiber lam : Nat) :
    (lostLane s n rx fiber lam).par = s.par.setDie n ((s.par.die n).loses rx fiber lam) := by
  simp only [lostLane]
  split
  · rw [logEvent_par]
    rfl
  · rfl

/-- The loss of a lane of a die that goes on serves the link. -/
theorem laneFailure_serves {rx : Bool} {fiber lam : Nat} (hup : (s.par.die die).up = true)
    (hnew : (s.par.die die).failed.contains (rx, fiber, lam) = false) (hlink : linkUp s.par.link = true)
    (hfew : ¬((s.par.die die).loses rx fiber lam).active < 128)
    (hserved : linkUp (linkOf (s.par.setDie die ((s.par.die die).loses rx fiber lam))) = true) :
    (laneFailure s die rx fiber lam).par.die die = (s.par.die die).loses rx fiber lam := by
  have hsplit : ¬((!(s.par.die die).up || (s.par.die die).failed.contains (rx, fiber, lam)) = true) := by rw [hup, hnew]; decide
  have hfails : laneFailure s die rx fiber lam =
      setLinkState (lostLane s die rx fiber lam) (linkOf (s.par.setDie die ((s.par.die die).loses rx fiber lam))) :=
    (if_neg hsplit).trans ((if_neg hfew).trans (if_pos hlink))
  rw [hfails, setLinkState_up hserved]
  exact (congrArg (Par.die · die) (lostLane_par s die rx fiber lam)).trans (Par.die_setDie_same ..)

/-- The first failed lane of a die is made good. -/
theorem laneFailure_first {rx : Bool} {fiber : Nat} {lam : Fin 8} (hup : (s.par.die die).up = true) (hnone : (s.par.die die).failed = [])
    (hfiber : fiber < 32) (hlink : s.par.link = .up) :
    ((laneFailure s die rx fiber lam).par.die die).failed = [(rx, fiber, lam.val)] ∧
      ((laneFailure s die rx fiber lam).par.die die).active = 256 ∧ ((laneFailure s die rx fiber lam).par.die die).spareUsed = 1 ∧
      ((laneFailure s die rx fiber lam).par.die die).up = true := by
  have hfailed : ((s.par.die die).failing rx fiber lam).failed = [(rx, fiber, lam.val)] := by
    rw [LinkDie.failing, hnone, List.nil_append]
  have hdup : ((s.par.die die).loses rx fiber lam).up = true := (LinkDie.loses_up ..).trans hup
  obtain ⟨hactive, hspare⟩ := laneCounts_one (d := (s.par.die die).failing rx fiber lam) hfailed hfiber
  have hserved : linkUp (linkOf (s.par.setDie die ((s.par.die die).loses rx fiber lam))) = true :=
    linkOf_up (die := die) _ (by rw [Par.die_setDie_same]; exact hdup)
  have hlinked : linkUp s.par.link = true := by rw [hlink]; rfl
  have hfew : ¬((s.par.die die).loses rx fiber lam).active < 128 := by
    rw [show ((s.par.die die).loses rx fiber lam).active = 256 from hactive]
    decide
  rw [laneFailure_serves hup (by rw [hnone]; rfl) hlinked hfew hserved]
  exact ⟨by rw [LinkDie.loses_failed, hnone, List.nil_append], hactive, hspare, hdup⟩

/-! ### Training (R396, R400, 15 R471) -/

theorem trainedDie_whole (d : LinkDie) (now : Nat) : (trainedDie true [] now d).up = true ∧ (trainedDie true [] now d).active = 256 := by
  have hactive : (laneCounts { d with
      up := true, failed := [], lasersOff := darkFibers [], rxSeq := 0, txSeq := 0, replay := [], idle := now }).active = 256 := by
    simp [laneCounts, servedLanes_sound]
  simp only [trainedDie, if_true, hactive]
  exact ⟨rfl, hactive⟩

theorem trainedDie_untrained (d : LinkDie) (bad : List (Bool × Nat × Nat)) (now : Nat) : (trainedDie false bad now d).up = false := rfl

/-- The failed lanes of a die that training finds. -/
def badOf (q : PeerInfo) (n : Nat) : List (Bool × Nat × Nat) :=
  (q.badLanes.filter fun x => x.1.val == n).map fun x => (x.2.1.receive, x.2.1.fiber.val, x.2.2.val)

theorem badOf_nil {q : PeerInfo} (h : q.badLanes = []) (n : Nat) : badOf q n = [] := by simp [badOf, h]

/-- The state whose dies are trained (steps 1 and 2). -/
def diesTrained (s : State) (q : PeerInfo) : State := s.updPar fun p =>
  { p with die0 := trainedDie q.up0 (badOf q 0) s.now p.die0, die1 := trainedDie q.up1 (badOf q 1) s.now p.die1 }

/-- The state under new link keys, once the units agree (step 3). -/
def linkKeyed (s : State) (pk : Bytes) : State := (s.free 32).2.updPar fun p =>
  { p with link := linkOf p, lostAt := none, stepDue := true,
           linkKeys := some (hkdf384 zeroSalt pk (ascii "HX20 RANRI" ++ leBytes 4 p.pairId.toNat ++ (s.free 32).1) 64) }

section
variable {q : PeerInfo} {k : Bytes} (hkey : s.par.pk = some k) (hlink : s.par.link = .training)
include hkey hlink

theorem linkTrained_down (hnone : q.up0 = false ∧ q.up1 = false) :
    linkTrained s q = (diesTrained s q).updPar fun p => { p with link := .down } := by
  obtain ⟨h0, h1⟩ := hnone
  simp [linkTrained, hkey, hlink, State.updPar, diesTrained, badOf, h0, h1, trainedDie_untrained]

theorem linkTrained_mismatch (hup : q.up0 = true) (hbad : q.badLanes = [])
    (hwrong : q.major ≠ 1 ∨ q.pairId ≠ s.par.pairId ∨ q.pos = s.par.position) :
    linkTrained s q = (sendExchange (diesTrained s q)).updPar fun p => { p with link := .mismatch } := by
  have htrained : ¬(s.par.link ≠ .training ∧ s.par.link ≠ .mismatch) := fun h => h.1 hlink
  have hserves : ¬((!(diesTrained s q).par.die0.up && !(diesTrained s q).par.die1.up) = true) := by
    simp [diesTrained, State.updPar, hup, badOf_nil hbad, (trainedDie_whole ..).1]
  unfold linkTrained
  simp only [hkey]
  exact (if_neg htrained).trans ((if_neg hserves).trans (if_pos hwrong))

theorem linkTrained_agrees (hup : q.up0 = true) (hbad : q.badLanes = [])
    (hmajor : q.major = 1) (hpair : q.pairId = s.par.pairId) (hpos : q.pos ≠ s.par.position) : linkTrained s q =
      compareAll (leaseFrom (sendTrained (timeOffset (agreeEntries (linkKeyed (sendExchange (diesTrained s q)) k) q.entries) q.ofs))
        q.term q.holder.val q.expiry.toNat) q.cats := by
  have htrained : ¬(s.par.link ≠ .training ∧ s.par.link ≠ .mismatch) := fun h => h.1 hlink
  have hserves : ¬((!(diesTrained s q).par.die0.up && !(diesTrained s q).par.die1.up) = true) := by
    simp [diesTrained, State.updPar, hup, badOf_nil hbad, (trainedDie_whole ..).1]
  have hright : ¬(q.major ≠ 1 ∨ q.pairId ≠ s.par.pairId ∨ q.pos = s.par.position) := by simp [hmajor, hpair, hpos]
  unfold linkTrained
  simp only [hkey]
  exact (if_neg htrained).trans ((if_neg hserves).trans (if_neg hright))

end

/-- What of the pair's state the time, a message and the lease leave as it is: the link, when it was lost, and its keys. -/
def Par.linkPart (p : Par) : PairLink × Option Nat × Option Bytes := (p.link, p.lostAt, p.linkKeys)

/-- What of it the time and a message leave as it is besides: the lease and its term. -/
def Par.leasePart (p : Par) : LeaseState × W32 := (p.lease, p.term)

theorem pairSend_parts (n : Nat) (msg : PairMsg) (args : List Nat) (data : Bytes) :
    (pairSend s n msg args data).par.linkPart = s.par.linkPart ∧ (pairSend s n msg args data).par.leasePart = s.par.leasePart := by
  rw [pairSend, sendFrame_frame, Par.setDie_frame]
  exact ⟨rfl, rfl⟩

theorem timeOffset_parts (ofs : Int) :
    (timeOffset s ofs).par.linkPart = s.par.linkPart ∧ (timeOffset s ofs).par.leasePart = s.par.leasePart := by
  simp only [timeOffset, stepClock, State.updPar]
  split_ifs <;> exact ⟨rfl, rfl⟩

/-- The lease as a report that is followed names it. -/
def leaseNamed (s : State) (holder expiry : Nat) : State :=
  if holder = 2 then s.updPar fun p => { p with lease := .lapsed, expiry := 0 }
  else if holder = myPos s then s.updPar fun p => { p with lease := .holder, holderPos := p.position, expiry := expiry }
  else s.updPar fun p => { p with lease := .follower, holderPos := !p.position, expiry := expiry }

theorem leaseNamed_keeps (holder expiry : Nat) : (leaseNamed s holder expiry).par.linkPart = s.par.linkPart ∧
    (leaseNamed s holder expiry).par.lease ≠ .unpaired ∧ (leaseNamed s holder expiry).par.term = s.par.term := by
  unfold leaseNamed
  split
  · exact ⟨rfl, nofun, rfl⟩
  · split
    · exact ⟨rfl, nofun, rfl⟩
    · exact ⟨rfl, nofun, rfl⟩

/-- The lease that the partner reports leaves the link, leaves a paired unit paired, and its term is never behind the partner's. -/
theorem leaseFrom_keeps {term : W32} {holder expiry : Nat} (h : s.par.lease = .follower ∨ s.par.lease = .lapsed) :
    (leaseFrom s term holder expiry).par.linkPart = s.par.linkPart ∧ (leaseFrom s term holder expiry).par.lease ≠ .unpaired ∧
      (s.par.term < term → (leaseFrom s term holder expiry).par.term = term) := by
  have hpaired : s.par.lease ≠ .unpaired := by rcases h with h | h <;> simp [h]
  have hclaim : s.par.lease ≠ .claiming := by rcases h with h | h <;> simp [h]
  by_cases hlower : s.par.term < term
  · by_cases hother : holder ≠ 2 ∧ holder ≠ myPos s
    · have hfrom : leaseFrom s term holder expiry = leaseNamed (s.updPar fun p => { p with term := term }) holder expiry :=
        (if_neg hpaired).trans ((if_pos hlower).trans (if_pos hother))
      obtain ⟨hpart, hlease, hterm⟩ := leaseNamed_keeps (s := s.updPar fun p => { p with term := term }) holder expiry
      rw [hfrom]
      exact ⟨hpart, hlease, fun _ => hterm⟩
    · have hfrom : leaseFrom s term holder expiry =
          (s.updPar fun p => { p with term := term }).updPar fun p => { p with lease := .lapsed, expiry := 0 } :=
        (if_neg hpaired).trans ((if_pos hlower).trans (if_neg hother))
      rw [hfrom]
      exact ⟨rfl, nofun, fun _ => rfl⟩
  · refine (and_congr_right fun _ => and_iff_left (fun h => absurd h hlower)).mpr ?_
    by_cases hsame : term = s.par.term
    · by_cases hnone : holder = 2 ∧ s.par.lease = .holder
      · have hfrom : leaseFrom s term holder expiry = s :=
          (if_neg hpaired).trans ((if_neg hlower).trans ((if_pos hsame).trans (if_pos hnone)))
        rw [hfrom]
        exact ⟨rfl, hpaired⟩
      · have hfrom : leaseFrom s term holder expiry = leaseNamed s holder expiry :=
          (if_neg hpaired).trans ((if_neg hlower).trans ((if_pos hsame).trans (if_neg hnone)))
        obtain ⟨hpart, hlease, -⟩ := leaseNamed_keeps (s := s) holder expiry
        rw [hfrom]
        exact ⟨hpart, hlease⟩
    · have hfrom : leaseFrom s term holder expiry = s :=
        (if_neg hpaired).trans ((if_neg hlower).trans ((if_neg hsame).trans (if_neg hclaim)))
      rw [hfrom]
      exact ⟨rfl, hpaired⟩

/-- Nothing is compared: the link's part of the pair's state and the lease stand. -/
theorem compareAll_nil_parts : (compareAll s []).par.linkPart = s.par.linkPart ∧ (compareAll s []).par.leasePart = s.par.leasePart := by
  simp only [compareAll, List.foldl_nil, State.updPar]
  split <;> exact ⟨rfl, rfl⟩

/-- A message leaves what the link's state depends on. -/
theorem linkOf_sends (p : Par) (k : Nat) (msg : PairMsg) (args : List Nat) (data : Bytes) :
    linkOf (p.setDie k ((p.die k).sends msg args data)) = linkOf p := by
  simp only [Par.setDie, Par.die]
  split <;> rfl

theorem linkOf_diesTrained {q : PeerInfo} (hup0 : q.up0 = true) (hup1 : q.up1 = true) (hbad : q.badLanes = []) :
    linkOf (diesTrained s q).par = .up := by
  obtain ⟨h0, ha0⟩ := trainedDie_whole s.par.die0 s.now
  obtain ⟨h1, ha1⟩ := trainedDie_whole s.par.die1 s.now
  simp [linkOf, diesTrained, State.updPar, hup0, hup1, badOf_nil hbad, h0, h1, ha0, ha1]

/-- The link of two whole dies is UP under new keys; the lease and the entries stand. -/
theorem linkKeyed_whole {q : PeerInfo} {k : Bytes} (hup0 : q.up0 = true) (hup1 : q.up1 = true) (hbad : q.badLanes = []) :
    let u := linkKeyed (sendExchange (diesTrained s q)) k
    u.par.link = .up ∧ u.par.lostAt = none ∧ u.par.linkKeys ≠ none ∧ u.par.leasePart = s.par.leasePart ∧
      u.par.entries = s.par.entries := by
  have hlink : linkOf (sendExchange (diesTrained s q)).par = .up := by
    rw [sendExchange, pairSend, sendFrame_frame]
    exact (linkOf_sends ..).trans (linkOf_diesTrained hup0 hup1 hbad)
  have hlease : (sendExchange (diesTrained s q)).par.leasePart = s.par.leasePart := (pairSend_parts ..).2
  have hentries : (sendExchange (diesTrained s q)).par.entries = s.par.entries := by
    rw [sendExchange, pairSend, sendFrame_frame]
    exact Par.setDie_entries ..
  exact ⟨hlink, rfl, nofun, hlease, hentries⟩

/-- Training of two whole dies that agree. -/
theorem linkTrained_whole {q : PeerInfo} {k : Bytes} (hkey : s.par.pk = some k) (hlink : s.par.link = .training) (hup0 : q.up0 = true)
    (hup1 : q.up1 = true) (hbad : q.badLanes = []) (hmajor : q.major = 1) (hpair : q.pairId = s.par.pairId)
    (hpos : q.pos ≠ s.par.position) (hcats : q.cats = []) (hentries : s.par.entries = [])
    (hlease : s.par.lease = .follower ∨ s.par.lease = .lapsed) :
    let t := linkTrained s q
    t.par.link = .up ∧ t.par.lostAt = none ∧ t.par.linkKeys ≠ none ∧ t.par.lease ≠ .unpaired ∧
      (s.par.term < q.term → t.par.term = q.term) := by
  intro t
  obtain ⟨hup, hlost, hkeys, hleases, hnone⟩ := linkKeyed_whole (s := s) (k := k) hup0 hup1 hbad
  have ht : t = _ := linkTrained_agrees hkey hlink hup0 hbad hmajor hpair hpos
  clear_value t
  generalize linkKeyed (sendExchange (diesTrained s q)) k = u at *
  have hagree : agreeEntries u q.entries = u := by rw [agreeEntries, hnone, hentries, List.foldl_nil]
  obtain ⟨htimeLink, htimeLease⟩ := timeOffset_parts (s := u) q.ofs
  generalize hv : timeOffset u q.ofs = v at htimeLink htimeLease
  have htrainedLink : (sendTrained v).par.linkPart = v.par.linkPart := (pairSend_parts ..).1
  have htrainedLease : (sendTrained v).par.leasePart = v.par.leasePart := (pairSend_parts ..).2
  generalize hw : sendTrained v = w at htrainedLink htrainedLease
  have hwLease : w.par.leasePart = s.par.leasePart := htrainedLease.trans (htimeLease.trans hleases)
  have hwState : w.par.lease = s.par.lease := congrArg Prod.fst hwLease
  have hwTerm : w.par.term = s.par.term := congrArg Prod.snd hwLease
  obtain ⟨hfromLink, hpaired, hterm⟩ := leaseFrom_keeps (s := w) (term := q.term) (holder := q.holder.val) (expiry := q.expiry.toNat)
    (hwState ▸ hlease)
  rw [hagree, hv, hw, hcats] at ht
  generalize leaseFrom w q.term q.holder.val q.expiry.toNat = x at *
  obtain ⟨hallLink, hallLease⟩ := compareAll_nil_parts (s := x)
  rw [← ht] at hallLink hallLease
  have hpart : t.par.linkPart = u.par.linkPart := hallLink.trans (hfromLink.trans (htrainedLink.trans htimeLink))
  have hlinkOf : t.par.link = u.par.link := congrArg Prod.fst hpart
  have hlostOf : t.par.lostAt = u.par.lostAt := congrArg (Prod.fst ∘ Prod.snd) hpart
  have hkeysOf : t.par.linkKeys = u.par.linkKeys := congrArg (Prod.snd ∘ Prod.snd) hpart
  have hleaseOf : t.par.lease = x.par.lease := congrArg Prod.fst hallLease
  have htermOf : t.par.term = x.par.term := congrArg Prod.snd hallLease
  rw [hlinkOf, hlostOf, hkeysOf, hleaseOf, htermOf]
  exact ⟨hup, hlost, hkeys, hpaired, fun h => hterm (hwTerm ▸ h)⟩

/-! ### Time and the reports of striped catalogues (R403, R408) -/

theorem timeOffset_first (ofs : Int) (hlink : linkUp s.par.link = true) (hpos : s.par.position = false) :
    timeOffset s ofs = s.updPar fun p => { p with timeOfs := ofs, aligned := decide (ofs.natAbs ≤ 20) } := by
  simp [timeOffset, hlink, State.updPar, hpos]

theorem timeOffset_steps {ofs : Int} (hlink : linkUp s.par.link = true) (hpos : s.par.position = true) (hdue : s.par.stepDue = true)
    (hahead : ofs < 0) : timeOffset s ofs =
      (stepClock s (-ofs)).updPar fun p => { p with timeOfs := 0, aligned := true, stepDue := false } := by
  simp [timeOffset, hlink, State.updPar, hpos, hdue, hahead, stepClock]

theorem pairDie_pairSend (n m : Nat) (msg : PairMsg) (args : List Nat) (data : Bytes) :
    pairDie (pairSend s n msg args data) m = pairDie s m := by
  have hup (k : Nat) : (s.par.setDie k ((s.par.die k).sends msg args data)).die0.up = s.par.die0.up ∧
      (s.par.setDie k ((s.par.die k).sends msg args data)).die1.up = s.par.die1.up := by
    unfold Par.setDie Par.die
    split
    · exact ⟨rfl, rfl⟩
    · exact ⟨rfl, rfl⟩
  simp only [pairSend, sendFrame_frame, pairDie, hup]

/-- The reports of the catalogues of a list. -/
def reportEpochs (s : State) (l : List (Nat × Nat × Nat)) : State :=
  l.foldl (fun s e =>
    if (s.cat (catKey e.1 e.2.1)).mode = 2 then
      pairSend s (e.1 + e.2.1) .epochReport [e.1, e.2.1, (oldestOwn s e.1 e.2.1).toNat] []
    else s) s

/-- The report of each striped catalogue of the list is among the messages; what stood in the output stays. -/
theorem reportEpochs_sends (l : List (Nat × Nat × Nat)) (s : State) :
    let t := reportEpochs s l
    t = { s with par := t.par, out := t.out } ∧ (∀ o ∈ s.out, o ∈ t.out) ∧
      ∀ e ∈ l, (s.cat (catKey e.1 e.2.1)).mode = 2 →
        Out.pair (pairDie s (e.1 + e.2.1)) .epochReport [e.1, e.2.1, (oldestOwn s e.1 e.2.1).toNat] [] ∈ t.out := by
  induction l generalizing s with
  | nil => exact ⟨rfl, fun o ho => ho, fun e he => absurd he List.not_mem_nil⟩
  | cons e l ih =>
    by_cases hmode : (s.cat (catKey e.1 e.2.1)).mode = 2
    · have hsend := pairSend_frame s (e.1 + e.2.1) .epochReport [e.1, e.2.1, (oldestOwn s e.1 e.2.1).toNat] []
      have hdie (n : Nat) := pairDie_pairSend (s := s) (e.1 + e.2.1) n .epochReport [e.1, e.2.1, (oldestOwn s e.1 e.2.1).toNat] []
      have hfold : reportEpochs s (e :: l) =
          reportEpochs (pairSend s (e.1 + e.2.1) .epochReport [e.1, e.2.1, (oldestOwn s e.1 e.2.1).toNat] []) l :=
        congrArg (reportEpochs · l) (if_pos hmode)
      rw [hfold]
      generalize pairSend s (e.1 + e.2.1) .epochReport [e.1, e.2.1, (oldestOwn s e.1 e.2.1).toNat] [] = u at hsend hdie
      have hcat (k : Nat) : u.cat k = s.cat k := by rw [hsend]; rfl
      have holdest (w c : Nat) : oldestOwn u w c = oldestOwn s w c := by rw [hsend]; rfl
      have hout : u.out = s.out ++ [.pair (pairDie s (e.1 + e.2.1)) .epochReport [e.1, e.2.1, (oldestOwn s e.1 e.2.1).toNat] []] := by
        rw [hsend]
      obtain ⟨hframe, hkeeps, hsends⟩ := ih u
      simp only [hcat, holdest, hdie] at hsends
      refine ⟨hframe.trans (by rw [hsend]), fun o ho => hkeeps o (hout ▸ List.mem_append_left _ ho), fun x hx hm => ?_⟩
      rcases List.mem_cons.mp hx with rfl | hx
      · exact hkeeps _ (hout ▸ List.mem_append_right _ (List.mem_singleton.mpr rfl))
      · exact hsends x hx hm
    · have hfold : reportEpochs s (e :: l) = reportEpochs s l := congrArg (reportEpochs · l) (if_neg hmode)
      obtain ⟨hframe, hkeeps, hsends⟩ := ih s
      rw [hfold]
      refine ⟨hframe, hkeeps, fun x hx hm => ?_⟩
      rcases List.mem_cons.mp hx with rfl | hx
      · exact absurd hm hmode
      · exact hsends x hx hm

end

end Sys2Proof.Machine

/-- Settles O35: a message moves one die of the pair's state and the output alone, so each event of the link is followed through its
own messages. -/
theorem theRanriLinkTrainsCarriesAndFails : Obligations.TheRanriLinkTrainsCarriesAndFails := by
  unfold Obligations.TheRanriLinkTrainsCarriesAndFails
  refine ⟨?bad, ?good, ?again, ?acked, ?sent, ?mismatch, ?silent, ?heard, ?degraded, ?lost, ?lane, ?counts, ?retry, ?untrained, ?wrong,
    ?trained, ?keyless, ?first, ?steps, ?report, ?received⟩
  case bad => exact fun die h s hup hlink => congrArg Host.Outcome.next (ranriFrame_bad hup hlink)
  case good =>
    intro die h s hup hlink hagain
    refine congrArg Host.Outcome.next ((ranriFrame_good hup hlink).trans ?_)
    rw [hagain]
    rfl
  case again =>
    intro die h q f s hup hlink hagain hfind
    have hstands : (((s.updPar fun p => p.setDie die ((s.par.die die).takes h s.now)).emit
        (.pair die .frameAck [h.seq.toNat] [])).par.die die).replay.find? (fun f => decide (f.seq = q)) = some f :=
      (congrArg (fun d : LinkDie => d.replay.find? _) (Par.die_setDie_same ..)).trans hfind
    refine ⟨_, congrArg Host.Outcome.next ((ranriFrame_good hup hlink).trans (hagain ▸ repeatFrame_found hstands)), ?_, ?_⟩
    · exact List.append_assoc ..
    · exact congrArg satInc (Par.setDie_repeats ..)
  case acked => exact fun l q f rest hbefore hf => ⟨framesAfter_acked rest hbefore hf, rfl⟩
  case sent =>
    rintro s n msg args data d rfl
    exact ⟨_, rfl, sendFrame_frame ..⟩
  case mismatch =>
    exact fun die h ok s hlink =>
      ⟨congrArg Host.Outcome.next (ranriFrame_mismatch ok hlink), congrArg Host.Outcome.next (keepaliveTick_mismatch hlink)⟩
  case silent =>
    exact fun die s hup hlink hsilent => congrArg Host.Outcome.next (keepaliveTick_silent hup hlink hsilent)
  case heard => exact fun die s hup hlink hheard => congrArg Host.Outcome.next (keepaliveTick_heard hup hlink hheard)
  case degraded => exact fun die s hup hserved hlink => ⟨_, rfl, linkDieDown_degraded hup hserved hlink⟩
  case lost =>
    exact fun die s hup hother hlink hhold hwait hask => ⟨_, rfl, linkDieDown_lost hup hother hlink hhold hwait hask⟩
  case lane => exact fun die fiber lam s hup hnone hfiber hlink => ⟨_, rfl, laneFailure_first hup hnone hfiber hlink⟩
  case counts =>
    intro d hfew
    refine ⟨rfl, max_le (spareLanes_le false) (spareLanes_le true), fun rx => ⟨servedLanes_add rx (hfew rx), fun k => ?_⟩⟩
    exact sparesUsedAt_le rx k
  case retry => exact fun s hlink henable => congrArg Host.Outcome.next (if_pos ⟨hlink, henable⟩)
  case untrained =>
    intro peer k s hkey hlink hnone
    exact ⟨_, congrArg Host.Outcome.next (linkTrained_down hkey hlink hnone), rfl, rfl⟩
  case wrong =>
    intro peer k s hkey hlink hup hwrong
    obtain ⟨hup0, hbad⟩ := hup
    refine ⟨_, congrArg Host.Outcome.next (linkTrained_mismatch hkey hlink hup0 hbad hwrong), rfl, ?_⟩
    rw [sendExchange, pairSend, sendFrame_frame]
    rfl
  case trained =>
    intro peer k s hkey hlink hup hmajor hpair hpos hcats hentries hlease
    obtain ⟨hup0, hup1, hbad⟩ := hup
    exact ⟨_, rfl, linkTrained_whole hkey hlink hup0 hup1 hbad hmajor hpair hpos hcats hentries hlease⟩
  case keyless =>
    intro s k peer hkey
    refine congrArg Host.Outcome.next ?_
    simp only [linkTrained, hkey]
  case first => exact fun ofs s hlink hpos => congrArg Host.Outcome.next (timeOffset_first ofs hlink hpos)
  case steps =>
    exact fun ofs s hlink hpos hdue hahead => congrArg Host.Outcome.next (timeOffset_steps hlink hpos hdue hahead)
  case report =>
    intro s hlink
    have hreport : epochReport s = reportEpochs s s.par.entries := if_neg (by simp [hlink])
    obtain ⟨hframe, -, hsends⟩ := reportEpochs_sends s.par.entries s
    exact ⟨_, congrArg Host.Outcome.next hreport, hframe, hsends⟩
  case received => exact fun wing cat oldest s hmode hlink => congrArg Host.Outcome.next (if_pos ⟨hmode, hlink⟩)

end

section
/-! PROOF. What the answers of waiting commands and the loss of the pair link leave unchanged, and what a scrub leaves of the keys: the
parts that zeroization, the approved mode and a block reset read off (07 R219, 13 R414, 15 R483, R484, 16 R501). -/

open Sys2Proof Sys2Proof.Machine

namespace Sys2Proof.Machine

/-! ### Outside mailboxes, catalogues, tables and the pair's link -/

/-- The state outside the vents, the mailboxes, the catalogues, the tables, the free values and the pair's state but its key. -/
def State.outsideAnswers (s : State) : State :=
  { s.outsideVents with mbx := [], cats := [], tables := [], freeCtr := 0, par := { Par.init with pk := s.par.pk } }

theorem outsideAnswers_of_outsideVents {s t : State} (h : t.outsideVents = s.outsideVents) : t.outsideAnswers = s.outsideAnswers := by
  have hview := congrArg State.outsideAnswers h
  exact hview

theorem wings_of_outsideAnswers {s t : State} (h : t.outsideAnswers = s.outsideAnswers) : t.wings = s.wings := by
  have hview := congrArg State.wings h
  exact hview

section
variable (s : State)

@[simp] theorem emit_outsideAnswers (o : Out) : (s.emit o).outsideAnswers = s.outsideAnswers := rfl
@[simp] theorem setMbox_outsideAnswers (k : Nat) (v : Mbx) : (s.setMbox k v).outsideAnswers = s.outsideAnswers := rfl
@[simp] theorem setCat_outsideAnswers (k : Nat) (v : Cat) : (s.setCat k v).outsideAnswers = s.outsideAnswers := rfl
@[simp] theorem catUpd_outsideAnswers (w c : Nat) (f : Cat → Cat) : (catUpd s w c f).outsideAnswers = s.outsideAnswers := rfl
@[simp] theorem setTable_outsideAnswers (k : Nat) (v : Option Table) : (s.setTable k v).outsideAnswers = s.outsideAnswers := rfl

/-- A change of the pair's state keeps the rest, and the pair key where it keeps that. -/
theorem updPar_outsideAnswers {f : Par → Par} (h : (f s.par).pk = s.par.pk) : (s.updPar f).outsideAnswers = s.outsideAnswers := by
  simp only [State.outsideAnswers, State.outsideVents, State.updPar, h]

@[simp] theorem msixRaise_outsideAnswers (fn : Fn) (vec : Nat) : (msixRaise s fn vec).outsideAnswers = s.outsideAnswers :=
  outsideAnswers_of_outsideVents (msixRaise_outsideVents ..)

@[simp] theorem scpFinish_outsideAnswers (c : Cmd) (code : Byte) (p : Bytes) :
    (scpFinish s c code p).outsideAnswers = s.outsideAnswers := by
  simp only [scpFinish]
  split <;> simp

@[simp] theorem runFinish_outsideAnswers (fn : Fn) (hub : Hub) (code : Byte) (p : Bytes) :
    (runFinish s fn hub code p).outsideAnswers = s.outsideAnswers := by
  unfold runFinish
  split <;> simp

@[simp] theorem runUpdate_outsideAnswers (fn : Fn) (hub : Hub) (f : Run → Run) :
    (runUpdate s fn hub f).outsideAnswers = s.outsideAnswers := setMbox_outsideAnswers ..

/-- A message keeps the pair key. -/
theorem setDie_pk (p : Par) (n : Nat) (d : LinkDie) : (p.setDie n d).pk = p.pk := by rw [Par.setDie_frame]

@[simp] theorem sendFrame_outsideAnswers (n : Hub) (msg : PairMsg) (args : List Nat) (data : Bytes) :
    (sendFrame s n msg args data).outsideAnswers = s.outsideAnswers :=
  (emit_outsideAnswers ..).trans (updPar_outsideAnswers s (setDie_pk ..))

@[simp] theorem pairSend_outsideAnswers (n : Nat) (msg : PairMsg) (args : List Nat) (data : Bytes) :
    (pairSend s n msg args data).outsideAnswers = s.outsideAnswers := sendFrame_outsideAnswers ..

/-! ### Epochs that end -/

@[simp] theorem disablePoll_outsideAnswers (w c : Nat) : (disablePoll s w c).outsideAnswers = s.outsideAnswers := by
  simp only [disablePoll]
  split <;> rfl

@[simp] theorem commitDrop_outsideAnswers (w c : Nat) (code : Byte) : (commitDrop s w c code).outsideAnswers = s.outsideAnswers := by
  unfold commitDrop
  split <;> simp

@[simp] theorem sendDiscard_outsideAnswers (w c : Nat) (ep : W32) : (sendDiscard s w c ep).outsideAnswers = s.outsideAnswers := by
  simp only [sendDiscard]
  split_ifs <;> simp

@[simp] theorem discardAnswer_outsideAnswers (w c : Nat) : (discardAnswer s w c).outsideAnswers = s.outsideAnswers :=
  foldl_keeps State.outsideAnswers fun t x => by split <;> simp

@[simp] theorem discardBegin_outsideAnswers (w c : Nat) : (discardBegin s w c).outsideAnswers = s.outsideAnswers := by
  simp [discardBegin]

@[simp] theorem retirePoll_outsideAnswers (w c : Nat) : (retirePoll s w c).outsideAnswers = s.outsideAnswers := by
  unfold retirePoll
  rw [foldl_keeps State.outsideAnswers fun t x => by dsimp only; split_ifs <;> simp]
  split <;> simp

@[simp] theorem retireAll_outsideAnswers : (retireAll s).outsideAnswers = s.outsideAnswers :=
  foldl_keeps State.outsideAnswers fun t i => by split <;> simp

/-! ### The loss of a link die (13 R399, R414) -/

theorem tableWaitFail_outsideAnswers (x : TableWait) (code : Byte) : (tableWaitFail s x code).outsideAnswers = s.outsideAnswers := by
  have hcancel (t : State) (id : Nat) : (tableCancel t id).outsideAnswers = t.outsideAnswers := by
    unfold tableCancel
    split
    · split <;> simp
    · rfl
  have hwait : (s.updPar fun p => { p with tableWait := p.tableWait.filter (· != x) }).outsideAnswers = s.outsideAnswers :=
    updPar_outsideAnswers s rfl
  simp only [tableWaitFail, runFinish_outsideAnswers]
  split
  · exact hwait
  · exact (hcancel _ _).trans hwait

theorem askWitness_outsideAnswers (type : Nat) : (askWitness s type).outsideAnswers = s.outsideAnswers := by
  unfold askWitness
  split
  · rfl
  · split
    · rfl
    · exact (emit_outsideAnswers ..).trans (updPar_outsideAnswers (s.free 8).2 rfl)

theorem askEnd_outsideAnswers (code : Byte) : (askEnd s code).outsideAnswers = s.outsideAnswers := by
  unfold askEnd
  split <;> simp

theorem linkLost_outsideAnswers : (linkLost s).outsideAnswers = s.outsideAnswers := by
  have hcats (l : List (Nat × Nat × Nat)) (t : State) :
      (l.foldl (fun t e => t.updCat (catKey e.1 e.2.1) fun k => { k with lossV := some k.vis }) t).outsideAnswers = t.outsideAnswers :=
    foldl_keeps State.outsideAnswers fun _ _ => rfl
  have htables (l : List TableWait) (t : State) :
      (l.foldl (fun t x => tableWaitFail t x rPARTNER_LOST) t).outsideAnswers = t.outsideAnswers :=
    foldl_keeps State.outsideAnswers fun t x => tableWaitFail_outsideAnswers t x _
  simp only [linkLost]
  split
  · rw [askWitness_outsideAnswers, askEnd_outsideAnswers, htables, hcats, updPar_outsideAnswers s rfl]
  · rw [askEnd_outsideAnswers, htables, hcats, updPar_outsideAnswers s rfl]

theorem setLinkState_outsideAnswers (l : PairLink) : (setLinkState s l).outsideAnswers = s.outsideAnswers := by
  simp only [setLinkState]
  split
  · rw [linkLost_outsideAnswers, updPar_outsideAnswers s rfl]
  · exact updPar_outsideAnswers s rfl

theorem resendFrames_outsideAnswers (n : Hub) (l : List Frame) : (resendFrames s n l).outsideAnswers = s.outsideAnswers :=
  foldl_keeps State.outsideAnswers fun t _ => (sendFrame_outsideAnswers ..).trans (updPar_outsideAnswers t rfl)

theorem linkDieDown_outsideAnswers (n : Hub) : (linkDieDown s n).outsideAnswers = s.outsideAnswers := by
  have hoff : (s.updPar fun _ => s.par.setDie n (dieOff (s.par.die n))).outsideAnswers = s.outsideAnswers :=
    updPar_outsideAnswers s (setDie_pk ..)
  simp only [linkDieDown]
  split_ifs
  · rfl
  · rw [resendFrames_outsideAnswers, setLinkState_outsideAnswers, hoff]
  · rw [setLinkState_outsideAnswers, hoff]
  · exact hoff

end

/-! ### The keys of the wings, the Vault and the pair -/

/-- The tenant keys of the wings, the Vault, and the pair key. -/
def State.keys (s : State) : (Nat → Option Bytes) × Vlt × Option Bytes := (fun w => (s.wing w).tk, s.vlt, s.par.pk)

theorem keys_of_outsideAnswers {s t : State} (h : t.outsideAnswers = s.outsideAnswers) : t.keys = s.keys := by
  have hview := congrArg State.keys h
  exact hview

theorem keys_of_outsideVents {s t : State} (h : t.outsideVents = s.outsideVents) : t.keys = s.keys :=
  keys_of_outsideAnswers (outsideAnswers_of_outsideVents h)

section
variable (s : State)

/-- A change of a wing keeps the keys where it keeps the wing's. -/
theorem updWing_keys {w : Nat} {f : Wing → Wing} (h : (f (s.wing w)).tk = (s.wing w).tk) : (s.updWing w f).keys = s.keys := by
  have hwings : (fun j => ((s.updWing w f).wing j).tk) = fun j => (s.wing j).tk := by
    funext j
    by_cases hj : j = w
    · rw [hj, State.updWing, State.wing_setWing_same, h]
    · rw [State.updWing, State.wing_setWing, if_neg hj]
  exact congrArg (fun f => (f, s.vlt, s.par.pk)) hwings

/-- A change of other parts keeps the keys. -/
theorem keys_of_parts {s t : State} (hwings : t.wings = s.wings) (hvlt : t.vlt = s.vlt) (hpar : t.par = s.par) : t.keys = s.keys := by
  simp only [State.keys, State.wing, hwings, hvlt, hpar]

@[simp] theorem updReq_keys (id : Nat) (f : Req → Req) : (s.updReq id f).keys = s.keys := keys_of_parts rfl rfl rfl
@[simp] theorem setTdi_keys (k : Nat) (v : Tdi) : (s.setTdi k v).keys = s.keys := keys_of_parts (by simp) (by simp) (by simp)
@[simp] theorem setHalf_keys (k : Nat) (v : HalfCell) : (s.setHalf k v).keys = s.keys := keys_of_parts (by simp) (by simp) (by simp)
@[simp] theorem setExt_keys (k : Nat) (v : Extent) : (s.setExt k v).keys = s.keys := keys_of_parts (by simp) (by simp) (by simp)
@[simp] theorem setQue_keys (k : Nat) (v : Que) : (s.setQue k v).keys = s.keys := keys_of_parts (by simp) (by simp) (by simp)
@[simp] theorem setVf_keys (k : Nat) (v : Vf) : (s.setVf k v).keys = s.keys := keys_of_parts (by simp) (by simp) (by simp)
@[simp] theorem setFlow_keys (k : Nat) (v : Flow) : (s.setFlow k v).keys = s.keys := keys_of_parts (by simp) (by simp) (by simp)
@[simp] theorem setStack_keys (k : Nat) (v : Stack) : (s.setStack k v).keys = s.keys := keys_of_parts (by simp) (by simp) (by simp)
@[simp] theorem setDoc_keys (k : Nat) (v : Docent) : (s.setDoc k v).keys = s.keys := keys_of_parts (by simp) (by simp) (by simp)
@[simp] theorem setMu_keys (k : Nat) (v : MuSt) : (s.setMu k v).keys = s.keys := keys_of_parts (by simp) (by simp) (by simp)
@[simp] theorem setLane_keys (k : Nat) (v : LaneBuf) : (s.setLane k v).keys = s.keys := keys_of_parts (by simp) (by simp) (by simp)

/-- Each wing below `n` is changed once. -/
theorem wing_foldl_updWing (f : Wing → Wing) {n w : Nat} (hw : w < n) :
    ((List.range n).foldl (fun s w => s.updWing w f) s).wing w = f (s.wing w) := by
  have hfold (n : Nat) : ((List.range n).foldl (fun s w => s.updWing w f) s).wings =
      (List.range n).foldl (fun t w => if true then Tbl.set Wing.init t w (f (Tbl.get Wing.init t w)) else t) s.wings := by
    induction n with
    | zero => rfl
    | succ n ih =>
      rw [List.range_succ, List.foldl_append, List.foldl_append, ← ih]
      rfl
  have hread := Tbl.get_foldl_range Wing.init (fun _ => true) (fun _ => f) s.wings n w
  rw [← hfold, if_pos ⟨hw, rfl⟩] at hread
  exact hread

/-! ### Records, aborts and TDIs -/

@[simp] theorem alarm_keys (kind : W16) (wing die d0 d1 d2 d3 : Nat) : (alarm s kind wing die d0 d1 d2 d3).keys = s.keys :=
  keys_of_outsideVents (alarm_outsideVents ..)

theorem logPut_keys (fnId wing kind target detail : Nat) (oldH newH : Bytes) :
    (logPut s fnId wing kind target detail oldH newH).keys = s.keys := by
  have hrate (t : State) (fn : Nat) : (rateCount t fn).keys = t.keys := keys_of_parts rfl rfl rfl
  have hlog (l : Log) : ({ s with log := l } : State).keys = s.keys := keys_of_parts rfl rfl rfl
  simp only [logPut, apply_ite State.keys, alarm_keys, ite_self]
  split_ifs
  · rw [updWing_keys _ (by rfl), hrate, hlog]
  · rw [updWing_keys _ (by rfl), hlog]
  · rw [hrate, hlog]
  · rw [hlog]

theorem logAppend_keys (fnId wing kind target detail : Nat) (old new : Bytes) :
    (logAppend s fnId wing kind target detail old new).keys = s.keys := logPut_keys ..

theorem curatorLog_keys (wing target detail : Nat) : (curatorLog s wing target detail).keys = s.keys := by
  unfold curatorLog
  split
  · rfl
  · exact logAppend_keys ..

theorem settleHeld_keys (id : Nat) : (settleHeld s id).keys = s.keys := by
  unfold settleHeld
  split
  · rfl
  · simp [settle]

theorem stopWork_keys (id : Nat) : (stopWork s id).keys = s.keys := by
  rw [stopWork_frame]
  exact keys_of_parts rfl rfl rfl

theorem abortReq_keys (id : Nat) (code : Byte) (pc detail : W32) : (abortReq s id code pc detail).keys = s.keys := by
  simp [abortReq, stopWork_keys, settle, settleHeld_keys]

theorem tdiError_keys (vf : Nat) : (tdiError s vf).keys = s.keys := by
  have haborts (l : List Req) (t : State) :
      (l.foldl (fun t r => abortReq t r.id rKEY_MISSING 0xFFFFFFFF 0) t).keys = t.keys :=
    foldl_keeps State.keys fun t r => abortReq_keys t r.id _ _ _
  have htdi (f : Tdi → Tdi) : (s.updTdi vf f).keys = s.keys := setTdi_keys ..
  simp only [tdiError]
  split
  · split
    · rw [haborts, updWing_keys _ (by rfl), htdi]
    · rw [logAppend_keys, haborts, updWing_keys _ (by rfl), htdi]
  · exact htdi _

/-! ### The scrub of a wing's units (02 R50) -/

theorem fenceUnit_keys (u : UnitId) : (fenceUnit s u).keys = s.keys := by
  unfold fenceUnit
  split <;> simp

theorem rekeyExtent_keys (w : Option WingIx) (e : Nat) : (rekeyExtent s w e).keys = s.keys := by
  have hzero (a n : Nat) : (dramZero s a n).keys = s.keys := keys_of_parts rfl rfl rfl
  have hwaits (t : State) (l : List (Nat × Bytes)) (b : List (Fn × Nat)) :
      ({ t with lineWaits := l, bar2Waits := b } : State).keys = t.keys := keys_of_parts rfl rfl rfl
  simp only [rekeyExtent, State.updExt_eq, State.updStack_eq, setExt_keys, setStack_keys, hwaits, hzero, apply_ite State.keys, ite_self]

theorem halfLost_keys (h : Nat) : (halfLost s h).keys = s.keys := by
  have hrelease (t : State) (id : Nat) : (releaseHalves t id).keys = t.keys :=
    keys_of_parts (by simp only [releaseHalves]) (by simp only [releaseHalves]) (by simp only [releaseHalves])
  unfold halfLost
  split
  · rw [hrelease]
    split
    · exact stopWork_keys ..
    · exact abortReq_keys ..
  · rfl

theorem scrubHalf_keys (h : Nat) : (scrubHalf s h).keys = s.keys := by
  have hdocs (l : List Nat) (t : State) : (l.foldl docClear t).keys = t.keys := foldl_keeps State.keys fun _ _ => setDoc_keys ..
  have hunits (l : List Nat) (t : State) : (l.foldl (fun (t : State) p =>
      clearLane (clearMu (clearMu t (uMU (h / 2) p)) (posUnit t (uMU (h / 2) p))) (h / 2) p) t).keys = t.keys :=
    foldl_keeps State.keys fun t p => by simp [clearLane, clearMu]
  have hmems (t : State) (m : Mem) (l : List Nat) (b : Tbl Arb) :
      ({ t with sp := m, spBad := l, arbs := b } : State).keys = t.keys := keys_of_parts rfl rfl rfl
  simp only [scrubHalf, hmems, hunits, hdocs, halfLost_keys]

theorem scrubFailed_keys (w h : Nat) : (scrubFailed s w h).keys = s.keys := by
  have hhalf (t : State) (f : HalfCell → HalfCell) : (t.updHalf h f).keys = t.keys := setHalf_keys ..
  have hfree : (s.free 4).2.keys = s.keys := keys_of_parts rfl rfl rfl
  simp only [scrubFailed, curatorLog_keys, alarm_keys, hhalf, hfree]

theorem flushUnit_keys (u : UnitId) : (flushUnit s u).keys = s.keys := by
  unfold flushUnit
  split
  · split
    · exact keys_of_parts rfl rfl rfl
    · rfl
  · exact keys_of_parts rfl rfl rfl
  · exact keys_of_parts rfl rfl rfl
  · rfl

theorem scrubUnits_keys (us : List UnitId) (dest : Option WingIx) (stay : Bool) (bad : List HcIx) :
    (scrubUnits s us dest stay bad).keys = s.keys := by
  have hfence (t : State) : (us.foldl fenceUnit t).keys = t.keys := foldl_keeps State.keys fenceUnit_keys
  have hflush (t : State) : (us.foldl flushUnit t).keys = t.keys := foldl_keeps State.keys flushUnit_keys
  have hscrub (l : List Nat) (t : State) : (l.foldl scrubHalf t).keys = t.keys := foldl_keeps State.keys scrubHalf_keys
  have hdrop (t : State) (e : Nat) : (dropExtentLines t e).keys = t.keys := keys_of_parts rfl rfl rfl
  simp only [scrubUnits]
  rw [hflush, foldl_keeps State.keys fun t h => scrubFailed_keys t _ h, hscrub,
    foldl_keeps State.keys fun t e => (hdrop _ e).trans (rekeyExtent_keys t _ e), hfence]

theorem retireAll_keys : (retireAll s).keys = s.keys := keys_of_outsideAnswers (retireAll_outsideAnswers s)

theorem regenWing_keys (w : Nat) : (regenWing s w).keys = s.keys := by
  simp only [regenWing]
  rw [retireAll_keys, scrubUnits_keys, updWing_keys _ (by rfl)]
  exact keys_of_parts rfl rfl rfl

/-! ### Zeroization of the engines (15 R483) -/

/-- The state whose extents and stacks hold no key, and whose waiting accesses are dropped. -/
def enginesWiped (s : State) : State :=
  let wipe (x : Extent) : Extent := { x with key0 := none, key1 := none, rolling := false, keyLoaded := false, keyLate := false }
  let es := (s.extents.map fun (e : Nat × Extent) => (e.1, wipe e.2)).filter fun (e : Nat × Extent) => decide (e.2 ≠ Extent.init)
  let ks := (s.dramStacks.map fun (k : Nat × Stack) => (k.1, { k.2 with rolls := [] })).filter
    fun (k : Nat × Stack) => decide (k.2 ≠ Stack.init)
  { s with extents := es, dramStacks := ks, lineWaits := [], bar2Waits := [] }

theorem enginesWiped_ext (k : Nat) : ((enginesWiped s).ext k).key0 = none ∧ ((enginesWiped s).ext k).key1 = none := by
  refine Tbl.get_of_forall (P := fun x : Extent => x.key0 = none ∧ x.key1 = none) ⟨rfl, rfl⟩ (fun e he => ?_) k
  obtain ⟨x, -, rfl⟩ := List.mem_map.mp (List.mem_filter.mp he).1
  exact ⟨rfl, rfl⟩

/-- The extents and the Vault's mode. -/
def State.extMode (s : State) : Tbl Extent × VaultMode := (s.extents, s.vlt.mode)

theorem ideInsecure_extMode (k : Nat) : (ideInsecure s k).extMode = s.extMode := by
  have htdis (l : List Nat) (t : State) : (l.foldl tdiError t).extMode = t.extMode :=
    foldl_keeps State.extMode fun t vf => by
      have hview := congrArg State.extMode (tdiError_outsideTrips t vf)
      exact hview
  exact htdis _ _

theorem linkDieDown_extMode (n : Hub) : (linkDieDown s n).extMode = s.extMode := by
  have hview := congrArg State.extMode (linkDieDown_outsideAnswers s n)
  exact hview

theorem zeroizeEngines_extMode : (zeroizeEngines s).extMode = (enginesWiped s).extMode := by
  have hstreams (l : List Nat) (t : State) : (l.foldl ideInsecure t).extMode = t.extMode :=
    foldl_keeps State.extMode ideInsecure_extMode
  have hlinks (t : State) : ((linkDieDown (linkDieDown t 0) 1).updPar fun p => { p with linkKeys := none }).extMode = t.extMode :=
    (linkDieDown_extMode _ 1).trans (linkDieDown_extMode t 0)
  exact (hlinks _).trans (hstreams _ _)

/-- No engine holds a key. -/
theorem zeroizeEngines_ext (k : Nat) : ((zeroizeEngines s).ext k).key0 = none ∧ ((zeroizeEngines s).ext k).key1 = none := by
  have hexts : (zeroizeEngines s).extents = (enginesWiped s).extents := congrArg Prod.fst (zeroizeEngines_extMode s)
  rw [State.ext, hexts]
  exact enginesWiped_ext s k

theorem zeroizeEngines_mode : (zeroizeEngines s).vlt.mode = s.vlt.mode := congrArg Prod.snd (zeroizeEngines_extMode s)

end

end Sys2Proof.Machine

end

section
/-! PROOF. The approved mode, the Vault link, tamper and entropy (15 R463, R467, R482, R483, R486) : O46. -/

open Sys2Proof Sys2Proof.Machine

namespace Sys2Proof.Machine

section
variable {s : State}

/-! ### The approved mode (R467) -/

/-- A wing with APPROVED_ONLY is ENABLED. -/
def approvedOnly (s : State) : Bool :=
  (List.range 16).any fun w => bit (s.wing w).live.policy.toNat 3 && decide ((s.wing w).state = .enabled)

/-- No wing holds a tenant key. -/
def tkWiped (s : State) : State := (List.range 16).foldl (fun s w => s.updWing w fun x => { x with tk := none }) s

/-- The keys that a change of the mode leaves: no tenant key, no pair key, and every wing's root fresh. -/
def modeWiped (s : State) (non : Bool) : State :=
  regenWings (((tkWiped s).updPar fun p => { p with pk := none }).updVlt fun v => { v with modeReq := non })

theorem tkWiped_tk {w : Nat} (hw : w < 16) : ((tkWiped s).wing w).tk = none :=
  congrArg Wing.tk (wing_foldl_updWing s (fun x => { x with tk := none }) hw)

theorem keys_eq_iff {a : Nat → Option Bytes} {b : Vlt} {c : Option Bytes} :
    s.keys = (a, b, c) ↔ (∀ w, (s.wing w).tk = a w) ∧ s.vlt = b ∧ s.par.pk = c := by
  simp only [State.keys, Prod.mk.injEq, funext_iff]

theorem updVlt_keys (u : State) (f : Vlt → Vlt) : (u.updVlt f).keys = (fun w => (u.wing w).tk, f u.vlt, u.par.pk) := rfl

/-- A self-test that no group fails ends in the approved mode. -/
theorem selfTestEnds_passes (u : State) : selfTestEnds u 0 = u.updVlt fun v =>
    { v with selftestFail := 0, lastTest := u.now, sync := v.linkUp && u.hubLinkUp, mode := .approved } := by
  simp only [selfTestEnds, ne_eq, not_true_eq_false, if_false]
  rfl

/-- The keys after a change of the mode. -/
theorem modeWiped_keys (non : Bool) : (∀ w, w < 16 → ((modeWiped s non).wing w).tk = none) ∧
    (modeWiped s non).vlt = { s.vlt with modeReq := non } ∧ (modeWiped s non).par.pk = none := by
  have hkeys (t : State) : (regenWings t).keys = t.keys := foldl_keeps State.keys regenWing_keys
  have hwiped := hkeys (((tkWiped s).updPar fun p => { p with pk := none }).updVlt fun v => { v with modeReq := non })
  rw [← modeWiped, updVlt_keys] at hwiped
  have hvlt : (tkWiped s).vlt = s.vlt := foldl_keeps State.vlt fun _ _ => rfl
  obtain ⟨htk, hown, hpk⟩ := keys_eq_iff.mp hwiped
  have hwing (w : Nat) : ((tkWiped s).updPar fun p => { p with pk := none }).wing w = (tkWiped s).wing w := by
    rw [State.wing, State.updPar_wings, State.wing]
  exact ⟨fun w hw => (htk w).trans ((congrArg Wing.tk (hwing w)).trans (tkWiped_tk hw)), hown.trans (by rw [State.updPar_vlt, hvlt]), hpk⟩

section
variable (hopen : regOpen s 0 = true) (hofficer : isOfficer s 0 = true) (honly : approvedOnly s = false) (hserves : vaultServes s = true)
  (hlog : canLog s 0)
include hopen hofficer honly hserves hlog

/-- A mode request that is taken: outside the log and the vents it is the wipe, and the mode's own part. -/
theorem modeReq_applies {non : Bool} {fails : Byte} (hlocked : non = false → s.fw.unlock = false) : ∃ log : Log,
    (modeReq s 0 non fails).outsideVents =
      { (if non then (modeWiped s non).updVlt fun v => { v with mode := .nonApproved } else selfTestEnds (modeWiped s non) fails).outsideVents
        with log := log } := by
  have hlocked' : (!non && s.fw.unlock) = false := by
    cases non
    · exact hlocked rfl
    · rfl
  have hwrite : modeReq s 0 non fails = loggedWrite s (0 : Fn) 0xFF 0x120004 4 (b2n s.vlt.modeReq) (b2n non) fun s =>
      if non then (modeWiped s non).updVlt fun v => { v with mode := .nonApproved } else selfTestEnds (modeWiped s non) fails := by
    rw [modeReq, pf0Reg_reaches hopen]
    simp only [← approvedOnly.eq_1, hofficer, honly, hserves, hlocked']
    rfl
  obtain ⟨log, hframe, -⟩ := loggedWrite_noWing hlog (w := 0xFF) (by decide) 0x120004 4 (b2n s.vlt.modeReq) (b2n non) fun s =>
      if non then (modeWiped s non).updVlt fun v => { v with mode := .nonApproved } else selfTestEnds (modeWiped s non) fails
  rw [hwrite]
  exact ⟨log, hframe⟩

/-- What a mode request leaves of the keys and the Vault is what its own part leaves. -/
theorem modeReq_keys {non : Bool} {fails : Byte} (hlocked : non = false → s.fw.unlock = false) : (modeReq s 0 non fails).keys =
    (if non then (modeWiped s non).updVlt fun v => { v with mode := .nonApproved } else selfTestEnds (modeWiped s non) fails).keys := by
  obtain ⟨log, hframe⟩ := modeReq_applies hopen hofficer honly hserves hlog (fails := fails) hlocked
  have hkeys := congrArg State.keys hframe
  exact hkeys

theorem modeReq_nonApproved (fails : Byte) :
    (modeReq s 0 true fails).vlt.mode = .nonApproved ∧ (modeReq s 0 true fails).vlt.modeReq = true ∧ (modeReq s 0 true fails).par.pk = none ∧
      ∀ w, w < 16 → ((modeReq s 0 true fails).wing w).tk = none := by
  have hkeys := modeReq_keys hopen hofficer honly hserves hlog (non := true) (fails := fails) nofun
  obtain ⟨htk, hvlt, hpk⟩ := modeWiped_keys (s := s) true
  rw [if_pos rfl, updVlt_keys] at hkeys
  obtain ⟨hwing, hown, hpar⟩ := keys_eq_iff.mp hkeys
  refine ⟨congrArg Vlt.mode hown, ?_, by rw [hpar, hpk], fun w hw => by rw [hwing, htk w hw]⟩
  rw [hown, hvlt]

theorem modeReq_approved (hlocked : s.fw.unlock = false) :
    (modeReq s 0 false 0).vlt.mode = .approved ∧ (modeReq s 0 false 0).vlt.modeReq = false ∧ (modeReq s 0 false 0).par.pk = none ∧
      ∀ w, w < 16 → ((modeReq s 0 false 0).wing w).tk = none := by
  have hkeys := modeReq_keys hopen hofficer honly hserves hlog (non := false) (fails := 0) fun _ => hlocked
  obtain ⟨htk, hvlt, hpk⟩ := modeWiped_keys (s := s) false
  rw [if_neg (by decide), selfTestEnds_passes, updVlt_keys] at hkeys
  obtain ⟨hwing, hown, hpar⟩ := keys_eq_iff.mp hkeys
  refine ⟨congrArg Vlt.mode hown, ?_, by rw [hpar, hpk], fun w hw => by rw [hwing, htk w hw]⟩
  rw [hown, hvlt]

end

/-- A request is ignored while a wing with APPROVED_ONLY is ENABLED. -/
theorem modeReq_ignored {non : Bool} {fails : Byte} (hopen : regOpen s 0 = true) {w : Nat} (hw : w < 16)
    (hpolicy : bit (s.wing w).live.policy.toNat 3 = true) (hstate : (s.wing w).state = .enabled) :
    modeReq s 0 non fails = ignoredWrite s ((0 : Fn) : Nat) 0xFF 0x120004 4 (b2n s.vlt.modeReq) (b2n non) := by
  have honly : approvedOnly s = true :=
    List.any_eq_true.mpr ⟨w, List.mem_range.mpr hw, by rw [hpolicy, hstate]; rfl⟩
  rw [modeReq, pf0Reg_reaches hopen]
  simp only [← approvedOnly.eq_1, honly, Bool.or_true, Bool.true_or, if_true]

/-! ### Tamper and ERROR (R482, R483, R486) -/

/-- The count of trips saturates. -/
theorem tamperTrip_trips {sensor : Nat} {s1 : State} (hpwr : s.rst.pwrOk = true)
    (hs1 : s1 = (zeroizeAll s).updVlt fun v => { v with
      tamper := BitVec.ofNat 32 ((if s.vlt.tamper.toNat / 65536 < 0xFFFF then s.vlt.tamper.toNat / 65536 + 1 else 0xFFFF) * 65536 +
        (fld s.vlt.tamper.toNat 0 5 ||| 1 ||| 2 ^ (sensor + 1))) }) :
    tamperTrip s sensor =
      assertSource (setAlert (alarm s1 0x0602 0xFF (16 + servingHub s) s1.vlt.tamper.toNat 0 0 0) 4 true) 9 7 := by
  have hbound : s.vlt.tamper.toNat < 4294967296 := s.vlt.tamper.isLt
  have hcount : (if s.vlt.tamper.toNat / 65536 < 0xFFFF then s.vlt.tamper.toNat / 65536 + 1 else 0xFFFF) =
      if s.vlt.tamper.toNat / 65536 < 0xFFFF then s.vlt.tamper.toNat / 65536 + 1 else s.vlt.tamper.toNat / 65536 := by
    split
    · rfl
    · omega
  rw [hcount] at hs1
  subst hs1
  simp only [tamperTrip, hpwr, Bool.not_true, Bool.false_eq_true, if_false]

theorem tamperClear_clears {bits : BitVec 5} (hopen : regOpen s 0 = true) (hofficer : isOfficer s 0 = true) (hlog : canLog s 0) :
    (tamperClear s 0 bits.toNat).vlt.tamper = s.vlt.tamper &&& ~~~(bits.setWidth 32) ∧
      (tamperClear s 0 bits.toNat).log.next = s.log.next + 1 := by
  have hwrite : tamperClear s 0 bits.toNat = loggedWrite s (0 : Fn) 0xFF 0x120008 4 s.vlt.tamper.toNat
      (s.vlt.tamper &&& ~~~(bits.setWidth 32)).toNat fun s =>
        setAlert (s.updVlt fun v => { v with tamper := s.vlt.tamper &&& ~~~(bits.setWidth 32) }) 4
          (bit (s.vlt.tamper &&& ~~~(bits.setWidth 32)).toNat 0) := by
    rw [tamperClear, pf0Reg_reaches hopen]
    simp only [hofficer, BitVec.ofNat_toNat]
    rfl
  obtain ⟨log, hframe, hnext⟩ := loggedWrite_noWing hlog (w := 0xFF) (by decide) 0x120008 4 s.vlt.tamper.toNat
      (s.vlt.tamper &&& ~~~(bits.setWidth 32)).toNat fun s =>
        setAlert (s.updVlt fun v => { v with tamper := s.vlt.tamper &&& ~~~(bits.setWidth 32) }) 4
          (bit (s.vlt.tamper &&& ~~~(bits.setWidth 32)).toNat 0)
  rw [← hwrite] at hframe
  have hvlt := congrArg (Vlt.tamper ∘ State.vlt) hframe
  have hlogs := congrArg (Log.next ∘ State.log) hframe
  exact ⟨hvlt, hlogs.trans hnext⟩

theorem tamperClear_ignored {bits : BitVec 5} (hopen : regOpen s 0 = true) (hofficer : isOfficer s 0 = false) :
    tamperClear s 0 bits.toNat = ignoredWrite s ((0 : Fn) : Nat) 0xFF 0x120008 4 s.vlt.tamper.toNat
      (s.vlt.tamper &&& ~~~(bits.setWidth 32)).toNat := by
  rw [tamperClear, pf0Reg_reaches hopen]
  simp only [hofficer, BitVec.ofNat_toNat, Bool.not_false, if_true]

/-- The module is in ERROR, and, unless it was before, no engine holds a key. -/
theorem vaultError_mode : (vaultError s).vlt.mode = .error := by
  unfold vaultError
  split
  case isTrue h => exact h
  case isFalse =>
    have hview := congrArg (Vlt.mode ∘ State.vlt) (alarm_outsideVents (zeroizeEngines (s.updVlt fun v => { v with mode := .error }))
      0x0601 0xFF (16 + servingHub s) (vltStatus (zeroizeEngines (s.updVlt fun v => { v with mode := .error }))) 0 0 0)
    have halarm : (alarm (zeroizeEngines (s.updVlt fun v => { v with mode := .error })) 0x0601 0xFF (16 + servingHub s)
      (vltStatus (zeroizeEngines (s.updVlt fun v => { v with mode := .error }))) 0 0 0).vlt.mode =
        (zeroizeEngines (s.updVlt fun v => { v with mode := .error })).vlt.mode := hview
    exact halarm.trans (zeroizeEngines_mode _)

theorem vaultError_ext (hmode : s.vlt.mode ≠ .error) (k : Nat) :
    ((vaultError s).ext k).key0 = none ∧ ((vaultError s).ext k).key1 = none := by
  have hext : (vaultError s).ext k = (zeroizeEngines (s.updVlt fun v => { v with mode := .error })).ext k := by
    rw [vaultError, if_neg hmode]
    have hview := congrArg (State.ext · k) (alarm_outsideVents (zeroizeEngines (s.updVlt fun v => { v with mode := .error }))
      0x0601 0xFF (16 + servingHub s) (vltStatus (zeroizeEngines (s.updVlt fun v => { v with mode := .error }))) 0 0 0)
    exact hview
  rw [hext]
  exact zeroizeEngines_ext _ k

end

end Sys2Proof.Machine

/-- Settles O46: a mode request wipes the keys before it sets its mode, and the wings' fresh roots bring none back; a trip, a
clear and ERROR each by their own rule. -/
theorem modesTamperAndTheVaultLink : Obligations.ModesTamperAndTheVaultLink := by
  unfold Obligations.ModesTamperAndTheVaultLink
  refine ⟨?nonApproved, ?approved, ?ignored, ?loss, ?restore, ?trip, ?clear, ?clearIgnored, ?entropy, ?error⟩
  case nonApproved =>
    exact fun s hopen hofficer honly hserves hlog => ⟨_, rfl, modeReq_nonApproved hopen hofficer honly hserves hlog 0⟩
  case approved =>
    exact fun s hopen hofficer honly hserves hlocked _ hlog => ⟨_, rfl, modeReq_approved hopen hofficer honly hserves hlog hlocked⟩
  case ignored =>
    exact fun s fails w hopen hw hpolicy hstate =>
      ⟨congrArg Host.Outcome.next (modeReq_ignored hopen hw hpolicy hstate),
        congrArg Host.Outcome.next (modeReq_ignored hopen hw hpolicy hstate)⟩
  case loss =>
    intro s hsync
    refine congrArg Host.Outcome.next ?_
    simp only [State.updVlt, hsync, if_true]
  case restore =>
    intro s hmode
    refine congrArg Host.Outcome.next ?_
    simp only [State.updVlt, ne_eq, hmode, not_false_eq_true, decide_true]
  case trip => exact fun sensor s s1 hpwr hs1 => congrArg Host.Outcome.next (tamperTrip_trips hpwr hs1)
  case clear => exact fun bits s hopen hofficer hlog => ⟨_, rfl, tamperClear_clears hopen hofficer hlog⟩
  case clearIgnored => exact fun bits s hopen hofficer => congrArg Host.Outcome.next (tamperClear_ignored hopen hofficer)
  case entropy => exact fun s halive _ => congrArg Host.Outcome.next (if_pos halive)
  case error => exact fun s => ⟨vaultError_mode, vaultError_ext⟩

end

section
/-! PROOF. The Vault's services: status, self-test, key import and zeroization (15 R463, R468, R472, R473, R482, R484) : O44. -/

open Sys2Proof Sys2Proof.Machine

namespace Sys2Proof.Machine

section
variable {s : State} {c : Cmd}

/-! ### VAULT_STATUS, VAULT_SELFTEST and VAULT_KEY_IMPORT (R468, R473, R482) -/

theorem vaultStatus_serves (hw : c.wing = 0xFF#8) (hserves : vaultServes s = true) :
    vaultStatus_ s c = (s, .done rOK (vaultPayload s c.fn)) := by
  unfold vaultStatus_
  rw [checked_pass]
  simp [firstFail_cons, noWing_passes hw, hserves]

theorem vaultStatus_refuses (hw : c.wing = 0xFF#8) (hserves : vaultServes s = false) : vaultStatus_ s c = (s, .done rINTERNAL []) := by
  unfold vaultStatus_
  apply checked_fail
  simp [firstFail_cons, noWing_passes hw, hserves]

theorem vaultSelftest_tests (hw : c.wing = 0xFF#8) (hofficer : isOfficer s c.fn = true) (hserves : vaultServes s = true)
    (hlong : longFull s = false) : vaultSelftest s c = (s.updVlt fun v => { v with lastTest := s.now },
      .done rOK (vaultPayload (s.updVlt fun v => { v with lastTest := s.now }) c.fn)) := by
  unfold vaultSelftest
  rw [checked_pass]
  simp [firstFail_cons, noWing_passes hw, needOfficer, hofficer, hserves, hlong]

section
variable {key : Bytes} (hpass : firstFail (importChecks s c) = none) (hkey : importedKey s c = some key)
include hpass hkey

theorem vaultKeyImport_tenant (hkind : leAt c.payload 0 1 = 0) : vaultKeyImport s c =
    (scpCommit (regenWing (s.updWing c.wing.toNat fun x => { x with tk := some key }) c.wing.toNat) c, .done rOK (keyId key)) := by
  unfold vaultKeyImport
  rw [checked_pass hpass]
  simp only [hkey, hkind, if_true]

theorem vaultKeyImport_pair (hkind : leAt c.payload 0 1 = 1) : vaultKeyImport s c =
    (scpCommit (s.updPar fun x => { x with pk := some key }) c, .done rOK (keyId key)) := by
  unfold vaultKeyImport
  rw [checked_pass hpass]
  simp only [hkey, hkind, one_ne_zero, if_false]

end

theorem vaultKeyImport_fails {code : Byte} (hfail : firstFail (importChecks s c) = some code) :
    vaultKeyImport s c = (s, .done code []) := by
  unfold vaultKeyImport
  exact checked_fail hfail

/-! ### VAULT_ZEROIZE (R484) -/

section
variable (hz : zeroAt c.payload 1 3 = true) (hofficer : isOfficer s c.fn = true) (hserves : vaultServes s = true)
  (hlong : longFull s = false)
include hz hofficer hserves hlong

theorem vaultZeroize_wing (hwing : c.wing.toNat < 16) (hscope : leAt c.payload 0 1 = 0) (hwaits : zeroizeWaits s 0 c.wing.toNat = false) :
    vaultZeroize s c = (zeroizeWing (scpCommit s c) c.wing.toNat, .done rOK []) := by
  unfold vaultZeroize
  rw [checked_pass]
  · simp [hscope, hwaits, zeroizeNow]
  · simp [firstFail_cons, needOfficer, hofficer, hz, hscope, hwing, hserves, hlong]

theorem vaultZeroize_keys (hwing : c.wing = 0xFF#8) (hscope : leAt c.payload 0 1 = 1) (hwaits : zeroizeWaits s 1 c.wing.toNat = false) :
    vaultZeroize s c = (zeroizeKeys (scpCommit s c), .done rOK []) := by
  unfold vaultZeroize
  rw [checked_pass]
  · simp [hscope, hwaits, zeroizeNow]
  · simp [firstFail_cons, needOfficer, hofficer, hz, hscope, hwing, hserves, hlong]

theorem vaultZeroize_module (hwing : c.wing = 0xFF#8) (hscope : leAt c.payload 0 1 = 2) :
    vaultZeroize s c = (scpCommit s c, .done rOK []) := by
  unfold vaultZeroize
  rw [checked_pass]
  · simp [hscope]
  · simp [firstFail_cons, needOfficer, hofficer, hz, hscope, hwing, hserves, hlong]

end

/-! ### What zeroization leaves -/

/-- A fence that is looked at touches requests alone. -/
theorem fencePoll_reqs (s : State) : fencePoll s = { s with reqs := (fencePoll s).reqs } := by
  have hfinish (t : State) (id : Nat) (code : Byte) (pc detail : W32) :
      finish t id code pc detail = { t with reqs := (finish t id code pc detail).reqs } := by
    simp only [finish, settle, State.updReq]
  have hfold (l : List Req) (t : State) :
      l.foldl (fun s r => if fenceMet s r then finish s r.id rOK 0 0
        else if fenceStale s r then finish s r.id rSTALE_BINDING 0 0 else s) t =
      { t with reqs := (l.foldl (fun s r => if fenceMet s r then finish s r.id rOK 0 0
        else if fenceStale s r then finish s r.id rSTALE_BINDING 0 0 else s) t).reqs } := by
    induction l generalizing t with
    | nil => rfl
    | cons r l ih =>
      rw [List.foldl_cons, ih]
      split_ifs
      · rw [hfinish]
      · rw [hfinish]
      · rfl
  exact hfold _ s

theorem zeroizeWing_tk (w : Nat) : ((zeroizeWing s w).wing w).tk = none := by
  have haborts (l : List Req) (t : State) :
      (l.foldl (fun t r => abortReq t r.id rKEY_MISSING 0xFFFFFFFF 0) t).keys = t.keys :=
    foldl_keeps State.keys fun t r => abortReq_keys t r.id _ _ _
  have htdis (l : List Nat) (t : State) : (l.foldl tdiError t).keys = t.keys := foldl_keeps State.keys tdiError_keys
  have hoff (t : State) : (wingOff t w).keys = t.keys := by
    have himages (u : State) (l : List Image) : ({ u with images := l } : State).keys = u.keys := keys_of_parts rfl rfl rfl
    rw [wingOff, himages, updWing_keys _ (by rfl)]
  have hfence (t : State) : (fencePoll t).keys = t.keys := by
    rw [fencePoll_reqs]
    exact keys_of_parts rfl rfl rfl
  have hkeys : (zeroizeWing s w).keys = ((s.liveReqs w).foldl (fun s r => abortReq s r.id rKEY_MISSING 0xFFFFFFFF 0) s |>.updWing w
      fun x => { x with tk := none }).keys := by
    simp only [zeroizeWing]
    rw [retireAll_keys, hfence, hoff, htdis, regenWing_keys]
  have hwing := congrFun (congrArg Prod.fst hkeys) w
  simp only [State.keys, State.updWing_eq, State.wing_setWing_same] at hwing
  exact hwing

theorem zeroizeWing_state (w : Nat) : ((zeroizeWing s w).wing w).state = .disabled := by
  have hretire (t : State) : (retireAll t).wing w = t.wing w := by
    rw [State.wing, wings_of_outsideAnswers (retireAll_outsideAnswers t), State.wing]
  have hfence (t : State) : (fencePoll t).wing w = t.wing w := by
    rw [fencePoll_reqs]
    rfl
  have hoff (t : State) : ((wingOff t w).wing w).state = .disabled := by
    have himages (u : State) (l : List Image) : ({ u with images := l } : State).wing w = u.wing w := rfl
    rw [wingOff, himages, State.updWing_eq, State.wing_setWing_same]
  simp only [zeroizeWing, hretire, hfence, hoff]

/-- The state whose engines and wings hold no key. -/
def wingsWiped (s : State) : State :=
  (List.range 16).foldl (fun s w => s.updWing w fun x => { x with wr := [], tk := none }) (zeroizeEngines s)

theorem zeroizeAll_eq (s : State) : zeroizeAll s =
    ((wingsWiped s).updPar fun p => { p with pk := none }).updVlt fun v => { v with dk := [], sessions := [] } := rfl

theorem zeroizeAll_wings : (zeroizeAll s).wings = (wingsWiped s).wings := by
  rw [zeroizeAll_eq, State.updVlt_wings, State.updPar_wings]

theorem zeroizeAll_extents : (zeroizeAll s).extents = (zeroizeEngines s).extents := by
  have hfold : (wingsWiped s).extents = (zeroizeEngines s).extents := foldl_keeps State.extents fun _ _ => State.setWing_extents ..
  rw [zeroizeAll_eq, State.updVlt_extents, State.updPar_extents, hfold]

theorem zeroizeAll_vault : (zeroizeAll s).par.pk = none ∧ (zeroizeAll s).vlt.dk = [] ∧ (zeroizeAll s).vlt.sessions = [] := by
  simp only [zeroizeAll_eq, State.updVlt_own, State.updVlt_par, State.updPar_own, and_self]

theorem zeroizeAll_wing {w : Nat} (hw : w < 16) : ((zeroizeAll s).wing w).tk = none ∧ ((zeroizeAll s).wing w).wr = [] := by
  have hwing := wing_foldl_updWing (zeroizeEngines s) (fun x => { x with wr := [], tk := none }) hw
  rw [State.wing, zeroizeAll_wings, ← State.wing, wingsWiped, hwing]
  exact ⟨rfl, rfl⟩

theorem zeroizeAll_ext (k : Nat) : ((zeroizeAll s).ext k).key0 = none ∧ ((zeroizeAll s).ext k).key1 = none := by
  rw [State.ext, zeroizeAll_extents]
  exact zeroizeEngines_ext s k

end

end Sys2Proof.Machine

/-- Settles O44: each command past its checks, and zeroization followed through what it stops, none of which brings a key back. -/
theorem theVaultServesItsOfficerAndTenants : Obligations.TheVaultServesItsOfficerAndTenants := by
  unfold Obligations.TheVaultServesItsOfficerAndTenants
  refine ⟨?status, ?refused, ?selftest, ?tenant, ?pair, ?failed, ?wing, ?keys, ?module, ?wingLeft, ?moduleLeft⟩
  case status =>
    rintro fn hub tag wing p c s rfl ha hw hserves
    exact scpExec_done ha (vaultStatus_serves hw hserves)
  case refused =>
    rintro fn hub tag wing p c s rfl ha hw hserves
    exact scpExec_done ha (vaultStatus_refuses hw hserves)
  case selftest =>
    rintro fn hub tag wing p c s rfl ha hw hofficer hserves hlong
    exact scpExec_done ha (vaultSelftest_tests hw hofficer hserves hlong)
  case tenant =>
    rintro fn hub tag wing p c s key rfl ha hpass hkey hkind
    exact scpExec_done ha (vaultKeyImport_tenant hpass hkey hkind)
  case pair =>
    rintro fn hub tag wing p c s key rfl ha hpass hkey hkind
    exact scpExec_done ha (vaultKeyImport_pair hpass hkey hkind)
  case failed =>
    rintro fn hub tag wing p c s code rfl ha hfail
    exact scpExec_done ha (vaultKeyImport_fails hfail)
  case wing =>
    rintro fn hub tag wing p c s rfl ha hwing hz hscope hofficer hserves hlong hwaits
    refine (scpExecThen_ok ha (vaultZeroize_wing hz hofficer hserves hlong hwing hscope hwaits)).trans ?_
    exact congrArg Host.Outcome.next (if_neg (by simp [sentCmd, hscope]))
  case keys =>
    rintro fn hub tag wing p c s rfl ha hwing hz hscope hofficer hserves hlong hwaits
    refine (scpExecThen_ok ha (vaultZeroize_keys hz hofficer hserves hlong hwing hscope hwaits)).trans ?_
    exact congrArg Host.Outcome.next (if_neg (by simp [sentCmd, hscope]))
  case module =>
    rintro fn hub tag wing p c s rfl ha hwing hz hscope hofficer hserves hlong
    refine (scpExecThen_ok ha (vaultZeroize_module hz hofficer hserves hlong hwing hscope)).trans ?_
    exact congrArg Host.Outcome.next (if_pos hscope)
  case wingLeft => exact fun s w _ => ⟨zeroizeWing_tk w, zeroizeWing_state w⟩
  case moduleLeft =>
    intro s
    obtain ⟨hpk, hdk, hsessions⟩ := zeroizeAll_vault (s := s)
    exact ⟨fun w hw => zeroizeAll_wing hw, hpk, hdk, hsessions, zeroizeAll_ext⟩

end

section
/-! PROOF. Block resets, the function-level reset of a VF and the Curator's watchdog (16 R496 to R502) : O49. -/

open Sys2Proof Sys2Proof.Machine

namespace Sys2Proof.Machine

/-! ### The commands that ask for a reset (R499) -/

section
variable {s : State} {c : Cmd}

theorem wingReset_begins (hwing : c.wing.toNat < 16) (hheld : blockHeld s 0 c.wing.toNat = false)
    (hblocks : (s.rst.blocks.any fun b => b.level == 0 && b.target == c.wing.toNat) = false) (hlong : longFull s = false) :
    wingReset s c = (blockBegin (countSource (scpCommit s c) 5)
      { fn := c.fn, hub := c.hub, level := 0, target := c.wing.toNat, source := 5, since := s.now }, .pend true []) := by
  unfold wingReset
  rw [checked_pass]
  simp [firstFail_cons, badWing_passes hwing, hheld, hblocks, hlong]

section
variable (hw : c.wing = 0xFF#8) (hz : zeroAt c.payload 2 2 = true) (hlong : longFull s = false)
include hw hz hlong

/-- Levels 1 and 2 begin a block reset of a half-cell or a cell. -/
theorem resetRequest_begins
    (htarget : (leAt c.payload 0 1 = 1 ∧ leAt c.payload 1 1 ≤ 15) ∨ (leAt c.payload 0 1 = 2 ∧ leAt c.payload 1 1 ≤ 7))
    (hheld : blockHeld s (leAt c.payload 0 1) (leAt c.payload 1 1) = false) :
    resetRequest s c = (blockBegin (countSource (scpCommit s c) 11)
      { fn := c.fn, hub := c.hub, level := leAt c.payload 0 1, target := leAt c.payload 1 1, source := 11, since := s.now },
      .pend true []) := by
  have hlevel : leAt c.payload 0 1 < 3 := by omega
  have hrange : ¬ ((leAt c.payload 0 1 = 3 ∨ leAt c.payload 0 1 = 4) ∨ leAt c.payload 0 1 = 0 ∨ 4 < leAt c.payload 0 1 ∨
      (leAt c.payload 0 1 = 1 ∧ leAt c.payload 1 1 > 15) ∨ (leAt c.payload 0 1 = 2 ∧ leAt c.payload 1 1 > 7)) := by omega
  simp only [not_or] at hrange
  unfold resetRequest
  rw [checked_pass]
  · rw [if_pos hlevel]
  · obtain ⟨⟨h3, h4⟩, h0, hover, hhalf, hcell⟩ := hrange
    simp only [firstFail_cons, noWing_passes hw, hz, h3, h4, h0, hover, hhalf, hcell, hheld, hlong]
    simp [firstFail]

/-- Levels 3 and 4 are answered first. -/
theorem resetRequest_answers (htarget : leAt c.payload 1 1 = 0) (hlevel : leAt c.payload 0 1 = 3 ∨ leAt c.payload 0 1 = 4) :
    resetRequest s c = (scpCommit s c, .done rOK []) := by
  unfold resetRequest
  rw [checked_pass]
  · rw [if_neg (by omega)]
  · rcases hlevel with h | h
    · simp [firstFail_cons, noWing_passes hw, hz, htarget, h, hlong]
    · simp [firstFail_cons, noWing_passes hw, hz, htarget, h, hlong]

end

end

/-! ### How a block reset begins (R500) -/

section
variable {s : State} {b : BlockReset}

theorem blockBegin_holds {h : Nat} (hh : h ∈ blockHalves s b.level b.target) : ((blockBegin s b).half h).held = true := by
  have hrest (t : State) : ((if b.level = 0 then t.updWing b.target fun x => { x with stopAdmit := true } else t).updRst
      fun r => { r with blocks := r.blocks ++ [b] }).half h = t.half h := by
    split
    · rfl
    · rfl
  simp only [blockBegin, hrest]
  have hreq (t : State) (id : Nat) (f : Req → Req) : (t.updReq id f).half h = t.half h := rfl
  refine foldl_establishes (P := fun t => (t.half h).held = true) hh (fun t => ?_) (fun t k ht => ?_) s
  · have hset : ((t.updHalf h fun x => { x with held := true }).half h).held = true := by
      rw [State.updHalf_eq, State.half_setHalf_same]
    split
    · split
      · rw [hreq]
        exact hset
      · exact hset
    · exact hset
  · have hkeep : ((t.updHalf k fun x => { x with held := true }).half h).held = true := by
      rw [State.updHalf_eq, State.half_setHalf]
      split
      · rfl
      · exact ht
    split
    · split
      · rw [hreq]
        exact hkeep
      · exact hkeep
    · exact hkeep

theorem blockBegin_stops (hlevel : b.level = 0) : ((blockBegin s b).wing b.target).stopAdmit = true := by
  have hrst (t : State) (f : Rst → Rst) : (t.updRst f).wing b.target = t.wing b.target := rfl
  simp only [blockBegin, hrst, if_pos hlevel, State.updWing_eq, State.wing_setWing_same]

theorem blockBegin_lists : (blockBegin s b).rst.blocks = s.rst.blocks ++ [b] := by
  have hwing (t : State) : (if b.level = 0 then t.updWing b.target fun x => { x with stopAdmit := true } else t).rst = t.rst := by
    split
    · rfl
    · rfl
  have hown (t : State) (f : Rst → Rst) : (t.updRst f).rst = f t.rst := rfl
  simp only [blockBegin, hown, hwing]
  rw [foldl_keeps State.rst fun t h => ?_]
  split
  · split
    · rfl
    · rfl
  · rfl

end

/-! ### What level 0 does to its wing (R501) -/

/-- The queues of a wing are DISABLED. -/
def queuesOff (s : State) (w : Nat) : State :=
  (s.wingQueues w).foldl (fun s q => s.updQue q fun x =>
    { x with state := .disabled, evaluating := false, disableAfter := false, halting := false }) s

/-- One flow is RESET: its slots are released. -/
def flowReset (s : State) (f : Nat) : State :=
  (flowDrop s (Fin.ofNat 16384 f)).updFlow f fun x => { x with state := .reset }

/-- The ring of one catalogue is DISABLED, after a record whose writes have begun. -/
def ringStop (s : State) (w c : Nat) : State :=
  catUpd (ringDisable (if (s.cat (catKey w c)).applied then recordFinish s w c else s) w c) w c fun k => { k with dbDropped := false }

/-- The open epoch of one catalogue is discarded, now or after its commit at step 3. -/
def ringDiscard (s : State) (w c : Nat) : State :=
  if !(s.cat (catKey w c)).isOpen || fenced s (s.cat (catKey w c)) then s
  else match (s.cat (catKey w c)).commit with
  | some m =>
    if m.step = 3 then catUpd s w c fun k => { k with discardEp := some (s.cat (catKey w c)).openEp } else discardBegin s w c
  | none => discardBegin s w c

theorem ringsOff_eq (s : State) (w : Nat) :
    ringsOff s w = (List.range 8).foldl (fun s c => ringDiscard (ringStop s w c) w c) s := rfl

theorem blockEffects_wing {s : State} {b : BlockReset} (hlevel : b.level = 0) : blockEffects s b = fencePoll
    (((queuesOff (wingOff s b.target) b.target).wingFlows b.target).foldl flowReset
      (ringsOff (queuesOff (wingOff s b.target) b.target) b.target)) := by
  unfold blockEffects
  rw [hlevel]
  rfl

/-- The wings, the images and the states of the queues. -/
def State.serviceView (s : State) : Tbl Wing × List Image × (Nat → QuePhase) := (s.wings, s.images, fun q => (s.que q).state)

/-- The states of the flows. -/
def State.flowStates (s : State) : Nat → FlowPhase := fun f => (s.flow f).state

theorem serviceView_of_outsideAnswers {s t : State} (h : t.outsideAnswers = s.outsideAnswers) : t.serviceView = s.serviceView := by
  have hview := congrArg State.serviceView h
  exact hview

section
variable (s : State)

theorem fencePoll_serviceView : (fencePoll s).serviceView = s.serviceView := by
  rw [fencePoll_reqs]
  rfl

theorem serviceView_updQue (q : Nat) {f : Que → Que} (hf : ∀ x, (f x).state = x.state) :
    (s.updQue q f).serviceView = s.serviceView := by
  have hstate : (fun k => ((s.updQue q f).que k).state) = fun k => (s.que k).state := by
    funext k
    rw [State.updQue_eq, State.que_setQue]
    split
    · next hk => rw [hf, hk]
    · rfl
  simp only [State.serviceView, hstate]
  rfl

theorem flowStates_updFlow {f : Nat} {g : Flow → Flow} (hg : ∀ x, (g x).state = x.state) :
    (s.updFlow f g).flowStates = s.flowStates := by
  funext k
  rw [State.flowStates, State.flowStates, State.updFlow_eq, State.flow_setFlow]
  split
  · next hk => rw [hg, hk]
  · rfl

/-- A flow's release touches slots, requests and the reads that wait for its bytes. -/
theorem flowDrop_keeps (f : FlowIx) : (flowDrop s f).serviceView = s.serviceView ∧ (flowDrop s f).flowStates = s.flowStates ∧
    (flowDrop s f).cats = s.cats := by
  have hreqs (t : State) (l : List Req) : ({ t with reqs := l } : State).flowStates = t.flowStates := rfl
  refine ⟨?_, ?_, ?_⟩
  · refine (foldl_keeps State.serviceView ?_).trans rfl
    exact fun t q => serviceView_updQue t q fun _ => rfl
  · refine (foldl_keeps State.flowStates ?_).trans ?_
    · exact fun t q => rfl
    · rw [hreqs]
      exact flowStates_updFlow s fun _ => rfl
  · refine (foldl_keeps State.cats ?_).trans rfl
    exact fun t q => rfl

theorem flowReset_keeps (f : Nat) : (flowReset s f).serviceView = s.serviceView ∧ (flowReset s f).cats = s.cats := by
  obtain ⟨hservice, -, hcats⟩ := flowDrop_keeps s (Fin.ofNat 16384 f)
  exact ⟨hservice, hcats⟩

theorem flowReset_state (f g : Nat) : ((flowReset s f).flow g).state = if g = f then .reset else (s.flow g).state := by
  have hstate := congrFun (flowDrop_keeps s (Fin.ofNat 16384 f)).2.1 g
  rw [flowReset, State.updFlow_eq, State.flow_setFlow]
  split
  · rfl
  · exact hstate

theorem flowsReset_reset {l : List Nat} {f : Nat} (hf : f ∈ l) : ((l.foldl flowReset s).flow f).state = .reset := by
  refine foldl_establishes (P := fun t => (t.flow f).state = .reset) hf (fun t => ?_) (fun t g ht => ?_) s
  · rw [flowReset_state, if_pos rfl]
  · rw [flowReset_state, ht, ite_self]

theorem queuesOff_disabled {w q : Nat} (hq : q ∈ s.wingQueues w) : ((queuesOff s w).que q).state = .disabled := by
  refine foldl_establishes (P := fun t => (t.que q).state = .disabled) hq (fun t => ?_) (fun t k ht => ?_) s
  · rw [State.updQue_eq, State.que_setQue_same]
  · rw [State.updQue_eq, State.que_setQue]
    split
    · rfl
    · exact ht

theorem queuesOff_keeps (w : Nat) : (queuesOff s w).wings = s.wings ∧ (queuesOff s w).images = s.images ∧ (queuesOff s w).flows = s.flows :=
  ⟨foldl_keeps State.wings fun _ _ => rfl, foldl_keeps State.images fun _ _ => rfl, foldl_keeps State.flows fun _ _ => rfl⟩

/-! ### The rings (07 R234) -/

theorem ringStop_outsideAnswers (w c : Nat) : (ringStop s w c).outsideAnswers = s.outsideAnswers := by
  simp only [ringStop, ringDisable, recordFinish, catUpd_outsideAnswers]
  split
  · exact catUpd_outsideAnswers ..
  · rfl

theorem ringDiscard_outsideAnswers (w c : Nat) : (ringDiscard s w c).outsideAnswers = s.outsideAnswers := by
  unfold ringDiscard
  split
  · rfl
  · split
    · split
      · rfl
      · exact discardBegin_outsideAnswers ..
    · exact discardBegin_outsideAnswers ..

theorem ringsOff_serviceView (w : Nat) : (ringsOff s w).serviceView = s.serviceView := by
  rw [ringsOff_eq]
  refine serviceView_of_outsideAnswers (foldl_keeps State.outsideAnswers ?_)
  exact fun t c => (ringDiscard_outsideAnswers _ w c).trans (ringStop_outsideAnswers t w c)

end

section
variable {s : State} {j w c : Nat}

theorem catUpd_disabled {f : Cat → Cat} (hf : ∀ x, x.state = .disabled → (f x).state = .disabled) (hj : (s.cat j).state = .disabled) :
    ((catUpd s w c f).cat j).state = .disabled := by
  rw [catUpd, State.updCat_eq, State.cat_setCat]
  split
  · next hk => exact hf _ (hk ▸ hj)
  · exact hj

theorem ringDisable_disabled (hj : (s.cat j).state = .disabled) : ((ringDisable s w c).cat j).state = .disabled :=
  catUpd_disabled (fun _ _ => rfl) hj

theorem ringDisable_disables : ((ringDisable s w c).cat (catKey w c)).state = .disabled := by
  rw [ringDisable, catUpd, State.updCat_eq, State.cat_setCat_same]

theorem ringStop_disables : ((ringStop s w c).cat (catKey w c)).state = .disabled :=
  catUpd_disabled (fun _ h => h) ringDisable_disables

theorem ringStop_disabled (hj : (s.cat j).state = .disabled) : ((ringStop s w c).cat j).state = .disabled := by
  refine catUpd_disabled (fun _ h => h) (ringDisable_disabled ?_)
  split
  · refine catUpd_disabled (fun x hx => ?_) hj
    split
    · exact hx
    · exact hx
  · exact hj

theorem Cat.clearBusy_unstall_state (k : Cat) : k.clearBusy.unstall.state = k.state := by
  unfold Cat.clearBusy
  split
  · rfl
  · rfl

theorem discardBegin_disabled (hj : (s.cat j).state = .disabled) : ((discardBegin s w c).cat j).state = .disabled := by
  have hpoll (t : State) (ht : (t.cat j).state = .disabled) : ((disablePoll t w c).cat j).state = .disabled := by
    unfold disablePoll
    dsimp only
    split
    · exact ringDisable_disabled ht
    · exact ht
  have hdrop (t : State) (code : Byte) (ht : (t.cat j).state = .disabled) : ((commitDrop t w c code).cat j).state = .disabled := by
    unfold commitDrop
    split
    · exact ht
    · rw [runFinish_cat]
      exact catUpd_disabled (fun _ h => h) ht
  have hsend (t : State) (ep : W32) (ht : (t.cat j).state = .disabled) : ((sendDiscard t w c ep).cat j).state = .disabled := by
    unfold sendDiscard
    dsimp only
    split
    · exact ht
    · split
      · exact ht
      · exact catUpd_disabled (fun _ h => h) ht
  have hanswer (t : State) : (discardAnswer t w c).cat j = t.cat j := by
    refine foldl_keeps (fun t : State => t.cat j) fun t x => ?_
    split
    · exact runFinish_cat ..
    · rfl
  simp only [discardBegin, hanswer]
  refine hsend _ _ (hdrop _ _ (hpoll _ (catUpd_disabled (fun x hx => ?_) hj)))
  exact (Cat.clearBusy_unstall_state x).trans hx

theorem ringDiscard_disabled (hj : (s.cat j).state = .disabled) : ((ringDiscard s w c).cat j).state = .disabled := by
  unfold ringDiscard
  split
  · exact hj
  · split
    · split
      · exact catUpd_disabled (fun _ h => h) hj
      · exact discardBegin_disabled hj
    · exact discardBegin_disabled hj

theorem ringsOff_disables (s : State) (w : Nat) (hc : c < 8) : ((ringsOff s w).cat (catKey w c)).state = .disabled := by
  rw [ringsOff_eq]
  refine foldl_establishes (P := fun t => (t.cat (catKey w c)).state = .disabled) (List.mem_range.mpr hc) (fun t => ?_) (fun t k ht => ?_) s
  · exact ringDiscard_disabled ringStop_disables
  · exact ringDiscard_disabled (ringStop_disabled ht)

end

section
variable {s : State} {b : BlockReset} (hlevel : b.level = 0)
include hlevel

/-- After the queues, level 0 leaves the wings, the images and the states of the queues. -/
theorem blockEffects_serviceView :
    (blockEffects s b).serviceView = (queuesOff (wingOff s b.target) b.target).serviceView := by
  rw [blockEffects_wing hlevel, fencePoll_serviceView, foldl_keeps State.serviceView fun t f => (flowReset_keeps t f).1, ringsOff_serviceView]

theorem blockEffects_wing_disabled : ((blockEffects s b).wing b.target).state = .disabled := by
  have hwings := (congrArg Prod.fst (blockEffects_serviceView (s := s) hlevel)).trans (queuesOff_keeps (wingOff s b.target) b.target).1
  have hoff : ((wingOff s b.target).wing b.target).state = .disabled := by
    have himages (u : State) (l : List Image) : ({ u with images := l } : State).wing b.target = u.wing b.target := rfl
    rw [wingOff, himages, State.updWing_eq, State.wing_setWing_same]
  have hwing : (blockEffects s b).wing b.target = (wingOff s b.target).wing b.target := congrArg (Tbl.get Wing.init · b.target) hwings
  rw [hwing, hoff]

theorem blockEffects_queues {q : Nat} (hq : q ∈ s.wingQueues b.target) : ((blockEffects s b).que q).state = .disabled := by
  have hstates := congrArg (fun v => v.2.2 q) (blockEffects_serviceView (s := s) hlevel)
  exact hstates.trans (queuesOff_disabled (wingOff s b.target) hq)

theorem blockEffects_images {i : Image} (hi : i ∈ (blockEffects s b).images) : i.wing.val ≠ b.target := by
  have himages : (blockEffects s b).images = (wingOff s b.target).images :=
    (congrArg (fun v => v.2.1) (blockEffects_serviceView (s := s) hlevel)).trans (queuesOff_keeps (wingOff s b.target) b.target).2.1
  rw [himages] at hi
  simpa using (List.mem_filter.mp hi).2

theorem blockEffects_flows {f : Nat} (hf : f ∈ s.wingFlows b.target) : ((blockEffects s b).flow f).state = .reset := by
  have hflows : (queuesOff (wingOff s b.target) b.target).wingFlows b.target = s.wingFlows b.target := by
    rw [State.wingFlows, (queuesOff_keeps (wingOff s b.target) b.target).2.2]
    rfl
  have hfence (t : State) : (fencePoll t).flow f = t.flow f := by
    rw [fencePoll_reqs]
    rfl
  rw [blockEffects_wing hlevel, hflows, hfence]
  exact flowsReset_reset _ hf

theorem blockEffects_rings {c : Nat} (hc : c < 8) : ((blockEffects s b).cat (catKey b.target c)).state = .disabled := by
  have hfence (t : State) : (fencePoll t).cats = t.cats := by
    rw [fencePoll_reqs]
  have hcats : (blockEffects s b).cats = (ringsOff (queuesOff (wingOff s b.target) b.target) b.target).cats := by
    rw [blockEffects_wing hlevel, hfence, foldl_keeps State.cats fun t f => (flowReset_keeps t f).2]
  have hcat : (blockEffects s b).cat (catKey b.target c) =
      (ringsOff (queuesOff (wingOff s b.target) b.target) b.target).cat (catKey b.target c) :=
    congrArg (Tbl.get Cat.init · (catKey b.target c)) hcats
  rw [hcat]
  exact ringsOff_disables _ b.target hc

end

/-! ### How a block reset ends (R500, R501) -/

section
variable {s : State} {b : BlockReset} {bad : List HcIx} (hidle : blockIdle s b = true)
include hidle

theorem blockFinish_unit (hlevel : b.level ≠ 0) : blockFinish s b bad =
    blockAnswer ((blockRelease (curatorLog (blockEffects (scrubUnits
      ((blockHalves s b.level b.target).foldl (fun s h => s.updHalf h fun x => { x with scrubBad := false }) s)
      ((blockHalves s b.level b.target).map fun h => (ukHalf, h)) none true bad) b)
      (((s.half ((blockHalves s b.level b.target).headD 0)).owner.map (·.val)).getD 0xFF) b.target b.level) b).updRst
        fun r => { r with last := BitVec.ofNat 32 (b.source * 2 ^ 12 + b.level * 2 ^ 8 + b.target) }) b
      (if (blockHalves s b.level b.target).any fun h => bad.any (·.val == h) then rINTERNAL else rOK) := by
  simp only [blockFinish, if_neg hlevel, hidle, List.any_nil, List.isEmpty_nil, Bool.not_true, Bool.false_eq_true, if_false]

theorem blockFinish_wing (hlevel : b.level = 0) (hnone : ∀ r ∈ s.reqs, r.wing.val ≠ b.target) : blockFinish s b bad =
    blockAnswer ((blockRelease (curatorLog (blockEffects (scrubUnits s ((s.wingHalves b.target).map fun h => (ukHalf, h)) none true bad)
      b) b.target b.target 0) b).updRst fun r => { r with last := BitVec.ofNat 32 (b.source * 2 ^ 12 + b.target) }) b
      (if (s.wingHalves b.target).any fun h => bad.any (·.val == h) then rINTERNAL else rOK) := by
  have hmine : (s.reqs.filter fun r => r.wing.val == b.target) = [] :=
    List.filter_eq_nil_iff.mpr fun r hr => by simpa using hnone r hr
  have hhalves : blockHalves s 0 b.target = s.wingHalves b.target := rfl
  simp only [blockFinish, hlevel, hhalves, hmine, hidle, if_true, List.any_nil, List.isEmpty_nil, Bool.not_true, Bool.false_eq_true, if_false,
    Nat.zero_mul, Nat.add_zero]

end

section
variable {s : State} {b : BlockReset}

/-- What still runs on the units is aborted, the first of it by the record that names it (R500). -/
theorem blockTimeout_aborts {r : Req} {rest : List Req} (hlevel : b.level ≠ 0)
    (hruns : (s.reqs.filter fun r => !r.isDone && (r.halves.any fun h => (blockHalves s b.level b.target).contains h.val)) = r :: rest) :
    blockTimeout s b = retireAll (rest.foldl (fun s r => abortStale s r.id) (abortDrained (blockDups s b) r 1)) := by
  have hdups : (blockDups s b).reqs = s.reqs := rfl
  have hhalves : blockHalves (blockDups s b) b.level b.target = blockHalves s b.level b.target := rfl
  simp only [blockTimeout, hdups, hhalves, if_neg hlevel, hruns]

end

/-! ### FLR of a VF (R496) -/

section
variable {s : State} {fn : Fn} (hfn : fn ≠ 0) (halive : s.alive = true) (henabled : s.fnEnabled fn = true)
include hfn halive henabled

theorem flrVf_clears {w : WingIx} (hunlocked : (s.tdi fn).state = .unlocked ∨ (s.tdi fn).state = .error) (hwing : s.fnWing fn = some w)
    (hmap : mapValue s 4 ≠ 0) : flrVf s fn = vfClear (countSource s 4) fn := by
  have hstate : ¬ ((s.tdi fn).state = .locked ∨ (s.tdi fn).state = .run) := by
    rcases hunlocked with h | h
    · simp [h]
    · simp [h]
  simp only [flrVf, if_neg hfn, halive, henabled, Bool.not_true, Bool.false_eq_true, if_false, hwing, if_neg hstate, hmap, false_and]

theorem flrVf_resetsWing {w : WingIx} (hunlocked : (s.tdi fn).state = .unlocked) (hwing : s.fnWing fn = some w)
    (hmap : mapValue s 4 = 0) (hnone : s.rst.blocks = []) : flrVf s fn =
      blockBegin (vfClear (countSource s 4) fn) { fn := fn, hub := 0, level := 0, target := w, source := 4, since := s.now } := by
  have hstate : ¬ ((s.tdi fn).state = .locked ∨ (s.tdi fn).state = .run) := by simp [hunlocked]
  simp only [flrVf, if_neg hfn, halive, henabled, Bool.not_true, Bool.false_eq_true, if_false, hwing, if_neg hstate, hmap, hnone,
    List.any_nil, Bool.not_false, true_and, if_true]

theorem flrVf_unlocks (hlocked : (s.tdi fn).state = .locked ∨ (s.tdi fn).state = .run) (hmap : mapValue s 4 ≠ 0) :
    flrVf s fn = tdiUnlock (vfClear (countSource s 4) fn) fn := by
  simp only [flrVf, if_neg hfn, halive, henabled, Bool.not_true, Bool.false_eq_true, if_false, if_pos hlocked, hmap, false_and]
  split
  · rfl
  · rfl

end

/-! ### The Curator's watchdog (R496, R497) -/

/-- The hubs, and the reset state but for the block resets. -/
def State.hubView (s : State) : Tbl HubSt × Rst := (s.hubs, { s.rst with blocks := [] })

theorem hubView_of_outsideVents {s t : State} (h : t.outsideVents = s.outsideVents) : t.hubView = s.hubView :=
  show t.outsideVents.hubView = s.outsideVents.hubView by rw [h]

section
variable (s : State)

theorem curatorLog_noWing_hubView (target detail : Nat) : (curatorLog s 0xFF target detail).hubView = s.hubView := by
  unfold curatorLog
  split
  · rfl
  · obtain ⟨log, hframe, -⟩ := logPut_noWing s 0xFFFF 2 target detail (sha384 []) (sha384 []) (w := 0xFF) (by decide)
    exact hubView_of_outsideVents (s := { s with log := log }) hframe

theorem substitute_hubView (u : Nat) : (substitute s u).hubView = s.hubView := by
  simp only [substitute]
  split
  · simp [State.hubView, clearLane, docClear]
  · simp [State.hubView, clearMu]

theorem swapIn_hubView (u : Nat) : (swapIn s u).hubView = s.hubView := by
  unfold swapIn
  split
  · rfl
  · exact substitute_hubView s u

theorem autoSubstitute_hubView (u : Nat) : (autoSubstitute s u).hubView = s.hubView := by
  unfold autoSubstitute
  split
  · rw [curatorLog_noWing_hubView, substitute_hubView]
  · rfl

theorem returnUnit_hubView (u : Nat) : (returnUnit s u).hubView = s.hubView := by
  unfold returnUnit
  split
  · dsimp only
    split
    · rfl
    · rfl
  · rfl

theorem afterRequest_hubView (h : Nat) : (afterRequest s h).hubView = s.hubView := by
  refine (foldl_keeps State.hubView fun t u => ?_).trans (foldl_keeps State.hubView returnUnit_hubView)
  split
  · exact swapIn_hubView t u
  · rfl
  · exact autoSubstitute_hubView t u

theorem releaseHeld_hubView (us : List UnitId) : (releaseHeld s us).hubView = s.hubView := by
  simp only [releaseHeld]
  refine (foldl_keeps State.hubView fun t u => ?_).trans (foldl_keeps State.hubView fun t u => ?_)
  · split
    · exact afterRequest_hubView t _
    · rfl
  · split
    · rfl
    · rfl
    · rfl

theorem blockRelease_hubView (b : BlockReset) : (blockRelease s b).hubView = s.hubView := by
  have hrst (t : State) : (t.updRst fun r => { r with blocks := r.blocks.filter (· != b) }).hubView = t.hubView := rfl
  have hwing (t : State) : (if b.level = 0 then t.updWing b.target fun x => { x with stopAdmit := false } else t).hubView = t.hubView := by
    split
    · rfl
    · rfl
  simp only [blockRelease, hrst, hwing]
  refine (foldl_keeps State.hubView fun t h => ?_).trans (foldl_keeps State.hubView fun t h => rfl)
  split
  · exact afterRequest_hubView t h
  · rfl

theorem tableCancel_hubView (id : Nat) : (tableCancel s id).hubView = s.hubView := by
  unfold tableCancel
  split
  · split
    · rfl
    · rfl
  · rfl

/-- A command that is lost gives back what it held, and no more of the hubs and the reset state than a block reset. -/
theorem undoRun_hubView (fn : Fn) (hub : Hub) (r : Run) : (undoRun s fn hub r).hubView = s.hubView := by
  unfold undoRun
  split
  · exact releaseHeld_hubView ..
  · exact (tableCancel_hubView ..).trans rfl
  · rfl
  · rfl
  · rfl
  · split
    · exact blockRelease_hubView ..
    · rfl
  · split
    · exact blockRelease_hubView ..
    · rfl
  · rfl

theorem curatorMem_hubView (x : CuratorStop) : (curatorMem s x).hubView = s.hubView := by
  unfold curatorMem
  split
  · exact (hubView_of_outsideVents (logEvent_outsideVents ..)).trans rfl
  · unfold sramSaw
    split
    · rfl
    · rfl

end

/-- The commands that a hub ran are lost. -/
def runsLost (s : State) (h : Hub) : State :=
  (s.mbx.filterMap fun (e : Nat × Mbx) =>
    if e.1 % 2 = h.val then e.2.run.map fun r => (Fin.ofNat 256 (e.1 / 2), r) else none).foldl (fun s x =>
      (if x.2.op = 0x0101 then { s with moves := s.moves ++ [{ fn := x.1, payload := x.2.payload }] }
        else undoRun s x.1 h x.2).updMbox (mbxKey x.1 h) fun m => { m with run := none }) s

theorem runsLost_hubView (s : State) (h : Hub) : (runsLost s h).hubView = s.hubView := by
  refine foldl_keeps State.hubView fun t x => ?_
  have hmbox (u : State) (k : Nat) (f : Mbx → Mbx) : (u.updMbox k f).hubView = u.hubView := rfl
  rw [hmbox]
  split
  · rfl
  · exact undoRun_hubView ..

theorem curatorRestart_boots {s : State} (h : Hub) (halive : s.alive = true) (hmap : mapValue s 6 = 6) : curatorRestart s h =
    countSource ((runsLost s h).updHub h fun x => { HubSt.init with mains := x.mains }) 6 := by
  have hrst : (runsLost s h).rst.map = s.rst.map := congrArg (fun v : Tbl HubSt × Rst => v.2.map) (runsLost_hubView s h)
  have hupd (t : State) (f : HubSt → HubSt) : mapValue (t.updHub h f) 6 = mapValue t 6 := rfl
  have hmapped : mapValue ((runsLost s h).updHub h fun x => { HubSt.init with mains := x.mains }) 6 = 6 := by
    rw [hupd, mapValue_congr (congrArg (Tbl.get RstMap.init · 6) hrst), hmap]
  have hassert := assertSource_mapped (asked := 7) hmapped (by decide)
  rw [performLevel_none (by decide)] at hassert
  simp only [curatorRestart, halive, Bool.not_true, Bool.false_eq_true, if_false]
  exact hassert

/-- The hub of the watchdog boots, the other is as it was, and the source is counted. -/
theorem curatorRestart_keeps {s : State} (h : Hub) (halive : s.alive = true) (hmap : mapValue s 6 = 6) :
    (curatorRestart s h).hub h = { HubSt.init with mains := (s.hub h).mains } ∧
    (∀ k, k ≠ h.val → (curatorRestart s h).hub k = s.hub k) ∧
    Tbl.get 0 (curatorRestart s h).rst.count 6 = satInc (Tbl.get 0 s.rst.count 6) := by
  have hhub (k : Nat) : (runsLost s h).hub k = s.hub k := congrArg (Tbl.get HubSt.init · k) (congrArg Prod.fst (runsLost_hubView s h))
  have hcount : (runsLost s h).rst.count = s.rst.count := congrArg (fun v : Tbl HubSt × Rst => v.2.count) (runsLost_hubView s h)
  have hsource (t : State) (k : Nat) : (countSource t 6).hub k = t.hub k := rfl
  have hown (t : State) : (countSource t 6).rst.count = Tbl.set 0#32 t.rst.count 6 (satInc (Tbl.get 0#32 t.rst.count 6)) := rfl
  rw [curatorRestart_boots h halive hmap]
  refine ⟨?_, fun k hk => ?_, ?_⟩
  · rw [hsource, State.updHub_eq, State.hub_setHub_same, hhub]
  · rw [hsource, State.updHub_eq, State.hub_setHub, if_neg hk, hhub]
  · rw [hown, State.updHub_eq, State.setHub_rst, hcount]
    exact Tbl.get_set_same ..

theorem curatorWdog_boots {s : State} (x : CuratorStop) (halive : s.alive = true) (hmap : mapValue s 6 = 6) :
    (curatorWdog s x).hub x.hub = { HubSt.init with mains := (s.hub x.hub).mains } ∧
    (∀ k, k ≠ x.hub.val → (curatorWdog s x).hub k = s.hub k) ∧
    Tbl.get 0 (curatorWdog s x).rst.count 6 = satInc (Tbl.get 0 s.rst.count 6) := by
  have hview := curatorMem_hubView s x
  have hhub (k : Nat) : (curatorMem s x).hub k = s.hub k := congrArg (Tbl.get HubSt.init · k) (congrArg Prod.fst hview)
  have hcount : (curatorMem s x).rst.count = s.rst.count := congrArg (fun v : Tbl HubSt × Rst => v.2.count) hview
  have halive' : (curatorMem s x).alive = s.alive :=
    congrArg (fun v : Tbl HubSt × Rst => v.2.pwrOk && v.2.level.isNone && !v.2.railLatch) hview
  have hmap' : mapValue (curatorMem s x) 6 = mapValue s 6 :=
    mapValue_congr (congrArg (Tbl.get RstMap.init · 6) (congrArg (fun v : Tbl HubSt × Rst => v.2.map) hview))
  obtain ⟨hboots, hother, hcounted⟩ := curatorRestart_keeps x.hub (halive'.trans halive) (hmap'.trans hmap)
  have hwdog : curatorWdog s x = curatorRestart (curatorMem s x) x.hub := by rw [curatorWdog, if_pos halive]
  rw [hwdog]
  exact ⟨hboots.trans (by rw [hhub]), fun k hk => (hother k hk).trans (hhub k), hcounted.trans (by rw [hcount])⟩

end Sys2Proof.Machine

/-- Settles O49: the commands past their checks, each step of a block reset by its lemma, FLR of a VF and the watchdog by cases. -/
theorem blockResetsStopScrubAndAnswer : Obligations.BlockResetsStopScrubAndAnswer := by
  unfold Obligations.BlockResetsStopScrubAndAnswer
  refine ⟨?_, ?_, ?_, ?_, ?_, ?_, ?_, ?_, ?_, ?_, ?_, ?_⟩
  · rintro fn hub tag wing p c s rfl ha hwing hheld hblocks hlong
    exact scpExec_pend ha (wingReset_begins hwing hheld hblocks hlong)
  · rintro fn hub tag wing p c s rfl ha hw hz htarget hheld hlong
    exact scpExecThen_pend ha (resetRequest_begins hw hz hlong htarget hheld)
  · rintro fn hub tag wing p c s rfl ha hw hz htarget hlevel hlong
    refine (scpExecThen_ok ha (resetRequest_answers hw hz hlong htarget hlevel)).trans ?_
    exact congrArg Host.Outcome.next (if_pos (by simp only [sentCmd]; omega))
  · exact fun s b => ⟨fun h hh => blockBegin_holds hh, blockBegin_stops, blockBegin_lists⟩
  · intro fn hub bad b s hblock hidle hlevel _ _
    show Host.Outcome.next _ = _
    simp only [hblock]
    exact congrArg Host.Outcome.next (blockFinish_unit hidle (by omega))
  · intro fn hub bad b s hblock hidle hlevel hnone
    show Host.Outcome.next _ = _
    simp only [hblock]
    exact congrArg Host.Outcome.next (blockFinish_wing hidle hlevel hnone)
  · exact fun s b hlevel _ => ⟨blockEffects_wing_disabled hlevel, fun q hq => blockEffects_queues hlevel hq,
      fun i hi => blockEffects_images hlevel hi, fun f hf _ => blockEffects_flows hlevel hf, fun c hc => blockEffects_rings hlevel hc⟩
  · intro fn hub b s r rest hblock hlevel hruns
    show Host.Outcome.next _ = _
    simp only [hblock]
    exact congrArg Host.Outcome.next (blockTimeout_aborts hlevel hruns)
  · intro fn w s hfn halive henabled hunlocked hwing hmap
    exact congrArg Host.Outcome.next (flrVf_clears hfn halive henabled hunlocked hwing (by omega))
  · intro fn w s hfn halive henabled hunlocked hwing hmap hnone
    exact congrArg Host.Outcome.next (flrVf_resetsWing hfn halive henabled hunlocked hwing hmap hnone)
  · intro fn s hfn halive henabled hlocked hmap
    exact congrArg Host.Outcome.next (flrVf_unlocks hfn halive henabled hlocked (by omega))
  · intro x s halive hmap
    obtain ⟨hboots, hother, hcount⟩ := curatorWdog_boots x halive hmap
    exact ⟨curatorWdog s x, rfl, by rw [hboots]; rfl, by rw [hboots]; rfl, by rw [hboots], hother, hcount⟩

end
